-- ==== Sys2Proof/Word.lean ====
section
/-! DEFINITION. The word and byte types of the H1024's registers and memories. -/
namespace Sys2Proof

/-- A BAR0 register word, 32 bits (R11). -/
abbrev Word := BitVec 32

/-- One byte of a memory. -/
abbrev Byte := BitVec 8

end Sys2Proof
end

