-- ==== Sys2Proof/Machine/Bits.lean ====
section
/-! DEFINITION. Bit-field, sign-extension and byte-order helpers, and the durations of the device's rules
as counts of 1/64 ns, the least step of any reported time (R16, R43). -/
namespace Sys2Proof.Machine

/-- Bits `lo` to `lo + len - 1` of `w`. -/
def bitsAt (w lo len : Nat) : Nat := w / 2 ^ lo % 2 ^ len

/-- `w` with bits `lo` to `lo + len - 1` replaced by the low bits of `v`. -/
def putBits (w lo len v : Nat) : Nat :=
  w / 2 ^ (lo + len) * 2 ^ (lo + len) + v % 2 ^ len * 2 ^ lo + w % 2 ^ lo

/-- Bit `i` of `w`. -/
def bitAt (w i : Nat) : Bool := w / 2 ^ i % 2 == 1

/-- `w` with bit `i` set to `b`. -/
def putBit (w i : Nat) (b : Bool) : Nat := putBits w i 1 (if b then 1 else 0)

/-- A flag as a field value. -/
def b2n (b : Bool) : Nat := if b then 1 else 0

/-- The two's complement value of the low `w` bits of `v`. -/
def toSigned (w v : Nat) : Int :=
  let x := v % 2 ^ w
  if x < 2 ^ (w - 1) then (x : Int) else (x : Int) - (2 ^ w : Nat)

/-- The low `w` bits of the two's complement form of `v`. -/
def ofSigned (w : Nat) (v : Int) : Nat := (v % (2 ^ w : Nat)).toNat

/-- `v` held to the range of `w`-bit two's complement numbers. -/
def satSigned (w : Nat) (v : Int) : Int :=
  let hi : Int := (2 ^ (w - 1) : Nat) - 1
  let lo : Int := -(2 ^ (w - 1) : Nat)
  if v > hi then hi else if v < lo then lo else v

/-- `v` held at `hi`. -/
def satTo (hi v : Nat) : Nat := if v > hi then hi else v

/-- The distance of two instants. -/
def absDiff (a b : Nat) : Nat := if a < b then b - a else a - b

/-- The magnitude of a signed value. -/
def mag (v : Int) : Nat := v.natAbs

/-- A number of nanoseconds as a count of 1/64 ns. -/
def ns (x : Nat) : Nat := 64 * x

/-- A number of microseconds as a count of 1/64 ns. -/
def us (x : Nat) : Nat := 64000 * x

/-- A number of milliseconds as a count of 1/64 ns. -/
def ms (x : Nat) : Nat := 64000000 * x

/-- The bytes of `v`, `n` of them, the least significant first. -/
def toBytes : Nat → Nat → List Byte
  | 0, _ => []
  | n + 1, v => BitVec.ofNat 8 v :: toBytes n (v / 256)

/-- The number a list of bytes spells, the least significant first. -/
def ofBytes : List Byte → Nat
  | [] => 0
  | b :: bs => b.toNat + 256 * ofBytes bs

/-- The first `n` natural numbers from `k` on. -/
def upFrom (k : Nat) : Nat → List Nat
  | 0 => []
  | n + 1 => k :: upFrom (k + 1) n

/-- The positions below `n` at which `w` has a 1. -/
def onesOf (w n : Nat) : List Nat := (upFrom 0 n).filter (bitAt w)

/-- How many of the low `n` bits of `w` are 1. -/
def popCount (w n : Nat) : Nat := (onesOf w n).length

/-- A list with its element at `i` replaced. -/
def setAt {α : Type} (l : List α) (i : Nat) (a : α) : List α := l.set i a

end Sys2Proof.Machine
end

