-- ==== Sys2Proof/Command.lean ====
section
/-! DEFINITION. The operand types of the commands: who sends an access, the measured facts an event of the outside
world brings with it, and the operand fields of the engine's instruction formats. -/
namespace Sys2Proof.Machine

/-- A bit of a modulator's stream at MODINi: its level and, for a modulator with its own clock, the strobe instant of its
mid-bit transition (R217). -/
structure RxBit where
  one : Bool
  at_ : Nat
  deriving DecidableEq, Repr

/-- Who sends a register access or memory access (R36, R273, R275, R297): PCIe function 0 (PF0) to 16, the command
queue of a function, the tether master, the engine of a logical gondola, the JTAG path, or a mover. -/
inductive Src where
  | fn (f : Nat)
  | cmdq (f : Nat)
  | tether
  | eng (g : Nat)
  | jtag
  | mover (m : Nat)
  deriving DecidableEq, Repr

/-- What the ECC shows at an access (R39): nothing, a finding in its first word, or findings in several of its 64-bit
words, numbered from its first one: those with a correctable and those with an uncorrectable error. -/
inductive Ecc where
  | clean | correctable | uncorrectable
  | words (ce ue : List Nat)
  deriving DecidableEq, Repr

/-- The words of the access with a correctable error. -/
def Ecc.ce : Ecc → List Nat
  | .correctable => [0]
  | .words ce _ => ce
  | _ => []

/-- The words of the access with an uncorrectable error. -/
def Ecc.ue : Ecc → List Nat
  | .uncorrectable => [0]
  | .words _ ue => ue
  | _ => []

/-- What an access that begins at byte `b` sees of the findings given for one at byte `a`. -/
def Ecc.shift (e : Ecc) (a b : Nat) : Ecc :=
  let f (l : List Nat) : List Nat := (l.filter (fun i => decide (b / 8 ≤ a / 8 + i))).map (fun i => a / 8 + i - b / 8)
  .words (f e.ce) (f e.ue)

/-- The findings of an access at byte `a` without those of the words `ws`. -/
def Ecc.without (e : Ecc) (a : Nat) (ws : List Nat) : Ecc :=
  let f (l : List Nat) : List Nat := l.filter (fun i => !ws.contains (a / 8 + i))
  .words (f e.ce) (f e.ue)

/-- The finding in the first word. -/
def Ecc.first (e : Ecc) : Ecc := if e.ue.contains 0 then .uncorrectable else if e.ce.contains 0 then .correctable else .clean

/-- A reader whose replica mismatches the beacon (R29): its port ID, its local index within the agent and the
mismatch in 15.625 ps units. -/
structure Mismatch where
  port : Nat
  idx : Nat
  units : Nat
  deriving DecidableEq, Repr

/-- How a completion of a host read ends (R283): data, UR or CA, poisoned. -/
inductive Cpl where
  | ok | error | poisoned
  deriving DecidableEq, Repr

/-- A field of a function's capabilities in its configuration space (R269, R270, R290, R409): the header of a capability, by its
number; what the PCI Express capability reports and sets (max payload, max read request, completion timeout, link); the power
state; MSI-X; SR-IOV; the serial number. -/
inductive CfgField where
  | capability (ext : Bool) (n : Nat)
  | payloadMax | payload | readRequest | timeoutRanges | timeout | tag10 | linkSpeed | linkWidth
  | power
  | msixSize | msixTable | msixPba
  | vfEnable | totalVfs | vfDevice | vfBar (i : Nat)
  | serialLo | serialHi
  deriving DecidableEq, Repr

/-- What a request latched by an arbiter asks for (R23, R36 to R38, R71, R277, R81): an access to shared SRAM, or of an
engine to its local memory, an atomic operation, a register access, or an event under way to a task input. -/
inductive ReqOp where
  | read (addr len : Nat)
  | write (addr : Nat) (data : List Byte)
  | swap (addr len val : Nat)
  | cas (addr len cmp val : Nat)
  | add (addr len val : Nat)
  | and (addr len val : Nat)
  | or (addr len val : Nat)
  | reg (off : Nat) (val : Word)
  | regRead (off : Nat)
  | arrival (g slot inp : Nat)
  deriving DecidableEq, Repr

/-- A request at an arbiter's input: who sent it, its arrival in ps after the first one of the round, what it asks for,
and what the ECC of a bank shows at it. -/
structure Req where
  src : Src
  arrive : Nat
  op : ReqOp
  err : Ecc
  deriving DecidableEq, Repr

/-- A spool record (R265, R266): the sender's device and spool, τ in ns of TB0, the angle with a 16-bit fraction, the
rate in micro-ticks per µs as 16.16, the state, SPREV, LOSSES, TEETH and MTPT. -/
structure SpRec where
  dev : Nat
  spool : Nat
  tau : Nat
  angle : Nat
  rate : Nat
  state : Nat
  rev : Nat
  losses : Nat
  teeth : Nat
  mtpt : Nat
  deriving DecidableEq, Repr

/-! ### What comes over the tether (chapter 12) -/

/-- A link of the cascade: the indices of its two devices and its cable delay in ns (R301). -/
structure TLink where
  a : Nat
  b : Nat
  ns : Nat
  deriving DecidableEq, Repr

/-- A candidate for master (R315): whether it has released, whether it is appointed, PRIO and serial number. -/
structure Cand where
  ever : Bool
  appointed : Bool
  prio : Nat
  serial : Nat
  deriving DecidableEq, Repr

/-- A control block as received (R299, R308, R311, R312, R315): whether its tag verifies, its cycle, the partner's
timestamp of this end's marker with that marker's cycle, the best candidate the partner knows with its hops to it,
whether the partner is admitted with its index, the serial number and index of its master and whether that master has
released, the link map and the map of admitted devices. -/
structure CtlBlk where
  tag : Bool
  cyc : Nat
  back : Option (Nat × Nat)
  cand : Option Cand
  hops : Nat
  adm : Bool
  pidx : Nat
  mser : Nat
  midx : Nat
  mever : Bool
  links : List TLink
  devs : Nat
  deriving DecidableEq, Repr

/-- An item of a data slot (R299, R318 to R320): a spool record; a cascade start with T and RESTART, and its outcome (0
accepted, 1 LATE, 2 REFUSED); an event forwarded to IMPORTx; a subscription of an event by IMPORTx, and the answer to it; a
remote register command and its response (0 OK, 3 DROPPED), each with its sequence number. -/
inductive TItem where
  | spool (r : SpRec)
  | cgStart (at_ : Nat) (restart : Bool)
  | cgReport (res : Nat)
  | event (x seq id ts detail : Nat) (tq coinc : Bool)
  | sub (x id : Nat) (en : Bool)
  | subAck (x : Nat) (act : Bool)
  | cmd (seq : Nat) (wr : Bool) (off val : Nat)
  | resp (seq res val : Nat)
  deriving DecidableEq, Repr

/-- An item with its source device, its destination (32: every device) and its item sequence at the source (R301). -/
structure TMsg where
  src : Nat
  dst : Nat
  seq : Nat
  item : TItem
  deriving DecidableEq, Repr

/-- A data slot as received: read, with a tag that fails, or in an uncorrectable codeword (R311, R313). -/
inductive Slot where
  | read | tagFail | fec
  deriving DecidableEq, Repr

/-- An identity or key-agreement message as received (R310): the certificate's bytes, and the signature of the ephemeral
key under it. -/
structure AuthMsg where
  cert : List Nat
  eph : List Nat
  r : Nat
  s : Nat
  deriving DecidableEq, Repr

/-- A capability message as received (R307): TCAP, the serial number, whether the partner is admitted and its index, and its
master's serial number and index and whether that one has released. -/
structure CapMsg where
  cap : Nat
  serial : Nat
  adm : Bool
  idx : Nat
  mser : Nat
  midx : Nat
  mever : Bool
  deriving DecidableEq, Repr

/-! ### The operand fields of the engine's instruction formats (R82)

Each field holds the bits the format gives it; `res` is the field marked —. -/

/-- Format R: RD, RA, RB, S, the reserved field. -/
structure FmtR where
  rd : Nat
  ra : Nat
  rb : Nat
  s : Bool
  res : Nat
  deriving DecidableEq, Repr

/-- Format I: RD, RA, IMM18. -/
structure FmtI where
  rd : Nat
  ra : Nat
  imm : Nat
  deriving DecidableEq, Repr

/-- Format U: RD, the reserved field, IMM16. -/
structure FmtU where
  rd : Nat
  res : Nat
  imm : Nat
  deriving DecidableEq, Repr

/-- Format M: RD, RA, the reserved field, OFF16. -/
structure FmtM where
  rd : Nat
  ra : Nat
  res : Nat
  off : Nat
  deriving DecidableEq, Repr

/-- Format S: RD, SREG, the reserved field. -/
structure FmtS where
  rd : Nat
  sreg : Nat
  res : Nat
  deriving DecidableEq, Repr

/-- Format V: RD, IN, the reserved field. -/
structure FmtV where
  rd : Nat
  inp : Nat
  res : Nat
  deriving DecidableEq, Repr

/-- Format T: RD, TB, the reserved field. -/
structure FmtT where
  rd : Nat
  tb : Nat
  res : Nat
  deriving DecidableEq, Repr

/-- Format P: RD, RA, IND, CH, the reserved field, PREG. -/
structure FmtP where
  rd : Nat
  ra : Nat
  ind : Bool
  ch : Nat
  res : Nat
  preg : Nat
  deriving DecidableEq, Repr

/-- Format E: RD, RA, IND, CH, LVL, PR, the reserved field. -/
structure FmtE where
  rd : Nat
  ra : Nat
  ind : Bool
  ch : Nat
  lvl : Nat
  pr : Nat
  res : Nat
  deriving DecidableEq, Repr

/-- Format B: COND or RA, OFF22. -/
structure FmtB where
  c : Nat
  off : Nat
  deriving DecidableEq, Repr

/-- Format L: RS, RA, ICNT, LEN. -/
structure FmtL where
  rs : Bool
  ra : Nat
  icnt : Nat
  len : Nat
  deriving DecidableEq, Repr

/-- Format X: the reserved field, CODE16. -/
structure FmtX where
  res : Nat
  code : Nat
  deriving DecidableEq, Repr

end Sys2Proof.Machine
end

