-- ==== Sys2Proof/Syntax.lean ====
section
/-! DEFINITION. The commands of the block: one constructor for each row of spec/opcode_table.json. The first operand
`t` of each is the instant the command comes, in 1/64 ns of spine strobe time (R43, R45). -/
namespace Sys2Proof
open Machine

/-- A command: an operation, a register access, an instruction of an engine, or an event. -/
inductive Instr where
  /-- REGISTER_WRITE (R11). A BAR0 write to a register that has no step of its own is checked against the bridle and applied, or dropped. -/
  | registerWrite (t : Nat) (src : Src) (off len : Nat) (val : Word)
  /-- READ_CLEAR_ACCESS (R10). A read of an RC register or field returns its value and clears it in the same access. -/
  | readClearAccess (t : Nat) (src : Src) (off len : Nat)
  /-- HANDSHAKE_WATCHDOG_EXPIRY (R19). A mesh handshake phase stays incomplete for 10 µs on TB17, and the port is isolated. -/
  | handshakeWatchdogExpiry (t port : Nat)
  /-- MESHISO_READMIT (R22). Writing 1 to a MESHISO bit of a non-gondola port starts its 64-transfer handshake self-test. -/
  | meshisoReadmit (t : Nat) (src : Src) (i : Nat) (val : Word)
  /-- READMIT_SELFTEST_DONE (R22). The handshake self-test completes and the port is readmitted, or stays isolated with a new EV_MESH_STALL. -/
  | readmitSelftestDone (t port : Nat) (ok : Bool)
  /-- GRANT_ROUND_OPEN (R23). A free arbiter with pending requests latches up to one request per input and serves them in arrival order, setting COINC on close arrivals. -/
  | grantRoundOpen (t : Nat) (reqs : List Req)
  /-- SRAM_READ (R36). A shared SRAM bank serves a read of 1 to 64 bytes, applying ECC correction or poisoning. -/
  | sramRead (t : Nat) (src : Src) (addr len : Nat) (err : Ecc)
  /-- SRAM_WRITE (R37). A shared SRAM bank serves a write, as a read-modify-write when it is shorter than 8 bytes. -/
  | sramWrite (t : Nat) (src : Src) (addr : Nat) (data : List Byte) (err : Ecc)
  /-- SRAM_ATOMIC_SWAP (R38). A bank performs an indivisible swap on an aligned 4- or 8-byte word. -/
  | sramAtomicSwap (t : Nat) (src : Src) (addr len val : Nat) (err : Ecc)
  /-- SRAM_ATOMIC_CAS (R38). A bank performs an indivisible compare-and-swap on an aligned word. -/
  | sramAtomicCas (t : Nat) (src : Src) (addr len cmp val : Nat) (err : Ecc)
  /-- SRAM_ATOMIC_ADD (R38). A bank performs an indivisible add on an aligned word. -/
  | sramAtomicAdd (t : Nat) (src : Src) (addr len val : Nat) (err : Ecc)
  /-- SRAM_ATOMIC_AND (R38). A bank performs an indivisible AND on an aligned word. -/
  | sramAtomicAnd (t : Nat) (src : Src) (addr len val : Nat) (err : Ecc)
  /-- SRAM_ATOMIC_OR (R38). A bank performs an indivisible OR on an aligned word. -/
  | sramAtomicOr (t : Nat) (src : Src) (addr len val : Nat) (err : Ecc)
  /-- SPINE_BEACON (R46). At each TB17 multiple of 1,000 ns the beacon checks every replica and applies pending timebase changes, loads and slew steps. -/
  | spineBeacon (t : Nat) (bad : List Mismatch)
  /-- NS_LO_READ (R47). A read of NS_LO returns the low count word and latches FRAC of the same instant. -/
  | nsLoRead (t : Nat) (src : Src) (k : Nat)
  /-- TB_LOADGO (R50). A LOADGO write requests a load of the held load value, with LOADFORCE, at the next beacon, replacing any waiting load. -/
  | tbLoadgo (t : Nat) (src : Src) (k : Nat) (val : Word)
  /-- TB_SLEWABORT (R52). A SLEWABORT write discards the remaining slew at the next beacon. -/
  | tbSlewabort (t : Nat) (src : Src) (k : Nat) (val : Word)
  /-- TB_SLEWOFF_WRITE (R52). A SLEWOFF write adds its offset to SLEWREM, and the slew runs from the next beacon. -/
  | tbSlewoffWrite (t : Nat) (src : Src) (k : Nat) (val : Word)
  /-- DISCCTL_SRC_WRITE (R55). A write of DISCCTL.SRC selects the discipline source, and a 0 returns the loop to FREE. -/
  | discctlSrcWrite (t : Nat) (src : Src) (val : Word)
  /-- PPS_PULSE (R55). A PPSIN pulse is timed and qualifies, corrects or moves the discipline loop between states. -/
  | ppsPulse (t : Nat)
  /-- PPS_TIMEOUT (R55). No PPS pulse within 1.5 s of the last moves a LOCKED loop to HOLDOVER. -/
  | ppsTimeout (t : Nat)
  /-- REFIN_QUALIFIED (R55). 1,000 consecutive REFIN edges within tolerance qualify the reference. -/
  | refinQualified (t : Nat) (ppb : Int)
  /-- REFIN_LOCK_ACHIEVED (R55). A REFIN frequency error within 0.05 ppm for 1 s moves ACQUIRE to LOCKED. -/
  | refinLockAchieved (t : Nat)
  /-- REFIN_LOSS (R55). No REFIN edge for 4 nominal periods moves the loop to HOLDOVER or FREE. -/
  | refinLoss (t : Nat)
  /-- PPSOUT_PULSE (R55). At each whole second of TB0, PPSOUT gives a 100 ns pulse while enabled. -/
  | ppsoutPulse (t : Nat)
  /-- GSTART_GO (R59). A GO write latches mask, RESTART and instant, fixes the release instant T and sets PEND, or is refused while PEND is set. -/
  | gstartGo (t : Nat) (src : Src) (val : Word)
  /-- GSTART_RELEASE (R59). At T the selected channels start, GSTARTTS is written, PEND clears and EVER sets. -/
  | gstartRelease (t : Nat)
  /-- EDGE_FIRE (R53). A pending edge fires when the channel's replica of its timebase reaches its time. -/
  | edgeFire (t n : Nat)
  /-- CAL_RUN_DONE (R62). A calibrating delay line completes a 40 µs calibration run. -/
  | calRunDone (t n : Nat)
  /-- DL_SWAP (R62). A due swap takes place at the first strobe where the live line is empty and the other line is calibrated. -/
  | dlSwap (t n : Nat)
  /-- DLCTL_SWAPNOW (R65). A SWAPNOW write makes a swap due at once. -/
  | dlctlSwapnow (t : Nat) (src : Src) (n : Nat) (val : Word)
  /-- DLCTL_ETB_APPLY (R65). A held edge-timebase write takes effect once no edge is pending. -/
  | dlctlEtbApply (t n : Nat)
  /-- CAL_AGED (R63). CALAGE first reaching 5,001 µs sets AGED and raises EV_CAL_AGED once. -/
  | calAged (t n : Nat)
  /-- ADD (R84). Adds two registers. -/
  | addR (t g : Nat) (f : FmtR)
  /-- SUB (R84). Subtracts two registers. -/
  | subR (t g : Nat) (f : FmtR)
  /-- ADDT (R84). Adds two registers and raises OVF on signed overflow. -/
  | addt (t g : Nat) (f : FmtR)
  /-- SUBT (R84). Subtracts two registers and raises OVF on signed overflow. -/
  | subt (t g : Nat) (f : FmtR)
  /-- AND (R84). Bitwise AND of two registers. -/
  | andR (t g : Nat) (f : FmtR)
  /-- OR (R84). Bitwise OR of two registers. -/
  | orR (t g : Nat) (f : FmtR)
  /-- XOR (R84). Bitwise XOR of two registers. -/
  | xorR (t g : Nat) (f : FmtR)
  /-- ANDN (R84). AND of a register with the complement of another. -/
  | andn (t g : Nat) (f : FmtR)
  /-- SHL (R84). Logical left shift by a register amount. -/
  | shl (t g : Nat) (f : FmtR)
  /-- SHR (R84). Logical right shift by a register amount. -/
  | shr (t g : Nat) (f : FmtR)
  /-- SAR (R84). Arithmetic right shift by a register amount. -/
  | sar (t g : Nat) (f : FmtR)
  /-- ROR (R84). Rotate right by a register amount. -/
  | ror (t g : Nat) (f : FmtR)
  /-- CMP (R84). Sets flags from the difference of two registers. -/
  | cmp (t g : Nat) (f : FmtR)
  /-- TST (R84). Sets flags from the AND of two registers. -/
  | tst (t g : Nat) (f : FmtR)
  /-- MIN (R84). Signed minimum of two registers. -/
  | minR (t g : Nat) (f : FmtR)
  /-- MAX (R84). Signed maximum of two registers. -/
  | maxR (t g : Nat) (f : FmtR)
  /-- MOV (R84). Copies a register. -/
  | movR (t g : Nat) (f : FmtR)
  /-- CLZ (R84). Counts leading zeros of a register. -/
  | clz (t g : Nat) (f : FmtR)
  /-- ABS (R84). Absolute value of a register. -/
  | absR (t g : Nat) (f : FmtR)
  /-- NEG (R84). Negates a register. -/
  | negR (t g : Nat) (f : FmtR)
  /-- MUL (R84). Low 32 bits of a product. -/
  | mul (t g : Nat) (f : FmtR)
  /-- MULH (R84). High 32 bits of a signed product. -/
  | mulh (t g : Nat) (f : FmtR)
  /-- MULHU (R84). High 32 bits of an unsigned product. -/
  | mulhu (t g : Nat) (f : FmtR)
  /-- MULT (R84). Low 32 bits of a product, raising OVF when it leaves the signed range. -/
  | mult (t g : Nat) (f : FmtR)
  /-- DIV (R84). Signed division, raising DVZ for a zero divisor. -/
  | div (t g : Nat) (f : FmtR)
  /-- DIVU (R84). Unsigned division, raising DVZ for a zero divisor. -/
  | divu (t g : Nat) (f : FmtR)
  /-- REM (R84). Signed remainder, raising DVZ for a zero divisor. -/
  | rem (t g : Nat) (f : FmtR)
  /-- REMU (R84). Unsigned remainder, raising DVZ for a zero divisor. -/
  | remu (t g : Nat) (f : FmtR)
  /-- ADDI (R84). Adds a sign-extended immediate. -/
  | addi (t g : Nat) (f : FmtI)
  /-- ANDI (R84). AND with a zero-extended immediate. -/
  | andi (t g : Nat) (f : FmtI)
  /-- ORI (R84). OR with a zero-extended immediate. -/
  | ori (t g : Nat) (f : FmtI)
  /-- XORI (R84). XOR with a zero-extended immediate. -/
  | xori (t g : Nat) (f : FmtI)
  /-- SHLI (R84). Logical left shift by an immediate. -/
  | shli (t g : Nat) (f : FmtI)
  /-- SHRI (R84). Logical right shift by an immediate. -/
  | shri (t g : Nat) (f : FmtI)
  /-- SARI (R84). Arithmetic right shift by an immediate. -/
  | sari (t g : Nat) (f : FmtI)
  /-- CMPI (R84). Sets flags from a register minus an immediate. -/
  | cmpi (t g : Nat) (f : FmtI)
  /-- MOVL (R84). Loads a zero-extended 16-bit immediate. -/
  | movl (t g : Nat) (f : FmtU)
  /-- MOVH (R84). Sets the upper half of a register to an immediate. -/
  | movh (t g : Nat) (f : FmtU)
  /-- ADDP (R84). 64-bit add of two register pairs. -/
  | addp (t g : Nat) (f : FmtR)
  /-- SUBP (R84). 64-bit subtract of two register pairs. -/
  | subp (t g : Nat) (f : FmtR)
  /-- CMPP (R84). Sets flags from a 64-bit pair difference. -/
  | cmpp (t g : Nat) (f : FmtR)
  /-- MOVP (R84). Copies a register pair. -/
  | movp (t g : Nat) (f : FmtR)
  /-- ADDPW (R84). Adds a sign-extended word to a register pair. -/
  | addpw (t g : Nat) (f : FmtR)
  /-- MAC (R90). Adds an aligned product to an accumulator with saturation. -/
  | mac (t g : Nat) (f : FmtR)
  /-- MSU (R90). Subtracts an aligned product from an accumulator with saturation. -/
  | msu (t g : Nat) (f : FmtR)
  /-- MPY (R90). Loads an accumulator with an aligned product. -/
  | mpy (t g : Nat) (f : FmtR)
  /-- MCLR (R84). Clears an accumulator. -/
  | mclr (t g : Nat) (f : FmtR)
  /-- MRD (R90). Reads an accumulator saturated to 32 bits. -/
  | mrd (t g : Nat) (f : FmtR)
  /-- MLD (R84). Loads an accumulator from a register pair. -/
  | mld (t g : Nat) (f : FmtR)
  /-- MST (R84). Stores an accumulator sign-extended into a register pair. -/
  | mst (t g : Nat) (f : FmtR)
  /-- LDB (R84). Loads a sign-extended byte. -/
  | ldb (t g : Nat) (f : FmtM) (err : Ecc)
  /-- LDBU (R84). Loads a zero-extended byte. -/
  | ldbu (t g : Nat) (f : FmtM) (err : Ecc)
  /-- LDH (R84). Loads a sign-extended half-word. -/
  | ldh (t g : Nat) (f : FmtM) (err : Ecc)
  /-- LDHU (R84). Loads a zero-extended half-word. -/
  | ldhu (t g : Nat) (f : FmtM) (err : Ecc)
  /-- LDW (R84). Loads a word. -/
  | ldw (t g : Nat) (f : FmtM) (err : Ecc)
  /-- LDP (R84). Loads 8 bytes into a register pair. -/
  | ldp (t g : Nat) (f : FmtM) (err : Ecc)
  /-- STB (R84). Stores a byte, posted when the target is shared SRAM. -/
  | stb (t g : Nat) (f : FmtM) (err : Ecc)
  /-- STH (R84). Stores a half-word, posted when the target is shared SRAM. -/
  | sth (t g : Nat) (f : FmtM) (err : Ecc)
  /-- STW (R84). Stores a word, posted when the target is shared SRAM. -/
  | stw (t g : Nat) (f : FmtM) (err : Ecc)
  /-- STP (R84). Stores a register pair, posted when the target is shared SRAM. -/
  | stp (t g : Nat) (f : FmtM) (err : Ecc)
  /-- ASWP_W (R84). Atomic swap on a 4-byte word. -/
  | aswpW (t g : Nat) (f : FmtR) (err : Ecc)
  /-- ACAS_W (R84). Atomic compare-and-swap on a 4-byte word. -/
  | acasW (t g : Nat) (f : FmtR) (err : Ecc)
  /-- AADD_W (R84). Atomic add on a 4-byte word. -/
  | aaddW (t g : Nat) (f : FmtR) (err : Ecc)
  /-- AAND_W (R84). Atomic AND on a 4-byte word. -/
  | aandW (t g : Nat) (f : FmtR) (err : Ecc)
  /-- AOR_W (R84). Atomic OR on a 4-byte word. -/
  | aorW (t g : Nat) (f : FmtR) (err : Ecc)
  /-- ASWP_P (R84). Atomic swap on an 8-byte word. -/
  | aswpP (t g : Nat) (f : FmtR) (err : Ecc)
  /-- ACAS_P (R84). Atomic compare-and-swap on an 8-byte word. -/
  | acasP (t g : Nat) (f : FmtR) (err : Ecc)
  /-- AADD_P (R84). Atomic add on an 8-byte word. -/
  | aaddP (t g : Nat) (f : FmtR) (err : Ecc)
  /-- AAND_P (R84). Atomic AND on an 8-byte word. -/
  | aandP (t g : Nat) (f : FmtR) (err : Ecc)
  /-- AOR_P (R84). Atomic OR on an 8-byte word. -/
  | aorP (t g : Nat) (f : FmtR) (err : Ecc)
  /-- FENCE (R72). Waits until every posted store has been acknowledged. -/
  | fenceI (t g : Nat) (f : FmtX)
  /-- MFS (R79). Reads a special register. -/
  | mfs (t g : Nat) (f : FmtS)
  /-- MTS (R79). Writes a special register, with a MODE write taking effect at the third instruction after it. -/
  | mts (t g : Nat) (f : FmtS)
  /-- MTS_GSTARTW (R80). Sends a GSTART write of source class engine to the global block and completes when it is latched. -/
  | mtsGstartw (t g rd res : Nat)
  /-- PRD (R76). Reads a channel register word through the port window. -/
  | prd (t g : Nat) (f : FmtP)
  /-- PRD_P (R76). Reads two channel register words as one sample. -/
  | prdP (t g : Nat) (f : FmtP)
  /-- PWR (R76). Writes a channel register word through the port window, subject to the bridle. -/
  | pwr (t g : Nat) (f : FmtP)
  /-- PWR_P (R76). Writes two channel register words in one access. -/
  | pwrP (t g : Nat) (f : FmtP)
  /-- EDGE (R78). Submits an edge request to a channel and returns its result code. -/
  | edge (t g : Nat) (f : FmtE)
  /-- TNOW (R75). Reads the nanosecond count of a timebase. -/
  | tnow (t g : Nat) (f : FmtT)
  /-- TNOWF (R75). Reads the fine time of a timebase. -/
  | tnowf (t g : Nat) (f : FmtT)
  /-- EVTAKE (R81). Takes a snapshot of a task input and clears it in one request at the input arbiter. -/
  | evtake (t g : Nat) (f : FmtV)
  /-- B_COND (R84). Branches with one delay slot if the condition holds. -/
  | bCond (t g : Nat) (f : FmtB)
  /-- CBZ (R84). Branches with one delay slot if a register is 0. -/
  | cbz (t g : Nat) (f : FmtB)
  /-- CBNZ (R84). Branches with one delay slot if a register is not 0. -/
  | cbnz (t g : Nat) (f : FmtB)
  /-- J (R84). Jumps with one delay slot. -/
  | jmp (t g off : Nat)
  /-- JL (R84). Jumps with one delay slot and writes the link address to w14. -/
  | jl (t g off : Nat)
  /-- JR (R84). Jumps to a register address with one delay slot. -/
  | jr (t g : Nat) (f : FmtB)
  /-- JLR (R84). Jumps to a register address with link and one delay slot. -/
  | jlr (t g : Nat) (f : FmtB)
  /-- LOOP (R88). Opens a hardware loop at the lowest inactive level. -/
  | loopI (t g : Nat) (f : FmtL)
  /-- ERET (R107). Returns from an exception handler by restoring the frame. -/
  | eret (t g : Nat) (f : FmtX)
  /-- DONE (R147). Ends the task after posted stores are acknowledged, and the slot is evaluated again. -/
  | doneT (t g : Nat) (f : FmtX)
  /-- YIELD (R145). Saves the context and puts the slot at the tail of its priority. -/
  | yieldT (t g : Nat) (f : FmtX)
  /-- TRAP (R84). Raises a software exception carrying CODE16. -/
  | trapI (t g : Nat) (f : FmtX)
  /-- NOP (R84). Does nothing. -/
  | nopI (t g w : Nat)
  /-- POSTED_STORE_ACK (R72). A posted shared SRAM store is acknowledged by its bank, freeing one of 4 outstanding slots. -/
  | postedStoreAck (t g i : Nat) (err : Ecc)
  /-- POSTED_STORE_ERROR (R104). A posted store ends in error and becomes a pending imprecise BUS exception. -/
  | postedStoreError (t g i : Nat) (err : Ecc)
  /-- ENGCTL_ERESET (R94). An ERESET write with RUN 0 performs an engine reset, discarding tasks and contexts. -/
  | engctlEreset (t : Nat) (src : Src) (g : Nat) (val : Word)
  /-- ENGCTL_RUN (R94). Setting RUN lets the engine execute tasks, and clearing it stops the engine at the next boundary. -/
  | engctlRun (t : Nat) (src : Src) (g : Nat) (val : Word)
  /-- ENGRATE_INTERVAL (R94). At the end of each aligned 1 ms interval ENGRATE takes the interval's instruction rate. -/
  | engrateInterval (t g : Nat)
  /-- IMPRECISE_EXCEPTION_DUE (R103). An imprecise arithmetic exception falls due at a boundary and is taken, discarding later ones. -/
  | impreciseExceptionDue (t g : Nat)
  /-- EXCEPTION_ENTRY (R105). At a boundary the engine checks the stack, writes the frame, loads exception state and enters the vector, or escalates to ballast. -/
  | exceptionEntry (t g : Nat)
  /-- BALCTL_BALREQ (R111). A BALREQ write enters ballast with cause HOST. -/
  | balctlBalreq (t : Nat) (src : Src) (g : Nat) (val : Word)
  /-- BALCTL_BALCLR (R115). A BALCLR write clears PEND and, in BALLAST, clears RUN and resets the engine. -/
  | balctlBalclr (t : Nat) (src : Src) (g : Nat) (val : Word)
  /-- BALLAST_ENTRY (R112). The engine abandons the instruction, enters BALLAST, orders safe states if SAFE is set and starts its dump. -/
  | ballastEntry (t g : Nat) (par : Bool)
  /-- BALLAST_DUMP_DONE (R112). The ballast dump completes, EV_BALLAST is raised and the engine resets or stays in BALLAST. -/
  | ballastDumpDone (t g words : Nat)
  /-- MCLD_GO (R124). A GO write starts copying and checking a microcode patch image, or is refused while BUSY. -/
  | mcldGo (t : Nat) (src : Src) (val : Word) (err : Ecc)
  /-- MCLD_CHECK_DONE (R124). Copy and checks complete, accepting the image with PENDING set or raising EV_MC_REJECT. -/
  | mcldCheckDone (t : Nat)
  /-- MC_IMAGE_APPLY (R125). An engine applies the accepted image at an eligible point, and DONE and EV_MC_LOADED follow when PENDING reaches 0. -/
  | mcImageApply (t p : Nat)
  /-- ROUTER_ROUTE_EVENT (R134). A router takes the event at the head of its FIFO and delivers it to its task input, vector and queue, or misses its cache. -/
  | routerRouteEvent (t r : Nat)
  /-- ROUTER_FILL_DONE (R134). A cache-miss read of a route entry or descriptor completes and the held event is routed or discarded. -/
  | routerFillDone (t r : Nat) (err : Ecc)
  /-- TASK_INPUT_ARRIVAL (R141). An event arrival updates a task input's count, buffer, flags and LASTID, and may make its slot ready. -/
  | taskInputArrival (t g slot inp : Nat) (arr : List Nat)
  /-- COHERENCE_VISIT (R137). The coherence pass visits one router cache line every 943 ns and replaces or drops a stale line. -/
  | coherenceVisit (t : Nat) (err : Ecc)
  /-- INVAL_ROUTE_ENTRY (R138). An INVAL of TYPE 0b00 invalidates one route entry in every router after earlier BAR2 writes are acknowledged. -/
  | invalRouteEntry (t : Nat) (src : Src) (index : Nat)
  /-- INVAL_DESCRIPTOR (R138). An INVAL of TYPE 0b01 invalidates one channel descriptor in every router. -/
  | invalDescriptor (t : Nat) (src : Src) (index : Nat)
  /-- INVAL_ALL_ROUTES (R138). An INVAL of TYPE 0b10 invalidates all route entries in every router. -/
  | invalAllRoutes (t : Nat) (src : Src)
  /-- INVAL_ALL_DESCRIPTORS (R138). An INVAL of TYPE 0b11 invalidates all descriptors in every router. -/
  | invalAllDescriptors (t : Nat) (src : Src)
  /-- INVAL_DONE (R138). An invalidation completes and INVALSTAT.BUSY clears. -/
  | invalDone (t : Nat)
  /-- EFCTL_EN_WRITE (R153). Setting EFCTL.EN starts routing, and clearing it discards events and empties every router cache. -/
  | efctlEnWrite (t : Nat) (src : Src) (val : Word)
  /-- TASKRUN_CLR (R155). A TASKRUN CLR write clears every input of a slot after its grant's arrivals. -/
  | taskrunClr (t : Nat) (src : Src) (g : Nat) (val : Word)
  /-- TASKRUN_RUN (R140). A TASKRUN RUN write places a coalescing run request on a slot. -/
  | taskrunRun (t : Nat) (src : Src) (g : Nat) (val : Word)
  /-- TDCTL_WRITE (R140). A TDCTL write changes a slot's enable, trigger and priority and can make it ready at once. -/
  | tdctlWrite (t : Nat) (src : Src) (g slot : Nat) (val : Word)
  /-- TASK_DISPATCH (R146). A scheduling decision picks the best ready slot and starts a fresh dispatch with its reference time. -/
  | taskDispatch (t g : Nat)
  /-- TASK_PREEMPT (R143). A higher-priority ready slot preempts the running task at an eligible boundary and its context is saved. -/
  | taskPreempt (t g : Nat)
  /-- TASK_RESUME (R144). A preempted or yielded task's context is restored and it resumes. -/
  | taskResume (t g : Nat)
  /-- SLACK_RECOMPUTE (R152). The background service recomputes every slot's slack each 1 ms and after relevant writes, publishing TSLACK. -/
  | slackRecompute (t : Nat)
  /-- CHCTL_GO (R160). A GO write starts a run at the first whole ns 100 ns after arrival, or releases a flying-start hold. -/
  | chctlGo (t : Nat) (src : Src) (n : Nat) (val : Word)
  /-- CHCTL_ARM (R160). An ARM write places a stopped or done channel with a trigger source in ARMED. -/
  | chctlArm (t : Nat) (src : Src) (n : Nat) (val : Word)
  /-- CHCTL_STOP (R162). A STOP write ends the run at the end of the current period. -/
  | chctlStop (t : Nat) (src : Src) (n : Nat) (val : Word)
  /-- CHCTL_STOPNOW (R162). A STOPNOW write ends the run 40 ns after arrival and cancels later counter edges. -/
  | chctlStopnow (t : Nat) (src : Src) (n : Nat) (val : Word)
  /-- TRIGGER_DETECT (R161). A trigger is detected and waits for its start instant S, or is ignored and counted in OSMISS. -/
  | triggerDetect (t n : Nat)
  /-- RUN_START (R160). At S a run starts, active values are loaded and checked, INIT applies, and late actions are skipped. -/
  | runStart (t n : Nat)
  /-- COUNTER_PERIOD_BOUNDARY (R157). At P_k the previous period's PERIOD and the new period's ZERO occur, one-shot counts step and stops complete. -/
  | counterPeriodBoundary (t n : Nat)
  /-- COUNTER_CMPA (R157). At P_k + CMPA × unit the CMP_A event and action occur. -/
  | counterCmpa (t n : Nat)
  /-- COUNTER_CMPB (R157). At P_k + CMPB × unit the CMP_B event and action occur. -/
  | counterCmpb (t n : Nat)
  /-- COMPARE_EDGE_COMMIT (R158). A counter or carrier action is committed to the delay line 16 ns before its instant. -/
  | compareEdgeCommit (t n : Nat)
  /-- PIN_TRANSITION (R164). A channel pin changes level and the stability filter starts timing the run. -/
  | pinTransition (t n : Nat) (lvl : Bool)
  /-- CAPTURE_ACCEPT (R164). A level held for the filter time is accepted and passes gate, edge selection and prescaler to a capture. -/
  | captureAccept (t n : Nat)
  /-- CAPCTL_WRITE (R166). A CAPCTL write restarts the prescaler and clears the measurement valid flags. -/
  | capctlWrite (t : Nat) (src : Src) (n : Nat) (val : Word)
  /-- LOAD_EDGE_MEASURED (R169). A measured output edge updates the load estimate and raises LOADLOW, LOADHIGH or LOADSLOW. -/
  | loadEdgeMeasured (t n time : Nat) (rising : Bool)
  /-- CTM_READING (R170). A charge-time reading completes and updates baseline, touch and release state. -/
  | ctmReading (t n raw : Nat)
  /-- CTM_MAXT_EXPIRY (R173). A touch longer than MAXT re-bases, releases with STUCK and raises EV_CTM_STUCK. -/
  | ctmMaxtExpiry (t n : Nat)
  /-- CARRIER_REF_CHANGE (R177). The carrier reference R changes at its instant and the dead-time generator places H and L. -/
  | carrierRefChange (t n : Nat)
  /-- SHADOW_LATCH_POINT (R182). At a latch point pending shadow values load unless held, and the period's shape and minimum pulse rule are fixed. -/
  | shadowLatchPoint (t n : Nat)
  /-- GLOAD_LOADALL (R183). A LOADALL write opens the LOADALL gate of every running LAG channel in the group. -/
  | gloadLoadall (t : Nat) (src : Src) (j : Nat) (val : Word)
  /-- PWMCTL_PAIR_WRITE (R184). A PAIR write pairs an even channel with its odd partner when both are stopped and compatible. -/
  | pwmctlPairWrite (t : Nat) (src : Src) (n : Nat) (val : Word)
  /-- SWITCH_NODE_SENSE (R186). The switching-node sense reaching the far rail schedules the adaptive turn-on after GUARD. -/
  | switchNodeSense (t n : Nat)
  /-- DTMAX_EXPIRY (R186). A turn-on forced at DTMAX increments DTMAXCNT. -/
  | dtmaxExpiry (t n : Nat)
  /-- INTERLOCK_BOTH_ON (R191). Both levels of a pair become 1, both switches are held off and the event is reported. -/
  | interlockBothOn (t n : Nat)
  /-- INTERLOCK_HOLD_EXPIRY (R191). The interlock hold ends and the last switch is released once the other is off. -/
  | interlockHoldExpiry (t n : Nat)
  /-- TRIP_LINE_ACTIVATION (R193). A trip line becomes active and causes latched or cycle-by-cycle trips or a termination. -/
  | tripLineActivation (t j line : Nat)
  /-- BLANK_WINDOW_END (R195). A line still active when blanking ends counts as activating then. -/
  | blankWindowEnd (t n : Nat)
  /-- TRIPCLR_CLR (R196). A TRIPCLR write clears latched and pair trips unless a line is still active. -/
  | tripclrClr (t : Nat) (src : Src) (n : Nat) (val : Word)
  /-- FORCE_RELEASE (R198). A FORCE write with ORD RELEASE returns the channel to its carrier at its FSYNC. -/
  | forceRelease (t : Nat) (src : Src) (n sync : Nat)
  /-- FORCE_HIGH (R198). A FORCE write with ORD HIGH orders level 1. -/
  | forceHigh (t : Nat) (src : Src) (n sync : Nat)
  /-- FORCE_LOW (R198). A FORCE write with ORD LOW orders level 0. -/
  | forceLow (t : Nat) (src : Src) (n sync : Nat)
  /-- FORCE_HIZ (R198). A FORCE write with ORD HIZ orders the pin undriven. -/
  | forceHiz (t : Nat) (src : Src) (n sync : Nat)
  /-- GFORCE_RELEASE (R198). A GFORCE write with ORD RELEASE releases the masked channels of the group. -/
  | gforceRelease (t : Nat) (src : Src) (j sync mask : Nat)
  /-- GFORCE_HIGH (R198). A GFORCE write with ORD HIGH forces the masked channels high. -/
  | gforceHigh (t : Nat) (src : Src) (j sync mask : Nat)
  /-- GFORCE_LOW (R198). A GFORCE write with ORD LOW forces the masked channels low. -/
  | gforceLow (t : Nat) (src : Src) (j sync mask : Nat)
  /-- GFORCE_HIZ (R198). A GFORCE write with ORD HIZ forces the masked channels high-Z. -/
  | gforceHiz (t : Nat) (src : Src) (j sync mask : Nat)
  /-- FORCE_ORDER_EFFECT (R199). A waiting force order takes effect at its FSYNC instant. -/
  | forceOrderEffect (t n : Nat)
  /-- SAFECTL_SAFEGO (R200). A SAFEGO write enters the group's safe state 40 ns after arrival. -/
  | safectlSafego (t : Nat) (src : Src) (j : Nat) (val : Word)
  /-- SAFECTL_SAFECLR (R200). A SAFECLR write leaves the safe state at each channel's next period start. -/
  | safectlSafeclr (t : Nat) (src : Src) (j : Nat) (val : Word)
  /-- SAFE_STATE_EFFECT (R200). The safe state takes effect on a group, counting the entry and raising EV_SAFE_STATE and FAULT SAFE. -/
  | safeStateEffect (t j : Nat)
  /-- ANALOG_READY (R204). VREF and trims settle after ANCTL.EN and ANSTAT.READY is set. -/
  | analogReady (t : Nat)
  /-- COMPARATOR_CROSSING (R206). A comparator input crosses its effective threshold and the raw output changes. -/
  | comparatorCrossing (t k nv : Nat)
  /-- COMPARATOR_OUTPUT_CHANGE (R209). A raw change persisting for KFILT changes the output, latch, KCAP, trip lines, KOUT and event. -/
  | comparatorOutputChange (t k : Nat)
  /-- KCLR_CLR (R208). A KCLR write clears the comparator latch, or is refused with CLRREF while the raw output is 1. -/
  | kclrClr (t : Nat) (src : Src) (k : Nat) (val : Word)
  /-- SAR_TRIGGER (R211). A SAR trigger is counted by TDIV and starts, queues or refuses a sequence. -/
  | sarTrigger (t i : Nat)
  /-- SARSW_GO (R211). A SARSW GO write is one trigger at arrival plus 100 ns. -/
  | sarswGo (t : Nat) (src : Src) (i : Nat) (val : Word)
  /-- SAR_CONVERSION (R212). A conversion holds at H_j, converts and writes its tagged record to the ring. -/
  | sarConversion (t i nv : Nat)
  /-- SAMPLE_RECORD_ACK (R214). A sample record write is acknowledged and the unit's SEQ register is updated. -/
  | sampleRecordAck (t : Nat) (sd : Bool) (i : Nat) (err : Ecc)
  /-- SD_WORD (R218). A sigma-delta filter produces a word every D bits and writes its record, raising block-ready events. -/
  | sdWord (t i : Nat) (bits : List RxBit)
  /-- SD_CONFIG_APPLY (R219). A filter setting written while enabled takes effect at a word boundary and resets the filter. -/
  | sdConfigApply (t i : Nat)
  /-- MODULATOR_FAULT (R220). A stuck or code-violating bitstream is declared a modulator fault. -/
  | modulatorFault (t i : Nat) (bits : List RxBit) (viol : Bool)
  /-- MODULATOR_FAULT_CLEAR (R220). 256 good bits clear a modulator fault and reset the filter. -/
  | modulatorFaultClear (t i : Nat) (bits : List RxBit)
  /-- SD_FAST_WORD (R221). A fast-filter word is produced and a comparator with SRC set decides on it. -/
  | sdFastWord (t i : Nat) (bits : List RxBit)
  /-- TAILCTL_ARM_WRITE (R224). Setting ARM clears position state and starts decoding; clearing it stops the tail. -/
  | tailctlArmWrite (t : Nat) (src : Src) (k : Nat) (val : Word)
  /-- TAIL_EDGE_ACCEPT (R226). A filtered A, B or Hall transition is decoded into a qualified edge or an error. -/
  | tailEdgeAccept (t k inst code : Nat)
  /-- TAIL_Z_EDGE (R227). A qualified Z rising edge captures POS into ZCAP, raises FRAME and may reset POS. -/
  | tailZEdge (t k inst : Nat) (lvl : Bool)
  /-- SERTRIG_GO (R229). A SERTRIG GO write triggers one serial frame at arrival plus 100 ns. -/
  | sertrigGo (t : Nat) (src : Src) (k : Nat) (val : Word)
  /-- SERIAL_TRIGGER (R229). A periodic or channel trigger starts a serial frame, or is refused while busy or not ready. -/
  | serialTrigger (t k : Nat) (ready : Bool)
  /-- BISS_ACK_TIMEOUT (R230). No ACK within 2,000 ns fails the frame with TIMEOUT. -/
  | bissAckTimeout (t k : Nat)
  /-- BISS_START_TIMEOUT (R230). No start bit within STMAX clocks fails the frame with TIMEOUT. -/
  | bissStartTimeout (t k trt : Nat)
  /-- SERIAL_FRAME_DONE (R230). A serial frame completes, is checked and becomes a position sample or a frame failure. -/
  | serialFrameDone (t k trt data stat crc cds : Nat)
  /-- TAIL_RECORD_WRITE (R234). The tail writes its 32-byte feedback record, no closer than RATE × 100 ns to the last. -/
  | tailRecordWrite (t k : Nat) (err : Ecc)
  /-- VEL_DECAY_UPDATE (R236). Each µs between edges the reported speed decays towards standstill. -/
  | velDecayUpdate (t k : Nat)
  /-- SPEED_STALE_TIMEOUT (R235). SSTO without a qualified edge sets STALE, speed 0 and raises SPEED_STALE. -/
  | speedStaleTimeout (t k : Nat)
  /-- LINE_BREAK_DETECT (R238). A receiver pair faulty for 2 µs declares feedback lost with cause LBRK. -/
  | lineBreakDetect (t k mask : Nat)
  /-- LINE_BREAK_CLEAR (R238). All used pairs good for 10 µs clear the LBRK condition. -/
  | lineBreakClear (t k mask : Nat)
  /-- FRESHNESS_TIMEOUT (R238). No qualified edge for FRESH µs while the group runs declares feedback lost. -/
  | freshnessTimeout (t k : Nat)
  /-- LOSS_GRACE_EXPIRY (R240). The grace ends with LOSS still set and the group enters its safe state 40 ns later. -/
  | lossGraceExpiry (t k : Nat)
  /-- FLYING_SYNC_TIMEOUT (R242). No GO within FSTMO × 4 µs of a FWD hold returns the channels to STOPPED with FLYABORT. -/
  | flyingSyncTimeout (t k : Nat)
  /-- BRAKE_TIMEOUT (R243). A brake-first hold exceeding FSBRK × 10 ms ends with FLYABORT reason 3. -/
  | brakeTimeout (t k : Nat)
  /-- EMU_EDGE_COMMIT (R247). The emulator commits a synthesised quadrature transition 16 ns ahead, emitting backlog or slipping. -/
  | emuEdgeCommit (t k : Nat)
  /-- EMU_PATH_CHANGE (R248). The emulator changes between passthrough and synthesis at a quiet instant without losing a count. -/
  | emuPathChange (t k : Nat)
  /-- SPOOL_TOOTH (R253). A tooth is detected, classified and used to synchronise, lay out the micro-tick schedule or end synchronisation. -/
  | spoolTooth (t i : Nat)
  /-- SPOOL_HALT (R255). The predicted next tooth instant passes undetected and the spool enters HALT. -/
  | spoolHalt (t i : Nat)
  /-- SPOOL_LATE_DEADLINE (R257). No tooth by the LATE deadline ends synchronisation with cause LATE. -/
  | spoolLateDeadline (t i : Nat)
  /-- SPOOL_REVERSE_EDGE (R258). A negative tail edge moves the spool to REVHOLD and counts reverse edges. -/
  | spoolReverseEdge (t i : Nat)
  /-- SPCTL_SYNCNOW (R253). A SYNCNOW write makes the next tooth position 0 and enters SYNC there. -/
  | spctlSyncnow (t : Nat) (src : Src) (i : Nat) (val : Word)
  /-- SPCTL_DESYNC (R257). A DESYNC write ends synchronisation with cause HOST. -/
  | spctlDesync (t : Nat) (src : Src) (i : Nat) (val : Word)
  /-- SPCTL_EN_WRITE (R257). Setting EN starts the spool and clearing it is a HOST loss. -/
  | spctlEnWrite (t : Nat) (src : Src) (i : Nat) (val : Word)
  /-- SPOOL_ENDING (R260). At L + 40 ns angle-driven channels drop spool edges, end slot runs and take ENDLVL. -/
  | spoolEnding (t i : Nat)
  /-- AEVCTL_DISARM (R261). An AEVCTL write with ARM 0b00 disarms an armed slot without an event. -/
  | aevctlDisarm (t : Nat) (src : Src) (i j : Nat) (val : Word)
  /-- AEVCTL_ONCE (R261). An AEVCTL write with ARM 0b01 arms the slot for the first admissible occurrence. -/
  | aevctlOnce (t : Nat) (src : Src) (i j : Nat) (val : Word)
  /-- AEVCTL_EVERY (R261). An AEVCTL write with ARM 0b10 arms the slot for every revolution. -/
  | aevctlEvery (t : Nat) (src : Src) (i j : Nat) (val : Word)
  /-- AEVCTL_ONCE_REV (R261). An AEVCTL write with ARM 0b11 arms the slot for the revolution REV. -/
  | aevctlOnceRev (t : Nat) (src : Src) (i j : Nat) (val : Word)
  /-- SLOT_COMMIT (R263). At F − 40 ns a slot is fixed and delivers its EDGE, START or TRIG action. -/
  | slotCommit (t i j : Nat)
  /-- SPRING_POLL (R264). Each µs the spool reads PROD and applies new arm-ring entries as slot writes. -/
  | springPoll (t i : Nat) (err : Ecc)
  /-- SPANGLE_READ (R250). A read of SPANGLE returns the angle and latches SPREV and SPANGTS. -/
  | spangleRead (t : Nat) (src : Src) (i : Nat)
  /-- SPOOL_BCAST_SAMPLE (R265). A broadcasting spool samples itself each µs of TB0 and sends a record on the tether. -/
  | spoolBcastSample (t i : Nat)
  /-- SPOOL_RECORD_ARRIVAL (R266). A mirror applies an arriving spool record as its angle model. -/
  | spoolRecordArrival (t i : Nat) (r : SpRec)
  /-- REMOTE_AGE_EXPIRY (R267). No newer record within REMAGE ends a mirror's synchronisation with cause REMOTE. -/
  | remoteAgeExpiry (t i : Nat)
  /-- VF_FLR (R272). A Function Level Reset of a VF disables its queues, aborts its movers and masks its vectors. -/
  | vfFlr (t f : Nat)
  /-- PF_FLR (R272). An FLR of PF0 resets every function's host-interface state except the bridle. -/
  | pfFlr (t : Nat)
  /-- HOT_RESET (R272). A PCIe hot reset resets the host interface except the bridle. -/
  | hotReset (t : Nat)
  /-- PERST (R390). PERST# resets the host interface while running, holds the link during boot and leaves Grounded. -/
  | perst (t : Nat) (asserted : Bool)
  /-- BRIDLE_WRITE (R273). A PF0 write of a bridle entry changes the owner of a resource for later grants. -/
  | bridleWrite (t : Nat) (src : Src) (e : Nat) (val : Word)
  /-- HOSTWD_KICK (R279). A KICK write restarts the host watchdog period. -/
  | hostwdKick (t : Nat) (src : Src) (f : Nat) (val : Word)
  /-- HOST_WD_EXPIRY (R279). PERIOD µs without a KICK raises EV_HOST_WD and with ACT orders safe states of owned groups. -/
  | hostWdExpiry (t f : Nat)
  /-- MVCTL_GO (R284). A GO write starts an idle or failed mover at MVHEAD. -/
  | mvctlGo (t : Nat) (src : Src) (m : Nat) (val : Word)
  /-- MVCTL_STOP (R284). A STOP write stops the mover after the current descriptor, or aborts recovery. -/
  | mvctlStop (t : Nat) (src : Src) (m : Nat) (val : Word)
  /-- MV_DESCRIPTOR_FETCHED (R281). A fetched descriptor is checked and its accesses are issued, or it ends in error. -/
  | mvDescriptorFetched (t m : Nat) (st : Cpl) (err : Ecc) (words : List Nat)
  /-- HOST_COMPLETION (R283). A completion for a host read arrives, supplying data or a mover error. -/
  | hostCompletion (t m : Nat) (st : Cpl) (data : List Byte) (err : Ecc)
  /-- DLL_ACK (R282). A Data Link Layer acknowledgement of a host write arrives. -/
  | dllAck (t n : Nat) (err : Ecc)
  /-- MV_DESCRIPTOR_RETIRE (R282). A descriptor retires once all its writes are acknowledged and takes the next sequence number. -/
  | mvDescriptorRetire (t m : Nat) (err : Ecc)
  /-- PCIE_COMPLETION_TIMEOUT (R283). A host request's completion times out, starting mover recovery or ending in TIMEOUT the fourth time. -/
  | pcieCompletionTimeout (t m : Nat) (err : Ecc)
  /-- QCMD_ENABLE (R286). A QCMD ENABLE fetches and checks a queue context and starts the queue. -/
  | qcmdEnable (t : Nat) (src : Src) (q : Nat)
  /-- QCMD_DISABLE (R286). A QCMD DISABLE stops a queue and writes back its device-owned words. -/
  | qcmdDisable (t : Nat) (src : Src) (q : Nat)
  /-- QCMD_RELOAD (R286). A QCMD RELOAD re-reads the host-owned words of a queue context. -/
  | qcmdReload (t : Nat) (src : Src) (q : Nat)
  /-- QUEUE_CONTEXT_FETCHED (R286). A queue context read from host memory arrives and waiting records proceed. -/
  | queueContextFetched (t q : Nat) (st : Cpl) (words : List Nat)
  /-- DOORBELL_WRITE (R287). A doorbell write updates CONS or PROD of a queue, freeing slots or publishing commands. -/
  | doorbellWrite (t : Nat) (src : Src) (q : Nat) (val : Word)
  /-- QUEUE_RECORD_WRITE (R288). The queue engine writes a record to its queue's next slot, or drops it when the queue is full. -/
  | queueRecordWrite (t q : Nat)
  /-- PROD_WRITEBACK (R289). After a run of records the device writes PROD to PRODWB. -/
  | prodWriteback (t q : Nat)
  /-- QUEUE_ITIME_EXPIRY (R290). ITIME µs from the oldest unsignalled record requests the queue's vector. -/
  | queueItimeExpiry (t q : Nat)
  /-- MSIX_REQUEST (R290). A vector request sends an MSI-X message, merges with one pending, or sets the pending bit. -/
  | msixRequest (t f v : Nat)
  /-- MSIX_TABLE_WRITE (R290). A write of an MSI-X entry changes it, and unmasking sends a pending message. -/
  | msixTableWrite (t : Nat) (src : Src) (off : Nat) (words : List Nat)
  /-- CMD_WRITE (R292). A WRITE command applies a BAR0 write with the queue's authority. -/
  | cmdWrite (t q off : Nat) (val : Word) (tag : Nat)
  /-- CMD_WRITEAT (R292). A WRITEAT command holds the queue until TB0 reaches AT. -/
  | cmdWriteat (t q off : Nat) (val : Word) (at_ tag : Nat)
  /-- WRITEAT_DUE (R292). TB0 reaches AT and the held WRITEAT write is applied. -/
  | writeatDue (t q : Nat)
  /-- CMD_MARK (R292). A MARK command writes a result record to RESQ after earlier commands are applied. -/
  | cmdMark (t q tag : Nat)
  /-- CMD_BAD (R292). A command with an undefined code is skipped with BADCMD and EV_CMD_ERR. -/
  | cmdBad (t q code tag : Nat)
  /-- LINK_DOWN (R294). The Data Link Layer goes down and movers hold in RECOVER. -/
  | linkDown (t : Nat)
  /-- LINK_UP (R294). The link returns, EV_LINK_RETRAIN is raised, and movers and the queue engine replay unacknowledged work. -/
  | linkUp (t : Nat) (err : Ecc)
  /-- TETHER_CYCLE_START (R299). A port starts transmitting cycle c with its control block, slots and answer blocks. -/
  | tetherCycleStart (t p : Nat)
  /-- CONTROL_BLOCK_RX (R308). A received control block gives the cycle marker, poll, time exchange and election messages. -/
  | controlBlockRx (t p : Nat) (b : CtlBlk)
  /-- DATA_SLOT_RX (R311). A received data slot is decrypted and its items delivered or forwarded, or dropped on tag failure. -/
  | dataSlotRx (t p : Nat) (slot : Slot) (cyc : Nat) (items : List TMsg)
  /-- ANSWER_BLOCK_RX (R312). A poll answer arrives and its latency is recorded. -/
  | answerBlockRx (t p cyc : Nat) (tag : Bool)
  /-- POLL_DEADLINE (R312). No valid answer 2,000 ns after the cycle start sends the port to ABSENT. -/
  | pollDeadline (t p : Nat)
  /-- PORT_TRAIN_TURN (R305). An enabled port reaches its turn and starts training. -/
  | portTrainTurn (t p : Nat)
  /-- LANE_TRAINED (R304). Lane training and FEC lock complete and the port enters CAPX. -/
  | laneTrained (t p lanes : Nat)
  /-- TRAIN_TIMEOUT (R304). Training fails at 25 ms and is retried after 10 ms. -/
  | trainTimeout (t p : Nat)
  /-- TRAIN_RETRY (R304). The 10 ms wait after a training failure ends and training restarts. -/
  | trainRetry (t p : Nat)
  /-- BUSY_RX (R305). A partner's BUSY symbols move the port to BUSYWAIT. -/
  | busyRx (t p : Nat)
  /-- BUSYWAIT_RETRY (R304). Every 1 ms in BUSYWAIT the port retries training. -/
  | busywaitRetry (t p : Nat)
  /-- CAPX_MESSAGE (R307). The partner's capability message is received and the link moves to AUTH or INCOMPAT. -/
  | capxMessage (t p : Nat) (m : CapMsg)
  /-- AUTH_MESSAGE (R310). An identity or key-agreement message is checked and the link moves to TLOCK or QUAR. -/
  | authMessage (t p : Nat) (m : AuthMsg)
  /-- AUTH_TIMEOUT (R310). AUTH not complete within 5 ms fails with SIG. -/
  | authTimeout (t p : Nat)
  /-- QUAR_EXPIRY (R304). The 1 s quarantine ends and the port returns to TRAIN. -/
  | quarExpiry (t p : Nat)
  /-- TPCTL_RETRY (R304). A RETRY write moves a port out of INCOMPAT or a third QUAR to TRAIN. -/
  | tpctlRetry (t : Nat) (src : Src) (p : Nat) (val : Word)
  /-- LANE_LOCK_LOSS (R304). Loss of lane lock returns the port to TRAIN. -/
  | laneLockLoss (t p : Nat)
  /-- REKEY_START (R311). Every 2^30 cycles the ends start a signed key exchange. -/
  | rekeyStart (t p : Nat)
  /-- REKEY_TIMEOUT (R311). A rekey not complete within 10 ms sends the port to TRAIN with REKEY. -/
  | rekeyTimeout (t p : Nat)
  /-- TETHER_EXCHANGE_LOSS (R309). 8 cycles without a valid exchange on any master path move TB0 to HOLDOVER. -/
  | tetherExchangeLoss (t : Nat)
  /-- ELECTION_SETTLED (R315). The best candidate unchanged for 100 µs settles the election and the master is reported. -/
  | electionSettled (t : Nat)
  /-- ADMREQ_RX (R316). The master handles an admission request, grants an index and sends ADMIT. -/
  | admreqRx (t p serial : Nat) (want : Option Nat)
  /-- ADMIT_RX (R316). A device receives ADMIT, sets its index and opens data slots. -/
  | admitRx (t p serial : Nat) (idx : Option Nat) (midx : Nat)
  /-- MASTER_LOST_GRACE_EXPIRY (R314). MLOST persisting for MGRACE with MSAFE sends groups owned by the tether master to their safe state. -/
  | masterLostGraceExpiry (t : Nat)
  /-- RWCTL_GO (R318). A GO write issues a remote register command to a target device. -/
  | rwctlGo (t : Nat) (src : Src) (val : Word)
  /-- REMOTE_COMMAND_RX (R318). A target applies a remote register command as a tether-master request and responds. -/
  | remoteCommandRx (t dev seq : Nat) (wr : Bool) (off val : Nat)
  /-- RW_RESPONSE_RX (R318). The response to a remote command arrives and RWSTAT records the outcome. -/
  | rwResponseRx (t seq res val : Nat)
  /-- RW_TIMEOUT (R318). No response within 20 µs ends the remote command with TIMEOUT. -/
  | rwTimeout (t : Nat)
  /-- IMPORT_WRITE (R319). An IMPORT write sends a subscription for an event of another device. -/
  | importWrite (t : Nat) (src : Src) (x : Nat) (val : Word)
  /-- SUBSCRIPTION_RX (R319). A source device accepts or leaves inactive a subscription. -/
  | subscriptionRx (t dev x id : Nat) (en : Bool)
  /-- IMPORT_EVENT_RX (R319). A forwarded event arrives and is issued locally as event 7328 + x. -/
  | importEventRx (t dev x seq ts detail : Nat) (tq coinc : Bool)
  /-- CGSTART_GO (R320). A CGSTART GO on the master broadcasts a cascade release or is refused. -/
  | cgstartGo (t : Nat) (src : Src) (val : Word)
  /-- CGSTART_BROADCAST_RX (R320). A device receives a cascade release and acts as a timed GSTART. -/
  | cgstartBroadcastRx (t at_ : Nat) (restart : Bool)
  /-- CGSTART_REPORT_RX (R320). The master receives a device's release outcome. -/
  | cgstartReportRx (t dev res : Nat)
  /-- CGSTART_CLOSE (R320). At T + TMAXLAT the master sets NACK and NLATE, clears PEND and raises EV_CGSTART. -/
  | cgstartClose (t : Nat)
  /-- SCRUB_WORD (R326). The scrubber reads one word and corrects, poisons or records it as weak. -/
  | scrubWord (t mem p : Nat) (err : Ecc)
  /-- MONITOR_READING (R328). Each ms every path monitor gives a reading and its published K is updated. -/
  | monitorReading (t m k : Nat) (temp : Int)
  /-- MARGIN_EVALUATION (R332). Every 10 ms the re-planner takes one step of voltage, throttle, migration or report. -/
  | marginEvaluation (t : Nat)
  /-- MARGIN_STEP_BACK (R333). After 1 s of ample slack the re-planner lowers throttle or voltage by one step. -/
  | marginStepBack (t : Nat)
  /-- SPRCMD_WARM (R335). A WARM command queues a warm takeover of a logical gondola. -/
  | sprcmdWarm (t : Nat) (src : Src) (val : Word)
  /-- SPRCMD_COLD (R335). A COLD command queues a cold takeover. -/
  | sprcmdCold (t : Nat) (src : Src) (val : Word)
  /-- SPRCMD_TEST (R340). A TEST command starts the self-test of a physical gondola. -/
  | sprcmdTest (t : Nat) (src : Src) (val : Word)
  /-- SPRCMD_ABORT (R338). An ABORT command aborts the takeover in progress. -/
  | sprcmdAbort (t : Nat) (src : Src) (val : Word)
  /-- TAKEOVER_START (R337). A queued warm takeover starts, the target enters SHADOW and copying begins. -/
  | takeoverStart (t : Nat)
  /-- TAKEOVER_COPY_DONE (R337). The copy from source to target completes. -/
  | takeoverCopyDone (t : Nat)
  /-- TAKEOVER_JOIN (R337). With no task executing or preempted on the source, the target engine joins in shadow. -/
  | takeoverJoin (t mism : Nat)
  /-- TAKEOVER_HANDOVER (R337). At instant H the crossbar switches the pins to the target and EV_SPARE_DONE is raised. -/
  | takeoverHandover (t mism : Nat)
  /-- TAKEOVER_TIME_LIMIT (R338). No handover within 100 ms aborts the takeover or forces it. -/
  | takeoverTimeLimit (t : Nat)
  /-- COLD_TAKEOVER (R339). Pins go high-Z and move to the target, whose channels reset into the HIZ safe state. -/
  | coldTakeover (t : Nat)
  /-- SELFTEST_START (R340). An idle suspect gondola starts its self-test automatically. -/
  | selftestStart (t p : Nat)
  /-- SELFTEST_DONE (R340). A self-test completes and the gondola becomes SPARE or RETIRED. -/
  | selftestDone (t check : Nat)
  /-- TELEMETRY_BLOCK (R343). Every PERIOD ms the telemetry block is written and EV_TELEMETRY raised. -/
  | telemetryBlock (t : Nat) (hot mean : Int) (err : Ecc)
  /-- PWRCTL_GO_ALOFT (R353). A GO with TGT Aloft wakes the device. -/
  | pwrctlGoAloft (t : Nat) (src : Src) (val : Word)
  /-- PWRCTL_GO_DRIFT (R352). A GO with TGT Drift checks its conditions and enters Drift or is refused. -/
  | pwrctlGoDrift (t : Nat) (src : Src) (val : Word)
  /-- PWRCTL_GO_MOORED (R348). A GO with TGT Moored checks its conditions and enters Moored or is refused. -/
  | pwrctlGoMoored (t : Nat) (src : Src) (val : Word)
  /-- PWRCTL_GO_GROUNDED (R351). A GO with TGT Grounded and key 0x5A revokes output enables and powers down. -/
  | pwrctlGoGrounded (t : Nat) (src : Src) (val : Word)
  /-- POWER_AUTO_ENTRY (R352). Conditions held for DWELL start automatic entry to the deepest tolerable state. -/
  | powerAutoEntry (t sinceD sinceM : Nat)
  /-- POWER_ENTRY_DONE (R354). An entry to Drift, Moored or Grounded completes and EV_POWER_STATE is raised or logged. -/
  | powerEntryDone (t : Nat)
  /-- WAKE_REQUEST (R353). A wake source starts a wake or abandons an entry. -/
  | wakeRequest (t cause idx : Nat)
  /-- WAKE_TIMER (R353). TB0 reaching WAKEAT is a wake source. -/
  | wakeTimer (t : Nat)
  /-- WAKE_DONE (R352). A wake completes, EV_WAKE is raised and the wake log is issued. -/
  | wakeDone (t : Nat)
  /-- GWAKE_RISE (R351). A GWAKE rising edge leaves Grounded with a device reset. -/
  | gwakeRise (t : Nat)
  /-- SUPPLY_MEASUREMENT (R355). Every 10 µs each rail is measured against its bands. -/
  | supplyMeasurement (t r mv : Nat)
  /-- SUPPLY_WARNING (R355). A rail outside its warning band for 10 µs raises EV_SUPPLY_WARN. -/
  | supplyWarning (t r : Nat)
  /-- SUPPLY_FAULT (R355). A rail outside its fault band for 1 µs takes its fault action and raises EV_SUPPLY_FAULT. -/
  | supplyFault (t r mv : Nat)
  /-- SUPPLY_FAULT_CLEAR (R355). A rail back inside its fault band raises EV_SUPPLY_OK. -/
  | supplyFaultClear (t r mv : Nat)
  /-- AVS_EVALUATION (R356). Every 1 ms the adaptive loop raises or lowers its core voltage value. -/
  | avsEvaluation (t : Nat)
  /-- PMBUS_REQUEST_SEND (R357). A voltage request is sent to the regulator as VOUT_COMMAND. -/
  | pmbusRequestSend (t : Nat) (ok : Bool)
  /-- PMBUS_SETTLED (R357). The core rail reads within 10 mV of the request. -/
  | pmbusSettled (t : Nat)
  /-- PMBUS_SETTLE_TIMEOUT (R357). A request not settled in 2 ms declares a PMBus failure. -/
  | pmbusSettleTimeout (t : Nat)
  /-- PMBUS_STATUS_POLL (R357). Every 1 ms STATUS_WORD is read, and a fault bit declares a PMBus failure. -/
  | pmbusStatusPoll (t : Nat) (ok : Bool) (word : Nat) (fault : Bool)
  /-- AVSCTL_RETRY (R357). A RETRY write clears PMFAIL and resumes requests. -/
  | avsctlRetry (t : Nat) (src : Src) (val : Word)
  /-- LCCMD_GETKEY (R364). A GETKEY command derives the identity key pair and exposes PUBKEY. -/
  | lccmdGetkey (t : Nat) (src : Src) (val : Word)
  /-- LCCMD_PROVISION (R364). A PROVISION command checks the record and moves Blank to Amber. -/
  | lccmdProvision (t : Nat) (src : Src) (val : Word) (err : Ecc)
  /-- LCCMD_LOCK (R361). A LOCK command moves Amber to Indigo. -/
  | lccmdLock (t : Nat) (src : Src) (val : Word)
  /-- LCCMD_RETIRE (R361). A RETIRE command with an RMA token moves the device to Slate. -/
  | lccmdRetire (t : Nat) (src : Src) (val : Word) (err : Ecc)
  /-- LC_COMMAND_DONE (R362). Fuse programming and wipe complete, EV_LC_CHANGE is raised and the device resets. -/
  | lcCommandDone (t : Nat)
  /-- REVCTL_GO (R366). A GO write starts loading and checking a revocation list. -/
  | revctlGo (t : Nat) (src : Src) (val : Word) (err : Ecc)
  /-- REVLIST_CHECK_DONE (R366). A revocation list check completes and replaces the list or is refused. -/
  | revlistCheckDone (t : Nat)
  /-- SECGON_WRITE (R368). A SECGON write marks logical gondolas secure. -/
  | secgonWrite (t : Nat) (src : Src) (i : Nat) (val : Word)
  /-- TAMPER_DETECT (R374). A tamper source is detected, destroying the identity key, closing debug and starting a wipe. -/
  | tamperDetect (t k : Nat)
  /-- WIPE_DONE (R372). A secure SRAM wipe completes and key slots are copied again. -/
  | wipeDone (t : Nat)
  /-- DBGCTL_OPEN (R376). An OPEN write starts opening a debug session and checking its token. -/
  | dbgctlOpen (t : Nat) (src : Src) (val : Word) (err : Ecc)
  /-- TOKEN_CHECK_DONE (R377). A token check completes, opening the session or refusing it, and loads a fresh nonce. -/
  | tokenCheckDone (t : Nat)
  /-- DBGCTL_CLOSE (R380). A CLOSE write from its own path closes the session. -/
  | dbgctlClose (t : Nat) (src : Src) (val : Word)
  /-- DEBUG_SESSION_EXPIRY (R380). The session's DURATION expires and it closes. -/
  | debugSessionExpiry (t : Nat)
  /-- DEBUG_LOCKOUT_EXPIRY (R377). The 10 s lock-out after 8 failures ends. -/
  | debugLockoutExpiry (t : Nat)
  /-- DBGECTL_HALT (R378). A HALT write halts the engine at an eligible boundary. -/
  | dbgectlHalt (t : Nat) (src : Src) (g : Nat) (val : Word)
  /-- DBGECTL_RESUME (R378). A RESUME write resumes a debug-halted engine. -/
  | dbgectlResume (t : Nat) (src : Src) (g : Nat) (val : Word)
  /-- DBGECTL_STEP (R378). A STEP write executes one instruction, or a branch and its slot, and halts again. -/
  | dbgectlStep (t : Nat) (src : Src) (g : Nat) (val : Word)
  /-- BREAKPOINT_HIT (R378). The engine halts before executing the instruction at DBGBP. -/
  | breakpointHit (t g : Nat)
  /-- DBGDATA_READ (R379). A DBGDATA read returns the selected item at the next boundary. -/
  | dbgdataRead (t : Nat) (src : Src) (g : Nat)
  /-- DBGDATA_WRITE (R379). A DBGDATA write sets the selected item of a halted engine under D2 or D3. -/
  | dbgdataWrite (t : Nat) (src : Src) (g : Nat) (val : Word)
  /-- JTAG_IDCODE (R381). The IDCODE instruction shifts out the identification code. -/
  | jtagIdcode (t : Nat)
  /-- JTAG_BYPASS (R381). The BYPASS instruction selects the bypass register. -/
  | jtagBypass (t : Nat)
  /-- JTAG_SAMPLE_PRELOAD (R381). The SAMPLE/PRELOAD instruction samples and preloads the boundary scan. -/
  | jtagSamplePreload (t : Nat) (cells : List Bool)
  /-- JTAG_EXTEST (R381). The EXTEST instruction drives boundary scan in Blank and Slate only. -/
  | jtagExtest (t : Nat)
  /-- JTAG_LCREAD (R382). The LCREAD instruction shifts out DEVSER, LCSTAT and LCRES. -/
  | jtagLcread (t : Nat)
  /-- JTAG_LCPUB (R382). The LCPUB instruction shifts out PUBKEY. -/
  | jtagLcpub (t : Nat)
  /-- JTAG_LCSTAGE (R382). The LCSTAGE instruction selects the staging buffer from offset 0. -/
  | jtagLcstage (t : Nat)
  /-- LCSTAGE_WORD_UPDATE (R382). Each data-register update writes the next staging-buffer word. -/
  | lcstageWordUpdate (t : Nat) (val : Word)
  /-- JTAG_LCCMD (R382). An LCCMD update acts as a life-cycle command from the JTAG path. -/
  | jtagLccmd (t : Nat) (val : Word)
  /-- JTAG_DBGNONCE (R381). The DBGNONCE instruction shifts out the current nonce. -/
  | jtagDbgnonce (t : Nat)
  /-- JTAG_TOKEN (R381). The TOKEN instruction loads a debug token. -/
  | jtagToken (t : Nat) (tok : List Byte)
  /-- JTAG_DBGOPEN (R376). The DBGOPEN instruction opens a debug session on the JTAG path. -/
  | jtagDbgopen (t level : Nat)
  /-- JTAG_DBGACC (R381). The DBGACC instruction performs one 32-bit BAR0 access within the session. -/
  | jtagDbgacc (t off : Nat) (wr : Option Word)
  /-- POWER_ON_RESET (R390). The core rails held in range for 1 ms release power-on reset and boot starts. -/
  | powerOnReset (t : Nat)
  /-- BOOT_FUSE_DONE (R391). Stage 1 reads fuses, handles interrupted transitions and prepares secure SRAM. -/
  | bootFuseDone (t : Nat) (keep : Bool)
  /-- BOOT_CLOCK_DONE (R391). Stage 2 locks the strobe PLL and starts the time spine. -/
  | bootClockDone (t : Nat)
  /-- BOOT_TEST_DONE (R391). Stage 3 self-tests all gondolas and assigns spares. -/
  | bootTestDone (t bad : Nat)
  /-- BOOT_CAL_DONE (R66). Stage 4 calibration runs end together and SPINESTAT.CALDONE is set. -/
  | bootCalDone (t : Nat)
  /-- BOOT_READY (R391). Stage 5 reads VOUT_MODE, sends the 0.80 V request and completes internal boot. -/
  | bootReady (t : Nat)
  /-- BOOT_STAGE_FAIL (R392). A fuse error or a PLL not locked after 20 ms resets once and then holds the device in reset. -/
  | bootStageFail (t stage : Nat)
  /-- BANKOESET (R395). A BANKOESET write releases bank output enables 40 ns after arrival, or refuses them. -/
  | bankoeset (t : Nat) (src : Src) (val : Word)
  /-- BANKOECLR (R395). A BANKOECLR write revokes bank output enables 40 ns after arrival. -/
  | bankoeclr (t : Nat) (src : Src) (val : Word)
  /-- BANK_OE_EFFECT (R395). An output-enable change takes effect and EV_BANKOE is raised. -/
  | bankOeEffect (t : Nat)
  /-- THERMTRIP_ASSERT (R401). A junction above 125 °C for 1 ms asserts THERMTRIP#. -/
  | thermtripAssert (t : Nat)
  /-- GETKEY_DONE (R364). The derivation of the identity key pair started by GETKEY completes, PUBKEY is exposed and LCRES.DONE is set. -/
  | getkeyDone (t : Nat)
  /-- STOPNOW_RUN_END (R162). 40 ns after a STOPNOW write arrives, the run ends without a PERIOD event, later counter and carrier edges are cancelled and the channel goes to STOPPED. -/
  | stopnowRunEnd (t n : Nat)
  /-- READER_LATENCY_TRACKING (R28). The background service re-measures each spine reader's synchroniser latency, updates SPINESTAT.SKEWMAX and queues any change for the next beacon. -/
  | readerLatencyTracking (t skew : Nat)
  /-- CONFIGURATION_REQUEST (R271). A PCI Express configuration request reaches a function and is answered, with Configuration Request Retry Status until internal boot completes and at once without waking in Drift or Moored. -/
  | configurationRequest (t f off : Nat) (wr : Option Word) (field : Option CfgField)
  /-- THERMTRIP_RELEASE (R401). THERMTRIP# is released once no junction sensor reads above 125 °C any longer. -/
  | thermtripRelease (t : Nat)
  deriving DecidableEq, Repr

end Sys2Proof
end

