-- ==== Sys2Proof/Decode.lean ====
section
/-! DEFINITION. The commands a word spells. No row of spec/opcode_table.json gives bits: a command is an access, an
event or an operation of the block, not a word (notes/assumptions/3.md). An instruction word of an engine is taken apart here
by the tables of R82 to R84 into the command that executes it. -/
namespace Sys2Proof
open Sys2Proof.Machine

/-- The command that a word of `nbits` bits spells by the table: none, since no row of it has bits. -/
def decodeTableWord (_nbits _w : Nat) : Option Instr := none

/-! ### Formats of an instruction word (R82) -/

def opOf (w : Nat) : Nat := bitsAt w 26 6
def fnOf (w : Nat) : Nat := bitsAt w 0 6
def fmtR (w : Nat) : FmtR := ⟨bitsAt w 22 4, bitsAt w 18 4, bitsAt w 14 4, bitAt w 13, bitsAt w 6 7⟩
def fmtI (w : Nat) : FmtI := ⟨bitsAt w 22 4, bitsAt w 18 4, bitsAt w 0 18⟩
def fmtU (w : Nat) : FmtU := ⟨bitsAt w 22 4, bitsAt w 16 6, bitsAt w 0 16⟩
def fmtM (w : Nat) : FmtM := ⟨bitsAt w 22 4, bitsAt w 18 4, bitsAt w 16 2, bitsAt w 0 16⟩
def fmtS (w : Nat) : FmtS := ⟨bitsAt w 22 4, bitsAt w 12 10, bitsAt w 0 12⟩
def fmtV (w : Nat) : FmtV := ⟨bitsAt w 22 4, bitsAt w 18 4, bitsAt w 0 18⟩
def fmtT (w : Nat) : FmtT := ⟨bitsAt w 22 4, bitsAt w 17 5, bitsAt w 0 16⟩
def fmtP (w : Nat) : FmtP := ⟨bitsAt w 22 4, bitsAt w 18 4, bitAt w 17, bitsAt w 13 4, bitsAt w 10 2, bitsAt w 0 10⟩
def fmtE (w : Nat) : FmtE := ⟨bitsAt w 22 4, bitsAt w 18 4, bitAt w 17, bitsAt w 13 4, bitsAt w 11 2, bitsAt w 8 3, bitsAt w 0 8⟩
def fmtB (w : Nat) : FmtB := ⟨bitsAt w 22 4, bitsAt w 0 22⟩
def fmtL (w : Nat) : FmtL := ⟨bitAt w 25, bitsAt w 21 4, bitsAt w 12 9, bitsAt w 0 12⟩
def fmtX (w : Nat) : FmtX := ⟨bitsAt w 16 10, bitsAt w 0 16⟩

/-- OP 0x01: register arithmetic and logic (R84). -/
def decAlu (t g w : Nat) : Option Instr :=
  match fnOf w with
  | 0x00 => some (.addR t g (fmtR w))
  | 0x01 => some (.subR t g (fmtR w))
  | 0x02 => some (.addt t g (fmtR w))
  | 0x03 => some (.subt t g (fmtR w))
  | 0x04 => some (.andR t g (fmtR w))
  | 0x05 => some (.orR t g (fmtR w))
  | 0x06 => some (.xorR t g (fmtR w))
  | 0x07 => some (.andn t g (fmtR w))
  | 0x08 => some (.shl t g (fmtR w))
  | 0x09 => some (.shr t g (fmtR w))
  | 0x0A => some (.sar t g (fmtR w))
  | 0x0B => some (.ror t g (fmtR w))
  | 0x0C => some (.cmp t g (fmtR w))
  | 0x0D => some (.tst t g (fmtR w))
  | 0x0E => some (.minR t g (fmtR w))
  | 0x0F => some (.maxR t g (fmtR w))
  | 0x10 => some (.movR t g (fmtR w))
  | 0x11 => some (.clz t g (fmtR w))
  | 0x12 => some (.absR t g (fmtR w))
  | 0x13 => some (.negR t g (fmtR w))
  | 0x18 => some (.mul t g (fmtR w))
  | 0x19 => some (.mulh t g (fmtR w))
  | 0x1A => some (.mulhu t g (fmtR w))
  | 0x1B => some (.mult t g (fmtR w))
  | 0x1C => some (.div t g (fmtR w))
  | 0x1D => some (.divu t g (fmtR w))
  | 0x1E => some (.rem t g (fmtR w))
  | 0x1F => some (.remu t g (fmtR w))
  | _ => none

/-- OP 0x0C: pairs (R84). -/
def decPair (t g w : Nat) : Option Instr :=
  match fnOf w with
  | 0x00 => some (.addp t g (fmtR w))
  | 0x01 => some (.subp t g (fmtR w))
  | 0x02 => some (.cmpp t g (fmtR w))
  | 0x03 => some (.movp t g (fmtR w))
  | 0x04 => some (.addpw t g (fmtR w))
  | _ => none

/-- OP 0x10: multiply-accumulate (R84). -/
def decAcc (t g w : Nat) : Option Instr :=
  match fnOf w with
  | 0x00 => some (.mac t g (fmtR w))
  | 0x01 => some (.msu t g (fmtR w))
  | 0x02 => some (.mpy t g (fmtR w))
  | 0x03 => some (.mclr t g (fmtR w))
  | 0x04 => some (.mrd t g (fmtR w))
  | 0x05 => some (.mld t g (fmtR w))
  | 0x06 => some (.mst t g (fmtR w))
  | _ => none

/-- OP 0x1E: atomics (R84); `err` is what the memory's ECC shows. -/
def decAtom (t g w : Nat) (err : Ecc) : Option Instr :=
  match fnOf w with
  | 0x00 => some (.aswpW t g (fmtR w) err)
  | 0x01 => some (.acasW t g (fmtR w) err)
  | 0x02 => some (.aaddW t g (fmtR w) err)
  | 0x03 => some (.aandW t g (fmtR w) err)
  | 0x04 => some (.aorW t g (fmtR w) err)
  | 0x08 => some (.aswpP t g (fmtR w) err)
  | 0x09 => some (.acasP t g (fmtR w) err)
  | 0x0A => some (.aaddP t g (fmtR w) err)
  | 0x0B => some (.aandP t g (fmtR w) err)
  | 0x0C => some (.aorP t g (fmtR w) err)
  | _ => none

/-- The instruction a word encodes for the engine of gondola `g` at instant `t`; none where R84 does not list its OP and FN. -/
def decodeListed (t g w : Nat) (err : Ecc) : Option Instr :=
  match opOf w with
  | 0x01 => decAlu t g w
  | 0x0C => decPair t g w
  | 0x10 => decAcc t g w
  | 0x1E => decAtom t g w err
  | 0x02 => some (.addi t g (fmtI w))
  | 0x03 => some (.andi t g (fmtI w))
  | 0x04 => some (.ori t g (fmtI w))
  | 0x05 => some (.xori t g (fmtI w))
  | 0x06 => some (.shli t g (fmtI w))
  | 0x07 => some (.shri t g (fmtI w))
  | 0x08 => some (.sari t g (fmtI w))
  | 0x09 => some (.cmpi t g (fmtI w))
  | 0x0A => some (.movl t g (fmtU w))
  | 0x0B => some (.movh t g (fmtU w))
  | 0x14 => some (.ldb t g (fmtM w) err)
  | 0x15 => some (.ldbu t g (fmtM w) err)
  | 0x16 => some (.ldh t g (fmtM w) err)
  | 0x17 => some (.ldhu t g (fmtM w) err)
  | 0x18 => some (.ldw t g (fmtM w) err)
  | 0x19 => some (.ldp t g (fmtM w) err)
  | 0x1A => some (.stb t g (fmtM w) err)
  | 0x1B => some (.sth t g (fmtM w) err)
  | 0x1C => some (.stw t g (fmtM w) err)
  | 0x1D => some (.stp t g (fmtM w) err)
  | 0x1F => some (.fenceI t g (fmtX w))
  | 0x20 => some (.mfs t g (fmtS w))
  | 0x21 => some (if (fmtS w).sreg = 0x13 then .mtsGstartw t g (fmtS w).rd (fmtS w).res else .mts t g (fmtS w))
  | 0x22 => some (if bitAt w 12 then .prdP t g (fmtP w) else .prd t g (fmtP w))
  | 0x23 => some (if bitAt w 12 then .pwrP t g (fmtP w) else .pwr t g (fmtP w))
  | 0x24 => some (.edge t g (fmtE w))
  | 0x25 => some (if bitAt w 16 then .tnowf t g (fmtT w) else .tnow t g (fmtT w))
  | 0x26 => some (.evtake t g (fmtV w))
  | 0x30 => some (.bCond t g (fmtB w))
  | 0x31 => some (.cbz t g (fmtB w))
  | 0x32 => some (.cbnz t g (fmtB w))
  | 0x33 => some (.jmp t g (bitsAt w 0 26))
  | 0x34 => some (.jl t g (bitsAt w 0 26))
  | 0x35 => some (.jr t g (fmtB w))
  | 0x36 => some (.jlr t g (fmtB w))
  | 0x38 => some (.loopI t g (fmtL w))
  | 0x39 => some (.eret t g (fmtX w))
  | 0x3C => some (.doneT t g (fmtX w))
  | 0x3D => some (.yieldT t g (fmtX w))
  | 0x3E => some (.trapI t g (fmtX w))
  | 0x3F => some (.nopI t g w)
  | _ => none

/-- The command that executes an instruction word: every word that encodes none is illegal, and goes by the NOP row (R83). -/
def decodeEngine (t g w : Nat) (err : Ecc) : Instr := (decodeListed t g w err).getD (.nopI t g w)

end Sys2Proof
end

