-- ==== Sys2Proof/Config.lean ====
section
/-! DEFINITION. The constants of the model without a body: values the spec leaves open or fixes outside it. Nothing in
Lean can evaluate them, so no proof leans on a value. -/
namespace Sys2Proof.Config

/-- A free value for the `i`-th value of a run that the spec leaves open (notes/assumptions/4.md). -/
opaque freeValue (i : Nat) : Nat

/-- C_PIN of a channel's pin in 0.1 pF, fused at test (R169). -/
opaque cPin (n : Nat) : Nat

/-- The SHA-384 hash of a message of bytes, as a number below 2³⁸⁴ (R122, R362). -/
opaque sha384 (msg : List Nat) : Nat

/-- Whether r and s are an ECDSA P-384 signature of a hash under a public key (R122). -/
opaque ecdsaOk (key hash r s : Nat) : Bool

/-- The microcode key of the part (R124). -/
opaque mcKey : Nat

/-- L_PHY of a tether port in 1/64 ns, fused at test (R308). -/
opaque lPhy (p : Nat) : Nat

/-- Whether an X.509 certificate verifies under a trust root (R310, R364). -/
opaque certOk (root : Nat) (cert : List Nat) : Bool

/-- The serial number that a certificate's subject names (R364). -/
opaque certSerial (cert : List Nat) : Nat

/-- The public key of a certificate (R364). -/
opaque certKey (cert : List Nat) : Nat

/-- Whether the certificate's subject organizationalUnitName is MASTER (R364). -/
opaque certMaster (cert : List Nat) : Bool

/-- DEVSER of the part, fused at test (R384). -/
opaque devSer : Nat

/-- DSEED of the part (R365). -/
opaque dseed : Nat

/-- The identity private key derived from DSEED and a nonce, and its public key (R364). -/
opaque idKey (seed nonce : Nat) : Nat
opaque pubKey (priv : Nat) : Nat

/-- The Spafort key in the security ROM (R365). -/
opaque spfKey : Nat

/-- Whether the part is of the -I grade; otherwise it is of the -C grade (R2, R3). -/
opaque gradeI : Bool

/-- MREG of a physical gondola: its mesh region, fused (R342). -/
opaque mreg (p : Nat) : Nat

/-- USED of a bank: its redundant column groups in use, fused (R327, R342). -/
opaque bankRep (b : Nat) : Nat

/-- MCMIN.MINVER, fused (R123). -/
opaque mcMin : Nat

/-- The microwords of the ROM, whose contents the spec does not give (R117). -/
opaque mcRom (a : Nat) : Nat

/-- What IDCODE shifts out (R381). -/
opaque idcode : Nat

end Sys2Proof.Config
end

