-- ==== Sys2Proof/Machine/RegMap.lean ====
section
/-! DEFINITION. The register map of BAR0, written from the register tables of the chapters and the register index
(R3, R4, R47, R404, R408 and every register table): for each register its block, offset and fields, and for each
block the access codes (R10) and reset value of every offset it implements. -/
namespace Sys2Proof.Machine

/-- The register blocks of BAR0. -/
inductive Blk where
  | glob | fn | tb | ef | mv | qc | teth | tp | eng | sch | ch | grp | tail | sp | k | an | sar | sd | rel | sec
  deriving DecidableEq, Repr

/-- The BAR0 offset of block number `n` of a kind (R4, R47, R404). -/
def blkBase (b : Blk) (n : Nat) : Nat :=
  match b with
  | .glob => 0
  | .fn => 0x2000 + 0x20 * n
  | .tb => 0x100000 + 0x1000 * n
  | .ef => 0x200000
  | .mv => 0x400000 + 0x40 * n
  | .qc => 0x401000
  | .teth => 0x800000
  | .tp => 0x801000 + 0x100 * n
  | .eng => 0x1000000 + 0x40000 * n
  | .sch => 0x1004000 + 0x40000 * n
  | .ch => 0x1010000 + 0x40000 * (n / 16) + 0x1000 * (n % 16)
  | .grp => 0x1010000 + 0x40000 * (n / 2) + 0x8000 * (n % 2)
  | .tail => 0x2400000 + 0x1000 * n
  | .sp => 0x2600000 + 0x1000 * n
  | .k => 0x2700000 + 0x20 * n
  | .an => 0x2700000
  | .sar => 0x2708000 + 0x400 * n
  | .sd => 0x2710000 + 0x40 * n
  | .rel => 0x2800000
  | .sec => 0x2C00000

/-- A field of a register: its block, the register's offset there, the stride of a register array, its lowest bit
and its width. -/
structure RField where
  blk : Blk
  off : Nat
  stride : Nat
  lo : Nat
  len : Nat
  deriving DecidableEq, Repr

/-- The BAR0 offset of the register of field `f` in block `n`, element `i` of its array. -/
def RField.adr (f : RField) (n i : Nat) : Nat := blkBase f.blk n + f.off + f.stride * i

/-- One implemented offset of a block, or an array of them: the bits of each access code (R10) and the reset word.
`rd` are the bits that read back, `rw` the plainly written ones. -/
structure RegRow where
  off : Nat
  cnt : Nat
  stride : Nat
  rw : Nat
  w1c : Nat
  rc : Nat
  wo : Nat
  rd : Nat
  reset : Nat
  deriving DecidableEq, Repr


/-- DEVID, the whole word. -/
def Reg.DEVID.WHOLE : RField := ⟨.glob, 0x0, 0, 0, 32⟩
def Reg.DEVID.PART : RField := ⟨.glob, 0x0, 0, 16, 16⟩
def Reg.DEVID.GRADE : RField := ⟨.glob, 0x0, 0, 12, 4⟩
def Reg.DEVID.STEPMAJ : RField := ⟨.glob, 0x0, 0, 8, 4⟩
def Reg.DEVID.STEPMIN : RField := ⟨.glob, 0x0, 0, 4, 4⟩
/-- BANKOESET, the whole word. -/
def Reg.BANKOESET.WHOLE : RField := ⟨.glob, 0x100, 0, 0, 32⟩
def Reg.BANKOESET.SET : RField := ⟨.glob, 0x100, 0, 0, 16⟩
/-- BANKOECLR, the whole word. -/
def Reg.BANKOECLR.WHOLE : RField := ⟨.glob, 0x104, 0, 0, 32⟩
def Reg.BANKOECLR.CLR : RField := ⟨.glob, 0x104, 0, 0, 16⟩
/-- BANKOESTAT, the whole word. -/
def Reg.BANKOESTAT.WHOLE : RField := ⟨.glob, 0x108, 0, 0, 32⟩
def Reg.BANKOESTAT.REF : RField := ⟨.glob, 0x108, 0, 16, 16⟩
def Reg.BANKOESTAT.OE : RField := ⟨.glob, 0x108, 0, 0, 16⟩
/-- BOOTSTAT, the whole word. -/
def Reg.BOOTSTAT.WHOLE : RField := ⟨.glob, 0x10c, 0, 0, 32⟩
def Reg.BOOTSTAT.DONE : RField := ⟨.glob, 0x10c, 0, 31, 1⟩
def Reg.BOOTSTAT.RETRIED : RField := ⟨.glob, 0x10c, 0, 30, 1⟩
def Reg.BOOTSTAT.DEGR : RField := ⟨.glob, 0x10c, 0, 29, 1⟩
def Reg.BOOTSTAT.SPAREUSE : RField := ⟨.glob, 0x10c, 0, 20, 4⟩
def Reg.BOOTSTAT.TIME : RField := ⟨.glob, 0x10c, 0, 0, 16⟩
/-- GSTARTMASK, the whole word. -/
def Reg.GSTARTMASK.WHOLE : RField := ⟨.glob, 0x200, 4, 0, 32⟩
def Reg.GSTARTMASK.SEL : RField := ⟨.glob, 0x200, 4, 0, 32⟩
/-- GSTART, the whole word. -/
def Reg.GSTART.WHOLE : RField := ⟨.glob, 0x280, 0, 0, 32⟩
def Reg.GSTART.RESTART : RField := ⟨.glob, 0x280, 0, 2, 1⟩
def Reg.GSTART.TIMED : RField := ⟨.glob, 0x280, 0, 1, 1⟩
def Reg.GSTART.GO : RField := ⟨.glob, 0x280, 0, 0, 1⟩
/-- GSTARTSTAT, the whole word. -/
def Reg.GSTARTSTAT.WHOLE : RField := ⟨.glob, 0x284, 0, 0, 32⟩
def Reg.GSTARTSTAT.PEND : RField := ⟨.glob, 0x284, 0, 31, 1⟩
def Reg.GSTARTSTAT.REFUSED : RField := ⟨.glob, 0x284, 0, 30, 1⟩
def Reg.GSTARTSTAT.LATE : RField := ⟨.glob, 0x284, 0, 29, 1⟩
def Reg.GSTARTSTAT.EVER : RField := ⟨.glob, 0x284, 0, 28, 1⟩
def Reg.GSTARTSTAT.SKIPPED : RField := ⟨.glob, 0x284, 0, 0, 11⟩
/-- GSTARTTS_LO, the whole word. -/
def Reg.GSTARTTS_LO.WHOLE : RField := ⟨.glob, 0x288, 0, 0, 32⟩
def Reg.GSTARTTS_LO.VALUE : RField := ⟨.glob, 0x288, 0, 0, 32⟩
/-- GSTARTTS_HI, the whole word. -/
def Reg.GSTARTTS_HI.WHOLE : RField := ⟨.glob, 0x28c, 0, 0, 32⟩
def Reg.GSTARTTS_HI.VALUE : RField := ⟨.glob, 0x28c, 0, 0, 32⟩
/-- GSTARTAT_LO, the whole word. -/
def Reg.GSTARTAT_LO.WHOLE : RField := ⟨.glob, 0x290, 0, 0, 32⟩
def Reg.GSTARTAT_LO.VALUE : RField := ⟨.glob, 0x290, 0, 0, 32⟩
/-- GSTARTAT_HI, the whole word. -/
def Reg.GSTARTAT_HI.WHOLE : RField := ⟨.glob, 0x294, 0, 0, 32⟩
def Reg.GSTARTAT_HI.VALUE : RField := ⟨.glob, 0x294, 0, 0, 32⟩
/-- PWRCTL, the whole word. -/
def Reg.PWRCTL.WHOLE : RField := ⟨.glob, 0x400, 0, 0, 32⟩
def Reg.PWRCTL.GO : RField := ⟨.glob, 0x400, 0, 31, 1⟩
def Reg.PWRCTL.TGT : RField := ⟨.glob, 0x400, 0, 29, 2⟩
def Reg.PWRCTL.GNDKEY : RField := ⟨.glob, 0x400, 0, 16, 8⟩
def Reg.PWRCTL.AUTO : RField := ⟨.glob, 0x400, 0, 15, 1⟩
def Reg.PWRCTL.MOOREN : RField := ⟨.glob, 0x400, 0, 14, 1⟩
def Reg.PWRCTL.TETHKEEP : RField := ⟨.glob, 0x400, 0, 13, 1⟩
def Reg.PWRCTL.PMOFF : RField := ⟨.glob, 0x400, 0, 12, 1⟩
def Reg.PWRCTL.DWELL : RField := ⟨.glob, 0x400, 0, 0, 12⟩
/-- PWRSTAT, the whole word. -/
def Reg.PWRSTAT.WHOLE : RField := ⟨.glob, 0x404, 0, 0, 32⟩
def Reg.PWRSTAT.STATE : RField := ⟨.glob, 0x404, 0, 29, 3⟩
def Reg.PWRSTAT.REFUSED : RField := ⟨.glob, 0x404, 0, 28, 1⟩
def Reg.PWRSTAT.REASON : RField := ⟨.glob, 0x404, 0, 24, 4⟩
def Reg.PWRSTAT.LOGLOST : RField := ⟨.glob, 0x404, 0, 16, 8⟩
def Reg.PWRSTAT.WAKES : RField := ⟨.glob, 0x404, 0, 0, 16⟩
/-- WAKETOL, the whole word. -/
def Reg.WAKETOL.WHOLE : RField := ⟨.glob, 0x408, 0, 0, 32⟩
def Reg.WAKETOL.TOL : RField := ⟨.glob, 0x408, 0, 0, 24⟩
/-- WAKEEN, the whole word. -/
def Reg.WAKEEN.WHOLE : RField := ⟨.glob, 0x40c, 0, 0, 32⟩
def Reg.WAKEEN.TIMER : RField := ⟨.glob, 0x40c, 0, 31, 1⟩
def Reg.WAKEEN.TETH : RField := ⟨.glob, 0x40c, 0, 30, 1⟩
def Reg.WAKEEN.WD : RField := ⟨.glob, 0x40c, 0, 29, 1⟩
def Reg.WAKEEN.SUPPLY : RField := ⟨.glob, 0x40c, 0, 28, 1⟩
/-- WAKEAT_LO, the whole word. -/
def Reg.WAKEAT_LO.WHOLE : RField := ⟨.glob, 0x410, 0, 0, 32⟩
def Reg.WAKEAT_LO.VALUE : RField := ⟨.glob, 0x410, 0, 0, 32⟩
/-- WAKEAT_HI, the whole word. -/
def Reg.WAKEAT_HI.WHOLE : RField := ⟨.glob, 0x414, 0, 0, 32⟩
def Reg.WAKEAT_HI.VALUE : RField := ⟨.glob, 0x414, 0, 0, 32⟩
/-- WAKELAT, the whole word. -/
def Reg.WAKELAT.WHOLE : RField := ⟨.glob, 0x418, 0, 0, 32⟩
def Reg.WAKELAT.MAX : RField := ⟨.glob, 0x418, 0, 16, 16⟩
def Reg.WAKELAT.LAST : RField := ⟨.glob, 0x418, 0, 0, 16⟩
/-- WAKECAUSE, the whole word. -/
def Reg.WAKECAUSE.WHOLE : RField := ⟨.glob, 0x41c, 0, 0, 32⟩
def Reg.WAKECAUSE.CAUSE : RField := ⟨.glob, 0x41c, 0, 28, 4⟩
def Reg.WAKECAUSE.INDEX : RField := ⟨.glob, 0x41c, 0, 0, 8⟩
/-- AVSCTL, the whole word. -/
def Reg.AVSCTL.WHOLE : RField := ⟨.glob, 0x420, 0, 0, 32⟩
def Reg.AVSCTL.EN : RField := ⟨.glob, 0x420, 0, 31, 1⟩
def Reg.AVSCTL.RETRY : RField := ⟨.glob, 0x420, 0, 30, 1⟩
def Reg.AVSCTL.VMAX : RField := ⟨.glob, 0x420, 0, 20, 10⟩
def Reg.AVSCTL.VMIN : RField := ⟨.glob, 0x420, 0, 10, 10⟩
/-- AVSSTAT, the whole word. -/
def Reg.AVSSTAT.WHOLE : RField := ⟨.glob, 0x424, 0, 0, 32⟩
def Reg.AVSSTAT.PMFAIL : RField := ⟨.glob, 0x424, 0, 31, 1⟩
def Reg.AVSSTAT.SETTLING : RField := ⟨.glob, 0x424, 0, 30, 1⟩
def Reg.AVSSTAT.REQ : RField := ⟨.glob, 0x424, 0, 20, 10⟩
def Reg.AVSSTAT.LOOP : RField := ⟨.glob, 0x424, 0, 10, 10⟩
/-- PMBCFG, the whole word. -/
def Reg.PMBCFG.WHOLE : RField := ⟨.glob, 0x428, 0, 0, 32⟩
def Reg.PMBCFG.AVSK : RField := ⟨.glob, 0x428, 0, 16, 16⟩
def Reg.PMBCFG.PEC : RField := ⟨.glob, 0x428, 0, 15, 1⟩
def Reg.PMBCFG.ADDR : RField := ⟨.glob, 0x428, 0, 0, 7⟩
/-- SUPMON, the whole word. -/
def Reg.SUPMON.WHOLE : RField := ⟨.glob, 0x440, 4, 0, 32⟩
def Reg.SUPMON.FAULT : RField := ⟨.glob, 0x440, 4, 31, 1⟩
def Reg.SUPMON.WARN : RField := ⟨.glob, 0x440, 4, 30, 1⟩
def Reg.SUPMON.SEEN : RField := ⟨.glob, 0x440, 4, 29, 1⟩
def Reg.SUPMON.HI : RField := ⟨.glob, 0x440, 4, 28, 1⟩
def Reg.SUPMON.MIN : RField := ⟨.glob, 0x440, 4, 12, 12⟩
def Reg.SUPMON.LEVEL : RField := ⟨.glob, 0x440, 4, 0, 12⟩
/-- BRIDLE, the whole word. -/
def Reg.BRIDLE.WHOLE : RField := ⟨.glob, 0x1000, 4, 0, 32⟩
def Reg.BRIDLE.SHARED : RField := ⟨.glob, 0x1000, 4, 31, 1⟩
def Reg.BRIDLE.OWNER : RField := ⟨.glob, 0x1000, 4, 28, 3⟩
def Reg.BRIDLE.VF : RField := ⟨.glob, 0x1000, 4, 24, 4⟩
def Reg.BRIDLE.COOWN : RField := ⟨.glob, 0x1000, 4, 21, 3⟩
def Reg.BRIDLE.COVF : RField := ⟨.glob, 0x1000, 4, 17, 4⟩

/-- FNQR, the whole word. -/
def Reg.FNQR.WHOLE : RField := ⟨.fn, 0x0, 0, 0, 32⟩
def Reg.FNQR.QFIRST : RField := ⟨.fn, 0x0, 0, 16, 8⟩
def Reg.FNQR.QCNT : RField := ⟨.fn, 0x0, 0, 0, 9⟩
/-- FNVR, the whole word. -/
def Reg.FNVR.WHOLE : RField := ⟨.fn, 0x4, 0, 0, 32⟩
def Reg.FNVR.VFIRST : RField := ⟨.fn, 0x4, 0, 16, 11⟩
def Reg.FNVR.VCNT : RField := ⟨.fn, 0x4, 0, 0, 12⟩
/-- FNWIN, the whole word. -/
def Reg.FNWIN.WHOLE : RField := ⟨.fn, 0x8, 0, 0, 32⟩
def Reg.FNWIN.WBASE : RField := ⟨.fn, 0x8, 0, 16, 9⟩
def Reg.FNWIN.WSIZE : RField := ⟨.fn, 0x8, 0, 0, 9⟩
/-- FNQBASE_LO, the whole word. -/
def Reg.FNQBASE_LO.WHOLE : RField := ⟨.fn, 0xc, 0, 0, 32⟩
def Reg.FNQBASE_LO.ADDR : RField := ⟨.fn, 0xc, 0, 6, 26⟩
/-- FNQBASE_HI, the whole word. -/
def Reg.FNQBASE_HI.WHOLE : RField := ⟨.fn, 0x10, 0, 0, 32⟩
def Reg.FNQBASE_HI.ADDR : RField := ⟨.fn, 0x10, 0, 0, 16⟩
/-- HOSTWD, the whole word. -/
def Reg.HOSTWD.WHOLE : RField := ⟨.fn, 0x14, 0, 0, 32⟩
def Reg.HOSTWD.ACT : RField := ⟨.fn, 0x14, 0, 31, 1⟩
def Reg.HOSTWD.KICK : RField := ⟨.fn, 0x14, 0, 30, 1⟩
def Reg.HOSTWD.PERIOD : RField := ⟨.fn, 0x14, 0, 0, 24⟩
/-- FNSTAT, the whole word. -/
def Reg.FNSTAT.WHOLE : RField := ⟨.fn, 0x18, 0, 0, 32⟩
def Reg.FNSTAT.WDEXP : RField := ⟨.fn, 0x18, 0, 31, 1⟩
def Reg.FNSTAT.AUTHDROP : RField := ⟨.fn, 0x18, 0, 0, 16⟩

/-- TBCTL, the whole word. -/
def Reg.TBCTL.WHOLE : RField := ⟨.tb, 0x0, 0, 0, 32⟩
def Reg.TBCTL.LOADGO : RField := ⟨.tb, 0x0, 0, 31, 1⟩
def Reg.TBCTL.LOADFORCE : RField := ⟨.tb, 0x0, 0, 30, 1⟩
def Reg.TBCTL.SLEWABORT : RField := ⟨.tb, 0x0, 0, 29, 1⟩
def Reg.TBCTL.MODE : RField := ⟨.tb, 0x0, 0, 24, 2⟩
def Reg.TBCTL.SPOOL : RField := ⟨.tb, 0x0, 0, 16, 5⟩
def Reg.TBCTL.RUN : RField := ⟨.tb, 0x0, 0, 0, 1⟩
/-- TBSTAT, the whole word. -/
def Reg.TBSTAT.WHOLE : RField := ⟨.tb, 0x4, 0, 0, 32⟩
def Reg.TBSTAT.CHGPEND : RField := ⟨.tb, 0x4, 0, 31, 1⟩
def Reg.TBSTAT.SLEWING : RField := ⟨.tb, 0x4, 0, 30, 1⟩
def Reg.TBSTAT.LOADREF : RField := ⟨.tb, 0x4, 0, 29, 1⟩
def Reg.TBSTAT.HOLD : RField := ⟨.tb, 0x4, 0, 28, 1⟩
def Reg.TBSTAT.REBASE : RField := ⟨.tb, 0x4, 0, 27, 1⟩
/-- NS_LO, the whole word. -/
def Reg.NS_LO.WHOLE : RField := ⟨.tb, 0x8, 0, 0, 32⟩
def Reg.NS_LO.VALUE : RField := ⟨.tb, 0x8, 0, 0, 32⟩
/-- NS_HI, the whole word. -/
def Reg.NS_HI.WHOLE : RField := ⟨.tb, 0xc, 0, 0, 32⟩
def Reg.NS_HI.VALUE : RField := ⟨.tb, 0xc, 0, 0, 32⟩
/-- FRAC, the whole word. -/
def Reg.FRAC.WHOLE : RField := ⟨.tb, 0x10, 0, 0, 32⟩
def Reg.FRAC.FRAC : RField := ⟨.tb, 0x10, 0, 0, 6⟩
/-- RATE, the whole word. -/
def Reg.RATE.WHOLE : RField := ⟨.tb, 0x14, 0, 0, 32⟩
def Reg.RATE.RATE : RField := ⟨.tb, 0x14, 0, 0, 32⟩
/-- RATESET, the whole word. -/
def Reg.RATESET.WHOLE : RField := ⟨.tb, 0x18, 0, 0, 32⟩
def Reg.RATESET.RATE : RField := ⟨.tb, 0x18, 0, 0, 32⟩
/-- SLEWOFF, the whole word. -/
def Reg.SLEWOFF.WHOLE : RField := ⟨.tb, 0x20, 0, 0, 32⟩
def Reg.SLEWOFF.OFFSET : RField := ⟨.tb, 0x20, 0, 0, 32⟩
/-- SLEWREM, the whole word. -/
def Reg.SLEWREM.WHOLE : RField := ⟨.tb, 0x24, 0, 0, 32⟩
def Reg.SLEWREM.OFFSET : RField := ⟨.tb, 0x24, 0, 0, 32⟩
/-- SLEWMAX, the whole word. -/
def Reg.SLEWMAX.WHOLE : RField := ⟨.tb, 0x28, 0, 0, 32⟩
def Reg.SLEWMAX.PPM : RField := ⟨.tb, 0x28, 0, 0, 16⟩
/-- LOAD_LO, the whole word. -/
def Reg.LOAD_LO.WHOLE : RField := ⟨.tb, 0x30, 0, 0, 32⟩
def Reg.LOAD_LO.VALUE : RField := ⟨.tb, 0x30, 0, 0, 32⟩
/-- LOAD_HI, the whole word. -/
def Reg.LOAD_HI.WHOLE : RField := ⟨.tb, 0x34, 0, 0, 32⟩
def Reg.LOAD_HI.VALUE : RField := ⟨.tb, 0x34, 0, 0, 32⟩
/-- LOADFRAC, the whole word. -/
def Reg.LOADFRAC.WHOLE : RField := ⟨.tb, 0x38, 0, 0, 32⟩
def Reg.LOADFRAC.FRAC : RField := ⟨.tb, 0x38, 0, 0, 6⟩
/-- TICKNS, the whole word. -/
def Reg.TICKNS.WHOLE : RField := ⟨.tb, 0x40, 0, 0, 32⟩
def Reg.TICKNS.NSPT : RField := ⟨.tb, 0x40, 0, 0, 32⟩
/-- DISCCTL, the whole word. -/
def Reg.DISCCTL.WHOLE : RField := ⟨.tb, 0x80, 0, 0, 32⟩
def Reg.DISCCTL.PPSOUTEN : RField := ⟨.tb, 0x80, 0, 13, 1⟩
def Reg.DISCCTL.PPSPOL : RField := ⟨.tb, 0x80, 0, 12, 1⟩
def Reg.DISCCTL.BW : RField := ⟨.tb, 0x80, 0, 8, 2⟩
def Reg.DISCCTL.REFFREQ : RField := ⟨.tb, 0x80, 0, 4, 2⟩
def Reg.DISCCTL.SRC : RField := ⟨.tb, 0x80, 0, 0, 3⟩
/-- DISCSTAT, the whole word. -/
def Reg.DISCSTAT.WHOLE : RField := ⟨.tb, 0x84, 0, 0, 32⟩
def Reg.DISCSTAT.RANGE : RField := ⟨.tb, 0x84, 0, 11, 1⟩
def Reg.DISCSTAT.TETHOK : RField := ⟨.tb, 0x84, 0, 10, 1⟩
def Reg.DISCSTAT.PPSOK : RField := ⟨.tb, 0x84, 0, 9, 1⟩
def Reg.DISCSTAT.REFOK : RField := ⟨.tb, 0x84, 0, 8, 1⟩
def Reg.DISCSTAT.SRCACT : RField := ⟨.tb, 0x84, 0, 4, 3⟩
def Reg.DISCSTAT.STATE : RField := ⟨.tb, 0x84, 0, 0, 3⟩
/-- PHASEERR, the whole word. -/
def Reg.PHASEERR.WHOLE : RField := ⟨.tb, 0x88, 0, 0, 32⟩
def Reg.PHASEERR.ERR : RField := ⟨.tb, 0x88, 0, 0, 32⟩
/-- FREQERR, the whole word. -/
def Reg.FREQERR.WHOLE : RField := ⟨.tb, 0x8c, 0, 0, 32⟩
def Reg.FREQERR.ERR : RField := ⟨.tb, 0x8c, 0, 0, 32⟩

/-- ROUTEBASE, the whole word. -/
def Reg.ROUTEBASE.WHOLE : RField := ⟨.ef, 0x0, 0, 0, 32⟩
def Reg.ROUTEBASE.BASE : RField := ⟨.ef, 0x0, 0, 16, 9⟩
/-- CHDBASE, the whole word. -/
def Reg.CHDBASE.WHOLE : RField := ⟨.ef, 0x4, 0, 0, 32⟩
def Reg.CHDBASE.BASE : RField := ⟨.ef, 0x4, 0, 14, 11⟩
/-- EFCTL, the whole word. -/
def Reg.EFCTL.WHOLE : RField := ⟨.ef, 0x8, 0, 0, 32⟩
def Reg.EFCTL.EN : RField := ⟨.ef, 0x8, 0, 0, 1⟩
/-- INVAL, the whole word. -/
def Reg.INVAL.WHOLE : RField := ⟨.ef, 0x10, 0, 0, 32⟩
def Reg.INVAL.TYPE : RField := ⟨.ef, 0x10, 0, 30, 2⟩
def Reg.INVAL.INDEX : RField := ⟨.ef, 0x10, 0, 0, 13⟩
/-- INVALSTAT, the whole word. -/
def Reg.INVALSTAT.WHOLE : RField := ⟨.ef, 0x14, 0, 0, 32⟩
def Reg.INVALSTAT.BUSY : RField := ⟨.ef, 0x14, 0, 31, 1⟩
def Reg.INVALSTAT.REFUSED : RField := ⟨.ef, 0x14, 0, 30, 1⟩
def Reg.INVALSTAT.DONECNT : RField := ⟨.ef, 0x14, 0, 0, 16⟩
/-- COHSTAT, the whole word. -/
def Reg.COHSTAT.WHOLE : RField := ⟨.ef, 0x20, 0, 0, 32⟩
def Reg.COHSTAT.LATE : RField := ⟨.ef, 0x20, 0, 31, 1⟩
def Reg.COHSTAT.LASTSWEEP : RField := ⟨.ef, 0x20, 0, 0, 24⟩
/-- STALECNT, the whole word. -/
def Reg.STALECNT.WHOLE : RField := ⟨.ef, 0x24, 0, 0, 32⟩
def Reg.STALECNT.COUNT : RField := ⟨.ef, 0x24, 0, 0, 32⟩
/-- UNROUTED, the whole word. -/
def Reg.UNROUTED.WHOLE : RField := ⟨.ef, 0x28, 0, 0, 32⟩
def Reg.UNROUTED.COUNT : RField := ⟨.ef, 0x28, 0, 0, 32⟩
/-- EVDROP, the whole word. -/
def Reg.EVDROP.WHOLE : RField := ⟨.ef, 0x2c, 0, 0, 32⟩
def Reg.EVDROP.COUNT : RField := ⟨.ef, 0x2c, 0, 0, 32⟩

/-- MVCTL, the whole word. -/
def Reg.MVCTL.WHOLE : RField := ⟨.mv, 0x0, 0, 0, 32⟩
def Reg.MVCTL.GO : RField := ⟨.mv, 0x0, 0, 31, 1⟩
def Reg.MVCTL.STOP : RField := ⟨.mv, 0x0, 0, 30, 1⟩
/-- MVSTAT, the whole word. -/
def Reg.MVSTAT.WHOLE : RField := ⟨.mv, 0x4, 0, 0, 32⟩
def Reg.MVSTAT.STATE : RField := ⟨.mv, 0x4, 0, 29, 3⟩
def Reg.MVSTAT.ERR : RField := ⟨.mv, 0x4, 0, 24, 4⟩
def Reg.MVSTAT.RETRY : RField := ⟨.mv, 0x4, 0, 16, 2⟩
/-- MVHEAD_LO, the whole word. -/
def Reg.MVHEAD_LO.WHOLE : RField := ⟨.mv, 0x8, 0, 0, 32⟩
def Reg.MVHEAD_LO.ADDR : RField := ⟨.mv, 0x8, 0, 6, 26⟩
def Reg.MVHEAD_LO.SP : RField := ⟨.mv, 0x8, 0, 0, 1⟩
/-- MVHEAD_HI, the whole word. -/
def Reg.MVHEAD_HI.WHOLE : RField := ⟨.mv, 0xc, 0, 0, 32⟩
def Reg.MVHEAD_HI.ADDR : RField := ⟨.mv, 0xc, 0, 0, 16⟩
/-- MVCUR_LO, the whole word. -/
def Reg.MVCUR_LO.WHOLE : RField := ⟨.mv, 0x10, 0, 0, 32⟩
def Reg.MVCUR_LO.ADDR : RField := ⟨.mv, 0x10, 0, 0, 32⟩
/-- MVCUR_HI, the whole word. -/
def Reg.MVCUR_HI.WHOLE : RField := ⟨.mv, 0x14, 0, 0, 32⟩
def Reg.MVCUR_HI.ADDR : RField := ⟨.mv, 0x14, 0, 0, 32⟩
/-- MVSEQ, the whole word. -/
def Reg.MVSEQ.WHOLE : RField := ⟨.mv, 0x18, 0, 0, 32⟩
def Reg.MVSEQ.SEQ : RField := ⟨.mv, 0x18, 0, 0, 32⟩

/-- QCMD, the whole word. -/
def Reg.QCMD.WHOLE : RField := ⟨.qc, 0x0, 0, 0, 32⟩
def Reg.QCMD.OP : RField := ⟨.qc, 0x0, 0, 29, 3⟩
def Reg.QCMD.QUEUE : RField := ⟨.qc, 0x0, 0, 0, 18⟩
/-- QCMDSTAT, the whole word. -/
def Reg.QCMDSTAT.WHOLE : RField := ⟨.qc, 0x4, 0, 0, 32⟩
def Reg.QCMDSTAT.BUSY : RField := ⟨.qc, 0x4, 0, 31, 1⟩
def Reg.QCMDSTAT.ERR : RField := ⟨.qc, 0x4, 0, 30, 1⟩

/-- TCTL, the whole word. -/
def Reg.TCTL.WHOLE : RField := ⟨.teth, 0x0, 0, 0, 32⟩
def Reg.TCTL.EN : RField := ⟨.teth, 0x0, 0, 31, 1⟩
def Reg.TCTL.ROLE : RField := ⟨.teth, 0x0, 0, 29, 2⟩
def Reg.TCTL.PRIO : RField := ⟨.teth, 0x0, 0, 25, 4⟩
def Reg.TCTL.IDXEN : RField := ⟨.teth, 0x0, 0, 24, 1⟩
def Reg.TCTL.IDXREQ : RField := ⟨.teth, 0x0, 0, 19, 5⟩
def Reg.TCTL.MSAFE : RField := ⟨.teth, 0x0, 0, 18, 1⟩
def Reg.TCTL.MGRACE : RField := ⟨.teth, 0x0, 0, 0, 16⟩
/-- TSTAT, the whole word. -/
def Reg.TSTAT.WHOLE : RField := ⟨.teth, 0x4, 0, 0, 32⟩
def Reg.TSTAT.MASTER : RField := ⟨.teth, 0x4, 0, 31, 1⟩
def Reg.TSTAT.ADMITTED : RField := ⟨.teth, 0x4, 0, 30, 1⟩
def Reg.TSTAT.CONFLICT : RField := ⟨.teth, 0x4, 0, 29, 1⟩
def Reg.TSTAT.MLOST : RField := ⟨.teth, 0x4, 0, 28, 1⟩
def Reg.TSTAT.ELECTED : RField := ⟨.teth, 0x4, 0, 27, 1⟩
def Reg.TSTAT.IDX : RField := ⟨.teth, 0x4, 0, 22, 5⟩
def Reg.TSTAT.MIDX : RField := ⟨.teth, 0x4, 0, 17, 5⟩
def Reg.TSTAT.NDEV : RField := ⟨.teth, 0x4, 0, 11, 6⟩
def Reg.TSTAT.UPV : RField := ⟨.teth, 0x4, 0, 10, 1⟩
def Reg.TSTAT.UPPORT : RField := ⟨.teth, 0x4, 0, 8, 2⟩
/-- TDEVMAP, the whole word. -/
def Reg.TDEVMAP.WHOLE : RField := ⟨.teth, 0x8, 0, 0, 32⟩
def Reg.TDEVMAP.MAP : RField := ⟨.teth, 0x8, 0, 0, 32⟩
/-- TMAXLAT, the whole word. -/
def Reg.TMAXLAT.WHOLE : RField := ⟨.teth, 0xc, 0, 0, 32⟩
def Reg.TMAXLAT.NS : RField := ⟨.teth, 0xc, 0, 0, 16⟩
/-- TCAP, the whole word. -/
def Reg.TCAP.WHOLE : RField := ⟨.teth, 0x10, 0, 0, 32⟩
def Reg.TCAP.PROTO : RField := ⟨.teth, 0x10, 0, 24, 8⟩
def Reg.TCAP.MCAP : RField := ⟨.teth, 0x10, 0, 23, 1⟩
def Reg.TCAP.LC : RField := ⟨.teth, 0x10, 0, 16, 4⟩
def Reg.TCAP.PART : RField := ⟨.teth, 0x10, 0, 0, 16⟩
/-- IMPLOST, the whole word. -/
def Reg.IMPLOST.WHOLE : RField := ⟨.teth, 0x14, 0, 0, 32⟩
def Reg.IMPLOST.COUNT : RField := ⟨.teth, 0x14, 0, 0, 32⟩
/-- CGSTART, the whole word. -/
def Reg.CGSTART.WHOLE : RField := ⟨.teth, 0x20, 0, 0, 32⟩
def Reg.CGSTART.RESTART : RField := ⟨.teth, 0x20, 0, 1, 1⟩
def Reg.CGSTART.GO : RField := ⟨.teth, 0x20, 0, 0, 1⟩
/-- CGSTAT, the whole word. -/
def Reg.CGSTAT.WHOLE : RField := ⟨.teth, 0x24, 0, 0, 32⟩
def Reg.CGSTAT.PEND : RField := ⟨.teth, 0x24, 0, 31, 1⟩
def Reg.CGSTAT.REFUSED : RField := ⟨.teth, 0x24, 0, 30, 1⟩
def Reg.CGSTAT.NLATE : RField := ⟨.teth, 0x24, 0, 8, 6⟩
def Reg.CGSTAT.NACK : RField := ⟨.teth, 0x24, 0, 0, 6⟩
/-- CGSTARTAT_LO, the whole word. -/
def Reg.CGSTARTAT_LO.WHOLE : RField := ⟨.teth, 0x28, 0, 0, 32⟩
def Reg.CGSTARTAT_LO.VALUE : RField := ⟨.teth, 0x28, 0, 0, 32⟩
/-- CGSTARTAT_HI, the whole word. -/
def Reg.CGSTARTAT_HI.WHOLE : RField := ⟨.teth, 0x2c, 0, 0, 32⟩
def Reg.CGSTARTAT_HI.VALUE : RField := ⟨.teth, 0x2c, 0, 0, 32⟩
/-- RWCTL, the whole word. -/
def Reg.RWCTL.WHOLE : RField := ⟨.teth, 0x40, 0, 0, 32⟩
def Reg.RWCTL.GO : RField := ⟨.teth, 0x40, 0, 31, 1⟩
def Reg.RWCTL.WR : RField := ⟨.teth, 0x40, 0, 30, 1⟩
def Reg.RWCTL.DEV : RField := ⟨.teth, 0x40, 0, 25, 5⟩
def Reg.RWCTL.OFF : RField := ⟨.teth, 0x40, 0, 0, 24⟩
/-- RWDATA, the whole word. -/
def Reg.RWDATA.WHOLE : RField := ⟨.teth, 0x44, 0, 0, 32⟩
def Reg.RWDATA.DATA : RField := ⟨.teth, 0x44, 0, 0, 32⟩
/-- RWSTAT, the whole word. -/
def Reg.RWSTAT.WHOLE : RField := ⟨.teth, 0x48, 0, 0, 32⟩
def Reg.RWSTAT.BUSY : RField := ⟨.teth, 0x48, 0, 31, 1⟩
def Reg.RWSTAT.RES : RField := ⟨.teth, 0x48, 0, 28, 3⟩
/-- IMPORT, the whole word. -/
def Reg.IMPORT.WHOLE : RField := ⟨.teth, 0x100, 4, 0, 32⟩
def Reg.IMPORT.EN : RField := ⟨.teth, 0x100, 4, 31, 1⟩
def Reg.IMPORT.ACT : RField := ⟨.teth, 0x100, 4, 30, 1⟩
def Reg.IMPORT.SRCDEV : RField := ⟨.teth, 0x100, 4, 25, 5⟩
def Reg.IMPORT.SRCID : RField := ⟨.teth, 0x100, 4, 0, 13⟩

/-- TPCTL, the whole word. -/
def Reg.TPCTL.WHOLE : RField := ⟨.tp, 0x0, 0, 0, 32⟩
def Reg.TPCTL.EN : RField := ⟨.tp, 0x0, 0, 31, 1⟩
def Reg.TPCTL.RETRY : RField := ⟨.tp, 0x0, 0, 30, 1⟩
def Reg.TPCTL.ASYM : RField := ⟨.tp, 0x0, 0, 16, 8⟩
def Reg.TPCTL.VPROP : RField := ⟨.tp, 0x0, 0, 8, 8⟩
/-- TPSTAT, the whole word. -/
def Reg.TPSTAT.WHOLE : RField := ⟨.tp, 0x4, 0, 0, 32⟩
def Reg.TPSTAT.STATE : RField := ⟨.tp, 0x4, 0, 28, 4⟩
def Reg.TPSTAT.UPSTREAM : RField := ⟨.tp, 0x4, 0, 27, 1⟩
def Reg.TPSTAT.LANES : RField := ⟨.tp, 0x4, 0, 26, 1⟩
def Reg.TPSTAT.SLOW : RField := ⟨.tp, 0x4, 0, 25, 1⟩
def Reg.TPSTAT.PIDX : RField := ⟨.tp, 0x4, 0, 20, 5⟩
def Reg.TPSTAT.PVALID : RField := ⟨.tp, 0x4, 0, 19, 1⟩
def Reg.TPSTAT.LASTERR : RField := ⟨.tp, 0x4, 0, 12, 4⟩
/-- TPDELAY, the whole word. -/
def Reg.TPDELAY.WHOLE : RField := ⟨.tp, 0x8, 0, 0, 32⟩
def Reg.TPDELAY.VALID : RField := ⟨.tp, 0x8, 0, 31, 1⟩
def Reg.TPDELAY.CM : RField := ⟨.tp, 0x8, 0, 16, 15⟩
def Reg.TPDELAY.DLY : RField := ⟨.tp, 0x8, 0, 0, 16⟩
/-- TPOFFS, the whole word. -/
def Reg.TPOFFS.WHOLE : RField := ⟨.tp, 0xc, 0, 0, 32⟩
def Reg.TPOFFS.THETA : RField := ⟨.tp, 0xc, 0, 0, 32⟩
/-- TPPCAP, the whole word. -/
def Reg.TPPCAP.WHOLE : RField := ⟨.tp, 0x10, 0, 0, 32⟩
def Reg.TPPCAP.CAP : RField := ⟨.tp, 0x10, 0, 0, 32⟩
/-- TPPSER_LO, the whole word. -/
def Reg.TPPSER_LO.WHOLE : RField := ⟨.tp, 0x14, 0, 0, 32⟩
def Reg.TPPSER_LO.SER : RField := ⟨.tp, 0x14, 0, 0, 32⟩
/-- TPPSER_HI, the whole word. -/
def Reg.TPPSER_HI.WHOLE : RField := ⟨.tp, 0x18, 0, 0, 32⟩
def Reg.TPPSER_HI.SER : RField := ⟨.tp, 0x18, 0, 0, 32⟩
/-- TPERR, the whole word. -/
def Reg.TPERR.WHOLE : RField := ⟨.tp, 0x1c, 0, 0, 32⟩
def Reg.TPERR.TAGFAIL : RField := ⟨.tp, 0x1c, 0, 24, 8⟩
def Reg.TPERR.FECUNC : RField := ⟨.tp, 0x1c, 0, 16, 8⟩
def Reg.TPERR.SLOWCNT : RField := ⟨.tp, 0x1c, 0, 8, 8⟩
def Reg.TPERR.AUTHFAIL : RField := ⟨.tp, 0x1c, 0, 0, 8⟩
/-- TPANS, the whole word. -/
def Reg.TPANS.WHOLE : RField := ⟨.tp, 0x20, 0, 0, 32⟩
def Reg.TPANS.MAX : RField := ⟨.tp, 0x20, 0, 16, 16⟩
def Reg.TPANS.LAST : RField := ⟨.tp, 0x20, 0, 0, 16⟩
/-- TXDROP, the whole word. -/
def Reg.TXDROP.WHOLE : RField := ⟨.tp, 0x24, 0, 0, 32⟩
def Reg.TXDROP.COUNT : RField := ⟨.tp, 0x24, 0, 0, 32⟩

/-- ENGCTL, the whole word. -/
def Reg.ENGCTL.WHOLE : RField := ⟨.eng, 0x0, 0, 0, 32⟩
def Reg.ENGCTL.ERESET : RField := ⟨.eng, 0x0, 0, 31, 1⟩
def Reg.ENGCTL.RUN : RField := ⟨.eng, 0x0, 0, 0, 1⟩
/-- ENGSTAT, the whole word. -/
def Reg.ENGSTAT.WHOLE : RField := ⟨.eng, 0x4, 0, 0, 32⟩
def Reg.ENGSTAT.STATE : RField := ⟨.eng, 0x4, 0, 29, 3⟩
def Reg.ENGSTAT.PRECISE : RField := ⟨.eng, 0x4, 0, 28, 1⟩
def Reg.ENGSTAT.TASK : RField := ⟨.eng, 0x4, 0, 16, 6⟩
/-- ENGPC, the whole word. -/
def Reg.ENGPC.WHOLE : RField := ⟨.eng, 0x8, 0, 0, 32⟩
def Reg.ENGPC.PC : RField := ⟨.eng, 0x8, 0, 0, 32⟩
/-- LMPAGE, the whole word. -/
def Reg.LMPAGE.WHOLE : RField := ⟨.eng, 0xc, 0, 0, 32⟩
def Reg.LMPAGE.PAGE : RField := ⟨.eng, 0xc, 0, 0, 1⟩
/-- ICOUNT_LO, the whole word. -/
def Reg.ICOUNT_LO.WHOLE : RField := ⟨.eng, 0x10, 0, 0, 32⟩
def Reg.ICOUNT_LO.COUNT : RField := ⟨.eng, 0x10, 0, 0, 32⟩
/-- ICOUNT_HI, the whole word. -/
def Reg.ICOUNT_HI.WHOLE : RField := ⟨.eng, 0x14, 0, 0, 32⟩
def Reg.ICOUNT_HI.COUNT : RField := ⟨.eng, 0x14, 0, 0, 32⟩
/-- ENGRATE, the whole word. -/
def Reg.ENGRATE.WHOLE : RField := ⟨.eng, 0x18, 0, 0, 32⟩
def Reg.ENGRATE.RATE : RField := ⟨.eng, 0x18, 0, 0, 16⟩
/-- EVBASE, the whole word. -/
def Reg.EVBASE.WHOLE : RField := ⟨.eng, 0x40, 0, 0, 32⟩
def Reg.EVBASE.EN : RField := ⟨.eng, 0x40, 0, 31, 1⟩
def Reg.EVBASE.ADDR : RField := ⟨.eng, 0x40, 0, 8, 8⟩
/-- ESTKLIM, the whole word. -/
def Reg.ESTKLIM.WHOLE : RField := ⟨.eng, 0x44, 0, 0, 32⟩
def Reg.ESTKLIM.LIMIT : RField := ⟨.eng, 0x44, 0, 3, 13⟩
/-- LASTEXC, the whole word. -/
def Reg.LASTEXC.WHOLE : RField := ⟨.eng, 0x48, 0, 0, 32⟩
def Reg.LASTEXC.VALID : RField := ⟨.eng, 0x48, 0, 31, 1⟩
def Reg.LASTEXC.TASK : RField := ⟨.eng, 0x48, 0, 10, 6⟩
def Reg.LASTEXC.IMPR : RField := ⟨.eng, 0x48, 0, 9, 1⟩
def Reg.LASTEXC.CAUSE : RField := ⟨.eng, 0x48, 0, 0, 9⟩
/-- LASTEFPC, the whole word. -/
def Reg.LASTEFPC.WHOLE : RField := ⟨.eng, 0x4c, 0, 0, 32⟩
def Reg.LASTEFPC.PC : RField := ⟨.eng, 0x4c, 0, 0, 32⟩
/-- EXCCNT, the whole word. -/
def Reg.EXCCNT.WHOLE : RField := ⟨.eng, 0x50, 0, 0, 32⟩
def Reg.EXCCNT.ENTRIES : RField := ⟨.eng, 0x50, 0, 16, 16⟩
def Reg.EXCCNT.LOST : RField := ⟨.eng, 0x50, 0, 8, 8⟩
def Reg.EXCCNT.SUPP : RField := ⟨.eng, 0x50, 0, 0, 8⟩
/-- BALCTL, the whole word. -/
def Reg.BALCTL.WHOLE : RField := ⟨.eng, 0x60, 0, 0, 32⟩
def Reg.BALCTL.BALREQ : RField := ⟨.eng, 0x60, 0, 31, 1⟩
def Reg.BALCTL.BALCLR : RField := ⟨.eng, 0x60, 0, 30, 1⟩
def Reg.BALCTL.AUTORST : RField := ⟨.eng, 0x60, 0, 1, 1⟩
def Reg.BALCTL.SAFE : RField := ⟨.eng, 0x60, 0, 0, 1⟩
/-- BALSTAT, the whole word. -/
def Reg.BALSTAT.WHOLE : RField := ⟨.eng, 0x64, 0, 0, 32⟩
def Reg.BALSTAT.PEND : RField := ⟨.eng, 0x64, 0, 31, 1⟩
def Reg.BALSTAT.INBAL : RField := ⟨.eng, 0x64, 0, 30, 1⟩
def Reg.BALSTAT.BCAUSE : RField := ⟨.eng, 0x64, 0, 16, 3⟩
def Reg.BALSTAT.COUNT : RField := ⟨.eng, 0x64, 0, 0, 16⟩
/-- MCVER, the whole word. -/
def Reg.MCVER.WHOLE : RField := ⟨.eng, 0x80, 0, 0, 32⟩
def Reg.MCVER.ROMID : RField := ⟨.eng, 0x80, 0, 16, 16⟩
def Reg.MCVER.VERSION : RField := ⟨.eng, 0x80, 0, 0, 16⟩
/-- MCHASH, the whole word. -/
def Reg.MCHASH.WHOLE : RField := ⟨.eng, 0x84, 0, 0, 32⟩
def Reg.MCHASH.HASH : RField := ⟨.eng, 0x84, 0, 0, 32⟩
/-- DBGECTL, the whole word. -/
def Reg.DBGECTL.WHOLE : RField := ⟨.eng, 0xc0, 0, 0, 32⟩
def Reg.DBGECTL.HALT : RField := ⟨.eng, 0xc0, 0, 31, 1⟩
def Reg.DBGECTL.RESUME : RField := ⟨.eng, 0xc0, 0, 30, 1⟩
def Reg.DBGECTL.STEP : RField := ⟨.eng, 0xc0, 0, 29, 1⟩
def Reg.DBGECTL.BPEN : RField := ⟨.eng, 0xc0, 0, 28, 1⟩
/-- DBGBP, the whole word. -/
def Reg.DBGBP.WHOLE : RField := ⟨.eng, 0xc4, 0, 0, 32⟩
def Reg.DBGBP.ADDR : RField := ⟨.eng, 0xc4, 0, 0, 32⟩
/-- DBGSEL, the whole word. -/
def Reg.DBGSEL.WHOLE : RField := ⟨.eng, 0xc8, 0, 0, 32⟩
def Reg.DBGSEL.INDEX : RField := ⟨.eng, 0xc8, 0, 0, 8⟩
/-- DBGDATA, the whole word. -/
def Reg.DBGDATA.WHOLE : RField := ⟨.eng, 0xcc, 0, 0, 32⟩
def Reg.DBGDATA.DATA : RField := ⟨.eng, 0xcc, 0, 0, 32⟩

/-- SCHCTL, the whole word. -/
def Reg.SCHCTL.WHOLE : RField := ⟨.sch, 0x0, 0, 0, 32⟩
def Reg.SCHCTL.HMAX : RField := ⟨.sch, 0x0, 0, 16, 16⟩
/-- SCHSTAT, the whole word. -/
def Reg.SCHSTAT.WHOLE : RField := ⟨.sch, 0x4, 0, 0, 32⟩
def Reg.SCHSTAT.BUSY : RField := ⟨.sch, 0x4, 0, 31, 1⟩
def Reg.SCHSTAT.CUR : RField := ⟨.sch, 0x4, 0, 24, 6⟩
def Reg.SCHSTAT.NREADY : RField := ⟨.sch, 0x4, 0, 16, 8⟩
def Reg.SCHSTAT.NPRE : RField := ⟨.sch, 0x4, 0, 8, 8⟩
/-- SAVEBASE, the whole word. -/
def Reg.SAVEBASE.WHOLE : RField := ⟨.sch, 0x8, 0, 0, 32⟩
def Reg.SAVEBASE.BASE : RField := ⟨.sch, 0x8, 0, 13, 3⟩
/-- SLACKMIN, the whole word. -/
def Reg.SLACKMIN.WHOLE : RField := ⟨.sch, 0xc, 0, 0, 32⟩
def Reg.SLACKMIN.SLACK : RField := ⟨.sch, 0xc, 0, 0, 32⟩
/-- SLACKSLOT, the whole word. -/
def Reg.SLACKSLOT.WHOLE : RField := ⟨.sch, 0x10, 0, 0, 32⟩
def Reg.SLACKSLOT.VALID : RField := ⟨.sch, 0x10, 0, 31, 1⟩
def Reg.SLACKSLOT.SLOT : RField := ⟨.sch, 0x10, 0, 0, 6⟩
/-- DLMISS, the whole word. -/
def Reg.DLMISS.WHOLE : RField := ⟨.sch, 0x14, 0, 0, 32⟩
def Reg.DLMISS.COUNT : RField := ⟨.sch, 0x14, 0, 0, 32⟩
/-- TASKRUN, the whole word. -/
def Reg.TASKRUN.WHOLE : RField := ⟨.sch, 0x20, 0, 0, 32⟩
def Reg.TASKRUN.CLR : RField := ⟨.sch, 0x20, 0, 31, 1⟩
def Reg.TASKRUN.RUN : RField := ⟨.sch, 0x20, 0, 30, 1⟩
def Reg.TASKRUN.SLOT : RField := ⟨.sch, 0x20, 0, 0, 6⟩
/-- TDCTL, the whole word. -/
def Reg.TDCTL.WHOLE : RField := ⟨.sch, 0x100, 16, 0, 32⟩
def Reg.TDCTL.EN : RField := ⟨.sch, 0x100, 16, 31, 1⟩
def Reg.TDCTL.ALL : RField := ⟨.sch, 0x100, 16, 30, 1⟩
def Reg.TDCTL.PRIO : RField := ⟨.sch, 0x100, 16, 27, 3⟩
def Reg.TDCTL.MPRECISE : RField := ⟨.sch, 0x100, 16, 26, 1⟩
def Reg.TDCTL.MASTRAP : RField := ⟨.sch, 0x100, 16, 25, 1⟩
def Reg.TDCTL.MRND : RField := ⟨.sch, 0x100, 16, 23, 2⟩
def Reg.TDCTL.TRIG : RField := ⟨.sch, 0x100, 16, 0, 16⟩
/-- TDENTRY, the whole word. -/
def Reg.TDENTRY.WHOLE : RField := ⟨.sch, 0x104, 16, 0, 32⟩
def Reg.TDENTRY.STACK : RField := ⟨.sch, 0x104, 16, 16, 16⟩
def Reg.TDENTRY.ENTRY : RField := ⟨.sch, 0x104, 16, 0, 16⟩
/-- TDARG, the whole word. -/
def Reg.TDARG.WHOLE : RField := ⟨.sch, 0x108, 16, 0, 32⟩
def Reg.TDARG.VALUE : RField := ⟨.sch, 0x108, 16, 0, 32⟩
/-- TDMININT, the whole word. -/
def Reg.TDMININT.WHOLE : RField := ⟨.sch, 0x10c, 16, 0, 32⟩
def Reg.TDMININT.VALUE : RField := ⟨.sch, 0x10c, 16, 0, 32⟩
/-- DLREC, the whole word. -/
def Reg.DLREC.WHOLE : RField := ⟨.sch, 0x800, 4, 0, 32⟩
def Reg.DLREC.WORD : RField := ⟨.sch, 0x800, 4, 0, 32⟩
/-- TSLACK, the whole word. -/
def Reg.TSLACK.WHOLE : RField := ⟨.sch, 0xc00, 4, 0, 32⟩
def Reg.TSLACK.SLACK : RField := ⟨.sch, 0xc00, 4, 0, 32⟩
/-- INSTAT, the whole word. -/
def Reg.INSTAT.WHOLE : RField := ⟨.sch, 0x1000, 4, 0, 32⟩
def Reg.INSTAT.OVERRUN : RField := ⟨.sch, 0x1000, 4, 31, 1⟩
def Reg.INSTAT.COINC : RField := ⟨.sch, 0x1000, 4, 30, 1⟩
def Reg.INSTAT.TQ : RField := ⟨.sch, 0x1000, 4, 29, 1⟩
def Reg.INSTAT.COUNT : RField := ⟨.sch, 0x1000, 4, 0, 4⟩

/-- CHCTL, the whole word. -/
def Reg.CHCTL.WHOLE : RField := ⟨.ch, 0x0, 0, 0, 32⟩
def Reg.CHCTL.GO : RField := ⟨.ch, 0x0, 0, 31, 1⟩
def Reg.CHCTL.ARM : RField := ⟨.ch, 0x0, 0, 30, 1⟩
def Reg.CHCTL.STOP : RField := ⟨.ch, 0x0, 0, 29, 1⟩
def Reg.CHCTL.STOPNOW : RField := ⟨.ch, 0x0, 0, 28, 1⟩
def Reg.CHCTL.CUNIT : RField := ⟨.ch, 0x0, 0, 16, 4⟩
def Reg.CHCTL.ACTZ : RField := ⟨.ch, 0x0, 0, 10, 2⟩
def Reg.CHCTL.ACTA : RField := ⟨.ch, 0x0, 0, 8, 2⟩
def Reg.CHCTL.ACTB : RField := ⟨.ch, 0x0, 0, 6, 2⟩
def Reg.CHCTL.MODE : RField := ⟨.ch, 0x0, 0, 0, 4⟩
/-- CHSTAT, the whole word. -/
def Reg.CHSTAT.WHOLE : RField := ⟨.ch, 0x4, 0, 0, 32⟩
def Reg.CHSTAT.STATE : RField := ⟨.ch, 0x4, 0, 29, 3⟩
def Reg.CHSTAT.STARTLATE : RField := ⟨.ch, 0x4, 0, 28, 1⟩
def Reg.CHSTAT.MISSED : RField := ⟨.ch, 0x4, 0, 0, 16⟩
/-- PRD, the whole word. -/
def Reg.PRD.WHOLE : RField := ⟨.ch, 0x8, 0, 0, 32⟩
def Reg.PRD.VALUE : RField := ⟨.ch, 0x8, 0, 0, 32⟩
/-- CMPA, the whole word. -/
def Reg.CMPA.WHOLE : RField := ⟨.ch, 0xc, 0, 0, 32⟩
def Reg.CMPA.VALUE : RField := ⟨.ch, 0xc, 0, 0, 32⟩
/-- CMPB, the whole word. -/
def Reg.CMPB.WHOLE : RField := ⟨.ch, 0x10, 0, 0, 32⟩
def Reg.CMPB.VALUE : RField := ⟨.ch, 0x10, 0, 0, 32⟩
/-- CNT, the whole word. -/
def Reg.CNT.WHOLE : RField := ⟨.ch, 0x14, 0, 0, 32⟩
def Reg.CNT.VALUE : RField := ⟨.ch, 0x14, 0, 0, 32⟩
/-- OSCTL, the whole word. -/
def Reg.OSCTL.WHOLE : RField := ⟨.ch, 0x18, 0, 0, 32⟩
def Reg.OSCTL.OSN : RField := ⟨.ch, 0x18, 0, 16, 16⟩
def Reg.OSCTL.RETRIG : RField := ⟨.ch, 0x18, 0, 2, 1⟩
def Reg.OSCTL.REARM : RField := ⟨.ch, 0x18, 0, 1, 1⟩
/-- OSSTAT, the whole word. -/
def Reg.OSSTAT.WHOLE : RField := ⟨.ch, 0x1c, 0, 0, 32⟩
def Reg.OSSTAT.OSCNT : RField := ⟨.ch, 0x1c, 0, 16, 16⟩
def Reg.OSSTAT.OSMISS : RField := ⟨.ch, 0x1c, 0, 0, 16⟩
/-- PSTART_LO, the whole word. -/
def Reg.PSTART_LO.WHOLE : RField := ⟨.ch, 0x20, 0, 0, 32⟩
def Reg.PSTART_LO.VALUE : RField := ⟨.ch, 0x20, 0, 0, 32⟩
/-- PSTART_HI, the whole word. -/
def Reg.PSTART_HI.WHOLE : RField := ⟨.ch, 0x24, 0, 0, 32⟩
def Reg.PSTART_HI.VALUE : RField := ⟨.ch, 0x24, 0, 0, 32⟩
/-- TRIGCTL, the whole word. -/
def Reg.TRIGCTL.WHOLE : RField := ⟨.ch, 0x28, 0, 0, 32⟩
def Reg.TRIGCTL.SRC : RField := ⟨.ch, 0x28, 0, 4, 2⟩
def Reg.TRIGCTL.TRIGCH : RField := ⟨.ch, 0x28, 0, 0, 4⟩
/-- TRIGDLY, the whole word. -/
def Reg.TRIGDLY.WHOLE : RField := ⟨.ch, 0x2c, 0, 0, 32⟩
def Reg.TRIGDLY.DELAY : RField := ⟨.ch, 0x2c, 0, 0, 32⟩
/-- PWMCTL, the whole word. -/
def Reg.PWMCTL.WHOLE : RField := ⟨.ch, 0x100, 0, 0, 32⟩
def Reg.PWMCTL.PAIR : RField := ⟨.ch, 0x100, 0, 31, 1⟩
def Reg.PWMCTL.DTMODE : RField := ⟨.ch, 0x100, 0, 29, 2⟩
def Reg.PWMCTL.MINPOL : RField := ⟨.ch, 0x100, 0, 28, 1⟩
def Reg.PWMCTL.HOLD : RField := ⟨.ch, 0x100, 0, 27, 1⟩
def Reg.PWMCTL.LDMID : RField := ⟨.ch, 0x100, 0, 26, 1⟩
def Reg.PWMCTL.LAG : RField := ⟨.ch, 0x100, 0, 25, 1⟩
def Reg.PWMCTL.EVDIV : RField := ⟨.ch, 0x100, 0, 16, 8⟩
def Reg.PWMCTL.MINPW : RField := ⟨.ch, 0x100, 0, 0, 10⟩
/-- PWMSTAT, the whole word. -/
def Reg.PWMSTAT.WHOLE : RField := ⟨.ch, 0x104, 0, 0, 32⟩
def Reg.PWMSTAT.SHPEND : RField := ⟨.ch, 0x104, 0, 31, 1⟩
def Reg.PWMSTAT.LAWAIT : RField := ⟨.ch, 0x104, 0, 30, 1⟩
def Reg.PWMSTAT.FORCED : RField := ⟨.ch, 0x104, 0, 29, 1⟩
def Reg.PWMSTAT.SAFE : RField := ⟨.ch, 0x104, 0, 28, 1⟩
def Reg.PWMSTAT.SHOOT : RField := ⟨.ch, 0x104, 0, 27, 1⟩
def Reg.PWMSTAT.DROPS : RField := ⟨.ch, 0x104, 0, 16, 8⟩
def Reg.PWMSTAT.EXTS : RField := ⟨.ch, 0x104, 0, 8, 8⟩
def Reg.PWMSTAT.LOADS : RField := ⟨.ch, 0x104, 0, 0, 8⟩
/-- DTIME, the whole word. -/
def Reg.DTIME.WHOLE : RField := ⟨.ch, 0x108, 0, 0, 32⟩
def Reg.DTIME.DTF : RField := ⟨.ch, 0x108, 0, 16, 16⟩
def Reg.DTIME.DTR : RField := ⟨.ch, 0x108, 0, 0, 16⟩
/-- ADTCTL, the whole word. -/
def Reg.ADTCTL.WHOLE : RField := ⟨.ch, 0x10c, 0, 0, 32⟩
def Reg.ADTCTL.SNSSRC : RField := ⟨.ch, 0x10c, 0, 30, 2⟩
def Reg.ADTCTL.SNSPOL : RField := ⟨.ch, 0x10c, 0, 29, 1⟩
def Reg.ADTCTL.SNSCH : RField := ⟨.ch, 0x10c, 0, 24, 4⟩
def Reg.ADTCTL.SNSL : RField := ⟨.ch, 0x10c, 0, 22, 2⟩
def Reg.ADTCTL.GUARD : RField := ⟨.ch, 0x10c, 0, 0, 8⟩
/-- DTMEAS, the whole word. -/
def Reg.DTMEAS.WHOLE : RField := ⟨.ch, 0x110, 0, 0, 32⟩
def Reg.DTMEAS.HON : RField := ⟨.ch, 0x110, 0, 16, 16⟩
def Reg.DTMEAS.LON : RField := ⟨.ch, 0x110, 0, 0, 16⟩
/-- DTMAXCNT, the whole word. -/
def Reg.DTMAXCNT.WHOLE : RField := ⟨.ch, 0x114, 0, 0, 32⟩
def Reg.DTMAXCNT.COUNT : RField := ⟨.ch, 0x114, 0, 0, 32⟩
/-- FORCE, the whole word. -/
def Reg.FORCE.WHOLE : RField := ⟨.ch, 0x118, 0, 0, 32⟩
def Reg.FORCE.ORD : RField := ⟨.ch, 0x118, 0, 29, 3⟩
def Reg.FORCE.FSYNC : RField := ⟨.ch, 0x118, 0, 27, 2⟩
/-- FORCEST, the whole word. -/
def Reg.FORCEST.WHOLE : RField := ⟨.ch, 0x11c, 0, 0, 32⟩
def Reg.FORCEST.CUR : RField := ⟨.ch, 0x11c, 0, 29, 3⟩
def Reg.FORCEST.PEND : RField := ⟨.ch, 0x11c, 0, 28, 1⟩
def Reg.FORCEST.LATE : RField := ⟨.ch, 0x11c, 0, 27, 1⟩
/-- TRIPCTL, the whole word. -/
def Reg.TRIPCTL.WHOLE : RField := ⟨.ch, 0x120, 0, 0, 32⟩
def Reg.TRIPCTL.LEN : RField := ⟨.ch, 0x120, 0, 28, 4⟩
def Reg.TRIPCTL.CBCEN : RField := ⟨.ch, 0x120, 0, 24, 4⟩
def Reg.TRIPCTL.BLANK : RField := ⟨.ch, 0x120, 0, 0, 12⟩
/-- TRIPSTAT, the whole word. -/
def Reg.TRIPSTAT.WHOLE : RField := ⟨.ch, 0x124, 0, 0, 32⟩
def Reg.TRIPSTAT.TRIPPED : RField := ⟨.ch, 0x124, 0, 31, 1⟩
def Reg.TRIPSTAT.PAIRTRIP : RField := ⟨.ch, 0x124, 0, 30, 1⟩
def Reg.TRIPSTAT.CLRREF : RField := ⟨.ch, 0x124, 0, 29, 1⟩
def Reg.TRIPSTAT.CBCACT : RField := ⟨.ch, 0x124, 0, 28, 1⟩
def Reg.TRIPSTAT.LLINES : RField := ⟨.ch, 0x124, 0, 24, 4⟩
def Reg.TRIPSTAT.CBCCNT : RField := ⟨.ch, 0x124, 0, 0, 16⟩
/-- TRIPCLR, the whole word. -/
def Reg.TRIPCLR.WHOLE : RField := ⟨.ch, 0x128, 0, 0, 32⟩
def Reg.TRIPCLR.CLR : RField := ⟨.ch, 0x128, 0, 31, 1⟩
/-- TERMCTL, the whole word. -/
def Reg.TERMCTL.WHOLE : RField := ⟨.ch, 0x12c, 0, 0, 32⟩
def Reg.TERMCTL.TEN : RField := ⟨.ch, 0x12c, 0, 2, 1⟩
def Reg.TERMCTL.TLINE : RField := ⟨.ch, 0x12c, 0, 0, 2⟩
/-- SHOOTCNT, the whole word. -/
def Reg.SHOOTCNT.WHOLE : RField := ⟨.ch, 0x130, 0, 0, 32⟩
def Reg.SHOOTCNT.TOTAL : RField := ⟨.ch, 0x130, 0, 16, 16⟩
def Reg.SHOOTCNT.WIN : RField := ⟨.ch, 0x130, 0, 0, 5⟩
/-- ACTPRD, the whole word. -/
def Reg.ACTPRD.WHOLE : RField := ⟨.ch, 0x140, 0, 0, 32⟩
def Reg.ACTPRD.VALUE : RField := ⟨.ch, 0x140, 0, 0, 32⟩
/-- ACTCMPA, the whole word. -/
def Reg.ACTCMPA.WHOLE : RField := ⟨.ch, 0x144, 0, 0, 32⟩
def Reg.ACTCMPA.VALUE : RField := ⟨.ch, 0x144, 0, 0, 32⟩
/-- ACTCMPB, the whole word. -/
def Reg.ACTCMPB.WHOLE : RField := ⟨.ch, 0x148, 0, 0, 32⟩
def Reg.ACTCMPB.VALUE : RField := ⟨.ch, 0x148, 0, 0, 32⟩
/-- ACTDTIME, the whole word. -/
def Reg.ACTDTIME.WHOLE : RField := ⟨.ch, 0x14c, 0, 0, 32⟩
def Reg.ACTDTIME.DTF : RField := ⟨.ch, 0x14c, 0, 16, 16⟩
def Reg.ACTDTIME.DTR : RField := ⟨.ch, 0x14c, 0, 0, 16⟩
/-- CAPCTL, the whole word. -/
def Reg.CAPCTL.WHOLE : RField := ⟨.ch, 0x300, 0, 0, 32⟩
def Reg.CAPCTL.EN : RField := ⟨.ch, 0x300, 0, 31, 1⟩
def Reg.CAPCTL.EDGE : RField := ⟨.ch, 0x300, 0, 29, 2⟩
def Reg.CAPCTL.MPOL : RField := ⟨.ch, 0x300, 0, 28, 1⟩
def Reg.CAPCTL.GATE : RField := ⟨.ch, 0x300, 0, 26, 2⟩
def Reg.CAPCTL.PHREF : RField := ⟨.ch, 0x300, 0, 25, 1⟩
def Reg.CAPCTL.CTB : RField := ⟨.ch, 0x300, 0, 20, 5⟩
def Reg.CAPCTL.REFCH : RField := ⟨.ch, 0x300, 0, 16, 4⟩
def Reg.CAPCTL.PRESC : RField := ⟨.ch, 0x300, 0, 0, 8⟩
/-- CAPFILT, the whole word. -/
def Reg.CAPFILT.WHOLE : RField := ⟨.ch, 0x304, 0, 0, 32⟩
def Reg.CAPFILT.FILT : RField := ⟨.ch, 0x304, 0, 0, 16⟩
/-- CAPSTAT, the whole word. -/
def Reg.CAPSTAT.WHOLE : RField := ⟨.ch, 0x308, 0, 0, 32⟩
def Reg.CAPSTAT.NEWLVL : RField := ⟨.ch, 0x308, 0, 31, 1⟩
def Reg.CAPSTAT.OLDLVL : RField := ⟨.ch, 0x308, 0, 30, 1⟩
def Reg.CAPSTAT.PERV : RField := ⟨.ch, 0x308, 0, 29, 1⟩
def Reg.CAPSTAT.WIDV : RField := ⟨.ch, 0x308, 0, 28, 1⟩
def Reg.CAPSTAT.PHV : RField := ⟨.ch, 0x308, 0, 27, 1⟩
def Reg.CAPSTAT.GLITCH : RField := ⟨.ch, 0x308, 0, 16, 8⟩
def Reg.CAPSTAT.REJ : RField := ⟨.ch, 0x308, 0, 0, 16⟩
/-- CAPSEQ, the whole word. -/
def Reg.CAPSEQ.WHOLE : RField := ⟨.ch, 0x30c, 0, 0, 32⟩
def Reg.CAPSEQ.SEQ : RField := ⟨.ch, 0x30c, 0, 0, 32⟩
/-- CAPNEW_LO, the whole word. -/
def Reg.CAPNEW_LO.WHOLE : RField := ⟨.ch, 0x310, 0, 0, 32⟩
def Reg.CAPNEW_LO.VALUE : RField := ⟨.ch, 0x310, 0, 0, 32⟩
/-- CAPNEW_HI, the whole word. -/
def Reg.CAPNEW_HI.WHOLE : RField := ⟨.ch, 0x314, 0, 0, 32⟩
def Reg.CAPNEW_HI.VALUE : RField := ⟨.ch, 0x314, 0, 0, 32⟩
/-- CAPOLD_LO, the whole word. -/
def Reg.CAPOLD_LO.WHOLE : RField := ⟨.ch, 0x318, 0, 0, 32⟩
def Reg.CAPOLD_LO.VALUE : RField := ⟨.ch, 0x318, 0, 0, 32⟩
/-- CAPOLD_HI, the whole word. -/
def Reg.CAPOLD_HI.WHOLE : RField := ⟨.ch, 0x31c, 0, 0, 32⟩
def Reg.CAPOLD_HI.VALUE : RField := ⟨.ch, 0x31c, 0, 0, 32⟩
/-- MPER, the whole word. -/
def Reg.MPER.WHOLE : RField := ⟨.ch, 0x320, 0, 0, 32⟩
def Reg.MPER.VALUE : RField := ⟨.ch, 0x320, 0, 0, 32⟩
/-- MWID, the whole word. -/
def Reg.MWID.WHOLE : RField := ⟨.ch, 0x324, 0, 0, 32⟩
def Reg.MWID.VALUE : RField := ⟨.ch, 0x324, 0, 0, 32⟩
/-- MPHASE, the whole word. -/
def Reg.MPHASE.WHOLE : RField := ⟨.ch, 0x328, 0, 0, 32⟩
def Reg.MPHASE.VALUE : RField := ⟨.ch, 0x328, 0, 0, 32⟩
/-- PINCTL, the whole word. -/
def Reg.PINCTL.WHOLE : RField := ⟨.ch, 0x400, 0, 0, 32⟩
def Reg.PINCTL.LOADEN : RField := ⟨.ch, 0x400, 0, 16, 1⟩
def Reg.PINCTL.INIT : RField := ⟨.ch, 0x400, 0, 11, 1⟩
def Reg.PINCTL.INV : RField := ⟨.ch, 0x400, 0, 10, 1⟩
def Reg.PINCTL.PULL : RField := ⟨.ch, 0x400, 0, 8, 2⟩
def Reg.PINCTL.SLOW : RField := ⟨.ch, 0x400, 0, 6, 1⟩
def Reg.PINCTL.DRV : RField := ⟨.ch, 0x400, 0, 4, 2⟩
def Reg.PINCTL.OMODE : RField := ⟨.ch, 0x400, 0, 0, 3⟩
/-- PINSTAT, the whole word. -/
def Reg.PINSTAT.WHOLE : RField := ⟨.ch, 0x404, 0, 0, 32⟩
def Reg.PINSTAT.IN : RField := ⟨.ch, 0x404, 0, 31, 1⟩
def Reg.PINSTAT.OUT : RField := ⟨.ch, 0x404, 0, 30, 1⟩
def Reg.PINSTAT.OEN : RField := ⟨.ch, 0x404, 0, 29, 1⟩
/-- LOADEST, the whole word. -/
def Reg.LOADEST.WHOLE : RField := ⟨.ch, 0x408, 0, 0, 32⟩
def Reg.LOADEST.VALID : RField := ⟨.ch, 0x408, 0, 31, 1⟩
def Reg.LOADEST.SLOW : RField := ⟨.ch, 0x408, 0, 30, 1⟩
def Reg.LOADEST.CAP : RField := ⟨.ch, 0x408, 0, 0, 16⟩
/-- LOADWIN, the whole word. -/
def Reg.LOADWIN.WHOLE : RField := ⟨.ch, 0x40c, 0, 0, 32⟩
def Reg.LOADWIN.MAX : RField := ⟨.ch, 0x40c, 0, 16, 16⟩
def Reg.LOADWIN.MIN : RField := ⟨.ch, 0x40c, 0, 0, 16⟩
/-- CTMCTL, the whole word. -/
def Reg.CTMCTL.WHOLE : RField := ⟨.ch, 0x500, 0, 0, 32⟩
def Reg.CTMCTL.EN : RField := ⟨.ch, 0x500, 0, 31, 1⟩
def Reg.CTMCTL.TRK : RField := ⟨.ch, 0x500, 0, 24, 4⟩
def Reg.CTMCTL.DEB : RField := ⟨.ch, 0x500, 0, 20, 4⟩
def Reg.CTMCTL.ISRCHI : RField := ⟨.ch, 0x500, 0, 16, 1⟩
def Reg.CTMCTL.ISRC : RField := ⟨.ch, 0x500, 0, 14, 2⟩
def Reg.CTMCTL.NSAMP : RField := ⟨.ch, 0x500, 0, 10, 4⟩
def Reg.CTMCTL.DIS : RField := ⟨.ch, 0x500, 0, 0, 10⟩
/-- CTMTHR, the whole word. -/
def Reg.CTMTHR.WHOLE : RField := ⟨.ch, 0x504, 0, 0, 32⟩
def Reg.CTMTHR.TOUCH : RField := ⟨.ch, 0x504, 0, 16, 16⟩
def Reg.CTMTHR.RELEASE : RField := ⟨.ch, 0x504, 0, 0, 16⟩
/-- CTMMAXT, the whole word. -/
def Reg.CTMMAXT.WHOLE : RField := ⟨.ch, 0x508, 0, 0, 32⟩
def Reg.CTMMAXT.CTMPER : RField := ⟨.ch, 0x508, 0, 12, 16⟩
def Reg.CTMMAXT.MAXT : RField := ⟨.ch, 0x508, 0, 0, 12⟩
/-- CTMRAW, the whole word. -/
def Reg.CTMRAW.WHOLE : RField := ⟨.ch, 0x50c, 0, 0, 32⟩
def Reg.CTMRAW.VALUE : RField := ⟨.ch, 0x50c, 0, 0, 32⟩
/-- CTMBASE, the whole word. -/
def Reg.CTMBASE.WHOLE : RField := ⟨.ch, 0x510, 0, 0, 32⟩
def Reg.CTMBASE.VALUE : RField := ⟨.ch, 0x510, 0, 0, 32⟩
/-- CTMSTAT, the whole word. -/
def Reg.CTMSTAT.WHOLE : RField := ⟨.ch, 0x514, 0, 0, 32⟩
def Reg.CTMSTAT.TOUCH : RField := ⟨.ch, 0x514, 0, 31, 1⟩
def Reg.CTMSTAT.INIT : RField := ⟨.ch, 0x514, 0, 30, 1⟩
def Reg.CTMSTAT.NOOE : RField := ⟨.ch, 0x514, 0, 29, 1⟩
def Reg.CTMSTAT.CFGERR : RField := ⟨.ch, 0x514, 0, 28, 1⟩
def Reg.CTMSTAT.SHORT : RField := ⟨.ch, 0x514, 0, 27, 1⟩
def Reg.CTMSTAT.REBASES : RField := ⟨.ch, 0x514, 0, 8, 8⟩
def Reg.CTMSTAT.STUCKS : RField := ⟨.ch, 0x514, 0, 0, 8⟩
/-- DLCTL, the whole word. -/
def Reg.DLCTL.WHOLE : RField := ⟨.ch, 0xf00, 0, 0, 32⟩
def Reg.DLCTL.ETB : RField := ⟨.ch, 0xf00, 0, 16, 5⟩
def Reg.DLCTL.LATEPOL : RField := ⟨.ch, 0xf00, 0, 8, 1⟩
def Reg.DLCTL.SWAPNOW : RField := ⟨.ch, 0xf00, 0, 0, 1⟩
/-- DLSTAT, the whole word. -/
def Reg.DLSTAT.WHOLE : RField := ⟨.ch, 0xf04, 0, 0, 32⟩
def Reg.DLSTAT.LIVE : RField := ⟨.ch, 0xf04, 0, 31, 1⟩
def Reg.DLSTAT.AGED : RField := ⟨.ch, 0xf04, 0, 30, 1⟩
def Reg.DLSTAT.ETBPEND : RField := ⟨.ch, 0xf04, 0, 29, 1⟩
def Reg.DLSTAT.PEND : RField := ⟨.ch, 0xf04, 0, 16, 4⟩
def Reg.DLSTAT.SWAPS : RField := ⟨.ch, 0xf04, 0, 0, 16⟩
/-- EDGESTAT, the whole word. -/
def Reg.EDGESTAT.WHOLE : RField := ⟨.ch, 0xf08, 0, 0, 32⟩
def Reg.EDGESTAT.LATE : RField := ⟨.ch, 0xf08, 0, 31, 1⟩
def Reg.EDGESTAT.DENSE : RField := ⟨.ch, 0xf08, 0, 30, 1⟩
def Reg.EDGESTAT.FULL : RField := ⟨.ch, 0xf08, 0, 29, 1⟩
def Reg.EDGESTAT.STEPPED : RField := ⟨.ch, 0xf08, 0, 28, 1⟩
def Reg.EDGESTAT.NREF : RField := ⟨.ch, 0xf08, 0, 0, 16⟩
/-- CALAGE, the whole word. -/
def Reg.CALAGE.WHOLE : RField := ⟨.ch, 0xf0c, 0, 0, 32⟩
def Reg.CALAGE.AGE : RField := ⟨.ch, 0xf0c, 0, 0, 32⟩

/-- GLOAD, the whole word. -/
def Reg.GLOAD.WHOLE : RField := ⟨.grp, 0x200, 0, 0, 32⟩
def Reg.GLOAD.LOADALL : RField := ⟨.grp, 0x200, 0, 31, 1⟩
/-- GLDSTAT, the whole word. -/
def Reg.GLDSTAT.WHOLE : RField := ⟨.grp, 0x204, 0, 0, 32⟩
def Reg.GLDSTAT.WAIT : RField := ⟨.grp, 0x204, 0, 31, 1⟩
def Reg.GLDSTAT.COUNT : RField := ⟨.grp, 0x204, 0, 0, 16⟩
/-- TLCFG, the whole word. -/
def Reg.TLCFG.WHOLE : RField := ⟨.grp, 0x210, 4, 0, 32⟩
def Reg.TLCFG.TYPE : RField := ⟨.grp, 0x210, 4, 30, 2⟩
def Reg.TLCFG.POL : RField := ⟨.grp, 0x210, 4, 29, 1⟩
def Reg.TLCFG.TFILT : RField := ⟨.grp, 0x210, 4, 24, 4⟩
def Reg.TLCFG.PINCH : RField := ⟨.grp, 0x210, 4, 16, 4⟩
def Reg.TLCFG.COMP : RField := ⟨.grp, 0x210, 4, 0, 8⟩
/-- TLSTAT, the whole word. -/
def Reg.TLSTAT.WHOLE : RField := ⟨.grp, 0x220, 0, 0, 32⟩
def Reg.TLSTAT.SEEN : RField := ⟨.grp, 0x220, 0, 8, 4⟩
def Reg.TLSTAT.ACT : RField := ⟨.grp, 0x220, 0, 0, 4⟩
/-- SAFECTL, the whole word. -/
def Reg.SAFECTL.WHOLE : RField := ⟨.grp, 0x230, 0, 0, 32⟩
def Reg.SAFECTL.SAFEGO : RField := ⟨.grp, 0x230, 0, 31, 1⟩
def Reg.SAFECTL.SAFECLR : RField := ⟨.grp, 0x230, 0, 30, 1⟩
def Reg.SAFECTL.SAFEST : RField := ⟨.grp, 0x230, 0, 16, 2⟩
def Reg.SAFECTL.SAFELVL : RField := ⟨.grp, 0x230, 0, 0, 8⟩
/-- SAFESTAT, the whole word. -/
def Reg.SAFESTAT.WHOLE : RField := ⟨.grp, 0x234, 0, 0, 32⟩
def Reg.SAFESTAT.ACTIVE : RField := ⟨.grp, 0x234, 0, 31, 1⟩
def Reg.SAFESTAT.SRC : RField := ⟨.grp, 0x234, 0, 28, 3⟩
def Reg.SAFESTAT.COUNT : RField := ⟨.grp, 0x234, 0, 0, 16⟩
/-- GFORCE, the whole word. -/
def Reg.GFORCE.WHOLE : RField := ⟨.grp, 0x240, 0, 0, 32⟩
def Reg.GFORCE.ORD : RField := ⟨.grp, 0x240, 0, 29, 3⟩
def Reg.GFORCE.FSYNC : RField := ⟨.grp, 0x240, 0, 27, 2⟩
def Reg.GFORCE.MASK : RField := ⟨.grp, 0x240, 0, 0, 8⟩
/-- FORCEAT_LO, the whole word. -/
def Reg.FORCEAT_LO.WHOLE : RField := ⟨.grp, 0x244, 0, 0, 32⟩
def Reg.FORCEAT_LO.VALUE : RField := ⟨.grp, 0x244, 0, 0, 32⟩
/-- FORCEAT_HI, the whole word. -/
def Reg.FORCEAT_HI.WHOLE : RField := ⟨.grp, 0x248, 0, 0, 32⟩
def Reg.FORCEAT_HI.VALUE : RField := ⟨.grp, 0x248, 0, 0, 32⟩

/-- TAILCTL, the whole word. -/
def Reg.TAILCTL.WHOLE : RField := ⟨.tail, 0x0, 0, 0, 32⟩
def Reg.TAILCTL.ARM : RField := ⟨.tail, 0x0, 0, 31, 1⟩
def Reg.TAILCTL.MODE : RField := ⟨.tail, 0x0, 0, 28, 3⟩
def Reg.TAILCTL.DIFF : RField := ⟨.tail, 0x0, 0, 27, 1⟩
def Reg.TAILCTL.DIRINV : RField := ⟨.tail, 0x0, 0, 26, 1⟩
def Reg.TAILCTL.CNT : RField := ⟨.tail, 0x0, 0, 24, 2⟩
def Reg.TAILCTL.ZMODE : RField := ⟨.tail, 0x0, 0, 22, 2⟩
def Reg.TAILCTL.ZQ : RField := ⟨.tail, 0x0, 0, 20, 2⟩
def Reg.TAILCTL.FRESH : RField := ⟨.tail, 0x0, 0, 0, 16⟩
/-- TAILSTAT, the whole word. -/
def Reg.TAILSTAT.WHOLE : RField := ⟨.tail, 0x4, 0, 0, 32⟩
def Reg.TAILSTAT.ARMED : RField := ⟨.tail, 0x4, 0, 31, 1⟩
def Reg.TAILSTAT.BUSY : RField := ⟨.tail, 0x4, 0, 30, 1⟩
def Reg.TAILSTAT.LBRK : RField := ⟨.tail, 0x4, 0, 27, 3⟩
def Reg.TAILSTAT.LEVEL : RField := ⟨.tail, 0x4, 0, 24, 3⟩
def Reg.TAILSTAT.ILLCNT : RField := ⟨.tail, 0x4, 0, 16, 8⟩
def Reg.TAILSTAT.FAILCNT : RField := ⟨.tail, 0x4, 0, 8, 8⟩
def Reg.TAILSTAT.MISSED : RField := ⟨.tail, 0x4, 0, 0, 8⟩
/-- TFILT, the whole word. -/
def Reg.TFILT.WHOLE : RField := ⟨.tail, 0x8, 0, 0, 32⟩
def Reg.TFILT.FILTZ : RField := ⟨.tail, 0x8, 0, 16, 16⟩
def Reg.TFILT.FILTAB : RField := ⟨.tail, 0x8, 0, 0, 16⟩
/-- HALLMAP, the whole word. -/
def Reg.HALLMAP.WHOLE : RField := ⟨.tail, 0xc, 0, 0, 32⟩
def Reg.HALLMAP.MAP : RField := ⟨.tail, 0xc, 0, 0, 24⟩
/-- SERCFG, the whole word. -/
def Reg.SERCFG.WHOLE : RField := ⟨.tail, 0x10, 0, 0, 32⟩
def Reg.SERCFG.NBITS : RField := ⟨.tail, 0x10, 0, 26, 6⟩
def Reg.SERCFG.GRAY : RField := ⟨.tail, 0x10, 0, 25, 1⟩
def Reg.SERCFG.LEAD0 : RField := ⟨.tail, 0x10, 0, 24, 1⟩
def Reg.SERCFG.STMAX : RField := ⟨.tail, 0x10, 0, 16, 8⟩
def Reg.SERCFG.CLKP : RField := ⟨.tail, 0x10, 0, 0, 16⟩
/-- SERCHK, the whole word. -/
def Reg.SERCHK.WHOLE : RField := ⟨.tail, 0x14, 0, 0, 32⟩
def Reg.SERCHK.FRZN : RField := ⟨.tail, 0x14, 0, 24, 8⟩
def Reg.SERCHK.CRCMAX : RField := ⟨.tail, 0x14, 0, 20, 4⟩
def Reg.SERCHK.LIFEPOS : RField := ⟨.tail, 0x14, 0, 14, 6⟩
def Reg.SERCHK.LIFELEN : RField := ⟨.tail, 0x14, 0, 10, 4⟩
def Reg.SERCHK.NSTAT : RField := ⟨.tail, 0x14, 0, 8, 2⟩
def Reg.SERCHK.PAR : RField := ⟨.tail, 0x14, 0, 7, 1⟩
/-- SERTRIG, the whole word. -/
def Reg.SERTRIG.WHOLE : RField := ⟨.tail, 0x18, 0, 0, 32⟩
def Reg.SERTRIG.TSRC : RField := ⟨.tail, 0x18, 0, 30, 2⟩
def Reg.SERTRIG.TKIND : RField := ⟨.tail, 0x18, 0, 28, 2⟩
def Reg.SERTRIG.TCH : RField := ⟨.tail, 0x18, 0, 18, 10⟩
def Reg.SERTRIG.GO : RField := ⟨.tail, 0x18, 0, 17, 1⟩
/-- SERPER, the whole word. -/
def Reg.SERPER.WHOLE : RField := ⟨.tail, 0x1c, 0, 0, 32⟩
def Reg.SERPER.PER : RField := ⟨.tail, 0x1c, 0, 0, 24⟩
/-- CABLE, the whole word. -/
def Reg.CABLE.WHOLE : RField := ⟨.tail, 0x20, 0, 0, 32⟩
def Reg.CABLE.VALID : RField := ⟨.tail, 0x20, 0, 31, 1⟩
def Reg.CABLE.CM : RField := ⟨.tail, 0x20, 0, 16, 15⟩
def Reg.CABLE.DLY : RField := ⟨.tail, 0x20, 0, 0, 16⟩
/-- CABLECFG, the whole word. -/
def Reg.CABLECFG.WHOLE : RField := ⟨.tail, 0x24, 0, 0, 32⟩
def Reg.CABLECFG.ENCDLY : RField := ⟨.tail, 0x24, 0, 24, 8⟩
def Reg.CABLECFG.LATDLY : RField := ⟨.tail, 0x24, 0, 16, 8⟩
def Reg.CABLECFG.VPROP : RField := ⟨.tail, 0x24, 0, 8, 8⟩
/-- TAILREC, the whole word. -/
def Reg.TAILREC.WHOLE : RField := ⟨.tail, 0x28, 0, 0, 32⟩
def Reg.TAILREC.EN : RField := ⟨.tail, 0x28, 0, 31, 1⟩
def Reg.TAILREC.RATE : RField := ⟨.tail, 0x28, 0, 25, 6⟩
def Reg.TAILREC.BASE : RField := ⟨.tail, 0x28, 0, 5, 20⟩
/-- POS_LO, the whole word. -/
def Reg.POS_LO.WHOLE : RField := ⟨.tail, 0x30, 0, 0, 32⟩
def Reg.POS_LO.VALUE : RField := ⟨.tail, 0x30, 0, 0, 32⟩
/-- POS_HI, the whole word. -/
def Reg.POS_HI.WHOLE : RField := ⟨.tail, 0x34, 0, 0, 32⟩
def Reg.POS_HI.VALUE : RField := ⟨.tail, 0x34, 0, 0, 32⟩
/-- POSTS_LO, the whole word. -/
def Reg.POSTS_LO.WHOLE : RField := ⟨.tail, 0x38, 0, 0, 32⟩
def Reg.POSTS_LO.VALUE : RField := ⟨.tail, 0x38, 0, 0, 32⟩
/-- POSTS_HI, the whole word. -/
def Reg.POSTS_HI.WHOLE : RField := ⟨.tail, 0x3c, 0, 0, 32⟩
def Reg.POSTS_HI.VALUE : RField := ⟨.tail, 0x3c, 0, 0, 32⟩
/-- POSSTAT, the whole word. -/
def Reg.POSSTAT.WHOLE : RField := ⟨.tail, 0x40, 0, 0, 32⟩
def Reg.POSSTAT.STALE : RField := ⟨.tail, 0x40, 0, 31, 1⟩
def Reg.POSSTAT.POSQ : RField := ⟨.tail, 0x40, 0, 30, 1⟩
def Reg.POSSTAT.CRCERR : RField := ⟨.tail, 0x40, 0, 29, 1⟩
def Reg.POSSTAT.ENCERR : RField := ⟨.tail, 0x40, 0, 28, 1⟩
def Reg.POSSTAT.WARN : RField := ⟨.tail, 0x40, 0, 27, 1⟩
def Reg.POSSTAT.FROZEN : RField := ⟨.tail, 0x40, 0, 26, 1⟩
def Reg.POSSTAT.FAILRUN : RField := ⟨.tail, 0x40, 0, 16, 8⟩
def Reg.POSSTAT.CDS : RField := ⟨.tail, 0x40, 0, 7, 1⟩
def Reg.POSSTAT.SECTOR : RField := ⟨.tail, 0x40, 0, 0, 3⟩
/-- POSSEQ, the whole word. -/
def Reg.POSSEQ.WHOLE : RField := ⟨.tail, 0x44, 0, 0, 32⟩
def Reg.POSSEQ.SEQ : RField := ⟨.tail, 0x44, 0, 0, 32⟩
/-- ZCAP_LO, the whole word. -/
def Reg.ZCAP_LO.WHOLE : RField := ⟨.tail, 0x48, 0, 0, 32⟩
def Reg.ZCAP_LO.VALUE : RField := ⟨.tail, 0x48, 0, 0, 32⟩
/-- ZCAP_HI, the whole word. -/
def Reg.ZCAP_HI.WHOLE : RField := ⟨.tail, 0x4c, 0, 0, 32⟩
def Reg.ZCAP_HI.VALUE : RField := ⟨.tail, 0x4c, 0, 0, 32⟩
/-- VEL_LO, the whole word. -/
def Reg.VEL_LO.WHOLE : RField := ⟨.tail, 0x50, 0, 0, 32⟩
def Reg.VEL_LO.VALUE : RField := ⟨.tail, 0x50, 0, 0, 32⟩
/-- VEL_HI, the whole word. -/
def Reg.VEL_HI.WHOLE : RField := ⟨.tail, 0x54, 0, 0, 32⟩
def Reg.VEL_HI.VALUE : RField := ⟨.tail, 0x54, 0, 0, 32⟩
/-- VELSTAT, the whole word. -/
def Reg.VELSTAT.WHOLE : RField := ⟨.tail, 0x58, 0, 0, 32⟩
def Reg.VELSTAT.STALE : RField := ⟨.tail, 0x58, 0, 31, 1⟩
def Reg.VELSTAT.LOWCONF : RField := ⟨.tail, 0x58, 0, 30, 1⟩
def Reg.VELSTAT.REV : RField := ⟨.tail, 0x58, 0, 29, 1⟩
def Reg.VELSTAT.DIR : RField := ⟨.tail, 0x58, 0, 28, 1⟩
def Reg.VELSTAT.M : RField := ⟨.tail, 0x58, 0, 16, 5⟩
def Reg.VELSTAT.UPD : RField := ⟨.tail, 0x58, 0, 0, 16⟩
/-- VELCFG, the whole word. -/
def Reg.VELCFG.WHOLE : RField := ⟨.tail, 0x5c, 0, 0, 32⟩
def Reg.VELCFG.SSTO : RField := ⟨.tail, 0x5c, 0, 12, 20⟩
def Reg.VELCFG.VWIN : RField := ⟨.tail, 0x5c, 0, 0, 12⟩
/-- LOSSCTL, the whole word. -/
def Reg.LOSSCTL.WHOLE : RField := ⟨.tail, 0x60, 0, 0, 32⟩
def Reg.LOSSCTL.EN : RField := ⟨.tail, 0x60, 0, 31, 1⟩
def Reg.LOSSCTL.LBRK : RField := ⟨.tail, 0x60, 0, 30, 1⟩
def Reg.LOSSCTL.FRESHEN : RField := ⟨.tail, 0x60, 0, 29, 1⟩
def Reg.LOSSCTL.FROZEN : RField := ⟨.tail, 0x60, 0, 28, 1⟩
def Reg.LOSSCTL.FRAMEF : RField := ⟨.tail, 0x60, 0, 27, 1⟩
def Reg.LOSSCTL.GRP : RField := ⟨.tail, 0x60, 0, 20, 7⟩
def Reg.LOSSCTL.GRACE : RField := ⟨.tail, 0x60, 0, 0, 14⟩
/-- LOSSSTAT, the whole word. -/
def Reg.LOSSSTAT.WHOLE : RField := ⟨.tail, 0x64, 0, 0, 32⟩
def Reg.LOSSSTAT.LOSS : RField := ⟨.tail, 0x64, 0, 31, 1⟩
def Reg.LOSSSTAT.GRACING : RField := ⟨.tail, 0x64, 0, 30, 1⟩
def Reg.LOSSSTAT.SAFED : RField := ⟨.tail, 0x64, 0, 29, 1⟩
def Reg.LOSSSTAT.CAUSES : RField := ⟨.tail, 0x64, 0, 24, 4⟩
def Reg.LOSSSTAT.COUNT : RField := ⟨.tail, 0x64, 0, 16, 8⟩
def Reg.LOSSSTAT.GRREM : RField := ⟨.tail, 0x64, 0, 0, 16⟩
/-- FSCTL, the whole word. -/
def Reg.FSCTL.WHOLE : RField := ⟨.tail, 0x70, 0, 0, 32⟩
def Reg.FSCTL.EN : RField := ⟨.tail, 0x70, 0, 31, 1⟩
def Reg.FSCTL.DIR : RField := ⟨.tail, 0x70, 0, 30, 1⟩
def Reg.FSCTL.BRAKE : RField := ⟨.tail, 0x70, 0, 29, 1⟩
def Reg.FSCTL.GRP : RField := ⟨.tail, 0x70, 0, 22, 7⟩
def Reg.FSCTL.FSTMO : RField := ⟨.tail, 0x70, 0, 8, 8⟩
def Reg.FSCTL.FSBRK : RField := ⟨.tail, 0x70, 0, 0, 8⟩
/-- FSTHR, the whole word. -/
def Reg.FSTHR.WHOLE : RField := ⟨.tail, 0x74, 0, 0, 32⟩
def Reg.FSTHR.THR : RField := ⟨.tail, 0x74, 0, 0, 32⟩
/-- FSSTAT, the whole word. -/
def Reg.FSSTAT.WHOLE : RField := ⟨.tail, 0x78, 0, 0, 32⟩
def Reg.FSSTAT.STATE : RField := ⟨.tail, 0x78, 0, 30, 2⟩
def Reg.FSSTAT.CLASS : RField := ⟨.tail, 0x78, 0, 27, 3⟩
def Reg.FSSTAT.COUNT : RField := ⟨.tail, 0x78, 0, 0, 16⟩
/-- EMUCTL, the whole word. -/
def Reg.EMUCTL.WHOLE : RField := ⟨.tail, 0x80, 0, 0, 32⟩
def Reg.EMUCTL.SRC : RField := ⟨.tail, 0x80, 0, 30, 2⟩
def Reg.EMUCTL.ZEN : RField := ⟨.tail, 0x80, 0, 29, 1⟩
def Reg.EMUCTL.INV : RField := ⟨.tail, 0x80, 0, 28, 1⟩
def Reg.EMUCTL.TEST : RField := ⟨.tail, 0x80, 0, 27, 1⟩
def Reg.EMUCTL.ACH : RField := ⟨.tail, 0x80, 0, 16, 10⟩
def Reg.EMUCTL.ZPER : RField := ⟨.tail, 0x80, 0, 0, 16⟩
/-- EMURATIO, the whole word. -/
def Reg.EMURATIO.WHOLE : RField := ⟨.tail, 0x84, 0, 0, 32⟩
def Reg.EMURATIO.RATIO : RField := ⟨.tail, 0x84, 0, 0, 32⟩
/-- EMUDLY, the whole word. -/
def Reg.EMUDLY.WHOLE : RField := ⟨.tail, 0x88, 0, 0, 32⟩
def Reg.EMUDLY.DLY : RField := ⟨.tail, 0x88, 0, 0, 24⟩
/-- EMUSTAT, the whole word. -/
def Reg.EMUSTAT.WHOLE : RField := ⟨.tail, 0x8c, 0, 0, 32⟩
def Reg.EMUSTAT.PATH : RField := ⟨.tail, 0x8c, 0, 30, 2⟩
def Reg.EMUSTAT.LAG : RField := ⟨.tail, 0x8c, 0, 29, 1⟩
def Reg.EMUSTAT.NOPASS : RField := ⟨.tail, 0x8c, 0, 28, 1⟩
def Reg.EMUSTAT.CONFLICT : RField := ⟨.tail, 0x8c, 0, 27, 1⟩
def Reg.EMUSTAT.SLIPCNT : RField := ⟨.tail, 0x8c, 0, 0, 16⟩

/-- SPCTL, the whole word. -/
def Reg.SPCTL.WHOLE : RField := ⟨.sp, 0x0, 0, 0, 32⟩
def Reg.SPCTL.EN : RField := ⟨.sp, 0x0, 0, 31, 1⟩
def Reg.SPCTL.BCAST : RField := ⟨.sp, 0x0, 0, 30, 1⟩
def Reg.SPCTL.CATCHUP : RField := ⟨.sp, 0x0, 0, 29, 1⟩
def Reg.SPCTL.PRED : RField := ⟨.sp, 0x0, 0, 28, 1⟩
def Reg.SPCTL.SYNCNOW : RField := ⟨.sp, 0x0, 0, 27, 1⟩
def Reg.SPCTL.DESYNC : RField := ⟨.sp, 0x0, 0, 26, 1⟩
def Reg.SPCTL.SRC : RField := ⟨.sp, 0x0, 0, 24, 2⟩
/-- SPSRC, the whole word. -/
def Reg.SPSRC.WHOLE : RField := ⟨.sp, 0x4, 0, 0, 32⟩
def Reg.SPSRC.RDEV : RField := ⟨.sp, 0x4, 0, 27, 5⟩
def Reg.SPSRC.RSPOOL : RField := ⟨.sp, 0x4, 0, 22, 5⟩
def Reg.SPSRC.REMAGE : RField := ⟨.sp, 0x4, 0, 18, 4⟩
def Reg.SPSRC.CH : RField := ⟨.sp, 0x4, 0, 8, 10⟩
def Reg.SPSRC.TAIL : RField := ⟨.sp, 0x4, 0, 0, 7⟩
/-- SPGEOM, the whole word. -/
def Reg.SPGEOM.WHOLE : RField := ⟨.sp, 0x8, 0, 0, 32⟩
def Reg.SPGEOM.TEETH : RField := ⟨.sp, 0x8, 0, 16, 11⟩
def Reg.SPGEOM.MTPT : RField := ⟨.sp, 0x8, 0, 0, 13⟩
/-- SPTOL, the whole word. -/
def Reg.SPTOL.WHOLE : RField := ⟨.sp, 0xc, 0, 0, 32⟩
def Reg.SPTOL.GAPTHR : RField := ⟨.sp, 0xc, 0, 24, 8⟩
def Reg.SPTOL.EARLY : RField := ⟨.sp, 0xc, 0, 16, 8⟩
def Reg.SPTOL.LATE : RField := ⟨.sp, 0xc, 0, 8, 8⟩
/-- SPSTAT, the whole word. -/
def Reg.SPSTAT.WHOLE : RField := ⟨.sp, 0x10, 0, 0, 32⟩
def Reg.SPSTAT.STATE : RField := ⟨.sp, 0x10, 0, 29, 3⟩
def Reg.SPSTAT.PATERR : RField := ⟨.sp, 0x10, 0, 28, 1⟩
def Reg.SPSTAT.LASTLOSS : RField := ⟨.sp, 0x10, 0, 24, 4⟩
def Reg.SPSTAT.LOSSES : RField := ⟨.sp, 0x10, 0, 16, 8⟩
def Reg.SPSTAT.JUMPS : RField := ⟨.sp, 0x10, 0, 8, 8⟩
def Reg.SPSTAT.SEEKFAIL : RField := ⟨.sp, 0x10, 0, 0, 8⟩
/-- SPANGLE, the whole word. -/
def Reg.SPANGLE.WHOLE : RField := ⟨.sp, 0x14, 0, 0, 32⟩
def Reg.SPANGLE.ANGLE : RField := ⟨.sp, 0x14, 0, 0, 22⟩
/-- SPANGTS_LO, the whole word. -/
def Reg.SPANGTS_LO.WHOLE : RField := ⟨.sp, 0x18, 0, 0, 32⟩
def Reg.SPANGTS_LO.VALUE : RField := ⟨.sp, 0x18, 0, 0, 32⟩
/-- SPANGTS_HI, the whole word. -/
def Reg.SPANGTS_HI.WHOLE : RField := ⟨.sp, 0x1c, 0, 0, 32⟩
def Reg.SPANGTS_HI.VALUE : RField := ⟨.sp, 0x1c, 0, 0, 32⟩
/-- SPREV, the whole word. -/
def Reg.SPREV.WHOLE : RField := ⟨.sp, 0x20, 0, 0, 32⟩
def Reg.SPREV.REV : RField := ⟨.sp, 0x20, 0, 0, 32⟩
/-- SPTOOTH_LO, the whole word. -/
def Reg.SPTOOTH_LO.WHOLE : RField := ⟨.sp, 0x24, 0, 0, 32⟩
def Reg.SPTOOTH_LO.VALUE : RField := ⟨.sp, 0x24, 0, 0, 32⟩
/-- SPTOOTH_HI, the whole word. -/
def Reg.SPTOOTH_HI.WHOLE : RField := ⟨.sp, 0x28, 0, 0, 32⟩
def Reg.SPTOOTH_HI.VALUE : RField := ⟨.sp, 0x28, 0, 0, 32⟩
/-- SPDELTA, the whole word. -/
def Reg.SPDELTA.WHOLE : RField := ⟨.sp, 0x2c, 0, 0, 32⟩
def Reg.SPDELTA.DELTA : RField := ⟨.sp, 0x2c, 0, 0, 32⟩
/-- SPREMSTAT, the whole word. -/
def Reg.SPREMSTAT.WHOLE : RField := ⟨.sp, 0x30, 0, 0, 32⟩
def Reg.SPREMSTAT.FRESH : RField := ⟨.sp, 0x30, 0, 31, 1⟩
def Reg.SPREMSTAT.AGE : RField := ⟨.sp, 0x30, 0, 16, 8⟩
def Reg.SPREMSTAT.RECS : RField := ⟨.sp, 0x30, 0, 0, 16⟩
/-- SPRING, the whole word. -/
def Reg.SPRING.WHOLE : RField := ⟨.sp, 0x34, 0, 0, 32⟩
def Reg.SPRING.EN : RField := ⟨.sp, 0x34, 0, 31, 1⟩
def Reg.SPRING.OVF : RField := ⟨.sp, 0x34, 0, 30, 1⟩
def Reg.SPRING.BASE : RField := ⟨.sp, 0x34, 0, 9, 16⟩
/-- GAPMAP, the whole word. -/
def Reg.GAPMAP.WHOLE : RField := ⟨.sp, 0x100, 4, 0, 32⟩
def Reg.GAPMAP.MISS : RField := ⟨.sp, 0x100, 4, 0, 32⟩
/-- AEVANG, the whole word. -/
def Reg.AEVANG.WHOLE : RField := ⟨.sp, 0x400, 32, 0, 32⟩
def Reg.AEVANG.ANG : RField := ⟨.sp, 0x400, 32, 0, 22⟩
/-- AEVOFF, the whole word. -/
def Reg.AEVOFF.WHOLE : RField := ⟨.sp, 0x404, 32, 0, 32⟩
def Reg.AEVOFF.OFF : RField := ⟨.sp, 0x404, 32, 0, 32⟩
/-- AEVCTL, the whole word. -/
def Reg.AEVCTL.WHOLE : RField := ⟨.sp, 0x408, 32, 0, 32⟩
def Reg.AEVCTL.ARM : RField := ⟨.sp, 0x408, 32, 30, 2⟩
def Reg.AEVCTL.ACT : RField := ⟨.sp, 0x408, 32, 28, 2⟩
def Reg.AEVCTL.LVL : RField := ⟨.sp, 0x408, 32, 26, 2⟩
def Reg.AEVCTL.END : RField := ⟨.sp, 0x408, 32, 25, 1⟩
def Reg.AEVCTL.ENDLVL : RField := ⟨.sp, 0x408, 32, 24, 1⟩
def Reg.AEVCTL.CH : RField := ⟨.sp, 0x408, 32, 14, 10⟩
def Reg.AEVCTL.KEEP : RField := ⟨.sp, 0x408, 32, 13, 1⟩
def Reg.AEVCTL.REV : RField := ⟨.sp, 0x408, 32, 0, 13⟩
/-- AEVSTAT, the whole word. -/
def Reg.AEVSTAT.WHOLE : RField := ⟨.sp, 0x40c, 32, 0, 32⟩
def Reg.AEVSTAT.STATE : RField := ⟨.sp, 0x40c, 32, 30, 2⟩
def Reg.AEVSTAT.FIRED : RField := ⟨.sp, 0x40c, 32, 29, 1⟩
def Reg.AEVSTAT.LATE : RField := ⟨.sp, 0x40c, 32, 28, 1⟩
def Reg.AEVSTAT.JUMPED : RField := ⟨.sp, 0x40c, 32, 27, 1⟩
def Reg.AEVSTAT.RESULT : RField := ⟨.sp, 0x40c, 32, 24, 3⟩
def Reg.AEVSTAT.EXPR : RField := ⟨.sp, 0x40c, 32, 20, 4⟩
def Reg.AEVSTAT.FIRES : RField := ⟨.sp, 0x40c, 32, 0, 16⟩
/-- AEVFIRE_LO, the whole word. -/
def Reg.AEVFIRE_LO.WHOLE : RField := ⟨.sp, 0x410, 32, 0, 32⟩
def Reg.AEVFIRE_LO.VALUE : RField := ⟨.sp, 0x410, 32, 0, 32⟩
/-- AEVFIRE_HI, the whole word. -/
def Reg.AEVFIRE_HI.WHOLE : RField := ⟨.sp, 0x414, 32, 0, 32⟩
def Reg.AEVFIRE_HI.VALUE : RField := ⟨.sp, 0x414, 32, 0, 32⟩

/-- KCTL, the whole word. -/
def Reg.KCTL.WHOLE : RField := ⟨.k, 0x0, 0, 0, 32⟩
def Reg.KCTL.EN : RField := ⟨.k, 0x0, 0, 31, 1⟩
def Reg.KCTL.SRC : RField := ⟨.k, 0x0, 0, 30, 1⟩
def Reg.KCTL.MODE : RField := ⟨.k, 0x0, 0, 28, 2⟩
def Reg.KCTL.HYS : RField := ⟨.k, 0x0, 0, 26, 2⟩
def Reg.KCTL.LATCH : RField := ⟨.k, 0x0, 0, 25, 1⟩
def Reg.KCTL.LCLR : RField := ⟨.k, 0x0, 0, 24, 1⟩
def Reg.KCTL.WAKE : RField := ⟨.k, 0x0, 0, 23, 1⟩
def Reg.KCTL.EVEDGE : RField := ⟨.k, 0x0, 0, 21, 2⟩
def Reg.KCTL.RAMPEN : RField := ⟨.k, 0x0, 0, 20, 1⟩
def Reg.KCTL.KFILT : RField := ⟨.k, 0x0, 0, 16, 4⟩
/-- KTHR, the whole word. -/
def Reg.KTHR.WHOLE : RField := ⟨.k, 0x4, 0, 0, 32⟩
def Reg.KTHR.THR : RField := ⟨.k, 0x4, 0, 0, 10⟩
/-- KRAMP, the whole word. -/
def Reg.KRAMP.WHOLE : RField := ⟨.k, 0x8, 0, 0, 32⟩
def Reg.KRAMP.RCH : RField := ⟨.k, 0x8, 0, 22, 10⟩
def Reg.KRAMP.SLOPE : RField := ⟨.k, 0x8, 0, 0, 16⟩
/-- KSTAT, the whole word. -/
def Reg.KSTAT.WHOLE : RField := ⟨.k, 0xc, 0, 0, 32⟩
def Reg.KSTAT.OUT : RField := ⟨.k, 0xc, 0, 31, 1⟩
def Reg.KSTAT.RAW : RField := ⟨.k, 0xc, 0, 30, 1⟩
def Reg.KSTAT.LATCHED : RField := ⟨.k, 0xc, 0, 29, 1⟩
def Reg.KSTAT.CLRREF : RField := ⟨.k, 0xc, 0, 28, 1⟩
def Reg.KSTAT.EFFTHR : RField := ⟨.k, 0xc, 0, 16, 10⟩
def Reg.KSTAT.TRANS : RField := ⟨.k, 0xc, 0, 0, 16⟩
/-- KCLR, the whole word. -/
def Reg.KCLR.WHOLE : RField := ⟨.k, 0x10, 0, 0, 32⟩
def Reg.KCLR.CLR : RField := ⟨.k, 0x10, 0, 31, 1⟩
/-- KCAP_LO, the whole word. -/
def Reg.KCAP_LO.WHOLE : RField := ⟨.k, 0x14, 0, 0, 32⟩
def Reg.KCAP_LO.VALUE : RField := ⟨.k, 0x14, 0, 0, 32⟩
/-- KCAP_HI, the whole word. -/
def Reg.KCAP_HI.WHOLE : RField := ⟨.k, 0x18, 0, 0, 32⟩
def Reg.KCAP_HI.VALUE : RField := ⟨.k, 0x18, 0, 0, 32⟩

/-- KOUTSEL, the whole word. -/
def Reg.KOUTSEL.WHOLE : RField := ⟨.an, 0x4000, 4, 0, 32⟩
def Reg.KOUTSEL.EN : RField := ⟨.an, 0x4000, 4, 31, 1⟩
def Reg.KOUTSEL.POL : RField := ⟨.an, 0x4000, 4, 30, 1⟩
def Reg.KOUTSEL.COMP : RField := ⟨.an, 0x4000, 4, 0, 8⟩
/-- MCLKCTL, the whole word. -/
def Reg.MCLKCTL.WHOLE : RField := ⟨.an, 0x18000, 4, 0, 32⟩
def Reg.MCLKCTL.EN : RField := ⟨.an, 0x18000, 4, 31, 1⟩
def Reg.MCLKCTL.DIV : RField := ⟨.an, 0x18000, 4, 0, 10⟩
/-- ANCTL, the whole word. -/
def Reg.ANCTL.WHOLE : RField := ⟨.an, 0x20000, 0, 0, 32⟩
def Reg.ANCTL.EN : RField := ⟨.an, 0x20000, 0, 31, 1⟩
def Reg.ANCTL.KOUTEN : RField := ⟨.an, 0x20000, 0, 30, 1⟩
def Reg.ANCTL.MCLKEN : RField := ⟨.an, 0x20000, 0, 29, 1⟩
/-- ANSTAT, the whole word. -/
def Reg.ANSTAT.WHOLE : RField := ⟨.an, 0x20004, 0, 0, 32⟩
def Reg.ANSTAT.READY : RField := ⟨.an, 0x20004, 0, 31, 1⟩
def Reg.ANSTAT.WRFAIL : RField := ⟨.an, 0x20004, 0, 0, 16⟩

/-- SARCTL, the whole word. -/
def Reg.SARCTL.WHOLE : RField := ⟨.sar, 0x0, 0, 0, 32⟩
def Reg.SARCTL.EN : RField := ⟨.sar, 0x0, 0, 31, 1⟩
def Reg.SARCTL.NSTEP : RField := ⟨.sar, 0x0, 0, 24, 4⟩
/-- SARSTAT, the whole word. -/
def Reg.SARSTAT.WHOLE : RField := ⟨.sar, 0x4, 0, 0, 32⟩
def Reg.SARSTAT.BUSY : RField := ⟨.sar, 0x4, 0, 31, 1⟩
def Reg.SARSTAT.PEND : RField := ⟨.sar, 0x4, 0, 28, 3⟩
def Reg.SARSTAT.MISSED : RField := ⟨.sar, 0x4, 0, 0, 16⟩
/-- SARTRIG, the whole word. -/
def Reg.SARTRIG.WHOLE : RField := ⟨.sar, 0x8, 0, 0, 32⟩
def Reg.SARTRIG.TSRC : RField := ⟨.sar, 0x8, 0, 30, 2⟩
def Reg.SARTRIG.TKIND : RField := ⟨.sar, 0x8, 0, 28, 2⟩
def Reg.SARTRIG.TCH : RField := ⟨.sar, 0x8, 0, 18, 10⟩
def Reg.SARTRIG.TDIV : RField := ⟨.sar, 0x8, 0, 8, 8⟩
/-- SARDLY, the whole word. -/
def Reg.SARDLY.WHOLE : RField := ⟨.sar, 0xc, 0, 0, 32⟩
def Reg.SARDLY.DELAY : RField := ⟨.sar, 0xc, 0, 0, 16⟩
/-- SARSW, the whole word. -/
def Reg.SARSW.WHOLE : RField := ⟨.sar, 0x10, 0, 0, 32⟩
def Reg.SARSW.GO : RField := ⟨.sar, 0x10, 0, 31, 1⟩
/-- SARBUF, the whole word. -/
def Reg.SARBUF.WHOLE : RField := ⟨.sar, 0x14, 0, 0, 32⟩
def Reg.SARBUF.BASE : RField := ⟨.sar, 0x14, 0, 8, 17⟩
def Reg.SARBUF.SIZE : RField := ⟨.sar, 0x14, 0, 0, 4⟩
/-- SARQ, the whole word. -/
def Reg.SARQ.WHOLE : RField := ⟨.sar, 0x18, 0, 0, 32⟩
def Reg.SARQ.QEN : RField := ⟨.sar, 0x18, 0, 31, 1⟩
def Reg.SARQ.QUEUE : RField := ⟨.sar, 0x18, 0, 0, 18⟩
/-- SARSEQ, the whole word. -/
def Reg.SARSEQ.WHOLE : RField := ⟨.sar, 0x1c, 0, 0, 32⟩
def Reg.SARSEQ.COUNT : RField := ⟨.sar, 0x1c, 0, 0, 32⟩
/-- SEQENT, the whole word. -/
def Reg.SEQENT.WHOLE : RField := ⟨.sar, 0x100, 4, 0, 32⟩
def Reg.SEQENT.GAIN : RField := ⟨.sar, 0x100, 4, 5, 2⟩
def Reg.SEQENT.INPUT : RField := ⟨.sar, 0x100, 4, 0, 5⟩

/-- SDCTL, the whole word. -/
def Reg.SDCTL.WHOLE : RField := ⟨.sd, 0x0, 0, 0, 32⟩
def Reg.SDCTL.EN : RField := ⟨.sd, 0x0, 0, 31, 1⟩
def Reg.SDCTL.CMODE : RField := ⟨.sd, 0x0, 0, 29, 2⟩
def Reg.SDCTL.CLK : RField := ⟨.sd, 0x0, 0, 22, 6⟩
def Reg.SDCTL.STREAM : RField := ⟨.sd, 0x0, 0, 21, 1⟩
def Reg.SDCTL.BLK : RField := ⟨.sd, 0x0, 0, 0, 16⟩
/-- SDFILT, the whole word. -/
def Reg.SDFILT.WHOLE : RField := ⟨.sd, 0x4, 0, 0, 32⟩
def Reg.SDFILT.ORD : RField := ⟨.sd, 0x4, 0, 28, 2⟩
def Reg.SDFILT.SHIFT : RField := ⟨.sd, 0x4, 0, 16, 5⟩
def Reg.SDFILT.DEC : RField := ⟨.sd, 0x4, 0, 0, 11⟩
/-- SDTIME, the whole word. -/
def Reg.SDTIME.WHOLE : RField := ⟨.sd, 0x8, 0, 0, 32⟩
def Reg.SDTIME.SDLY : RField := ⟨.sd, 0x8, 0, 16, 6⟩
def Reg.SDTIME.TOFF : RField := ⟨.sd, 0x8, 0, 0, 14⟩
/-- SDSTAT, the whole word. -/
def Reg.SDSTAT.WHOLE : RField := ⟨.sd, 0xc, 0, 0, 32⟩
def Reg.SDSTAT.RUN : RField := ⟨.sd, 0xc, 0, 31, 1⟩
def Reg.SDSTAT.FAULT : RField := ⟨.sd, 0xc, 0, 30, 1⟩
def Reg.SDSTAT.SETTLING : RField := ⟨.sd, 0xc, 0, 29, 1⟩
def Reg.SDSTAT.SAT : RField := ⟨.sd, 0xc, 0, 28, 1⟩
def Reg.SDSTAT.SETREM : RField := ⟨.sd, 0xc, 0, 25, 3⟩
def Reg.SDSTAT.FAULTS : RField := ⟨.sd, 0xc, 0, 0, 16⟩
/-- SDBUF, the whole word. -/
def Reg.SDBUF.WHOLE : RField := ⟨.sd, 0x10, 0, 0, 32⟩
def Reg.SDBUF.BASE : RField := ⟨.sd, 0x10, 0, 8, 17⟩
def Reg.SDBUF.SIZE : RField := ⟨.sd, 0x10, 0, 0, 4⟩
/-- SDQ, the whole word. -/
def Reg.SDQ.WHOLE : RField := ⟨.sd, 0x14, 0, 0, 32⟩
def Reg.SDQ.QEN : RField := ⟨.sd, 0x14, 0, 31, 1⟩
def Reg.SDQ.QUEUE : RField := ⟨.sd, 0x14, 0, 0, 18⟩
/-- SDSEQ, the whole word. -/
def Reg.SDSEQ.WHOLE : RField := ⟨.sd, 0x18, 0, 0, 32⟩
def Reg.SDSEQ.COUNT : RField := ⟨.sd, 0x18, 0, 0, 32⟩
/-- SDFAST, the whole word. -/
def Reg.SDFAST.WHOLE : RField := ⟨.sd, 0x1c, 0, 0, 32⟩
def Reg.SDFAST.EN : RField := ⟨.sd, 0x1c, 0, 31, 1⟩
def Reg.SDFAST.ORD : RField := ⟨.sd, 0x1c, 0, 28, 2⟩
def Reg.SDFAST.DEC : RField := ⟨.sd, 0x1c, 0, 0, 6⟩
/-- SDFTHR, the whole word. -/
def Reg.SDFTHR.WHOLE : RField := ⟨.sd, 0x20, 0, 0, 32⟩
def Reg.SDFTHR.HI : RField := ⟨.sd, 0x20, 0, 16, 16⟩
def Reg.SDFTHR.LO : RField := ⟨.sd, 0x20, 0, 0, 16⟩

/-- RELCTL, the whole word. -/
def Reg.RELCTL.WHOLE : RField := ⟨.rel, 0x0, 0, 0, 32⟩
def Reg.RELCTL.AUTOTEST : RField := ⟨.rel, 0x0, 0, 31, 1⟩
def Reg.RELCTL.AUTOCOLD : RField := ⟨.rel, 0x0, 0, 30, 1⟩
def Reg.RELCTL.AUTOWARM : RField := ⟨.rel, 0x0, 0, 29, 1⟩
/-- SCRUBSTAT, the whole word. -/
def Reg.SCRUBSTAT.WHOLE : RField := ⟨.rel, 0x8, 0, 0, 32⟩
def Reg.SCRUBSTAT.LATE : RField := ⟨.rel, 0x8, 0, 31, 1⟩
def Reg.SCRUBSTAT.LASTPASS : RField := ⟨.rel, 0x8, 0, 16, 12⟩
def Reg.SCRUBSTAT.PASSES : RField := ⟨.rel, 0x8, 0, 0, 16⟩
/-- SCRUBWEAK, the whole word. -/
def Reg.SCRUBWEAK.WHOLE : RField := ⟨.rel, 0xc, 0, 0, 32⟩
def Reg.SCRUBWEAK.VALID : RField := ⟨.rel, 0xc, 0, 31, 1⟩
def Reg.SCRUBWEAK.WORD : RField := ⟨.rel, 0xc, 0, 3, 22⟩
/-- MARGCTL, the whole word. -/
def Reg.MARGCTL.WHOLE : RField := ⟨.rel, 0x10, 0, 0, 32⟩
def Reg.MARGCTL.EN : RField := ⟨.rel, 0x10, 0, 31, 1⟩
def Reg.MARGCTL.VEN : RField := ⟨.rel, 0x10, 0, 30, 1⟩
def Reg.MARGCTL.TEN : RField := ⟨.rel, 0x10, 0, 29, 1⟩
def Reg.MARGCTL.MEN : RField := ⟨.rel, 0x10, 0, 28, 1⟩
def Reg.MARGCTL.HYST : RField := ⟨.rel, 0x10, 0, 16, 8⟩
def Reg.MARGCTL.TARGET : RField := ⟨.rel, 0x10, 0, 0, 16⟩
/-- MARGSTAT, the whole word. -/
def Reg.MARGSTAT.WHOLE : RField := ⟨.rel, 0x14, 0, 0, 32⟩
def Reg.MARGSTAT.LOW : RField := ⟨.rel, 0x14, 0, 31, 1⟩
def Reg.MARGSTAT.THR : RField := ⟨.rel, 0x14, 0, 29, 2⟩
def Reg.MARGSTAT.VMAXED : RField := ⟨.rel, 0x14, 0, 28, 1⟩
def Reg.MARGSTAT.WORST : RField := ⟨.rel, 0x14, 0, 22, 6⟩
def Reg.MARGSTAT.MIGR : RField := ⟨.rel, 0x14, 0, 8, 8⟩
def Reg.MARGSTAT.STEPS : RField := ⟨.rel, 0x14, 0, 0, 8⟩
/-- MARGLIFE, the whole word. -/
def Reg.MARGLIFE.WHOLE : RField := ⟨.rel, 0x18, 0, 0, 32⟩
def Reg.MARGLIFE.VALID : RField := ⟨.rel, 0x18, 0, 31, 1⟩
def Reg.MARGLIFE.MARGIN : RField := ⟨.rel, 0x18, 0, 16, 15⟩
def Reg.MARGLIFE.YEARS : RField := ⟨.rel, 0x18, 0, 0, 16⟩
/-- TELCTL, the whole word. -/
def Reg.TELCTL.WHOLE : RField := ⟨.rel, 0x20, 0, 0, 32⟩
def Reg.TELCTL.EN : RField := ⟨.rel, 0x20, 0, 31, 1⟩
def Reg.TELCTL.PERIOD : RField := ⟨.rel, 0x20, 0, 0, 16⟩
/-- TELBASE, the whole word. -/
def Reg.TELBASE.WHOLE : RField := ⟨.rel, 0x24, 0, 0, 32⟩
def Reg.TELBASE.BASE : RField := ⟨.rel, 0x24, 0, 9, 16⟩
/-- SPRCMD, the whole word. -/
def Reg.SPRCMD.WHOLE : RField := ⟨.rel, 0x40, 0, 0, 32⟩
def Reg.SPRCMD.OP : RField := ⟨.rel, 0x40, 0, 29, 3⟩
def Reg.SPRCMD.FORCE : RField := ⟨.rel, 0x40, 0, 28, 1⟩
def Reg.SPRCMD.LOG : RField := ⟨.rel, 0x40, 0, 22, 6⟩
def Reg.SPRCMD.PHYS : RField := ⟨.rel, 0x40, 0, 8, 7⟩
/-- SPRSTAT, the whole word. -/
def Reg.SPRSTAT.WHOLE : RField := ⟨.rel, 0x44, 0, 0, 32⟩
def Reg.SPRSTAT.BUSY : RField := ⟨.rel, 0x44, 0, 31, 1⟩
def Reg.SPRSTAT.PHASE : RField := ⟨.rel, 0x44, 0, 28, 3⟩
def Reg.SPRSTAT.LASTRES : RField := ⟨.rel, 0x44, 0, 25, 3⟩
def Reg.SPRSTAT.QLEN : RField := ⟨.rel, 0x44, 0, 22, 3⟩
def Reg.SPRSTAT.LOG : RField := ⟨.rel, 0x44, 0, 16, 6⟩
def Reg.SPRSTAT.MISM : RField := ⟨.rel, 0x44, 0, 8, 8⟩
def Reg.SPRSTAT.TGT : RField := ⟨.rel, 0x44, 0, 0, 7⟩
/-- LMAP, the whole word. -/
def Reg.LMAP.WHOLE : RField := ⟨.rel, 0x100, 4, 0, 32⟩
def Reg.LMAP.SHADOW : RField := ⟨.rel, 0x100, 4, 31, 1⟩
def Reg.LMAP.SPHYS : RField := ⟨.rel, 0x100, 4, 16, 7⟩
def Reg.LMAP.PHYS : RField := ⟨.rel, 0x100, 4, 0, 7⟩
/-- PHEALTH, the whole word. -/
def Reg.PHEALTH.WHOLE : RField := ⟨.rel, 0x200, 4, 0, 32⟩
def Reg.PHEALTH.STATE : RField := ⟨.rel, 0x200, 4, 29, 3⟩
def Reg.PHEALTH.MREG : RField := ⟨.rel, 0x200, 4, 25, 4⟩
def Reg.PHEALTH.LASTSUSP : RField := ⟨.rel, 0x200, 4, 22, 3⟩
def Reg.PHEALTH.SUSPCNT : RField := ⟨.rel, 0x200, 4, 16, 4⟩
/-- MON, the whole word. -/
def Reg.MON.WHOLE : RField := ⟨.rel, 0x400, 4, 0, 32⟩
def Reg.MON.FAULT : RField := ⟨.rel, 0x400, 4, 31, 1⟩
def Reg.MON.KREF : RField := ⟨.rel, 0x400, 4, 16, 15⟩
def Reg.MON.K : RField := ⟨.rel, 0x400, 4, 0, 16⟩
/-- BANKREP, the whole word. -/
def Reg.BANKREP.WHOLE : RField := ⟨.rel, 0x600, 4, 0, 32⟩
def Reg.BANKREP.CECNT : RField := ⟨.rel, 0x600, 4, 8, 8⟩
def Reg.BANKREP.USED : RField := ⟨.rel, 0x600, 4, 0, 3⟩
/-- MESHSTAT, the whole word. -/
def Reg.MESHSTAT.WHOLE : RField := ⟨.rel, 0x1000, 0, 0, 32⟩
def Reg.MESHSTAT.STALL : RField := ⟨.rel, 0x1000, 0, 31, 1⟩
def Reg.MESHSTAT.LASTPORT : RField := ⟨.rel, 0x1000, 0, 16, 8⟩
def Reg.MESHSTAT.NISO : RField := ⟨.rel, 0x1000, 0, 0, 8⟩
/-- COINCCNT_LO, the whole word. -/
def Reg.COINCCNT_LO.WHOLE : RField := ⟨.rel, 0x1008, 0, 0, 32⟩
def Reg.COINCCNT_LO.COUNT : RField := ⟨.rel, 0x1008, 0, 0, 32⟩
/-- COINCCNT_HI, the whole word. -/
def Reg.COINCCNT_HI.WHOLE : RField := ⟨.rel, 0x100c, 0, 0, 32⟩
def Reg.COINCCNT_HI.COUNT : RField := ⟨.rel, 0x100c, 0, 0, 32⟩
/-- MESHISO, the whole word. -/
def Reg.MESHISO.WHOLE : RField := ⟨.rel, 0x1010, 4, 0, 32⟩
def Reg.MESHISO.ISO : RField := ⟨.rel, 0x1010, 4, 0, 32⟩
/-- SPINESTAT, the whole word. -/
def Reg.SPINESTAT.WHOLE : RField := ⟨.rel, 0x1030, 0, 0, 32⟩
def Reg.SPINESTAT.CALDONE : RField := ⟨.rel, 0x1030, 0, 31, 1⟩
def Reg.SPINESTAT.FAULT : RField := ⟨.rel, 0x1030, 0, 30, 1⟩
def Reg.SPINESTAT.SKEWMAX : RField := ⟨.rel, 0x1030, 0, 8, 8⟩
/-- SRAMCE, the whole word. -/
def Reg.SRAMCE.WHOLE : RField := ⟨.rel, 0x1040, 0, 0, 32⟩
def Reg.SRAMCE.COUNT : RField := ⟨.rel, 0x1040, 0, 0, 32⟩
/-- SRAMUE, the whole word. -/
def Reg.SRAMUE.WHOLE : RField := ⟨.rel, 0x1044, 0, 0, 32⟩
def Reg.SRAMUE.COUNT : RField := ⟨.rel, 0x1044, 0, 0, 32⟩
/-- SRAMUEADDR, the whole word. -/
def Reg.SRAMUEADDR.WHOLE : RField := ⟨.rel, 0x1048, 0, 0, 32⟩
def Reg.SRAMUEADDR.WORD : RField := ⟨.rel, 0x1048, 0, 3, 22⟩

/-- LCSTAT, the whole word. -/
def Reg.LCSTAT.WHOLE : RField := ⟨.sec, 0x0, 0, 0, 32⟩
def Reg.LCSTAT.STATE : RField := ⟨.sec, 0x0, 0, 28, 4⟩
def Reg.LCSTAT.FIELDDBG : RField := ⟨.sec, 0x0, 0, 27, 1⟩
def Reg.LCSTAT.KEYOK : RField := ⟨.sec, 0x0, 0, 26, 1⟩
def Reg.LCSTAT.BUSY : RField := ⟨.sec, 0x0, 0, 25, 1⟩
def Reg.LCSTAT.INCOMP : RField := ⟨.sec, 0x0, 0, 24, 1⟩
/-- LCCMD, the whole word. -/
def Reg.LCCMD.WHOLE : RField := ⟨.sec, 0x4, 0, 0, 32⟩
def Reg.LCCMD.OP : RField := ⟨.sec, 0x4, 0, 28, 4⟩
def Reg.LCCMD.FIELDDBG : RField := ⟨.sec, 0x4, 0, 27, 1⟩
def Reg.LCCMD.CONFIRM : RField := ⟨.sec, 0x4, 0, 0, 16⟩
/-- LCARG, the whole word. -/
def Reg.LCARG.WHOLE : RField := ⟨.sec, 0x8, 0, 0, 32⟩
def Reg.LCARG.ADDR : RField := ⟨.sec, 0x8, 0, 3, 22⟩
/-- LCRES, the whole word. -/
def Reg.LCRES.WHOLE : RField := ⟨.sec, 0xc, 0, 0, 32⟩
def Reg.LCRES.DONE : RField := ⟨.sec, 0xc, 0, 31, 1⟩
def Reg.LCRES.ERR : RField := ⟨.sec, 0xc, 0, 28, 3⟩
/-- DEVSER_LO, the whole word. -/
def Reg.DEVSER_LO.WHOLE : RField := ⟨.sec, 0x10, 0, 0, 32⟩
def Reg.DEVSER_LO.SER : RField := ⟨.sec, 0x10, 0, 0, 32⟩
/-- DEVSER_HI, the whole word. -/
def Reg.DEVSER_HI.WHOLE : RField := ⟨.sec, 0x14, 0, 0, 32⟩
def Reg.DEVSER_HI.SER : RField := ⟨.sec, 0x14, 0, 0, 32⟩
/-- SECGON, the whole word. -/
def Reg.SECGON.WHOLE : RField := ⟨.sec, 0x20, 4, 0, 32⟩
def Reg.SECGON.SEC : RField := ⟨.sec, 0x20, 4, 0, 32⟩
/-- TAMPCTL, the whole word. -/
def Reg.TAMPCTL.WHOLE : RField := ⟨.sec, 0x40, 0, 0, 32⟩
def Reg.TAMPCTL.EN : RField := ⟨.sec, 0x40, 0, 25, 7⟩
def Reg.TAMPCTL.POL : RField := ⟨.sec, 0x40, 0, 21, 4⟩
def Reg.TAMPCTL.OEOFF : RField := ⟨.sec, 0x40, 0, 20, 1⟩
/-- TAMPSTAT, the whole word. -/
def Reg.TAMPSTAT.WHOLE : RField := ⟨.sec, 0x44, 0, 0, 32⟩
def Reg.TAMPSTAT.SEEN : RField := ⟨.sec, 0x44, 0, 25, 7⟩
def Reg.TAMPSTAT.KEYGONE : RField := ⟨.sec, 0x44, 0, 24, 1⟩
def Reg.TAMPSTAT.WIPING : RField := ⟨.sec, 0x44, 0, 23, 1⟩
def Reg.TAMPSTAT.GND : RField := ⟨.sec, 0x44, 0, 22, 1⟩
def Reg.TAMPSTAT.COUNT : RField := ⟨.sec, 0x44, 0, 0, 16⟩
/-- TAMPTS_LO, the whole word. -/
def Reg.TAMPTS_LO.WHOLE : RField := ⟨.sec, 0x48, 0, 0, 32⟩
def Reg.TAMPTS_LO.VALUE : RField := ⟨.sec, 0x48, 0, 0, 32⟩
/-- TAMPTS_HI, the whole word. -/
def Reg.TAMPTS_HI.WHOLE : RField := ⟨.sec, 0x4c, 0, 0, 32⟩
def Reg.TAMPTS_HI.VALUE : RField := ⟨.sec, 0x4c, 0, 0, 32⟩
/-- DBGCTL, the whole word. -/
def Reg.DBGCTL.WHOLE : RField := ⟨.sec, 0x80, 0, 0, 32⟩
def Reg.DBGCTL.OPEN : RField := ⟨.sec, 0x80, 0, 31, 1⟩
def Reg.DBGCTL.CLOSE : RField := ⟨.sec, 0x80, 0, 30, 1⟩
def Reg.DBGCTL.LEVEL : RField := ⟨.sec, 0x80, 0, 28, 2⟩
def Reg.DBGCTL.TOKADDR : RField := ⟨.sec, 0x80, 0, 3, 22⟩
/-- DBGSTAT, the whole word. -/
def Reg.DBGSTAT.WHOLE : RField := ⟨.sec, 0x84, 0, 0, 32⟩
def Reg.DBGSTAT.LEVEL : RField := ⟨.sec, 0x84, 0, 30, 2⟩
def Reg.DBGSTAT.PATH : RField := ⟨.sec, 0x84, 0, 29, 1⟩
def Reg.DBGSTAT.CHECKING : RField := ⟨.sec, 0x84, 0, 28, 1⟩
def Reg.DBGSTAT.LASTREF : RField := ⟨.sec, 0x84, 0, 24, 4⟩
def Reg.DBGSTAT.FAILS : RField := ⟨.sec, 0x84, 0, 16, 8⟩
def Reg.DBGSTAT.REMAIN : RField := ⟨.sec, 0x84, 0, 0, 16⟩
/-- DBGNONCE_LO, the whole word. -/
def Reg.DBGNONCE_LO.WHOLE : RField := ⟨.sec, 0x88, 0, 0, 32⟩
def Reg.DBGNONCE_LO.NONCE : RField := ⟨.sec, 0x88, 0, 0, 32⟩
/-- DBGNONCE_HI, the whole word. -/
def Reg.DBGNONCE_HI.WHOLE : RField := ⟨.sec, 0x8c, 0, 0, 32⟩
def Reg.DBGNONCE_HI.NONCE : RField := ⟨.sec, 0x8c, 0, 0, 32⟩
/-- REVCTL, the whole word. -/
def Reg.REVCTL.WHOLE : RField := ⟨.sec, 0xc0, 0, 0, 32⟩
def Reg.REVCTL.GO : RField := ⟨.sec, 0xc0, 0, 31, 1⟩
def Reg.REVCTL.ADDR : RField := ⟨.sec, 0xc0, 0, 3, 22⟩
/-- REVSTAT, the whole word. -/
def Reg.REVSTAT.WHOLE : RField := ⟨.sec, 0xc4, 0, 0, 32⟩
def Reg.REVSTAT.BUSY : RField := ⟨.sec, 0xc4, 0, 31, 1⟩
def Reg.REVSTAT.ERR : RField := ⟨.sec, 0xc4, 0, 28, 3⟩
def Reg.REVSTAT.COUNT : RField := ⟨.sec, 0xc4, 0, 0, 9⟩
/-- BALSEC, the whole word. -/
def Reg.BALSEC.WHOLE : RField := ⟨.sec, 0x100, 4, 0, 32⟩
def Reg.BALSEC.SEC : RField := ⟨.sec, 0x100, 4, 0, 32⟩
/-- BALSEL, the whole word. -/
def Reg.BALSEL.WHOLE : RField := ⟨.sec, 0x10c, 0, 0, 32⟩
def Reg.BALSEL.PHYS : RField := ⟨.sec, 0x10c, 0, 0, 7⟩
/-- PUBKEY, the whole word. -/
def Reg.PUBKEY.WHOLE : RField := ⟨.sec, 0x200, 4, 0, 32⟩
def Reg.PUBKEY.WORD : RField := ⟨.sec, 0x200, 4, 0, 32⟩
/-- BALWIN, the whole word. -/
def Reg.BALWIN.WHOLE : RField := ⟨.sec, 0x1000, 4, 0, 32⟩
def Reg.BALWIN.WORD : RField := ⟨.sec, 0x1000, 4, 0, 32⟩
/-- MCLDCTL, the whole word. -/
def Reg.MCLDCTL.WHOLE : RField := ⟨.sec, 0x8000, 0, 0, 32⟩
def Reg.MCLDCTL.GO : RField := ⟨.sec, 0x8000, 0, 0, 1⟩
/-- MCLDADDR, the whole word. -/
def Reg.MCLDADDR.WHOLE : RField := ⟨.sec, 0x8004, 0, 0, 32⟩
def Reg.MCLDADDR.ADDR : RField := ⟨.sec, 0x8004, 0, 3, 22⟩
/-- MCLDSTAT, the whole word. -/
def Reg.MCLDSTAT.WHOLE : RField := ⟨.sec, 0x8008, 0, 0, 32⟩
def Reg.MCLDSTAT.BUSY : RField := ⟨.sec, 0x8008, 0, 31, 1⟩
def Reg.MCLDSTAT.DONE : RField := ⟨.sec, 0x8008, 0, 30, 1⟩
def Reg.MCLDSTAT.ERR : RField := ⟨.sec, 0x8008, 0, 27, 3⟩
def Reg.MCLDSTAT.PENDING : RField := ⟨.sec, 0x8008, 0, 16, 7⟩
def Reg.MCLDSTAT.VERSION : RField := ⟨.sec, 0x8008, 0, 0, 16⟩
/-- MCMIN, the whole word. -/
def Reg.MCMIN.WHOLE : RField := ⟨.sec, 0x800c, 0, 0, 32⟩
def Reg.MCMIN.MINVER : RField := ⟨.sec, 0x800c, 0, 0, 16⟩

/-- The offsets implemented in a block of kind `glob`. -/
def globRows : List RegRow := [
  ⟨0x0, 1, 0, 0x0, 0x0, 0x0, 0x0, 0xfffffff0, 0x10241010⟩,
  ⟨0x100, 1, 0, 0x0, 0x0, 0x0, 0xffff, 0x0, 0x0⟩,
  ⟨0x104, 1, 0, 0x0, 0x0, 0x0, 0xffff, 0x0, 0x0⟩,
  ⟨0x108, 1, 0, 0x0, 0xffff0000, 0x0, 0x0, 0xffffffff, 0x0⟩,
  ⟨0x10c, 1, 0, 0x0, 0x0, 0x0, 0x0, 0xe0f0ffff, 0x0⟩,
  ⟨0x200, 32, 4, 0xffffffff, 0x0, 0x0, 0x0, 0xffffffff, 0x0⟩,
  ⟨0x280, 1, 0, 0x0, 0x0, 0x0, 0x7, 0x0, 0x0⟩,
  ⟨0x284, 1, 0, 0x0, 0x60000000, 0x0, 0x0, 0xf00007ff, 0x0⟩,
  ⟨0x288, 1, 0, 0x0, 0x0, 0x0, 0x0, 0xffffffff, 0x0⟩,
  ⟨0x28c, 1, 0, 0x0, 0x0, 0x0, 0x0, 0xffffffff, 0x0⟩,
  ⟨0x290, 1, 0, 0xffffffff, 0x0, 0x0, 0x0, 0xffffffff, 0x0⟩,
  ⟨0x294, 1, 0, 0xffffffff, 0x0, 0x0, 0x0, 0xffffffff, 0x0⟩,
  ⟨0x400, 1, 0, 0xffff, 0x0, 0x0, 0xe0ff0000, 0xffff, 0x200a⟩,
  ⟨0x404, 1, 0, 0x0, 0x10000000, 0xff0000, 0x0, 0xffffffff, 0x0⟩,
  ⟨0x408, 1, 0, 0xffffff, 0x0, 0x0, 0x0, 0xffffff, 0x0⟩,
  ⟨0x40c, 1, 0, 0xf0000000, 0x0, 0x0, 0x0, 0xf0000000, 0x70000000⟩,
  ⟨0x410, 1, 0, 0xffffffff, 0x0, 0x0, 0x0, 0xffffffff, 0x0⟩,
  ⟨0x414, 1, 0, 0xffffffff, 0x0, 0x0, 0x0, 0xffffffff, 0x0⟩,
  ⟨0x418, 1, 0, 0x0, 0x0, 0xffff0000, 0x0, 0xffffffff, 0x0⟩,
  ⟨0x41c, 1, 0, 0x0, 0x0, 0x0, 0x0, 0xf00000ff, 0x0⟩,
  ⟨0x420, 1, 0, 0xbffffc00, 0x0, 0x0, 0x40000000, 0xbffffc00, 0x384a2800⟩,
  ⟨0x424, 1, 0, 0x0, 0x0, 0x0, 0x0, 0xfffffc00, 0x320c8000⟩,
  ⟨0x428, 1, 0, 0xffff807f, 0x0, 0x0, 0x0, 0xffff807f, 0xe008040⟩,
  ⟨0x440, 20, 4, 0x0, 0x20000000, 0x0, 0x0, 0xf0ffffff, 0xfff000⟩,
  ⟨0x1000, 384, 4, 0xfffe0000, 0x0, 0x0, 0x0, 0xfffe0000, 0x0⟩]

/-- The offsets implemented in a block of kind `fn`. -/
def fnRows : List RegRow := [
  ⟨0x0, 1, 0, 0xff01ff, 0x0, 0x0, 0x0, 0xff01ff, 0x0⟩,
  ⟨0x4, 1, 0, 0x7ff0fff, 0x0, 0x0, 0x0, 0x7ff0fff, 0x0⟩,
  ⟨0x8, 1, 0, 0x1ff01ff, 0x0, 0x0, 0x0, 0x1ff01ff, 0x0⟩,
  ⟨0xc, 1, 0, 0xffffffc0, 0x0, 0x0, 0x0, 0xffffffc0, 0x0⟩,
  ⟨0x10, 1, 0, 0xffff, 0x0, 0x0, 0x0, 0xffff, 0x0⟩,
  ⟨0x14, 1, 0, 0x80ffffff, 0x0, 0x0, 0x40000000, 0x80ffffff, 0x0⟩,
  ⟨0x18, 1, 0, 0x0, 0x80000000, 0xffff, 0x0, 0x8000ffff, 0x0⟩]

/-- The offsets implemented in a block of kind `tb`. -/
def tbRows : List RegRow := [
  ⟨0x0, 1, 0, 0x31f0001, 0x0, 0x0, 0xe0000000, 0x31f0001, 0x1000000⟩,
  ⟨0x4, 1, 0, 0x0, 0x28000000, 0x0, 0x0, 0xf8000000, 0x0⟩,
  ⟨0x8, 1, 0, 0x0, 0x0, 0x0, 0x0, 0xffffffff, 0x0⟩,
  ⟨0xc, 1, 0, 0x0, 0x0, 0x0, 0x0, 0xffffffff, 0x0⟩,
  ⟨0x10, 1, 0, 0x0, 0x0, 0x0, 0x0, 0x3f, 0x0⟩,
  ⟨0x14, 1, 0, 0x0, 0x0, 0x0, 0x0, 0xffffffff, 0x0⟩,
  ⟨0x18, 1, 0, 0xffffffff, 0x0, 0x0, 0x0, 0xffffffff, 0x40000000⟩,
  ⟨0x20, 1, 0, 0x0, 0x0, 0x0, 0xffffffff, 0x0, 0x0⟩,
  ⟨0x24, 1, 0, 0x0, 0x0, 0x0, 0x0, 0xffffffff, 0x0⟩,
  ⟨0x28, 1, 0, 0xffff, 0x0, 0x0, 0x0, 0xffff, 0x64⟩,
  ⟨0x30, 1, 0, 0xffffffff, 0x0, 0x0, 0x0, 0xffffffff, 0x0⟩,
  ⟨0x34, 1, 0, 0xffffffff, 0x0, 0x0, 0x0, 0xffffffff, 0x0⟩,
  ⟨0x38, 1, 0, 0x3f, 0x0, 0x0, 0x0, 0x3f, 0x0⟩,
  ⟨0x40, 1, 0, 0xffffffff, 0x0, 0x0, 0x0, 0xffffffff, 0x10000⟩,
  ⟨0x80, 1, 0, 0x3337, 0x0, 0x0, 0x0, 0x3337, 0x100⟩,
  ⟨0x84, 1, 0, 0x0, 0x800, 0x0, 0x0, 0xf77, 0x0⟩,
  ⟨0x88, 1, 0, 0x0, 0x0, 0x0, 0x0, 0xffffffff, 0x0⟩,
  ⟨0x8c, 1, 0, 0x0, 0x0, 0x0, 0x0, 0xffffffff, 0x0⟩]

/-- The offsets implemented in a block of kind `ef`. -/
def efRows : List RegRow := [
  ⟨0x0, 1, 0, 0x1ff0000, 0x0, 0x0, 0x0, 0x1ff0000, 0x0⟩,
  ⟨0x4, 1, 0, 0x1ffc000, 0x0, 0x0, 0x0, 0x1ffc000, 0x0⟩,
  ⟨0x8, 1, 0, 0x1, 0x0, 0x0, 0x0, 0x1, 0x0⟩,
  ⟨0x10, 1, 0, 0x0, 0x0, 0x0, 0xc0001fff, 0x0, 0x0⟩,
  ⟨0x14, 1, 0, 0x0, 0x40000000, 0x0, 0x0, 0xc000ffff, 0x0⟩,
  ⟨0x20, 1, 0, 0x0, 0x80000000, 0x0, 0x0, 0x80ffffff, 0x0⟩,
  ⟨0x24, 1, 0, 0x0, 0x0, 0xffffffff, 0x0, 0xffffffff, 0x0⟩,
  ⟨0x28, 1, 0, 0x0, 0x0, 0xffffffff, 0x0, 0xffffffff, 0x0⟩,
  ⟨0x2c, 1, 0, 0x0, 0x0, 0xffffffff, 0x0, 0xffffffff, 0x0⟩]

/-- The offsets implemented in a block of kind `mv`. -/
def mvRows : List RegRow := [
  ⟨0x0, 1, 0, 0x0, 0x0, 0x0, 0xc0000000, 0x0, 0x0⟩,
  ⟨0x4, 1, 0, 0x0, 0x0, 0x0, 0x0, 0xef030000, 0x0⟩,
  ⟨0x8, 1, 0, 0xffffffc1, 0x0, 0x0, 0x0, 0xffffffc1, 0x0⟩,
  ⟨0xc, 1, 0, 0xffff, 0x0, 0x0, 0x0, 0xffff, 0x0⟩,
  ⟨0x10, 1, 0, 0x0, 0x0, 0x0, 0x0, 0xffffffff, 0x0⟩,
  ⟨0x14, 1, 0, 0x0, 0x0, 0x0, 0x0, 0xffffffff, 0x0⟩,
  ⟨0x18, 1, 0, 0x0, 0x0, 0x0, 0x0, 0xffffffff, 0x0⟩]

/-- The offsets implemented in a block of kind `qc`. -/
def qcRows : List RegRow := [
  ⟨0x0, 1, 0, 0x0, 0x0, 0x0, 0xe003ffff, 0x0, 0x0⟩,
  ⟨0x4, 1, 0, 0x0, 0x40000000, 0x0, 0x0, 0xc0000000, 0x0⟩]

/-- The offsets implemented in a block of kind `teth`. -/
def tethRows : List RegRow := [
  ⟨0x0, 1, 0, 0xfffcffff, 0x0, 0x0, 0x0, 0xfffcffff, 0x100003e8⟩,
  ⟨0x4, 1, 0, 0x0, 0x20000000, 0x0, 0x0, 0xffffff00, 0x0⟩,
  ⟨0x8, 1, 0, 0x0, 0x0, 0x0, 0x0, 0xffffffff, 0x0⟩,
  ⟨0xc, 1, 0, 0x0, 0x0, 0x0, 0x0, 0xffff, 0x0⟩,
  ⟨0x10, 1, 0, 0x0, 0x0, 0x0, 0x0, 0xff8fffff, 0x1001024⟩,
  ⟨0x14, 1, 0, 0x0, 0x0, 0xffffffff, 0x0, 0xffffffff, 0x0⟩,
  ⟨0x20, 1, 0, 0x0, 0x0, 0x0, 0x3, 0x0, 0x0⟩,
  ⟨0x24, 1, 0, 0x0, 0x40000000, 0x0, 0x0, 0xc0003f3f, 0x0⟩,
  ⟨0x28, 1, 0, 0xffffffff, 0x0, 0x0, 0x0, 0xffffffff, 0x0⟩,
  ⟨0x2c, 1, 0, 0xffffffff, 0x0, 0x0, 0x0, 0xffffffff, 0x0⟩,
  ⟨0x40, 1, 0, 0x7effffff, 0x0, 0x0, 0x80000000, 0x7effffff, 0x0⟩,
  ⟨0x44, 1, 0, 0xffffffff, 0x0, 0x0, 0x0, 0xffffffff, 0x0⟩,
  ⟨0x48, 1, 0, 0x0, 0x0, 0x0, 0x0, 0xf0000000, 0x0⟩,
  ⟨0x100, 96, 4, 0xbe001fff, 0x0, 0x0, 0x0, 0xfe001fff, 0x0⟩]

/-- The offsets implemented in a block of kind `tp`. -/
def tpRows : List RegRow := [
  ⟨0x0, 1, 0, 0x80ffff00, 0x0, 0x0, 0x40000000, 0x80ffff00, 0x3000⟩,
  ⟨0x4, 1, 0, 0x0, 0x2000000, 0x0, 0x0, 0xfff8f000, 0x0⟩,
  ⟨0x8, 1, 0, 0x0, 0x0, 0x0, 0x0, 0xffffffff, 0x0⟩,
  ⟨0xc, 1, 0, 0x0, 0x0, 0x0, 0x0, 0xffffffff, 0x0⟩,
  ⟨0x10, 1, 0, 0x0, 0x0, 0x0, 0x0, 0xffffffff, 0x0⟩,
  ⟨0x14, 1, 0, 0x0, 0x0, 0x0, 0x0, 0xffffffff, 0x0⟩,
  ⟨0x18, 1, 0, 0x0, 0x0, 0x0, 0x0, 0xffffffff, 0x0⟩,
  ⟨0x1c, 1, 0, 0x0, 0x0, 0xffffffff, 0x0, 0xffffffff, 0x0⟩,
  ⟨0x20, 1, 0, 0x0, 0x0, 0xffff0000, 0x0, 0xffffffff, 0x0⟩,
  ⟨0x24, 1, 0, 0x0, 0x0, 0xffffffff, 0x0, 0xffffffff, 0x0⟩]

/-- The offsets implemented in a block of kind `eng`. -/
def engRows : List RegRow := [
  ⟨0x0, 1, 0, 0x1, 0x0, 0x0, 0x80000000, 0x1, 0x0⟩,
  ⟨0x4, 1, 0, 0x0, 0x0, 0x0, 0x0, 0xf03f0000, 0x0⟩,
  ⟨0x8, 1, 0, 0x0, 0x0, 0x0, 0x0, 0xffffffff, 0x40000000⟩,
  ⟨0xc, 1, 0, 0x1, 0x0, 0x0, 0x0, 0x1, 0x0⟩,
  ⟨0x10, 1, 0, 0x0, 0x0, 0x0, 0x0, 0xffffffff, 0x0⟩,
  ⟨0x14, 1, 0, 0x0, 0x0, 0x0, 0x0, 0xffffffff, 0x0⟩,
  ⟨0x18, 1, 0, 0x0, 0x0, 0x0, 0x0, 0xffff, 0x0⟩,
  ⟨0x40, 1, 0, 0x8000ff00, 0x0, 0x0, 0x0, 0x8000ff00, 0x0⟩,
  ⟨0x44, 1, 0, 0xfff8, 0x0, 0x0, 0x0, 0xfff8, 0x0⟩,
  ⟨0x48, 1, 0, 0x0, 0x80000000, 0x0, 0x0, 0x8000ffff, 0x0⟩,
  ⟨0x4c, 1, 0, 0x0, 0x0, 0x0, 0x0, 0xffffffff, 0x0⟩,
  ⟨0x50, 1, 0, 0x0, 0x0, 0xffffffff, 0x0, 0xffffffff, 0x0⟩,
  ⟨0x60, 1, 0, 0x3, 0x0, 0x0, 0xc0000000, 0x3, 0x1⟩,
  ⟨0x64, 1, 0, 0x0, 0x0, 0x0, 0x0, 0xc007ffff, 0x0⟩,
  ⟨0x80, 1, 0, 0x0, 0x0, 0x0, 0x0, 0xffffffff, 0x4e010000⟩,
  ⟨0x84, 1, 0, 0x0, 0x0, 0x0, 0x0, 0xffffffff, 0x0⟩,
  ⟨0xc0, 1, 0, 0x10000000, 0x0, 0x0, 0xe0000000, 0x10000000, 0x0⟩,
  ⟨0xc4, 1, 0, 0xffffffff, 0x0, 0x0, 0x0, 0xffffffff, 0x0⟩,
  ⟨0xc8, 1, 0, 0xff, 0x0, 0x0, 0x0, 0xff, 0x0⟩,
  ⟨0xcc, 1, 0, 0xffffffff, 0x0, 0x0, 0x0, 0xffffffff, 0x0⟩]

/-- The offsets implemented in a block of kind `sch`. -/
def schRows : List RegRow := [
  ⟨0x0, 1, 0, 0xffff0000, 0x0, 0x0, 0x0, 0xffff0000, 0x1f40000⟩,
  ⟨0x4, 1, 0, 0x0, 0x0, 0x0, 0x0, 0xbfffff00, 0x0⟩,
  ⟨0x8, 1, 0, 0xe000, 0x0, 0x0, 0x0, 0xe000, 0xc000⟩,
  ⟨0xc, 1, 0, 0x0, 0x0, 0x0, 0x0, 0xffffffff, 0x80000000⟩,
  ⟨0x10, 1, 0, 0x0, 0x0, 0x0, 0x0, 0x8000003f, 0x0⟩,
  ⟨0x14, 1, 0, 0x0, 0x0, 0xffffffff, 0x0, 0xffffffff, 0x0⟩,
  ⟨0x20, 1, 0, 0x0, 0x0, 0x0, 0xc000003f, 0x0, 0x0⟩,
  ⟨0x100, 64, 16, 0xff80ffff, 0x0, 0x0, 0x0, 0xff80ffff, 0x0⟩,
  ⟨0x104, 64, 16, 0xffffffff, 0x0, 0x0, 0x0, 0xffffffff, 0x0⟩,
  ⟨0x108, 64, 16, 0xffffffff, 0x0, 0x0, 0x0, 0xffffffff, 0x0⟩,
  ⟨0x10c, 64, 16, 0xffffffff, 0x0, 0x0, 0x0, 0xffffffff, 0x0⟩,
  ⟨0x800, 256, 4, 0xffffffff, 0x0, 0x0, 0x0, 0xffffffff, 0x0⟩,
  ⟨0xc00, 64, 4, 0x0, 0x0, 0x0, 0x0, 0xffffffff, 0x80000000⟩,
  ⟨0x1000, 1024, 4, 0x0, 0x0, 0x0, 0x0, 0xe000000f, 0x0⟩]

/-- The offsets implemented in a block of kind `ch`. -/
def chRows1 : List RegRow := [
  ⟨0x0, 1, 0, 0xf0fcf, 0x0, 0x0, 0xf0000000, 0xf0fcf, 0x60000⟩,
  ⟨0x4, 1, 0, 0x0, 0x10000000, 0xffff, 0x0, 0xf000ffff, 0x0⟩,
  ⟨0x8, 1, 0, 0xffffffff, 0x0, 0x0, 0x0, 0xffffffff, 0x0⟩,
  ⟨0xc, 1, 0, 0xffffffff, 0x0, 0x0, 0x0, 0xffffffff, 0x0⟩,
  ⟨0x10, 1, 0, 0xffffffff, 0x0, 0x0, 0x0, 0xffffffff, 0x0⟩,
  ⟨0x14, 1, 0, 0x0, 0x0, 0x0, 0x0, 0xffffffff, 0x0⟩,
  ⟨0x18, 1, 0, 0xffff0006, 0x0, 0x0, 0x0, 0xffff0006, 0x10000⟩,
  ⟨0x1c, 1, 0, 0x0, 0x0, 0xffff, 0x0, 0xffffffff, 0x0⟩,
  ⟨0x20, 1, 0, 0x0, 0x0, 0x0, 0x0, 0xffffffff, 0x0⟩,
  ⟨0x24, 1, 0, 0x0, 0x0, 0x0, 0x0, 0xffffffff, 0x0⟩,
  ⟨0x28, 1, 0, 0x3f, 0x0, 0x0, 0x0, 0x3f, 0x0⟩,
  ⟨0x2c, 1, 0, 0xffffffff, 0x0, 0x0, 0x0, 0xffffffff, 0x0⟩,
  ⟨0x100, 1, 0, 0xfeff03ff, 0x0, 0x0, 0x0, 0xfeff03ff, 0x14⟩,
  ⟨0x104, 1, 0, 0x0, 0x8000000, 0xffff00, 0x0, 0xf8ffffff, 0x0⟩,
  ⟨0x108, 1, 0, 0xffffffff, 0x0, 0x0, 0x0, 0xffffffff, 0x1000100⟩,
  ⟨0x10c, 1, 0, 0xefc000ff, 0x0, 0x0, 0x0, 0xefc000ff, 0x18⟩,
  ⟨0x110, 1, 0, 0x0, 0x0, 0x0, 0x0, 0xffffffff, 0x0⟩,
  ⟨0x114, 1, 0, 0x0, 0x0, 0xffffffff, 0x0, 0xffffffff, 0x0⟩,
  ⟨0x118, 1, 0, 0x0, 0x0, 0x0, 0xf8000000, 0x0, 0x0⟩,
  ⟨0x11c, 1, 0, 0x0, 0x8000000, 0x0, 0x0, 0xf8000000, 0x0⟩,
  ⟨0x120, 1, 0, 0xff000fff, 0x0, 0x0, 0x0, 0xff000fff, 0x0⟩,
  ⟨0x124, 1, 0, 0x0, 0x20000000, 0xffff, 0x0, 0xff00ffff, 0x0⟩,
  ⟨0x128, 1, 0, 0x0, 0x0, 0x0, 0x80000000, 0x0, 0x0⟩,
  ⟨0x12c, 1, 0, 0x7, 0x0, 0x0, 0x0, 0x7, 0x0⟩,
  ⟨0x130, 1, 0, 0x0, 0x0, 0x0, 0x0, 0xffff001f, 0x0⟩,
  ⟨0x140, 1, 0, 0x0, 0x0, 0x0, 0x0, 0xffffffff, 0x0⟩,
  ⟨0x144, 1, 0, 0x0, 0x0, 0x0, 0x0, 0xffffffff, 0x0⟩,
  ⟨0x148, 1, 0, 0x0, 0x0, 0x0, 0x0, 0xffffffff, 0x0⟩,
  ⟨0x14c, 1, 0, 0x0, 0x0, 0x0, 0x0, 0xffffffff, 0x1000100⟩,
  ⟨0x300, 1, 0, 0xffff00ff, 0x0, 0x0, 0x0, 0xffff00ff, 0x0⟩]

/-- The offsets implemented in a block of kind `ch`. -/
def chRows2 : List RegRow := [
  ⟨0x304, 1, 0, 0xffff, 0x0, 0x0, 0x0, 0xffff, 0x0⟩,
  ⟨0x308, 1, 0, 0x0, 0x0, 0xffffff, 0x0, 0xf8ffffff, 0x0⟩,
  ⟨0x30c, 1, 0, 0x0, 0x0, 0x0, 0x0, 0xffffffff, 0x0⟩,
  ⟨0x310, 1, 0, 0x0, 0x0, 0x0, 0x0, 0xffffffff, 0x0⟩,
  ⟨0x314, 1, 0, 0x0, 0x0, 0x0, 0x0, 0xffffffff, 0x0⟩,
  ⟨0x318, 1, 0, 0x0, 0x0, 0x0, 0x0, 0xffffffff, 0x0⟩,
  ⟨0x31c, 1, 0, 0x0, 0x0, 0x0, 0x0, 0xffffffff, 0x0⟩,
  ⟨0x320, 1, 0, 0x0, 0x0, 0x0, 0x0, 0xffffffff, 0x0⟩,
  ⟨0x324, 1, 0, 0x0, 0x0, 0x0, 0x0, 0xffffffff, 0x0⟩,
  ⟨0x328, 1, 0, 0x0, 0x0, 0x0, 0x0, 0xffffffff, 0x0⟩,
  ⟨0x400, 1, 0, 0x10f77, 0x0, 0x0, 0x0, 0x10f77, 0x10⟩,
  ⟨0x404, 1, 0, 0x0, 0x0, 0x0, 0x0, 0xe0000000, 0x0⟩,
  ⟨0x408, 1, 0, 0x0, 0x0, 0x0, 0x0, 0xc000ffff, 0x0⟩,
  ⟨0x40c, 1, 0, 0xffffffff, 0x0, 0x0, 0x0, 0xffffffff, 0x0⟩,
  ⟨0x500, 1, 0, 0x8ff1ffff, 0x0, 0x0, 0x0, 0x8ff1ffff, 0x83093e8⟩,
  ⟨0x504, 1, 0, 0xffffffff, 0x0, 0x0, 0x0, 0xffffffff, 0x12c0096⟩,
  ⟨0x508, 1, 0, 0xfffffff, 0x0, 0x0, 0x0, 0xfffffff, 0x7d003c⟩,
  ⟨0x50c, 1, 0, 0x0, 0x0, 0x0, 0x0, 0xffffffff, 0x0⟩,
  ⟨0x510, 1, 0, 0x0, 0x0, 0x0, 0x0, 0xffffffff, 0x0⟩,
  ⟨0x514, 1, 0, 0x0, 0x0, 0xffff, 0x0, 0xf800ffff, 0x0⟩,
  ⟨0xf00, 1, 0, 0x1f0100, 0x0, 0x0, 0x1, 0x1f0100, 0x0⟩,
  ⟨0xf04, 1, 0, 0x0, 0x0, 0x0, 0x0, 0xe00fffff, 0x0⟩,
  ⟨0xf08, 1, 0, 0x0, 0xf0000000, 0x0, 0x0, 0xf000ffff, 0x0⟩,
  ⟨0xf0c, 1, 0, 0x0, 0x0, 0x0, 0x0, 0xffffffff, 0x0⟩]

/-- The offsets implemented in a block of kind `ch`. -/
def chRows : List RegRow := chRows1 ++ chRows2

/-- The offsets implemented in a block of kind `grp`. -/
def grpRows : List RegRow := [
  ⟨0x200, 1, 0, 0x0, 0x0, 0x0, 0x80000000, 0x0, 0x0⟩,
  ⟨0x204, 1, 0, 0x0, 0x0, 0x0, 0x0, 0x8000ffff, 0x0⟩,
  ⟨0x210, 4, 4, 0xef0f00ff, 0x0, 0x0, 0x0, 0xef0f00ff, 0x0⟩,
  ⟨0x220, 1, 0, 0x0, 0xf00, 0x0, 0x0, 0xf0f, 0x0⟩,
  ⟨0x230, 1, 0, 0x300ff, 0x0, 0x0, 0xc0000000, 0x300ff, 0x0⟩,
  ⟨0x234, 1, 0, 0x0, 0x0, 0x0, 0x0, 0xf000ffff, 0x0⟩,
  ⟨0x240, 1, 0, 0x0, 0x0, 0x0, 0xf80000ff, 0x0, 0x0⟩,
  ⟨0x244, 1, 0, 0xffffffff, 0x0, 0x0, 0x0, 0xffffffff, 0x0⟩,
  ⟨0x248, 1, 0, 0xffffffff, 0x0, 0x0, 0x0, 0xffffffff, 0x0⟩]

/-- The offsets implemented in a block of kind `tail`. -/
def tailRows1 : List RegRow := [
  ⟨0x0, 1, 0, 0xfff0ffff, 0x0, 0x0, 0x0, 0xfff0ffff, 0xa300000⟩,
  ⟨0x4, 1, 0, 0x0, 0x0, 0xffffff, 0x0, 0xffffffff, 0x0⟩,
  ⟨0x8, 1, 0, 0xffffffff, 0x0, 0x0, 0x0, 0xffffffff, 0x0⟩,
  ⟨0xc, 1, 0, 0xffffff, 0x0, 0x0, 0x0, 0xffffff, 0xe818ef⟩,
  ⟨0x10, 1, 0, 0xffffffff, 0x0, 0x0, 0x0, 0xffffffff, 0x604003e8⟩,
  ⟨0x14, 1, 0, 0xffffff80, 0x0, 0x0, 0x0, 0xffffff80, 0x8300200⟩,
  ⟨0x18, 1, 0, 0xfffc0000, 0x0, 0x0, 0x20000, 0xfffc0000, 0x0⟩,
  ⟨0x1c, 1, 0, 0xffffff, 0x0, 0x0, 0x0, 0xffffff, 0xf424⟩,
  ⟨0x20, 1, 0, 0xffff, 0x0, 0x0, 0x0, 0xffffffff, 0x0⟩,
  ⟨0x24, 1, 0, 0xffffff00, 0x0, 0x0, 0x0, 0xffffff00, 0x3200⟩,
  ⟨0x28, 1, 0, 0xffffffe0, 0x0, 0x0, 0x0, 0xffffffe0, 0x2000000⟩,
  ⟨0x30, 1, 0, 0x0, 0x0, 0x0, 0x0, 0xffffffff, 0x0⟩,
  ⟨0x34, 1, 0, 0x0, 0x0, 0x0, 0x0, 0xffffffff, 0x0⟩,
  ⟨0x38, 1, 0, 0x0, 0x0, 0x0, 0x0, 0xffffffff, 0x0⟩,
  ⟨0x3c, 1, 0, 0x0, 0x0, 0x0, 0x0, 0xffffffff, 0x0⟩,
  ⟨0x40, 1, 0, 0x0, 0x40000000, 0x0, 0x0, 0xfcff0087, 0x7⟩,
  ⟨0x44, 1, 0, 0x0, 0x0, 0x0, 0x0, 0xffffffff, 0x0⟩,
  ⟨0x48, 1, 0, 0x0, 0x0, 0x0, 0x0, 0xffffffff, 0x0⟩,
  ⟨0x4c, 1, 0, 0x0, 0x0, 0x0, 0x0, 0xffffffff, 0x0⟩,
  ⟨0x50, 1, 0, 0x0, 0x0, 0x0, 0x0, 0xffffffff, 0x0⟩,
  ⟨0x54, 1, 0, 0x0, 0x0, 0x0, 0x0, 0xffffffff, 0x0⟩,
  ⟨0x58, 1, 0, 0x0, 0x0, 0x0, 0x0, 0xf01fffff, 0x80000000⟩,
  ⟨0x5c, 1, 0, 0xffffffff, 0x0, 0x0, 0x0, 0xffffffff, 0x27103e8⟩,
  ⟨0x60, 1, 0, 0xfff03fff, 0x0, 0x0, 0x0, 0xfff03fff, 0x58000000⟩,
  ⟨0x64, 1, 0, 0x0, 0x20000000, 0xff0000, 0x0, 0xefffffff, 0x0⟩,
  ⟨0x70, 1, 0, 0xffc0ffff, 0x0, 0x0, 0x0, 0xffc0ffff, 0x1932⟩,
  ⟨0x74, 1, 0, 0xffffffff, 0x0, 0x0, 0x0, 0xffffffff, 0x3e8⟩,
  ⟨0x78, 1, 0, 0x0, 0x0, 0x0, 0x0, 0xf800ffff, 0x0⟩,
  ⟨0x80, 1, 0, 0xfbffffff, 0x0, 0x0, 0x0, 0xfbffffff, 0x0⟩,
  ⟨0x84, 1, 0, 0xffffffff, 0x0, 0x0, 0x0, 0xffffffff, 0x1000000⟩]

/-- The offsets implemented in a block of kind `tail`. -/
def tailRows2 : List RegRow := [
  ⟨0x88, 1, 0, 0xffffff, 0x0, 0x0, 0x0, 0xffffff, 0xfa0⟩,
  ⟨0x8c, 1, 0, 0x0, 0x8000000, 0xffff, 0x0, 0xf800ffff, 0x0⟩]

/-- The offsets implemented in a block of kind `tail`. -/
def tailRows : List RegRow := tailRows1 ++ tailRows2

/-- The offsets implemented in a block of kind `sp`. -/
def spRows : List RegRow := [
  ⟨0x0, 1, 0, 0xf3000000, 0x0, 0x0, 0xc000000, 0xf3000000, 0x0⟩,
  ⟨0x4, 1, 0, 0xffffff7f, 0x0, 0x0, 0x0, 0xffffff7f, 0x100000⟩,
  ⟨0x8, 1, 0, 0x7ff1fff, 0x0, 0x0, 0x0, 0x7ff1fff, 0x3c0400⟩,
  ⟨0xc, 1, 0, 0xffffff00, 0x0, 0x0, 0x0, 0xffffff00, 0x18081800⟩,
  ⟨0x10, 1, 0, 0x0, 0x0, 0xffffff, 0x0, 0xffffffff, 0x0⟩,
  ⟨0x14, 1, 0, 0x0, 0x0, 0x0, 0x0, 0x3fffff, 0x0⟩,
  ⟨0x18, 1, 0, 0x0, 0x0, 0x0, 0x0, 0xffffffff, 0x0⟩,
  ⟨0x1c, 1, 0, 0x0, 0x0, 0x0, 0x0, 0xffffffff, 0x0⟩,
  ⟨0x20, 1, 0, 0x0, 0x0, 0x0, 0x0, 0xffffffff, 0x0⟩,
  ⟨0x24, 1, 0, 0x0, 0x0, 0x0, 0x0, 0xffffffff, 0x0⟩,
  ⟨0x28, 1, 0, 0x0, 0x0, 0x0, 0x0, 0xffffffff, 0x0⟩,
  ⟨0x2c, 1, 0, 0x0, 0x0, 0x0, 0x0, 0xffffffff, 0x0⟩,
  ⟨0x30, 1, 0, 0x0, 0x0, 0x0, 0x0, 0x80ffffff, 0x0⟩,
  ⟨0x34, 1, 0, 0x81fffe00, 0x40000000, 0x0, 0x0, 0xc1fffe00, 0x0⟩,
  ⟨0x100, 32, 4, 0xffffffff, 0x0, 0x0, 0x0, 0xffffffff, 0x0⟩,
  ⟨0x400, 64, 32, 0x3fffff, 0x0, 0x0, 0x0, 0x3fffff, 0x0⟩,
  ⟨0x404, 64, 32, 0xffffffff, 0x0, 0x0, 0x0, 0xffffffff, 0x0⟩,
  ⟨0x408, 64, 32, 0xffffffff, 0x0, 0x0, 0x0, 0xffffffff, 0x0⟩,
  ⟨0x40c, 64, 32, 0x0, 0x38000000, 0x0, 0x0, 0xfff0ffff, 0x0⟩,
  ⟨0x410, 64, 32, 0x0, 0x0, 0x0, 0x0, 0xffffffff, 0x0⟩,
  ⟨0x414, 64, 32, 0x0, 0x0, 0x0, 0x0, 0xffffffff, 0x0⟩]

/-- The offsets implemented in a block of kind `k`. -/
def kRows : List RegRow := [
  ⟨0x0, 1, 0, 0xffff0000, 0x0, 0x0, 0x0, 0xffff0000, 0x0⟩,
  ⟨0x4, 1, 0, 0x3ff, 0x0, 0x0, 0x0, 0x3ff, 0x3ff⟩,
  ⟨0x8, 1, 0, 0xffc0ffff, 0x0, 0x0, 0x0, 0xffc0ffff, 0x0⟩,
  ⟨0xc, 1, 0, 0x0, 0x10000000, 0x0, 0x0, 0xf3ffffff, 0x3ff0000⟩,
  ⟨0x10, 1, 0, 0x0, 0x0, 0x0, 0x80000000, 0x0, 0x0⟩,
  ⟨0x14, 1, 0, 0x0, 0x0, 0x0, 0x0, 0xffffffff, 0x0⟩,
  ⟨0x18, 1, 0, 0x0, 0x0, 0x0, 0x0, 0xffffffff, 0x0⟩]

/-- The offsets implemented in a block of kind `an`. -/
def anRows : List RegRow := [
  ⟨0x4000, 16, 4, 0xc00000ff, 0x0, 0x0, 0x0, 0xc00000ff, 0x0⟩,
  ⟨0x18000, 64, 4, 0x800003ff, 0x0, 0x0, 0x0, 0x800003ff, 0x32⟩,
  ⟨0x20000, 1, 0, 0xe0000000, 0x0, 0x0, 0x0, 0xe0000000, 0x0⟩,
  ⟨0x20004, 1, 0, 0x0, 0x0, 0xffff, 0x0, 0x8000ffff, 0x0⟩]

/-- The offsets implemented in a block of kind `sar`. -/
def sarRows : List RegRow := [
  ⟨0x0, 1, 0, 0x8f000000, 0x0, 0x0, 0x0, 0x8f000000, 0x0⟩,
  ⟨0x4, 1, 0, 0x0, 0x0, 0xffff, 0x0, 0xf000ffff, 0x0⟩,
  ⟨0x8, 1, 0, 0xfffcff00, 0x0, 0x0, 0x0, 0xfffcff00, 0x0⟩,
  ⟨0xc, 1, 0, 0xffff, 0x0, 0x0, 0x0, 0xffff, 0x0⟩,
  ⟨0x10, 1, 0, 0x0, 0x0, 0x0, 0x80000000, 0x0, 0x0⟩,
  ⟨0x14, 1, 0, 0x1ffff0f, 0x0, 0x0, 0x0, 0x1ffff0f, 0x0⟩,
  ⟨0x18, 1, 0, 0x8003ffff, 0x0, 0x0, 0x0, 0x8003ffff, 0x0⟩,
  ⟨0x1c, 1, 0, 0x0, 0x0, 0x0, 0x0, 0xffffffff, 0x0⟩,
  ⟨0x100, 16, 4, 0x7f, 0x0, 0x0, 0x0, 0x7f, 0x0⟩]

/-- The offsets implemented in a block of kind `sd`. -/
def sdRows : List RegRow := [
  ⟨0x0, 1, 0, 0xefe0ffff, 0x0, 0x0, 0x0, 0xefe0ffff, 0x0⟩,
  ⟨0x4, 1, 0, 0x301f07ff, 0x0, 0x0, 0x0, 0x301f07ff, 0x20000040⟩,
  ⟨0x8, 1, 0, 0x3f3fff, 0x0, 0x0, 0x0, 0x3f3fff, 0x0⟩,
  ⟨0xc, 1, 0, 0x0, 0x10000000, 0xffff, 0x0, 0xfe00ffff, 0x0⟩,
  ⟨0x10, 1, 0, 0x1ffff0f, 0x0, 0x0, 0x0, 0x1ffff0f, 0x0⟩,
  ⟨0x14, 1, 0, 0x8003ffff, 0x0, 0x0, 0x0, 0x8003ffff, 0x0⟩,
  ⟨0x18, 1, 0, 0x0, 0x0, 0x0, 0x0, 0xffffffff, 0x0⟩,
  ⟨0x1c, 1, 0, 0xb000003f, 0x0, 0x0, 0x0, 0xb000003f, 0x20000008⟩,
  ⟨0x20, 1, 0, 0xffffffff, 0x0, 0x0, 0x0, 0xffffffff, 0x7fff8000⟩]

/-- The offsets implemented in a block of kind `rel`. -/
def relRows : List RegRow := [
  ⟨0x0, 1, 0, 0xe0000000, 0x0, 0x0, 0x0, 0xe0000000, 0xa0000000⟩,
  ⟨0x8, 1, 0, 0x0, 0x80000000, 0x0, 0x0, 0x8fffffff, 0x0⟩,
  ⟨0xc, 1, 0, 0x0, 0x80000000, 0x0, 0x0, 0x81fffff8, 0x0⟩,
  ⟨0x10, 1, 0, 0xf0ffffff, 0x0, 0x0, 0x0, 0xf0ffffff, 0x70080010⟩,
  ⟨0x14, 1, 0, 0x0, 0x0, 0xffff, 0x0, 0xffc0ffff, 0x0⟩,
  ⟨0x18, 1, 0, 0x0, 0x0, 0x0, 0x0, 0xffffffff, 0xffff⟩,
  ⟨0x20, 1, 0, 0x8000ffff, 0x0, 0x0, 0x0, 0x8000ffff, 0x3e8⟩,
  ⟨0x24, 1, 0, 0x1fffe00, 0x0, 0x0, 0x0, 0x1fffe00, 0x0⟩,
  ⟨0x40, 1, 0, 0x0, 0x0, 0x0, 0xffc07f00, 0x0, 0x0⟩,
  ⟨0x44, 1, 0, 0x0, 0x0, 0x0, 0x0, 0xffffff7f, 0x0⟩,
  ⟨0x100, 64, 4, 0x0, 0x0, 0x0, 0x0, 0x807f007f, 0x0⟩,
  ⟨0x200, 68, 4, 0x0, 0x0, 0x0, 0x0, 0xffcf0000, 0x0⟩,
  ⟨0x400, 96, 4, 0x0, 0x0, 0x0, 0x0, 0xffffffff, 0x1050⟩,
  ⟨0x600, 96, 4, 0x0, 0x0, 0xff00, 0x0, 0xff07, 0x0⟩,
  ⟨0x1000, 1, 0, 0x0, 0x80000000, 0x0, 0x0, 0x80ff00ff, 0xff0000⟩,
  ⟨0x1008, 1, 0, 0x0, 0x0, 0x0, 0x0, 0xffffffff, 0x0⟩,
  ⟨0x100c, 1, 0, 0x0, 0x0, 0x0, 0x0, 0xffffffff, 0x0⟩,
  ⟨0x1010, 7, 4, 0x0, 0xffffffff, 0x0, 0x0, 0xffffffff, 0x0⟩,
  ⟨0x1030, 1, 0, 0x0, 0x40000000, 0x0, 0x0, 0xc000ff00, 0x0⟩,
  ⟨0x1040, 1, 0, 0x0, 0x0, 0xffffffff, 0x0, 0xffffffff, 0x0⟩,
  ⟨0x1044, 1, 0, 0x0, 0x0, 0xffffffff, 0x0, 0xffffffff, 0x0⟩,
  ⟨0x1048, 1, 0, 0x0, 0x0, 0x0, 0x0, 0x1fffff8, 0x0⟩]

/-- The offsets implemented in a block of kind `sec`. -/
def secRows : List RegRow := [
  ⟨0x0, 1, 0, 0x0, 0x0, 0x0, 0x0, 0xff000000, 0x0⟩,
  ⟨0x4, 1, 0, 0x0, 0x0, 0x0, 0xf800ffff, 0x0, 0x0⟩,
  ⟨0x8, 1, 0, 0x1fffff8, 0x0, 0x0, 0x0, 0x1fffff8, 0x0⟩,
  ⟨0xc, 1, 0, 0x0, 0x80000000, 0x0, 0x0, 0xf0000000, 0x0⟩,
  ⟨0x10, 1, 0, 0x0, 0x0, 0x0, 0x0, 0xffffffff, 0x0⟩,
  ⟨0x14, 1, 0, 0x0, 0x0, 0x0, 0x0, 0xffffffff, 0x0⟩,
  ⟨0x20, 2, 4, 0xffffffff, 0x0, 0x0, 0x0, 0xffffffff, 0x0⟩,
  ⟨0x40, 1, 0, 0xfff00000, 0x0, 0x0, 0x0, 0xfff00000, 0x0⟩,
  ⟨0x44, 1, 0, 0x0, 0xfe400000, 0x0, 0x0, 0xffc0ffff, 0x0⟩,
  ⟨0x48, 1, 0, 0x0, 0x0, 0x0, 0x0, 0xffffffff, 0x0⟩,
  ⟨0x4c, 1, 0, 0x0, 0x0, 0x0, 0x0, 0xffffffff, 0x0⟩,
  ⟨0x80, 1, 0, 0x0, 0x0, 0x0, 0xf1fffff8, 0x0, 0x0⟩,
  ⟨0x84, 1, 0, 0x0, 0x0, 0x0, 0x0, 0xffffffff, 0x0⟩,
  ⟨0x88, 1, 0, 0x0, 0x0, 0x0, 0x0, 0xffffffff, 0x0⟩,
  ⟨0x8c, 1, 0, 0x0, 0x0, 0x0, 0x0, 0xffffffff, 0x0⟩,
  ⟨0xc0, 1, 0, 0x0, 0x0, 0x0, 0x81fffff8, 0x0, 0x0⟩,
  ⟨0xc4, 1, 0, 0x0, 0x0, 0x0, 0x0, 0xf00001ff, 0x0⟩,
  ⟨0x100, 3, 4, 0x0, 0x0, 0x0, 0x0, 0xffffffff, 0x0⟩,
  ⟨0x10c, 1, 0, 0x7f, 0x0, 0x0, 0x0, 0x7f, 0x0⟩,
  ⟨0x200, 24, 4, 0x0, 0x0, 0x0, 0x0, 0xffffffff, 0x0⟩,
  ⟨0x1000, 512, 4, 0x0, 0x0, 0x0, 0x0, 0xffffffff, 0x0⟩,
  ⟨0x8000, 1, 0, 0x0, 0x0, 0x0, 0x1, 0x0, 0x0⟩,
  ⟨0x8004, 1, 0, 0x1fffff8, 0x0, 0x0, 0x0, 0x1fffff8, 0x0⟩,
  ⟨0x8008, 1, 0, 0x0, 0x40000000, 0x0, 0x0, 0xf87fffff, 0x0⟩,
  ⟨0x800c, 1, 0, 0x0, 0x0, 0x0, 0x0, 0xffff, 0x0⟩]

/-- The rows of a kind of block. -/
def blkRows (b : Blk) : List RegRow :=
  match b with
  | .glob => globRows
  | .fn => fnRows
  | .tb => tbRows
  | .ef => efRows
  | .mv => mvRows
  | .qc => qcRows
  | .teth => tethRows
  | .tp => tpRows
  | .eng => engRows
  | .sch => schRows
  | .ch => chRows
  | .grp => grpRows
  | .tail => tailRows
  | .sp => spRows
  | .k => kRows
  | .an => anRows
  | .sar => sarRows
  | .sd => sdRows
  | .rel => relRows
  | .sec => secRows

/-- The row of `rows` that implements the local offset `loc`, with the element of its array. -/
def rowAt : List RegRow → Nat → Option (RegRow × Nat)
  | [], _ => none
  | r :: rs, loc =>
    if r.cnt ≤ 1 then (if loc = r.off then some (r, 0) else rowAt rs loc)
    else if r.off ≤ loc ∧ loc < r.off + r.stride * r.cnt ∧ (loc - r.off) % r.stride = 0
      then some (r, (loc - r.off) / r.stride) else rowAt rs loc

/-- The block that holds a BAR0 offset: its kind, its number and the offset within it (R404). -/
def blkOf (a : Nat) : Option (Blk × Nat × Nat) :=
  if a < 0x2000 then some (.glob, 0, a)
  else if a < 0x2220 then some (.fn, (a - 0x2000) / 0x20, a % 0x20)
  else if a < 0x100000 then none
  else if a < 0x112000 then some (.tb, (a - 0x100000) / 0x1000, a % 0x1000)
  else if a < 0x200000 then none
  else if a < 0x201000 then some (.ef, 0, a - 0x200000)
  else if a < 0x400000 then none
  else if a < 0x400800 then some (.mv, (a - 0x400000) / 0x40, a % 0x40)
  else if a < 0x401000 then none
  else if a < 0x402000 then some (.qc, 0, a - 0x401000)
  else if a < 0x800000 then none
  else if a < 0x801000 then some (.teth, 0, a - 0x800000)
  else if a < 0x801400 then some (.tp, (a - 0x801000) / 0x100, a % 0x100)
  else if a < 0x1000000 then none
  else if a < 0x2000000 then
    let g := (a - 0x1000000) / 0x40000
    let l := a % 0x40000
    if l < 0x4000 then some (.eng, g, l)
    else if l < 0x8000 then some (.sch, g, l - 0x4000)
    else if l < 0x10000 then none
    else if l < 0x20000 then
      let c := 16 * g + (l - 0x10000) / 0x1000
      let o := a % 0x1000
      if c % 8 = 0 ∧ 0x200 ≤ o ∧ o < 0x300 then some (.grp, c / 8, o) else some (.ch, c, o)
    else none
  else if a < 0x2400000 then none
  else if a < 0x2480000 then some (.tail, (a - 0x2400000) / 0x1000, a % 0x1000)
  else if a < 0x2600000 then none
  else if a < 0x2620000 then some (.sp, (a - 0x2600000) / 0x1000, a % 0x1000)
  else if a < 0x2700000 then none
  else if a < 0x2702000 then some (.k, (a - 0x2700000) / 0x20, a % 0x20)
  else if a < 0x2708000 then some (.an, 0, a - 0x2700000)
  else if a < 0x270C000 then some (.sar, (a - 0x2708000) / 0x400, a % 0x400)
  else if a < 0x2710000 then some (.an, 0, a - 0x2700000)
  else if a < 0x2714000 then some (.sd, (a - 0x2710000) / 0x40, a % 0x40)
  else if a < 0x2721000 then some (.an, 0, a - 0x2700000)
  else if a < 0x2800000 then none
  else if a < 0x2802000 then some (.rel, 0, a - 0x2800000)
  else if a < 0x2C00000 then none
  else if a < 0x2C10000 then some (.sec, 0, a - 0x2C00000)
  else none

/-- The row of the register at BAR0 offset `a`. -/
def regRow (a : Nat) : Option RegRow :=
  match blkOf a with
  | some (b, _, loc) => (rowAt (blkRows b) loc).map (·.1)
  | none => none

/-- The reset values that differ between the blocks of one kind, beyond the row's own (R6, R47, R270, R341, R408);
`row` is the row's reset word. -/
def instReset (b : Blk) (n loc row : Nat) : Nat :=
  match b with
  | .tb => if n = 0 ∨ n = 17 then (if loc = 0 then 1 else if loc = 0x14 then 0x40000000 else row) else row
  | .fn => if n = 0 then (if loc = 0 then 0x100 else if loc = 4 then 0x800 else if loc = 8 then 0x180 else row) else row
  | .rel =>
    if 0x100 ≤ loc ∧ loc < 0x200 then (loc - 0x100) / 4
    else if 0x300 ≤ loc ∧ loc < 0x310 then 0x20000000 else row
  | _ => row

/-- The reset value of the register at BAR0 offset `a` (R408); 0 where no register stands. -/
def regReset (a : Nat) : Word :=
  match blkOf a with
  | some (b, n, loc) =>
    match rowAt (blkRows b) loc with
    | some (r, _) => BitVec.ofNat 32 (instReset b n loc r.reset)
    | none => 0
  | none => 0

end Sys2Proof.Machine
end

