-- ==== Sys2Proof/Machine/Store.lean ====
section
/-! DEFINITION. Sparse storage in one canonical form: keys strictly rising, and no entry that holds what an
unlisted key reads as. Registers, memories and the records of the device's units are kept in it. -/
namespace Sys2Proof.Machine

/-- Sparse data by key. -/
abbrev Store (α : Type) := List (Nat × α)

/-- What a store holds at `k`; an unlisted key reads as `d k`. -/
def Store.get {α : Type} (d : Nat → α) : Store α → Nat → α
  | [], k => d k
  | (k', a) :: r, k => if k = k' then a else Store.get d r k

/-- A store without the entry at `k`. -/
def Store.drop {α : Type} : Store α → Nat → Store α
  | [], _ => []
  | (k', a) :: r, k => if k = k' then Store.drop r k else (k', a) :: Store.drop r k

/-- A store with the entry `a` at `k`, the keys kept in order. -/
def Store.put {α : Type} : Store α → Nat → α → Store α
  | [], k, a => [(k, a)]
  | (k', a') :: r, k, a =>
    if k < k' then (k, a) :: (k', a') :: r
    else if k = k' then (k, a) :: r
    else (k', a') :: Store.put r k a

/-- A store that reads as `a` at `k`: an entry equal to what an unlisted key reads as is not kept. -/
def Store.set {α : Type} [DecidableEq α] (d : Nat → α) (m : Store α) (k : Nat) (a : α) : Store α :=
  if a = d k then Store.drop m k else Store.put m k a

/-- Every key of `m` is above `k`, strictly rising, and no entry is what an unlisted key reads as. -/
def Store.wfFrom {α : Type} [DecidableEq α] (d : Nat → α) : Option Nat → Store α → Bool
  | _, [] => true
  | lo, (k, a) :: r => lo.all (· < k) && decide (a ≠ d k) && Store.wfFrom d (some k) r

/-- The canonical form of a store. -/
def Store.wf {α : Type} [DecidableEq α] (d : Nat → α) (m : Store α) : Bool := Store.wfFrom d none m

end Sys2Proof.Machine
end

