-- ==== Sys2Proof/Machine/State.lean ====
section
/-! DEFINITION. The state of the H1024 as the spec gives it. Every BAR0 register is one word of the sparse store
`regs`, read as its reset value where nothing is listed (R408). What the rules give the machine beyond its registers
(pending edges, runs, queues, task contexts, cached table lines and so on) stands in records of its own. All instants
are counts of 1/64 ns of the spine strobe; a fine time of a timebase is its count of 1/64 ns (R43). -/
namespace Sys2Proof.Machine

/-- The reasons a command stops the model. -/
inductive Fault where
  /-- A unit number, a register offset or an operand of the command names nothing the device has (R4, R8, R15, R33):
  raised by every meaning whose command is not well formed. Safe: no such command reaches the device. -/
  | noSuchUnit
  deriving DecidableEq, Repr

/-- The reasons a command is refused. -/
inductive Refusal where
  /-- The command has no meaning yet. Safe. -/
  | notModelled (mnemonic : String)
  deriving DecidableEq, Repr

/-! ### Time (chapter 2) -/

/-- A stretch of a timebase's motion: from the instant `from_` it reads `val` (in 2⁻³⁶ ns, modulo 2¹⁰⁰) and advances by
`rate` (2⁻³⁰ ns per ns), plus `gain` spread over the microsecond that begins there (the last step of a slew, R52). -/
structure Seg where
  from_ : Nat
  val : Nat
  rate : Nat
  gain : Int
  deriving DecidableEq, Repr

/-- A change of a timebase that waits for its beacon (R46): the control values of RUN, MODE, SPOOL, RATESET, SLEWMAX and
TICKNS as the write left them, a load with its fine time and LOADFORCE (R50), an offset to slew in 2⁻³⁶ ns, an abort (R52),
a phase step of TB0 in 1/64 ns (R56). -/
inductive TbAsk where
  | ctl (run : Bool) (mode spool rateset ppm nspt : Nat)
  | load (val : Nat) (force : Bool)
  | slew (d : Int)
  | abort
  | step (d : Int)
  deriving DecidableEq, Repr

/-- A timebase beyond its registers (R43 to R54): the control values in force, the slew still owed (2⁻³⁶ ns) and whether
one is in progress, the changes that wait with the instants they came, what the current µs adds to the slew, the anchor of
SLAVED mode (2⁻³⁶ ns and 2⁻¹⁶ micro-ticks), whether its spool lost sync, and its stretches of motion, newest first. -/
structure TbH where
  run : Bool
  mode : Nat
  spool : Nat
  rateset : Nat
  ppm : Nat
  nspt : Nat
  rem : Int
  slew : Bool
  asks : List (Nat × TbAsk)
  mov : Int
  anchVal : Int
  anchTick : Nat
  lost : Bool
  segs : List Seg
  deriving DecidableEq, Repr

def TbH.init : TbH := {
  run := false, mode := 1, spool := 0, rateset := 0x40000000, ppm := 100, nspt := 0x10000, rem := 0, slew := false,
  asks := [], mov := 0, anchVal := 0, anchTick := 0, lost := false, segs := [] }

/-- The discipline loop of TB0 (R55 to R57): the last PPS edge and how many came in tolerance, the counts of good and
bad phase samples, whether LOCKED was reached since SRC was written, whether the one step of R56 was asked for, whether the
slew of TB0 is the loop's, RATE in force with the instant of its last change, its values while LOCKED with the instants they
began, newest first, its mean over the last 16 s in LOCKED (0: none), and the instant of the last PPSOUT pulse. -/
structure Disc where
  lastPps : Option Nat
  ppsGood : Nat
  phaseGood : Nat
  phaseBad : Nat
  everLocked : Bool
  stepped : Bool
  slewing : Bool
  rate : Nat
  rateAt : Nat
  hist : List (Nat × Nat)
  mean : Nat
  lastPpsOut : Option Nat
  deriving DecidableEq, Repr

def Disc.init : Disc := {
  lastPps := none, ppsGood := 0, phaseGood := 0, phaseBad := 0, everLocked := false, stepped := false, slewing := false,
  rate := 0x40000000, rateAt := 0, hist := [], mean := 0, lastPpsOut := none }

/-- A release that waits for T (R59): the latched mask (bit n for channel n), RESTART, the writer, T in ns of TB0, and
the cascade release it belongs to, if any (R320). -/
structure Release where
  mask : Nat
  restart : Bool
  src : Src
  at_ : Nat
  cascade : Bool
  deriving DecidableEq, Repr

/-! ### Channels (chapters 2, 6, 7) -/

/-- Where a pending edge comes from (R61, R158, R162, R247). -/
inductive EOrg where
  | prog | counter | slot (spool : Nat) | emu
  deriving DecidableEq, Repr

/-- A pending edge: its fine time in the edge timebase, its action (1 low, 2 high, 3 toggle), its origin, and whether
it also switches the pair's odd pin the other way (DTMODE NONE, R185); for a turn-on of an adaptive dead time, the
strobe instant of the turn-off before it (R186). -/
structure PEdge where
  at_ : Nat
  act : Nat
  org : EOrg
  both : Bool
  meas : Option Nat
  deriving DecidableEq, Repr

/-- The delay lines of a channel (R61 to R66): pending edges in time order, the strobe instant of the last placed edge, the
instants of the live line's calibration, of the other line's current run and its last complete run, the instant a swap falls
due where it is not 250 µs after `calT0`, and an edge timebase that waits. None of the instants counts as earlier than
`calT0`, when the first calibration ended or the last wake completed (R66). -/
structure DLine where
  pend : List PEdge
  lastAt : Option Nat
  liveCal : Nat
  runFrom : Nat
  calAt : Option Nat
  swapDue : Option Nat
  aged : Bool
  etbHeld : Option Nat
  deriving DecidableEq, Repr

def DLine.init : DLine := {
  pend := [], lastAt := none, liveCal := 0, runFrom := 0, calAt := some 0, swapDue := none, aged := false, etbHeld := none }

/-- A start that waits for S (R160, R161): S and the detection instant in the edge timebase (none: a release or an angle
event, which is never late), whether a trigger caused it, the state the channel held before, a hold of a flying start (R242),
whether the flying start has let it through, and the angle event slot it comes from (spool × 64 + slot, R263). -/
structure Start where
  s : Nat
  d : Option Nat
  trig : Bool
  prev : Nat
  held : Bool
  pass : Bool
  slot : Option Nat
  deriving DecidableEq, Repr

/-- A planned edge of the compare unit (R158, R185): the fine time it is reckoned from and the strobe time after it, which is
a dead time (R411), its action, and the pair's pin it is for. -/
structure Plan where
  ref : Nat
  lag : Int
  act : Nat
  low : Bool
  both : Bool
  meas : Option Nat
  deriving DecidableEq, Repr

/-- The next period as its latch point fixed it (R182, R188): its end, the changes of R in it, and VAROFF's off-time. -/
structure NextPer where
  pend : Nat
  shape : List (Nat × Bool)
  off : Nat
  deriving DecidableEq, Repr

/-- A turn-on of an adaptive dead time that waits for the sense (R186): whether it is L's, and the strobe instant of
the turn-off before it. -/
structure DtWait where
  low : Bool
  off : Nat
  deriving DecidableEq, Repr

/-- The counter and carrier of a channel (R157 to R162, R177 to R188): a start that waits, a trigger that waits, a capture
or ZERO not yet used as a trigger, the timebase `tb` the current period runs in (R158), the number `k` and start `pk` of the
current period (fine times) with the strobe instant `pAt` of that start, the end `pend` fixed for it, the offsets of CMPA,
CMPB and PRD in it (R157) and VAROFF's off-time, R, the changes of R still to come, the edges not yet committed, which
events of the period are done, a STOP that waits, the instant of a STOPNOW, the instant before which a late start skips
actions, the LOADALL gate, the next period once latched, the mid latch point done, an adaptive turn-on that waits, whether
the termination line has ended this period's on-time or period, the angle event slot that started the run (R260), and
whether PRD was written since the last load (R182). -/
structure ChRun where
  start : Option Start
  trig : Option Start
  capTok : Option Nat
  zeroTok : Nat
  k : Nat
  pk : Nat
  pAt : Nat
  pend : Nat
  offA : Nat
  offB : Nat
  offP : Nat
  off : Nat
  r : Bool
  shape : List (Nat × Bool)
  plan : List Plan
  aDone : Bool
  bDone : Bool
  stop : Bool
  stopNow : Option Nat
  skip : Nat
  gate : Bool
  nxt : Option NextPer
  tb : Nat
  midDone : Bool
  wait : Option DtWait
  term : Bool
  slot : Option Nat
  prdW : Bool
  deriving DecidableEq, Repr

def ChRun.init : ChRun := {
  start := none, trig := none, capTok := none, zeroTok := 0, k := 0, pk := 0, pAt := 0, pend := 0, offA := 0, offB := 0, offP := 0, off := 0, r := false,
  shape := [], plan := [], aDone := false, bDone := false, stop := false, stopNow := none, skip := 0, gate := false,
  nxt := none, tb := 0, midDone := false, wait := none, term := false, slot := none, prdW := false }

/-- A force order that waits (R199): its code, its instant on the strobe or, for FORCEAT, as a fine time of TB0, and
whether it also waits for a period start. -/
structure FWait where
  ord : Nat
  due : Nat
  onTb0 : Bool
  period : Bool
  deriving DecidableEq, Repr

/-- The pin stage of a channel (R168, R190 to R200): the level after the delay lines; a level held at 0 until the next
period start by a termination or a partner's trip; the level after stage 3 with the instant it last became 1; a
waiting order; a trip cleared while running, which still holds until the next period start; a safe state left at the
next period start; the last 0-to-1 transition of the stage-1 level and whether its blanking window is open; for the even channel
of a pair the interlock: its hold, which switches it holds off and which became 1 last (true: L), and the interlock
events of the last 1,000 µs, newest first; and whether a tail's passthrough stands in for the delay line (R246). -/
structure ChPin where
  lvl : Bool
  hold0 : Bool
  l3 : Bool
  l3At : Nat
  fwait : Option FWait
  clrWait : Bool
  safeLeave : Bool
  onAt : Nat
  blanking : Bool
  ilkUntil : Option Nat
  ilkLast : Option Bool
  hOff : Bool
  lOff : Bool
  ilkAt : List Nat
  passTail : Bool
  deriving DecidableEq, Repr

def ChPin.init : ChPin := {
  lvl := false, hold0 := false, l3 := false, l3At := 0, fwait := none, clrWait := false, safeLeave := false, onAt := 0,
  blanking := false, ilkUntil := none, ilkLast := none, hOff := false, lOff := false, ilkAt := [], passTail := false }

/-- The capture unit of a channel (R164, R166): the pin's level, the level accepted, the start of the present run on
the strobe, whether that run's instant lay in the gate window, whether its counter ran and the phase then, the count
of the prescaler, the last captured edge of polarity MPOL in CTB with how many there were, whether the last MPOL
transition passed the gate, and the captures accepted since CAPCTL was written (strobe instants, newest first). -/
structure ChCap where
  pin : Bool
  acc : Bool
  runAt : Nat
  inWin : Bool
  running : Bool
  phase : Nat
  pre : Nat
  mpolAt : Option Nat
  mpolPass : Bool
  seen : List Nat
  deriving DecidableEq, Repr

def ChCap.init : ChCap := {
  pin := false, acc := false, runAt := 0, inWin := false, running := false, phase := 0, pre := 0, mpolAt := none,
  mpolPass := false, seen := [] }

/-- The charge-time unit and the load estimate of a channel (R169 to R174): readings of the initial baseline, the three run
lengths of R171 and R172, the start of the touch, whether no good reading has come since the last short one or since
measuring began, the reading interval that gave the last reading (R170), and the estimates, newest first, with the
conditions reported (bit 0 LOADLOW, bit 1 LOADHIGH). -/
structure ChCtm where
  first : List Nat
  nTouch : Nat
  nRel : Nat
  nLow : Nat
  since : Nat
  shorted : Bool
  good : Nat
  slot : Option Nat
  ests : List Nat
  nEst : Nat
  rep : Nat
  deriving DecidableEq, Repr

def ChCtm.init : ChCtm := {
  first := [], nTouch := 0, nRel := 0, nLow := 0, since := 0, shorted := false, good := 0, slot := none, ests := [], nEst := 0, rep := 0 }

/-- A channel beyond its registers. -/
structure Chan where
  dl : DLine
  run : ChRun
  pin : ChPin
  cap : ChCap
  ctm : ChCtm
  deriving DecidableEq, Repr

def Chan.init : Chan := ⟨.init, .init, .init, .init, .init⟩

/-- A channel group beyond its registers: trip lines known active and their activation instants, and safe-state
entries that wait (instant on the strobe, SRC; R200), the tails whose grace holds the group's loads (R240), and whether
a brake-first start gives the group BRAKE levels (R243). -/
structure Grp where
  act : Nat
  actAt : List Nat
  safe : List (Nat × Nat)
  graces : List Nat
  brake : Bool
  deriving DecidableEq, Repr

def Grp.init : Grp := ⟨0, [0, 0, 0, 0], [], [], false⟩

/-! ### Engines (chapters 3 and 4) -/

/-- A MODE write that has not taken effect, with the instructions still to execute under the old value (R69). -/
structure ModeW where
  val : Nat
  left : Nat
  deriving DecidableEq, Repr

/-- A hardware loop level (R88). -/
structure LoopL where
  act : Bool
  lc : Nat
  ls : Nat
  le : Nat
  deriving DecidableEq, Repr

def LoopL.init : LoopL := ⟨false, 0, 0, 0⟩

/-- A branch whose delay slot comes next: its address, where control goes after the slot, whether it is taken, whether
it writes w14, and whether it closes levels (R86, R89). -/
structure Branch where
  src : Nat
  dest : Nat
  taken : Bool
  link : Bool
  close : Bool
  deriving DecidableEq, Repr

/-- A posted store: the address of its instruction, the shared address, its bytes, and once its bank served it the
subcode of the error it met, if any (R72, R104). -/
structure PStore where
  pc : Nat
  addr : Nat
  data : List Byte
  served : Option (Option Nat)
  deriving DecidableEq, Repr

/-- An instruction that waits: `fence`, `done` and `yield` for the posted stores, a fifth store for the acknowledgement of the
oldest (R72, R104). -/
inductive Hold where
  | fence | fin | yld
  | store (p : PStore)
  deriving DecidableEq, Repr

/-- An exception: cause, subcode, EFPC, EADDR and CODE16 (R96, R109). -/
structure Exc where
  cause : Nat
  sub : Nat
  pc : Nat
  addr : Nat
  code : Nat
  deriving DecidableEq, Repr

/-- An imprecise exception that is pending: for an arithmetic one, the instructions executed since its cause and
whether its check has completed; a store error is due at once (R103, R104). -/
structure Imp where
  exc : Exc
  arith : Bool
  age : Nat
  due : Bool
  deriving DecidableEq, Repr

/-- A ballast request: BCAUSE, the PC of the dump, and ECAUSE and EADDR of the triggering exception (R111, R114). -/
structure BalReq where
  cause : Nat
  pc : Nat
  ecause : Nat
  eaddr : Nat
  deriving DecidableEq, Repr

/-- An engine with its registers (R67), pending MODE writes, posted stores, waiting instruction, exceptions (R96 to
R109), retired instructions, those at the start of the current interval of ENGRATE, the last 64 taken control transfers,
newest first (R114), ballast requests, the dump being written (its words), a BALCLR that waits (R115), a `done` or `yield`
that completed while a store error was due, which ends or offers the task once that error is handled (R104), and the debug
halt: whether it holds, waits, ends a step, and whether the instruction at the breakpoint may now execute (R378). -/
structure Eng where
  w : Store Word
  acc0 : Int
  acc1 : Int
  flags : Nat
  mode : Nat
  modeP : List ModeW
  l0 : LoopL
  l1 : LoopL
  pc : Nat
  br : Option Branch
  posted : List PStore
  hold : Option Hold
  fault : Option Exc
  prec : Option Exc
  imp : List Imp
  multi : Bool
  accstat : Nat
  exl : Bool
  festat : Nat
  ecause : Nat
  efpc : Nat
  eaddr : Nat
  etrap : Nat
  eframe : Nat
  icount : Nat
  rateFrom : Nat
  trace : List (Nat × Nat)
  bal : List BalReq
  dump : Option (List Nat)
  dumpCause : Nat
  clrWait : Bool
  leaving : Option Hold
  halted : Bool
  haltReq : Bool
  stepping : Bool
  bpPass : Bool
  deriving DecidableEq, Repr

def Eng.init : Eng := {
  w := [], acc0 := 0, acc1 := 0, flags := 0, mode := 0, modeP := [], l0 := .init, l1 := .init, pc := 0x40000000,
  br := none, posted := [], hold := none, fault := none, prec := none, imp := [], multi := false, accstat := 0,
  exl := false, festat := 0, ecause := 0, efpc := 0, eaddr := 0, etrap := 0, eframe := 0, icount := 0, rateFrom := 0,
  trace := [], bal := [], dump := none, dumpCause := 0, clrWait := false, leaving := none, halted := false, haltReq := false,
  stepping := false, bpPass := false }

/-- A microcode image being copied and checked: its bytes as copied, and whether every read succeeded (R124). -/
structure McLoad where
  img : List Byte
  ok : Bool
  deriving DecidableEq, Repr

/-- A microcode image as an engine holds it: its VERSION and the first 32 bits of its hash (R126), its enabled match registers
(ROM address, patch RAM index) and its patch RAM (R121). -/
structure McImage where
  version : Nat
  hash : Nat
  hits : List (Nat × Nat)
  patch : List Nat
  deriving DecidableEq, Repr

/-! ### Events and tasks (chapter 5) -/

/-- An event message (R129): ID, timestamp as a fine time of TB0, DETAIL, TQ and COINC. -/
structure Ev where
  id : Nat
  ts : Nat
  detail : Nat
  tq : Bool
  coinc : Bool
  deriving DecidableEq, Repr

/-- A cached route entry: its cache slot, event ID, words and last use (R134). -/
structure RLine where
  slot : Nat
  id : Nat
  w0 : Nat
  w1 : Nat
  used : Nat
  deriving DecidableEq, Repr

/-- A cached channel descriptor: local channel and its four words (R132, R134, R137). -/
structure DescLine where
  ch : Nat
  words : List Nat
  deriving DecidableEq, Repr

/-- EVEN: bit k enables event kind k of the channel (R132). -/
def DescLine.even (d : DescLine) : Nat := d.words.getD 0 0 % 64

/-- ARG (R132). -/
def DescLine.arg (d : DescLine) : Nat := d.words.getD 1 0

/-- A router (R134, R135): its FIFO with, for each event, whether the EVEN gate is still to be applied; its cached
lines; whether the head waits for a fill of a descriptor (true) or a route entry; events dropped since the last
report, and that report's instant. -/
structure Router where
  fifo : List (Ev × Bool)
  desc : List DescLine
  route : List RLine
  clock : Nat
  fill : Option Bool
  dropped : Nat
  reported : Option Nat
  deriving DecidableEq, Repr

def Router.init : Router := ⟨[], [], [], 0, none, 0, none⟩

/-- An event on its way to a task input (R131), with the port it comes from (R18). -/
structure Arrival where
  port : Nat
  g : Nat
  slot : Nat
  inp : Nat
  ev : Ev
  deriving DecidableEq, Repr

/-- The event fabric beyond its registers: routers 0 to 67 of the physical gondolas and 68 the hub, events under way to task
inputs, vectors and queues, events raised before CALDONE (R42), an invalidation in progress (TYPE, INDEX, how many lines
stand at which router is not kept), and the coherence sweep: the next line and the sweep's start; and the last event that
reached the queue engine: its instant on the strobe and the port it came from (R24). -/
structure Fabric where
  routers : Store Router
  arrivals : List Arrival
  deferred : List Ev
  inval : Option (Nat × Nat)
  cohLine : Nat
  cohFrom : Nat
  qLast : Option (Nat × Nat)
  deriving DecidableEq, Repr

/-- A buffered arrival of a task input (R141). -/
structure InEnt where
  id : Nat
  ts : Nat
  coinc : Bool
  tq : Bool
  deriving DecidableEq, Repr

/-- A task input (R141, R81). -/
structure TIn where
  count : Nat
  a : Option InEnt
  b : Option InEnt
  overrun : Bool
  coinc : Bool
  lastId : Nat
  deriving DecidableEq, Repr

def TIn.init : TIn := ⟨0, none, none, false, false, 0⟩

/-- The life of a task slot (R140 to R147). -/
inductive SlotSt where
  | idle | ready | exec | preempted | yielded
  deriving DecidableEq, Repr

/-- A task slot beyond its registers: its state, a pending run request with its TB0 fine time, the reference time of
its dispatch, whether END has retired in it, the snapshot windows of `evtake` (words of each input), and MODE writes
still pending when it yielded, which stay in the scheduler (R144). -/
structure TSlot where
  st : SlotSt
  req : Option Nat
  ref : Nat
  endSeen : Bool
  snap : Store (List Nat)
  modeP : List ModeW
  deriving DecidableEq, Repr

def TSlot.init : TSlot := ⟨.idle, none, 0, false, [], []⟩

/-- A scheduler beyond its registers: waiting slots (ready, preempted, yielded) in the order of R142, the slot executing,
and whether a decision gave the engine to another slot (R142). -/
structure Sched where
  order : List Nat
  cur : Option Nat
  due : Bool
  deriving DecidableEq, Repr

def Sched.init : Sched := ⟨[], none, false⟩

/-! ### Analogue block (chapter 8) -/

/-- A comparator beyond its registers: the raw decision and the strobe instant of its last change, its own cell (R206),
whether WINDOW was set by the lower cell, and a threshold that waits for the ramp's restart (R207); the threshold in force
since `thrAt`, the one before it, and the ramp's last restart and the one before it. -/
structure KComp where
  raw : Bool
  rawAt : Nat
  cell : Bool
  byLow : Bool
  thr : Option Nat
  thrAct : Nat
  thrAt : Nat
  thrOld : Nat
  rampAt : Nat
  rampOld : Nat
  deriving DecidableEq, Repr

def KComp.init : KComp := ⟨false, 0, false, false, none, 0x3FF, 0, 0x3FF, 0, 0⟩

/-- A sample record on its way to its ring, in 32-bit words: its number since EN was set, its shared address, and whether EN
has been set again since (R214). -/
structure Sample where
  n : Nat
  addr : Nat
  words : List Nat
  old : Bool
  deriving DecidableEq, Repr

/-- A sequence of a SAR unit (R213): the intended first hold instant on the strobe, the number of entries, whether its trigger
was refused, and whether it could not start at its intended instant. -/
structure SarSeq where
  h0 : Nat
  n : Nat
  missed : Bool
  waits : Bool
  deriving DecidableEq, Repr

/-- A SAR unit beyond its registers (R211 to R214): triggers counted by TDIV, sequences waiting, the running one with its
actual first hold instant, its next entry, its entries and whether it is late; the last hold instant, input code and
gain, conversions since the gain changed, records written, and records on their way; and the strobe instants T that the
configured source has announced (R158, R211, R263). -/
structure SarU where
  div : Nat
  queue : List SarSeq
  cur : Option SarSeq
  h : Nat
  late : Bool
  j : Nat
  ents : List Nat
  lastH : Option Nat
  code : Option Nat
  gain : Nat
  since : Nat
  count : Nat
  recs : List Sample
  trigs : List Nat
  deriving DecidableEq, Repr

def SarU.init : SarU := {
  div := 0, queue := [], cur := none, h := 0, late := false, j := 0, ents := [], lastH := none, code := none, gain := 0,
  since := 0, count := 0, recs := [], trigs := [] }

/-- A bit of a sigma-delta stream as the device took it (R217, R220): its level (none: no bit was recovered), its strobe
instant, and whether it came during a modulator fault. -/
structure SdBit where
  one : Option Bool
  at_ : Nat
  bad : Bool
  deriving DecidableEq, Repr

/-- Filter settings that were written at a strobe instant: SDFILT, CMODE and CLK (R219). -/
structure SdSet where
  at_ : Nat
  filt : Nat
  cmode : Nat
  clk : Nat
  deriving DecidableEq, Repr

/-- A sigma-delta input beyond its registers (R217 to R222): the filter settings in force (SDFILT, CMODE, CLK), those written
that wait for a word boundary, records counted and under way, records since the last block event, and the fast word; of its
stream the latest bits, newest first, the bits since the filter was reset, since the last word and since the last fast word,
the bits in a row of one level, the good bits in a row, the instant of the last bit, the period of the last recovered clock,
and the instant of the last word boundary. -/
structure SdU where
  filt : Nat
  cmode : Nat
  clk : Nat
  changes : List SdSet
  count : Nat
  blk : Nat
  recs : List Sample
  fast : Int
  win : List SdBit
  since : Nat
  got : Nat
  fgot : Nat
  run : Nat
  good : Nat
  last : Nat
  period : Option Nat
  wordAt : Nat
  deriving DecidableEq, Repr

def SdU.init : SdU := {
  filt := 0x20000040, cmode := 0, clk := 0, changes := [], count := 0, blk := 0, recs := [], fast := 0, win := [], since := 0,
  got := 0, fgot := 0, run := 0, good := 0, last := 0, period := none, wordAt := 0 }

/-- A modulator clock beyond its register (R216): the divider in force, and the strobe instant since which the clock has run
at its pin. -/
structure MClk where
  div : Nat
  from_ : Nat
  deriving DecidableEq, Repr

def MClk.init : MClk := ⟨50, 0⟩

/-! ### Tails (chapter 9) -/

/-- A position sample kept for the emulator (R247): its instant as a TB0 fine time and its position, unwrapped. -/
structure PosAt where
  ts : Nat
  pos : Int
  deriving DecidableEq, Repr

/-- A speed as it was reported from an instant on (R241): the instant, VEL and STALE. -/
structure VelAt where
  at_ : Nat
  vel : Int
  stale : Bool
  deriving DecidableEq, Repr

/-- A tail beyond its registers. Decoding: the strobe instants of the last accepted transitions of A, B and Z, the last
legal Hall sector, whether a Z has come since arming, and the last accepted Z with its strobe instant and whether it reset
POS. Speed: the samples since the restart (TB0 fine time, position), newest first, the last difference of positions, the
strobe instants of arming, of the last qualified edge and of the last change of position, and the speeds reported of late.
Serial: the GOs that wait, the triggers a channel has announced (R229), the frame in progress (strobe instant of T), the
last period index served, the one-way delays in the mean, the last valid frame and how often it came. Errors: EDGE_ERR's
count and last instant. Loss: the conditions that hold, the cause declared, and the grace (its end and group). Record:
whether a write is due, when the last one was, and when the decay last asked for one. Flying start: its instant S on the
strobe plus 1, 0 where none. Emulation: the path wanted and since when, the count, c₀, p₀ (numerator, denominator), the
samples kept, the last output transition (TB0 fine time, line), and the level given to Z with the instant of its last
transition. -/
structure TailH where
  abz : List Nat
  sector : Nat
  zSeen : Bool
  zHit : Option (Nat × Bool)
  samp : List PosAt
  diff : Int
  armAt : Nat
  edgeAt : Option Nat
  moveAt : Nat
  vels : List VelAt
  goAt : List Nat
  trigs : List Nat
  frame : Option Nat
  per : Option Nat
  delays : List Nat
  last : Option Nat
  same : Nat
  errs : Nat
  errAt : Option Nat
  cond : Nat
  cause : Nat
  grace : Option (Nat × Nat)
  recDue : Bool
  recAt : Option Nat
  decayAt : Nat
  fsAt : Nat
  emuWant : Nat
  emuSince : Nat
  emuC : Int
  emuC0 : Int
  emuP0 : Int × Nat
  emuSamp : List PosAt
  emuLast : Nat
  emuLine : Nat
  emuZ : Bool
  emuZAt : Nat
  deriving DecidableEq, Repr

def TailH.init : TailH := {
  abz := [0, 0, 0], sector := 7, zSeen := false, zHit := none, samp := [], diff := 0, armAt := 0, edgeAt := none, moveAt := 0,
  vels := [], goAt := [], trigs := [], frame := none, per := none, delays := [], last := none, same := 0, errs := 0, errAt := none,
  cond := 0, cause := 0, grace := none, recDue := false, recAt := none, decayAt := 0, fsAt := 0, emuWant := 0,
  emuSince := 0, emuC := 0, emuC0 := 0, emuP0 := (0, 1), emuSamp := [], emuLast := 0, emuLine := 0, emuZ := false, emuZAt := 0 }

/-! ### Spools (chapter 10) -/

/-- An edge of a spool's source: its strobe instant, and whether it is forward. -/
structure SpEdge where
  at_ : Nat
  fwd : Bool
  deriving DecidableEq, Repr

/-- A straight piece of the angle's schedule: from the fine time `t0` and the angle `a0`, in 2⁻¹⁶ micro-ticks counted
over revolutions, each 2⁻¹⁶ micro-tick takes num / den of 1/64 ns (R254, R256, R266). -/
structure Piece where
  t0 : Nat
  a0 : Nat
  num : Nat
  den : Nat
  deriving DecidableEq, Repr

/-- A spool beyond its registers. Source: edges not yet taken, the strobe instant of a Z index that waits for its tooth, and
a SYNCNOW that does. Seeking: the intervals before the last tooth, newest first, and the record of R253, newest first.
Angle: the last tooth (fine time), its position and the revolutions counted, Δ as a fraction, the normalised interval
before, the pieces of the schedule in time order with the last micro-tick it reaches, the least angle that may be reported,
a tooth after a reversal that has no schedule, and the reverse edges counted. Endings that wait: instant, channel and level.
Mirror: the latest τ applied, its LOSSES and whether one was applied. The strobe instants of the last sample broadcast and
the last poll. -/
structure SpH where
  edges : List SpEdge
  z : Option Nat
  now0 : Bool
  lastT : Option Nat
  ivals : List Nat
  gaps : List Nat
  tk : Nat
  pos : Nat
  rev : Nat
  num : Nat
  den : Nat
  prev : Nat × Nat
  pieces : List Piece
  top : Option Nat
  floor : Nat
  bare : Bool
  back : Nat
  ends : List (Nat × Nat × Bool)
  tau : Option Nat
  losses : Nat
  sampled : Option Nat
  deriving DecidableEq, Repr

def SpH.init : SpH := {
  edges := [], z := none, now0 := false, lastT := none, ivals := [], gaps := [], tk := 0, pos := 0, rev := 0, num := 0,
  den := 1, prev := (0, 1), pieces := [], top := none, floor := 0, bare := false, back := 0, ends := [], tau := none,
  losses := 0, sampled := none }

/-- An angle event slot beyond its registers (R261, R262): whether it waits for an occurrence, its angle, offset and
arrival (fine time), the occurrence taken (micro-tick counted over revolutions), the instant that micro-tick was
reached, the occurrences after it that were skipped, its provisional F, and an F already fixed. -/
structure SlotH where
  armed : Bool
  ang : Nat
  off : Int
  arr : Nat
  occ : Option Nat
  ra : Option Nat
  skips : Nat
  f : Nat
  fix : Option Nat
  deriving DecidableEq, Repr

def SlotH.init : SlotH := {
  armed := false, ang := 0, off := 0, arr := 0, occ := none, ra := none, skips := 0, f := 0, fix := none }

/-! ### Queues (chapter 11) -/

/-- The kinds of record the device writes to a queue (R286, R288). -/
inductive RecKind where
  | event | sample | completion | mark
  deriving DecidableEq, Repr

/-- A record on its way to a queue: the queue, its kind, its words, its timestamp (a fine time of TB0) and its source (the
unit, mover or command queue); and for one that is written again its QSEQ where it has one, REPLAY, and whether it waits
for its mover's data (R289, R294). -/
structure QRec where
  q : Nat
  kind : RecKind
  words : List Nat
  ts : Nat
  src : Nat
  qseq : Option Nat
  replay : Bool
  hold : Bool
  deriving DecidableEq, Repr

/-- Where a host write comes from: a mover's data, a record, PRODWB, a context, an MSI-X message. -/
inductive HOrg where
  | data (m : Nat)
  | record (r : QRec)
  | prodwb (q : Nat)
  | ctx (q : Nat)
  | msix (v : Nat)
  deriving DecidableEq, Repr

/-- A write to host memory that no Data Link Layer acknowledgement has covered (R282, R294). -/
structure HWrite where
  addr : Nat
  data : List Byte
  org : HOrg
  deriving DecidableEq, Repr

/-- The context of a queue (R285): whether it is enabled and cached, its last use; the host-owned words; the device-owned
words; whether it is full, the records lost since the last GAP record with the first one's timestamp, the records not
signalled with the instant of the oldest, whether PRODWB is due, a held WRITEAT (BAR0 offset, value, AT, TAG), and the
instant of its last EV_Q_CTXERR (R286 to R292). -/
structure QCtx where
  en : Bool
  cached : Bool
  used : Nat
  kind : Nat
  isen : Bool
  vector : Nat
  icount : Nat
  log2 : Nat
  itime : Nat
  base : Nat
  prodwb : Nat
  resen : Bool
  resq : Nat
  prod : Nat
  cons : Nat
  lost : Nat
  qseq : Nat
  full : Bool
  gap : Nat
  gapTs : Nat
  unsig : Nat
  oldest : Nat
  wbDue : Bool
  wat : Option (Nat × Nat × Nat × Nat)
  errAt : Option Nat
  deriving DecidableEq, Repr

def QCtx.init : QCtx := {
  en := false, cached := false, used := 0, kind := 0, isen := false, vector := 0, icount := 0, log2 := 0, itime := 0,
  base := 0, prodwb := 0, resen := false, resq := 0, prod := 0, cons := 0, lost := 0, qseq := 0, full := false, gap := 0,
  gapTs := 0, unsig := 0, oldest := 0, wbDue := false, wat := none, errAt := none }

/-- A descriptor that has not retired (R280 to R283): where it lies (in the layout of MVHEAD, 48 bits), its words, whether
it waits for FENCE, the source bytes read, those still to come from the host, whether its writes are issued, how many are
not acknowledged, its completion record (0 none yet, 1 on its way, 2 written, 3 acknowledged), REPLAY, an error, and how many
source bytes it has asked the host for. -/
structure MvD where
  adr : Nat
  w : List Nat
  fence : Bool
  got : List Byte
  need : Nat
  issued : Bool
  unack : Nat
  rec_ : Nat
  replay : Bool
  err : Nat
  asked : Nat
  deriving DecidableEq, Repr

/-- A mover beyond its registers: the descriptor it fetches, its unretired descriptors, oldest first, and whether it stops
after those in execution (R282 to R284, R294). -/
structure MvH where
  fetch : Option Nat
  descs : List MvD
  stop : Bool
  deriving DecidableEq, Repr

def MvH.init : MvH := ⟨none, [], false⟩

/-- An MSI-X entry: Message Address, Message Data, Mask and its pending bit (R290, R408). -/
structure MsixE where
  addr : Nat
  data : Nat
  mask : Bool
  pend : Bool
  deriving DecidableEq, Repr

def MsixE.init : MsixE := ⟨0, 0, true, false⟩

/-- What the host has set in a function's configuration space (R269, R270): the power state, the codes of the max payload,
the max read request and the completion timeout, and the addresses of BAR0 and BAR2 (for VF1, those of the SR-IOV
capability). -/
structure CfgF where
  power : Nat
  payload : Nat
  readReq : Nat
  timeout : Nat
  bar0 : Nat
  bar2 : Nat
  deriving DecidableEq, Repr

/-- Configuration space after a reset of the interface (notes/assumptions/160.md). -/
def CfgF.init : CfgF := ⟨0, 0, 2, 0, 0, 0⟩

/-- The host interface beyond its registers: whether the Data Link Layer is up and the instant it went down; host writes
not acknowledged, oldest first; queue contexts; the QCMD in progress (code, queue), contexts being fetched, the use clock
and whether the record buffer is full; movers; MSI-X entries by device vector; the instants the host watchdogs' periods
began; VF Enable; whether PERST# is asserted; the host reads under way for the data of movers, oldest first, each with its mover
and the bytes still to come (R269); and what the host has configured, by function. -/
structure HostH where
  up : Bool
  downAt : Nat
  out : List HWrite
  q : Store QCtx
  qcmd : Option (Nat × Nat)
  qfetch : List Nat
  clock : Nat
  bufFull : Bool
  mv : Store MvH
  msix : Store MsixE
  wd : Store (Option Nat)
  vfEn : Bool
  perst : Bool
  reqs : List (Nat × Nat)
  cfg : Store CfgF
  deriving DecidableEq, Repr

def HostH.init : HostH := {
  up := true, downAt := 0, out := [], q := [], qcmd := none, qfetch := [], clock := 0, bufFull := false, mv := [],
  msix := [], wd := [], vfEn := false, perst := false, reqs := [],
  cfg := [] }

/-! ### Tether (chapter 12) -/

/-- An item that waits in a port's transmit buffer, and the TB0 fine time at which it was ready (R299, R300). -/
structure TxItem where
  msg : TMsg
  ready : Nat
  deriving DecidableEq, Repr

/-- A message of admission for the next control blocks (R316): a request with its serial number and the index requested, or
the master's answer with the index granted. -/
inductive AdmMsg where
  | req (serial : Nat) (idx : Option Nat)
  | ans (serial : Nat) (idx : Option Nat)
  deriving DecidableEq, Repr

/-- A tether port beyond its registers: the strobe instant its state began, whether it had its turn (R305), the instant the
10 ms wait of a failed training ends, consecutive QUARs (R304). Exchange: partner's markers by cycle with their
timestamps here, newest first; delays, newest first; consecutive valid exchanges, those within 1 ns, and the strobe
instant of the last; the last cycle accepted (R308, R309, R302). Polls: those not answered (cycle, strobe instant of
its start), the partner's last poll, last EV_TETH_SLOW (R312). Slots: the transmit buffer, what the current cycle sends,
items dropped and not reported (R299). Failures within the window (cycle, whether FEC; R313). What the partner's
control blocks say (R315). Keys: whether the partner's identity is proven, the cycle of the keys, a rekey in progress
(R310, R311). Admission messages that wait and those the current cycle sends; the requests a full master has refused (R316);
whether a conflict was reported; the cycle the port is in, once it sends. -/
structure TpH where
  since : Nat
  turn : Bool
  retryAt : Option Nat
  quar : Nat
  marks : List (Nat × Nat)
  delays : List Int
  nValid : Nat
  nLock : Nat
  lastValid : Option Nat
  lastCyc : Option Nat
  polls : List (Nat × Nat)
  ans : Option Nat
  slowAt : Option Nat
  buf : List TxItem
  sent : List TMsg
  dropped : Nat
  fails : List (Nat × Bool)
  cand : Option Cand
  hops : Nat
  padm : Bool
  pmser : Nat
  pmidx : Nat
  pmever : Bool
  links : List TLink
  devs : Nat
  proven : Bool
  keyCyc : Nat
  rekey : Option Nat
  adm : List AdmMsg
  admSent : List AdmMsg
  wait : List (Nat × Option Nat)
  clash : Bool
  cyc : Option Nat
  deriving DecidableEq, Repr

def TpH.init : TpH := {
  since := 0, turn := false, retryAt := none, quar := 0, marks := [], delays := [], nValid := 0, nLock := 0, lastValid := none,
  lastCyc := none, polls := [], ans := none, slowAt := none, buf := [], sent := [], dropped := 0, fails := [], cand := none,
  hops := 0, padm := false, pmser := 0, pmidx := 0, pmever := false, links := [], devs := 0, proven := false, keyCyc := 0,
  rekey := none, adm := [], admSent := [], wait := [], clash := false, cyc := none }

/-- A remote register command in progress (R318): its sequence number, target, whether it writes, its BAR0 offset and value,
the strobe instant it was issued, the port it left by and whether it was sent again. -/
structure RwH where
  seq : Nat
  dev : Nat
  wr : Bool
  off : Nat
  val : Nat
  at_ : Nat
  port : Option Nat
  again : Bool
  deriving DecidableEq, Repr

/-- A cascade release in progress on the master: T, and the devices that reported with their outcome (R320). -/
structure CgH where
  at_ : Nat
  reps : List (Nat × Nat)
  deriving DecidableEq, Repr

/-- The tether beyond its registers: the serial number of the master that admitted the device; the best candidate and the
strobe instant since when it is the best; on the master the indices granted (index, serial number); the devices reachable (a
mask); the instant the master was lost and whether the grace has ended; remote commands: the one in progress, the last
sequence number, and on a target the last one applied by each master with its response; imports: subscriptions of other
devices (device, x, event), the last item numbers by destination and source device; broadcast items seen (source, sequence),
the last own sequence; a cascade release. -/
structure TethD where
  mser : Nat
  best : Option Cand
  bestAt : Nat
  devs : List (Nat × Nat)
  reach : Nat
  lostAt : Option Nat
  graced : Bool
  rw : Option RwH
  rwSeq : Nat
  rwDone : List (Nat × Nat × Nat × Nat)
  exports : List (Nat × Nat × Nat)
  txSeq : Store Nat
  rxSeq : Store Nat
  seen : List (Nat × Nat)
  seq : Nat
  cg : Option CgH
  deriving DecidableEq, Repr

def TethD.init : TethD := {
  mser := 0, best := none, bestAt := 0, devs := [], reach := 0, lostAt := none, graced := false, rw := none, rwSeq := 0, rwDone := [],
  exports := [], txSeq := [], rxSeq := [], seen := [], seq := 0, cg := none }

/-! ### Takeovers (chapter 13) -/

/-- A request for a takeover: COLD or WARM, FORCE, whether a suspicion triggered it, the logical gondola and the target
(127: the least-K free spare) (R335, R336). -/
structure SprReq where
  cold : Bool
  force : Bool
  susp : Bool
  log : Nat
  tgt : Nat
  deriving DecidableEq, Repr

/-- A WARM takeover in progress: its logical gondola, source and target, FORCE, whether a suspicion triggered it, whether
it is a ballast takeover, whether the copy is complete, the strobe instant of the join, and the instant since which the
shadow has run without difference (R336 to R338). -/
structure Tko where
  log : Nat
  src : Nat
  tgt : Nat
  force : Bool
  susp : Bool
  bal : Bool
  copied : Bool
  joined : Option Nat
  clean : Nat
  deriving DecidableEq, Repr

/-! ### Security (chapter 15) -/

/-- The fuses and the key store (R360 to R366): the life-cycle state, FIELDDBG, the reset value of TCTL.EN, MCAP, TRUSTROOT
and DBGROOT, the certificate, the user key slots (256 bytes), the nonce of the identity key, and a transition begun
without its commit fuse: the state it leads to, and whether a RETIRE has destroyed a user key slot (R363). -/
structure Fuse where
  lc : Nat
  fielddbg : Bool
  tethen : Bool
  mcap : Bool
  trust : Nat
  dbgroot : Nat
  cert : List Nat
  slots : List Byte
  nonce : Nat
  half : Option Nat
  keyCut : Bool
  deriving DecidableEq, Repr

/-- Fuses as the part leaves its maker: Blank (R361). -/
def Fuse.blank : Fuse := {
  lc := 0, fielddbg := false, tethen := false, mcap := false, trust := 0, dbgroot := 0, cert := [], slots := [], nonce := 0,
  half := none, keyCut := false }

/-- A life-cycle command that was accepted (R362): its OP, the state it leads to, and the fuses as it will leave them. -/
structure LcOp where
  op : Nat
  dest : Nat
  fuse : Fuse
  deriving DecidableEq, Repr

/-- A debug session (R376, R380): its level, whether it is JTAG's, the strobe instant it opened and its DURATION in s (none:
opened without a token). -/
structure Sess where
  level : Nat
  jtag : Bool
  at_ : Nat
  dur : Option Nat
  deriving DecidableEq, Repr

/-- A token check that runs (R376, R377): the level asked, whether JTAG asks, and the token's bytes where they could be
read. -/
structure TokChk where
  level : Nat
  jtag : Bool
  tok : Option (List Byte)
  deriving DecidableEq, Repr

/-- The instruction in the TAP (R381). -/
inductive JInstr where
  | idcode | bypass | samplePreload | extest | lcread | lcpub | lcstage | lccmd | dbgnonce | token | dbgopen | dbgacc
  deriving DecidableEq, Repr

/-- The security block beyond its registers: the fuses; the identity private key while it is present; the pair a GETKEY
derives (private key, nonce) and whether one is under way; a life-cycle command under way; the revocation list with its
VERSION and a load under way (its bytes; none: unreadable); the strobe instant a wipe began; the session, a token
check, the end of the failure lock-out; the staging buffer of JTAG with its next word; the instruction and token of
the TAP and the boundary-scan cells; tamper sources seen in Grounded; BRCODE of R392. -/
structure SecH where
  fuse : Fuse
  priv : Option Nat
  getkey : Bool
  pair : Option (Nat × Nat)
  op : Option LcOp
  rev : List Nat
  revVer : Nat
  revLoad : Option (Option (List Byte))
  wipe : Option Nat
  sess : Option Sess
  chk : Option TokChk
  lockTo : Option Nat
  stage : List Byte
  stagePtr : Nat
  jtag : JInstr
  tok : List Byte
  scan : List Bool
  gndTamp : Nat
  bootFail : Nat
  deriving DecidableEq, Repr

def SecH.init : SecH := {
  fuse := .blank, priv := none, getkey := false, pair := none, op := none, rev := [], revVer := 0, revLoad := none,
  wipe := none, sess := none, chk := none, lockTo := none, stage := [], stagePtr := 0, jtag := .idcode, tok := [], scan := [],
  gndTamp := 0, bootFail := 0 }

/-! ### Background service (chapter 13) -/

/-- A scrub stream: its next word and the strobe instant its pass began (R325). -/
structure Scrub where
  ptr : Nat
  from_ : Nat
  deriving DecidableEq, Repr

def Scrub.init : Scrub := ⟨0, 0⟩

/-- A path monitor beyond its register: its last 16 readings, newest first, how many it gave, consecutive good readings while
it is faulty, and its reference readings (strobe instant, reading), newest first (R328 to R331). -/
structure MonH where
  last : List Nat
  n : Nat
  good : Nat
  refs : List (Nat × Nat)
  deriving DecidableEq, Repr

def MonH.init : MonH := ⟨[], 0, 0, []⟩

/-- What the re-planner's next evaluation waits for (R332): nothing, a settled voltage and then readings, 16 readings of a
monitor from its count on, the end of a takeover. -/
inductive MgWait where
  | go
  | settle (m : Nat)
  | reads (m n : Nat)
  | tko
  deriving DecidableEq, Repr

/-- The background service beyond its registers. Scrubbing: its streams of shared SRAM, the local memories and secure SRAM;
words of shared SRAM with a correctable error (word, passes in a row, pass), and weak words reported (R325, R326).
Monitors. Re-planning: what the next evaluation waits for, the strobe instant since when
every slack is ample, which conditions of EV_MARGIN_LOW were reported, the re-planner's voltage in mV (R332, R333).
Telemetry: SEQ, the instant of the last block, errors in its interval (correctable, uncorrectable), takeovers (R343).
Takeovers: gondolas marked suspect while they serve, the state before a test, and BALSTAT of gondolas left in a ballast
takeover (R335, R336, R340). -/
structure RelH where
  scrubS : Scrub
  scrubL : Store Scrub
  scrubX : Scrub
  ce : List (Nat × Nat × Nat)
  weak : List Nat
  mon : Store MonH
  wait : MgWait
  goodFrom : Option Nat
  lowRep : Bool
  negRep : Bool
  rv : Nat
  telSeq : Nat
  telAt : Nat
  telCe : Nat
  telUe : Nat
  nWarm : Nat
  nCold : Nat
  marked : List Nat
  testWas : Nat
  balKept : Store Nat
  deriving DecidableEq, Repr

def RelH.init : RelH := {
  scrubS := .init, scrubL := [], scrubX := .init, ce := [], weak := [], mon := [], wait := .go, goodFrom := none,
  lowRep := false, negRep := false, rv := 0, telSeq := 0, telAt := 0, telCe := 0, telUe := 0, nWarm := 0, nCold := 0,
  marked := [], testWas := 0, balKept := [] }

/-! ### Power (chapter 14) and boot (chapter 16) -/

/-- An access that waits for a wake to complete (R350, R383): a register write or read of a width, a write of the MSI-X table,
an access to shared SRAM, a remote command, or a JTAG command that needs the device awake. -/
inductive Held where
  | write (src : Src) (off len : Nat) (val : Word)
  | read (src : Src) (off len : Nat)
  | msix (src : Src) (off : Nat) (words : List Nat)
  | sramRead (src : Src) (addr len : Nat) (err : Ecc)
  | sramWrite (src : Src) (addr : Nat) (data : List Byte) (err : Ecc)
  | remote (dev seq : Nat) (wr : Bool) (off val : Nat)
  | dbgopen (level : Nat)
  deriving DecidableEq, Repr

/-- The power controller beyond its registers: the state that is being entered and the one left (0 Aloft, 1 Drift, 2 Moored,
3 Grounded), the wake source's strobe instant, code and index, whether the device is in Moored or wakes from it, the
instant Moored began, the wake log with the entries lost, and whether the device is Grounded.
Core voltage: consecutive low evaluations, the strobe instant of the last request, attempts without an
acknowledgement, the last STATUS_WORD. THERMTRIP#, the banks whose rail has been in a nominal band (R395), and the accesses
held until a wake completes, oldest first, each with the ECC errors its accesses of memory will find (R39, R350). Whether the
core regulator was commanded off (R351). -/
structure PwrH where
  tgt : Nat
  prev : Nat
  from_ : Nat
  cause : Nat
  idx : Nat
  deep : Bool
  deepAt : Nat
  log : List Ev
  lost : Nat
  gnd : Bool
  lowN : Nat
  sentAt : Option Nat
  tries : Nat
  status : Nat
  therm : Bool
  seen : Nat
  held : List (Held × Ecc)
  coreOff : Bool
  deriving DecidableEq, Repr

def PwrH.init : PwrH := {
  tgt := 0, prev := 0, from_ := 0, cause := 0, idx := 0, deep := false, deepAt := 0, log := [], lost := 0, gnd := false,
  lowN := 0, sentAt := none, tries := 0, status := 0, therm := false, seen := 0, held := [], coreOff := false }

/-- Boot (R390 to R392, R395): the stage that runs (0: power-on reset holds; 6: complete; 7: held in reset after a second
failure), whether it is the second attempt, the strobe instant power-on reset was released; events to raise when it is
complete; output-enable changes that wait (instant, release or revocation, banks). -/
structure BootH where
  stage : Nat
  again : Bool
  at_ : Nat
  evs : List (Nat × Nat)
  oe : List (Nat × Bool × Nat)
  deriving DecidableEq, Repr

def BootH.init : BootH := ⟨0, false, 0, [], []⟩

/-! ### Mesh and memory (chapter 1) -/

/-- A posted answer to an access: the data (first byte first), and how it ended. -/
inductive RespStatus where
  /-- the access completed -/
  | ok
  /-- Completer Abort (R11, R20) -/
  | abort
  /-- a poisoned TLP, EP set (R39) -/
  | poisoned
  /-- a bus-error with the subcode of R104 for an engine -/
  | bus (sub : Nat)
  /-- a mover's descriptor ends in error (R20, R39) -/
  | moverErr (code : Nat)
  /-- Configuration Request Retry Status (R271) -/
  | crs
  /-- Unsupported Request -/
  | unsupported
  deriving DecidableEq, Repr

/-- The answer to the last access that has one. -/
structure Resp where
  status : RespStatus
  data : List Nat
  deriving DecidableEq, Repr

/-- Memories: shared SRAM bytes (R33) with its poisoned words (word numbers, R39), the gondolas' local memories (key
logical gondola × 0x1_0000 + offset; poisoned words by key / 8) and secure SRAM with its poisoned words. -/
structure Mem where
  sram : List Host.Cell
  poison : List Nat
  lm : List Host.Cell
  lmPoison : List Nat
  sec : List Host.Cell
  secPoison : List Nat
  deriving DecidableEq, Repr

/-- The state of the machine. -/
structure State where
  now : Nat
  spine : Option Nat
  regs : Store Word
  tb : Store TbH
  disc : Disc
  release : Option Release
  chan : Store Chan
  grp : Store Grp
  fab : Fabric
  tin : Store TIn
  slot : Store TSlot
  sched : Store Sched
  eng : Store Eng
  mcl : Option McLoad
  mcNew : Option McImage
  mcWait : List Nat
  mcRun : Store McImage
  sprQ : List SprReq
  tko : Option Tko
  test : Option Nat
  suspEnt : Store Nat
  mem : Mem
  meshTest : List Nat
  authAt : Store Nat
  calT0 : Nat
  kcomp : Store KComp
  sar : Store SarU
  sd : Store SdU
  mclk : Store MClk
  tail : Store TailH
  sp : Store SpH
  aev : Store SlotH
  qrec : List QRec
  vecReq : List (Nat × Nat)
  host : HostH
  tp : Store TpH
  teth : TethD
  secH : SecH
  rel : RelH
  pw : PwrH
  boot : BootH
  lastBeacon : Nat
  ecc : Ecc
  resp : Resp
  answers : List (Src × Resp)
  freeCtr : Nat
  pending : List Instr
  deriving DecidableEq, Repr

/-- The machine right after reset (R6, R46, R408): every register reads its reset value, nothing is stored, the spine
has not started and the queue is empty. -/
def State.reset : State := {
  now := 0, spine := none, regs := [], tb := [], disc := .init, release := none, chan := [], grp := [],
  fab := { routers := [], arrivals := [], deferred := [], inval := none, cohLine := 0, cohFrom := 0, qLast := none },
  tin := [], slot := [], sched := [], eng := [], mcl := none, mcNew := none, mcWait := [], mcRun := [],
  sprQ := [], tko := none, test := none, suspEnt := [],
  mem := { sram := [], poison := [], lm := [], lmPoison := [], sec := [], secPoison := [] },
  meshTest := [], authAt := [], calT0 := 0, kcomp := [], sar := [], sd := [], mclk := [], tail := [], sp := [], aev := [],
  qrec := [], vecReq := [], host := .init, tp := [], teth := .init, secH := .init, rel := .init, pw := .init,
  boot := .init, lastBeacon := 0, ecc := .clean, resp := ⟨.ok, []⟩, answers := [], freeCtr := 0, pending := [] }

end Sys2Proof.Machine
end

