-- ==== Sys2Proof/Machine/Ops.lean ====
section
/-! DEFINITION. The named operations over time, registers, memory and events that every meaning is built from. -/
namespace Sys2Proof.Machine

/-- The outcome type of a step. -/
abbrev Out := Host.Outcome State Fault Refusal

/-- The machine with the queue of waiting commands `q`. -/
def State.withQueue (s : State) (q : List Instr) : State := { s with pending := q }

/-- The next state `s'`, where the command names units the device has; the queue of waiting commands is no part of what a
command changes. -/
def State.ran (s : State) (ok : Bool) (s' : State) : Out := if ok then .next (s'.withQueue s.pending) else .fault .noSuchUnit

/-- The command comes at instant `t`: time never goes back (notes/assumptions/1.md). -/
def State.advance (s : State) (t : Nat) : State := { s with now := if s.now < t then t else s.now }

/-- A value the spec leaves open, a new one at each call (notes/assumptions/4.md). -/
def State.fresh (s : State) : Nat × State := (Config.freeValue s.freeCtr, { s with freeCtr := s.freeCtr + 1 })

/-! ### Registers -/

/-- The stored word of the register at BAR0 offset `a`. -/
def State.reg (s : State) (a : Nat) : Word := s.regs.get regReset a

/-- The register at BAR0 offset `a` takes the word `w`. -/
def State.setReg (s : State) (a : Nat) (w : Word) : State := { s with regs := s.regs.set regReset a w }

/-- Field `f` of block `n`, element `i` of a register array. -/
def State.rd (s : State) (f : RField) (n : Nat := 0) (i : Nat := 0) : Nat :=
  bitsAt (s.reg (f.adr n i)).toNat f.lo f.len

/-- Field `f` of block `n`, element `i`, takes the low bits of `v`. -/
def State.wr (s : State) (f : RField) (v : Nat) (n : Nat := 0) (i : Nat := 0) : State :=
  s.setReg (f.adr n i) (BitVec.ofNat 32 (putBits (s.reg (f.adr n i)).toNat f.lo f.len v))

/-- Whether field `f` is not 0. -/
def State.on (s : State) (f : RField) (n : Nat := 0) (i : Nat := 0) : Bool := s.rd f n i != 0

/-- Field `f` of a word that is being written. -/
def RField.of (f : RField) (w : Word) : Nat := bitsAt w.toNat f.lo f.len

/-- Field `f`, saturating, counts `k` more. -/
def State.cnt (s : State) (f : RField) (k : Nat := 1) (n : Nat := 0) (i : Nat := 0) : State :=
  s.wr f (satTo (2 ^ f.len - 1) (s.rd f n i + k)) n i

/-- Field `f`, wrapping, counts `k` more. -/
def State.inc (s : State) (f : RField) (k : Nat := 1) (n : Nat := 0) (i : Nat := 0) : State :=
  s.wr f (s.rd f n i + k) n i

/-- Several fields of block `n` are set in turn. -/
def State.wrs (s : State) (n : Nat) (l : List (RField × Nat)) : State :=
  l.foldl (fun s fv => s.wr fv.1 fv.2 n) s

/-- Two 32-bit halves of a wide value. -/
def State.rd64 (s : State) (lo hi : RField) (n : Nat := 0) (i : Nat := 0) : Nat :=
  s.rd lo n i + 2 ^ 32 * s.rd hi n i

/-- A wide value is written into its two halves. -/
def State.wr64 (s : State) (lo hi : RField) (v : Nat) (n : Nat := 0) (i : Nat := 0) : State :=
  (s.wr lo v n i).wr hi (v / 2 ^ 32) n i

/-- COINCCNT counts flagged pairs (R24, R41). -/
def State.countCoinc (s : State) (k : Nat) : State :=
  s.wr64 Reg.COINCCNT_LO.COUNT Reg.COINCCNT_HI.COUNT (s.rd64 Reg.COINCCNT_LO.COUNT Reg.COINCCNT_HI.COUNT + k)

/-! ### Time (R43, R45, R28) -/

/-- What a stretch of motion reads at instant `a`, in 2⁻³⁶ ns. -/
def Seg.at (g : Seg) (a : Nat) : Nat :=
  let d := a - g.from_
  let m := if d < 64000 then d else 64000
  (((g.val + g.rate * d : Nat) + g.gain * m / 64000 : Int) % (2 ^ 100 : Nat)).toNat

/-- A timebase beyond its registers. -/
def State.tbH (s : State) (k : Nat) : TbH := s.tb.get (fun _ => TbH.init) k

def State.modTb (s : State) (k : Nat) (f : TbH → TbH) : State :=
  { s with tb := s.tb.set (fun _ => TbH.init) k (f (s.tbH k)) }

/-- The stretch of motion in force at instant `a`. -/
def segAt : List Seg → Nat → Seg
  | [], _ => ⟨0, 0, 0, 0⟩
  | [g], _ => g
  | g :: gs, a => if g.from_ ≤ a then g else segAt gs a

/-- The spine's count of strobe time since it started (TB17, R45). -/
def State.strobe (s : State) (a : Nat) : Nat :=
  match s.spine with
  | some b => a - b
  | none => 0

/-- Timebase `k` at instant `a`, in 2⁻³⁶ ns. -/
def State.tbVal (s : State) (k a : Nat) : Nat :=
  match s.spine with
  | none => 0
  | some b => if k = 17 then (a - b) * 2 ^ 30 else (segAt (s.tbH k).segs a).at a

/-- Timebase `k` at instant `a` as a fine time, the count of 1/64 ns (R43). -/
def State.fineAt (s : State) (k a : Nat) : Nat := s.tbVal k a / 2 ^ 30

/-- Timebase `k` now, as a fine time. -/
def State.fine (s : State) (k : Nat) : Nat := s.fineAt k s.now

/-- The rate of timebase `k` now, slewing included (R47). -/
def State.rateOf (s : State) (k : Nat) : Nat :=
  if k = 17 then 0x40000000 else if s.spine.isNone then 0 else (segAt (s.tbH k).segs s.now).rate

/-- How far timebase `k` moves in the strobe time `d`, at the rate in force (R411). -/
def State.span (s : State) (k d : Nat) : Nat := d * s.rateOf k / 2 ^ 30

/-- A quotient rounded up. -/
def ceilDiv (a b : Nat) : Nat := (a + b - 1) / b

/-- The instant at which the stretches of motion, newest first, last came to `v` (2⁻³⁶ ns): within one that reaches it, or at
the end of one after which a step forward passed it. `e` is the instant up to which the first lasts, `up` the value after
that. -/
def whenSegs : List Seg → Nat → Nat → Nat → Option Nat
  | [], _, _, _ => none
  | g :: gs, e, up, v =>
    if g.val ≤ v ∧ (v ≤ g.at e ∨ v < up) then
      let a := if v = g.val then g.from_ else if g.rate = 0 then e else g.from_ + ceilDiv (v - g.val) g.rate
      some (if a < e then a else e)
    else whenSegs gs g.from_ g.val v

/-- The strobe instant, at or before now, at which timebase `k` reached the fine time `v` (R53, R158); before the motion that
is kept, by its first rate. -/
def State.whenTb (s : State) (k v : Nat) : Nat :=
  match s.spine with
  | none => s.now
  | some b =>
    let x := v * 2 ^ 30
    if k = 17 then (if b + v < s.now then b + v else s.now)
    else match whenSegs (s.tbH k).segs s.now 0 x, (s.tbH k).segs.getLast? with
      | some a, _ => a
      | none, some g => if x < g.val ∧ g.rate ≠ 0 then g.from_ - (g.val - x) / g.rate else s.now
      | none, none => s.now

/-- The TB0 timestamp of the instant at which timebase `k` reaches the fine time `v`, now or before (R158). -/
def State.tsOf (s : State) (k v : Nat) : Nat := if k = 0 then v else s.fineAt 0 (s.whenTb k v)

/-- The strobe instant at which timebase `k` reads the fine time `v`: past, or to come at the rate in force. -/
def State.toStrobe (s : State) (k v : Nat) : Nat :=
  let r := s.rateOf k
  if v ≤ s.fine k ∨ r = 0 then s.whenTb k v else s.now + ceilDiv (v * 2 ^ 30 - s.tbVal k s.now) r

/-- What timebase `k` reads at the strobe instant `a`: past, or to come at the rate in force. -/
def State.fineTo (s : State) (k a : Nat) : Nat := if a ≤ s.now then s.fineAt k a else s.fine k + s.span k (a - s.now)

/-- TB0 now with the full fraction: the timestamp of a pin-sourced event (R30). -/
def State.tsPin (s : State) : Nat := s.fine 0

/-- TB0 now in whole nanoseconds: the timestamp of an event the device itself generates (R30). -/
def State.tsInt (s : State) : Nat := s.fine 0 / 64 * 64

/-- The last access is answered. -/
def State.answer (s : State) (st : RespStatus) (data : List Nat := []) : State := { s with resp := ⟨st, data⟩ }

/-- A register read is answered with a word, its bytes first to last. -/
def State.answerWord (s : State) (w : Nat) : State := s.answer .ok ((toBytes 4 w).map (·.toNat))

/-! ### Units -/

def State.ch (s : State) (n : Nat) : Chan := s.chan.get (fun _ => Chan.init) n

def State.modCh (s : State) (n : Nat) (f : Chan → Chan) : State :=
  { s with chan := s.chan.set (fun _ => Chan.init) n (f (s.ch n)) }

def State.gr (s : State) (j : Nat) : Grp := s.grp.get (fun _ => Grp.init) j

def State.modGr (s : State) (j : Nat) (f : Grp → Grp) : State :=
  { s with grp := s.grp.set (fun _ => Grp.init) j (f (s.gr j)) }

def State.router (s : State) (r : Nat) : Router := s.fab.routers.get (fun _ => Router.init) r

def State.modRouter (s : State) (r : Nat) (f : Router → Router) : State :=
  { s with fab := { s.fab with routers := s.fab.routers.set (fun _ => Router.init) r (f (s.router r)) } }

/-- A SAR unit beyond its registers. -/
def State.sarU (s : State) (i : Nat) : SarU := s.sar.get (fun _ => SarU.init) i

def State.modSar (s : State) (i : Nat) (f : SarU → SarU) : State :=
  { s with sar := s.sar.set (fun _ => SarU.init) i (f (s.sarU i)) }

/-- A trigger with the strobe instant T reaches the SAR units whose source is of kind `src` and meets `p` (R211). -/
def State.sarAnnounce (s : State) (src : Nat) (p : Nat → Bool) (at_ : Nat) : State :=
  (upFrom 0 16).foldl (fun s i =>
    if s.rd Reg.SARTRIG.TSRC i = src ∧ p i then s.modSar i (fun u => { u with trigs := u.trigs ++ [at_] }) else s) s

/-- A tail beyond its registers. -/
def State.tailU (s : State) (k : Nat) : TailH := s.tail.get (fun _ => TailH.init) k

def State.modTail (s : State) (k : Nat) (f : TailH → TailH) : State :=
  { s with tail := s.tail.set (fun _ => TailH.init) k (f (s.tailU k)) }

/-- A trigger of event `kind` of channel `n` with the strobe instant T reaches the tails that take it for their frames
(R229). -/
def State.serAnnounce (s : State) (n kind at_ : Nat) : State :=
  (upFrom 0 128).foldl (fun s k =>
    if s.rd Reg.SERTRIG.TSRC k = 2 ∧ s.rd Reg.SERTRIG.TKIND k = kind ∧ s.rd Reg.SERTRIG.TCH k = n then
      s.modTail k (fun h => { h with trigs := h.trigs ++ [at_] }) else s) s

/-- A spool beyond its registers. -/
def State.spU (s : State) (i : Nat) : SpH := s.sp.get (fun _ => SpH.init) i

def State.modSp (s : State) (i : Nat) (f : SpH → SpH) : State :=
  { s with sp := s.sp.set (fun _ => SpH.init) i (f (s.spU i)) }

/-- Slot `j` of spool `i` beyond its registers. -/
def State.aevU (s : State) (i j : Nat) : SlotH := s.aev.get (fun _ => SlotH.init) (64 * i + j)

def State.modAev (s : State) (i j : Nat) (f : SlotH → SlotH) : State :=
  { s with aev := s.aev.set (fun _ => SlotH.init) (64 * i + j) (f (s.aevU i j)) }

/-- An edge of source `u` of kind `src` reaches every enabled spool that follows it (R251). -/
def State.spoolEdge (s : State) (src u : Nat) (e : SpEdge) : State :=
  (upFrom 0 32).foldl (fun s i =>
    if s.on Reg.SPCTL.EN i ∧ s.rd Reg.SPCTL.SRC i = src ∧ (if src = 1 then s.rd Reg.SPSRC.CH i else s.rd Reg.SPSRC.TAIL i) = u then
      s.modSp i (fun h => { h with edges := h.edges ++ [e] }) else s) s

/-- The physical gondola that serves logical gondola `g` (R5, R6). -/
def State.phys (s : State) (g : Nat) : Nat := s.rd Reg.LMAP.PHYS 0 g

/-- Whether the mesh port is isolated (R19, R41). -/
def State.isolated (s : State) (port : Nat) : Bool := bitAt (s.rd Reg.MESHISO.ISO 0 (port / 32)) (port % 32)

/-! ### Tether: routes and transmit buffers (R299 to R301, R319) -/

def State.tpU (s : State) (p : Nat) : TpH := s.tp.get (fun _ => TpH.init) p

def State.modTp (s : State) (p : Nat) (f : TpH → TpH) : State := { s with tp := s.tp.set (fun _ => TpH.init) p (f (s.tpU p)) }

/-- Whether the data slots of port `p` are open (R304). -/
def State.tpUp (s : State) (p : Nat) : Bool := s.rd Reg.TPSTAT.STATE p == 7 && !s.isolated (197 + p)

/-- The links the device knows: its own, and those its partners report (R301). -/
def State.tLinks (s : State) : List TLink :=
  (upFrom 0 4).flatMap (fun p =>
    if s.tpUp p ∧ s.on Reg.TPSTAT.PVALID p then
      ⟨s.rd Reg.TSTAT.IDX, s.rd Reg.TPSTAT.PIDX p, (s.rd Reg.TPDELAY.DLY p + 63) / 64⟩ :: (s.tpU p).links
    else [])

/-- The nearer of two distances in hops, then in ns. -/
def nearer (x y : Option (Nat × Nat)) : Option (Nat × Nat) :=
  match x, y with
  | none, y => y
  | x, none => x
  | some (h, c), some (h', c') => if h < h' ∨ h = h' ∧ c ≤ c' then some (h, c) else some (h', c')

/-- One link's worth of hops from device `a` to device `b`, each 250 ns and the cable's delay (R300). -/
def hop (l : TLink) (a b : Nat) (tab : List (Option (Nat × Nat))) : List (Option (Nat × Nat)) :=
  match tab.getD a none with
  | some (h, c) => tab.set b (nearer (tab.getD b none) (some (h + 1, c + 250 + l.ns)))
  | none => tab

/-- One more hop over every link. -/
def hopAll : List TLink → List (Option (Nat × Nat)) → List (Option (Nat × Nat))
  | [], tab => tab
  | l :: ls, tab => hopAll ls (hop l l.b l.a (hop l l.a l.b tab))

def hopsN : Nat → List TLink → List (Option (Nat × Nat)) → List (Option (Nat × Nat))
  | 0, _, tab => tab
  | k + 1, ls, tab => hopsN k ls (hopAll ls tab)

/-- The distances from device `a`: hops, and their sum in ns (R300, R301). -/
def distances (ls : List TLink) (a : Nat) : List (Option (Nat × Nat)) :=
  hopsN 31 ls ((List.replicate 32 none).set a (some (0, 0)))

/-- The port over which unicast items go to device `d`: the shorter direction, on a tie the lower port (R301). -/
def State.tRoute (s : State) (d : Nat) : Option Nat :=
  ((upFrom 0 4).foldl (fun b p =>
    if s.tpUp p ∧ s.on Reg.TPSTAT.PVALID p then
      match (distances (s.tpU p).links (s.rd Reg.TPSTAT.PIDX p)).getD d none, b with
      | some (h, _), some (h', q) => if h < h' then some (h, p) else some (h', q)
      | some (h, _), none => some (h, p)
      | none, b => b
    else b) (none : Option (Nat × Nat))).map (·.2)

/-- An item joins the transmit buffer of port `p`, or is dropped and counted (R299); an isolated port takes none (R20). -/
def State.tPush (s : State) (p : Nat) (m : TMsg) : State :=
  if s.isolated (197 + p) then s
  else if (s.tpU p).buf.length < 4096 then s.modTp p (fun h => { h with buf := h.buf ++ [⟨m, s.fine 0⟩] })
  else (s.cnt Reg.TXDROP.COUNT 1 p).modTp p (fun h => { h with dropped := h.dropped + 1 })

/-- The data slots of a cycle (R298, R299). -/
def State.slots (s : State) (p : Nat) : Nat := if s.on Reg.TPSTAT.LANES p then 30 else 60

/-- An item on its way to another device goes on in the cycle under way, while a slot of it is free (R300). -/
def State.tForward (s : State) (p : Nat) (m : TMsg) : State :=
  if s.isolated (197 + p) then s
  else if (s.tpU p).cyc = some (s.fine 0 / 64000) ∧ (s.tpU p).sent.length < s.slots p then
    s.modTp p (fun h => { h with sent := h.sent ++ [m] })
  else s.tPush p m

/-- The device sends an item: to every open port, or on the route to its destination; one that has none is lost (R301,
R314). -/
def State.tSend (s : State) (dst : Nat) (i : TItem) : State :=
  let n := s.teth.seq + 1
  let m : TMsg := ⟨s.rd Reg.TSTAT.IDX, dst, n, i⟩
  let s := { s with teth := { s.teth with seq := n } }
  if dst = 32 then (upFrom 0 4).foldl (fun s p => if s.tpUp p then s.tPush p m else s) s
  else match s.tRoute dst with
    | some p => s.tPush p m
    | none => s

/-- Whether the device is in cascade time (R319). -/
def State.cascadeTime (s : State) : Bool :=
  s.on Reg.TSTAT.MASTER || (s.rd Reg.DISCSTAT.SRCACT == 4 && s.rd Reg.DISCSTAT.STATE == 2)

/-- An event that is issued is forwarded to the devices that subscribed to it; each path numbers its items (R319). Nothing
leaves an isolated gondola (R20). -/
def State.exportEv (s : State) (ev : Ev) : State :=
  if ev.id < 6144 ∧ s.isolated (s.phys (ev.id / 96)) then s else
  (s.teth.exports.filter (fun e => e.2.2 == ev.id)).foldl (fun s e =>
    let n := s.teth.txSeq.get (fun _ => 0) e.1 + 1
    let s := { s with teth := { s.teth with txSeq := s.teth.txSeq.set (fun _ => 0) e.1 n } }
    s.tSend e.1 (.event e.2.1 n ev.id ev.ts ev.detail (ev.tq || !s.cascadeTime) ev.coinc)) s

/-! ### Events (R30, R42, R129, R134, R135) -/

/-- The router that takes an event: that of the channel's physical gondola, or the hub (R134). -/
def State.routerOf (s : State) (id : Nat) : Nat := if id < 6144 then s.phys (id / 96) else 68

/-- The mesh port of the agent that raises an event, and whose reader of time stamps it (R15, R29, R127): the channel's
physical gondola, the tail's cluster, the spool block, the analogue block, the tether port the event names, the PCIe bridge
for movers and queues, the security block, and the background service engine for the rest. None for the events of the
tether that name no port (notes/assumptions/137.md). -/
def State.evPort (s : State) (ev : Ev) : Option Nat :=
  if ev.id < 6144 then some (s.phys (ev.id / 96))
  else if ev.id < 6656 then some (201 + (ev.id - 6144) / 64)
  else if ev.id < 6784 then some 209
  else if ev.id < 7296 then some 210
  else if ev.id < 7312 then some (197 + ev.id % 4)
  else if ev.id = 7313 then some (197 + ev.detail % 4)
  else if ev.id = 7316 ∨ (ev.id = 7317 ∧ ¬ bitAt ev.detail 31) then some (197 + ev.detail / 2 ^ 16 % 4)
  else if ev.id < 7424 then none
  else if ev.id < 7680 then some 196
  else if ev.id < 8064 then some 211
  else some 212

/-- Whether an event leaves its source: what an isolated port sends is discarded (R20). A channel's own router takes its
events without the mesh. -/
def State.leaves (s : State) (ev : Ev) : Bool := decide (ev.id < 6144) || !(s.evPort ev).any s.isolated

/-- Whether the router's cached descriptor disables the channel event: `none` where no copy is held (R135). -/
def Router.gated (r : Router) (id : Nat) : Option Bool :=
  (r.desc.find? (fun d => d.ch = id / 6 % 16)).map (fun d => !bitAt d.even (id % 6))

/-- A router that has dropped an event at a full FIFO reports it at most once per ms, through the hub (R135). -/
def State.dropEvent (s : State) (r : Nat) : State :=
  let s := (s.cnt Reg.EVDROP.COUNT).modRouter r (fun x => { x with dropped := x.dropped + 1 })
  let x := s.router r
  if x.reported.all (fun t => t + ms 1 ≤ s.now) then
    let ev : Ev := ⟨7694, s.tsInt, r * 2 ^ 24 + satTo 0xFFFF x.dropped, false, false⟩
    let s := s.modRouter r (fun x => { x with dropped := 0, reported := some s.now })
    if (s.router 68).fifo.length < 64 then s.modRouter 68 (fun h => { h with fifo := h.fifo ++ [(ev, false)] })
    else (s.cnt Reg.EVDROP.COUNT).modRouter 68 (fun h => { h with dropped := h.dropped + 1 })
  else s

/-- A source issues an event into its router's FIFO, gated by the cached EVEN (R135); behind an isolated port it is
discarded (R20). -/
def State.issue (s : State) (ev : Ev) : State :=
  let r := s.routerOf ev.id
  let gate := if ev.id < 6144 then (s.router r).gated ev.id else some false
  if gate = some true ∨ ¬ s.leaves ev then s
  else if ¬ s.on Reg.EFCTL.EN then s.cnt Reg.UNROUTED.COUNT
  else if 64 ≤ (s.router r).fifo.length then s.dropEvent r
  else
    let s := s.modRouter r (fun x => { x with fifo := x.fifo ++ [(ev, gate.isNone)] })
    if gate.isSome then s.exportEv ev else s

/-! ### Sleep and wake (R349, R350, R353, R354) -/

/-- Whether the device is in any state but Aloft. -/
def State.asleep (s : State) : Bool := s.rd Reg.PWRSTAT.STATE != 0

/-- A wake source of a cause and index, with its strobe instant: it starts a wake, which ends an entry; of several the
earliest counts, and on a tie the lowest code. -/
def State.wakeAsk (s : State) (cause idx at_ : Nat) : State :=
  let st := s.rd Reg.PWRSTAT.STATE
  if st = 0 ∨ s.pw.gnd then s
  else if st = 4 then
    (if at_ < s.pw.from_ ∨ at_ = s.pw.from_ ∧ cause < s.pw.cause then { s with pw := { s.pw with from_ := at_, cause := cause, idx := idx } } else s)
  else { s with pw := { s.pw with from_ := at_, cause := cause, idx := idx } }.wr Reg.PWRSTAT.STATE 4

/-- An access is held and wakes the device (R350). -/
def State.hold (s : State) (h : Held) : State :=
  ({ s with pw := { s.pw with held := s.pw.held ++ [(h, s.ecc)] } } : State).wakeAsk 2 0 s.now

/-- An event enters the wake log: 64 entries, and every later one is lost (R349). -/
def State.wakeLog (s : State) (ev : Ev) : State :=
  if s.pw.log.length < 64 then { s with pw := { s.pw with log := s.pw.log ++ [ev] } }
  else { s with pw := { s.pw with lost := s.pw.lost + 1 } }.cnt Reg.PWRSTAT.LOGLOST

/-- An event is raised: issued to its router, entered in the wake log in Moored (R349), or held until CALDONE (R42). -/
def State.raiseEv (s : State) (ev : Ev) : State :=
  if ¬ s.on Reg.SPINESTAT.CALDONE then { s with fab := { s.fab with deferred := s.fab.deferred ++ [ev] } }
  else if s.pw.deep then s.wakeLog ev
  else s.issue ev

/-- An event with the timestamp `ts`. -/
def State.raiseAt (s : State) (id detail ts : Nat) : State := s.raiseEv ⟨id, ts, detail, false, false⟩

/-- An event the device generates now (R30). -/
def State.raise (s : State) (id detail : Nat) : State := s.raiseAt id detail s.tsInt

/-- The FAULT event of channel `n` with a cause and its own DETAIL bits (R163), timestamp `ts`. -/
def State.faultAt (s : State) (n cause ts : Nat) (detail : Nat := 0) : State :=
  s.raiseAt (6 * n + 5) (cause * 2 ^ 24 + detail) ts

/-- The FAULT event of channel `n`, now. -/
def State.chFault (s : State) (n cause : Nat) (detail : Nat := 0) : State := s.faultAt n cause s.tsPin detail

/-! ### Queues: what waits in the queue engine (R289, R291) -/

/-- The context of queue `q`. -/
def State.qc (s : State) (q : Nat) : QCtx := s.host.q.get (fun _ => QCtx.init) q

def State.modQc (s : State) (q : Nat) (f : QCtx → QCtx) : State :=
  { s with host := { s.host with q := s.host.q.set (fun _ => QCtx.init) q (f (s.qc q)) } }

/-- A record of queue `q` is lost to a full ring or a full buffer: LOST counts it, and the next GAP record reports it with
the first one's timestamp (R288, R289). -/
def State.qLost (s : State) (q ts : Nat) : State :=
  s.modQc q (fun c => { c with lost := satTo 0xFFFFFFFF (c.lost + 1), gap := c.gap + 1, gapTs := if c.gap = 0 then ts else c.gapTs })

/-- A record joins those that wait in the queue engine, or finds its 8,192 places taken (R289). -/
def State.qPush (s : State) (r : QRec) : State :=
  if s.qrec.length < 8192 then { s with qrec := s.qrec ++ [r] }
  else
    let s := if (s.qc r.q).en then s.qLost r.q r.ts else s
    if s.host.bufFull then s else { s with host := { s.host with bufFull := true } }.raise 7488 (2 ^ 31 + r.q)

end Sys2Proof.Machine
end

