-- ==== Sys2Proof/Machine/Auth.lean ====
section
/-! DEFINITION. The bridle: who may write what (R273 to R276), and what becomes of a write that is dropped. -/
namespace Sys2Proof.Machine

/-- The bridle entry of the resource that holds BAR0 offset `a` (R273). -/
def bridleOf (a : Nat) : Option Nat :=
  match blkOf a with
  | some (.ch, n, _) => some (n / 8)
  | some (.grp, j, _) => some j
  | some (.tail, t, _) => some (128 + t)
  | some (.sp, s, _) => some (256 + s)
  | some (.k, k, _) => some (288 + k / 16)
  | some (.sar, i, _) => some (304 + i)
  | some (.sd, i, _) => some (320 + i / 16)
  | some (.tb, k, _) => if 1 ≤ k ∧ k ≤ 16 then some (335 + k) else none
  | some (.mv, m, _) => some (352 + m)
  | some (.an, _, l) =>
    if 0x4000 ≤ l ∧ l < 0x4040 then some (288 + (l - 0x4000) / 4)
    else if 0x18000 ≤ l ∧ l < 0x18100 then some (320 + (l - 0x18000) / 16) else none
  | _ => none

/-- The function whose own FNQBASE or HOSTWD stands at `a` (R275, R278). -/
def ownFnReg (a : Nat) : Option Nat :=
  if 0x2000 ≤ a ∧ a < 0x2220 then
    (if a % 0x20 = 0xC ∨ a % 0x20 = 0x10 ∨ a % 0x20 = 0x14 then some ((a - 0x2000) / 0x20) else none)
  else none

/-- Registers that only PF0 writes (R275); its MSI-X map is taken to be the vector ranges FNVR (DEDUCED,
notes/assumptions/159.md). -/
def pf0Only (a : Nat) : Bool :=
  if a = 0x280 then false
  else decide (a < 0x100000) || decide (0x100000 ≤ a ∧ a < 0x101000) || decide (a = 0x200000 ∨ a = 0x200004 ∨ a = 0x200008 ∨ a = 0x200010)
    || decide (0x800000 ≤ a ∧ a < 0x802000) || decide (0x2800000 ≤ a ∧ a < 0x2900000)
    || decide (0x2C00000 ≤ a ∧ a < 0x2D00000)

/-- Whether a source acts with the authority of PF0 (R274; the JTAG path, notes/assumptions/8.md). -/
def Src.isPf0 : Src → Bool
  | .fn f => f == 0
  | .cmdq f => f == 0
  | .jtag => true
  | _ => false

/-- The function a source writes for. -/
def Src.func : Src → Option Nat
  | .fn f => some f
  | .cmdq f => some f
  | _ => none

/-- Whether an owner class with its VF number names the source, for bridle entry `e` (R273, R274). -/
def ownedBy (cls vf e : Nat) (src : Src) : Bool :=
  match src with
  | .fn f => if f = 0 then cls == 0 || decide (4 ≤ cls) else cls == 1 && (if vf = 0 then f == 16 else f == vf)
  | .cmdq f => if f = 0 then cls == 0 || decide (4 ≤ cls) else cls == 1 && (if vf = 0 then f == 16 else f == vf)
  | .jtag => cls == 0 || decide (4 ≤ cls)
  | .tether => cls == 2
  | .eng g => cls == 3 && decide (e < 128) && g == e / 2
  | .mover _ => false

/-- Whether a write from `src` passes bridle entry `e` (R274). -/
def State.bridlePass (s : State) (e : Nat) (src : Src) : Bool :=
  ownedBy (s.rd Reg.BRIDLE.OWNER 0 e) (s.rd Reg.BRIDLE.VF 0 e) e src
    || (s.on Reg.BRIDLE.SHARED 0 e && ownedBy (s.rd Reg.BRIDLE.COOWN 0 e) (s.rd Reg.BRIDLE.COVF 0 e) e src)

/-- Whether a write from `src` to BAR0 offset `a` passes (R274, R275). -/
def State.mayWrite (s : State) (src : Src) (a : Nat) : Bool :=
  if pf0Only a then src.isPf0 || (match ownFnReg a, src.func with
    | some f, some f' => f == f'
    | _, _ => false)
  else match bridleOf a with
    | some e => s.bridlePass e src
    | none => true

/-- Whether a source's numbers are in range: functions 0 to 16, logical gondolas 0 to 63, movers 0 to 31 (R4, R273). -/
def Src.ok : Src → Bool
  | .fn f => decide (f < 17)
  | .cmdq f => decide (f < 17)
  | .tether => true
  | .eng g => decide (g < 64)
  | .jtag => true
  | .mover m => decide (m < 32)

/-- The source code of a report (R297). -/
def Src.code : Src → Nat
  | .fn f => if f = 0 then 0 else 1
  | .cmdq _ => 5
  | .tether => 2
  | .eng _ => 3
  | .jtag => 0
  | .mover _ => 4

/-- The VF field of a report (R297). -/
def Src.vf : Src → Nat
  | .fn f => f % 16
  | .cmdq f => f % 16
  | _ => 0

/-- The port an access to a gondola passes: none for an engine of its own (R17). -/
def Src.port (src : Src) (p : Nat) : Option Nat :=
  match src with
  | .eng _ => none
  | _ => some p

/-- The function whose authority a host access carries: the JTAG path has that of PF0 (notes/assumptions/8.md). -/
def Src.hostFn : Src → Option Nat
  | .fn f => some f
  | .cmdq f => some f
  | .jtag => some 0
  | _ => none

/-- The key under which EV_AUTH_DROP is limited to one per µs: source class and function (R274). -/
def Src.key : Src → Nat
  | .fn f => f
  | .cmdq f => f
  | .tether => 32
  | .eng _ => 64
  | .jtag => 0
  | .mover m => 128 + m

/-- A dropped write is counted for its function and reported at most once per µs (R274), with the report's source
code, the bridle entry and the BAR0 offset. -/
def State.authDropAs (s : State) (src : Src) (code entry a : Nat) : State :=
  let s := match src.func with
    | some f => s.cnt Reg.FNSTAT.AUTHDROP 1 f
    | none => s
  let last := s.authAt.get (fun _ => 0) src.key
  if last = 0 ∨ last + us 1 ≤ s.now + 1 then
    { s with authAt := s.authAt.set (fun _ => 0) src.key (s.now + 1) }.raise 7712
      (code * 2 ^ 29 + src.vf * 2 ^ 25 + entry * 2 ^ 16 + a / 4 % 2 ^ 16)
  else s

/-- A write to BAR0 offset `a` that `src` may not make is dropped (R274). -/
def State.authDrop (s : State) (src : Src) (a : Nat) : State :=
  s.authDropAs src src.code (if pf0Only a then 0x1FF else (bridleOf a).getD 0x1FF) a

/-- The mesh port of the agent that holds BAR0 offset `a` (R15); an engine reaches its own gondola without the mesh. The
mesh, spine and memory status registers of R41 answer without a port, so that a port can be readmitted (R22); the rest of
their region belongs to the background service engine (DESIGN CHOICE, notes/assumptions/138.md). -/
def State.portOf (s : State) (src : Src) (a : Nat) : Option Nat :=
  match blkOf a with
  | some (.ch, n, _) => src.port (s.phys (n / 16))
  | some (.grp, j, _) => src.port (s.phys (j / 2))
  | some (.eng, g, _) => src.port (s.phys g)
  | some (.sch, g, _) => src.port (s.phys g)
  | some (.mv, m, _) => some (164 + m)
  | some (.qc, _, _) => some 196
  | some (.tp, p, _) => some (197 + p)
  | some (.tail, k, _) => some (201 + k / 16)
  | some (.sp, _, _) => some 209
  | some (.k, _, _) => some 210
  | some (.an, _, _) => some 210
  | some (.sar, _, _) => some 210
  | some (.sd, _, _) => some 210
  | some (.rel, _, l) => if 0x1000 ≤ l ∧ l < 0x1050 then none else some 211
  | some (.sec, _, _) => some 212
  | _ => none

/-- The mesh port by which an access leaves its sender (R15). -/
def State.sendPort (s : State) (src : Src) : Option Nat :=
  match src with
  | .fn _ => some 196
  | .cmdq _ => some 196
  | .eng g => some (s.phys g)
  | .mover m => some (164 + m)
  | _ => none

/-- Whether a register access from `src` to BAR0 offset `a` is lost behind the isolated port of its sender (R20): one of an
engine outside its gondola, here only GSTART, one of the PCIe bridge to another agent. -/
def State.lost (s : State) (src : Src) (a : Nat) : Bool :=
  (s.sendPort src).any (fun p => s.isolated p && (match src with
    | .eng _ => a == 0x280
    | _ => (s.portOf src a).any (fun q => q != p)))

/-- Whether an access to BAR0 offset `a` meets an isolated port (R20): its target's, or for a host access the bridge's own,
behind which it would be discarded (notes/assumptions/139.md). -/
def State.cutOff (s : State) (src : Src) (a : Nat) : Bool :=
  (s.portOf src a).any s.isolated || (src.func.isSome && s.lost src a)

/-- How an access to an isolated port ends (R20). -/
def Src.cut (src : Src) : RespStatus :=
  match src with
  | .eng _ => .bus 3
  | .mover _ => .moverErr 8
  | _ => .abort

/-- Whether an access comes from outside the device (R350). -/
def Src.outside : Src → Bool
  | .eng _ => false
  | .mover _ => false
  | _ => true

/-- Whether an access is held until a wake completes: one from outside in any state but Aloft, unless to a power register
(R350, R358). -/
def State.holds (s : State) (src : Src) (a : Nat) : Bool :=
  s.asleep && src.outside && !decide (0x400 ≤ a ∧ a < 0x490)

/-- Whether a JTAG session of at least a level is open (R375, R381). -/
def State.jtagMay (s : State) (level : Nat) : Bool := s.secH.sess.any (fun x => x.jtag && decide (level ≤ x.level))

/-- A write of `w` from `src` to BAR0 offset `a` with effect `f`: nothing in Grounded, where no access comes (R351), nor
from JTAG below D2 (R375), held while the device sleeps (R350), checked against the bridle, then applied or dropped (R274),
without a report where nothing is implemented (R11); at an isolated port it ends in an error, and behind the sender's own it
is discarded (R20). -/
def State.authWrite (s : State) (src : Src) (a : Nat) (w : Word) (f : State → State) : State :=
  if s.pw.gnd ∨ src = .jtag ∧ ¬ s.jtagMay 2 then s
  else if s.holds src a then s.hold (.write src a 4 w)
  else if ¬ s.mayWrite src a then (if (regRow a).isNone then s else s.authDrop src a)
  else if s.cutOff src a then s.answer src.cut
  else if s.lost src a then s
  else f s

/-- A plain write of `w` to a register: writable bits take it, W1C bits clear on 1, the others keep their value
(R10, R11). -/
def State.plainWrite (s : State) (a : Nat) (w : Word) : State :=
  match regRow a with
  | none => s
  | some r =>
    let old := s.reg a
    let rw := BitVec.ofNat 32 r.rw
    let wc := BitVec.ofNat 32 r.w1c
    s.setReg a ((old &&& ~~~rw &&& ~~~(wc &&& w)) ||| (w &&& rw))

/-- The word of register `a` as a plain write of `w` would leave it, with some fields then set. -/
def State.plainWith (s : State) (a : Nat) (w : Word) (f : State → State) : State := f (s.plainWrite a w)

end Sys2Proof.Machine
end

