-- ==== Sys2Proof/Machine/Edge.lean ====
section
/-! DEFINITION. Edge placement by the twin delay lines (R53, R61 to R66) and the stages between them and the pin
(R168, R190, R198, R200). -/
namespace Sys2Proof.Machine
open Reg

/-- The edge timebase of channel `n` (R65). -/
def State.etb (s : State) (n : Nat) : Nat := s.rd DLCTL.ETB n

/-- The reading of the channel's edge timebase now. -/
def State.etbNow (s : State) (n : Nat) : Nat := s.fine (s.etb n)

/-- Strobe time as a movement of the channel's edge timebase (R411). -/
def State.espan (s : State) (n d : Nat) : Nat := s.span (s.etb n) d

def State.modDl (s : State) (n : Nat) (f : DLine → DLine) : State := s.modCh n (fun c => { c with dl := f c.dl })
def State.modRun (s : State) (n : Nat) (f : ChRun → ChRun) : State := s.modCh n (fun c => { c with run := f c.run })
def State.modPin (s : State) (n : Nat) (f : ChPin → ChPin) : State := s.modCh n (fun c => { c with pin := f c.pin })
def State.modCap (s : State) (n : Nat) (f : ChCap → ChCap) : State := s.modCh n (fun c => { c with cap := f c.cap })
def State.modCtm (s : State) (n : Nat) (f : ChCtm → ChCtm) : State := s.modCh n (fun c => { c with ctm := f c.ctm })

/-! ### Pairs, modes and the stages of the pin -/

/-- Whether channel `n` belongs to a pair (R184). -/
def State.paired (s : State) (n : Nat) : Bool := s.on PWMCTL.PAIR (n / 2 * 2)

/-- The channel whose counter serves channel `n`: the even one of a pair, else `n` itself (R184). -/
def State.leader (s : State) (n : Nat) : Nat := if s.paired n then n / 2 * 2 else n

/-- The other channel of the pair. -/
def partner (n : Nat) : Nat := if n % 2 = 0 then n + 1 else n - 1

/-- The channel mode, which the odd channel of a pair reads from the even one (R184). -/
def State.mode (s : State) (n : Nat) : Nat := s.rd CHCTL.MODE (s.leader n)

/-- Whether a channel may be an output of an encoder emulator (R245). -/
def State.emuOk (s : State) (n : Nat) : Bool := s.mode n == 0 && (s.rd PINCTL.OMODE n == 1 || s.rd PINCTL.OMODE n == 2)

/-- Whether a mode is a carrier mode (R177). -/
def carrierMode (m : Nat) : Bool := decide (8 ≤ m ∧ m ≤ 12)

/-- The channel's state (CHSTAT.STATE); the odd channel of a pair starts and stops with the even one (R184). -/
def State.chSt (s : State) (n : Nat) : Nat := s.rd CHSTAT.STATE (s.leader n)

/-- STOPPED, ARMED or DONE (R162). -/
def State.stopped (s : State) (n : Nat) : Bool :=
  let x := s.chSt n
  x == 0 || x == 1 || x == 3

/-- The order code the group's safe state gives the channel (R200). -/
def State.safeOrder (s : State) (n : Nat) : Nat :=
  let j := n / 8
  let st := s.rd SAFECTL.SAFEST j
  let lvl := if bitAt (s.rd SAFECTL.SAFELVL j) (n % 8) then 2 else 3
  if ¬ s.on PWMSTAT.SAFE n then 0
  else if st = 0 ∨ st = 3 then 4
  else if ¬ s.paired n then lvl
  else if st = 1 then (if n % 2 = 0 then 3 else 2) else 3

/-- The order a brake-first start gives the channel: the BRAKE levels of R200 (R243). -/
def State.brakeOrder (s : State) (n : Nat) : Nat :=
  if ¬ (s.gr (n / 8)).brake then 0
  else if ¬ s.paired n then (if bitAt (s.rd SAFECTL.SAFELVL (n / 8)) (n % 8) then 2 else 3)
  else if n % 2 = 0 then 3 else 2

/-- The order in effect at stage 3: force order, safe state and brake combined by rank (R198, R243). -/
def State.order3 (s : State) (n : Nat) : Nat :=
  let f := s.rd FORCEST.CUR n
  let a := s.safeOrder n
  let b := s.brakeOrder n
  let m := if f < a then a else f
  if m < b then b else m

/-- The level that leaves stage 2 (R190, R195). -/
def State.lvl2 (s : State) (n : Nat) : Bool :=
  (s.ch n).pin.lvl && !(s.ch n).pin.hold0 && !s.on TRIPSTAT.CBCACT n

/-- The level that leaves stage 3, where HIZ counts as off (R190, R198). -/
def State.lvl3 (s : State) (n : Nat) : Bool :=
  let o := s.order3 n
  if o = 0 then s.lvl2 n else o == 2

/-- What a pin stage gives. -/
inductive Drive where
  | z | low | high
  deriving DecidableEq, Repr

/-- What leaves stage 5: the interlock of a pair holds a switch off, and a latched or pair trip gives high-Z (R190,
R191, R194). -/
def State.stage5 (s : State) (n : Nat) : Drive :=
  let p := (s.ch n).pin
  let e := (s.ch (n / 2 * 2)).pin
  let off := s.paired n && ((if n % 2 = 0 then e.hOff else e.lOff) || (s.lvl3 n && s.lvl3 (partner n)))
  if s.on TRIPSTAT.TRIPPED n || s.on TRIPSTAT.PAIRTRIP n || p.clrWait then .z
  else if s.order3 n = 4 then .z
  else if off then .low
  else if s.lvl3 n then .high else .low

/-- What the pin drives: PINCTL's mode and inversion, nothing while the bank is not released (R7, R168)
or no gondola serves it (R391), and the boundary-scan cell under EXTEST (R381, R393). In CTM a reading begins at each multiple
of CTMPER on TB17 by driving low for DIS, and the pin is released after it (R170, notes/assumptions/146.md). -/
def State.pinOut (s : State) (n : Nat) : Drive :=
  if ¬ bitAt (s.rd BANKOESTAT.OE) (n / 64) ∨ s.phys (n / 16) = 0x7F then .z
  else if s.secH.jtag = .extest then (if s.secH.scan.getD n false then .high else .low)
  else if s.mode n = 4 then
    (if s.on CTMCTL.EN n ∧ s.fine 17 % us (s.rd CTMMAXT.CTMPER n) < ns (s.rd CTMCTL.DIS n) then .low else .z)
  else
    let inv := s.on PINCTL.INV n
    let d := match s.stage5 n with
      | .z => Drive.z
      | .low => if inv then .high else .low
      | .high => if inv then .low else .high
    match s.rd PINCTL.OMODE n, d with
    | 1, d => d
    | 2, .low => .low
    | 3, .high => .high
    | _, _ => .z

/-- The level after stage 3 is looked at again, and the instant it became 1 kept for the interlock (R191). -/
def State.sync3 (s : State) (n : Nat) : State :=
  let v := s.lvl3 n
  s.modPin n (fun p => if v = p.l3 then p else { p with l3 := v, l3At := if v then s.now else p.l3At })

/-- Both channels of a pair, or the channel alone, are looked at again. -/
def State.syncPair (s : State) (n : Nat) : State :=
  if s.paired n then (s.sync3 n).sync3 (partner n) else s.sync3 n

/-- The level that leaves the delay lines of channel `n` is set; a change from 0 to 1 opens the blanking window (R195). -/
def State.setLvl (s : State) (n : Nat) (v : Bool) : State :=
  (s.modPin n (fun p =>
    { p with lvl := v, onAt := if v && !p.lvl then s.now else p.onAt, blanking := p.blanking || (v && !p.lvl) })).syncPair n

/-! ### Edge requests -/

/-- The result of an edge request (R61, R78). -/
inductive EdgeRes where
  | placed | moved | late | dense | full
  deriving DecidableEq, Repr

/-- A pending edge takes its place in time order (R61). -/
def insertEdge (e : PEdge) : List PEdge → List PEdge
  | [] => [e]
  | x :: xs => if e.at_ < x.at_ then e :: x :: xs else x :: insertEdge e xs

/-- Whether an edge at `at_` would come less than 4 ns from a pending edge or from the last placed one (R61); one that a
timebase at rest holds comes at no instant yet. -/
def State.crowded (s : State) (n at_ : Nat) : Bool :=
  let gap := if s.espan n (ns 4) = 0 then 1 else s.espan n (ns 4)
  let l := (s.ch n).dl
  l.pend.any (fun p => decide (absDiff p.at_ at_ < gap)) ||
    (decide (s.rateOf (s.etb n) ≠ 0 ∨ at_ ≤ s.etbNow n) && l.lastAt.any (fun a => decide (absDiff a (s.toStrobe (s.etb n) at_) < ns 4)))

/-- A refused or dropped edge is counted and reported (R61, R163). -/
def State.refuseEdge (s : State) (n : Nat) (bit : RField) (cause : Nat) : State :=
  ((s.wr bit 1 n).inc EDGESTAT.NREF 1 n).chFault n cause

/-- An edge request at channel `n`, checked for lead (where `lead` asks it), spacing and capacity in this order (R61);
`late` sets LATE for an edge moved under LATEPOL. -/
def State.edgeReq (s : State) (n : Nat) (e : PEdge) (lead : Bool) : State × EdgeRes :=
  let cur := s.etbNow n
  let soon := cur + s.espan n (ns 12)
  let tooLate := lead && (decide (e.at_ < soon) || decide (e.at_ ≤ cur))
  let moved := tooLate && s.on DLCTL.LATEPOL n
  if tooLate && !moved then (s.refuseEdge n EDGESTAT.LATE 1, .late)
  else
    let s := if moved then s.wr EDGESTAT.LATE 1 n else s
    let e := if moved then { e with at_ := soon } else e
    if s.crowded n e.at_ then (s.refuseEdge n EDGESTAT.DENSE 2, .dense)
    else if 8 ≤ (s.ch n).dl.pend.length then (s.refuseEdge n EDGESTAT.FULL 3, .full)
    else (s.modDl n (fun l => { l with pend := insertEdge e l.pend }), if moved then .moved else .placed)

/-- The channel whose edge timebase is `k` holds edges (R50). -/
def State.edgesOn (s : State) (k : Nat) : List Nat :=
  (s.chan.filter (fun c => s.etb c.1 == k && !c.2.dl.pend.isEmpty)).map (·.1)

/-- A forward step to the fine time `v` drops the pending edges at or below it, each as STEPPED (R50, R61). -/
def State.stepEdges (s : State) (k v : Nat) : State :=
  (s.edgesOn k).foldl (fun s n =>
    let gone := ((s.ch n).dl.pend.filter (fun e => decide (e.at_ ≤ v))).length
    let s := s.modDl n (fun l => { l with pend := l.pend.filter (fun e => !decide (e.at_ ≤ v)) })
    (upFrom 0 gone).foldl (fun s _ => s.refuseEdge n EDGESTAT.STEPPED 4) s) s

/-- The level an edge's action leaves. -/
def actLvl (act : Nat) (old : Bool) : Bool := if act = 1 then false else if act = 2 then true else !old

/-- The first pending edge fires when the replica of the edge timebase has reached its time (R53), on a calibrated line alone
(R66); an adaptive turn-on records the dead time it ends (R186). In a channel that shows a tail's passthrough it moves nothing
(R246). -/
def State.fireEdge (s : State) (n : Nat) : State :=
  match (s.ch n).dl.pend with
  | [] => s
  | e :: r =>
    if e.at_ ≤ s.etbNow n ∧ s.rateOf (s.etb n) ≠ 0 ∧ s.on SPINESTAT.CALDONE then
      let s := s.modDl n (fun l => { l with pend := r, lastAt := some (s.whenTb (s.etb n) e.at_) })
      let v := actLvl e.act (s.ch n).pin.lvl
      let s := match e.meas with
        | some off => if n % 2 = 0 then s.wr DTMEAS.HON (satTo 0xFFFF (s.now - off)) n
            else s.wr DTMEAS.LON (satTo 0xFFFF (s.now - off)) (n - 1)
        | none => s
      if (s.ch n).pin.passTail ∧ s.emuOk n then s
      else if e.both then (s.setLvl n v).setLvl (partner n) (!v) else s.setLvl n v
    else s

/-- The later of an instant of the delay lines and the end of the first calibration or the last wake (R66). -/
def State.calMax (s : State) (a : Nat) : Nat := if a < s.calT0 then s.calT0 else a

/-- When the next swap falls due (R62, R66). -/
def State.swapAt (s : State) (n : Nat) : Nat := ((s.ch n).dl.swapDue).getD (s.calT0 + us 250)

/-- A calibration run of the line that is not live ends and the next begins (R62). -/
def State.calRunDone (s : State) (n : Nat) : State :=
  let from_ := s.calMax (s.ch n).dl.runFrom
  if s.on SPINESTAT.CALDONE ∧ from_ + us 40 ≤ s.now then
    s.modDl n (fun l => { l with calAt := some (from_ + us 40), runFrom := from_ + us 40 })
  else s

/-- Age of the live line's calibration in whole µs, saturating (R63, R65). -/
def State.calAge (s : State) (n : Nat) : Nat :=
  if s.on SPINESTAT.CALDONE then satTo 0xFFFFFFFF ((s.now - s.calMax (s.ch n).dl.liveCal) / us 1) else 0

/-- The three conditions of a swap that is due (R62). -/
def State.swapOk (s : State) (n : Nat) : Bool :=
  let l := (s.ch n).dl
  s.on SPINESTAT.CALDONE && decide (s.swapAt n ≤ s.now) && l.pend.isEmpty && l.calAt.isSome
    && l.lastAt.all (fun a => decide (a + ns 4 ≤ s.now))

/-- A due swap: the other line goes live with its last calibration, and this one begins its runs (R62, R63). -/
def State.dlSwap (s : State) (n : Nat) : State :=
  if s.swapOk n then
    let cal := s.calMax ((s.ch n).dl.calAt.getD 0)
    let s := s.modDl n (fun l => { l with liveCal := cal, calAt := none, runFrom := s.now, swapDue := some (s.now + us 250), aged := false })
    (s.wr DLSTAT.LIVE (1 - s.rd DLSTAT.LIVE n) n).inc DLSTAT.SWAPS 1 n
  else s

/-- CALAGE first reads 5,001, and DLSTAT.AGED with it 1: reported once until the next swap (R63). -/
def State.calAged (s : State) (n : Nat) : State :=
  if 5001 ≤ s.calAge n ∧ ¬ (s.ch n).dl.aged then (s.modDl n (fun l => { l with aged := true })).raise 7683 n
  else s

/-- A write of DLCTL.ETB is held until no edge is pending, in both channels of a pair at one instant; the odd channel's
own is ignored (R65, R184). -/
def State.etbWrite (s : State) (n v : Nat) : State :=
  if 17 < v ∨ (s.paired n ∧ n % 2 = 1) then s
  else
    let ns_ := if s.paired n then [n, n + 1] else [n]
    if ns_.all (fun m => (s.ch m).dl.pend.isEmpty) then
      ns_.foldl (fun s m => (s.wr DLCTL.ETB v m).modDl m (fun l => { l with etbHeld := none })) s
    else ns_.foldl (fun s m => s.modDl m (fun l => { l with etbHeld := some v })) s

/-- A held edge timebase takes effect once no edge is pending (R65, R184). -/
def State.etbApply (s : State) (n : Nat) : State :=
  match (s.ch n).dl.etbHeld with
  | some v => if n % 2 = 1 ∧ s.paired n then s.etbWrite (n - 1) v else s.etbWrite n v
  | none => s

/-- A write of DLCTL (R65). -/
def State.dlctlWrite (s : State) (n : Nat) (w : Word) : State :=
  let s := s.wr DLCTL.LATEPOL (DLCTL.LATEPOL.of w) n
  let s := if DLCTL.ETB.of w = s.etb n ∧ (s.ch n).dl.etbHeld.isNone then s else s.etbWrite n (DLCTL.ETB.of w)
  if DLCTL.SWAPNOW.of w = 1 then (if s.now < s.swapAt n then s.modDl n (fun l => { l with swapDue := some s.now }) else s) else s

/-! ### The meanings -/

def execEdgeFire (t n : Nat) (s : State) : Out := s.ran (n < 1024) ((s.advance t).fireEdge n)

def execCalRunDone (t n : Nat) (s : State) : Out := s.ran (n < 1024) ((s.advance t).calRunDone n)

def execDlSwap (t n : Nat) (s : State) : Out := s.ran (n < 1024) ((s.advance t).dlSwap n)

def execDlctlSwapnow (t : Nat) (src : Src) (n : Nat) (val : Word) (s : State) : Out :=
  s.ran (src.ok && decide (n < 1024)) ((s.advance t).authWrite src (DLCTL.WHOLE.adr n 0) (val ||| 1) (·.dlctlWrite n (val ||| 1)))

def execDlctlEtbApply (t n : Nat) (s : State) : Out := s.ran (n < 1024) ((s.advance t).etbApply n)

def execCalAged (t n : Nat) (s : State) : Out := s.ran (n < 1024) ((s.advance t).calAged n)

end Sys2Proof.Machine
end

