-- ==== Sys2Proof/Machine/Channel.lean ====
section
/-! DEFINITION. The counter, the carriers, the shadow registers and the dead-time generator of a channel (chapters 6
and 7): R157 to R163 and R177 to R188. -/
namespace Sys2Proof.Machine
open Reg

/-! ### Units and checks -/

/-- A number of counter units as fine time (R156, R157). -/
def State.units (s : State) (n x : Nat) : Nat := x * 2 ^ s.rd CHCTL.CUNIT n

/-- The dead times and the minimum pulse the active set gives, in 1/64 ns: (DTMODE, DTR, DTF, MINPW). -/
def State.dtSet (s : State) (n dt : Nat) : Nat × Nat × Nat × Nat :=
  let dtr := dt % 65536
  let dtf := dt / 65536
  let m := if s.paired n then s.rd PWMCTL.DTMODE n else 0
  (m, dtr, if m = 3 ∧ dtf < dtr then dtr else dtf, ns (s.rd PWMCTL.MINPW n))

/-- The least period of a set (R187), in 1/64 ns. -/
def State.minPeriod (s : State) (n dt : Nat) : Nat :=
  let (m, dtr, dtf, mp) := s.dtSet n dt
  2 * mp + (if m = 1 then dtr + dtf else if m = 2 then 2 * dtr else if m = 3 then 2 * dtf else 0)

/-- Whether PRD is at least 8 ns (R157, R160). -/
def State.prdOk (s : State) (n prd : Nat) : Bool := decide (ns 8 ≤ s.units n prd)

/-- The check of a set about to become active (R160, R187). -/
def State.setOk (s : State) (n prd dt : Nat) : Bool :=
  let m := s.mode n
  s.prdOk n prd && (!decide (8 ≤ m ∧ m ≤ 11) || decide (s.minPeriod n dt ≤ s.units n prd))

/-- The check of a set at a latch point: the least period of R187 alone. -/
def State.latchOk (s : State) (n prd dt : Nat) : Bool :=
  !decide (8 ≤ s.mode n ∧ s.mode n ≤ 11) || decide (s.minPeriod n dt ≤ s.units n prd)

/-- VAROFF's off-time by the active set, CMPB taken as at least 60 ns (R177). -/
def State.varOff (s : State) (n : Nat) : Nat :=
  let x := s.units n (s.rd ACTCMPB.VALUE n)
  if x < ns 60 then ns 60 else x

/-- The timebase the current period runs in, read now (R158). -/
def State.runNow (s : State) (n : Nat) : Nat := s.fine (s.ch n).run.tb

/-- Strobe time as a movement of the timebase the current period runs in (R411). -/
def State.rspan (s : State) (n d : Nat) : Nat := s.span (s.ch n).run.tb d

/-- An instant of the running period's timebase as one of the edge timebase (R158). -/
def State.toEtb (s : State) (n v : Nat) : Nat :=
  let k := (s.ch n).run.tb
  if k = s.etb n then v
  else
    let d (x : Nat) : Nat := if s.rateOf k = 0 then 0 else x * s.rateOf (s.etb n) / s.rateOf k
    if s.runNow n ≤ v then s.etbNow n + d (v - s.runNow n) else s.etbNow n - d (s.runNow n - v)

/-! ### Events of the counter -/

/-- A counter event of period `k`: it triggers every converter and encoder frame that asks for it (R211, R229), and is issued
only when EVDIV lets it through (R179). -/
def State.cntEvent (s : State) (n kind k detail ts : Nat) : State :=
  let at_ := s.whenTb 0 ts
  let s := (s.sarAnnounce 1 (fun i => s.rd Reg.SARTRIG.TKIND i == kind && s.rd Reg.SARTRIG.TCH i == n) at_).serAnnounce n kind at_
  if k % (s.rd PWMCTL.EVDIV n + 1) = 0 then s.raiseAt (6 * n + kind) detail ts else s

/-- The timestamp of the counter event at fine time `v` of the running period's timebase (R158). -/
def State.evTs (s : State) (n v : Nat) : Nat := s.tsOf (s.ch n).run.tb v

/-! ### Shapes (R177, R188) -/

/-- The changes of R in the period from `p`, with on-time `on`, period `len` and PHASE offset `b` (fine times). Each
entry is an instant and the level of R from it. -/
def shapeOf (mode p len on b : Nat) : List (Nat × Bool) :=
  if on = 0 then [(p, false)]
  else if mode = 8 then (if len ≤ on then [(p, true)] else [(p, true), (p + on, false)])
  else if mode = 9 then
    (if len ≤ on then [(p, true)] else [(p, false), (p + (len - on) / 2, true), (p + (len + on) / 2, false)])
  else if mode = 10 then
    (if len ≤ on then [(p, true)]
     else if b = 0 then [(p, true), (p + on, false)]
     else if b + on < len then [(p, false), (p + b, true), (p + b + on, false)]
     else if b + on = len then [(p, false), (p + b, true)]
     else [(p, true), (p + (b + on - len), false), (p + b, true)])
  else if len ≤ on then [(p, true)] else [(p, true), (p + on, false)]

/-- The on-time a period is given by the minimum pulse rule, and the DROPS and EXTS it counts (R188). -/
def minPulse (ext : Bool) (len on dh dl mp : Nat) : Nat × Nat × Nat :=
  let off := len - on
  if 0 < on ∧ on < mp + dh then
    (if ext then (mp + dh, 0, 1) else (0, 1, 0))
  else if on < len ∧ off < mp + dl then
    (if ext then (len - (mp + dl), 0, 1) else (len, 1, 0))
  else (on, 0, 0)

/-- The same for VAROFF, where it concerns the off-time alone: whether R is 1 for the whole period, the off-time, and the
DROPS and EXTS it counts (R188). -/
def minOff (ext : Bool) (on off dl mp : Nat) : Bool × Nat × Nat × Nat :=
  if on = 0 ∨ mp + dl ≤ off then (false, off, 0, 0)
  else if ext then (false, mp + dl, 0, 1)
  else (true, off, 1, 0)

/-- What the dead time takes from the H and L intervals: (from H, from L) (R188). -/
def State.deadOf (s : State) (n : Nat) : Nat × Nat :=
  let (m, dtr, dtf, _) := s.dtSet n (s.rd ACTDTIME.DTR n + 65536 * s.rd ACTDTIME.DTF n)
  if m = 1 then (dtr, dtf) else if m = 2 then (dtr, dtr)
  else if m = 3 then (s.rd DTMEAS.HON n, s.rd DTMEAS.LON n) else (0, 0)

/-- The period from `p` that the active set gives, with the minimum pulse rule applied (R177, R188). -/
def State.fixShape (s : State) (n p : Nat) : State × NextPer :=
  let m := s.mode n
  let prd := s.rd ACTPRD.VALUE n
  let a := s.rd ACTCMPA.VALUE n
  let len := s.units n prd
  let on0 := s.units n (if m ≤ 10 ∧ prd < a then prd else a)
  let (dh, dl) := s.deadOf n
  let mp := ns (s.rd PWMCTL.MINPW n)
  let ext := s.on PWMCTL.MINPOL n
  let count (s : State) (dr ex : Nat) : State :=
    let s := if dr = 0 then s else s.cnt PWMSTAT.DROPS 1 n
    if ex = 0 then s else s.cnt PWMSTAT.EXTS 1 n
  if ¬ carrierMode m then (s, ⟨p + len, [], 0⟩)
  else if m = 12 then
    let (one, off, dr, ex) := minOff ext on0 (s.varOff n) dl mp
    (count s dr ex, ⟨p + on0 + off, if one then [(p, true)] else shapeOf m p (on0 + off) on0 0, off⟩)
  else
    let (on, dr, ex) := minPulse ext len on0 dh dl mp
    let b := if prd = 0 then 0 else s.units n (s.rd ACTCMPB.VALUE n % prd)
    (count s dr ex, ⟨p + len, shapeOf m p len on b, 0⟩)

/-! ### The dead-time generator (R185) -/

/-- The edges the dead-time generator places for a change of R to `v` at fine time `a`; `first` for the start of a
run. In ADAPTIVE only the turn-off is known. Dead times are strobe time from the change (R411), and a halved instant is rounded
down (R177). -/
def State.dtEdges (s : State) (n a : Nat) (v first : Bool) : List Plan :=
  let (m0, dtr, dtf, _) := s.dtSet n (s.rd ACTDTIME.DTR n + 65536 * s.rd ACTDTIME.DTF n)
  let var := s.mode n == 11 || s.mode n == 12
  let m := if m0 = 2 ∧ var then 1 else m0
  let dtf := if m0 = 2 ∧ var then dtr else dtf
  if ¬ s.paired n then [⟨a, 0, if v then 2 else 1, false, false, none⟩]
  else if m = 0 then [⟨a, 0, if v then 2 else 1, false, true, none⟩]
  else
    let lead := if m = 2 ∧ ¬ first then (dtr + 1) / 2 else 0
    let lag := if m = 1 then (if v then dtr else dtf) else if first then dtr else dtr / 2
    let off : Plan := ⟨a, -(lead : Int), 1, v, false, none⟩
    if m = 3 then [off] else [off, ⟨a, lag, 2, !v, false, none⟩]

/-- The fine time at which a planned edge comes, as the running period's timebase moves now (R411). -/
def State.planAt (s : State) (n : Nat) (p : Plan) : Nat :=
  let tb := (s.ch n).run.tb
  if p.lag = 0 then p.ref
  else if p.lag < 0 then p.ref - s.rspan n p.lag.natAbs
  else if p.ref ≤ s.runNow n then s.fineTo tb (s.whenTb tb p.ref + p.lag.toNat)
  else p.ref + s.rspan n p.lag.toNat

/-- The changes of R in a period, from the level `r` on. -/
def changes : Bool → List (Nat × Bool) → List (Nat × Bool)
  | _, [] => []
  | r, (a, v) :: rest => if v = r then changes r rest else (a, v) :: changes v rest

/-- The edges for changes of R; `first` where the head one begins a run. -/
def State.planCh (s : State) (n : Nat) : Bool → List (Nat × Bool) → List Plan
  | _, [] => []
  | first, (a, v) :: rest => s.dtEdges n a v first ++ State.planCh s n false rest

/-- The edges planned for a list of changes of R, from the level `r` on: only changes count. -/
def State.planShape (s : State) (n : Nat) (r : Bool) (l : List (Nat × Bool)) : List Plan := s.planCh n false (changes r l)

/-- A turn-on that would not come before the same switch's next turn-off is not placed (R185). -/
def State.dropLate (s : State) (n : Nat) : List Plan → List Plan
  | [] => []
  | p :: ps =>
    if p.act = 2 ∧ ps.any (fun q => q.act == 1 && q.low == p.low && decide (s.planAt n q ≤ s.planAt n p)) then State.dropLate s n ps
    else p :: State.dropLate s n ps

/-- The level R holds after a list of changes. -/
def lastR : Bool → List (Nat × Bool) → Bool
  | r, [] => r
  | _, (_, v) :: rest => lastR v rest

/-- The edges of the carrier period from `p` to `pend`, R at `r` before it. Changes that a late start skips each count
once, and at its limit the level R then calls for is placed where it differs from the level held (R160). -/
def State.planPer (s : State) (n p pend : Nat) (first r : Bool) (shape : List (Nat × Bool)) : State × List Plan :=
  let lim := (s.ch n).run.skip
  let chs := changes r shape
  if lim ≤ p then (s, s.dropLate n (s.planCh n first chs))
  else
    let gone := (chs.filter (fun c => decide (c.1 < lim))).length
    let s := if gone = 0 then s else s.cnt CHSTAT.MISSED gone n
    let rest := chs.filter (fun c => decide (lim < c.1))
    let lv := lastR r (shape.filter (fun c => decide (c.1 ≤ lim)))
    let same := (s.ch n).pin.lvl == lv && (!s.paired n || (s.ch (n + 1)).pin.lvl == !lv)
    if pend ≤ lim then (s, [])
    else if same ∧ ¬ chs.any (fun c => c.1 == lim) then (s, s.dropLate n (s.planCh n false rest))
    else
      (if s.paired n ∧ s.rd PWMCTL.DTMODE n = 3 then
        s.modRun n (fun x => { x with wait := some ⟨!lv, s.toStrobe x.tb lim⟩ }) else s,
       s.dropLate n (s.planCh n true ((lim, lv) :: rest)))

/-! ### Actions of the plain counter modes (R157, R158) -/

/-- The actions of the period from `p`: coinciding ones make a single edge, CMPB before CMPA before ZERO. -/
def State.actions (s : State) (n p : Nat) : List Plan :=
  if s.mode n = 3 ∨ s.mode n = 4 then []
  else
    let prd := s.rd ACTPRD.VALUE n
    let a := s.rd ACTCMPA.VALUE n
    let b := s.rd ACTCMPB.VALUE n
    let z := s.rd CHCTL.ACTZ n
    let fa := if a < prd then s.rd CHCTL.ACTA n else 0
    let fb := if b < prd then s.rd CHCTL.ACTB n else 0
    let za := if z ≠ 0 ∧ ¬ (a = 0 ∧ fa ≠ 0) ∧ ¬ (b = 0 ∧ fb ≠ 0) then [(p, z)] else []
    let aa := if fa ≠ 0 ∧ ¬ (a = b ∧ fb ≠ 0) then [(p + s.units n a, fa)] else []
    let ba := if fb ≠ 0 then [(p + s.units n b, fb)] else []
    (za ++ (if a ≤ b then aa ++ ba else ba ++ aa)).map (fun x => ⟨x.1, 0, x.2, false, false, none⟩)

/-- The actions of the period from `p` that a late start does not skip; skipped ones are counted (R160). -/
def State.planActs (s : State) (n p : Nat) : State × List Plan :=
  let lim := (s.ch n).run.skip
  let l := s.actions n p
  let gone := (l.filter (fun x => decide (x.ref < lim))).length
  (if gone = 0 then s else s.cnt CHSTAT.MISSED gone n, l.filter (fun x => !decide (x.ref < lim)))

/-! ### Shadow loads and latch points (R181 to R183) -/

/-- The active set takes the shadow values. -/
def State.loadAll (s : State) (n : Nat) : State :=
  s.wrs n [(ACTPRD.VALUE, s.rd PRD.VALUE n), (ACTCMPA.VALUE, s.rd CMPA.VALUE n), (ACTCMPB.VALUE, s.rd CMPB.VALUE n),
    (ACTDTIME.DTR, s.rd DTIME.DTR n), (ACTDTIME.DTF, s.rd DTIME.DTF n)]

def State.dtWord (s : State) (n : Nat) : Nat := s.rd DTIME.DTR n + 65536 * s.rd DTIME.DTF n

/-- Whether HOLD, or a tail's grace, holds the loads of the channel (R182, R240). -/
def State.loadHeld (s : State) (n : Nat) : Bool := s.on PWMCTL.HOLD n || !(s.gr (n / 8)).graces.isEmpty

/-- Whether the channel is held at a latch point (R182). -/
def State.held (s : State) (n : Nat) : Bool := s.loadHeld n || (s.on PWMCTL.LAG n && !(s.ch n).run.gate)

/-- Whether a latch point loads (R182, R187). -/
def State.latchDue (s : State) (n : Nat) (mid : Bool) : Bool :=
  s.on PWMSTAT.SHPEND n && !s.held n && s.latchOk n (if mid then s.rd ACTPRD.VALUE n else s.rd PRD.VALUE n) (s.dtWord n)

/-- The load at a latch point (R182, R183, R187): pending values become active, or are discarded with BADLOAD; a gate
that is not held open closes. `mid` loads CMPA, CMPB and DTIME only. -/
def State.latchLoad (s : State) (n : Nat) (mid : Bool) : State :=
  let s' := if ¬ s.on PWMSTAT.SHPEND n ∨ s.held n then s
    else
      if ¬ s.latchDue n mid then ((s.wr PWMSTAT.SHPEND 0 n).modRun n (fun r => { r with prdW := false })).chFault n 0x23
      else
        let l := s.loadAll n
        let l := if mid then l.wr ACTPRD.VALUE (s.rd ACTPRD.VALUE n) n else l
        let left := mid && (s.ch n).run.prdW
        ((l.wr PWMSTAT.SHPEND (b2n left) n).inc PWMSTAT.LOADS 1 n).modRun n (fun r => { r with prdW := left })
  if s.loadHeld n then s' else s'.modRun n (fun r => { r with gate := false })

/-- The strobe lead of a latch point before its boundary, as fine time (R182). -/
def State.latchLead (s : State) (n : Nat) : Nat :=
  let (m, dtr, _, _) := s.dtSet n (s.rd ACTDTIME.DTR n + 65536 * s.rd ACTDTIME.DTF n)
  s.rspan n (ns 40) + (if m = 2 ∧ (s.mode n = 8 ∨ s.mode n = 9 ∨ s.mode n = 10) then s.rspan n ((dtr + 1) / 2) else 0)

/-- The latch point of the coming boundary: pending values load and the next period's shape is fixed, with its edges
planned (R182, R188). The last period of a run has none after it. -/
def State.latchNext (s : State) (n : Nat) : State :=
  let s := s.latchLoad n false
  let r := (s.ch n).run
  if r.stop ∨ (s.mode n = 2 ∧ s.rd OSSTAT.OSCNT n ≤ 1) then s.modRun n (fun r => { r with nxt := some ⟨r.pend, [], 0⟩ })
  else
    let (s, nx) := s.fixShape n r.pend
    let (s, plan) := if carrierMode (s.mode n) then s.planPer n r.pend nx.pend false (lastR r.r r.shape) nx.shape else s.planActs n r.pend
    s.modRun n (fun r => { r with nxt := some nx, plan := if s.paired n then s.dropLate n (r.plan ++ plan) else r.plan ++ plan })

/-- The mid latch point of CENTRE: the values it loads act from the mid-point (R182). -/
def State.latchMid (s : State) (n : Nat) : State :=
  if ¬ s.latchDue n true then (s.latchLoad n true).modRun n (fun r => { r with midDone := true }) else
  let s := s.latchLoad n true
  let r := (s.ch n).run
  let mid := r.pk + (r.pend - r.pk) / 2
  let risen := r.r || r.shape.any (fun c => c.2 && decide (c.1 ≤ mid))
  let fall := r.pk + (s.units n (s.rd ACTPRD.VALUE n) + s.units n (s.rd ACTCMPA.VALUE n)) / 2
  let fall := if fall < mid then mid else fall
  let keep := r.shape.filter (fun c => decide (c.1 ≤ mid))
  let shape := if ¬ risen then [] else if fall < r.pend then keep ++ [(fall, false)] else keep
  let old := s.planShape n r.r r.shape
  let new := s.planShape n r.r shape
  s.modRun n (fun r => { r with
      shape := shape, midDone := true,
      plan := (r.plan.filter (fun p => !old.contains p)) ++ (new.filter (fun p => r.plan.contains p || !old.contains p)) })

/-- The instants of SHADOW_LATCH_POINT (R182): the mid latch point first, then the one before the boundary. -/
def State.latchPoint (s : State) (n : Nat) : State :=
  if s.chSt n ≠ 2 ∨ s.leader n ≠ n then s
  else
    let r := (s.ch n).run
    let lead := s.latchLead n
    let mid := r.pk + (r.pend - r.pk) / 2
    if s.mode n = 9 ∧ s.on PWMCTL.LDMID n ∧ ¬ r.midDone ∧ mid ≤ s.runNow n + lead ∧ r.nxt.isNone ∧
        s.runNow n + lead < r.pend then s.latchMid n
    else if r.nxt.isNone ∧ r.pend ≤ s.runNow n + lead then s.latchNext n
    else s

/-- A write to a shadowed register (R159, R181): at once where the channel is stopped, else pending. -/
def State.shadowWrite (s : State) (n : Nat) (f act : RField) (v : Nat) : State :=
  let s' := s.wr f v n
  if s.stopped n then s'.wr act v n
  else if s.leader n ≠ n then s'
  else
    let s' := s'.wr PWMSTAT.SHPEND 1 n
    if f = PRD.VALUE then s'.modRun n (fun r => { r with prdW := true }) else s'

/-! ### Starting (R160, R161) -/

/-- The first whole nanosecond at or after a fine time. -/
def ceilNs (v : Nat) : Nat := (v + 63) / 64 * 64

/-- GO (R160): a start 100 ns after arrival, refused with BADPRD, ignored in OFF, in CTM and while running. -/
def State.chGo (s : State) (n : Nat) : State :=
  let n := s.leader n
  if s.mode n = 0 ∨ s.mode n = 4 ∨ ¬ s.stopped n then s
  else if ¬ s.prdOk n (s.rd PRD.VALUE n) then s.chFault n 9
  else
    let d := s.etbNow n
    let st : Start := ⟨ceilNs (d + s.espan n (ns 100)), some d, false, s.chSt n, false, false, none⟩
    (s.modRun n (fun r => { r with start := some st })).wr CHSTAT.STATE 4 n

/-- ARM (R156): a stopped or done channel with a trigger source waits for its trigger. -/
def State.chArm (s : State) (n : Nat) : State :=
  let n := s.leader n
  let st := s.chSt n
  if s.mode n = 0 ∨ s.mode n = 4 ∨ ¬ (st = 0 ∨ st = 3) ∨ s.rd TRIGCTL.SRC n = 0 then s
  else if ¬ s.prdOk n (s.rd PRD.VALUE n) then s.chFault n 9
  else s.wr CHSTAT.STATE 1 n

/-- Whether a flying start holds a channel of group `j` (R242, R243). -/
def State.flyHeld (s : State) (j : Nat) : Bool :=
  (upFrom (8 * j) 8).any (fun n => (s.ch n).run.start.any (·.held))

/-- A flying start's hold of group `j`, and its brake levels, end with the last held start (R242 to R244). -/
def State.brakeLook (s : State) (j : Nat) : State :=
  if s.flyHeld j then s
  else
    let s := (upFrom 0 128).foldl (fun s k => if s.rd FSCTL.GRP k = j ∧ s.on FSSTAT.STATE k then s.wr FSSTAT.STATE 0 k else s) s
    if (s.gr j).brake then (upFrom (8 * j) 8).foldl (fun s n => s.sync3 n) (s.modGr j (fun g => { g with brake := false })) else s

/-- Edges of the counter or carrier that lie at or after the fine time `v` are cancelled (R162). -/
def State.cancelCounter (s : State) (n v : Nat) : State :=
  let s := s.modDl n (fun l => { l with pend := l.pend.filter (fun e => e.org != .counter || decide (e.at_ ≤ v)) })
  s.modRun n (fun r => { r with plan := r.plan.filter (fun p => decide (s.planAt n p < v)) })

/-- Edges of the counter or carrier at or after the fine time `v` of the running period's timebase are cancelled, in both
channels of a pair (R161, R162). -/
def State.cancelFrom (s : State) (n v : Nat) : State :=
  let w := s.toEtb n v
  let cut (s : State) (m : Nat) : State :=
    s.modDl m (fun l => { l with pend := l.pend.filter (fun e => e.org != .counter || decide (e.at_ < w)) })
  if s.paired n then cut (cut s n) (n + 1) else cut s n

/-- Nothing of the run is left to come; a stop that waits stays for a restart (R162). -/
def State.clearRun (s : State) (n : Nat) : State :=
  s.modRun n (fun r => { r with nxt := none, shape := [], plan := [], wait := none, term := false, midDone := false, slot := none })

/-- Whether a waiting order's instant has come (R199). -/
def State.fDue (s : State) (w : FWait) : Bool := if w.onTb0 then decide (w.due ≤ s.fine 0) else decide (w.due ≤ s.now)

/-- What ends at a period start and, at once, in a stopped channel: a cleared trip's hold, a safe state left, a RELEASE and a
force order that waited (R196, R199, R200). -/
def State.letGo (s : State) (n : Nat) : State :=
  let p := (s.ch n).pin
  let s := if p.safeLeave then s.wr PWMSTAT.SAFE 0 n else s
  let s := match p.fwait with
    | some w => if (w.period ∨ w.ord = 1) ∧ s.fDue w then
        (s.modPin n (fun p => { p with fwait := none })).wr FORCEST.CUR (if w.ord = 1 then 0 else w.ord) n else s
    | none => s
  s.modPin n (fun p => { p with clrWait := false, safeLeave := false })

/-- What ends at a period start: cycle-by-cycle trips, a termination (R190, R195), and what waits for one. -/
def State.periodStart1 (s : State) (n : Nat) : State :=
  let s := if s.on TRIPSTAT.CBCACT n then s.wr TRIPSTAT.CBCACT 0 n else s
  (s.modPin n (fun p => { p with hold0 := false })).letGo n

/-- A step of the pin stage reaches both channels of a pair. -/
def State.bothPins (s : State) (n : Nat) (f : State → Nat → State) : State :=
  let s := f s n
  (if s.paired n then f s (n + 1) else s).syncPair n

/-- The period start reaches both channels of a pair. -/
def State.periodStart (s : State) (n : Nat) : State := s.bothPins n State.periodStart1

/-- The run leaves RUNNING for a state (R161, R162): the channel counts as stopped, and what waited for a period start alone
is let go. -/
def State.endRun (s : State) (n st : Nat) : State :=
  (((s.clearRun n).modRun n (fun r => { r with stop := false, stopNow := none })).wr CHSTAT.STATE st n).bothPins n State.letGo

/-- 40 ns after STOPNOW arrived the run ends without PERIOD and later counter edges are cancelled (R162). -/
def State.stopNowEnd (s : State) (n : Nat) : State :=
  match (s.ch n).run.stopNow with
  | some a =>
    if a ≤ s.now ∧ s.chSt n = 2 then
      let s := s.cancelCounter n (s.etbNow n)
      let s := if s.paired n then s.cancelCounter (n + 1) (s.etbNow n) else s
      s.endRun n 0
    else s
  | none => s

/-- An ARMED or START_PENDING channel is STOPPED at once, its waiting trigger discarded (R162). -/
def State.dropStart (s : State) (n : Nat) : State :=
  (((s.modRun n (fun r => { r with start := none, trig := none })).wr CHSTAT.STATE 0 n).bothPins n State.letGo).brakeLook (n / 8)

/-- STOP (R162): the run ends with its period. -/
def State.chStop (s : State) (n : Nat) : State :=
  let n := s.leader n
  let st := s.chSt n
  if st = 1 ∨ st = 4 then s.dropStart n
  else if st = 2 then s.modRun n (fun r => { r with stop := true })
  else s

/-- STOPNOW (R162): the run ends 40 ns after arrival. -/
def State.chStopNow (s : State) (n : Nat) : State :=
  let n := s.leader n
  let st := s.chSt n
  if st = 1 ∨ st = 4 then s.dropStart n
  else if st = 2 then s.modRun n (fun r => { r with stopNow := some (r.stopNow.getD (s.now + ns 40)) })
  else s

/-- A trigger that can start nothing is counted and reported (R161). -/
def State.trigMiss (s : State) (n : Nat) : State := (s.cnt OSSTAT.OSMISS 1 n).chFault n 0xA

/-- A trigger detected for channel `n` with its instant in the edge timebase (R160, R161). -/
def State.trigger (s : State) (n inst : Nat) : State :=
  if s.mode n = 0 ∨ s.mode n = 4 then s
  else if ¬ s.prdOk n (s.rd PRD.VALUE n) then s.chFault n 9
  else if (s.ch n).run.trig.isSome then s.trigMiss n
  else
    let st : Start := ⟨inst + ns (s.rd TRIGDLY.DELAY n), some (s.etbNow n), true, s.chSt n, false, false, none⟩
    let s := s.modRun n (fun r => { r with trig := some st })
    if s.chSt n = 1 then s.wr CHSTAT.STATE 4 n else s

/-- The local channel that triggers channel `n` (R160). -/
def State.trigCh (s : State) (n : Nat) : Nat :=
  if s.rd TRIGCTL.SRC n = 1 then n else n / 16 * 16 + s.rd TRIGCTL.TRIGCH n

/-- Whether a release lets the channel start: no mode that does not run, PRD in order, not held by a flying start, and not
running unless it is to be restarted (R60, R160, R242). -/
def State.releasable (s : State) (r : Release) (n : Nat) : Bool :=
  let x := s.chSt n
  s.mode n != 0 && s.mode n != 4 && (x != 2 && x != 4 || r.restart) && s.prdOk n (s.rd PRD.VALUE n) && !(s.ch n).run.start.any (·.held)

/-- Where a release is to start the channel, as a fine time of its edge timebase (R59, R60). -/
def State.releaseAhead (s : State) (n : Nat) : Option Nat :=
  match s.release with
  | some r => if bitAt r.mask n ∧ s.bridlePass (n / 8) r.src ∧ s.releasable r n then some (s.fineTo (s.etb n) (s.toStrobe 0 (64 * r.at_))) else none
  | none => none

/-- The period starts of channel `m` to come, as fine times of its edge timebase: the boundary of a run that goes on, a
start that waits, and a release (R157, R160, R161). The odd channel of a pair has none (R184). -/
def State.zeroAhead (s : State) (m : Nat) : List Nat :=
  if s.leader m ≠ m then [] else
  let r := (s.ch m).run
  let last := r.stop || r.stopNow.isSome || (s.mode m == 2 && decide (s.rd OSSTAT.OSCNT m ≤ 1))
  let starts := (r.start.toList.filter (fun o => !o.held)).map (·.s)
  let trigs := r.trig.toList.map (·.s)
  (s.releaseAhead m).toList ++
    (if s.chSt m = 2 then (if last then [] else [s.toEtb m r.pend]) ++ (if s.on OSCTL.RETRIG m ∨ last ∧ s.on OSCTL.REARM m then trigs else [])
     else if s.chSt m = 4 then starts ++ trigs
     else [])

/-- TRIGGER_DETECT: an accepted capture not yet used, or a ZERO 16 ns before the source's period start (R160). -/
def State.triggerDetect (s : State) (n : Nat) : State :=
  let src := s.rd TRIGCTL.SRC n
  if src = 0 ∨ s.leader n ≠ n then s
  else if src < 3 then
    match (s.ch n).run.capTok with
    | some a => (s.modRun n (fun r => { r with capTok := none })).trigger n (s.fineAt (s.etb n) a)
    | none => s
  else
    let m := s.trigCh n
    let cur := s.etbNow m
    match (s.zeroAhead m).find? (fun p => decide (p ≤ cur + s.espan m (ns 16) ∧ cur ≤ p + s.espan m (us 1)) && (s.ch n).run.zeroTok != p + 1) with
    | none => s
    | some p =>
      let rate := s.rateOf (s.etb m)
      let d (x : Nat) : Nat := s.espan n (if rate = 0 then 0 else x * 2 ^ 30 / rate)
      (s.modRun n (fun r => { r with zeroTok := p + 1 })).trigger n
        (if cur ≤ p then s.etbNow n + d (p - cur) else s.etbNow n - d (cur - p))

/-- ZERO of period `k` at its start (R157, R178). -/
def State.zeroEvent (s : State) (n : Nat) : State :=
  let r := (s.ch n).run
  s.cntEvent n 0 r.k (s.rd OSSTAT.OSCNT n) (s.evTs n r.pk)

/-- A period begins at the fine time `p` of the timebase the last one ran in, its number `k`: PSTART, the events still to
come, and the changes of R. Where the edge timebase has changed, the period runs in the new one from that same instant
(R157, R158). -/
def State.beginPeriod (s : State) (n k p : Nat) (nx : NextPer) : State :=
  let old := (s.ch n).run.tb
  let tb := s.etb n
  let p' := if tb = old then p else s.fineAt tb (s.whenTb old p)
  let mv (v : Nat) : Nat := p' + v - p
  let s := s.modRun n (fun r => { r with
    tb := tb, k := k, pk := p', pAt := s.whenTb old p, pend := mv nx.pend, shape := nx.shape.map (fun c => (mv c.1, c.2)), off := nx.off,
    offA := s.units n (s.rd ACTCMPA.VALUE n), offB := s.units n (s.rd ACTCMPB.VALUE n), offP := s.units n (s.rd ACTPRD.VALUE n),
    plan := r.plan.map (fun x => { x with ref := mv x.ref }), aDone := false, bDone := false, nxt := none, midDone := false, term := false })
  let s := s.wr64 PSTART_LO.VALUE PSTART_HI.VALUE p' n
  s.zeroEvent n

/-! ### The switching-node sense (R186, R193) -/

/-- Whether the source of trip line `i` of group `j` is at the line's active level, its filter passed (R193). -/
def State.lineSrc (s : State) (j i : Nat) : Bool :=
  let pol := s.on TLCFG.POL j i
  match s.rd TLCFG.TYPE j i with
  | 1 => s.on KSTAT.OUT (s.rd TLCFG.COMP j i) != pol
  | 2 =>
    let c := (s.ch (j / 2 * 16 + s.rd TLCFG.PINCH j i)).cap
    (c.pin != pol) && decide (c.runAt + ns (s.rd TLCFG.TFILT j i) ≤ s.now)
  | _ => false

/-- The level of the switching-node sense: node high (R186). `none` where no sense is configured. -/
def State.nodeHigh (s : State) (n : Nat) : Option Bool :=
  let inv := s.on ADTCTL.SNSPOL n
  match s.rd ADTCTL.SNSSRC n with
  | 1 => some ((s.ch (n / 16 * 16 + s.rd ADTCTL.SNSCH n)).cap.pin != inv)
  | 2 => some (s.lineSrc (n / 8) (s.rd ADTCTL.SNSL n) != inv)
  | _ => none

/-- The strobe instant since when the sense shows its level: for a pin the start of a run that has held for 4 ns, for a trip
line now (R186). -/
def State.nodeAt (s : State) (n : Nat) : Option Nat :=
  if s.rd ADTCTL.SNSSRC n = 1 then
    let a := (s.ch (n / 16 * 16 + s.rd ADTCTL.SNSCH n)).cap.runAt
    if a + ns 4 ≤ s.now then some a else none
  else some s.now

/-- Whether the node shows the far rail for the turn-on that waits: high before H, low before L (R186). -/
def State.atFarRail (s : State) (n : Nat) (low : Bool) : Bool := s.nodeHigh n == some (!low)

/-- An adaptive turn-on is placed at the strobe instant `at_`, or suppressed with DROPS where it leaves less than MINPW
before the switch's committed turn-off (R186, R188). -/
def State.turnOn (s : State) (n : Nat) (w : DtWait) (at_ : Nat) : State :=
  let s := s.modRun n (fun r => { r with wait := none })
  let f := s.fineTo (s.ch n).run.tb at_
  let r := (s.ch n).run
  let off := (r.shape ++ (r.nxt.elim [] (·.shape))).find? (fun c => c.2 == w.low)
  if off.any (fun c => decide (c.1 < f + s.rspan n (ns (s.rd PWMCTL.MINPW n)))) then s.cnt PWMSTAT.DROPS 1 n
  else s.modRun n (fun r => { r with plan := r.plan ++ [⟨s.runNow n, (at_ : Int) - s.now, 2, w.low, false, some w.off⟩] })

/-- The adaptive turn-on for a sense at the strobe instant `a` (R186). -/
def State.senseOn (s : State) (n : Nat) (w : DtWait) (a : Nat) : State :=
  let (_, dtr, dtf, _) := s.dtSet n (s.rd ACTDTIME.DTR n + 65536 * s.rd ACTDTIME.DTF n)
  let x := a + ns (s.rd ADTCTL.GUARD n)
  let x := if x < w.off + dtr then w.off + dtr else x
  if w.off + dtf ≤ x then s else s.turnOn n w x

/-- SWITCH_NODE_SENSE: the sense shows the far rail after a turn-off (R186). -/
def State.nodeSense (s : State) (n : Nat) : State :=
  match (s.ch n).run.wait, s.nodeAt n with
  | some w, some a => if s.atFarRail n w.low then s.senseOn n w (if a < w.off then w.off else a) else s
  | _, _ => s

/-- DTMAX_EXPIRY: a turn-on waits no longer than DTMAX after the turn-off (R186). -/
def State.dtMax (s : State) (n : Nat) : State :=
  let (_, _, dtf, _) := s.dtSet n (s.rd ACTDTIME.DTR n + 65536 * s.rd ACTDTIME.DTF n)
  match (s.ch n).run.wait with
  | some w => if w.off + dtf ≤ s.now then (s.turnOn n w s.now).cnt DTMAXCNT.COUNT 1 n else s
  | none => s

/-- A change of R at its instant `a`: its event, and in ADAPTIVE the wait for the sense after the turn-off (R178,
R186). `k` is the period the change belongs to. A fall at the start of a run is no fall of R, and a change that a late
start skips moves no switch (R160). -/
def State.refEvent (s : State) (n a k : Nat) (v : Bool) : State :=
  let m := s.mode n
  let r := (s.ch n).run
  let kind := if ¬ v ∧ r.k = 0 ∧ a = r.pk then none
    else if m = 9 ∨ m = 10 then (if v then some 2 else some 3) else if v then none else some 2
  let s := match kind with
    | some x => s.cntEvent n x k (s.rd OSSTAT.OSCNT n) (s.evTs n a)
    | none => s
  if s.paired n ∧ s.rd PWMCTL.DTMODE n = 3 ∧ ¬ a < r.skip then
    let w : DtWait := ⟨!v, s.whenTb r.tb a⟩
    let s := s.modRun n (fun r => { r with wait := some w })
    if s.atFarRail n w.low ∧ (s.nodeAt n).isSome then s.senseOn n w w.off else s
  else s

/-- A run starts at S with the values the shadow holds (R160, R161, R181, R185, R188); `st` holds S and the detection instant,
and `retrig` tells a restart of a running channel. A carrier begins as though R had just changed at S. The edges of the first
16 ns are committed at S (R158; DESIGN CHOICE, notes/assumptions/145.md). -/
def State.startRun (s : State) (n : Nat) (st : Start) (retrig : Bool) : State :=
  if ¬ s.setOk n (s.rd PRD.VALUE n) (s.dtWord n) then
    let s := s.chFault n 9
    if retrig then s else (s.modRun n (fun r => { r with start := none })).wr CHSTAT.STATE st.prev n
  else
    let s := ((s.loadAll n).wr PWMSTAT.SHPEND 0 n).modRun n (fun r => { r with prdW := false })
    let lim := st.d.elim 0 (· + s.espan n (ns 40))
    let late := st.s < lim
    let s := if retrig then s.cancelCounter n (if st.s < lim then lim else st.s) else s
    let s := if retrig ∧ s.paired n then s.cancelCounter (n + 1) (if st.s < lim then lim else st.s) else s
    let keep := if retrig then (s.ch n).run.plan else []
    let s := ((s.clearRun n).wr CHSTAT.STATE 2 n).modRun n (fun r => { r with start := none, tb := s.etb n, slot := st.slot })
    let s := s.periodStart n
    let s := if retrig then s else s.setLvl n (s.on PINCTL.INIT n)
    let s := if retrig ∨ ¬ s.paired n then s else s.setLvl (n + 1) (s.on PINCTL.INIT (n + 1))
    let s := if s.mode n = 2 then s.wr OSSTAT.OSCNT (s.rd OSCTL.OSN n) n else s
    let (s, nx) := s.fixShape n st.s
    let r0 := match nx.shape with
      | (_, v) :: _ => v
      | [] => false
    let s := s.modRun n (fun r => { r with r := r0, wait := none, skip := if late then lim else 0 })
    let s := s.beginPeriod n 0 st.s nx
    let s := s.modRun n (fun r => { r with shape := nx.shape.drop 1 })
    let before := if s.paired n then !r0 else (s.ch n).pin.lvl
    let car := carrierMode (s.mode n)
    let (s, plan) := if car then s.planPer n st.s nx.pend true before nx.shape else s.planActs n st.s
    let plan := if car then plan.map (fun p => if s.planAt n p < st.s then { p with ref := st.s, lag := 0 } else p) else plan
    let s := s.modRun n (fun r => { r with plan := keep ++ plan })
    let s := if car then s.refEvent n st.s 0 r0 else s
    if late then (s.wr CHSTAT.STARTLATE 1 n).chFault n 8 else s

/-- Whether a start that is due begins a run, and not as a restart: a trigger does so in an ARMED channel alone (R161). -/
def State.starts (s : State) (n : Nat) (trig : Bool) : Bool :=
  let x := s.chSt n
  if trig then x == 1 || (x == 4 && (s.ch n).run.start.isNone) else x != 2

/-- At S: a start begins the run; a trigger acts by the state the channel then has (R160, R161). A release restarts a channel
that runs (R60). -/
def State.runGo (s : State) (n : Nat) (st : Start) (trig : Bool) : State :=
  if ¬ trig then s.startRun n st (s.chSt n = 2)
  else
    let go := s.starts n true
    let s := s.modRun n (fun r => { r with trig := none })
    if go then s.startRun n { st with prev := 1 } false
    else if s.chSt n = 2 ∧ s.on OSCTL.RETRIG n then s.startRun n st true
    else s.trigMiss n

/-! ### The running counter -/

/-- P_(k+1) (R157, R161, R162, R178): PERIOD of the period that ends; then the run ends, or the next period begins
with its ZERO. -/
def State.boundary (s : State) (n : Nat) : State :=
  let r := (s.ch n).run
  if s.leader n ≠ n ∨ s.chSt n ≠ 2 ∨ s.runNow n < r.pend then s
  else
    let s := if r.nxt.isNone ∧ ¬ r.stop then s.latchNext n else s
    let os := s.mode n = 2
    let s := if os then s.wr OSSTAT.OSCNT (s.rd OSSTAT.OSCNT n - 1) n else s
    let s := s.cntEvent n 1 r.k (s.rd OSSTAT.OSCNT n) (s.evTs n r.pend)
    if r.stop then (s.cancelFrom n r.pend).endRun n 0
    else if os ∧ s.rd OSSTAT.OSCNT n = 0 then (s.cancelFrom n r.pend).endRun n (if s.on OSCTL.REARM n then 1 else 3)
    else
      let s := s.periodStart n
      match (s.ch n).run.nxt with
      | some nx => s.beginPeriod n (r.k + 1) r.pend nx
      | none => s

/-- CMP_A of a mode that is no carrier (R157). -/
def State.cmpA (s : State) (n : Nat) : State :=
  let r := (s.ch n).run
  let at_ := r.pk + r.offA
  if s.chSt n = 2 ∧ ¬ carrierMode (s.mode n) ∧ s.leader n = n ∧ ¬ r.aDone ∧ r.offA < r.offP ∧ at_ ≤ s.runNow n then
    (s.modRun n (fun r => { r with aDone := true })).cntEvent n 2 r.k (s.rd OSSTAT.OSCNT n) (s.evTs n at_)
  else s

/-- CMP_B of a mode that is no carrier, and of EDGE (R157, R178). -/
def State.cmpB (s : State) (n : Nat) : State :=
  let r := (s.ch n).run
  let at_ := r.pk + r.offB
  if s.chSt n = 2 ∧ (¬ carrierMode (s.mode n) ∨ s.mode n = 8) ∧ s.leader n = n ∧ ¬ r.bDone ∧ r.offB < r.offP ∧
      at_ ≤ s.runNow n then
    (s.modRun n (fun r => { r with bDone := true })).cntEvent n 3 r.k (s.rd OSSTAT.OSCNT n) (s.evTs n at_)
  else s

/-- The first planned edge whose instant comes within 16 ns is committed to the delay line of its pin (R158). A turn-off
that overtakes a pending turn-on of the same switch takes its place (R185). -/
def State.commitEdge (s : State) (n : Nat) : State :=
  let cur := s.runNow n + s.rspan n (ns 16)
  match (s.ch n).run.plan.find? (fun p => decide (s.planAt n p ≤ cur)) with
  | none => s
  | some p =>
    let at_ := s.toEtb n (s.planAt n p)
    let s := s.modRun n (fun r => { r with plan := r.plan.erase p })
    let m := if p.low then n + 1 else n
    let s := if s.paired n ∧ p.act = 1 ∧ ¬ p.both then
        s.modDl m (fun l => { l with pend := l.pend.filter (fun e => !(e.org == .counter && e.act == 2 && decide (at_ ≤ e.at_))) })
      else s
    (s.edgeReq m ⟨at_, p.act, .counter, p.both, p.meas⟩ false).1

/-! ### Carriers (R177, R178, R185, R186) -/

/-- CARRIER_REF_CHANGE: the next change of R at its instant (R177, R178). In VAROFF the fall also ends the on-time at
CMPA. -/
def State.refChange (s : State) (n : Nat) : State :=
  let r := (s.ch n).run
  if s.chSt n ≠ 2 ∨ s.leader n ≠ n ∨ ¬ carrierMode (s.mode n) then s
  else match changes r.r r.shape with
    | [] => s
    | (a, v) :: rest =>
      if s.runNow n < a then s
      else
        let s := s.modRun n (fun x => { x with shape := rest, r := v })
        let k := if a = r.pk ∧ ¬ v ∧ 0 < r.k then r.k - 1 else r.k
        let s := s.refEvent n a k v
        if s.mode n = 12 ∧ ¬ v ∧ ¬ r.term then s.cntEvent n 3 r.k (s.rd OSSTAT.OSCNT n) (s.evTs n a) else s

/-- R ends for the period at the fine time `a` (R177, R195): a switch that is on goes off there and the other turns on after
its dead time; later changes are dropped, and a next period that is fixed keeps its own. With R already 0, L's turn-on that
is under way stays, and L comes on again where SYMM had turned it off ahead of a rise that is not made. -/
def State.cutR (s : State) (n a : Nat) : State :=
  let r := (s.ch n).run
  let ahead (x : Nat) : Bool := (changes r.r r.shape).all (fun c => decide (x < c.1))
  let v := s.toEtb n a
  let stays (act : Nat) (low : Bool) (x : Nat) : Bool := !r.r && low && act == 2 && ahead x
  let lOff := s.paired n && !r.r && r.shape.any (fun c => c.2) && !(s.ch (n + 1)).pin.lvl && r.wait.isNone &&
    !r.plan.any (fun p => stays p.act p.low (s.planAt n p)) && !(s.ch (n + 1)).dl.pend.any (fun e => e.org == .counter && e.act == 2)
  let s := s.modRun n (fun x => { x with shape := [], plan := x.plan.filter (fun p => decide (s.planAt n p < a) || stays p.act p.low (s.planAt n p)), r := false })
  let s := s.modDl n (fun l => { l with pend := l.pend.filter (fun e => e.org != .counter || decide (e.at_ ≤ v)) })
  let s := if ¬ s.paired n then s
    else s.modDl (n + 1) (fun l => { l with pend := l.pend.filter (fun e => e.org != .counter || decide (e.at_ ≤ v) || (!r.r && e.act == 2)) })
  let now_ := if r.r then s.dtEdges n a false true
    else if lOff then (s.dtEdges n a false true).filter (·.low) else []
  let later := r.nxt.elim [] (fun x => s.planShape n false x.shape)
  let s := s.modRun n (fun x => { x with plan := x.plan ++ now_ ++ later })
  if r.r then s.refEvent n a r.k false else s

/-- The termination line of channel `n` becomes active, seen at the fine time `a` (R177): it ends VAROFF's on-time, where R188
does not hold R at 1 for the period, or restarts VARON, whose next period begins 40 ns later where PRD does not end this one
first. -/
def State.terminate (s : State) (n a : Nat) : State :=
  let r := (s.ch n).run
  let e := a + s.rspan n (ns 40)
  if s.chSt n ≠ 2 ∨ s.leader n ≠ n ∨ ¬ s.on TERMCTL.TEN n ∨ r.term then s
  else if s.mode n = 12 ∧ r.r ∧ r.pk + s.rspan n (ns (s.rd TRIPCTL.BLANK n)) ≤ a then
    let s := s.modRun n (fun x => { x with term := true, pend := a + r.off, nxt := none })
    if r.shape.all (·.2) then s
    else ((s.modPin n (fun p => { p with hold0 := true })).cutR n a).syncPair n
  else if s.mode n = 11 ∧ r.pk + r.offA + r.offB ≤ a ∧ e < r.pend then
    let s := s.cntEvent n 3 r.k (s.rd OSSTAT.OSCNT n) (s.evTs n a)
    let sooner (x : Nat) : Nat := x - (r.pend - e)
    let s := s.modRun n (fun x => { x with
        term := true, pend := e,
        nxt := x.nxt.map (fun y => ⟨sooner y.pend, y.shape.map (fun c => (sooner c.1, c.2)), y.off⟩),
        plan := x.plan.map (fun p => if r.pend ≤ p.ref ∧ x.nxt.isSome then { p with ref := sooner p.ref } else p) })
    if (s.ch n).run.nxt.isNone then s.latchNext n else s
  else s

/-! ### Writes of the channel page -/

/-- Charge-time measurement begins, with its initial baseline, or waits for the bank output enable (R171, R174). -/
def State.ctmBegin (s : State) (n : Nat) : State :=
  let oe := bitAt (s.rd BANKOESTAT.OE) (n / 64)
  let s := s.wrs n [(CTMSTAT.INIT, 1), (CTMSTAT.TOUCH, 0), (CTMSTAT.NOOE, b2n (!oe))]
  s.modCtm n (fun c => { c with first := [], nTouch := 0, nRel := 0, nLow := 0, shorted := true, slot := none })

/-- A write of CHCTL (R156, R157, R159, R177, R184, R198): MODE only while STOPPED, CUNIT while the channel does not run, as
R159 has it (DEDUCED, notes/assumptions/147.md), then one of the command bits, the stop before a start. -/
def State.chctlWrite (s : State) (n : Nat) (w : Word) : State :=
  let m := CHCTL.MODE.of w
  let idle := s.chSt n = 0
  let okMode := decide (m < 5 ∨ (8 ≤ m ∧ m ≤ 12)) && !(m == 4 && s.paired n)
  let s := if idle ∧ okMode ∧ ¬ (s.paired n ∧ n % 2 = 1) then
      (if m = 4 ∧ s.rd CHCTL.MODE n ≠ 4 ∧ s.on CTMCTL.EN n then s.ctmBegin n else s).wr CHCTL.MODE m n else s
  let s := if s.stopped n then s.wr CHCTL.CUNIT (CHCTL.CUNIT.of w) n else s
  let s := s.wrs n [(CHCTL.ACTZ, CHCTL.ACTZ.of w), (CHCTL.ACTA, CHCTL.ACTA.of w), (CHCTL.ACTB, CHCTL.ACTB.of w)]
  if CHCTL.STOPNOW.of w = 1 then s.chStopNow n
  else if CHCTL.STOP.of w = 1 then s.chStop n
  else if CHCTL.GO.of w = 1 then s.chGo n
  else if CHCTL.ARM.of w = 1 then s.chArm n
  else s

/-- A write of PWMCTL (R179, R184): MINPW at least 4; PAIR and DTMODE only while STOPPED, and PAIR only where both
channels fit. -/
def State.pwmctlWrite (s : State) (n : Nat) (w : Word) : State :=
  let mp := PWMCTL.MINPW.of w
  let idle := s.chSt n = 0
  let s := s.wrs n [(PWMCTL.MINPOL, PWMCTL.MINPOL.of w), (PWMCTL.HOLD, PWMCTL.HOLD.of w), (PWMCTL.LDMID, PWMCTL.LDMID.of w),
    (PWMCTL.LAG, PWMCTL.LAG.of w), (PWMCTL.EVDIV, PWMCTL.EVDIV.of w), (PWMCTL.MINPW, if mp < 4 then 4 else mp)]
  let s := if idle then s.wr PWMCTL.DTMODE (PWMCTL.DTMODE.of w) n else s
  if n % 2 = 1 ∨ ¬ idle then s
  else if PWMCTL.PAIR.of w = 0 then ((s.wr PWMCTL.PAIR 0 n).sync3 n).sync3 (n + 1)
  else if s.paired n then s
  else if s.rd CHSTAT.STATE (n + 1) = 0 ∧ s.etb n = s.etb (n + 1) ∧ carrierMode (s.rd CHCTL.MODE n) then
    ((s.wr PWMCTL.PAIR 1 n).sync3 n).sync3 (n + 1)
  else s

/-- A write of DTIME: values below 4 ns are stored as 4 ns; shadowed (R181, R185). -/
def State.dtimeWrite (s : State) (n : Nat) (w : Word) : State :=
  let lo (x : Nat) : Nat := if x < 0x100 then 0x100 else x
  (s.shadowWrite n DTIME.DTR ACTDTIME.DTR (lo (DTIME.DTR.of w))).shadowWrite n DTIME.DTF ACTDTIME.DTF (lo (DTIME.DTF.of w))

/-- A write of ADTCTL: GUARD at least 24; a pin taken as the sense becomes input only (R186). The odd channel has none
(R176). -/
def State.adtctlWrite (s : State) (n : Nat) (w : Word) : State :=
  if n % 2 = 1 then s else
  let s := (s.plainWrite (ADTCTL.WHOLE.adr n 0) w).wr ADTCTL.GUARD (if ADTCTL.GUARD.of w < 24 then 24 else ADTCTL.GUARD.of w) n
  if s.rd ADTCTL.SNSSRC n = 1 then s.wr PINCTL.OMODE 0 (n / 16 * 16 + s.rd ADTCTL.SNSCH n) else s

/-- A write of OSCTL: OSN 0 is stored as 1 (R161). -/
def State.osctlWrite (s : State) (n : Nat) (w : Word) : State :=
  (s.plainWrite (OSCTL.WHOLE.adr n 0) w).wr OSCTL.OSN (if OSCTL.OSN.of w = 0 then 1 else OSCTL.OSN.of w) n

/-- A write of PINCTL: INIT sets the level at once while STOPPED (R168); leaving load estimation clears its count
(R169). -/
def State.pinctlWrite (s : State) (n : Nat) (w : Word) : State :=
  let was := s.on PINCTL.LOADEN n
  let s := s.plainWrite (PINCTL.WHOLE.adr n 0) w
  let s := if s.chSt n = 0 then s.setLvl n (s.on PINCTL.INIT n) else s
  if s.on PINCTL.LOADEN n ∧ ¬ was then
    (s.wr LOADEST.VALID 0 n).modCtm n (fun c => { c with ests := [], nEst := 0, rep := 0 })
  else s

/-- LOADALL opens the gate of every running LAG channel of the group (R183). -/
def State.loadAllGo (s : State) (j : Nat) : State :=
  let s := s.inc GLDSTAT.COUNT 1 j
  (upFrom (8 * j) 8).foldl (fun s n =>
    if s.on PWMCTL.LAG n ∧ (s.chSt n = 2 ∨ s.chSt n = 4) ∧ s.leader n = n then
      s.modRun n (fun r => { r with gate := true }) else s) s

/-! ### The meanings -/

def execTriggerDetect (t n : Nat) (s : State) : Out := s.ran (n < 1024) ((s.advance t).triggerDetect n)

def execCounterCmpa (t n : Nat) (s : State) : Out := s.ran (n < 1024) ((s.advance t).cmpA n)

def execCompareEdgeCommit (t n : Nat) (s : State) : Out := s.ran (n < 1024) ((s.advance t).commitEdge n)

def execStopnowRunEnd (t n : Nat) (s : State) : Out := s.ran (n < 1024) ((s.advance t).stopNowEnd n)

def execCarrierRefChange (t n : Nat) (s : State) : Out := s.ran (n < 1024) ((s.advance t).refChange n)

def execShadowLatchPoint (t n : Nat) (s : State) : Out := s.ran (n < 1024) ((s.advance t).latchPoint n)

def execGloadLoadall (t : Nat) (src : Src) (j : Nat) (val : Word) (s : State) : Out :=
  s.ran (src.ok && decide (j < 128)) ((s.advance t).authWrite src (GLOAD.WHOLE.adr j 0) (val ||| 0x80000000) (·.loadAllGo j))

def execPwmctlPairWrite (t : Nat) (src : Src) (n : Nat) (val : Word) (s : State) : Out :=
  s.ran (src.ok && decide (n < 1024)) ((s.advance t).authWrite src (PWMCTL.WHOLE.adr n 0) val (·.pwmctlWrite n val))

def execSwitchNodeSense (t n : Nat) (s : State) : Out := s.ran (n < 1024) ((s.advance t).nodeSense n)

def execDtmaxExpiry (t n : Nat) (s : State) : Out := s.ran (n < 1024) ((s.advance t).dtMax n)

end Sys2Proof.Machine
end

