-- ==== Sys2Proof/Machine/Pins.lean ====
section
/-! DEFINITION. Interlock, trip lines, trips, force orders and safe states (R191 to R202). -/
namespace Sys2Proof.Machine
open Reg

/-! ### Trip lines -/

/-- The activation instant of a line: the crossing at its source, on the strobe (R193). -/
def State.lineCross (s : State) (j i : Nat) : Nat :=
  match s.rd TLCFG.TYPE j i with
  | 1 => (s.kcomp.get (fun _ => KComp.init) (s.rd TLCFG.COMP j i)).rawAt
  | 2 => (s.ch (j / 2 * 16 + s.rd TLCFG.PINCH j i)).cap.runAt
  | _ => s.now

/-- Whether line `i` of group `j` is active (TLSTAT.ACT). -/
def State.lineAct (s : State) (j i : Nat) : Bool := s.lineSrc j i

/-- Lines whose source has left its active level are no longer active. -/
def State.refreshLines (s : State) (j : Nat) : State :=
  s.modGr j (fun g => { g with act := (onesOf g.act 4).foldl (fun a i => if s.lineSrc j i then a else putBit a i false) g.act })

/-- The groups whose lines may follow the pins of gondola `g`. -/
def State.refreshGondola (s : State) (g : Nat) : State := (s.refreshLines (2 * g)).refreshLines (2 * g + 1)

/-- Channel `n` latches TRIPPED for line `i`, activated at the strobe instant `a`, the event's timestamp (R193, R194). -/
def State.latchTrip (s : State) (n i a : Nat) : State :=
  ((s.wr TRIPSTAT.TRIPPED 1 n).wr TRIPSTAT.LLINES (putBit (s.rd TRIPSTAT.LLINES n) i true) n).faultAt n 0x20 (s.fineAt 0 a) i

/-- The channels a latched trip of line `i` trips: those with the line in LEN, and their partners (R194). -/
def State.tripSet (s : State) (j i : Nat) : List Nat :=
  let has (n : Nat) : Bool := bitAt (s.rd TRIPCTL.LEN n) i
  (upFrom (8 * j) 8).filter (fun n => has n || (s.paired n && has (partner n)))

/-- A cycle-by-cycle trip of channel `n` at the strobe instant `a` (R195): level 0 until the next period start; on the
even channel of a pair R ends for the period. -/
def State.cbcTrip (s : State) (n a : Nat) : State :=
  let s := (s.wr TRIPSTAT.CBCACT 1 n).cnt TRIPSTAT.CBCCNT 1 n
  let s := if s.paired n ∧ n % 2 = 0 ∧ s.chSt n = 2 ∧ carrierMode (s.mode n) then
      s.cutR n (s.fineAt (s.ch n).run.tb a) else s
  s.syncPair n

/-- Line `i` acts on channel `n` as a cycle-by-cycle trip, or is blanked (R195). -/
def State.cbcLine (s : State) (n i a : Nat) : State :=
  if ¬ bitAt (s.rd TRIPCTL.CBCEN n) i ∨ bitAt (s.rd TRIPCTL.LEN n) i then s
  else
    let p := (s.ch n).pin
    if p.onAt ≠ 0 ∧ p.onAt ≤ a ∧ a < p.onAt + ns (s.rd TRIPCTL.BLANK n) then s else s.cbcTrip n a

/-- TRIP_LINE_ACTIVATION (R193 to R195, R177): the line is seen, latched trips, cycle-by-cycle trips and terminations
follow, and EV_TRIP is raised once where a channel trips. -/
def State.lineActivate (s : State) (j i : Nat) : State :=
  if ¬ s.lineSrc j i ∨ bitAt (s.gr j).act i then s
  else
    let a := s.lineCross j i
    let s := s.modGr j (fun g => { g with act := putBit g.act i true, actAt := g.actAt.set i a })
    let s := s.wr TLSTAT.SEEN (putBit (s.rd TLSTAT.SEEN j) i true) j
    let trips := s.tripSet j i
    let s := trips.foldl (fun s n => s.latchTrip n i a) s
    let s := if trips.isEmpty then s else s.raiseAt 7776 (j * 2 ^ 16 + i) (s.fineAt 0 a)
    (upFrom (8 * j) 8).foldl (fun s n =>
      let s := s.cbcLine n i a
      if s.rd TERMCTL.TLINE n = i then s.terminate n (s.fineAt (s.ch n).run.tb a) else s) s

/-- BLANK_WINDOW_END (R195, R177): a cycle-by-cycle line that became active before the blanking ended and is still active
counts as activating then; the VAROFF window opens with it. -/
def State.blankEnd (s : State) (n : Nat) : State :=
  let p := (s.ch n).pin
  let e := p.onAt + ns (s.rd TRIPCTL.BLANK n)
  let acts (s : State) (i : Nat) : Bool :=
    bitAt (s.rd TRIPCTL.CBCEN n) i && !bitAt (s.rd TRIPCTL.LEN n) i && s.lineAct (n / 8) i && decide (s.lineCross (n / 8) i < e)
  let s := if s.now < e ∨ ¬ p.blanking then s
    else (upFrom 0 4).foldl (fun s i => if acts s i then s.cbcTrip n e else s) (s.modPin n (fun p => { p with blanking := false }))
  let r := (s.ch n).run
  let o := r.pk + s.rspan n (ns (s.rd TRIPCTL.BLANK n))
  if s.mode n = 12 ∧ o ≤ s.runNow n ∧ s.lineAct (n / 8) (s.rd TERMCTL.TLINE n) then s.terminate n o else s

/-- VARON's window opens with its termination line already active (R177): the restart is that instant. -/
def State.varonOpen (s : State) (n : Nat) : State :=
  let r := (s.ch n).run
  let o := r.pk + r.offA + r.offB
  if s.mode n = 11 ∧ s.leader n = n ∧ o ≤ s.runNow n ∧ s.lineAct (n / 8) (s.rd TERMCTL.TLINE n) then s.terminate n o else s

/-- A clear of the latched and pair trips of `n` and its partner (R196). -/
def State.tripClear (s : State) (n : Nat) : State :=
  let m := if s.paired n then [n, partner n] else [n]
  let busy := m.any (fun c => (onesOf (s.rd TRIPCTL.LEN c) 4).any (fun i => s.lineAct (c / 8) i))
  if busy then s.wr TRIPSTAT.CLRREF 1 n
  else
    let s := m.foldl (fun s c =>
      let was := s.on TRIPSTAT.TRIPPED c || s.on TRIPSTAT.PAIRTRIP c
      let s := s.wrs c [(TRIPSTAT.TRIPPED, 0), (TRIPSTAT.PAIRTRIP, 0), (TRIPSTAT.LLINES, 0)]
      s.modPin c (fun p => { p with clrWait := was && !s.stopped c })) s
    s.modPin (n / 2 * 2) (fun p => if s.paired n then { p with ilkAt := [] } else p)

/-! ### Interlock (R191, R192) -/

/-- The hold time of the interlock (R191). -/
def State.ilkHold (s : State) (n : Nat) : Nat :=
  let (m, dtr, dtf, _) := s.dtSet n (s.rd ACTDTIME.DTR n + 65536 * s.rd ACTDTIME.DTF n)
  match m with
  | 1 => if dtr < dtf then dtf else dtr
  | 2 => dtr
  | 3 => if dtr < dtf then dtf else dtr
  | _ => ns 4

/-- Events of the interlock in the 1,000 µs that end at the read, at most 16 (SHOOTCNT.WIN). -/
def State.shootWin (s : State) (n : Nat) : Nat :=
  satTo 16 (((s.ch n).pin.ilkAt.filter (fun a => decide (s.now ≤ a + ms 1))).length)

/-- INTERLOCK_BOTH_ON (R191, R192): both switches are held off, the event is counted and reported, and the 16th within
1,000 µs trips the pair. -/
def State.interlock (s : State) (n : Nat) : State :=
  let e := (s.ch n).pin
  if n % 2 = 1 ∨ ¬ s.paired n ∨ ¬ s.lvl3 n ∨ ¬ s.lvl3 (n + 1) ∨ (e.hOff ∧ e.lOff) then s
  else
    let h := e.l3At
    let l := (s.ch (n + 1)).pin.l3At
    let last := if h = l then none else some (decide (h < l))
    let s := s.modPin n (fun p => { p with hOff := true, lOff := true, ilkUntil := some (s.now + s.ilkHold n), ilkLast := last, ilkAt := (s.now :: p.ilkAt).take 16 })
    let s := (s.wr PWMSTAT.SHOOT 1 n).inc SHOOTCNT.TOTAL 1 n
    let s := s.chFault n 0x21 (s.shootWin n)
    if s.shootWin n < 16 then s
    else
      let s := (s.wr TRIPSTAT.PAIRTRIP 1 n).wr TRIPSTAT.PAIRTRIP 1 (n + 1)
      (s.chFault n 0x22).raise 7777 (n / 8 * 2 ^ 16 + n % 8 / 2)

/-- INTERLOCK_HOLD_EXPIRY (R191): after the hold the switch that became 1 last is released once the other's level is 0;
where neither counts as last, the one that stays 1 after the other clears. -/
def State.interlockExpiry (s : State) (n : Nat) : State :=
  let e := (s.ch n).pin
  match e.ilkUntil with
  | none => s
  | some u =>
    let h := s.lvl3 n
    let l := s.lvl3 (n + 1)
    if s.now < u then s
    else if (!h && !l) || (match e.ilkLast with
        | some low => if low then !h else !l
        | none => !h || !l) then
      s.modPin n (fun p => { p with hOff := false, lOff := false, ilkUntil := none, ilkLast := none })
    else s

/-! ### Force orders (R198, R199) -/

/-- An order accepted at channel `n` with its FSYNC: it replaces one that waits. -/
def State.forceOrder (s : State) (n ord sync : Nat) : State :=
  if ord = 0 ∨ 4 < ord ∨ sync = 3 then s
  else
    let imm : FWait := ⟨ord, s.now + ns 40, false, false⟩
    let set (s : State) (w : FWait) : State := s.modPin n (fun p => { p with fwait := some w })
    if sync = 0 ∨ (sync = 1 ∧ s.stopped n) then set s imm
    else if sync = 1 then set s { imm with period := true }
    else
      let a := ns (s.rd64 FORCEAT_LO.VALUE FORCEAT_HI.VALUE (n / 8))
      if a < s.fine 0 + s.span 0 (ns 40) then set (s.wr FORCEST.LATE 1 n) imm
      else set s ⟨ord, a, true, false⟩

/-- FORCE_ORDER_EFFECT (R199): a waiting order takes effect at its instant; one for a period start, and a RELEASE of a
running channel, wait for the period start. -/
def State.forceEffect (s : State) (n : Nat) : State :=
  match (s.ch n).pin.fwait with
  | none => s
  | some w =>
    if ¬ s.fDue w ∨ ((w.period ∨ w.ord = 1) ∧ ¬ s.stopped n) then s
    else
      ((s.modPin n (fun p => { p with fwait := none })).wr FORCEST.CUR (if w.ord = 1 then 0 else w.ord) n).syncPair n

/-- A write of FORCE (R198). -/
def State.forceWrite (s : State) (n : Nat) (w : Word) : State := s.forceOrder n (FORCE.ORD.of w) (FORCE.FSYNC.of w)

/-- A write of GFORCE: the order goes to every channel in MASK (R198, R199). -/
def State.gforceWrite (s : State) (j : Nat) (w : Word) : State :=
  (onesOf (GFORCE.MASK.of w) 8).foldl (fun s i => s.forceOrder (8 * j + i) (GFORCE.ORD.of w) (GFORCE.FSYNC.of w)) s

/-! ### Safe states (R200) -/

/-- A safe-state entry with a source that takes effect at the strobe instant `at_`. -/
def State.safeAsk (s : State) (j src at_ : Nat) : State := s.modGr j (fun g => { g with safe := g.safe ++ [(at_, src)] })

/-- The group enters its safe state now (R200). -/
def State.safeEnter (s : State) (j src : Nat) : State :=
  let s := ((s.wr SAFESTAT.ACTIVE 1 j).wr SAFESTAT.SRC src j).inc SAFESTAT.COUNT 1 j
  let s := (upFrom (8 * j) 8).foldl (fun s n =>
    (s.wr PWMSTAT.SAFE 1 n).modPin n (fun p => { p with safeLeave := false })) s
  let s := (upFrom (8 * j) 8).foldl (fun s n => s.sync3 n) s
  let s := s.raise 7778 (j * 2 ^ 16 + src)
  (upFrom (8 * j) 8).foldl (fun s n => s.chFault n 0x24 src) s

/-- SAFE_STATE_EFFECT: the first entry that waits takes effect at its instant. -/
def State.safeEffect (s : State) (j : Nat) : State :=
  match (s.gr j).safe with
  | (a, src) :: r => if a ≤ s.now then (s.modGr j (fun g => { g with safe := r })).safeEnter j src else s
  | [] => s

/-- SAFECLR: each channel leaves the safe state at its next period start, or at once if stopped (R200). -/
def State.safeClear (s : State) (j : Nat) : State :=
  if ¬ s.on SAFESTAT.ACTIVE j then s
  else
    let s := s.wr SAFESTAT.ACTIVE 0 j
    let s := (upFrom (8 * j) 8).foldl (fun s n =>
      if s.stopped n then s.wr PWMSTAT.SAFE 0 n else s.modPin n (fun p => { p with safeLeave := true })) s
    (upFrom (8 * j) 8).foldl (fun s n => s.sync3 n) s

/-- A write of SAFECTL: SAFEGO is stronger than SAFECLR (R200, R277). -/
def State.safectlWrite (s : State) (j : Nat) (w : Word) : State :=
  let s := (upFrom (8 * j) 8).foldl (fun s n => s.sync3 n) (s.plainWrite (SAFECTL.WHOLE.adr j 0) w)
  if SAFECTL.SAFEGO.of w = 1 then s.safeAsk j 1 (s.now + ns 40)
  else if SAFECTL.SAFECLR.of w = 1 then s.safeClear j
  else s

/-! ### The meanings -/

/-- COUNTER_CMPB: CMP_B at its instant; in VARON the opening of the restart window (R157, R177, R178). -/
def execCounterCmpb (t n : Nat) (s : State) : Out := s.ran (n < 1024) (((s.advance t).cmpB n).varonOpen n)

def execInterlockBothOn (t n : Nat) (s : State) : Out := s.ran (n < 1024) ((s.advance t).interlock n)

def execInterlockHoldExpiry (t n : Nat) (s : State) : Out := s.ran (n < 1024) ((s.advance t).interlockExpiry n)

def execTripLineActivation (t j line : Nat) (s : State) : Out :=
  s.ran (j < 128 && line < 4) ((s.advance t).lineActivate j line)

def execBlankWindowEnd (t n : Nat) (s : State) : Out := s.ran (n < 1024) ((s.advance t).blankEnd n)

def execTripclrClr (t : Nat) (src : Src) (n : Nat) (val : Word) (s : State) : Out :=
  s.ran (src.ok && decide (n < 1024)) ((s.advance t).authWrite src (TRIPCLR.WHOLE.adr n 0) (val ||| 0x80000000) (·.tripClear n))

/-- The word of a FORCE or GFORCE write. -/
def forceWord (ord sync mask : Nat) : Word := BitVec.ofNat 32 (ord % 8 * 2 ^ 29 + sync % 4 * 2 ^ 27 + mask % 256)

def execForceRelease (t : Nat) (src : Src) (n sync : Nat) (s : State) : Out :=
  s.ran (src.ok && decide (n < 1024)) ((s.advance t).authWrite src (FORCE.WHOLE.adr n 0) (forceWord 1 sync 0) (·.forceWrite n (forceWord 1 sync 0)))

def execForceHigh (t : Nat) (src : Src) (n sync : Nat) (s : State) : Out :=
  s.ran (src.ok && decide (n < 1024)) ((s.advance t).authWrite src (FORCE.WHOLE.adr n 0) (forceWord 2 sync 0) (·.forceWrite n (forceWord 2 sync 0)))

def execForceLow (t : Nat) (src : Src) (n sync : Nat) (s : State) : Out :=
  s.ran (src.ok && decide (n < 1024)) ((s.advance t).authWrite src (FORCE.WHOLE.adr n 0) (forceWord 3 sync 0) (·.forceWrite n (forceWord 3 sync 0)))

def execForceHiz (t : Nat) (src : Src) (n sync : Nat) (s : State) : Out :=
  s.ran (src.ok && decide (n < 1024)) ((s.advance t).authWrite src (FORCE.WHOLE.adr n 0) (forceWord 4 sync 0) (·.forceWrite n (forceWord 4 sync 0)))

def execGforceRelease (t : Nat) (src : Src) (j sync mask : Nat) (s : State) : Out :=
  s.ran (src.ok && decide (j < 128)) ((s.advance t).authWrite src (GFORCE.WHOLE.adr j 0) (forceWord 1 sync mask) (·.gforceWrite j (forceWord 1 sync mask)))

def execGforceHigh (t : Nat) (src : Src) (j sync mask : Nat) (s : State) : Out :=
  s.ran (src.ok && decide (j < 128)) ((s.advance t).authWrite src (GFORCE.WHOLE.adr j 0) (forceWord 2 sync mask) (·.gforceWrite j (forceWord 2 sync mask)))

def execGforceLow (t : Nat) (src : Src) (j sync mask : Nat) (s : State) : Out :=
  s.ran (src.ok && decide (j < 128)) ((s.advance t).authWrite src (GFORCE.WHOLE.adr j 0) (forceWord 3 sync mask) (·.gforceWrite j (forceWord 3 sync mask)))

def execGforceHiz (t : Nat) (src : Src) (j sync mask : Nat) (s : State) : Out :=
  s.ran (src.ok && decide (j < 128)) ((s.advance t).authWrite src (GFORCE.WHOLE.adr j 0) (forceWord 4 sync mask) (·.gforceWrite j (forceWord 4 sync mask)))

def execForceOrderEffect (t n : Nat) (s : State) : Out := s.ran (n < 1024) ((s.advance t).forceEffect n)

def execSafeStateEffect (t j : Nat) (s : State) : Out := s.ran (j < 128) ((s.advance t).safeEffect j)

end Sys2Proof.Machine
end

