-- ==== Sys2Proof/Machine/Capture.lean ====
section
/-! DEFINITION. Capture, load estimation and charge-time measurement (R163 to R174). -/
namespace Sys2Proof.Machine
open Reg

/-! ### Capture (R164 to R166) -/

/-- The stability time of the filter (R164). -/
def State.capFilt (s : State) (n : Nat) : Nat := ns (if s.rd CAPFILT.FILT n < 4 then 4 else s.rd CAPFILT.FILT n)

/-- PIN_TRANSITION: the pin takes a new level; a run shorter than the filter time is discarded, and the gate and the
phase reference are judged at this instant (R164, R166). A level taken while capture is off is no transition to accept. -/
def State.pinChange (s : State) (n : Nat) (lvl : Bool) : State :=
  let c := (s.ch n).cap
  if lvl = c.pin then s
  else
    let live := s.on CAPCTL.EN n && s.mode n != 4 && !s.pw.deep
    let s := if live ∧ s.now < c.runAt + s.capFilt n ∧ c.runAt ≠ 0 then s.cnt CAPSTAT.GLITCH 1 n else s
    let m := s.leader n
    let r := (s.ch m).run
    let running := decide (s.chSt n = 2)
    let p := s.runNow m
    let win := running && decide (r.pk + r.offA ≤ p ∧ p < r.pk + r.offB)
    let ctb := s.rd CAPCTL.CTB n
    let phase := s.fine ctb - s.fineAt ctb r.pAt
    let s := s.modCap n (fun c => { c with pin := lvl, acc := if live then c.acc else lvl, runAt := s.now, inWin := win, running := running, phase := phase })
    s.refreshGondola (n / 16)

/-- A measurement saturates at 0xFFFF_FFFF (R166). -/
def sat32 (v : Nat) : Nat := satTo 0xFFFFFFFF v

/-- The latest capture of `ref` at or before the instant `a`, among those accepted (R166). -/
def refCapture : List Nat → Nat → Option Nat
  | [], _ => none
  | x :: xs, a => match refCapture xs a with
    | some y => if x ≤ a ∧ y ≤ x then some x else some y
    | none => if x ≤ a then some x else none

/-- The measurements of a captured edge at the strobe instant `a` (R166). -/
def State.measure (s : State) (n a : Nat) (mpol : Bool) : State :=
  let c := (s.ch n).cap
  let ctb := s.rd CAPCTL.CTB n
  let at_ := s.fineAt ctb a
  let edge := s.rd CAPCTL.EDGE n
  if mpol then
    let s := match c.mpolAt with
      | some b => (s.wr MPER.VALUE (sat32 (at_ - b)) n).wr CAPSTAT.PERV 1 n
      | none => s
    let ph := if s.on CAPCTL.PHREF n then
        (refCapture (s.ch (n / 16 * 16 + s.rd CAPCTL.REFCH n)).cap.seen a).map (fun b => at_ - s.fineAt ctb b)
      else if c.running then some c.phase else none
    let s := match ph with
      | some p => (s.wr MPHASE.VALUE (sat32 p) n).wr CAPSTAT.PHV 1 n
      | none => (s.wr MPHASE.VALUE 0 n).wr CAPSTAT.PHV 0 n
    s.modCap n (fun c => { c with mpolAt := some at_ })
  else
    match c.mpolAt with
    | some b => if edge = 2 ∧ s.rd CAPCTL.PRESC n = 0 then (s.wr MWID.VALUE (sat32 (at_ - b)) n).wr CAPSTAT.WIDV 1 n else s
    | none => s

/-- A capture: CAPNEW shifts into CAPOLD, measurements follow, CAPTURE is raised with the transition's own timestamp,
and the channels it triggers learn of it (R160, R163, R164). Before calibration no timestamp is issued, and nothing is captured
(R42). -/
def State.capture (s : State) (n : Nat) : State :=
  if ¬ s.on SPINESTAT.CALDONE then s else
  let c := (s.ch n).cap
  let v := s.fineAt (s.rd CAPCTL.CTB n) c.runAt
  let mpol := c.pin != s.on CAPCTL.MPOL n
  let s := s.wr64 CAPOLD_LO.VALUE CAPOLD_HI.VALUE (s.rd64 CAPNEW_LO.VALUE CAPNEW_HI.VALUE n) n
  let s := s.wr64 CAPNEW_LO.VALUE CAPNEW_HI.VALUE v n
  let s := s.wrs n [(CAPSTAT.OLDLVL, s.rd CAPSTAT.NEWLVL n), (CAPSTAT.NEWLVL, b2n c.pin)]
  let s := s.inc CAPSEQ.SEQ 1 n
  let s := s.measure n c.runAt mpol
  let s := s.modCap n (fun c => { c with seen := c.runAt :: c.seen })
  let s := s.raiseAt (6 * n + 4) (b2n c.pin * 2 ^ 23 + s.rd CAPSEQ.SEQ n % 65536) (s.fineAt 0 c.runAt)
  let s := s.spoolEdge 1 n ⟨c.runAt, true⟩
  (upFrom (n / 16 * 16) 16).foldl (fun s m =>
    let src := s.rd TRIGCTL.SRC m
    if (src = 1 ∧ m = n) ∨ (src = 2 ∧ s.trigCh m = n) then s.modRun m (fun r => { r with capTok := some c.runAt }) else s) s

/-- CAPTURE_ACCEPT: a level held for the filter time passes the gate, the edge selection and the prescaler (R164). -/
def State.capAccept (s : State) (n : Nat) : State :=
  let c := (s.ch n).cap
  if s.pw.deep ∨ ¬ s.on CAPCTL.EN n ∨ s.mode n = 4 ∨ c.pin = c.acc ∨ s.now < c.runAt + s.capFilt n then s
  else
    let mpol := c.pin != s.on CAPCTL.MPOL n
    let gated := s.rd CAPCTL.GATE n = 1
    let pass := if gated then (if mpol then c.inWin else c.mpolPass) else true
    let s := s.modCap n (fun c => { c with acc := c.pin, mpolPass := if mpol then pass else c.mpolPass })
    if ¬ pass then s.cnt CAPSTAT.REJ 1 n
    else
      let e := s.rd CAPCTL.EDGE n
      if ¬ (e = 2 ∨ (e = 0 ∧ c.pin) ∨ (e = 1 ∧ ¬ c.pin)) then s
      else if c.pre < s.rd CAPCTL.PRESC n then s.modCap n (fun c => { c with pre := c.pre + 1 })
      else (s.modCap n (fun c => { c with pre := 0 })).capture n

/-- CAPCTL_WRITE: the prescaler restarts and the measurements are no longer valid (R164, R166). -/
def State.capctlWrite (s : State) (n : Nat) (w : Word) : State :=
  let ctb := s.rd CAPCTL.CTB n
  let was := s.on CAPCTL.EN n
  let s := s.plainWrite (CAPCTL.WHOLE.adr n 0) w
  let s := s.wrs n [(CAPCTL.EDGE, if CAPCTL.EDGE.of w = 3 then 2 else CAPCTL.EDGE.of w),
    (CAPCTL.CTB, if 17 < CAPCTL.CTB.of w then ctb else CAPCTL.CTB.of w),
    (CAPSTAT.PERV, 0), (CAPSTAT.WIDV, 0), (CAPSTAT.PHV, 0), (MPER.VALUE, 0), (MWID.VALUE, 0), (MPHASE.VALUE, 0)]
  s.modCap n (fun c => { c with acc := if was then c.acc else c.pin, pre := 0, mpolAt := none, seen := [] })

/-! ### Load estimation (R169) -/

/-- The drive current of DRV in mA (R168). -/
def drvMa (d : Nat) : Nat := 4 * (d + 1)

/-- The estimate C = I × t / (0.6 × V) − C_PIN in 0.1 pF, for a 20–80 % time in 1/64 ns. -/
def State.loadEst (s : State) (n time : Nat) : Nat :=
  let v := if s.on SUPMON.HI 0 (4 + n / 64) then 198 else 108
  drvMa (s.rd PINCTL.DRV n) * time * 1000 / (64 * v) - Config.cPin n

/-- LOAD_EDGE_MEASURED (R169). -/
def State.loadEdge (s : State) (n time : Nat) (rising : Bool) : State :=
  let om := s.rd PINCTL.OMODE n
  let sees := decide (om = 1) || (decide (om = 2) && !rising) || (decide (om = 3) && rising)
  if ¬ s.on PINCTL.LOADEN n ∨ s.mode n = 4 ∨ ¬ bitAt (s.rd BANKOESTAT.OE) (n / 64) ∨ ¬ sees then s
  else
    let c := (s.ch n).ctm
    let es := (s.loadEst n time :: c.ests).take 16
    let k := satTo 16 (c.nEst + 1)
    let mean := es.foldl (· + ·) 0 / es.length
    let s := s.modCtm n (fun c => { c with ests := es, nEst := k })
    let s := s.wrs n [(LOADEST.CAP, satTo 0xFFFF mean), (LOADEST.VALID, b2n (decide (16 ≤ k))), (LOADEST.SLOW, b2n (decide (ns 500 < time)))]
    let s := if ns 500 < time then s.chFault n 0xD else s
    if k < 16 then s
    else
      let v := s.rd LOADEST.CAP n
      let lo := s.rd LOADWIN.MIN n
      let hi := s.rd LOADWIN.MAX n
      if lo ≠ 0 ∧ v < lo then
        (if bitAt c.rep 0 then s else (s.modCtm n (fun c => { c with rep := putBit c.rep 0 true })).chFault n 0xB)
      else if hi ≠ 0 ∧ hi < v then
        (if bitAt c.rep 1 then s else (s.modCtm n (fun c => { c with rep := putBit c.rep 1 true })).chFault n 0xC)
      else s.modCtm n (fun c => { c with rep := 0 })

/-! ### Charge time (R170 to R174) -/

/-- A re-base to `v` (R172, R173). -/
def State.ctmRebase (s : State) (n v : Nat) : State :=
  ((s.wr CTMBASE.VALUE v n).cnt CTMSTAT.REBASES 1 n).modCtm n (fun c => { c with nTouch := 0, nRel := 0, nLow := 0 })

/-- The tracking, touch and release rules for a good reading after the initial baseline (R171, R172). -/
def State.ctmFollow (s : State) (n raw : Nat) : State :=
  let base := s.rd CTMBASE.VALUE n
  let d : Int := (raw : Int) - (base : Int)
  let tt : Int := (s.rd CTMTHR.TOUCH n * 64 : Nat)
  let rt : Int := (s.rd CTMTHR.RELEASE n * 64 : Nat)
  let deb := s.rd CTMCTL.DEB n
  let touch := s.on CTMSTAT.TOUCH n
  let bad := decide (tt ≤ rt)
  let c := (s.ch n).ctm
  let nT := if !touch && !bad && decide (tt ≤ d) then c.nTouch + 1 else 0
  let nR := if touch && !bad && decide (d < rt) then c.nRel + 1 else 0
  let nL := if !touch && decide (d ≤ -rt) then c.nLow + 1 else 0
  let s := s.modCtm n (fun c => { c with nTouch := nT, nRel := nR, nLow := nL })
  if deb ≤ nT ∧ 0 < nT then
    ((s.wr CTMSTAT.TOUCH 1 n).modCtm n (fun c => { c with since := s.now, nTouch := 0 })).raiseAt (6 * n + 2) (s.rd OSSTAT.OSCNT n) s.tsPin
  else if deb ≤ nR ∧ 0 < nR then
    ((s.wr CTMSTAT.TOUCH 0 n).modCtm n (fun c => { c with nRel := 0 })).raiseAt (6 * n + 3) (s.rd OSSTAT.OSCNT n) s.tsPin
  else if deb ≤ nL ∧ 0 < nL then
    (s.ctmRebase n raw).chFault n 0xE (satTo 0xFFFF ((base - raw) / 64))
  else if !touch && decide (-rt < d) && decide (d < tt) then
    s.wr CTMBASE.VALUE (ofSigned 32 ((base : Int) + d / (2 ^ s.rd CTMCTL.TRK n : Nat))) n
  else s

/-- The reading interval of CTMPER µs on TB17 in which a reading began that ends now with the mean `raw` of 2^NSAMP samples,
each after a discharge of DIS and none longer than 65.5 µs (R170, R174). -/
def State.ctmSlot (s : State) (n raw : Nat) : Nat :=
  let one := ns (s.rd CTMCTL.DIS n) + (if raw < ns 65500 then raw else ns 65500)
  (s.fine 17 - 2 ^ s.rd CTMCTL.NSAMP n * one) / us (s.rd CTMMAXT.CTMPER n)

/-- CTM_READING: a reading completes (R170 to R174); an interval of CTMPER gives one. -/
def State.ctmReading (s : State) (n raw : Nat) : State :=
  let slot := s.ctmSlot n raw
  if s.mode n ≠ 4 ∨ ¬ s.on CTMCTL.EN n ∨ ¬ bitAt (s.rd BANKOESTAT.OE) (n / 64) ∨ (s.ch n).ctm.slot = some slot then s
  else
    let short := decide (0xFFFFFFFF ≤ raw)
    let c := (s.ch n).ctm
    let s := s.modCtm n (fun c => { c with slot := some slot })
    let s := s.wrs n [(CTMRAW.VALUE, satTo 0xFFFFFFFF raw), (CTMSTAT.SHORT, b2n short)]
    let s := if short then
        (if c.shorted then s else (s.modCtm n (fun c => { c with shorted := true })).chFault n 0x10)
      else
        let s := s.modCtm n (fun c => { c with shorted := false, good := raw })
        if s.on CTMSTAT.INIT n then
          let f := raw :: c.first
          if f.length < 16 then s.modCtm n (fun c => { c with first := f })
          else ((s.modCtm n (fun c => { c with first := [] })).wr CTMBASE.VALUE (f.foldl (· + ·) 0 / 16) n).wr CTMSTAT.INIT 0 n
        else s.ctmFollow n raw
    s.raiseAt (6 * n + 4) (s.rd CTMSTAT.TOUCH n * 2 ^ 23 + s.rd CAPSEQ.SEQ n % 65536) s.tsPin

/-- CTM_MAXT_EXPIRY: a touch longer than MAXT re-bases, releases with STUCK and is reported (R173). -/
def State.ctmMaxt (s : State) (n : Nat) : State :=
  let c := (s.ch n).ctm
  if s.mode n = 4 ∧ s.on CTMSTAT.TOUCH n ∧ c.since + ms (1000 * s.rd CTMMAXT.MAXT n) < s.now then
    let s := s.ctmRebase n c.good
    let s := (s.wr CTMSTAT.TOUCH 0 n).raiseAt (6 * n + 3) (2 ^ 22 + s.rd OSSTAT.OSCNT n) s.tsPin
    (s.cnt CTMSTAT.STUCKS 1 n).chFault n 0xF
  else s

/-- A write of CTMCTL with its stored limits (R174): EN set begins measurement, EN cleared clears TOUCH silently. -/
def State.ctmctlWrite (s : State) (n : Nat) (w : Word) : State :=
  let was := s.on CTMCTL.EN n
  let s := s.plainWrite (CTMCTL.WHOLE.adr n 0) w
  let clamp (lo hi v : Nat) : Nat := if v < lo then lo else if hi < v then hi else v
  let s := s.wrs n [(CTMCTL.TRK, clamp 4 15 (CTMCTL.TRK.of w)), (CTMCTL.DEB, clamp 1 15 (CTMCTL.DEB.of w)),
    (CTMCTL.NSAMP, clamp 0 8 (CTMCTL.NSAMP.of w)), (CTMCTL.DIS, clamp 100 1023 (CTMCTL.DIS.of w))]
  if s.on CTMCTL.EN n then (if was ∨ s.mode n ≠ 4 then s else s.ctmBegin n)
  else s.wrs n [(CTMSTAT.TOUCH, 0), (CTMSTAT.INIT, 0), (CTMSTAT.NOOE, 0)]

/-- A write of CTMTHR: CFGERR shows RELEASE at or above TOUCH (R171). -/
def State.ctmthrWrite (s : State) (n : Nat) (w : Word) : State :=
  (s.plainWrite (CTMTHR.WHOLE.adr n 0) w).wr CTMSTAT.CFGERR (b2n (decide (CTMTHR.TOUCH.of w ≤ CTMTHR.RELEASE.of w))) n

/-- A write of CTMMAXT with its stored limits (R174). -/
def State.ctmmaxtWrite (s : State) (n : Nat) (w : Word) : State :=
  let p := CTMMAXT.CTMPER.of w
  let m := CTMMAXT.MAXT.of w
  s.wrs n [(CTMMAXT.CTMPER, if p < 100 then 100 else p), (CTMMAXT.MAXT, if m < 1 then 1 else if 3600 < m then 3600 else m)]

/-! ### The meanings -/

def execPinTransition (t n : Nat) (lvl : Bool) (s : State) : Out := s.ran (n < 1024) ((s.advance t).pinChange n lvl)

def execCaptureAccept (t n : Nat) (s : State) : Out := s.ran (n < 1024) ((s.advance t).capAccept n)

def execLoadEdgeMeasured (t n time : Nat) (rising : Bool) (s : State) : Out :=
  s.ran (n < 1024) ((s.advance t).loadEdge n time rising)

def execCtmReading (t n raw : Nat) (s : State) : Out := s.ran (n < 1024) ((s.advance t).ctmReading n raw)

def execCtmMaxtExpiry (t n : Nat) (s : State) : Out := s.ran (n < 1024) ((s.advance t).ctmMaxt n)

end Sys2Proof.Machine
end

