-- ==== Sys2Proof/Machine/Mesh.lean ====
section
/-! DEFINITION. Mesh ports, arbiters and shared SRAM (chapter 1): isolation and readmission, the SRAM access rule,
ECC, and the atomic operations. -/
namespace Sys2Proof.Machine

/-! ### Ports -/

/-- How many ports are isolated (R41). -/
def State.nIso (s : State) : Nat :=
  ((upFrom 0 7).map (fun i => popCount (s.rd Reg.MESHISO.ISO 0 i) 32)).foldl (· + ·) 0

/-- The isolation bit of a port is set or cleared, with NISO following it (R41). -/
def State.setIso (s : State) (port : Nat) (b : Bool) : State :=
  let s := s.wr Reg.MESHISO.ISO (putBit (s.rd Reg.MESHISO.ISO 0 (port / 32)) (port % 32) b) 0 (port / 32)
  s.wr Reg.MESHSTAT.NISO s.nIso

/-- A port is isolated and its stall reported (R19). -/
def State.isolate (s : State) (port : Nat) : State :=
  (((s.setIso port true).wr Reg.MESHSTAT.STALL 1).wr Reg.MESHSTAT.LASTPORT port).raise 7680 port

/-- Writing 1 to a MESHISO bit starts the self-test of an isolated port that is no gondola's (R22). -/
def State.readmit (s : State) (i : Nat) (w : Word) : State :=
  let ask := (onesOf w.toNat 32).map (fun j => 32 * i + j)
  let ok := ask.filter (fun p => decide (68 ≤ p ∧ p ≤ 212) && s.isolated p && !s.meshTest.contains p)
  { s with meshTest := s.meshTest ++ ok }

/-! ### Shared SRAM -/

/-- A byte of shared SRAM; one never written reads 0 (notes/assumptions/5.md). -/
def Mem.sramByte (m : Mem) (a : Nat) : Byte := Store.get (fun _ => 0) m.sram a

/-- `n` bytes of shared SRAM from `a` on. -/
def Mem.sramBytes (m : Mem) (a n : Nat) : List Byte := (upFrom a n).map m.sramByte

/-- Bytes are stored in shared SRAM from `a` on. -/
def Mem.sramPut (m : Mem) : Nat → List Byte → Mem
  | _, [] => m
  | a, b :: bs => Mem.sramPut { m with sram := Store.set (fun _ => 0) m.sram a b } (a + 1) bs

/-- The size and alignment rule of a shared SRAM access (R34). -/
def accessOk (a n : Nat) : Bool :=
  if n = 1 ∨ n = 2 ∨ n = 4 ∨ n = 8 then a % n == 0
  else if n = 3 ∨ n = 5 ∨ n = 6 ∨ n = 7 then decide (a % 8 + n ≤ 8)
  else if 9 ≤ n ∧ n ≤ 64 then a % 8 == 0 && decide (a % 64 + n ≤ 64)
  else false

/-- The 64-bit words an access touches. -/
def wordsOf (a n : Nat) : List Nat := upFrom (a / 8) ((a + n + 7) / 8 - a / 8)

/-- The words an access covers in full. -/
def fullWords (a n : Nat) : List Nat := (wordsOf a n).filter (fun w => decide (a ≤ 8 * w ∧ 8 * w + 8 ≤ a + n))

/-- How a failed access ends for its requester (R20, R39): `sub` is the subcode of an engine's bus error. -/
def Src.failure (src : Src) (sub : Nat) : RespStatus :=
  match src with
  | .eng _ => .bus sub
  | .mover _ => .moverErr sub
  | _ => if sub = 4 then .poisoned else .abort

/-- Errors of the telemetry interval (R343). -/
def State.telCe (s : State) : State := { s with rel := { s.rel with telCe := satTo 0xFFFF (s.rel.telCe + 1) } }

def State.telUe (s : State) : State := { s with rel := { s.rel with telUe := satTo 0xFFFF (s.rel.telUe + 1) } }

/-- An uncorrectable error poisons the word, counts it, records it and is reported (R39). -/
def State.sramUe (s : State) (word : Nat) : State :=
  let s := { s with mem := { s.mem with poison := if s.mem.poison.contains word then s.mem.poison else s.mem.poison ++ [word] } }
  (((s.cnt Reg.SRAMUE.COUNT).wr Reg.SRAMUEADDR.WORD word).telUe).raise 7682 (word % 2 ^ 22 * 8)

/-- A correctable error is corrected in place and counted (R39). -/
def State.sramCe (s : State) : State := (s.cnt Reg.SRAMCE.COUNT).telCe

/-- Secure SRAM wiped (R362, R371). -/
def Mem.wiped (m : Mem) : Mem := { m with sec := [], secPoison := [] }

/-- Whether a word of shared SRAM is poisoned (R39). -/
def Mem.poisoned (m : Mem) (ws : List Nat) : Bool := ws.any m.poison.contains

/-- The words of an access to shared SRAM at which the ECC shows an error, of those numbered in `l` (R39). -/
def eccWords (a n : Nat) (l : List Nat) : List Nat := (l.map (fun i => a / 8 + i)).filter (wordsOf a n).contains

/-- Uncorrectable errors of several words (R39). -/
def State.sramUes (s : State) (ws : List Nat) : State := ws.foldl State.sramUe s

/-- Correctable errors of several words (R39). -/
def State.sramCes (s : State) (ws : List Nat) : State := ws.foldl (fun s _ => s.sramCe) s

/-- A read served by a bank (R34, R36, R39): the answer's status and bytes; `err` is what the ECC shows in its words. -/
def State.sramReadBy (s : State) (src : Src) (a n : Nat) (err : Ecc) : State × RespStatus × List Byte :=
  if 0x1800000 ≤ a then (s, src.failure 0, [])
  else if ¬ accessOk a n then (s, src.failure 1, [])
  else if s.isolated (68 + a / 0x40000) then (s, src.failure 3, [])
  else if s.mem.poisoned (wordsOf a n) then (s, src.failure 4, [])
  else
    let s := s.sramCes (eccWords a n err.ce)
    let ue := eccWords a n err.ue
    if ue = [] then (s, .ok, s.mem.sramBytes a n) else (s.sramUes ue, src.failure 4, [])

/-- A write served by a bank (R34, R37, R39): full words are stored and lose their poison; a word covered in part is a
read-modify-write, which fails on poison or an uncorrectable error. -/
def State.sramWriteBy (s : State) (src : Src) (a : Nat) (data : List Byte) (err : Ecc) : State × RespStatus :=
  let n := data.length
  if 0x1800000 ≤ a then (s, src.failure 0)
  else if ¬ accessOk a n then (s, src.failure 1)
  else if s.isolated (68 + a / 0x40000) then (s, src.failure 3)
  else
    let part := (wordsOf a n).filter (fun w => !(fullWords a n).contains w)
    let ue := (eccWords a n err.ue).filter part.contains
    if s.mem.poisoned part then (s, src.failure 4)
    else if ue ≠ [] then (s.sramUes ue, src.failure 4)
    else
      let s := s.sramCes ((eccWords a n err.ce).filter part.contains)
      let m := { s.mem with poison := s.mem.poison.filter (fun w => !(fullWords a n).contains w) }
      ({ s with mem := m.sramPut a data }, .ok)

/-- The ECC findings that wait in the words of an access, which takes them (R39). -/
def State.takeEcc (s : State) (a n : Nat) : State × Ecc :=
  if s.ecc = .clean then (s, .clean) else ({ s with ecc := s.ecc.without 0 (wordsOf a n) }, s.ecc.shift 0 a)

/-- A read, and a write, of a block that makes several accesses in one command: each meets the findings in its words. -/
def State.blockRead (s : State) (src : Src) (a n : Nat) : State × RespStatus × List Byte :=
  (s.takeEcc a n).1.sramReadBy src a n (s.takeEcc a n).2

def State.blockWrite (s : State) (src : Src) (a : Nat) (data : List Byte) : State × RespStatus :=
  (s.takeEcc a data.length).1.sramWriteBy src a data (s.takeEcc a data.length).2

/-- A command whose accesses meet ECC findings: `err` names the words of shared SRAM by their number (R39). -/
def State.withEcc (s : State) (err : Ecc) (f : State → State) : State := { f { s with ecc := err } with ecc := .clean }

/-- What an atomic operation stores, from the old value and the operands (R38). -/
inductive Atomic where
  | swap | cas | add | and | or
  deriving DecidableEq, Repr

def Atomic.apply (op : Atomic) (n old cmp val : Nat) : Nat :=
  match op with
  | .swap => val % 2 ^ (8 * n)
  | .cas => if old = cmp % 2 ^ (8 * n) then val % 2 ^ (8 * n) else old
  | .add => (old + val) % 2 ^ (8 * n)
  | .and => old &&& val
  | .or => (old ||| val) % 2 ^ (8 * n)

/-- An atomic operation served by a bank: nothing else comes between its read and its write (R38, R39). The old value
is the answer. -/
def State.sramAtomicBy (s : State) (src : Src) (op : Atomic) (a n cmp val : Nat) (err : Ecc) : State × RespStatus × Nat :=
  if 0x1800000 ≤ a then (s, src.failure 0, 0)
  else if ¬ (n = 4 ∨ n = 8) ∨ ¬ accessOk a n then (s, src.failure 1, 0)
  else if s.isolated (68 + a / 0x40000) then (s, src.failure 3, 0)
  else if s.mem.poisoned (wordsOf a n) then (s, src.failure 4, 0)
  else if eccWords a n err.ue ≠ [] then (s.sramUes (eccWords a n err.ue), src.failure 4, 0)
  else
    let s := s.sramCes (eccWords a n err.ce)
    let old := ofBytes (s.mem.sramBytes a n)
    ({ s with mem := s.mem.sramPut a (toBytes n (op.apply n old cmp val)) }, .ok, old)

/-- Whether a host access lies inside the function's BAR2 window (R35, R270). -/
def State.inWindow (s : State) (src : Src) (a n : Nat) : Bool :=
  match src.func with
  | some 0 => true
  | some f => decide (s.rd Reg.FNWIN.WBASE f * 0x10000 ≤ a ∧
      a + n ≤ (s.rd Reg.FNWIN.WBASE f + s.rd Reg.FNWIN.WSIZE f) * 0x10000)
  | none => true

/-- A shared SRAM read, with what BAR2 adds for a host requester (R35, R36, R270). -/
def State.sramRead (s : State) (src : Src) (a n : Nat) (err : Ecc) : State :=
  if src = .jtag ∨ (s.pw.gnd ∧ src.outside) then s
  else if s.holds src 0x1800000 then s.hold (.sramRead src a n err)
  else if src.func.isSome ∧ (0x1800000 ≤ a ∨ ¬ s.inWindow src a n) then s.answer .ok (List.replicate n 0)
  else
    let (s, st, d) := s.sramReadBy src a n err
    s.answer st (d.map (·.toNat))

/-- A shared SRAM write, with what BAR2 adds for a host requester (R35, R37, R39, R270). -/
def State.sramWrite (s : State) (src : Src) (a : Nat) (data : List Byte) (err : Ecc) : State :=
  if src = .jtag ∨ (s.pw.gnd ∧ src.outside) then s
  else if s.holds src 0x1800000 then s.hold (.sramWrite src a data err)
  else if src.func.isSome ∧ ¬ s.inWindow src a data.length then
    s.authDropAs src src.code 0x1FE a
  else if src.func.isSome ∧ 0x1800000 ≤ a then s
  else
    let (s, st) := s.sramWriteBy src a data err
    match src with
    | .fn _ => if st = .poisoned then s.answer .ok else s.answer st
    | _ => s.answer st

def State.sramAtomic (s : State) (src : Src) (op : Atomic) (a n cmp val : Nat) (err : Ecc) : State :=
  if src = .jtag then s
  else
  let (s, st, old) := s.sramAtomicBy src op a n cmp val err
  s.answer st (if st = .ok then [old] else [])

/-! ### The meanings -/

/-- HANDSHAKE_WATCHDOG_EXPIRY (R19); an isolated gondola is marked suspect where chapter 13 says so (R335). -/
def State.watchdogIsolate (s : State) (port : Nat) : State := if s.isolated port then s else s.isolate port

/-- READMIT_SELFTEST_DONE (R22): the port is readmitted, or stays isolated and its stall is raised again. -/
def State.readmitDone (s : State) (port : Nat) (ok : Bool) : State :=
  if s.meshTest.contains port then
    let s := { s with meshTest := s.meshTest.filter (· != port) }
    if ok then s.setIso port false else s.raise 7680 port
  else s

def execMeshisoReadmit (t : Nat) (src : Src) (i : Nat) (val : Word) (s : State) : Out :=
  s.ran (src.ok && decide (i < 7)) ((s.advance t).authWrite src (Reg.MESHISO.ISO.adr 0 i) val (·.readmit i val))

def execReadmitSelftestDone (t port : Nat) (ok : Bool) (s : State) : Out :=
  s.ran (port ≤ 212) ((s.advance t).readmitDone port ok)

def execSramRead (t : Nat) (src : Src) (addr len : Nat) (err : Ecc) (s : State) : Out :=
  s.ran src.ok ((s.advance t).sramRead src addr len err)

def execSramWrite (t : Nat) (src : Src) (addr : Nat) (data : List Byte) (err : Ecc) (s : State) : Out :=
  s.ran src.ok ((s.advance t).sramWrite src addr data err)

def execSramAtomicSwap (t : Nat) (src : Src) (addr len val : Nat) (err : Ecc) (s : State) : Out :=
  s.ran src.ok ((s.advance t).sramAtomic src .swap addr len 0 val err)

def execSramAtomicCas (t : Nat) (src : Src) (addr len cmp val : Nat) (err : Ecc) (s : State) : Out :=
  s.ran src.ok ((s.advance t).sramAtomic src .cas addr len cmp val err)

def execSramAtomicAdd (t : Nat) (src : Src) (addr len val : Nat) (err : Ecc) (s : State) : Out :=
  s.ran src.ok ((s.advance t).sramAtomic src .add addr len 0 val err)

def execSramAtomicAnd (t : Nat) (src : Src) (addr len val : Nat) (err : Ecc) (s : State) : Out :=
  s.ran src.ok ((s.advance t).sramAtomic src .and addr len 0 val err)

def execSramAtomicOr (t : Nat) (src : Src) (addr len val : Nat) (err : Ecc) (s : State) : Out :=
  s.ran src.ok ((s.advance t).sramAtomic src .or addr len 0 val err)

end Sys2Proof.Machine
end

