-- ==== Sys2Proof/Machine/Analog.lean ====
section
/-! DEFINITION. Comparators, SAR converters and sigma-delta inputs (chapter 8): R203 to R223. Voltages are in nV, so that
a step of a threshold DAC, 1.5625 mV, is 1,562,500. -/
namespace Sys2Proof.Machine
open Reg

def State.kc (s : State) (k : Nat) : KComp := s.kcomp.get (fun _ => KComp.init) k
def State.modK (s : State) (k : Nat) (f : KComp → KComp) : State :=
  { s with kcomp := s.kcomp.set (fun _ => KComp.init) k (f (s.kc k)) }
def State.sdU (s : State) (i : Nat) : SdU := s.sd.get (fun _ => SdU.init) i
def State.modSd (s : State) (i : Nat) (f : SdU → SdU) : State :=
  { s with sd := s.sd.set (fun _ => SdU.init) i (f (s.sdU i)) }

/-- A signed number as a 16-bit word. -/
def ofS16 (v : Int) : Nat := ofSigned 16 v

/-! ### Comparators -/

/-- The mode a comparator acts in: WINDOW on an even one makes its odd neighbour BELOW; 3 acts as ABOVE (R206). -/
def State.kMode (s : State) (k : Nat) : Nat :=
  if k % 2 = 1 ∧ s.rd KCTL.MODE (k - 1) = 2 then 1
  else match s.rd KCTL.MODE k with
    | 1 => 1
    | 2 => if k % 2 = 0 then 2 else 0
    | _ => 0

/-- The effective threshold V_T at the strobe instant `a`, now or shortly before, the ramp included (R205, R207). -/
def State.kVtAt (s : State) (k a : Nat) : Nat :=
  let c := s.kc k
  let base := (if a < c.thrAt then c.thrOld else c.thrAct) * 1562500
  let ch := s.rd KRAMP.RCH k
  let p := (s.ch ch).run.pAt
  if s.on KCTL.RAMPEN k ∧ s.chSt ch = 2 then
    base - s.rd KRAMP.SLOPE k * 1562500 * (a - (if a < p then c.rampOld else p)) / (16 * us 1)
  else base

/-- The effective threshold now. -/
def State.kVt (s : State) (k : Nat) : Nat := s.kVtAt k s.now

/-- The threshold of comparator `k` becomes `v` at the strobe instant `a`. -/
def State.kThr (s : State) (k v a : Nat) : State :=
  s.modK k (fun c => { c with thrOld := c.thrAct, thrAt := a, thrAct := v, thr := none })

/-- Hysteresis (R206). -/
def State.kHys (s : State) (k : Nat) : Nat :=
  match s.rd KCTL.HYS k with
  | 0 => 0
  | 1 => 10000000
  | 2 => 25000000
  | _ => 50000000

/-- A cell that decides ABOVE, from its present decision and the input (R206). -/
def aboveCell (old : Bool) (nv vt hys : Nat) : Bool := if old then !decide (nv + hys < vt) else decide (vt < nv)

/-- A cell that decides BELOW. -/
def belowCell (old : Bool) (nv vt hys : Nat) : Bool := if old then !decide (vt + hys < nv) else decide (nv < vt)

/-- Whether the comparator's output is held at 0 (R204, R209). -/
def State.kOff (s : State) (k : Nat) : Bool := !s.on ANSTAT.READY || !s.on KCTL.EN k

/-- The cell of comparator `k` decides on the input. -/
def State.kCell (s : State) (k nv : Nat) : State :=
  let c := s.kc k
  let v := if s.kMode k = 1 then belowCell c.cell nv (s.kVt k) (s.kHys k) else aboveCell c.cell nv (s.kVt k) (s.kHys k)
  s.modK k (fun c => { c with cell := v })

/-- Whether comparator `k` stays live in Moored: WAKE is set, or it feeds an enabled trip line (R346). -/
def State.kLive (s : State) (k : Nat) : Bool :=
  s.on KCTL.WAKE k || (upFrom 0 128).any (fun j => (upFrom 0 4).any (fun i => s.rd TLCFG.TYPE j i == 1 && s.rd TLCFG.COMP j i == k))

/-- The raw output of comparator `k` takes a value, 1 while the analogue supply is at fault; its change is the crossing
instant. In Moored only live comparators decide (R206, R209, R346, R355). -/
def State.kRaw (s : State) (k : Nat) (v byLow : Bool) : State :=
  let v := v || s.on SUPMON.FAULT 0 3
  if v = (s.kc k).raw ∨ (s.pw.deep ∧ ¬ s.kLive k) then s
  else (s.modK k (fun c => { c with raw := v, rawAt := s.now, byLow := byLow })).wr KSTAT.RAW (b2n v) k

/-- COMPARATOR_CROSSING: the analogue input of comparator `k` is now at `nv` and its cells decide (R205, R206). -/
def State.kCross (s : State) (k nv : Nat) : State :=
  if s.on KCTL.SRC k ∨ s.kOff k then s
  else
    let s := s.kCell k nv
    if s.kMode k = 2 then
      let s := s.kCell (k + 1) nv
      let lo := (s.kc (k + 1)).cell
      s.kRaw k ((s.kc k).cell || lo) (lo && !(s.kc k).cell)
    else s.kRaw k (s.kc k).cell false

/-- The output of comparator `k` changes to `v` (R209): counted, captured, reported, a rise taken by the
converters it triggers (R211), and seen by the trip lines. -/
def State.kOutput (s : State) (k : Nat) (v : Bool) : State :=
  if v = s.on KSTAT.OUT k then s
  else
    let c := s.kc k
    let ts := s.fineAt 0 c.rawAt
    let s := (s.wr KSTAT.OUT (b2n v) k).inc KSTAT.TRANS 1 k
    let s := s.wr64 KCAP_LO.VALUE KCAP_HI.VALUE ts k
    let e := s.rd KCTL.EVEDGE k
    let s := if (bitAt e 0 ∧ v) ∨ (bitAt e 1 ∧ ¬ v) then
        s.raiseAt (6784 + k) (b2n v * 2 ^ 23 + b2n (v && c.byLow) * 2 ^ 22 + s.rd KSTAT.TRANS k) ts else s
    let s := if v then s.sarAnnounce 3 (fun i => s.rd SARTRIG.TCH i % 256 == k) c.rawAt else s
    (upFrom 0 128).foldl (fun s j => if (s.gr j).act = 0 then s else s.refreshLines j) s

/-- COMPARATOR_OUTPUT_CHANGE: a raw change that has persisted for KFILT reaches the output and the latch (R206, R208). -/
def State.kFollow (s : State) (k : Nat) : State :=
  let c := s.kc k
  if s.kOff k ∨ s.now < c.rawAt + ns (s.rd KCTL.KFILT k) then s
  else
    let s := if c.raw ∧ s.on KCTL.LATCH k ∧ ¬ s.on KSTAT.OUT k then s.wr KSTAT.LATCHED 1 k else s
    s.kOutput k (c.raw || (s.on KSTAT.LATCHED k && s.on KCTL.LATCH k))

/-- A request to clear the latch (R208); `report` for a KCLR write. -/
def State.kClear (s : State) (k : Nat) (report : Bool) : State :=
  if ¬ s.on KSTAT.LATCHED k then s
  else if (s.kc k).raw then (if report then s.wr KSTAT.CLRREF 1 k else s)
  else (s.wr KSTAT.LATCHED 0 k).kOutput k false

/-- The ramps that restart at a period start of channel `n`: a held THR takes effect and LCLR asks for a clear (R207,
R208). -/
def State.rampRestart (s : State) (n : Nat) : State :=
  (upFrom 0 256).foldl (fun s k =>
    if s.rd KRAMP.RCH k = n ∧ s.on KCTL.RAMPEN k then
      let p := (s.ch n).run.pAt
      let s := (s.kThr k ((s.kc k).thr.getD (s.kc k).thrAct) p).modK k (fun c => { c with rampOld := c.rampAt, rampAt := p })
      if s.on KCTL.LCLR k then s.kClear k false else s
    else s) s

/-- The output of a comparator that is switched off is 0, its latch too where the block is off (R204, R209). -/
def State.kForce0 (s : State) (k : Nat) : State :=
  let s := s.modK k (fun c => { c with raw := false, rawAt := s.now, cell := false })
  (s.wrs k [(KSTAT.LATCHED, 0), (KSTAT.RAW, 0)]).kOutput k false

/-- The decision of comparator `i` on the fast word (R221). -/
def State.fastDecide (s : State) (i : Nat) : Bool :=
  let w := (s.sdU i).fast
  let hi := decide (toSigned 16 (s.rd SDFTHR.HI i) ≤ w)
  let lo := decide (w ≤ toSigned 16 (s.rd SDFTHR.LO i))
  s.on SDSTAT.FAULT i || (match s.kMode i with
    | 0 => hi
    | 1 => lo
    | _ => hi || lo)

/-- A comparator on a fast filter decides (R221). -/
def State.fastRaw (s : State) (i : Nat) : State :=
  if s.on KCTL.SRC i ∧ ¬ s.kOff i then s.kRaw i (s.fastDecide i) false else s

/-- Comparator `k` takes what its cells or its fast filter last decided, 1 while the analogue supply is at fault (R355). -/
def State.kAgain (s : State) (k : Nat) : State :=
  let lo := s.kMode k == 2 && (s.kc (k + 1)).cell
  if s.kOff k ∨ s.on KCTL.SRC k then s.fastRaw k
  else s.kRaw k ((s.kc k).cell || lo) (lo && !(s.kc k).cell)

/-- A write of KCTL (R206, R208, R221, R355); the output falls once the raw output has been 0 for KFILT. -/
def State.kctlWrite (s : State) (k : Nat) (w : Word) : State :=
  let m := KCTL.MODE.of w
  let s' := s.plainWrite (KCTL.WHOLE.adr k 0) w
  let old := s.rd KCTL.MODE k
  let s' := if k % 2 = 1 ∧ s.rd KCTL.MODE (k - 1) = 2 then s'.wr KCTL.MODE 1 k
    else if k % 2 = 1 ∧ m = 2 then s'.wr KCTL.MODE 0 k else s'
  let s' := if k % 2 = 0 ∧ m = 2 ∧ old ≠ 2 then s'.wr KCTL.MODE 1 (k + 1) else s'
  let s' := if s'.on KCTL.LATCH k then s' else s'.wr KSTAT.LATCHED 0 k
  let s' := if s'.on KCTL.RAMPEN k then s'.modK k (fun c => { c with rampAt := (s'.ch (s'.rd KRAMP.RCH k)).run.pAt })
    else if (s'.kc k).thr.isSome then s'.kThr k (s'.rd KTHR.THR k) s'.now else s'
  if s'.on KCTL.EN k then
    let s' := if s'.on SUPMON.FAULT 0 3 then s'.kAgain k else s'.fastRaw k
    let c := s'.kc k
    if s'.on KSTAT.OUT k ∧ ¬ c.raw ∧ ¬ s'.on KSTAT.LATCHED k ∧ c.rawAt + ns (s'.rd KCTL.KFILT k) ≤ s'.now then s'.kOutput k false else s'
  else s'.kForce0 k

/-- A write of KTHR: at once, or held for the ramp's restart (R205, R207). -/
def State.kthrWrite (s : State) (k : Nat) (w : Word) : State :=
  let v := KTHR.THR.of w
  let s := s.wr KTHR.THR v k
  if s.on KCTL.RAMPEN k then s.modK k (fun c => { c with thr := some v }) else s.kThr k v s.now

/-- What pin KOUTm drives: nothing until KOUTEN releases it, 0 while its EN is 0, else the selected comparator's output,
inverted by POL (R203, R209). -/
def State.kout (s : State) (m : Nat) : Drive :=
  if ¬ s.on ANCTL.KOUTEN then .z
  else if s.on KOUTSEL.EN 0 m && (s.on KSTAT.OUT (s.rd KOUTSEL.COMP 0 m) != s.on KOUTSEL.POL 0 m) then .high
  else .low

/-- ANALOG_READY: 200 µs at most after EN; under a fault of the analogue supply every comparator reads 1 (R204, R355). -/
def State.analogReady (s : State) : State :=
  if ¬ s.on ANCTL.EN then s
  else
    let s := s.wr ANSTAT.READY 1
    if s.on SUPMON.FAULT 0 3 then (upFrom 0 256).foldl (fun s k => s.kAgain k) s else s

/-! ### Sample records (R214, R215) -/

/-- A record's four words. -/
def sampleWords (ts : Nat) (value : Int) (valid : Bool) (tag : Nat) (sd last tq : Bool) (unit seq : Nat) : List Nat :=
  [ts % 2 ^ 32, ts / 2 ^ 32 % 2 ^ 32, ofSigned 32 value,
    b2n valid * 2 ^ 31 + tag * 2 ^ 28 + b2n sd * 2 ^ 27 + b2n last * 2 ^ 26 + b2n tq * 2 ^ 25 + unit * 2 ^ 16 + seq % 65536]

/-- A record goes to its queue too; behind an isolated bridge it is lost (R20, R215). -/
def State.toStream (s : State) (q : Nat) (ws : List Nat) (ts unit : Nat) : State :=
  if s.isolated 196 then s.cnt ANSTAT.WRFAIL else s.qPush ⟨q, .sample, ws, ts, unit, none, false, false⟩

/-- The shared address of record `n` of a ring (R214). -/
def State.slotAddr (s : State) (base size : RField) (i n : Nat) : Nat :=
  s.rd base i * 256 + 16 * (n % 2 ^ (s.rd size i + 4))

/-- A SAR record is made: counted, streamed to its queue with QEN set, and on its way to the ring (R214, R215). -/
def State.sarRec (s : State) (i ts : Nat) (value : Int) (valid : Bool) (tag : Nat) (last : Bool) (code : Nat) : State :=
  let c := (s.sarU i).count + 1
  let ws := sampleWords ts value valid tag false last false (i * 32 + code) c
  let x : Sample := ⟨c, s.slotAddr SARBUF.BASE SARBUF.SIZE i c, ws, false⟩
  let s := s.modSar i (fun u => { u with count := c, recs := u.recs ++ [x] })
  if s.on SARQ.QEN i then s.toStream (s.rd SARQ.QUEUE i) ws ts i else s

/-- A sigma-delta record is made (R214, R215). -/
def State.sdRec (s : State) (i ts : Nat) (value : Int) (valid : Bool) (tag : Nat) : State :=
  let c := (s.sdU i).count + 1
  let ws := sampleWords ts value valid tag true false false i c
  let x : Sample := ⟨c, s.slotAddr SDBUF.BASE SDBUF.SIZE i c, ws, false⟩
  let s := s.modSd i (fun u => { u with count := c, recs := u.recs ++ [x] })
  if s.on SDQ.QEN i then s.toStream (s.rd SDQ.QUEUE i) ws ts (16 + i) else s

/-- The bytes of a list of 32-bit words, little-endian. -/
def wordsBytes (ws : List Nat) : List Byte := ws.flatMap (toBytes 4)

/-- SAMPLE_RECORD_ACK: a record reaches its ring in one access, and the unit's SEQ shows it, unless EN has been set again
since; a write that fails is counted (R214, R215). What an isolated analogue block sends is discarded, though its stores go
on (R20). -/
def State.sampleAck (s : State) (sd : Bool) (i : Nat) (err : Ecc) : State :=
  let recs := if sd then (s.sdU i).recs else (s.sarU i).recs
  match recs with
  | [] => s
  | r :: rest =>
    let (s, st) := if s.isolated 210 then (s, .ok) else s.sramWriteBy (.mover 210) r.addr (wordsBytes r.words) err
    let s := if st = .ok then s else s.cnt ANSTAT.WRFAIL
    let s := if sd then s.modSd i (fun u => { u with recs := rest }) else s.modSar i (fun u => { u with recs := rest })
    if r.old then s else s.wr (if sd then SDSEQ.COUNT else SARSEQ.COUNT) r.n i

/-! ### SAR (R210 to R213) -/

/-- The records of refused triggers at the head of the queue are written in trigger order, once no sequence runs (R213). -/
def State.sarFlushQ (i : Nat) : List SarSeq → State → State
  | [], s => s.modSar i (fun u => { u with queue := [] })
  | q :: rest, s =>
    if q.missed then
      State.sarFlushQ i rest ((upFrom 0 q.n).foldl (fun s j =>
        (s.sarRec i (s.fineAt 0 (q.h0 + ns 250 * j)) 0 false 3 (j + 1 == q.n) (s.rd SEQENT.INPUT i j)).cnt SARSTAT.MISSED 1 i) s)
    else s.modSar i (fun u => { u with queue := q :: rest })

def State.sarFlush (s : State) (i : Nat) : State :=
  let u := s.sarU i
  if u.cur.isSome then s else State.sarFlushQ i u.queue s

/-- The sequences that could not start at their instants and wait (SARSTAT.PEND). -/
def SarU.pend (u : SarU) : Nat := (u.queue.filter (fun q => q.waits && !q.missed)).length

/-- The first hold instant of a sequence after one whose last hold was `l` (R213). -/
def firstHold (l : Option Nat) (h0 : Nat) : Nat :=
  match l with
  | some l => if h0 < l + ns 250 then l + ns 250 else h0
  | none => h0

/-- The hold instant of the last entry of all that unit `i` has accepted (R213). -/
def State.sarLast (s : State) (i : Nat) : Option Nat :=
  let u := s.sarU i
  let l := match u.cur with
    | some q => some (u.h + ns 250 * (q.n - 1))
    | none => u.lastH
  (u.queue.filter (fun q => !q.missed)).foldl (fun l q => some (firstHold l q.h0 + ns 250 * s.rd SARCTL.NSTEP i)) l

/-- An accepted trigger with trigger instant `inst`: its sequence starts at H_0, waits, or is refused (R204, R211, R213). -/
def State.sarAccept (s : State) (i inst : Nat) (comp : Bool) : State :=
  let h := inst + ns (s.rd SARDLY.DELAY i)
  let h := if comp ∧ h < inst + ns 40 then inst + ns 40 else h
  let waits := firstHold (s.sarLast i) h != h
  let ok := s.on ANSTAT.READY && s.on SARCTL.EN i && (!waits || decide ((s.sarU i).pend < 4)) && !s.on SUPMON.FAULT 0 3
  let q : SarSeq := ⟨h, s.rd SARCTL.NSTEP i + 1, !ok, waits⟩
  (s.modSar i (fun u => { u with queue := u.queue ++ [q] })).sarFlush i

/-- One trigger of the configured source: TDIV + 1 make an accepted one (R211). -/
def State.sarTrigger (s : State) (i inst : Nat) : State :=
  if s.rd SARTRIG.TSRC i = 0 then s
  else
    let d := (s.sarU i).div + 1
    if d ≤ s.rd SARTRIG.TDIV i then s.modSar i (fun u => { u with div := d })
    else (s.modSar i (fun u => { u with div := 0 })).sarAccept i inst (s.rd SARTRIG.TSRC i == 3)

/-- The next sequence begins with its first acquisition, 60 ns before its first hold; its length and its entries are those of
then (R211 to R213, notes/assumptions/155.md). -/
def State.sarStart (s : State) (i : Nat) : State :=
  let u := s.sarU i
  match u.cur, u.queue with
  | none, q :: rest =>
    let h := firstHold u.lastH q.h0
    if q.missed ∨ s.now + ns 60 < h then s
    else
      let n := s.rd SARCTL.NSTEP i + 1
      let ents := (upFrom 0 n).map (fun j => s.rd SEQENT.INPUT i j + 32 * s.rd SEQENT.GAIN i j)
      s.modSar i (fun u => { u with queue := rest, cur := some { q with n := n }, h := h, late := decide (h ≠ q.h0), j := 0, ents := ents })
  | _, _ => s

/-- The unit is cut off: what is left of the running sequence, and every one that waits, is recorded as MISSED (R204, R213,
notes/assumptions/155.md). -/
def State.sarMiss (s : State) (i : Nat) : State :=
  let u := s.sarU i
  let n := s.rd SARCTL.NSTEP i + 1
  let s := match u.cur with
    | some q => (upFrom u.j (q.n - u.j)).foldl (fun (s : State) j =>
        (s.sarRec i (s.fineAt 0 (q.h0 + ns 250 * j)) 0 false 3 (j + 1 == q.n) (u.ents.getD j 28 % 32)).cnt SARSTAT.MISSED 1 i) s
    | none => s
  let queue := u.queue.map (fun q => if q.missed then q else { q with missed := true, n := n })
  (s.modSar i (fun u => { u with cur := none, queue := queue })).sarFlush i

/-- The voltage at an input code at the hold instant `a`: a threshold DAC, VREF/2 and ground are the device's own (R210). -/
def State.sarVolt (s : State) (i code nv a : Nat) : Nat :=
  if 8 ≤ code ∧ code ≤ 23 then s.kVtAt (16 * i + code - 8) a
  else if code = 27 then 800000000
  else if code = 28 ∨ (code = 26 ∧ 4 ≤ i) then 0
  else nv

/-- The conversion result (R210). -/
def sarCode (nv gain : Nat) : Nat := satTo 16383 (nv * 2 ^ gain * 16384 / 1600000000)

/-- SAR_CONVERSION: the next conversion of unit `i`, its hold instant passed, gives a record (R210 to R214). -/
def State.sarConvert (s : State) (i nv : Nat) : State :=
  let s := s.sarStart i
  let u := s.sarU i
  match u.cur with
  | none => s
  | some q =>
    let hold := u.h + ns 250 * u.j
    if s.now < hold then s
    else
      let e := u.ents.getD u.j 28
      let code := e % 32
      let gain := e / 32
      let since := if u.code.isNone then 2 else if gain = u.gain then u.since else 0
      let settle := decide (u.code ≠ some code) || decide (since < 2)
      let v := sarCode (s.sarVolt i code nv hold) gain
      let last := decide (u.j + 1 = q.n)
      let tag := if u.late then 2 else if settle then 1 else 0
      let s := s.sarRec i (s.fineAt 0 hold) v (!settle) tag last code
      let s := s.modSar i (fun u => { u with j := u.j + 1, lastH := some hold, code := some code, gain := gain, since := since + 1, cur := if last then none else u.cur })
      s.sarFlush i

/-- A write of SARCTL: a sequence that runs keeps its own; EN set begins the record count anew, and a first conversion counts as
a change of input (R212, R214); what waits as EN is cleared is MISSED (R213, notes/assumptions/155.md). -/
def State.sarctlWrite (s : State) (i : Nat) (w : Word) : State :=
  let s := s.sarStart i
  let was := s.on SARCTL.EN i
  let s := s.plainWrite (SARCTL.WHOLE.adr i 0) w
  if s.on SARCTL.EN i ∧ ¬ was then
    (s.modSar i (fun u => { u with count := 0, code := none, gain := 0, since := 2, recs := u.recs.map (fun r => { r with old := true }) })).wr SARSEQ.COUNT 0 i
  else if was ∧ ¬ s.on SARCTL.EN i then s.sarMiss i
  else s

/-- A write of SARBUF or SDBUF: ignored while the unit's EN is 1; SIZE at most 11 (R214). -/
def State.bufWrite (s : State) (en base size : RField) (i : Nat) (w : Word) : State :=
  if s.on en i then s
  else (s.wr base (base.of w) i).wr size (if 11 < size.of w then 11 else size.of w) i

/-- A write of a sequence entry: input codes 29 to 31 are stored as 28; a sequence that runs keeps its own (R210, R212). -/
def State.seqentWrite (s : State) (i j : Nat) (w : Word) : State :=
  let s := s.sarStart i
  let c := SEQENT.INPUT.of w
  (s.plainWrite (SEQENT.WHOLE.adr i j) w).wr SEQENT.INPUT (if 28 < c then 28 else c) i j

/-! ### Sigma-delta (R216 to R222) -/

def State.mclkU (s : State) (j : Nat) : MClk := s.mclk.get (fun _ => MClk.init) j

def State.modMclk (s : State) (j : Nat) (f : MClk → MClk) : State :=
  { s with mclk := s.mclk.set (fun _ => MClk.init) j (f (s.mclkU j)) }

/-- The divider in force on a modulator clock (R216). -/
def State.mclkDiv (s : State) (j : Nat) : Nat := (s.mclkU j).div

/-- Whether modulator clock `j` runs at its pin (R204, R216). -/
def State.mclkOn (s : State) (j : Nat) : Bool := s.on MCLKCTL.EN 0 j && s.on ANCTL.MCLKEN

/-- What pin MODCLKj drives now: rising edges where TB17 is a multiple of DIV ns, high for ⌊DIV/2⌋ ns; nothing until it is
released and its clock runs (R204, R216, notes/assumptions/154.md). -/
def State.modclk (s : State) (j : Nat) : Drive :=
  if ¬ s.mclkOn j then .z
  else if s.strobe s.now % ns (s.mclkDiv j) < ns (s.mclkDiv j / 2) then .high else .low

/-- A write of MCLKCTL: a divider below 40 is stored as 40 (R216). -/
def State.mclkctlWrite (s : State) (j : Nat) (w : Word) : State :=
  let d := MCLKCTL.DIV.of w
  let s' := (s.plainWrite (MCLKCTL.WHOLE.adr 0 j) w).wr MCLKCTL.DIV (if d < 40 then 40 else d) 0 j
  if s'.mclkOn j ∧ ¬ s.mclkOn j then s'.modMclk j (fun m => { m with from_ := s.now }) else s'

/-- Filter order K and decimation D in force (R218). -/
def SdU.ord (u : SdU) : Nat := bitsAt u.filt 28 2 + 1
def SdU.dec (u : SdU) : Nat := bitsAt u.filt 0 11
def SdU.shift (u : SdU) : Nat := bitsAt u.filt 16 5

/-- The sums over every stretch of `d` neighbours. -/
def movSum (d : Nat) : List Int → List Int
  | [] => []
  | x :: xs => if (x :: xs).length < d then [] else ((x :: xs).take d).sum :: movSum d xs

/-- A sinc filter of order `k` and decimation `d`: `k` running sums, one after the other (R218). -/
def sincSums : Nat → Nat → List Int → List Int
  | 0, _, l => l
  | k + 1, d, l => sincSums k d (movSum d l)

/-- The number of bits in a filter's window (R218). -/
def winLen (k d : Nat) : Nat := k * (d - 1) + 1

/-- A bit as the filter counts it: 1 as +1 and 0 as −1 (R218); none where no bit was recovered. -/
def SdBit.val (b : SdBit) : Option Int := b.one.map (fun x => if x then 1 else -1)

/-- ACC of the window of the latest bits, of which `have_` have come since the filter was reset (R218); none where a bit is
wanting. -/
def SdU.acc (u : SdU) (have_ k d : Nat) : Option Int :=
  let w := u.win.take (winLen k d)
  if have_ < winLen k d ∨ w.length < winLen k d ∨ w.any (fun b => b.one.isNone) then none
  else (sincSums k d (w.filterMap SdBit.val)).head?

/-- The period of a bit (R216, R217, R220): the clock's in CMODE 0, and in CMODE 1 that of the last recovered clock, or of
20 Mbit/s where none ever was. -/
def State.bitPeriod (s : State) (i : Nat) : Nat :=
  let u := s.sdU i
  if u.cmode = 1 then u.period.getD (ns 50) else ns (s.mclkDiv u.clk)

/-- The filter is reset: the next K words settle, and words are counted off anew (R219, notes/assumptions/156.md). -/
def State.sdReset (s : State) (i : Nat) : State :=
  let k := (s.sdU i).ord
  (s.modSd i (fun u => { u with since := 0, got := 0 })).wrs i [(SDSTAT.SETREM, k), (SDSTAT.SETTLING, 1)]

/-- Settings are put in force; another source has no bits yet (R219). -/
def State.sdTake (s : State) (i : Nat) (x : SdSet) : State :=
  let u := s.sdU i
  let same := u.cmode == x.cmode && u.clk == x.clk
  let s := s.modSd i (fun u => { u with filt := x.filt, cmode := x.cmode, clk := x.clk })
  let s := if same then s else s.modSd i (fun u => { u with win := [], run := 0, good := 0, fgot := 0, last := s.now, period := none })
  s.sdReset i

/-- The settings the registers hold now. -/
def State.sdSet (s : State) (i : Nat) : SdSet :=
  ⟨s.now, (s.reg (SDFILT.WHOLE.adr i 0)).toNat, s.rd SDCTL.CMODE i, s.rd SDCTL.CLK i⟩

/-- At a word boundary the writes that arrived at least 40 ns before it take effect, the last of them for good (R219). -/
def State.sdApply (s : State) (i : Nat) : State :=
  let u := s.sdU i
  let due := u.changes.filter (fun x => decide (x.at_ + ns 40 ≤ u.wordAt))
  match due.getLast? with
  | some x =>
    if u.got = 0 then (s.modSd i (fun u => { u with changes := u.changes.filter (fun x => !decide (x.at_ + ns 40 ≤ u.wordAt)) })).sdTake i x
    else s
  | none => s

/-- A bit joins the stream (R217, R220): in CMODE 0 the 256th of one level, and every later one, comes during a fault. -/
def SdU.bit (u : SdU) (fault : Bool) (one : Option Bool) (at_ : Nat) : SdU :=
  let run := if u.win.head?.any (fun b => b.one == one) then u.run + 1 else 1
  let stuck := u.cmode != 1 && decide (256 ≤ run)
  { u with
    win := (⟨one, at_, fault || stuck⟩ :: u.win).take 5120, since := u.since + 1, got := u.got + 1, fgot := u.fgot + 1, run := run
    good := if stuck ∨ one.isNone then 0 else u.good + 1
    period := if u.cmode = 1 ∧ one.isSome ∧ u.win.head?.any (fun b => b.one.isSome) then some (at_ - u.last) else u.period
    last := at_ }

/-- The instants of the next bits of input `i` that lie at or before now, up to `n` (R216, R217): in CMODE 0 each bit belongs
to a rising edge of its clock, and is sampled SDLY after it. -/
def State.bitEdges (s : State) (i n : Nat) : List Nat :=
  let u := s.sdU i
  let c := s.mclkU u.clk
  let p := ns c.div
  match s.spine with
  | none => []
  | some b =>
    let a := if u.last < c.from_ then c.from_ else u.last
    let e0 := b + ((a - b) / p + 1) * p
    if ¬ s.mclkOn u.clk then []
    else ((upFrom 0 n).map (fun j => e0 + j * p)).filter (fun e => decide (e + ns (s.rd SDTIME.SDLY i) ≤ s.now))

/-- The stream of input `i` since the last command, no further than the word's last bit (R217, R218): in CMODE 0 the levels at
the clock's edges; in CMODE 1 the recovered bits, and through a fault bits at the nominal rate (R220). -/
def State.sdBits (s : State) (i : Nat) (bits : List RxBit) : State :=
  let s := s.sdApply i
  let u := s.sdU i
  let room := u.dec - u.got
  let fault := s.on SDSTAT.FAULT i
  let u := if u.cmode ≠ 1 then
      ((s.bitEdges i room).zip bits).foldl (fun u x => u.bit fault (some x.2.one) x.1) u
    else
      let u := (bits.take room).foldl (fun u x => if u.last < x.at_ ∧ x.at_ ≤ s.now then u.bit fault (some x.one) x.at_ else u) u
      let p := s.bitPeriod i
      let k := (s.now - u.last) / p
      if fault then (upFrom 1 (if k < u.dec - u.got then k else u.dec - u.got)).foldl (fun v j => v.bit true none (u.last + j * p)) u else u
  s.modSd i (fun _ => u)

/-- The strobe instant of the window's centre: that of its middle bit, or midway between its two middle bits (R217, R218). -/
def State.sdCentre (s : State) (i : Nat) : Nat :=
  let u := s.sdU i
  let m := u.ord * (u.dec - 1)
  let old := u.last - m * s.bitPeriod i / 2
  if u.cmode ≠ 1 ∨ u.since < m + 1 then old
  else match u.win[m / 2]?, u.win[(m + 1) / 2]? with
    | some a, some b => (a.at_ + b.at_) / 2
    | _, _ => old

/-- The sum of the window, or, where a bit of it is wanting, a value within its bounds that the spec leaves open (R218,
notes/assumptions/157.md). -/
def State.sdAcc (s : State) (i have_ k d : Nat) : Int × State :=
  match (s.sdU i).acc have_ k d with
  | some x => (x, s)
  | none => ((s.fresh.1 % (2 * d ^ k + 1) : Nat) - (d ^ k : Nat), s.fresh.2)

/-- A word of the main filter: its record, and the block event (R218 to R222). -/
def State.sdOut (s : State) (i : Nat) : State :=
  let u := s.sdU i
  let (acc, s) := s.sdAcc i u.since u.ord u.dec
  let x := acc / (2 ^ u.shift : Nat)
  let v := satSigned 32 x
  let sat := v != x
  let rem := s.rd SDSTAT.SETREM i
  let fault := (u.win.take (winLen u.ord u.dec)).any (·.bad)
  let tag := if fault then 5 else if 0 < rem then 1 else if sat then 4 else 0
  let ts := s.fineAt 0 (s.sdCentre i) + s.rd SDTIME.TOFF i
  let s := (s.modSd i (fun u => { u with got := 0, wordAt := u.last })).wr SDSTAT.RUN 1 i
  let s := if sat then s.wr SDSTAT.SAT 1 i else s
  let s := s.wrs i [(SDSTAT.SETREM, rem - 1), (SDSTAT.SETTLING, b2n (decide (1 < rem)))]
  let s := s.sdRec i ts v (tag == 0) tag
  let blk := s.rd SDCTL.BLK i
  if blk = 0 ∨ (s.on SDCTL.STREAM i ∧ s.on SDQ.QEN i) then s
  else
    let b := (s.sdU i).blk + 1
    if b < blk then s.modSd i (fun u => { u with blk := b })
    else (s.modSd i (fun u => { u with blk := 0 })).raiseAt (7040 + i) ((s.sdU i).count % 65536) ts

/-- SD_WORD: the bits that complete D since the last word give a word of the main filter (R218). -/
def State.sdWord (s : State) (i : Nat) (bits : List RxBit) : State :=
  if ¬ s.on SDCTL.EN i then s
  else
    let s := s.sdBits i bits
    if (s.sdU i).got < (s.sdU i).dec then s else s.sdOut i

/-- A modulator fault begins (R220): one level for 256 bits, a code violation, or no transition for 4 nominal bit times;
comparator `i` on this input decides 1 (R221). -/
def State.modFault (s : State) (i : Nat) (bits : List RxBit) (viol : Bool) : State :=
  if ¬ s.on SDCTL.EN i then s
  else
    let s := s.sdBits i bits
    let u := s.sdU i
    let bad := if u.cmode = 1 then viol || decide (u.last + 4 * s.bitPeriod i ≤ s.now) else decide (256 ≤ u.run)
    if s.on SDSTAT.FAULT i ∨ ¬ bad then s
    else (((s.modSd i (fun u => { u with good := 0 })).wr SDSTAT.FAULT 1 i).cnt SDSTAT.FAULTS 1 i).fastRaw i

/-- The fault clears after 256 good bits and the filter is reset (R219, R220). -/
def State.modFaultClear (s : State) (i : Nat) (bits : List RxBit) : State :=
  if ¬ s.on SDCTL.EN i then s
  else
    let s := s.sdBits i bits
    if ¬ s.on SDSTAT.FAULT i ∨ (s.sdU i).good < 256 then s
    else ((s.wr SDSTAT.FAULT 0 i).sdReset i).fastRaw i

/-- SD_FAST_WORD: every DEC bits a word of the fast filter, held to 16 bits, on which comparator `i` decides (R221). -/
def State.fastWord (s : State) (i : Nat) (bits : List RxBit) : State :=
  if ¬ s.on SDCTL.EN i then s
  else
    let s := s.sdBits i bits
    let d := s.rd SDFAST.DEC i
    if ¬ s.on SDFAST.EN i ∨ (s.sdU i).fgot < d then s
    else
      let (x, s) := s.sdAcc i (s.sdU i).win.length (s.rd SDFAST.ORD i + 1) d
      (s.modSd i (fun u => { u with fast := satSigned 16 x, fgot := 0 })).fastRaw i

/-- A write of SDCTL or SDFILT (R219): taken at once as EN is set, else at the word boundary that follows. -/
def State.sdChange (s : State) (i : Nat) (was changed : Bool) : State :=
  if ¬ s.on SDCTL.EN i then s.wr SDSTAT.RUN 0 i
  else if ¬ was then
    ((s.modSd i (fun u => { u with
        count := 0, blk := 0, recs := u.recs.map (fun r => { r with old := true }), win := [], fgot := 0, run := 0,
        good := 0, last := s.now, wordAt := s.now, changes := [] })).wr SDSEQ.COUNT 0 i).sdTake i (s.sdSet i)
  else if changed then s.modSd i (fun u => { u with changes := u.changes ++ [s.sdSet i] })
  else s

/-- A write of SDCTL: one that changes neither CMODE nor CLK resets nothing (R219, notes/assumptions/156.md). -/
def State.sdctlWrite (s : State) (i : Nat) (w : Word) : State :=
  let old := s.sdSet i
  let was := s.on SDCTL.EN i
  let s := s.plainWrite (SDCTL.WHOLE.adr i 0) w
  s.sdChange i was (old.cmode != s.rd SDCTL.CMODE i || old.clk != s.rd SDCTL.CLK i)

/-- A write of SDFILT: D from 4 to 1,024; a write resets the filter even where nothing changes (R218, R219). -/
def State.sdfiltWrite (s : State) (i : Nat) (w : Word) : State :=
  let d := SDFILT.DEC.of w
  let s := (s.plainWrite (SDFILT.WHOLE.adr i 0) w).wr SDFILT.DEC (if d < 4 then 4 else if 1024 < d then 1024 else d) i
  if s.on SDCTL.EN i then s.sdChange i true true else s

/-- A write of SDFAST with its stored limits; a filter switched off reads 0, and comparator `i` decides on that (R221). -/
def State.sdfastWrite (s : State) (i : Nat) (w : Word) : State :=
  let d := SDFAST.DEC.of w
  let s := s.wrs i [(SDFAST.EN, SDFAST.EN.of w), (SDFAST.ORD, if SDFAST.ORD.of w = 3 then 2 else SDFAST.ORD.of w),
    (SDFAST.DEC, if d < 4 then 4 else if 32 < d then 32 else d)]
  if s.on SDFAST.EN i then s else (s.modSd i (fun u => { u with fast := 0, fgot := 0 })).fastRaw i

/-- A write of SDFTHR: comparator `i` decides on the fast word again (R221). -/
def State.sdfthrWrite (s : State) (i : Nat) (w : Word) : State := (s.plainWrite (SDFTHR.WHOLE.adr i 0) w).fastRaw i

/-- A write of ANCTL: the modulator clocks run from their release on; clearing EN clears every comparator output and latch, and
READY, and what the converters have waiting is MISSED (R204). -/
def State.anctlWrite (s : State) (w : Word) : State :=
  let was := s.on ANCTL.EN
  let clk := s.on ANCTL.MCLKEN
  let s := s.plainWrite (ANCTL.WHOLE.adr 0 0) w
  let s := if s.on ANCTL.MCLKEN ∧ ¬ clk then
      (upFrom 0 64).foldl (fun s j => if s.on MCLKCTL.EN 0 j then s.modMclk j (fun m => { m with from_ := s.now }) else s) s
    else s
  if s.on ANCTL.EN ∨ ¬ was then s
  else
    let s := (upFrom 0 256).foldl (fun s k => if s.reg (KSTAT.WHOLE.adr k 0) = 0x03FF0000 ∧ (s.kc k) = KComp.init then s else s.kForce0 k) s
    (upFrom 0 16).foldl (fun s i => s.sarMiss i) (s.wr ANSTAT.READY 0)

/-- The dividers written reach the clocks at a beacon, and their inputs are reset (R216, R219). -/
def State.mclkBeacon (s : State) : State :=
  (upFrom 0 64).foldl (fun s j =>
    let d := s.rd MCLKCTL.DIV 0 j
    if d = s.mclkDiv j then s
    else
      let s := s.modMclk j (fun m => { m with div := d })
      (upFrom 0 256).foldl (fun s i =>
        if (s.sdU i).clk = j ∧ (s.sdU i).cmode ≠ 1 ∧ s.on SDCTL.EN i then s.sdReset i else s) s) s

/-! ### The meanings -/

def execAnalogReady (t : Nat) (s : State) : Out := s.ran true ((s.advance t).analogReady)

def execComparatorCrossing (t k nv : Nat) (s : State) : Out := s.ran (k < 256) ((s.advance t).kCross k nv)

def execKclrClr (t : Nat) (src : Src) (k : Nat) (val : Word) (s : State) : Out :=
  s.ran (src.ok && decide (k < 256)) ((s.advance t).authWrite src (KCLR.WHOLE.adr k 0) (val ||| 0x80000000) (·.kClear k true))

/-- SAR_TRIGGER: one trigger of the configured source, whose instant T the source has announced (R211). -/
def State.sarTriggerBy (s : State) (i : Nat) : State :=
  match (s.sarU i).trigs with
  | at_ :: r => (s.modSar i (fun u => { u with trigs := r })).sarTrigger i at_
  | [] => s

def execSarTrigger (t i : Nat) (s : State) : Out := s.ran (i < 16) ((s.advance t).sarTriggerBy i)

def execSarswGo (t : Nat) (src : Src) (i : Nat) (val : Word) (s : State) : Out :=
  s.ran (src.ok && decide (i < 16)) ((s.advance t).authWrite src (SARSW.WHOLE.adr i 0) (val ||| 0x80000000) (fun s => s.sarAccept i (s.now + ns 100) false))

def execSarConversion (t i nv : Nat) (s : State) : Out := s.ran (i < 16) ((s.advance t).sarConvert i nv)

def execSampleRecordAck (t : Nat) (sd : Bool) (i : Nat) (err : Ecc) (s : State) : Out :=
  s.ran (if sd then i < 256 else i < 16) ((s.advance t).sampleAck sd i err)

def execSdWord (t i : Nat) (bits : List RxBit) (s : State) : Out := s.ran (i < 256) ((s.advance t).sdWord i bits)

def execSdConfigApply (t i : Nat) (s : State) : Out := s.ran (i < 256) ((s.advance t).sdApply i)

def execModulatorFault (t i : Nat) (bits : List RxBit) (viol : Bool) (s : State) : Out :=
  s.ran (i < 256) ((s.advance t).modFault i bits viol)

def execModulatorFaultClear (t i : Nat) (bits : List RxBit) (s : State) : Out :=
  s.ran (i < 256) ((s.advance t).modFaultClear i bits)

def execSdFastWord (t i : Nat) (bits : List RxBit) (s : State) : Out := s.ran (i < 256) ((s.advance t).fastWord i bits)

end Sys2Proof.Machine
end

