-- ==== Sys2Proof/Machine/Suspect.lean ====
section
/-! DEFINITION. Isolated and suspect gondolas, and requests for takeovers (R19, R335, R336, R338, R340). -/
namespace Sys2Proof.Machine
open Reg

/-- The logical gondola that physical gondola `p` serves (R5, R6). -/
def State.logOf (s : State) (p : Nat) : Option Nat := (upFrom 0 64).find? (fun g => s.phys g == p)

/-- An engine that stops being eligible leaves the count of R125. -/
def State.mcLeave (s : State) (p : Nat) : State :=
  if s.mcWait.contains p then
    let w := s.mcWait.filter (· != p)
    let s := ({ s with mcWait := w }).wr MCLDSTAT.PENDING w.length
    if w.isEmpty then (s.wr MCLDSTAT.DONE 1).raise 7689 (s.rd MCLDSTAT.VERSION) else s
  else s

/-- A request joins the queue, COLD ahead of WARM, or is refused (R336). -/
def State.sprAsk (s : State) (q : SprReq) : State :=
  if s.sprQ.any (fun r => r.log == q.log) then s.wr SPRSTAT.LASTRES 4
  else if 4 ≤ s.sprQ.length then s.wr SPRSTAT.LASTRES 3
  else if q.cold then { s with sprQ := s.sprQ.filter (·.cold) ++ [q] ++ s.sprQ.filter (fun r => !r.cold) }
  else { s with sprQ := s.sprQ ++ [q] }

/-- Physical gondola `p` enters SUSPECT; the third entry since reset retires it (R335, R340). -/
def State.enterSuspect (s : State) (p : Nat) : State :=
  let k := s.suspEnt.get (fun _ => 0) p + 1
  let s := { s with suspEnt := s.suspEnt.set (fun _ => 0) p k }
  if 3 ≤ k then ((s.wr PHEALTH.STATE 5 0 p).mcLeave p).raise 7815 p else s.wr PHEALTH.STATE 3 0 p

/-- A WARM takeover in progress is aborted with a result code; the target returns to SPARE unless it failed (R338). -/
def State.tkoAbort (s : State) (res : Nat) (failed : Bool) : State :=
  match s.tko with
  | none => s
  | some k =>
    let s := { s with tko := none }
    let s := (s.wr LMAP.SHADOW 0 0 k.log).wr PHEALTH.STATE 1 0 k.tgt
    let s := s.wr SPRSTAT.LASTRES res
    let s := if failed then s.enterSuspect k.tgt else s
    s.raise 7812 (res % 8 * 2 ^ 29 + k.log * 2 ^ 22 + s.rd SPRSTAT.MISM * 2 ^ 8 + k.tgt)

/-- A marking is counted and reported with its cause (R335). -/
def State.suspMark (s : State) (p cause : Nat) : State :=
  let s := (s.cnt PHEALTH.SUSPCNT 1 0 p).wr PHEALTH.LASTSUSP cause 0 p
  s.raise 7814 (cause * 2 ^ 22 + s.rd PHEALTH.SUSPCNT 0 p * 2 ^ 16 + p)

/-- Physical gondola `p` is marked suspect with a cause of PHEALTH.LASTSUSP: one that serves stays ACTIVE until its
handover, any other enters SUSPECT at once (R335). -/
def State.suspect (s : State) (p cause : Nat) : State :=
  let s := s.suspMark p cause
  let st := s.rd PHEALTH.STATE 0 p
  if st = 0 then
    let s := { s with rel := { s.rel with marked := if s.rel.marked.contains p then s.rel.marked else s.rel.marked ++ [p] } }
    match s.logOf p with
    | none => s
    | some g =>
      if 1 ≤ cause ∧ cause ≤ 3 ∧ s.on RELCTL.AUTOWARM then s.sprAsk ⟨false, false, true, g, 127⟩
      else if cause = 4 ∧ s.on RELCTL.AUTOCOLD ∧ ¬ s.tko.any (fun k => k.log == g) then s.sprAsk ⟨true, false, true, g, 127⟩
      else s
  else if st = 5 ∨ st = 2 then s else s.enterSuspect p

/-- A gondola's port has been isolated: it is suspect, it leaves the count of R125, and a WARM takeover that needs it is
aborted (R335, R336, R338). -/
def State.gondolaIsolated (s : State) (p : Nat) : State :=
  let s := s.mcLeave p
  match s.tko with
  | none => s.suspect p 4
  | some k =>
    if k.tgt = p then (s.suspect p 6).tkoAbort 2 true
    else if k.src = p then
      let (v, s) := s.fresh
      let s := (s.suspect p 4).tkoAbort v false
      if s.on RELCTL.AUTOCOLD then s.sprAsk ⟨true, false, true, k.log, k.tgt⟩ else s
    else s.suspect p 4

/-- A mesh handshake stays incomplete for 10 µs: the port is isolated, and a gondola behind it is suspect (R19, R335). -/
def State.watchdogExpiry (s : State) (port : Nat) : State :=
  if s.isolated port then s
  else
    let s := s.watchdogIsolate port
    if port < 68 then s.gondolaIsolated port else s

def execHandshakeWatchdogExpiry (t port : Nat) (s : State) : Out := s.ran (port ≤ 212) ((s.advance t).watchdogExpiry port)

end Sys2Proof.Machine
end

