-- ==== Sys2Proof/Machine/Fabric.lean ====
section
/-! DEFINITION. The event fabric: routers, tables, the coherence pass and invalidation (R127 to R138, R153). -/
namespace Sys2Proof.Machine
open Reg

/-! ### The tables (R131 to R133) -/

/-- A table entry of `n` bytes at a shared address, read in one access by the agent at a port; none where the read fails
(R133, R135), as it does behind the reader's own isolated port (R20, notes/assumptions/139.md). -/
def State.tableRead (s : State) (port a n : Nat) (err : Ecc) : State × Option (List Byte) :=
  if s.isolated port then (s, none)
  else
    let (s, st, d) := s.sramReadBy .jtag a n err
    (s, if st = .ok then some d else none)

/-- The address of the route entry of event `id` (R131). -/
def State.routeAdr (s : State) (id : Nat) : Nat := s.rd ROUTEBASE.BASE * 2 ^ 16 + 8 * id

/-- The address of the descriptor of channel `n` (R132). -/
def State.descAdr (s : State) (n : Nat) : Nat := s.rd CHDBASE.BASE * 2 ^ 14 + 16 * n

/-- Word `i` of a table entry. -/
def entryWord (d : List Byte) (i : Nat) : Nat := ofBytes ((d.drop (4 * i)).take 4)

/-- Whether a reserved bit of a route entry is set (R131). -/
def routeBad (w0 w1 : Nat) : Bool := bitAt w0 28 || bitAt w0 11 || w1 / 2 ^ 18 != 0

/-! ### Delivery (R129, R131, R135) -/

/-- The event record of an event (R288), but for its QSEQ, which the queue gives. -/
def evRecord (ev : Ev) (deliver : Nat) : List Nat :=
  [ev.ts % 2 ^ 32, ev.ts / 2 ^ 32 % 2 ^ 32, ev.detail, ev.id * 2 ^ 16 + b2n ev.tq * 2 ^ 15 + b2n ev.coinc * 2 ^ 14, 0, 0,
   deliver % 2 ^ 32, deliver / 2 ^ 32 % 2 ^ 32]

/-- The port from which an event travels to its targets (R18); one of the tether without a port of its own travels from the
first. -/
def State.fromPort (s : State) (ev : Ev) : Nat := (s.evPort ev).getD 197

/-- Whether an event is discarded on its way to another agent, behind its gondola's isolated port (R20). -/
def State.evLost (s : State) (ev : Ev) : Bool := decide (ev.id < 6144) && s.isolated (s.phys (ev.id / 96))

/-- An event is delivered to a task input, or lost where the gondola's port is isolated (R131, R135). Its own scheduler an
event of a channel reaches without the mesh (R17). -/
def State.toTask (s : State) (ev : Ev) (w0 : Nat) : State :=
  let g := bitsAt w0 22 6
  if ev.id < 6144 ∧ s.phys (ev.id / 96) = s.phys g then
    { s with fab := { s.fab with arrivals := s.fab.arrivals ++ [⟨s.fromPort ev, g, bitsAt w0 16 6, bitsAt w0 12 4, ev⟩] } }
  else if s.evLost ev then s
  else if s.isolated (s.phys g) then s.cnt UNROUTED.COUNT
  else
    let a : Arrival := ⟨s.fromPort ev, g, bitsAt w0 16 6, bitsAt w0 12 4, ev⟩
    { s with fab := { s.fab with arrivals := s.fab.arrivals ++ [a] } }

/-- The function whose range holds device vector `v` (R270, R290). -/
def State.vecOwner (s : State) (v : Nat) : Option Nat :=
  (upFrom 0 17).find? (fun f => decide (s.rd FNVR.VFIRST f ≤ v ∧ v < s.rd FNVR.VFIRST f + s.rd FNVR.VCNT f))

/-- A vector is requested, or the request is lost (R135, R290). -/
def State.toVector (s : State) (v : Nat) : State :=
  if s.isolated 196 then s.cnt UNROUTED.COUNT
  else match s.vecOwner v with
    | none => s.cnt UNROUTED.COUNT
    | some f => if s.vecReq.contains (f, v) then s else { s with vecReq := s.vecReq ++ [(f, v)] }

/-- COINC is set in the last event record that waits in the queue engine (R24, R288). -/
def coincLast (l : List QRec) : List QRec :=
  match l.getLast? with
  | some r => if r.kind = .event then l.dropLast ++ [{ r with words := setAt r.words 3 (putBit (r.words.getD 3 0) 14 true) }] else l
  | none => l

/-- Whether the event comes from another port than the one before it at the queue engine, and less than 200 ps after it
(R24; 12 steps of 15.625 ps, notes/assumptions/35.md). -/
def State.qCoinc (s : State) (ev : Ev) : Bool :=
  s.fab.qLast.any (fun x => decide (s.now ≤ x.1 + 12) && x.2 != s.fromPort ev)

/-- An event record goes to a queue, flagged with the one before it where they came together (R24, R131, R291). -/
def State.toQueue (s : State) (ev : Ev) (q : Nat) : State :=
  if s.isolated 196 then s.cnt UNROUTED.COUNT
  else
    let c := s.qCoinc ev
    let s := if c then ({ s with qrec := coincLast s.qrec } : State).countCoinc 1 else s
    let s := { s with fab := { s.fab with qLast := some (s.now, s.fromPort ev) } }
    s.qPush ⟨q, .event, evRecord { ev with coinc := ev.coinc || c } (s.fine 0), ev.ts, 0, none, false, false⟩

/-- An event is routed by its entry (R131, R135). -/
def State.deliver (s : State) (ev : Ev) (w0 w1 : Nat) : State :=
  if routeBad w0 w1 ∨ w0 / 2 ^ 29 % 8 = 0 then s.cnt UNROUTED.COUNT
  else
    let s := if bitAt w0 31 then s.toTask ev w0 else s
    let s := if bitAt w0 30 ∧ ¬ s.evLost ev then s.toVector (bitsAt w0 0 11) else s
    if bitAt w0 29 ∧ ¬ s.evLost ev then s.toQueue ev (bitsAt w1 0 18) else s

/-! ### Routers (R134, R135) -/

def routeLines (r : Nat) : Nat := if r = 68 then 128 else 32

/-- The mesh port of a router: its gondola's; the hub has none (R15; 213 names no port). -/
def routerPort (r : Nat) : Nat := if r = 68 then 213 else r

/-- The head of the FIFO leaves it. -/
def State.popHead (s : State) (r : Nat) : State := s.modRouter r (fun x => { x with fifo := x.fifo.drop 1, fill := none })

/-- The cached route entry of an event, which is then the most recently used. -/
def State.routeHit (s : State) (r id : Nat) : Option (RLine × State) :=
  ((s.router r).route.find? (fun l => l.id = id)).map (fun l =>
    (l, s.modRouter r (fun x => { x with clock := x.clock + 1, route := x.route.map (fun m => if m.id = id then { m with used := x.clock + 1 } else m) })))

/-- The cache slot a new route entry takes: the first free one, or the least recently used (R134). -/
def Router.victim (x : Router) (n : Nat) : Nat :=
  match (upFrom 0 n).find? (fun k => !x.route.any (fun l => l.slot == k)) with
  | some k => k
  | none => (x.route.foldl (fun b l => if l.used < b.used then l else b) (x.route.headD ⟨0, 0, 0, 0, 0⟩)).slot

def Router.addRoute (x : Router) (n id w0 w1 : Nat) : Router :=
  let k := x.victim n
  { x with clock := x.clock + 1, route := x.route.filter (fun l => l.slot != k) ++ [⟨k, id, w0, w1, x.clock + 1⟩] }

def Router.addDesc (x : Router) (ch : Nat) (words : List Nat) : Router :=
  { x with desc := x.desc.filter (fun d => d.ch != ch) ++ [⟨ch, words⟩] }

/-- The head is routed by the cached entry, or waits for a fill of it. -/
def State.routeStep (s : State) (r : Nat) (ev : Ev) : State :=
  match s.routeHit r ev.id with
  | some (l, s) => (s.popHead r).deliver ev l.w0 l.w1
  | none => s.modRouter r (fun x => { x with fill := some false })

/-- ROUTER_ROUTE_EVENT: the router takes the event at the head of its FIFO (R134, R135). -/
def State.routeHead (s : State) (r : Nat) : State :=
  let x := s.router r
  match x.fifo, x.fill with
  | (ev, gate) :: _, none =>
    if ¬ s.on EFCTL.EN then (s.popHead r).cnt UNROUTED.COUNT
    else if gate then
      match x.gated ev.id with
      | none => s.modRouter r (fun x => { x with fill := some true })
      | some true => s.popHead r
      | some false => (s.exportEv ev).routeStep r ev
    else s.routeStep r ev
  | _, _ => s

/-- ROUTER_FILL_DONE: the read of a missing line completes; the held event is routed, discarded, or waits for its route
entry (R132, R134, R135). -/
def State.fillDone (s : State) (r : Nat) (err : Ecc) : State :=
  let x := s.router r
  match x.fifo, x.fill with
  | (ev, _) :: rest, some desc =>
    if ¬ s.on EFCTL.EN then (s.popHead r).cnt UNROUTED.COUNT
    else if desc then
      match s.tableRead (routerPort r) (s.descAdr (ev.id / 6)) 16 err with
      | (s, none) => (s.popHead r).cnt UNROUTED.COUNT
      | (s, some d) =>
        let s := s.modRouter r (fun x => x.addDesc (ev.id / 6 % 16) ((upFrom 0 4).map (entryWord d)))
        if bitAt (entryWord d 0) (ev.id % 6) then
          ((s.modRouter r (fun x => { x with fifo := (ev, false) :: rest, fill := none })).exportEv ev).routeStep r ev
        else s.popHead r
    else
      match s.tableRead (routerPort r) (s.routeAdr ev.id) 8 err with
      | (s, none) => (s.popHead r).cnt UNROUTED.COUNT
      | (s, some d) =>
        let s := s.modRouter r (fun x => x.addRoute (routeLines r) ev.id (entryWord d 0) (entryWord d 1))
        (s.popHead r).deliver ev (entryWord d 0) (entryWord d 1)
  | _, _ => s

/-! ### The coherence pass (R136, R137) -/

/-- A stale line has been replaced. -/
def State.stale (s : State) (typ r index : Nat) : State :=
  let s := s.cnt STALECNT.COUNT
  s.raise 7691 (typ * 2 ^ 30 + (if r = 68 then 2 ^ 23 else (s.logOf r).getD 0 * 2 ^ 24) + index)

/-- The visit of a descriptor line (R137). -/
def State.visitDesc (s : State) (r c : Nat) (err : Ecc) : State :=
  match (s.router r).desc.find? (fun d => d.ch = c) with
  | none => s
  | some d =>
    let n := 16 * (s.logOf r).getD 0 + c
    match s.tableRead 211 (s.descAdr n) 16 err with
    | (s, none) => s.modRouter r (fun x => { x with desc := x.desc.filter (fun d => d.ch != c) })
    | (s, some b) =>
      let ws := (upFrom 0 4).map (entryWord b)
      if ws = d.words then s else (s.modRouter r (fun x => x.addDesc c ws)).stale 1 r n

/-- The visit of a route line (R137). -/
def State.visitRoute (s : State) (r k : Nat) (err : Ecc) : State :=
  match (s.router r).route.find? (fun l => l.slot = k) with
  | none => s
  | some l =>
    match s.tableRead 211 (s.routeAdr l.id) 8 err with
    | (s, none) => s.modRouter r (fun x => { x with route := x.route.filter (fun m => m.slot != k) })
    | (s, some b) =>
      let w0 := entryWord b 0
      let w1 := entryWord b 1
      if w0 = l.w0 ∧ w1 = l.w1 then s
      else (s.modRouter r (fun x => { x with route := x.route.map (fun m => if m.slot = k then { m with w0 := w0, w1 := w1 } else m) })).stale 0 r l.id

/-- A sweep completes and the next one starts (R137). -/
def State.sweepEnd (s : State) : State :=
  let d := (s.now - s.fab.cohFrom) / us 1
  let late := decide (us 4200 < s.now - s.fab.cohFrom)
  let s := { s with fab := { s.fab with cohLine := 0, cohFrom := s.now } }
  let s := s.wr COHSTAT.LASTSWEEP (satTo 0xFFFFFF d)
  if late then (s.wr COHSTAT.LATE 1).raise 7692 (satTo 0xFFFFFF d) else s

/-- COHERENCE_VISIT: the pass visits the line whose turn it is (R137). -/
def State.cohVisit (s : State) (err : Ecc) : State :=
  if ¬ s.on BOOTSTAT.DONE then s
  else
    let n := s.fab.cohLine
    let s :=
      if n < 3264 then (if n % 48 < 16 then s.visitDesc (n / 48) (n % 48) err else s.visitRoute (n / 48) (n % 48 - 16) err)
      else s.visitRoute 68 (n - 3264) err
    if n = 3391 then s.sweepEnd else { s with fab := { s.fab with cohLine := n + 1 } }

/-! ### Invalidation (R138) and EFCTL -/

/-- A write of INVAL. -/
def State.invalWrite (s : State) (typ index : Nat) : State :=
  if s.fab.inval.isSome then s.wr INVALSTAT.REFUSED 1
  else ({ s with fab := { s.fab with inval := some (typ, index) } }).wr INVALSTAT.BUSY 1

/-- The matching lines of every router are dropped. -/
def Router.inval (x : Router) (r typ index : Nat) (phys : Nat → Nat) : Router :=
  match typ with
  | 0 => { x with route := x.route.filter (fun l => l.id != index) }
  | 1 => if index < 1024 ∧ phys (index / 16) = r then { x with desc := x.desc.filter (fun d => d.ch != index % 16) } else x
  | 2 => { x with route := [] }
  | _ => { x with desc := [] }

def State.invalDone (s : State) : State :=
  match s.fab.inval with
  | none => s
  | some (typ, index) =>
    let s := (upFrom 0 69).foldl (fun s r => s.modRouter r (fun x => x.inval r typ index s.phys)) s
    (({ s with fab := { s.fab with inval := none } }).wr INVALSTAT.BUSY 0).inc INVALSTAT.DONECNT

/-- A write of EFCTL; clearing EN empties every router cache (R153). -/
def State.efctlWrite (s : State) (w : Word) : State :=
  let en := EFCTL.EN.of w
  let s := s.wr EFCTL.EN en
  if en = 0 then (upFrom 0 69).foldl (fun s r => s.modRouter r (fun x => { x with desc := [], route := [] })) s else s

/-- A write of ROUTEBASE or CHDBASE: ignored above the greatest base, and while EFCTL.EN is 1 (R153). -/
def State.routebaseWrite (s : State) (w : Word) : State :=
  if s.on EFCTL.EN ∨ 0x17F < ROUTEBASE.BASE.of w then s else s.wr ROUTEBASE.BASE (ROUTEBASE.BASE.of w)

def State.chdbaseWrite (s : State) (w : Word) : State :=
  if s.on EFCTL.EN ∨ 0x5FF < CHDBASE.BASE.of w then s else s.wr CHDBASE.BASE (CHDBASE.BASE.of w)

/-! ### The meanings -/

def execRouterRouteEvent (t r : Nat) (s : State) : Out := s.ran (r < 69) ((s.advance t).routeHead r)

def execRouterFillDone (t r : Nat) (err : Ecc) (s : State) : Out := s.ran (r < 69) ((s.advance t).fillDone r err)

def execCoherenceVisit (t : Nat) (err : Ecc) (s : State) : Out := s.ran true ((s.advance t).cohVisit err)

def execInvalRouteEntry (t : Nat) (src : Src) (index : Nat) (s : State) : Out :=
  s.ran (src.ok && decide (index < 8192)) ((s.advance t).authWrite src (INVAL.WHOLE.adr 0 0) (BitVec.ofNat 32 (0 * 2 ^ 30 + index)) (·.invalWrite 0 index))

def execInvalDescriptor (t : Nat) (src : Src) (index : Nat) (s : State) : Out :=
  s.ran (src.ok && decide (index < 8192)) ((s.advance t).authWrite src (INVAL.WHOLE.adr 0 0) (BitVec.ofNat 32 (1 * 2 ^ 30 + index)) (·.invalWrite 1 index))

def execInvalAllRoutes (t : Nat) (src : Src) (s : State) : Out :=
  s.ran src.ok ((s.advance t).authWrite src (INVAL.WHOLE.adr 0 0) (BitVec.ofNat 32 (2 * 2 ^ 30)) (·.invalWrite 2 0))

def execInvalAllDescriptors (t : Nat) (src : Src) (s : State) : Out :=
  s.ran src.ok ((s.advance t).authWrite src (INVAL.WHOLE.adr 0 0) (BitVec.ofNat 32 (3 * 2 ^ 30)) (·.invalWrite 3 0))

def execInvalDone (t : Nat) (s : State) : Out := s.ran true (s.advance t).invalDone

def execEfctlEnWrite (t : Nat) (src : Src) (val : Word) (s : State) : Out :=
  s.ran src.ok ((s.advance t).authWrite src (EFCTL.WHOLE.adr 0 0) val (·.efctlWrite val))

end Sys2Proof.Machine
end

