-- ==== Sys2Proof/Machine/Queue.lean ====
section
/-! DEFINITION. The queue engine: host writes, queue contexts, doorbells, records, interrupts (R285 to R291). -/
namespace Sys2Proof.Machine
open Reg

/-! ### Host writes -/

/-- Bytes in pieces of at most `n` (R269, R281). -/
def pieces : Nat → Nat → List Byte → List (List Byte)
  | 0, _, _ => []
  | k + 1, n, d => if d.isEmpty then [] else d.take n :: pieces k n (d.drop n)

/-- A write to host memory is sent; it is kept until it is acknowledged (R282, R294). -/
def State.hostPut (s : State) (addr : Nat) (data : List Byte) (org : HOrg) : State :=
  { s with host := { s.host with out := s.host.out ++ [⟨addr % 2 ^ 48, data, org⟩] } }

/-- The bytes of a list of 32-bit words in host memory, the least significant first. -/
def hostBytes (ws : List Nat) : List Byte := ws.flatMap (toBytes 4)

/-! ### Contexts (R285, R286) -/

/-- The function whose FNQR covers queue `q` (R278, R285). -/
def State.qFunc (s : State) (q : Nat) : Option Nat :=
  (upFrom 0 17).find? (fun f => decide (s.rd FNQR.QFIRST f ≤ q / 1024 ∧ q / 1024 < s.rd FNQR.QFIRST f + s.rd FNQR.QCNT f))

/-- The host address of the context of queue `q` of function `f` (R285). -/
def State.ctxAdr (s : State) (f q : Nat) : Nat :=
  s.rd FNQBASE_LO.ADDR f * 64 + s.rd FNQBASE_HI.ADDR f * 2 ^ 32 + 64 * (q - 1024 * s.rd FNQR.QFIRST f)

/-- The device-owned words of a context are written back (R286). -/
def State.ctxBack (s : State) (q : Nat) : State :=
  match s.qFunc q with
  | none => s
  | some f =>
    let c := s.qc q
    s.hostPut (s.ctxAdr f q + 0x20) (hostBytes [c.prod, c.cons, c.lost, c.qseq]) (.ctx q)

/-- The host-owned words of a context. -/
def QCtx.load (c : QCtx) (w : Nat → Nat) : QCtx := { c with
  kind := bitsAt (w 0) 29 2, isen := bitAt (w 0) 28, vector := bitsAt (w 0) 16 11, icount := bitsAt (w 0) 8 8,
  log2 := bitsAt (w 0) 0 5, itime := bitsAt (w 1) 0 16, base := bitsAt (w 2) 12 20 * 4096 + bitsAt (w 3) 0 16 * 2 ^ 32,
  prodwb := bitsAt (w 4) 2 30 * 4 + bitsAt (w 5) 0 16 * 2 ^ 32, resen := bitAt (w 6) 31, resq := bitsAt (w 6) 0 18 }

/-- Whether a reserved bit of a context is set (R285). -/
def ctxReserved (w : Nat → Nat) : Bool :=
  bitAt (w 0) 31 || bitAt (w 0) 27 || bitsAt (w 0) 5 3 != 0 || bitsAt (w 1) 16 16 != 0 || bitsAt (w 2) 0 12 != 0 ||
  bitsAt (w 3) 16 16 != 0 || bitsAt (w 4) 0 2 != 0 || bitsAt (w 5) 16 16 != 0 || bitsAt (w 6) 18 13 != 0 || w 7 != 0 ||
  w 12 != 0 || w 13 != 0 || w 14 != 0 || w 15 != 0

/-- The check of a context at ENABLE for function `f` (R286); KIND 3 names no kind of queue (R285). -/
def State.ctxOk (s : State) (f : Nat) (w : Nat → Nat) : Bool :=
  let c := QCtx.init.load w
  !ctxReserved w && decide (4 ≤ c.log2 ∧ c.log2 ≤ 20 ∧ c.vector < s.rd FNVR.VCNT f ∧ c.kind ≠ 3) &&
  (!c.resen || s.qFunc c.resq == some f)

/-- The cached context longest unused, other than `q` (R286). -/
def leastUsed (q : Nat) : Store QCtx → Option (Nat × Nat)
  | [] => none
  | (k, c) :: r =>
    let b := leastUsed q r
    if c.cached && k != q then
      match b with
      | some (k', u') => if c.used ≤ u' then some (k, c.used) else some (k', u')
      | none => some (k, c.used)
    else b

/-- A context enters the cache of 4,096 as the one used last; the one longest unused leaves it with its device-owned words
written back (R286). -/
def State.ctxUse (s : State) (q : Nat) : State :=
  let n := s.host.clock + 1
  let s := { s with host := { s.host with clock := n } }
  let s := s.modQc q (fun c => { c with cached := true, used := n })
  if (s.host.q.filter (fun e => e.2.cached)).length ≤ 4096 then s
  else match leastUsed q s.host.q with
    | none => s
    | some (v, _) => (s.modQc v (fun c => { c with cached := false })).ctxBack v

/-- A queue stops: its device-owned words are written back and it leaves the cache (R286, R272). -/
def State.qStop (s : State) (q : Nat) : State :=
  let s := (s.ctxBack q).modQc q (fun c => { c with en := false, cached := false, wat := none })
  { s with host := { s.host with qfetch := s.host.qfetch.filter (· != q) } }

/-- A write of QCMD with code `op` for queue `q` (R286). -/
def State.qcmd (s : State) (src : Src) (op q : Nat) : State :=
  if s.pw.gnd then s
  else if s.holds src 0x401000 then s.hold (.write src 0x401000 4 (BitVec.ofNat 32 (op * 2 ^ 29 + q)))
  else if s.on QCMDSTAT.BUSY ∨ src.hostFn = none ∨ s.qFunc q ≠ src.hostFn then s
  else if op = 1 ∨ op = 3 then { s with host := { s.host with qcmd := some (op, q) } }.wr QCMDSTAT.BUSY 1
  else if op = 2 then s.qStop q
  else s

/-- A context event of queue `q` at most once per ms (R291). -/
def State.ctxErr (s : State) (q : Nat) : State :=
  if (s.qc q).errAt.all (fun a => a + ms 1 ≤ s.now) then
    (s.modQc q (fun c => { c with errAt := some s.now })).raise 7489 q
  else s

/-- The context of the queue that ENABLE named arrives (R286). -/
def State.enableCtx (s : State) (q : Nat) (st : Cpl) (w : Nat → Nat) : State :=
  let s := { s with host := { s.host with qcmd := none } }.wr QCMDSTAT.BUSY 0
  if st = .ok ∧ (s.qFunc q).any (fun f => s.ctxOk f w) then
    ((s.modQc q (fun _ => { QCtx.init.load w with en := true })).ctxUse q).wr QCMDSTAT.ERR 0
  else (s.wr QCMDSTAT.ERR 1).raise 7489 q

/-- A context read from host memory arrives (R286). -/
def State.ctxFetched (s : State) (q : Nat) (st : Cpl) (words : List Nat) : State :=
  let w := fun i => words.getD i 0
  if ¬ s.host.up then s
  else if s.host.qcmd = some (1, q) then s.enableCtx q st w
  else if s.host.qcmd = some (3, q) then
    let s := { s with host := { s.host with qcmd := none } }.wr QCMDSTAT.BUSY 0
    if st = .ok then s.modQc q (·.load w) else s
  else if s.host.qfetch.contains q then
    let s := { s with host := { s.host with qfetch := s.host.qfetch.filter (· != q) } }
    if st = .ok ∧ (s.qc q).en then (s.modQc q (·.load w)).ctxUse q else s
  else s

/-! ### Doorbells (R287) -/

/-- The size of a queue's ring. -/
def QCtx.size (c : QCtx) : Nat := 2 ^ c.log2

/-- PROD − CONS, wrapping. -/
def QCtx.fill (c : QCtx) : Nat := (c.prod + 2 ^ 32 - c.cons) % 2 ^ 32

/-- Commands published and not consumed (R287, R292). -/
def QCtx.waiting (c : QCtx) : Nat := (c.cons + 2 ^ 32 - c.prod) % 2 ^ 32

/-- A doorbell value of an enabled queue: CONS moves on within what was produced, or the published count moves on within
the ring (R287). -/
def QCtx.ring (c : QCtx) (v : Nat) : Option QCtx :=
  if ¬ c.en then none
  else if c.kind = 2 then
    let n := (v + 2 ^ 32 - c.prod) % 2 ^ 32
    if c.waiting ≤ n ∧ n ≤ c.size then some { c with cons := v } else none
  else
    let n := (v + 2 ^ 32 - c.cons) % 2 ^ 32
    if n ≤ c.fill then
      let c := { c with cons := v }
      some { c with full := decide (c.fill = c.size) }
    else none

/-- A doorbell write of queue `q` (R287). -/
def State.doorbell (s : State) (src : Src) (q v : Nat) : State :=
  if s.pw.gnd then s
  else if s.holds src 0x440000 then s.hold (.write src (0x440000 + 4 * q) 4 (BitVec.ofNat 32 v))
  else if src.hostFn = none ∨ s.qFunc q ≠ src.hostFn then s.authDropAs src src.code 0x1FF (0x440000 + 4 * q)
  else match (s.qc q).ring v with
    | some c => s.modQc q (fun _ => c)
    | none => s.raise 7489 q

/-! ### Interrupts (R290) -/

/-- Device vector `v` of function `f` is requested; a request that waits merges with it. -/
def State.vecAsk (s : State) (f v : Nat) : State :=
  if s.vecReq.contains (f, v) then s else { s with vecReq := s.vecReq ++ [(f, v)] }

/-- The interrupt of queue `q`: its records count as signalled. -/
def State.qIrq (s : State) (q : Nat) : State :=
  let s := s.modQc q (fun c => { c with unsig := 0 })
  match s.qFunc q with
  | none => s
  | some f => s.vecAsk f (s.rd FNVR.VFIRST f + (s.qc q).vector)

/-- The entry of device vector `v`. -/
def State.msix (s : State) (v : Nat) : MsixE := s.host.msix.get (fun _ => MsixE.init) v

def State.modMsix (s : State) (v : Nat) (f : MsixE → MsixE) : State :=
  { s with host := { s.host with msix := s.host.msix.set (fun _ => MsixE.init) v (f (s.msix v)) } }

/-- One message of device vector `v`. -/
def State.msixSend (s : State) (v : Nat) : State :=
  s.hostPut (s.msix v).addr (toBytes 4 (s.msix v).data) (.msix v)

/-- MSIX_REQUEST: a request of a vector sends its message, or sets the pending bit of a masked one (R290). -/
def State.msixAsked (s : State) (f v : Nat) : State :=
  if ¬ s.host.up ∨ ¬ s.vecReq.contains (f, v) then s
  else
    let s := { s with vecReq := s.vecReq.filter (· != (f, v)) }
    if (s.msix v).mask then s.modMsix v (fun e => { e with pend := true }) else s.msixSend v

/-- A word of an entry: Message Address, Message Upper Address, Message Data, Vector Control. -/
def MsixE.word (e : MsixE) (i w : Nat) : MsixE :=
  match i with
  | 0 => { e with addr := putBits e.addr 2 30 (w / 4) }
  | 1 => { e with addr := putBits e.addr 32 32 w }
  | 2 => { e with data := w % 2 ^ 32 }
  | _ => { e with mask := bitAt w 0 }

/-- What a word of an entry reads. -/
def MsixE.read (e : MsixE) (i : Nat) : Nat :=
  match i with
  | 0 => e.addr % 2 ^ 32
  | 1 => e.addr / 2 ^ 32
  | 2 => e.data
  | _ => b2n e.mask

/-- A write to the MSI-X table of the writer's function: `off` is the offset in the table (R290). -/
def State.msixWrite (s : State) (src : Src) (off : Nat) (words : List Nat) : State :=
  match src.hostFn with
  | none => s
  | some f =>
    if s.pw.gnd then s
    else if s.holds src 0x300000 then s.hold (.msix src off words)
    else if s.rd FNVR.VCNT f ≤ off / 16 then s
    else
      let v := s.rd FNVR.VFIRST f + off / 16
      let k := off / 4 % 4
      let s := s.modMsix v (fun e => (e.word k (words.headD 0)))
      let s := if words.length = 2 then s.modMsix v (fun e => (e.word (k + 1) (words.getD 1 0))) else s
      if (s.msix v).pend ∧ ¬ (s.msix v).mask then (s.modMsix v (fun e => { e with pend := false })).msixSend v else s

/-- What a word of the MSI-X table or the Pending Bit Array of function `f` reads (R290). -/
def State.msixRead (s : State) (f off : Nat) : Nat :=
  if off < 0x8000 then
    if off / 16 < s.rd FNVR.VCNT f then (s.msix (s.rd FNVR.VFIRST f + off / 16)).read (off / 4 % 4) else 0
  else
    let i := (off - 0x8000) * 8
    (upFrom 0 32).foldl (fun a j =>
      if i + j < s.rd FNVR.VCNT f ∧ (s.msix (s.rd FNVR.VFIRST f + i + j)).pend then a + 2 ^ j else a) 0

/-! ### Movers: what the queue engine needs of them (R282, R283) -/

def State.mover (s : State) (m : Nat) : MvH := s.host.mv.get (fun _ => MvH.init) m

def State.modMv (s : State) (m : Nat) (f : MvH → MvH) : State :=
  { s with host := { s.host with mv := s.host.mv.set (fun _ => MvH.init) m (f (s.mover m)) } }

/-- Word `i` of a descriptor. -/
def MvD.at (d : MvD) (i : Nat) : Nat := d.w.getD i 0

def MvD.tag (d : MvD) : Nat := d.at 0 % 2 ^ 16
def MvD.crec (d : MvD) : Bool := bitAt (d.at 0) 27
def MvD.cev (d : MvD) : Bool := bitAt (d.at 0) 26

/-- A completion record (R288). -/
def complWords (ts status m tag ev seq cookie : Nat) : List Nat :=
  [ts % 2 ^ 32, ts / 2 ^ 32 % 2 ^ 32, status * 2 ^ 24 + m * 2 ^ 16 + tag, ev * 2 ^ 16 + 1, 0, seq, cookie, 0]

/-- The oldest descriptor of mover `m` ends in error (R283): it takes the next sequence number, its completion record
carries the status, one that was on its way goes no further (R272), and the mover executes nothing further. -/
def State.mvFail (s : State) (m code : Nat) : State :=
  let d := (s.mover m).descs.headD ⟨0, [], false, [], 0, false, 0, 0, false, 0, 0⟩
  let s := s.inc MVSEQ.SEQ 1 m
  let mine := fun r : QRec =>
    r.kind == RecKind.completion && r.src == m && (r.hold || r.words.getD 5 0 == s.rd MVSEQ.SEQ m)
  let s := { s with qrec := s.qrec.filter (fun r : QRec => !mine r) }
  let gone := fun h : HWrite => match h.org with
    | .data k => k == m
    | .record r => mine r
    | _ => false
  let s := { s with host := { s.host with
    out := s.host.out.map (fun h : HWrite => if gone h then { h with org := HOrg.data 32 } else h),
    reqs := s.host.reqs.filter (fun x => x.1 != m) } }
  let s := if d.crec ∧ code ≠ 10 ∧ code ≠ 11 then
      s.qPush ⟨bitsAt (d.at 11) 0 18, .completion, complWords s.tsInt code m d.tag (7456 + m) (s.rd MVSEQ.SEQ m) (d.at 14), s.tsInt, m,
        none, false, false⟩
    else s
  let s := s.modMv m (fun _ => MvH.init)
  let s := s.wrs m [(MVSTAT.STATE, 4), (MVSTAT.ERR, code)]
  s.raise (7456 + m) (code * 2 ^ 24 + m * 2 ^ 16 + d.tag)

/-- The first descriptor whose completion record stands at `a` has it at `b`. -/
def recStep (a b : Nat) : List MvD → List MvD
  | [] => []
  | d :: r => if d.rec_ = a then { d with rec_ := b } :: r else d :: recStep a b r

/-! ### Records (R288, R289, R291) -/

/-- Whether queue `q` takes records of this kind (R291). -/
def State.qTakes (s : State) (q : Nat) (k : RecKind) : Bool :=
  (s.qFunc q).isSome && (s.qc q).en &&
  (match k with
   | .sample => (s.qc q).kind == 1
   | _ => (s.qc q).kind == 0)

/-- A record its queue refuses is dropped and counted at its source (R291). -/
def State.qRefuse (s : State) (r : QRec) : State :=
  let s := s.ctxErr r.q
  match r.kind with
  | .event => s.cnt UNROUTED.COUNT
  | .sample => s.cnt ANSTAT.WRFAIL
  | .mark => s.raise 7491 (1 * 2 ^ 24 + r.src)
  | .completion => if (s.mover r.src).descs.any (fun d => d.rec_ == 1) then s.mvFail r.src 11 else s

/-- The words of a record as they are written: QSEQ in word 4 and REPLAY in word 3 but for samples (R288, R294). -/
def QRec.image (r : QRec) (n : Nat) : List Nat :=
  match r.kind with
  | .sample => r.words
  | _ => (r.words.set 4 n).set 3 (putBit (r.words.getD 3 0) 13 r.replay)

/-- A record is written to the next slot of its queue (R288, R289, R290). -/
def State.qWrite (s : State) (r : QRec) : State :=
  let c := s.qc r.q
  let n := r.qseq.getD c.qseq
  let size := if c.kind = 1 then 16 else 32
  let s := s.hostPut (c.base + size * (c.prod % c.size)) (hostBytes (r.image n)) (.record { r with qseq := some n })
  let c := { c with
    prod := (c.prod + 1) % 2 ^ 32, qseq := if r.qseq.isSome then c.qseq else (c.qseq + 1) % 2 ^ 32, wbDue := true,
    unsig := c.unsig + 1, oldest := if c.unsig = 0 then s.now else c.oldest }
  let full := decide (c.fill = c.size)
  let s := s.modQc r.q (fun _ => { c with full := full })
  let s := if full then s.raise 7488 r.q else s
  if c.isen ∧ c.icount + 1 ≤ c.unsig then s.qIrq r.q else s

/-- The GAP record of queue `q` (R288). -/
def QCtx.gapRec (c : QCtx) (q : Nat) : QRec :=
  ⟨q, .event, [c.gapTs % 2 ^ 32, c.gapTs / 2 ^ 32 % 2 ^ 32, c.gap % 2 ^ 32, 2, 0, 0, 0, 0], c.gapTs, 0, none, false, false⟩

/-- The first record that waits for queue `q`, and the list without it. -/
def takeRec (q : Nat) : List QRec → Option (QRec × List QRec)
  | [] => none
  | r :: l => if r.q = q then some (r, l) else (takeRec q l).map (fun x => (x.1, r :: x.2))

/-- A record leaves the buffer. -/
def State.qTake (s : State) (rest : List QRec) : State :=
  { s with qrec := rest, host := { s.host with bufFull := false } }

/-- The record at the front of its queue meets a full ring (R289). -/
def State.qFullRec (s : State) (r : QRec) (rest : List QRec) : State :=
  match r.kind with
  | .event => (s.qTake rest).qLost r.q r.ts
  | .sample => (s.qTake rest).qLost r.q r.ts
  | .completion => if s.rd MVSTAT.STATE r.src = 1 then s.wr MVSTAT.STATE 2 r.src else s
  | .mark => s

/-- QUEUE_RECORD_WRITE: queue `q` takes a GAP record that is due or the record that waits first, fetches its context where
it holds none, drops what it refuses, and meets a full ring as R289 says. -/
def State.qStep (s : State) (q : Nat) : State :=
  if ¬ s.host.up then s
  else
    let c := s.qc q
    if c.en ∧ c.cached ∧ c.gap ≠ 0 ∧ ¬ c.full ∧ c.kind = 0 ∧ (s.qFunc q).isSome then
      (s.modQc q (fun c => { c with gap := 0 })).qWrite (c.gapRec q)
    else match takeRec q s.qrec with
      | none => s
      | some (r, rest) =>
        if r.hold then s
        else if ¬ s.qTakes q r.kind then (s.qTake rest).qRefuse r
        else if ¬ c.cached then
          if s.host.qfetch.contains q then s else { s with host := { s.host with qfetch := s.host.qfetch ++ [q] } }
        else if c.full then s.qFullRec r rest
        else
          let s := ((s.qTake rest).ctxUse q).qWrite r
          if r.kind = .completion then
            let s := s.modMv r.src (fun h => { h with descs := recStep 1 2 h.descs })
            if s.rd MVSTAT.STATE r.src = 2 then s.wr MVSTAT.STATE 1 r.src else s
          else s

/-- PROD_WRITEBACK: PROD follows a run of records (R289). -/
def State.prodBack (s : State) (q : Nat) : State :=
  let c := s.qc q
  if s.host.up ∧ c.en ∧ c.wbDue then
    (s.modQc q (fun c => { c with wbDue := false })).hostPut c.prodwb (toBytes 4 c.prod) (.prodwb q)
  else s

/-- QUEUE_ITIME_EXPIRY: ITIME µs have passed since the oldest record not yet signalled (R285, R290). -/
def State.itime (s : State) (q : Nat) : State :=
  let c := s.qc q
  if c.en ∧ c.isen ∧ c.itime ≠ 0 ∧ c.unsig ≠ 0 ∧ c.oldest + us c.itime ≤ s.now then s.qIrq q else s

/-! ### The meanings -/

def execQcmdEnable (t : Nat) (src : Src) (q : Nat) (s : State) : Out := s.ran (src.ok && decide (q < 262144)) ((s.advance t).qcmd src 1 q)

def execQcmdDisable (t : Nat) (src : Src) (q : Nat) (s : State) : Out := s.ran (src.ok && decide (q < 262144)) ((s.advance t).qcmd src 2 q)

def execQcmdReload (t : Nat) (src : Src) (q : Nat) (s : State) : Out := s.ran (src.ok && decide (q < 262144)) ((s.advance t).qcmd src 3 q)

def execQueueContextFetched (t q : Nat) (st : Cpl) (words : List Nat) (s : State) : Out :=
  s.ran (q < 262144) ((s.advance t).ctxFetched q st words)

def execDoorbellWrite (t : Nat) (src : Src) (q : Nat) (val : Word) (s : State) : Out :=
  s.ran (src.ok && decide (q < 262144)) ((s.advance t).doorbell src q val.toNat)

def execQueueRecordWrite (t q : Nat) (s : State) : Out := s.ran (q < 262144) ((s.advance t).qStep q)

def execProdWriteback (t q : Nat) (s : State) : Out := s.ran (q < 262144) ((s.advance t).prodBack q)

def execQueueItimeExpiry (t q : Nat) (s : State) : Out := s.ran (q < 262144) ((s.advance t).itime q)

def execMsixRequest (t f v : Nat) (s : State) : Out := s.ran (f < 17 ∧ v < 2048) ((s.advance t).msixAsked f v)

def execMsixTableWrite (t : Nat) (src : Src) (off : Nat) (words : List Nat) (s : State) : Out :=
  s.ran (src.ok && decide (off < 0x8000 ∧ (words.length = 1 ∧ off % 4 = 0 ∨ words.length = 2 ∧ off % 8 = 0))) ((s.advance t).msixWrite src off words)

end Sys2Proof.Machine
end

