-- ==== Sys2Proof/Machine/Mover.lean ====
section
/-! DEFINITION. Movers, recovery and replay, resets of the host interface, the bridle and the host watchdog (R269 to R284,
R294). -/
namespace Sys2Proof.Machine
open Reg

/-! ### Descriptors (R280, R281) -/

/-- The function a mover works for: that of its bridle entry (R273, R281). -/
def State.mvFn (s : State) (m : Nat) : Nat :=
  if s.rd BRIDLE.OWNER 0 (352 + m) = 1 then
    (if s.rd BRIDLE.VF 0 (352 + m) = 0 then 16 else s.rd BRIDLE.VF 0 (352 + m))
  else 0

def MvD.op (d : MvD) : Nat := bitsAt (d.at 0) 28 4
def MvD.ssp (d : MvD) : Bool := bitAt (d.at 0) 24
def MvD.dsp (d : MvD) : Bool := bitAt (d.at 0) 23
def MvD.slen (d : MvD) : Nat := bitsAt (d.at 1) 0 24
def MvD.slines (d : MvD) : Nat := bitsAt (d.at 2) 0 24
def MvD.dlen (d : MvD) : Nat := bitsAt (d.at 6) 0 24
def MvD.dlines (d : MvD) : Nat := bitsAt (d.at 7) 0 24

/-- The start of source line `i`, and of destination line `i`. -/
def MvD.sAdr (d : MvD) (i : Nat) : Int := ((d.at 4 + d.at 5 % 2 ^ 16 * 2 ^ 32 : Nat) : Int) + i * toSigned 32 (d.at 3)
def MvD.dAdr (d : MvD) (i : Nat) : Int := ((d.at 9 + d.at 10 % 2 ^ 16 * 2 ^ 32 : Nat) : Int) + i * toSigned 32 (d.at 8)

/-- Whether a reserved bit of a descriptor is set (R280); the words of a FILL pattern have none. -/
def MvD.reserved (d : MvD) : Bool :=
  bitsAt (d.at 0) 16 6 != 0 || bitsAt (d.at 1) 24 8 != 0 || bitsAt (d.at 2) 24 8 != 0 || (d.op != 1 && bitsAt (d.at 5) 16 16 != 0) ||
  bitsAt (d.at 6) 24 8 != 0 || bitsAt (d.at 7) 24 8 != 0 || bitsAt (d.at 10) 16 16 != 0 || bitsAt (d.at 11) 18 14 != 0 ||
  bitsAt (d.at 12) 0 6 != 0 || bitsAt (d.at 13) 16 16 != 0 || d.at 15 != 0

/-- Whether two stretches of bytes share one. -/
def meets (a : Int) (n : Nat) (b : Int) (k : Nat) : Bool := decide (a < b + k ∧ b < a + n)

/-- Whether a line of the source shares a byte with a line of the destination in the same space. -/
def MvD.overlap (d : MvD) : Bool :=
  d.ssp == d.dsp && (upFrom 0 d.slines).any (fun i => (upFrom 0 d.dlines).any (fun j => meets (d.sAdr i) d.slen (d.dAdr j) d.dlen))

/-- Whether a line of shared SRAM lies inside the device's, and for a VF its window. -/
def State.lineOk (s : State) (f : Nat) (a : Int) (n : Nat) : Bool :=
  decide (0 ≤ a ∧ a + n ≤ 0x1800000) &&
  (f == 0 || decide (((s.rd FNWIN.WBASE f * 0x10000 : Nat) : Int) ≤ a ∧ a + n ≤ (((s.rd FNWIN.WBASE f + s.rd FNWIN.WSIZE f) * 0x10000 : Nat) : Int)))

/-- The error code of R281 for a descriptor of mover `m`, 0 for none. -/
def State.mvCheck (s : State) (m : Nat) (d : MvD) : Nat :=
  let f := s.mvFn m
  if 2 < d.op ∨ d.reserved then 1
  else if d.op = 2 then 0
  else if d.dlen = 0 ∨ d.dlines = 0 ∨ d.op = 0 ∧ (d.slen = 0 ∨ d.slines = 0 ∨ d.slen * d.slines ≠ d.dlen * d.dlines) then 2
  else if d.op = 0 ∧ d.overlap then 3
  else if d.op = 0 ∧ d.ssp ∧ ¬ (upFrom 0 d.slines).all (fun i => s.lineOk f (d.sAdr i) d.slen) then 4
  else if d.dsp ∧ ¬ (upFrom 0 d.dlines).all (fun i => s.lineOk f (d.dAdr i) d.dlen) then 4
  else 0

/-- The next descriptor in the layout of MVHEAD; none ends the chain (R280). -/
def MvD.chain (d : MvD) : Option Nat :=
  let a := bitsAt (d.at 12) 6 26 * 64 + d.at 13 % 2 ^ 16 * 2 ^ 32
  if a = 0 ∧ ¬ bitAt (d.at 0) 22 then none else some (a + b2n (bitAt (d.at 0) 22))

/-! ### Accesses of a mover (R281, R34) -/

/-- The bytes of the next access of `n` bytes from `a` on that R34 allows. -/
def sramStep (a n : Nat) : Nat := ((upFrom 1 64).filter (fun k => decide (k ≤ n) && accessOk a k)).getLastD 1

/-- The code of R283 for how an access of a mover ended. -/
def mvCode : RespStatus → Nat
  | .ok => 0
  | .moverErr 4 => 6
  | .moverErr 0 => 4
  | _ => 8

/-- A stretch of shared SRAM is read by mover `m`. -/
def State.mvRead (m : Nat) : Nat → State → Nat → Nat → State × Nat × List Byte
  | 0, s, _, _ => (s, 0, [])
  | k + 1, s, a, n =>
    if n = 0 then (s, 0, [])
    else
      let c := sramStep a n
      match s.blockRead (.mover m) a c with
      | (s, .ok, d) =>
        let (s, e, r) := State.mvRead m k s (a + c) (n - c)
        (s, e, d ++ r)
      | (s, st, _) => (s, mvCode st, [])

/-- Bytes are stored in shared SRAM by mover `m`. -/
def State.mvStore (m : Nat) : Nat → State → Nat → List Byte → State × Nat
  | 0, s, _, _ => (s, 0)
  | k + 1, s, a, d =>
    if d.isEmpty then (s, 0)
    else
      let c := sramStep a d.length
      match s.blockWrite (.mover m) a (d.take c) with
      | (s, .ok) => State.mvStore m k s (a + c) (d.drop c)
      | (s, st) => (s, mvCode st)

/-- The lines of a source in shared SRAM, in order. -/
def State.mvLines (s : State) (m : Nat) (d : MvD) : State × Nat × List Byte :=
  (upFrom 0 d.slines).foldl (fun x i =>
    if x.2.1 ≠ 0 then x
    else
      let (s, e, b) := State.mvRead m d.slen x.1 (d.sAdr i).toNat d.slen
      (s, e, x.2.2 ++ b)) (s, 0, [])

/-- A FILL pattern over `n` bytes. -/
def MvD.pattern (d : MvD) (n : Nat) : List Byte :=
  let p := toBytes 4 (d.at 4) ++ toBytes 4 (d.at 5)
  (upFrom 0 n).map (fun i => p.getD (i % 8) 0)

/-- What the host has configured for function `f`. -/
def State.cfg (s : State) (f : Nat) : CfgF := s.host.cfg.get (fun _ => CfgF.init) f

def State.modCfg (s : State) (f : Nat) (g : CfgF → CfgF) : State :=
  { s with host := { s.host with cfg := s.host.cfg.set (fun _ => CfgF.init) f (g (s.cfg f)) } }

/-- The most a host write, and a host read, of a function asks in one request, in bytes (R269, R281). -/
def State.maxPayload (s : State) (f : Nat) : Nat := 128 * 2 ^ (s.cfg f).payload
def State.maxRead (s : State) (f : Nat) : Nat := 128 * 2 ^ (s.cfg f).readReq

/-- The lines of a destination, in order: shared SRAM acknowledges at once, host memory later. -/
def State.mvOut (s : State) (m : Nat) (d : MvD) (data : List Byte) : State × Nat × Nat :=
  (upFrom 0 d.dlines).foldl (fun x j =>
    if x.2.1 ≠ 0 then x
    else
      let line := (data.drop (j * d.dlen)).take d.dlen
      if d.dsp then
        let (s, e) := State.mvStore m d.dlen x.1 (d.dAdr j).toNat line
        (s, e, x.2.2)
      else
        let ps := pieces d.dlen (s.maxPayload (s.mvFn m)) line
        let a := (d.dAdr j % (2 ^ 48 : Nat)).toNat
        ((ps.foldl (fun y p => (y.1.hostPut (a + y.2) p (.data m), y.2 + p.length)) (x.1, 0)).1, 0, x.2.2 + ps.length)) (s, 0, 0)

/-- The writes of a descriptor whose data are there are issued. -/
def State.mvIssue (s : State) (m : Nat) (d : MvD) : State × MvD :=
  if s.isolated (164 + m) then (s, { d with err := 8 })
  else if d.op = 2 then (s, { d with issued := true })
  else
    let (s, e, data) := if d.op = 1 then (s, 0, d.pattern (d.dlen * d.dlines)) else if d.ssp then s.mvLines m d else (s, 0, d.got)
    if e ≠ 0 then (s, { d with err := e })
    else
      let (s, e, k) := s.mvOut m d data
      (s, { d with issued := true, err := e, unack := k })

/-- The descriptors of a mover go on as far as their data and FENCE allow, in chain order; `u` says that writes of earlier
ones are not acknowledged (R280, R282). -/
def State.mvRun (m : Nat) : State → Bool → List MvD → State × List MvD
  | s, _, [] => (s, [])
  | s, u, d :: r =>
    if d.issued then
      let (s, r) := State.mvRun m s (u || d.unack != 0) r
      (s, d :: r)
    else if d.err ≠ 0 ∨ d.fence ∧ u ∨ d.need ≠ 0 then (s, d :: r)
    else
      let (s, d) := s.mvIssue m d
      if d.err ≠ 0 then (s, d :: r)
      else
        let (s, r) := State.mvRun m s (u || d.unack != 0) r
        (s, d :: r)

/-- MVCUR names the oldest descriptor that has not retired (R284). -/
def State.mvCur (s : State) (m : Nat) : State :=
  match (s.mover m).descs with
  | [] => s
  | d :: _ => s.wr64 MVCUR_LO.ADDR MVCUR_HI.ADDR d.adr m

/-- The bytes of host memory a descriptor reads. -/
def MvD.hostLen (d : MvD) : Nat := if d.op = 0 ∧ ¬ d.ssp then d.slen * d.slines else 0

/-- The next read request of a chain, of at most `n` bytes and within one line (R269, R281): its bytes, and the chain with them
asked for. -/
def mvAsk (n : Nat) : Bool → List MvD → Option (Nat × List MvD)
  | _, [] => none
  | u, d :: r =>
    let later := fun u => (mvAsk n u r).map (fun x => (x.1, d :: x.2))
    if d.issued then later (u || d.unack != 0)
    else if d.err ≠ 0 ∨ d.fence ∧ u then none
    else if d.hostLen ≤ d.asked then later u
    else
      let k := min n (d.slen - d.asked % d.slen)
      some (k, { d with asked := d.asked + k } :: r)

/-- The non-posted requests under way (R269): for data, for descriptors, and for queue contexts. -/
def State.nonPosted (s : State) : Nat :=
  s.host.reqs.length + s.host.qfetch.length + b2n s.host.qcmd.isSome +
    (s.host.mv.filter (fun e => e.2.fetch.any (fun a => a % 2 == 0))).length

/-- Mover `m` asks the host for data, while fewer than 256 requests are under way (R269). -/
def State.hostAsk (m : Nat) : Nat → State → State
  | 0, s => s
  | k + 1, s =>
    if 256 ≤ s.nonPosted ∨ s.isolated (164 + m) then s
    else match mvAsk (s.maxRead (s.mvFn m)) false (s.mover m).descs with
      | none => s
      | some (n, l) =>
        let s := s.modMv m (fun h => { h with descs := l })
        State.hostAsk m k { s with host := { s.host with reqs := s.host.reqs ++ [(m, n)] } }

/-- Mover `m` goes on with its descriptors. -/
def State.mvGo (s : State) (m : Nat) : State :=
  if s.rd MVSTAT.STATE m = 1 ∨ s.rd MVSTAT.STATE m = 2 then
    let (s, l) := State.mvRun m s false (s.mover m).descs
    State.hostAsk m 256 ((s.modMv m (fun h => { h with descs := l })).mvCur m)
  else s

/-- Movers that waited for a request to end ask on, in ascending order (notes/assumptions/161.md). -/
def State.askOn (s : State) : State :=
  (upFrom 0 32).foldl (fun s m => if s.rd MVSTAT.STATE m = 1 ∨ s.rd MVSTAT.STATE m = 2 then State.hostAsk m 256 s else s) s

/-- The requests of mover `m` among `l` that bring its first `n` bytes; the others are given up. -/
def keepReqs (m : Nat) : Nat → List (Nat × Nat) → List (Nat × Nat)
  | _, [] => []
  | n, (k, b) :: r => if k ≠ m then (k, b) :: keepReqs m n r else if b ≤ n then (k, b) :: keepReqs m (n - b) r else keepReqs m 0 r

/-- The bytes asked for and not there yet. -/
def MvD.due (d : MvD) : Nat := d.asked + d.need - d.hostLen

/-- A mover with nothing left is IDLE (R284). -/
def State.mvIdle (s : State) (m : Nat) : State :=
  let h := s.mover m
  if h.descs.isEmpty ∧ h.fetch.isNone then (s.wrs m [(MVSTAT.STATE, 0), (MVSTAT.RETRY, 0)]).modMv m (fun h => { h with stop := false })
  else s

/-- A write of MVCTL (R284): GO starts at MVHEAD from IDLE or ERROR; STOP ends after the current descriptor, and in
RECOVER with ABORT (R283). -/
def State.mvctlWrite (s : State) (m : Nat) (w : Word) : State :=
  let st := s.rd MVSTAT.STATE m
  let s :=
    if MVCTL.GO.of w = 1 ∧ (st = 0 ∨ st = 4) then
      let a := s.rd MVHEAD_LO.ADDR m * 64 + s.rd MVHEAD_LO.SP m + s.rd MVHEAD_HI.ADDR m * 2 ^ 32
      (s.modMv m (fun _ => ⟨some a, [], false⟩)).wrs m [(MVSTAT.STATE, if s.host.up then 1 else 3), (MVSTAT.RETRY, 0)]
    else s
  if MVCTL.STOP.of w = 0 then s
  else if s.rd MVSTAT.STATE m = 3 then s.mvFail m 10
  else if s.rd MVSTAT.STATE m = 1 ∨ s.rd MVSTAT.STATE m = 2 then
    let h := s.mover m
    let keep := h.descs.take 1 ++ (h.descs.drop 1).filter (·.issued)
    let s := { s with host := { s.host with reqs := keepReqs m ((keep.map MvD.due).foldl (· + ·) 0) s.host.reqs } }
    (s.modMv m (fun _ => ⟨none, keep, true⟩)).mvIdle m
  else s

/-- A descriptor as it starts, from its words. -/
def State.mvNew (s : State) (m adr : Nat) (w : List Nat) : MvD :=
  let d : MvD := ⟨adr, w, bitAt (w.getD 0 0) 25, [], 0, false, 0, 0, false, 0, 0⟩
  let e := s.mvCheck m d
  { d with err := e, need := if e = 0 then d.hostLen else 0 }

/-- MV_DESCRIPTOR_FETCHED (R280, R281, R283): a descriptor in host memory comes with the completion, one in shared SRAM is
read there. -/
def State.mvFetched (s : State) (m : Nat) (st : Cpl) (words : List Nat) : State :=
  match (s.mover m).fetch with
  | none => s
  | some a =>
    if ¬ (s.rd MVSTAT.STATE m = 1 ∨ s.rd MVSTAT.STATE m = 2) then s
    else
      let (s, w) : State × Option (List Nat) :=
        if s.isolated (164 + m) then (s, none)
        else if a % 2 = 1 then
          match s.blockRead (.mover m) (a / 2 * 2) 64 with
          | (s, .ok, b) => (s, if s.lineOk (s.mvFn m) (a / 2 * 2) 64 then some ((upFrom 0 16).map (entryWord b)) else none)
          | (s, _, _) => (s, none)
        else (s, if st = .ok then some words else none)
      match w with
      | none => (s.modMv m (fun h => { h with fetch := none, descs := h.descs ++ [⟨a, [], false, [], 0, false, 0, 0, false, 9, 0⟩] })).mvCur m
      | some w =>
        let d := s.mvNew m a w
        let s := s.modMv m (fun h => { h with fetch := if d.err ≠ 0 then none else d.chain, descs := h.descs ++ [d] })
        s.mvGo m

/-- The first descriptor that reads host memory takes data. -/
def mvTake (st : Cpl) (data : List Byte) : Bool → List MvD → List MvD
  | _, [] => []
  | u, d :: r =>
    if d.issued then d :: mvTake st data (u || d.unack != 0) r
    else if d.err ≠ 0 ∨ d.fence ∧ u then d :: r
    else if d.need = 0 then d :: mvTake st data u r
    else match st with
      | .ok => { d with got := d.got ++ data.take d.need, need := d.need - data.length } :: r
      | .error => { d with err := 5 } :: r
      | .poisoned => { d with err := 6 } :: r

/-- A completion with `n` bytes for the oldest request of mover `m`; an error ends the request (R283). -/
def takeReq (m n : Nat) (st : Cpl) : List (Nat × Nat) → List (Nat × Nat)
  | [] => []
  | (k, b) :: r => if k ≠ m then (k, b) :: takeReq m n st r else if st ≠ .ok ∨ b ≤ n then r else (k, b - n) :: r

/-- HOST_COMPLETION: a completion for data of a mover's host read arrives, for the oldest request under way (R269, R283). -/
def State.hostCpl (s : State) (m : Nat) (st : Cpl) (data : List Byte) : State :=
  if s.host.up ∧ (s.rd MVSTAT.STATE m = 1 ∨ s.rd MVSTAT.STATE m = 2) then
    match s.host.reqs.find? (fun x => x.1 == m) with
    | none => s
    | some (_, n) =>
      let d := data.take n
      let s := { s with host := { s.host with reqs := takeReq m d.length st s.host.reqs } }
      ((s.modMv m (fun h => { h with descs := mvTake st d false h.descs })).mvGo m).askOn
  else s

/-- Whether a descriptor has all its writes acknowledged. -/
def MvD.done (d : MvD) : Bool := d.err == 0 && d.issued && d.unack == 0

/-- The completion record of the oldest descriptor goes to the queue engine; one that is written again takes the place that
is kept for it (R282, R288, R294). -/
def State.mvComplete (s : State) (m : Nat) (d : MvD) : State :=
  let seq := (s.rd MVSEQ.SEQ m + 1) % 2 ^ 32
  let s := s.modMv m (fun h => { h with descs := recStep 0 1 (h.descs.take 1) ++ h.descs.drop 1 })
  let mine := fun r : QRec => r.kind == RecKind.completion && r.src == m && r.hold && r.words.getD 5 0 == seq
  if s.qrec.any mine then { s with qrec := s.qrec.map (fun r => if mine r then { r with hold := false } else r) }
  else s.qPush ⟨bitsAt (d.at 11) 0 18, .completion, complWords s.tsInt 0 m d.tag (7424 + m) seq (d.at 14), s.tsInt, m, none, false, false⟩

/-- MV_DESCRIPTOR_RETIRE: the oldest descriptor ends in error, sends its completion record, or retires (R282, R283). -/
def State.mvRetire (s : State) (m : Nat) : State :=
  let st := s.rd MVSTAT.STATE m
  if ¬ (st = 1 ∨ st = 2) then s
  else match (s.mover m).descs with
    | [] => s
    | d :: r =>
      if d.err ≠ 0 then (s.mvFail m d.err).askOn
      else if ¬ d.done then s
      else if d.crec ∧ d.rec_ = 0 then s.mvComplete m d
      else if d.crec ∧ d.rec_ ≠ 3 then s
      else
        let s := (s.inc MVSEQ.SEQ 1 m).wr MVSTAT.RETRY 0 m
        let s := if d.cev then s.raise (7424 + m) (m * 2 ^ 16 + d.tag) else s
        ((s.modMv m (fun h => { h with descs := r })).mvGo m).mvIdle m

/-! ### Acknowledgements and replay (R282, R294) -/

/-- A descriptor of mover `m` has one write less that is not acknowledged. -/
def ackData : List MvD → List MvD
  | [] => []
  | d :: r => if d.unack ≠ 0 then { d with unack := d.unack - 1 } :: r else d :: ackData r

/-- One host write is acknowledged. -/
def State.acked (s : State) (h : HWrite) : State :=
  match h.org with
  | .data m => if m < 32 then s.modMv m (fun h => { h with descs := ackData h.descs }) else s
  | .record r => if r.kind = .completion then s.modMv r.src (fun h => { h with descs := recStep 2 3 h.descs }) else s
  | _ => s

/-- DLL_ACK: the first `n` host writes are acknowledged; descriptors that waited behind FENCE go on. -/
def State.dllAck (s : State) (n : Nat) : State :=
  if ¬ s.host.up then s
  else
    let l := s.host.out.take n
    let s := { s with host := { s.host with out := s.host.out.drop n } }
    let s := l.foldl State.acked s
    (upFrom 0 32).foldl State.mvGo s

/-- A descriptor starts again, with its sequence number (R294). -/
def State.mvAgain (s : State) (m : Nat) (d : MvD) : MvD :=
  if d.w.isEmpty then d else { s.mvNew m d.adr d.w with replay := true }

/-- Descriptors that have all their acknowledgements retire before anything is replayed. -/
def State.mvSettle (m : Nat) : Nat → State → State
  | 0, s => s
  | k + 1, s =>
    match (s.mover m).descs with
    | [] => s
    | d :: _ => if d.done ∧ (¬ d.crec ∨ d.rec_ = 3) then State.mvSettle m k (s.mvRetire m) else s

/-- Records without an acknowledgement are written again, in order and ahead of newer ones, with their QSEQ and REPLAY;
the completion records of the movers `ms` wait for their data (R294). -/
def State.recAgain (s : State) (ms : List Nat) : State :=
  let again := s.host.out.filterMap (fun h : HWrite => match h.org with
    | .record r => some { r with replay := true, hold := r.kind == RecKind.completion && ms.contains r.src }
    | _ => none)
  let new := s.qrec.filter (fun r : QRec => !(r.kind == RecKind.completion && ms.contains r.src && !r.hold))
  let out := s.host.out.filter (fun h : HWrite => match h.org with
    | .record _ => false
    | .data m => !ms.contains m
    | _ => true)
  { s with qrec := again ++ new, host := { s.host with out := out } }

/-- Movers `ms` replay every descriptor they have not retired, from the oldest (R294). -/
def State.replay (s : State) (ms : List Nat) : State :=
  let s := ms.foldl (fun s m => State.mvSettle m (s.mover m).descs.length s) s
  let s := s.recAgain ms
  let s := { s with host := { s.host with reqs := s.host.reqs.filter (fun x => !ms.contains x.1) } }
  let s := ms.foldl (fun s m => s.modMv m (fun h => { h with descs := h.descs.map (s.mvAgain m) })) s
  ms.foldl (fun s m => s.mvGo m) s

/-- The first descriptor that waits for host data ends in TIMEOUT. -/
def mvLate : List MvD → List MvD
  | [] => []
  | d :: r => if d.err = 0 ∧ ¬ d.issued ∧ d.need ≠ 0 then { d with err := 7 } :: r else d :: mvLate r

/-- PCIE_COMPLETION_TIMEOUT: the first to third time for the current descriptor the mover recovers; the fourth time the
descriptor that waits for data ends in TIMEOUT, or the fetch that is under way in NEXTFAIL (R283, R294). -/
def State.mvTimeout (s : State) (m : Nat) : State :=
  let h := s.mover m
  let reading := h.descs.any (fun d => d.err == 0 && !d.issued && d.need != 0)
  let fetching := h.fetch.any (fun a => a % 2 == 0)
  if ¬ (s.host.up ∧ (s.rd MVSTAT.STATE m = 1 ∨ s.rd MVSTAT.STATE m = 2) ∧ (reading ∨ fetching)) then s
  else if s.rd MVSTAT.RETRY m < 3 then (s.wr MVSTAT.RETRY (s.rd MVSTAT.RETRY m + 1) m).replay [m]
  else
    let s := if reading then s.modMv m (fun h => { h with fetch := none, descs := mvLate h.descs })
      else s.modMv m (fun h => { h with fetch := none, descs := h.descs ++ [⟨h.fetch.getD 0, [], false, [], 0, false, 0, 0, false, 9, 0⟩] })
    if (s.mover m).descs.head?.any (fun d => d.err != 0) then s.mvRetire m else s

/-- LINK_DOWN: the Data Link Layer goes down; movers that run hold in RECOVER (R294). -/
def State.linkDown (s : State) : State :=
  if ¬ s.host.up then s
  else
    let s := { s with host := { s.host with up := false, downAt := s.now } }
    (upFrom 0 32).foldl (fun s m =>
      if s.rd MVSTAT.STATE m = 1 ∨ s.rd MVSTAT.STATE m = 2 then s.wr MVSTAT.STATE 3 m else s) s

/-- LINK_UP: the link returns and what was not acknowledged is done again (R294). -/
def State.linkUp (s : State) : State :=
  if s.host.up ∨ s.host.perst then s
  else
    let s := s.raise 7490 (satTo 0xFFFF ((s.now - s.host.downAt) / us 1))
    let s := { s with host := { s.host with up := true } }
    let ms := (upFrom 0 32).filter (fun m => s.rd MVSTAT.STATE m == 3)
    let s := ms.foldl (fun s m => s.wr MVSTAT.STATE 1 m) s
    s.replay ms

/-! ### Resets of the host interface (R272) -/

/-- What a reset of function `f` does to its queues, movers and vectors. -/
def State.fnReset (s : State) (f : Nat) : State :=
  let qs := (s.host.q.filter (fun e => e.2.en && s.qFunc e.1 == some f)).map (·.1)
  let s := qs.foldl State.qStop s
  let s := if s.host.qcmd.any (fun c => s.qFunc c.2 == some f) then
      { s with host := { s.host with qcmd := none } }.wr QCMDSTAT.BUSY 0
    else s
  let s := (upFrom 0 32).foldl (fun s m =>
    let st := s.rd MVSTAT.STATE m
    if s.mvFn m = f ∧ 1 ≤ st ∧ st ≤ 3 then s.mvFail m 10 else s) s
  (upFrom (s.rd FNVR.VFIRST f) (s.rd FNVR.VCNT f)).foldl (fun s v => s.modMsix v (fun e => { e with mask := true })) s

/-- Whether BAR0 offset `a` is a register of chapter 11 that a reset of the whole interface resets (R272). -/
def hostReg (a : Nat) : Bool := decide (0x2000 ≤ a ∧ a < 0x2220) || decide (0x400000 ≤ a ∧ a < 0x402000)

/-- A reset of the whole host interface: every function, and every register of chapter 11 but the bridle (R272). -/
def State.hostReset (s : State) : State :=
  let s := (upFrom 0 17).foldl State.fnReset s
  let h := s.host
  { s with
    regs := s.regs.filter (fun e => !hostReg e.1), vecReq := [],
    host := { h with
      out := h.out.filter (fun h => match h.org with
        | .ctx _ => true
        | _ => false),
      q := [], qcmd := none, qfetch := [], bufFull := false, mv := [], msix := [], wd := [], vfEn := false, reqs := [], cfg := [] } }

/-! ### Host watchdog (R278, R279) -/

/-- A write of function `f`'s HOSTWD. -/
def State.hostwdWrite (s : State) (f : Nat) (w : Word) : State :=
  let was := s.on HOSTWD.PERIOD f
  let s := s.wrs f [(HOSTWD.ACT, HOSTWD.ACT.of w), (HOSTWD.PERIOD, HOSTWD.PERIOD.of w)]
  let old := s.host.wd.get (fun _ => none) f
  let d := if HOSTWD.PERIOD.of w = 0 then none
    else if HOSTWD.KICK.of w = 1 ∨ ¬ was then some s.now else old
  { s with host := { s.host with wd := s.host.wd.set (fun _ => none) f d } }

/-- HOST_WD_EXPIRY: PERIOD µs have passed without a KICK (R279). -/
def State.hostwdExpire (s : State) (f : Nat) : State :=
  match s.host.wd.get (fun _ => none) f with
  | none => s
  | some b =>
    let e := b + us (s.rd HOSTWD.PERIOD f)
    if s.now < e then s
    else
      let s := ({ s with host := { s.host with wd := s.host.wd.set (fun _ => none) f none } }).wr FNSTAT.WDEXP 1 f
      let s := s.raise 7715 f
      let s := if s.on WAKEEN.WD then s.wakeAsk 6 0 s.now else s
      if s.on HOSTWD.ACT f then
        (upFrom 0 128).foldl (fun s j =>
          if ownedBy (s.rd BRIDLE.OWNER 0 j) (s.rd BRIDLE.VF 0 j) j (.fn f) then s.safeAsk j 4 (e + ns 40) else s) s
      else s

/-! ### Configuration requests (R271, R409) -/

/-- What a base address register reads: its type and the address bits above its size (R270), of BAR0 (64 MiB, 64 bits,
non-prefetchable) at words 0 and 1, and of BAR2 (32 MiB, 64 bits, prefetchable) at words 2 and 3. -/
def CfgF.bar (c : CfgF) (i : Nat) : Nat :=
  match i with
  | 0 => c.bar0 % 2 ^ 32 + 4
  | 1 => c.bar0 / 2 ^ 32
  | 2 => c.bar2 % 2 ^ 32 + 12
  | _ => c.bar2 / 2 ^ 32

/-- A write of a word of a base address register: the bits below the size stay 0. -/
def CfgF.putBar (c : CfgF) (i w : Nat) : CfgF :=
  match i with
  | 0 => { c with bar0 := putBits c.bar0 26 6 (w / 2 ^ 26) }
  | 1 => { c with bar0 := putBits c.bar0 32 32 w }
  | 2 => { c with bar2 := putBits c.bar2 25 7 (w / 2 ^ 25) }
  | _ => { c with bar2 := putBits c.bar2 32 32 w }

/-- What a register of the header reads, where the spec gives it (R270, R409); the layout is PCI's
(notes/assumptions/160.md). -/
def State.cfgRead (s : State) (f off : Nat) : Option Nat :=
  match off with
  | 0 => some ((if f = 0 then 0x1024 else 0x1025) * 2 ^ 16 + 0x1E4B)
  | 8 => some (0x118000 * 2 ^ 8 + bitsAt (s.reg (DEVID.WHOLE.adr 0 0)).toNat 4 8)
  | 0x10 => some (if f = 0 then (s.cfg 0).bar 0 else 0)
  | 0x14 => some (if f = 0 then (s.cfg 0).bar 1 else 0)
  | 0x18 => some (if f = 0 then (s.cfg 0).bar 2 else 0)
  | 0x1C => some (if f = 0 then (s.cfg 0).bar 3 else 0)
  | 0x2C => some (0x0001 * 2 ^ 16 + 0x1E4B)
  | _ => none

/-- The capabilities every function has, by number: PCI Express, Power Management and MSI-X; extended, AER, SR-IOV in PF0, and
Device Serial Number (R269; notes/assumptions/160.md). -/
def capOf (f : Nat) (ext : Bool) (n : Nat) : Bool :=
  if ext then n == 1 || n == 3 || n == 16 && f == 0 else n == 0x10 || n == 1 || n == 0x11

/-- What a field of a capability reads, where the spec gives it (R269, R270, R290, R409): the field alone. -/
def State.cfgField (s : State) (f : Nat) (x : CfgField) : Option Nat :=
  match x with
  | .capability ext n => some (if capOf f ext n then n else 0)
  | .payloadMax => some 2
  | .payload => some (s.cfg f).payload
  | .readRequest => some (s.cfg f).readReq
  | .timeoutRanges => some 3
  | .timeout => some (s.cfg f).timeout
  | .tag10 => some 1
  | .linkSpeed => some 5
  | .linkWidth => some 8
  | .power => some (s.cfg f).power
  | .msixSize => some (s.rd FNVR.VCNT f)
  | .msixTable => some 0x300000
  | .msixPba => some 0x308000
  | .vfEnable => if f = 0 then some (b2n s.host.vfEn) else none
  | .totalVfs => if f = 0 then some 16 else none
  | .vfDevice => if f = 0 then some 0x1025 else none
  | .vfBar i => if f = 0 then some ((s.cfg 1).bar i) else none
  | .serialLo => some (s.rd DEVSER_LO.SER)
  | .serialHi => some (s.rd DEVSER_HI.SER)

/-- A write of a field of a capability: what the host can set takes the values the device supports (R269, R270). -/
def State.cfgSet (s : State) (f : Nat) (x : CfgField) (w : Nat) : State :=
  match x with
  | .vfEnable => if f = 0 then { s with host := { s.host with vfEn := bitAt w 0 } } else s
  | .payload => if w % 8 ≤ 2 then s.modCfg f (fun c => { c with payload := w % 8 }) else s
  | .readRequest => if w % 8 ≤ 5 then s.modCfg f (fun c => { c with readReq := w % 8 }) else s
  | .timeout => if [0, 1, 2, 5, 6].contains (w % 16) then s.modCfg f (fun c => { c with timeout := w % 16 }) else s
  | .power => if w % 4 = 0 ∨ w % 4 = 3 then s.modCfg f (fun c => { c with power := w % 4 }) else s
  | .vfBar i => if f = 0 then s.modCfg 1 (fun c => c.putBar i w) else s
  | _ => s

/-- A configuration request of function `f`: `field` is the capability's field it reads or writes, whose place the spec does not
give; anything else it reads is free (R269 to R271, R278, R409). -/
def State.cfgReq (s : State) (f off : Nat) (wr : Option Word) (field : Option CfgField) : State :=
  if s.host.perst ∨ s.pw.gnd then s
  else if ¬ s.on BOOTSTAT.DONE then s.answer .crs
  else match wr with
    | some w => (match field with
      | some x => s.cfgSet f x w.toNat
      | none => if f = 0 ∧ 0x10 ≤ off ∧ off < 0x20 then s.modCfg 0 (fun c => c.putBar (off / 4 - 4) w.toNat) else s).answer .ok
    | none => match (match field with
        | some x => s.cfgField f x
        | none => s.cfgRead f off) with
      | some v => s.answerWord v
      | none =>
        let (v, s) := s.fresh
        s.answerWord (v % 2 ^ 32)

/-! ### The meanings -/

def execVfFlr (t f : Nat) (s : State) : Out := s.ran (1 ≤ f ∧ f < 17) (((s.advance t).fnReset f).raise 7716 f)

def execPfFlr (t : Nat) (s : State) : Out := s.ran true ((s.advance t).hostReset.raise 7716 0)

def execHotReset (t : Nat) (s : State) : Out := s.ran true (s.advance t).hostReset

def execBridleWrite (t : Nat) (src : Src) (e : Nat) (val : Word) (s : State) : Out :=
  s.ran (src.ok && decide (e < 384)) ((s.advance t).authWrite src (BRIDLE.WHOLE.adr 0 e) val (·.plainWrite (BRIDLE.WHOLE.adr 0 e) val))

def execHostwdKick (t : Nat) (src : Src) (f : Nat) (val : Word) (s : State) : Out :=
  s.ran (src.ok && decide (f < 17)) ((s.advance t).authWrite src (HOSTWD.WHOLE.adr f 0) (val ||| 0x40000000) (·.hostwdWrite f (val ||| 0x40000000)))

def execHostWdExpiry (t f : Nat) (s : State) : Out := s.ran (f < 17) ((s.advance t).hostwdExpire f)

def execMvctlGo (t : Nat) (src : Src) (m : Nat) (val : Word) (s : State) : Out :=
  s.ran (src.ok && decide (m < 32)) ((s.advance t).authWrite src (MVCTL.WHOLE.adr m 0) (val ||| 0x80000000) (·.mvctlWrite m (val ||| 0x80000000)))

def execMvctlStop (t : Nat) (src : Src) (m : Nat) (val : Word) (s : State) : Out :=
  s.ran (src.ok && decide (m < 32)) ((s.advance t).authWrite src (MVCTL.WHOLE.adr m 0) (val ||| 0x40000000) (·.mvctlWrite m (val ||| 0x40000000)))

def execMvDescriptorFetched (t m : Nat) (st : Cpl) (err : Ecc) (words : List Nat) (s : State) : Out :=
  s.ran (m < 32) ((s.advance t).withEcc err (·.mvFetched m st words))

def execHostCompletion (t m : Nat) (st : Cpl) (data : List Byte) (err : Ecc) (s : State) : Out :=
  s.ran (m < 32) ((s.advance t).withEcc err (·.hostCpl m st data))

def execDllAck (t n : Nat) (err : Ecc) (s : State) : Out := s.ran true ((s.advance t).withEcc err (·.dllAck n))

def execMvDescriptorRetire (t m : Nat) (err : Ecc) (s : State) : Out := s.ran (m < 32) ((s.advance t).withEcc err (·.mvRetire m))

def execPcieCompletionTimeout (t m : Nat) (err : Ecc) (s : State) : Out :=
  s.ran (m < 32) ((s.advance t).withEcc err (·.mvTimeout m))

def execLinkDown (t : Nat) (s : State) : Out := s.ran true (s.advance t).linkDown

def execLinkUp (t : Nat) (err : Ecc) (s : State) : Out := s.ran true ((s.advance t).withEcc err (·.linkUp))

def execConfigurationRequest (t f off : Nat) (wr : Option Word) (field : Option CfgField) (s : State) : Out :=
  s.ran (f < 17 ∧ off < 4096) ((s.advance t).cfgReq f off wr field)

end Sys2Proof.Machine
end

