-- ==== Sys2Proof/Machine/Flags.lean ====
section
/-! DEFINITION. The flag computations of the engine's instructions (R68, R84, R85). FLAGS is a 4-bit word: N is bit 3,
Z bit 2, C bit 1, V bit 0. -/
namespace Sys2Proof.Machine

/-- A FLAGS word. -/
def flagWord (n z c v : Bool) : Nat := 8 * b2n n + 4 * b2n z + 2 * b2n c + b2n v

def flagN (f : Nat) : Bool := bitAt f 3
def flagZ (f : Nat) : Bool := bitAt f 2
def flagC (f : Nat) : Bool := bitAt f 1
def flagV (f : Nat) : Bool := bitAt f 0

/-- FLAGS of an addition: N and Z from the result, C the carry out, V signed overflow (R85). -/
def addFlags {w : Nat} (a b : BitVec w) : Nat :=
  flagWord (a + b).msb (a + b == 0#w) (decide (2 ^ w ≤ a.toNat + b.toNat)) (decide ((a + b).toInt ≠ a.toInt + b.toInt))

/-- FLAGS of a subtraction: C is 1 when there is no borrow (R85). -/
def subFlags {w : Nat} (a b : BitVec w) : Nat :=
  flagWord (a - b).msb (a - b == 0#w) (decide (b.toNat ≤ a.toNat)) (decide ((a - b).toInt ≠ a.toInt - b.toInt))

/-- FLAGS of the other operations: N and Z from the result, C as given, V as stated for the instruction (R85). -/
def resFlags {w : Nat} (r : BitVec w) (c v : Bool) : Nat := flagWord r.msb (r == 0#w) c v

/-- Whether condition `c` of `b.cond` holds (R85). -/
def condHolds (c f : Nat) : Bool :=
  match c with
  | 0x0 => flagZ f
  | 0x1 => !flagZ f
  | 0x2 => flagC f
  | 0x3 => !flagC f
  | 0x4 => flagN f
  | 0x5 => !flagN f
  | 0x6 => flagV f
  | 0x7 => !flagV f
  | 0x8 => flagC f && !flagZ f
  | 0x9 => !flagC f || flagZ f
  | 0xA => flagN f == flagV f
  | 0xB => flagN f != flagV f
  | 0xC => !flagZ f && flagN f == flagV f
  | 0xD => flagZ f || flagN f != flagV f
  | 0xE => true
  | _ => false

end Sys2Proof.Machine
end

