-- ==== Sys2Proof/Machine/Operands.lean ====
section
/-! DEFINITION. The operand forms of the engine's instructions: the ranges of their fields (R82), the encodings that
raise an illegal-instruction exception with their subcodes (R83, R84, R88, R96), and the values operands name. -/
namespace Sys2Proof.Machine

/-! ### Field ranges (R82) -/

def FmtR.ok (f : FmtR) : Bool := decide (f.rd < 16) && decide (f.ra < 16) && decide (f.rb < 16) && decide (f.res < 128)
def FmtI.ok (f : FmtI) : Bool := decide (f.rd < 16) && decide (f.ra < 16) && decide (f.imm < 2 ^ 18)
def FmtU.ok (f : FmtU) : Bool := decide (f.rd < 16) && decide (f.res < 64) && decide (f.imm < 2 ^ 16)
def FmtM.ok (f : FmtM) : Bool := decide (f.rd < 16) && decide (f.ra < 16) && decide (f.res < 4) && decide (f.off < 2 ^ 16)
def FmtS.ok (f : FmtS) : Bool := decide (f.rd < 16) && decide (f.sreg < 1024) && decide (f.res < 4096)
def FmtV.ok (f : FmtV) : Bool := decide (f.rd < 16) && decide (f.inp < 16) && decide (f.res < 2 ^ 18)
def FmtT.ok (f : FmtT) : Bool := decide (f.rd < 16) && decide (f.tb < 32) && decide (f.res < 2 ^ 16)
def FmtP.ok (f : FmtP) : Bool :=
  decide (f.rd < 16) && decide (f.ra < 16) && decide (f.ch < 16) && decide (f.res < 4) && decide (f.preg < 1024)
def FmtE.ok (f : FmtE) : Bool :=
  decide (f.rd < 16) && decide (f.ra < 16) && decide (f.ch < 16) && decide (f.lvl < 4) && decide (f.pr < 8) && decide (f.res < 256)
def FmtB.ok (f : FmtB) : Bool := decide (f.c < 16) && decide (f.off < 2 ^ 22)
def FmtL.ok (f : FmtL) : Bool := decide (f.ra < 16) && decide (f.icnt < 512) && decide (f.len < 4096)
def FmtX.ok (f : FmtX) : Bool := decide (f.res < 1024) && decide (f.code < 2 ^ 16)

/-! ### Illegal encodings (R83, R84, R96) -/

/-- The first breach in a list of conditions with their subcodes (the order is a DESIGN CHOICE, notes/assumptions/148.md). -/
def firstIll : List (Bool × Nat) → Option Nat
  | [] => none
  | (b, k) :: r => if b then some k else firstIll r

def isOdd (n : Nat) : Bool := n % 2 == 1

/-- Three word registers. -/
def FmtR.illWords (f : FmtR) : Option Nat := firstIll [(f.res != 0, 1)]
/-- `cmp` and `tst`: RD is 0. -/
def FmtR.illCmp (f : FmtR) : Option Nat := firstIll [(f.res != 0, 1), (f.rd != 0, 1)]
/-- `mov`, `clz`, `abs` and `neg`: RB is 0. -/
def FmtR.illUnary (f : FmtR) : Option Nat := firstIll [(f.res != 0, 1), (f.rb != 0, 1)]
/-- Three pairs. -/
def FmtR.illPairs (f : FmtR) : Option Nat := firstIll [(f.res != 0 || isOdd f.rd || isOdd f.ra || isOdd f.rb, 1)]
/-- `cmpp`: two pairs, no destination. -/
def FmtR.illCmpp (f : FmtR) : Option Nat := firstIll [(f.res != 0 || f.rd != 0 || isOdd f.ra || isOdd f.rb, 1)]
/-- `movp`: two pairs, no RB. -/
def FmtR.illMovp (f : FmtR) : Option Nat := firstIll [(f.res != 0 || f.rb != 0 || isOdd f.rd || isOdd f.ra, 1)]
/-- `addpw`: two pairs and a word. -/
def FmtR.illAddpw (f : FmtR) : Option Nat := firstIll [(f.res != 0 || isOdd f.rd || isOdd f.ra, 1)]
/-- `mac`, `msu` and `mpy`: RD names an accumulator. -/
def FmtR.illMac (f : FmtR) : Option Nat := firstIll [(decide (1 < f.rd), 0), (f.res != 0, 1)]
/-- `mclr`: RD names an accumulator, nothing else is used. -/
def FmtR.illMclr (f : FmtR) : Option Nat := firstIll [(decide (1 < f.rd), 0), (f.res != 0 || f.ra != 0 || f.rb != 0, 1)]
/-- `mrd`: RA names an accumulator. -/
def FmtR.illMrd (f : FmtR) : Option Nat := firstIll [(decide (1 < f.ra), 0), (f.res != 0 || f.rb != 0, 1)]
/-- `mld`: RD names an accumulator, RA a pair. -/
def FmtR.illMld (f : FmtR) : Option Nat := firstIll [(decide (1 < f.rd), 0), (f.res != 0 || f.rb != 0 || isOdd f.ra, 1)]
/-- `mst`: RA names an accumulator, RD a pair. -/
def FmtR.illMst (f : FmtR) : Option Nat := firstIll [(decide (1 < f.ra), 0), (f.res != 0 || f.rb != 0 || isOdd f.rd, 1)]
/-- The atomics of an 8-byte word: RD and RB name pairs. -/
def FmtR.illAtomP (f : FmtR) : Option Nat := firstIll [(f.res != 0 || isOdd f.rd || isOdd f.rb, 1)]

/-- The immediate shifts: IMM18[17:5] is 0. -/
def FmtI.illShift (f : FmtI) : Option Nat := firstIll [(decide (32 ≤ f.imm), 1)]
/-- `cmpi`: RD is 0. -/
def FmtI.illCmpi (f : FmtI) : Option Nat := firstIll [(f.rd != 0, 1)]

def FmtU.ill (f : FmtU) : Option Nat := firstIll [(f.res != 0, 1)]

def FmtM.illWord (f : FmtM) : Option Nat := firstIll [(f.res != 0, 1)]
/-- `ldp` and `stp`: RD names a pair. -/
def FmtM.illPair (f : FmtM) : Option Nat := firstIll [(f.res != 0 || isOdd f.rd, 1)]

/-- Whether a special register is present and can be read (R79, R109). -/
def sregReads (n : Nat) : Bool :=
  decide (n ≤ 8) || decide (0x10 ≤ n ∧ n ≤ 0x13) || decide (0x40 ≤ n ∧ n ≤ 0x45) || decide (0x100 ≤ n ∧ n ≤ 0x1FF)

/-- Whether a special register can be written (R79). -/
def sregWrites (n : Nat) : Bool := n == 0 || n == 1 || n == 8 || n == 0x13

def FmtS.illMfs (f : FmtS) : Option Nat := firstIll [(f.res != 0, 1), (!sregReads f.sreg, 5)]
def FmtS.illMts (f : FmtS) : Option Nat := firstIll [(f.res != 0, 1), (!sregWrites f.sreg, 5)]

def FmtV.ill (f : FmtV) : Option Nat := firstIll [(f.res != 0, 1)]

/-- `tnow` and `tnowf`: TB is at most 17, RD names a pair. -/
def FmtT.ill (f : FmtT) : Option Nat := firstIll [(decide (17 < f.tb), 0), (f.res != 0 || isOdd f.rd, 1)]

/-- `prd` and `pwr`: without the indirect form RA is not used. -/
def FmtP.illWord (f : FmtP) : Option Nat := firstIll [(f.res != 0 || (!f.ind && f.ra != 0), 1)]
/-- The wide forms: RD names a pair and PREG is even. -/
def FmtP.illPair (f : FmtP) : Option Nat :=
  firstIll [(f.res != 0 || (!f.ind && f.ra != 0) || isOdd f.rd || isOdd f.preg, 1)]

def FmtE.ill (f : FmtE) : Option Nat := firstIll [(f.lvl == 3, 0), (f.res != 0 || (!f.ind && f.ra != 0), 1)]

/-- `b.cond`: COND is not 0xF. -/
def FmtB.illCond (f : FmtB) : Option Nat := firstIll [(f.c == 0xF, 0)]
/-- `jr` and `jlr`: OFF22 is 0. -/
def FmtB.illReg (f : FmtB) : Option Nat := firstIll [(f.off != 0, 1)]

/-- `loop`: LEN is not 0, ICNT is 0 with RS, RA is not used without it (R83, R88). -/
def FmtL.ill (f : FmtL) : Option Nat := firstIll [(f.len == 0 || (f.rs && f.icnt != 0), 3), (!f.rs && f.ra != 0, 1)]

/-- The X format of every instruction but `trap`: CODE16 is 0. -/
def FmtX.ill (f : FmtX) : Option Nat := firstIll [(f.res != 0 || f.code != 0, 1)]
def FmtX.illTrap (f : FmtX) : Option Nat := firstIll [(f.res != 0, 1)]

/-- Whether OP and FN name an instruction of R84. -/
def opListed (op fn : Nat) : Bool :=
  if op = 0x01 then decide (fn ≤ 0x13) || decide (0x18 ≤ fn ∧ fn ≤ 0x1F)
  else if op = 0x0C then decide (fn ≤ 4)
  else if op = 0x10 then decide (fn ≤ 6)
  else if op = 0x1E then decide (fn ≤ 4) || decide (8 ≤ fn ∧ fn ≤ 0xC)
  else decide (0x02 ≤ op ∧ op ≤ 0x0B) || decide (0x14 ≤ op ∧ op ≤ 0x1D) || op == 0x1F || decide (0x20 ≤ op ∧ op ≤ 0x26)
    || decide (0x30 ≤ op ∧ op ≤ 0x36) || op == 0x38 || op == 0x39 || decide (0x3C ≤ op ∧ op ≤ 0x3F)

/-- A word taken by the NOP row: `nop` itself, or a word whose OP or FN R84 does not list. -/
def nopWord (w : Nat) : Bool :=
  decide (w < 2 ^ 32) && (bitsAt w 26 6 == 0x3F || !opListed (bitsAt w 26 6) (bitsAt w 0 6))

/-- The breach of such a word. -/
def nopIll (w : Nat) : Option Nat :=
  if bitsAt w 26 6 = 0x3F then firstIll [(bitsAt w 0 26 != 0, 1)] else some 0

/-! ### Operand values -/

/-- A register of an engine. -/
def Eng.r (e : Eng) (i : Nat) : Word := e.w.get (fun _ => 0) i

def Eng.setR (e : Eng) (i : Nat) (v : Word) : Eng := { e with w := e.w.set (fun _ => 0) i v }

/-- The pair at register `i`: its low word there, its high word in the next register (R67). -/
def Eng.rp (e : Eng) (i : Nat) : BitVec 64 := e.r (i + 1) ++ e.r i

def Eng.setP (e : Eng) (i : Nat) (v : BitVec 64) : Eng := (e.setR i (v.extractLsb' 0 32)).setR (i + 1) (v.extractLsb' 32 32)

/-- An accumulator. -/
def Eng.acc (e : Eng) (i : Nat) : Int := if i = 0 then e.acc0 else e.acc1

def Eng.setAcc (e : Eng) (i : Nat) (v : Int) : Eng := if i = 0 then { e with acc0 := v } else { e with acc1 := v }

/-- IMM18 sign-extended and zero-extended (R82). -/
def sext18 (v : Nat) : Word := BitVec.ofInt 32 (toSigned 18 v)
def zext18 (v : Nat) : Word := BitVec.ofNat 32 v

/-- The address of format M: ra + sext(OFF16) (R84). -/
def Eng.addr (e : Eng) (f : FmtM) : Nat := (e.r f.ra + BitVec.ofInt 32 (toSigned 16 f.off)).toNat

/-- The target of format B or J: the branch address + 4 × OFF (R84). -/
def branchTo (pc len off : Nat) : Nat := ofSigned 32 ((pc : Int) + 4 * toSigned len off)

end Sys2Proof.Machine
end

