-- ==== Sys2Proof/Machine/EngCore.lean ====
section
/-! DEFINITION. The engine's memories and its boundaries: local memory, secure SRAM, posted stores, pending exceptions
and the retirement of an instruction (R67 to R72, R86 to R89, R97, R98, R103, R104, R151). -/
namespace Sys2Proof.Machine
open Reg

/-! ### Access to the parts -/

/-- The engine of logical gondola `g`. -/
def State.en (s : State) (g : Nat) : Eng := s.eng.get (fun _ => Eng.init) g

def State.modEn (s : State) (g : Nat) (f : Eng → Eng) : State :=
  { s with eng := s.eng.set (fun _ => Eng.init) g (f (s.en g)) }

def State.setEn (s : State) (g : Nat) (e : Eng) : State := s.modEn g (fun _ => e)

def State.sch (s : State) (g : Nat) : Sched := s.sched.get (fun _ => Sched.init) g

def State.modSch (s : State) (g : Nat) (f : Sched → Sched) : State :=
  { s with sched := s.sched.set (fun _ => Sched.init) g (f (s.sch g)) }

/-- Slot `k` of gondola `g` beyond its registers. -/
def State.ts (s : State) (g k : Nat) : TSlot := s.slot.get (fun _ => TSlot.init) (64 * g + k)

def State.modTs (s : State) (g k : Nat) (f : TSlot → TSlot) : State :=
  { s with slot := s.slot.set (fun _ => TSlot.init) (64 * g + k) (f (s.ts g k)) }

/-- Input `i` of slot `k` of gondola `g`. -/
def State.ti (s : State) (g k i : Nat) : TIn := s.tin.get (fun _ => TIn.init) (1024 * g + 16 * k + i)

def State.modTi (s : State) (g k i : Nat) (f : TIn → TIn) : State :=
  { s with tin := s.tin.set (fun _ => TIn.init) (1024 * g + 16 * k + i) (f (s.ti g k i)) }

/-- The slot whose task the engine executes; 0 where there is none. -/
def State.curSlot (s : State) (g : Nat) : Nat := (s.sch g).cur.getD 0

/-! ### Local memory (R70, R71) and secure SRAM (R367) -/

/-- Bytes of local memory from offset `o` on. -/
def Mem.lmBytes (m : Mem) (g o n : Nat) : List Byte := (upFrom (g * 0x10000 + o) n).map (Store.get (fun _ => 0) m.lm)

def Mem.lmPutAt (m : Mem) : Nat → List Byte → Mem
  | _, [] => m
  | k, b :: bs => Mem.lmPutAt { m with lm := Store.set (fun _ => 0) m.lm k b } (k + 1) bs

/-- Bytes are stored in local memory from offset `o` on; words written in full lose their poison (R39, R71). -/
def Mem.lmPut (m : Mem) (g o : Nat) (data : List Byte) : Mem :=
  let full := (fullWords o data.length).map (· + g * 0x2000)
  { m with lmPoison := m.lmPoison.filter (fun w => !full.contains w) }.lmPutAt (g * 0x10000 + o) data

/-- Whether a word of local memory that an access touches is poisoned. -/
def Mem.lmBad (m : Mem) (g o n : Nat) : Bool := (wordsOf o n).any (fun w => m.lmPoison.contains (g * 0x2000 + w))

/-- A 32-bit word of local memory. -/
def Mem.lmWord (m : Mem) (g o : Nat) : Nat := ofBytes (m.lmBytes g o 4)

/-- A 32-bit word is stored in local memory. -/
def State.lmStore (s : State) (g o v : Nat) : State := { s with mem := s.mem.lmPut g o (toBytes 4 v) }

/-- Words are stored in local memory from offset `o` on, in one piece (R106, R144). -/
def State.lmStores (s : State) (g o : Nat) (l : List Nat) : State :=
  { s with mem := s.mem.lmPut g o (l.flatMap (toBytes 4)) }

def Mem.secBytes (m : Mem) (o n : Nat) : List Byte := (upFrom o n).map (Store.get (fun _ => 0) m.sec)

def Mem.secPut (m : Mem) : Nat → List Byte → Mem
  | _, [] => m
  | k, b :: bs => Mem.secPut { m with sec := Store.set (fun _ => 0) m.sec k b } (k + 1) bs

/-- Bytes are stored in secure SRAM; a word written whole loses its poison (R39). -/
def State.secStore (s : State) (o : Nat) (d : List Byte) : State :=
  let m := { s.mem with secPoison := s.mem.secPoison.filter (fun w => !(fullWords o d.length).contains w) }
  { s with mem := m.secPut o d }

/-- Whether an access to secure SRAM meets a poisoned word (R39). -/
def Mem.secBad (m : Mem) (o n : Nat) : Bool := (wordsOf o n).any m.secPoison.contains

/-- Whether logical gondola `g` is secure (R367). -/
def State.secure (s : State) (g : Nat) : Bool := bitAt (s.rd SECGON.SEC 0 (g / 32)) (g % 32)

/-- Whether an engine may reach secure SRAM at offset `o` (R113, R367, R372). -/
def State.secOk (s : State) (g o n : Nat) (write : Bool) : Bool :=
  s.secure g && !s.on TAMPSTAT.WIPING && decide (o + n ≤ (if write then 0x3FF00 else 0x40000))

/-! ### Posted stores (R72, R104) -/

/-- Whether what an engine sends is discarded behind its gondola's isolated port (R20). -/
def State.cutEng (s : State) (g : Nat) : Bool := s.isolated (s.phys g)

/-- A posted store reaches its bank, if it has not yet; behind an isolated port it is acknowledged and lost (R19, R20). -/
def State.serve (s : State) (g : Nat) (p : PStore) (err : Ecc) : State × PStore :=
  match p.served with
  | some _ => (s, p)
  | none =>
    if s.cutEng g then (s, { p with served := some none })
    else
    let (s, st) := s.sramWriteBy (.eng g) p.addr p.data err
    (s, { p with served := some (match st with | .ok => none | .bus k => some k | _ => some 0) })

/-- The stores of a list that go to the bank of address `a` reach it, in order (R18, R72); `err` is what the ECC shows from
the word of `a` on, and what of it they leave is answered. -/
def State.serveBank (s : State) (g a : Nat) (err : Ecc) : List PStore → State × List PStore × Ecc
  | [] => (s, [], err)
  | p :: ps =>
    let here := p.addr / 0x40000 = a / 0x40000
    let (s, p, err) := if here ∧ p.served.isNone then
        let (s, q) := s.serve g p (err.shift a p.addr)
        (s, q, err.without a (wordsOf p.addr p.data.length))
      else (s, p, err)
    let (s, ps, err) := State.serveBank s g a err ps
    (s, p :: ps, err)

/-- A later access of the engine to address `a` finds every earlier posted store at its bank (R72). -/
def State.flushBank (s : State) (g a : Nat) (err : Ecc) : State × Ecc :=
  let (s, ps, err) := s.serveBank g a err (s.en g).posted
  (s.modEn g (fun e => { e with posted := ps }), err)

/-! ### Data accesses of an engine (R70 to R72) -/

/-- An uncorrectable error outside shared SRAM is counted, recorded and reported as one within it, with an address that the spec
leaves open (R39, R326, R410, notes/assumptions/162.md). -/
def State.ueElse (s : State) : State :=
  let (v, s) := s.fresh
  (((s.cnt SRAMUE.COUNT).wr SRAMUEADDR.WORD (v % 2 ^ 22)).telUe).raise 7682 (v % 2 ^ 22 * 8)

/-- What local memory's ECC shows at an access: a correctable error is counted, an uncorrectable one poisons the word
and marks the gondola suspect (R39, R71, R335). -/
def State.lmEcc (s : State) (g o : Nat) (err : Ecc) : State :=
  match err.first with
  | .correctable => s.sramCe
  | .uncorrectable =>
    let w := g * 0x2000 + o / 8
    let s := { s with mem := { s.mem with lmPoison := if s.mem.lmPoison.contains w then s.mem.lmPoison else s.mem.lmPoison ++ [w] } }
    s.ueElse.suspect (s.phys g) 2
  | _ => s

/-- What secure SRAM's ECC shows at an access to offset `o` (R39, R326). -/
def State.secEcc (s : State) (o : Nat) (err : Ecc) : State :=
  match err.first with
  | .correctable => s.sramCe
  | .uncorrectable =>
    let p := s.mem.secPoison
    ({ s with mem := { s.mem with secPoison := if p.contains (o / 8) then p else p ++ [o / 8] } } : State).ueElse
  | _ => s

/-- Bytes that the spec leaves open. -/
def State.freeBytes (s : State) (n : Nat) : State × List Byte :=
  let (v, s) := s.fresh
  (s, toBytes n v)

/-- A load of `n` bytes: the bytes, or the subcode of a bus error (R70, R72, R96). Behind the gondola's isolated port the
load is discarded and its data are open (R20, notes/assumptions/139.md); in secure SRAM an access that is not naturally
aligned is subcode 1, after the checks of R367 (DESIGN CHOICE, notes/assumptions/140.md). -/
def State.engLoad (s : State) (g a n : Nat) (err : Ecc) : State × Except Nat (List Byte) :=
  if a < 0x1800000 then
    if s.cutEng g ∧ accessOk a n then
      let (s, d) := s.freeBytes n
      (s, .ok d)
    else
    let (s, err) := s.flushBank g a err
    match s.sramReadBy (.eng g) a n err with
    | (s, .ok, d) => (s, .ok d)
    | (s, .bus k, _) => (s, .error k)
    | (s, _, _) => (s, .error 0)
  else if 0x40000000 ≤ a ∧ a < 0x40010000 then
    let o := a - 0x40000000
    if a % n ≠ 0 then (s, .error 1)
    else if s.mem.lmBad g o n then (s, .error 4)
    else
      let s := s.lmEcc g o err
      if err.first = .uncorrectable then (s, .error 4) else (s, .ok (s.mem.lmBytes g o n))
  else if 0x60000000 ≤ a ∧ a < 0x60080000 then
    if ¬ s.secOk g (a - 0x60000000) n false then (s, .error 2)
    else if a % n ≠ 0 then (s, .error 1)
    else if s.cutEng g then
      let (s, d) := s.freeBytes n
      (s, .ok d)
    else if s.isolated 212 then (s, .error 3)
    else if s.mem.secBad (a - 0x60000000) n then (s, .error 4)
    else
      let s := s.secEcc (a - 0x60000000) err
      if err.first = .uncorrectable then (s, .error 4) else (s, .ok (s.mem.secBytes (a - 0x60000000) n))
  else (s, .error 0)

/-- A store to local memory or secure SRAM, which completes at once: none, or the subcode of a bus error (R70, R71).
Alignment in secure SRAM, and an isolated port, as for a load. -/
def State.engStoreNow (s : State) (g a : Nat) (data : List Byte) (err : Ecc) : State × Option Nat :=
  let n := data.length
  if 0x40000000 ≤ a ∧ a < 0x40010000 then
    let o := a - 0x40000000
    if a % n ≠ 0 then (s, some 1)
    else if n < 8 ∧ s.mem.lmBad g o n then (s, some 4)
    else
      let s := if n < 8 then s.lmEcc g o err else s
      if n < 8 ∧ err.first = .uncorrectable then (s, some 4) else ({ s with mem := s.mem.lmPut g o data }, none)
  else if 0x60000000 ≤ a ∧ a < 0x60080000 then
    if ¬ s.secOk g (a - 0x60000000) n true then (s, some 2)
    else if a % n ≠ 0 then (s, some 1)
    else if s.cutEng g then (s, none)
    else if s.isolated 212 then (s, some 3)
    else if n < 8 ∧ s.mem.secBad (a - 0x60000000) n then (s, some 4)
    else
      let s := if n < 8 then s.secEcc (a - 0x60000000) err else s
      if n < 8 ∧ err.first = .uncorrectable then (s, some 4) else (s.secStore (a - 0x60000000) data, none)
  else (s, some 0)

/-- An atomic operation: the old value, or the subcode of a bus error (R38, R70, R84). -/
def State.engAtomic (s : State) (g : Nat) (op : Atomic) (a n cmp val : Nat) (err : Ecc) : State × Except Nat Nat :=
  if a < 0x1800000 then
    if s.cutEng g ∧ (n = 4 ∨ n = 8) ∧ accessOk a n then
      let (s, d) := s.freeBytes n
      (s, .ok (ofBytes d))
    else
    let (s, err) := s.flushBank g a err
    match s.sramAtomicBy (.eng g) op a n cmp val err with
    | (s, .ok, old) => (s, .ok old)
    | (s, .bus k, _) => (s, .error k)
    | (s, _, _) => (s, .error 0)
  else
    match s.engLoad g a n err with
    | (s, .error k) => (s, .error k)
    | (s, .ok d) =>
      let old := ofBytes d
      match s.engStoreNow g a (toBytes n (op.apply n old cmp val)) .clean with
      | (s, some k) => (s, .error k)
      | (s, none) => (s, .ok old)

/-! ### State as the registers show it (R94) -/

/-- ENGSTAT.STATE. -/
def State.engState (s : State) (g : Nat) : Nat :=
  let e := s.en g
  if s.on BALSTAT.INBAL g then 5
  else match (s.sch g).cur with
    | none => if s.on ENGCTL.RUN g then 1 else 0
    | some _ => if (¬ s.on ENGCTL.RUN g ∨ e.halted) ∧ e.hold.isNone then 3 else if e.exl then 4 else 2

/-- The word ENGSTAT reads. -/
def State.engstatWord (s : State) (g : Nat) : Nat :=
  let k := s.engState g
  k * 2 ^ 29 + (s.en g).mode % 2 * 2 ^ 28 + (if 2 ≤ k ∧ k ≤ 5 then s.curSlot g * 2 ^ 16 else 0)

/-! ### Pending exceptions (R97, R98, R103, R104) -/

/-- The oldest imprecise exception that is due; none is taken in a handler (R98, R108). -/
def Eng.due (e : Eng) : Option Imp := if e.exl then none else e.imp.find? (·.due)

/-- Whether something is to be taken at the boundary before an instruction executes (R98). -/
def Eng.busy (e : Eng) : Bool := !e.bal.isEmpty || e.fault.isSome || e.prec.isSome || e.due.isSome || e.hold.isSome

/-- Whether the engine halts before its next instruction at its breakpoint (R378). -/
def State.atBreak (s : State) (g : Nat) : Bool :=
  s.on DBGECTL.BPEN g && s.rd DBGBP.ADDR g == (s.en g).pc && !(s.en g).bpPass

/-- Whether the engine executes its next instruction now (R94, R98). -/
def State.engReady (s : State) (g : Nat) : Bool :=
  (s.sch g).cur.isSome && s.on ENGCTL.RUN g && !(s.en g).halted && !s.on BALSTAT.INBAL g && !(s.en g).busy && !s.atBreak g

/-- An instruction meets a fault: it changes nothing, and the exception is pending (R97). -/
def Eng.setFault (e : Eng) (cause sub addr : Nat) : Eng := { e with fault := some ⟨cause, sub, e.pc, addr, 0⟩ }

/-- An OVF, DVZ or ASAT from an instruction that completes: suppressed in a handler, precise or imprecise (R103,
R108). -/
def State.arith (s : State) (g cause sub : Nat) : State :=
  let e := s.en g
  if e.exl then s.cnt EXCCNT.SUPP 1 g
  else if bitAt e.mode 0 then s.modEn g (fun e => { e with prec := some ⟨cause, sub, e.pc, 0, 0⟩ })
  else if e.imp.any (·.arith) then (s.cnt EXCCNT.LOST 1 g).modEn g (fun e => { e with multi := true })
  else s.modEn g (fun e => { e with imp := e.imp ++ [⟨⟨cause, sub, e.pc, 0, 0⟩, true, 0, false⟩] })

/-- Whether an arithmetic check is outstanding (R103). -/
def Eng.checking (e : Eng) : Bool := e.imp.any (fun i => i.arith && !i.due)

/-- The outstanding arithmetic exception falls due (R103). -/
def Eng.impDue (e : Eng) : Eng := { e with imp := e.imp.map (fun i => if i.arith then { i with due := true } else i) }

/-! ### Loops and branches (R86 to R89) -/

def LoopL.at (l : LoopL) (pc : Nat) : Bool := l.act && l.le == pc

/-- Whether the next instruction stands at LE of an active level. -/
def Eng.atLe (e : Eng) : Bool := e.l0.at e.pc || e.l1.at e.pc

/-- A taken branch closes each active level whose body does not hold its target (R89). -/
def LoopL.leave (l : LoopL) (tgt : Nat) : LoopL := if l.ls ≤ tgt ∧ tgt ≤ l.le then l else { l with act := false }

/-- A level after the instruction at its LE completed (R88). -/
def LoopL.down (l : LoopL) : LoopL := { l with lc := l.lc - 1, act := decide (1 < l.lc) }

/-- One level at the instruction at `pc`: whether it loops back, and the level then. -/
def LoopL.look (l : LoopL) (pc : Nat) : Bool × LoopL := if l.at pc then (decide (1 < l.lc), l.down) else (false, l)

/-- The completion of the instruction at `pc`: an active level that ends there counts down and loops back or closes. Where both
end there the inner one, whose body begins later, is evaluated first, and the outer one where it closes (R88). -/
def Eng.loopBack (e : Eng) (pc : Nat) : Eng :=
  let (b0, l0) := e.l0.look pc
  let (b1, l1) := e.l1.look pc
  let e := { e with pc := pc + 4 }
  if e.l1.ls < e.l0.ls then
    (if b0 then { e with l0 := l0, pc := e.l0.ls } else if b1 then { e with l0 := l0, l1 := l1, pc := e.l1.ls } else { e with l0 := l0, l1 := l1 })
  else if b1 then { e with l1 := l1, pc := e.l1.ls }
  else if b0 then { e with l0 := l0, l1 := l1, pc := e.l0.ls }
  else { e with l0 := l0, l1 := l1 }

/-- A taken control transfer enters the trace of the last 64 (R114). -/
def Eng.note (e : Eng) (src tgt : Nat) : Eng := { e with trace := ((src, tgt) :: e.trace).take 64 }

/-- Where control goes when an instruction retires: after a delay slot to where its branch goes, after a branch to its
slot, after an instruction that names the next address there, else on or back in a loop (R86, R88, R89). -/
def Eng.goOn (e : Eng) (npc : Option Nat) (nb : Option Branch) : Eng :=
  match e.br with
  | some b =>
    let e := { e with br := none, pc := b.dest }
    let e := if b.taken then e.note b.src b.dest else e
    let e := if b.taken ∧ b.close then { e with l0 := e.l0.leave b.dest, l1 := e.l1.leave b.dest } else e
    if b.link then e.setR 14 (BitVec.ofNat 32 (b.src + 8)) else e
  | none =>
    match nb, npc with
    | some b, _ => { e with br := some b, pc := e.pc + 4 }
    | none, some p => { e.note e.pc p with pc := p }
    | none, none => e.loopBack e.pc

/-- Pending MODE writes count an executed instruction, and take effect at the third one after them (R69). -/
def Eng.modeStep (e : Eng) : Eng :=
  let l := e.modeP.map (fun m => { m with left := m.left - 1 })
  { e with modeP := l.filter (fun m => m.left != 0), mode := (l.filter (fun m => m.left == 0)).foldl (fun _ m => m.val) e.mode }

/-- An outstanding check counts an executed instruction, and is due at the boundary before the third one after its
cause (R103). -/
def Eng.impStep (e : Eng) : Eng :=
  { e with imp := e.imp.map (fun i => if i.arith then { i with age := i.age + 1, due := i.due || decide (3 ≤ i.age + 1) } else i) }

/-- A debug halt that waits, or the end of a step, at the boundary just reached (R98, R378). -/
def Eng.haltCheck (e : Eng) : Eng :=
  if e.prec.isSome ∨ e.due.isSome ∨ e.br.isSome ∨ e.hold.isSome then e
  else if e.stepping then { e with stepping := false, halted := true }
  else if e.haltReq ∧ e.modeP.isEmpty then { e with haltReq := false, halted := true }
  else e

/-! ### Retirement -/

/-- The deadline record of a slot (R93, R155): word `i`. -/
def State.dlrec (s : State) (g k i : Nat) : Nat := s.rd DLREC.WORD g (4 * k + i)

/-- Whether the record of a slot is used (R149). -/
def State.dlUsable (s : State) (g k : Nat) : Bool :=
  s.dlrec g k 0 / 2 ^ 16 == s.rd TDENTRY.ENTRY g k && s.dlrec g k 1 != 0

/-- The first time END retires in a dispatch, its time is checked against the deadline (R151). -/
def State.deadline (s : State) (g pc : Nat) : State :=
  let k := s.curSlot g
  if (s.ts g k).endSeen ∨ ¬ s.dlUsable g k ∨ pc ≠ 0x40000000 + s.dlrec g k 0 % 2 ^ 16 then s
  else
    let s := s.modTs g k (fun x => { x with endSeen := true })
    let lim := (s.ts g k).ref + ns (s.dlrec g k 1)
    if s.fine 0 ≤ lim then s
    else
      (s.cnt DLMISS.COUNT 1 g).raise 7693 (g * 2 ^ 24 + k * 2 ^ 16 + satTo 0xFFFF ((s.fine 0 - lim + (us 1 - 1)) / us 1))

/-- The instruction at the PC retires. -/
def State.retire (s : State) (g : Nat) (npc : Option Nat := none) (nb : Option Branch := none) : State :=
  let s := s.deadline g (s.en g).pc
  s.modEn g (fun e => ({ (e.modeStep.impStep.goOn npc nb) with icount := e.icount + 1, bpPass := false }).haltCheck)

/-- What executing an instruction comes to: a fault with cause, subcode and address, which leaves nothing changed; or
the state after it, with an arithmetic exception it raises, the address or the branch it goes on to; or a wait; or a
ballast request; or the state after an instruction that has retired by itself, for the end of a task. -/
inductive Done where
  | fault (s : State) (cause sub addr : Nat)
  | ok (s : State) (exc : Option (Nat × Nat)) (npc : Option Nat) (nb : Option Branch)
  | wait (s : State) (h : Hold)
  | ballast (s : State) (cause : Nat)
  | last (s : State)

/-- The plain end of an instruction. -/
def State.fin (s : State) : Done := .ok s none none none

/-- The end of an instruction that may have raised an arithmetic exception. -/
def State.finExc (s : State) (exc : Option (Nat × Nat)) : Done := .ok s exc none none

/-- How an instruction stands in the rules of R83, R87, R88 and R103: the breach of its encoding, whether it is a control
transfer, whether it may not stand in a delay slot, and whether outstanding checks are taken before it. -/
structure InsKind where
  ill : Option Nat
  ctl : Bool := false
  noSlot : Bool := false
  barrier : Bool := false
  deriving DecidableEq, Repr

/-- The subcode of an ILL the instruction meets: its encoding, the end of a loop, a delay slot (R87, R88, R96). Where several
hold, the first of these is reported (DESIGN CHOICE, notes/assumptions/148.md). -/
def Eng.illegal (e : Eng) (k : InsKind) : Option Nat :=
  match k.ill with
  | some n => some n
  | none =>
    if e.atLe ∧ (k.ctl ∨ e.br.isSome) then some 3
    else if e.br.isSome ∧ (k.ctl ∨ k.noSlot) then some 2
    else none

/-- The subcode of a FETCH fault at the PC (R70, R84, R96). -/
def State.fetchBad (s : State) (g : Nat) : Option Nat :=
  let pc := (s.en g).pc
  if pc < 0x40000000 ∨ 0x40010000 ≤ pc then some 0
  else if pc % 4 ≠ 0 then some 1
  else if s.mem.lmBad g (pc - 0x40000000) 4 then some 2
  else none

/-- The engine comes to execute an instruction: nothing happens unless it can; it faults, or an outstanding check is
taken first, or it executes `f` and retires (R97, R98, R103). In a handler a check that is outstanding stays so, past `eret`
(DESIGN CHOICE, notes/assumptions/149.md). -/
def State.engRun (s : State) (g : Nat) (k : InsKind) (f : State → Done) : State :=
  if ¬ s.engReady g then s
  else match s.fetchBad g with
    | some sub => s.modEn g (·.setFault 1 sub 0)
    | none =>
      if k.barrier ∧ (s.en g).checking ∧ ¬ (s.en g).exl then s.modEn g (·.impDue)
      else match (s.en g).illegal k with
        | some sub => s.modEn g (·.setFault 2 sub 0)
        | none =>
          match f s with
          | .fault s cause sub addr => s.modEn g (·.setFault cause sub addr)
          | .wait s h => s.modEn g (fun e => { e with hold := some h })
          | .ballast s c => s.modEn g (fun e => { e with bal := e.bal ++ [⟨c, e.pc, e.ecause, e.eaddr⟩] })
          | .last s => s
          | .ok s exc npc nb =>
            let s := match exc with
              | some (c, sub) => s.arith g c sub
              | none => s
            s.retire g npc nb

end Sys2Proof.Machine
end

