-- ==== Sys2Proof/Machine/Sched.lean ====
section
/-! DEFINITION. The scheduler: task inputs, readiness, dispatch, preemption and slack (R139 to R155). -/
namespace Sys2Proof.Machine
open Reg

/-! ### Readiness (R140, R142) -/

/-- Whether a slot's trigger or run request holds (R140). -/
def State.slotCond (s : State) (g k : Nat) : Bool :=
  let trig := s.rd TDCTL.TRIG g k
  let has := (onesOf trig 16).map (fun i => decide (0 < (s.ti g k i).count))
  s.on TDCTL.EN g k && ((s.ts g k).req.isSome || (trig != 0 && (if s.on TDCTL.ALL g k then has.all id else has.any id)))

/-- The waiting slot of highest priority, the first of its order (R142). -/
def State.best (s : State) (g : Nat) : Option Nat :=
  (s.sch g).order.foldl (fun b k => match b with
    | none => some k
    | some j => if s.rd TDCTL.PRIO g j < s.rd TDCTL.PRIO g k then some k else b) none

/-- The decision made as a slot becomes ready while the engine executes: whether the best waiting slot preempts (R142). -/
def State.decide_ (s : State) (g : Nat) : State :=
  match (s.sch g).cur, s.best g with
  | some c, some k => s.modSch g (fun d => { d with due := decide (s.rd TDCTL.PRIO g c < s.rd TDCTL.PRIO g k) })
  | _, _ => s

/-- A slot is looked at: an idle one whose condition holds becomes ready, behind the others, and a decision is made; a ready
one whose condition no longer holds does not stay so (R140, R142). -/
def State.lookAt (s : State) (g k : Nat) : State :=
  match (s.ts g k).st with
  | .idle =>
    if s.slotCond g k then
      ((s.modTs g k (fun x => { x with st := .ready })).modSch g (fun c => { c with order := c.order ++ [k] })).decide_ g
    else s
  | .ready =>
    if s.slotCond g k then s
    else (s.modTs g k (fun x => { x with st := .idle })).modSch g (fun c => { c with order := c.order.filter (· != k) })
  | _ => s

/-! ### Task inputs (R141, R81) -/

/-- Entry B is exchanged with A where it is the earlier one (R27, R141). -/
def TIn.sort (x : TIn) : TIn :=
  match x.a, x.b with
  | some a, some b => if b.ts < a.ts ∨ (b.ts = a.ts ∧ b.id < a.id) then { x with a := some b, b := some a } else x
  | _, _ => x

/-- One arrival at a task input (R141). -/
def TIn.arrive (x : TIn) (ev : Ev) : TIn :=
  let e : InEnt := ⟨ev.id, ev.ts, ev.coinc, ev.tq⟩
  let y := { x with count := satTo 15 (x.count + 1), coinc := x.coinc || ev.coinc, lastId := ev.id }
  if x.a.isNone then { y with a := some e }.sort
  else if x.b.isNone then { y with b := some e }.sort
  else { y with b := some e, overrun := true }.sort

/-- Whether one event comes before another: by timestamp, then by ID (R27). -/
def Ev.before (a b : Ev) : Bool := decide (a.ts < b.ts) || (a.ts == b.ts && decide (a.id ≤ b.id))

def insertEv (e : Ev) : List Ev → List Ev
  | [] => [e]
  | x :: xs => if e.before x then e :: x :: xs else x :: insertEv e xs

/-- Events in timestamp order, equal timestamps in ID order (R27). -/
def sortEvs : List Ev → List Ev
  | [] => []
  | e :: es => insertEv e (sortEvs es)

/-- Whether arrival `i` of a round lies less than 200 ps from another one (R24). -/
def coincAt (arr : List Nat) (i : Nat) : Bool :=
  (upFrom 0 arr.length).any (fun j => j != i && decide (absDiff (arr.getD i 0) (arr.getD j 0) < 200))

/-- How many pairs of a round's arrivals lie less than 200 ps apart (R24). -/
def coincPairs : List Nat → Nat
  | [] => 0
  | a :: r => (r.filter (fun b => decide (absDiff a b < 200))).length + coincPairs r

/-- The first `n` events under way to an input that a grant latches (R23): of each port one at most, and none before an
earlier one of its port to the same gondola (R18). `b` holds the ports that gave one to this grant already. -/
def takeArrivals (g slot inp : Nat) : Nat → List Nat → List Arrival → List Arrival × List Arrival
  | 0, _, l => ([], l)
  | _ + 1, _, [] => ([], [])
  | n + 1, b, a :: l =>
    if a.g = g ∧ a.slot = slot ∧ a.inp = inp ∧ ¬ b.contains a.port then
      let (es, r) := takeArrivals g slot inp n (a.port :: b) l
      (a :: es, r)
    else
      let (es, r) := takeArrivals g slot inp (n + 1) (if a.g = g then a.port :: b else b) l
      (es, a :: r)

/-- Events are applied to an input in timestamp order (R141). -/
def State.applyArrivals (s : State) (g k i : Nat) (es : List Ev) : State :=
  s.modTi g k i (fun x => (sortEvs es).foldl TIn.arrive x)

/-- TASK_INPUT_ARRIVAL: a grant of the input arbiter; `arr` gives the arrival of each latched event in ps (R24, R25,
R141). -/
def State.arrivals (s : State) (g k i : Nat) (arr : List Nat) : State :=
  let (es, rest) := takeArrivals g k i arr.length [] s.fab.arrivals
  let es := (es.zip (upFrom 0 8)).map (fun (a, j) => { a.ev with coinc := a.ev.coinc || coincAt (arr.take es.length) j })
  let s := { s with fab := { s.fab with arrivals := rest } }
  if es.isEmpty then s else (s.countCoinc (coincPairs (arr.take es.length))).applyArrivals g k i es |>.lookAt g k

/-- The words of a snapshot of an input (R81). -/
def TIn.words (x : TIn) : List Nat :=
  let q (e : Option InEnt) : Bool := e.any (·.tq)
  let ts (e : Option InEnt) : Nat := (e.map (·.ts)).getD 0
  let idw (e : Option InEnt) : Nat :=
    match e with
    | none => 0
    | some e => 2 ^ 15 + b2n e.tq * 2 ^ 14 + b2n e.coinc * 2 ^ 13 + e.id
  [x.lastId * 2 ^ 16 + b2n (q x.a || q x.b) * 2 ^ 6 + b2n x.coinc * 2 ^ 5 + b2n x.overrun * 2 ^ 4 + x.count, 0,
   ts x.a % 2 ^ 32, ts x.a / 2 ^ 32 % 2 ^ 32, ts x.b % 2 ^ 32, ts x.b / 2 ^ 32 % 2 ^ 32, idw x.a, idw x.b]

/-- The word INSTAT reads (R155). -/
def TIn.instat (x : TIn) : Nat :=
  b2n x.overrun * 2 ^ 31 + b2n x.coinc * 2 ^ 30 + b2n ((x.a.any (·.tq)) || (x.b.any (·.tq))) * 2 ^ 29 + x.count

/-! ### Context (R144) -/

/-- The offset in local memory of a slot's save area. -/
def State.saveAt (s : State) (g k : Nat) : Nat := s.rd SAVEBASE.BASE g * 2 ^ 13 + 128 * k

/-- The 30 words of a context (R144). -/
def Eng.context (e : Eng) : List Nat :=
  (upFrom 0 16).map (fun i => (e.r i).toNat)
    ++ [ofSigned 64 e.acc0 % 2 ^ 32, ofSigned 64 e.acc0 / 2 ^ 32, ofSigned 64 e.acc1 % 2 ^ 32, ofSigned 64 e.acc1 / 2 ^ 32]
    ++ [e.pc, e.flags, e.mode, e.l0.lc, e.l0.ls, e.l0.le, e.l1.lc, e.l1.ls, e.l1.le, 2 * b2n e.l1.act + b2n e.l0.act, 0, 0]

/-- The context is saved, with the MODE writes still pending (R144). -/
def State.saveCtx (s : State) (g k : Nat) : State :=
  let e := s.en g
  ((s.lmStores g (s.saveAt g k) e.context).modTs g k (fun x => { x with modeP := e.modeP })).modEn g (fun e => { e with modeP := [] })

/-- An engine with the registers `w`, from register `i` on. -/
def Eng.loadRegs (e : Eng) : Nat → List Nat → Eng
  | _, [] => e
  | i, v :: vs => (e.setR i (BitVec.ofNat 32 v)).loadRegs (i + 1) vs

/-- The context is restored (R144). -/
def State.restoreCtx (s : State) (g k : Nat) : State :=
  let o := s.saveAt g k
  let w (i : Nat) : Nat := s.mem.lmWord g (o + 4 * i)
  let a (i : Nat) : Int := toSigned 48 (w i + 2 ^ 32 * w (i + 1))
  let p := (s.ts g k).modeP
  (s.modEn g (fun e =>
    { (e.loadRegs 0 ((upFrom 0 16).map w)) with
      acc0 := a 16, acc1 := a 18, pc := w 20, flags := w 21 % 16, mode := w 22 % 16, modeP := p,
      l0 := ⟨bitAt (w 29) 0, w 23, w 24, w 25⟩, l1 := ⟨bitAt (w 29) 1, w 26, w 27, w 28⟩, br := none })).modTs g k (fun x => { x with modeP := [] })

/-! ### Dispatch, preemption, resumption (R142 to R147, R150) -/

/-- The earliest entry A of the inputs that hold arrivals (R150). -/
def State.firstEntry (s : State) (g k : Nat) : Option InEnt :=
  (upFrom 0 16).foldl (fun b i =>
    let x := s.ti g k i
    if x.count = 0 then b
    else match b, x.a with
      | none, a => a
      | some b, some a => if a.ts < b.ts ∨ (a.ts = b.ts ∧ a.id < b.id) then some a else some b
      | some b, none => some b) none

/-- ARG of a channel's descriptor: the copy its router holds, else the table's (R132, R146). -/
def State.chArg (s : State) (n : Nat) : Nat :=
  match (s.router (s.phys (n / 16))).desc.find? (fun d => d.ch = n % 16) with
  | some d => d.arg
  | none => ofBytes (s.mem.sramBytes (s.descAdr n + 4) 4)

/-- Whether the engine can be given a task (R95, R112, R347). -/
def State.engFree (s : State) (g : Nat) : Bool :=
  (s.sch g).cur.isNone && s.on ENGCTL.RUN g && !s.on BALSTAT.INBAL g && (s.en g).bal.isEmpty && s.rd PWRSTAT.STATE == 0
    && s.on BOOTSTAT.DONE

/-- The slot leaves the waiting ones and executes. -/
def State.startSlot (s : State) (g k : Nat) : State :=
  (s.modTs g k (fun x => { x with st := .exec })).modSch g (fun c => { c with order := c.order.filter (· != k), cur := some k, due := false })

/-- A fresh dispatch of slot `k` (R146, R150). -/
def State.fresh_ (s : State) (g k : Nat) : State :=
  let mask := ((upFrom 0 16).filter (fun i => decide (0 < (s.ti g k i).count))).foldl (fun m i => m + 2 ^ i) 0
  let ent := s.firstEntry g k
  let req := (s.ts g k).req
  let byEv : Option InEnt := match ent, req with
    | some e, some r => if e.ts ≤ r then some e else none
    | e, none => e
    | none, _ => none
  let ref := match byEv with
    | some e => e.ts
    | none => req.getD 0
  let id := (byEv.map (·.id)).getD 0
  let w0 := match byEv with
    | some e => if e.id < 6144 then s.chArg (e.id / 6) else s.rd TDARG.VALUE g k
    | none => s.rd TDARG.VALUE g k
  let mode := s.rd TDCTL.MRND g k * 4 + s.rd TDCTL.MASTRAP g k * 2 + s.rd TDCTL.MPRECISE g k
  let pc := 0x40000000 + s.rd TDENTRY.ENTRY g k
  let sp := 0x40000000 + s.rd TDENTRY.STACK g k
  let s := (s.startSlot g k).modTs g k (fun x => { x with req := none, ref := ref, endSeen := false, snap := [], modeP := [] })
  s.modEn g (fun e =>
    ({ (((e.setR 0 (BitVec.ofNat 32 w0)).setR 1 (BitVec.ofNat 32 (id * 2 ^ 16 + mask))).setR 15 (BitVec.ofNat 32 sp)) with
      pc := pc, flags := 0, mode := mode, modeP := [], br := none,
      l0 := { e.l0 with act := false }, l1 := { e.l1 with act := false } }).haltCheck)

/-- TASK_DISPATCH: the best waiting slot, if it is a ready one, is dispatched afresh (R142, R146). -/
def State.dispatch (s : State) (g : Nat) : State :=
  if ¬ s.engFree g then s
  else match s.best g with
    | none => s
    | some k => if (s.ts g k).st = .ready then s.fresh_ g k else s

/-- TASK_RESUME: the best waiting slot, if it is preempted or yielded, is resumed (R142, R144). -/
def State.resume (s : State) (g : Nat) : State :=
  if ¬ s.engFree g then s
  else match s.best g with
    | none => s
    | some k => if (s.ts g k).st = .ready then s else ((s.restoreCtx g k).startSlot g k).modEn g (·.haltCheck)

/-- Whether a boundary lets a task switch happen (R98, R143). -/
def Eng.switchable (e : Eng) : Bool :=
  !e.busy && e.br.isNone && e.modeP.isEmpty && !e.checking && e.posted.isEmpty && !e.exl && !e.haltReq && !e.stepping

/-- TASK_PREEMPT: a slot of strictly higher priority, once a decision gave it the engine, takes it from the task at an
eligible boundary of a running engine; the task goes to the head of its priority's order (R94, R142 to R144). -/
def State.preempt (s : State) (g : Nat) : State :=
  match (s.sch g).cur, s.best g with
  | some c, some k =>
    if (s.sch g).due ∧ s.on ENGCTL.RUN g ∧ s.rd TDCTL.PRIO g c < s.rd TDCTL.PRIO g k ∧ (s.en g).switchable ∧ ¬ (s.en g).halted
        ∧ ¬ s.on BALSTAT.INBAL g then
      ((s.saveCtx g c).modTs g c (fun x => { x with st := .preempted })).modSch g (fun d => { d with order := c :: d.order, cur := none, due := false })
    else s
  | _, _ => s

/-- The task of the engine ends: its slot is evaluated again, its snapshots are cleared (R81, R140, R147). -/
def State.endTask (s : State) (g : Nat) : State :=
  match (s.sch g).cur with
  | none => s
  | some k =>
    ((s.modTs g k (fun x => { x with st := .idle, snap := [], modeP := [] })).modSch g (fun d => { d with cur := none, due := false })).lookAt g k

/-- The task of the engine yields: its context is saved, and it goes to the tail of its order (R145). -/
def State.yieldTask (s : State) (g : Nat) : State :=
  match (s.sch g).cur with
  | none => s
  | some k =>
    ((s.saveCtx g k).modTs g k (fun x => { x with st := .yielded })).modSch g (fun d => { d with order := d.order ++ [k], cur := none, due := false })

/-- The stores still outstanding reach their banks, and nothing more is told of them. -/
def State.drainAll (s : State) (g : Nat) : State :=
  let s := (s.en g).posted.foldl (fun s p => (s.serve g p .clean).1) s
  s.modEn g (fun e => { e with posted := [] })

/-- An engine reset (R68, R147): registers and loops cleared, the executing, preempted and yielded tasks discarded,
inputs and run requests kept. -/
def State.engReset (s : State) (g : Nat) : State :=
  let s := s.drainAll g
  let s := s.modEn g (fun e =>
    { e with
      w := [], acc0 := 0, acc1 := 0, flags := 0, mode := 0, modeP := [], l0 := { e.l0 with act := false },
      l1 := { e.l1 with act := false }, br := none, hold := none, fault := none, prec := none, imp := [], multi := false,
      exl := false, bal := [], dump := none, clrWait := false, leaving := none, halted := false, haltReq := false, stepping := false })
  let s := s.modSch g (fun d => { d with order := d.order.filter (fun k => (s.ts g k).st == .ready), cur := none, due := false })
  (upFrom 0 64).foldl (fun s k =>
    let s := if (s.ts g k).st = .ready then s else s.modTs g k (fun x => { x with st := .idle, snap := [], modeP := [] })
    s.lookAt g k) s

/-- A debug halt that waits is taken before the first instruction of a task (R94, R378). -/
def State.haltLook (s : State) (g : Nat) : State := if (s.sch g).cur.isSome then s.modEn g (·.haltCheck) else s

/-! ### Register writes (R140, R155) -/

/-- A write of TASKRUN: CLR clears every input of the slot, then RUN places a run request. -/
def State.taskrunWrite (s : State) (g : Nat) (w : Word) : State :=
  let k := TASKRUN.SLOT.of w
  let s := if TASKRUN.CLR.of w = 1 then (upFrom 0 16).foldl (fun s i => s.modTi g k i (fun _ => TIn.init)) s else s
  let s := if TASKRUN.RUN.of w = 1 then s.modTs g k (fun x => { x with req := some (x.req.getD s.tsInt) }) else s
  s.lookAt g k

/-- A write of TDCTL. -/
def State.tdctlWrite (s : State) (g k : Nat) (w : Word) : State := (s.plainWrite (TDCTL.WHOLE.adr g k) w).lookAt g k

/-- A write of TDENTRY: STACK[18:16] and ENTRY[1:0] are stored as 0. -/
def State.tdentryWrite (s : State) (g k : Nat) (w : Word) : State :=
  (s.wr TDENTRY.STACK (TDENTRY.STACK.of w / 8 * 8) g k).wr TDENTRY.ENTRY (TDENTRY.ENTRY.of w / 4 * 4) g k

/-- A write of SAVEBASE: ignored unless RUN is 0 and no slot is preempted. -/
def State.savebaseWrite (s : State) (g : Nat) (w : Word) : State :=
  if s.on ENGCTL.RUN g ∨ (s.sch g).order.any (fun k => (s.ts g k).st == .preempted) then s
  else s.wr SAVEBASE.BASE (SAVEBASE.BASE.of w) g

/-- The word SCHSTAT reads. -/
def State.schstatWord (s : State) (g : Nat) : Nat :=
  let n (st : SlotSt) : Nat := ((s.sch g).order.filter (fun k => (s.ts g k).st == st)).length
  (match (s.sch g).cur with
    | some k => 2 ^ 31 + k * 2 ^ 24
    | none => 0) + (n .ready + n .yielded) * 2 ^ 16 + n .preempted * 2 ^ 8

/-! ### Slack (R149, R152, R329) -/

/-- K of R329, in 1/4096: the largest of the monitors of the serving gondola, its mesh region and the banks. -/
def State.slackK (s : State) (g : Nat) : Nat :=
  let p := s.phys g
  ((p :: (68 + s.rd PHEALTH.MREG 0 p) :: upFrom 84 12).map (fun m => s.rd MON.K 0 m)).foldl max 0

/-- W of R152 in 1/800 ns: WMAX, 18.9 ns for each shared access, 1.20 ns for each instruction under PRECISE. -/
def State.slotW (s : State) (g k : Nat) : Nat :=
  let w3 := s.dlrec g k 3
  s.dlrec g k 2 * 50 + bitsAt w3 4 12 * 15120 + (if ¬ bitAt w3 0 ∧ s.on TDCTL.MPRECISE g k then bitsAt w3 16 16 * 960 else 0)

/-- S of R152 in 1/800 ns; none where it is not computed. -/
def State.slotS (s : State) (g k : Nat) : Option Nat :=
  let prio := s.rd TDCTL.PRIO g k
  let others := (upFrom 0 64).filter (fun h => h != k && s.on TDCTL.EN g h)
  let lower := others.any (fun h => decide (s.rd TDCTL.PRIO g h < prio))
  let rivals := others.filter (fun h => decide (prio ≤ s.rd TDCTL.PRIO g h))
  if ¬ s.dlUsable g k ∨ rivals.any (fun h => s.rd TDMININT.VALUE g h == 0 || !s.dlUsable g h) then none
  else
    let own := 20800 + 8320 + (if lower then 76000 + s.rd SCHCTL.HMAX g * 800 else 0) + s.slotW g k
    some (rivals.foldl (fun a h =>
      let m := s.rd TDMININT.VALUE g h
      a + (s.dlrec g k 1 + m - 1) / m * (37536 + 8320 + s.slotW g h + 37256)) own)

/-- TSLACK of a slot: signed, in 1/16 ns, rounded towards −∞ and saturating; 0x8000_0000 where it is not computed. -/
def State.slotSlack (s : State) (g k : Nat) : Option Int :=
  (s.slotS g k).map (fun x =>
    satSigned 32 (((s.dlrec g k 1 : Int) * 16 * 204800 - (s.slackK g * x : Nat)) / 204800))

/-- The slack of every slot of a gondola is published (R152, R155). -/
def State.slackOf (s : State) (g : Nat) : State :=
  let vs := (upFrom 0 64).map (fun k => (k, s.slotSlack g k))
  let s := vs.foldl (fun s (k, v) => s.wr TSLACK.SLACK (ofSigned 32 (v.getD (-0x80000000))) g k) s
  let best : Option (Nat × Int) := vs.foldl (fun b (k, v) => match b, v with
    | none, some x => some (k, x)
    | some (j, y), some x => if x < y then some (k, x) else some (j, y)
    | b, none => b) none
  match best with
  | some (k, x) => ((s.wr SLACKMIN.SLACK (ofSigned 32 x) g).wr SLACKSLOT.VALID 1 g).wr SLACKSLOT.SLOT k g
  | none => ((s.wr SLACKMIN.SLACK 0x80000000 g).wr SLACKSLOT.VALID 0 g).wr SLACKSLOT.SLOT 0 g

/-- The logical gondolas with a computed slack, and their slack (R332). -/
def State.slacks (s : State) : List (Nat × Int) :=
  ((upFrom 0 64).filter (fun g => s.rd SLACKMIN.SLACK g != 0x80000000)).map (fun g => (g, toSigned 32 (s.rd SLACKMIN.SLACK g)))

/-- Whether every computed slack is at least TARGET + HYST (R332, R333). -/
def State.ample (s : State) : Bool :=
  s.slacks.all (fun x => decide ((16 * (s.rd MARGCTL.TARGET + s.rd MARGCTL.HYST) : Nat) ≤ x.2))

/-- The instant since which every slack has been ample is kept (R333). -/
def State.marginLook (s : State) : State :=
  { s with rel := { s.rel with goodFrom := if s.ample then some (s.rel.goodFrom.getD s.now) else none } }

/-- An arrival that makes a slot ready wakes the device from Drift (R347, R353). -/
def State.wakeSlot (s : State) (g k : Nat) : State :=
  if (s.ts g k).st = .ready ∧ ¬ s.pw.deep then s.wakeAsk 1 0 s.now else s

/-! ### The meanings -/

def execTaskInputArrival (t g slot inp : Nat) (arr : List Nat) (s : State) : Out :=
  s.ran (g < 64 ∧ slot < 64 ∧ inp < 16 ∧ arr.length ≤ 8) (((s.advance t).arrivals g slot inp arr).wakeSlot g slot)

def execTaskrunClr (t : Nat) (src : Src) (g : Nat) (val : Word) (s : State) : Out :=
  s.ran (src.ok && decide (g < 64)) ((s.advance t).authWrite src (TASKRUN.WHOLE.adr g 0) (val ||| 0x80000000) (·.taskrunWrite g (val ||| 0x80000000)))

def execTaskrunRun (t : Nat) (src : Src) (g : Nat) (val : Word) (s : State) : Out :=
  s.ran (src.ok && decide (g < 64)) ((s.advance t).authWrite src (TASKRUN.WHOLE.adr g 0) (val ||| 0x40000000) (·.taskrunWrite g (val ||| 0x40000000)))

def execTdctlWrite (t : Nat) (src : Src) (g slot : Nat) (val : Word) (s : State) : Out :=
  s.ran (src.ok && decide (g < 64 ∧ slot < 64)) ((s.advance t).authWrite src (TDCTL.WHOLE.adr g slot) val (·.tdctlWrite g slot val))

def execTaskDispatch (t g : Nat) (s : State) : Out := s.ran (g < 64) (((s.advance t).dispatch g).haltLook g)

def execTaskPreempt (t g : Nat) (s : State) : Out := s.ran (g < 64) (((s.advance t).preempt g).haltLook g)

def execTaskResume (t g : Nat) (s : State) : Out := s.ran (g < 64) (((s.advance t).resume g).haltLook g)

def execSlackRecompute (t : Nat) (s : State) : Out := s.ran true ((upFrom 0 64).foldl State.slackOf (s.advance t)).marginLook

end Sys2Proof.Machine
end

