-- ==== Sys2Proof/Machine/EngMem.lean ====
section
/-! DEFINITION. Loads, stores, atomics and `fence`, with the acknowledgements of posted stores (R70 to R72, R84, R104). -/
namespace Sys2Proof.Machine
open Reg

/-! ### Loads and stores -/

/-- A load of `n` bytes into a register or a pair, by `put` (R84). -/
def State.loadOp (s : State) (g a n : Nat) (err : Ecc) (put : Eng → Nat → Eng) : Done :=
  match s.engLoad g a n err with
  | (s, .error k) => .fault s 3 k a
  | (s, .ok d) => (s.modEn g (fun e => put e (ofBytes d))).fin

/-- A store of the low `n` bytes of `v`: posted on shared SRAM, where a fifth one waits (R72); elsewhere it completes at
once. -/
def State.storeOp (s : State) (g a n v : Nat) (err : Ecc) : Done :=
  let data := toBytes n v
  if a < 0x1800000 then
    if ¬ accessOk a n then .fault s 3 1 a
    else
      let p : PStore := ⟨(s.en g).pc, a, data, none⟩
      if 4 ≤ (s.en g).posted.length then .wait s (.store p)
      else (s.modEn g (fun e => { e with posted := e.posted ++ [p] })).fin
  else
    match s.engStoreNow g a data err with
    | (s, some k) => .fault s 3 k a
    | (s, none) => s.fin

/-! ### Atomics (R38, R84) -/

/-- FLAGS of `acas`: Z tells whether the words were equal; N, C and V stay. -/
def casFlags (fl : Nat) (eq : Bool) : Nat := putBit fl 2 eq

/-- An atomic on a 4-byte word: RD takes the old value. -/
def State.atomW (s : State) (g : Nat) (f : FmtR) (op : Atomic) (err : Ecc) : Done :=
  let e := s.en g
  let a := (e.r f.ra).toNat
  let cmp := (e.r f.rd).toNat
  match s.engAtomic g op a 4 cmp (e.r f.rb).toNat err with
  | (s, .error k) => .fault s 3 k a
  | (s, .ok old) =>
    (s.modEn g (fun e => { (e.setR f.rd (BitVec.ofNat 32 old)) with flags := if op = .cas then casFlags e.flags (old == cmp) else e.flags })).fin

/-- An atomic on an 8-byte word: RD's pair takes the old value. -/
def State.atomP (s : State) (g : Nat) (f : FmtR) (op : Atomic) (err : Ecc) : Done :=
  let e := s.en g
  let a := (e.r f.ra).toNat
  let cmp := (e.rp f.rd).toNat
  match s.engAtomic g op a 8 cmp (e.rp f.rb).toNat err with
  | (s, .error k) => .fault s 3 k a
  | (s, .ok old) =>
    (s.modEn g (fun e => { (e.setP f.rd (BitVec.ofNat 64 old)) with flags := if op = .cas then casFlags e.flags (old == cmp) else e.flags })).fin

/-! ### The end of a task, and waiting instructions (R72, R104, R108, R145, R147) -/

/-- A `done` or `yield` has completed: an imprecise exception that is due is taken before the task ends or yields, which it
does when the handler has returned (R104, DEDUCED, notes/assumptions/152.md). -/
def State.leaveNow (s : State) (g : Nat) (h : Hold) : State :=
  if (s.en g).due.isSome then s.modEn g (fun e => { e with leaving := some h })
  else
    let s := s.modEn g (fun e => { e with leaving := none })
    match h with
    | .yld => s.yieldTask g
    | _ => (s.modEn g (fun e => { e with imp := [], multi := false, modeP := [], br := none })).endTask g

/-- `done` completes: it retires, closes both loop levels, clears EXL, and the task ends. -/
def State.doneNow (s : State) (g : Nat) : State :=
  ((s.retire g).modEn g (fun e => { e with exl := false, l0 := { e.l0 with act := false }, l1 := { e.l1 with act := false } })).leaveNow g .fin

/-- `yield` completes: it retires, and the task gives the engine up. -/
def State.yieldNow (s : State) (g : Nat) : State := (s.retire g).leaveNow g .yld

/-- A waiting instruction goes on where what it waits for has come: a fifth store after the oldest is acknowledged, which `old`
tells, the others after every posted store is (R72, R104). -/
def State.unhold (s : State) (g : Nat) (old : Bool) : State :=
  let e := s.en g
  let free := s.modEn g (fun e => { e with hold := none })
  match e.hold with
  | none => s
  | some (.store p) => if old then (free.modEn g (fun e => { e with posted := e.posted ++ [p] })).retire g else s
  | some h =>
    if e.posted ≠ [] then s
    else match h with
      | .fin => free.doneNow g
      | .yld => free.yieldNow g
      | _ => free.retire g

/-- Whether posted store `i` is the oldest one of its bank (R18). -/
def Eng.oldest (e : Eng) (i : Nat) : Bool :=
  match e.posted[i]? with
  | none => false
  | some p => !(e.posted.take i).any (fun q => q.addr / 0x40000 == p.addr / 0x40000)

/-- Posted store `i` reaches its bank: the state, and the store as it then is. -/
def State.reach (s : State) (g i : Nat) (err : Ecc) : Option (State × PStore) :=
  let e := s.en g
  if ¬ e.oldest i then none
  else match e.posted[i]? with
    | none => none
    | some p =>
      let (s, p) := s.serve g p err
      some (s.modEn g (fun e => { e with posted := e.posted.set i p }), p)

/-- POSTED_STORE_ACK: a posted store is acknowledged by its bank and frees its place (R72). -/
def State.storeAck (s : State) (g i : Nat) (err : Ecc) : State :=
  match s.reach g i err with
  | some (s, p) => if p.served = some none then (s.modEn g (fun e => { e with posted := e.posted.eraseIdx i })).unhold g (i == 0) else s
  | none => s

/-- POSTED_STORE_ERROR: a posted store ends in error, which is imprecise and due at once (R104). -/
def State.storeError (s : State) (g i : Nat) (err : Ecc) : State :=
  match s.reach g i err with
  | some (s, p) =>
    (match p.served with
    | some (some k) =>
      (s.modEn g (fun e => { e with posted := e.posted.eraseIdx i, imp := e.imp ++ [⟨⟨3, k, p.pc, p.addr, 0⟩, false, 0, true⟩] })).unhold g (i == 0)
    | _ => s)
  | none => s

/-! ### The meanings -/

def execLdb (t g : Nat) (f : FmtM) (err : Ecc) (s : State) : Out :=
  s.ran (g < 64 && f.ok) ((s.advance t).engRun g ⟨f.illWord, false, false, false⟩ (fun s => s.loadOp g ((s.en g).addr f) 1 err (fun e v => e.setR f.rd (BitVec.ofInt 32 (toSigned 8 v)))))

def execLdbu (t g : Nat) (f : FmtM) (err : Ecc) (s : State) : Out :=
  s.ran (g < 64 && f.ok) ((s.advance t).engRun g ⟨f.illWord, false, false, false⟩ (fun s => s.loadOp g ((s.en g).addr f) 1 err (fun e v => e.setR f.rd (BitVec.ofNat 32 v))))

def execLdh (t g : Nat) (f : FmtM) (err : Ecc) (s : State) : Out :=
  s.ran (g < 64 && f.ok) ((s.advance t).engRun g ⟨f.illWord, false, false, false⟩ (fun s => s.loadOp g ((s.en g).addr f) 2 err (fun e v => e.setR f.rd (BitVec.ofInt 32 (toSigned 16 v)))))

def execLdhu (t g : Nat) (f : FmtM) (err : Ecc) (s : State) : Out :=
  s.ran (g < 64 && f.ok) ((s.advance t).engRun g ⟨f.illWord, false, false, false⟩ (fun s => s.loadOp g ((s.en g).addr f) 2 err (fun e v => e.setR f.rd (BitVec.ofNat 32 v))))

def execLdw (t g : Nat) (f : FmtM) (err : Ecc) (s : State) : Out :=
  s.ran (g < 64 && f.ok) ((s.advance t).engRun g ⟨f.illWord, false, false, false⟩ (fun s => s.loadOp g ((s.en g).addr f) 4 err (fun e v => e.setR f.rd (BitVec.ofNat 32 v))))

def execLdp (t g : Nat) (f : FmtM) (err : Ecc) (s : State) : Out :=
  s.ran (g < 64 && f.ok) ((s.advance t).engRun g ⟨f.illPair, false, false, false⟩ (fun s => s.loadOp g ((s.en g).addr f) 8 err (fun e v => e.setP f.rd (BitVec.ofNat 64 v))))

def execStb (t g : Nat) (f : FmtM) (err : Ecc) (s : State) : Out :=
  s.ran (g < 64 && f.ok) ((s.advance t).engRun g ⟨f.illWord, false, false, true⟩ (fun s => s.storeOp g ((s.en g).addr f) 1 ((s.en g).r f.rd).toNat err))

def execSth (t g : Nat) (f : FmtM) (err : Ecc) (s : State) : Out :=
  s.ran (g < 64 && f.ok) ((s.advance t).engRun g ⟨f.illWord, false, false, true⟩ (fun s => s.storeOp g ((s.en g).addr f) 2 ((s.en g).r f.rd).toNat err))

def execStw (t g : Nat) (f : FmtM) (err : Ecc) (s : State) : Out :=
  s.ran (g < 64 && f.ok) ((s.advance t).engRun g ⟨f.illWord, false, false, true⟩ (fun s => s.storeOp g ((s.en g).addr f) 4 ((s.en g).r f.rd).toNat err))

def execStp (t g : Nat) (f : FmtM) (err : Ecc) (s : State) : Out :=
  s.ran (g < 64 && f.ok) ((s.advance t).engRun g ⟨f.illPair, false, false, true⟩ (fun s => s.storeOp g ((s.en g).addr f) 8 ((s.en g).rp f.rd).toNat err))

def execAswpW (t g : Nat) (f : FmtR) (err : Ecc) (s : State) : Out :=
  s.ran (g < 64 && f.ok) ((s.advance t).engRun g ⟨f.illWords, false, false, true⟩ (fun s => s.atomW g f .swap err))

def execAswpP (t g : Nat) (f : FmtR) (err : Ecc) (s : State) : Out :=
  s.ran (g < 64 && f.ok) ((s.advance t).engRun g ⟨f.illAtomP, false, false, true⟩ (fun s => s.atomP g f .swap err))

def execAcasW (t g : Nat) (f : FmtR) (err : Ecc) (s : State) : Out :=
  s.ran (g < 64 && f.ok) ((s.advance t).engRun g ⟨f.illWords, false, false, true⟩ (fun s => s.atomW g f .cas err))

def execAcasP (t g : Nat) (f : FmtR) (err : Ecc) (s : State) : Out :=
  s.ran (g < 64 && f.ok) ((s.advance t).engRun g ⟨f.illAtomP, false, false, true⟩ (fun s => s.atomP g f .cas err))

def execAaddW (t g : Nat) (f : FmtR) (err : Ecc) (s : State) : Out :=
  s.ran (g < 64 && f.ok) ((s.advance t).engRun g ⟨f.illWords, false, false, true⟩ (fun s => s.atomW g f .add err))

def execAaddP (t g : Nat) (f : FmtR) (err : Ecc) (s : State) : Out :=
  s.ran (g < 64 && f.ok) ((s.advance t).engRun g ⟨f.illAtomP, false, false, true⟩ (fun s => s.atomP g f .add err))

def execAandW (t g : Nat) (f : FmtR) (err : Ecc) (s : State) : Out :=
  s.ran (g < 64 && f.ok) ((s.advance t).engRun g ⟨f.illWords, false, false, true⟩ (fun s => s.atomW g f .and err))

def execAandP (t g : Nat) (f : FmtR) (err : Ecc) (s : State) : Out :=
  s.ran (g < 64 && f.ok) ((s.advance t).engRun g ⟨f.illAtomP, false, false, true⟩ (fun s => s.atomP g f .and err))

def execAorW (t g : Nat) (f : FmtR) (err : Ecc) (s : State) : Out :=
  s.ran (g < 64 && f.ok) ((s.advance t).engRun g ⟨f.illWords, false, false, true⟩ (fun s => s.atomW g f .or err))

def execAorP (t g : Nat) (f : FmtR) (err : Ecc) (s : State) : Out :=
  s.ran (g < 64 && f.ok) ((s.advance t).engRun g ⟨f.illAtomP, false, false, true⟩ (fun s => s.atomP g f .or err))

/-- `fence` (R72). -/
def execFenceI (t g : Nat) (f : FmtX) (s : State) : Out :=
  s.ran (g < 64 && f.ok) ((s.advance t).engRun g ⟨f.ill, false, false, false⟩ (fun s => if (s.en g).posted = [] then s.fin else .wait s .fence))

def execPostedStoreAck (t g i : Nat) (err : Ecc) (s : State) : Out := s.ran (g < 64) ((s.advance t).storeAck g i err)

def execPostedStoreError (t g i : Nat) (err : Ecc) (s : State) : Out := s.ran (g < 64) ((s.advance t).storeError g i err)

end Sys2Proof.Machine
end

