-- ==== Sys2Proof/Machine/EngCtl.lean ====
section
/-! DEFINITION. Control transfers, hardware loops, the end of a task, the return from a handler, and `nop` (R84 to R89,
R104, R107, R108, R145, R147). -/
namespace Sys2Proof.Machine
open Reg

/-! ### Branches (R84, R86, R89) -/

/-- A branch: it reads its operands now; its slot executes next, and control then goes to `tgt` or to branch + 8. -/
def State.branch (s : State) (g : Nat) (taken : Bool) (tgt : Nat) (link close : Bool) : Done :=
  let pc := (s.en g).pc
  .ok s none none (some ⟨pc, if taken then tgt else pc + 8, taken, link, close⟩)

/-- The target of a format-B branch. -/
def State.targetB (s : State) (g : Nat) (f : FmtB) : Nat := branchTo (s.en g).pc 22 f.off

/-! ### Loops (R88) -/

/-- `loop`: it opens the lowest inactive level, or skips its body where the count is 0. -/
def State.loopOp (s : State) (g : Nat) (f : FmtL) : Done :=
  let e := s.en g
  let n := if f.rs then (e.r f.ra).toNat else f.icnt
  let le := e.pc + 4 * f.len
  if e.l0.act ∧ e.l1.act then .fault s 2 3 0
  else if n = 0 then .ok s none (some (le + 4)) none
  else
    let l : LoopL := ⟨true, n, e.pc + 4, le⟩
    (s.modEn g (fun e => if e.l0.act then { e with l1 := l } else { e with l0 := l })).fin

/-! ### `eret` (R102, R107) -/

/-- A loop level as the frame restores it. -/
def LoopL.restore (l : LoopL) (act : Bool) (lc lr : Nat) : LoopL :=
  if act then ⟨true, lc, 0x40000000 + lr / 2 ^ 16, 0x40000000 + lr % 2 ^ 16⟩ else { l with act := false }

/-- Whether an active level of a frame ends before it begins. -/
def frameBad (fe lr0 lr1 : Nat) : Bool :=
  (bitAt fe 6 && decide (lr0 % 2 ^ 16 < lr0 / 2 ^ 16)) || (bitAt fe 7 && decide (lr1 % 2 ^ 16 < lr1 / 2 ^ 16))

/-- The pending MODE writes of a frame, counted from the instruction at EPC; `eret` itself counts one more. -/
def framePending (fe p1 p2 : Nat) : List ModeW :=
  (if bitAt fe 14 then [⟨p1 % 16, bitsAt fe 12 2 + 1⟩] else []) ++ (if bitAt fe 17 then [⟨p2 % 16, bitsAt fe 15 2 + 1⟩] else [])

/-- `eret`: the frame is restored; a `done` or `yield` that waited for the handler then ends or offers the task (R104). -/
def State.eretOp (s : State) (g : Nat) : Done :=
  let sp := ((s.en g).r 15).toNat
  let o := sp - 0x40000000
  let w (i : Nat) : Nat := s.mem.lmWord g (o + 4 * i)
  if sp < 0x40000000 ∨ 0x40010000 < sp + 40 ∨ sp % 8 ≠ 0 ∨ s.mem.lmBad g o 40 then .ballast s 5
  else if frameBad (w 1) (w 7) (w 8) then .ballast s 5
  else
    let s := s.modEn g (fun e =>
      { ((e.setR 14 (BitVec.ofNat 32 (w 9))).setR 15 (BitVec.ofNat 32 (sp + 40))) with
        flags := w 1 % 16, mode := w 2 % 16, modeP := framePending (w 1) (w 3) (w 4),
        l0 := e.l0.restore (bitAt (w 1) 6) (w 5) (w 7), l1 := e.l1.restore (bitAt (w 1) 7) (w 6) (w 8), exl := false })
    match (s.en g).leaving with
    | some h => .last ((s.retire g (some (w 0))).leaveNow g h)
    | none => .ok s none (some (w 0)) none

/-! ### `done`, `yield`, `trap` (R104, R108, R145, R147) -/

/-- An instruction that ends or offers the task waits for the posted stores (R104). -/
def State.leaveOp (s : State) (g : Nat) (h : Hold) : Done :=
  if (s.en g).posted ≠ [] then .wait s h else .last (match h with
    | .yld => s.yieldNow g
    | _ => s.doneNow g)

/-- `trap`: it completes, and TRAP is taken at the next boundary. -/
def State.trapOp (s : State) (g code : Nat) : Done :=
  (s.modEn g (fun e => { e with prec := some ⟨7, 0, e.pc, 0, code⟩ })).fin

/-- The breach of an encoding, or else subcode 4 where `b` holds (R96). -/
def orFour (ill : Option Nat) (b : Bool) : Option Nat :=
  match ill with
  | some k => some k
  | none => if b then some 4 else none

/-! ### The meanings -/

def execBCond (t g : Nat) (f : FmtB) (s : State) : Out :=
  s.ran (g < 64 && f.ok) ((s.advance t).engRun g ⟨f.illCond, true, false, false⟩ (fun s =>
    s.branch g (condHolds f.c (s.en g).flags) (s.targetB g f) false true))

def execCbz (t g : Nat) (f : FmtB) (s : State) : Out :=
  s.ran (g < 64 && f.ok) ((s.advance t).engRun g ⟨none, true, false, false⟩ (fun s =>
    s.branch g ((s.en g).r f.c == 0) (s.targetB g f) false true))

def execCbnz (t g : Nat) (f : FmtB) (s : State) : Out :=
  s.ran (g < 64 && f.ok) ((s.advance t).engRun g ⟨none, true, false, false⟩ (fun s =>
    s.branch g ((s.en g).r f.c != 0) (s.targetB g f) false true))

def execJmp (t g off : Nat) (s : State) : Out :=
  s.ran (g < 64 ∧ off < 2 ^ 26) ((s.advance t).engRun g ⟨none, true, false, false⟩ (fun s =>
    s.branch g true (branchTo (s.en g).pc 26 off) false true))

def execJl (t g off : Nat) (s : State) : Out :=
  s.ran (g < 64 ∧ off < 2 ^ 26) ((s.advance t).engRun g ⟨none, true, false, false⟩ (fun s =>
    s.branch g true (branchTo (s.en g).pc 26 off) true false))

def execJr (t g : Nat) (f : FmtB) (s : State) : Out :=
  s.ran (g < 64 && f.ok) ((s.advance t).engRun g ⟨f.illReg, true, false, false⟩ (fun s =>
    s.branch g true ((s.en g).r f.c).toNat false true))

def execJlr (t g : Nat) (f : FmtB) (s : State) : Out :=
  s.ran (g < 64 && f.ok) ((s.advance t).engRun g ⟨f.illReg, true, false, false⟩ (fun s =>
    s.branch g true ((s.en g).r f.c).toNat true false))

def execLoopI (t g : Nat) (f : FmtL) (s : State) : Out :=
  s.ran (g < 64 && f.ok) ((s.advance t).engRun g ⟨f.ill, true, false, false⟩ (fun s => s.loopOp g f))

def execEret (t g : Nat) (f : FmtX) (s : State) : Out :=
  s.ran (g < 64 && f.ok) ((s.advance t).engRun g ⟨orFour f.ill (!(s.en g).exl), true, false, true⟩ (fun s => s.eretOp g))

def execDoneT (t g : Nat) (f : FmtX) (s : State) : Out :=
  s.ran (g < 64 && f.ok) ((s.advance t).engRun g ⟨f.ill, true, false, true⟩ (fun s => s.leaveOp g .fin))

def execYieldT (t g : Nat) (f : FmtX) (s : State) : Out :=
  s.ran (g < 64 && f.ok) ((s.advance t).engRun g ⟨orFour f.ill (s.en g).exl, true, false, true⟩ (fun s => s.leaveOp g .yld))

def execTrapI (t g : Nat) (f : FmtX) (s : State) : Out :=
  s.ran (g < 64 && f.ok) ((s.advance t).engRun g ⟨f.illTrap, true, false, true⟩ (fun s => s.trapOp g f.code))

/-- `nop`, and every word whose OP or FN R84 does not list, which is illegal (R83). -/
def execNopI (t g w : Nat) (s : State) : Out :=
  s.ran (g < 64 && nopWord w) ((s.advance t).engRun g ⟨nopIll w, false, false, false⟩ State.fin)

end Sys2Proof.Machine
end

