-- ==== Sys2Proof/Machine/Spool.lean ====
section
/-! DEFINITION. Spools: angle as a function of time, synchronisation, angle events and remote spools (R250 to R268). -/
namespace Sys2Proof.Machine
open Reg

/-! ### The wheel (R252) -/

def State.teeth (s : State) (i : Nat) : Nat := s.rd SPGEOM.TEETH i
def State.mtpt (s : State) (i : Nat) : Nat := s.rd SPGEOM.MTPT i

/-- Micro-ticks of a revolution. -/
def State.revLen (s : State) (i : Nat) : Nat := s.teeth i * s.mtpt i

/-- Whether position `p` carries no tooth. -/
def State.missing (s : State) (i p : Nat) : Bool := bitAt (s.rd GAPMAP.MISS i (p / 32)) (p % 32)

/-- Missing positions that follow position `p`, at most `fuel`. -/
def State.gapAfter (s : State) (i p : Nat) : Nat → Nat
  | 0 => 0
  | fuel + 1 =>
    let q := (p + 1) % s.teeth i
    if s.missing i q then 1 + State.gapAfter s i q fuel else 0

/-- Missing positions that precede position `p`, at most `fuel`. -/
def State.gapBack (s : State) (i p : Nat) : Nat → Nat
  | 0 => 0
  | fuel + 1 =>
    let q := (p + s.teeth i - 1) % s.teeth i
    if s.missing i q then 1 + State.gapBack s i q fuel else 0

/-- The missing positions the map places before tooth position `p`. -/
def State.gapBefore (s : State) (i p : Nat) : Nat := s.gapBack i p (s.teeth i - 1)

/-- The missing positions the map places after tooth position `p`. -/
def State.gapOf (s : State) (i p : Nat) : Nat := s.gapAfter i p (s.teeth i - 1)

/-- Whether the map cannot synchronise the spool (PATERR, R252). -/
def State.patErr (s : State) (i : Nat) : Bool :=
  let ps := upFrom 0 (s.teeth i)
  let miss := ps.map (s.missing i)
  let t := s.teeth i
  match s.rd SPCTL.SRC i with
  | 1 => s.missing i 0 || ps.any (fun p => decide (7 < s.gapOf i p)) || !miss.any id
      || (ps.drop 1).any (fun r => t % r == 0 && (miss.drop r ++ miss.take r == miss))
  | 2 => miss.any id
  | _ => false

/-! ### Angle as a function of time (R254 to R256) -/

/-- The instant of micro-tick `m` on a piece, or on its line before it. -/
def Piece.reach (p : Piece) (m : Nat) : Nat :=
  if p.a0 ≤ 65536 * m then p.t0 + (65536 * m - p.a0) * p.num / p.den else p.t0 - (p.a0 - 65536 * m) * p.num / p.den

/-- The last angle, in 2⁻¹⁶ micro-ticks, whose instant on the piece has passed at `x`. -/
def Piece.at (p : Piece) (x : Nat) : Nat :=
  if p.num = 0 then p.a0 else p.a0 + ((x - p.t0 + 1) * p.den - 1) / p.num

/-- The angle the pieces give at `x`, in 2⁻¹⁶ micro-ticks. -/
def piecesAt : List Piece → Nat → Nat
  | [], _ => 0
  | [p], x => p.at x
  | p :: q :: r, x => if x < q.t0 then p.at x else piecesAt (q :: r) x

/-- The angle rate at `x` in 2⁻¹⁶ micro-ticks per µs (R265). -/
def piecesRate : List Piece → Nat → Nat
  | [], _ => 0
  | [p], _ => if p.num = 0 then 0 else 64000 * p.den / p.num
  | p :: q :: r, x => if x < q.t0 then (if p.num = 0 then 0 else 64000 * p.den / p.num) else piecesRate (q :: r) x

/-- The instant the pieces reach micro-tick `m`. -/
def piecesReach : List Piece → Nat → Option Nat
  | [], _ => none
  | [p], m => if p.num = 0 then none else some (p.reach m)
  | p :: q :: r, m => if p.num ≠ 0 ∧ p.reach m < q.t0 then some (p.reach m) else piecesReach (q :: r) m

/-- The angle at `x`, in 2⁻¹⁶ micro-ticks counted over revolutions: never below `floor`, never above the schedule. -/
def SpH.fineAt (h : SpH) (x : Nat) : Nat :=
  let a := piecesAt h.pieces x
  let a := match h.top with
    | some m => if 65536 * m < a then 65536 * m else a
    | none => a
  if a < 65536 * h.floor then 65536 * h.floor else a

/-- The last micro-tick whose instant has passed at `x`. -/
def SpH.tickAt (h : SpH) (x : Nat) : Nat := h.fineAt x / 65536

/-- Whether the spool counts an angle: SYNC, HALT or REVHOLD. -/
def State.spLive (s : State) (i : Nat) : Bool :=
  let st := s.rd SPSTAT.STATE i
  st == 3 || st == 4 || st == 5

/-- Micro-ticks counted over revolutions at the TB0 fine time `x`. -/
def State.spTick (s : State) (i x : Nat) : Nat := if s.spLive i then (s.spU i).tickAt x else (s.spU i).rev * s.revLen i

/-- SPANGLE at `x`. -/
def State.spAngle (s : State) (i x : Nat) : Nat := if s.spLive i then s.spTick i x % s.revLen i else 0

/-- SPREV at `x`. -/
def State.spRev (s : State) (i x : Nat) : Nat := if s.revLen i = 0 then (s.spU i).rev else s.spTick i x / s.revLen i

/-- The piece of the last tooth, which also extrapolates beyond its schedule (R262). -/
def State.anchor (s : State) (i : Nat) : Piece :=
  let h := s.spU i
  ⟨h.tk, 65536 * (h.rev * s.revLen i + h.pos * s.mtpt i), h.num, h.den * s.mtpt i * 65536⟩

/-- The predicted instant of the next tooth (R255). -/
def State.nextTooth (s : State) (i : Nat) : Nat :=
  let h := s.spU i
  h.tk + (s.gapOf i h.pos + 1) * h.num / h.den

/-! ### Slots (R261, R262) -/

/-- An armed or fixed slot is reported as cancelled or refused (R268). -/
def State.expire (s : State) (i j reason ts : Nat) : State :=
  (s.wr AEVSTAT.EXPR reason i j).raiseAt (6656 + 4 * i + 3) (reason * 2 ^ 24 + j * 2 ^ 16 + s.rd AEVSTAT.FIRES i j) ts

/-- The slots of spool `i` that have something waiting. -/
def State.aevs (s : State) (i : Nat) : List Nat :=
  (s.aev.filter (fun e => e.1 / 64 == i)).map (fun e => e.1 % 64)

/-- The provisional instant of micro-tick `m` (R262). -/
def State.reachOf (s : State) (i m : Nat) : Option Nat :=
  let h := s.spU i
  if h.pieces ≠ [] ∧ h.top.all (fun t => decide (m ≤ t)) then piecesReach h.pieces m
  else if (s.anchor i).num = 0 then none else some ((s.anchor i).reach m)

/-- An instant moved by a signed offset. -/
def offBy (x : Nat) (o : Int) : Nat := ((x : Int) + o).toNat

/-- A slot's firing that still waits for its F, and the occurrence that would follow it: a fixed one, or one whose angle has
been reached (R262). -/
def State.aevWait (s : State) (i j : Nat) : Option (Nat × Nat) :=
  let u := s.aevU i j
  match u.fix, u.occ with
  | some f, some m => some (f, m)
  | none, some m => if u.ra.isSome then some (u.f, m + (u.skips + 1) * s.revLen i) else none
  | _, none => none

/-- An EVERY slot whose next occurrence has reached its angle by the fine time `x`, before a firing that still waits, skips it
with OVERLAP, reported at the instant it was reached (R262, R268). -/
def State.aevSkip (s : State) (i j x : Nat) : Nat → State
  | 0 => s
  | fuel + 1 =>
    match s.aevWait i j with
    | none => s
    | some (f, m) =>
      let r := (s.reachOf i m).getD x
      if s.rd AEVCTL.ARM i j ≠ 2 ∨ ¬ s.spLive i ∨ s.spTick i x < m ∨ f ≤ r then s
      else
        let s := s.modAev i j (fun u => if u.fix.isSome then { u with occ := some (m + s.revLen i), ra := none } else { u with skips := u.skips + 1 })
        State.aevSkip (s.expire i j 4 r) i j x fuel

/-- What a slot has done by the fine time `x`: the occurrences it skipped, and a fixed slot whose F has come has fired (R262,
R263). -/
def State.aevSettleBy (s : State) (i j x : Nat) : State :=
  let s := s.aevSkip i j x 64
  let u := s.aevU i j
  match u.fix with
  | some f =>
    if x < f then s
    else
      let s := s.wr64 AEVFIRE_LO.VALUE AEVFIRE_HI.VALUE f i j
      let s := (s.wr AEVSTAT.FIRED 1 i j).inc AEVSTAT.FIRES 1 i j
      (s.modAev i j (fun u => { u with fix := none })).wr AEVSTAT.STATE (b2n u.armed) i j
  | none => s

def State.aevSettle (s : State) (i j : Nat) : State := s.aevSettleBy i j (s.fine 0)

/-- The least angle, in 2⁻¹⁶ micro-ticks, that the present schedule reaches. -/
def State.startAngle (s : State) (i : Nat) : Nat :=
  match (s.spU i).pieces with
  | p :: _ => p.a0
  | [] => (s.anchor i).a0

/-- The occurrence an armed slot takes (R261): the first reaching of its angle for which R and F lie at least 40 ns after the
write; `none` where none can be told yet, and `some none` where the revolution asked for has passed. -/
def State.takeOcc (s : State) (i j : Nat) : Option (Option Nat) :=
  let u := s.aevU i j
  let r := s.revLen i
  let now := s.spTick i (s.fine 0)
  let need := u.arr + s.span 0 (ns 40)
  let ok (m : Nat) : Bool :=
    decide (s.startAngle i ≤ 65536 * m) && (s.reachOf i m).any (fun x => decide (need ≤ x ∧ (need : Int) ≤ (x : Int) + u.off))
  if r = 0 then none
  else if s.rd AEVCTL.ARM i j = 3 then
    let cur := now / r
    let rev := cur + (s.rd AEVCTL.REV i j + 8192 - cur % 8192) % 8192
    if ok (rev * r + u.ang) then some (some (rev * r + u.ang))
    else if (s.reachOf i (rev * r + u.ang)).isNone then none
    else some none
  else
    let m0 := now / r * r + u.ang
    match s.reachOf i m0, s.reachOf i (m0 + r) with
    | some a, some b =>
      let want := if u.off < 0 then offBy need (-u.off) else need
      let k := if a < want ∧ a < b then (want - a) / (b - a) else 0
      (((upFrom (k - 1) 4).map (fun k => m0 + k * r)).find? ok).map some
    | _, _ => none

/-- An armed slot's F is computed anew, its occurrence taken first where it has none (R262). -/
def State.aevPlan (s : State) (i j : Nat) : State :=
  let u := s.aevU i j
  if ¬ u.armed ∨ ¬ s.spLive i then s
  else
    match u.occ with
    | some m => match (match u.ra with
        | some x => some x
        | none => s.reachOf i m) with
      | some x => s.modAev i j (fun u => { u with f := offBy x u.off })
      | none => s
    | none => match s.takeOcc i j with
      | some (some m) =>
        s.modAev i j (fun u => { u with occ := some m, ra := none, f := offBy ((s.reachOf i m).getD 0) u.off })
      | some none =>
        ((s.modAev i j (fun u => { u with armed := false })).wr AEVSTAT.STATE (if u.fix.isSome then 2 else 0) i j).expire i j 2 s.tsInt
      | none => s

/-- Whether a slot's action names channel `n` wrongly (R261, R263). -/
def State.aevBad (s : State) (i j : Nat) (commit : Bool) : Bool :=
  let act := s.rd AEVCTL.ACT i j
  let n := s.rd AEVCTL.CH i j
  decide (act = 1 ∨ act = 2) &&
    (s.etb n != 0 || (s.paired n && n % 2 == 1) || (commit && (s.ch n).dl.etbHeld.isSome))

/-- A write of AEVCTL (R261): with ARM 0 the slot is disarmed, else it is armed for an occurrence or refused. -/
def State.aevctlWrite (s : State) (i j : Nat) (w : Word) : State :=
  let s := s.aevSettle i j
  let s := s.setReg (AEVCTL.WHOLE.adr i j) w
  let s := if AEVCTL.LVL.of w = 3 then s.wr AEVCTL.LVL 0 i j else s
  let fixed := (s.aevU i j).fix.isSome
  let off (s : State) : State :=
    (s.modAev i j (fun u => { u with armed := false, occ := none, ra := none })).wr AEVSTAT.STATE (if fixed then 2 else 0) i j
  if AEVCTL.ARM.of w = 0 then off s
  else if s.revLen i ≤ s.rd AEVANG.ANG i j ∨ s.aevBad i j false then (off s).expire i j 3 s.tsInt
  else
    let s := s.modAev i j (fun u => { u with armed := true, ang := s.rd AEVANG.ANG i j, off := 64 * toSigned 32 (s.rd AEVOFF.OFF i j), arr := s.fine 0, occ := none, ra := none })
    (s.wr AEVSTAT.STATE (if fixed then 2 else 1) i j).aevPlan i j

/-- An F that a tooth, a record or a synchronisation detected now would place before now + 40 ns is moved there (R262). -/
def State.aevLate (s : State) (i j : Nat) : State :=
  let lim := s.fine 0 + s.span 0 (ns 40)
  let u := s.aevU i j
  if u.armed ∧ u.occ.isSome ∧ u.fix.isNone ∧ u.f < lim then (s.modAev i j (fun u => { u with f := lim })).wr AEVSTAT.LATE 1 i j else s

/-- Before the schedule changes: what the slots have done, and the instants of the angles it has reached (R262). -/
def State.aevCatch (s : State) (i : Nat) : State :=
  (s.aevs i).foldl (fun s j =>
    let s := s.aevSettle i j
    let u := s.aevU i j
    match u.occ with
    | some m =>
      if u.armed ∧ u.ra.isNone ∧ (s.spU i).pieces ≠ [] ∧ m ≤ s.spTick i (s.fine 0) then
        s.modAev i j (fun u => { u with ra := piecesReach (s.spU i).pieces m })
      else s
    | none => s) s

/-- The slots after a tooth or a record: each F is computed anew, and one that would fall before now + 40 ns is moved there
(R262). Skipped angles up to micro-tick `upto` count as reached at the fine time `at_`; `early` is a skip under R256. -/
def State.aevMove (s : State) (i at_ upto : Nat) (early : Bool) : State :=
  (s.aevs i).foldl (fun s j =>
    let u := s.aevU i j
    if ¬ u.armed then s
    else match u.occ, u.ra with
      | some m, none =>
        let s := if m ≤ upto then s.modAev i j (fun u => { u with ra := some at_ })
          else if m ≤ s.spTick i (s.fine 0) then s.modAev i j (fun u => { u with ra := s.reachOf i m }) else s
        let s := if early ∧ m < upto then s.wr AEVSTAT.JUMPED 1 i j else s
        (s.aevPlan i j).aevLate i j
      | some _, some _ => s
      | none, _ => s.aevPlan i j) s

/-! ### Losing synchronisation (R257, R260) -/

/-- The channels an ending acts on, with the level of the slot (R260). -/
def State.endSet (s : State) (i : Nat) : List (Nat × Bool) :=
  let own := (s.aevs i).filter (fun j => s.on AEVCTL.END i j && ((s.aevU i j).armed || (s.aevU i j).fix.isSome))
  let fromSlots := own.map (fun j => (s.rd AEVCTL.CH i j, s.on AEVCTL.ENDLVL i j))
  let runs := s.chan.filterMap (fun c => match c.2.run.slot with
    | some v => if v / 64 = i ∧ s.on AEVCTL.END i (v % 64) ∧ s.chSt c.1 = 2 then some (c.1, s.on AEVCTL.ENDLVL i (v % 64)) else none
    | none => none)
  (fromSlots ++ runs).foldl (fun l c => if l.any (fun x => x.1 == c.1) then l else l ++ [c]) []

/-- Synchronisation ends at L, a TB0 fine time (R257). -/
def State.spLoss (s : State) (i cause l : Nat) : State :=
  if ¬ s.spLive i then s
  else
    let s := (s.aevs i).foldl (fun s j => s.aevSettleBy i j l) s
    let ang := s.spAngle i l
    let rev := s.spRev i l
    let e := s.toStrobe 0 l + ns 40
    let ends := (s.endSet i).map (fun c => (e, c.1, c.2))
    let s := s.modSp i (fun h => { h with
        z := none, lastT := none, ivals := [], gaps := [], rev := rev, pos := 0, num := 0, den := 1, prev := (0, 1),
        pieces := [], top := none, floor := 0, bare := false, back := 0, ends := h.ends ++ ends })
    let s := ((s.wr SPSTAT.STATE 1 i).wr SPSTAT.LASTLOSS cause i).cnt SPSTAT.LOSSES 1 i
    let s := s.raiseAt (6656 + 4 * i + 1) (cause * 2 ^ 24 + ang) l
    let s := (s.aevs i).foldl (fun s j =>
      let u := s.aevU i j
      if ¬ u.armed ∧ u.fix.isNone then s
      else if s.rd AEVCTL.ARM i j = 2 ∧ s.on AEVCTL.KEEP i j ∧ u.armed then
        s.modAev i j (fun u => { u with occ := none, ra := none, skips := 0, arr := s.fine 0 })
      else ((s.modAev i j (fun _ => SlotH.init)).wr AEVSTAT.STATE 0 i j).expire i j 1 l) s
    (upFrom 1 16).foldl (fun s k =>
      if (s.tbH k).mode = 2 ∧ (s.tbH k).spool = i then s.modTb k (fun b => { b with lost := true }) else s) s

/-- The ending of a channel at E (R260). -/
def State.angleEnd (s : State) (n i : Nat) (lvl : Bool) : State :=
  let lim := s.etbNow n - s.espan n (ns 4)
  let s := s.modDl n (fun l => { l with pend := l.pend.filter (fun e => e.org != .slot i || decide (e.at_ ≤ lim)) })
  let m := s.leader n
  let s := if (s.ch m).run.slot.isSome ∧ s.chSt m = 2 then (s.modRun m (fun r => { r with stopNow := some s.now })).stopNowEnd m
    else if s.chSt m = 4 ∧ (s.ch m).run.start.any (fun x => x.slot.isSome) then s.dropStart m else s
  (s.setLvl n lvl).chFault n 5 i

/-- SPOOL_ENDING: at L + 40 ns the channels' outputs end (R260). -/
def State.spEnding (s : State) (i : Nat) : State :=
  let due := (s.spU i).ends.filter (fun e => decide (e.1 ≤ s.now))
  let s := s.modSp i (fun h => { h with ends := h.ends.filter (fun e => !decide (e.1 ≤ s.now)) })
  due.foldl (fun s e => s.angleEnd e.2.1 i e.2.2) s

/-! ### Teeth (R253 to R258) -/

/-- A fraction as the ratio of a normalised interval to the one before it, limited to 0.5 to 2, times the first (R254). -/
def predict (pred : Bool) (a b : Nat × Nat) : Nat × Nat :=
  if ¬ pred ∨ b.1 = 0 then a
  else if 2 * b.1 * a.2 < a.1 * b.2 then (2 * a.1, a.2)
  else if 2 * a.1 * b.2 < b.1 * a.2 then (a.1, 2 * a.2)
  else (a.1 * a.1 * b.2, a.2 * a.2 * b.1)

/-- The schedule of the tooth at position `p` and the fine time `t`, with the interval to the previous tooth over `g`
missing positions (R254); in CATCHUP an early tooth's angle rises evenly from its value now (R256). -/
def State.lay (s : State) (i t p rev iv g : Nat) (early : Bool) : State :=
  let h := s.spU i
  let d := s.fine 0
  let was := h.fineAt d
  let n1 := (iv, g + 1)
  let (num, den) := predict (s.on SPCTL.PRED i) n1 h.prev
  let s := s.modSp i (fun h => { h with tk := t, pos := p, rev := rev, num := num, den := den, prev := n1, bare := false })
  let a := s.anchor i
  let gn := s.gapOf i p
  let nxt := a.a0 / 65536 + (gn + 1) * s.mtpt i
  let tn := t + (gn + 1) * num / den
  let pieces := if early ∧ s.on SPCTL.CATCHUP i then [⟨d, was, tn - d, 65536 * nxt - was⟩] else [a]
  let s := s.modSp i (fun h => { h with pieces := pieces, top := some (nxt - 1), floor := was / 65536 })
  s.wr SPDELTA.DELTA (satTo 0xFFFFFFFF (num / (64 * den))) i

/-- The timebases slaved to the spool that lost it count micro-ticks from micro-tick `m` on (R54). -/
def State.rebase (s : State) (i m : Nat) : State :=
  (upFrom 1 16).foldl (fun s k =>
    let b := s.tbH k
    if b.mode = 2 ∧ b.spool = i ∧ b.lost then
      (s.modTb k (fun b => { b with lost := false, anchVal := s.tbVal k s.now, anchTick := 65536 * m })).wr TBSTAT.REBASE 1 k
    else s) s

/-- The spool enters SYNC at a tooth at position `p`, the fine time `t`, with the intervals to the tooth before it and before
that where there were such (R253, R254); slots that waited take their occurrences (R261, R262). -/
def State.syncAt (s : State) (i t p : Nat) (ivs : List Nat) : State :=
  let h := s.spU i
  let s := s.aevCatch i
  let rev := s.spRev i (s.fine 0)
  let g := s.gapBefore i p
  let q := (p + s.teeth i - g - 1) % s.teeth i
  let prev := if s.spLive i then h.prev else match ivs[1]? with
    | some v => (v, s.gapBefore i q + 1)
    | none => (0, 1)
  let s := s.modSp i (fun h => { h with
      z := none, now0 := false, gaps := [], ivals := [], prev := prev, back := 0, pieces := [], top := none,
      floor := rev * s.revLen i + p * s.mtpt i, lastT := some t })
  let s := match ivs.head? with
    | some v => s.lay i t p rev v g false
    | none => s.modSp i (fun h => { h with tk := t, pos := p, rev := rev, num := 0, den := 1, bare := true })
  let s := (s.wr SPSTAT.STATE 3 i).raiseAt (6656 + 4 * i) (p * s.mtpt i) t
  let s := s.rebase i (rev * s.revLen i + p * s.mtpt i)
  (s.aevs i).foldl (fun s j => ((s.modAev i j (fun u => { u with occ := none, ra := none, skips := 0 })).aevPlan i j).aevLate i j) s

/-- A gap of how many missing positions an interval shows against the shorter of the two before it; 0 is normal (R253). -/
def State.classify (s : State) (i iv : Nat) (before : List Nat) : Nat :=
  match before with
  | a :: b :: _ =>
    let r := if a < b then a else b
    if r = 0 ∨ iv * 16 < s.rd SPTOL.GAPTHR i * r then 0
    else
      let g := (2 * iv + r) / (2 * r) - 1
      if g < 1 then 1 else if 7 < g then 7 else g
  | _ => 0

/-- Whether the record of gaps, newest first, fits with the latest tooth at position `p` (R253). -/
def State.fits (s : State) (i p : Nat) : List Nat → Bool
  | [] => !s.missing i p
  | g :: r =>
    let t := s.teeth i
    !s.missing i p && (upFrom 1 g).all (fun k => s.missing i ((p + 8 * t - k) % t)) && State.fits s i ((p + 8 * t - g - 1) % t) r

/-- A tooth in SEEK or ACQUIRE (R253). -/
def State.seekTooth (s : State) (i t : Nat) : State :=
  let h := s.spU i
  let iv := h.lastT.map (fun l => t - l)
  let g := match iv with
    | some v => s.classify i v h.ivals
    | none => 0
  let s := s.modSp i (fun h => { h with lastT := some t, ivals := (match iv with | some v => (v :: h.ivals).take 2 | none => h.ivals) })
  if s.on SPSTAT.PATERR i ∨ s.rd SPCTL.SRC i ≠ 1 ∨ (s.rd SPSTAT.STATE i = 1 ∧ g = 0) then s
  else
    let gaps := g :: h.gaps
    let s := (s.modSp i (fun h => { h with gaps := gaps })).wr SPSTAT.STATE 2 i
    let ps := (upFrom 0 (s.teeth i)).filter (fun p => s.fits i p gaps)
    match ps with
    | [] =>
      let keep := gaps.takeWhile (· == 0)
      (s.modSp i (fun h => { h with gaps := gaps.take (keep.length + 1) })).cnt SPSTAT.SEEKFAIL 1 i
    | [p] => s.syncAt i t p (s.spU i).ivals
    | _ => s

/-- A tooth in SYNC or HALT (R254 to R257). -/
def State.syncTooth (s : State) (i t : Nat) : State :=
  let h := s.spU i
  let g := s.gapOf i h.pos
  let iv := t - h.tk
  let d := s.fine 0
  let late := h.tk + (g + 1) * s.rd SPTOL.LATE i * h.num / (16 * h.den)
  if ¬ h.bare ∧ 0 < h.num ∧ late ≤ t then
    (s.spLoss i 1 late).modSp i (fun h => { h with lastT := some t })
  else if ¬ h.bare ∧ iv * 16 * h.den < (g + 1) * s.rd SPTOL.EARLY i * h.num then
    (s.spLoss i 2 d).modSp i (fun h => { h with lastT := some t })
  else
    let early := !h.bare && decide (t < s.nextTooth i)
    let p := (h.pos + g + 1) % s.teeth i
    let rev := if h.pos + g + 1 < s.teeth i then h.rev else h.rev + 1
    let s := (if early then s.cnt SPSTAT.JUMPS 1 i else s).aevCatch i
    let s := s.lay i t p rev iv g early
    let s := s.modSp i (fun h => { h with lastT := some t })
    let s := s.wr SPSTAT.STATE 3 i
    let s := if p = 0 then s.raiseAt (6656 + 4 * i + 2) (g % 8 * 2 ^ 24 + rev % 65536) t else s
    s.aevMove i t (if early ∧ s.on SPCTL.CATCHUP i then 0 else rev * s.revLen i + p * s.mtpt i) early

/-- The first forward tooth once the reverse count is back to 0: its schedule starts at the following tooth (R258). -/
def State.bareTooth (s : State) (i t : Nat) : State :=
  let h := s.spU i
  let g := s.gapOf i h.pos
  let p := (h.pos + g + 1) % s.teeth i
  let rev := if h.pos + g + 1 < s.teeth i then h.rev else h.rev + 1
  let s := (s.modSp i (fun h => { h with tk := t, pos := p, rev := rev, bare := true, lastT := some t })).wr SPSTAT.STATE 3 i
  if p = 0 then s.raiseAt (6656 + 4 * i + 2) (g % 8 * 2 ^ 24 + rev % 65536) t else s

/-- SPOOL_TOOTH: the next forward edge of the source is detected now (R253). -/
def State.spTooth (s : State) (i : Nat) : State :=
  match (s.spU i).edges with
  | [] => s
  | e :: rest =>
    if ¬ e.fwd then s
    else
      let t := s.fineAt 0 e.at_
      let h := s.spU i
      let s := s.modSp i (fun h => { h with edges := rest })
      let s := s.wr64 SPTOOTH_LO.VALUE SPTOOTH_HI.VALUE t i
      let st := s.rd SPSTAT.STATE i
      if st = 0 then s
      else if h.now0 then s.syncAt i t 0 ((h.lastT.map (fun l => t - l)).toList ++ h.ivals)
      else if st = 5 then
        (if 0 < h.back then s.modSp i (fun h => { h with back := h.back - 1 }) else s.bareTooth i t)
      else if st ≤ 2 then
        (if s.rd SPCTL.SRC i = 2 ∧ ¬ s.on SPSTAT.PATERR i ∧ h.z.any (fun a => decide (a ≤ e.at_)) then
          s.syncAt i t 0 ((h.lastT.map (fun l => t - l)).toList ++ h.ivals)
         else s.seekTooth i t)
      else s.syncTooth i t

/-- The tail's accepted Z edge at the strobe instant `a`: the qualified edge at or after it is position 0, be it the next
tooth or one of the last two, which were detected before the Z edge passed its filter (R253). -/
def State.spoolZ (s : State) (tail a : Nat) : State :=
  let z := s.fineAt 0 a
  (upFrom 0 32).foldl (fun s i =>
    if s.on SPCTL.EN i ∧ s.rd SPCTL.SRC i = 2 ∧ s.rd SPSRC.TAIL i = tail ∧ s.rd SPSTAT.STATE i = 1 ∧ ¬ s.on SPSTAT.PATERR i then
      let h := s.spU i
      match h.lastT, h.ivals with
      | some t, v :: _ =>
        if t < z then s.modSp i (fun h => { h with z := some a })
        else if t - v < z then s.syncAt i t 0 h.ivals
        else s.syncAt i t (1 % s.teeth i) h.ivals
      | some t, [] => if t < z then s.modSp i (fun h => { h with z := some a }) else s.syncAt i t 0 []
      | none, _ => s.modSp i (fun h => { h with z := some a })
    else s) s

/-- SPOOL_REVERSE_EDGE: a negative edge of the source (R258). -/
def State.spReverse (s : State) (i : Nat) : State :=
  match (s.spU i).edges with
  | [] => s
  | e :: rest =>
    if e.fwd then s
    else
      let s := s.modSp i (fun h => { h with edges := rest })
      let st := s.rd SPSTAT.STATE i
      if st = 3 ∨ st = 4 then
        let s := s.aevCatch i
        let tick := s.spTick i (s.fine 0)
        (s.modSp i (fun h => { h with floor := tick, pieces := [], top := none, back := 1 })).wr SPSTAT.STATE 5 i
      else if st = 5 then
        let b := (s.spU i).back + 1
        let s := s.modSp i (fun h => { h with back := b })
        if 255 < b then s.spLoss i 3 (s.fine 0) else s
      else s.modSp i (fun h => { h with lastT := none, ivals := [] })

/-- SPOOL_HALT: the predicted instant of the next tooth passes undetected (R255). -/
def State.spHalt (s : State) (i : Nat) : State :=
  let h := s.spU i
  if s.rd SPSTAT.STATE i = 3 ∧ ¬ h.bare ∧ 0 < h.num ∧ s.rd SPCTL.SRC i ≠ 3 ∧ s.nextTooth i ≤ s.fine 0 then s.wr SPSTAT.STATE 4 i
  else s

/-- SPOOL_LATE_DEADLINE: no tooth by the deadline (R257). -/
def State.spLate (s : State) (i : Nat) : State :=
  let h := s.spU i
  let st := s.rd SPSTAT.STATE i
  let l := h.tk + (s.gapOf i h.pos + 1) * s.rd SPTOL.LATE i * h.num / (16 * h.den)
  if (st = 3 ∨ st = 4) ∧ ¬ h.bare ∧ 0 < h.num ∧ s.rd SPCTL.SRC i ≠ 3 ∧ l ≤ s.fine 0 then s.spLoss i 1 l else s

/-- The spools that follow a source lose it (R257, cause SOURCE). -/
def State.sourceLost (s : State) (src u : Nat) : State :=
  (upFrom 0 32).foldl (fun s i =>
    if s.on SPCTL.EN i ∧ s.rd SPCTL.SRC i = src ∧ (if src = 1 then s.rd SPSRC.CH i else s.rd SPSRC.TAIL i) = u then
      s.spLoss i 3 (s.fine 0) else s) s

/-- A write of SPCTL (R252, R253, R257): EN set starts the spool, EN cleared and DESYNC are HOST losses, SYNCNOW makes
the next tooth position 0. SRC changes only while EN is 0. -/
def State.spctlWrite (s : State) (i : Nat) (w : Word) : State :=
  let was := s.on SPCTL.EN i
  let src := if was then s.rd SPCTL.SRC i else SPCTL.SRC.of w
  let s := s.wrs i [(SPCTL.EN, SPCTL.EN.of w), (SPCTL.BCAST, SPCTL.BCAST.of w), (SPCTL.CATCHUP, SPCTL.CATCHUP.of w),
    (SPCTL.PRED, SPCTL.PRED.of w), (SPCTL.SRC, src)]
  let s := if SPCTL.DESYNC.of w = 1 ∨ (was ∧ SPCTL.EN.of w = 0) then s.spLoss i 5 (s.fine 0) else s
  if SPCTL.EN.of w = 0 then
    (s.wr SPSTAT.STATE 0 i).modSp i (fun h => { SpH.init with rev := h.rev, ends := h.ends })
  else
    let s := if was then s
      else ((s.modSp i (fun h => { SpH.init with rev := h.rev, ends := h.ends })).wr SPSTAT.STATE 1 i).wr SPSTAT.PATERR (b2n (s.patErr i)) i
    if SPCTL.SYNCNOW.of w = 1 then s.modSp i (fun h => { h with now0 := true }) else s

/-! ### Firing (R259, R263) -/

/-- A slot starts a run of channel `n` at S = F (R263): a GO with its instant given; 6 where the channel is busy. -/
def State.slotStart (s : State) (n f slot : Nat) : State × Nat :=
  if s.mode n = 0 ∨ s.mode n = 4 then (s, 0)
  else if ¬ s.stopped n then (s, 6)
  else if ¬ s.prdOk n (s.rd PRD.VALUE n) then (s.chFault n 9, 0)
  else
    let st : Start := ⟨f, none, false, s.chSt n, false, false, some slot⟩
    ((s.modRun n (fun r => { r with start := some st })).wr CHSTAT.STATE 4 n, 0)

/-- The result code of an edge request (R78). -/
def EdgeRes.code : EdgeRes → Nat
  | .placed => 0
  | .moved => 1
  | .late => 2
  | .dense => 3
  | .full => 4

/-- A fixed slot's action is delivered (R263). -/
def State.aevDeliver (s : State) (i j f : Nat) : State :=
  let n := s.rd AEVCTL.CH i j
  match s.rd AEVCTL.ACT i j with
  | 1 =>
    let (s, r) := s.edgeReq n ⟨f, s.rd AEVCTL.LVL i j + 1, .slot i, false, none⟩ false
    s.wr AEVSTAT.RESULT r.code i j
  | 2 =>
    let (s, r) := s.slotStart n f (64 * i + j)
    s.wr AEVSTAT.RESULT r i j
  | 3 =>
    let s := s.sarAnnounce 2 (fun k => s.rd SARTRIG.TCH k % 32 == i) (s.toStrobe 0 f)
    s.wr AEVSTAT.RESULT 0 i j
  | _ => s.wr AEVSTAT.RESULT 0 i j

/-- The slot's occurrence is over: a ONCE slot is no longer armed, an EVERY slot takes its next one (R261). -/
def State.aevNext (s : State) (i j : Nat) : State :=
  if s.rd AEVCTL.ARM i j = 2 then
    let r := s.revLen i
    (s.modAev i j (fun u => { u with occ := u.occ.map (· + (u.skips + 1) * r), ra := none, skips := 0 })).aevPlan i j
  else s.modAev i j (fun u => { u with armed := false, occ := none, ra := none, skips := 0 })

/-- Whether the spool's state lets a slot whose occurrence is micro-tick `m` become fixed: in SYNC, or, while the angle holds,
where it has been reached; none does in REVHOLD, of which a mirror knows the holding alone (R258, R259, R266). -/
def State.aevFree (s : State) (i m : Nat) : Bool :=
  let st := s.rd SPSTAT.STATE i
  let held := decide (m ≤ s.spTick i (s.fine 0))
  if st = 3 then !(s.spU i).bare || held
  else if st = 4 then held
  else st == 5 && s.rd SPCTL.SRC i == 3 && held

/-- SLOT_COMMIT: at F − 40 ns the slot is fixed and delivers its action (R259, R262, R263). -/
def State.aevCommit (s : State) (i j : Nat) : State :=
  let s := s.aevSettle i j
  let u := s.aevU i j
  match u.occ with
  | none => s
  | some m =>
    if ¬ u.armed ∨ u.fix.isSome ∨ ¬ s.aevFree i m ∨ s.fine 0 + s.span 0 (ns 40) < u.f then s
    else if s.aevBad i j true then
      let s := s.aevNext i j
      (s.wr AEVSTAT.STATE (b2n (s.aevU i j).armed) i j).expire i j 3 s.tsInt
    else
      let s := (s.modAev i j (fun u => { u with fix := some u.f })).wr AEVSTAT.STATE 2 i j
      ((s.aevDeliver i j u.f).aevNext i j).aevSkip i j (s.fine 0) 64

/-! ### The arm ring (R264) -/

/-- The owner the bridle gives spool `i`, as a writer. -/
def State.spOwner (s : State) (i : Nat) : Src :=
  let vf := s.rd BRIDLE.VF 0 (256 + i)
  match s.rd BRIDLE.OWNER 0 (256 + i) with
  | 1 => .fn (if vf = 0 then 16 else vf)
  | 2 => .tether
  | 3 => .eng 0
  | _ => .fn 0

/-- Whether two owners of bridle entries are of one class, and for VFs one function (R273). -/
def sameOwner (a va b vb : Nat) : Bool :=
  let c (x : Nat) : Nat := if 4 ≤ x then 0 else x
  c a == c b && (c a != 1 || va == vb)

/-- Whether the owner class of spool `i` passes the bridle entry of channel group `e` (R264, R276). -/
def State.spPass (s : State) (i e : Nat) : Bool :=
  let o := s.rd BRIDLE.OWNER 0 (256 + i)
  let v := s.rd BRIDLE.VF 0 (256 + i)
  sameOwner o v (s.rd BRIDLE.OWNER 0 e) (s.rd BRIDLE.VF 0 e)
    || (s.on BRIDLE.SHARED 0 e && sameOwner o v (s.rd BRIDLE.COOWN 0 e) (s.rd BRIDLE.COVF 0 e))

/-- Whether an AEVCTL word names a channel: its action acts on one, or its ending does. -/
def namesCh (w : Word) : Bool := decide (AEVCTL.ACT.of w = 1 ∨ AEVCTL.ACT.of w = 2) || AEVCTL.END.of w == 1

/-- A write of AEVCTL from a source: refused where it names a channel of a group the writer does not own (R77, R261). -/
def State.aevctlFrom (s : State) (src : Src) (i j : Nat) (w : Word) : State :=
  let a := AEVCTL.WHOLE.adr i j
  if ¬ s.pw.gnd ∧ ¬ s.holds src a ∧ s.mayWrite src a ∧ namesCh w ∧ ¬ s.bridlePass (AEVCTL.CH.of w / 8) src then
    s.authDropAs src src.code (AEVCTL.CH.of w / 8) a
  else s.authWrite src a w (·.aevctlWrite i j w)

/-- An entry of the arm ring is applied as a write of the spool's owner, which the spool itself makes (R264, R276). -/
def State.ringEntry (s : State) (i j : Nat) (ang off ctl : Nat) : State :=
  let s := (s.wr AEVANG.ANG ang i j).wr AEVOFF.OFF off i j
  let w := BitVec.ofNat 32 ctl
  let e := AEVCTL.CH.of w / 8
  if namesCh w ∧ ¬ s.spPass i e then s.authDropAs (s.spOwner i) (s.spOwner i).code e (AEVCTL.WHOLE.adr i j)
  else s.aevctlWrite i j w

/-- Entries of the arm ring are applied, from count `c` on. -/
def State.ringApply (s : State) (i base c : Nat) : Nat → State
  | 0 => s
  | fuel + 1 =>
    let (s, st, b) := s.blockRead (.mover 209) (base + 16 * (c % 16)) 16
    let w (k : Nat) : Nat := ofBytes ((b.drop (4 * k)).take 4)
    let s := if st ≠ .ok then s else s.ringEntry i (w 0 % 64) (w 1) (w 2) (w 3)
    State.ringApply s i base (c + 1) fuel

/-- SPRING_POLL: each µs of TB17 the spool reads PROD and applies new entries (R264); behind an isolated port it reaches no ring
(R20). -/
def State.springPoll (s : State) (i : Nat) : State :=
  if ¬ s.on SPRING.EN i ∨ s.fine 17 % 64000 ≠ 0 ∨ s.isolated 209 then s
  else
    let base := s.rd SPRING.BASE i * 512
    let (s, st, b) := s.blockRead (.mover 209) (base + 0x100) 8
    if st ≠ .ok then s
    else
      let prod := ofBytes (b.take 4)
      let cons := ofBytes (b.drop 4)
      let n := (prod + 2 ^ 32 - cons) % 2 ^ 32
      if n = 0 then s
      else
        let s := if 16 < n then s.wr SPRING.OVF 1 i else s
        let k := if 16 < n then 16 else n
        let s := s.ringApply i base ((prod + 2 ^ 32 - k) % 2 ^ 32) k
        (s.blockWrite (.mover 209) (base + 0x104) (toBytes 4 prod)).1

/-- A write of SPRING: BASE only while EN is 0 (R264). -/
def State.springWrite (s : State) (i : Nat) (w : Word) : State :=
  let base := if s.on SPRING.EN i then s.rd SPRING.BASE i else SPRING.BASE.of w
  let ovf := if SPRING.OVF.of w = 1 then 0 else s.rd SPRING.OVF i
  s.wrs i [(SPRING.EN, SPRING.EN.of w), (SPRING.OVF, ovf), (SPRING.BASE, base)]

/-- Geometry, source and tolerance registers keep their value while EN is 1 and take their stored limits; a mirror's geometry is
that of its records (R266). -/
def State.spgeomWrite (s : State) (i : Nat) (w : Word) : State :=
  let clamp (hi v : Nat) : Nat := if v = 0 then 1 else if hi < v then hi else v
  if s.on SPCTL.EN i ∨ s.rd SPCTL.SRC i = 3 then s
  else s.wrs i [(SPGEOM.TEETH, clamp 1024 (SPGEOM.TEETH.of w)), (SPGEOM.MTPT, clamp 4096 (SPGEOM.MTPT.of w))]

def State.sptolWrite (s : State) (i : Nat) (w : Word) : State :=
  if s.on SPCTL.EN i then s
  else s.wrs i [(SPTOL.GAPTHR, if SPTOL.GAPTHR.of w < 0x14 then 0x14 else SPTOL.GAPTHR.of w),
    (SPTOL.EARLY, if 0x10 ≤ SPTOL.EARLY.of w then 0x0F else SPTOL.EARLY.of w),
    (SPTOL.LATE, if SPTOL.LATE.of w ≤ 0x10 then 0x11 else SPTOL.LATE.of w)]

def State.spsrcWrite (s : State) (i : Nat) (w : Word) : State :=
  if s.on SPCTL.EN i then s
  else (s.plainWrite (SPSRC.WHOLE.adr i 0) w).wr SPSRC.REMAGE (if SPSRC.REMAGE.of w < 2 then 2 else SPSRC.REMAGE.of w) i

def State.gapmapWrite (s : State) (i k : Nat) (w : Word) : State :=
  if s.on SPCTL.EN i then s else s.setReg (GAPMAP.WHOLE.adr i k) w

/-- SPANGLE_READ: the angle now, with SPREV and SPANGTS latched (R250). -/
def State.spangleRead (s : State) (i : Nat) : State :=
  let x := s.fine 0
  let s := s.wr SPANGLE.ANGLE (s.spAngle i x) i
  let s := (s.wr SPREV.REV (s.spRev i x) i).wr64 SPANGTS_LO.VALUE SPANGTS_HI.VALUE x i
  s.answerWord (s.rd SPANGLE.ANGLE i)

/-! ### Remote spools (R265 to R267) -/

/-- SPOOL_BCAST_SAMPLE: at a TB0 multiple of 1,000 ns the spool samples itself and sends a record (R265), which an isolated port
discards (R20). -/
def State.spSample (s : State) (i : Nat) : State :=
  let n := s.fine 0 / 64000
  let h := s.spU i
  if ¬ s.on SPCTL.BCAST i ∨ h.sampled = some n then s
  else
    let st := s.rd SPSTAT.STATE i
    let x := 64000 * n
    let a := if s.spLive i then h.fineAt x else 0
    let rate := if st = 3 then piecesRate h.pieces x else 0
    let rev := s.spRev i x
    let r : SpRec := {
        dev := s.rd TSTAT.IDX, spool := i, tau := 1000 * n,
        angle := if s.revLen i = 0 then 0 else a % (65536 * s.revLen i), rate := rate % 2 ^ 32, state := st,
        rev := rev % 2 ^ 32, losses := s.rd SPSTAT.LOSSES i, teeth := s.teeth i, mtpt := s.mtpt i }
    let s := s.modSp i (fun h => { h with sampled := some n })
    if s.isolated 209 then s else s.tSend 32 (.spool r)

/-- A record becomes the mirror's angle model at its arrival; angles a jump skips count as reached where the model has them
(R266). -/
def State.mirror (s : State) (i : Nat) (r : SpRec) : State :=
  let s := s.aevCatch i
  let a := s.fine 0
  let h := s.spU i
  let was := h.fineAt a
  let p : Piece := if r.rate = 0 then ⟨64 * r.tau, 65536 * r.rev * s.revLen i + r.angle, 0, 1⟩
    else ⟨64 * r.tau, 65536 * r.rev * s.revLen i + r.angle, 64000, r.rate⟩
  let m := p.at a
  let live := s.spLive i
  let e := a + 64000
  let pieces := if live ∧ was < m ∧ s.on SPCTL.CATCHUP i then [⟨a, was, 64000, p.at e - was⟩, { p with t0 := e, a0 := p.at e }] else [p]
  let s := s.modSp i (fun h => { h with
      pieces := pieces, top := none, floor := if live then was / 65536 else 0, tk := 64 * r.tau, rev := r.rev, pos := 0,
      num := 0, tau := some (64 * r.tau), losses := r.losses })
  let s := (s.inc SPREMSTAT.RECS 1 i).wr SPSTAT.STATE r.state i
  if live then s.aevMove i a 0 false
  else
    let s := s.raiseAt (6656 + 4 * i) (r.angle / 65536) (64 * r.tau)
    let s := s.rebase i (r.rev * s.revLen i + r.angle / 65536)
    (s.aevs i).foldl (fun s j => (s.aevPlan i j).aevLate i j) s

/-- SPOOL_RECORD_ARRIVAL: a mirror applies a record of the spool it mirrors (R266, R267). -/
def State.spRecord (s : State) (i : Nat) (r : SpRec) : State :=
  if ¬ s.on SPCTL.EN i ∨ s.rd SPCTL.SRC i ≠ 3 ∨ s.rd SPSRC.RDEV i ≠ r.dev ∨ s.rd SPSRC.RSPOOL i ≠ r.spool then s
  else
    let s := if s.spLive i then s else s.wrs i [(SPGEOM.TEETH, r.teeth), (SPGEOM.MTPT, r.mtpt)]
    if s.spLive i then
      (if ¬ (3 ≤ r.state ∧ r.state ≤ 5) ∨ r.losses ≠ (s.spU i).losses then
        (s.spLoss i 4 (s.fine 0)).modSp i (fun h => { h with tau := some (64 * r.tau) })
       else s.mirror i r)
    else if r.state = 3 then s.mirror i r
    else s

/-- REMOTE_AGE_EXPIRY: no newer record within REMAGE (R267). -/
def State.remoteAge (s : State) (i : Nat) : State :=
  match (s.spU i).tau with
  | some t =>
    let l := t + us (s.rd SPSRC.REMAGE i)
    if s.rd SPCTL.SRC i = 3 ∧ s.spLive i ∧ l ≤ s.fine 0 then s.spLoss i 4 l else s
  | none => s

/-! ### The meanings -/

def execSpoolTooth (t i : Nat) (s : State) : Out := s.ran (i < 32) ((s.advance t).spTooth i)

def execSpoolHalt (t i : Nat) (s : State) : Out := s.ran (i < 32) ((s.advance t).spHalt i)

def execSpoolLateDeadline (t i : Nat) (s : State) : Out := s.ran (i < 32) ((s.advance t).spLate i)

def execSpoolReverseEdge (t i : Nat) (s : State) : Out := s.ran (i < 32) ((s.advance t).spReverse i)

def execSpctlSyncnow (t : Nat) (src : Src) (i : Nat) (val : Word) (s : State) : Out :=
  s.ran (src.ok && decide (i < 32)) ((s.advance t).authWrite src (SPCTL.WHOLE.adr i 0) (val ||| 0x08000000) (·.spctlWrite i (val ||| 0x08000000)))

def execSpctlDesync (t : Nat) (src : Src) (i : Nat) (val : Word) (s : State) : Out :=
  s.ran (src.ok && decide (i < 32)) ((s.advance t).authWrite src (SPCTL.WHOLE.adr i 0) (val ||| 0x04000000) (·.spctlWrite i (val ||| 0x04000000)))

def execSpctlEnWrite (t : Nat) (src : Src) (i : Nat) (val : Word) (s : State) : Out :=
  s.ran (src.ok && decide (i < 32)) ((s.advance t).authWrite src (SPCTL.WHOLE.adr i 0) val (·.spctlWrite i val))

def execSpoolEnding (t i : Nat) (s : State) : Out := s.ran (i < 32) ((s.advance t).spEnding i)

/-- An AEVCTL word with its ARM field given. -/
def armWord (arm : Nat) (w : Word) : Word := BitVec.ofNat 32 (putBits w.toNat 30 2 arm)

def execAevctlDisarm (t : Nat) (src : Src) (i j : Nat) (val : Word) (s : State) : Out :=
  s.ran (src.ok && i < 32 && j < 64) ((s.advance t).aevctlFrom src i j (armWord 0 val))

def execAevctlOnce (t : Nat) (src : Src) (i j : Nat) (val : Word) (s : State) : Out :=
  s.ran (src.ok && i < 32 && j < 64) ((s.advance t).aevctlFrom src i j (armWord 1 val))

def execAevctlEvery (t : Nat) (src : Src) (i j : Nat) (val : Word) (s : State) : Out :=
  s.ran (src.ok && i < 32 && j < 64) ((s.advance t).aevctlFrom src i j (armWord 2 val))

def execAevctlOnceRev (t : Nat) (src : Src) (i j : Nat) (val : Word) (s : State) : Out :=
  s.ran (src.ok && i < 32 && j < 64) ((s.advance t).aevctlFrom src i j (armWord 3 val))

def execSlotCommit (t i j : Nat) (s : State) : Out := s.ran (i < 32 && j < 64) ((s.advance t).aevCommit i j)

def execSpringPoll (t i : Nat) (err : Ecc) (s : State) : Out := s.ran (i < 32) ((s.advance t).withEcc err (·.springPoll i))

def execSpoolBcastSample (t i : Nat) (s : State) : Out := s.ran (i < 32) ((s.advance t).spSample i)

def execSpoolRecordArrival (t i : Nat) (r : SpRec) (s : State) : Out := s.ran (i < 32) ((s.advance t).spRecord i r)

def execRemoteAgeExpiry (t i : Nat) (s : State) : Out := s.ran (i < 32) ((s.advance t).remoteAge i)

end Sys2Proof.Machine
end

