-- ==== Sys2Proof/Machine/Tails.lean ====
section
/-! DEFINITION. Position feedback tails: decoding, serial encoders, speed, feedback loss, flying start and encoder
emulation (R223 to R249). -/
namespace Sys2Proof.Machine
open Reg


/-- INC and HALL count edges; SSI and BISS take frames (R223). -/
def State.counting (s : State) (k : Nat) : Bool := let m := s.rd TAILCTL.MODE k; m == 1 || m == 2
def State.serial (s : State) (k : Nat) : Bool := let m := s.rd TAILCTL.MODE k; m == 3 || m == 4

/-- EDGE_ERR, at most once per µs, with the errors since the last one (R249); `at_` is the strobe instant. -/
def State.tailErr (s : State) (k cause at_ : Nat) : State :=
  let h := s.tailU k
  let n := h.errs + 1
  if h.errAt.all (fun a => decide (a + us 1 ≤ s.now)) then
    (s.modTail k (fun h => { h with errs := 0, errAt := some s.now })).raiseAt (6144 + 4 * k) (cause * 2 ^ 24 + satTo 0xFFFF n) (s.fineAt 0 at_)
  else s.modTail k (fun h => { h with errs := n })

/-! ### Flying start (R241 to R244) -/

/-- The tail that qualifies the starts of channel `n`'s group. -/
def State.flyTail (s : State) (n : Nat) : Option Nat :=
  (upFrom 0 128).find? (fun k => s.on FSCTL.EN k && s.rd FSCTL.GRP k == n / 8)

/-- The signed speed of a tail, in 2⁻¹⁶ counts/s. -/
def State.vel (s : State) (k : Nat) : Int := toSigned 64 (s.rd64 VEL_LO.VALUE VEL_HI.VALUE k)

/-- Whether a flying start of the tail is in HOLD or BRAKING. -/
def State.flyBusy (s : State) (k : Nat) : Bool := s.on FSSTAT.STATE k && s.flyHeld (s.rd FSCTL.GRP k)

/-- A fault of the group's leader, its local channel 0 or 8 (R241, R244). -/
def State.flyFault (s : State) (k cause detail : Nat) : State := s.chFault (8 * s.rd FSCTL.GRP k) cause detail

/-- The held channels start together 100 ns from now (R242, R243). -/
def State.flyRelease (s : State) (k : Nat) : State :=
  let j := s.rd FSCTL.GRP k
  let s := (upFrom (8 * j) 8).foldl (fun s n =>
    match (s.ch n).run.start with
    | some st => if st.held then
        let d := s.etbNow n
        s.modRun n (fun r => { r with start := some { st with s := ceilNs (d + s.espan n (ns 100)), d := some d, held := false, pass := true } })
      else s
    | none => s) s
  (s.wr FSSTAT.STATE 0 k).brakeLook j

/-- A hold ends with its channels STOPPED and FLYABORT (R242, R243). -/
def State.flyAbort (s : State) (k reason : Nat) : State :=
  if ¬ s.flyBusy k then s
  else
    let j := s.rd FSCTL.GRP k
    let s := (upFrom (8 * j) 8).foldl (fun s n =>
      if (s.ch n).run.start.any (·.held) then s.dropStart n else s) s
    (s.wr FSSTAT.STATE 0 k).flyFault k 0x13 reason

/-- Speed fallen to FSTHR, or standstill, ends a brake-first hold (R243). -/
def State.brakeSpeed (s : State) (k : Nat) : State :=
  if s.flyBusy k ∧ s.rd FSSTAT.STATE k = 2 ∧ (s.on VELSTAT.STALE k ∨ mag (s.vel k) ≤ s.rd FSTHR.THR k * 65536) then s.flyRelease k
  else s

/-- The speed reported 40 ns ago, with STALE (R241). -/
def State.velBefore (s : State) (k : Nat) : Int × Bool :=
  match (s.tailU k).vels.find? (fun v => decide (v.at_ + ns 40 ≤ s.now)), (s.tailU k).vels.getLast? with
  | some v, _ => (v.vel, v.stale)
  | none, some v => (v.vel, v.stale)
  | none, none => (s.vel k, s.on VELSTAT.STALE k)

/-- The class of a start: 1 STILL, 2 FWD, 3 REV, 4 ABORT (R241). -/
def State.flyClass (s : State) (k : Nat) : Nat :=
  let (v, stale) := s.velBefore k
  if s.on LOSSSTAT.LOSS k then 4
  else if stale ∨ mag v ≤ s.rd FSTHR.THR k * 65536 then 1
  else if decide (v < 0) = s.on FSCTL.DIR k then 2 else 3

/-- |VEL| in counts per ms, saturating (R243). -/
def State.velMs (s : State) (k : Nat) : Nat := satTo 0xFFFF (mag (s.velBefore k).1 / 65536000)

/-! ### Encoder emulation (R245 to R248) -/

/-- The output channels of a tail with their lines: 0 for A, 1 for B, 2 for Z. -/
def State.emuLines (s : State) (k : Nat) : List (Nat × Nat) :=
  let a := s.rd EMUCTL.ACH k
  [(0, a), (1, a + 1)] ++ (if s.on EMUCTL.ZEN k then [(2, a + 2)] else [])

def State.emuConflict (s : State) (k : Nat) : State := (s.wr EMUSTAT.CONFLICT 1 k).tailErr k 9 s.now

/-- In passthrough the outputs take the tail's filtered levels (R246). -/
def State.emuPass (s : State) (k : Nat) : State :=
  if s.rd EMUSTAT.PATH k ≠ 1 then s
  else (s.emuLines k).foldl (fun s l =>
    let v := bitAt (s.rd TAILSTAT.LEVEL k) (2 - l.1)
    if ¬ s.emuOk l.2 then s.emuConflict k
    else if (s.ch l.2).pin.lvl = v then s else s.setLvl l.2 v) s

/-- The path EMUCTL asks for: 0 hold or off, 1 passthrough, 2 synthesis (R248). -/
def State.emuWanted (s : State) (k : Nat) : Nat :=
  let pass := if s.serial k then 0 else 1
  match s.rd EMUCTL.SRC k with
  | 0 => 0
  | 1 => pass
  | 2 => 2
  | _ => if ¬ s.on TAILCTL.ARM k ∨ s.on LOSSSTAT.LOSS k ∨ ¬ s.on SPINESTAT.CALDONE ∨ s.on EMUCTL.TEST k ∨ (s.tailU k).emuSamp = [] then pass else 2

/-- The condition that selects the path is looked at again. -/
def State.emuLook (s : State) (k : Nat) : State :=
  let w := s.emuWanted k
  if (s.tailU k).emuWant = w then s else s.modTail k (fun h => { h with emuWant := w, emuSince := s.now })

/-- The samples the emulator still needs at the TB0 fine time `x`: those after it and one before. -/
def emuKeep (x : Nat) : List PosAt → List PosAt
  | [] => []
  | p :: r => if p.ts ≤ x then [p] else p :: emuKeep x r

/-- The interpolated position at `x`, as a fraction; held at the newest sample after it (R247). -/
def emuPos : List PosAt → Nat → Int × Nat
  | [], _ => (0, 1)
  | [p], _ => (p.pos, 1)
  | p :: q :: r, x =>
    if p.ts ≤ x then (p.pos, 1)
    else if q.ts ≤ x then (q.pos * ((p.ts - q.ts : Nat) : Int) + (p.pos - q.pos) * ((x - q.ts : Nat) : Int), p.ts - q.ts)
    else emuPos (q :: r) x

/-- A sample at `ts` that differs by `d` from the one before it joins the samples, newest first; one older than all of them only
shifts them. -/
def emuInsert (ts : Nat) (d : Int) : List PosAt → List PosAt
  | [] => []
  | q :: r => if q.ts ≤ ts then ⟨ts, q.pos + d⟩ :: q :: r else ⟨q.ts, q.pos + d⟩ :: emuInsert ts d r

/-- A position sample reaches the emulator, as a difference from the last (R233, R247). -/
def State.emuSample (s : State) (k ts : Nat) (diff : Int) : State :=
  let h := s.tailU k
  let x := s.fine 0 - ns (s.rd EMUDLY.DLY k)
  let l := if h.emuSamp = [] then [⟨ts, 0⟩] else emuInsert ts diff h.emuSamp
  let l := if 2 ≤ s.rd EMUCTL.SRC k then emuKeep x l else l.take 1
  (s.modTail k (fun h => { h with emuSamp := l })).emuLook k

/-- The output count the synthesis calls for at the instant 16 ns ahead (R247). -/
def State.emuTarget (s : State) (k : Nat) : Int :=
  let h := s.tailU k
  let (n, d) := emuPos h.emuSamp (s.fine 0 + s.span 0 (ns 16) - ns (s.rd EMUDLY.DLY k))
  let num := (s.rd EMURATIO.RATIO k : Int) * (n * (h.emuP0.2 : Int) - h.emuP0.1 * (d : Int))
  h.emuC0 + num / (2 ^ 24 * (d * h.emuP0.2) : Nat)

/-- The quadrature state of a count: A and B (R247). -/
def quad (c : Int) : Bool × Bool :=
  let m := c % 4
  (m == 1 || m == 2, m == 2 || m == 3)

/-- The count as it leaves the emulator, with INV (R247). -/
def State.emuOut (s : State) (k : Nat) (c : Int) : Int := if s.on EMUCTL.INV k then -c else c

/-- A TB0 fine time as one of channel `n`'s edge timebase. -/
def State.tb0ToEtb (s : State) (n v : Nat) : Nat :=
  if s.etb n = 0 then v
  else s.etbNow n + (if s.rateOf 0 = 0 then 0 else (v - s.fine 0) * s.rateOf (s.etb n) / s.rateOf 0)

/-- One output of the emulator changes level at the TB0 fine time `at_` (R245, R247). -/
def State.emuEdge (s : State) (k n at_ : Nat) (v : Bool) : State :=
  if ¬ s.emuOk n then s.emuConflict k
  else (s.edgeReq n ⟨s.tb0ToEtb n at_, if v then 2 else 1, .emu, false, none⟩ false).1

/-- Whether Z is high at the count `c` (R247). -/
def State.emuZ (s : State) (k : Nat) (c : Int) : Bool :=
  let zp := s.rd EMUCTL.ZPER k
  s.on EMUCTL.ZEN k && zp != 0 && s.emuOut k c % (zp : Int) == 0

/-- The Z output takes the level of the count `c` at the TB0 fine time `at_` (R247). -/
def State.emuIndex (s : State) (k at_ : Nat) (c : Int) : State :=
  let v := s.emuZ k c
  if ¬ s.on EMUCTL.ZEN k ∨ v = (s.tailU k).emuZ then s
  else (s.emuEdge k (s.rd EMUCTL.ACH k + 2) at_ v).modTail k (fun h => { h with emuZ := v, emuZAt := at_ })

/-- EMU_EDGE_COMMIT: the next count that has fallen due is committed 16 ns ahead; one owed waits for its spacing, and a
backlog above 4,096 counts is dropped (R247). -/
def State.emuCommit (s : State) (k : Nat) : State :=
  let h := s.tailU k
  if s.rd EMUSTAT.PATH k ≠ 2 ∨ h.emuSamp = [] then s
  else
    let tgt := s.emuTarget k
    let gap := tgt - h.emuC
    if gap = 0 then s.wr EMUSTAT.LAG 0 k
    else
      let up := decide (0 < gap)
      let past := mag gap - 4096
      let s := if past = 0 then s
        else ((s.cnt EMUSTAT.SLIPCNT past k).modTail k (fun h => { h with emuC0 := if up then h.emuC0 - past else h.emuC0 + past })).tailErr k 8 s.now
      let c := if up then h.emuC + 1 else h.emuC - 1
      let (a0, b0) := quad (s.emuOut k h.emuC)
      let (a, b) := quad (s.emuOut k c)
      let line := if a ≠ a0 then 0 else 1
      let x := s.fine 0 + s.span 0 (ns 16)
      let soon := h.emuLast + s.span 0 (if h.emuLine = line then ns 20 else ns 10)
      let x := if x < soon then soon else x
      let zs := h.emuZAt + s.span 0 (ns 20)
      let x := if s.on EMUCTL.ZEN k ∧ s.emuZ k c ≠ h.emuZ ∧ x < zs then zs else x
      let ach := s.rd EMUCTL.ACH k
      let s := if a ≠ a0 then s.emuEdge k ach x a else s
      let s := if b ≠ b0 then s.emuEdge k (ach + 1) x b else s
      let s := s.emuIndex k x c
      (s.modTail k (fun h => { h with emuC := c, emuLast := x, emuLine := line })).wr EMUSTAT.LAG (b2n (decide (1 < mag gap))) k

/-- Whether neither path has an output transition within 20 ns (R248). -/
def State.emuQuiet (s : State) (k : Nat) : Bool :=
  let h := s.tailU k
  decide (h.emuLast + s.span 0 (ns 20) ≤ s.fine 0 ∨ h.emuLast = 0) && h.abz.all (fun a => decide (a + ns 20 ≤ s.now ∨ a = 0))
    && (s.emuLines k).all (fun l => (s.ch l.2).dl.pend.all (fun e => e.org != .emu))

/-- EMU_PATH_CHANGE: at least 40 ns after the condition changed, at a quiet instant, the wanted path takes over and no
count is lost; Z takes its level (R247, R248). -/
def State.emuPathChange (s : State) (k : Nat) : State :=
  let s := s.emuLook k
  let h := s.tailU k
  let w := h.emuWant
  let nopass := s.serial k && (s.rd EMUCTL.SRC k == 1 || s.rd EMUCTL.SRC k == 3) && w == 0
  let s := if s.now < h.emuSince + ns 40 then s else s.wr EMUSTAT.NOPASS (b2n nopass) k
  if w = s.rd EMUSTAT.PATH k ∨ s.now < h.emuSince + ns 40 ∨ ¬ s.emuQuiet k then s
  else
    let s := s.wr EMUSTAT.PATH w k
    let s := (s.emuLines k).foldl (fun s l =>
      if s.emuOk l.2 then s.modPin l.2 (fun p => { p with passTail := decide (w = 1) }) else s) s
    if w = 1 then s.emuPass k
    else if w = 2 then
      let a := (s.ch (s.rd EMUCTL.ACH k)).pin.lvl
      let b := (s.ch (s.rd EMUCTL.ACH k + 1)).pin.lvl
      let st : Int := if a then (if b then 2 else 1) else if b then 3 else 0
      let c := s.emuOut k st
      let p := emuPos h.emuSamp (s.fine 0 - ns (s.rd EMUDLY.DLY k))
      let s := s.modTail k (fun h => { h with emuC := c, emuC0 := c, emuP0 := p, emuZ := (s.ch (s.rd EMUCTL.ACH k + 2)).pin.lvl })
      s.emuIndex k (s.fine 0 + s.span 0 (ns 16)) c
    else s

/-! ### Feedback loss (R238 to R240) -/

/-- The grace of a tail ends with its group entering the safe state 40 ns after `at_` (R240). -/
def State.graceSafe (s : State) (k j at_ : Nat) : State := (s.wr LOSSSTAT.SAFED 1 k).safeAsk j 3 (at_ + ns 40)

/-- A running grace ends, whatever follows. -/
def State.graceStop (s : State) (k : Nat) : State :=
  match (s.tailU k).grace with
  | some (_, j) =>
    ((s.modTail k (fun h => { h with grace := none })).wr LOSSSTAT.GRACING 0 k).modGr j (fun g => { g with graces := g.graces.erase k })
  | none => s

/-- The LOSS event (R249). -/
def State.lossEvent (s : State) (k at_ : Nat) (recovered : Bool) : State :=
  s.raiseAt (6144 + 4 * k + 1) ((s.tailU k).cause * 2 ^ 24 + b2n recovered * 2 ^ 23 + s.rd LOSSCTL.GRP k * 2 ^ 16 + s.rd LOSSCTL.GRACE k) (s.fineAt 0 at_)

/-- Feedback is declared lost with a cause, detected at the strobe instant `at_` (R239, R240). -/
def State.lossDeclare (s : State) (k cause at_ : Nat) : State :=
  let s := s.wrs k [(POSSTAT.STALE, 1), (LOSSSTAT.LOSS, 1)]
  let s := (s.cnt LOSSSTAT.COUNT 1 k).modTail k (fun h => { h with cause := cause })
  let s := if cause = 1 ∧ s.counting k then s.wr POSSTAT.POSQ 1 k else s
  let s := s.lossEvent k at_ false
  let j := s.rd LOSSCTL.GRP k
  let s := if ¬ s.on LOSSCTL.EN k then s
    else if s.rd LOSSCTL.GRACE k = 0 then s.graceSafe k j at_
    else
      (((s.graceStop k).modTail k (fun h => { h with grace := some (at_ + us (s.rd LOSSCTL.GRACE k), j) })).wr LOSSSTAT.GRACING 1 k).modGr j (fun g => { g with graces := g.graces ++ [k] })
  ((s.flyAbort k 2).sourceLost 2 k).emuLook k

/-- Every enabled condition has cleared (R239, R240). -/
def State.lossClear (s : State) (k at_ : Nat) : State :=
  let s := match (s.tailU k).grace with
    | some (e, j) => let s' := s.graceStop k; if s.strobe e / 64000 ≤ s.strobe at_ / 64000 then s'.graceSafe k j e else s'
    | none => s
  let s := s.wrs k [(POSSTAT.STALE, 0), (LOSSSTAT.LOSS, 0)]
  ((s.modTail k (fun h => { h with samp := [], diff := 0 })).lossEvent k at_ true).emuLook k

/-- The enabled causes. -/
def State.lossEn (s : State) (k : Nat) : Nat :=
  s.rd LOSSCTL.LBRK k + 2 * s.rd LOSSCTL.FRESHEN k + 4 * s.rd LOSSCTL.FROZEN k + 8 * s.rd LOSSCTL.FRAMEF k

/-- The conditions are looked at again: the first one met declares a loss, the last one cleared ends it (R239). -/
def State.lossLook (s : State) (k at_ : Nat) : State :=
  let act := (s.tailU k).cond &&& s.lossEn k
  let s := s.wr LOSSSTAT.CAUSES act k
  match onesOf act 4 with
  | b :: _ => if s.on LOSSSTAT.LOSS k then s else s.lossDeclare k (b + 1) at_
  | [] => if s.on LOSSSTAT.LOSS k then s.lossClear k at_ else s

/-- A condition is met or clears. -/
def State.lossCond (s : State) (k bit : Nat) (v : Bool) (at_ : Nat) : State :=
  if bitAt (s.tailU k).cond bit = v then s
  else (s.modTail k (fun h => { h with cond := putBit h.cond bit v })).lossLook k at_

/-! ### Samples and speed (R233 to R237) -/

/-- A feedback record is asked for while records are enabled (R234). -/
def State.recAsk (s : State) (k : Nat) : State :=
  if s.on TAILREC.EN k then s.modTail k (fun h => { h with recDue := true }) else s

/-- The flags of VELSTAT. -/
def State.velFlags (s : State) (k : Nat) : Nat :=
  s.rd VELSTAT.STALE k * 8 + s.rd VELSTAT.LOWCONF k * 4 + s.rd VELSTAT.REV k * 2 + s.rd VELSTAT.DIR k

/-- VEL and VELSTAT take a new estimate (R235); a change of a flag asks for a record (R234). -/
def State.speed (s : State) (k : Nat) (v : Int) (stale low rev dir : Bool) (m : Nat) : State :=
  let old := s.velFlags k
  let s := s.wr64 VEL_LO.VALUE VEL_HI.VALUE (ofSigned 64 v) k
  let s := s.wrs k [(VELSTAT.STALE, b2n stale), (VELSTAT.LOWCONF, b2n low), (VELSTAT.REV, b2n rev), (VELSTAT.DIR, b2n dir), (VELSTAT.M, m)]
  let s := s.inc VELSTAT.UPD 1 k
  let s := if s.velFlags k = old then s else s.recAsk k
  let keep (l : List VelAt) : List VelAt :=
    let new := l.filter (fun x => decide (s.now < x.at_ + ns 40))
    new ++ (l.drop new.length).take 1
  let s := s.modTail k (fun h => { h with vels := ⟨s.now, v, stale⟩ :: keep h.vels })
  s.brakeSpeed k

/-- The number of intervals an estimate spans (R235). -/
def State.velM (s : State) (k : Nat) (l : List PosAt) : Nat :=
  match l with
  | [] => 0
  | p :: r =>
    let n := (r.takeWhile (fun q => decide (p.ts ≤ q.ts + us (s.rd VELCFG.VWIN k)))).length
    if n = 0 ∧ r ≠ [] then 1 else n

/-- A difference of positions over an interval in 1/64 ns, as 2⁻¹⁶ counts/s; the spec states none over no time. -/
def State.rate (s : State) (d : Int) (dt : Nat) : Int × State :=
  if dt = 0 then
    let (v, s) := s.fresh
    (toSigned 64 v, s)
  else ((d * (64000000000 * 65536 : Nat)).tdiv (dt : Int), s)

/-- A position sample at the strobe instant `at_` (R233): POS, POSTS and POSSEQ. -/
def State.posSample (s : State) (k at_ pos : Nat) : State :=
  let s := s.wr64 POS_LO.VALUE POS_HI.VALUE pos k
  let s := s.wr64 POSTS_LO.VALUE POSTS_HI.VALUE (s.fineAt 0 at_) k
  (s.inc POSSEQ.SEQ 1 k).recAsk k

/-- FRAME (R249). -/
def State.frameEvent (s : State) (k at_ : Nat) (z : Bool) : State :=
  s.raiseAt (6144 + 4 * k + 2) (b2n z * 2 ^ 19 + s.rd POSSTAT.SECTOR k * 2 ^ 16 + s.rd POSSEQ.SEQ k % 65536) (s.fineAt 0 at_)

/-- A qualified edge in a direction at the strobe instant `at_` (R226, R228, R233, R235). One that lies at or before an accepted
Z edge counts first, though its filter passes it later: the capture holds it, and a reset has undone it (R227). -/
def State.qualEdge (s : State) (k at_ : Nat) (up : Bool) : State :=
  let h := s.tailU k
  let z := h.zHit.filter (fun z => decide (at_ ≤ z.1))
  let ts := s.fineAt 0 at_
  let d : Int := if up then 1 else -1
  let pos := toSigned 64 (s.rd64 POS_LO.VALUE POS_HI.VALUE k) + d
  let rev := h.samp ≠ [] ∧ s.on VELSTAT.DIR k = up
  let l := if rev then [⟨ts, pos⟩] else (⟨ts, pos⟩ :: h.samp).take 17
  let m := s.velM k l
  let (v, s) := if m = 0 then ((0 : Int), s) else s.rate (d * (m : Int)) (ts - (l.getD m ⟨ts, 0⟩).ts)
  let cap := toSigned 64 (s.rd64 ZCAP_LO.VALUE ZCAP_HI.VALUE k) + d
  let s := if z.isSome then s.wr64 ZCAP_LO.VALUE ZCAP_HI.VALUE (ofSigned 64 cap) k else s
  let s := s.posSample k at_ (ofSigned 64 (if z.any (·.2) then pos - d else pos))
  let s := s.modTail k (fun h => { h with samp := l, diff := d, edgeAt := some at_, moveAt := at_, decayAt := at_ })
  let s := s.speed k v false (decide (l.length < 4)) rev (!up) m
  let s := s.emuSample k ts d
  (s.lossCond k 1 false at_).spoolEdge 2 k ⟨at_, up⟩

/-! ### Incremental and Hall decoding (R225 to R228) -/

/-- The direction an INC edge counts in, `none` where it is not counted (R226): `o` and `n` are A·2 + B before and after. -/
def incDir (cnt o n : Nat) : Option Bool :=
  let a := n / 2 % 2 == 1
  let b := n % 2 == 1
  let aCh := o / 2 % 2 != n / 2 % 2
  match cnt with
  | 0 => if aCh ∧ a then some (!b) else none
  | 1 => if aCh then some (a != b) else none
  | _ => some ((o == 0 && n == 2) || (o == 2 && n == 3) || (o == 3 && n == 1) || (o == 1 && n == 0))

/-- An accepted transition of A or B (R226). Transitions less than 4 ns apart come as one change of both, since neither is
accepted within 4 ns of its start; a change that comes alone so soon after the other's is illegal too
(notes/assumptions/63.md). -/
def State.incEdge (s : State) (k at_ o n : Nat) : State :=
  let h := s.tailU k
  let other := if o / 2 ≠ n / 2 then h.abz.getD 1 0 else h.abz.getD 0 0
  let close := other ≠ 0 ∧ absDiff at_ other < ns 4
  if (o / 2 ≠ n / 2 ∧ o % 2 ≠ n % 2) ∨ close then
    ((s.cnt TAILSTAT.ILLCNT 1 k).wr POSSTAT.POSQ 1 k).tailErr k 1 at_
  else
    match incDir (s.rd TAILCTL.CNT k) o n with
    | some up => s.qualEdge k at_ (up != s.on TAILCTL.DIRINV k)
    | none => s

/-- The sector HALLMAP gives a code; 6 and 7 are illegal (R228). -/
def State.hallSector (s : State) (k code : Nat) : Nat := bitsAt (s.rd HALLMAP.MAP k) (3 * code) 3

/-- A change of the Hall code; a return from an illegal code to the last legal sector changes nothing (R228,
notes/assumptions/158.md). -/
def State.hallEdge (s : State) (k at_ code : Nat) : State :=
  let sec := s.hallSector k code
  let last := (s.tailU k).sector
  if 6 ≤ sec then (s.wr POSSTAT.SECTOR 7 k).tailErr k 2 at_
  else
    let back := s.rd POSSTAT.SECTOR k = 7
    let s := (s.wr POSSTAT.SECTOR sec k).modTail k (fun h => { h with sector := sec })
    let inv := s.on TAILCTL.DIRINV k
    if 6 ≤ last ∨ (sec = last ∧ back) then s
    else if sec = (last + 1) % 6 then (s.qualEdge k at_ (!inv)).frameEvent k at_ false
    else if sec = (last + 5) % 6 then (s.qualEdge k at_ inv).frameEvent k at_ false
    else (s.wr POSSTAT.POSQ 1 k).tailErr k 3 at_

/-- The stability time of a filter (R225). -/
def tailFilt (f : Nat) : Nat := ns (if f < 4 then 4 else f)

/-- TAIL_EDGE_ACCEPT: the inputs have held the levels `code` (A·4 + B·2 + Z) since the strobe instant `at_` (R225). -/
def State.tailEdge (s : State) (k at_ code : Nat) : State :=
  let old := s.rd TAILSTAT.LEVEL k
  let new := if s.rd TAILCTL.MODE k = 1 then code / 2 % 4 * 2 + old % 2 else code % 8
  if old = new ∨ s.now < at_ + tailFilt (s.rd TFILT.FILTAB k) then s
  else
    let s := s.wr TAILSTAT.LEVEL new k
    let s := if ¬ s.on TAILCTL.ARM k then s
      else match s.rd TAILCTL.MODE k with
        | 1 => s.incEdge k at_ (old / 2) (new / 2)
        | 2 => s.hallEdge k at_ new
        | _ => s
    let abz (l : List Nat) : List Nat :=
      (upFrom 0 3).map (fun i => if bitAt old (2 - i) ≠ bitAt new (2 - i) then at_ else l.getD i 0)
    (s.modTail k (fun h => { h with abz := abz h.abz })).emuPass k

/-- TAIL_Z_EDGE: a filtered transition of Z; a rising one at the levels of ZQ captures POS, raises FRAME and may reset POS
(R227). -/
def State.tailZ (s : State) (k at_ : Nat) (lvl : Bool) : State :=
  let old := s.rd TAILSTAT.LEVEL k
  if s.rd TAILCTL.MODE k ≠ 1 ∨ bitAt old 0 = lvl ∨ s.now < at_ + tailFilt (s.rd TFILT.FILTZ k) then s
  else
    let s := (s.wr TAILSTAT.LEVEL (putBit old 0 lvl) k).modTail k (fun h => { h with abz := h.abz.set 2 at_ })
    let zm := s.rd TAILCTL.ZMODE k
    let s := if ¬ s.on TAILCTL.ARM k ∨ ¬ lvl ∨ zm = 0 ∨ old / 2 ≠ s.rd TAILCTL.ZQ k then s
      else
        let pos := s.rd64 POS_LO.VALUE POS_HI.VALUE k
        let s := s.wr64 ZCAP_LO.VALUE ZCAP_HI.VALUE pos k
        let s := (s.posSample k at_ pos).frameEvent k at_ true
        let first := !(s.tailU k).zSeen
        let reset := zm = 3 ∨ (zm = 2 ∧ first)
        let s := if reset then (s.wr64 POS_LO.VALUE POS_HI.VALUE 0 k).wr POSSTAT.POSQ 0 k else s
        let s := s.modTail k (fun h => { h with zSeen := true, zHit := some (at_, decide reset) })
        (s.emuSample k (s.fineAt 0 at_) 0).spoolZ k at_
    s.emuPass k

/-! ### Serial encoders (R229 to R232, R237) -/

/-- The bits of a value, the most significant first. -/
def msbBits (n v : Nat) : List Bool := (upFrom 0 n).map (fun i => bitAt v (n - 1 - i))

/-- The CRC of a BISS frame, polynomial x⁶ + x + 1, before its inversion (R230). -/
def crc6 (bits : List Bool) : Nat :=
  bits.foldl (fun c b =>
    let fb := bitAt c 5 != b
    let c := 2 * c % 64
    if fb then c ^^^ 3 else c) 0

/-- Gray code to binary (R231). -/
def unGray (n v : Nat) : Nat :=
  ((msbBits n v).foldl (fun (a : Nat × Bool) b => let x := a.2 != b; (2 * a.1 + b2n x, x)) (0, false)).1

/-- CABLE.CM follows DLY and VPROP (R232). -/
def State.cableCm (s : State) (k : Nat) : State :=
  let v := s.rd CABLECFG.VPROP k
  s.wr CABLE.CM (if v = 0 then 0x7FFF else satTo 0x7FFF (s.rd CABLE.DLY k * 1000 / (64 * v))) k

/-- A measured round trip enters the mean of the cable delay (R232). -/
def State.cableMeasure (s : State) (k trt : Nat) : State :=
  let e := ns (s.rd CABLECFG.ENCDLY k)
  let s := s.wr CABLE.VALID 1 k
  if trt < e then s
  else
    let l := ((trt - e) / 2 :: (s.tailU k).delays).take 16
    ((s.modTail k (fun h => { h with delays := l })).wr CABLE.DLY (satTo 0xFFFF (l.foldl (· + ·) 0 / l.length)) k).cableCm k

/-- A serial frame has failed with a cause of R249, reported at its sample instant, or at T where none began; the last
frame's flags are kept where none began (R229, R230). -/
def State.frameFail (s : State) (k cause at_ : Nat) : State :=
  let s := (s.cnt TAILSTAT.FAILCNT 1 k).cnt POSSTAT.FAILRUN 1 k
  let s := if cause = 6 then s else s.wrs k [(POSSTAT.CRCERR, b2n (cause == 4)), (POSSTAT.ENCERR, b2n (cause == 7))]
  let s := (s.wr TAILSTAT.BUSY 0 k).modTail k (fun h => { h with frame := none })
  let s := s.tailErr k cause at_
  if s.rd SERCHK.CRCMAX k ≤ s.rd POSSTAT.FAILRUN k then s.lossCond k 3 true s.now else s

/-- A trigger whose T is the strobe instant `at_` (R229). -/
def State.serTrigger (s : State) (k at_ : Nat) (ready : Bool) : State :=
  if s.on TAILSTAT.BUSY k then s.cnt TAILSTAT.MISSED 1 k
  else if ¬ ready then s.frameFail k 6 at_
  else (s.wr TAILSTAT.BUSY 1 k).modTail k (fun h => { h with frame := some at_ })

/-- A trigger of the configured source whose instant has come (R229): the period's, or one the channel's event announced. -/
def State.serSource (s : State) (k : Nat) (ready : Bool) : State :=
  match s.rd SERTRIG.TSRC k with
  | 1 =>
    let p := ns (s.rd SERPER.PER k)
    let n := s.fine 0 / p
    if (s.tailU k).per = some n then s
    else (s.modTail k (fun h => { h with per := some n })).serTrigger k (s.whenTb 0 (n * p)) ready
  | 2 => match (s.tailU k).trigs with
    | at_ :: r => (s.modTail k (fun h => { h with trigs := r })).serTrigger k at_ ready
    | [] => s
  | _ => s

/-- SERIAL_TRIGGER: a trigger's instant has come: a GO's, or that of the configured source (R229). -/
def State.serialTrigger (s : State) (k : Nat) (ready : Bool) : State :=
  if ¬ s.on TAILCTL.ARM k ∨ ¬ s.serial k then s
  else match (s.tailU k).goAt with
    | g :: r =>
      if g ≤ s.now then (s.modTail k (fun h => { h with goAt := r })).serTrigger k g ready
      else s.serSource k ready
    | [] => s.serSource k ready

/-- What pin TAILA drives: nothing where it is a receiver or its tail is unarmed; MA idles high, and through a frame it is a
clock of period CLKP whose first falling edge is T (R224, R229, R230). -/
def State.ma (s : State) (k : Nat) : Drive :=
  if ¬ s.on TAILCTL.ARM k ∨ ¬ s.serial k then .z
  else match (s.tailU k).frame with
    | some t => let p := ns (s.rd SERCFG.CLKP k); if 2 * ((s.now - t) % p) < p then .low else .high
    | none => .high

/-- The strobe instant at which the encoder latched the value of the frame at T (R232). -/
def State.sampleAt (s : State) (k t : Nat) : Nat := t + s.rd CABLE.DLY k + ns (s.rd CABLECFG.LATDLY k)

/-- The second rising edge of MA (R230). -/
def State.maSecond (s : State) (k t : Nat) : Nat := t + ns (s.rd SERCFG.CLKP k) * 3 / 2

/-- BISS_ACK_TIMEOUT: no ACK within 2,000 ns (R230). -/
def State.ackTimeout (s : State) (k : Nat) : State :=
  match (s.tailU k).frame with
  | some t => if s.rd TAILCTL.MODE k = 4 ∧ s.maSecond k t + us 2 ≤ s.now then s.frameFail k 5 (s.sampleAt k t) else s
  | none => s

/-- BISS_START_TIMEOUT: no start bit within STMAX clocks of ACK, which gave the round trip `trt` (R230, R232). -/
def State.startTimeout (s : State) (k trt : Nat) : State :=
  match (s.tailU k).frame with
  | some t =>
    if s.rd TAILCTL.MODE k = 4 ∧ s.maSecond k t + trt + s.rd SERCFG.STMAX k * ns (s.rd SERCFG.CLKP k) ≤ s.now then
      let s := s.cableMeasure k trt
      s.frameFail k 5 (s.sampleAt k t)
    else s
  | none => s

/-- Speed from a valid frame (R237); `moved` says that POS has changed or that it is the first frame since arming. The frame
that ends a standstill restarts the estimate. -/
def State.frameSpeed (s : State) (k at_ data : Nat) (moved : Bool) : State :=
  let h := s.tailU k
  let n := s.rd SERCFG.NBITS k
  let ts := s.fineAt 0 at_
  let df (a b : Int) : Int := toSigned n ((a - b) % (2 ^ n : Nat)).toNat
  let p : PosAt := ⟨ts, data⟩
  let d := match h.samp with
    | q :: _ => df data q.pos
    | [] => 0
  let back := s.on VELSTAT.STALE k && moved
  let rev := !back && decide ((0 < d ∧ h.diff < 0) ∨ (d < 0 ∧ 0 < h.diff))
  let l := if back then [p] else if rev then p :: h.samp.take 1 else (p :: h.samp).take 17
  let m := s.velM k l
  let q := l.getD m p
  let (v, s) := if m = 0 then ((0 : Int), s) else s.rate (df data q.pos) (ts - q.ts)
  let s := s.modTail k (fun h => { h with samp := l, diff := d, moveAt := if moved then at_ else h.moveAt })
  let s := s.speed k v (s.on VELSTAT.STALE k && !moved) (decide (l.length < 4)) rev (decide (d < 0)) m
  let s := s.emuSample k ts d
  if 0 < d then s.spoolEdge 2 k ⟨at_, true⟩ else s

/-- The FROZEN condition after a valid frame (R238). -/
def State.frozenLook (s : State) (k raw : Nat) : State :=
  let h := s.tailU k
  let n := if h.last = some raw then h.same + 1 else 1
  let s := s.modTail k (fun h => { h with last := some raw, same := n })
  let fz := decide (s.rd SERCHK.LIFELEN k ≠ 0 ∧ s.rd SERCHK.FRZN k ≤ n)
  (s.wr POSSTAT.FROZEN (b2n fz) k).lossCond k 2 fz s.now

/-- A valid frame at T becomes a position sample (R232, R233). -/
def State.frameGood (s : State) (k t data raw : Nat) (warn cds : Bool) : State :=
  let at_ := s.sampleAt k t
  let s := s.wrs k [(TAILSTAT.BUSY, 0), (POSSTAT.CRCERR, 0), (POSSTAT.ENCERR, 0), (POSSTAT.WARN, b2n warn), (POSSTAT.CDS, b2n cds), (POSSTAT.FAILRUN, 0)]
  let s := s.modTail k (fun h => { h with frame := none })
  let moved := (s.tailU k).last.isNone || decide (data ≠ s.rd64 POS_LO.VALUE POS_HI.VALUE k)
  let s := s.posSample k at_ data
  let s := s.frameSpeed k at_ data moved
  let s := s.frameEvent k at_ false
  (s.frozenLook k raw).lossCond k 3 false s.now

/-- SERIAL_FRAME_DONE: the frame's bits as received: the round trip where one was measured, the data, the status bits
(nE before nW), the CRC or parity bits, and CDS (R230, R231). -/
def State.serialDone (s : State) (k trt data stat crc cds : Nat) : State :=
  match (s.tailU k).frame with
  | none => s
  | some t =>
    let n := s.rd SERCFG.NBITS k
    let data := data % 2 ^ n
    if s.rd TAILCTL.MODE k = 4 then
      let ns_ := s.rd SERCHK.NSTAT k
      let stat := stat % 2 ^ ns_
      let s := s.cableMeasure k trt
      let sum := crc6 (msbBits n data ++ msbBits ns_ stat)
      let ne := ns_ == 0 || bitAt stat (ns_ - 1)
      let nw := ns_ != 2 || bitAt stat 0
      if crc % 64 ≠ 63 - sum then s.frameFail k 4 (s.sampleAt k t)
      else if ¬ ne then s.frameFail k 7 (s.sampleAt k t)
      else s.frameGood k t data (data + 2 ^ 48 * stat + 2 ^ 52 * (cds % 2)) (!nw) (bitAt cds 0)
    else if s.rd TAILCTL.MODE k = 3 then
      if s.on SERCFG.LEAD0 k ∧ bitAt data (n - 1) then s.frameFail k 5 (s.sampleAt k t)
      else
        let s := if s.on SERCFG.LEAD0 k then s.cableMeasure k trt else s
        if s.on SERCHK.PAR k ∧ (popCount data n + crc % 2) % 2 = 1 then s.frameFail k 4 (s.sampleAt k t)
        else s.frameGood k t (if s.on SERCFG.GRAY k then unGray n data else data) (data + 2 ^ 48 * (crc % 2)) false (s.on POSSTAT.CDS k)
    else s

/-! ### Timed steps -/

/-- VEL_DECAY_UPDATE: at whole µs of TB17 the speed between edges decays (R236). -/
def State.velDecay (s : State) (k : Nat) : State :=
  match (s.tailU k).edgeAt with
  | some e =>
    let v := s.vel k
    let since := s.now - e
    let cap : Nat := if since = 0 then 0 else 64000000000 * 65536 / since
    if s.fine 17 % 64000 ≠ 0 ∨ ¬ s.on TAILCTL.ARM k ∨ ¬ s.counting k ∨ s.on VELSTAT.STALE k ∨ since = 0 ∨ mag v ≤ cap then s
    else
      let due := decide ((s.tailU k).decayAt + us 10 ≤ s.now)
      let s := if due then (s.recAsk k).modTail k (fun h => { h with decayAt := s.now }) else s
      s.speed k (if v < 0 then -(cap : Int) else cap) false (s.on VELSTAT.LOWCONF k) (s.on VELSTAT.REV k) (s.on VELSTAT.DIR k) (s.rd VELSTAT.M k)
  | none => s

/-- SPEED_STALE_TIMEOUT: SSTO without a qualified edge, or without a change of POS from a serial encoder (R235, R237). -/
def State.speedStale (s : State) (k : Nat) : State :=
  let h := s.tailU k
  let ssto := us (s.rd VELCFG.SSTO k)
  if ¬ s.on TAILCTL.ARM k ∨ s.on VELSTAT.STALE k then s
  else if s.counting k then
    match h.edgeAt with
    | some e =>
      if s.now < e + ssto then s
      else
        let s := s.modTail k (fun h => { h with samp := [], diff := 0 })
        (s.speed k 0 true false false (s.on VELSTAT.DIR k) 0).raiseAt (6144 + 4 * k + 3) 0 (s.fineAt 0 e + ssto)
    | none => s
  else if s.serial k ∧ h.moveAt + ssto ≤ s.now then
    (s.speed k (s.vel k) true (s.on VELSTAT.LOWCONF k) (s.on VELSTAT.REV k) (s.on VELSTAT.DIR k) (s.rd VELSTAT.M k)).raiseAt (6144 + 4 * k + 3) 0 (s.fineAt 0 h.moveAt + ssto)
  else s

/-- The receiver pairs in use, as bits A·4 + B·2 + Z (R238). -/
def State.usedPairs (s : State) (k : Nat) : Nat :=
  match s.rd TAILCTL.MODE k with
  | 1 => if s.rd TAILCTL.ZMODE k = 0 then 6 else 7
  | 2 => 7
  | 3 => 2
  | 4 => 2
  | _ => 0

/-- LINE_BREAK_DETECT: the pairs of `mask` have been faulty for 2 µs (R238). -/
def State.lineBreak (s : State) (k mask : Nat) : State :=
  if ¬ s.on TAILCTL.ARM k ∨ ¬ s.on TAILCTL.DIFF k then s
  else
    let m := (s.rd TAILSTAT.LBRK k ||| mask) % 8
    let s := s.wr TAILSTAT.LBRK m k
    if m &&& s.usedPairs k = 0 then s else s.lossCond k 0 true s.now

/-- LINE_BREAK_CLEAR: the pairs of `mask` have been good for 10 µs; with every used pair good the condition clears (R238). -/
def State.lineGood (s : State) (k mask : Nat) : State :=
  if ¬ s.on TAILCTL.ARM k then s
  else
    let m := s.rd TAILSTAT.LBRK k &&& (7 - mask % 8)
    let s := s.wr TAILSTAT.LBRK m k
    if m &&& s.usedPairs k = 0 then s.lossCond k 0 false s.now else s

/-- FRESHNESS_TIMEOUT: no qualified edge for FRESH µs while a channel of the group runs outside its safe state (R238). -/
def State.freshLoss (s : State) (k : Nat) : State :=
  let h := s.tailU k
  let f := s.rd TAILCTL.FRESH k
  let j := s.rd LOSSCTL.GRP k
  let runs := (upFrom (8 * j) 8).any (fun n => s.chSt n == 2 && !s.on PWMSTAT.SAFE n)
  if s.on TAILCTL.ARM k ∧ s.counting k ∧ f ≠ 0 ∧ runs ∧ (h.edgeAt.getD h.armAt) + us f ≤ s.now then s.lossCond k 1 true s.now
  else s

/-- LOSS_GRACE_EXPIRY (R240). -/
def State.graceExpiry (s : State) (k : Nat) : State :=
  match (s.tailU k).grace with
  | some (e, j) => if e ≤ s.now ∧ s.on LOSSSTAT.LOSS k then (s.graceStop k).graceSafe k j e else s
  | none => s

/-- FLYING_SYNC_TIMEOUT (R242). -/
def State.flyTimeout (s : State) (k : Nat) : State :=
  if s.flyBusy k ∧ s.rd FSSTAT.STATE k = 1 ∧ (s.tailU k).fsAt - 1 + us (4 * s.rd FSCTL.FSTMO k) ≤ s.now then s.flyAbort k 1 else s

/-- BRAKE_TIMEOUT (R243): speed fallen to FSTHR by then starts the run instead. -/
def State.brakeTimeout (s : State) (k : Nat) : State :=
  let s := s.brakeSpeed k
  if s.flyBusy k ∧ s.rd FSSTAT.STATE k = 2 ∧ (s.tailU k).fsAt - 1 + ms (10 * s.rd FSCTL.FSBRK k) ≤ s.now then s.flyAbort k 3 else s

/-- TAIL_RECORD_WRITE: the 32-byte feedback record, no closer than RATE × 100 ns to the last (R234). -/
def State.tailRecord (s : State) (k : Nat) (err : Ecc) : State :=
  let h := s.tailU k
  if ¬ s.on TAILREC.EN k ∨ ¬ h.recDue ∨ ¬ h.recAt.all (fun a => decide (a + ns (100 * s.rd TAILREC.RATE k) ≤ s.now)) then s
  else
    let w (f : RField) : Nat := (s.reg (f.adr k 0)).toNat
    let ws := [w POSSEQ.WHOLE, w POSSTAT.WHOLE, w POS_LO.WHOLE, w POS_HI.WHOLE, w POSTS_LO.WHOLE, w POSTS_HI.WHOLE, w VEL_LO.WHOLE, w VEL_HI.WHOLE]
    let s := s.modTail k (fun h => { h with recDue := false, recAt := some s.now })
    if s.isolated (201 + k / 16) then s
    else (s.sramWriteBy (.mover (201 + k / 16)) (s.rd TAILREC.BASE k * 32) (wordsBytes ws) err).1

/-! ### Register writes -/

/-- A write of TAILCTL (R223, R224). -/
def State.tailctlWrite (s : State) (k : Nat) (w : Word) : State :=
  let was := s.on TAILCTL.ARM k
  let m := TAILCTL.MODE.of w
  let mode := if was then s.rd TAILCTL.MODE k else if 4 < m then 0 else m
  let s := (s.plainWrite (TAILCTL.WHOLE.adr k 0) w).wr TAILCTL.MODE mode k
  if s.on TAILCTL.ARM k ∧ ¬ was then
    let old := s.velFlags k
    let s := s.graceStop k
    let s := (s.wr64 POS_LO.VALUE POS_HI.VALUE 0 k).wr64 VEL_LO.VALUE VEL_HI.VALUE 0 k
    let s := s.wrs k [(POSSEQ.SEQ, 0), (VELSTAT.STALE, 1), (VELSTAT.LOWCONF, 0), (VELSTAT.REV, 0), (TAILSTAT.ARMED, 1), (TAILSTAT.LBRK, 0),
      (LOSSSTAT.LOSS, 0), (LOSSSTAT.CAUSES, 0), (POSSTAT.STALE, 0), (POSSTAT.FROZEN, 0), (POSSTAT.FAILRUN, 0), (CABLE.VALID, 0)]
    let sec := if mode = 2 then s.hallSector k (s.rd TAILSTAT.LEVEL k) else 7
    let sec := if 6 ≤ sec then 7 else sec
    let s := s.wr POSSTAT.SECTOR sec k
    let s := if s.velFlags k = old then s else s.recAsk k
    ((s.modTail k (fun h => { h with
        sector := sec, zSeen := false, zHit := none, samp := [], diff := 0, armAt := s.now, edgeAt := none,
        moveAt := s.now, vels := [], goAt := [], trigs := [], frame := none, last := none, same := 0, cond := 0,
        emuSamp := [] })).emuLook k).brakeSpeed k
  else if was ∧ ¬ s.on TAILCTL.ARM k then
    let s := (s.wrs k [(TAILSTAT.ARMED, 0), (TAILSTAT.BUSY, 0)]).modTail k (fun h => { h with goAt := [], trigs := [], frame := none })
    (s.sourceLost 2 k).emuLook k
  else s.emuLook k

/-- A write of FSTHR; a brake whose speed it exceeds ends (R243). -/
def State.fsthrWrite (s : State) (k : Nat) (w : Word) : State := (s.plainWrite (FSTHR.WHOLE.adr k 0) w).brakeSpeed k

def State.sercfgWrite (s : State) (k : Nat) (w : Word) : State :=
  let n := SERCFG.NBITS.of w
  let s := s.plainWrite (SERCFG.WHOLE.adr k 0) w
  s.wrs k [(SERCFG.NBITS, if n = 0 then 1 else if 48 < n then 48 else n), (SERCFG.STMAX, if SERCFG.STMAX.of w = 0 then 1 else SERCFG.STMAX.of w),
    (SERCFG.CLKP, if SERCFG.CLKP.of w < 100 then 100 else SERCFG.CLKP.of w)]

def State.serchkWrite (s : State) (k : Nat) (w : Word) : State :=
  let s := s.plainWrite (SERCHK.WHOLE.adr k 0) w
  s.wrs k [(SERCHK.FRZN, if SERCHK.FRZN.of w < 2 then 2 else SERCHK.FRZN.of w), (SERCHK.CRCMAX, if SERCHK.CRCMAX.of w = 0 then 1 else SERCHK.CRCMAX.of w),
    (SERCHK.NSTAT, if SERCHK.NSTAT.of w = 3 then 2 else SERCHK.NSTAT.of w)]

/-- A write of SERTRIG; GO is one trigger at arrival + 100 ns (R229). -/
def State.sertrigWrite (s : State) (k : Nat) (w : Word) : State :=
  let s := (s.plainWrite (SERTRIG.WHOLE.adr k 0) w).modTail k (fun h => { h with trigs := [], per := if SERTRIG.TSRC.of w = 1 then h.per else none })
  if SERTRIG.GO.of w = 1 ∧ s.on TAILCTL.ARM k then s.modTail k (fun h => { h with goAt := h.goAt ++ [s.now + ns 100] }) else s

def State.serperWrite (s : State) (k : Nat) (w : Word) : State :=
  s.wr SERPER.PER (if SERPER.PER.of w < 2000 then 2000 else SERPER.PER.of w) k

/-- A write of CABLE sets the mean (R232). -/
def State.cableWrite (s : State) (k : Nat) (w : Word) : State :=
  ((s.wr CABLE.DLY (CABLE.DLY.of w) k).modTail k (fun h => { h with delays := [] })).cableCm k

def State.cablecfgWrite (s : State) (k : Nat) (w : Word) : State :=
  ((s.plainWrite (CABLECFG.WHOLE.adr k 0) w).wr CABLECFG.VPROP (if CABLECFG.VPROP.of w < 20 then 20 else CABLECFG.VPROP.of w) k).cableCm k

def State.velcfgWrite (s : State) (k : Nat) (w : Word) : State :=
  s.wrs k [(VELCFG.SSTO, if VELCFG.SSTO.of w = 0 then 1 else VELCFG.SSTO.of w), (VELCFG.VWIN, if VELCFG.VWIN.of w = 0 then 1 else VELCFG.VWIN.of w)]

def State.tailrecWrite (s : State) (k : Nat) (w : Word) : State :=
  let s := (s.plainWrite (TAILREC.WHOLE.adr k 0) w).wr TAILREC.RATE (if TAILREC.RATE.of w = 0 then 1 else TAILREC.RATE.of w) k
  if s.on TAILREC.EN k then s else s.modTail k (fun h => { h with recDue := false })

/-- A write of LOSSCTL: an enable that changes is looked at, and the policy switched off ends a grace (R238, R240). -/
def State.lossctlWrite (s : State) (k : Nat) (w : Word) : State :=
  let s := (s.plainWrite (LOSSCTL.WHOLE.adr k 0) w).wr LOSSCTL.GRACE (satTo 10000 (LOSSCTL.GRACE.of w)) k
  let s := if LOSSCTL.EN.of w = 0 then s.graceStop k else s
  if s.on TAILCTL.ARM k then s.lossLook k s.now else s

/-- A write of FSCTL, ignored while a start is held (R244). -/
def State.fsctlWrite (s : State) (k : Nat) (w : Word) : State :=
  if s.flyBusy k then s
  else
    let s := s.plainWrite (FSCTL.WHOLE.adr k 0) w
    s.wrs k [(FSCTL.FSTMO, if FSCTL.FSTMO.of w = 0 then 1 else FSCTL.FSTMO.of w), (FSCTL.FSBRK, if FSCTL.FSBRK.of w = 0 then 1 else FSCTL.FSBRK.of w)]

/-- A write of EMUCTL (R245, R248): ignored where its channels do not exist; the outputs of the old setting are left. -/
def State.emuctlWrite (s : State) (k : Nat) (w : Word) : State :=
  if 1023 < EMUCTL.ACH.of w + 1 + EMUCTL.ZEN.of w then s
  else
    let s := (s.emuLines k).foldl (fun s l => if (s.ch l.2).pin.passTail then s.modPin l.2 (fun p => { p with passTail := false }) else s) s
    let s := s.plainWrite (EMUCTL.WHOLE.adr k 0) w
    let s := if s.rd EMUSTAT.PATH k = 1 then
        (s.emuLines k).foldl (fun s l => if s.emuOk l.2 then s.modPin l.2 (fun p => { p with passTail := true }) else s) s
      else s
    (s.emuPass k).emuLook k

/-- A write of EMUCTL from a source, dropped where it names a channel of a group the writer does not own (R77, R245). -/
def State.emuctlFrom (s : State) (src : Src) (k : Nat) (w : Word) : State :=
  let a := EMUCTL.WHOLE.adr k 0
  let c := EMUCTL.ACH.of w
  let names := [c / 8, (c + 1 + EMUCTL.ZEN.of w) / 8]
  match names.find? (fun g => !s.bridlePass g src) with
  | some g => if ¬ s.pw.gnd ∧ ¬ s.holds src a ∧ s.mayWrite src a ∧ g < 128 then s.authDropAs src src.code g a else s.authWrite src a w (·.emuctlWrite k w)
  | none => s.authWrite src a w (·.emuctlWrite k w)

def State.emudlyWrite (s : State) (k : Nat) (w : Word) : State :=
  s.wr EMUDLY.DLY (if EMUDLY.DLY.of w < 40 then 40 else EMUDLY.DLY.of w) k

/-- A SAFECLR while a tail's LOSS is 1 enters the safe state again 40 ns later (R240). -/
def State.safeAgain (s : State) (j : Nat) : State :=
  (upFrom 0 128).foldl (fun s k =>
    if s.on LOSSSTAT.LOSS k ∧ s.on LOSSCTL.EN k ∧ s.rd LOSSCTL.GRP k = j then s.graceSafe k j s.now else s) s

/-! ### The meanings -/

def execTailctlArmWrite (t : Nat) (src : Src) (k : Nat) (val : Word) (s : State) : Out :=
  s.ran (src.ok && decide (k < 128)) ((s.advance t).authWrite src (TAILCTL.WHOLE.adr k 0) val (·.tailctlWrite k val))

def execTailEdgeAccept (t k inst code : Nat) (s : State) : Out := s.ran (k < 128) ((s.advance t).tailEdge k inst code)

def execTailZEdge (t k inst : Nat) (lvl : Bool) (s : State) : Out := s.ran (k < 128) ((s.advance t).tailZ k inst lvl)

def execSertrigGo (t : Nat) (src : Src) (k : Nat) (val : Word) (s : State) : Out :=
  s.ran (src.ok && decide (k < 128)) ((s.advance t).authWrite src (SERTRIG.WHOLE.adr k 0) (val ||| 0x20000) (·.sertrigWrite k (val ||| 0x20000)))

def execSerialTrigger (t k : Nat) (ready : Bool) (s : State) : Out := s.ran (k < 128) ((s.advance t).serialTrigger k ready)

def execBissAckTimeout (t k : Nat) (s : State) : Out := s.ran (k < 128) ((s.advance t).ackTimeout k)

def execBissStartTimeout (t k trt : Nat) (s : State) : Out := s.ran (k < 128) ((s.advance t).startTimeout k trt)

def execSerialFrameDone (t k trt data stat crc cds : Nat) (s : State) : Out :=
  s.ran (k < 128) ((s.advance t).serialDone k trt data stat crc cds)

def execTailRecordWrite (t k : Nat) (err : Ecc) (s : State) : Out := s.ran (k < 128) ((s.advance t).tailRecord k err)

def execVelDecayUpdate (t k : Nat) (s : State) : Out := s.ran (k < 128) ((s.advance t).velDecay k)

def execSpeedStaleTimeout (t k : Nat) (s : State) : Out := s.ran (k < 128) ((s.advance t).speedStale k)

def execLineBreakDetect (t k mask : Nat) (s : State) : Out := s.ran (k < 128) ((s.advance t).lineBreak k mask)

def execLineBreakClear (t k mask : Nat) (s : State) : Out := s.ran (k < 128) ((s.advance t).lineGood k mask)

def execFreshnessTimeout (t k : Nat) (s : State) : Out := s.ran (k < 128) ((s.advance t).freshLoss k)

def execLossGraceExpiry (t k : Nat) (s : State) : Out := s.ran (k < 128) ((s.advance t).graceExpiry k)

def execFlyingSyncTimeout (t k : Nat) (s : State) : Out := s.ran (k < 128) ((s.advance t).flyTimeout k)

def execBrakeTimeout (t k : Nat) (s : State) : Out := s.ran (k < 128) ((s.advance t).brakeTimeout k)

def execEmuEdgeCommit (t k : Nat) (s : State) : Out := s.ran (k < 128) ((s.advance t).emuCommit k)

def execEmuPathChange (t k : Nat) (s : State) : Out := s.ran (k < 128) ((s.advance t).emuPathChange k)

end Sys2Proof.Machine
end

