-- ==== Sys2Proof/Machine/Runs.lean ====
section
/-! DEFINITION. Steps of the channels that reach into other units: run starts with their flying-start classification,
period boundaries with the threshold ramps, and the writes a tail or a spool follows (R157, R160, R207, R240 to R243,
R257). -/
namespace Sys2Proof.Machine
open Reg

/-- The start of channel `n` whose S has come: a trigger or another start (R160, R161). -/
def State.dueStart (s : State) (n : Nat) : Option (Start × Bool) :=
  let r := (s.ch n).run
  let due (st : Start) : Bool := decide (st.s ≤ s.etbNow n) && !st.held
  match r.trig, r.start with
  | some st, other =>
    match other with
    | some o => if due o ∧ o.s ≤ st.s then some (o, false) else if due st then some (st, true) else none
    | none => if due st then some (st, true) else none
  | none, some o => if due o then some (o, false) else none
  | none, none => none

/-- A start that is not to happen: the channel returns to the state it held before, a triggered one to ARMED (R241, R243). -/
def State.refuseStart (s : State) (n : Nat) (st : Start) (trig : Bool) : State :=
  (s.modRun n (fun r => if trig then { r with trig := none } else { r with start := none })).wr CHSTAT.STATE (if trig then 1 else st.prev) n

/-- A start that a flying start holds (R242). -/
def State.holdStart (s : State) (n : Nat) (st : Start) : State :=
  (s.modRun n (fun r => { r with trig := none, start := some { st with held := true } })).wr CHSTAT.STATE 4 n

/-- What a class of start does with the start (R241 to R243). -/
def State.flyApply (s : State) (k n cls : Nat) (st : Start) (trig : Bool) : State :=
  if cls = 1 then s.runGo n st trig
  else if cls = 2 ∨ (cls = 3 ∧ s.on FSCTL.BRAKE k) then s.holdStart n st
  else s.refuseStart n st trig

/-- A run start of channel `n`: at S the tail of the group, if there is one, classifies it (R160, R241). A trigger that
starts nothing, and a restart, are not classified. -/
def State.flyGo (s : State) (n : Nat) (st : Start) (trig : Bool) : State :=
  match s.flyTail n with
  | none => s.runGo n st trig
  | some k =>
    if ¬ s.starts n trig ∨ st.pass then s.runGo n st trig
    else
      let at_ := s.whenTb (s.etb n) st.s
      let j := s.rd FSCTL.GRP k
      let same := (s.tailU k).fsAt = at_ + 1
      if same then s.flyApply k n (s.rd FSSTAT.CLASS k) st trig
      else if s.flyBusy k then s.refuseStart n st trig
      else
        let cls := s.flyClass k
        let s := ((s.wr FSSTAT.CLASS cls k).inc FSSTAT.COUNT 1 k).modTail k (fun h => { h with fsAt := at_ + 1 })
        let s := s.wr FSSTAT.STATE (if cls = 2 then 1 else if cls = 3 ∧ s.on FSCTL.BRAKE k then 2 else 0) k
        let s := s.flyApply k n cls st trig
        let s := if cls = 3 ∧ s.on FSCTL.BRAKE k then
            (upFrom (8 * j) 8).foldl (fun s c => s.sync3 c) (s.modGr j (fun g => { g with brake := true })) else s
        match cls with
        | 2 => s.flyFault k 0x12 (s.rd POSSEQ.SEQ k % 65536)
        | 3 => s.flyFault k (if s.on FSCTL.BRAKE k then 0x14 else 0x11) (s.velMs k)
        | 4 => s.flyFault k 0x13 2
        | _ => s

/-- RUN_START: a start whose S has come (R160). -/
def State.flyStart (s : State) (n : Nat) : State :=
  match s.dueStart n with
  | some (st, trig) => s.flyGo n st trig
  | none => s

/-- The ramps restart where a period of channel `n` has begun (R207). -/
def State.rampLook (old s : State) (n : Nat) : State :=
  let a := (old.ch n).run
  let b := (s.ch n).run
  if s.chSt n = 2 ∧ (a.pk ≠ b.pk ∨ a.k ≠ b.k ∨ old.chSt n ≠ 2) then s.rampRestart n else s

/-- Whether a CHCTL word asks for GO and no stronger order (R156). -/
def goWord (w : Word) : Bool := CHCTL.GO.of w == 1 && CHCTL.STOP.of w == 0 && CHCTL.STOPNOW.of w == 0

/-- A write of CHCTL: a GO to a held channel lets the held channels start together, and another start request to the
held group is ignored (R156, R242). -/
def State.chctlFull (s : State) (n : Nat) (w : Word) : State :=
  match (if goWord w then s.flyTail n else none) with
  | some k =>
    if s.flyBusy k then
      let s' := s.chctlWrite n (w &&& 0x3FFFFFFF)
      if s.rd FSSTAT.STATE k = 1 ∧ (s.ch (s.leader n)).run.start.any (·.held) then s'.flyRelease k else s'
    else s.chctlWrite n w
  | none => s.chctlWrite n w

/-- A write of CAPCTL: a spool on this channel loses its source with EN (R164, R257). -/
def State.capctlFull (s : State) (n : Nat) (w : Word) : State :=
  let was := s.on CAPCTL.EN n
  let s := s.capctlWrite n w
  if was ∧ ¬ s.on CAPCTL.EN n then s.sourceLost 1 n else s

/-- A write of SAFECTL: a SAFECLR that takes effect while a tail of the group has lost its feedback enters the safe
state again (R200, R240). -/
def State.safectlFull (s : State) (j : Nat) (w : Word) : State :=
  let was := s.on SAFESTAT.ACTIVE j
  let s := s.safectlWrite j w
  if was ∧ ¬ s.on SAFESTAT.ACTIVE j then s.safeAgain j else s

/-! ### The meanings -/

def execCounterPeriodBoundary (t n : Nat) (s : State) : Out :=
  let s := s.advance t
  s.ran (n < 1024) (s.rampLook (s.boundary n) n)

def execRunStart (t n : Nat) (s : State) : Out :=
  let s := s.advance t
  s.ran (n < 1024) (s.rampLook (s.flyStart n) n)

def execChctlGo (t : Nat) (src : Src) (n : Nat) (val : Word) (s : State) : Out :=
  s.ran (src.ok && decide (n < 1024)) ((s.advance t).authWrite src (CHCTL.WHOLE.adr n 0) (val ||| 0x80000000) (·.chctlFull n (val ||| 0x80000000)))

def execChctlArm (t : Nat) (src : Src) (n : Nat) (val : Word) (s : State) : Out :=
  s.ran (src.ok && decide (n < 1024)) ((s.advance t).authWrite src (CHCTL.WHOLE.adr n 0) (val ||| 0x40000000) (·.chctlFull n (val ||| 0x40000000)))

def execChctlStop (t : Nat) (src : Src) (n : Nat) (val : Word) (s : State) : Out :=
  s.ran (src.ok && decide (n < 1024)) ((s.advance t).authWrite src (CHCTL.WHOLE.adr n 0) (val ||| 0x20000000) (·.chctlFull n (val ||| 0x20000000)))

def execChctlStopnow (t : Nat) (src : Src) (n : Nat) (val : Word) (s : State) : Out :=
  s.ran (src.ok && decide (n < 1024)) ((s.advance t).authWrite src (CHCTL.WHOLE.adr n 0) (val ||| 0x10000000) (·.chctlFull n (val ||| 0x10000000)))

def execCapctlWrite (t : Nat) (src : Src) (n : Nat) (val : Word) (s : State) : Out :=
  s.ran (src.ok && decide (n < 1024)) ((s.advance t).authWrite src (CAPCTL.WHOLE.adr n 0) val (·.capctlFull n val))

def execSafectlSafego (t : Nat) (src : Src) (j : Nat) (val : Word) (s : State) : Out :=
  s.ran (src.ok && decide (j < 128)) ((s.advance t).authWrite src (SAFECTL.WHOLE.adr j 0) (val ||| 0x80000000) (·.safectlFull j (val ||| 0x80000000)))

def execSafectlSafeclr (t : Nat) (src : Src) (j : Nat) (val : Word) (s : State) : Out :=
  s.ran (src.ok && decide (j < 128)) ((s.advance t).authWrite src (SAFECTL.WHOLE.adr j 0) (val ||| 0x40000000) (·.safectlFull j (val ||| 0x40000000)))

end Sys2Proof.Machine
end

