-- ==== Sys2Proof/Machine/Time.lean ====
section
/-! DEFINITION. The time spine: beacons, loads, slews, slaved timebases, the discipline of TB0 and the global start
(R28, R29, R43 to R60). -/
namespace Sys2Proof.Machine
open Reg

/-! ### Registers of a timebase -/

/-- A change reaches the timebase block now (R46). -/
def State.tbAsk (s : State) (k : Nat) (a : TbAsk) : State := s.modTb k (fun b => { b with asks := b.asks ++ [(s.now, a)] })

/-- The control values of a timebase as its registers hold them ask for the next beacon (R46). -/
def State.tbCtl (s : State) (k : Nat) : State :=
  s.tbAsk k (.ctl (s.on TBCTL.RUN k) (s.rd TBCTL.MODE k) (s.rd TBCTL.SPOOL k) (s.rd RATESET.RATE k) (s.rd SLEWMAX.PPM k) (s.rd TICKNS.NSPT k))

/-- A write of TBCTL (R47, R50 to R52). -/
def State.tbctlWrite (s : State) (k : Nat) (w : Word) : State :=
  if 17 ≤ k then s
  else
    let s := if k = 0 then s.wr TBCTL.SPOOL (TBCTL.SPOOL.of w) 0
      else
        let m := TBCTL.MODE.of w
        let m := if m = 3 then s.rd TBCTL.MODE k else m
        (s.wrs k [(TBCTL.MODE, m), (TBCTL.SPOOL, TBCTL.SPOOL.of w), (TBCTL.RUN, TBCTL.RUN.of w)]).tbCtl k
    let s := if TBCTL.LOADGO.of w = 1 then
        s.tbAsk k (.load (64 * s.rd64 LOAD_LO.VALUE LOAD_HI.VALUE k + s.rd LOADFRAC.FRAC k) (TBCTL.LOADFORCE.of w == 1))
      else s
    if TBCTL.SLEWABORT.of w = 1 then s.tbAsk k .abort else s

/-- A write of RATESET, SLEWMAX or TICKNS (R47, R52). -/
def State.tbSetWrite (s : State) (k : Nat) (f : RField) (v : Nat) : State :=
  if 17 ≤ k then s else (s.wr f v k).tbCtl k

def State.slewmaxWrite (s : State) (k : Nat) (w : Word) : State :=
  let p := SLEWMAX.PPM.of w
  s.tbSetWrite k SLEWMAX.PPM (if p = 0 then 1 else if 1000 < p then 1000 else p)

/-- A write of SLEWOFF adds to what is to be slewed (R52). -/
def State.slewoffWrite (s : State) (k : Nat) (w : Word) : State :=
  if 17 ≤ k then s else s.tbAsk k (.slew (toSigned 32 w.toNat * (2 ^ 30 : Nat)))

/-- The offsets asked for before the first abort among the changes that wait. -/
def slewsUntilAbort : List (Nat × TbAsk) → Int
  | [] => 0
  | (_, .abort) :: _ => 0
  | (_, .slew d) :: l => d + slewsUntilAbort l
  | _ :: l => slewsUntilAbort l

/-- The offsets asked for after the last abort: `d` is what came so far. -/
def slewsAfterAbort (d : Int) : List (Nat × TbAsk) → Int
  | [] => d
  | (_, .abort) :: l => slewsAfterAbort 0 l
  | (_, .slew x) :: l => slewsAfterAbort (d + x) l
  | _ :: l => slewsAfterAbort d l

/-- SLEWREM: what remains, with what was asked since; until an abort's beacon the remainder as of the abort (R52). -/
def State.slewRem (s : State) (k : Nat) : Nat :=
  let b := s.tbH k
  ofSigned 32 ((b.rem + slewsUntilAbort b.asks) / (2 ^ 30 : Nat))

/-- NS_LO_READ: the low count word, with FRAC of the same instant latched (R47). -/
def State.nsLoRead (s : State) (k : Nat) : State :=
  let v := s.fine k
  (s.wr FRAC.FRAC v k).answerWord (v / 64 % 2 ^ 32)

/-! ### The beacon (R46 to R54) -/

/-- Whether the device takes TB0 from the tether as a cascade member (R51, R309): it is no master, and is admitted or has
an upstream port. -/
def State.member (s : State) : Bool := (s.on TSTAT.ADMITTED || s.on TSTAT.UPV) && !s.on TSTAT.MASTER

/-- A timebase continues from `val` at a rate, with `gain` over this µs; a stretch that only continues is kept. -/
def State.tbGo (s : State) (k val rate : Nat) (gain : Int) : State :=
  s.modTb k (fun b =>
    match b.segs with
    | g :: _ => if g.rate = rate ∧ g.gain = 0 ∧ gain = 0 ∧ g.at s.now = val then b
      else { b with segs := (⟨s.now, val, rate, gain⟩ :: b.segs).take 80 }
    | [] => if rate = 0 ∧ val = 0 then b else { b with segs := [⟨s.now, val, rate, gain⟩] })

/-- The micro-tick count of a spool now, in 2⁻¹⁶ micro-ticks (R54). -/
def State.spTicks (s : State) (sp : Nat) : Nat := (s.spU sp).fineAt (s.fine 0)

/-- A load is applied, or refused with LOADREF (R50, R51): the value TBk then has, from which a slaved one counts on. -/
def State.tbLoad (s : State) (k v : Nat) (force : Bool) : State × Nat :=
  let cur := s.tbVal k s.now
  let ok := if k = 0 then !s.on GSTARTSTAT.EVER && !s.member else force || (s.edgesOn k).isEmpty
  if ¬ ok then (s.wr TBSTAT.LOADREF 1 k, cur)
  else
    let val : Nat := v * 2 ^ 30 % 2 ^ 100
    let s := s.modTb k (fun b => { b with rem := 0, slew := false, anchVal := val, anchTick := s.spTicks b.spool })
    (if cur < val then s.stepEdges k v else s, val)

/-- A phase step of TB0, made only while no release has taken place (R44, R56). -/
def State.tbStep (s : State) (val : Nat) (d : Int) : State × Nat :=
  let v := (((val : Int) + d * (2 ^ 30 : Nat)) % (2 ^ 100 : Nat)).toNat
  (if val < v then s.stepEdges 0 (v / 2 ^ 30) else s, v)

/-- Where a slaved timebase would stand by its spool's count, with what slews have moved it (R52, R54). -/
def State.slavedAt (s : State) (k : Nat) : Int :=
  let b := s.tbH k
  b.anchVal + ((s.spTicks b.spool : Int) - b.anchTick) * b.nspt * 16

/-- Where a slaved timebase stands at this beacon, and its rate for the next µs; 0 holds it (R54). -/
def State.slaved (s : State) (k val : Nat) : Nat × Nat :=
  let b := s.tbH k
  if b.lost ∨ s.rd SPSTAT.STATE b.spool ≠ 3 then (val, 0)
  else
    let want := s.slavedAt k
    let p := (s.spU b.spool).pieces.getLast?.getD ⟨0, 0, 0, 1⟩
    if want < val then (val, 0)
    else (want.toNat, if p.num = 0 then 0 else b.nspt * 16 * p.den / p.num)

/-- The rate by mode before slewing, and the value from which it runs (R48). A rate beyond the two integer bits of RATE is
the timebase's all the same, and RATE shows its low 32 bits (DESIGN CHOICE, notes/assumptions/142.md). -/
def State.tbBase (s : State) (k val : Nat) : Nat × Nat :=
  let b := s.tbH k
  if k = 0 then (val, s.disc.rate)
  else if ¬ b.run then (val, 0)
  else match b.mode with
    | 0 => (val, b.rateset)
    | 1 => (val, s.rateOf 0 * b.rateset / 2 ^ 30)
    | _ => s.slaved k val

/-- The slew at a beacon (R47, R52): the rate of this µs with what it adds beyond that rate's steps, and what it adds in
all: the full step, or exactly the remainder in the last µs. -/
def slewStep (base ppm : Nat) (rem : Int) : Nat × Int × Int :=
  let d := base * ppm / 1000000
  if rem = 0 ∨ base = 0 then (base, 0, 0)
  else if mag rem ≤ d * 64000 then (((base : Int) + rem / 64000).toNat, rem % 64000, rem)
  else if 0 < rem then (base + d, 0, ((d * 64000 : Nat) : Int))
  else (base - d, 0, -((d * 64000 : Nat) : Int))

/-- New control values take effect (R46). A slaved timebase counts on from where it stands: from its own value where SLAVED
mode, its spool or RUN is new, from the spool's count where TICKNS changes. SLAVED mode entered while the spool has no sync
waits as after a loss (DESIGN CHOICE, notes/assumptions/143.md). -/
def State.tbApply (s : State) (k val : Nat) (run : Bool) (mode spool rateset ppm nspt : Nat) : State :=
  let c := s.tbH k
  let s := if mode ≠ 2 then s
    else if c.mode ≠ 2 ∨ c.spool ≠ spool then
      s.modTb k (fun b => { b with anchVal := val, anchTick := s.spTicks spool, lost := !s.spLive spool })
    else if run ∧ ¬ c.run then s.modTb k (fun b => { b with anchVal := val, anchTick := s.spTicks spool })
    else if nspt ≠ c.nspt then s.modTb k (fun b => { b with anchVal := s.slavedAt k, anchTick := s.spTicks spool })
    else s
  s.modTb k (fun b => { b with run := run, mode := mode, spool := spool, rateset := rateset, ppm := ppm, nspt := nspt })

/-- The last load, control change and step among the changes due. -/
def lastLoad (l : List (Nat × TbAsk)) : Option (Nat × Bool) :=
  l.foldl (fun x a => match a.2 with | .load v f => some (v, f) | _ => x) none

def lastStep (l : List (Nat × TbAsk)) : Option Int :=
  l.foldl (fun x a => match a.2 with | .step d => some d | _ => x) none

def lastCtl (l : List (Nat × TbAsk)) : Option TbAsk :=
  l.foldl (fun x a => match a.2 with | .ctl _ _ _ _ _ _ => some a.2 | _ => x) none

/-- A beacon at timebase `k` (R46): the slew's step is booked, the changes that came before this instant take effect, and
the next µs is laid out. -/
def State.tbBeacon (s : State) (k : Nat) : State :=
  let due := (s.tbH k).asks.filter (fun a => decide (a.1 < s.now))
  let s := s.modTb k (fun b =>
    { b with rem := b.rem - b.mov, anchVal := b.anchVal + b.mov, mov := 0, asks := b.asks.filter (fun a => !decide (a.1 < s.now)) })
  let s := if due.any (fun a => a.2 == .abort) then s.modTb k (fun b => { b with rem := 0, slew := false }) else s
  let (s, val) := match lastLoad due with
    | some (v, f) => s.tbLoad k v f
    | none => (s, s.tbVal k s.now)
  let ask := slewsAfterAbort 0 due
  let (s, val, ask) := match lastStep due with
    | none => (s, val, ask)
    | some d =>
      if s.on GSTARTSTAT.EVER then (s, val, ask + d * (2 ^ 30 : Nat))
      else let (s, v) := s.tbStep val d; (s, v, ask)
  let c := s.tbH k
  let total := c.rem + ask
  let s := if c.slew ∧ total = 0 then (s.modTb k (fun b => { b with slew := false })).raise 7687 k else s
  let lim : Int := (2 ^ 61 : Nat)
  let (total, s) := if -lim ≤ total ∧ total < lim then (total, s)
    else let (v, s) := s.fresh; (toSigned 32 v * (2 ^ 30 : Nat), s)
  let s := match lastCtl due with
    | some (.ctl run mode spool rateset ppm nspt) => s.tbApply k val run mode spool rateset ppm nspt
    | _ => s
  let s := s.modTb k (fun b => { b with rem := total, slew := decide (total ≠ 0) })
  let (val, base) := s.tbBase k val
  let c := s.tbH k
  let s := if k = 0 then s else s.wr TBSTAT.HOLD (b2n (c.run && c.mode == 2 && base == 0)) k
  let (rate, gain, mov) := slewStep base c.ppm c.rem
  (s.modTb k (fun b => { b with mov := mov })).tbGo k val rate gain

/-- Whether an event takes its timestamp from the reader with a port ID and a local index within its agent (R15, R29):
the channel, tail or spool of the index; the other agents count as one reader each. -/
def State.readerOf (s : State) (ev : Ev) (port idx : Nat) : Bool :=
  s.evPort ev == some port &&
    (if ev.id < 6144 then ev.id / 6 % 16 == idx
    else if ev.id < 6656 then (ev.id - 6144) / 4 % 16 == idx
    else if ev.id < 6784 then (ev.id - 6656) / 4 == idx
    else true)

/-- A mismatching reader is reported, and the timestamps it took since its last match are questionable (R29): those of
events held until calibration or in the wake log, in routers, under way to task inputs, held there or in a snapshot of
`evtake`, in items that wait at the tether's ports, and in records that wait in the queue engine, and those of the
converters' samples under way (R214). -/
def State.spineFault (s : State) (m : Mismatch) : State :=
  let s := (s.wr SPINESTAT.FAULT 1).raise 7681 (satTo 255 m.units * 2 ^ 24 + m.port * 2 ^ 16 + m.idx)
  let hit (e : Ev) : Bool := s.readerOf e m.port m.idx && decide (s.lastBeacon ≤ e.ts)
  let mark (e : Ev) : Ev := if hit e then { e with tq := true } else e
  let ent (e : InEnt) : InEnt := if hit ⟨e.id, e.ts, 0, false, false⟩ then { e with tq := true } else e
  let snap (ws : List Nat) : List Nat :=
    let one (ws : List Nat) (i j : Nat) : List Nat :=
      if bitAt (ws.getD j 0) 15 ∧ hit ⟨ws.getD j 0 % 2 ^ 13, ws.getD i 0 + 2 ^ 32 * ws.getD (i + 1) 0, 0, false, false⟩ then
        setAt (setAt ws j (putBit (ws.getD j 0) 14 true)) 0 (putBit (ws.getD 0 0) 6 true)
      else ws
    one (one ws 2 6) 4 7
  let item (x : TxItem) : TxItem :=
    match x.msg.item with
    | .event y q i ts d tq c => { x with msg := { x.msg with item := .event y q i ts d (tq || hit ⟨i, ts, d, false, false⟩) c } }
    | _ => x
  let conv (ws : List Nat) : List Nat :=
    if m.port = 210 ∧ s.lastBeacon ≤ ws.getD 0 0 + 2 ^ 32 * ws.getD 1 0 then setAt ws 3 (putBit (ws.getD 3 0) 25 true) else ws
  let smp (l : List Sample) : List Sample := l.map (fun x => { x with words := conv x.words })
  let rec_ (r : QRec) : QRec :=
    if r.kind = RecKind.event ∧ hit ⟨bitsAt (r.words.getD 3 0) 16 13, r.ts, r.words.getD 2 0, false, false⟩ then
      { r with words := setAt r.words 3 (putBit (r.words.getD 3 0) 15 true) }
    else if r.kind = RecKind.sample then { r with words := conv r.words } else r
  let r := if m.port < 68 then m.port else 68
  let s := s.modRouter r (fun x => { x with fifo := x.fifo.map (fun e => (mark e.1, e.2)) })
  let s := { s with pw := { s.pw with log := s.pw.log.map mark }, fab := { s.fab with deferred := s.fab.deferred.map mark } }
  let s := { s with slot := s.slot.map (fun (x : Nat × TSlot) => (x.1, { x.2 with snap := x.2.snap.map (fun (y : Nat × List Nat) => (y.1, snap y.2)) })) }
  let s := { s with tp := s.tp.map (fun (x : Nat × TpH) => (x.1, { x.2 with buf := x.2.buf.map item })) }
  let s := { s with
      tin := s.tin.map (fun (x : Nat × TIn) => (x.1, { x.2 with a := x.2.a.map ent, b := x.2.b.map ent })),
      qrec := s.qrec.map rec_, sar := s.sar.map (fun (x : Nat × SarU) => (x.1, { x.2 with recs := smp x.2.recs })),
      sd := s.sd.map (fun (x : Nat × SdU) => (x.1, { x.2 with recs := smp x.2.recs })) }
  { s with fab := { s.fab with arrivals := s.fab.arrivals.map (fun a => { a with ev := mark a.ev }) } }

/-! ### Discipline (R55 to R57) -/

/-- Whether a source, coded as SRC, is qualified. -/
def State.srcOk (s : State) (src : Nat) : Bool :=
  match src with
  | 1 => s.on DISCSTAT.REFOK
  | 2 => s.on DISCSTAT.PPSOK
  | 3 => s.on DISCSTAT.REFOK && s.on DISCSTAT.PPSOK
  | 4 => s.on DISCSTAT.TETHOK
  | _ => false

/-- The source SRC selects now, 0 where none is qualified (R57). -/
def State.srcPick (s : State) : Nat :=
  let src := if s.member then 4 else s.rd DISCCTL.SRC
  if src = 7 then ([4, 3, 2, 1].find? s.srcOk).getD 0 else if s.srcOk src then src else 0

/-- The mean of RATE over the last 16 s in LOCKED (R55). -/
def meanRate (now : Nat) : List (Nat × Nat) → Nat → Nat → Nat → Nat
  | [], _, sum, w => if w = 0 then 0 else sum / w
  | (a, r) :: l, upto, sum, w =>
    let lo := if a + ms 16000 < now then now - ms 16000 else a
    let d := upto - lo
    if a + ms 16000 < now then (if w + d = 0 then 0 else (sum + r * d) / (w + d)) else meanRate now l a (sum + r * d) (w + d)

/-- The loop enters ACQUIRE with a source. -/
def State.discAcquire (s : State) (src : Nat) : State :=
  let s := (s.wr DISCSTAT.STATE 1).wr DISCSTAT.SRCACT src
  { s with disc := { s.disc with phaseGood := 0, phaseBad := 0, stepped := false, rateAt := s.now } }

/-- The phase corrections of the loop end: a step that waits, and its slew (R55). -/
def State.discQuiet (s : State) : State :=
  let s := s.modTb 0 (fun b => { b with asks := b.asks.filter (fun a => match a.2 with | .step _ => false | _ => true) })
  if s.disc.slewing then
    { (s.modTb 0 (fun b => { b with asks := b.asks.filter (fun a => match a.2 with | .slew _ => false | _ => true) ++ [(s.now, .abort)] })) with
      disc := { s.disc with slewing := false } }
  else s

/-- The loop leaves its source (R55): LOCKED and a loop locked before go to HOLDOVER at the mean of the last 16 s in LOCKED,
another one to FREE. -/
def State.discLose (s : State) (range : Bool) : State :=
  let st := s.rd DISCSTAT.STATE
  let src := s.rd DISCSTAT.SRCACT
  if st = 2 then
    let m := meanRate s.now s.disc.hist s.now 0 0
    let m := if m = 0 then s.disc.rate else m
    let s := { s with disc := { s.disc with rate := m, mean := m, hist := [], phaseGood := 0, phaseBad := 0 } }.discQuiet
    ((s.wr DISCSTAT.STATE 3).wr DISCSTAT.SRCACT 0).raise 7685 (b2n range * 8 + src)
  else if st = 1 then
    let s := { s with disc := { s.disc with phaseGood := 0, phaseBad := 0 } }.discQuiet
    let s := if s.disc.everLocked ∧ s.disc.mean ≠ 0 then { s with disc := { s.disc with rate := s.disc.mean } } else s
    (s.wr DISCSTAT.STATE (if s.disc.everLocked then 3 else 0)).wr DISCSTAT.SRCACT 0
  else s

/-- The loop reaches LOCKED (R55). -/
def State.discLock (s : State) : State :=
  let s := { s with disc := { s.disc with everLocked := true, phaseBad := 0, hist := [(s.now, s.disc.rate)] } }
  (s.wr DISCSTAT.STATE 2).raise 7684 (s.rd DISCSTAT.SRCACT)

/-- The sources are looked at again: one lost is left, and a source that is qualified is acquired; a change of source
passes through HOLDOVER and ACQUIRE (R55, R57). -/
def State.discLook (s : State) : State :=
  let st := s.rd DISCSTAT.STATE
  let act := s.rd DISCSTAT.SRCACT
  let want := s.srcPick
  let s := if (st = 1 ∨ st = 2) ∧ want ≠ act then s.discLose false else s
  let st := s.rd DISCSTAT.STATE
  if (st = 0 ∨ st = 3) ∧ want ≠ 0 then s.discAcquire want else s

/-- A write of DISCCTL (R55, R57). -/
def State.discctlWrite (s : State) (w : Word) : State :=
  let v := DISCCTL.SRC.of w
  let s := s.wrs 0 [(DISCCTL.PPSOUTEN, DISCCTL.PPSOUTEN.of w), (DISCCTL.PPSPOL, DISCCTL.PPSPOL.of w), (DISCCTL.BW, DISCCTL.BW.of w),
    (DISCCTL.REFFREQ, if DISCCTL.REFFREQ.of w = 3 then s.rd DISCCTL.REFFREQ else DISCCTL.REFFREQ.of w)]
  if s.member ∨ v = 5 ∨ v = 6 then s
  else
    let s := s.wr DISCCTL.SRC v
    if v = 0 then
      let s := { s with disc := { s.disc with everLocked := false, hist := [], mean := 0, phaseGood := 0, phaseBad := 0 } }.discQuiet
      (s.wr DISCSTAT.STATE 0).wr DISCSTAT.SRCACT 0
    else
      let s := { s with disc := { s.disc with everLocked := false } }.discLook
      { s with disc := { s.disc with everLocked := s.rd DISCSTAT.STATE == 2 } }

/-- A steer beyond ±200 ppm is refused; LOCKED leaves for HOLDOVER (R55). -/
def State.discRange (s : State) : State :=
  let s := s.wr DISCSTAT.RANGE 1
  if s.rd DISCSTAT.STATE = 2 then s.discLose true else s

/-- The loop's frequency correction (R55, R56): while a source steers, RATE moves by at most 1 ppm per second; what the
loop filter asks within that is left open. A steer beyond ±200 ppm is refused. -/
def State.discRate (s : State) : State :=
  let st := s.rd DISCSTAT.STATE
  let lim := 1073 * (s.now - s.disc.rateAt) / ms 1000
  if (st = 1 ∨ st = 2) ∧ s.disc.rateAt ≠ 0 ∧ 0 < lim then
    let (v, s) := s.fresh
    let r := s.disc.rate - lim + v % (2 * lim + 1)
    if 214748 < absDiff r 0x40000000 then { s with disc := { s.disc with rateAt := s.now } }.discRange
    else { s with disc := { s.disc with rate := r, rateAt := s.now, hist := if st = 2 then (s.now, r) :: s.disc.hist else s.disc.hist } }
  else s

/-- SPINE_BEACON (R46): the replicas are checked and every timebase takes its changes, TB0 first. -/
def State.beacon (s : State) (bad : List Mismatch) : State :=
  if s.spine.isNone ∨ s.fine 17 % 64000 ≠ 0 then s
  else
    let s := s.discRate
    let s := (upFrom 0 17).foldl (fun s k => s.tbBeacon k) s
    let s := s.mclkBeacon
    let s := bad.foldl (fun s m => s.spineFault m) s
    { s with lastBeacon := s.fine 0 }

/-- The loop slews TB0 by −`err`: what it asks takes the place of every slew of TB0 that runs or waits, the host's included
(DESIGN CHOICE, notes/assumptions/144.md). -/
def State.discSlew (s : State) (err : Int) : State :=
  let s := s.modTb 0 (fun b => { b with asks := b.asks.filter (fun a => match a.2 with | .slew _ => false | .abort => false | _ => true) })
  { ((s.tbAsk 0 .abort).tbAsk 0 (.slew (-err * (2 ^ 30 : Nat)))) with disc := { s.disc with slewing := true } }

/-- A phase sample in 1/64 ns, TB0 minus the reference (R55, R56): it is published, counts towards LOCKED or its loss,
and is corrected by one step or by a slew; the source that lost LOCKED by it is qualified anew. -/
def State.discPhase (s : State) (err : Int) (good need : Nat) : State :=
  let s := s.wr PHASEERR.ERR (ofSigned 32 (satSigned 32 err))
  let st := s.rd DISCSTAT.STATE
  let big := decide (us 1 < mag err)
  if st = 1 then
    let n := if mag err ≤ good then s.disc.phaseGood + 1 else 0
    let s := { s with disc := { s.disc with phaseGood := n } }
    if need ≤ n then (s.discSlew err).discLock
    else if big ∧ ¬ s.on GSTARTSTAT.EVER ∧ ¬ s.disc.stepped then
      { (s.tbAsk 0 (.step (-err))) with disc := { s.disc with stepped := true } }
    else s.discSlew err
  else if st = 2 then
    if big then
      let s := { s with disc := { s.disc with phaseBad := s.disc.phaseBad + 1 } }
      if 3 ≤ s.disc.phaseBad then (({ s with disc := { s.disc with ppsGood := 0 } } : State).wr DISCSTAT.PPSOK 0).discLose false else s
    else { s with disc := { s.disc with phaseBad := 0 } }.discSlew err
  else s

/-- TB0 minus the nearest whole second, in 1/64 ns. -/
def State.secPhase (s : State) : Int :=
  let m := s.fine 0 % 64000000000
  if m < 32000000000 then (m : Int) else (m : Int) - 64000000000

/-- PPS_PULSE: a pulse at PPSIN, timed on TB17 (R55). -/
def State.ppsPulse (s : State) : State :=
  let d := s.disc
  let iv := d.lastPps.map (fun a => s.now - a)
  let sec := ms 1000
  let ok := iv.any (fun x => decide (absDiff x sec ≤ us 1000))
  let st := s.rd DISCSTAT.STATE
  let act := s.rd DISCSTAT.SRCACT
  let locked := st = 2 ∧ (act = 2 ∨ act = 3)
  let s := { s with disc := { d with lastPps := some s.now, ppsGood := if ok then d.ppsGood + 1 else 0 } }
  let s := if locked then s else s.wr DISCSTAT.PPSOK (b2n ok)
  let s := if (st = 1 ∨ st = 2) ∧ (act = 2 ∨ act = 3) then s.discPhase s.secPhase 320 8 else s
  s.discLook

/-- PPS_TIMEOUT: no pulse within 1.5 s of the last (R55). -/
def State.ppsTimeout (s : State) : State :=
  if s.disc.lastPps.any (fun a => decide (a + ms 1500 ≤ s.now)) then
    ({ s with disc := { s.disc with lastPps := none, ppsGood := 0 } }.wr DISCSTAT.PPSOK 0).discLook
  else s

/-- REFIN_QUALIFIED: 1,000 edges within ±1,000 ppm, at a frequency error of `ppb` (R55). -/
def State.refQualified (s : State) (ppb : Int) : State :=
  if 1000000 < mag ppb then s
  else
    let s := (s.wr DISCSTAT.REFOK 1).discLook
    if 200000 < mag ppb ∧ (s.rd DISCSTAT.SRCACT = 1 ∨ s.rd DISCSTAT.SRCACT = 3) then s.discRange else s

/-- REFIN_LOCK_ACHIEVED: a frequency error within 0.05 ppm for 1 s, with REFIN alone (R55). -/
def State.refLock (s : State) : State :=
  if s.rd DISCSTAT.STATE = 1 ∧ s.rd DISCSTAT.SRCACT = 1 then s.discLock else s

/-- REFIN_LOSS: no edge for 4 nominal periods (R55). -/
def State.refLoss (s : State) : State := (s.wr DISCSTAT.REFOK 0).discLook

/-- PPSOUT_PULSE: at a whole second of TB0 the output gives its pulse where it is enabled. -/
def State.ppsOut (s : State) : State :=
  if s.on DISCCTL.PPSOUTEN ∧ s.fine 0 % 64000000000 < ns 100 then
    { s with disc := { s.disc with lastPpsOut := some (s.whenTb 0 (s.fine 0 / 64000000000 * 64000000000)) } }
  else s

/-- The level of PPSOUT. -/
def State.ppsOutLvl (s : State) : Bool := s.disc.lastPpsOut.any (fun a => decide (a ≤ s.now ∧ s.now < a + ns 100))

/-! ### Global start (R58 to R60) -/

/-- The mask registers as one number, bit n for channel n. -/
def State.gmask (s : State) : Nat :=
  (upFrom 0 32).foldl (fun m i => m + s.rd GSTARTMASK.SEL 0 i * 2 ^ (32 * i)) 0

/-- A write of GSTART (R59). -/
def State.gstartWrite (s : State) (src : Src) (w : Word) : State :=
  if GSTART.GO.of w = 0 then s
  else if s.on GSTARTSTAT.PEND then s.wr GSTARTSTAT.REFUSED 1
  else
    let soon := s.fine 0 + ns 100
    let at_ := s.rd64 GSTARTAT_LO.VALUE GSTARTAT_HI.VALUE
    let timed := GSTART.TIMED.of w == 1
    let late := timed && decide (64 * at_ < soon)
    let t := if timed && !late then at_ else ceilNs soon / 64
    let s := if late then s.wr GSTARTSTAT.LATE 1 else s
    { s with release := some ⟨s.gmask, GSTART.RESTART.of w == 1, src, t, false⟩ }.wr GSTARTSTAT.PEND 1

/-- What becomes of one selected channel at T: whether it was skipped (R60, R160). A channel that runs, START_PENDING
included (R162), goes on unless it is to be restarted; one that a flying start holds takes no start (R242). A trigger that
waits stays, and acts at its own S. -/
def State.gstartCh (s : State) (r : Release) (n : Nat) : State × Bool :=
  let m := s.mode n
  let x := s.chSt n
  if m = 0 ∨ m = 4 ∨ ((x = 2 ∨ x = 4) ∧ ¬ r.restart) then (s, true)
  else if ¬ s.prdOk n (s.rd PRD.VALUE n) then (s.chFault n 9, false)
  else if ¬ s.releasable r n then (s, false)
  else
    let prev := if x = 4 then (s.ch n).run.start.elim 1 (·.prev) else x
    let st : Start := ⟨s.fineAt (s.etb n) (s.whenTb 0 (64 * r.at_)), none, false, prev, false, false, none⟩
    let s := s.modRun n (fun y => { y with start := none })
    let s := if x = 2 then s else s.wr CHSTAT.STATE 4 n
    (s.rampLook (s.flyGo n st false) n, false)

/-- GSTART_RELEASE: at T the selected channels start (R59, R60). -/
def State.gstartRelease (s : State) : State :=
  match s.release with
  | none => s
  | some r =>
    if s.fine 0 < 64 * r.at_ then s
    else
      let sel := (onesOf r.mask 1024).filter (fun n => !(s.paired n && n % 2 == 1))
      let own (n : Nat) : Bool := s.bridlePass (n / 8) r.src
      let out := sel.filter (fun n => !own n)
      let s := { s with release := none }
      let (s, k) := (sel.filter own).foldl (fun (a : State × Nat) n =>
        let (s, b) := a.1.gstartCh r n
        (s, a.2 + b2n b)) (s, out.length)
      let s := match out with
        | n :: _ => s.authDropAs r.src r.src.code (n / 8) 0x280
        | [] => s
      let s := s.wr64 GSTARTTS_LO.VALUE GSTARTTS_HI.VALUE r.at_
      let s := s.wrs 0 [(GSTARTSTAT.PEND, 0), (GSTARTSTAT.EVER, 1), (GSTARTSTAT.SKIPPED, k)]
      s.raiseAt 7686 k (64 * r.at_)

/-! ### The meanings -/

def execSpineBeacon (t : Nat) (bad : List Mismatch) (s : State) : Out := s.ran true ((s.advance t).beacon bad)

def execTbLoadgo (t : Nat) (src : Src) (k : Nat) (val : Word) (s : State) : Out :=
  s.ran (src.ok && decide (k < 18)) ((s.advance t).authWrite src (TBCTL.WHOLE.adr k 0) (val ||| 0x80000000) (·.tbctlWrite k (val ||| 0x80000000)))

def execTbSlewabort (t : Nat) (src : Src) (k : Nat) (val : Word) (s : State) : Out :=
  s.ran (src.ok && decide (k < 18)) ((s.advance t).authWrite src (TBCTL.WHOLE.adr k 0) (val ||| 0x20000000) (·.tbctlWrite k (val ||| 0x20000000)))

def execTbSlewoffWrite (t : Nat) (src : Src) (k : Nat) (val : Word) (s : State) : Out :=
  s.ran (src.ok && decide (k < 18)) ((s.advance t).authWrite src (SLEWOFF.WHOLE.adr k 0) val (·.slewoffWrite k val))

def execDiscctlSrcWrite (t : Nat) (src : Src) (val : Word) (s : State) : Out :=
  s.ran src.ok ((s.advance t).authWrite src (DISCCTL.WHOLE.adr 0 0) val (·.discctlWrite val))

def execPpsPulse (t : Nat) (s : State) : Out := s.ran true (s.advance t).ppsPulse

def execPpsTimeout (t : Nat) (s : State) : Out := s.ran true (s.advance t).ppsTimeout

def execRefinQualified (t : Nat) (ppb : Int) (s : State) : Out := s.ran true ((s.advance t).refQualified ppb)

def execRefinLockAchieved (t : Nat) (s : State) : Out := s.ran true (s.advance t).refLock

def execRefinLoss (t : Nat) (s : State) : Out := s.ran true (s.advance t).refLoss

def execPpsoutPulse (t : Nat) (s : State) : Out := s.ran true (s.advance t).ppsOut

def execGstartGo (t : Nat) (src : Src) (val : Word) (s : State) : Out :=
  s.ran src.ok ((s.advance t).authWrite src 0x280 (val ||| 1) (·.gstartWrite src (val ||| 1)))

def execGstartRelease (t : Nat) (s : State) : Out := s.ran true (s.advance t).gstartRelease

end Sys2Proof.Machine
end

