-- ==== Sys2Proof/Machine/EngSys.lean ====
section
/-! DEFINITION. Special registers, time, events and edges of the engine (R69, R73 to R75, R78 to R81, R109). -/
namespace Sys2Proof.Machine
open Reg

/-! ### Special registers (R79, R109) -/

/-- A word of the event input window (R81). -/
def State.evin (s : State) (g i w : Nat) : Nat := ((s.ts g (s.curSlot g)).snap.get (fun _ => []) i).getD w 0

/-- What `mfs` reads. -/
def State.sreg (s : State) (g n : Nat) : Nat :=
  let e := s.en g
  match n with
  | 0x000 => e.mode
  | 0x001 => e.flags
  | 0x002 => e.l0.lc
  | 0x003 => e.l0.ls
  | 0x004 => e.l0.le
  | 0x005 => e.l1.lc
  | 0x006 => e.l1.ls
  | 0x007 => e.l1.le
  | 0x008 => e.accstat
  | 0x010 => s.curSlot g
  | 0x011 => s.phys g * 2 ^ 8 + g
  | 0x012 => s.rd TSTAT.IDX
  | 0x040 => b2n e.exl * 2 ^ 31 + e.festat
  | 0x041 => e.ecause
  | 0x042 => e.efpc
  | 0x043 => e.eaddr
  | 0x044 => e.etrap
  | 0x045 => e.eframe
  | n => if 0x100 ≤ n ∧ n ≤ 0x1FF then s.evin g ((n - 0x100) / 16) (n % 16) else 0

/-- What `mts` does with the value `v` (R69, R79, R80). -/
def State.mtsOp (s : State) (g n : Nat) (v : Word) : State :=
  match n with
  | 0x000 => s.modEn g (fun e => { e with modeP := e.modeP ++ [⟨v.toNat % 16, 3⟩] })
  | 0x001 => s.modEn g (fun e => { e with flags := v.toNat % 16 })
  | 0x008 => s.modEn g (fun e => { e with accstat := e.accstat &&& (3 - v.toNat % 4) })
  | 0x013 => s.gstartWrite (.eng g) v
  | _ => s

/-! ### Time (R73, R75) -/

/-- `tnow`: the 64-bit nanosecond count of a timebase. -/
def State.tnow (s : State) (k : Nat) : BitVec 64 := BitVec.ofNat 64 (s.fine k / 64)

/-- `tnowf`: its fine time. -/
def State.tnowf (s : State) (k : Nat) : BitVec 64 := BitVec.ofNat 64 (s.fine k)

/-! ### Event input (R81) -/

/-- `evtake`: a snapshot of the input, which is cleared; RD takes COUNT. -/
def State.evtake (s : State) (g rd i : Nat) : Done :=
  let k := s.curSlot g
  let x := s.ti g k i
  let s := s.modTs g k (fun y => { y with snap := y.snap.set (fun _ => []) i x.words })
  let s := s.modTi g k i (fun _ => TIn.init)
  (s.modEn g (fun e => e.setR rd (BitVec.ofNat 32 x.count))).fin

/-! ### Edges (R74, R78) -/

/-- The channel a port instruction names (R76). -/
def State.portCh (s : State) (g ch ra : Nat) (ind : Bool) : Nat := 16 * g + (if ind then ((s.en g).r ra).toNat % 16 else ch)

/-- The fine time, in full, that a channel takes from the 64-bit fine time `f`, where its edge timebase reads `cur` (R74). -/
def fullTime (f cur : Nat) : Nat :=
  let n := cur / 64
  let d := (f / 64 + 2 ^ 58 - n % 2 ^ 58) % 2 ^ 58
  (if d ≤ 2 ^ 57 then n + d else n + d - 2 ^ 58) * 64 + f % 64

/-- `edge`: one edge request at a channel; RD takes the result code. -/
def State.edgeOp (s : State) (g : Nat) (f : FmtE) : Done :=
  let n := s.portCh g f.ch f.ra f.ind
  if ¬ s.bridlePass (n / 8) (.eng g) then
    ((s.authDrop (.eng g) (blkBase .ch n)).modEn g (·.setR f.rd 5#32)).fin
  else
    let t := fullTime ((s.en g).rp (2 * f.pr)).toNat (s.etbNow n)
    let (s, r) := s.edgeReq n ⟨t, f.lvl + 1, .prog, false, none⟩ true
    (s.modEn g (·.setR f.rd (BitVec.ofNat 32 r.code))).fin

/-! ### The meanings -/

def execMfs (t g : Nat) (f : FmtS) (s : State) : Out :=
  s.ran (g < 64 && f.ok) ((s.advance t).engRun g ⟨f.illMfs, false, false, false⟩ (fun s =>
    (s.modEn g (fun e => e.setR f.rd (BitVec.ofNat 32 (s.sreg g f.sreg)))).fin))

def execMts (t g : Nat) (f : FmtS) (s : State) : Out :=
  s.ran (g < 64 && f.ok) ((s.advance t).engRun g ⟨f.illMts, false, decide (f.sreg < 2), true⟩ (fun s =>
    (s.mtsOp g f.sreg ((s.en g).r f.rd)).fin))

/-- `mts 0x013, ra` (R80). -/
def execMtsGstartw (t g rd res : Nat) (s : State) : Out :=
  s.ran (g < 64 ∧ rd < 16 ∧ res < 4096) ((s.advance t).engRun g ⟨firstIll [(res != 0, 1)], false, false, true⟩ (fun s =>
    (s.mtsOp g 0x13 ((s.en g).r rd)).fin))

def execTnow (t g : Nat) (f : FmtT) (s : State) : Out :=
  s.ran (g < 64 && f.ok) ((s.advance t).engRun g ⟨f.ill, false, false, false⟩ (fun s =>
    (s.modEn g (fun e => e.setP f.rd (s.tnow f.tb))).fin))

def execTnowf (t g : Nat) (f : FmtT) (s : State) : Out :=
  s.ran (g < 64 && f.ok) ((s.advance t).engRun g ⟨f.ill, false, false, false⟩ (fun s =>
    (s.modEn g (fun e => e.setP f.rd (s.tnowf f.tb))).fin))

def execEvtake (t g : Nat) (f : FmtV) (s : State) : Out :=
  s.ran (g < 64 && f.ok) ((s.advance t).engRun g ⟨f.ill, false, false, false⟩ (fun s => s.evtake g f.rd f.inp))

def execEdge (t g : Nat) (f : FmtE) (s : State) : Out :=
  s.ran (g < 64 && f.ok) ((s.advance t).engRun g ⟨f.ill, false, false, true⟩ (fun s => s.edgeOp g f))

end Sys2Proof.Machine
end

