-- ==== Sys2Proof/Machine/EngExc.lean ====
section
/-! DEFINITION. Taking an exception, the ballast handler, the engine's control registers and the microcode store (R94 to
R126). -/
namespace Sys2Proof.Machine
open Reg

/-! ### Entry (R99 to R106) -/

/-- FESTAT of an entry: DS, LEND and IMPR as given, the pending MODE writes counted from EPC, the active levels and
FLAGS (R102, R106). -/
def Eng.festatAt (e : Eng) (ds lend impr : Bool) : Nat :=
  let more := if ds then 1 else 0
  let sh (i : Nat) : Nat := (e.modeP[i]?.map (fun m => satTo 3 (m.left + more))).getD 0
  b2n (decide (2 ≤ e.modeP.length)) * 2 ^ 17 + sh 1 * 2 ^ 15 + b2n (decide (1 ≤ e.modeP.length)) * 2 ^ 14 + sh 0 * 2 ^ 12
    + b2n ds * 2 ^ 11 + b2n lend * 2 ^ 10 + b2n impr * 2 ^ 9 + b2n e.l1.act * 2 ^ 7 + b2n e.l0.act * 2 ^ 6 + e.flags

/-- The ten words of the exception frame (R106). -/
def Eng.frame (e : Eng) (epc fe : Nat) : List Nat :=
  let p (i : Nat) : Nat := (e.modeP[i]?.map (·.val)).getD 0
  let lr (l : LoopL) : Nat := l.ls % 2 ^ 16 * 2 ^ 16 + l.le % 2 ^ 16
  [epc, fe, e.mode, p 0, p 1, e.l0.lc, e.l1.lc, lr e.l0, lr e.l1, (e.r 14).toNat]

/-- A request for ballast. -/
def State.askBallast (s : State) (g cause pc ecause eaddr : Nat) : State :=
  s.modEn g (fun e => { e with bal := e.bal ++ [⟨cause, pc, ecause, eaddr⟩] })

/-- Taking an exception (R105): the escalations, the frame at w15 − 40, the exception registers, EXL, the loops and MODE
writes, and the vector; `fault` tells that the exception abandons the instruction, `impr` that it is imprecise. -/
def State.takeExc (s : State) (g : Nat) (x : Exc) (fault impr multi : Bool) : State :=
  let e := s.en g
  let ds := e.br.isSome
  let epc := match e.br with
    | some b => b.src
    | none => e.pc
  let ec := b2n multi * 2 ^ 31 + x.sub * 2 ^ 8 + x.cause
  let sp := (e.r 15).toNat
  let fe := e.festatAt ds (fault && e.atLe) impr
  let vec := s.rd EVBASE.ADDR g * 0x100 + 0x20 * x.cause
  if e.exl then s.askBallast g 1 x.pc ec x.addr
  else if ¬ s.on EVBASE.EN g then s.askBallast g 3 epc ec x.addr
  else if sp % 8 ≠ 0 ∨ sp < 0x40000000 + s.rd ESTKLIM.LIMIT g * 8 + 40 ∨ 0x40010000 < sp then s.askBallast g 2 epc ec x.addr
  else
    let s := s.lmStores g (sp - 40 - 0x40000000) (e.frame epc fe)
    let s := s.modEn g (fun e =>
      { (e.setR 15 (BitVec.ofNat 32 (sp - 40))) with
        ecause := ec, efpc := x.pc, eaddr := x.addr, etrap := if x.cause = 7 then x.code else e.etrap, eframe := sp - 40,
        festat := fe, exl := true, modeP := [], br := none, pc := 0x40000000 + vec,
        l0 := { e.l0 with act := false }, l1 := { e.l1 with act := false } })
    let s := (s.wr LASTEXC.VALID 1 g).wr LASTEXC.TASK (s.curSlot g) g
    let s := (s.wr LASTEXC.IMPR (b2n impr) g).wr LASTEXC.CAUSE (x.sub * 2 ^ 5 + x.cause) g
    let s := (s.wr LASTEFPC.PC x.pc g).cnt EXCCNT.ENTRIES 1 g
    if s.mem.lmBad g vec 4 then s.askBallast g 4 epc ec x.addr else s.modEn g (·.haltCheck)

/-- The imprecise exceptions without the oldest one that is due. -/
def dropDue : List Imp → List Imp
  | [] => []
  | i :: r => if i.due then r else i :: dropDue r

/-- EXCEPTION_ENTRY: what is to be taken at the boundary is taken: the fault of the instruction attempted, a precise
exception of the one completed, or the oldest imprecise one that is due (R97, R98, R103, R104). A stopped or halted engine
takes none (R94). -/
def State.entry (s : State) (g : Nat) : State :=
  let e := s.en g
  if ¬ e.bal.isEmpty ∨ e.hold.isSome ∨ s.on BALSTAT.INBAL g ∨ ¬ s.on ENGCTL.RUN g ∨ e.halted then s
  else match e.fault, e.prec, e.due with
    | some x, _, _ => (s.modEn g (fun e => { e with fault := none })).takeExc g x true false false
    | none, some x, _ => (s.modEn g (fun e => { e with prec := none })).takeExc g x false false false
    | none, none, some i =>
      (s.modEn g (fun e => { e with imp := dropDue e.imp, multi := if i.arith then false else e.multi })).takeExc g i.exc false true (i.arith && e.multi)
    | none, none, none => s

/-! ### Ballast (R111 to R115) -/

/-- EV_BALLAST (R112, R410). -/
def State.evBallast (s : State) (g cause : Nat) : State := s.raise 7688 (cause * 2 ^ 16 + g * 2 ^ 8 + s.phys g)

/-- The `i`th 32-bit word of local memory upwards from engine address `a`: 0 where `a` lies outside it, and bytes past its end
are 0 (R114). -/
def State.lmOrZero (s : State) (g a i : Nat) : Nat :=
  let o := a - 0x40000000 + 4 * i
  if a < 0x40000000 ∨ 0x10000 ≤ o then 0 else ofBytes (s.mem.lmBytes g o (if o + 4 ≤ 0x10000 then 4 else 0x10000 - o))

/-- A signed value in two words. -/
def twoWords (v : Int) : List Nat := [ofSigned 64 v % 2 ^ 32, ofSigned 64 v / 2 ^ 32]

/-- The 512 words of a dump (R114); a trace of fewer than 64 transfers is filled with 0 at its end (DESIGN CHOICE,
notes/assumptions/151.md). -/
def State.dumpWords (s : State) (g : Nat) (b : BalReq) (stat count : Nat) : List Nat :=
  let e := s.en g
  let tb0 := s.fine 0 / 64
  let sp := (e.r 15).toNat
  let tr := e.trace.reverse
  let pad := List.replicate (2 * (64 - tr.length)) 0
  [b.cause * 2 ^ 16 + g * 2 ^ 8 + s.phys g, count, tb0 % 2 ^ 32, tb0 / 2 ^ 32 % 2 ^ 32, b.pc, stat, b.ecause, b.eaddr]
    ++ (upFrom 0 16).map (fun i => (e.r i).toNat)
    ++ twoWords e.acc0 ++ twoWords e.acc1
    ++ [e.flags, e.mode, b2n e.exl * 2 ^ 31 + e.festat, s.curSlot g]
    ++ [e.l0.lc, e.l0.ls, e.l0.le, e.l1.lc, e.l1.ls, e.l1.le]
    ++ (upFrom 0 10).map (fun i => if e.exl then s.lmOrZero g sp i else 0)
    ++ List.replicate 16 0
    ++ tr.flatMap (fun (a, b) => [a, b]) ++ pad
    ++ (upFrom 0 320).map (s.lmOrZero g sp)

/-- Recognition (R112 step 1, R115): the instruction is abandoned, the count and cause are noted, and the safe states
are ordered; a dump starts unless one is stored or being written. -/
def State.recognise (s : State) (g : Nat) (b : BalReq) : State :=
  let stat := s.engstatWord g
  let old := (s.en g).dump.isSome || s.on BALSTAT.PEND g
  let s := s.modEn g (fun e => { e with hold := none, fault := none, prec := none })
  let s := ((s.inc BALSTAT.COUNT 1 g).wr BALSTAT.BCAUSE b.cause g).wr BALSTAT.INBAL 1 g
  let s := if s.on BALCTL.SAFE g then (s.safeAsk (2 * g) 2 s.now).safeAsk (2 * g + 1) 2 s.now else s
  let s := if b.cause = 6 then s.suspect (s.phys g) 1 else s
  let s := { s with tko := s.tko.map (fun (k : Tko) => if k.log = g then { k with bal := true } else k) }
  if old then
    let s := s.evBallast g b.cause
    if (s.en g).dump.isNone ∧ s.on BALCTL.AUTORST g then (s.engReset g).wr BALSTAT.INBAL 0 g else s
  else
    let p := s.phys g
    let s := s.wr BALSEC.SEC (putBit (s.rd BALSEC.SEC 0 (p / 32)) (p % 32) (s.secure g)) 0 (p / 32)
    let ws := s.dumpWords g b stat (s.rd BALSTAT.COUNT g)
    s.modEn g (fun e => { e with dump := some ws, dumpCause := b.cause })

/-- BALLAST_ENTRY: a parity error of a microword, or one handled as such (`par`; R117, R119), or the request that waits (R98,
R111, R121). HOST abandons the instruction at the PC. -/
def State.ballastEntry (s : State) (g : Nat) (par : Bool) : State :=
  let pc := (s.en g).pc
  if par then s.recognise g ⟨6, pc, 0, 0⟩
  else match (s.en g).bal with
    | [] => s
    | b :: r => (s.modEn g (fun e => { e with bal := r })).recognise g (if b.cause = 7 then { b with pc := pc } else b)

/-- BALCLR (R115). -/
def State.balclr (s : State) (g : Nat) : State :=
  if (s.en g).dump.isSome then s.modEn g (fun e => { e with clrWait := true })
  else
    let s := s.wr BALSTAT.PEND 0 g
    if s.on BALSTAT.INBAL g then ((s.wr BALSTAT.INBAL 0 g).wr ENGCTL.RUN 0 g).engReset g else s

/-- The words of a dump reach the ballast stack, `n` of them; COMPLETE tells that all did (R112, R113, R372). Where not even the
first does, the stack stays as it was (DESIGN CHOICE, notes/assumptions/150.md). -/
def State.dumpWrite (s : State) (g n : Nat) (ws : List Nat) : State :=
  let n := if s.on TAMPSTAT.WIPING then 0 else n
  let ws := if 512 ≤ n then (match ws with
    | h :: r => (h + 2 ^ 31) :: r
    | [] => []) else ws.take n
  s.secStore (0x5E000 + s.phys g * 0x800) (ws.flatMap (toBytes 4))

/-- BALLAST_DUMP_DONE: the dump ends after `n` words; report, then a BALCLR that waited, or AUTORST (R112, R115). -/
def State.dumpDone (s : State) (g n : Nat) : State :=
  let e := s.en g
  match e.dump with
  | none => s
  | some ws =>
    let s := (s.dumpWrite g n ws).modEn g (fun e => { e with dump := none, clrWait := false })
    let s := (s.wr BALSTAT.PEND 1 g).evBallast g e.dumpCause
    if e.clrWait then s.balclr g
    else if s.on BALCTL.AUTORST g then (s.engReset g).wr BALSTAT.INBAL 0 g else s

/-- A write of BALCTL. -/
def State.balctlWrite (s : State) (g : Nat) (w : Word) : State :=
  let s := (s.wr BALCTL.AUTORST (BALCTL.AUTORST.of w) g).wr BALCTL.SAFE (BALCTL.SAFE.of w) g
  let s := if BALCTL.BALCLR.of w = 1 then s.balclr g else s
  if BALCTL.BALREQ.of w = 1 then s.askBallast g 7 (s.en g).pc 0 0 else s

/-! ### Engine control (R94, R95) -/

/-- A write of ENGCTL: ERESET acts if RUN is 0; then RUN takes its value. -/
def State.engctlWrite (s : State) (g : Nat) (w : Word) : State :=
  let s := if ENGCTL.ERESET.of w = 1 ∧ ¬ s.on ENGCTL.RUN g then s.engReset g else s
  s.wr ENGCTL.RUN (ENGCTL.RUN.of w) g

/-- ENGRATE_INTERVAL: an aligned interval of 1 ms ends. -/
def State.engrate (s : State) (g : Nat) : State :=
  if s.strobe s.now % ms 1 ≠ 0 then s
  else
    let e := s.en g
    let n := e.icount - e.rateFrom
    let s := s.modEn g (fun e => { e with rateFrom := e.icount })
    if 10000 ≤ n then s.wr ENGRATE.RATE (satTo 0xFFFF (n / 1000)) g else s

/-- The address ENGPC reads: that of the next instruction (R94). -/
def State.engpcWord (s : State) (g : Nat) : Nat := (s.en g).pc

/-! ### Microcode (R121 to R126) -/

/-- The header of an image as far as its format is concerned (R122): the numbers of match entries and microwords. -/
def mcCounts (img : List Byte) : Nat × Nat := (bitsAt (entryWord img 2) 16 16, bitsAt (entryWord img 2) 0 16)

/-! ### Microwords (R117 to R121) -/

/-- UOP, DLY, SRCA, SRCB, DST, SF, WID, MC and NEXT of a microword (R117). -/
structure MicroOp where
  uop : Nat
  dly : Nat
  srca : Nat
  srcb : Nat
  dst : Nat
  sf : Bool
  wid : Nat
  mc : Nat
  nxt : Nat
  deriving DecidableEq, Repr

def microOp (w : Nat) : MicroOp :=
  ⟨bitsAt w 34 6, bitsAt w 31 3, bitsAt w 27 4, bitsAt w 23 4, bitsAt w 19 4, bitAt w 18, bitsAt w 16 2, bitsAt w 13 3, bitsAt w 0 13⟩

/-- Whether a UOP is listed in R119. -/
def uopListed (u : Nat) : Bool :=
  [(0x00, 0x19), (0x20, 0x2C), (0x30, 0x33), (0x34, 0x3F)].any (fun r => decide (r.1 ≤ u ∧ u < r.2))

/-- Whether a microword is handled as a parity error: a reserved UOP, or a NEXT beyond the stores (R117, R119). -/
def mcBad (w : Nat) : Bool :=
  let m := microOp w
  !uopListed m.uop || decide (0x1A00 ≤ m.nxt ∧ m.nxt < 0x1FFF)

/-- The microword an engine fetches from microword address `a`: of the ROM, or of the patch RAM where a match register redirects
it or the address is the RAM's own (R117, R121). -/
def McImage.fetch (m : McImage) (a : Nat) : Nat :=
  if 0x1800 ≤ a then m.patch.getD (a - 0x1800) 0
  else match m.hits.find? (fun h => h.1 == a) with
    | some h => m.patch.getD h.2 0
    | none => Config.mcRom a

/-- The length of an image; its header alone where the counts are out of range. -/
def mcLen (nm nw : Nat) : Nat := if 64 < nm ∨ 512 < nw then 0x40 else 0x40 + 4 * nm + 8 * nw + 96

/-- Match entry `i` of an image. -/
def mcMatch (img : List Byte) (i : Nat) : Nat := entryWord img (16 + i)

/-- The match registers and the patch RAM an image loads (R121, R122). -/
def mcHits (img : List Byte) : List (Nat × Nat) :=
  (upFrom 0 (mcCounts img).1).map (fun i => (bitsAt (mcMatch img i) 16 13, bitsAt (mcMatch img i) 0 9))

def mcPatch (img : List Byte) : List Nat :=
  let (nm, nw) := mcCounts img
  (upFrom 0 nw).map (fun j => ofBytes ((img.drop (0x40 + 4 * nm + 8 * j)).take 5))

/-- The microcode of bare ROM. -/
def McImage.bare : McImage := ⟨0, 0, [], []⟩

def noDup : List Nat → Bool
  | [] => true
  | a :: r => !r.contains a && noDup r

/-- Whether an image has the form of R122. -/
def mcFormat (img : List Byte) : Bool :=
  let (nm, nw) := mcCounts img
  let ms := (upFrom 0 nm).map (mcMatch img)
  let at_ := 0x40 + 4 * nm
  entryWord img 0 == 0x4E4C4D43 && entryWord img 1 % 2 ^ 16 != 0 && decide (nm ≤ 64) && decide (nw ≤ 512)
    && ((img.drop 12).take 52).all (· == 0)
    && ms.all (fun m => bitsAt m 29 3 == 0 && decide (bitsAt m 16 13 < 0x1800) && bitsAt m 9 7 == 0 && decide (bitsAt m 0 9 < nw))
    && noDup (ms.map (fun m => bitsAt m 16 13))
    && (upFrom 0 nw).all (fun j => ((img.drop (at_ + 8 * j + 5)).take 3).all (· == 0))

/-- The signed part of an image, and its signature r and s (R122). -/
def mcSigned (img : List Byte) : List Byte := img.take (img.length - 96)

/-- A big-endian number. -/
def ofBytesBE (l : List Byte) : Nat := ofBytes l.reverse

def mcSigOk (img : List Byte) : Bool :=
  let sig := img.drop (img.length - 96)
  Config.ecdsaOk Config.mcKey (Config.sha384 ((mcSigned img).map (·.toNat))) (ofBytesBE (sig.take 48)) (ofBytesBE (sig.drop 48))

/-- A read of the security block, in accesses of 8 bytes; none where one fails, or behind its own isolated port (R20, R124). -/
def State.secCopy (s : State) (a : Nat) : Nat → State × Option (List Byte)
  | 0 => (s, some [])
  | n + 1 =>
    if s.isolated 212 then (s, none)
    else match s.blockRead .jtag a 8 with
    | (s, .ok, d) =>
      match s.secCopy (a + 8) n with
      | (s, some r) => (s, some (d ++ r))
      | (s, none) => (s, none)
    | (s, _, _) => (s, none)

/-- `n` bytes of shared SRAM from an 8-byte aligned address. -/
def State.secRead (s : State) (a n : Nat) : State × Option (List Byte) :=
  let (s, d) := s.secCopy a ((n + 7) / 8)
  (s, d.map (·.take n))

/-- GO (R124 steps 1 and 2): refused while BUSY, else the image is copied. -/
def State.mcGo (s : State) (w : Word) : State :=
  if MCLDCTL.GO.of w = 0 then s
  else if s.mcl.isSome then s.wr MCLDSTAT.ERR 1
  else
    let a := s.rd MCLDADDR.ADDR * 8
    let (s, h) := s.secRead a 0x40
    let (s, img) := match h with
      | none => (s, none)
      | some h => s.secRead a (mcLen (mcCounts h).1 (mcCounts h).2)
    ({ s with mcl := some ⟨img.getD [], img.isSome⟩ }).wr MCLDSTAT.BUSY 1

/-- Whether a physical gondola's engine is eligible for an image (R125). -/
def State.mcEligible (s : State) (p : Nat) : Bool :=
  let st := s.rd PHEALTH.STATE 0 p
  st != 5 && st != 4 && !s.isolated p

/-- The outcome of the checks, as ERR (R124). -/
def State.mcVerdict (s : State) (m : McLoad) : Nat :=
  if ¬ m.ok ∨ s.on TAMPSTAT.WIPING then 7
  else if s.rd LCSTAT.STATE = 3 then 6
  else if ¬ mcFormat m.img then 2
  else if bitsAt (entryWord m.img 1) 16 16 ≠ s.rd MCVER.ROMID then 3
  else if entryWord m.img 1 % 2 ^ 16 < s.rd MCMIN.MINVER then 4
  else if ¬ mcSigOk m.img then 5
  else 0

/-- MCLD_CHECK_DONE (R124 steps 3 and 4, R125). -/
def State.mcChecked (s : State) : State :=
  match s.mcl with
  | none => s
  | some m =>
    let v := s.mcVerdict m
    let ver := if m.ok then entryWord m.img 1 % 2 ^ 16 else 0
    let s := (({ s with mcl := none }).wr MCLDSTAT.BUSY 0).wr MCLDSTAT.ERR v
    if v ≠ 0 then s.raise 7690 (v * 2 ^ 29 + ver)
    else
      let hash := Config.sha384 (m.img.map (·.toNat)) / 2 ^ 352
      let ps := (upFrom 0 68).filter s.mcEligible
      let s := { s with mcNew := some ⟨ver, hash % 2 ^ 32, mcHits m.img, mcPatch m.img⟩, mcWait := ps }
      let s := (s.wr MCLDSTAT.VERSION ver).wr MCLDSTAT.PENDING ps.length
      if ps.isEmpty then (s.wr MCLDSTAT.DONE 1).raise 7689 ver else s

/-- Whether the engine of a physical gondola is at a point where it applies an image: a shadow at the boundary of its
source (R125, R337). -/
def State.mcPoint (s : State) (p : Nat) : Bool :=
  match (if s.tko.any (fun k => k.tgt == p && k.joined.isSome) then s.tko.map (·.log) else s.logOf p) with
  | none => true
  | some g => (s.sch g).cur.isNone || s.on BALSTAT.INBAL g

/-- An image is applied by a physical gondola (R125, R126). -/
def State.mcPut (s : State) (p : Nat) : State :=
  match s.mcNew with
  | none => s
  | some m => { s with mcRun := s.mcRun.set (fun _ => McImage.bare) p m }

/-- MC_IMAGE_APPLY. -/
def State.mcApply (s : State) (p : Nat) : State :=
  if s.mcWait.contains p ∧ s.mcPoint p then (s.mcPut p).mcLeave p else s

/-- The words MCVER and MCHASH read: the image of the physical gondola that serves `g` (R126). -/
def State.mcverWord (s : State) (g : Nat) : Nat :=
  s.rd MCVER.ROMID g * 2 ^ 16 + (s.mcRun.get (fun _ => McImage.bare) (s.phys g)).version

def State.mchashWord (s : State) (g : Nat) : Nat := (s.mcRun.get (fun _ => McImage.bare) (s.phys g)).hash

/-! ### The meanings -/

def execImpreciseExceptionDue (t g : Nat) (s : State) : Out := s.ran (g < 64) ((s.advance t).modEn g (·.impDue))

def execExceptionEntry (t g : Nat) (s : State) : Out := s.ran (g < 64) ((s.advance t).entry g)

def execBalctlBalreq (t : Nat) (src : Src) (g : Nat) (val : Word) (s : State) : Out :=
  s.ran (src.ok && decide (g < 64)) ((s.advance t).authWrite src (BALCTL.WHOLE.adr g 0) (val ||| 0x80000000) (·.balctlWrite g (val ||| 0x80000000)))

def execBalctlBalclr (t : Nat) (src : Src) (g : Nat) (val : Word) (s : State) : Out :=
  s.ran (src.ok && decide (g < 64)) ((s.advance t).authWrite src (BALCTL.WHOLE.adr g 0) (val ||| 0x40000000) (·.balctlWrite g (val ||| 0x40000000)))

def execBallastEntry (t g : Nat) (par : Bool) (s : State) : Out := s.ran (g < 64) ((s.advance t).ballastEntry g par)

def execBallastDumpDone (t g words : Nat) (s : State) : Out := s.ran (g < 64) ((s.advance t).dumpDone g words)

def execEngctlEreset (t : Nat) (src : Src) (g : Nat) (val : Word) (s : State) : Out :=
  s.ran (src.ok && decide (g < 64)) ((s.advance t).authWrite src (ENGCTL.WHOLE.adr g 0) (val ||| 0x80000000) (·.engctlWrite g (val ||| 0x80000000)))

def execEngctlRun (t : Nat) (src : Src) (g : Nat) (val : Word) (s : State) : Out :=
  s.ran (src.ok && decide (g < 64)) ((s.advance t).authWrite src (ENGCTL.WHOLE.adr g 0) val (·.engctlWrite g val))

def execEngrateInterval (t g : Nat) (s : State) : Out := s.ran (g < 64) ((s.advance t).engrate g)

def execMcldGo (t : Nat) (src : Src) (val : Word) (err : Ecc) (s : State) : Out :=
  s.ran src.ok ((s.advance t).withEcc err (·.authWrite src (MCLDCTL.WHOLE.adr 0 0) (val ||| 1) (·.mcGo (val ||| 1))))

def execMcldCheckDone (t : Nat) (s : State) : Out := s.ran true (s.advance t).mcChecked

def execMcImageApply (t p : Nat) (s : State) : Out := s.ran (p < 68) ((s.advance t).mcApply p)

end Sys2Proof.Machine
end

