-- ==== Sys2Proof/Machine/Reliab.lean ====
section
/-! DEFINITION. The background service (chapter 13): scrubbing, path monitors, margin re-planning, spare takeovers,
self-tests and telemetry (R323 to R345). -/
namespace Sys2Proof.Machine
open Reg

def State.modRel (s : State) (f : RelH → RelH) : State := { s with rel := f s.rel }

/-! ### Scrubbing (R325 to R327) -/

/-- Words and nominal interval of a memory's stream (R325): shared SRAM, a local memory, secure SRAM. -/
def scrubWords (mem : Nat) : Nat := if mem = 0 then 0x300000 else if mem = 1 then 0x2000 else 0x10000

def scrubEach (mem : Nat) : Nat := if mem = 0 then ns 640 else if mem = 1 then us 128 else us 16

/-- A stream. -/
def State.scrub (s : State) (mem p : Nat) : Scrub :=
  if mem = 0 then s.rel.scrubS else if mem = 1 then s.rel.scrubL.get (fun _ => Scrub.init) p else s.rel.scrubX

def State.setScrub (s : State) (mem p : Nat) (x : Scrub) : State :=
  if mem = 0 then s.modRel (fun r => { r with scrubS := x })
  else if mem = 1 then s.modRel (fun r => { r with scrubL := r.scrubL.set (fun _ => Scrub.init) p x })
  else s.modRel (fun r => { r with scrubX := x })

/-- A pass of a memory ends: shared SRAM's is counted, and one that took more than 1.5 times its nominal time at the
throttle level in force is late (R325). -/
def State.passEnd (s : State) (mem from_ : Nat) : State :=
  let d := s.now - from_
  let s := if mem = 0 then (s.inc SCRUBSTAT.PASSES).wr SCRUBSTAT.LASTPASS (satTo 0xFFF (d / ms 10)) else s
  if 3 * (scrubWords mem * scrubEach mem * 4 ^ s.rd MARGSTAT.THR) < 2 * d then (s.wr SCRUBSTAT.LATE 1).raise 7817 mem else s

/-- The scrubber goes on to its next word. -/
def State.scrubOn (s : State) (mem p : Nat) : State :=
  let x := s.scrub mem p
  if x.ptr + 1 < scrubWords mem then s.setScrub mem p { x with ptr := x.ptr + 1 }
  else (s.setScrub mem p ⟨0, s.now⟩).passEnd mem x.from_

/-- The words of shared SRAM with a correctable error (word, passes in a row, pass), after one more at `w`. -/
def ceNote (w pass : Nat) (l : List (Nat × Nat × Nat)) : List (Nat × Nat × Nat) × Nat :=
  let k := match l.find? (fun x => x.1 == w) with
    | some (_, k, q) => if (q + 1) % 2 ^ 16 = pass then k + 1 else 1
    | none => 1
  ((w, k, pass) :: l.filter (fun x => x.1 != w && (x.2.2 == pass || (x.2.2 + 1) % 2 ^ 16 == pass)), k)

/-- A correctable error of a word of shared SRAM that the scrubber found (R326). -/
def State.scrubCe (s : State) (w : Nat) : State :=
  let s := s.sramCe.cnt BANKREP.CECNT 1 0 (w / 0x8000)
  let (l, k) := ceNote w (s.rd SCRUBSTAT.PASSES) s.rel.ce
  let s := s.modRel (fun r => { r with ce := l })
  if k < 3 then s
  else
    let s := (s.wr SCRUBWEAK.VALID 1).wr SCRUBWEAK.WORD w
    if s.rel.weak.contains w then s else (s.modRel (fun r => { r with weak := r.weak ++ [w] })).raise 7818 (8 * w)

/-- The scrubber reads the next word of a memory, with what its ECC shows (R326, R39). The local memory of a gondola that
serves none holds nothing of the state (R339, R340). In Moored scrubbing is suspended (R348), and behind the isolated port of
the service engine it finds nothing (R20). -/
def State.scrubWord (s : State) (mem p : Nat) (err : Ecc) : State :=
  if s.pw.deep then s else
  let w := (s.scrub mem p).ptr
  let e := err.first
  let s := if e = .clean ∨ s.isolated 211 then s
    else match mem with
    | 0 => if s.mem.poisoned [w] ∨ s.isolated (68 + w / 0x8000) then s else if e = .correctable then s.scrubCe w else s.sramUe w
    | 1 =>
      match s.logOf p with
      | some g => if s.mem.lmBad g (8 * w) 8 then s else s.lmEcc g (8 * w) e
      | none => if e = .correctable then s.sramCe else s.ueElse.suspect p 2
    | _ => if s.mem.secBad (8 * w) 8 then s else s.secEcc (8 * w) e
  s.scrubOn mem p

/-! ### Path monitors (R328 to R331) -/

/-- A path monitor beyond its register. -/
def State.monU (s : State) (m : Nat) : MonH := s.rel.mon.get (fun _ => MonH.init) m

def State.modMon (s : State) (m : Nat) (f : MonH → MonH) : State :=
  s.modRel (fun r => { r with mon := r.mon.set (fun _ => MonH.init) m (f (s.monU m)) })

/-- Whether a reading is out of range, or differs from the one before by more than 10 % (R330). -/
def MonH.bad (h : MonH) (k : Nat) : Bool :=
  decide (k < 0x666) || decide (0x1999 < k) || (match h.last with
    | q :: _ => decide (q < 10 * absDiff k q)
    | [] => false)

/-- The published K (R328, R330): the largest of the last 16 readings plus KGUARD; the reset value before 16 readings and
while the monitor is faulty. -/
def MonH.pub (h : MonH) (fault : Bool) : Nat :=
  if fault ∨ h.n < 16 then 0x1050 else h.last.foldl max 0 + 0x50

/-- Whether the conditions of a reference reading hold (R331): 55 to 65 °C (`temp` in 0.1 °C), 0.80 V ± 5 mV. -/
def State.refHolds (s : State) (temp : Int) : Bool :=
  decide (550 ≤ temp ∧ temp ≤ 650) && decide (absDiff (s.rd SUPMON.LEVEL 0 0) 800 ≤ 5)

/-- Whether the fits of R331 are valid: 168 operating hours, and 100 reference readings of each monitor. -/
def State.fitsOk (s : State) : Bool :=
  decide (168 * 3600 * ms 1000 ≤ s.strobe s.now) && (upFrom 0 96).all (fun m => decide (100 ≤ (s.monU m).refs.length))

/-- MONITOR_READING: monitor `m` reads `k`, at `temp` in 0.1 °C (R328 to R331). -/
def State.monRead (s : State) (m k : Nat) (temp : Int) : State :=
  let bad := (s.monU m).bad k
  let s := s.modMon m (fun h => { h with last := (k :: h.last).take 16, n := h.n + 1, good := if bad then 0 else h.good + 1 })
  let was := s.on MON.FAULT 0 m
  let fault := bad || (was && decide ((s.monU m).good < 16))
  let s := (s.wr MON.FAULT (b2n fault) 0 m).wr MON.K ((s.monU m).pub fault) 0 m
  let s := if fault ∧ ¬ was then
      let s := s.raise 7816 m
      if m < 68 then s.suspect m 3 else s
    else s
  if s.refHolds temp then
    let s := (s.wr MON.KREF k 0 m).modMon m (fun h => { h with refs := (s.strobe s.now, k) :: h.refs })
    if s.fitsOk then s.wr MARGLIFE.VALID 1 else s
  else s

/-- READER_LATENCY_TRACKING (R28, R323): the residual skew of the pass, in 15.625 ps. -/
def State.skewPass (s : State) (skew : Nat) : State := s.wr SPINESTAT.SKEWMAX (satTo 0xFF skew)

/-! ### Core voltage: the request (R332, R356) -/

/-- The request: the larger of the loop value and the re-planner's value. -/
def State.vReq (s : State) : Nat := max (s.rd AVSSTAT.LOOP) s.rel.rv

/-- VMAXED follows the request (R342). -/
def State.vLook (s : State) : State := s.wr MARGSTAT.VMAXED (b2n (decide (s.rd AVSCTL.VMAX ≤ s.vReq)))

/-! ### Requests for takeovers (R335, R336) -/

/-- The free spare with the least K, the lower number on a tie. -/
def State.leastK (s : State) : Option Nat :=
  ((upFrom 0 68).filter (fun p => s.rd PHEALTH.STATE 0 p == 1)).foldl (fun b p =>
    match b with
    | some q => if s.rd MON.K 0 p < s.rd MON.K 0 q then some p else some q
    | none => some p) none

/-- The target of a request that starts: a gondola, or the result that refuses it (R336). -/
def State.sprTarget (s : State) (r : SprReq) : Except Nat Nat :=
  if r.tgt = 127 then (match s.leastK with
    | some p => .ok p
    | none => .error 3)
  else if 68 ≤ r.tgt ∨ s.rd PHEALTH.STATE 0 r.tgt ≠ 1 then .error 4
  else .ok r.tgt

/-- A COLD request that names the source or the target of the WARM takeover in progress aborts it (R336). -/
def State.coldOver (s : State) (log tgt : Nat) : State :=
  if s.tko.any (fun k => k.log == log || k.tgt == tgt) then s.tkoAbort 5 false else s

/-- A self-test of `p` begins (R340). -/
def State.testGo (s : State) (p : Nat) : State :=
  let s := s.modRel (fun r => { r with testWas := s.rd PHEALTH.STATE 0 p })
  ({ s with test := some p }.wr PHEALTH.STATE 4 0 p).mcLeave p

/-- A write of SPRCMD (R342). -/
def State.sprcmdWrite (s : State) (w : Word) : State :=
  let log := SPRCMD.LOG.of w
  let p := SPRCMD.PHYS.of w
  match SPRCMD.OP.of w with
  | 1 =>
    if s.isolated (s.phys log) then s.wr SPRSTAT.LASTRES 4
    else s.sprAsk ⟨false, SPRCMD.FORCE.of w == 1, false, log, p⟩
  | 2 =>
    let n := s.sprQ.length
    let s := s.sprAsk ⟨true, false, false, log, p⟩
    if n < s.sprQ.length then s.coldOver log p else s
  | 3 =>
    let st := s.rd PHEALTH.STATE 0 p
    if 68 ≤ p ∨ ¬ (st = 1 ∨ st = 3 ∨ st = 5) ∨ s.test.isSome then s.wr SPRSTAT.LASTRES 4 else s.testGo p
  | 4 => s.tkoAbort 5 false
  | _ => s

/-! ### Warm takeovers (R337, R338) -/

/-- TAKEOVER_START: the first request, a WARM one, starts or is refused. -/
def State.tkoStart (s : State) : State :=
  match s.sprQ, s.tko with
  | r :: rest, none =>
    if r.cold then s
    else
      let s := { s with sprQ := rest }
      let src := s.phys r.log
      if s.isolated src then s.wr SPRSTAT.LASTRES 4
      else match s.sprTarget r with
        | .error e => s.wr SPRSTAT.LASTRES e
        | .ok p =>
          let bal := s.engState r.log == 5
          let s := { s with tko := some ⟨r.log, src, p, r.force, r.susp, bal, false, none, 0⟩ }
          let s := ((s.wr PHEALTH.STATE 2 0 p).wr LMAP.SHADOW 1 0 r.log).wr LMAP.SPHYS p 0 r.log
          let s := ((s.wr SPRSTAT.LOG r.log).wr SPRSTAT.TGT p).wr SPRSTAT.MISM 0
          s.raise 7810 (2 ^ 30 + r.log * 2 ^ 22 + src * 2 ^ 8 + p)
  | _, _ => s

/-- TAKEOVER_COPY_DONE. -/
def State.tkoCopied (s : State) : State := { s with tko := s.tko.map (fun (k : Tko) => { k with copied := true }) }

/-- Whether a scheduler has no task executing or preempted (R337). -/
def State.taskFree (s : State) (g : Nat) : Bool :=
  (s.sch g).cur.isNone && !(s.sch g).order.any (fun k => (s.ts g k).st == .preempted)

/-- Differences found in the shadow: they count, and readiness starts again (R337). -/
def State.tkoMism (s : State) (n : Nat) : State :=
  if n = 0 ∨ s.tko.all (fun k => k.joined.isNone) then s
  else { s with tko := s.tko.map (fun (k : Tko) => { k with clean := s.now }) }.cnt SPRSTAT.MISM n

/-- TAKEOVER_JOIN, with the differences found since the last look (R337). -/
def State.tkoJoin (s : State) (mism : Nat) : State :=
  let s := s.tkoMism mism
  match s.tko with
  | none => s
  | some k =>
    if k.copied ∧ k.joined.isNone ∧ (k.bal ∨ s.taskFree k.log) then
      { s with tko := some { k with joined := some s.now, clean := s.now } }
    else s

/-- The running channels of a logical gondola. -/
def State.runners (s : State) (g : Nat) : List Nat := (upFrom (16 * g) 16).filter (fun n => s.rd CHSTAT.STATE n == 2)

/-- Two periods of a running channel on the strobe (R337). -/
def State.twoPeriods (s : State) (n : Nat) : Nat :=
  let r := (s.ch n).run
  2 * (r.pend - r.pk) * 2 ^ 30 / (if s.rateOf r.tb = 0 then 1 else s.rateOf r.tb)

/-- Whether the shadow has run long enough without difference, or is forced after 100 ms (R337, R338). -/
def State.tkoReady (s : State) (k : Tko) : Bool :=
  match k.joined with
  | none => false
  | some j =>
    let d := s.now - k.clean
    (decide (us 10 ≤ d) && (s.runners k.log).all (fun n => decide (s.twoPeriods n ≤ d)))
      || (k.force && decide (j + ms 100 ≤ s.now))

/-- Whether a channel has an edge within 20 ns of now. -/
def State.edgeNear (s : State) (n : Nat) : Bool :=
  (s.ch n).dl.pend.any (fun e => decide (absDiff e.at_ (s.etbNow n) ≤ s.espan n (ns 20))) ||
    (s.ch n).dl.lastAt.any (fun a => decide (s.now ≤ a + ns 20))

/-- Whether now is a handover instant H (R337 step 7). -/
def State.tkoInstant (s : State) (k : Tko) : Bool :=
  (k.bal || s.taskFree k.log) && (upFrom (16 * k.log) 16).all (fun n => !s.edgeNear n)
    && (match s.runners k.log with
      | [] => true
      | n :: _ => (s.ch n).run.pAt == s.now)

/-- The phase SPRSTAT shows (R342). -/
def State.sprPhase (s : State) : Nat :=
  match s.tko with
  | some k => if k.joined.isNone ∧ ¬ k.copied then 1 else if s.tkoReady k then 3 else 2
  | none => if s.test.isSome then 4 else 0

/-- The source of a takeover stops serving (R335, R337): SUSPECT where a suspicion moved it, SPARE otherwise. -/
def State.sourceOut (s : State) (src : Nat) (susp : Bool) : State :=
  let marked := s.rel.marked.contains src
  let s := s.modRel (fun r => { r with marked := r.marked.filter (· != src) })
  if susp || marked then s.enterSuspect src else s.wr PHEALTH.STATE 1 0 src

/-- The source of a ballast takeover keeps BALSTAT; the target's engine comes up reset and STOPPED (R336). -/
def State.balHand (s : State) (k : Tko) : State :=
  if ¬ k.bal then s
  else
    let w := (s.reg (BALSTAT.WHOLE.adr k.log 0)).toNat
    let s := s.modRel (fun r => { r with balKept := r.balKept.set (fun _ => 0) k.src w })
    ((s.engReset k.log).wr ENGCTL.RUN 0 k.log).setReg (BALSTAT.WHOLE.adr k.log 0) 0

/-- The router of the source passes to the target (R337, R338). -/
def State.routerHand (s : State) (src tgt : Nat) : State :=
  let r := s.router src
  (s.modRouter tgt (fun _ => r)).modRouter src (fun _ => Router.init)

/-- The handover of a WARM takeover at H (R337 step 7). -/
def State.tkoHand (s : State) (k : Tko) : State :=
  let s := ({ s with tko := none }.balHand k).routerHand k.src k.tgt
  let s := ((s.wr LMAP.PHYS k.tgt 0 k.log).wr LMAP.SHADOW 0 0 k.log).wr PHEALTH.STATE 0 0 k.tgt
  let s := (s.sourceOut k.src k.susp).wr SPRSTAT.LASTRES 0
  let s := s.modRel (fun r => { r with nWarm := satTo 0xFFFF (r.nWarm + 1) })
  s.raise 7811 (2 ^ 30 + k.log * 2 ^ 22 + k.src * 2 ^ 8 + k.tgt)

/-- TAKEOVER_HANDOVER: the differences found since the last look count, then the handover takes place where now is its
instant (R337). -/
def State.tkoHandover (s : State) (mism : Nat) : State :=
  let s := s.tkoMism mism
  match s.tko with
  | none => s
  | some k => if s.tkoReady k ∧ s.tkoInstant k then s.tkoHand k else s

/-- TAKEOVER_TIME_LIMIT: 100 ms after the join the takeover is aborted, or hands over whatever MISM shows (R338). -/
def State.tkoLimit (s : State) : State :=
  match s.tko with
  | none => s
  | some k =>
    if ¬ k.joined.any (fun j => decide (j + ms 100 ≤ s.now)) then s
    else if ¬ k.force then s.tkoAbort 1 false
    else if s.tkoInstant k then s.tkoHand k
    else s

/-! ### Cold takeovers (R339) -/

/-- Every register of BAR0 from `a` on, `n` bytes, reads its reset value. -/
def State.regsReset (s : State) (a n : Nat) : State :=
  { s with regs := s.regs.filter (fun x => !decide (a ≤ x.1 ∧ x.1 < a + n)) }

/-- Entries of a store with a key from `k` on, `n` keys, go. -/
def clearKeys {α : Type} (k n : Nat) (m : Store α) : Store α := m.filter (fun x => !decide (k ≤ x.1 ∧ x.1 < k + n))

/-- The channels and groups of a logical gondola start from their reset values, in the HIZ safe state (R339). -/
def State.coldChannels (s : State) (g : Nat) : State :=
  let s := s.regsReset (0x1010000 + 0x40000 * g) 0x10000
  let s := { s with chan := clearKeys (16 * g) 16 s.chan, grp := clearKeys (2 * g) 2 s.grp }
  ((s.wr SAFECTL.SAFEST 0 (2 * g)).wr SAFECTL.SAFEST 0 (2 * g + 1) |>.safeEnter (2 * g) 6).safeEnter (2 * g + 1) 6

/-- The engine of a logical gondola is STOPPED and its local memory zero; its inputs are empty, and it is not secure
(R339). -/
def State.coldEngine (s : State) (g : Nat) : State :=
  let s := s.regsReset (0x1000000 + 0x40000 * g) 0x8000
  let m := { s.mem with lm := clearKeys (0x10000 * g) 0x10000 s.mem.lm, lmPoison := s.mem.lmPoison.filter (fun w => !decide (w / 0x2000 = g)) }
  let s := { s with mem := m, eng := clearKeys g 1 s.eng, sched := clearKeys g 1 s.sched }
  let s := { s with slot := clearKeys (64 * g) 64 s.slot, tin := clearKeys (1024 * g) 1024 s.tin }
  let s := { s with fab := { s.fab with arrivals := s.fab.arrivals.filter (fun a => a.g != g) } }
  s.wr SECGON.SEC (putBit (s.rd SECGON.SEC 0 (g / 32)) (g % 32) false) 0 (g / 32)

/-- The source of a cold takeover keeps its BALSTAT (R336, R339). -/
def State.balKeep (s : State) (g : Nat) : State :=
  let w := (s.reg (BALSTAT.WHOLE.adr g 0)).toNat
  s.modRel (fun r => { r with balKept := r.balKept.set (fun _ => 0) (s.phys g) w })

/-- The cold takeover of `g` by `p` (R339). -/
def State.coldGo (s : State) (g p : Nat) : State :=
  let src := s.phys g
  let s := ((s.balKeep g).coldEngine g).coldChannels g
  let s := (s.wr LMAP.PHYS p 0 g).wr PHEALTH.STATE 0 0 p
  let s := s.modRel (fun r => { r with marked := r.marked.filter (· != src), nCold := satTo 0xFFFF (r.nCold + 1) })
  let s := if src < 68 then s.enterSuspect src else s
  let s := ((s.wr SPRSTAT.LOG g).wr SPRSTAT.TGT p).wr SPRSTAT.LASTRES 0
  s.raise 7813 (2 ^ 31 + g * 2 ^ 22 + src * 2 ^ 8 + p)

/-- COLD_TAKEOVER: the first request, a COLD one, is carried out or refused. -/
def State.coldTake (s : State) : State :=
  match s.sprQ, s.tko with
  | r :: rest, none =>
    if ¬ r.cold then s
    else
      let s := { s with sprQ := rest }
      match s.sprTarget r with
      | .error e => s.wr SPRSTAT.LASTRES e
      | .ok p => s.coldGo r.log p
  | _, _ => s

/-! ### Self-tests (R340) -/

/-- SELFTEST_START: an idle suspect gondola is tested automatically. -/
def State.testAuto (s : State) (p : Nat) : State :=
  if s.on RELCTL.AUTOTEST ∧ s.test.isNone ∧ s.rd PHEALTH.STATE 0 p = 3 then s.testGo p else s

/-- SELFTEST_DONE: the test passes (`check` 0) or fails a check. A gondola that passes has applied the latest microcode image
(R125). The first check readmits an isolated port; where it fails,
the stall is raised again (R22). -/
def State.testDone (s : State) (check : Nat) : State :=
  match s.test with
  | none => s
  | some p =>
    let s := { s with test := none }
    let s := if ¬ s.isolated p then s else if check = 1 then s.raise 7680 p else s.setIso p false
    if check = 0 then ((s.mcPut p).wr PHEALTH.STATE (if s.rel.testWas = 5 then 5 else 1) 0 p).raise 7815 (2 ^ 31 + p)
    else ((s.suspMark p 5).wr PHEALTH.STATE 5 0 p).raise 7815 (check % 8 * 2 ^ 28 + p)

/-! ### Margin re-planning (R332 to R334) -/

/-- A slack in ns as an event carries it: signed, saturating. -/
def slackNs (v : Int) : Nat := ofSigned 16 (satSigned 16 (v / 16))

/-- The logical gondola with the least slack, the lower number on a tie. -/
def worstOf : List (Nat × Int) → Option (Nat × Int)
  | [] => none
  | x :: r => match worstOf r with
    | some y => if y.2 < x.2 then some y else some x
    | none => some x

/-- The remaining margin of a slot in 1/4096, where its slack is computed (R334). -/
def State.slotMargin (s : State) (g k : Nat) : Option Int :=
  (s.slotS g k).map (fun x =>
    (((s.dlrec g k 1 : Int) - s.rd MARGCTL.TARGET) * 800 * 4096) / (if x = 0 then 1 else x : Nat) - s.slackK g)

/-- The remaining margin M of R334. -/
def State.marginM (s : State) : Option Int :=
  ((upFrom 0 64).flatMap (fun g => (upFrom 0 64).filterMap (s.slotMargin g))).foldl (fun b x =>
    match b with
    | some y => some (min x y)
    | none => some x) none

/-- MARGLIFE is brought up to date; the projection is the fits' (R334, notes/assumptions/4.md). -/
def State.lifeLook (s : State) : State :=
  let m := s.marginM.getD 0
  let s := s.wr MARGLIFE.MARGIN (satTo 0x7FFF m.toNat)
  if s.on MARGLIFE.VALID then
    let (v, s) := s.fresh
    s.wr MARGLIFE.YEARS (if s.marginM.isNone then 0xFFFF else v)
  else s

/-- Whether the re-planner's next evaluation has come (R332). -/
def State.evalDue (s : State) : Bool :=
  match s.rel.wait with
  | .go => true
  | .settle _ => s.on AVSSTAT.PMFAIL
  | .reads m n => decide (n + 16 ≤ (s.monU m).n)
  | .tko => s.tko.isNone && s.sprQ.isEmpty

/-- A step of the re-planner is counted and reported (R332). -/
def State.marginStep (s : State) (step g v : Nat) : State :=
  (s.cnt MARGSTAT.STEPS).raise 7809 (step * 2 ^ 30 + g * 2 ^ 22 + v)

/-- The spare that step 3 moves gondola `g` to: K at least 0x7B below that of its physical gondola (R332). -/
def State.migrateTo (s : State) (g : Nat) : Option Nat :=
  match s.leastK with
  | some p => if s.rd MON.K 0 p + 0x7B ≤ s.rd MON.K 0 (s.phys g) ∧ s.tko.isNone ∧ s.sprQ.isEmpty then some p else none
  | none => none

/-- The first step available for the worst gondola (R332). -/
def State.replan (s : State) (g : Nat) (v : Int) : State :=
  let m := s.phys g
  let wait (s : State) (x : MgWait) : State := s.modRel (fun r => { r with wait := x })
  if s.on MARGCTL.VEN ∧ s.vReq < s.rd AVSCTL.VMAX ∧ ¬ s.on AVSSTAT.PMFAIL then
    let nv := min (s.rd AVSCTL.VMAX) (s.vReq + 10)
    ((wait (s.modRel (fun r => { r with rv := nv })) (.settle m)).vLook).marginStep 1 g nv
  else if s.on MARGCTL.TEN ∧ s.rd MARGSTAT.THR < 2 then
    let s := s.inc MARGSTAT.THR
    (wait s (.reads m (s.monU m).n)).marginStep 2 g (s.rd MARGSTAT.THR)
  else match s.on MARGCTL.MEN, s.migrateTo g with
    | true, some p =>
      (((wait s .tko).sprAsk ⟨false, false, false, g, p⟩).cnt MARGSTAT.MIGR).marginStep 3 g p
    | _, _ =>
      let s := s.wr MARGSTAT.LOW 1
      if s.rel.lowRep then s else (s.modRel (fun r => { r with lowRep := true })).raise 7808 (g * 2 ^ 22 + slackNs v)

/-- A negative slack is reported at once, once as the condition begins (R332). -/
def State.negLook (s : State) (g : Nat) (v : Int) : State :=
  if v < 0 then
    (if s.rel.negRep then s else (s.modRel (fun r => { r with negRep := true })).raise 7808 (g * 2 ^ 22 + slackNs v))
  else s.modRel (fun r => { r with negRep := false })

/-- MARGIN_EVALUATION: every 10 ms on TB17 (R332, R334). -/
def State.marginEval (s : State) : State :=
  if s.strobe s.now % ms 10 ≠ 0 then s
  else
    let s := s.lifeLook.marginLook
    if ¬ s.on MARGCTL.EN then s
    else match worstOf s.slacks with
      | none => s
      | some (g, v) =>
        let s := (s.wr MARGSTAT.WORST g).negLook g v
        let s := if s.ample then (s.wr MARGSTAT.LOW 0).modRel (fun r => { r with lowRep := false }) else s
        if ¬ s.evalDue then s
        else
          let s := s.modRel (fun r => { r with wait := .go })
          if v < (16 * s.rd MARGCTL.TARGET : Nat) then s.replan g v else s

/-- MARGIN_STEP_BACK: one step after each second of ample slack (R333). -/
def State.marginBack (s : State) : State :=
  match s.rel.goodFrom with
  | some a =>
    if s.on MARGCTL.EN ∧ s.ample ∧ a + ms 1000 ≤ s.now then
      let s := s.modRel (fun r => { r with goodFrom := some s.now })
      if s.on MARGSTAT.THR then s.wr MARGSTAT.THR (s.rd MARGSTAT.THR - 1)
      else if s.rd AVSSTAT.LOOP < s.rel.rv then
        (s.modRel (fun r => { r with rv := max (s.rd AVSSTAT.LOOP) (r.rv - 10) })).vLook
      else s
    else s
  | none => s

/-! ### Telemetry (R343) -/

/-- 16-bit values two to a word, the lower first. -/
def halves : List Nat → List Nat
  | a :: b :: r => (a % 2 ^ 16 + b % 2 ^ 16 * 2 ^ 16) :: halves r
  | [a] => [a % 2 ^ 16]
  | [] => []

/-- The 128 words of a telemetry block with its SEQ, the highest and mean junction temperatures in 0.1 °C (R343). -/
def State.telWords (s : State) (seq : Nat) (hot mean : Int) : List Nat :=
  let t := s.fine 0 / 64
  let st := (s.reg (MARGSTAT.WHOLE.adr 0 0)).toNat
  let flags := s.rd MARGSTAT.VMAXED * 2 ^ 31 + s.rd MARGSTAT.THR * 2 ^ 29 + s.rd MARGSTAT.LOW * 2 ^ 28 + bitsAt st 22 6 * 2 ^ 22
  [seq, flags, t % 2 ^ 32, t / 2 ^ 32 % 2 ^ 32, s.rd AVSSTAT.REQ * 2 ^ 16 + s.rd SUPMON.LEVEL 0 0,
    ofSigned 16 hot * 2 ^ 16 + ofSigned 16 mean, s.rd MARGLIFE.MARGIN * 2 ^ 16 + s.rd MARGLIFE.YEARS,
    s.rel.telCe * 2 ^ 16 + s.rel.telUe, s.rd SCRUBSTAT.LASTPASS * 2 ^ 16 + satTo 0xFFFF (s.rd COHSTAT.LASTSWEEP),
    (upFrom 0 4).foldl (fun a i => a + s.rd PHEALTH.STATE 0 (64 + i) * 2 ^ (8 * i)) 0, s.rel.nWarm * 2 ^ 16 + s.rel.nCold]
    ++ List.replicate 5 0
    ++ halves ((upFrom 0 96).map (fun m => s.rd MON.K 0 m))
    ++ halves ((upFrom 0 64).map (fun g =>
      if s.rd SLACKMIN.SLACK g = 0x80000000 then 0x8000 else slackNs (toSigned 32 (s.rd SLACKMIN.SLACK g))))
    ++ List.replicate 32 0

/-- The block reaches shared SRAM in eight accesses (R34, R343), or is discarded behind the service engine's isolated port
(R20). -/
def State.telWrite (s : State) (a : Nat) (ws : List Nat) : State :=
  if s.isolated 211 then s else
  (upFrom 0 8).foldl (fun s i => (s.blockWrite .jtag (a + 64 * i) (((ws.drop (16 * i)).take 16).flatMap (toBytes 4))).1) s

/-- The interval of the blocks in force (R343). -/
def State.telEach (s : State) : Nat := ms (s.rd TELCTL.PERIOD) * (if s.on MARGSTAT.THR then 4 else 1)

/-- TELEMETRY_BLOCK (R343): SEQ odd, the data, SEQ even; then EV_TELEMETRY. In Moored shared SRAM only keeps its contents
(R346). -/
def State.telBlock (s : State) (hot mean : Int) : State :=
  if ¬ s.on TELCTL.EN ∨ s.pw.deep ∨ s.now < s.rel.telAt + s.telEach then s
  else
    let n := (s.rel.telSeq + 2) % 2 ^ 32
    let s := s.telWrite (s.rd TELBASE.BASE * 512) (s.telWords n hot mean)
    (s.modRel (fun r => { r with telSeq := n, telAt := s.now, telCe := 0, telUe := 0 })).raise 7819 (n / 2 % 2 ^ 16)

/-- A write of TELCTL: PERIOD held to 10 to 60,000; an interval begins as EN is set (R342, R343). -/
def State.telctlWrite (s : State) (w : Word) : State :=
  let was := s.on TELCTL.EN
  let p := TELCTL.PERIOD.of w
  let s := (s.wr TELCTL.EN (TELCTL.EN.of w)).wr TELCTL.PERIOD (if p < 10 then 10 else satTo 60000 p)
  if s.on TELCTL.EN ∧ ¬ was then s.modRel (fun r => { r with telAt := s.now }) else s

/-! ### The meanings -/

def execScrubWord (t mem p : Nat) (err : Ecc) (s : State) : Out :=
  s.ran (mem < 3 && p < 68) ((s.advance t).scrubWord mem p err)

def execMonitorReading (t m k : Nat) (temp : Int) (s : State) : Out := s.ran (m < 96) ((s.advance t).monRead m k temp)

def execReaderLatencyTracking (t skew : Nat) (s : State) : Out := s.ran true ((s.advance t).skewPass skew)

def execMarginEvaluation (t : Nat) (s : State) : Out := s.ran true (s.advance t).marginEval

def execMarginStepBack (t : Nat) (s : State) : Out := s.ran true (s.advance t).marginBack

/-- The word of an SPRCMD write with its OP. -/
def sprWord (op : Nat) (w : Word) : Word := BitVec.ofNat 32 (putBits w.toNat 29 3 op)

def execSprcmdWarm (t : Nat) (src : Src) (val : Word) (s : State) : Out :=
  s.ran src.ok ((s.advance t).authWrite src (SPRCMD.WHOLE.adr 0 0) (sprWord 1 val) (·.sprcmdWrite (sprWord 1 val)))

def execSprcmdCold (t : Nat) (src : Src) (val : Word) (s : State) : Out :=
  s.ran src.ok ((s.advance t).authWrite src (SPRCMD.WHOLE.adr 0 0) (sprWord 2 val) (·.sprcmdWrite (sprWord 2 val)))

def execSprcmdTest (t : Nat) (src : Src) (val : Word) (s : State) : Out :=
  s.ran src.ok ((s.advance t).authWrite src (SPRCMD.WHOLE.adr 0 0) (sprWord 3 val) (·.sprcmdWrite (sprWord 3 val)))

def execSprcmdAbort (t : Nat) (src : Src) (val : Word) (s : State) : Out :=
  s.ran src.ok ((s.advance t).authWrite src (SPRCMD.WHOLE.adr 0 0) (sprWord 4 val) (·.sprcmdWrite (sprWord 4 val)))

def execTakeoverStart (t : Nat) (s : State) : Out := s.ran true (s.advance t).tkoStart

def execTakeoverCopyDone (t : Nat) (s : State) : Out := s.ran true (s.advance t).tkoCopied

def execTakeoverJoin (t mism : Nat) (s : State) : Out := s.ran true ((s.advance t).tkoJoin mism)

def execTakeoverHandover (t mism : Nat) (s : State) : Out := s.ran true ((s.advance t).tkoHandover mism)

def execTakeoverTimeLimit (t : Nat) (s : State) : Out := s.ran true (s.advance t).tkoLimit

def execColdTakeover (t : Nat) (s : State) : Out := s.ran true (s.advance t).coldTake

def execSelftestStart (t p : Nat) (s : State) : Out := s.ran (p < 68) ((s.advance t).testAuto p)

def execSelftestDone (t check : Nat) (s : State) : Out := s.ran (check < 6) ((s.advance t).testDone check)

def execTelemetryBlock (t : Nat) (hot mean : Int) (err : Ecc) (s : State) : Out :=
  s.ran true ((s.advance t).withEcc err (·.telBlock hot mean))

end Sys2Proof.Machine
end

