-- ==== Sys2Proof/Machine/Reset.lean ====
section
/-! DEFINITION. What several of the last chapters share: revoking output enables (R355, R395), closing a debug session
(R380), and the device reset (R390). -/
namespace Sys2Proof.Machine
open Reg

/-! ### Output enables (R393, R395) -/

/-- The charge-time channels of a bank follow its enable: they wait for it with NOOE, and their initial baseline restarts with
it (R174). -/
def State.ctmOe (s : State) (b : Nat) (v : Bool) : State :=
  (upFrom (64 * b) 64).foldl (fun s n =>
    if s.mode n = 4 ∧ s.on CTMCTL.EN n then (if v then s.ctmBegin n else s.wr CTMSTAT.NOOE 1 n) else s) s

/-- The enable of a bank takes a value, reported where it changes; `ts` is the effective instant (R395). -/
def State.setOe (s : State) (b : Nat) (v : Bool) (ts : Nat) : State :=
  if bitAt (s.rd BANKOESTAT.OE) b = v then s
  else ((s.wr BANKOESTAT.OE (putBit (s.rd BANKOESTAT.OE) b v)).ctmOe b v).raiseAt 7714 (b2n v * 2 ^ 8 + b) ts

/-- Hardware revokes the enables of some banks; releases of them that have not taken effect are lost (R395). -/
def State.revokeOe (s : State) (mask : Nat) : State :=
  let oe := s.boot.oe.map (fun (a, v, m) => (a, v, if v then (onesOf m 16).foldl (fun x b => if bitAt mask b then x else x + 2 ^ b) 0 else m))
  let s := { s with boot := { s.boot with oe := oe } }
  (onesOf mask 16).foldl (fun s b => s.setOe b false s.tsInt) s

/-! ### Debug sessions (R380) -/

def State.modSec (s : State) (f : SecH → SecH) : State := { s with secH := f s.secH }

/-- The open session closes with a cause: breakpoints go, and engines that a debug halt stopped resume (R380). -/
def State.closeSess (s : State) (cause : Nat) : State :=
  if s.secH.sess.isNone then s
  else
    let s := (s.modSec (fun h => { h with sess := none })).wr DBGSTAT.LEVEL 0
    let s := (upFrom 0 64).foldl (fun s g =>
      (s.wr DBGECTL.BPEN 0 g).modEn g (fun e => { e with halted := false, haltReq := false, stepping := false })) s
    s.raise 8067 cause

/-! ### Device reset (R390) -/

/-- What a device reset finds of the fuses: a life-cycle command it interrupts leaves them half-programmed; whether its
RETIRE had destroyed a key slot is open (R363, notes/assumptions/4.md). -/
def SecH.cut (h : SecH) (v : Nat) : Fuse :=
  match h.op with
  | none => h.fuse
  | some o =>
    let k := o.op == 4 && v % 2 == 1
    { h.fuse with half := some o.dest, keyCut := k, slots := if k then List.replicate 256 0xFF else h.fuse.slots }

/-- Secure SRAM as a device reset leaves it: a wipe it interrupts counts as done (R370, R372). -/
def State.secKept (s : State) : List Host.Cell := if s.secH.wipe.isSome then [] else s.mem.sec

/-- A device reset (R390): everything takes its reset value but the fuses, secure SRAM, the tampers counted since power-on
and those seen in Grounded (R373, R374), and the outside's PERST#; boot begins at `stage`. -/
def State.deviceReset (s : State) (stage : Nat) (again : Bool) : State :=
  let (v, s) := s.fresh
  let z := State.reset
  let c := s.rd TAMPSTAT.COUNT
  let g := s.secH.gndTamp
  let z := { z with now := s.now, freeCtr := s.freeCtr, pending := s.pending, resp := s.resp }
  let z := { z with mem := { z.mem with sec := s.secKept, secPoison := if s.secH.wipe.isSome then [] else s.mem.secPoison }, host := { z.host with perst := s.host.perst } }
  let z := { z with secH := { z.secH with fuse := s.secH.cut v, gndTamp := g } }
  let z := { z with boot := { z.boot with stage := stage, again := again, at_ := s.now } }
  (z.wrs 0 [(TAMPSTAT.COUNT, c), (TAMPSTAT.SEEN, g), (TAMPSTAT.GND, if g = 0 then 0 else 1)])

end Sys2Proof.Machine
end

