-- ==== Sys2Proof/Machine/Secure.lean ====
section
/-! DEFINITION. Life cycle, keys, secure SRAM, tamper, debug sessions and the JTAG port (chapter 15, R360 to R385). -/
namespace Sys2Proof.Machine
open Reg

/-! ### Life-cycle commands (R361 to R364, R382) -/

/-- A refused life-cycle command (R362). -/
def State.lcRefuse (s : State) (err : Nat) : State := s.wr LCRES.ERR err

/-- The bytes of a record or token: from shared SRAM at LCARG, or from the staging buffer where it holds them all (R364,
R382). -/
def State.lcBytes (s : State) (jtag : Bool) (at_ n : Nat) : State × Option (List Byte) :=
  if jtag then (s, if at_ + n ≤ s.secH.stage.length then some ((s.secH.stage.drop at_).take n) else none)
  else s.secRead (s.rd LCARG.ADDR * 8 + at_) n

/-- A public key as a record or an image holds it: x then y, 48 bytes each, big-endian. -/
def keyOf (l : List Byte) : Nat := ofBytesBE l

/-- Whether a provisioning record has the form of R364. -/
def recordOk (r : List Byte) : Bool :=
  let clen := entryWord r 1 % 2 ^ 16
  entryWord r 0 == 0x50524F56 && decide (1 ≤ clen ∧ clen ≤ 1536) && ((r.drop 0x1C8).take 0x38).all (· == 0)

/-- The outcome of the checks of a provisioning record with its certificate, as ERR (R362, R364). -/
def State.recordCheck (s : State) (r cert : List Byte) : Nat :=
  let c := cert.map (·.toNat)
  let root := keyOf ((r.drop 8).take 96)
  if ¬ recordOk r then 4
  else if ¬ s.secH.pair.any (fun p => Config.certKey c == Config.pubKey p.1) ∨ ¬ Config.certOk root c then 5
  else if Config.certSerial c ≠ Config.devSer then 6
  else 0

/-- The fuses as PROVISION leaves them. -/
def State.provFuse (s : State) (r cert : List Byte) : Fuse :=
  { s.secH.fuse with
    lc := 1, tethen := bitAt (entryWord r 1) 31, mcap := Config.certMaster (cert.map (·.toNat)),
    trust := keyOf ((r.drop 8).take 96), dbgroot := keyOf ((r.drop 0x68).take 96), cert := cert.map (·.toNat),
    slots := (r.drop 0xC8).take 256, nonce := (s.secH.pair.getD (0, 0)).2 }

/-- A transition is accepted: it runs, and an open session closes (R362, R380). -/
def State.lcAccept (s : State) (o : LcOp) : State :=
  ((s.modSec (fun h => { h with op := some o })).wr LCSTAT.BUSY 1).closeSess 4

/-- PROVISION reads and checks its record (R364). -/
def State.lcProvision (s : State) (jtag : Bool) : State :=
  match s.lcBytes jtag 0 0x200 with
  | (s, none) => s.lcRefuse 7
  | (s, some r) =>
    if ¬ recordOk r then s.lcRefuse 4
    else match s.lcBytes jtag 0x200 (entryWord r 1 % 2 ^ 16) with
      | (s, none) => s.lcRefuse 7
      | (s, some cert) =>
        let e := s.recordCheck r cert
        if e ≠ 0 then s.lcRefuse e else s.lcAccept ⟨2, 1, s.provFuse r cert⟩

/-- A fresh nonce after every token check (R377). -/
def State.newNonce (s : State) : State :=
  let (v, s) := s.fresh
  s.wr64 DBGNONCE_LO.NONCE DBGNONCE_HI.NONCE v

/-- The signature of a token verifies: under DBGROOT, or SPFKEY for an RMA token in Blank (R361, R377). -/
def State.tokSig (s : State) (t : List Byte) : Bool :=
  let key := if s.rd LCSTAT.STATE = 0 then Config.spfKey else s.secH.fuse.dbgroot
  Config.ecdsaOk key (Config.sha384 ((t.take 0x40).map (·.toNat))) (ofBytesBE ((t.drop 0x40).take 48)) (ofBytesBE ((t.drop 0x70).take 48))

/-- The form of a token with a level (R377). -/
def tokForm (t : List Byte) (rma : Bool) : Bool :=
  let l := bitsAt (entryWord t 1) 24 8
  t.length == 160 && entryWord t 0 == 0x44424754 && (if rma then l == 0x0F else decide (1 ≤ l ∧ l ≤ 3))
    && decide (1 ≤ entryWord t 1 % 2 ^ 16) && ((t.drop 0x18).take 0x28).all (· == 0)

/-- The serial number and the nonce of a token. -/
def tokSerial (t : List Byte) : Nat := entryWord t 2 + entryWord t 3 * 2 ^ 32

def tokNonce (t : List Byte) : Nat := entryWord t 4 + entryWord t 5 * 2 ^ 32

/-- RETIRE reads and checks its RMA token (R361, R362, R377). -/
def State.lcRetire (s : State) (jtag : Bool) : State :=
  match s.lcBytes jtag 0 160 with
  | (s, none) => s.lcRefuse 7
  | (s, some t) =>
    let e := if ¬ tokForm t true then 4
      else if tokNonce t ≠ s.rd64 DBGNONCE_LO.NONCE DBGNONCE_HI.NONCE ∨ ¬ s.tokSig t then 5
      else if tokSerial t ≠ Config.devSer then 6 else 0
    let s := s.newNonce
    if e ≠ 0 then s.lcRefuse e
    else s.lcAccept ⟨4, 3, { s.secH.fuse with lc := 3, slots := List.replicate 256 0xFF }⟩

/-- A life-cycle command from PF0, or from JTAG (R362). -/
def State.lccmd (s : State) (jtag : Bool) (w : Word) : State :=
  let op := LCCMD.OP.of w
  let st := s.rd LCSTAT.STATE
  let allowed := (op == 1 && st == 0) || (op == 2 && st == 0) || (op == 3 && st == 1) || (op == 4 && decide (st < 3))
  if op = 0 ∨ 4 < op then s
  else if s.on LCSTAT.BUSY then s.lcRefuse 1
  else if ¬ allowed ∨ LCCMD.CONFIRM.of w ≠ 0x4C43 then s.lcRefuse 2
  else if s.on BANKOESTAT.OE then s.lcRefuse 3
  else match op with
    | 1 => (s.modSec (fun h => { h with getkey := true })).wr LCSTAT.BUSY 1
    | 2 => s.lcProvision jtag
    | 3 => s.lcAccept ⟨3, 2, { s.secH.fuse with lc := 2, fielddbg := LCCMD.FIELDDBG.of w == 1 }⟩
    | _ => s.lcRetire jtag

/-- PUBKEY shows a public key (R364). -/
def State.pubkeyShow (s : State) (k : Nat) : State :=
  let b := (toBytes 96 k).reverse
  (upFrom 0 24).foldl (fun s i => s.wr PUBKEY.WORD (entryWord b i) 0 i) s

/-- GETKEY_DONE: the pair is derived from DSEED and a fresh nonce (R364). -/
def State.getkeyDone (s : State) : State :=
  if ¬ s.secH.getkey then s
  else
    let (v, s) := s.fresh
    let n := v % 2 ^ 384
    let k := Config.idKey Config.dseed n
    let s := s.modSec (fun h => { h with getkey := false, pair := some (k, n) })
    ((s.pubkeyShow (Config.pubKey k)).wr LCSTAT.BUSY 0).wr LCRES.DONE 1

/-- LC_COMMAND_DONE: the fuses are programmed, secure SRAM is wiped, the change is reported and the device resets (R362). -/
def State.lcDone (s : State) : State :=
  match s.secH.op with
  | none => s
  | some o =>
    let old := s.rd LCSTAT.STATE
    let s := { s with mem := s.mem.wiped }.modSec (fun h => { h with fuse := o.fuse, op := none })
    (s.raise 8064 (old * 16 + o.dest)).deviceReset 1 false

/-! ### Revocation list (R366) -/

/-- A write of REVCTL. -/
def State.revGo (s : State) (w : Word) : State :=
  if REVCTL.GO.of w = 0 then s
  else if s.secH.revLoad.isSome then s.wr REVSTAT.ERR 1
  else
    let a := REVCTL.ADDR.of w * 8
    let (s, h) := s.secRead a 8
    let (s, img) := match h with
      | none => (s, none)
      | some h => s.secRead a (if bitsAt (entryWord h 1) 0 9 ≤ 256 then 8 + 8 * bitsAt (entryWord h 1) 0 9 + 96 else 8)
    (s.modSec (fun h => { h with revLoad := some img })).wr REVSTAT.BUSY 1

/-- The outcome of the checks of a list, as ERR. -/
def State.revVerdict (s : State) (img : List Byte) : Nat :=
  let n := bitsAt (entryWord img 1) 0 9
  let body := img.take (8 + 8 * n)
  let sig := img.drop (8 + 8 * n)
  if entryWord img 0 ≠ 0x5245564C ∨ 256 < n then 2
  else if bitsAt (entryWord img 1) 16 16 ≤ s.secH.revVer then 3
  else if ¬ Config.ecdsaOk s.secH.fuse.trust (Config.sha384 (body.map (·.toNat))) (ofBytesBE (sig.take 48)) (ofBytesBE ((sig.drop 48).take 48)) then 4
  else 0

/-- REVLIST_CHECK_DONE: the list replaces the previous one, or is refused. -/
def State.revDone (s : State) : State :=
  match s.secH.revLoad with
  | none => s
  | some img =>
    let s := (s.modSec (fun h => { h with revLoad := none })).wr REVSTAT.BUSY 0
    match img with
    | none => s.wr REVSTAT.ERR 5
    | some b =>
      let e := s.revVerdict b
      if e ≠ 0 then s.wr REVSTAT.ERR e
      else
        let n := bitsAt (entryWord b 1) 0 9
        let v := bitsAt (entryWord b 1) 16 16
        let l := (upFrom 0 n).map (fun i => entryWord b (2 + 2 * i) + entryWord b (3 + 2 * i) * 2 ^ 32)
        let s := (s.modSec (fun h => { h with rev := l, revVer := v })).wrs 0 [(REVSTAT.ERR, 0), (REVSTAT.COUNT, n)]
        s.raise 8069 (v * 2 ^ 16 + n)

/-! ### Secure gondolas (R367, R368) -/

/-- A write of SECGON: bits are only set (R368). -/
def State.secgonWrite (s : State) (i : Nat) (w : Word) : State := s.wr SECGON.SEC (s.rd SECGON.SEC 0 i ||| w.toNat) 0 i

/-! ### Tamper and wipe (R372 to R374) -/

/-- A wipe starts, or starts again; a microcode load under way fails (R372). -/
def State.wipeGo (s : State) : State :=
  let s := { s with mcl := s.mcl.map (fun (m : McLoad) => { m with ok := false }) }
  (s.modSec (fun h => { h with wipe := some s.now })).wr TAMPSTAT.WIPING 1

/-- The user key slots are copied into secure SRAM, the device area is zero (R367, R370). -/
def State.slotsCopy (s : State) : State := s.secStore 0x3FF00 s.secH.fuse.slots

/-- WIPE_DONE: secure SRAM is zero, and with it the revocation list and the staging buffer; the key slots are copied again
unless a RETIRE or a tamper has destroyed them (R366, R372, R382). -/
def State.wipeDone (s : State) : State :=
  if s.secH.wipe.isNone then s
  else
    let s := { s with mem := s.mem.wiped }
    let s := s.modSec (fun h => { h with wipe := none, rev := [], revVer := 0, stage := [], stagePtr := 0 })
    let s := (s.wr TAMPSTAT.WIPING 0).wr REVSTAT.COUNT 0
    if s.on TAMPSTAT.KEYGONE ∨ s.rd LCSTAT.STATE = 3 then s else s.slotsCopy

/-- The identity private key is destroyed until the next boot (R374). -/
def State.keyGone (s : State) (k : Nat) : State :=
  let had := s.secH.priv.isSome
  let s := (s.modSec (fun h => { h with priv := none })).wrs 0 [(TAMPSTAT.KEYGONE, 1), (LCSTAT.KEYOK, 0)]
  if had then s.raise 8070 (2 ^ k) else s

/-- TAMPER_DETECT: source `k` of R373 trips, where it is enabled (R374). -/
def State.tamper (s : State) (k : Nat) : State :=
  if ¬ bitAt (s.rd TAMPCTL.EN) k then s
  else if s.pw.gnd then
    let s := s.modSec (fun h => { h with gndTamp := if bitAt h.gndTamp k then h.gndTamp else h.gndTamp + 2 ^ k })
    (({ s with mem := s.mem.wiped }.wrs 0 [(TAMPSTAT.SEEN, s.secH.gndTamp), (TAMPSTAT.GND, 1)]).inc TAMPSTAT.COUNT).wr64 TAMPTS_LO.VALUE TAMPTS_HI.VALUE 0
  else
    let s := ((s.keyGone k).closeSess 3).wipeGo
    let s := if s.on TAMPCTL.OEOFF then s.revokeOe 0xFFFF else s
    let s := (s.wr TAMPSTAT.SEEN (putBit (s.rd TAMPSTAT.SEEN) k true)).inc TAMPSTAT.COUNT
    (s.wr64 TAMPTS_LO.VALUE TAMPTS_HI.VALUE (s.fine 0 / 64)).raise 8065 (2 ^ k)

/-- A write of TAMPCTL: in Indigo EN bits are only set, and POL is fixed while its pin's EN bit is set (R373). -/
def State.tampctlWrite (s : State) (w : Word) : State :=
  let indigo := s.rd LCSTAT.STATE == 2
  let old := s.rd TAMPCTL.EN
  let en := if indigo then old ||| TAMPCTL.EN.of w else TAMPCTL.EN.of w
  let pol := (upFrom 0 4).foldl (fun x i =>
    putBit x i (if indigo && bitAt old i then bitAt (s.rd TAMPCTL.POL) i else bitAt (TAMPCTL.POL.of w) i)) 0
  s.wrs 0 [(TAMPCTL.EN, en), (TAMPCTL.POL, pol), (TAMPCTL.OEOFF, TAMPCTL.OEOFF.of w)]

/-! ### Debug sessions (R375 to R377) -/

/-- Whether the life-cycle state allows a level (R360). -/
def State.levelOk (s : State) (l : Nat) : Bool :=
  decide (1 ≤ l ∧ l ≤ 3) && (s.rd LCSTAT.STATE != 2 || l == 1 || (l == 2 && s.on LCSTAT.FIELDDBG))

/-- An open is refused (R376). -/
def State.dbgRefuse (s : State) (jtag : Bool) (reason : Nat) : State :=
  (s.wr DBGSTAT.LASTREF reason).raise 8068 (b2n jtag * 16 + reason)

/-- A session opens. -/
def State.dbgOpened (s : State) (jtag : Bool) (level : Nat) (dur : Option Nat) : State :=
  let s := s.modSec (fun h => { h with sess := some ⟨level, jtag, s.now, dur⟩ })
  (s.wrs 0 [(DBGSTAT.LEVEL, level), (DBGSTAT.PATH, b2n jtag)]).raise 8066 (b2n jtag * 16 + level)

/-- An open from a path at a level: refused, done at once where no token is required, or its token is checked; `tok`
fetches the token, and a check waits until the device is awake (R376, R383). -/
def State.dbgOpen (s : State) (jtag : Bool) (level : Nat) (tok : State → State × Option (List Byte)) : State :=
  if s.pw.gnd then s.dbgRefuse jtag 9
  else if s.secH.sess.isSome ∨ s.secH.chk.isSome then s.dbgRefuse jtag 1
  else if ¬ s.levelOk level then s.dbgRefuse jtag 6
  else if s.rd LCSTAT.STATE = 0 ∨ s.rd LCSTAT.STATE = 3 then s.dbgOpened jtag level none
  else if s.secH.lockTo.any (fun a => decide (s.now < a)) then s.dbgRefuse jtag 8
  else if s.asleep then s.hold (.dbgopen level)
  else
    let (s, t) := tok s
    (s.modSec (fun h => { h with chk := some ⟨level, jtag, t⟩ })).wr DBGSTAT.CHECKING 1

/-- The outcome of a token check, as a reason of R376. -/
def State.tokVerdict (s : State) (c : TokChk) : Nat :=
  match c.tok with
  | none => 2
  | some t =>
    if ¬ tokForm t false then 2
    else if tokSerial t ≠ Config.devSer then 3
    else if tokNonce t ≠ s.rd64 DBGNONCE_LO.NONCE DBGNONCE_HI.NONCE then 4
    else if ¬ s.tokSig t then 5
    else if bitsAt (entryWord t 1) 24 8 < c.level then 6
    else if ¬ bitAt (entryWord t 1) (if c.jtag then 17 else 16) then 7
    else 0

/-- TOKEN_CHECK_DONE: the session opens or is refused, and a fresh nonce is loaded; every eighth failure in a row locks
out checks for 10 s (R377). -/
def State.tokDone (s : State) : State :=
  match s.secH.chk with
  | none => s
  | some c =>
    let e := s.tokVerdict c
    let s := ((s.modSec (fun h => { h with chk := none })).wr DBGSTAT.CHECKING 0).newNonce
    if e = 0 then (s.wr DBGSTAT.FAILS 0).dbgOpened c.jtag c.level (c.tok.map (fun t => entryWord t 1 % 2 ^ 16))
    else
      let s := (s.cnt DBGSTAT.FAILS).dbgRefuse c.jtag e
      if s.rd DBGSTAT.FAILS % 8 = 0 ∨ s.rd DBGSTAT.FAILS = 255 then s.modSec (fun h => { h with lockTo := some (s.now + ms 10000) }) else s

/-- A write of DBGCTL from PF0's path, or from JTAG within its session (R376, R380). -/
def State.dbgctlWrite (s : State) (src : Src) (w : Word) : State :=
  let jtag := src == Src.jtag
  let s := if DBGCTL.CLOSE.of w = 1 ∧ s.secH.sess.any (fun x => x.jtag == jtag) then s.closeSess 1 else s
  if DBGCTL.OPEN.of w = 1 then s.dbgOpen jtag (DBGCTL.LEVEL.of w) (fun s => s.secRead (DBGCTL.TOKADDR.of w * 8) 160) else s

/-- DEBUG_SESSION_EXPIRY (R380). -/
def State.sessExpire (s : State) : State :=
  if s.secH.sess.any (fun x => x.dur.any (fun d => decide (x.at_ + ms (1000 * d) ≤ s.now))) then s.closeSess 2 else s

/-- DEBUG_LOCKOUT_EXPIRY (R377). -/
def State.lockEnd (s : State) : State :=
  if s.secH.lockTo.any (fun a => decide (a ≤ s.now)) then s.modSec (fun h => { h with lockTo := none }) else s

/-- Seconds left in the session, rounded up (DBGSTAT.REMAIN). -/
def State.sessLeft (s : State) : Nat :=
  match s.secH.sess with
  | some x => match x.dur with
    | some d => (x.at_ + ms (1000 * d) - s.now + (ms 1000 - 1)) / ms 1000
    | none => 0
  | none => 0

/-! ### Debugging an engine (R368, R375, R378, R379) -/

/-- Whether the session lets a path reach the debug registers of gondola `g` at a level: D3 where it is secure. -/
def State.dbgMay (s : State) (src : Src) (g level : Nat) : Bool :=
  s.secH.sess.any (fun x => src.isPf0 && x.jtag == (src == Src.jtag) && decide ((if s.secure g then 3 else level) ≤ x.level))

/-- A write of a debug register: only from PF0 or JTAG, and only in a session that grants it; else it is dropped (R368,
R378). -/
def State.dbgWrite (s : State) (src : Src) (g level a : Nat) (f : State → State) : State :=
  if ¬ src.isPf0 then s.authDropAs src src.code 0x1FF a
  else if ¬ s.dbgMay src g level then s.authDropAs src src.code 0x1FD a
  else f s

/-- A halt is taken: a WARM takeover of the gondola is aborted (R338, R378). -/
def State.haltTko (s : State) (g : Nat) : State := if s.tko.any (fun k => k.log == g) then s.tkoAbort 5 false else s

/-- A HALT: taken at this boundary, or it waits (R378). -/
def State.dbgHalt (s : State) (g : Nat) : State :=
  if s.on BALSTAT.INBAL g ∨ (s.en g).halted then s
  else ((s.modEn g (fun e => { e with haltReq := true })).haltLook g).haltTko g

/-- What a write of DBGECTL orders: HALT, else STEP, else RESUME. -/
def State.dbgectl (s : State) (g : Nat) (w : Word) : State :=
  let s := s.wr DBGECTL.BPEN (DBGECTL.BPEN.of w) g
  if DBGECTL.HALT.of w = 1 then s.dbgHalt g
  else if DBGECTL.STEP.of w = 1 then
    (if (s.en g).halted then s.modEn g (fun e => { e with halted := false, stepping := true, bpPass := true }) else s)
  else if DBGECTL.RESUME.of w = 1 then
    s.modEn g (fun e => { e with halted := false, haltReq := false, stepping := false, bpPass := if e.halted then true else e.bpPass })
  else s

/-- BREAKPOINT_HIT: the engine stands before the instruction at DBGBP, and halts (R378). -/
def State.breakHit (s : State) (g : Nat) : State :=
  if (s.sch g).cur.isSome ∧ s.on ENGCTL.RUN g ∧ ¬ s.on BALSTAT.INBAL g ∧ s.atBreak g ∧ ¬ (s.en g).halted ∧ (s.en g).br.isNone ∧ ¬ (s.en g).busy then
    (s.modEn g (fun e => { e with halted := true, haltReq := false, stepping := false })).haltTko g
  else s

/-- The words of the trace, oldest first. -/
def Eng.traceWord (e : Eng) (i : Nat) : Nat := (e.trace.reverse.flatMap (fun x => [x.1, x.2])).getD i 0

/-- Item `i` of an engine (R384, DBGSEL). -/
def Eng.item (e : Eng) (i : Nat) : Nat :=
  if i < 16 then (e.r i).toNat
  else match i with
    | 16 => e.flags
    | 17 => e.mode
    | 18 => e.pc
    | 19 => ofSigned 64 e.acc0 % 2 ^ 32
    | 20 => ofSigned 64 e.acc0 / 2 ^ 32
    | 21 => ofSigned 64 e.acc1 % 2 ^ 32
    | 22 => ofSigned 64 e.acc1 / 2 ^ 32
    | 23 => e.l0.lc
    | 24 => e.l0.ls
    | 25 => e.l0.le
    | 26 => e.l1.lc
    | 27 => e.l1.ls
    | 28 => e.l1.le
    | i => if 32 ≤ i ∧ i < 160 then e.traceWord (i - 32) else 0

/-- One half of an accumulator is replaced. -/
def accHalf (a : Int) (hi : Bool) (v : Nat) : Int := toSigned 64 (putBits (ofSigned 64 a) (if hi then 32 else 0) 32 v)

/-- Item `i` of an engine takes a value; the trace is read-only (R379). -/
def Eng.setItem (e : Eng) (i v : Nat) : Eng :=
  if i < 16 then e.setR i (BitVec.ofNat 32 v)
  else match i with
    | 16 => { e with flags := v % 16 }
    | 17 => { e with mode := v, modeP := [] }
    | 18 => { e with pc := v }
    | 19 => { e with acc0 := accHalf e.acc0 false v }
    | 20 => { e with acc0 := accHalf e.acc0 true v }
    | 21 => { e with acc1 := accHalf e.acc1 false v }
    | 22 => { e with acc1 := accHalf e.acc1 true v }
    | 23 => { e with l0 := { e.l0 with lc := v } }
    | 24 => { e with l0 := { e.l0 with ls := v } }
    | 25 => { e with l0 := { e.l0 with le := v } }
    | 26 => { e with l1 := { e.l1 with lc := v } }
    | 27 => { e with l1 := { e.l1 with ls := v } }
    | 28 => { e with l1 := { e.l1 with le := v } }
    | _ => e

/-- What DBGDATA reads for a path: the item at this boundary, 0 outside a session that grants it (R368, R375, R379). -/
def State.dbgdata (s : State) (src : Src) (g : Nat) : Nat :=
  if s.dbgMay src g 1 then (s.en g).item (s.rd DBGSEL.INDEX g) else 0

/-- A write of DBGDATA: dropped unless the engine is HALTED (R379). -/
def State.dbgdataWrite (s : State) (src : Src) (g : Nat) (w : Word) : State :=
  if s.engState g = 3 then s.modEn g (·.setItem (s.rd DBGSEL.INDEX g) w.toNat)
  else s.authDropAs src src.code 0x1FD (DBGDATA.WHOLE.adr g 0)

/-! ### JTAG (R381, R382) -/

/-- An instruction is loaded into the TAP: in Grounded every one but IDCODE, BYPASS and LCREAD acts as BYPASS (R381). -/
def State.tap (s : State) (i : JInstr) : State :=
  s.modSec (fun h => { h with jtag := if s.pw.gnd && i != .idcode && i != .lcread then .bypass else i })

/-- What an instruction shifts out, least significant byte first; BYPASS one 0. -/
def State.shiftOut (s : State) (i : JInstr) (n v : Nat) : State :=
  let s := s.tap i
  if s.secH.jtag = i then s.answer .ok ((toBytes n v).map (·.toNat)) else s.answer .ok [0]

/-- The 128 bits of LCREAD (R382, R392). -/
def State.lcread (s : State) : Nat :=
  Config.devSer % 2 ^ 64 * 2 ^ 64 + (s.reg (LCSTAT.WHOLE.adr 0 0)).toNat * 2 ^ 32
    + putBits (s.reg (LCRES.WHOLE.adr 0 0)).toNat 8 8 s.secH.bootFail

/-- The number whose bytes, least significant first, are the 96 bytes of PUBKEY, word 0 first. -/
def State.lcpub (s : State) : Nat := ofBytes ((upFrom 0 24).flatMap (fun i => toBytes 4 (s.rd PUBKEY.WORD 0 i)))

/-- A word enters the staging buffer; one beyond 2,048 bytes is discarded (R382). -/
def State.stageWord (s : State) (w : Word) : State :=
  if s.secH.jtag ≠ JInstr.lcstage ∨ s.pw.gnd ∨ 512 ≤ s.secH.stagePtr then s
  else
    s.modSec (fun h => { h with stage := h.stage.take (4 * h.stagePtr) ++ toBytes 4 w.toNat ++ h.stage.drop (4 * h.stagePtr + 4), stagePtr := h.stagePtr + 1 })

/-- EXTEST is accepted in Blank and Slate only (R381). -/
def State.extest (s : State) : State :=
  if s.rd LCSTAT.STATE = 0 ∨ s.rd LCSTAT.STATE = 3 then s.tap .extest else s.tap .bypass

/-- SAMPLE/PRELOAD: the channel pins' levels are answered, and the cells loaded. -/
def State.sample (s : State) (cells : List Bool) : State :=
  let s := s.tap .samplePreload
  if s.secH.jtag = JInstr.samplePreload then
    (s.modSec (fun h => { h with scan := cells })).answer .ok ((upFrom 0 1024).map (fun n => b2n (s.ch n).cap.pin))
  else s.answer .ok [0]

/-- LCCMD from JTAG: BYPASS in Grounded; it needs no session and wakes nothing (R381 to R383). -/
def State.jtagLc (s : State) (val : Word) : State := if s.pw.gnd then s else s.lccmd true val

/-- DBGOPEN from JTAG, with the token its register holds: BYPASS in Grounded (R381); a token check is held while the device
sleeps (R383, notes/assumptions/164.md). -/
def State.jtagOpen (s : State) (level : Nat) : State :=
  if s.pw.gnd then s else s.dbgOpen true level (fun s => (s, some s.secH.tok))

/-! ### The meanings -/

/-- The word of an LCCMD write with its OP. -/
def lcWord (op : Nat) (w : Word) : Word := BitVec.ofNat 32 (putBits w.toNat 28 4 op)

def execLccmdGetkey (t : Nat) (src : Src) (val : Word) (s : State) : Out :=
  s.ran src.ok ((s.advance t).authWrite src (LCCMD.WHOLE.adr 0 0) (lcWord 1 val) (·.lccmd false (lcWord 1 val)))

def execLccmdProvision (t : Nat) (src : Src) (val : Word) (err : Ecc) (s : State) : Out :=
  s.ran src.ok ((s.advance t).withEcc err (·.authWrite src (LCCMD.WHOLE.adr 0 0) (lcWord 2 val) (·.lccmd false (lcWord 2 val))))

def execLccmdLock (t : Nat) (src : Src) (val : Word) (s : State) : Out :=
  s.ran src.ok ((s.advance t).authWrite src (LCCMD.WHOLE.adr 0 0) (lcWord 3 val) (·.lccmd false (lcWord 3 val)))

def execLccmdRetire (t : Nat) (src : Src) (val : Word) (err : Ecc) (s : State) : Out :=
  s.ran src.ok ((s.advance t).withEcc err (·.authWrite src (LCCMD.WHOLE.adr 0 0) (lcWord 4 val) (·.lccmd false (lcWord 4 val))))

def execGetkeyDone (t : Nat) (s : State) : Out := s.ran true (s.advance t).getkeyDone

def execLcCommandDone (t : Nat) (s : State) : Out := s.ran true (s.advance t).lcDone

def execRevctlGo (t : Nat) (src : Src) (val : Word) (err : Ecc) (s : State) : Out :=
  s.ran src.ok ((s.advance t).withEcc err (·.authWrite src (REVCTL.WHOLE.adr 0 0) (val ||| 0x80000000) (·.revGo (val ||| 0x80000000))))

def execRevlistCheckDone (t : Nat) (s : State) : Out := s.ran true (s.advance t).revDone

def execSecgonWrite (t : Nat) (src : Src) (i : Nat) (val : Word) (s : State) : Out :=
  s.ran (src.ok && decide (i < 2)) ((s.advance t).authWrite src (SECGON.WHOLE.adr 0 i) val (·.secgonWrite i val))

def execTamperDetect (t k : Nat) (s : State) : Out := s.ran (k < 7) ((s.advance t).tamper k)

def execWipeDone (t : Nat) (s : State) : Out := s.ran true (s.advance t).wipeDone

/-- The word of a DBGCTL write with OPEN or CLOSE alone. -/
def dbgWord (open_ : Bool) (w : Word) : Word := BitVec.ofNat 32 (putBits w.toNat 30 2 (if open_ then 2 else 1))

def execDbgctlOpen (t : Nat) (src : Src) (val : Word) (err : Ecc) (s : State) : Out :=
  s.ran src.ok ((s.advance t).withEcc err (·.authWrite src (DBGCTL.WHOLE.adr 0 0) (dbgWord true val) (·.dbgctlWrite src (dbgWord true val))))

def execDbgctlClose (t : Nat) (src : Src) (val : Word) (s : State) : Out :=
  s.ran src.ok ((s.advance t).authWrite src (DBGCTL.WHOLE.adr 0 0) (dbgWord false val) (·.dbgctlWrite src (dbgWord false val)))

def execTokenCheckDone (t : Nat) (s : State) : Out := s.ran true (s.advance t).tokDone

def execDebugSessionExpiry (t : Nat) (s : State) : Out := s.ran true (s.advance t).sessExpire

def execDebugLockoutExpiry (t : Nat) (s : State) : Out := s.ran true (s.advance t).lockEnd

/-- The word of a DBGECTL write with one order. -/
def dbgeWord (bit : Nat) (w : Word) : Word := BitVec.ofNat 32 (putBits w.toNat 29 3 (2 ^ bit))

/-- A write of DBGECTL (R378). -/
def State.dbgectlFrom (s : State) (src : Src) (g : Nat) (w : Word) : State :=
  s.authWrite src (DBGECTL.WHOLE.adr g 0) w (fun s => s.dbgWrite src g 2 (DBGECTL.WHOLE.adr g 0) (·.dbgectl g w))

def execDbgectlHalt (t : Nat) (src : Src) (g : Nat) (val : Word) (s : State) : Out :=
  s.ran (src.ok && decide (g < 64)) ((s.advance t).dbgectlFrom src g (dbgeWord 2 val))

def execDbgectlResume (t : Nat) (src : Src) (g : Nat) (val : Word) (s : State) : Out :=
  s.ran (src.ok && decide (g < 64)) ((s.advance t).dbgectlFrom src g (dbgeWord 1 val))

def execDbgectlStep (t : Nat) (src : Src) (g : Nat) (val : Word) (s : State) : Out :=
  s.ran (src.ok && decide (g < 64)) ((s.advance t).dbgectlFrom src g (dbgeWord 0 val))

def execBreakpointHit (t g : Nat) (s : State) : Out := s.ran (g < 64) ((s.advance t).breakHit g)

/-- A read of DBGDATA from a path: none from JTAG outside a session (R375), held while the device sleeps (R350, R383), an error
at an isolated port (R20). -/
def State.dbgdataRead (s : State) (src : Src) (g : Nat) : State :=
  if s.pw.gnd ∨ src = .jtag ∧ ¬ s.jtagMay 1 then s
  else if s.holds src (DBGDATA.WHOLE.adr g 0) then s.hold (.read src (DBGDATA.WHOLE.adr g 0) 4)
  else if s.cutOff src (DBGDATA.WHOLE.adr g 0) then s.answer src.cut
  else s.answerWord (s.dbgdata src g)

def execDbgdataRead (t : Nat) (src : Src) (g : Nat) (s : State) : Out := s.ran (src.ok && decide (g < 64)) ((s.advance t).dbgdataRead src g)

/-- A write of DBGDATA from a path (R379). -/
def State.dbgdataFrom (s : State) (src : Src) (g : Nat) (w : Word) : State :=
  s.authWrite src (DBGDATA.WHOLE.adr g 0) w (fun s => s.dbgWrite src g 2 (DBGDATA.WHOLE.adr g 0) (·.dbgdataWrite src g w))

def execDbgdataWrite (t : Nat) (src : Src) (g : Nat) (val : Word) (s : State) : Out :=
  s.ran (src.ok && decide (g < 64)) ((s.advance t).dbgdataFrom src g val)

def execJtagIdcode (t : Nat) (s : State) : Out := s.ran true ((s.advance t).shiftOut .idcode 4 Config.idcode)

def execJtagBypass (t : Nat) (s : State) : Out := s.ran true ((s.advance t).shiftOut .bypass 1 0)

def execJtagSamplePreload (t : Nat) (cells : List Bool) (s : State) : Out :=
  s.ran (cells.length ≤ 1024) ((s.advance t).sample cells)

def execJtagExtest (t : Nat) (s : State) : Out := s.ran true (s.advance t).extest

def execJtagLcread (t : Nat) (s : State) : Out := s.ran true ((s.advance t).shiftOut .lcread 16 (s.advance t).lcread)

def execJtagLcpub (t : Nat) (s : State) : Out := s.ran true ((s.advance t).shiftOut .lcpub 96 (s.advance t).lcpub)

def execJtagLcstage (t : Nat) (s : State) : Out :=
  s.ran true (((s.advance t).tap .lcstage).modSec (fun h => { h with stagePtr := if h.jtag = JInstr.lcstage then 0 else h.stagePtr }))

def execLcstageWordUpdate (t : Nat) (val : Word) (s : State) : Out := s.ran true ((s.advance t).stageWord val)

def execJtagLccmd (t : Nat) (val : Word) (s : State) : Out :=
  s.ran true (((s.advance t).tap .lccmd).jtagLc val)

def execJtagDbgnonce (t : Nat) (s : State) : Out :=
  s.ran true ((s.advance t).shiftOut .dbgnonce 8 ((s.advance t).rd64 DBGNONCE_LO.NONCE DBGNONCE_HI.NONCE))

def execJtagToken (t : Nat) (tok : List Byte) (s : State) : Out :=
  s.ran (tok.length ≤ 160) (((s.advance t).tap .token).modSec (fun h => { h with tok := if h.jtag = JInstr.token then tok else h.tok }))

def execJtagDbgopen (t level : Nat) (s : State) : Out :=
  s.ran (level < 4) (((s.advance t).tap .dbgopen).jtagOpen level)

end Sys2Proof.Machine
end

