-- ==== Sys2Proof/Machine/Tether.lean ====
section
/-! DEFINITION. The tether: ports and links, time exchange, election and admission, imports, remote commands and cascade
starts at their source (R298 to R320). -/
namespace Sys2Proof.Machine
open Reg

/-! ### Candidates and routes (R302, R314, R315) -/

/-- DEVSER, the device's own serial number. -/
def State.ownSerial (s : State) : Nat := s.rd64 DEVSER_LO.SER DEVSER_HI.SER

/-- The device itself as a candidate. -/
def State.self (s : State) : Cand := ⟨s.on GSTARTSTAT.EVER, s.rd TCTL.ROLE == 1, s.rd TCTL.PRIO, s.ownSerial⟩

/-- Whether candidate `a` beats `b`: the first rule of R315 that decides; two appointed masters decide by serial number. -/
def Cand.beats (a b : Cand) : Bool :=
  if a.ever ≠ b.ever then a.ever
  else if a.appointed ≠ b.appointed then a.appointed
  else if a.prio ≠ b.prio ∧ ¬ a.appointed then decide (a.prio < b.prio)
  else decide (a.serial < b.serial)

def bestOf (b : Option Cand) (c : Cand) : Option Cand :=
  match b with
  | none => some c
  | some d => if c.beats d then some c else some d

/-- Whether port `p` exchanges authenticated control blocks, outside a conflict of two masters (R309, R315). -/
def State.tpTimed (s : State) (p : Nat) : Bool :=
  decide (5 ≤ s.rd TPSTAT.STATE p ∧ s.rd TPSTAT.STATE p ≤ 7) && !(s.tpU p).clash

/-- The candidates' best as the device knows it from authenticated control blocks (R315); with none it is the device itself, but
a member that lost its master waits for it (R314). -/
def State.tBest (s : State) : Option Cand :=
  let own := if s.on TCAP.MCAP ∧ s.rd TCTL.ROLE < 2 then some s.self else none
  if ¬ (upFrom 0 4).any (fun p => s.tpTimed p && (s.tpU p).cand.isSome) then
    (if s.on TSTAT.ADMITTED ∧ ¬ s.on TSTAT.MASTER then s.teth.best else some s.self)
  else (upFrom 0 4).foldl (fun b p => if s.tpTimed p then (match (s.tpU p).cand with
    | some c => bestOf b c
    | none => b) else b) own

/-- Of the ports in a state from `lo` on that reach the master, the one with the fewest hops, the lower one on a tie (R302). -/
def State.tNear (s : State) (m : Cand) (lo : Nat) : Option Nat :=
  ((upFrom 0 4).foldl (fun (b : Option (Nat × Nat)) p =>
    if s.tpTimed p ∧ lo ≤ s.rd TPSTAT.STATE p ∧ (s.tpU p).cand.any (fun c => c.serial == m.serial) then
      match b with
      | some (h, q) => if (s.tpU p).hops < h then some ((s.tpU p).hops, p) else some (h, q)
      | none => some ((s.tpU p).hops, p)
    else b) none).map (·.2)

/-- The upstream port: one past TLOCK, and where there is none one in TLOCK, so that time can be taken over it (R302, R309). -/
def State.tUpstream (s : State) : Option Nat :=
  match s.teth.best with
  | none => none
  | some m => if m.serial = s.ownSerial then none else (s.tNear m 6).or (s.tNear m 5)

/-- A new upstream port is taken; TB0 stays LOCKED where that port has agreed to ±1 ns over 64 cycles (R302, R309). -/
def State.tSetUp (s : State) (u : Option Nat) : State :=
  let old := if s.on TSTAT.UPV then some (s.rd TSTAT.UPPORT) else none
  if old = u then s
  else
    let s := (upFrom 0 4).foldl (fun s p => s.wr TPSTAT.UPSTREAM (b2n (u == some p)) p) s
    let s := s.wrs 0 [(TSTAT.UPV, b2n u.isSome), (TSTAT.UPPORT, u.getD 0)]
    let agreed := old.isSome && u.any (fun p => decide (64 ≤ (s.tpU p).nLock))
    if agreed then s else (s.wr DISCSTAT.TETHOK 0).discLook

/-- The best candidate and the upstream port are looked at again (R315). -/
def State.tElect (s : State) : State :=
  let b := s.tBest
  let same := b.map (·.serial) = s.teth.best.map (·.serial)
  let s := { s with teth := { s.teth with best := b, bestAt := if same then s.teth.bestAt else s.now } }
  let s := if same then s else s.wr TSTAT.ELECTED 0
  s.tSetUp s.tUpstream

/-- The path to the master is gone, or back (R314). -/
def State.tMlost (s : State) : State :=
  let path := (upFrom 0 4).any (fun p => s.tpUp p && (s.tpU p).cand.isSome)
  let lost := s.on TSTAT.ADMITTED && !s.on TSTAT.MASTER && !path
  if lost ∧ ¬ s.on TSTAT.MLOST then
    { s with teth := { s.teth with lostAt := some s.now, graced := false } }.wr TSTAT.MLOST 1 |>.raise 7318 0
  else if ¬ lost ∧ s.on TSTAT.MLOST then { s with teth := { s.teth with lostAt := none, graced := false } }.wr TSTAT.MLOST 0
  else s

/-- TDEVMAP with NDEV. -/
def State.setDevs (s : State) (m : Nat) : State := (s.wr TDEVMAP.MAP m).wr TSTAT.NDEV (popCount m 32)

/-- TMAXLAT: 400 ns and the hops to the farthest admitted device (R300). -/
def State.tMaxlat (s : State) : State :=
  let tab := distances s.tLinks (s.rd TSTAT.IDX)
  let far := (onesOf (s.rd TDEVMAP.MAP) 32).foldl (fun m i => match tab.getD i none with
    | some (_, c) => if m < c then c else m
    | none => m) 0
  s.wr TMAXLAT.NS (satTo 0xFFFF (400 + far))

/-- The devices the master reaches: one it no longer reaches leaves TDEVMAP and is reported, one that is back returns
(R314, R317). -/
def State.tReach (s : State) : State :=
  if ¬ s.on TSTAT.MASTER then s
  else
    let tab := distances s.tLinks (s.rd TSTAT.IDX)
    let now := (upFrom 0 32).foldl (fun m i => if (tab.getD i none).isSome then m + 2 ^ i else m) 0
    let old := s.teth.reach
    let s := { s with teth := { s.teth with reach := now } }
    let granted := fun i => s.teth.devs.any (fun d => d.1 == i)
    let gone := (upFrom 0 32).filter (fun i => bitAt old i && !bitAt now i && bitAt (s.rd TDEVMAP.MAP) i)
    let back := (upFrom 0 32).filter (fun i => !bitAt old i && bitAt now i && granted i)
    let m := gone.foldl (fun m i => putBit m i false) (back.foldl (fun m i => putBit m i true) (s.rd TDEVMAP.MAP))
    gone.foldl (fun s i => s.raise 7315 i) (s.setDevs m)

/-- A remote command whose target is no longer reached ends ABSENT; one lost on a failed link is sent once more by the
other direction (R314, R318). -/
def State.tRw (s : State) : State :=
  match s.teth.rw with
  | none => s
  | some r =>
    if r.dev = s.rd TSTAT.IDX then s
    else match s.tRoute r.dev with
      | none => { s with teth := { s.teth with rw := none } }.wrs 0 [(RWSTAT.BUSY, 0), (RWSTAT.RES, 1)]
      | some q =>
        if r.port = some q ∨ r.again ∨ r.port.any s.tpUp then s
        else ({ s with teth := { s.teth with rw := some { r with port := some q, again := true } } }).tSend r.dev (.cmd r.seq r.wr r.off r.val)

/-- Everything that follows from the links and what the partners say. -/
def State.tLook (s : State) : State := s.tElect.tMlost.tReach.tMaxlat.tRw

/-! ### Link states (R304, R305, R310, R313) -/

/-- Port `p` enters a state. -/
def State.tpGo (s : State) (p st : Nat) : State := (s.wr TPSTAT.STATE st p).modTp p (fun h => { h with since := s.now, retryAt := none })

/-- A port loses its partner: what waits for it is lost, and the routes follow (R313, R314). -/
def State.tpDrop (s : State) (p st : Nat) : State :=
  let s := s.modTp p (fun h => { TpH.init with turn := h.turn, quar := h.quar, slowAt := h.slowAt, dropped := h.dropped })
  let s := s.wrs p [(TPSTAT.PVALID, 0), (TPSTAT.PIDX, 0), (TPDELAY.VALID, 0)]
  (s.tpGo p st).tLook

/-- A port is open: EV_TETH_UP, and imports of the partner's side are asked for again (R317, R319). -/
def State.tpOpen (s : State) (p : Nat) : State :=
  let s := s.tpGo p 7
  let s := s.raise (7296 + p) (s.rd TPSTAT.PIDX p * 2 ^ 16 + s.rd TPDELAY.DLY p)
  let s := s.tLook
  (upFrom 0 96).foldl (fun s x =>
    if s.on IMPORT.EN 0 x ∧ ¬ s.on IMPORT.ACT 0 x then s.tSend (s.rd IMPORT.SRCDEV 0 x) (.sub x (s.rd IMPORT.SRCID 0 x) true) else s) s

/-- Failures of AUTH send the port to QUAR (R310). -/
def State.authFail (s : State) (p reason : Nat) : State :=
  let s := (s.cnt TPERR.AUTHFAIL 1 p).wr TPSTAT.LASTERR reason p
  let s := s.raise (7304 + p) reason
  let q := (s.tpU p).quar + 1
  (s.tpDrop p 9).modTp p (fun h => { h with quar := q })

/-- A tag failure or an uncorrectable codeword; 16 within 1,000 cycles are a link fault (R313). -/
def State.tFail (s : State) (p : Nat) (fec : Bool) : State :=
  let c := s.fine 0 / 64000
  let s := if fec then s.cnt TPERR.FECUNC 1 p else s.cnt TPERR.TAGFAIL 1 p
  let s := s.modTp p (fun h => { h with fails := (c, fec) :: h.fails.filter (fun f => decide (c < f.1 + 1000)) })
  let l := (s.tpU p).fails
  if l.length < 16 then s
  else
    let nf := (l.filter (·.2)).length
    let s := (s.wr TPSTAT.LASTERR 6 p).raise (7308 + p) (satTo 255 nf * 256 + satTo 255 (l.length - nf))
    s.tpDrop p 1

/-- Whether the tether and port `p` are enabled (R304, R310). -/
def State.tpEn (s : State) (p : Nat) : Bool := s.on TCTL.EN && s.on TPCTL.EN p && s.rd LCSTAT.STATE != 3

/-- No other port trains at the moment: ports train one at a time (R305). -/
def State.tpFree (s : State) (p : Nat) : Bool :=
  (upFrom 0 4).all (fun q => q == p || s.rd TPSTAT.STATE q != 1 || (s.tpU q).retryAt.isSome)

/-- PORT_TRAIN_TURN (R305). -/
def State.tpTurn (s : State) (p : Nat) : State :=
  let lower := (upFrom 0 p).all (fun q => !s.tpEn q || (s.tpU q).turn)
  if s.on BOOTSTAT.DONE ∧ s.tpEn p ∧ s.rd TPSTAT.STATE p = 0 ∧ lower ∧ s.tpFree p then s.tpGo p 1 else s

/-- LANE_TRAINED: the lanes that trained, and FEC lock (R298, R304). -/
def State.tpTrained (s : State) (p lanes : Nat) : State :=
  let h := s.tpU p
  if s.rd TPSTAT.STATE p = 1 ∧ h.retryAt.isNone ∧ s.now ≤ h.since + ms 25 then
    ((s.wr TPSTAT.LANES (b2n (lanes == 1)) p).tpGo p 3).modTp p (fun h => { h with turn := true })
  else s

/-- TRAIN_TIMEOUT. -/
def State.tpTrainFail (s : State) (p : Nat) : State :=
  let h := s.tpU p
  if s.rd TPSTAT.STATE p = 1 ∧ h.retryAt.isNone ∧ h.since + ms 25 ≤ s.now then
    (s.wr TPSTAT.LASTERR 1 p).modTp p (fun h => { h with turn := true, retryAt := some (h.since + ms 35) })
  else s

/-- Whether the wait after a failed training is over (R304). -/
def State.tpDue (s : State) (p : Nat) : Bool := s.rd TPSTAT.STATE p == 1 && (s.tpU p).retryAt.any (fun a => decide (a ≤ s.now))

/-- TRAIN_RETRY: once every port has had its turn, the failed ones in the same order (R304, R305). -/
def State.tpTrainAgain (s : State) (p : Nat) : State :=
  let turns := (upFrom 0 4).all (fun q => !s.tpEn q || (s.tpU q).turn)
  let first := (upFrom 0 p).all (fun q => !s.tpDue q)
  if s.tpDue p ∧ turns ∧ first ∧ s.tpFree p then s.tpGo p 1 else s

/-- BUSY_RX. -/
def State.tpBusy (s : State) (p : Nat) : State := if s.rd TPSTAT.STATE p = 1 then s.tpGo p 2 else s

/-- BUSYWAIT_RETRY. -/
def State.tpBusyAgain (s : State) (p : Nat) : State :=
  if s.rd TPSTAT.STATE p = 2 ∧ (s.tpU p).since + ms 1 ≤ s.now ∧ s.tpFree p then s.tpGo p 1 else s

/-- CAPX_MESSAGE (R307). -/
def State.tpCap (s : State) (p : Nat) (m : CapMsg) : State :=
  if s.rd TPSTAT.STATE p ≠ 3 then s
  else
    let s := (s.wr TPPCAP.CAP m.cap p).wr64 TPPSER_LO.SER TPPSER_HI.SER m.serial p
    let s := s.modTp p (fun h => { h with padm := m.adm, pmser := m.mser, pmidx := m.midx, pmever := m.mever })
    let s := s.wrs p [(TPSTAT.PIDX, m.idx), (TPSTAT.PVALID, b2n m.adm)]
    if bitsAt m.cap 24 8 = 0 ∨ m.cap % 2 ^ 16 ≠ 0x1024 then
      ((s.wr TPSTAT.LASTERR 2 p).raise (7304 + p) 2).tpGo p 10
    else s.tpGo p 4

/-- The check of the partner's identity: 0, or the reason it fails (R310, R366). -/
def State.authCheck (s : State) (m : AuthMsg) : Nat :=
  if s.rd LCSTAT.STATE = 0 ∨ s.secH.priv.isNone then 3
  else if ¬ Config.certOk s.secH.fuse.trust m.cert ∨ s.secH.rev.contains (Config.certSerial m.cert) then 4
  else if ¬ Config.ecdsaOk (Config.certKey m.cert) (Config.sha384 m.eph) m.r m.s then 5
  else 0

/-- AUTH_MESSAGE: the partner proves its identity; in an open link the same exchange renews the keys (R310, R311). -/
def State.tpAuth (s : State) (p : Nat) (m : AuthMsg) : State :=
  let st := s.rd TPSTAT.STATE p
  let e := s.authCheck m
  if st = 4 then
    if (s.tpU p).since + ms 5 < s.now then s
    else if e ≠ 0 then s.authFail p e
    else (s.tpGo p 5).modTp p (fun h => { h with proven := true, quar := 0, keyCyc := s.fine 0 / 64000, nValid := 0, nLock := 0 })
  else if 5 ≤ st ∧ st ≤ 7 ∧ (s.tpU p).rekey.isSome ∧ e = 0 then s.modTp p (fun h => { h with rekey := none, keyCyc := s.fine 0 / 64000 })
  else s

/-- AUTH_TIMEOUT. -/
def State.tpAuthLate (s : State) (p : Nat) : State :=
  if s.rd TPSTAT.STATE p = 4 ∧ (s.tpU p).since + ms 5 ≤ s.now then s.authFail p 5 else s

/-- QUAR_EXPIRY: after the third consecutive QUAR only RETRY leaves it. -/
def State.tpQuarEnd (s : State) (p : Nat) : State :=
  if s.rd TPSTAT.STATE p = 9 ∧ (s.tpU p).since + ms 1000 ≤ s.now ∧ (s.tpU p).quar < 3 then s.tpGo p 1 else s

/-- A write of TPCTL (R304, R321). -/
def State.tpctlWrite (s : State) (p : Nat) (w : Word) : State :=
  let v := TPCTL.VPROP.of w
  let s := s.wrs p [(TPCTL.EN, if s.rd LCSTAT.STATE = 3 then 0 else TPCTL.EN.of w), (TPCTL.ASYM, TPCTL.ASYM.of w), (TPCTL.VPROP, if v < 20 then 20 else v)]
  let st := s.rd TPSTAT.STATE p
  if ¬ s.on TPCTL.EN p ∧ st ≠ 0 then (s.tpDrop p 0).modTp p (fun h => { h with turn := false, quar := 0 })
  else if TPCTL.RETRY.of w = 1 ∧ (st = 10 ∨ st = 9 ∧ 3 ≤ (s.tpU p).quar) then (s.tpGo p 1).modTp p (fun h => { h with quar := 0 })
  else s

/-- A write of TCTL (R321). -/
def State.tctlWrite (s : State) (w : Word) : State :=
  let was := s.on TCTL.EN
  let s := s.wrs 0 [(TCTL.EN, if s.rd LCSTAT.STATE = 3 then 0 else TCTL.EN.of w), (TCTL.MSAFE, TCTL.MSAFE.of w), (TCTL.MGRACE, TCTL.MGRACE.of w)]
  let s := if was then s
    else s.wrs 0 [(TCTL.ROLE, TCTL.ROLE.of w), (TCTL.PRIO, TCTL.PRIO.of w), (TCTL.IDXEN, TCTL.IDXEN.of w), (TCTL.IDXREQ, TCTL.IDXREQ.of w)]
  if was ∧ ¬ s.on TCTL.EN then
    (upFrom 0 4).foldl (fun s p => if s.rd TPSTAT.STATE p = 0 then s else (s.tpDrop p 0).modTp p (fun h => { h with turn := false, quar := 0 })) s
  else s

/-- LANE_LOCK_LOSS. -/
def State.tpUnlock (s : State) (p : Nat) : State :=
  if s.rd TPSTAT.STATE p < 3 then s else s.tpDrop p 1

/-- REKEY_START: 2³⁰ cycles after the keys were agreed (R311). -/
def State.tpRekey (s : State) (p : Nat) : State :=
  let h := s.tpU p
  if 5 ≤ s.rd TPSTAT.STATE p ∧ s.rd TPSTAT.STATE p ≤ 7 ∧ h.rekey.isNone ∧ h.keyCyc + 2 ^ 30 ≤ s.fine 0 / 64000 then
    s.modTp p (fun h => { h with rekey := some s.now })
  else s

/-- REKEY_TIMEOUT. -/
def State.tpRekeyLate (s : State) (p : Nat) : State :=
  if (s.tpU p).rekey.any (fun a => decide (a + ms 10 ≤ s.now)) then (s.wr TPSTAT.LASTERR 10 p).tpDrop p 1 else s

/-! ### The cycle (R299, R300, R312) -/

/-- The order of priority of an item (R299). -/
def TItem.prio : TItem → Nat
  | .spool _ => 1
  | .cgStart _ _ => 2
  | .cgReport _ => 2
  | .event _ _ _ _ _ _ _ => 3
  | .sub _ _ _ => 3
  | .subAck _ _ => 3
  | .cmd _ _ _ _ => 4
  | .resp _ _ _ => 4

/-- TETHER_CYCLE_START, once for each cycle: port `p` sends its control block with the poll, and in an open link the items that
were ready 200 ns before, one in a slot, in their order of priority. In Moored no item leaves the device (R349). -/
def State.tCycle (s : State) (p : Nat) : State :=
  let st := s.rd TPSTAT.STATE p
  let c := s.fine 0 / 64000
  let h := s.tpU p
  if st < 3 ∨ 7 < st ∨ h.cyc = some c then s
  else
    let cap := s.slots p
    let due := h.buf.filter (fun x => decide (x.ready + ns 200 ≤ 64000 * c))
    let ord := (upFrom 1 4).flatMap (fun k => due.filter (fun x => x.msg.item.prio == k))
    let go := if st = 7 ∧ ¬ s.pw.deep then ord.take cap else []
    let s := s.modTp p (fun h => { h with
      cyc := some c, buf := h.buf.filter (fun x => !go.contains x), sent := go.map (·.msg), polls := h.polls ++ [(c, s.now)],
      admSent := h.adm, adm := [], dropped := 0 })
    if h.dropped = 0 then s else s.raise 7317 (p * 2 ^ 16 + satTo 0xFFFF h.dropped)

/-- ANSWER_BLOCK_RX: a poll is answered (R312). -/
def State.tAnswer (s : State) (p cyc : Nat) (tag : Bool) : State :=
  let st := s.rd TPSTAT.STATE p
  if st < 5 ∨ 7 < st then s
  else if ¬ tag then s.tFail p false
  else match (s.tpU p).polls.find? (fun x => x.1 == cyc) with
    | none => s
    | some (_, a) =>
      let l := (s.now - a) / 64
      if 2000 < l then s
      else
        let s := s.modTp p (fun h => { h with polls := h.polls.filter (fun x => x.1 != cyc) })
        let s := s.wrs p [(TPANS.LAST, l), (TPANS.MAX, if s.rd TPANS.MAX p < l then l else s.rd TPANS.MAX p)]
        if l ≤ 1500 then s
        else
          let s := (s.wr TPSTAT.SLOW 1 p).cnt TPERR.SLOWCNT 1 p
          if (s.tpU p).slowAt.all (fun b => decide (b + ms 1 ≤ s.now)) then
            (s.modTp p (fun h => { h with slowAt := some s.now })).raise 7316 (p * 2 ^ 16 + l)
          else s

/-- POLL_DEADLINE: no valid answer 2,000 ns after a cycle started; ABSENT goes on to TRAIN at once (R304, R312, R314). -/
def State.tAbsent (s : State) (p : Nat) : State :=
  match (s.tpU p).polls.find? (fun x => decide (x.2 + ns 2000 ≤ s.now)) with
  | none => s
  | some (c, _) =>
    if s.rd TPSTAT.STATE p ≠ 7 then s.modTp p (fun h => { h with polls := h.polls.filter (fun x => x.1 != c) })
    else
      let s := (s.wr TPSTAT.LASTERR 7 p).raiseAt (7300 + p) (s.rd TPSTAT.PIDX p * 2 ^ 16) (64000 * c + ns 2000)
      s.tpDrop p 1

/-! ### Control blocks (R302, R308, R309, R315, R317) -/

/-- The signed ASYM of a port in half units of 1/64 ns (R308). -/
def State.tAsym (s : State) (p : Nat) : Int := toSigned 8 (s.rd TPCTL.ASYM p) * 64 / 2000

/-- A complete exchange: the one-way delay and the offset, TB0 minus the partner's (R308). -/
def State.tMeasure (s : State) (p c mine theirs : Nat) : State × Int :=
  let d : Int := ((mine + theirs : Nat) - (2 * c * 64000 : Nat) : Int) / 2 - Config.lPhy p - s.tAsym p
  let th : Int := ((mine : Int) - theirs) / 2 - s.tAsym p
  let s := s.modTp p (fun h => { h with delays := (d :: h.delays).take 64, nLock := if mag th ≤ 64 then h.nLock + 1 else 0 })
  let s := s.wr TPOFFS.THETA (ofSigned 32 (satSigned 32 th)) p
  let l := (s.tpU p).delays
  if l.length < 64 then (s, th)
  else
    let m := (l.foldl (· + ·) 0 / 64).toNat
    (s.wrs p [(TPDELAY.VALID, 1), (TPDELAY.DLY, satTo 0xFFFF m), (TPDELAY.CM, satTo 0x7FFF (m * 1000 / 64 / s.rd TPCTL.VPROP p))], th)

/-- θ of the upstream port reaches the discipline loop as PHASEERR (R309). -/
def State.tPhase (s : State) (err : Int) : State :=
  let s := s.wr PHASEERR.ERR (ofSigned 32 (satSigned 32 err))
  let st := s.rd DISCSTAT.STATE
  if s.rd DISCSTAT.SRCACT ≠ 4 then s
  else if st = 1 ∧ us 1 < mag err ∧ ¬ s.on GSTARTSTAT.EVER then
    (if s.disc.stepped then s else { (s.tbAsk 0 (.step (-err))) with disc := { s.disc with stepped := true } })
  else if st = 1 ∨ st = 2 then s.discSlew err
  else s

/-- A device without admission asks the master for it (R316). -/
def State.tAsk (s : State) (p : Nat) : State :=
  if s.on TSTAT.ADMITTED ∨ s.on TSTAT.MASTER then s
  else s.modTp p (fun h => { h with adm := h.adm ++ [.req s.ownSerial (if s.on TCTL.IDXEN then some (s.rd TCTL.IDXREQ) else none)] })

/-- The serial number of the device's own master, and whether it has released (R315). -/
def State.tMaster (s : State) : Option (Nat × Bool) :=
  if s.on TSTAT.MASTER then some (s.ownSerial, s.on GSTARTSTAT.EVER)
  else if s.on TSTAT.ADMITTED then
    some (s.teth.mser, (upFrom 0 4).any (fun p => s.tpUp p && (s.tpU p).pmser == s.teth.mser && (s.tpU p).pmever))
  else none

/-- Whether both ends of port `p` are admitted and agree on the master (R317). -/
def State.tpAgrees (s : State) (p : Nat) : Bool :=
  !(s.tpU p).clash && (s.tpU p).padm && s.tMaster.any (fun m => m.1 == (s.tpU p).pmser)

/-- 64 cycles within 1 ns end TLOCK, which locks the loop on the upstream port (R304, R309); a port that becomes upstream later
locks it by the same cycles. -/
def State.tLocked (s : State) (p : Nat) : State :=
  if s.rd TPSTAT.STATE p = 5 ∧ 64 ≤ (s.tpU p).nLock then
    let s := s.tpGo p 6
    let s := if s.on TPSTAT.UPSTREAM p ∧ s.rd DISCSTAT.STATE = 1 ∧ s.rd DISCSTAT.SRCACT = 4 then s.discLock else s
    let s := s.tLook
    if s.tpAgrees p then s.tpOpen p else s.tAsk p
  else if 6 ≤ s.rd TPSTAT.STATE p ∧ s.on TPSTAT.UPSTREAM p ∧ s.rd DISCSTAT.STATE = 1 ∧ s.rd DISCSTAT.SRCACT = 4 ∧ 64 ≤ (s.tpU p).nLock then
    s.discLock
  else s

/-- What the partner says of the cascade: candidates, conflicts, the link map, admissions (R315, R317). -/
def State.tHear (s : State) (p : Nat) (b : CtlBlk) : State :=
  let old := (s.tpU p).cand
  let s := s.modTp p (fun h => { h with
    cand := b.cand, hops := b.hops, padm := b.adm, pmser := b.mser, pmidx := b.midx, pmever := b.mever, links := b.links,
    devs := b.devs, ans := some b.cyc })
  let s := s.wrs p [(TPSTAT.PIDX, b.pidx), (TPSTAT.PVALID, b2n b.adm)]
  let two := s.on TCAP.MCAP && s.rd TCTL.ROLE == 1 && b.cand.any (fun c => c.appointed && c.serial != s.ownSerial)
  let s := if two ∧ old ≠ b.cand then (s.wr TSTAT.CONFLICT 1).raise 7313 p else s
  let clash := s.tMaster.any (fun m => m.2 && m.1 != b.mser) && b.adm && b.mever && decide (s.rd TPSTAT.STATE p < 7)
  let s := if clash ∧ ¬ (s.tpU p).clash then ((s.wr TSTAT.CONFLICT 1).wr TPSTAT.LASTERR 8 p).raise 7313 p else s
  let s := s.modTp p (fun h => { h with clash := clash })
  let s := s.tLook
  let s := if s.on TPSTAT.UPSTREAM p ∧ ¬ s.on TSTAT.MASTER then ((s.setDevs b.devs).wr TSTAT.MIDX b.midx).tMaxlat else s
  if s.rd TPSTAT.STATE p = 6 ∧ s.tpAgrees p then s.tpOpen p else s

/-- Whether the block's cycle is the expected one: with time agreed it is TB0's, before it moves on (R311). -/
def State.tExpected (s : State) (p cyc : Nat) : Bool :=
  if 6 ≤ s.rd TPSTAT.STATE p then cyc == s.fine 0 / 64000 else (s.tpU p).lastCyc.all (fun c => decide (c < cyc))

/-- CONTROL_BLOCK_RX. -/
def State.ctlRx (s : State) (p : Nat) (b : CtlBlk) : State :=
  let st := s.rd TPSTAT.STATE p
  if st < 3 ∨ 7 < st then s
  else if 5 ≤ st ∧ (¬ b.tag ∨ ¬ s.tExpected p b.cyc) then (s.modTp p (fun h => { h with nValid := 0, nLock := 0 })).tFail p false
  else
    let gap := b.back.isNone || (s.tpU p).lastCyc.any (fun c => c + 1 != b.cyc)
    let s := s.modTp p (fun h => { h with
      marks := ((b.cyc, s.fine 0) :: h.marks).take 4, lastCyc := some b.cyc, nLock := if gap then 0 else h.nLock })
    let x := b.back.bind (fun k => ((s.tpU p).marks.find? (fun m => m.1 == k.1)).map (fun m => (k.1, m.2, k.2)))
    let s := match x with
      | none => s
      | some (c, mine, theirs) =>
        let (s, th) := s.tMeasure p c mine theirs
        if st < 5 then s
        else
          let s := s.modTp p (fun h => { h with nValid := h.nValid + 1, lastValid := some s.now })
          if s.on TPSTAT.UPSTREAM p ∧ ¬ s.on TSTAT.MASTER then
            let s := if 16 ≤ (s.tpU p).nValid ∧ ¬ s.on DISCSTAT.TETHOK then (s.wr DISCSTAT.TETHOK 1).discLook else s
            s.tPhase th
          else s
    if st < 5 then s else (s.tHear p b).tLocked p

/-- TETHER_EXCHANGE_LOSS: 8 cycles without a valid exchange on a port that reaches the master (R309). -/
def State.tLoss (s : State) : State :=
  let alive := (upFrom 0 4).any (fun p =>
    s.tpTimed p && (s.tpU p).cand.isSome && (s.tpU p).lastValid.any (fun a => decide (s.now < a + us 8)))
  if s.member ∧ ¬ alive ∧ s.on DISCSTAT.TETHOK then
    let s := (upFrom 0 4).foldl (fun s p => s.modTp p (fun h => { h with nValid := 0 })) s
    (s.wr DISCSTAT.TETHOK 0).discLook
  else s

/-! ### Election and admission (R303, R315, R316) -/

/-- ELECTION_SETTLED: the best candidate has not changed for 100 µs. -/
def State.tSettled (s : State) : State :=
  match s.teth.best with
  | none => s
  | some b =>
    if s.on TSTAT.ELECTED ∨ ¬ s.on TCTL.EN ∨ s.now < s.teth.bestAt + us 100 then s
    else
      let s := s.wr TSTAT.ELECTED 1
      if b.serial = s.ownSerial then
        let i := if s.on TCTL.IDXEN then s.rd TCTL.IDXREQ else 0
        let s := if s.on TSTAT.MASTER then s
          else
            let s := s.wrs 0 [(TSTAT.MASTER, 1), (TSTAT.ADMITTED, 1), (TSTAT.IDX, i), (TSTAT.MIDX, i)]
            ({ s with teth := { s.teth with devs := [(i, s.ownSerial)], mser := s.ownSerial, reach := 0 } }).setDevs (2 ^ i)
        (s.raise 7312 (s.rd TSTAT.IDX)).tLook
      else
        let s := s.wr TSTAT.MASTER 0
        if s.on TSTAT.ADMITTED ∧ s.teth.mser = b.serial then s
        else
          let s := s.wr TSTAT.ADMITTED 0
          (if s.on TSTAT.UPV ∧ 6 ≤ s.rd TPSTAT.STATE (s.rd TSTAT.UPPORT) then s.tAsk (s.rd TSTAT.UPPORT) else s).tLook

/-- The index the master grants: the one this serial number holds, the one requested where it is free, the lowest free one,
or the lowest one of an absent device (R303, R316). -/
def State.tGrant (s : State) (serial : Nat) (want : Option Nat) : Option Nat :=
  let used := fun i => s.teth.devs.any (fun d => d.1 == i)
  match s.teth.devs.find? (fun d => d.2 == serial) with
  | some d => some d.1
  | none =>
    if want.any (fun i => !used i) then want
    else match (upFrom 0 32).find? (fun i => !used i) with
      | some i => some i
      | none => (upFrom 0 32).find? (fun i => !bitAt (s.rd TDEVMAP.MAP) i)

/-- An admission message for the control blocks of port `p`. -/
def State.tAdm (s : State) (p : Nat) (m : AdmMsg) : State := s.modTp p (fun h => { h with adm := h.adm ++ [m] })

/-- The link to a device that has been admitted opens (R316). -/
def State.tAdmitted (s : State) (p serial : Nat) (i : Nat) : State :=
  if s.rd TPSTAT.STATE p = 6 ∧ s.rd64 TPPSER_LO.SER TPPSER_HI.SER p = serial then
    (s.wrs p [(TPSTAT.PIDX, i), (TPSTAT.PVALID, 1)]).tpOpen p
  else s

/-- The serial number of the best candidate. -/
def State.bestSerial (s : State) : Nat :=
  match s.teth.best with
  | some b => b.serial
  | none => 0

/-- A master answers a request for admission (R316). -/
def State.tAnswerReq (s : State) (p serial : Nat) (want : Option Nat) : State :=
  match s.tGrant serial want with
  | none => (s.tAdm p (.ans serial none)).modTp p (fun h => { h with wait := h.wait.filter (fun w => w.1 != serial) ++ [(serial, want)] })
  | some i =>
    let l := (s.teth.devs.filter (fun d => d.1 != i)) ++ [(i, serial)]
    let s := ({ s with teth := { s.teth with devs := l } }).setDevs (putBit (s.rd TDEVMAP.MAP) i true)
    let s := (s.raise 7314 i).tAdm p (.ans serial (some i))
    (s.tAdmitted p serial i).tMaxlat

/-- ADMREQ_RX: the master grants an index; another device passes the request on towards the master (R316). -/
def State.tAdmReq (s : State) (p serial : Nat) (want : Option Nat) : State :=
  if s.rd TPSTAT.STATE p < 6 ∨ 7 < s.rd TPSTAT.STATE p then s
  else if ¬ s.on TSTAT.MASTER then
    (if s.on TSTAT.UPV ∧ s.rd TSTAT.UPPORT ≠ p then s.tAdm (s.rd TSTAT.UPPORT) (.req serial want) else s)
  else s.tAnswerReq p serial want

/-- The first request that was refused for want of an index is granted once an index is free (R316). -/
def State.tServe (s : State) (p : Nat) : State :=
  match (s.tpU p).wait with
  | [] => s
  | (serial, want) :: r =>
    if s.on TSTAT.MASTER ∧ (s.tGrant serial want).isSome then (s.modTp p (fun h => { h with wait := r })).tAnswerReq p serial want else s

/-- ADMIT_RX: the device's own admission, or another's to be passed on (R316). -/
def State.tAdmit (s : State) (p serial : Nat) (idx : Option Nat) (midx : Nat) : State :=
  if s.rd TPSTAT.STATE p < 6 ∨ 7 < s.rd TPSTAT.STATE p then s
  else if serial = s.ownSerial then
    if s.on TSTAT.MASTER then s
    else match idx with
      | none => s.wr TPSTAT.LASTERR 9 p
      | some i =>
        let s := { s with teth := { s.teth with mser := s.bestSerial } }
        let s := s.wrs 0 [(TSTAT.ADMITTED, 1), (TSTAT.IDX, i), (TSTAT.MIDX, midx)]
        if s.rd TPSTAT.STATE p = 6 then s.tpOpen p else s.tLook
  else
    let s := (upFrom 0 4).foldl (fun s q =>
      if q ≠ p ∧ 6 ≤ s.rd TPSTAT.STATE q ∧ s.rd TPSTAT.STATE q ≤ 7 then s.tAdm q (.ans serial idx) else s) s
    match idx with
    | none => s
    | some i => (upFrom 0 4).foldl (fun s q => if q = p then s else s.tAdmitted q serial i) s

/-- MASTER_LOST_GRACE_EXPIRY (R314). -/
def State.tGraceEnd (s : State) : State :=
  match s.teth.lostAt with
  | none => s
  | some a =>
    let e := a + us (s.rd TCTL.MGRACE)
    if s.teth.graced ∨ ¬ s.on TCTL.MSAFE ∨ s.now < e then s
    else
      let s := { s with teth := { s.teth with graced := true } }
      (upFrom 0 128).foldl (fun s j => if s.rd BRIDLE.OWNER 0 j = 2 then s.safeAsk j 5 e else s) s

/-! ### Remote commands and imports (R318, R319) -/

/-- A write of RWCTL. -/
def State.rwctlWrite (s : State) (w : Word) : State :=
  let s := s.wrs 0 [(RWCTL.WR, RWCTL.WR.of w), (RWCTL.DEV, RWCTL.DEV.of w), (RWCTL.OFF, RWCTL.OFF.of w)]
  if RWCTL.GO.of w = 0 ∨ s.on RWSTAT.BUSY then s
  else if ¬ s.on TSTAT.MASTER then s.wr RWSTAT.RES 4
  else
    let d := RWCTL.DEV.of w
    if ¬ bitAt (s.rd TDEVMAP.MAP) d then s.wr RWSTAT.RES 1
    else
      let n := s.teth.rwSeq + 1
      let r : RwH := ⟨n, d, RWCTL.WR.of w == 1, RWCTL.OFF.of w * 4, s.rd RWDATA.DATA, s.now, s.tRoute d, false⟩
      let s := ({ s with teth := { s.teth with rwSeq := n, rw := some r } }).wr RWSTAT.BUSY 1
      if d = s.rd TSTAT.IDX then s else s.tSend d (.cmd n r.wr r.off r.val)

/-- RW_RESPONSE_RX. -/
def State.rwResponse (s : State) (seq res val : Nat) : State :=
  match s.teth.rw with
  | none => s
  | some r =>
    if r.seq ≠ seq then s
    else
      let s := { s with teth := { s.teth with rw := none } }.wrs 0 [(RWSTAT.BUSY, 0), (RWSTAT.RES, res)]
      if r.wr then s else s.wr RWDATA.DATA val

/-- RW_TIMEOUT. -/
def State.rwTimeout (s : State) : State :=
  if s.teth.rw.any (fun r => decide (r.at_ + us 20 ≤ s.now)) then
    { s with teth := { s.teth with rw := none } }.wrs 0 [(RWSTAT.BUSY, 0), (RWSTAT.RES, 2)]
  else s

/-- A write of IMPORTx: the subscription goes to the source device (R319). -/
def State.importWrite (s : State) (x : Nat) (w : Word) : State :=
  let was := s.on IMPORT.EN 0 x
  let old := s.rd IMPORT.SRCDEV 0 x
  let oldId := s.rd IMPORT.SRCID 0 x
  let s := s.setReg (IMPORT.WHOLE.adr 0 x) (BitVec.ofNat 32 (IMPORT.EN.of w * 2 ^ 31 + IMPORT.SRCDEV.of w * 2 ^ 25 + IMPORT.SRCID.of w))
  let s := if was ∧ (IMPORT.EN.of w = 0 ∨ IMPORT.SRCDEV.of w ≠ old) then s.tSend old (.sub x oldId false) else s
  if IMPORT.EN.of w = 1 then s.tSend (IMPORT.SRCDEV.of w) (.sub x (IMPORT.SRCID.of w) true) else s

/-- SUBSCRIPTION_RX: at most 256 distinct events are exported (R319). -/
def State.subscribe (s : State) (dev x id : Nat) (en : Bool) : State :=
  let l := s.teth.exports.filter (fun e => !(e.1 == dev && e.2.1 == x))
  if ¬ en then { s with teth := { s.teth with exports := l } }
  else
    let ids := (l.map (·.2.2)).eraseDups
    let ok := ids.contains id || decide (ids.length < 256)
    let s := { s with teth := { s.teth with exports := if ok then l ++ [(dev, x, id)] else l } }
    s.tSend dev (.subAck x ok)

/-- The answer to a subscription. -/
def State.subAck (s : State) (dev x : Nat) (act : Bool) : State :=
  if x < 96 ∧ s.on IMPORT.EN 0 x ∧ s.rd IMPORT.SRCDEV 0 x = dev then s.wr IMPORT.ACT (b2n act) 0 x else s

/-- Items of a path that never came are counted (R319). -/
def State.importLost (s : State) (n : Nat) : State :=
  if n = 0 then s else (s.cnt IMPLOST.COUNT n).raise 7317 (2 ^ 31 + satTo 0xFFFF n)

/-- A forwarded event is issued where IMPORTx asks for it (R319). -/
def State.importIssue (s : State) (dev x : Nat) (ev : Ev) : State :=
  if x < 96 ∧ s.on IMPORT.EN 0 x ∧ s.rd IMPORT.SRCDEV 0 x = dev then s.raiseEv ev else s

/-- IMPORT_EVENT_RX: a forwarded event, in the order of its path; a gap is counted, a duplicate discarded (R319). -/
def State.importEvent (s : State) (dev x seq ts detail : Nat) (tq coinc : Bool) : State :=
  let last := s.teth.rxSeq.get (fun _ => 0) dev
  if seq ≤ last then s
  else
    let s' := { s with teth := { s.teth with rxSeq := s.teth.rxSeq.set (fun _ => 0) dev seq } }
    (s'.importLost (if last = 0 then 0 else seq - last - 1)).importIssue dev x ⟨7328 + x, ts, detail, tq || !s.cascadeTime, coinc⟩

/-! ### Cascade start (R320) -/

/-- A timed GO at T with the device's own mask: accepted 0, LATE 1, REFUSED 2 (R59, R320). -/
def State.cgRelease (s : State) (src : Src) (at_ : Nat) (restart : Bool) : State × Nat :=
  if s.on GSTARTSTAT.PEND then (s.wr GSTARTSTAT.REFUSED 1, 2)
  else
    let soon := s.fine 0 + ns 100
    let late := decide (64 * at_ < soon)
    let s := if late then s.wr GSTARTSTAT.LATE 1 else s
    ({ s with release := some ⟨s.gmask, restart, src, if late then ceilNs soon / 64 else at_, true⟩ }.wr GSTARTSTAT.PEND 1, b2n late)

/-- The outcome of a device; each counts once. -/
def State.cgReport (s : State) (dev res : Nat) : State :=
  match s.teth.cg with
  | none => s
  | some c => if c.reps.any (fun r => r.1 == dev) then s else { s with teth := { s.teth with cg := some { c with reps := c.reps ++ [(dev, res)] } } }

/-- A write of CGSTART. -/
def State.cgstartWrite (s : State) (src : Src) (w : Word) : State :=
  if CGSTART.GO.of w = 0 ∨ ¬ s.on TSTAT.MASTER then s
  else
    let at_ := s.rd64 CGSTARTAT_LO.VALUE CGSTARTAT_HI.VALUE
    if s.on CGSTAT.PEND ∨ 64 * at_ < s.fine 0 + ns (s.rd TMAXLAT.NS + 100) then s.wr CGSTAT.REFUSED 1
    else
      let re := CGSTART.RESTART.of w == 1
      let s := ({ s with teth := { s.teth with cg := some ⟨at_, []⟩ } }).wr CGSTAT.PEND 1
      let s := s.tSend 32 (.cgStart at_ re)
      let (s, r) := s.cgRelease src at_ re
      s.cgReport (s.rd TSTAT.IDX) r

/-- CGSTART_BROADCAST_RX: a member takes part and reports to the master. -/
def State.cgStart (s : State) (at_ : Nat) (restart : Bool) : State :=
  if ¬ s.on TSTAT.ADMITTED ∨ s.on TSTAT.MASTER then s
  else
    let (s, r) := s.cgRelease .tether at_ restart
    s.tSend (s.rd TSTAT.MIDX) (.cgReport r)

/-- CGSTART_CLOSE: at T + TMAXLAT the master closes the release. -/
def State.cgClose (s : State) : State :=
  match s.teth.cg with
  | none => s
  | some c =>
    let e := 64 * c.at_ + ns (s.rd TMAXLAT.NS)
    if s.fine 0 < e then s
    else
      let a := (c.reps.filter (fun r => r.2 == 0)).length
      let l := c.reps.length - a
      let s := { s with teth := { s.teth with cg := none } }.wrs 0 [(CGSTAT.PEND, 0), (CGSTAT.NACK, a), (CGSTAT.NLATE, l)]
      s.raiseAt 7319 (l * 256 + a) e

/-! ### The meanings -/

def execTetherCycleStart (t p : Nat) (s : State) : Out := s.ran (p < 4) (((s.advance t).tServe p).tCycle p)

def execControlBlockRx (t p : Nat) (b : CtlBlk) (s : State) : Out := s.ran (p < 4) ((s.advance t).ctlRx p b)

def execAnswerBlockRx (t p cyc : Nat) (tag : Bool) (s : State) : Out := s.ran (p < 4) ((s.advance t).tAnswer p cyc tag)

def execPollDeadline (t p : Nat) (s : State) : Out := s.ran (p < 4) ((s.advance t).tAbsent p)

def execPortTrainTurn (t p : Nat) (s : State) : Out := s.ran (p < 4) ((s.advance t).tpTurn p)

def execLaneTrained (t p lanes : Nat) (s : State) : Out := s.ran (p < 4 ∧ 1 ≤ lanes ∧ lanes ≤ 2) ((s.advance t).tpTrained p lanes)

def execTrainTimeout (t p : Nat) (s : State) : Out := s.ran (p < 4) ((s.advance t).tpTrainFail p)

def execTrainRetry (t p : Nat) (s : State) : Out := s.ran (p < 4) ((s.advance t).tpTrainAgain p)

def execBusyRx (t p : Nat) (s : State) : Out := s.ran (p < 4) ((s.advance t).tpBusy p)

def execBusywaitRetry (t p : Nat) (s : State) : Out := s.ran (p < 4) ((s.advance t).tpBusyAgain p)

def execCapxMessage (t p : Nat) (m : CapMsg) (s : State) : Out := s.ran (p < 4) ((s.advance t).tpCap p m)

def execAuthMessage (t p : Nat) (m : AuthMsg) (s : State) : Out := s.ran (p < 4) ((s.advance t).tpAuth p m)

def execAuthTimeout (t p : Nat) (s : State) : Out := s.ran (p < 4) ((s.advance t).tpAuthLate p)

def execQuarExpiry (t p : Nat) (s : State) : Out := s.ran (p < 4) ((s.advance t).tpQuarEnd p)

def execTpctlRetry (t : Nat) (src : Src) (p : Nat) (val : Word) (s : State) : Out :=
  s.ran (src.ok && decide (p < 4)) ((s.advance t).authWrite src (TPCTL.WHOLE.adr p 0) (val ||| 0x40000000) (·.tpctlWrite p (val ||| 0x40000000)))

def execLaneLockLoss (t p : Nat) (s : State) : Out := s.ran (p < 4) ((s.advance t).tpUnlock p)

def execRekeyStart (t p : Nat) (s : State) : Out := s.ran (p < 4) ((s.advance t).tpRekey p)

def execRekeyTimeout (t p : Nat) (s : State) : Out := s.ran (p < 4) ((s.advance t).tpRekeyLate p)

def execTetherExchangeLoss (t : Nat) (s : State) : Out := s.ran true (s.advance t).tLoss

def execElectionSettled (t : Nat) (s : State) : Out := s.ran true (s.advance t).tSettled

def execAdmreqRx (t p serial : Nat) (want : Option Nat) (s : State) : Out :=
  s.ran (p < 4 ∧ want.all (· < 32)) ((s.advance t).tAdmReq p serial want)

def execAdmitRx (t p serial : Nat) (idx : Option Nat) (midx : Nat) (s : State) : Out :=
  s.ran (p < 4 ∧ idx.all (· < 32) ∧ midx < 32) ((s.advance t).tAdmit p serial idx midx)

def execMasterLostGraceExpiry (t : Nat) (s : State) : Out := s.ran true (s.advance t).tGraceEnd

def execRwctlGo (t : Nat) (src : Src) (val : Word) (s : State) : Out :=
  s.ran src.ok ((s.advance t).authWrite src (RWCTL.WHOLE.adr 0 0) (val ||| 0x80000000) (·.rwctlWrite (val ||| 0x80000000)))

def execRwResponseRx (t seq res val : Nat) (s : State) : Out := s.ran (res < 8) ((s.advance t).rwResponse seq res val)

def execRwTimeout (t : Nat) (s : State) : Out := s.ran true (s.advance t).rwTimeout

def execImportWrite (t : Nat) (src : Src) (x : Nat) (val : Word) (s : State) : Out :=
  s.ran (src.ok && decide (x < 96)) ((s.advance t).authWrite src (IMPORT.WHOLE.adr 0 x) val (·.importWrite x val))

def execSubscriptionRx (t dev x id : Nat) (en : Bool) (s : State) : Out :=
  s.ran (dev < 32 ∧ x < 96 ∧ id < 8192) ((s.advance t).subscribe dev x id en)

def execImportEventRx (t dev x seq ts detail : Nat) (tq coinc : Bool) (s : State) : Out :=
  s.ran (dev < 32 ∧ x < 96) ((s.advance t).importEvent dev x seq ts detail tq coinc)

def execCgstartGo (t : Nat) (src : Src) (val : Word) (s : State) : Out :=
  s.ran src.ok ((s.advance t).authWrite src (CGSTART.WHOLE.adr 0 0) (val ||| 1) (·.cgstartWrite src (val ||| 1)))

def execCgstartBroadcastRx (t at_ : Nat) (restart : Bool) (s : State) : Out := s.ran true ((s.advance t).cgStart at_ restart)

def execCgstartReportRx (t dev res : Nat) (s : State) : Out := s.ran (dev < 32 ∧ res < 3) ((s.advance t).cgReport dev res)

def execCgstartClose (t : Nat) (s : State) : Out := s.ran true (s.advance t).cgClose

end Sys2Proof.Machine
end

