-- ==== Sys2Proof/Machine/Boot.lean ====
section
/-! DEFINITION. Power-on, the stages of boot, PERST#, the bank output enables and THERMTRIP# (chapter 16, R386 to R404). -/
namespace Sys2Proof.Machine
open Reg

def State.modBoot (s : State) (f : BootH → BootH) : State := { s with boot := f s.boot }

/-! ### The stages (R389 to R392) -/

/-- POWER_ON_RESET: the rails have been in range for 1 ms, and boot starts (R390, R391). -/
def State.powerOn (s : State) : State :=
  if s.boot.stage ≠ 0 ∨ s.pw.gnd then s else s.modBoot (fun b => { b with stage := 1, at_ := s.now })

/-- An interrupted transition is undone, or a RETIRE that has destroyed a key slot is finished (R363). -/
def State.fuseFix (s : State) : State :=
  match s.secH.fuse.half with
  | none => s
  | some dst =>
    let old := s.secH.fuse.lc
    let fin := s.secH.fuse.keyCut
    let f := { s.secH.fuse with half := none, keyCut := false }
    let f := if fin then { f with lc := 3, slots := List.replicate 256 0xFF } else f
    let s := { s with mem := s.mem.wiped }.modSec (fun h => { h with fuse := f })
    (s.wr LCSTAT.INCOMP 1).modBoot (fun b => { b with evs := b.evs ++ [(8064, 256 + old * 16 + (if fin then dst else old))] })

/-- The registers that fuses set (R342, R384, R405, R408). -/
def State.fuseRegs (s : State) : State :=
  let f := s.secH.fuse
  let en := b2n (f.tethen && f.lc != 3)
  let s := s.setReg (DEVID.WHOLE.adr 0 0) (if Config.gradeI then 0x10242010 else 0x10241010)
  let s := s.wrs 0 [(LCSTAT.STATE, f.lc), (LCSTAT.FIELDDBG, b2n f.fielddbg), (TCAP.LC, f.lc), (TCAP.MCAP, b2n f.mcap), (TCTL.EN, en), (MCMIN.MINVER, Config.mcMin)]
  let s := s.wr64 DEVSER_LO.SER DEVSER_HI.SER Config.devSer
  let s := (upFrom 0 4).foldl (fun s p => s.wr TPCTL.EN en p) s
  let s := (upFrom 0 68).foldl (fun s p => s.wr PHEALTH.MREG (Config.mreg p) 0 p) s
  (upFrom 0 96).foldl (fun s b => s.wr BANKREP.USED (Config.bankRep b) 0 b) s

/-- Secure SRAM is initialised, or kept where the analogue supply stayed in range; the device area is zero, and the key slots
are copied (R370). -/
def State.secBoot (s : State) (keep : Bool) : State :=
  let sec := if keep then s.mem.sec.filter (fun c => !decide (0x3FF00 ≤ c.1 ∧ c.1 < 0x5E000)) else []
  { s with mem := { s.mem with sec := sec, secPoison := if keep then s.mem.secPoison.filter (fun w => !decide (0x7FE0 ≤ w ∧ w < 0xBC00)) else [] } }.slotsCopy

/-- BOOT_FUSE_DONE: stage 1 (R391). -/
def State.bootFuse (s : State) (keep : Bool) : State :=
  if s.boot.stage ≠ 1 then s
  else (((s.fuseFix.fuseRegs.secBoot keep).newNonce).modBoot (fun b => { b with stage := 2 }))

/-- BOOT_CLOCK_DONE: stage 2, the spine starts with TB0 and TB17 at 0 (R45, R391). -/
def State.bootClock (s : State) : State :=
  if s.boot.stage ≠ 2 then s
  else ({ s with spine := some s.now }.tbGo 0 0 (2 ^ 30) 0).modBoot (fun b => { b with stage := 3 })

/-- A gondola fails its boot self-test: it is RETIRED and marked suspect by a failed self-test, and both events wait for the
end of boot. Which check failed is a free value (R335, R340, R391). -/
def State.bootFail (s : State) (p : Nat) : State :=
  let (v, s) := s.fresh
  let s := ((s.cnt PHEALTH.SUSPCNT 1 0 p).wr PHEALTH.LASTSUSP 5 0 p).wr PHEALTH.STATE 5 0 p
  s.modBoot (fun b => { b with evs := b.evs ++ [(7814, 5 * 2 ^ 22 + s.rd PHEALTH.SUSPCNT 0 p * 2 ^ 16 + p), (7815, (1 + v % 5) * 2 ^ 28 + p)] })

/-- A logical gondola without its own physical one is served by the first free spare, or by none (R391). -/
def State.bootAssign (s : State) (g : Nat) : State :=
  match (upFrom 64 4).find? (fun p => s.rd PHEALTH.STATE 0 p == 1) with
  | some p => ((s.wr LMAP.PHYS p 0 g).wr PHEALTH.STATE 0 0 p).inc BOOTSTAT.SPAREUSE
  | none => (s.wr LMAP.PHYS 0x7F 0 g).wr BOOTSTAT.DEGR 1

/-- The identity key is derived again outside Blank; in Slate it is destroyed (R360, R365). -/
def State.keyBoot (s : State) : State :=
  let f := s.secH.fuse
  if f.lc = 1 ∨ f.lc = 2 then
    let k := Config.idKey Config.dseed f.nonce
    ((s.modSec (fun h => { h with priv := some k })).wr LCSTAT.KEYOK 1).pubkeyShow (Config.pubKey k)
  else s

/-- BOOT_TEST_DONE: stage 3; `bad` are the physical gondolas that fail (bit p for Pp) (R6, R340, R391). -/
def State.bootTest (s : State) (bad : Nat) : State :=
  if s.boot.stage ≠ 3 then s
  else
    let s := (onesOf bad 68).foldl State.bootFail s
    let s := (onesOf bad 64).foldl State.bootAssign s
    s.keyBoot.modBoot (fun b => { b with stage := 4 })

/-- The timestamp an event held until calibration is issued with: no earlier one is issued (R30, R42,
notes/assumptions/141.md). -/
def State.calStamp (s : State) (ev : Ev) : Ev := { ev with ts := if ev.id < 7040 then s.tsPin else s.tsInt }

/-- BOOT_CAL_DONE: stage 4; the calibration runs end together, CALDONE is set and events raised before are issued (R42,
R66, R391). -/
def State.bootCal (s : State) : State :=
  if s.boot.stage ≠ 4 then s
  else
    let evs := s.fab.deferred
    let s := { s with calT0 := s.now, fab := { s.fab with deferred := [] } }
    let s := (s.wr SPINESTAT.CALDONE 1).modBoot (fun b => { b with stage := 5 })
    let s := (upFrom 0 128).foldl (fun s k => s.emuLook k) s
    evs.foldl (fun s ev => s.raiseEv (s.calStamp ev)) s

/-- BOOT_READY: stage 5; the 0.80 V request is sent, boot is complete, and the first coherence sweep begins (R137, R356,
R357, R391, R392). -/
def State.bootReady (s : State) : State :=
  if s.boot.stage ≠ 5 then s
  else
    let s := s.wrs 0 [(AVSSTAT.REQ, 800), (AVSSTAT.LOOP, 800), (AVSSTAT.SETTLING, 1)]
    let s := { s with pw := { s.pw with sentAt := some s.now }, fab := { s.fab with cohFrom := s.now } }
    let s := s.wrs 0 [(BOOTSTAT.DONE, 1), (BOOTSTAT.RETRIED, b2n s.boot.again), (BOOTSTAT.TIME, satTo 0xFFFF ((s.now - s.boot.at_) / us 10))]
    let evs := s.boot.evs
    let s := evs.foldl (fun s e => s.raise e.1 e.2) (s.modBoot (fun b => { b with stage := 6, evs := [] }))
    if s.secH.gndTamp = 0 then s
    else (s.raise 8065 (2 ^ 7 + s.secH.gndTamp)).modSec (fun h => { h with gndTamp := 0 })

/-- What PPSOUT drives: nothing until stage 5 of boot (R396). -/
def State.ppsPin (s : State) : Drive := if s.boot.stage < 5 ∨ s.boot.stage = 7 then .z else if s.ppsOutLvl then .high else .low

/-- BOOT_STAGE_FAIL: a fuse-integrity error in stage 1 or a PLL that does not lock in stage 2; one device reset, then the
device stays in reset (R392). -/
def State.bootStageFail (s : State) (stage : Nat) : State :=
  if s.boot.stage ≠ stage ∨ ¬ (stage = 1 ∨ stage = 2) then s
  else if s.boot.again then (s.modBoot (fun b => { b with stage := 7 })).modSec (fun h => { h with bootFail := stage * 16 + 1 })
  else s.deviceReset 1 true

/-- PERST# changes to asserted or deasserted: it resets the host interface while the device runs, holds the link during
boot, and its deassertion leaves Grounded (R272, R351, R390). -/
def State.perst (s : State) (asserted : Bool) : State :=
  let was := s.host.perst
  let s := { s with host := { s.host with perst := asserted } }
  if asserted ∧ ¬ was ∧ s.boot.stage = 6 ∧ ¬ s.pw.gnd then (s.linkDown).hostReset
  else if ¬ asserted ∧ was ∧ s.pw.gnd then s.deviceReset 1 false
  else s

/-- GWAKE_RISE: a rising edge of GWAKE leaves Grounded with a device reset (R351). -/
def State.gwake (s : State) : State := if s.pw.gnd then s.deviceReset 1 false else s

/-! ### Output enables (R395) -/

/-- Whether a release of bank `b` is refused: its supply is at fault, or has never been in a nominal band. -/
def State.oeRefused (s : State) (b : Nat) : Bool := s.on SUPMON.FAULT 0 (4 + b) || !bitAt s.pw.seen b

/-- A write of BANKOESET: it takes effect 40 ns after its arrival; refused banks are noted. -/
def State.oeSet (s : State) (w : Word) : State :=
  let ask := onesOf (BANKOESET.SET.of w) 16
  let no := (ask.filter s.oeRefused).foldl (fun x b => x + 2 ^ b) 0
  let yes := (ask.filter (fun b => !s.oeRefused b)).foldl (fun x b => x + 2 ^ b) 0
  let s := s.wr BANKOESTAT.REF (s.rd BANKOESTAT.REF ||| no)
  if yes = 0 then s else s.modBoot (fun b => { b with oe := b.oe ++ [(s.now + ns 40, true, yes)] })

/-- A write of BANKOECLR. -/
def State.oeClr (s : State) (w : Word) : State :=
  let m := BANKOECLR.CLR.of w
  if m = 0 then s else s.modBoot (fun b => { b with oe := b.oe ++ [(s.now + ns 40, false, m)] })

/-- BANK_OE_EFFECT: the first change whose instant has come takes effect (R395). -/
def State.oeEffect (s : State) : State :=
  match s.boot.oe with
  | (a, v, m) :: r =>
    if a ≤ s.now then
      (onesOf m 16).foldl (fun s b => s.setOe b v (s.fineAt 0 a / 64 * 64)) (s.modBoot (fun b => { b with oe := r }))
    else s
  | [] => s

/-- THERMTRIP# is asserted or released (R401). -/
def State.thermtrip (s : State) (v : Bool) : State := { s with pw := { s.pw with therm := v } }

/-! ### The meanings -/

def execPowerOnReset (t : Nat) (s : State) : Out := s.ran true (s.advance t).powerOn

def execBootFuseDone (t : Nat) (keep : Bool) (s : State) : Out := s.ran true ((s.advance t).bootFuse keep)

def execBootClockDone (t : Nat) (s : State) : Out := s.ran true (s.advance t).bootClock

def execBootTestDone (t bad : Nat) (s : State) : Out := s.ran (bad < 2 ^ 68) ((s.advance t).bootTest bad)

def execBootCalDone (t : Nat) (s : State) : Out := s.ran true (s.advance t).bootCal

def execBootReady (t : Nat) (s : State) : Out := s.ran true (s.advance t).bootReady

def execBootStageFail (t stage : Nat) (s : State) : Out := s.ran (stage < 6) ((s.advance t).bootStageFail stage)

def execPerst (t : Nat) (asserted : Bool) (s : State) : Out := s.ran true ((s.advance t).perst asserted)

def execGwakeRise (t : Nat) (s : State) : Out := s.ran true (s.advance t).gwake

def execBankoeset (t : Nat) (src : Src) (val : Word) (s : State) : Out :=
  s.ran src.ok ((s.advance t).authWrite src (BANKOESET.WHOLE.adr 0 0) val (·.oeSet val))

def execBankoeclr (t : Nat) (src : Src) (val : Word) (s : State) : Out :=
  s.ran src.ok ((s.advance t).authWrite src (BANKOECLR.WHOLE.adr 0 0) val (·.oeClr val))

def execBankOeEffect (t : Nat) (s : State) : Out := s.ran true (s.advance t).oeEffect

def execThermtripAssert (t : Nat) (s : State) : Out := s.ran true ((s.advance t).thermtrip true)

def execThermtripRelease (t : Nat) (s : State) : Out := s.ran true ((s.advance t).thermtrip false)

end Sys2Proof.Machine
end

