-- ==== Sys2Proof/Machine/Power.lean ====
section
/-! DEFINITION. Power states, wakes, supply monitors and the core voltage (chapter 14, R346 to R359). -/
namespace Sys2Proof.Machine
open Reg

def State.modPw (s : State) (f : PwrH → PwrH) : State := { s with pw := f s.pw }

/-! ### Conditions of entry (R348, R352) -/

/-- Whether every engine is STOPPED or IDLE (R347, R352). -/
def State.engQuiet (s : State) : Bool := (upFrom 0 64).all (fun g => decide (s.engState g < 2))

/-- Whether no slot of any gondola is ready or preempted (R348). -/
def State.slotsQuiet (s : State) : Bool :=
  (upFrom 0 64).all (fun g => (s.sch g).order.all (fun k => (s.ts g k).st != .ready && (s.ts g k).st != .preempted && (s.ts g k).st != .yielded))

/-- The reason Drift cannot be entered, 0 where it can (R352). -/
def State.driftBar (s : State) : Nat :=
  if ¬ s.engQuiet then 1
  else if (upFrom 0 32).any (fun m => decide (1 ≤ s.rd MVSTAT.STATE m ∧ s.rd MVSTAT.STATE m ≤ 3)) ∨ s.qrec ≠ [] then 4
  else 0

/-- The reason Moored cannot be entered, 0 where it can (R348). -/
def State.moorBar (s : State) : Nat :=
  if ¬ s.engQuiet ∨ ¬ s.slotsQuiet then 1
  else if (upFrom 0 1024).any (fun n => (s.chSt n != 0 && s.chSt n != 3) || !(s.ch n).dl.pend.isEmpty) then 2
  else if (upFrom 0 128).any (fun t => s.on TAILCTL.ARM t) ∨ (upFrom 0 32).any (fun i => s.on SPCTL.EN i)
      ∨ (upFrom 0 16).any (fun i => s.on SARCTL.EN i) ∨ (upFrom 0 256).any (fun i => s.on SDCTL.EN i) then 3
  else if s.driftBar = 4 then 4
  else if s.tko.isSome ∨ s.test.isSome then 5
  else 0

/-! ### Entry (R346, R349, R351, R352) -/

/-- Entry into a state starts. -/
def State.powerGo (s : State) (tgt : Nat) : State :=
  let st := s.rd PWRSTAT.STATE
  (s.modPw (fun p => { p with tgt := tgt, prev := st, from_ := s.now })).wr PWRSTAT.STATE 3

/-- An explicit request is refused with a reason (R348, R358). -/
def State.powerRefuse (s : State) (reason : Nat) : State := s.wrs 0 [(PWRSTAT.REFUSED, 1), (PWRSTAT.REASON, reason)]

/-- What entry into Grounded does before the device goes off: output enables, tether ports and the PCIe link (R351). -/
def State.groundStart (s : State) : State :=
  let s := s.revokeOe 0xFFFF
  let s := (upFrom 0 4).foldl (fun s p => if s.rd TPSTAT.STATE p = 0 then s else s.tpDrop p 0) s
  (s.linkDown).powerGo 3

/-- A request of a power state (R351, R352). -/
def State.powerAsk (s : State) (tgt key : Nat) : State :=
  let st := s.rd PWRSTAT.STATE
  match tgt with
  | 0 => s.wakeAsk 8 0 s.now
  | 1 => if st ≠ 0 then s else if s.driftBar ≠ 0 then s.powerRefuse s.driftBar else s.powerGo 1
  | 2 => if 2 ≤ st then s else if s.moorBar ≠ 0 then s.powerRefuse s.moorBar else s.powerGo 2
  | _ => if key ≠ 0x5A then s.powerRefuse 6 else if 3 ≤ st then s else s.groundStart

/-- A write of PWRCTL (R358). -/
def State.pwrctlWrite (s : State) (w : Word) : State :=
  let d := PWRCTL.DWELL.of w
  let s := s.wrs 0 [(PWRCTL.AUTO, PWRCTL.AUTO.of w), (PWRCTL.MOOREN, PWRCTL.MOOREN.of w), (PWRCTL.TETHKEEP, PWRCTL.TETHKEEP.of w), (PWRCTL.PMOFF, PWRCTL.PMOFF.of w), (PWRCTL.DWELL, if d = 0 then 1 else d)]
  if PWRCTL.GO.of w = 1 then s.powerAsk (PWRCTL.TGT.of w) (PWRCTL.GNDKEY.of w) else s

/-- POWER_AUTO_ENTRY: the deepest state whose worst-case wake is tolerable and whose conditions have held for DWELL; `sinceD`
and `sinceM` are the instants since when those of Drift and of Moored hold (R352). -/
def State.powerAuto (s : State) (sinceD sinceM : Nat) : State :=
  let st := s.rd PWRSTAT.STATE
  let held (a : Nat) : Bool := decide (a + us (100 * s.rd PWRCTL.DWELL) ≤ s.now)
  if ¬ s.on PWRCTL.AUTO ∨ 2 ≤ st then s
  else if s.on PWRCTL.MOOREN ∧ 65 ≤ s.rd WAKETOL.TOL ∧ held sinceM ∧ s.moorBar = 0 then s.powerGo 2
  else if st = 0 ∧ 2 ≤ s.rd WAKETOL.TOL ∧ held sinceD ∧ s.driftBar = 0 then s.powerGo 1
  else s

/-- The device enters Moored: events are logged from now on; comparators that do not stay live read 0, and without TETHKEEP
the tether ports go to OFF (R346, R349). -/
def State.moorEnter (s : State) : State :=
  let s := s.modPw (fun p => { p with deep := true, deepAt := s.now })
  let s := s.raise 7936 (s.pw.prev * 16 + 2)
  let s := (upFrom 0 256).foldl (fun s k => if s.kLive k then s else s.kForce0 k) s
  if s.on PWRCTL.TETHKEEP then s
  else (upFrom 0 4).foldl (fun s p => if s.rd TPSTAT.STATE p = 0 then s else s.tpDrop p 0) s

/-- The device is Grounded: only secure SRAM, the life-cycle state and the tamper logic remain, and with PMOFF the core
regulator is commanded off (R346, R351, R380). -/
def State.groundEnter (s : State) : State :=
  let t := s.reg (TAMPCTL.WHOLE.adr 0 0)
  let l := s.reg (LCSTAT.WHOLE.adr 0 0)
  let off := s.on PWRCTL.PMOFF
  let s := (s.closeSess 5).deviceReset 0 false
  ((s.setReg (TAMPCTL.WHOLE.adr 0 0) t).setReg (LCSTAT.WHOLE.adr 0 0) l).modPw (fun p => { p with gnd := true, coreOff := off })

/-- POWER_ENTRY_DONE: the entry completes, where no wake source has ended it (R354). -/
def State.powerDone (s : State) : State :=
  if s.rd PWRSTAT.STATE ≠ 3 then s
  else
    let tgt := s.pw.tgt
    if tgt = 3 then s.groundEnter
    else
      let s := s.wr PWRSTAT.STATE tgt
      let s := if tgt = 2 then s.moorEnter else s.raise 7936 (s.pw.prev * 16 + tgt)
      s.modPw (fun p => { p with prev := tgt })

/-! ### Wakes (R350, R352 to R354) -/

/-- WAKE_REQUEST: a wake source of R353 with its cause and index. -/
def State.wakeReq (s : State) (cause idx : Nat) : State :=
  let ok := match cause with
    | 1 => !s.pw.deep && !s.slotsQuiet
    | 2 => true
    | 3 => s.on KCTL.WAKE idx && s.on KSTAT.OUT idx
    | 5 => s.on WAKEEN.TETH
    | 6 => s.on WAKEEN.WD
    | 7 => s.on WAKEEN.SUPPLY
    | _ => false
  if ok then s.wakeAsk cause idx s.now else s

/-- WAKE_TIMER: TB0 has reached WAKEAT. -/
def State.wakeTimer (s : State) : State :=
  if s.on WAKEEN.TIMER ∧ s.rd64 WAKEAT_LO.VALUE WAKEAT_HI.VALUE ≤ s.fine 0 / 64 then s.wakeAsk 4 0 s.now else s

/-- Engines leave Moored with an engine reset, the delay lines are calibrated, and the scrub streams go on where they
stopped (R348). -/
def State.unmoor (s : State) : State :=
  let d := s.now - s.pw.deepAt
  let later (x : Scrub) : Scrub := { x with from_ := x.from_ + d }
  let s := (upFrom 0 64).foldl (fun s g => s.engReset g) s
  let s := { s with calT0 := s.now }
  let s := (s.chan.map (·.1)).foldl (fun s n => s.modDl n (fun l => { l with swapDue := none })) s
  let s := s.modRel (fun r => { r with scrubS := later r.scrubS, scrubX := later r.scrubX })
  let s := (upFrom 0 68).foldl (fun s p => s.setScrub 1 p (later (s.scrub 1 p))) s
  s.modPw (fun p => { p with deep := false })

/-- The wake log is issued in timestamp order, before any newer event (R349). -/
def State.logIssue (s : State) : State :=
  let l := sortEvs s.pw.log
  let n := s.pw.lost
  let s := s.modPw (fun p => { p with log := [], lost := 0 })
  let s := l.foldl State.raiseEv s
  if n = 0 then s else s.raise 7938 (satTo 0xFF n)

/-- The wake completes; its time counts 0.1 µs, to the nearest (R349, R352, R354). -/
def State.wakeDone (s : State) : State :=
  if s.rd PWRSTAT.STATE ≠ 4 then s
  else
    let prev := s.pw.prev
    let d := satTo 0xFFFF ((s.now - s.pw.from_ + 3200) / 6400)
    let s := if s.pw.deep then s.unmoor else s
    let s := s.logIssue.wr PWRSTAT.STATE 0
    let s := (s.inc PWRSTAT.WAKES).wrs 0 [(WAKELAT.LAST, d), (WAKELAT.MAX, max d (s.rd WAKELAT.MAX)), (WAKECAUSE.CAUSE, s.pw.cause), (WAKECAUSE.INDEX, s.pw.idx)]
    let s := if prev = 0 then s else s.raise 7936 (prev * 16)
    (s.modPw (fun p => { p with prev := 0 })).raise 7937 (s.pw.cause * 2 ^ 28 + s.pw.idx * 2 ^ 16 + d)

/-! ### Supply monitors (R355) -/

/-- A rail's warning band and fault band in mV (R355). -/
def State.warnBand (s : State) (r : Nat) : Nat × Nat :=
  match r with
  | 0 => (s.rd AVSSTAT.REQ - 30, s.rd AVSSTAT.REQ + 30)
  | 1 => (808, 892)
  | 2 => (1140, 1260)
  | 3 => (1710, 1890)
  | _ => if s.on SUPMON.HI 0 r then (3069, 3531) else (1674, 1926)

def State.faultBand (s : State) (r : Nat) : Nat × Nat :=
  match r with
  | 0 => (600, 950)
  | 1 => (765, 935)
  | 2 => (1080, 1320)
  | 3 => (1620, 1980)
  | _ => if s.on SUPMON.HI 0 r then (2904, 3696) else (1584, 2016)

def inBand (b : Nat × Nat) (mv : Nat) : Bool := decide (b.1 ≤ mv ∧ mv ≤ b.2)

/-- A bank's rail within a nominal band is noted, with its level as first detected (R355, R395). -/
def State.bankSeen (s : State) (r mv : Nat) : State :=
  let lo := inBand (1710, 1890) mv
  let hi := inBand (3135, 3465) mv
  if r < 4 ∨ ¬ (lo ∨ hi) ∨ bitAt s.pw.seen (r - 4) then s
  else (s.modPw (fun p => { p with seen := p.seen + 2 ^ (r - 4) })).wr SUPMON.HI (b2n hi) 0 r

/-- SUPPLY_MEASUREMENT: rail `r` is at `mv`; a warning ends with a level back in its band (R355). -/
def State.supMeasure (s : State) (r mv : Nat) : State :=
  let s := s.bankSeen r mv
  let s := (s.wr SUPMON.LEVEL (satTo 0xFFF mv) 0 r).wr SUPMON.MIN (min (satTo 0xFFF mv) (s.rd SUPMON.MIN 0 r)) 0 r
  if inBand (s.warnBand r) mv then s.wr SUPMON.WARN 0 0 r else s

/-- The wake a warning or a fault causes (R353). -/
def State.supWake (s : State) (r : Nat) : State := if s.on WAKEEN.SUPPLY then s.wakeAsk 7 r s.now else s

/-- SUPPLY_WARNING: rail `r` has been outside its warning band for 10 µs. -/
def State.supWarn (s : State) (r : Nat) : State :=
  let mv := s.rd SUPMON.LEVEL 0 r
  if inBand (s.warnBand r) mv ∨ s.on SUPMON.WARN 0 r then s
  else ((s.wr SUPMON.WARN 1 0 r).raise 7939 (r * 2 ^ 24 + mv)).supWake r

/-- What a fault of a rail does (R355). -/
def State.supAct (s : State) (r : Nat) : State :=
  match r with
  | 0 => (s.revokeOe 0xFFFF).deviceReset 0 false
  | 1 => (upFrom 0 4).foldl (fun s p => if s.tpEn p ∧ s.on TPSTAT.STATE p then (s.wr TPSTAT.LASTERR 6 p).tpDrop p 1 else s) s
  | 2 => (upFrom 0 4).foldl (fun s p => if s.tpEn p ∧ s.on TPSTAT.STATE p then (s.wr TPSTAT.LASTERR 6 p).tpDrop p 1 else s) s
  | 3 => (upFrom 0 256).foldl (fun s k => if s.kOff k then s else s.kRaw k true false) s
  | _ => s.revokeOe (2 ^ (r - 4))

/-- SUPPLY_FAULT: rail `r`, at `mv`, has been outside its fault band for 1 µs. -/
def State.supFault (s : State) (r mv : Nat) : State :=
  if inBand (s.faultBand r) mv ∨ s.on SUPMON.FAULT 0 r then s
  else
    let l := satTo 0xFFF mv
    let s := (s.wr SUPMON.LEVEL l 0 r).wr SUPMON.MIN (min l (s.rd SUPMON.MIN 0 r)) 0 r
    let s := (s.wr SUPMON.FAULT 1 0 r).wr SUPMON.SEEN 1 0 r
    ((s.raise 7940 (r * 2 ^ 24 + l)).supWake r).supAct r

/-- SUPPLY_FAULT_CLEAR: rail `r` is back inside its fault band, at `mv`; the comparators decide again (R355). -/
def State.supClear (s : State) (r mv : Nat) : State :=
  if ¬ inBand (s.faultBand r) mv ∨ ¬ s.on SUPMON.FAULT 0 r then s
  else
    let s := ((s.wr SUPMON.LEVEL (satTo 0xFFF mv) 0 r).wr SUPMON.FAULT 0 0 r).raise 7941 (r * 2 ^ 24 + satTo 0xFFF mv)
    if r = 3 then (upFrom 0 256).foldl (fun s k => s.kAgain k) s else s

/-- A write of SUPMON: clearing SEEN restarts MIN (R358). -/
def State.supmonWrite (s : State) (r : Nat) (w : Word) : State :=
  if SUPMON.SEEN.of w = 1 ∧ s.on SUPMON.SEEN 0 r then (s.wr SUPMON.SEEN 0 0 r).wr SUPMON.MIN (s.rd SUPMON.LEVEL 0 r) 0 r else s

/-! ### Core voltage (R356, R357) -/

/-- KW of R356 among the monitors that are not faulty. -/
def State.avsK (s : State) : Option Nat :=
  let ps := (upFrom 0 68).filter (fun p => s.rd PHEALTH.STATE 0 p == 0 || s.rd PHEALTH.STATE 0 p == 2)
  ((ps ++ upFrom 68 28).filter (fun m => !s.on MON.FAULT 0 m)).foldl (fun b m => some (max (b.getD 0) (s.rd MON.K 0 m))) none

/-- The loop value takes a new value within its limits. -/
def State.loopSet (s : State) (v : Nat) : State :=
  let v := if v < s.rd AVSCTL.VMIN then s.rd AVSCTL.VMIN else satTo (s.rd AVSCTL.VMAX) v
  (s.wr AVSSTAT.LOOP v).vLook

/-- AVS_EVALUATION (R356). -/
def State.avsEval (s : State) : State :=
  if ¬ s.on AVSCTL.EN ∨ s.pw.deep ∨ s.strobe s.now % ms 1 ≠ 0 then s
  else match s.avsK with
    | none => s
    | some k =>
      let t := s.rd PMBCFG.AVSK
      if t + 0x40 < k then (s.modPw (fun p => { p with lowN := 0 })).loopSet (s.rd AVSSTAT.LOOP + 10)
      else if k + 0x40 < t then
        (if s.pw.lowN + 1 < 16 then s.modPw (fun p => { p with lowN := p.lowN + 1 })
        else (s.modPw (fun p => { p with lowN := 0 })).loopSet (s.rd AVSSTAT.LOOP - 10))
      else s.modPw (fun p => { p with lowN := 0 })

/-- A PMBus failure is declared with its cause (R357, R359). -/
def State.pmFail (s : State) (cause : Nat) : State :=
  (s.wr AVSSTAT.PMFAIL 1).raise 7942 (cause * 2 ^ 16 + s.pw.status % 2 ^ 16)

/-- An attempt on the bus without an acknowledgement, or with a PEC error: the third in a row is a failure. -/
def State.pmMiss (s : State) : State :=
  let s := s.modPw (fun p => { p with tries := p.tries + 1 })
  if s.pw.tries < 3 then s else (s.modPw (fun p => { p with tries := 0 })).pmFail 1

/-- PMBUS_REQUEST_SEND: after the first request, which boot sends, a request that differs from the one sent goes to the
regulator, and is acknowledged or not (R354, R356, R357). -/
def State.pmSend (s : State) (ok : Bool) : State :=
  let st := s.rd PWRSTAT.STATE
  if s.vReq = s.rd AVSSTAT.REQ ∨ s.on AVSSTAT.PMFAIL ∨ st = 3 ∨ st = 4 ∨ ¬ s.on BOOTSTAT.DONE
      ∨ s.pw.sentAt.any (fun a => decide (s.now < a + us 100)) then s
  else
    let s := s.modPw (fun p => { p with sentAt := some s.now })
    if ok then (s.modPw (fun p => { p with tries := 0 })).wrs 0 [(AVSSTAT.REQ, s.vReq), (AVSSTAT.SETTLING, 1)] else s.pmMiss

/-- PMBUS_SETTLED: the core rail reads within 10 mV of the request (R332, R357). -/
def State.pmSettled (s : State) : State :=
  if ¬ s.on AVSSTAT.SETTLING ∨ 10 < absDiff (s.rd SUPMON.LEVEL 0 0) (s.rd AVSSTAT.REQ) then s
  else
    let s := s.wr AVSSTAT.SETTLING 0
    match s.rel.wait with
    | .settle m => s.modRel (fun r => { r with wait := .reads m (s.monU m).n })
    | _ => s

/-- PMBUS_SETTLE_TIMEOUT. -/
def State.pmLate (s : State) : State :=
  if s.on AVSSTAT.SETTLING ∧ ¬ s.on AVSSTAT.PMFAIL ∧ s.pw.sentAt.any (fun a => decide (a + ms 2 ≤ s.now)) then s.pmFail 2 else s

/-- PMBUS_STATUS_POLL: STATUS_WORD is read, where the bus answers; `fault` tells of a fault bit in it. -/
def State.pmPoll (s : State) (ok : Bool) (word : Nat) (fault : Bool) : State :=
  if ¬ ok then (if s.on AVSSTAT.PMFAIL then s else s.pmMiss)
  else
    let s := s.modPw (fun p => { p with status := word % 2 ^ 16, tries := 0 })
    if fault ∧ ¬ s.on AVSSTAT.PMFAIL then s.pmFail 3 else s

/-- A write of AVSCTL (R357, R358). -/
def State.avsctlWrite (s : State) (w : Word) : State :=
  let hold (lo hi v : Nat) : Nat := if v < lo then lo else satTo hi v
  let vmax := hold 650 900 (AVSCTL.VMAX.of w)
  let s := s.wrs 0 [(AVSCTL.EN, AVSCTL.EN.of w), (AVSCTL.VMAX, vmax), (AVSCTL.VMIN, hold 650 vmax (AVSCTL.VMIN.of w))]
  let s := (s.modRel (fun r => { r with rv := min vmax r.rv })).loopSet (s.rd AVSSTAT.LOOP)
  if AVSCTL.RETRY.of w = 1 ∧ s.on AVSSTAT.PMFAIL then
    (s.wr AVSSTAT.PMFAIL 0).modPw (fun p => { p with tries := 0, sentAt := some s.now })
  else s

/-! ### The meanings -/

/-- The word of a PWRCTL write with GO and its TGT. -/
def pwrWord (tgt : Nat) (w : Word) : Word := BitVec.ofNat 32 (putBits w.toNat 29 3 (4 + tgt))

def execPwrctlGoAloft (t : Nat) (src : Src) (val : Word) (s : State) : Out :=
  s.ran src.ok ((s.advance t).authWrite src (PWRCTL.WHOLE.adr 0 0) (pwrWord 0 val) (·.pwrctlWrite (pwrWord 0 val)))

def execPwrctlGoDrift (t : Nat) (src : Src) (val : Word) (s : State) : Out :=
  s.ran src.ok ((s.advance t).authWrite src (PWRCTL.WHOLE.adr 0 0) (pwrWord 1 val) (·.pwrctlWrite (pwrWord 1 val)))

def execPwrctlGoMoored (t : Nat) (src : Src) (val : Word) (s : State) : Out :=
  s.ran src.ok ((s.advance t).authWrite src (PWRCTL.WHOLE.adr 0 0) (pwrWord 2 val) (·.pwrctlWrite (pwrWord 2 val)))

def execPwrctlGoGrounded (t : Nat) (src : Src) (val : Word) (s : State) : Out :=
  s.ran src.ok ((s.advance t).authWrite src (PWRCTL.WHOLE.adr 0 0) (pwrWord 3 val) (·.pwrctlWrite (pwrWord 3 val)))

def execPowerAutoEntry (t sinceD sinceM : Nat) (s : State) : Out := s.ran true ((s.advance t).powerAuto sinceD sinceM)

def execPowerEntryDone (t : Nat) (s : State) : Out := s.ran true (s.advance t).powerDone

def execWakeRequest (t cause idx : Nat) (s : State) : Out := s.ran (cause < 9 && idx < 256) ((s.advance t).wakeReq cause idx)

def execWakeTimer (t : Nat) (s : State) : Out := s.ran true (s.advance t).wakeTimer

def execSupplyMeasurement (t r mv : Nat) (s : State) : Out := s.ran (r < 20) ((s.advance t).supMeasure r mv)

def execSupplyWarning (t r : Nat) (s : State) : Out := s.ran (r < 20) ((s.advance t).supWarn r)

def execSupplyFault (t r mv : Nat) (s : State) : Out := s.ran (r < 20) ((s.advance t).supFault r mv)

def execSupplyFaultClear (t r mv : Nat) (s : State) : Out := s.ran (r < 20) ((s.advance t).supClear r mv)

def execAvsEvaluation (t : Nat) (s : State) : Out := s.ran true (s.advance t).avsEval

def execPmbusRequestSend (t : Nat) (ok : Bool) (s : State) : Out := s.ran true ((s.advance t).pmSend ok)

def execPmbusSettled (t : Nat) (s : State) : Out := s.ran true (s.advance t).pmSettled

def execPmbusSettleTimeout (t : Nat) (s : State) : Out := s.ran true (s.advance t).pmLate

def execPmbusStatusPoll (t : Nat) (ok : Bool) (word : Nat) (fault : Bool) (s : State) : Out :=
  s.ran true ((s.advance t).pmPoll ok word fault)

def execAvsctlRetry (t : Nat) (src : Src) (val : Word) (s : State) : Out :=
  s.ran src.ok ((s.advance t).authWrite src (AVSCTL.WHOLE.adr 0 0) (BitVec.ofNat 32 (putBit val.toNat 30 true)) (·.avsctlWrite (BitVec.ofNat 32 (putBit val.toNat 30 true))))

end Sys2Proof.Machine
end

