-- ==== Sys2Proof/Machine/RegRead.lean ====
section
/-! DEFINITION. What a read of a BAR0 offset returns (R10, R11, R404 to R407): the stored word, what a register shows
of the state beyond the registers, and what the read itself clears or latches. -/
namespace Sys2Proof.Machine
open Reg

/-! ### What a register shows of the state beyond the registers -/

/-- The timebase block (R47, R49). -/
def State.tbView (s : State) (k loc w : Nat) : Nat :=
  if k ≠ 0 ∧ 0x80 ≤ loc then 0
  else match loc with
    | 0x04 =>
      let b := s.tbH k
      putBits (putBits w 31 1 (b2n !b.asks.isEmpty)) 30 1 (b2n b.slew)
    | 0x08 => s.fine k / 64 % 2 ^ 32
    | 0x0C => s.fine k / 64 / 2 ^ 32 % 2 ^ 32
    | 0x14 => if s.spine.isNone ∨ (k ≠ 17 ∧ (s.tbH k).segs.isEmpty) then w else s.rateOf k % 2 ^ 32
    | 0x24 => s.slewRem k
    | 0x8C => if s.spine.isNone ∨ (s.tbH 0).segs.isEmpty then w else ofSigned 32 ((s.rateOf 0 : Int) - 0x40000000)
    | _ => w

/-- The engine-control block of gondola `g`; its debug registers read 0 outside a session that grants them (R94, R116, R368,
R375, R384). -/
def State.engView (s : State) (src : Src) (g loc w : Nat) : Nat :=
  match loc with
  | 0x04 => s.engstatWord g
  | 0x08 => s.engpcWord g
  | 0x10 => (s.en g).icount % 2 ^ 32
  | 0x14 => (s.en g).icount / 2 ^ 32 % 2 ^ 32
  | 0x80 => s.mcverWord g
  | 0x84 => s.mchashWord g
  | 0xC0 => if s.dbgMay src g 1 then w else 0
  | 0xC4 => if s.dbgMay src g 1 then w else 0
  | 0xC8 => if s.dbgMay src g 1 then w else 0
  | 0xCC => s.dbgdata src g
  | _ => w

/-- The scheduler block of gondola `g` (R155). -/
def State.schView (s : State) (g loc w : Nat) : Nat :=
  if loc = 4 then s.schstatWord g
  else if 0x1000 ≤ loc then (s.ti g ((loc - 0x1000) / 64) ((loc - 0x1000) / 4 % 16)).instat
  else w

/-- CNT: the position in the current period in counter units (R157). -/
def State.cntWord (s : State) (n : Nat) : Nat :=
  if s.rd CHSTAT.STATE n = 2 then (s.runNow n - (s.ch n).run.pk) / 2 ^ s.rd CHCTL.CUNIT n % 2 ^ 32 else 0

/-- The channel block (R65, R156, R168, R176, R184). -/
def State.chView (s : State) (n loc w : Nat) : Nat :=
  let c := s.ch n
  if n % 2 = 1 ∧ (loc = 0x10C ∨ loc = 0x110 ∨ loc = 0x114 ∨ loc = 0x130) then 0
  else match loc with
  | 0x000 => putBits w CHCTL.MODE.lo CHCTL.MODE.len (s.mode n)
  | 0x004 => putBits w CHSTAT.STATE.lo CHSTAT.STATE.len (s.chSt n)
  | 0x014 => s.cntWord n
  | 0x104 =>
    putBits (putBits w 30 1 (b2n (s.on PWMSTAT.SHPEND n && s.on PWMCTL.LAG n && !c.run.gate))) 29 1 (b2n (s.on FORCEST.CUR n))
  | 0x11C => putBits w 28 1 (b2n c.pin.fwait.isSome)
  | 0x130 => putBits w 0 5 (s.shootWin n)
  | 0x404 =>
    b2n c.cap.pin * 2 ^ 31 + b2n c.pin.lvl * 2 ^ 30 + b2n (bitAt (s.rd BANKOESTAT.OE) (n / 64)) * 2 ^ 29
  | 0xF04 => putBits (putBits (putBits w 30 1 (b2n (decide (5001 ≤ s.calAge n)))) 29 1 (b2n c.dl.etbHeld.isSome)) 16 4 c.dl.pend.length
  | 0xF0C => s.calAge n
  | _ => w

/-- The registers of channel group `j` (R183, R193). -/
def State.grpView (s : State) (j loc w : Nat) : Nat :=
  match loc with
  | 0x204 => putBits w 31 1 (b2n ((upFrom (8 * j) 8).any (fun n => (s.ch n).run.gate)))
  | 0x220 => putBits w 0 4 ((upFrom 0 4).foldl (fun a i => a + b2n (s.lineAct j i) * 2 ^ i) 0)
  | _ => w

/-- LOSSSTAT.GRREM: the grace that remains, in µs (R240). -/
def State.graceLeft (s : State) (k : Nat) : Nat :=
  match (s.tailU k).grace with
  | some (e, _) => satTo 0xFFFF ((e - s.now + us 1 - 1) / us 1)
  | none => 0

def State.tailView (s : State) (k loc w : Nat) : Nat := if loc = 0x64 then putBits w 0 16 (s.graceLeft k) else w

/-- SPREMSTAT: the age of the latest applied record, and whether it is younger than REMAGE (R267). -/
def State.spView (s : State) (i loc w : Nat) : Nat :=
  if loc ≠ 0x30 then w
  else match (s.spU i).tau with
    | some t =>
      let age := (s.fine 0 - t) / us 1
      putBits (putBits w 31 1 (b2n (decide (s.fine 0 < t + us (s.rd SPSRC.REMAGE i))))) 16 8 (satTo 255 age)
    | none => w

/-- KSTAT.EFFTHR: the instantaneous threshold code (R205, R207). -/
def State.kView (s : State) (k loc w : Nat) : Nat := if loc = 0xC then putBits w 16 10 (s.kVt k / 1562500) else w

/-- SARSTAT (R211, R215). -/
def State.sarView (s : State) (i loc w : Nat) : Nat :=
  let u := (s.sarStart i).sarU i
  if loc = 4 then putBits (putBits w 31 1 (b2n u.cur.isSome)) 28 3 (satTo 4 u.pend) else w

/-- SPRSTAT (R336). -/
def State.relView (s : State) (loc w : Nat) : Nat :=
  if loc = 0x44 then
    let w := putBits w SPRSTAT.BUSY.lo SPRSTAT.BUSY.len (b2n (s.tko.isSome || s.test.isSome))
    putBits (putBits w SPRSTAT.PHASE.lo SPRSTAT.PHASE.len s.sprPhase) SPRSTAT.QLEN.lo SPRSTAT.QLEN.len (satTo (2 ^ SPRSTAT.QLEN.len - 1) s.sprQ.length)
  else w

/-- Whether a path holds a D3 session (R368, R369, R376). -/
def State.d3 (s : State) (src : Src) : Bool :=
  s.secH.sess.any (fun x => src.isPf0 && x.jtag == (src == Src.jtag) && decide (3 ≤ x.level))

/-- Word `e` of BALWIN: PF0's view of a ballast dump, 0 for a secure one outside D3 (R369). -/
def State.balWin (s : State) (src : Src) (e : Nat) : Nat :=
  let p := s.rd BALSEL.PHYS
  if ¬ src.isPf0 ∨ 68 ≤ p ∨ (bitAt (s.rd BALSEC.SEC 0 (p / 32)) (p % 32) ∧ ¬ s.d3 src) then 0
  else ofBytes (s.mem.secBytes (0x5E000 + 0x800 * p + 4 * e) 4)

/-- The security block (R369, R384). -/
def State.secView (s : State) (src : Src) (loc w : Nat) : Nat :=
  if loc = 0x84 then putBits w DBGSTAT.REMAIN.lo DBGSTAT.REMAIN.len (satTo (2 ^ DBGSTAT.REMAIN.len - 1) s.sessLeft)
  else if 0x1000 ≤ loc ∧ loc < 0x1800 then s.balWin src ((loc - 0x1000) / 4)
  else w

/-- DISCCTL.SRC of a cascade member reads 4 (R57, R309). -/
def State.blkView (s : State) (src : Src) (b : Blk) (n loc w : Nat) : Nat :=
  match b with
  | .tb => if n = 0 ∧ loc = 0x80 ∧ s.member then putBits w DISCCTL.SRC.lo DISCCTL.SRC.len 4 else s.tbView n loc w
  | .eng => s.engView src n loc w
  | .sch => s.schView n loc w
  | .ch => s.chView n loc w
  | .grp => s.grpView n loc w
  | .tail => s.tailView n loc w
  | .sp => s.spView n loc w
  | .k => s.kView n loc w
  | .sar => s.sarView n loc w
  | .rel => s.relView loc w
  | .sec => s.secView src loc w
  | .glob => w
  | .fn => w
  | .ef => w
  | .mv => w
  | .qc => w
  | .teth => w
  | .tp => w
  | .an => w
  | .sd => w

/-- The word a register shows to `src` (R10): write-only and reserved bits read 0. -/
def State.view (s : State) (src : Src) (a : Nat) : Nat :=
  match blkOf a, regRow a with
  | some (b, n, loc), some r => s.blkView src b n loc (s.reg a).toNat &&& r.rd
  | _, _ => 0

/-! ### The windows -/

/-- The spare service view (R407): the physical gondola P64 to P67 that `a` shows, and the offset in its block. -/
def spareOf (a : Nat) : Option (Nat × Nat) :=
  if 0x2100000 ≤ a ∧ a < 0x2200000 then some (64 + (a - 0x2100000) / 0x40000, a % 0x40000) else none

/-- A word of the spare service view: the registers of the logical gondola the spare serves, those of an idle gondola
where it serves none, with the BALSTAT a ballast takeover left there (R338, R407). The view is read-only, and a read through
it clears no RC field (DESIGN CHOICE, notes/assumptions/136.md). -/
def State.spareView (s : State) (src : Src) (p l : Nat) : Nat :=
  if 0x8000 ≤ l then 0
  else match s.logOf p with
    | some g => s.view src (0x1000000 + 0x40000 * g + l)
    | none =>
      if l = BALSTAT.WHOLE.off then s.rel.balKept.get (fun _ => 0) p
      else if l = MCVER.WHOLE.off then s.rd MCVER.ROMID 0 * 2 ^ 16 + (s.mcRun.get (fun _ => McImage.bare) p).version
      else if l = MCHASH.WHOLE.off then (s.mcRun.get (fun _ => McImage.bare) p).hash
      else (regReset (0x1000000 + l)).toNat

/-- The local-memory window (R94): the gondola that `a` shows and the offset in its local memory. -/
def State.windowOf (s : State) (a : Nat) : Option (Nat × Nat) :=
  if 0x1000000 ≤ a ∧ a < 0x2000000 ∧ 0x8000 ≤ a % 0x40000 ∧ a % 0x40000 < 0x10000 then
    let g := (a - 0x1000000) / 0x40000
    some (g, 0x8000 * s.rd LMPAGE.PAGE g + a % 0x8000)
  else none

/-- A read of the local-memory window: 0 for a secure gondola outside D3; poison ends it (R39, R71, R94, R368). -/
def State.windowRead (s : State) (src : Src) (g o : Nat) : State :=
  if (src.port (s.phys g)).any s.isolated then s.answer src.cut
  else if s.secure g ∧ ¬ s.d3 src then s.answerWord 0
  else if s.mem.lmBad g o 4 then s.answer (src.failure 4)
  else s.answerWord (s.mem.lmWord g o)

/-- A write of the local-memory window (R71, R94, R368). -/
def State.windowWrite (s : State) (src : Src) (a g o : Nat) (w : Word) : State :=
  if (src.port (s.phys g)).any s.isolated then s.answer src.cut
  else if s.secure g ∧ ¬ s.d3 src then s.authDropAs src src.code 0x1FD a
  else if s.mem.lmBad g o 4 then s.answer (src.failure 4)
  else s.lmStore g o w.toNat

/-! ### Reads -/

/-- Read-clear bits are cleared by the read (R10). -/
def State.readClear (s : State) (a : Nat) : State :=
  match regRow a with
  | some r => s.setReg a (s.reg a &&& ~~~(BitVec.ofNat 32 r.rc))
  | none => s

/-- A read of a register: its word, and what the read clears, latches or settles (R10, R47, R250, R262). -/
def State.regRead (s : State) (src : Src) (a : Nat) : State :=
  match blkOf a with
  | some (.tb, k, 0x08) => s.nsLoRead k
  | some (.sp, i, 0x14) => s.spangleRead i
  | some (.sp, i, loc) =>
    let s := if 0x400 ≤ loc ∧ loc < 0xC00 then s.aevSettle i ((loc - 0x400) / 0x20) else s
    (s.answerWord (s.view src a)).readClear a
  | _ => (s.answerWord (s.view src a)).readClear a

/-- A 32-bit read of BAR0 offset `a` by `src`: nothing in Grounded (R351), held while the device sleeps (R350), nothing from
JTAG outside a session (R375), ended by Completer Abort where its port is isolated (R20) or its offset is not that of an
aligned word: R11 names Completer Abort for other widths only, and the unaligned word is the model's choice (DESIGN CHOICE,
notes/assumptions/136.md). Offsets that nothing implements read 0 (R11). -/
def State.read (s : State) (src : Src) (a : Nat) : State :=
  if s.pw.gnd ∨ src = .jtag ∧ ¬ s.jtagMay 1 then s
  else if s.holds src a then s.hold (.read src a 4)
  else if a % 4 ≠ 0 then s.answer src.cut
  else if 0x300000 ≤ a ∧ a < 0x310000 then s.answerWord (match src.hostFn with | some f => s.msixRead f (a - 0x300000) | none => 0)
  else match spareOf a, s.windowOf a with
    | some (p, l), _ => if (src.port p).any s.isolated then s.answer src.cut else s.answerWord (s.spareView src p l)
    | none, some (g, o) => s.windowRead src g o
    | none, none => if s.cutOff src a then s.answer src.cut else s.regRead src a

/-- An access of another width than 32 bits ends in Completer Abort (R11), and waits as `h` while the device sleeps
(R350). -/
def State.badWidth (s : State) (src : Src) (a : Nat) (h : Held) : State :=
  if s.pw.gnd ∨ src = .jtag ∧ ¬ s.jtagMay 1 then s
  else if s.holds src a then s.hold h
  else s.answer src.cut

/-- Whether 8 naturally aligned bytes lie in the MSI-X table or the Pending Bit Array (R11, R290). -/
def wideMsix (a len : Nat) : Bool := len == 8 && a % 8 == 0 && decide (0x300000 ≤ a ∧ a < 0x308100)

/-- A read of `len` bytes: 4, or 8 naturally aligned ones of the MSI-X table and the Pending Bit Array (R11, R290). -/
def State.readLen (s : State) (src : Src) (a len : Nat) : State :=
  if len = 4 then s.read src a
  else if wideMsix a len ∧ ¬ s.pw.gnd ∧ ¬ s.holds src a then
    match src.hostFn with
    | some f => s.answer .ok ((toBytes 8 (s.msixRead f (a - 0x300000) + 2 ^ 32 * s.msixRead f (a - 0x300000 + 4))).map (·.toNat))
    | none => s.badWidth src a (.read src a len)
  else s.badWidth src a (.read src a len)

/-! ### The meanings -/

/-- READ_CLEAR_ACCESS (R10): a read of `len` bytes at BAR0 offset `off`, 64 MiB (R404). -/
def execReadClearAccess (t : Nat) (src : Src) (off len : Nat) (s : State) : Out :=
  s.ran (src.ok && decide (off < 0x4000000)) ((s.advance t).readLen src off len)

/-- NS_LO_READ (R47, R49). -/
def execNsLoRead (t : Nat) (src : Src) (k : Nat) (s : State) : Out :=
  s.ran (src.ok && decide (k < 18)) ((s.advance t).read src (NS_LO.VALUE.adr k 0))

/-- SPANGLE_READ (R250). -/
def execSpangleRead (t : Nat) (src : Src) (i : Nat) (s : State) : Out :=
  s.ran (src.ok && decide (i < 32)) ((s.advance t).read src (SPANGLE.ANGLE.adr i 0))

end Sys2Proof.Machine
end

