-- ==== Sys2Proof/Machine/RegWrite.lean ====
section
/-! DEFINITION. What a write of a BAR0 offset does (R10, R11): each register's own effect, for every source of register
writes: the host, command queues, the tether master, engines and the JTAG path. -/
namespace Sys2Proof.Machine
open Reg

/-! ### The blocks

Each function gives the effect of an authorised write of `w` at `loc` in its block; `a` is the BAR0 offset. -/

/-- The global region (R58, R278, R347, R357, R358, R395). -/
def State.globWrite (s : State) (src : Src) (a loc : Nat) (w : Word) : State :=
  match loc with
  | 0x100 => s.oeSet w
  | 0x104 => s.oeClr w
  | 0x280 => s.gstartWrite src w
  | 0x400 => s.pwrctlWrite w
  | 0x420 => s.avsctlWrite w
  | _ => if 0x440 ≤ loc ∧ loc < 0x490 then s.supmonWrite ((loc - 0x440) / 4) w else s.plainWrite a w

/-- Function blocks (R278). -/
def State.fnWrite (s : State) (f a loc : Nat) (w : Word) : State :=
  match loc with
  | 0x04 => if s.host.vfEn then s else s.plainWrite a w
  | 0x14 => s.hostwdWrite f w
  | _ => s.plainWrite a w

/-- Timebase blocks: in TB17's every write is ignored, and so are the registers of TB0 alone in the others (R47). -/
def State.tbWrite (s : State) (k a loc : Nat) (w : Word) : State :=
  if 17 ≤ k ∨ (k ≠ 0 ∧ 0x80 ≤ loc) then s
  else match loc with
    | 0x00 => s.tbctlWrite k w
    | 0x18 => s.tbSetWrite k RATESET.RATE w.toNat
    | 0x20 => s.slewoffWrite k w
    | 0x28 => s.slewmaxWrite k w
    | 0x40 => s.tbSetWrite k TICKNS.NSPT w.toNat
    | 0x80 => s.discctlWrite w
    | _ => s.plainWrite a w

/-- The event fabric (R138, R153). -/
def State.efWrite (s : State) (a loc : Nat) (w : Word) : State :=
  match loc with
  | 0x00 => s.routebaseWrite w
  | 0x04 => s.chdbaseWrite w
  | 0x08 => s.efctlWrite w
  | 0x10 => s.invalWrite (INVAL.TYPE.of w) (INVAL.INDEX.of w)
  | _ => s.plainWrite a w

/-- Movers: MVHEAD keeps its value while a chain runs (R284). -/
def State.mvWrite (s : State) (m a loc : Nat) (w : Word) : State :=
  match loc with
  | 0x00 => s.mvctlWrite m w
  | _ =>
    let st := s.rd MVSTAT.STATE m
    if (loc = 0x08 ∨ loc = 0x0C) ∧ 1 ≤ st ∧ st ≤ 3 then s else s.plainWrite a w

/-- The tether (R318 to R321). -/
def State.tethWrite (s : State) (src : Src) (a loc : Nat) (w : Word) : State :=
  match loc with
  | 0x00 => s.tctlWrite w
  | 0x20 => s.cgstartWrite src w
  | 0x40 => s.rwctlWrite w
  | _ => if 0x100 ≤ loc ∧ loc < 0x280 then s.importWrite ((loc - 0x100) / 4) w else s.plainWrite a w

/-- The engine-control block (R94, R116, R378, R379, R384). -/
def State.engWrite (s : State) (src : Src) (g a loc : Nat) (w : Word) : State :=
  match loc with
  | 0x00 => s.engctlWrite g w
  | 0x60 => s.balctlWrite g w
  | 0xC0 => s.dbgWrite src g 2 a (·.dbgectl g w)
  | 0xC4 => s.dbgWrite src g 2 a (·.plainWrite a w)
  | 0xC8 => s.dbgWrite src g 1 a (·.plainWrite a w)
  | 0xCC => s.dbgWrite src g 2 a (·.dbgdataWrite src g w)
  | _ => s.plainWrite a w

/-- The scheduler block (R155). -/
def State.schWrite (s : State) (g a loc : Nat) (w : Word) : State :=
  if loc = 0x08 then s.savebaseWrite g w
  else if loc = 0x20 then s.taskrunWrite g w
  else if 0x100 ≤ loc ∧ loc < 0x500 then
    match loc % 16 with
    | 0 => s.tdctlWrite g ((loc - 0x100) / 16) w
    | 4 => s.tdentryWrite g ((loc - 0x100) / 16) w
    | _ => s.plainWrite a w
  else s.plainWrite a w

/-- The timer, PWM and pin registers of a channel (R65, R156, R159, R168, R174, R176, R181, R196, R198). -/
def State.chWrite (s : State) (n a loc : Nat) (w : Word) : State :=
  match loc with
  | 0x000 => s.chctlFull n w
  | 0x008 => s.shadowWrite n PRD.VALUE ACTPRD.VALUE w.toNat
  | 0x00C => s.shadowWrite n CMPA.VALUE ACTCMPA.VALUE w.toNat
  | 0x010 => s.shadowWrite n CMPB.VALUE ACTCMPB.VALUE w.toNat
  | 0x018 => s.osctlWrite n w
  | 0x100 => s.pwmctlWrite n w
  | 0x108 => s.dtimeWrite n w
  | 0x10C => s.adtctlWrite n w
  | 0x118 => s.forceWrite n w
  | 0x128 => if TRIPCLR.CLR.of w = 1 then s.tripClear n else s
  | 0x300 => s.capctlFull n w
  | 0x400 => s.pinctlWrite n w
  | 0x500 => s.ctmctlWrite n w
  | 0x504 => s.ctmthrWrite n w
  | 0x508 => s.ctmmaxtWrite n w
  | 0xF00 => s.dlctlWrite n w
  | _ => s.plainWrite a w

/-- The registers of a channel group (R183, R198, R200). -/
def State.grpWrite (s : State) (j a loc : Nat) (w : Word) : State :=
  match loc with
  | 0x200 => if GLOAD.LOADALL.of w = 1 then s.loadAllGo j else s
  | 0x230 => s.safectlFull j w
  | 0x240 => s.gforceWrite j w
  | _ => if 0x210 ≤ loc ∧ loc < 0x220 then (s.plainWrite a w).refreshLines j else s.plainWrite a w

/-- A tail (R223). -/
def State.tailWrite (s : State) (src : Src) (k a loc : Nat) (w : Word) : State :=
  match loc with
  | 0x00 => s.tailctlWrite k w
  | 0x10 => s.sercfgWrite k w
  | 0x14 => s.serchkWrite k w
  | 0x18 => s.sertrigWrite k w
  | 0x1C => s.serperWrite k w
  | 0x20 => s.cableWrite k w
  | 0x24 => s.cablecfgWrite k w
  | 0x28 => s.tailrecWrite k w
  | 0x5C => s.velcfgWrite k w
  | 0x60 => s.lossctlWrite k w
  | 0x70 => s.fsctlWrite k w
  | 0x74 => s.fsthrWrite k w
  | 0x80 => s.emuctlFrom src k w
  | 0x88 => s.emudlyWrite k w
  | _ => s.plainWrite a w

/-- A spool (R250, R261, R264). -/
def State.spWrite (s : State) (src : Src) (i a loc : Nat) (w : Word) : State :=
  if 0x100 ≤ loc ∧ loc < 0x180 then s.gapmapWrite i ((loc - 0x100) / 4) w
  else if 0x400 ≤ loc ∧ loc < 0xC00 then
    (if loc % 0x20 = 8 then s.aevctlFrom src i ((loc - 0x400) / 0x20) w else (s.aevSettle i ((loc - 0x400) / 0x20)).plainWrite a w)
  else match loc with
    | 0x00 => s.spctlWrite i w
    | 0x04 => s.spsrcWrite i w
    | 0x08 => s.spgeomWrite i w
    | 0x0C => s.sptolWrite i w
    | 0x34 => s.springWrite i w
    | _ => s.plainWrite a w

/-- A comparator (R206 to R208). -/
def State.kWrite (s : State) (k a loc : Nat) (w : Word) : State :=
  match loc with
  | 0x00 => s.kctlWrite k w
  | 0x04 => s.kthrWrite k w
  | 0x10 => if KCLR.CLR.of w = 1 then s.kClear k true else s
  | _ => s.plainWrite a w

/-- The analogue block's own registers (R204, R216). -/
def State.anWrite (s : State) (a loc : Nat) (w : Word) : State :=
  if loc = 0x20000 then s.anctlWrite w
  else if 0x18000 ≤ loc ∧ loc < 0x18100 then s.mclkctlWrite ((loc - 0x18000) / 4) w
  else s.plainWrite a w

/-- A SAR unit (R210, R211, R214). -/
def State.sarWrite (s : State) (i a loc : Nat) (w : Word) : State :=
  match loc with
  | 0x00 => s.sarctlWrite i w
  | 0x10 => if SARSW.GO.of w = 1 then s.sarAccept i (s.now + ns 100) false else s
  | 0x14 => s.bufWrite SARCTL.EN SARBUF.BASE SARBUF.SIZE i w
  | _ => if 0x100 ≤ loc ∧ loc < 0x140 then s.seqentWrite i ((loc - 0x100) / 4) w else s.plainWrite a w

/-- A sigma-delta input (R214, R218, R219, R221). -/
def State.sdWrite (s : State) (i a loc : Nat) (w : Word) : State :=
  match loc with
  | 0x00 => s.sdctlWrite i w
  | 0x04 => s.sdfiltWrite i w
  | 0x10 => s.bufWrite SDCTL.EN SDBUF.BASE SDBUF.SIZE i w
  | 0x1C => s.sdfastWrite i w
  | 0x20 => s.sdfthrWrite i w
  | _ => s.plainWrite a w

/-- The reliability region (R22, R336, R343). -/
def State.relWrite (s : State) (a loc : Nat) (w : Word) : State :=
  if 0x1010 ≤ loc ∧ loc < 0x102C then s.readmit ((loc - 0x1010) / 4) w
  else match loc with
    | 0x20 => s.telctlWrite w
    | 0x40 => s.sprcmdWrite w
    | _ => s.plainWrite a w

/-- The security region (R124, R362, R366, R368, R373, R376). -/
def State.secWrite (s : State) (src : Src) (a loc : Nat) (w : Word) : State :=
  match loc with
  | 0x04 => s.lccmd false w
  | 0x20 => s.secgonWrite 0 w
  | 0x24 => s.secgonWrite 1 w
  | 0x40 => s.tampctlWrite w
  | 0x80 => s.dbgctlWrite src w
  | 0xC0 => s.revGo w
  | 0x8000 => s.mcGo w
  | _ => s.plainWrite a w

/-! ### The whole map -/

/-- The effect of an authorised write of the register at `a`; an offset nothing implements drops it (R11). -/
def State.regWrite (s : State) (src : Src) (a : Nat) (w : Word) : State :=
  match blkOf a with
  | none => s
  | some (b, n, loc) =>
    match b with
    | .glob => s.globWrite src a loc w
    | .fn => s.fnWrite n a loc w
    | .tb => s.tbWrite n a loc w
    | .ef => s.efWrite a loc w
    | .mv => s.mvWrite n a loc w
    | .qc => if loc = 0 then s.qcmd src (QCMD.OP.of w) (QCMD.QUEUE.of w) else s.plainWrite a w
    | .teth => s.tethWrite src a loc w
    | .tp => if loc = 0 then s.tpctlWrite n w else s.plainWrite a w
    | .eng => s.engWrite src n a loc w
    | .sch => s.schWrite n a loc w
    | .ch => s.chWrite n a loc w
    | .grp => s.grpWrite n a loc w
    | .tail => s.tailWrite src n a loc w
    | .sp => s.spWrite src n a loc w
    | .k => s.kWrite n a loc w
    | .an => s.anWrite a loc w
    | .sar => s.sarWrite n a loc w
    | .sd => s.sdWrite n a loc w
    | .rel => s.relWrite a loc w
    | .sec => s.secWrite src a loc w

/-- A 32-bit write of BAR0 offset `a` by `src` (R11, R20, R274, R275, R287, R290, R350, R375): doorbells and the MSI-X
table apply their own rules, the spare service view ignores it (R407), and every other write is checked and applied. -/
def State.write (s : State) (src : Src) (a : Nat) (w : Word) : State :=
  if s.pw.gnd ∨ src = .jtag ∧ ¬ s.jtagMay 2 then s
  else if s.holds src a then s.hold (.write src a 4 w)
  else if a % 4 ≠ 0 then s.answer src.cut
  else if 0x440000 ≤ a ∧ a < 0x540000 then s.doorbell src ((a - 0x440000) / 4) w.toNat
  else if 0x300000 ≤ a ∧ a < 0x308000 then s.msixWrite src (a - 0x300000) [w.toNat]
  else if (spareOf a).isSome then s
  else match s.windowOf a with
    | some (g, o) => s.authWrite src a w (fun s => s.windowWrite src a g o w)
    | none => s.authWrite src a w (fun s => s.regWrite src a w)

/-! ### The meanings -/

/-- A write of `len` bytes, `w` extended with zeros: 4, or 8 naturally aligned ones of the MSI-X table, or of the Pending
Bit Array, which keeps its bits (R11, R290). -/
def State.writeLen (s : State) (src : Src) (a len : Nat) (w : Word) : State :=
  if len = 4 then s.write src a w
  else if ¬ wideMsix a len ∨ s.pw.gnd ∨ s.holds src a ∨ src.hostFn.isNone then s.badWidth src a (.write src a len w)
  else if a < 0x308000 then s.msixWrite src (a - 0x300000) [w.toNat, 0]
  else s

/-- REGISTER_WRITE (R11): a write of `len` bytes, `val`, at BAR0 offset `off`, 64 MiB (R404); one of another width than 32
bits has no effect (any 64-bit value for the MSI-X table is MSIX_TABLE_WRITE's). -/
def execRegisterWrite (t : Nat) (src : Src) (off len : Nat) (val : Word) (s : State) : Out :=
  s.ran (src.ok && decide (off < 0x4000000)) ((s.advance t).writeLen src off len val)

end Sys2Proof.Machine
end

