-- ==== Sys2Proof/Machine/Ports.lean ====
section
/-! DEFINITION. The port windows: `prd` and `pwr` on the registers of an engine's channels (R76, R77, R274). -/
namespace Sys2Proof.Machine
open Reg

/-- The BAR0 offset of the word a port instruction names (R4, R76). -/
def State.portAdr (s : State) (g : Nat) (f : FmtP) : Nat := blkBase .ch (s.portCh g f.ch f.ra f.ind) + 4 * f.preg

/-- `prd`: RD takes the word, and read-clear fields are cleared (R10, R76). -/
def State.prd (s : State) (g : Nat) (f : FmtP) : Done :=
  let a := s.portAdr g f
  let v := s.view (.eng g) a
  ((s.readClear a).modEn g (·.setR f.rd (BitVec.ofNat 32 v))).fin

/-- `prd.p`: the pair takes two words of one instant (R76). -/
def State.prdP (s : State) (g : Nat) (f : FmtP) : Done :=
  let a := s.portAdr g f
  let v := s.view (.eng g) a + 2 ^ 32 * s.view (.eng g) (a + 4)
  (((s.readClear a).readClear (a + 4)).modEn g (·.setP f.rd (BitVec.ofNat 64 v))).fin

/-- `pwr`: the word is written subject to the bridle; the instruction completes either way (R76, R77). -/
def State.pwr (s : State) (g : Nat) (f : FmtP) : Done :=
  let a := s.portAdr g f
  (s.authWrite (.eng g) a ((s.en g).r f.rd) (·.regWrite (.eng g) a ((s.en g).r f.rd))).fin

/-- `pwr.p`: both words in one access (R76, R77). -/
def State.pwrP (s : State) (g : Nat) (f : FmtP) : Done :=
  let a := s.portAdr g f
  let e := s.en g
  (s.authWrite (.eng g) a (e.r f.rd) (fun s => (s.regWrite (.eng g) a (e.r f.rd)).regWrite (.eng g) (a + 4) (e.r (f.rd + 1)))).fin

/-! ### The meanings -/

def execPrd (t g : Nat) (f : FmtP) (s : State) : Out :=
  s.ran (g < 64 && f.ok) ((s.advance t).engRun g ⟨f.illWord, false, false, false⟩ (fun s => s.prd g f))

def execPrdP (t g : Nat) (f : FmtP) (s : State) : Out :=
  s.ran (g < 64 && f.ok) ((s.advance t).engRun g ⟨f.illPair, false, false, false⟩ (fun s => s.prdP g f))

def execPwr (t g : Nat) (f : FmtP) (s : State) : Out :=
  s.ran (g < 64 && f.ok) ((s.advance t).engRun g ⟨f.illWord, false, false, true⟩ (fun s => s.pwr g f))

def execPwrP (t g : Nat) (f : FmtP) (s : State) : Out :=
  s.ran (g < 64 && f.ok) ((s.advance t).engRun g ⟨f.illPair, false, false, true⟩ (fun s => s.pwrP g f))

end Sys2Proof.Machine
end

