-- ==== Sys2Proof/Machine/CmdQueue.lean ====
section
/-! DEFINITION. Command queues (R289, R292): the commands a host has published are taken in order and applied with the
authority of the queue's function. -/
namespace Sys2Proof.Machine
open Reg

/-- A result record of command queue `q` for RESQ: status, TAG and the command's index (R288). -/
def State.cmdResult (s : State) (q status tag : Nat) : State :=
  let c := s.qc q
  let x := s.fine 0
  s.qPush ⟨c.resq, .mark, [x % 2 ^ 32, x / 2 ^ 32 % 2 ^ 32, status * 2 ^ 24 + tag % 2 ^ 16, 3, 0, c.prod, 0, 0], x, q, none, false, false⟩

/-- A command is consumed with a status: a failure is reported, and any status but OK gives a result record with RESEN
(R292). -/
def State.cmdEnd (s : State) (q status tag : Nat) : State :=
  let s := if status = 1 ∨ status = 2 then s.raise 7491 (status * 2 ^ 24 + q) else s
  let s := if status ≠ 0 ∧ (s.qc q).resen then s.cmdResult q status tag else s
  s.modQc q (fun c => { c with prod := (c.prod + 1) % 2 ^ 32, wat := none })

/-- Whether a command of queue `q` may be taken now: the queue runs, one is published, none is held, and no result of
it waits for a full RESQ (R287, R289, R292). -/
def State.cmdReady (s : State) (q : Nat) : Bool :=
  let c := s.qc q
  s.host.up && c.en && c.kind == 2 && c.waiting != 0 && c.wat.isNone && (s.qFunc q).isSome &&
  !((s.qc c.resq).full && s.qrec.any (fun r => r.kind == .mark && r.src == q))

/-- The queue takes its next command with effect `f`, its context fetched first where it is not cached (R286); while the
device sleeps the access is held (R350). -/
def State.cmdTake (s : State) (q : Nat) (f : State → State) : State :=
  if ¬ s.cmdReady q then s
  else if ¬ (s.qc q).cached then
    (if s.host.qfetch.contains q then s else { s with host := { s.host with qfetch := s.host.qfetch ++ [q] } })
  else if s.asleep then s.wakeAsk 2 0 s.now
  else f (s.ctxUse q)

/-- A command's write is applied, with status `st`, or fails with status AUTH where it was dropped (R274, R292). -/
def State.cmdWrite (s : State) (q off : Nat) (val : Word) (st tag : Nat) : State :=
  match s.qFunc q with
  | none => s
  | some f =>
    let probe := (s.wr FNSTAT.AUTHDROP 0 f).write (.cmdq f) off val
    (s.write (.cmdq f) off val).cmdEnd q (if probe.on FNSTAT.AUTHDROP f then 2 else st) tag

/-- CMD_WRITEAT: held until TB0 reaches AT, or applied with status LATE where it has passed (R292). -/
def State.cmdWriteAt (s : State) (q off : Nat) (val : Word) (at_ tag : Nat) : State :=
  if 64 * at_ < s.fine 0 then s.cmdWrite q off val 3 tag
  else s.modQc q (fun c => { c with wat := some (off, val.toNat, at_, tag) })

/-- WRITEAT_DUE: TB0 has reached AT (R292). -/
def State.writeAtDue (s : State) (q : Nat) : State :=
  match (s.qc q).wat with
  | some (off, val, at_, tag) =>
    if s.fine 0 < 64 * at_ ∨ ¬ (s.qc q).en then s
    else if s.asleep then s.wakeAsk 2 0 s.now
    else s.cmdWrite q off (BitVec.ofNat 32 val) 0 tag
  | none => s

/-! ### The meanings -/

/-- Whether a command names BAR0 offset `off` and a 32-bit TAG (R292). -/
def cmdOk (q off tag : Nat) : Bool := decide (q < 262144 ∧ off < 0x4000000 ∧ off % 4 = 0 ∧ tag < 2 ^ 32)

def execCmdWrite (t q off : Nat) (val : Word) (tag : Nat) (s : State) : Out :=
  s.ran (cmdOk q off tag) ((s.advance t).cmdTake q (·.cmdWrite q off val 0 tag))

def execCmdWriteat (t q off : Nat) (val : Word) (at_ tag : Nat) (s : State) : Out :=
  s.ran (cmdOk q off tag && decide (at_ < 2 ^ 64)) ((s.advance t).cmdTake q (·.cmdWriteAt q off val at_ tag))

def execWriteatDue (t q : Nat) (s : State) : Out := s.ran (q < 262144) ((s.advance t).writeAtDue q)

/-- CMD_MARK: a result record with status OK (R292). -/
def execCmdMark (t q tag : Nat) (s : State) : Out :=
  s.ran (cmdOk q 0 tag) ((s.advance t).cmdTake q (fun s => (s.cmdResult q 0 tag).cmdEnd q 0 tag))

/-- CMD_BAD: an undefined code is skipped with status BADCMD (R292). -/
def execCmdBad (t q code tag : Nat) (s : State) : Out :=
  s.ran (cmdOk q 0 tag && decide (code < 16 ∧ code ≠ 1 ∧ code ≠ 2 ∧ code ≠ 3)) ((s.advance t).cmdTake q (·.cmdEnd q 1 tag))

end Sys2Proof.Machine
end

