-- ==== Sys2Proof/Machine/EngAlu.lean ====
section
/-! DEFINITION. The arithmetic, logic, immediate, pair and accumulator instructions (R84, R85, R90). -/
namespace Sys2Proof.Machine
open Reg

/-- A word result: its value, the flags it gives where it sets flags, and an arithmetic exception (R84, R85, R97). -/
abbrev Alu := Word × Nat × Option (Nat × Nat)

/-- A result with N and Z from it, C as it was and V cleared (R85). -/
def plain (fl : Nat) (r : Word) : Alu := (r, resFlags r (flagC fl) false, none)

/-- OVF, as a cause and subcode (R96). -/
def ovfIf (b : Bool) : Option (Nat × Nat) := if b then some (4, 0) else none

/-- DVZ (R96). -/
def dvz : Option (Nat × Nat) := some (5, 0)

/-- ASAT with its subcode (R96). -/
def asatIf (b : Bool) (sub : Nat) : Option (Nat × Nat) := if b then some (6, sub) else none

/-! ### Operations on words (R84) -/

def aluAdd (_ : Nat) (a b : Word) : Alu := (a + b, addFlags a b, none)
def aluSub (_ : Nat) (a b : Word) : Alu := (a - b, subFlags a b, none)
/-- `addt`: signed overflow raises OVF. -/
def aluAddt (_ : Nat) (a b : Word) : Alu := (a + b, addFlags a b, ovfIf (flagV (addFlags a b)))
def aluSubt (_ : Nat) (a b : Word) : Alu := (a - b, subFlags a b, ovfIf (flagV (subFlags a b)))
def aluAnd (fl : Nat) (a b : Word) : Alu := plain fl (a &&& b)
def aluOr (fl : Nat) (a b : Word) : Alu := plain fl (a ||| b)
def aluXor (fl : Nat) (a b : Word) : Alu := plain fl (a ^^^ b)
def aluAndn (fl : Nat) (a b : Word) : Alu := plain fl (a &&& ~~~b)

/-- A shift by `k`: C takes the last bit shifted out, `out`, and is unchanged for a shift of 0; V is cleared (R85). -/
def shifted (fl : Nat) (r : Word) (k : Nat) (out : Bool) : Alu := (r, resFlags r (if k = 0 then flagC fl else out) false, none)

def aluShl (fl : Nat) (a b : Word) : Alu := let k := b.toNat % 32; shifted fl (a <<< k) k (a.getLsbD (32 - k))
def aluShr (fl : Nat) (a b : Word) : Alu := let k := b.toNat % 32; shifted fl (a >>> k) k (a.getLsbD (k - 1))
def aluSar (fl : Nat) (a b : Word) : Alu := let k := b.toNat % 32; shifted fl (a.sshiftRight k) k (a.getLsbD (k - 1))
def aluRor (fl : Nat) (a b : Word) : Alu := let k := b.toNat % 32; shifted fl (a.rotateRight k) k (a.getLsbD (k - 1))
def aluMin (fl : Nat) (a b : Word) : Alu := plain fl (if a.toInt ≤ b.toInt then a else b)
def aluMax (fl : Nat) (a b : Word) : Alu := plain fl (if a.toInt ≤ b.toInt then b else a)
def aluMov (fl : Nat) (a _ : Word) : Alu := plain fl a

/-- Leading zeros of the low `n` bits. -/
def leadZeros (a : Word) : Nat → Nat
  | 0 => 0
  | n + 1 => if a.getLsbD n then 0 else 1 + leadZeros a n

def aluClz (fl : Nat) (a _ : Word) : Alu := plain fl (BitVec.ofNat 32 (leadZeros a 32))

/-- `abs`: 0x8000_0000 gives itself with V set. -/
def aluAbs (fl : Nat) (a _ : Word) : Alu :=
  let r := if a.msb then 0#32 - a else a
  (r, resFlags r (flagC fl) (a == 0x80000000#32), none)

def aluNeg (_ : Nat) (a _ : Word) : Alu := (0#32 - a, subFlags 0#32 a, none)
def aluMul (fl : Nat) (a b : Word) : Alu := plain fl (a * b)
def aluMulh (fl : Nat) (a b : Word) : Alu := plain fl (BitVec.ofInt 32 (a.toInt * b.toInt / 2 ^ 32))
def aluMulhu (fl : Nat) (a b : Word) : Alu := plain fl (BitVec.ofNat 32 (a.toNat * b.toNat / 2 ^ 32))

/-- `mult`: a product outside the signed 32-bit range raises OVF, and V tells of it. -/
def aluMult (fl : Nat) (a b : Word) : Alu :=
  let out := decide ((a * b).toInt ≠ a.toInt * b.toInt)
  (a * b, resFlags (a * b) (flagC fl) out, ovfIf out)

/-- `div`: truncated towards 0; 0x8000_0000 / −1 gives 0x8000_0000 with V set; a divisor of 0 gives 0 and DVZ. -/
def aluDiv (fl : Nat) (a b : Word) : Alu :=
  if b = 0#32 then (0#32, resFlags 0#32 (flagC fl) false, dvz)
  else
    let r := BitVec.ofInt 32 (a.toInt.tdiv b.toInt)
    (r, resFlags r (flagC fl) (a == 0x80000000#32 && b == 0xFFFFFFFF#32), none)

def aluDivu (fl : Nat) (a b : Word) : Alu :=
  if b = 0#32 then (0#32, resFlags 0#32 (flagC fl) false, dvz) else plain fl (BitVec.ofNat 32 (a.toNat / b.toNat))

def aluRem (fl : Nat) (a b : Word) : Alu :=
  if b = 0#32 then (0#32, resFlags 0#32 (flagC fl) false, dvz) else plain fl (BitVec.ofInt 32 (a.toInt.tmod b.toInt))

def aluRemu (fl : Nat) (a b : Word) : Alu :=
  if b = 0#32 then (0#32, resFlags 0#32 (flagC fl) false, dvz) else plain fl (BitVec.ofNat 32 (a.toNat % b.toNat))

/-! ### Running them -/

/-- A register instruction of OP 0x01: RD takes the result, FLAGS its flags with S = 1 (R84, R85). -/
def State.regOp (s : State) (g : Nat) (f : FmtR) (op : Nat → Word → Word → Alu) : Done :=
  let e := s.en g
  let (r, fl, exc) := op e.flags (e.r f.ra) (e.r f.rb)
  (s.modEn g (fun e => { (e.setR f.rd r) with flags := if f.s then fl else e.flags })).finExc exc

/-- `cmp` and `tst`: only FLAGS change; S is ignored. -/
def State.flagOp (s : State) (g : Nat) (f : FmtR) (op : Nat → Word → Word → Alu) : Done :=
  let e := s.en g
  (s.modEn g (fun x => { x with flags := (op e.flags (e.r f.ra) (e.r f.rb)).2.1 })).fin

/-- An immediate instruction: FLAGS stay (R85). -/
def State.immOp (s : State) (g rd : Nat) (v : Word) : Done := (s.modEn g (·.setR rd v)).fin

/-- A pair instruction: RD's pair takes `r`, FLAGS take `fl` where it sets flags (R84, R85). -/
def State.pairOp (s : State) (g rd : Nat) (sf : Bool) (r : BitVec 64) (fl : Nat) : Done :=
  (s.modEn g (fun e => { (e.setP rd r) with flags := if sf then fl else e.flags })).fin

/-! ### Accumulators (R90) -/

/-- align(p): p shifted right by 16 under MODE.RND: towards −∞, half up, or half to even. -/
def align (rnd : Nat) (p : Int) : Int :=
  match rnd with
  | 1 => (p + 0x8000) / 0x10000
  | 2 =>
    let q := p / 0x10000
    let r := p % 0x10000
    if 0x8000 < r ∨ (r = 0x8000 ∧ q % 2 = 1) then q + 1 else q
  | _ => p / 0x10000

/-- The aligned product of two registers under the MODE in force. -/
def Eng.product (e : Eng) (a b : Nat) : Int := align (bitsAt e.mode 2 2) ((e.r a).toInt * (e.r b).toInt)

/-- An accumulator takes `v` saturated to 48 bits: a saturation sets ACCSTAT and, under ASTRAP, raises ASAT. -/
def State.accOp (s : State) (g acc : Nat) (v : Int) : Done :=
  let r := satSigned 48 v
  let sat := decide (r ≠ v)
  let trap := bitAt (s.en g).mode 1
  (s.modEn g (fun e => { (e.setAcc acc r) with accstat := if sat then putBit e.accstat acc true else e.accstat })).finExc (asatIf (sat && trap) 0)

/-- `mrd`: the accumulator saturated to 32 bits. -/
def State.mrdOp (s : State) (g rd acc : Nat) : Done :=
  let v := (s.en g).acc acc
  let r := satSigned 32 v
  let sat := decide (r ≠ v)
  let trap := bitAt (s.en g).mode 1
  (s.modEn g (fun e => { (e.setR rd (BitVec.ofInt 32 r)) with accstat := if sat then putBit e.accstat acc true else e.accstat })).finExc (asatIf (sat && trap) 1)

/-! ### The meanings -/

def execAddR (t g : Nat) (f : FmtR) (s : State) : Out :=
  s.ran (g < 64 && f.ok) ((s.advance t).engRun g ⟨f.illWords, false, false, false⟩ (fun s => s.regOp g f aluAdd))

def execSubR (t g : Nat) (f : FmtR) (s : State) : Out :=
  s.ran (g < 64 && f.ok) ((s.advance t).engRun g ⟨f.illWords, false, false, false⟩ (fun s => s.regOp g f aluSub))

def execAddt (t g : Nat) (f : FmtR) (s : State) : Out :=
  s.ran (g < 64 && f.ok) ((s.advance t).engRun g ⟨f.illWords, false, false, false⟩ (fun s => s.regOp g f aluAddt))

def execSubt (t g : Nat) (f : FmtR) (s : State) : Out :=
  s.ran (g < 64 && f.ok) ((s.advance t).engRun g ⟨f.illWords, false, false, false⟩ (fun s => s.regOp g f aluSubt))

def execAndR (t g : Nat) (f : FmtR) (s : State) : Out :=
  s.ran (g < 64 && f.ok) ((s.advance t).engRun g ⟨f.illWords, false, false, false⟩ (fun s => s.regOp g f aluAnd))

def execOrR (t g : Nat) (f : FmtR) (s : State) : Out :=
  s.ran (g < 64 && f.ok) ((s.advance t).engRun g ⟨f.illWords, false, false, false⟩ (fun s => s.regOp g f aluOr))

def execXorR (t g : Nat) (f : FmtR) (s : State) : Out :=
  s.ran (g < 64 && f.ok) ((s.advance t).engRun g ⟨f.illWords, false, false, false⟩ (fun s => s.regOp g f aluXor))

def execAndn (t g : Nat) (f : FmtR) (s : State) : Out :=
  s.ran (g < 64 && f.ok) ((s.advance t).engRun g ⟨f.illWords, false, false, false⟩ (fun s => s.regOp g f aluAndn))

def execShl (t g : Nat) (f : FmtR) (s : State) : Out :=
  s.ran (g < 64 && f.ok) ((s.advance t).engRun g ⟨f.illWords, false, false, false⟩ (fun s => s.regOp g f aluShl))

def execShr (t g : Nat) (f : FmtR) (s : State) : Out :=
  s.ran (g < 64 && f.ok) ((s.advance t).engRun g ⟨f.illWords, false, false, false⟩ (fun s => s.regOp g f aluShr))

def execSar (t g : Nat) (f : FmtR) (s : State) : Out :=
  s.ran (g < 64 && f.ok) ((s.advance t).engRun g ⟨f.illWords, false, false, false⟩ (fun s => s.regOp g f aluSar))

def execRor (t g : Nat) (f : FmtR) (s : State) : Out :=
  s.ran (g < 64 && f.ok) ((s.advance t).engRun g ⟨f.illWords, false, false, false⟩ (fun s => s.regOp g f aluRor))

def execMinR (t g : Nat) (f : FmtR) (s : State) : Out :=
  s.ran (g < 64 && f.ok) ((s.advance t).engRun g ⟨f.illWords, false, false, false⟩ (fun s => s.regOp g f aluMin))

def execMaxR (t g : Nat) (f : FmtR) (s : State) : Out :=
  s.ran (g < 64 && f.ok) ((s.advance t).engRun g ⟨f.illWords, false, false, false⟩ (fun s => s.regOp g f aluMax))

def execMovR (t g : Nat) (f : FmtR) (s : State) : Out :=
  s.ran (g < 64 && f.ok) ((s.advance t).engRun g ⟨f.illUnary, false, false, false⟩ (fun s => s.regOp g f aluMov))

def execClz (t g : Nat) (f : FmtR) (s : State) : Out :=
  s.ran (g < 64 && f.ok) ((s.advance t).engRun g ⟨f.illUnary, false, false, false⟩ (fun s => s.regOp g f aluClz))

def execAbsR (t g : Nat) (f : FmtR) (s : State) : Out :=
  s.ran (g < 64 && f.ok) ((s.advance t).engRun g ⟨f.illUnary, false, false, false⟩ (fun s => s.regOp g f aluAbs))

def execNegR (t g : Nat) (f : FmtR) (s : State) : Out :=
  s.ran (g < 64 && f.ok) ((s.advance t).engRun g ⟨f.illUnary, false, false, false⟩ (fun s => s.regOp g f aluNeg))

def execMul (t g : Nat) (f : FmtR) (s : State) : Out :=
  s.ran (g < 64 && f.ok) ((s.advance t).engRun g ⟨f.illWords, false, false, false⟩ (fun s => s.regOp g f aluMul))

def execMulh (t g : Nat) (f : FmtR) (s : State) : Out :=
  s.ran (g < 64 && f.ok) ((s.advance t).engRun g ⟨f.illWords, false, false, false⟩ (fun s => s.regOp g f aluMulh))

def execMulhu (t g : Nat) (f : FmtR) (s : State) : Out :=
  s.ran (g < 64 && f.ok) ((s.advance t).engRun g ⟨f.illWords, false, false, false⟩ (fun s => s.regOp g f aluMulhu))

def execMult (t g : Nat) (f : FmtR) (s : State) : Out :=
  s.ran (g < 64 && f.ok) ((s.advance t).engRun g ⟨f.illWords, false, false, false⟩ (fun s => s.regOp g f aluMult))

def execDiv (t g : Nat) (f : FmtR) (s : State) : Out :=
  s.ran (g < 64 && f.ok) ((s.advance t).engRun g ⟨f.illWords, false, false, false⟩ (fun s => s.regOp g f aluDiv))

def execDivu (t g : Nat) (f : FmtR) (s : State) : Out :=
  s.ran (g < 64 && f.ok) ((s.advance t).engRun g ⟨f.illWords, false, false, false⟩ (fun s => s.regOp g f aluDivu))

def execRem (t g : Nat) (f : FmtR) (s : State) : Out :=
  s.ran (g < 64 && f.ok) ((s.advance t).engRun g ⟨f.illWords, false, false, false⟩ (fun s => s.regOp g f aluRem))

def execRemu (t g : Nat) (f : FmtR) (s : State) : Out :=
  s.ran (g < 64 && f.ok) ((s.advance t).engRun g ⟨f.illWords, false, false, false⟩ (fun s => s.regOp g f aluRemu))

def execCmp (t g : Nat) (f : FmtR) (s : State) : Out :=
  s.ran (g < 64 && f.ok) ((s.advance t).engRun g ⟨f.illCmp, false, false, false⟩ (fun s => s.flagOp g f aluSub))

def execTst (t g : Nat) (f : FmtR) (s : State) : Out :=
  s.ran (g < 64 && f.ok) ((s.advance t).engRun g ⟨f.illCmp, false, false, false⟩ (fun s => s.flagOp g f aluAnd))

def execAddi (t g : Nat) (f : FmtI) (s : State) : Out :=
  s.ran (g < 64 && f.ok) ((s.advance t).engRun g ⟨none, false, false, false⟩ (fun s => s.immOp g f.rd ((s.en g).r f.ra + sext18 f.imm)))

def execAndi (t g : Nat) (f : FmtI) (s : State) : Out :=
  s.ran (g < 64 && f.ok) ((s.advance t).engRun g ⟨none, false, false, false⟩ (fun s => s.immOp g f.rd ((s.en g).r f.ra &&& zext18 f.imm)))

def execOri (t g : Nat) (f : FmtI) (s : State) : Out :=
  s.ran (g < 64 && f.ok) ((s.advance t).engRun g ⟨none, false, false, false⟩ (fun s => s.immOp g f.rd ((s.en g).r f.ra ||| zext18 f.imm)))

def execXori (t g : Nat) (f : FmtI) (s : State) : Out :=
  s.ran (g < 64 && f.ok) ((s.advance t).engRun g ⟨none, false, false, false⟩ (fun s => s.immOp g f.rd ((s.en g).r f.ra ^^^ zext18 f.imm)))

def execShli (t g : Nat) (f : FmtI) (s : State) : Out :=
  s.ran (g < 64 && f.ok) ((s.advance t).engRun g ⟨f.illShift, false, false, false⟩ (fun s => s.immOp g f.rd ((s.en g).r f.ra <<< f.imm)))

def execShri (t g : Nat) (f : FmtI) (s : State) : Out :=
  s.ran (g < 64 && f.ok) ((s.advance t).engRun g ⟨f.illShift, false, false, false⟩ (fun s => s.immOp g f.rd ((s.en g).r f.ra >>> f.imm)))

def execSari (t g : Nat) (f : FmtI) (s : State) : Out :=
  s.ran (g < 64 && f.ok) ((s.advance t).engRun g ⟨f.illShift, false, false, false⟩ (fun s => s.immOp g f.rd (((s.en g).r f.ra).sshiftRight f.imm)))

def execCmpi (t g : Nat) (f : FmtI) (s : State) : Out :=
  s.ran (g < 64 && f.ok) ((s.advance t).engRun g ⟨f.illCmpi, false, false, false⟩ (fun s => (s.modEn g (fun e => { e with flags := subFlags (e.r f.ra) (sext18 f.imm) })).fin))

def execMovl (t g : Nat) (f : FmtU) (s : State) : Out :=
  s.ran (g < 64 && f.ok) ((s.advance t).engRun g ⟨f.ill, false, false, false⟩ (fun s => s.immOp g f.rd (BitVec.ofNat 32 f.imm)))

def execMovh (t g : Nat) (f : FmtU) (s : State) : Out :=
  s.ran (g < 64 && f.ok) ((s.advance t).engRun g ⟨f.ill, false, false, false⟩ (fun s => s.immOp g f.rd (BitVec.ofNat 32 (f.imm * 2 ^ 16 + ((s.en g).r f.rd).toNat % 2 ^ 16))))

def execAddp (t g : Nat) (f : FmtR) (s : State) : Out :=
  s.ran (g < 64 && f.ok) ((s.advance t).engRun g ⟨f.illPairs, false, false, false⟩ (fun s => s.pairOp g f.rd f.s ((s.en g).rp f.ra + (s.en g).rp f.rb) (addFlags ((s.en g).rp f.ra) ((s.en g).rp f.rb))))

def execSubp (t g : Nat) (f : FmtR) (s : State) : Out :=
  s.ran (g < 64 && f.ok) ((s.advance t).engRun g ⟨f.illPairs, false, false, false⟩ (fun s => s.pairOp g f.rd f.s ((s.en g).rp f.ra - (s.en g).rp f.rb) (subFlags ((s.en g).rp f.ra) ((s.en g).rp f.rb))))

def execCmpp (t g : Nat) (f : FmtR) (s : State) : Out :=
  s.ran (g < 64 && f.ok) ((s.advance t).engRun g ⟨f.illCmpp, false, false, false⟩ (fun s => (s.modEn g (fun e => { e with flags := subFlags (e.rp f.ra) (e.rp f.rb) })).fin))

def execMovp (t g : Nat) (f : FmtR) (s : State) : Out :=
  s.ran (g < 64 && f.ok) ((s.advance t).engRun g ⟨f.illMovp, false, false, false⟩ (fun s => s.pairOp g f.rd false ((s.en g).rp f.ra) 0))

def execAddpw (t g : Nat) (f : FmtR) (s : State) : Out :=
  s.ran (g < 64 && f.ok) ((s.advance t).engRun g ⟨f.illAddpw, false, false, false⟩ (fun s => s.pairOp g f.rd f.s ((s.en g).rp f.ra + ((s.en g).r f.rb).signExtend 64) (addFlags ((s.en g).rp f.ra) (((s.en g).r f.rb).signExtend 64))))

def execMac (t g : Nat) (f : FmtR) (s : State) : Out :=
  s.ran (g < 64 && f.ok) ((s.advance t).engRun g ⟨f.illMac, false, false, false⟩ (fun s => s.accOp g f.rd ((s.en g).acc f.rd + (s.en g).product f.ra f.rb)))

def execMsu (t g : Nat) (f : FmtR) (s : State) : Out :=
  s.ran (g < 64 && f.ok) ((s.advance t).engRun g ⟨f.illMac, false, false, false⟩ (fun s => s.accOp g f.rd ((s.en g).acc f.rd - (s.en g).product f.ra f.rb)))

def execMpy (t g : Nat) (f : FmtR) (s : State) : Out :=
  s.ran (g < 64 && f.ok) ((s.advance t).engRun g ⟨f.illMac, false, false, false⟩ (fun s => (s.modEn g (fun e => e.setAcc f.rd (e.product f.ra f.rb))).fin))

def execMclr (t g : Nat) (f : FmtR) (s : State) : Out :=
  s.ran (g < 64 && f.ok) ((s.advance t).engRun g ⟨f.illMclr, false, false, false⟩ (fun s => (s.modEn g (·.setAcc f.rd 0)).fin))

def execMrd (t g : Nat) (f : FmtR) (s : State) : Out :=
  s.ran (g < 64 && f.ok) ((s.advance t).engRun g ⟨f.illMrd, false, false, false⟩ (fun s => s.mrdOp g f.rd f.ra))

def execMld (t g : Nat) (f : FmtR) (s : State) : Out :=
  s.ran (g < 64 && f.ok) ((s.advance t).engRun g ⟨f.illMld, false, false, false⟩ (fun s => (s.modEn g (fun e => e.setAcc f.rd (toSigned 48 (e.rp f.ra).toNat))).fin))

def execMst (t g : Nat) (f : FmtR) (s : State) : Out :=
  s.ran (g < 64 && f.ok) ((s.advance t).engRun g ⟨f.illMst, false, false, false⟩ (fun s => (s.modEn g (fun e => e.setP f.rd (BitVec.ofInt 64 (e.acc f.ra)))).fin))

end Sys2Proof.Machine
end

