-- ==== Sys2Proof/Machine/TetherRx.lean ====
section
/-! DEFINITION. What arrives over the tether: data slots and their items (R299, R301, R311, R313), and remote register
commands at their target (R318). -/
namespace Sys2Proof.Machine
open Reg

/-! ### Remote commands at the target (R274, R318, R350) -/

/-- The response to a remote command goes back to the master, which may be the device itself. -/
def State.rwAnswer (s : State) (dev seq res val : Nat) : State :=
  if dev = s.rd TSTAT.IDX then s.rwResponse seq res val else s.tSend dev (.resp seq res val)

/-- A remote write: OK 0, or DROPPED 3 where it was dropped. -/
def State.remoteWrite (s : State) (off : Nat) (val : Word) : State × Nat :=
  let probe := ({ s with authAt := s.authAt.set (fun _ => 0) Src.tether.key 0 }).write .tether off val
  (s.write .tether off val, if probe.authAt.get (fun _ => 0) Src.tether.key = 0 then 0 else 3)

/-- A remote read: the register's value; of an access that ends in an error the value is open. -/
def State.remoteRead (s : State) (off : Nat) : State × Nat :=
  let was := s.resp
  let s := s.read .tether off
  let v := ofBytes (s.resp.data.map (BitVec.ofNat 8))
  let ok := s.resp.status = .ok
  let s := { s with resp := was }
  if ok then (s, v) else
    let (x, s) := s.fresh
    (s, x % 2 ^ 32)

/-- REMOTE_COMMAND_RX: a command of the master, applied at most once under its sequence number; one that comes again is
answered again (R318). While the device sleeps it is held and wakes it (R350). -/
def State.remoteCmd (s : State) (dev seq : Nat) (wr : Bool) (off val : Nat) : State :=
  if ¬ s.on TSTAT.ADMITTED ∨ dev ≠ s.rd TSTAT.MIDX then s
  else if s.holds .tether off then s.hold (.remote dev seq wr off val)
  else match s.teth.rwDone.find? (fun x => x.1 == dev && x.2.1 == seq) with
    | some (_, _, res, v) => s.rwAnswer dev seq res v
    | none =>
      let (s, res, v) := if wr then let (s, r) := s.remoteWrite off (BitVec.ofNat 32 val); (s, r, 0) else let (s, v) := s.remoteRead off; (s, 0, v)
      let s := { s with teth := { s.teth with rwDone := (dev, seq, res, v) :: s.teth.rwDone.filter (fun x => x.1 != dev) } }
      s.rwAnswer dev seq res v

/-! ### Items (R265, R301, R318 to R320, R353) -/

/-- Whether an item's numbers are in range. -/
def TItem.ok : TItem → Bool
  | .spool r => decide (r.dev < 32 ∧ r.spool < 32 ∧ r.state < 8)
  | .cgStart _ _ => true
  | .cgReport res => decide (res < 3)
  | .event x _ id _ _ _ _ => decide (x < 96 ∧ id < 8192)
  | .sub x id _ => decide (x < 96 ∧ id < 8192)
  | .subAck x _ => decide (x < 96)
  | .cmd _ _ off val => decide (off < 0x4000000 ∧ off % 4 = 0 ∧ val < 2 ^ 32)
  | .resp _ res val => decide (res < 8 ∧ val < 2 ^ 32)

def TMsg.ok (m : TMsg) : Bool := decide (m.src < 32 ∧ m.dst < 33) && m.item.ok

/-- An item reaches this device; with WAKEEN.TETH it is a wake source (R353). -/
def State.tDeliver (s : State) (m : TMsg) : State :=
  let s := if s.on WAKEEN.TETH then s.wakeAsk 5 0 s.now else s
  match m.item with
  | .spool r => (upFrom 0 32).foldl (fun s i => s.spRecord i r) s
  | .cgStart at_ re => if m.src = s.rd TSTAT.MIDX then s.cgStart at_ re else s
  | .cgReport res => if s.on TSTAT.MASTER then s.cgReport m.src res else s
  | .event x n _ ts detail tq coinc => s.importEvent m.src x n ts detail tq coinc
  | .sub x id en => s.subscribe m.src x id en
  | .subAck x act => s.subAck m.src x act
  | .cmd n wr off val => s.remoteCmd m.src n wr off val
  | .resp n res val => if s.teth.rw.any (fun r => r.dev == m.src) then s.rwResponse n res val else s

/-- An item that came in at port `p`: a second copy of a broadcast is discarded; the first goes on to every other port;
a unicast item for another device goes on by its route (R300, R301). In Moored nothing goes on (R349,
notes/assumptions/163.md). -/
def State.tItem (s : State) (p : Nat) (m : TMsg) : State :=
  let me := s.rd TSTAT.IDX
  if m.src = me then s
  else if m.dst = 32 then
    if s.teth.seen.contains (m.src, m.seq) then s
    else
      let s := { s with teth := { s.teth with seen := (m.src, m.seq) :: s.teth.seen } }
      ((upFrom 0 4).foldl (fun s q => if q ≠ p ∧ s.tpUp q ∧ ¬ s.pw.deep then s.tForward q m else s) s).tDeliver m
  else if m.dst = me then s.tDeliver m
  else match s.tRoute m.dst with
    | some q => if q = p ∨ s.pw.deep then s else s.tForward q m
    | none => s

/-- DATA_SLOT_RX: a slot in an open link whose tag verifies in the cycle of its control block; any other is dropped unread
and counted (R311, R313). Behind an isolated port its items go no further (R20). -/
def State.tSlot (s : State) (p : Nat) (slot : Slot) (cyc : Nat) (items : List TMsg) : State :=
  if s.rd TPSTAT.STATE p ≠ 7 then s
  else match slot with
    | .tagFail => s.tFail p false
    | .fec => s.tFail p true
    | .read =>
      if (s.tpU p).lastCyc ≠ some cyc then s.tFail p false
      else if s.isolated (197 + p) then s
      else items.foldl (fun s m => s.tItem p m) s

/-! ### The meanings -/

def execDataSlotRx (t p : Nat) (slot : Slot) (cyc : Nat) (items : List TMsg) (s : State) : Out :=
  s.ran (decide (p < 4) && items.all TMsg.ok) ((s.advance t).tSlot p slot cyc items)

def execRemoteCommandRx (t dev seq : Nat) (wr : Bool) (off val : Nat) (s : State) : Out :=
  s.ran (decide (dev < 32) && (TItem.cmd seq wr off val).ok) ((s.advance t).remoteCmd dev seq wr off val)

end Sys2Proof.Machine
end

