-- ==== Sys2Proof/Machine/Held.lean ====
section
/-! DEFINITION. What a wake does with the accesses that waited for it (R350). -/
namespace Sys2Proof.Machine

/-- A non-posted access is answered, beside the others of this command. -/
def State.answerOf (s : State) (src : Src) (f : State → State) : State :=
  let s := f { s with resp := ⟨.ok, []⟩ }
  { s with answers := s.answers ++ [(src, s.resp)] }

/-- An access that waited is applied, as one that comes now (R318, R350, R383). -/
def State.heldApply (s : State) (h : Held) : State :=
  match h with
  | .write src a len w => s.writeLen src a len w
  | .read src a len => s.answerOf src (·.readLen src a len)
  | .msix src off ws => s.msixWrite src off ws
  | .sramRead src a n err => s.answerOf src (·.sramRead src a n err)
  | .sramWrite src a d err => s.sramWrite src a d err
  | .remote dev seq wr off val => s.remoteCmd dev seq wr off val
  | .dbgopen level => s.jtagOpen level

/-- WAKE_DONE: the wake completes, and every access that waited for it is applied in order (R349, R350, R354). -/
def State.wakeAll (s : State) : State :=
  if s.rd Reg.PWRSTAT.STATE ≠ 4 then s
  else
    let l := s.pw.held
    let s := { (s.modPw (fun p => { p with held := [] })).wakeDone with answers := [] }
    l.foldl (fun s x => s.withEcc x.2 (·.heldApply x.1)) s

/-! ### The meanings -/

def execWakeDone (t : Nat) (s : State) : Out := s.ran true (s.advance t).wakeAll

end Sys2Proof.Machine
end

