-- ==== Sys2Proof/Machine/Grant.lean ====
section
/-! DEFINITION. Grant rounds (R23 to R25): arbitration order, COINC, and what the rules give to requests latched in one
grant (R36 to R38, R77, R141, R277, R395). Also DBGACC of the JTAG port (R381). -/
namespace Sys2Proof.Machine
open Reg

/-! ### Arbitration order (R24) -/

/-- The earliest arrival of a list of requests. -/
def firstArrive (l : List (Nat × Req)) : Nat := l.foldl (fun m x => min m x.2.arrive) ((l.head?.map (·.2.arrive)).getD 0)

/-- The order in which a round serves its requests: by arrival where arrivals are 200 ps or more apart, arbitrary
between closer ones (R24). Each request carries its place in the input list. -/
def State.arbOrder (s : State) : Nat → List (Nat × Req) → State × List (Nat × Req)
  | 0, _ => (s, [])
  | _ + 1, [] => (s, [])
  | n + 1, l =>
    let m := firstArrive l
    let c := l.filter (fun x => decide (x.2.arrive < m + 200))
    let (i, s) := if c.length ≤ 1 then (0, s) else s.fresh
    match (c.drop (i % c.length)).head? with
    | none => (s, [])
    | some x =>
      let (s, r) := s.arbOrder n (l.filter (fun y => y.1 != x.1))
      (s, x :: r)

/-! ### Contradictory orders (R277) -/

/-- An order of a register write: its kind (0 force, 1 run, 2 safe state), its code of R297, which ranks it within its
kind, the channels or the group it goes to, and the group or channel named in a report. -/
structure Order where
  kind : Nat
  code : Nat
  dest : List Nat
  group : Bool
  unit : Nat
  deriving DecidableEq, Repr

/-- The channels a run order acts on: both of a pair (R184). -/
def State.runDest (s : State) (n : Nat) : List Nat := if s.paired n then [n / 2 * 2, n / 2 * 2 + 1] else [n]

/-- The order a register write carries, if any (R184, R277). -/
def State.orderOf (s : State) (off : Nat) (w : Word) : Option Order :=
  match blkOf off with
  | some (.ch, n, 0x118) =>
    let o := FORCE.ORD.of w
    if o = 0 ∨ 4 < o ∨ FORCE.FSYNC.of w = 3 then none else some ⟨0, o, [n], false, n⟩
  | some (.grp, j, 0x240) =>
    let o := GFORCE.ORD.of w
    if o = 0 ∨ 4 < o ∨ GFORCE.FSYNC.of w = 3 then none
    else some ⟨0, o, (onesOf (GFORCE.MASK.of w) 8).map (fun i => 8 * j + i), true, j⟩
  | some (.ch, n, 0x000) =>
    if CHCTL.STOPNOW.of w = 1 then some ⟨1, 7, s.runDest n, false, n⟩
    else if CHCTL.STOP.of w = 1 then some ⟨1, 6, s.runDest n, false, n⟩
    else if CHCTL.GO.of w = 1 then some ⟨1, 5, s.runDest n, false, n⟩
    else none
  | some (.grp, j, 0x230) =>
    if SAFECTL.SAFEGO.of w = 1 then some ⟨2, 9, [j], true, j⟩
    else if SAFECTL.SAFECLR.of w = 1 then some ⟨2, 8, [j], true, j⟩
    else none
  | _ => none

/-- The write with its order left out, or, of a GFORCE, with the order left to the channels of `keep` alone. -/
def Order.strip (o : Order) (keep : List Nat) (w : Word) : Option Word :=
  match o.kind with
  | 0 =>
    if keep.isEmpty then none
    else if o.group then some (BitVec.ofNat 32 (putBits w.toNat 0 8 (keep.foldl (fun x n => x + 2 ^ (n % 8)) 0)))
    else some w
  | 1 => some (w &&& 0x0FFFFFFF)
  | _ => some (w &&& 0x3FFFFFFF)

/-- Whether a register write of the round would be applied at all (R11, R20, R274, R350, R375). -/
def State.applies (s : State) (src : Src) (off : Nat) : Bool :=
  !s.pw.gnd && !(src == .jtag && !s.jtagMay 2) && !s.holds src off && s.mayWrite src off && !s.cutOff src off && !s.lost src off

/-- A register write of the round: its place in the service order, its source, COINC, offset and value. -/
structure RegReq where
  pos : Nat
  src : Src
  coinc : Bool
  off : Nat
  val : Word
  deriving DecidableEq, Repr

/-- The orders that contradict or repeat order `o` of request `r` on target `n`: those of other sources (R277). -/
def rivals (l : List (RegReq × Order)) (r : RegReq) (o : Order) (n : Nat) : List (RegReq × Order) :=
  l.filter (fun x => x.1.src != r.src && x.2.kind == o.kind && x.2.dest.contains n)

/-- A register write of a round with orders `l`: the weaker of two contradictory orders is dropped and reported, equal ones
are applied once (R277, R297). -/
def State.regServe (s : State) (l : List (RegReq × Order)) (clr : Nat) (r : RegReq) : State :=
  match if s.applies r.src r.off then s.orderOf r.off r.val else none with
  | none =>
    if r.off = 0x100 ∧ s.applies r.src r.off then
      let no := BANKOESET.SET.of r.val &&& clr
      let s := s.write r.src r.off (r.val &&& ~~~(BitVec.ofNat 32 clr))
      s.wr BANKOESTAT.REF (s.rd BANKOESTAT.REF ||| no)
    else s.write r.src r.off r.val
  | some o =>
    let beat := o.dest.flatMap (fun n => ((rivals l r o n).filter (fun x => decide (o.code < x.2.code))).map (·.2.code))
    let keep := o.dest.filter (fun n => (rivals l r o n).all (fun x => decide (x.2.code < o.code ∨ (x.2.code = o.code ∧ r.pos < x.1.pos))))
    let s := if beat.isEmpty then s else
      s.raise 7713 (r.src.code * 2 ^ 29 + r.src.vf * 2 ^ 25 + b2n r.coinc * 2 ^ 24 + o.code * 2 ^ 20
        + beat.foldl max 0 * 2 ^ 16 + b2n o.group * 2 ^ 15 + o.unit)
    if keep.length = o.dest.length then s.write r.src r.off r.val
    else match o.strip keep r.val with
      | some w => s.write r.src r.off w
      | none => s

/-! ### The round -/

/-- A data access of an engine that names its local memory or secure SRAM, served at its arbiter (R71, R72). -/
def State.lmRead (s : State) (g a n : Nat) (err : Ecc) : State :=
  match s.engLoad g a n err with
  | (s, .ok d) => s.answer .ok (d.map (·.toNat))
  | (s, .error k) => s.answer (.bus k)

def State.lmWrite (s : State) (g a : Nat) (d : List Byte) (err : Ecc) : State :=
  match s.engStoreNow g a d err with
  | (s, none) => s.answer .ok
  | (s, some k) => s.answer (.bus k)

def State.roundRead (s : State) (src : Src) (a n : Nat) (err : Ecc) : State :=
  match src with
  | .eng g => if 0x1800000 ≤ a then s.lmRead g a n err else s.sramRead src a n err
  | _ => s.sramRead src a n err

def State.roundWrite (s : State) (src : Src) (a : Nat) (d : List Byte) (err : Ecc) : State :=
  match src with
  | .eng g => if 0x1800000 ≤ a then s.lmWrite g a d err else s.sramWrite src a d err
  | _ => s.sramWrite src a d err

/-- Whether a register write is a TASKRUN write that clears a slot's inputs, which comes after the grant's arrivals
(R155). -/
def lateClr (off : Nat) (w : Word) : Bool :=
  match blkOf off with
  | some (.sch, _, 0x20) => TASKRUN.CLR.of w == 1
  | _ => false

/-- A request other than a read of memory, an arrival and a clear of task inputs is served. -/
def State.serveWrite (s : State) (l : List (RegReq × Order)) (clr : Nat) (pos : Nat) (coinc : Bool) (r : Req) : State :=
  match r.op with
  | .write a d => s.answerOf r.src (·.roundWrite r.src a d r.err)
  | .swap a n v => s.answerOf r.src (·.sramAtomic r.src .swap a n 0 v r.err)
  | .cas a n c v => s.answerOf r.src (·.sramAtomic r.src .cas a n c v r.err)
  | .add a n v => s.answerOf r.src (·.sramAtomic r.src .add a n 0 v r.err)
  | .and a n v => s.answerOf r.src (·.sramAtomic r.src .and a n 0 v r.err)
  | .or a n v => s.answerOf r.src (·.sramAtomic r.src .or a n 0 v r.err)
  | .reg off v => if lateClr off v then s else s.answerOf r.src (·.regServe l clr ⟨pos, r.src, coinc, off, v⟩)
  | .regRead off => if (s.windowOf off).isSome then s else s.answerOf r.src (·.read r.src off)
  | .read _ _ => s
  | .arrival _ _ _ => s

/-- A read of memory is served: it sees every write of its grant (R36, R71). -/
def State.serveRead (s : State) (r : Req) : State :=
  match r.op with
  | .read a n => s.answerOf r.src (·.roundRead r.src a n r.err)
  | .regRead off => if (s.windowOf off).isSome then s.answerOf r.src (·.read r.src off) else s
  | _ => s

/-- A clear of task inputs is served, after the grant's arrivals (R155). -/
def State.serveClr (s : State) (r : Req) : State :=
  match r.op with
  | .reg off v => if lateClr off v then s.answerOf r.src (·.write r.src off v) else s
  | _ => s

/-- The arrivals of the round at one task input are taken from the events under way, each with its COINC; `b` are the ports
whose arrivals the round has taken (R23). -/
def State.takeRound (s : State) (g k i : Nat) (b : List Nat) : List Bool → State × List Ev × List Nat
  | [] => (s, [], b)
  | c :: cs =>
    let (es, rest) := takeArrivals g k i 1 b s.fab.arrivals
    let (s, r, b) := ({ s with fab := { s.fab with arrivals := rest } } : State).takeRound g k i (es.map (·.port) ++ b) cs
    (s, es.map (fun a => { a.ev with coinc := a.ev.coinc || c }) ++ r, b)

/-- The arrivals of the round at one task input are applied in timestamp order (R141). -/
def State.serveInput (s : State) (b : List Nat) (l : List (Nat × Bool × Req)) (x : Nat × Nat × Nat) : State × List Nat :=
  let cs := l.filterMap (fun y => match y.2.2.op with
    | .arrival g k i => if (g, k, i) = x then some y.2.1 else none
    | _ => none)
  let (s, es, b) := s.takeRound x.1 x.2.1 x.2.2 b cs
  (if es.isEmpty then s else s.applyArrivals x.1 x.2.1 x.2.2 es, b)

/-- The inputs a round's arrivals go to, each once. -/
def inputsOf (l : List (Nat × Bool × Req)) : List (Nat × Nat × Nat) :=
  (l.filterMap (fun y => match y.2.2.op with
    | .arrival g k i => some (g, k, i)
    | _ => none)).eraseDups

/-- The slots a grant made ready go in ascending order behind those that waited before it (R142). -/
def State.orderNew (s : State) (g : Nat) (old : List Nat) : State :=
  s.modSch g (fun c =>
    { c with order := c.order.filter old.contains ++ (upFrom 0 64).filter (fun k => c.order.contains k && !old.contains k) })

/-- The gondola at whose port a round is held, if it is a gondola's. -/
def schedOf (l : List (Nat × Bool × Req)) : Option Nat :=
  l.head?.bind (fun y => match y.2.2.op with
    | .arrival g _ _ => some g
    | .reg off _ => (match blkOf off with
      | some (.sch, g, _) => some g
      | _ => none)
    | _ => none)

/-- The arrivals of a round, then its clears of task inputs; the slots they touch are looked at in one decision (R140 to R142,
R155). -/
def State.serveTasks (s : State) (l : List (Nat × Bool × Req)) : State :=
  let ins := inputsOf l
  let s := (ins.foldl (fun x i => x.1.serveInput x.2 l i) (s, [])).1
  let s := l.foldl (fun s x => s.serveClr x.2.2) s
  let slots := (ins.map (fun x => (x.1, x.2.1))).eraseDups
  let s := slots.foldl (fun s x => s.lookAt x.1 x.2) s
  slots.foldl (fun s x => s.wakeSlot x.1 x.2) s

/-- The destination of a register access: the gondola's port, its local memory, or the block (R15, R23, R71). -/
def regDest (off : Nat) : Nat :=
  match blkOf off with
  | some (.ch, n, _) => n / 16
  | some (.grp, j, _) => j / 2
  | some (.sch, g, _) => g
  | some (.eng, g, l) => if 0x8000 ≤ l then 64 + g else g
  | some (b, _, _) => 512 + b.ctorIdx
  | none => if 0x1000000 ≤ off ∧ off < 0x2000000 ∧ 0x8000 ≤ off % 0x40000 then 64 + (off - 0x1000000) / 0x40000 else 511

/-- The destination of a memory access: its bank, or the engine's local memory or secure SRAM (R23, R33, R71). -/
def memDest (src : Src) (a : Nat) : Nat :=
  match src with
  | .eng g => if 0x1800000 ≤ a then (if a < 0x60000000 then 64 + g else 510) else 128 + a / 0x40000
  | _ => 128 + a / 0x40000

/-- The destination a request names: a round is held at one of them (R23). -/
def Req.dest (r : Req) : Nat :=
  match r.op with
  | .read a _ => memDest r.src a
  | .write a _ => memDest r.src a
  | .swap a _ _ => memDest r.src a
  | .cas a _ _ _ => memDest r.src a
  | .add a _ _ => memDest r.src a
  | .and a _ _ => memDest r.src a
  | .or a _ _ => memDest r.src a
  | .reg off _ => regDest off
  | .regRead off => regDest off
  | .arrival g _ _ => g

/-- GRANT_ROUND_OPEN: the latched requests are served in arbitration order; a bank, or a local memory, applies writes and
atomics before the reads of the round (R23, R24, R36 to R38, R71, R141, R277). -/
def State.grant (s : State) (reqs : List Req) : State :=
  let arr := reqs.map (·.arrive)
  let old := ((reqs.head?.map (fun r => (s.sch r.dest).order)).getD [])
  let s := ({ s with answers := [] } : State).countCoinc (coincPairs arr)
  let (s, ord) := s.arbOrder reqs.length ((upFrom 0 reqs.length).zip reqs)
  let l := ((upFrom 0 ord.length).zip ord).map (fun x => (x.1, coincAt arr x.2.1, x.2.2))
  let regs := l.filterMap (fun x => match x.2.2.op with
    | .reg off v => if s.applies x.2.2.src off then some (⟨x.1, x.2.2.src, x.2.1, off, v⟩ : RegReq) else none
    | _ => none)
  let os := regs.filterMap (fun r => (s.orderOf r.off r.val).map (fun o => (r, o)))
  let clr := (regs.filter (fun r => r.off == 0x104)).foldl (fun m r => m ||| BANKOECLR.CLR.of r.val) 0
  let s := l.foldl (fun s x => s.serveWrite os clr x.1 x.2.1 x.2.2) s
  let s := l.foldl (fun s x => s.serveRead x.2.2) s
  match schedOf l with
  | none => s.serveTasks l
  | some g => (s.serveTasks l).orderNew g old

/-- Whether a request's numbers are in range. -/
def Req.ok (r : Req) : Bool :=
  r.src.ok && match r.op with
  | .reg off _ => decide (off < 0x4000000)
  | .regRead off => decide (off < 0x4000000)
  | .arrival g k i => decide (g < 64 ∧ k < 64 ∧ i < 16)
  | _ => true

/-- Whether requests can be latched in one round: at one destination, and of each source one at most; what holds of the
sources of arrivals is seen where they are taken (R23, R277). -/
def roundOk (reqs : List Req) : Bool :=
  let own := reqs.filter (fun r => match r.op with
    | .arrival _ _ _ => false
    | _ => true)
  (reqs.map Req.dest).eraseDups.length ≤ 1 && (own.map (·.src)).eraseDups.length == own.length

/-! ### JTAG (R375, R381, R383) -/

/-- DBGACC: one 32-bit BAR0 access within an open JTAG session; without a session it has no effect. -/
def State.dbgacc (s : State) (off : Nat) (wr : Option Word) : State :=
  let s := s.tap .dbgacc
  if s.secH.jtag ≠ JInstr.dbgacc ∨ ¬ s.secH.sess.any (·.jtag) then s
  else match wr with
    | none => s.read .jtag off
    | some w => s.write .jtag off w

/-- COMPARATOR_OUTPUT_CHANGE, and the wake it causes in a sleeping device (R206, R208, R209, R353). -/
def State.kChange (s : State) (k : Nat) : State :=
  let s' := s.kFollow k
  if s'.on KCTL.WAKE k ∧ s'.on KSTAT.OUT k ∧ ¬ s.on KSTAT.OUT k then s'.wakeAsk 3 k ((s.kc k).rawAt + ns (s.rd KCTL.KFILT k)) else s'

/-! ### The meanings -/

def execGrantRoundOpen (t : Nat) (reqs : List Req) (s : State) : Out :=
  s.ran (decide (reqs.length ≤ 8) && reqs.all Req.ok && roundOk reqs) ((s.advance t).grant reqs)

def execComparatorOutputChange (t k : Nat) (s : State) : Out := s.ran (k < 256) ((s.advance t).kChange k)

def execJtagDbgacc (t off : Nat) (wr : Option Word) (s : State) : Out := s.ran (off < 0x4000000) ((s.advance t).dbgacc off wr)

end Sys2Proof.Machine
end

