-- ==== Sys2Proof/Machine/Dispatch.lean ====
section
/-! DEFINITION. One arm per command: each calls the meaning of its row. -/
namespace Sys2Proof.Machine

/-- The effect of a command on everything but the queue. -/
def exec (i : Instr) (s : State) : Host.Outcome State Fault Refusal :=
  match i with
  | .registerWrite t src off len val => Sys2Proof.Machine.execRegisterWrite t src off len val s
  | .readClearAccess t src off len => Sys2Proof.Machine.execReadClearAccess t src off len s
  | .handshakeWatchdogExpiry t port => Sys2Proof.Machine.execHandshakeWatchdogExpiry t port s
  | .meshisoReadmit t src i0 val => Sys2Proof.Machine.execMeshisoReadmit t src i0 val s
  | .readmitSelftestDone t port ok => Sys2Proof.Machine.execReadmitSelftestDone t port ok s
  | .grantRoundOpen t reqs => Sys2Proof.Machine.execGrantRoundOpen t reqs s
  | .sramRead t src addr len err => Sys2Proof.Machine.execSramRead t src addr len err s
  | .sramWrite t src addr data err => Sys2Proof.Machine.execSramWrite t src addr data err s
  | .sramAtomicSwap t src addr len val err => Sys2Proof.Machine.execSramAtomicSwap t src addr len val err s
  | .sramAtomicCas t src addr len cmp val err => Sys2Proof.Machine.execSramAtomicCas t src addr len cmp val err s
  | .sramAtomicAdd t src addr len val err => Sys2Proof.Machine.execSramAtomicAdd t src addr len val err s
  | .sramAtomicAnd t src addr len val err => Sys2Proof.Machine.execSramAtomicAnd t src addr len val err s
  | .sramAtomicOr t src addr len val err => Sys2Proof.Machine.execSramAtomicOr t src addr len val err s
  | .spineBeacon t bad => Sys2Proof.Machine.execSpineBeacon t bad s
  | .nsLoRead t src k => Sys2Proof.Machine.execNsLoRead t src k s
  | .tbLoadgo t src k val => Sys2Proof.Machine.execTbLoadgo t src k val s
  | .tbSlewabort t src k val => Sys2Proof.Machine.execTbSlewabort t src k val s
  | .tbSlewoffWrite t src k val => Sys2Proof.Machine.execTbSlewoffWrite t src k val s
  | .discctlSrcWrite t src val => Sys2Proof.Machine.execDiscctlSrcWrite t src val s
  | .ppsPulse t => Sys2Proof.Machine.execPpsPulse t s
  | .ppsTimeout t => Sys2Proof.Machine.execPpsTimeout t s
  | .refinQualified t ppb => Sys2Proof.Machine.execRefinQualified t ppb s
  | .refinLockAchieved t => Sys2Proof.Machine.execRefinLockAchieved t s
  | .refinLoss t => Sys2Proof.Machine.execRefinLoss t s
  | .ppsoutPulse t => Sys2Proof.Machine.execPpsoutPulse t s
  | .gstartGo t src val => Sys2Proof.Machine.execGstartGo t src val s
  | .gstartRelease t => Sys2Proof.Machine.execGstartRelease t s
  | .edgeFire t n => Sys2Proof.Machine.execEdgeFire t n s
  | .calRunDone t n => Sys2Proof.Machine.execCalRunDone t n s
  | .dlSwap t n => Sys2Proof.Machine.execDlSwap t n s
  | .dlctlSwapnow t src n val => Sys2Proof.Machine.execDlctlSwapnow t src n val s
  | .dlctlEtbApply t n => Sys2Proof.Machine.execDlctlEtbApply t n s
  | .calAged t n => Sys2Proof.Machine.execCalAged t n s
  | .addR t g f => Sys2Proof.Machine.execAddR t g f s
  | .subR t g f => Sys2Proof.Machine.execSubR t g f s
  | .addt t g f => Sys2Proof.Machine.execAddt t g f s
  | .subt t g f => Sys2Proof.Machine.execSubt t g f s
  | .andR t g f => Sys2Proof.Machine.execAndR t g f s
  | .orR t g f => Sys2Proof.Machine.execOrR t g f s
  | .xorR t g f => Sys2Proof.Machine.execXorR t g f s
  | .andn t g f => Sys2Proof.Machine.execAndn t g f s
  | .shl t g f => Sys2Proof.Machine.execShl t g f s
  | .shr t g f => Sys2Proof.Machine.execShr t g f s
  | .sar t g f => Sys2Proof.Machine.execSar t g f s
  | .ror t g f => Sys2Proof.Machine.execRor t g f s
  | .cmp t g f => Sys2Proof.Machine.execCmp t g f s
  | .tst t g f => Sys2Proof.Machine.execTst t g f s
  | .minR t g f => Sys2Proof.Machine.execMinR t g f s
  | .maxR t g f => Sys2Proof.Machine.execMaxR t g f s
  | .movR t g f => Sys2Proof.Machine.execMovR t g f s
  | .clz t g f => Sys2Proof.Machine.execClz t g f s
  | .absR t g f => Sys2Proof.Machine.execAbsR t g f s
  | .negR t g f => Sys2Proof.Machine.execNegR t g f s
  | .mul t g f => Sys2Proof.Machine.execMul t g f s
  | .mulh t g f => Sys2Proof.Machine.execMulh t g f s
  | .mulhu t g f => Sys2Proof.Machine.execMulhu t g f s
  | .mult t g f => Sys2Proof.Machine.execMult t g f s
  | .div t g f => Sys2Proof.Machine.execDiv t g f s
  | .divu t g f => Sys2Proof.Machine.execDivu t g f s
  | .rem t g f => Sys2Proof.Machine.execRem t g f s
  | .remu t g f => Sys2Proof.Machine.execRemu t g f s
  | .addi t g f => Sys2Proof.Machine.execAddi t g f s
  | .andi t g f => Sys2Proof.Machine.execAndi t g f s
  | .ori t g f => Sys2Proof.Machine.execOri t g f s
  | .xori t g f => Sys2Proof.Machine.execXori t g f s
  | .shli t g f => Sys2Proof.Machine.execShli t g f s
  | .shri t g f => Sys2Proof.Machine.execShri t g f s
  | .sari t g f => Sys2Proof.Machine.execSari t g f s
  | .cmpi t g f => Sys2Proof.Machine.execCmpi t g f s
  | .movl t g f => Sys2Proof.Machine.execMovl t g f s
  | .movh t g f => Sys2Proof.Machine.execMovh t g f s
  | .addp t g f => Sys2Proof.Machine.execAddp t g f s
  | .subp t g f => Sys2Proof.Machine.execSubp t g f s
  | .cmpp t g f => Sys2Proof.Machine.execCmpp t g f s
  | .movp t g f => Sys2Proof.Machine.execMovp t g f s
  | .addpw t g f => Sys2Proof.Machine.execAddpw t g f s
  | .mac t g f => Sys2Proof.Machine.execMac t g f s
  | .msu t g f => Sys2Proof.Machine.execMsu t g f s
  | .mpy t g f => Sys2Proof.Machine.execMpy t g f s
  | .mclr t g f => Sys2Proof.Machine.execMclr t g f s
  | .mrd t g f => Sys2Proof.Machine.execMrd t g f s
  | .mld t g f => Sys2Proof.Machine.execMld t g f s
  | .mst t g f => Sys2Proof.Machine.execMst t g f s
  | .ldb t g f err => Sys2Proof.Machine.execLdb t g f err s
  | .ldbu t g f err => Sys2Proof.Machine.execLdbu t g f err s
  | .ldh t g f err => Sys2Proof.Machine.execLdh t g f err s
  | .ldhu t g f err => Sys2Proof.Machine.execLdhu t g f err s
  | .ldw t g f err => Sys2Proof.Machine.execLdw t g f err s
  | .ldp t g f err => Sys2Proof.Machine.execLdp t g f err s
  | .stb t g f err => Sys2Proof.Machine.execStb t g f err s
  | .sth t g f err => Sys2Proof.Machine.execSth t g f err s
  | .stw t g f err => Sys2Proof.Machine.execStw t g f err s
  | .stp t g f err => Sys2Proof.Machine.execStp t g f err s
  | .aswpW t g f err => Sys2Proof.Machine.execAswpW t g f err s
  | .acasW t g f err => Sys2Proof.Machine.execAcasW t g f err s
  | .aaddW t g f err => Sys2Proof.Machine.execAaddW t g f err s
  | .aandW t g f err => Sys2Proof.Machine.execAandW t g f err s
  | .aorW t g f err => Sys2Proof.Machine.execAorW t g f err s
  | .aswpP t g f err => Sys2Proof.Machine.execAswpP t g f err s
  | .acasP t g f err => Sys2Proof.Machine.execAcasP t g f err s
  | .aaddP t g f err => Sys2Proof.Machine.execAaddP t g f err s
  | .aandP t g f err => Sys2Proof.Machine.execAandP t g f err s
  | .aorP t g f err => Sys2Proof.Machine.execAorP t g f err s
  | .fenceI t g f => Sys2Proof.Machine.execFenceI t g f s
  | .mfs t g f => Sys2Proof.Machine.execMfs t g f s
  | .mts t g f => Sys2Proof.Machine.execMts t g f s
  | .mtsGstartw t g rd res => Sys2Proof.Machine.execMtsGstartw t g rd res s
  | .prd t g f => Sys2Proof.Machine.execPrd t g f s
  | .prdP t g f => Sys2Proof.Machine.execPrdP t g f s
  | .pwr t g f => Sys2Proof.Machine.execPwr t g f s
  | .pwrP t g f => Sys2Proof.Machine.execPwrP t g f s
  | .edge t g f => Sys2Proof.Machine.execEdge t g f s
  | .tnow t g f => Sys2Proof.Machine.execTnow t g f s
  | .tnowf t g f => Sys2Proof.Machine.execTnowf t g f s
  | .evtake t g f => Sys2Proof.Machine.execEvtake t g f s
  | .bCond t g f => Sys2Proof.Machine.execBCond t g f s
  | .cbz t g f => Sys2Proof.Machine.execCbz t g f s
  | .cbnz t g f => Sys2Proof.Machine.execCbnz t g f s
  | .jmp t g off => Sys2Proof.Machine.execJmp t g off s
  | .jl t g off => Sys2Proof.Machine.execJl t g off s
  | .jr t g f => Sys2Proof.Machine.execJr t g f s
  | .jlr t g f => Sys2Proof.Machine.execJlr t g f s
  | .loopI t g f => Sys2Proof.Machine.execLoopI t g f s
  | .eret t g f => Sys2Proof.Machine.execEret t g f s
  | .doneT t g f => Sys2Proof.Machine.execDoneT t g f s
  | .yieldT t g f => Sys2Proof.Machine.execYieldT t g f s
  | .trapI t g f => Sys2Proof.Machine.execTrapI t g f s
  | .nopI t g w => Sys2Proof.Machine.execNopI t g w s
  | .postedStoreAck t g i0 err => Sys2Proof.Machine.execPostedStoreAck t g i0 err s
  | .postedStoreError t g i0 err => Sys2Proof.Machine.execPostedStoreError t g i0 err s
  | .engctlEreset t src g val => Sys2Proof.Machine.execEngctlEreset t src g val s
  | .engctlRun t src g val => Sys2Proof.Machine.execEngctlRun t src g val s
  | .engrateInterval t g => Sys2Proof.Machine.execEngrateInterval t g s
  | .impreciseExceptionDue t g => Sys2Proof.Machine.execImpreciseExceptionDue t g s
  | .exceptionEntry t g => Sys2Proof.Machine.execExceptionEntry t g s
  | .balctlBalreq t src g val => Sys2Proof.Machine.execBalctlBalreq t src g val s
  | .balctlBalclr t src g val => Sys2Proof.Machine.execBalctlBalclr t src g val s
  | .ballastEntry t g par => Sys2Proof.Machine.execBallastEntry t g par s
  | .ballastDumpDone t g words => Sys2Proof.Machine.execBallastDumpDone t g words s
  | .mcldGo t src val err => Sys2Proof.Machine.execMcldGo t src val err s
  | .mcldCheckDone t => Sys2Proof.Machine.execMcldCheckDone t s
  | .mcImageApply t p => Sys2Proof.Machine.execMcImageApply t p s
  | .routerRouteEvent t r => Sys2Proof.Machine.execRouterRouteEvent t r s
  | .routerFillDone t r err => Sys2Proof.Machine.execRouterFillDone t r err s
  | .taskInputArrival t g slot inp arr => Sys2Proof.Machine.execTaskInputArrival t g slot inp arr s
  | .coherenceVisit t err => Sys2Proof.Machine.execCoherenceVisit t err s
  | .invalRouteEntry t src index => Sys2Proof.Machine.execInvalRouteEntry t src index s
  | .invalDescriptor t src index => Sys2Proof.Machine.execInvalDescriptor t src index s
  | .invalAllRoutes t src => Sys2Proof.Machine.execInvalAllRoutes t src s
  | .invalAllDescriptors t src => Sys2Proof.Machine.execInvalAllDescriptors t src s
  | .invalDone t => Sys2Proof.Machine.execInvalDone t s
  | .efctlEnWrite t src val => Sys2Proof.Machine.execEfctlEnWrite t src val s
  | .taskrunClr t src g val => Sys2Proof.Machine.execTaskrunClr t src g val s
  | .taskrunRun t src g val => Sys2Proof.Machine.execTaskrunRun t src g val s
  | .tdctlWrite t src g slot val => Sys2Proof.Machine.execTdctlWrite t src g slot val s
  | .taskDispatch t g => Sys2Proof.Machine.execTaskDispatch t g s
  | .taskPreempt t g => Sys2Proof.Machine.execTaskPreempt t g s
  | .taskResume t g => Sys2Proof.Machine.execTaskResume t g s
  | .slackRecompute t => Sys2Proof.Machine.execSlackRecompute t s
  | .chctlGo t src n val => Sys2Proof.Machine.execChctlGo t src n val s
  | .chctlArm t src n val => Sys2Proof.Machine.execChctlArm t src n val s
  | .chctlStop t src n val => Sys2Proof.Machine.execChctlStop t src n val s
  | .chctlStopnow t src n val => Sys2Proof.Machine.execChctlStopnow t src n val s
  | .triggerDetect t n => Sys2Proof.Machine.execTriggerDetect t n s
  | .runStart t n => Sys2Proof.Machine.execRunStart t n s
  | .counterPeriodBoundary t n => Sys2Proof.Machine.execCounterPeriodBoundary t n s
  | .counterCmpa t n => Sys2Proof.Machine.execCounterCmpa t n s
  | .counterCmpb t n => Sys2Proof.Machine.execCounterCmpb t n s
  | .compareEdgeCommit t n => Sys2Proof.Machine.execCompareEdgeCommit t n s
  | .pinTransition t n lvl => Sys2Proof.Machine.execPinTransition t n lvl s
  | .captureAccept t n => Sys2Proof.Machine.execCaptureAccept t n s
  | .capctlWrite t src n val => Sys2Proof.Machine.execCapctlWrite t src n val s
  | .loadEdgeMeasured t n time rising => Sys2Proof.Machine.execLoadEdgeMeasured t n time rising s
  | .ctmReading t n raw => Sys2Proof.Machine.execCtmReading t n raw s
  | .ctmMaxtExpiry t n => Sys2Proof.Machine.execCtmMaxtExpiry t n s
  | .carrierRefChange t n => Sys2Proof.Machine.execCarrierRefChange t n s
  | .shadowLatchPoint t n => Sys2Proof.Machine.execShadowLatchPoint t n s
  | .gloadLoadall t src j val => Sys2Proof.Machine.execGloadLoadall t src j val s
  | .pwmctlPairWrite t src n val => Sys2Proof.Machine.execPwmctlPairWrite t src n val s
  | .switchNodeSense t n => Sys2Proof.Machine.execSwitchNodeSense t n s
  | .dtmaxExpiry t n => Sys2Proof.Machine.execDtmaxExpiry t n s
  | .interlockBothOn t n => Sys2Proof.Machine.execInterlockBothOn t n s
  | .interlockHoldExpiry t n => Sys2Proof.Machine.execInterlockHoldExpiry t n s
  | .tripLineActivation t j line => Sys2Proof.Machine.execTripLineActivation t j line s
  | .blankWindowEnd t n => Sys2Proof.Machine.execBlankWindowEnd t n s
  | .tripclrClr t src n val => Sys2Proof.Machine.execTripclrClr t src n val s
  | .forceRelease t src n sync => Sys2Proof.Machine.execForceRelease t src n sync s
  | .forceHigh t src n sync => Sys2Proof.Machine.execForceHigh t src n sync s
  | .forceLow t src n sync => Sys2Proof.Machine.execForceLow t src n sync s
  | .forceHiz t src n sync => Sys2Proof.Machine.execForceHiz t src n sync s
  | .gforceRelease t src j sync mask => Sys2Proof.Machine.execGforceRelease t src j sync mask s
  | .gforceHigh t src j sync mask => Sys2Proof.Machine.execGforceHigh t src j sync mask s
  | .gforceLow t src j sync mask => Sys2Proof.Machine.execGforceLow t src j sync mask s
  | .gforceHiz t src j sync mask => Sys2Proof.Machine.execGforceHiz t src j sync mask s
  | .forceOrderEffect t n => Sys2Proof.Machine.execForceOrderEffect t n s
  | .safectlSafego t src j val => Sys2Proof.Machine.execSafectlSafego t src j val s
  | .safectlSafeclr t src j val => Sys2Proof.Machine.execSafectlSafeclr t src j val s
  | .safeStateEffect t j => Sys2Proof.Machine.execSafeStateEffect t j s
  | .analogReady t => Sys2Proof.Machine.execAnalogReady t s
  | .comparatorCrossing t k nv => Sys2Proof.Machine.execComparatorCrossing t k nv s
  | .comparatorOutputChange t k => Sys2Proof.Machine.execComparatorOutputChange t k s
  | .kclrClr t src k val => Sys2Proof.Machine.execKclrClr t src k val s
  | .sarTrigger t i0 => Sys2Proof.Machine.execSarTrigger t i0 s
  | .sarswGo t src i0 val => Sys2Proof.Machine.execSarswGo t src i0 val s
  | .sarConversion t i0 nv => Sys2Proof.Machine.execSarConversion t i0 nv s
  | .sampleRecordAck t sd i0 err => Sys2Proof.Machine.execSampleRecordAck t sd i0 err s
  | .sdWord t i0 bits => Sys2Proof.Machine.execSdWord t i0 bits s
  | .sdConfigApply t i0 => Sys2Proof.Machine.execSdConfigApply t i0 s
  | .modulatorFault t i0 bits viol => Sys2Proof.Machine.execModulatorFault t i0 bits viol s
  | .modulatorFaultClear t i0 bits => Sys2Proof.Machine.execModulatorFaultClear t i0 bits s
  | .sdFastWord t i0 bits => Sys2Proof.Machine.execSdFastWord t i0 bits s
  | .tailctlArmWrite t src k val => Sys2Proof.Machine.execTailctlArmWrite t src k val s
  | .tailEdgeAccept t k inst code => Sys2Proof.Machine.execTailEdgeAccept t k inst code s
  | .tailZEdge t k inst lvl => Sys2Proof.Machine.execTailZEdge t k inst lvl s
  | .sertrigGo t src k val => Sys2Proof.Machine.execSertrigGo t src k val s
  | .serialTrigger t k ready => Sys2Proof.Machine.execSerialTrigger t k ready s
  | .bissAckTimeout t k => Sys2Proof.Machine.execBissAckTimeout t k s
  | .bissStartTimeout t k trt => Sys2Proof.Machine.execBissStartTimeout t k trt s
  | .serialFrameDone t k trt data stat crc cds => Sys2Proof.Machine.execSerialFrameDone t k trt data stat crc cds s
  | .tailRecordWrite t k err => Sys2Proof.Machine.execTailRecordWrite t k err s
  | .velDecayUpdate t k => Sys2Proof.Machine.execVelDecayUpdate t k s
  | .speedStaleTimeout t k => Sys2Proof.Machine.execSpeedStaleTimeout t k s
  | .lineBreakDetect t k mask => Sys2Proof.Machine.execLineBreakDetect t k mask s
  | .lineBreakClear t k mask => Sys2Proof.Machine.execLineBreakClear t k mask s
  | .freshnessTimeout t k => Sys2Proof.Machine.execFreshnessTimeout t k s
  | .lossGraceExpiry t k => Sys2Proof.Machine.execLossGraceExpiry t k s
  | .flyingSyncTimeout t k => Sys2Proof.Machine.execFlyingSyncTimeout t k s
  | .brakeTimeout t k => Sys2Proof.Machine.execBrakeTimeout t k s
  | .emuEdgeCommit t k => Sys2Proof.Machine.execEmuEdgeCommit t k s
  | .emuPathChange t k => Sys2Proof.Machine.execEmuPathChange t k s
  | .spoolTooth t i0 => Sys2Proof.Machine.execSpoolTooth t i0 s
  | .spoolHalt t i0 => Sys2Proof.Machine.execSpoolHalt t i0 s
  | .spoolLateDeadline t i0 => Sys2Proof.Machine.execSpoolLateDeadline t i0 s
  | .spoolReverseEdge t i0 => Sys2Proof.Machine.execSpoolReverseEdge t i0 s
  | .spctlSyncnow t src i0 val => Sys2Proof.Machine.execSpctlSyncnow t src i0 val s
  | .spctlDesync t src i0 val => Sys2Proof.Machine.execSpctlDesync t src i0 val s
  | .spctlEnWrite t src i0 val => Sys2Proof.Machine.execSpctlEnWrite t src i0 val s
  | .spoolEnding t i0 => Sys2Proof.Machine.execSpoolEnding t i0 s
  | .aevctlDisarm t src i0 j val => Sys2Proof.Machine.execAevctlDisarm t src i0 j val s
  | .aevctlOnce t src i0 j val => Sys2Proof.Machine.execAevctlOnce t src i0 j val s
  | .aevctlEvery t src i0 j val => Sys2Proof.Machine.execAevctlEvery t src i0 j val s
  | .aevctlOnceRev t src i0 j val => Sys2Proof.Machine.execAevctlOnceRev t src i0 j val s
  | .slotCommit t i0 j => Sys2Proof.Machine.execSlotCommit t i0 j s
  | .springPoll t i0 err => Sys2Proof.Machine.execSpringPoll t i0 err s
  | .spangleRead t src i0 => Sys2Proof.Machine.execSpangleRead t src i0 s
  | .spoolBcastSample t i0 => Sys2Proof.Machine.execSpoolBcastSample t i0 s
  | .spoolRecordArrival t i0 r => Sys2Proof.Machine.execSpoolRecordArrival t i0 r s
  | .remoteAgeExpiry t i0 => Sys2Proof.Machine.execRemoteAgeExpiry t i0 s
  | .vfFlr t f => Sys2Proof.Machine.execVfFlr t f s
  | .pfFlr t => Sys2Proof.Machine.execPfFlr t s
  | .hotReset t => Sys2Proof.Machine.execHotReset t s
  | .perst t asserted => Sys2Proof.Machine.execPerst t asserted s
  | .bridleWrite t src e val => Sys2Proof.Machine.execBridleWrite t src e val s
  | .hostwdKick t src f val => Sys2Proof.Machine.execHostwdKick t src f val s
  | .hostWdExpiry t f => Sys2Proof.Machine.execHostWdExpiry t f s
  | .mvctlGo t src m val => Sys2Proof.Machine.execMvctlGo t src m val s
  | .mvctlStop t src m val => Sys2Proof.Machine.execMvctlStop t src m val s
  | .mvDescriptorFetched t m st err words => Sys2Proof.Machine.execMvDescriptorFetched t m st err words s
  | .hostCompletion t m st data err => Sys2Proof.Machine.execHostCompletion t m st data err s
  | .dllAck t n err => Sys2Proof.Machine.execDllAck t n err s
  | .mvDescriptorRetire t m err => Sys2Proof.Machine.execMvDescriptorRetire t m err s
  | .pcieCompletionTimeout t m err => Sys2Proof.Machine.execPcieCompletionTimeout t m err s
  | .qcmdEnable t src q => Sys2Proof.Machine.execQcmdEnable t src q s
  | .qcmdDisable t src q => Sys2Proof.Machine.execQcmdDisable t src q s
  | .qcmdReload t src q => Sys2Proof.Machine.execQcmdReload t src q s
  | .queueContextFetched t q st words => Sys2Proof.Machine.execQueueContextFetched t q st words s
  | .doorbellWrite t src q val => Sys2Proof.Machine.execDoorbellWrite t src q val s
  | .queueRecordWrite t q => Sys2Proof.Machine.execQueueRecordWrite t q s
  | .prodWriteback t q => Sys2Proof.Machine.execProdWriteback t q s
  | .queueItimeExpiry t q => Sys2Proof.Machine.execQueueItimeExpiry t q s
  | .msixRequest t f v => Sys2Proof.Machine.execMsixRequest t f v s
  | .msixTableWrite t src off words => Sys2Proof.Machine.execMsixTableWrite t src off words s
  | .cmdWrite t q off val tag => Sys2Proof.Machine.execCmdWrite t q off val tag s
  | .cmdWriteat t q off val at_ tag => Sys2Proof.Machine.execCmdWriteat t q off val at_ tag s
  | .writeatDue t q => Sys2Proof.Machine.execWriteatDue t q s
  | .cmdMark t q tag => Sys2Proof.Machine.execCmdMark t q tag s
  | .cmdBad t q code tag => Sys2Proof.Machine.execCmdBad t q code tag s
  | .linkDown t => Sys2Proof.Machine.execLinkDown t s
  | .linkUp t err => Sys2Proof.Machine.execLinkUp t err s
  | .tetherCycleStart t p => Sys2Proof.Machine.execTetherCycleStart t p s
  | .controlBlockRx t p b => Sys2Proof.Machine.execControlBlockRx t p b s
  | .dataSlotRx t p slot cyc items => Sys2Proof.Machine.execDataSlotRx t p slot cyc items s
  | .answerBlockRx t p cyc tag => Sys2Proof.Machine.execAnswerBlockRx t p cyc tag s
  | .pollDeadline t p => Sys2Proof.Machine.execPollDeadline t p s
  | .portTrainTurn t p => Sys2Proof.Machine.execPortTrainTurn t p s
  | .laneTrained t p lanes => Sys2Proof.Machine.execLaneTrained t p lanes s
  | .trainTimeout t p => Sys2Proof.Machine.execTrainTimeout t p s
  | .trainRetry t p => Sys2Proof.Machine.execTrainRetry t p s
  | .busyRx t p => Sys2Proof.Machine.execBusyRx t p s
  | .busywaitRetry t p => Sys2Proof.Machine.execBusywaitRetry t p s
  | .capxMessage t p m => Sys2Proof.Machine.execCapxMessage t p m s
  | .authMessage t p m => Sys2Proof.Machine.execAuthMessage t p m s
  | .authTimeout t p => Sys2Proof.Machine.execAuthTimeout t p s
  | .quarExpiry t p => Sys2Proof.Machine.execQuarExpiry t p s
  | .tpctlRetry t src p val => Sys2Proof.Machine.execTpctlRetry t src p val s
  | .laneLockLoss t p => Sys2Proof.Machine.execLaneLockLoss t p s
  | .rekeyStart t p => Sys2Proof.Machine.execRekeyStart t p s
  | .rekeyTimeout t p => Sys2Proof.Machine.execRekeyTimeout t p s
  | .tetherExchangeLoss t => Sys2Proof.Machine.execTetherExchangeLoss t s
  | .electionSettled t => Sys2Proof.Machine.execElectionSettled t s
  | .admreqRx t p serial want => Sys2Proof.Machine.execAdmreqRx t p serial want s
  | .admitRx t p serial idx midx => Sys2Proof.Machine.execAdmitRx t p serial idx midx s
  | .masterLostGraceExpiry t => Sys2Proof.Machine.execMasterLostGraceExpiry t s
  | .rwctlGo t src val => Sys2Proof.Machine.execRwctlGo t src val s
  | .remoteCommandRx t dev seq wr off val => Sys2Proof.Machine.execRemoteCommandRx t dev seq wr off val s
  | .rwResponseRx t seq res val => Sys2Proof.Machine.execRwResponseRx t seq res val s
  | .rwTimeout t => Sys2Proof.Machine.execRwTimeout t s
  | .importWrite t src x val => Sys2Proof.Machine.execImportWrite t src x val s
  | .subscriptionRx t dev x id en => Sys2Proof.Machine.execSubscriptionRx t dev x id en s
  | .importEventRx t dev x seq ts detail tq coinc => Sys2Proof.Machine.execImportEventRx t dev x seq ts detail tq coinc s
  | .cgstartGo t src val => Sys2Proof.Machine.execCgstartGo t src val s
  | .cgstartBroadcastRx t at_ restart => Sys2Proof.Machine.execCgstartBroadcastRx t at_ restart s
  | .cgstartReportRx t dev res => Sys2Proof.Machine.execCgstartReportRx t dev res s
  | .cgstartClose t => Sys2Proof.Machine.execCgstartClose t s
  | .scrubWord t mem p err => Sys2Proof.Machine.execScrubWord t mem p err s
  | .monitorReading t m k temp => Sys2Proof.Machine.execMonitorReading t m k temp s
  | .marginEvaluation t => Sys2Proof.Machine.execMarginEvaluation t s
  | .marginStepBack t => Sys2Proof.Machine.execMarginStepBack t s
  | .sprcmdWarm t src val => Sys2Proof.Machine.execSprcmdWarm t src val s
  | .sprcmdCold t src val => Sys2Proof.Machine.execSprcmdCold t src val s
  | .sprcmdTest t src val => Sys2Proof.Machine.execSprcmdTest t src val s
  | .sprcmdAbort t src val => Sys2Proof.Machine.execSprcmdAbort t src val s
  | .takeoverStart t => Sys2Proof.Machine.execTakeoverStart t s
  | .takeoverCopyDone t => Sys2Proof.Machine.execTakeoverCopyDone t s
  | .takeoverJoin t mism => Sys2Proof.Machine.execTakeoverJoin t mism s
  | .takeoverHandover t mism => Sys2Proof.Machine.execTakeoverHandover t mism s
  | .takeoverTimeLimit t => Sys2Proof.Machine.execTakeoverTimeLimit t s
  | .coldTakeover t => Sys2Proof.Machine.execColdTakeover t s
  | .selftestStart t p => Sys2Proof.Machine.execSelftestStart t p s
  | .selftestDone t check => Sys2Proof.Machine.execSelftestDone t check s
  | .telemetryBlock t hot mean err => Sys2Proof.Machine.execTelemetryBlock t hot mean err s
  | .pwrctlGoAloft t src val => Sys2Proof.Machine.execPwrctlGoAloft t src val s
  | .pwrctlGoDrift t src val => Sys2Proof.Machine.execPwrctlGoDrift t src val s
  | .pwrctlGoMoored t src val => Sys2Proof.Machine.execPwrctlGoMoored t src val s
  | .pwrctlGoGrounded t src val => Sys2Proof.Machine.execPwrctlGoGrounded t src val s
  | .powerAutoEntry t sinceD sinceM => Sys2Proof.Machine.execPowerAutoEntry t sinceD sinceM s
  | .powerEntryDone t => Sys2Proof.Machine.execPowerEntryDone t s
  | .wakeRequest t cause idx => Sys2Proof.Machine.execWakeRequest t cause idx s
  | .wakeTimer t => Sys2Proof.Machine.execWakeTimer t s
  | .wakeDone t => Sys2Proof.Machine.execWakeDone t s
  | .gwakeRise t => Sys2Proof.Machine.execGwakeRise t s
  | .supplyMeasurement t r mv => Sys2Proof.Machine.execSupplyMeasurement t r mv s
  | .supplyWarning t r => Sys2Proof.Machine.execSupplyWarning t r s
  | .supplyFault t r mv => Sys2Proof.Machine.execSupplyFault t r mv s
  | .supplyFaultClear t r mv => Sys2Proof.Machine.execSupplyFaultClear t r mv s
  | .avsEvaluation t => Sys2Proof.Machine.execAvsEvaluation t s
  | .pmbusRequestSend t ok => Sys2Proof.Machine.execPmbusRequestSend t ok s
  | .pmbusSettled t => Sys2Proof.Machine.execPmbusSettled t s
  | .pmbusSettleTimeout t => Sys2Proof.Machine.execPmbusSettleTimeout t s
  | .pmbusStatusPoll t ok word fault => Sys2Proof.Machine.execPmbusStatusPoll t ok word fault s
  | .avsctlRetry t src val => Sys2Proof.Machine.execAvsctlRetry t src val s
  | .lccmdGetkey t src val => Sys2Proof.Machine.execLccmdGetkey t src val s
  | .lccmdProvision t src val err => Sys2Proof.Machine.execLccmdProvision t src val err s
  | .lccmdLock t src val => Sys2Proof.Machine.execLccmdLock t src val s
  | .lccmdRetire t src val err => Sys2Proof.Machine.execLccmdRetire t src val err s
  | .lcCommandDone t => Sys2Proof.Machine.execLcCommandDone t s
  | .revctlGo t src val err => Sys2Proof.Machine.execRevctlGo t src val err s
  | .revlistCheckDone t => Sys2Proof.Machine.execRevlistCheckDone t s
  | .secgonWrite t src i0 val => Sys2Proof.Machine.execSecgonWrite t src i0 val s
  | .tamperDetect t k => Sys2Proof.Machine.execTamperDetect t k s
  | .wipeDone t => Sys2Proof.Machine.execWipeDone t s
  | .dbgctlOpen t src val err => Sys2Proof.Machine.execDbgctlOpen t src val err s
  | .tokenCheckDone t => Sys2Proof.Machine.execTokenCheckDone t s
  | .dbgctlClose t src val => Sys2Proof.Machine.execDbgctlClose t src val s
  | .debugSessionExpiry t => Sys2Proof.Machine.execDebugSessionExpiry t s
  | .debugLockoutExpiry t => Sys2Proof.Machine.execDebugLockoutExpiry t s
  | .dbgectlHalt t src g val => Sys2Proof.Machine.execDbgectlHalt t src g val s
  | .dbgectlResume t src g val => Sys2Proof.Machine.execDbgectlResume t src g val s
  | .dbgectlStep t src g val => Sys2Proof.Machine.execDbgectlStep t src g val s
  | .breakpointHit t g => Sys2Proof.Machine.execBreakpointHit t g s
  | .dbgdataRead t src g => Sys2Proof.Machine.execDbgdataRead t src g s
  | .dbgdataWrite t src g val => Sys2Proof.Machine.execDbgdataWrite t src g val s
  | .jtagIdcode t => Sys2Proof.Machine.execJtagIdcode t s
  | .jtagBypass t => Sys2Proof.Machine.execJtagBypass t s
  | .jtagSamplePreload t cells => Sys2Proof.Machine.execJtagSamplePreload t cells s
  | .jtagExtest t => Sys2Proof.Machine.execJtagExtest t s
  | .jtagLcread t => Sys2Proof.Machine.execJtagLcread t s
  | .jtagLcpub t => Sys2Proof.Machine.execJtagLcpub t s
  | .jtagLcstage t => Sys2Proof.Machine.execJtagLcstage t s
  | .lcstageWordUpdate t val => Sys2Proof.Machine.execLcstageWordUpdate t val s
  | .jtagLccmd t val => Sys2Proof.Machine.execJtagLccmd t val s
  | .jtagDbgnonce t => Sys2Proof.Machine.execJtagDbgnonce t s
  | .jtagToken t tok => Sys2Proof.Machine.execJtagToken t tok s
  | .jtagDbgopen t level => Sys2Proof.Machine.execJtagDbgopen t level s
  | .jtagDbgacc t off wr => Sys2Proof.Machine.execJtagDbgacc t off wr s
  | .powerOnReset t => Sys2Proof.Machine.execPowerOnReset t s
  | .bootFuseDone t keep => Sys2Proof.Machine.execBootFuseDone t keep s
  | .bootClockDone t => Sys2Proof.Machine.execBootClockDone t s
  | .bootTestDone t bad => Sys2Proof.Machine.execBootTestDone t bad s
  | .bootCalDone t => Sys2Proof.Machine.execBootCalDone t s
  | .bootReady t => Sys2Proof.Machine.execBootReady t s
  | .bootStageFail t stage => Sys2Proof.Machine.execBootStageFail t stage s
  | .bankoeset t src val => Sys2Proof.Machine.execBankoeset t src val s
  | .bankoeclr t src val => Sys2Proof.Machine.execBankoeclr t src val s
  | .bankOeEffect t => Sys2Proof.Machine.execBankOeEffect t s
  | .thermtripAssert t => Sys2Proof.Machine.execThermtripAssert t s
  | .getkeyDone t => Sys2Proof.Machine.execGetkeyDone t s
  | .stopnowRunEnd t n => Sys2Proof.Machine.execStopnowRunEnd t n s
  | .readerLatencyTracking t skew => Sys2Proof.Machine.execReaderLatencyTracking t skew s
  | .configurationRequest t f off wr field => Sys2Proof.Machine.execConfigurationRequest t f off wr field s
  | .thermtripRelease t => Sys2Proof.Machine.execThermtripRelease t s

end Sys2Proof.Machine
end

