-- ==== Sys2Proof/WellFormed.lean ====
section
/-! DEFINITION. Well-formed commands: every unit, offset, source and operand field a command names is one the device has
(R4, R8, R15, R82, R273). -/
namespace Sys2Proof
open Machine

/-- Whether a command names only what the device has. -/
def Instr.wf (i : Instr) : Bool :=
  match i with
  | .registerWrite _ src off _ _ => src.ok && decide (off < 0x4000000)
  | .readClearAccess _ src off _ => src.ok && decide (off < 0x4000000)
  | .handshakeWatchdogExpiry _ port => decide (port ≤ 212)
  | .meshisoReadmit _ src i _ => src.ok && decide (i < 7)
  | .readmitSelftestDone _ port _ => decide (port ≤ 212)
  | .grantRoundOpen _ reqs => decide (reqs.length ≤ 8) && reqs.all Req.ok && roundOk reqs
  | .sramRead _ src _ _ _ => src.ok
  | .sramWrite _ src _ _ _ => src.ok
  | .sramAtomicSwap _ src _ _ _ _ => src.ok
  | .sramAtomicCas _ src _ _ _ _ _ => src.ok
  | .sramAtomicAdd _ src _ _ _ _ => src.ok
  | .sramAtomicAnd _ src _ _ _ _ => src.ok
  | .sramAtomicOr _ src _ _ _ _ => src.ok
  | .spineBeacon _ _ => true
  | .nsLoRead _ src k => src.ok && decide (k < 18)
  | .tbLoadgo _ src k _ => src.ok && decide (k < 18)
  | .tbSlewabort _ src k _ => src.ok && decide (k < 18)
  | .tbSlewoffWrite _ src k _ => src.ok && decide (k < 18)
  | .discctlSrcWrite _ src _ => src.ok
  | .ppsPulse _ => true
  | .ppsTimeout _ => true
  | .refinQualified _ _ => true
  | .refinLockAchieved _ => true
  | .refinLoss _ => true
  | .ppsoutPulse _ => true
  | .gstartGo _ src _ => src.ok
  | .gstartRelease _ => true
  | .edgeFire _ n => decide (n < 1024)
  | .calRunDone _ n => decide (n < 1024)
  | .dlSwap _ n => decide (n < 1024)
  | .dlctlSwapnow _ src n _ => src.ok && decide (n < 1024)
  | .dlctlEtbApply _ n => decide (n < 1024)
  | .calAged _ n => decide (n < 1024)
  | .addR _ g f => g < 64 && f.ok
  | .subR _ g f => g < 64 && f.ok
  | .addt _ g f => g < 64 && f.ok
  | .subt _ g f => g < 64 && f.ok
  | .andR _ g f => g < 64 && f.ok
  | .orR _ g f => g < 64 && f.ok
  | .xorR _ g f => g < 64 && f.ok
  | .andn _ g f => g < 64 && f.ok
  | .shl _ g f => g < 64 && f.ok
  | .shr _ g f => g < 64 && f.ok
  | .sar _ g f => g < 64 && f.ok
  | .ror _ g f => g < 64 && f.ok
  | .cmp _ g f => g < 64 && f.ok
  | .tst _ g f => g < 64 && f.ok
  | .minR _ g f => g < 64 && f.ok
  | .maxR _ g f => g < 64 && f.ok
  | .movR _ g f => g < 64 && f.ok
  | .clz _ g f => g < 64 && f.ok
  | .absR _ g f => g < 64 && f.ok
  | .negR _ g f => g < 64 && f.ok
  | .mul _ g f => g < 64 && f.ok
  | .mulh _ g f => g < 64 && f.ok
  | .mulhu _ g f => g < 64 && f.ok
  | .mult _ g f => g < 64 && f.ok
  | .div _ g f => g < 64 && f.ok
  | .divu _ g f => g < 64 && f.ok
  | .rem _ g f => g < 64 && f.ok
  | .remu _ g f => g < 64 && f.ok
  | .addi _ g f => g < 64 && f.ok
  | .andi _ g f => g < 64 && f.ok
  | .ori _ g f => g < 64 && f.ok
  | .xori _ g f => g < 64 && f.ok
  | .shli _ g f => g < 64 && f.ok
  | .shri _ g f => g < 64 && f.ok
  | .sari _ g f => g < 64 && f.ok
  | .cmpi _ g f => g < 64 && f.ok
  | .movl _ g f => g < 64 && f.ok
  | .movh _ g f => g < 64 && f.ok
  | .addp _ g f => g < 64 && f.ok
  | .subp _ g f => g < 64 && f.ok
  | .cmpp _ g f => g < 64 && f.ok
  | .movp _ g f => g < 64 && f.ok
  | .addpw _ g f => g < 64 && f.ok
  | .mac _ g f => g < 64 && f.ok
  | .msu _ g f => g < 64 && f.ok
  | .mpy _ g f => g < 64 && f.ok
  | .mclr _ g f => g < 64 && f.ok
  | .mrd _ g f => g < 64 && f.ok
  | .mld _ g f => g < 64 && f.ok
  | .mst _ g f => g < 64 && f.ok
  | .ldb _ g f _ => g < 64 && f.ok
  | .ldbu _ g f _ => g < 64 && f.ok
  | .ldh _ g f _ => g < 64 && f.ok
  | .ldhu _ g f _ => g < 64 && f.ok
  | .ldw _ g f _ => g < 64 && f.ok
  | .ldp _ g f _ => g < 64 && f.ok
  | .stb _ g f _ => g < 64 && f.ok
  | .sth _ g f _ => g < 64 && f.ok
  | .stw _ g f _ => g < 64 && f.ok
  | .stp _ g f _ => g < 64 && f.ok
  | .aswpW _ g f _ => g < 64 && f.ok
  | .acasW _ g f _ => g < 64 && f.ok
  | .aaddW _ g f _ => g < 64 && f.ok
  | .aandW _ g f _ => g < 64 && f.ok
  | .aorW _ g f _ => g < 64 && f.ok
  | .aswpP _ g f _ => g < 64 && f.ok
  | .acasP _ g f _ => g < 64 && f.ok
  | .aaddP _ g f _ => g < 64 && f.ok
  | .aandP _ g f _ => g < 64 && f.ok
  | .aorP _ g f _ => g < 64 && f.ok
  | .fenceI _ g f => g < 64 && f.ok
  | .mfs _ g f => g < 64 && f.ok
  | .mts _ g f => g < 64 && f.ok
  | .mtsGstartw _ g rd res => decide (g < 64 ∧ rd < 16 ∧ res < 4096)
  | .prd _ g f => g < 64 && f.ok
  | .prdP _ g f => g < 64 && f.ok
  | .pwr _ g f => g < 64 && f.ok
  | .pwrP _ g f => g < 64 && f.ok
  | .edge _ g f => g < 64 && f.ok
  | .tnow _ g f => g < 64 && f.ok
  | .tnowf _ g f => g < 64 && f.ok
  | .evtake _ g f => g < 64 && f.ok
  | .bCond _ g f => g < 64 && f.ok
  | .cbz _ g f => g < 64 && f.ok
  | .cbnz _ g f => g < 64 && f.ok
  | .jmp _ g off => decide (g < 64 ∧ off < 2 ^ 26)
  | .jl _ g off => decide (g < 64 ∧ off < 2 ^ 26)
  | .jr _ g f => g < 64 && f.ok
  | .jlr _ g f => g < 64 && f.ok
  | .loopI _ g f => g < 64 && f.ok
  | .eret _ g f => g < 64 && f.ok
  | .doneT _ g f => g < 64 && f.ok
  | .yieldT _ g f => g < 64 && f.ok
  | .trapI _ g f => g < 64 && f.ok
  | .nopI _ g w => g < 64 && nopWord w
  | .postedStoreAck _ g _ _ => decide (g < 64)
  | .postedStoreError _ g _ _ => decide (g < 64)
  | .engctlEreset _ src g _ => src.ok && decide (g < 64)
  | .engctlRun _ src g _ => src.ok && decide (g < 64)
  | .engrateInterval _ g => decide (g < 64)
  | .impreciseExceptionDue _ g => decide (g < 64)
  | .exceptionEntry _ g => decide (g < 64)
  | .balctlBalreq _ src g _ => src.ok && decide (g < 64)
  | .balctlBalclr _ src g _ => src.ok && decide (g < 64)
  | .ballastEntry _ g _ => decide (g < 64)
  | .ballastDumpDone _ g _ => decide (g < 64)
  | .mcldGo _ src _ _ => src.ok
  | .mcldCheckDone _ => true
  | .mcImageApply _ p => decide (p < 68)
  | .routerRouteEvent _ r => decide (r < 69)
  | .routerFillDone _ r _ => decide (r < 69)
  | .taskInputArrival _ g slot inp arr => decide (g < 64 ∧ slot < 64 ∧ inp < 16 ∧ arr.length ≤ 8)
  | .coherenceVisit _ _ => true
  | .invalRouteEntry _ src index => src.ok && decide (index < 8192)
  | .invalDescriptor _ src index => src.ok && decide (index < 8192)
  | .invalAllRoutes _ src => src.ok
  | .invalAllDescriptors _ src => src.ok
  | .invalDone _ => true
  | .efctlEnWrite _ src _ => src.ok
  | .taskrunClr _ src g _ => src.ok && decide (g < 64)
  | .taskrunRun _ src g _ => src.ok && decide (g < 64)
  | .tdctlWrite _ src g slot _ => src.ok && decide (g < 64 ∧ slot < 64)
  | .taskDispatch _ g => decide (g < 64)
  | .taskPreempt _ g => decide (g < 64)
  | .taskResume _ g => decide (g < 64)
  | .slackRecompute _ => true
  | .chctlGo _ src n _ => src.ok && decide (n < 1024)
  | .chctlArm _ src n _ => src.ok && decide (n < 1024)
  | .chctlStop _ src n _ => src.ok && decide (n < 1024)
  | .chctlStopnow _ src n _ => src.ok && decide (n < 1024)
  | .triggerDetect _ n => decide (n < 1024)
  | .runStart _ n => decide (n < 1024)
  | .counterPeriodBoundary _ n => decide (n < 1024)
  | .counterCmpa _ n => decide (n < 1024)
  | .counterCmpb _ n => decide (n < 1024)
  | .compareEdgeCommit _ n => decide (n < 1024)
  | .pinTransition _ n _ => decide (n < 1024)
  | .captureAccept _ n => decide (n < 1024)
  | .capctlWrite _ src n _ => src.ok && decide (n < 1024)
  | .loadEdgeMeasured _ n _ _ => decide (n < 1024)
  | .ctmReading _ n _ => decide (n < 1024)
  | .ctmMaxtExpiry _ n => decide (n < 1024)
  | .carrierRefChange _ n => decide (n < 1024)
  | .shadowLatchPoint _ n => decide (n < 1024)
  | .gloadLoadall _ src j _ => src.ok && decide (j < 128)
  | .pwmctlPairWrite _ src n _ => src.ok && decide (n < 1024)
  | .switchNodeSense _ n => decide (n < 1024)
  | .dtmaxExpiry _ n => decide (n < 1024)
  | .interlockBothOn _ n => decide (n < 1024)
  | .interlockHoldExpiry _ n => decide (n < 1024)
  | .tripLineActivation _ j line => j < 128 && line < 4
  | .blankWindowEnd _ n => decide (n < 1024)
  | .tripclrClr _ src n _ => src.ok && decide (n < 1024)
  | .forceRelease _ src n _ => src.ok && decide (n < 1024)
  | .forceHigh _ src n _ => src.ok && decide (n < 1024)
  | .forceLow _ src n _ => src.ok && decide (n < 1024)
  | .forceHiz _ src n _ => src.ok && decide (n < 1024)
  | .gforceRelease _ src j _ _ => src.ok && decide (j < 128)
  | .gforceHigh _ src j _ _ => src.ok && decide (j < 128)
  | .gforceLow _ src j _ _ => src.ok && decide (j < 128)
  | .gforceHiz _ src j _ _ => src.ok && decide (j < 128)
  | .forceOrderEffect _ n => decide (n < 1024)
  | .safectlSafego _ src j _ => src.ok && decide (j < 128)
  | .safectlSafeclr _ src j _ => src.ok && decide (j < 128)
  | .safeStateEffect _ j => decide (j < 128)
  | .analogReady _ => true
  | .comparatorCrossing _ k _ => decide (k < 256)
  | .comparatorOutputChange _ k => decide (k < 256)
  | .kclrClr _ src k _ => src.ok && decide (k < 256)
  | .sarTrigger _ i => decide (i < 16)
  | .sarswGo _ src i _ => src.ok && decide (i < 16)
  | .sarConversion _ i _ => decide (i < 16)
  | .sampleRecordAck _ sd i _ => if sd then i < 256 else i < 16
  | .sdWord _ i _ => decide (i < 256)
  | .sdConfigApply _ i => decide (i < 256)
  | .modulatorFault _ i _ _ => decide (i < 256)
  | .modulatorFaultClear _ i _ => decide (i < 256)
  | .sdFastWord _ i _ => decide (i < 256)
  | .tailctlArmWrite _ src k _ => src.ok && decide (k < 128)
  | .tailEdgeAccept _ k _ _ => decide (k < 128)
  | .tailZEdge _ k _ _ => decide (k < 128)
  | .sertrigGo _ src k _ => src.ok && decide (k < 128)
  | .serialTrigger _ k _ => decide (k < 128)
  | .bissAckTimeout _ k => decide (k < 128)
  | .bissStartTimeout _ k _ => decide (k < 128)
  | .serialFrameDone _ k _ _ _ _ _ => decide (k < 128)
  | .tailRecordWrite _ k _ => decide (k < 128)
  | .velDecayUpdate _ k => decide (k < 128)
  | .speedStaleTimeout _ k => decide (k < 128)
  | .lineBreakDetect _ k _ => decide (k < 128)
  | .lineBreakClear _ k _ => decide (k < 128)
  | .freshnessTimeout _ k => decide (k < 128)
  | .lossGraceExpiry _ k => decide (k < 128)
  | .flyingSyncTimeout _ k => decide (k < 128)
  | .brakeTimeout _ k => decide (k < 128)
  | .emuEdgeCommit _ k => decide (k < 128)
  | .emuPathChange _ k => decide (k < 128)
  | .spoolTooth _ i => decide (i < 32)
  | .spoolHalt _ i => decide (i < 32)
  | .spoolLateDeadline _ i => decide (i < 32)
  | .spoolReverseEdge _ i => decide (i < 32)
  | .spctlSyncnow _ src i _ => src.ok && decide (i < 32)
  | .spctlDesync _ src i _ => src.ok && decide (i < 32)
  | .spctlEnWrite _ src i _ => src.ok && decide (i < 32)
  | .spoolEnding _ i => decide (i < 32)
  | .aevctlDisarm _ src i j _ => src.ok && i < 32 && j < 64
  | .aevctlOnce _ src i j _ => src.ok && i < 32 && j < 64
  | .aevctlEvery _ src i j _ => src.ok && i < 32 && j < 64
  | .aevctlOnceRev _ src i j _ => src.ok && i < 32 && j < 64
  | .slotCommit _ i j => i < 32 && j < 64
  | .springPoll _ i _ => decide (i < 32)
  | .spangleRead _ src i => src.ok && decide (i < 32)
  | .spoolBcastSample _ i => decide (i < 32)
  | .spoolRecordArrival _ i _ => decide (i < 32)
  | .remoteAgeExpiry _ i => decide (i < 32)
  | .vfFlr _ f => decide (1 ≤ f ∧ f < 17)
  | .pfFlr _ => true
  | .hotReset _ => true
  | .perst _ _ => true
  | .bridleWrite _ src e _ => src.ok && decide (e < 384)
  | .hostwdKick _ src f _ => src.ok && decide (f < 17)
  | .hostWdExpiry _ f => decide (f < 17)
  | .mvctlGo _ src m _ => src.ok && decide (m < 32)
  | .mvctlStop _ src m _ => src.ok && decide (m < 32)
  | .mvDescriptorFetched _ m _ _ _ => decide (m < 32)
  | .hostCompletion _ m _ _ _ => decide (m < 32)
  | .dllAck _ _ _ => true
  | .mvDescriptorRetire _ m _ => decide (m < 32)
  | .pcieCompletionTimeout _ m _ => decide (m < 32)
  | .qcmdEnable _ src q => src.ok && decide (q < 262144)
  | .qcmdDisable _ src q => src.ok && decide (q < 262144)
  | .qcmdReload _ src q => src.ok && decide (q < 262144)
  | .queueContextFetched _ q _ _ => decide (q < 262144)
  | .doorbellWrite _ src q _ => src.ok && decide (q < 262144)
  | .queueRecordWrite _ q => decide (q < 262144)
  | .prodWriteback _ q => decide (q < 262144)
  | .queueItimeExpiry _ q => decide (q < 262144)
  | .msixRequest _ f v => decide (f < 17 ∧ v < 2048)
  | .msixTableWrite _ src off words => src.ok && decide (off < 0x8000 ∧ (words.length = 1 ∧ off % 4 = 0 ∨ words.length = 2 ∧ off % 8 = 0))
  | .cmdWrite _ q off _ tag => cmdOk q off tag
  | .cmdWriteat _ q off _ at_ tag => cmdOk q off tag && decide (at_ < 2 ^ 64)
  | .writeatDue _ q => decide (q < 262144)
  | .cmdMark _ q tag => cmdOk q 0 tag
  | .cmdBad _ q code tag => cmdOk q 0 tag && decide (code < 16 ∧ code ≠ 1 ∧ code ≠ 2 ∧ code ≠ 3)
  | .linkDown _ => true
  | .linkUp _ _ => true
  | .tetherCycleStart _ p => decide (p < 4)
  | .controlBlockRx _ p _ => decide (p < 4)
  | .dataSlotRx _ p _ _ items => decide (p < 4) && items.all TMsg.ok
  | .answerBlockRx _ p _ _ => decide (p < 4)
  | .pollDeadline _ p => decide (p < 4)
  | .portTrainTurn _ p => decide (p < 4)
  | .laneTrained _ p lanes => decide (p < 4 ∧ 1 ≤ lanes ∧ lanes ≤ 2)
  | .trainTimeout _ p => decide (p < 4)
  | .trainRetry _ p => decide (p < 4)
  | .busyRx _ p => decide (p < 4)
  | .busywaitRetry _ p => decide (p < 4)
  | .capxMessage _ p _ => decide (p < 4)
  | .authMessage _ p _ => decide (p < 4)
  | .authTimeout _ p => decide (p < 4)
  | .quarExpiry _ p => decide (p < 4)
  | .tpctlRetry _ src p _ => src.ok && decide (p < 4)
  | .laneLockLoss _ p => decide (p < 4)
  | .rekeyStart _ p => decide (p < 4)
  | .rekeyTimeout _ p => decide (p < 4)
  | .tetherExchangeLoss _ => true
  | .electionSettled _ => true
  | .admreqRx _ p _ want => decide (p < 4 ∧ want.all (· < 32))
  | .admitRx _ p _ idx midx => decide (p < 4 ∧ idx.all (· < 32) ∧ midx < 32)
  | .masterLostGraceExpiry _ => true
  | .rwctlGo _ src _ => src.ok
  | .remoteCommandRx _ dev seq wr off val => decide (dev < 32) && (TItem.cmd seq wr off val).ok
  | .rwResponseRx _ _ res _ => decide (res < 8)
  | .rwTimeout _ => true
  | .importWrite _ src x _ => src.ok && decide (x < 96)
  | .subscriptionRx _ dev x id _ => decide (dev < 32 ∧ x < 96 ∧ id < 8192)
  | .importEventRx _ dev x _ _ _ _ _ => decide (dev < 32 ∧ x < 96)
  | .cgstartGo _ src _ => src.ok
  | .cgstartBroadcastRx _ _ _ => true
  | .cgstartReportRx _ dev res => decide (dev < 32 ∧ res < 3)
  | .cgstartClose _ => true
  | .scrubWord _ mem p _ => mem < 3 && p < 68
  | .monitorReading _ m _ _ => decide (m < 96)
  | .marginEvaluation _ => true
  | .marginStepBack _ => true
  | .sprcmdWarm _ src _ => src.ok
  | .sprcmdCold _ src _ => src.ok
  | .sprcmdTest _ src _ => src.ok
  | .sprcmdAbort _ src _ => src.ok
  | .takeoverStart _ => true
  | .takeoverCopyDone _ => true
  | .takeoverJoin _ _ => true
  | .takeoverHandover _ _ => true
  | .takeoverTimeLimit _ => true
  | .coldTakeover _ => true
  | .selftestStart _ p => decide (p < 68)
  | .selftestDone _ check => decide (check < 6)
  | .telemetryBlock _ _ _ _ => true
  | .pwrctlGoAloft _ src _ => src.ok
  | .pwrctlGoDrift _ src _ => src.ok
  | .pwrctlGoMoored _ src _ => src.ok
  | .pwrctlGoGrounded _ src _ => src.ok
  | .powerAutoEntry _ _ _ => true
  | .powerEntryDone _ => true
  | .wakeRequest _ cause idx => cause < 9 && idx < 256
  | .wakeTimer _ => true
  | .wakeDone _ => true
  | .gwakeRise _ => true
  | .supplyMeasurement _ r _ => decide (r < 20)
  | .supplyWarning _ r => decide (r < 20)
  | .supplyFault _ r _ => decide (r < 20)
  | .supplyFaultClear _ r _ => decide (r < 20)
  | .avsEvaluation _ => true
  | .pmbusRequestSend _ _ => true
  | .pmbusSettled _ => true
  | .pmbusSettleTimeout _ => true
  | .pmbusStatusPoll _ _ _ _ => true
  | .avsctlRetry _ src _ => src.ok
  | .lccmdGetkey _ src _ => src.ok
  | .lccmdProvision _ src _ _ => src.ok
  | .lccmdLock _ src _ => src.ok
  | .lccmdRetire _ src _ _ => src.ok
  | .lcCommandDone _ => true
  | .revctlGo _ src _ _ => src.ok
  | .revlistCheckDone _ => true
  | .secgonWrite _ src i _ => src.ok && decide (i < 2)
  | .tamperDetect _ k => decide (k < 7)
  | .wipeDone _ => true
  | .dbgctlOpen _ src _ _ => src.ok
  | .tokenCheckDone _ => true
  | .dbgctlClose _ src _ => src.ok
  | .debugSessionExpiry _ => true
  | .debugLockoutExpiry _ => true
  | .dbgectlHalt _ src g _ => src.ok && decide (g < 64)
  | .dbgectlResume _ src g _ => src.ok && decide (g < 64)
  | .dbgectlStep _ src g _ => src.ok && decide (g < 64)
  | .breakpointHit _ g => decide (g < 64)
  | .dbgdataRead _ src g => src.ok && decide (g < 64)
  | .dbgdataWrite _ src g _ => src.ok && decide (g < 64)
  | .jtagIdcode _ => true
  | .jtagBypass _ => true
  | .jtagSamplePreload _ cells => decide (cells.length ≤ 1024)
  | .jtagExtest _ => true
  | .jtagLcread _ => true
  | .jtagLcpub _ => true
  | .jtagLcstage _ => true
  | .lcstageWordUpdate _ _ => true
  | .jtagLccmd _ _ => true
  | .jtagDbgnonce _ => true
  | .jtagToken _ tok => decide (tok.length ≤ 160)
  | .jtagDbgopen _ level => decide (level < 4)
  | .jtagDbgacc _ off _ => decide (off < 0x4000000)
  | .powerOnReset _ => true
  | .bootFuseDone _ _ => true
  | .bootClockDone _ => true
  | .bootTestDone _ bad => decide (bad < 2 ^ 68)
  | .bootCalDone _ => true
  | .bootReady _ => true
  | .bootStageFail _ stage => decide (stage < 6)
  | .bankoeset _ src _ => src.ok
  | .bankoeclr _ src _ => src.ok
  | .bankOeEffect _ => true
  | .thermtripAssert _ => true
  | .getkeyDone _ => true
  | .stopnowRunEnd _ n => decide (n < 1024)
  | .readerLatencyTracking _ _ => true
  | .configurationRequest _ f off _ _ => decide (f < 17 ∧ off < 4096)
  | .thermtripRelease _ => true

/-- Who sends a command, where it is an access or an order of a source. -/
def Instr.source (i : Instr) : Option Machine.Src :=
  match i with
  | .registerWrite _ x _ _ _ => some x
  | .readClearAccess _ x _ _ => some x
  | .handshakeWatchdogExpiry _ _ => none
  | .meshisoReadmit _ x _ _ => some x
  | .readmitSelftestDone _ _ _ => none
  | .grantRoundOpen _ _ => none
  | .sramRead _ x _ _ _ => some x
  | .sramWrite _ x _ _ _ => some x
  | .sramAtomicSwap _ x _ _ _ _ => some x
  | .sramAtomicCas _ x _ _ _ _ _ => some x
  | .sramAtomicAdd _ x _ _ _ _ => some x
  | .sramAtomicAnd _ x _ _ _ _ => some x
  | .sramAtomicOr _ x _ _ _ _ => some x
  | .spineBeacon _ _ => none
  | .nsLoRead _ x _ => some x
  | .tbLoadgo _ x _ _ => some x
  | .tbSlewabort _ x _ _ => some x
  | .tbSlewoffWrite _ x _ _ => some x
  | .discctlSrcWrite _ x _ => some x
  | .ppsPulse _ => none
  | .ppsTimeout _ => none
  | .refinQualified _ _ => none
  | .refinLockAchieved _ => none
  | .refinLoss _ => none
  | .ppsoutPulse _ => none
  | .gstartGo _ x _ => some x
  | .gstartRelease _ => none
  | .edgeFire _ _ => none
  | .calRunDone _ _ => none
  | .dlSwap _ _ => none
  | .dlctlSwapnow _ x _ _ => some x
  | .dlctlEtbApply _ _ => none
  | .calAged _ _ => none
  | .addR _ _ _ => none
  | .subR _ _ _ => none
  | .addt _ _ _ => none
  | .subt _ _ _ => none
  | .andR _ _ _ => none
  | .orR _ _ _ => none
  | .xorR _ _ _ => none
  | .andn _ _ _ => none
  | .shl _ _ _ => none
  | .shr _ _ _ => none
  | .sar _ _ _ => none
  | .ror _ _ _ => none
  | .cmp _ _ _ => none
  | .tst _ _ _ => none
  | .minR _ _ _ => none
  | .maxR _ _ _ => none
  | .movR _ _ _ => none
  | .clz _ _ _ => none
  | .absR _ _ _ => none
  | .negR _ _ _ => none
  | .mul _ _ _ => none
  | .mulh _ _ _ => none
  | .mulhu _ _ _ => none
  | .mult _ _ _ => none
  | .div _ _ _ => none
  | .divu _ _ _ => none
  | .rem _ _ _ => none
  | .remu _ _ _ => none
  | .addi _ _ _ => none
  | .andi _ _ _ => none
  | .ori _ _ _ => none
  | .xori _ _ _ => none
  | .shli _ _ _ => none
  | .shri _ _ _ => none
  | .sari _ _ _ => none
  | .cmpi _ _ _ => none
  | .movl _ _ _ => none
  | .movh _ _ _ => none
  | .addp _ _ _ => none
  | .subp _ _ _ => none
  | .cmpp _ _ _ => none
  | .movp _ _ _ => none
  | .addpw _ _ _ => none
  | .mac _ _ _ => none
  | .msu _ _ _ => none
  | .mpy _ _ _ => none
  | .mclr _ _ _ => none
  | .mrd _ _ _ => none
  | .mld _ _ _ => none
  | .mst _ _ _ => none
  | .ldb _ _ _ _ => none
  | .ldbu _ _ _ _ => none
  | .ldh _ _ _ _ => none
  | .ldhu _ _ _ _ => none
  | .ldw _ _ _ _ => none
  | .ldp _ _ _ _ => none
  | .stb _ _ _ _ => none
  | .sth _ _ _ _ => none
  | .stw _ _ _ _ => none
  | .stp _ _ _ _ => none
  | .aswpW _ _ _ _ => none
  | .acasW _ _ _ _ => none
  | .aaddW _ _ _ _ => none
  | .aandW _ _ _ _ => none
  | .aorW _ _ _ _ => none
  | .aswpP _ _ _ _ => none
  | .acasP _ _ _ _ => none
  | .aaddP _ _ _ _ => none
  | .aandP _ _ _ _ => none
  | .aorP _ _ _ _ => none
  | .fenceI _ _ _ => none
  | .mfs _ _ _ => none
  | .mts _ _ _ => none
  | .mtsGstartw _ _ _ _ => none
  | .prd _ _ _ => none
  | .prdP _ _ _ => none
  | .pwr _ _ _ => none
  | .pwrP _ _ _ => none
  | .edge _ _ _ => none
  | .tnow _ _ _ => none
  | .tnowf _ _ _ => none
  | .evtake _ _ _ => none
  | .bCond _ _ _ => none
  | .cbz _ _ _ => none
  | .cbnz _ _ _ => none
  | .jmp _ _ _ => none
  | .jl _ _ _ => none
  | .jr _ _ _ => none
  | .jlr _ _ _ => none
  | .loopI _ _ _ => none
  | .eret _ _ _ => none
  | .doneT _ _ _ => none
  | .yieldT _ _ _ => none
  | .trapI _ _ _ => none
  | .nopI _ _ _ => none
  | .postedStoreAck _ _ _ _ => none
  | .postedStoreError _ _ _ _ => none
  | .engctlEreset _ x _ _ => some x
  | .engctlRun _ x _ _ => some x
  | .engrateInterval _ _ => none
  | .impreciseExceptionDue _ _ => none
  | .exceptionEntry _ _ => none
  | .balctlBalreq _ x _ _ => some x
  | .balctlBalclr _ x _ _ => some x
  | .ballastEntry _ _ _ => none
  | .ballastDumpDone _ _ _ => none
  | .mcldGo _ x _ _ => some x
  | .mcldCheckDone _ => none
  | .mcImageApply _ _ => none
  | .routerRouteEvent _ _ => none
  | .routerFillDone _ _ _ => none
  | .taskInputArrival _ _ _ _ _ => none
  | .coherenceVisit _ _ => none
  | .invalRouteEntry _ x _ => some x
  | .invalDescriptor _ x _ => some x
  | .invalAllRoutes _ x => some x
  | .invalAllDescriptors _ x => some x
  | .invalDone _ => none
  | .efctlEnWrite _ x _ => some x
  | .taskrunClr _ x _ _ => some x
  | .taskrunRun _ x _ _ => some x
  | .tdctlWrite _ x _ _ _ => some x
  | .taskDispatch _ _ => none
  | .taskPreempt _ _ => none
  | .taskResume _ _ => none
  | .slackRecompute _ => none
  | .chctlGo _ x _ _ => some x
  | .chctlArm _ x _ _ => some x
  | .chctlStop _ x _ _ => some x
  | .chctlStopnow _ x _ _ => some x
  | .triggerDetect _ _ => none
  | .runStart _ _ => none
  | .counterPeriodBoundary _ _ => none
  | .counterCmpa _ _ => none
  | .counterCmpb _ _ => none
  | .compareEdgeCommit _ _ => none
  | .pinTransition _ _ _ => none
  | .captureAccept _ _ => none
  | .capctlWrite _ x _ _ => some x
  | .loadEdgeMeasured _ _ _ _ => none
  | .ctmReading _ _ _ => none
  | .ctmMaxtExpiry _ _ => none
  | .carrierRefChange _ _ => none
  | .shadowLatchPoint _ _ => none
  | .gloadLoadall _ x _ _ => some x
  | .pwmctlPairWrite _ x _ _ => some x
  | .switchNodeSense _ _ => none
  | .dtmaxExpiry _ _ => none
  | .interlockBothOn _ _ => none
  | .interlockHoldExpiry _ _ => none
  | .tripLineActivation _ _ _ => none
  | .blankWindowEnd _ _ => none
  | .tripclrClr _ x _ _ => some x
  | .forceRelease _ x _ _ => some x
  | .forceHigh _ x _ _ => some x
  | .forceLow _ x _ _ => some x
  | .forceHiz _ x _ _ => some x
  | .gforceRelease _ x _ _ _ => some x
  | .gforceHigh _ x _ _ _ => some x
  | .gforceLow _ x _ _ _ => some x
  | .gforceHiz _ x _ _ _ => some x
  | .forceOrderEffect _ _ => none
  | .safectlSafego _ x _ _ => some x
  | .safectlSafeclr _ x _ _ => some x
  | .safeStateEffect _ _ => none
  | .analogReady _ => none
  | .comparatorCrossing _ _ _ => none
  | .comparatorOutputChange _ _ => none
  | .kclrClr _ x _ _ => some x
  | .sarTrigger _ _ => none
  | .sarswGo _ x _ _ => some x
  | .sarConversion _ _ _ => none
  | .sampleRecordAck _ _ _ _ => none
  | .sdWord _ _ _ => none
  | .sdConfigApply _ _ => none
  | .modulatorFault _ _ _ _ => none
  | .modulatorFaultClear _ _ _ => none
  | .sdFastWord _ _ _ => none
  | .tailctlArmWrite _ x _ _ => some x
  | .tailEdgeAccept _ _ _ _ => none
  | .tailZEdge _ _ _ _ => none
  | .sertrigGo _ x _ _ => some x
  | .serialTrigger _ _ _ => none
  | .bissAckTimeout _ _ => none
  | .bissStartTimeout _ _ _ => none
  | .serialFrameDone _ _ _ _ _ _ _ => none
  | .tailRecordWrite _ _ _ => none
  | .velDecayUpdate _ _ => none
  | .speedStaleTimeout _ _ => none
  | .lineBreakDetect _ _ _ => none
  | .lineBreakClear _ _ _ => none
  | .freshnessTimeout _ _ => none
  | .lossGraceExpiry _ _ => none
  | .flyingSyncTimeout _ _ => none
  | .brakeTimeout _ _ => none
  | .emuEdgeCommit _ _ => none
  | .emuPathChange _ _ => none
  | .spoolTooth _ _ => none
  | .spoolHalt _ _ => none
  | .spoolLateDeadline _ _ => none
  | .spoolReverseEdge _ _ => none
  | .spctlSyncnow _ x _ _ => some x
  | .spctlDesync _ x _ _ => some x
  | .spctlEnWrite _ x _ _ => some x
  | .spoolEnding _ _ => none
  | .aevctlDisarm _ x _ _ _ => some x
  | .aevctlOnce _ x _ _ _ => some x
  | .aevctlEvery _ x _ _ _ => some x
  | .aevctlOnceRev _ x _ _ _ => some x
  | .slotCommit _ _ _ => none
  | .springPoll _ _ _ => none
  | .spangleRead _ x _ => some x
  | .spoolBcastSample _ _ => none
  | .spoolRecordArrival _ _ _ => none
  | .remoteAgeExpiry _ _ => none
  | .vfFlr _ _ => none
  | .pfFlr _ => none
  | .hotReset _ => none
  | .perst _ _ => none
  | .bridleWrite _ x _ _ => some x
  | .hostwdKick _ x _ _ => some x
  | .hostWdExpiry _ _ => none
  | .mvctlGo _ x _ _ => some x
  | .mvctlStop _ x _ _ => some x
  | .mvDescriptorFetched _ _ _ _ _ => none
  | .hostCompletion _ _ _ _ _ => none
  | .dllAck _ _ _ => none
  | .mvDescriptorRetire _ _ _ => none
  | .pcieCompletionTimeout _ _ _ => none
  | .qcmdEnable _ x _ => some x
  | .qcmdDisable _ x _ => some x
  | .qcmdReload _ x _ => some x
  | .queueContextFetched _ _ _ _ => none
  | .doorbellWrite _ x _ _ => some x
  | .queueRecordWrite _ _ => none
  | .prodWriteback _ _ => none
  | .queueItimeExpiry _ _ => none
  | .msixRequest _ _ _ => none
  | .msixTableWrite _ x _ _ => some x
  | .cmdWrite _ _ _ _ _ => none
  | .cmdWriteat _ _ _ _ _ _ => none
  | .writeatDue _ _ => none
  | .cmdMark _ _ _ => none
  | .cmdBad _ _ _ _ => none
  | .linkDown _ => none
  | .linkUp _ _ => none
  | .tetherCycleStart _ _ => none
  | .controlBlockRx _ _ _ => none
  | .dataSlotRx _ _ _ _ _ => none
  | .answerBlockRx _ _ _ _ => none
  | .pollDeadline _ _ => none
  | .portTrainTurn _ _ => none
  | .laneTrained _ _ _ => none
  | .trainTimeout _ _ => none
  | .trainRetry _ _ => none
  | .busyRx _ _ => none
  | .busywaitRetry _ _ => none
  | .capxMessage _ _ _ => none
  | .authMessage _ _ _ => none
  | .authTimeout _ _ => none
  | .quarExpiry _ _ => none
  | .tpctlRetry _ x _ _ => some x
  | .laneLockLoss _ _ => none
  | .rekeyStart _ _ => none
  | .rekeyTimeout _ _ => none
  | .tetherExchangeLoss _ => none
  | .electionSettled _ => none
  | .admreqRx _ _ _ _ => none
  | .admitRx _ _ _ _ _ => none
  | .masterLostGraceExpiry _ => none
  | .rwctlGo _ x _ => some x
  | .remoteCommandRx _ _ _ _ _ _ => none
  | .rwResponseRx _ _ _ _ => none
  | .rwTimeout _ => none
  | .importWrite _ x _ _ => some x
  | .subscriptionRx _ _ _ _ _ => none
  | .importEventRx _ _ _ _ _ _ _ _ => none
  | .cgstartGo _ x _ => some x
  | .cgstartBroadcastRx _ _ _ => none
  | .cgstartReportRx _ _ _ => none
  | .cgstartClose _ => none
  | .scrubWord _ _ _ _ => none
  | .monitorReading _ _ _ _ => none
  | .marginEvaluation _ => none
  | .marginStepBack _ => none
  | .sprcmdWarm _ x _ => some x
  | .sprcmdCold _ x _ => some x
  | .sprcmdTest _ x _ => some x
  | .sprcmdAbort _ x _ => some x
  | .takeoverStart _ => none
  | .takeoverCopyDone _ => none
  | .takeoverJoin _ _ => none
  | .takeoverHandover _ _ => none
  | .takeoverTimeLimit _ => none
  | .coldTakeover _ => none
  | .selftestStart _ _ => none
  | .selftestDone _ _ => none
  | .telemetryBlock _ _ _ _ => none
  | .pwrctlGoAloft _ x _ => some x
  | .pwrctlGoDrift _ x _ => some x
  | .pwrctlGoMoored _ x _ => some x
  | .pwrctlGoGrounded _ x _ => some x
  | .powerAutoEntry _ _ _ => none
  | .powerEntryDone _ => none
  | .wakeRequest _ _ _ => none
  | .wakeTimer _ => none
  | .wakeDone _ => none
  | .gwakeRise _ => none
  | .supplyMeasurement _ _ _ => none
  | .supplyWarning _ _ => none
  | .supplyFault _ _ _ => none
  | .supplyFaultClear _ _ _ => none
  | .avsEvaluation _ => none
  | .pmbusRequestSend _ _ => none
  | .pmbusSettled _ => none
  | .pmbusSettleTimeout _ => none
  | .pmbusStatusPoll _ _ _ _ => none
  | .avsctlRetry _ x _ => some x
  | .lccmdGetkey _ x _ => some x
  | .lccmdProvision _ x _ _ => some x
  | .lccmdLock _ x _ => some x
  | .lccmdRetire _ x _ _ => some x
  | .lcCommandDone _ => none
  | .revctlGo _ x _ _ => some x
  | .revlistCheckDone _ => none
  | .secgonWrite _ x _ _ => some x
  | .tamperDetect _ _ => none
  | .wipeDone _ => none
  | .dbgctlOpen _ x _ _ => some x
  | .tokenCheckDone _ => none
  | .dbgctlClose _ x _ => some x
  | .debugSessionExpiry _ => none
  | .debugLockoutExpiry _ => none
  | .dbgectlHalt _ x _ _ => some x
  | .dbgectlResume _ x _ _ => some x
  | .dbgectlStep _ x _ _ => some x
  | .breakpointHit _ _ => none
  | .dbgdataRead _ x _ => some x
  | .dbgdataWrite _ x _ _ => some x
  | .jtagIdcode _ => none
  | .jtagBypass _ => none
  | .jtagSamplePreload _ _ => none
  | .jtagExtest _ => none
  | .jtagLcread _ => none
  | .jtagLcpub _ => none
  | .jtagLcstage _ => none
  | .lcstageWordUpdate _ _ => none
  | .jtagLccmd _ _ => none
  | .jtagDbgnonce _ => none
  | .jtagToken _ _ => none
  | .jtagDbgopen _ _ => none
  | .jtagDbgacc _ _ _ => none
  | .powerOnReset _ => none
  | .bootFuseDone _ _ => none
  | .bootClockDone _ => none
  | .bootTestDone _ _ => none
  | .bootCalDone _ => none
  | .bootReady _ => none
  | .bootStageFail _ _ => none
  | .bankoeset _ x _ => some x
  | .bankoeclr _ x _ => some x
  | .bankOeEffect _ => none
  | .thermtripAssert _ => none
  | .getkeyDone _ => none
  | .stopnowRunEnd _ _ => none
  | .readerLatencyTracking _ _ => none
  | .configurationRequest _ _ _ _ _ => none
  | .thermtripRelease _ => none

end Sys2Proof
end

