-- ==== Sys2Proof/Safety.lean ====
section
/-! DEFINITION. What counts as a safe run, in the terms the statements use. -/
namespace Sys2Proof.Machine

/-- The canonical form of the memories: addresses rising, and nothing listed that reads as an unlisted byte does. -/
def Mem.wf (m : Mem) : Bool :=
  Store.wf (fun _ => 0) m.sram && Store.wf (fun _ => 0) m.lm && Store.wf (fun _ => 0) m.sec

/-- What every step keeps: the memories' canonical form, and that every waiting command is well formed. -/
def State.Inv (s : State) : Bool := s.mem.wf && s.pending.all Instr.wf

/-- The byte of shared SRAM at `a`. -/
def State.byteAt (s : State) (a : Nat) : Byte := s.mem.sramByte a

/-- A byte of local memory by its key, logical gondola × 0x1_0000 + offset. -/
def State.lmByte (s : State) (k : Nat) : Byte := Store.get (fun _ => 0) s.mem.lm k

/-- Whether a read of BAR0 offset `a` by `src` is answered with the register's value: the device is awake or `a` is one of
the power registers (R350, R351), a JTAG session grants it (R375), and no isolated port lies on its way (R20). -/
def State.readable (s : State) (src : Src) (a : Nat) : Bool :=
  !s.pw.gnd && (src != .jtag || s.jtagMay 1) && !s.holds src a && !s.cutOff src a

/-- Whether engine `g` can read `n` bytes at its address `a` (R20, R34, R39, R70, R367): in a bank of shared SRAM, in local
memory or in secure SRAM. -/
def State.engReads (s : State) (g a n : Nat) : Bool :=
  if a < 0x1800000 then !s.cutEng g && accessOk a n && !s.isolated (68 + a / 0x40000) && !s.mem.poisoned (wordsOf a n)
  else if 0x40000000 ≤ a ∧ a < 0x40010000 then a % n == 0 && !s.mem.lmBad g (a - 0x40000000) n
  else decide (0x60000000 ≤ a ∧ a < 0x60080000) && s.secOk g (a - 0x60000000) n false && a % n == 0 && !s.cutEng g &&
    !s.isolated 212 && !s.mem.secBad (a - 0x60000000) n

/-- What those bytes are, the first one least significant. -/
def State.engBytes (s : State) (g a n : Nat) : Nat :=
  ofBytes (if a < 0x1800000 then s.mem.sramBytes a n
    else if a < 0x60000000 then s.mem.lmBytes g (a - 0x40000000) n else s.mem.secBytes (a - 0x60000000) n)

/-- At instant `t` command `i` completes, and its next state is the one effect `f` makes; the waiting commands stay. -/
def does (i : Instr) (t : Nat) (s : State) (f : State → State) : Prop := exec i s = .next ((f (s.advance t)).withQueue s.pending)

/-- `u` is `s` but for the clock, the registers and the answer to the last access. -/
def onlyRegs (s u : State) : Prop := u = { s with now := u.now, regs := u.regs, resp := u.resp }

/-- `u` is `s` but for the clock, the registers, the answer, and what a raised event reaches: the event fabric, the wake
log and the tether's buffers (R134, R349, R319). -/
def onlyEvents (s u : State) : Prop :=
  u = { s with now := u.now, regs := u.regs, resp := u.resp, fab := u.fab, pw := u.pw, teth := u.teth, tp := u.tp }

/-- The registers but those listed stay. -/
def regsKept (s u : State) (l : List Nat) : Prop := ∀ a, a ∉ l → u.reg a = s.reg a

/-- `u` is `s` but for the clock, the registers and channel `n`. -/
def onlyChan (s u : State) (n : Nat) : Prop :=
  u = { s with now := u.now, regs := u.regs, chan := u.chan } ∧ ∀ m, m ≠ n → u.ch m = s.ch m

/-- `u` is `s` but for the clock, the registers, channel `n`, the converters and encoder frames its events trigger (R211, R229)
and what raised events reach. -/
def chanEvents (s u : State) (n : Nat) : Prop :=
  u = { s with now := u.now, regs := u.regs, chan := u.chan, sar := u.sar, tail := u.tail, fab := u.fab, pw := u.pw,
               teth := u.teth, tp := u.tp } ∧
    ∀ m, m ≠ n → u.ch m = s.ch m

/-- `u` is `s` but for the clock, the registers, tail `k`, the spools and what raised events reach. -/
def tailEvents (s u : State) (k : Nat) : Prop :=
  u = { s with now := u.now, regs := u.regs, tail := u.tail, sp := u.sp, fab := u.fab, pw := u.pw, teth := u.teth, tp := u.tp } ∧
    ∀ m, m ≠ k → u.tailU m = s.tailU m

/-- `u` is `s` but for the clock, the registers and the PCIe bridge's own state (R285, R290, R294). -/
def hostOnly (s u : State) : Prop := u = { s with now := u.now, regs := u.regs, host := u.host }

/-- `u` is `s` but for the clock, the registers, the PCIe bridge's own state, the records and requests that wait in it, and
what raised events reach. -/
def hostEvents (s u : State) : Prop :=
  u = { s with now := u.now, regs := u.regs, host := u.host, qrec := u.qrec, vecReq := u.vecReq, fab := u.fab, pw := u.pw, teth := u.teth, tp := u.tp }

/-- At instant `t` the events `l` were raised in this order, and no other (R135, R42, R349): the event fabric stands as raising
them leaves it. -/
def raised (s u : State) (t : Nat) (l : List Ev) : Prop :=
  u.fab = (l.foldl (fun x e => x.raiseEv e) (s.advance t)).fab

/-- The engine of logical gondola `g` executes its next instruction in the plain way: it is ready (R94, R98), the word is
fetched from local memory (R70), it stands neither in a delay slot nor at the end of a loop (R86, R88), no MODE write and
no exception is on its way (R69, R103), no debug halt waits (R378), and the running task's slot uses no deadline record
(R151). -/
def State.plainNext (s : State) (g : Nat) : Bool :=
  s.engReady g && (s.fetchBad g).isNone && (s.en g).br.isNone && !(s.en g).atLe && (s.en g).imp.isEmpty &&
    (s.en g).modeP.isEmpty && !(s.en g).stepping && !(s.en g).haltReq && !s.dlUsable g (s.curSlot g)

/-- Engine `g` of `u` is `e` with its instruction retired: the PC at `pc`, one more instruction counted (R86, R94); the
other engines stay. -/
def engineIs (s u : State) (g : Nat) (e : Eng) (pc : Nat) : Prop :=
  (∀ h, h ≠ g → u.en h = s.en h) ∧ u.en g = { e with pc := pc, icount := (s.en g).icount + 1, bpPass := false }

/-- `u` is `s` after engine `g` executed one instruction that changed nothing but the engine, which is now `e`, with the PC on
at the next word. -/
def retires (s u : State) (g : Nat) (e : Eng) : Prop :=
  u = { s with now := u.now, eng := u.eng } ∧ engineIs s u g e ((s.en g).pc + 4)

/-- The registers that raising an event may change: UNROUTED and EVDROP (R135), PWRSTAT (R349) and TXDROP (R299). -/
def evReg (a : Nat) : Bool :=
  a == Reg.UNROUTED.COUNT.adr 0 0 || a == Reg.EVDROP.COUNT.adr 0 0 || a == Reg.PWRSTAT.LOGLOST.adr 0 0 ||
    (upFrom 0 4).any (fun p => a == Reg.TXDROP.COUNT.adr p 0)

/-- The registers but those listed and those that raising an event may change stay. -/
def regsKeptEv (s u : State) (l : List Nat) : Prop := ∀ a, a ∉ l → evReg a = false → u.reg a = s.reg a

end Sys2Proof.Machine
end

