-- ==== Sys2Proof/Certificates/Slice0/Obligations.lean ====
section
/-! DEFINITION. The statements for the provers. -/
open Sys2Proof Sys2Proof.Machine Sys2Proof.Machine.Reg

/-! ### The block as a whole -/

/-- A step with a command at the front of the queue is that command's effect on the machine with the queue's rest. The model's own
choices it rests on: log entries 2, 132. -/
def Obligations.StepRunsFront : Prop :=
  ∀ (c : Instr) (r : List Instr) (s : State), step (s.withQueue (c :: r)) = exec c (s.withQueue r)

/-- Every well-formed command completes in every state, and leaves the commands that wait alone. Every 32-bit word is a
well-formed engine command, an illegal one included, and the words of R83's two examples are the commands that it names (R82
to R84). The model's own choices it rests on: log entries 1, 3, 124, 125. -/
def Obligations.EveryCommandCompletes : Prop :=
  (∀ (c : Instr) (s : State), c.wf = true → ∃ t, exec c s = .next t ∧ t.pending = s.pending) ∧
  ((∀ (t g w : Nat) (err : Ecc), g < 64 → w < 2 ^ 32 → (decodeEngine t g w err).wf = true) ∧
  (∀ (t g : Nat) (err : Ecc), decodeEngine t g 0x04C48000 err = .addR t g ⟨3, 1, 2, false, 0⟩ ∧
    decodeEngine t g 0x91C12900 err = .edge t g ⟨7, 0, false, 9, 1, 1, 0⟩))

/-- A command that is not well formed, in that it names a unit or a value the block does not have, stops with the fault
noSuchUnit. The model's own choices it rests on: log entry 125. -/
def Obligations.StopsOnlyIllFormed : Prop :=
  ∀ (c : Instr) (s : State), c.wf = false → exec c s = .fault .noSuchUnit

/-- What a step keeps: the memories' canonical form, and that of the waiting commands being well formed. The model's own choices
it rests on: log entries 5, 125, 132. -/
def Obligations.StepKeepsInv : Prop :=
  ∀ (s t : State), s.Inv = true → step s = .next t → t.Inv = true

/-- The machine after reset meets the invariant. What reset leaves in registers the manual gives a value (R6, R41, R46, R47). The
model's own choices it rests on: log entries 5, 6. -/
def Obligations.ResetState : Prop :=
  (State.reset.Inv = true) ∧
  (State.reset.rd MESHSTAT.LASTPORT = 0xFF ∧ State.reset.on SPINESTAT.CALDONE = false ∧
  (∀ g, g < 64 → State.reset.phys g = g) ∧
  (∀ k, k < 18 → State.reset.rd RATESET.RATE k = 0x40000000) ∧
  (∀ k, 1 ≤ k → k < 17 → State.reset.rd TBCTL.RUN k = 0 ∧ State.reset.rd TBCTL.MODE k = 1) ∧
  State.reset.rd TBCTL.RUN 0 = 1 ∧ State.reset.rd TBCTL.RUN 17 = 1 ∧ State.reset.mem.sram = [])

/-! ### Registers, shared SRAM and the mesh (chapters 0, 1 and 11) -/

/-- A write that its source may make reaches a register, which takes its own effect; a plain register takes the word in its
writable bits (R10, R11). A read that comes through answers the register's word and clears its RC bits, so SRAMCE reads back
and is cleared. A write its source may not make changes nothing but the count of drops and the report of it (R274); where
nothing is implemented it changes nothing (R11). The model's own choices it rests on: log entries 1, 136, 138, 139. -/
def Obligations.RegisterAccess : Prop :=
  ((∀ (t off : Nat) (src : Src) (w : Word) (s : State), src.ok = true → off < 0x4000000 → off % 4 = 0 →
    s.applies src off = true → spareOf off = none → s.windowOf off = none →
    ¬ (0x300000 ≤ off ∧ off < 0x308000) → ¬ (0x440000 ≤ off ∧ off < 0x540000) →
    exec (.registerWrite t src off 4 w) s = .next (((s.advance t).regWrite src off w).withQueue s.pending)) ∧
  (∀ (t : Nat) (i : Nat) (w : Word) (s : State), i < 32 → s.applies (.fn 0) (GSTARTMASK.SEL.adr 0 i) = true →
    ∃ u, exec (.registerWrite t (.fn 0) (GSTARTMASK.SEL.adr 0 i) 4 w) s = .next u ∧
      u.reg (GSTARTMASK.SEL.adr 0 i) = w ∧ (∀ a, a ≠ GSTARTMASK.SEL.adr 0 i → u.reg a = s.reg a) ∧ u.mem = s.mem) ∧
  (∀ (t off : Nat) (src : Src) (r : RegRow) (s : State), src.ok = true → off < 0x4000000 → off % 4 = 0 →
    s.readable src off = true → spareOf off = none → s.windowOf off = none → ¬ (0x300000 ≤ off ∧ off < 0x310000) →
    (∀ k, blkOf off ≠ some (.tb, k, 8)) → (∀ i l, blkOf off ≠ some (.sp, i, l)) → regRow off = some r →
    ∃ u, exec (.readClearAccess t src off 4) s = .next u ∧ onlyRegs s u ∧
      u.resp = ⟨.ok, (toBytes 4 ((s.advance t).view src off)).map (·.toNat)⟩ ∧
      u.reg off = s.reg off &&& ~~~(BitVec.ofNat 32 r.rc) ∧ (∀ a, a ≠ off → u.reg a = s.reg a)) ∧
  (∀ (t : Nat) (s : State), s.readable (.fn 0) (SRAMCE.COUNT.adr 0 0) = true →
    ∃ u, exec (.readClearAccess t (.fn 0) (SRAMCE.COUNT.adr 0 0) 4) s = .next u ∧
      u.resp = ⟨.ok, (toBytes 4 (s.reg (SRAMCE.COUNT.adr 0 0)).toNat).map (·.toNat)⟩ ∧ u.reg (SRAMCE.COUNT.adr 0 0) = 0 ∧
      (∀ a, a ≠ SRAMCE.COUNT.adr 0 0 → u.reg a = s.reg a) ∧ u.mem = s.mem)) ∧
  (∀ (t f off : Nat) (w : Word) (s : State), f < 17 → off < 0x4000000 → off % 4 = 0 → s.pw.gnd = false →
    s.holds (.fn f) off = false → s.mayWrite (.fn f) off = false → spareOf off = none → s.windowOf off = none →
    ¬ (0x300000 ≤ off ∧ off < 0x308000) → ¬ (0x440000 ≤ off ∧ off < 0x540000) →
    (regRow off ≠ none → ∃ u, exec (.registerWrite t (.fn f) off 4 w) s = .next u ∧
      u.rd FNSTAT.AUTHDROP f = satTo (2 ^ FNSTAT.AUTHDROP.len - 1) (s.rd FNSTAT.AUTHDROP f + 1) ∧
      (∀ a, a ≠ FNSTAT.AUTHDROP.adr f 0 → evReg a = false → u.reg a = s.reg a) ∧ u.mem = s.mem) ∧
    (regRow off = none → exec (.registerWrite t (.fn f) off 4 w) s = .next (s.advance t)))

/-- A read of shared SRAM by an engine or a mover that meets the size rule returns the stored bytes and leaves every byte alone; a
correctable error is counted as well, an uncorrectable one poisons the word and fails the access (R34, R39). A write of shared
SRAM by an engine or a mover stores its bytes and leaves every other byte and every register alone (R34, R37); whole words
lose their poison (R39). Each atomic operation answers the old word and stores what its operation makes of it; every other
byte and every register stays (R38). A read and a write of one 64-bit word latched in one grant: whatever the order of
arrival, the read returns the new data (R36). The clause on one grant states R36; the others rest on the model's readings. The
model's own choices it rests on: log entries 1, 5, 9, 10, 11, 15, 133. -/
def Obligations.SharedSram : Prop :=
  (∀ (t a n : Nat) (src : Src) (s : State), src.ok = true → src.func = none → src.outside = false →
    a < 0x1800000 → accessOk a n = true → s.isolated (68 + a / 0x40000) = false → s.mem.poisoned (wordsOf a n) = false →
    (∃ u, exec (.sramRead t src a n .clean) s = .next u ∧ u.resp = ⟨.ok, (s.mem.sramBytes a n).map (·.toNat)⟩ ∧
      u.mem = s.mem ∧ u.regs = s.regs) ∧
    (∃ u, exec (.sramRead t src a n .correctable) s = .next u ∧ u.resp = ⟨.ok, (s.mem.sramBytes a n).map (·.toNat)⟩ ∧
      u.mem = s.mem ∧ u.rd SRAMCE.COUNT = satTo 0xFFFFFFFF (s.rd SRAMCE.COUNT + 1)) ∧
    (∃ u, exec (.sramRead t src a n .uncorrectable) s = .next u ∧ u.resp.status = src.failure 4 ∧
      u.mem.poison.contains (a / 8) = true ∧ (∀ x, u.byteAt x = s.byteAt x) ∧
      u.rd SRAMUE.COUNT = satTo 0xFFFFFFFF (s.rd SRAMUE.COUNT + 1) ∧ u.rd SRAMUEADDR.WORD = a / 8 % 2 ^ 22)) ∧
  (∀ (t a : Nat) (d : List Byte) (src : Src) (s : State), src.ok = true → src.func = none → src.outside = false →
    a < 0x1800000 → accessOk a d.length = true → s.isolated (68 + a / 0x40000) = false →
    s.mem.poisoned (wordsOf a d.length) = false →
    ∃ u, exec (.sramWrite t src a d .clean) s = .next u ∧ u.resp.status = .ok ∧ u.regs = s.regs ∧
      (∀ i (h : i < d.length), u.byteAt (a + i) = d[i]) ∧ (∀ x, x < a ∨ a + d.length ≤ x → u.byteAt x = s.byteAt x)) ∧
  (∀ (t a n v c : Nat) (src : Src) (s : State), src.ok = true → src ≠ .jtag → n = 4 ∨ n = 8 → a < 0x1800000 → a % n = 0 →
    s.isolated (68 + a / 0x40000) = false → s.mem.poisoned (wordsOf a n) = false →
    let old := ofBytes (s.mem.sramBytes a n)
    let gives (i : Instr) (x : Nat) : Prop := ∃ u, exec i s = .next u ∧ u.resp = ⟨.ok, [old]⟩ ∧ u.regs = s.regs ∧
      ofBytes (u.mem.sramBytes a n) = x % 2 ^ (8 * n) ∧ (∀ y, y < a ∨ a + n ≤ y → u.byteAt y = s.byteAt y)
    gives (.sramAtomicSwap t src a n v .clean) v ∧
    gives (.sramAtomicCas t src a n c v .clean) (if old = c % 2 ^ (8 * n) then v else old) ∧
    gives (.sramAtomicAdd t src a n v .clean) (old + v) ∧
    gives (.sramAtomicAnd t src a n v .clean) (old &&& v) ∧
    gives (.sramAtomicOr t src a n v .clean) (old ||| v)) ∧
  (∀ (t a g h x y : Nat) (d : List Byte) (s : State), g < 64 → h < 64 → g ≠ h → d.length = 8 → a % 8 = 0 → a < 0x1800000 →
    s.isolated (68 + a / 0x40000) = false → s.mem.poisoned [a / 8] = false →
    ∃ u, exec (.grantRoundOpen t [⟨.eng g, x, .read a 8, .clean⟩, ⟨.eng h, y, .write a d, .clean⟩]) s = .next u ∧
      u.answers = [(.eng h, ⟨.ok, []⟩), (.eng g, ⟨.ok, d.map (·.toNat)⟩)] ∧
      (∀ i (hi : i < d.length), u.byteAt (a + i) = d[i]) ∧ (∀ z, z < a ∨ a + 8 ≤ z → u.byteAt z = s.byteAt z) ∧
      u.rd64 COINCCNT_LO.COUNT COINCCNT_HI.COUNT =
        (s.rd64 COINCCNT_LO.COUNT COINCCNT_HI.COUNT + (if absDiff x y < 200 then 1 else 0)) % 2 ^ 64)

/-- A port whose handshake stays incomplete is isolated and reported (R19); readmission is asked for by a 1 in its MESHISO bit,
and granted where its self-test passes (R22). A port whose isolation stands already stays as it is. The model's own choices it
rests on: log entries 1, 124, 138. -/
def Obligations.MeshPorts : Prop :=
  (∀ (t p : Nat) (s : State), 68 ≤ p → p ≤ 212 → s.isolated p = false →
    ∃ u, exec (.handshakeWatchdogExpiry t p) s = .next u ∧ u.isolated p = true ∧ u.on MESHSTAT.STALL = true ∧
      u.rd MESHSTAT.LASTPORT = p ∧ (∀ q, q ≠ p → q ≤ 212 → u.isolated q = s.isolated q) ∧ u.mem = s.mem) ∧
  (∀ (t p : Nat) (s : State), p < 68 → s.isolated p = false → s.tko = none →
    ∃ u, exec (.handshakeWatchdogExpiry t p) s = .next u ∧ u.isolated p = true ∧ u.on MESHSTAT.STALL = true ∧
      u.rd MESHSTAT.LASTPORT = p ∧ (∀ q, q ≠ p → q ≤ 212 → u.isolated q = s.isolated q) ∧
      u.rd PHEALTH.LASTSUSP 0 p = 4 ∧ u.rd PHEALTH.SUSPCNT 0 p = satTo 0xF (s.rd PHEALTH.SUSPCNT 0 p + 1) ∧ u.mem = s.mem) ∧
  (∀ (t p : Nat) (s : State), p ≤ 212 → s.isolated p = true → exec (.handshakeWatchdogExpiry t p) s = .next (s.advance t)) ∧
  (∀ (t i : Nat) (src : Src) (w : Word) (s : State), src.ok = true → i < 7 → s.applies src (MESHISO.ISO.adr 0 i) = true →
    ∃ u, exec (.meshisoReadmit t src i w) s = .next u ∧ u.regs = s.regs ∧ u.mem = s.mem ∧
      (∀ j, j < 32 → 68 ≤ 32 * i + j → 32 * i + j ≤ 212 → w.toNat.testBit j = true → s.isolated (32 * i + j) = true →
        (32 * i + j) ∈ u.meshTest) ∧
      (∀ p, p < 68 → p ∉ s.meshTest → p ∉ u.meshTest)) ∧
  (∀ (t p : Nat) (s : State), p ≤ 212 → p ∈ s.meshTest →
    (∃ u, exec (.readmitSelftestDone t p true) s = .next u ∧ u.isolated p = false ∧ p ∉ u.meshTest ∧ u.mem = s.mem) ∧
    (∃ u, exec (.readmitSelftestDone t p false) s = .next u ∧ u.isolated p = s.isolated p ∧ p ∉ u.meshTest ∧ u.mem = s.mem))

/-! ### Timebases and edges (chapter 2) -/

/-- What a request to a timebase leaves waiting for the next beacon: the load value and LOADFORCE held at the write, the abort,
the offset added to SLEWREM; until then the timebase runs on as before (R46, R50, R52). TB17 takes none (R47). A beacon at
which a forced load of TB1 to TB16 waits, written before that instant, sets the timebase to the load value, cancels its slew
and takes the load out of the wait (R46, R50). A beacon with nothing written to TB1 to TB16 leaves the timebase where it
stands: no step (R44, R46). Every beacon is remembered, one with a mismatch sets FAULT (R29), and at no other instant does the
command change anything. A read of NS_LO returns bits 31 to 0 of the count and latches the fraction of the same instant in
FRAC (R47, R49). The model's own choices it rests on: log entries 1, 17, 142, 143. -/
def Obligations.Timebases : Prop :=
  (∀ (t k : Nat) (src : Src) (w : Word) (s : State), src.ok = true → k ≤ 17 →
    s.applies src (TBCTL.WHOLE.adr k 0) = true → s.applies src (SLEWOFF.WHOLE.adr k 0) = true →
    let waits (u : State) : Prop := u = { s with now := u.now, regs := u.regs, tb := u.tb } ∧ (∀ j, j ≠ k → u.tbH j = s.tbH j) ∧
      (∀ a, a ≠ TBCTL.WHOLE.adr k 0 → u.reg a = s.reg a) ∧ (u.tbH k).segs = (s.tbH k).segs ∧ (u.tbH k).rem = (s.tbH k).rem ∧
      (u.tbH k).asks.take (s.tbH k).asks.length = (s.tbH k).asks ∧ u.now = (if s.now < t then t else s.now)
    (k < 17 → ∃ u, exec (.tbLoadgo t src k w) s = .next u ∧ waits u ∧
      (u.now, TbAsk.load (64 * s.rd64 LOAD_LO.VALUE LOAD_HI.VALUE k + s.rd LOADFRAC.FRAC k) (w.toNat.testBit 30)) ∈
        (u.tbH k).asks.drop (s.tbH k).asks.length) ∧
    (k < 17 → ∃ u, exec (.tbSlewabort t src k w) s = .next u ∧ waits u ∧
      (u.now, TbAsk.abort) ∈ (u.tbH k).asks.drop (s.tbH k).asks.length ∧ u.slewRem k = s.slewRem k) ∧
    (k < 17 → ∃ u, exec (.tbSlewoffWrite t src k w) s = .next u ∧ waits u ∧
      u.reg (TBCTL.WHOLE.adr k 0) = s.reg (TBCTL.WHOLE.adr k 0) ∧
      (u.tbH k).asks = (s.tbH k).asks ++ [(u.now, TbAsk.slew (toSigned 32 w.toNat * (2 ^ 30 : Nat)))] ∧
      ((∀ a, (a, TbAsk.abort) ∉ (s.tbH k).asks) → u.slewRem k = (s.slewRem k + w.toNat) % 2 ^ 32)) ∧
    (k = 17 → exec (.tbLoadgo t src k w) s = .next (s.advance t) ∧ exec (.tbSlewabort t src k w) s = .next (s.advance t) ∧
      exec (.tbSlewoffWrite t src k w) s = .next (s.advance t))) ∧
  (∀ (t k b v a : Nat) (s : State), 1 ≤ k → k ≤ 16 → s.spine = some b → s.now ≤ t → b ≤ t → (t - b) % 64000 = 0 →
    (s.tbH k).asks = [(a, .load v true)] → a < t → (s.tbH k).mode ≠ 2 →
    (s.tbH k).segs.all (fun g => decide (g.from_ ≤ t)) = true →
    ∃ u, exec (.spineBeacon t []) s = .next u ∧ u.now = t ∧ u.lastBeacon = u.fine 0 ∧ u.fine k = v % 2 ^ 70 ∧
      (u.tbH k).asks = [] ∧ (u.tbH k).rem = 0 ∧ (u.tbH k).slew = false ∧ u.mem = s.mem ∧ u.eng = s.eng) ∧
  ((∀ (t k b : Nat) (s : State), 1 ≤ k → k ≤ 16 → s.spine = some b → s.now ≤ t → b ≤ t → (t - b) % 64000 = 0 →
    (s.tbH k).asks = [] → (s.tbH k).mode ≠ 2 →
    ∃ u, exec (.spineBeacon t []) s = .next u ∧ u.tbVal k t = s.tbVal k t ∧ (u.tbH k).run = (s.tbH k).run ∧
      (u.tbH k).mode = (s.tbH k).mode ∧ u.mem = s.mem ∧ u.eng = s.eng) ∧
  (∀ (t b : Nat) (bad : List Mismatch) (s : State), s.spine = some b → s.now ≤ t → b ≤ t → (t - b) % 64000 = 0 →
    ∃ u, exec (.spineBeacon t bad) s = .next u ∧ u.now = t ∧ u.lastBeacon = u.fine 0 ∧ u.mem = s.mem ∧ u.eng = s.eng ∧
      (bad ≠ [] → u.on SPINESTAT.FAULT = true)) ∧
  (∀ (t : Nat) (bad : List Mismatch) (s : State), s.spine = none → exec (.spineBeacon t bad) s = .next (s.advance t))) ∧
  (∀ (t k : Nat) (src : Src) (s : State), src.ok = true → k < 18 → s.readable src (NS_LO.VALUE.adr k 0) = true →
    ∃ u, exec (.nsLoRead t src k) s = .next u ∧ onlyRegs s u ∧ u.rd FRAC.FRAC k = u.fine k % 64 ∧
      u.resp = ⟨.ok, (toBytes 4 (u.fine k / 64 % 2 ^ 32)).map (·.toNat)⟩ ∧
      (∀ a, a ≠ FRAC.FRAC.adr k 0 → u.reg a = s.reg a))

/-- The discipline of TB0 (R55, R57): SRC = 0 leaves for FREE with RATE as it was; a lost source leaves LOCKED for HOLDOVER (with
EV_TB_HOLDOVER) and a first ACQUIRE for FREE; a qualified source is acquired; a lock is reported; a pulse is remembered and
published; PPSOUT gives 100 ns from each whole second. Whatever the state of the loop, each of its commands has its whole
effect (R55 to R57). The model's own choices it rests on: log entries 1, 18, 19, 144. -/
def Obligations.Discipline : Prop :=
  ((∀ (t : Nat) (src : Src) (w : Word) (s : State), src.ok = true → s.applies src (DISCCTL.WHOLE.adr 0 0) = true →
    s.member = false → w.toNat % 8 = 0 →
    ∃ u, exec (.discctlSrcWrite t src w) s = .next u ∧ u = { s with now := u.now, regs := u.regs, disc := u.disc, tb := u.tb } ∧
      u.rd DISCCTL.SRC = 0 ∧ u.rd DISCSTAT.STATE = 0 ∧ u.rd DISCSTAT.SRCACT = 0 ∧ u.disc.rate = s.disc.rate ∧
      (∀ a, a ≠ DISCCTL.WHOLE.adr 0 0 → a ≠ DISCSTAT.WHOLE.adr 0 0 → u.reg a = s.reg a)) ∧
  (∀ (t : Nat) (s : State), s.rd DISCSTAT.STATE = 0 → s.rd DISCCTL.SRC = 1 → s.member = false →
    ∃ u, exec (.refinQualified t 0) s = .next u ∧ u = { s with now := u.now, regs := u.regs, disc := u.disc } ∧
      u.on DISCSTAT.REFOK = true ∧ u.rd DISCSTAT.STATE = 1 ∧ u.rd DISCSTAT.SRCACT = 1 ∧ u.disc.rate = s.disc.rate) ∧
  (∀ (t : Nat) (s : State), s.rd DISCSTAT.STATE = 1 → s.rd DISCSTAT.SRCACT = 1 →
    ∃ u, exec (.refinLockAchieved t) s = .next u ∧ u.rd DISCSTAT.STATE = 2 ∧ u.rd DISCSTAT.SRCACT = 1 ∧
      u.disc.everLocked = true ∧ u.disc.rate = s.disc.rate ∧ u.mem = s.mem ∧
      (s.on SPINESTAT.CALDONE = false → (u.fab.deferred.map (·.id)) = s.fab.deferred.map (·.id) ++ [7684])) ∧
  (∀ (t : Nat) (s : State), s.rd DISCSTAT.STATE = 2 → s.rd DISCSTAT.SRCACT = 1 → s.rd DISCCTL.SRC = 1 → s.member = false →
    ∃ u, exec (.refinLoss t) s = .next u ∧ u.on DISCSTAT.REFOK = false ∧ u.rd DISCSTAT.STATE = 3 ∧ u.rd DISCSTAT.SRCACT = 0 ∧
      u.mem = s.mem ∧ (s.on SPINESTAT.CALDONE = false → (u.fab.deferred.map (·.id)) = s.fab.deferred.map (·.id) ++ [7685])) ∧
  (∀ (t a : Nat) (s : State), s.disc.lastPps = some a → a + ms 1500 ≤ t → s.rd DISCSTAT.STATE = 1 → s.rd DISCSTAT.SRCACT = 2 →
    s.rd DISCCTL.SRC = 2 → s.member = false → s.disc.everLocked = false →
    ∃ u, exec (.ppsTimeout t) s = .next u ∧ u = { s with now := u.now, regs := u.regs, disc := u.disc, tb := u.tb } ∧
      u.on DISCSTAT.PPSOK = false ∧ u.rd DISCSTAT.STATE = 0 ∧ u.rd DISCSTAT.SRCACT = 0 ∧ u.disc.lastPps = none) ∧
  (∀ (t a : Nat) (s : State), s.now ≤ t → s.disc.lastPps = some a → a + ms 999 ≤ t → t ≤ a + ms 1001 → s.rd DISCSTAT.STATE = 0 →
    s.rd DISCCTL.SRC = 2 → s.member = false →
    ∃ u, exec (.ppsPulse t) s = .next u ∧ u = { s with now := u.now, regs := u.regs, disc := u.disc } ∧
      u.on DISCSTAT.PPSOK = true ∧ u.disc.lastPps = some t ∧ u.rd DISCSTAT.STATE = 1 ∧ u.rd DISCSTAT.SRCACT = 2) ∧
  (∀ (t : Nat) (s : State), s.on DISCCTL.PPSOUTEN = true → s.now ≤ t → s.fineAt 0 t % 64000000000 = 0 →
    ∃ u, exec (.ppsoutPulse t) s = .next u ∧ u = { s with now := t, disc := u.disc } ∧ u.disc.lastPpsOut = some t ∧
      u.ppsOutLvl = true)) ∧
  (∀ (t : Nat) (src : Src) (w : Word) (ppb : Int) (s : State),
    (src.ok = true → s.applies src (DISCCTL.WHOLE.adr 0 0) = true →
      exec (.discctlSrcWrite t src w) s = .next (((s.advance t).discctlWrite w).withQueue s.pending)) ∧
    exec (.refinQualified t ppb) s = .next (((s.advance t).refQualified ppb).withQueue s.pending) ∧
    exec (.refinLockAchieved t) s = .next (((s.advance t).refLock).withQueue s.pending) ∧
    exec (.refinLoss t) s = .next (((s.advance t).refLoss).withQueue s.pending) ∧
    exec (.ppsPulse t) s = .next (((s.advance t).ppsPulse).withQueue s.pending) ∧
    exec (.ppsTimeout t) s = .next (((s.advance t).ppsTimeout).withQueue s.pending) ∧
    exec (.ppsoutPulse t) s = .next (((s.advance t).ppsOut).withQueue s.pending))

/-- GO latches the mask, RESTART and the instant, sets PEND, and refuses a second GO until the release (R59). A release whose T
has come: T is in GSTARTTS, PEND is cleared and EVER is set, whatever it selects; of a release that selects no channel SKIPPED
is 0, and a channel of no mode is skipped (R59, R60). The model's own choices it rests on: log entries 1, 128. -/
def Obligations.GlobalStart : Prop :=
  (∀ (t : Nat) (src : Src) (w : Word) (s : State), src.ok = true → s.applies src 0x280 = true →
    (s.on GSTARTSTAT.PEND = false → ∃ u r, exec (.gstartGo t src w) s = .next u ∧
      u = { s with now := u.now, regs := u.regs, release := some r } ∧ u.on GSTARTSTAT.PEND = true ∧
      (∀ n, n < 1024 → r.mask.testBit n = (s.rd GSTARTMASK.SEL 0 (n / 32)).testBit (n % 32)) ∧
      r.restart = w.toNat.testBit 2 ∧ r.src = src ∧ r.cascade = false ∧
      (if w.toNat.testBit 1 = true ∧ u.fine 0 + ns 100 ≤ 64 * s.rd64 GSTARTAT_LO.VALUE GSTARTAT_HI.VALUE then
        r.at_ = s.rd64 GSTARTAT_LO.VALUE GSTARTAT_HI.VALUE ∧ u.rd GSTARTSTAT.LATE = s.rd GSTARTSTAT.LATE
      else u.fine 0 + ns 100 ≤ 64 * r.at_ ∧ 64 * r.at_ < u.fine 0 + ns 100 + 64 ∧
        u.rd GSTARTSTAT.LATE = if w.toNat.testBit 1 = true then 1 else s.rd GSTARTSTAT.LATE)) ∧
    (s.on GSTARTSTAT.PEND = true → ∃ u, exec (.gstartGo t src w) s = .next u ∧ onlyRegs s u ∧ u.on GSTARTSTAT.REFUSED = true ∧
      (∀ a, a ≠ GSTARTSTAT.WHOLE.adr 0 0 → u.reg a = s.reg a))) ∧
  ((∀ (t : Nat) (r : Release) (s : State), s.release = some r → r.at_ < 2 ^ 64 → s.now ≤ t → 64 * r.at_ ≤ s.fineAt 0 t →
    ∃ u, exec (.gstartRelease t) s = .next u ∧ u.on GSTARTSTAT.PEND = false ∧ u.on GSTARTSTAT.EVER = true ∧
      u.rd64 GSTARTTS_LO.VALUE GSTARTTS_HI.VALUE = r.at_) ∧
  (∀ (t : Nat) (r : Release) (s : State), s.release = some r → r.mask = 0 → r.at_ < 2 ^ 64 → s.now ≤ t →
    64 * r.at_ ≤ s.fineAt 0 t →
    ∃ u, exec (.gstartRelease t) s = .next u ∧ u.release = none ∧ u.on GSTARTSTAT.PEND = false ∧
      u.on GSTARTSTAT.EVER = true ∧ u.rd GSTARTSTAT.SKIPPED = 0 ∧ u.rd64 GSTARTTS_LO.VALUE GSTARTTS_HI.VALUE = r.at_ ∧
      u.chan = s.chan ∧ u.mem = s.mem) ∧
  (∀ (t n : Nat) (r : Release) (s : State), n < 1024 → s.release = some r → r.mask = 2 ^ n → r.src = .fn 0 →
    s.rd BRIDLE.OWNER 0 (n / 8) = 0 → s.rd CHCTL.MODE (s.leader n) = 0 → s.paired n = false → s.now ≤ t →
    64 * r.at_ ≤ s.fineAt 0 t →
    ∃ u, exec (.gstartRelease t) s = .next u ∧ u.rd GSTARTSTAT.SKIPPED = 1 ∧ u.chan = s.chan ∧ u.mem = s.mem))

/-- The first pending edge of a channel fires when its edge timebase has reached the edge's time: it leaves the line and sets the
level after it as its action says, of both channels where it is an edge of both; in a channel that shows a tail's passthrough
it moves nothing (R53, R61, R246). The delay lines (R62, R63, R65, R66): a run of 40 µs is booked; a swap that is due moves to
the line with its last calibration and counts; SWAPNOW makes a swap due; a held edge timebase takes effect once no edge is
pending; an age of 5,001 µs is reported, and DLSTAT.AGED reads 1. None of these touches a pin level. The model's own choices
it rests on: log entries 1, 6, 20, 120. -/
def Obligations.EdgePlacement : Prop :=
  ((∀ (t n : Nat) (e : PEdge) (r : List PEdge) (s : State), n < 1024 → s.now ≤ t → (s.ch n).dl.pend = e :: r →
    s.on SPINESTAT.CALDONE = true → e.at_ ≤ s.fineAt (s.etb n) t → (s.advance t).rateOf (s.etb n) ≠ 0 →
    let v : Bool := if e.act = 1 then false else if e.act = 2 then true else !(s.ch n).pin.lvl
    ∃ u, exec (.edgeFire t n) s = .next u ∧ u = { s with now := t, regs := u.regs, chan := u.chan } ∧
      (u.ch n).dl.pend = r ∧ (u.ch n).dl.lastAt = some ((s.advance t).whenTb (s.etb n) e.at_) ∧
      ((s.ch n).pin.passTail = false → (u.ch n).pin.lvl = v ∧ (e.both = true → (u.ch (partner n)).pin.lvl = !v)) ∧
      ((s.ch n).pin.passTail = true → (s.advance t).emuOk n = true → (u.ch n).pin = (s.ch n).pin) ∧
      (e.meas = none → u.regs = s.regs) ∧ (∀ m, m ≠ n → m ≠ partner n → u.ch m = s.ch m) ∧
      (e.both = false → s.paired n = false → u.ch (partner n) = s.ch (partner n))) ∧
  (∀ (t n : Nat) (s : State), n < 1024 → exec (.edgeFire t n) s = .next (((s.advance t).fireEdge n).withQueue s.pending))) ∧
  (∀ (t n : Nat) (s : State), n < 1024 → s.now ≤ t →
    let lines (u : State) : Prop := (∀ m, m ≠ n → u.ch m = s.ch m) ∧ (u.ch n).pin = (s.ch n).pin ∧ (u.ch n).run = (s.ch n).run ∧
      u.mem = s.mem ∧ u.eng = s.eng
    (s.on SPINESTAT.CALDONE = true → s.calT0 ≤ (s.ch n).dl.runFrom → (s.ch n).dl.runFrom + us 40 ≤ t →
      ∃ u, exec (.calRunDone t n) s = .next u ∧ lines u ∧ u.regs = s.regs ∧
        (u.ch n).dl.calAt = some ((s.ch n).dl.runFrom + us 40) ∧ (u.ch n).dl.runFrom = (s.ch n).dl.runFrom + us 40 ∧
        (u.ch n).dl.pend = (s.ch n).dl.pend) ∧
    (∀ c d, s.on SPINESTAT.CALDONE = true → (s.ch n).dl.swapDue = some d → d ≤ t → (s.ch n).dl.pend = [] →
      (∀ a, (s.ch n).dl.lastAt = some a → a + ns 4 ≤ t) → (s.ch n).dl.calAt = some c → s.calT0 ≤ c →
      ∃ u, exec (.dlSwap t n) s = .next u ∧ lines u ∧ u.rd DLSTAT.LIVE n = 1 - s.rd DLSTAT.LIVE n ∧
        u.rd DLSTAT.SWAPS n = (s.rd DLSTAT.SWAPS n + 1) % 2 ^ 16 ∧ (u.ch n).dl.liveCal = c ∧ (u.ch n).dl.calAt = none ∧
        (u.ch n).dl.runFrom = t ∧ (u.ch n).dl.swapDue = some (t + us 250) ∧
        (∀ a, a ≠ DLSTAT.WHOLE.adr n 0 → u.reg a = s.reg a)) ∧
    (∀ d src w, src.ok = true → s.applies src (DLCTL.WHOLE.adr n 0) = true → (s.ch n).dl.swapDue = some d → t < d →
      DLCTL.ETB.of w = s.etb n → (s.ch n).dl.etbHeld = none →
      ∃ u, exec (.dlctlSwapnow t src n w) s = .next u ∧ lines u ∧ (u.ch n).dl.swapDue = some t ∧ u.etb n = s.etb n ∧
        u.on DLCTL.LATEPOL n = w.toNat.testBit 8 ∧ (∀ a, a ≠ DLCTL.WHOLE.adr n 0 → u.reg a = s.reg a)) ∧
    (∀ v, s.paired n = false → v ≤ 17 → (s.ch n).dl.etbHeld = some v → (s.ch n).dl.pend = [] →
      ∃ u, exec (.dlctlEtbApply t n) s = .next u ∧ lines u ∧ u.etb n = v ∧ (u.ch n).dl.etbHeld = none ∧
        (∀ a, a ≠ DLCTL.WHOLE.adr n 0 → u.reg a = s.reg a)) ∧
    (s.on SPINESTAT.CALDONE = true → (s.ch n).dl.aged = false → s.calT0 ≤ (s.ch n).dl.liveCal →
      (s.ch n).dl.liveCal + us 5001 ≤ t →
      ∃ u, exec (.calAged t n) s = .next u ∧ lines u ∧ (u.ch n).dl.aged = true ∧
        (u.chView n 0xF04 (u.reg (DLSTAT.WHOLE.adr n 0)).toNat).testBit 30 = true ∧
        (∀ a, evReg a = false → u.reg a = s.reg a)) ∧
    exec (.calRunDone t n) s = .next (((s.advance t).calRunDone n).withQueue s.pending) ∧
    exec (.dlSwap t n) s = .next (((s.advance t).dlSwap n).withQueue s.pending) ∧
    (∀ src w, src.ok = true → s.applies src (DLCTL.WHOLE.adr n 0) = true →
      exec (.dlctlSwapnow t src n w) s = .next (((s.advance t).dlctlWrite n (w ||| 1)).withQueue s.pending)) ∧
    exec (.dlctlEtbApply t n) s = .next (((s.advance t).etbApply n).withQueue s.pending) ∧
    exec (.calAged t n) s = .next (((s.advance t).calAged n).withQueue s.pending))

/-! ### The engine (chapter 3) -/

/-- The register instructions of OP 0x01 write their result and, with S = 1, set N and Z from it, C and V as R85 says; nothing
else changes but the PC and the count of instructions (R84, R85). Divisors are not 0, and `addt`, `subt` and `mult` stay in
range. The model's own choices it rests on: log entries 1, 23. -/
def Obligations.WordArithmetic : Prop :=
  ∀ (t g : Nat) (f : FmtR) (s : State), g < 64 → f.ok = true → f.res = 0 → s.plainNext g = true →
    let e := s.en g
    let a := e.r f.ra
    let b := e.r f.rb
    let gives (i : Instr) (r : Word) (c v : Bool) : Prop := ∃ u, exec i s = .next u ∧
      retires s u g { e.setR f.rd r with flags := if f.s then flagWord r.msb (r == 0#32) c v else e.flags }
    let c0 := flagC e.flags
    let carry := decide (2 ^ 32 ≤ a.toNat + b.toNat)
    let noBorrow := decide (b.toNat ≤ a.toNat)
    let ovf (x : Int) : Bool := decide (x < -2 ^ 31 ∨ 2 ^ 31 ≤ x)
    let k := b.toNat % 32
    gives (.addR t g f) (a + b) carry (ovf (a.toInt + b.toInt)) ∧
    gives (.subR t g f) (a - b) noBorrow (ovf (a.toInt - b.toInt)) ∧
    (ovf (a.toInt + b.toInt) = false → gives (.addt t g f) (a + b) carry false) ∧
    (ovf (a.toInt - b.toInt) = false → gives (.subt t g f) (a - b) noBorrow false) ∧
    gives (.andR t g f) (a &&& b) c0 false ∧ gives (.orR t g f) (a ||| b) c0 false ∧
    gives (.xorR t g f) (a ^^^ b) c0 false ∧ gives (.andn t g f) (a &&& ~~~b) c0 false ∧
    gives (.shl t g f) (a <<< k) (if k = 0 then c0 else a.toNat.testBit (32 - k)) false ∧
    gives (.shr t g f) (a >>> k) (if k = 0 then c0 else a.toNat.testBit (k - 1)) false ∧
    gives (.sar t g f) (a.sshiftRight k) (if k = 0 then c0 else a.toNat.testBit (k - 1)) false ∧
    gives (.ror t g f) (a.rotateRight k) (if k = 0 then c0 else a.toNat.testBit (k - 1)) false ∧
    gives (.minR t g f) (if a.toInt ≤ b.toInt then a else b) c0 false ∧
    gives (.maxR t g f) (if a.toInt ≤ b.toInt then b else a) c0 false ∧
    gives (.mul t g f) (a * b) c0 false ∧
    gives (.mulh t g f) (BitVec.ofInt 32 (a.toInt * b.toInt / 2 ^ 32)) c0 false ∧
    gives (.mulhu t g f) (BitVec.ofNat 32 (a.toNat * b.toNat / 2 ^ 32)) c0 false ∧
    (ovf (a.toInt * b.toInt) = false → gives (.mult t g f) (a * b) c0 false) ∧
    (b ≠ 0#32 → gives (.div t g f) (BitVec.ofInt 32 (a.toInt.tdiv b.toInt)) c0 (a == 0x80000000#32 && b == 0xFFFFFFFF#32) ∧
      gives (.divu t g f) (BitVec.ofNat 32 (a.toNat / b.toNat)) c0 false ∧
      gives (.rem t g f) (BitVec.ofInt 32 (a.toInt.tmod b.toInt)) c0 false ∧
      gives (.remu t g f) (BitVec.ofNat 32 (a.toNat % b.toNat)) c0 false) ∧
    (f.rb = 0 → gives (.movR t g f) a c0 false ∧
      (∀ n, n ≤ 32 → (∀ j, j < n → a.toNat.testBit (31 - j) = false) → (n = 32 ∨ a.toNat.testBit (31 - n) = true) →
        gives (.clz t g f) (BitVec.ofNat 32 n) c0 false) ∧
      gives (.absR t g f) (if a.toInt < 0 then 0#32 - a else a) c0 (a == 0x80000000#32) ∧
      gives (.negR t g f) (0#32 - a) (a == 0#32) (a == 0x80000000#32))

/-- `cmp`, `tst`, `cmpi` and `cmpp` change FLAGS alone (R84, R85). The immediate instructions write RD and leave FLAGS (R84, R85).
The pair instructions work on 64 bits: sum, difference and move, with the flags over 64 bits (R84, R85). The model's own
choices it rests on: log entries 1, 23. -/
def Obligations.ComparesAndPairs : Prop :=
  (∀ (t g : Nat) (f : FmtR) (i : FmtI) (s : State), g < 64 → f.ok = true → f.res = 0 → f.rd = 0 → i.ok = true → i.rd = 0 →
    s.plainNext g = true →
    let e := s.en g
    let a := e.r f.ra
    let b := e.r f.rb
    let gives (c : Instr) (fl : Nat) : Prop := ∃ u, exec c s = .next u ∧ retires s u g { e with flags := fl }
    let ovf (x : Int) : Bool := decide (x < -2 ^ 31 ∨ 2 ^ 31 ≤ x)
    let m : Int := if i.imm < 2 ^ 17 then i.imm else i.imm - 2 ^ 18
    gives (.cmp t g f) (flagWord (a - b).msb (a == b) (decide (b.toNat ≤ a.toNat)) (ovf (a.toInt - b.toInt))) ∧
    gives (.tst t g f) (flagWord (a &&& b).msb (a &&& b == 0#32) (flagC e.flags) false) ∧
    gives (.cmpi t g i) (flagWord (e.r i.ra - BitVec.ofInt 32 m).msb (e.r i.ra == BitVec.ofInt 32 m)
      (decide ((BitVec.ofInt 32 m).toNat ≤ (e.r i.ra).toNat)) (ovf ((e.r i.ra).toInt - m))) ∧
    (f.ra % 2 = 0 → f.rb % 2 = 0 → gives (.cmpp t g f) (flagWord (e.rp f.ra - e.rp f.rb).msb (e.rp f.ra == e.rp f.rb)
      (decide ((e.rp f.rb).toNat ≤ (e.rp f.ra).toNat))
      (decide ((e.rp f.ra).toInt - (e.rp f.rb).toInt < -2 ^ 63 ∨ 2 ^ 63 ≤ (e.rp f.ra).toInt - (e.rp f.rb).toInt))))) ∧
  (∀ (t g : Nat) (f : FmtI) (w : FmtU) (s : State), g < 64 → f.ok = true → w.ok = true → w.res = 0 → s.plainNext g = true →
    let e := s.en g
    let a := e.r f.ra
    let gives (c : Instr) (rd : Nat) (r : Word) : Prop := ∃ u, exec c s = .next u ∧ retires s u g (e.setR rd r)
    gives (.addi t g f) f.rd (a + BitVec.ofInt 32 (if f.imm < 2 ^ 17 then f.imm else f.imm - 2 ^ 18)) ∧
    gives (.andi t g f) f.rd (a &&& BitVec.ofNat 32 f.imm) ∧
    gives (.ori t g f) f.rd (a ||| BitVec.ofNat 32 f.imm) ∧
    gives (.xori t g f) f.rd (a ^^^ BitVec.ofNat 32 f.imm) ∧
    (f.imm < 32 → gives (.shli t g f) f.rd (a <<< f.imm) ∧ gives (.shri t g f) f.rd (a >>> f.imm) ∧
      gives (.sari t g f) f.rd (a.sshiftRight f.imm)) ∧
    gives (.movl t g w) w.rd (BitVec.ofNat 32 w.imm) ∧
    gives (.movh t g w) w.rd (BitVec.ofNat 16 w.imm ++ (e.r w.rd).extractLsb' 0 16)) ∧
  (∀ (t g : Nat) (f : FmtR) (s : State), g < 64 → f.ok = true → f.res = 0 → f.rd % 2 = 0 → f.ra % 2 = 0 → s.plainNext g = true →
    let e := s.en g
    let a := e.rp f.ra
    let b := e.rp f.rb
    let c := (e.r f.rb).signExtend 64
    let ovf (x : Int) : Bool := decide (x < -2 ^ 63 ∨ 2 ^ 63 ≤ x)
    let gives (i : Instr) (r : BitVec 64) (fl : Nat) : Prop := ∃ u, exec i s = .next u ∧
      retires s u g { e.setP f.rd r with flags := fl }
    let fl (r : BitVec 64) (c v : Bool) : Nat := if f.s then flagWord r.msb (r == 0#64) c v else e.flags
    (f.rb % 2 = 0 →
      gives (.addp t g f) (a + b) (fl (a + b) (decide (2 ^ 64 ≤ a.toNat + b.toNat)) (ovf (a.toInt + b.toInt))) ∧
      gives (.subp t g f) (a - b) (fl (a - b) (decide (b.toNat ≤ a.toNat)) (ovf (a.toInt - b.toInt)))) ∧
    (f.rb = 0 → gives (.movp t g f) a e.flags) ∧
    gives (.addpw t g f) (a + c) (fl (a + c) (decide (2 ^ 64 ≤ a.toNat + c.toNat)) (ovf (a.toInt + c.toInt))))

/-- The accumulator instructions within the 48-bit range, products truncated under RND = 0 (R84, R90). A `mac` or `msu` result
outside 48 bits is held at the bound and sets ACCSTAT.SATn; without ASTRAP no exception (R90). The model's own choices it
rests on: log entries 1, 23. -/
def Obligations.Accumulators : Prop :=
  (∀ (t g : Nat) (f : FmtR) (s : State), g < 64 → f.ok = true → f.res = 0 → s.plainNext g = true → (s.en g).mode / 4 % 4 = 0 →
    let e := s.en g
    let p := (e.r f.ra).toInt * (e.r f.rb).toInt / 65536
    let fits (x : Int) : Prop := -2 ^ 47 ≤ x ∧ x < 2 ^ 47
    let gives (i : Instr) (e' : Eng) : Prop := ∃ u, exec i s = .next u ∧ retires s u g e'
    (f.rd < 2 → (fits (e.acc f.rd + p) → gives (.mac t g f) (e.setAcc f.rd (e.acc f.rd + p))) ∧
      (fits (e.acc f.rd - p) → gives (.msu t g f) (e.setAcc f.rd (e.acc f.rd - p))) ∧
      gives (.mpy t g f) (e.setAcc f.rd p) ∧
      (f.ra = 0 → f.rb = 0 → gives (.mclr t g f) (e.setAcc f.rd 0)) ∧
      (f.ra % 2 = 0 → f.rb = 0 → gives (.mld t g f) (e.setAcc f.rd ((e.rp f.ra).extractLsb' 0 48).toInt))) ∧
    (f.ra < 2 → f.rb = 0 → (-2 ^ 31 ≤ e.acc f.ra → e.acc f.ra < 2 ^ 31 →
        gives (.mrd t g f) (e.setR f.rd (BitVec.ofInt 32 (e.acc f.ra)))) ∧
      (f.rd % 2 = 0 → gives (.mst t g f) (e.setP f.rd (BitVec.ofInt 64 (e.acc f.ra)))))) ∧
  (∀ (t g : Nat) (f : FmtR) (s : State), g < 64 → f.ok = true → f.res = 0 → f.rd < 2 → s.plainNext g = true → (s.en g).mode = 0 →
    let e := s.en g
    let p := (e.r f.ra).toInt * (e.r f.rb).toInt / 65536
    (2 ^ 47 ≤ e.acc f.rd + p → ∃ u, exec (.mac t g f) s = .next u ∧
      retires s u g { e.setAcc f.rd (2 ^ 47 - 1) with accstat := putBit e.accstat f.rd true }) ∧
    (e.acc f.rd - p < -2 ^ 47 → ∃ u, exec (.msu t g f) s = .next u ∧
      retires s u g { e.setAcc f.rd (-2 ^ 47) with accstat := putBit e.accstat f.rd true }))

/-- A load writes RD with the bytes at ra + sext(OFF16), extended to the register's width; nothing else changes, but that a
correctable error found there is counted (R39, R70, R72, R84). A store to local memory writes its bytes and no others, in the
order of the instructions; a store to shared SRAM is posted with its address and bytes while fewer than four are outstanding,
and a fifth waits (R70, R71, R72, R84). The model's own choices it rests on: log entries 1, 5, 23, 29, 139, 140, 162. -/
def Obligations.LoadsAndStores : Prop :=
  (∀ (t g : Nat) (f : FmtM) (x : Ecc) (s : State), g < 64 → f.ok = true → f.res = 0 → s.plainNext g = true →
    (s.en g).posted = [] → x.ue = [] →
    let e := s.en g
    let a := (e.r f.ra + (BitVec.ofNat 16 f.off).signExtend 32).toNat
    let gives (i : Instr) (n : Nat) (e' : Eng) : Prop := s.engReads g a n = true → ∃ u, exec i s = .next u ∧
      u = { s with now := u.now, eng := u.eng, regs := u.regs, rel := u.rel } ∧ engineIs s u g e' (e.pc + 4) ∧
      (∀ b, b ≠ SRAMCE.COUNT.adr 0 0 → u.reg b = s.reg b) ∧ (x.ce = [] → u.regs = s.regs ∧ u.rel = s.rel)
    gives (.ldb t g f x) 1 (e.setR f.rd ((BitVec.ofNat 8 (s.engBytes g a 1)).signExtend 32)) ∧
    gives (.ldbu t g f x) 1 (e.setR f.rd (BitVec.ofNat 32 (s.engBytes g a 1))) ∧
    gives (.ldh t g f x) 2 (e.setR f.rd ((BitVec.ofNat 16 (s.engBytes g a 2)).signExtend 32)) ∧
    gives (.ldhu t g f x) 2 (e.setR f.rd (BitVec.ofNat 32 (s.engBytes g a 2))) ∧
    gives (.ldw t g f x) 4 (e.setR f.rd (BitVec.ofNat 32 (s.engBytes g a 4))) ∧
    (f.rd % 2 = 0 → gives (.ldp t g f x) 8 (e.setP f.rd (BitVec.ofNat 64 (s.engBytes g a 8))))) ∧
  (∀ (t g : Nat) (f : FmtM) (x : Ecc) (s : State), g < 64 → f.ok = true → f.res = 0 → s.plainNext g = true → x.ue = [] →
    let e := s.en g
    let a := (e.r f.ra + (BitVec.ofNat 16 f.off).signExtend 32).toNat
    let k := g * 0x10000 + (a - 0x40000000)
    let gives (i : Instr) (n v : Nat) : Prop :=
      (0x40000000 ≤ a → a < 0x40010000 → a % n = 0 → s.mem.lmBad g (a - 0x40000000) n = false →
        ∃ u, exec i s = .next u ∧ u = { s with now := u.now, eng := u.eng, mem := u.mem, regs := u.regs, rel := u.rel } ∧
          engineIs s u g e (e.pc + 4) ∧ (∀ j, j < n → u.lmByte (k + j) = BitVec.ofNat 8 (v / 256 ^ j)) ∧
          (∀ y, y < k ∨ k + n ≤ y → u.lmByte y = s.lmByte y) ∧ u.mem.sram = s.mem.sram ∧ u.mem.sec = s.mem.sec ∧
          (∀ b, b ≠ SRAMCE.COUNT.adr 0 0 → u.reg b = s.reg b) ∧ (x.ce = [] → u.regs = s.regs ∧ u.rel = s.rel)) ∧
      (a < 0x1800000 → accessOk a n = true → e.posted.length < 4 →
        ∃ u, exec i s = .next u ∧ retires s u g { e with posted := e.posted ++ [⟨e.pc, a, toBytes n v, none⟩] }) ∧
      (a < 0x1800000 → accessOk a n = true → 4 ≤ e.posted.length →
        ∃ u, exec i s = .next u ∧ u = { s with now := u.now, eng := u.eng } ∧ (∀ h, h ≠ g → u.en h = s.en h) ∧
          u.en g = { e with hold := some (.store ⟨e.pc, a, toBytes n v, none⟩) })
    gives (.stb t g f x) 1 (e.r f.rd).toNat ∧ gives (.sth t g f x) 2 (e.r f.rd).toNat ∧
    gives (.stw t g f x) 4 (e.r f.rd).toNat ∧
    (f.rd % 2 = 0 → gives (.stp t g f x) 8 ((e.r (f.rd + 1)).toNat * 2 ^ 32 + (e.r f.rd).toNat)))

/-- The atomics on a word of shared SRAM or local memory: RD takes the old value, the word what the operation makes of it, no
other byte changes, and `acas` alone writes a flag, Z (R38, R72, R84). Posted stores (R20, R72, R104): the oldest one of a
bank reaches it and frees its place, behind the gondola's isolated port without effect; `fence` goes on at once with none
outstanding and waits otherwise, until the last one is acknowledged; a store that meets an isolated bank raises an imprecise
bus error, due at once. The model's own choices it rests on: log entries 1, 5, 23, 29, 139, 140, 162. -/
def Obligations.SharedMemoryOrders : Prop :=
  (∀ (t g : Nat) (f : FmtR) (x : Ecc) (s : State), g < 64 → f.ok = true → f.res = 0 → s.plainNext g = true →
    (s.en g).posted = [] → x.ue = [] →
    let e := s.en g
    let a := (e.r f.ra).toNat
    let k := g * 0x10000 + (a - 0x40000000)
    let gives (i : Instr) (n new : Nat) (e' : Eng) : Prop := a < 0x60000000 → s.engReads g a n = true →
      ∃ u, exec i s = .next u ∧ u = { s with now := u.now, eng := u.eng, mem := u.mem, regs := u.regs, rel := u.rel } ∧
        engineIs s u g e' (e.pc + 4) ∧ u.engBytes g a n = new ∧ u.mem.sec = s.mem.sec ∧
        (a < 0x1800000 → (∀ y, y < a ∨ a + n ≤ y → u.byteAt y = s.byteAt y) ∧ u.mem.lm = s.mem.lm) ∧
        (0x40000000 ≤ a → (∀ y, y < k ∨ k + n ≤ y → u.lmByte y = s.lmByte y) ∧ u.mem.sram = s.mem.sram) ∧
        (∀ b, b ≠ SRAMCE.COUNT.adr 0 0 → u.reg b = s.reg b) ∧ (x.ce = [] → u.regs = s.regs ∧ u.rel = s.rel)
    let o := s.engBytes g a 4
    let b := (e.r f.rb).toNat
    let w : Eng := e.setR f.rd (BitVec.ofNat 32 o)
    let p := s.engBytes g a 8
    let c := (e.rp f.rb).toNat
    let v : Eng := e.setP f.rd (BitVec.ofNat 64 p)
    gives (.aswpW t g f x) 4 b w ∧ gives (.aaddW t g f x) 4 ((o + b) % 2 ^ 32) w ∧
    gives (.aandW t g f x) 4 (o &&& b) w ∧ gives (.aorW t g f x) 4 (o ||| b) w ∧
    gives (.acasW t g f x) 4 (if o = (e.r f.rd).toNat then b else o)
      { w with flags := putBit e.flags 2 (o == (e.r f.rd).toNat) } ∧
    (f.rd % 2 = 0 → f.rb % 2 = 0 →
      gives (.aswpP t g f x) 8 c v ∧ gives (.aaddP t g f x) 8 ((p + c) % 2 ^ 64) v ∧
      gives (.aandP t g f x) 8 (p &&& c) v ∧ gives (.aorP t g f x) 8 (p ||| c) v ∧
      gives (.acasP t g f x) 8 (if p = (e.rp f.rd).toNat then c else p)
        { v with flags := putBit e.flags 2 (p == (e.rp f.rd).toNat) })) ∧
  (∀ (t g : Nat) (s : State), g < 64 →
    (∀ p k x, (s.en g).posted[k]? = some p → (s.en g).oldest k = true → (s.en g).hold = none → p.served = none →
      p.addr < 0x1800000 → accessOk p.addr p.data.length = true → x.ue = [] →
      (s.cutEng g = false → s.isolated (68 + p.addr / 0x40000) = false →
        s.mem.poisoned (wordsOf p.addr p.data.length) = false →
        ∃ u, exec (.postedStoreAck t g k x) s = .next u ∧
          u = { s with now := u.now, eng := u.eng, mem := u.mem, regs := u.regs, rel := u.rel } ∧
          u.en g = { s.en g with posted := (s.en g).posted.eraseIdx k } ∧
          (∀ i (h : i < p.data.length), u.byteAt (p.addr + i) = p.data[i]) ∧
          (∀ y, y < p.addr ∨ p.addr + p.data.length ≤ y → u.byteAt y = s.byteAt y) ∧ u.mem.lm = s.mem.lm ∧
          (∀ b, b ≠ SRAMCE.COUNT.adr 0 0 → u.reg b = s.reg b)) ∧
      (s.cutEng g = true → ∃ u, exec (.postedStoreAck t g k x) s = .next u ∧ u = { s with now := u.now, eng := u.eng } ∧
        u.en g = { s.en g with posted := (s.en g).posted.eraseIdx k }) ∧
      (s.cutEng g = false → s.isolated (68 + p.addr / 0x40000) = true →
        ∃ u, exec (.postedStoreError t g k x) s = .next u ∧ u = { s with now := u.now, eng := u.eng } ∧
          u.en g = { s.en g with posted := (s.en g).posted.eraseIdx k,
                                 imp := (s.en g).imp ++ [⟨⟨3, 3, p.pc, p.addr, 0⟩, false, 0, true⟩] })) ∧
    (∀ p x, (s.en g).posted = [p] → (s.en g).hold = some .fence → p.served = none → s.cutEng g = true → (s.en g).br = none →
      (s.en g).atLe = false → (s.en g).imp = [] → (s.en g).modeP = [] → (s.en g).stepping = false →
      (s.en g).haltReq = false → s.dlUsable g (s.curSlot g) = false →
      ∃ u, exec (.postedStoreAck t g 0 x) s = .next u ∧ retires s u g { s.en g with posted := [], hold := none }) ∧
    (s.plainNext g = true →
      ((s.en g).posted = [] → ∃ u, exec (.fenceI t g ⟨0, 0⟩) s = .next u ∧ retires s u g (s.en g)) ∧
      ((s.en g).posted ≠ [] → ∃ u, exec (.fenceI t g ⟨0, 0⟩) s = .next u ∧ u = { s with now := u.now, eng := u.eng } ∧
        u.en g = { s.en g with hold := some .fence })))

/-- Special registers and time (R69, R75, R79, R80): what `mfs` reads by number, what `mts` writes, a GSTART write from the
engine, and `tnow` and `tnowf`. A MODE write waits in its shadow: an instruction executed while it is the second one after the
write still runs under the old MODE, and leaves the new one in force for the next (R69). The model's own choices it rests on:
log entries 1, 23, 26. -/
def Obligations.SpecialRegisters : Prop :=
  (∀ (t g rd : Nat) (s : State), g < 64 → rd < 16 → s.plainNext g = true →
    let e := s.en g
    let reads (n v : Nat) : Prop := ∃ u, exec (.mfs t g ⟨rd, n, 0⟩) s = .next u ∧ retires s u g (e.setR rd (BitVec.ofNat 32 v))
    reads 0 e.mode ∧ reads 1 e.flags ∧ reads 2 e.l0.lc ∧ reads 3 e.l0.ls ∧ reads 4 e.l0.le ∧ reads 5 e.l1.lc ∧ reads 6 e.l1.ls ∧
    reads 7 e.l1.le ∧ reads 8 e.accstat ∧ reads 0x10 (s.curSlot g) ∧ reads 0x11 (s.phys g * 2 ^ 8 + g) ∧
    reads 0x12 (s.rd TSTAT.IDX) ∧ reads 0x13 0 ∧ reads 0x41 e.ecause ∧ reads 0x42 e.efpc ∧ reads 0x43 e.eaddr ∧
    reads 0x44 e.etrap ∧ reads 0x45 e.eframe ∧
    (∀ i w, i < 16 → w < 16 → reads (0x100 + 16 * i + w) (((s.ts g (s.curSlot g)).snap.get (fun _ => []) i).getD w 0)) ∧
    (∃ u, exec (.mts t g ⟨rd, 0, 0⟩) s = .next u ∧ retires s u g { e with modeP := [⟨(e.r rd).toNat % 16, 2⟩] }) ∧
    (∃ u, exec (.mts t g ⟨rd, 1, 0⟩) s = .next u ∧ retires s u g { e with flags := (e.r rd).toNat % 16 }) ∧
    (∃ u, exec (.mts t g ⟨rd, 8, 0⟩) s = .next u ∧
      retires s u g { e with accstat := e.accstat &&& (3 - (e.r rd).toNat % 4) }) ∧
    ((e.r rd).toNat % 8 = 1 → s.on GSTARTSTAT.PEND = false → ∃ u r, exec (.mtsGstartw t g rd 0) s = .next u ∧
      u = { s with now := u.now, regs := u.regs, release := some r, eng := u.eng } ∧ engineIs s u g e (e.pc + 4) ∧
      r.src = .eng g ∧ r.restart = false ∧ u.on GSTARTSTAT.PEND = true) ∧
    (∀ k, k < 18 → rd % 2 = 0 →
      (∃ u, exec (.tnow t g ⟨rd, k, 0⟩) s = .next u ∧ retires s u g (e.setP rd (BitVec.ofNat 64 (u.fine k / 64)))) ∧
      (∃ u, exec (.tnowf t g ⟨rd, k, 0⟩) s = .next u ∧ retires s u g (e.setP rd (BitVec.ofNat 64 (u.fine k)))))) ∧
  (∀ (t g v : Nat) (s : State), g < 64 → s.engReady g = true → s.fetchBad g = none → (s.en g).br = none → (s.en g).atLe = false →
    (s.en g).imp = [] → (s.en g).stepping = false → (s.en g).haltReq = false → s.dlUsable g (s.curSlot g) = false →
    ((s.en g).modeP = [⟨v, 2⟩] → ∃ u, exec (.nopI t g 0xFC000000) s = .next u ∧
      retires s u g { s.en g with modeP := [⟨v, 1⟩] }) ∧
    ((s.en g).modeP = [⟨v, 1⟩] → ∃ u, exec (.nopI t g 0xFC000000) s = .next u ∧
      retires s u g { s.en g with modeP := [], mode := v }))

/-- The port instructions reach the registers of the gondola's own channels (R76, R77): a read returns the word, or two words of
one instant; a write by the owner sets the register, and one by another engine is dropped while the instruction completes.
`edge` places an edge at the fine time in its pair where the lead is 12 ns and the line is empty, and writes 0 to RD; an
engine without authority over the channel gets 5 and changes no line (R61, R74, R78). `evtake` takes the input's arrivals into
the snapshot, clears the input and writes COUNT to RD (R81). The model's own choices it rests on: log entries 1, 23. -/
def Obligations.PortsAndEvents : Prop :=
  (∀ (t g rd ch : Nat) (s : State), g < 64 → rd < 16 → ch < 16 → s.plainNext g = true →
    let e := s.en g
    let n := 16 * g + ch
    (∃ u, exec (.prd t g ⟨rd, 0, false, ch, 0, 80⟩) s = .next u ∧ u = { s with now := u.now, eng := u.eng, regs := u.regs } ∧
      engineIs s u g (e.setR rd (s.reg (ACTPRD.VALUE.adr n 0))) (e.pc + 4) ∧ (∀ a, u.reg a = s.reg a)) ∧
    (rd % 2 = 0 → ∃ u, exec (.prdP t g ⟨rd, 0, false, ch, 0, 196⟩) s = .next u ∧
      u = { s with now := u.now, eng := u.eng, regs := u.regs } ∧
      engineIs s u g (e.setP rd (s.reg (CAPNEW_HI.VALUE.adr n 0) ++ s.reg (CAPNEW_LO.VALUE.adr n 0))) (e.pc + 4) ∧
      (∀ a, u.reg a = s.reg a)) ∧
    (s.bridlePass (n / 8) (.eng g) = true →
      (∃ u, exec (.pwr t g ⟨rd, 0, false, ch, 0, 11⟩) s = .next u ∧ u = { s with now := u.now, eng := u.eng, regs := u.regs } ∧
        engineIs s u g e (e.pc + 4) ∧ u.reg (TRIGDLY.DELAY.adr n 0) = e.r rd ∧
        (∀ a, a ≠ TRIGDLY.DELAY.adr n 0 → u.reg a = s.reg a)) ∧
      (rd % 2 = 0 → ∃ u, exec (.pwrP t g ⟨rd, 0, false, ch, 0, 10⟩) s = .next u ∧
        u = { s with now := u.now, eng := u.eng, regs := u.regs } ∧ engineIs s u g e (e.pc + 4) ∧
        u.reg (TRIGDLY.DELAY.adr n 0) = e.r (rd + 1) ∧
        (∀ a, a ≠ TRIGDLY.DELAY.adr n 0 → a ≠ TRIGCTL.WHOLE.adr n 0 → u.reg a = s.reg a))) ∧
    (s.bridlePass (n / 8) (.eng g) = false → ∃ u, exec (.pwr t g ⟨rd, 0, false, ch, 0, 11⟩) s = .next u ∧
      engineIs s u g e (e.pc + 4) ∧ (∀ a, evReg a = false → u.reg a = s.reg a) ∧ u.mem = s.mem ∧ u.chan = s.chan)) ∧
  (∀ (t g rd ch lvl pr : Nat) (s : State), g < 64 → rd < 16 → ch < 16 → lvl < 3 → pr < 8 → s.plainNext g = true → s.now ≤ t →
    let e := s.en g
    let n := 16 * g + ch
    let F := (e.rp (2 * pr)).toNat
    let cur := s.fineAt (s.etb n) t
    (s.bridlePass (n / 8) (.eng g) = true → (s.ch n).dl.pend = [] → (s.ch n).dl.lastAt = none → F < 2 ^ 63 → cur < F →
      cur + (s.advance t).espan n (ns 12) ≤ F →
      ∃ u, exec (.edge t g ⟨rd, 0, false, ch, lvl, pr, 0⟩) s = .next u ∧ u = { s with now := t, eng := u.eng, chan := u.chan } ∧
        engineIs s u g (e.setR rd 0#32) (e.pc + 4) ∧ (u.ch n).dl.pend = [⟨F, lvl + 1, .prog, false, none⟩] ∧
        (u.ch n).pin = (s.ch n).pin ∧ (∀ m, m ≠ n → u.ch m = s.ch m)) ∧
    (s.bridlePass (n / 8) (.eng g) = false → ∃ u, exec (.edge t g ⟨rd, 0, false, ch, lvl, pr, 0⟩) s = .next u ∧
      engineIs s u g (e.setR rd 5#32) (e.pc + 4) ∧ u.chan = s.chan ∧ u.mem = s.mem)) ∧
  (∀ (t g rd i : Nat) (s : State), g < 64 → rd < 16 → i < 16 → s.plainNext g = true →
    let k := s.curSlot g
    ∃ u, exec (.evtake t g ⟨rd, i, 0⟩) s = .next u ∧ u = { s with now := u.now, eng := u.eng, slot := u.slot, tin := u.tin } ∧
      engineIs s u g ((s.en g).setR rd (BitVec.ofNat 32 (s.ti g k i).count)) ((s.en g).pc + 4) ∧
      u.ti g k i = TIn.init ∧ (u.ts g k).snap.get (fun _ => []) i = (s.ti g k i).words ∧
      (∀ j, j ≠ i → (u.ts g k).snap.get (fun _ => []) j = (s.ts g k).snap.get (fun _ => []) j) ∧
      (∀ x, x ≠ 1024 * g + 16 * k + i → u.tin.get (fun _ => TIn.init) x = s.tin.get (fun _ => TIn.init) x))

/-- The control transfers evaluate their condition and target first; the delay slot at the next word comes before control goes
there (R84, R86). After a delay slot control goes where its branch goes; a linking one leaves w14 at branch address + 8 (R86).
The clauses on the slot and on where control goes state R86; that w14 is written with the slot is the model's reading. The
model's own choices it rests on: log entries 1, 23, 24, 148, 151, 152. -/
def Obligations.ControlTransfers : Prop :=
  (∀ (t g c off : Nat) (s : State), g < 64 → c < 16 → s.plainNext g = true →
    let e := s.en g
    let goes (i : Instr) (taken : Bool) (tgt : Nat) (link close : Bool) : Prop := ∃ u, exec i s = .next u ∧
      u = { s with now := u.now, eng := u.eng } ∧
      engineIs s u g { e with br := some ⟨e.pc, if taken then tgt else e.pc + 8, taken, link, close⟩ } (e.pc + 4)
    let n := flagN e.flags
    let z := flagZ e.flags
    let cc := flagC e.flags
    let v := flagV e.flags
    let holds : Bool := [z, !z, cc, !cc, n, !n, v, !v, cc && !z, !cc || z, n == v, n != v, !z && n == v, z || n != v, true].getD c false
    (off < 2 ^ 22 →
      let b := (((e.pc : Int) + 4 * (if off < 2 ^ 21 then (off : Int) else off - 2 ^ 22)) % 2 ^ 32).toNat
      (c < 15 → goes (.bCond t g ⟨c, off⟩) holds b false true) ∧
      goes (.cbz t g ⟨c, off⟩) (e.r c == 0#32) b false true ∧
      goes (.cbnz t g ⟨c, off⟩) (e.r c != 0#32) b false true) ∧
    (off < 2 ^ 26 →
      let j := (((e.pc : Int) + 4 * (if off < 2 ^ 25 then (off : Int) else off - 2 ^ 26)) % 2 ^ 32).toNat
      goes (.jmp t g off) true j false true ∧ goes (.jl t g off) true j true false) ∧
    goes (.jr t g ⟨c, 0⟩) true (e.r c).toNat false true ∧ goes (.jlr t g ⟨c, 0⟩) true (e.r c).toNat true false) ∧
  (∀ (t g : Nat) (b : Branch) (s : State), g < 64 → s.engReady g = true → s.fetchBad g = none → (s.en g).br = some b →
    (s.en g).l0.act = false → (s.en g).l1.act = false → (s.en g).imp = [] → (s.en g).modeP = [] → (s.en g).stepping = false →
    (s.en g).haltReq = false → s.dlUsable g (s.curSlot g) = false →
    ∃ u, exec (.nopI t g 0xFC000000) s = .next u ∧ u = { s with now := u.now, eng := u.eng } ∧ (u.en g).pc = b.dest ∧
      (u.en g).br = none ∧ (u.en g).r 14 = (if b.link then BitVec.ofNat 32 (b.src + 8) else (s.en g).r 14) ∧
      (∀ i, i ≠ 14 → (u.en g).r i = (s.en g).r i) ∧ (u.en g).flags = (s.en g).flags ∧
      (u.en g).icount = (s.en g).icount + 1 ∧ (b.taken = false → (u.en g).trace = (s.en g).trace))

/-- Hardware loops (R88): `loop` opens level 0 with LS, LE and the count, or skips the body where the count is 0; the instruction
at LE counts down and goes back to LS, or closes the level and goes on. The model's own choices it rests on: log entries 1,
23, 25, 151. -/
def Obligations.Loops : Prop :=
  ∀ (t g n len : Nat) (s : State), g < 64 → n < 512 → 0 < len → len < 4096 →
    let e := s.en g
    (s.plainNext g = true → e.l0.act = false →
      (0 < n → ∃ u, exec (.loopI t g ⟨false, 0, n, len⟩) s = .next u ∧
        retires s u g { e with l0 := ⟨true, n, e.pc + 4, e.pc + 4 * len⟩ }) ∧
      (n = 0 → ∃ u, exec (.loopI t g ⟨false, 0, 0, len⟩) s = .next u ∧ u = { s with now := u.now, eng := u.eng } ∧
        (u.en g).pc = e.pc + 4 * len + 4 ∧ (u.en g).l0 = e.l0 ∧ (u.en g).l1 = e.l1 ∧ (u.en g).w = e.w)) ∧
    (s.engReady g = true → s.fetchBad g = none → e.br = none → e.l1.act = false → e.l0.act = true → e.l0.le = e.pc →
      e.imp = [] → e.modeP = [] → e.stepping = false → e.haltReq = false → s.dlUsable g (s.curSlot g) = false →
      (1 < e.l0.lc → ∃ u, exec (.nopI t g 0xFC000000) s = .next u ∧ u = { s with now := u.now, eng := u.eng } ∧
        engineIs s u g { e with l0 := { e.l0 with lc := e.l0.lc - 1 } } e.l0.ls) ∧
      (e.l0.lc = 1 → ∃ u, exec (.nopI t g 0xFC000000) s = .next u ∧ u = { s with now := u.now, eng := u.eng } ∧
        engineIs s u g { e with l0 := { e.l0 with lc := 0, act := false } } (e.pc + 4)))

/-! ### Exceptions, ballast and microcode (chapter 4) -/

/-- Completing causes (R96, R97, R103): the instruction writes its result first; with PRECISE the exception is taken at the next
boundary, otherwise it is one instruction old when that retires; in a handler it is only counted. Faults change nothing (R70,
R83, R87, R97): an undefined word, an instruction outside local memory, a load from an unmapped address and a control transfer
in a delay slot leave all but the pending exception as it was. The model's own choices it rests on: log entries 1, 23, 27,
148. -/
def Obligations.TrapsAndFaults : Prop :=
  (∀ (t g : Nat) (f : FmtR) (s : State), g < 64 → f.ok = true → f.res = 0 → f.s = false → s.plainNext g = true →
    let e := s.en g
    let a := e.r f.ra
    let b := e.r f.rb
    let out (x : Int) : Prop := x < -2 ^ 31 ∨ 2 ^ 31 ≤ x
    let raises (i : Instr) (r : Word) (cause : Nat) : Prop :=
      (e.exl = false → e.mode % 2 = 1 → ∃ u, exec i s = .next u ∧
        retires s u g { e.setR f.rd r with prec := some ⟨cause, 0, e.pc, 0, 0⟩ }) ∧
      (e.exl = false → e.mode % 2 = 0 → ∃ u, exec i s = .next u ∧
        retires s u g { e.setR f.rd r with imp := [⟨⟨cause, 0, e.pc, 0, 0⟩, true, 1, false⟩] }) ∧
      (e.exl = true → ∃ u, exec i s = .next u ∧ u = { s with now := u.now, eng := u.eng, regs := u.regs } ∧
        engineIs s u g (e.setR f.rd r) (e.pc + 4) ∧
        u.rd EXCCNT.SUPP g = satTo 255 (s.rd EXCCNT.SUPP g + 1) ∧ (∀ x, x ≠ EXCCNT.WHOLE.adr g 0 → u.reg x = s.reg x))
    (out (a.toInt + b.toInt) → raises (.addt t g f) (a + b) 4) ∧
    (out (a.toInt - b.toInt) → raises (.subt t g f) (a - b) 4) ∧
    (out (a.toInt * b.toInt) → raises (.mult t g f) (a * b) 4) ∧
    (b = 0#32 → raises (.div t g f) 0#32 5 ∧ raises (.divu t g f) 0#32 5 ∧ raises (.rem t g f) 0#32 5 ∧
      raises (.remu t g f) 0#32 5) ∧
    (∀ code, code < 2 ^ 16 → ∃ u, exec (.trapI t g ⟨0, code⟩) s = .next u ∧
      retires s u g { e with prec := some ⟨7, 0, e.pc, 0, code⟩ })) ∧
  (∀ (t g : Nat) (s : State), g < 64 → s.engReady g = true → (s.en g).imp = [] →
    let faults (i : Instr) (cause sub adr : Nat) : Prop := ∃ u, exec i s = .next u ∧ u = { s with now := u.now, eng := u.eng } ∧
      (∀ h, h ≠ g → u.en h = s.en h) ∧ u.en g = { s.en g with fault := some ⟨cause, sub, (s.en g).pc, adr, 0⟩ }
    ((s.en g).pc < 0x40000000 ∨ 0x40010000 ≤ (s.en g).pc → faults (.nopI t g 0xFC000000) 1 0 0) ∧
    (s.fetchBad g = none →
      faults (.nopI t g 0) 2 0 0 ∧
      ((s.en g).br = none → (s.en g).atLe = false → ∀ f : FmtM, f.ok = true → f.res = 0 →
        ((s.en g).r f.ra + (BitVec.ofNat 16 f.off).signExtend 32).toNat = 0x50000000 →
        faults (.ldw t g f .clean) 3 0 0x50000000 ∧ faults (.stw t g f .clean) 3 0 0x50000000) ∧
      ((s.en g).br.isSome = true → (s.en g).atLe = false → faults (.jmp t g 0) 2 2 0) ∧
      ((s.en g).exl = false → (s.en g).br = none → (s.en g).atLe = false → faults (.eret t g ⟨0, 0⟩) 2 4 0)))

/-- Taking an exception (R99, R105, R106, R109): the frame at w15 − 40 holds where to resume and the status, the exception
registers name the cause, EXL is set, the loops are inactive and the PC is at the vector; in a handler, without handlers, or
with a bad stack it becomes a ballast request instead. `eret` restores what the frame at w15 holds and clears EXL (R107), and
a `done` that waited for the handler then ends its task (R104); the oldest outstanding arithmetic check falls due (R103). The
model's own choices it rests on: log entries 1, 23, 27, 149. -/
def Obligations.Exceptions : Prop :=
  (∀ (t g : Nat) (x : Exc) (s : State), g < 64 → (s.en g).fault = some x → (s.en g).bal = [] → (s.en g).hold = none →
    s.on BALSTAT.INBAL g = false → s.on ENGCTL.RUN g = true → (s.en g).halted = false →
    let e := s.en g
    let sp := (e.r 15).toNat
    let epc := match e.br with
      | some b => b.src
      | none => e.pc
    (e.exl = false → s.on EVBASE.EN g = true → sp % 8 = 0 → 0x40000000 + s.rd ESTKLIM.LIMIT g * 8 + 40 ≤ sp → sp ≤ 0x40010000 →
      x.cause < 32 → x.sub < 16 → e.modeP = [] → e.stepping = false → e.haltReq = false → e.flags < 16 → e.mode < 2 ^ 32 →
      s.mem.lmPoison = [] →
      ∃ u, exec (.exceptionEntry t g) s = .next u ∧ u = { s with now := u.now, regs := u.regs, eng := u.eng, mem := u.mem } ∧
        (u.en g).pc = 0x40000000 + s.rd EVBASE.ADDR g * 0x100 + 0x20 * x.cause ∧ (u.en g).exl = true ∧
        (u.en g).r 15 = BitVec.ofNat 32 (sp - 40) ∧ (∀ i, i < 15 → (u.en g).r i = e.r i) ∧ (u.en g).flags = e.flags ∧
        (u.en g).mode = e.mode ∧ (u.en g).l0.act = false ∧ (u.en g).l1.act = false ∧
        (u.en g).ecause = x.sub * 2 ^ 8 + x.cause ∧ (u.en g).efpc = x.pc ∧ (u.en g).eaddr = x.addr ∧ (u.en g).eframe = sp - 40 ∧
        u.mem.lmWord g (sp - 40 - 0x40000000) = epc % 2 ^ 32 ∧ u.mem.lmWord g (sp - 40 - 0x40000000 + 8) = e.mode ∧
        u.mem.lmWord g (sp - 40 - 0x40000000 + 4) % 16 = e.flags ∧
        (u.mem.lmWord g (sp - 40 - 0x40000000 + 4)).testBit 11 = e.br.isSome ∧
        (u.mem.lmWord g (sp - 40 - 0x40000000 + 4)).testBit 10 = e.atLe ∧
        (u.mem.lmWord g (sp - 40 - 0x40000000 + 4)).testBit 9 = false ∧
        u.mem.lmWord g (sp - 40 - 0x40000000 + 36) = (e.r 14).toNat ∧
        (∀ k, k < g * 0x10000 + (sp - 40 - 0x40000000) ∨ g * 0x10000 + (sp - 0x40000000) ≤ k → u.lmByte k = s.lmByte k) ∧
        u.mem.sram = s.mem.sram ∧ u.rd LASTEXC.VALID g = 1 ∧ u.rd LASTEXC.CAUSE g = x.sub * 2 ^ 5 + x.cause ∧
        u.rd EXCCNT.ENTRIES g = satTo 0xFFFF (s.rd EXCCNT.ENTRIES g + 1)) ∧
    (e.exl = true ∨ s.on EVBASE.EN g = false ∨ sp % 8 ≠ 0 →
      ∃ u c, exec (.exceptionEntry t g) s = .next u ∧ u = { s with now := u.now, eng := u.eng } ∧
        u.en g = { e with fault := none, bal := [⟨c, if e.exl then x.pc else epc, x.sub * 2 ^ 8 + x.cause, x.addr⟩] } ∧
        c = (if e.exl then 1 else if s.on EVBASE.EN g then 2 else 3))) ∧
  (∀ (t g : Nat) (s : State), g < 64 →
    let e := s.en g
    let o := (e.r 15).toNat - 0x40000000
    let w (i : Nat) : Nat := s.mem.lmWord g (o + 4 * i)
    (s.plainNext g = true → e.exl = true → 0x40000000 ≤ (e.r 15).toNat → (e.r 15).toNat + 40 ≤ 0x40010000 →
      (e.r 15).toNat % 8 = 0 → s.mem.lmBad g o 40 = false → (w 1).testBit 6 = false → (w 1).testBit 7 = false →
      (w 1).testBit 14 = false → (w 1).testBit 17 = false →
      (e.leaving = some .fin → ∃ u, exec (.eret t g ⟨0, 0⟩) s = .next u ∧ (u.sch g).cur = none ∧ (u.en g).exl = false ∧
        (u.en g).leaving = none) ∧
      (e.leaving = none →
      ∃ u, exec (.eret t g ⟨0, 0⟩) s = .next u ∧ u = { s with now := u.now, eng := u.eng } ∧ (u.en g).pc = w 0 ∧
        (u.en g).flags = w 1 % 16 ∧ (u.en g).mode = w 2 % 16 ∧ (u.en g).r 14 = BitVec.ofNat 32 (w 9) ∧
        (u.en g).r 15 = BitVec.ofNat 32 ((e.r 15).toNat + 40) ∧ (∀ i, i < 14 → (u.en g).r i = e.r i) ∧ (u.en g).exl = false ∧
        (u.en g).l0.act = false ∧ (u.en g).l1.act = false ∧ (u.en g).ecause = e.ecause ∧ (u.en g).acc0 = e.acc0 ∧
        (u.en g).acc1 = e.acc1)) ∧
    (∀ x a, e.imp = [⟨x, true, a, false⟩] → ∃ u, exec (.impreciseExceptionDue t g) s = .next u ∧
      u = { s with now := u.now, eng := u.eng } ∧ u.en g = { e with imp := [⟨x, true, a, true⟩] }))

/-- Ballast (R111 to R115): a request waits; its recognition puts the engine in BALLAST, counts, and begins the dump of R114; the
end of the dump stores it and sets PEND; BALCLR leaves the engine stopped and reset. The model's own choices it rests on: log
entries 1, 30, 150, 151. -/
def Obligations.Ballast : Prop :=
  ∀ (t g : Nat) (src : Src) (v : Word) (s : State), g < 64 → src.ok = true → s.applies src (BALCTL.WHOLE.adr g 0) = true →
    (v.toNat.testBit 30 = false → ∃ u, exec (.balctlBalreq t src g v) s = .next u ∧
      u = { s with now := u.now, eng := u.eng, regs := u.regs } ∧
      u.en g = { s.en g with bal := (s.en g).bal ++ [⟨7, (s.en g).pc, 0, 0⟩] } ∧
      u.rd BALCTL.AUTORST g = (v.toNat / 2) % 2 ∧ u.rd BALCTL.SAFE g = v.toNat % 2) ∧
    (∀ b r, (s.en g).bal = b :: r → (s.en g).dump = none → s.on BALSTAT.PEND g = false → s.on BALCTL.SAFE g = false →
      1 ≤ b.cause → b.cause ≤ 7 → b.cause ≠ 6 → (s.en g).trace.length ≤ 64 →
      ∃ u ws, exec (.ballastEntry t g false) s = .next u ∧ u.on BALSTAT.INBAL g = true ∧ u.rd BALSTAT.BCAUSE g = b.cause ∧
        u.rd BALSTAT.COUNT g = (s.rd BALSTAT.COUNT g + 1) % 2 ^ 16 ∧ (u.en g).dump = some ws ∧ ws.length = 512 ∧
        ws.getD 4 0 = (if b.cause = 7 then (s.en g).pc else b.pc) ∧ ws.getD 6 0 = b.ecause ∧ (∀ i, i < 16 → ws.getD (8 + i) 0 = ((s.en g).r i).toNat) ∧
        ws.getD 28 0 = (s.en g).flags ∧ (u.en g).w = (s.en g).w ∧ (u.en g).pc = (s.en g).pc ∧ u.mem = s.mem) ∧
    (∀ h r, (s.en g).dump = some (h :: r) → (s.en g).clrWait = false → s.on BALCTL.AUTORST g = false →
      s.on TAMPSTAT.WIPING = false → (h :: r).length = 512 → (∀ x ∈ h :: r, x < 2 ^ 32) → h < 2 ^ 31 →
      ∃ u, exec (.ballastDumpDone t g 512) s = .next u ∧ u.on BALSTAT.PEND g = true ∧ (u.en g).dump = none ∧
        ofBytes (u.mem.secBytes (0x5E000 + 0x800 * s.phys g) 4) = h + 2 ^ 31 ∧
        (∀ i, i < 511 → ofBytes (u.mem.secBytes (0x5E000 + 0x800 * s.phys g + 4 * (i + 1)) 4) = r.getD i 0) ∧
        u.mem.sram = s.mem.sram ∧ u.mem.lm = s.mem.lm) ∧
    ((s.en g).dump = none → (s.en g).posted = [] → s.on BALSTAT.INBAL g = true → v.toNat.testBit 31 = false →
      ∃ u, exec (.balctlBalclr t src g v) s = .next u ∧ u.on BALSTAT.PEND g = false ∧ u.on BALSTAT.INBAL g = false ∧
        u.on ENGCTL.RUN g = false ∧ (∀ i, (u.en g).r i = 0#32) ∧ (u.en g).flags = 0 ∧ (u.en g).mode = 0 ∧
        (u.sch g).cur = none ∧ u.mem = s.mem)

/-- Engine control (R68, R94): ERESET with RUN = 0 clears the registers and the loops; RUN takes the written bit; at the end of an
interval of 1 ms with 10,000 retired instructions ENGRATE takes their count divided by 1,000. Microcode loads (R124, R125): GO
copies the image from shared SRAM and refuses a second one while BUSY; a load in the Slate state is refused; an image that
passes every check waits for each eligible engine, which applies it at such a point. The model's own choices it rests on: log
entries 1, 4, 31. -/
def Obligations.EngineControl : Prop :=
  (∀ (t g : Nat) (src : Src) (v : Word) (s : State), g < 64 → src.ok = true → s.applies src (ENGCTL.WHOLE.adr g 0) = true →
    (s.on ENGCTL.RUN g = false → (s.en g).posted = [] → ∃ u, exec (.engctlEreset t src g v) s = .next u ∧
      (∀ i, (u.en g).r i = 0#32) ∧ (u.en g).acc0 = 0 ∧ (u.en g).acc1 = 0 ∧ (u.en g).flags = 0 ∧ (u.en g).mode = 0 ∧
      (u.en g).l0.act = false ∧ (u.en g).l1.act = false ∧ (u.sch g).cur = none ∧ u.rd ENGCTL.RUN g = v.toNat % 2 ∧
      u.mem = s.mem ∧ (∀ a, a ≠ ENGCTL.WHOLE.adr g 0 → u.reg a = s.reg a)) ∧
    (v.toNat.testBit 31 = false → ∃ u, exec (.engctlRun t src g v) s = .next u ∧ onlyRegs s u ∧
      u.rd ENGCTL.RUN g = v.toNat % 2 ∧ (∀ a, a ≠ ENGCTL.WHOLE.adr g 0 → u.reg a = s.reg a)) ∧
    (∀ b, s.spine = some b → s.now ≤ t → b ≤ t → (t - b) % ms 1 = 0 → (s.en g).rateFrom + 10000 ≤ (s.en g).icount →
      ∃ u, exec (.engrateInterval t g) s = .next u ∧ u = { s with now := t, eng := u.eng, regs := u.regs } ∧
        u.en g = { s.en g with rateFrom := (s.en g).icount } ∧
        u.rd ENGRATE.RATE g = satTo 0xFFFF (((s.en g).icount - (s.en g).rateFrom) / 1000))) ∧
  (∀ (t : Nat) (src : Src) (v : Word) (s : State), src.ok = true → s.applies src (MCLDCTL.WHOLE.adr 0 0) = true →
    (s.mcl = none → s.mem.poison = [] → (∀ p, 68 ≤ p → p < 164 → s.isolated p = false) → s.isolated 212 = false →
      s.rd MCLDADDR.ADDR * 8 + 4520 ≤ 0x1800000 →
      ∃ u m, exec (.mcldGo t src v .clean) s = .next u ∧
        u = { s with now := u.now, regs := u.regs, mcl := some m, ecc := .clean } ∧ m.ok = true ∧
        m.img.take 64 = s.mem.sramBytes (s.rd MCLDADDR.ADDR * 8) 64 ∧ u.on MCLDSTAT.BUSY = true) ∧
    (∀ x, s.mcl ≠ none → s.ecc = .clean → ∃ u, exec (.mcldGo t src v x) s = .next u ∧ onlyRegs s u ∧ u.rd MCLDSTAT.ERR = 1) ∧
    (∀ x, exec (.mcldGo t src v x) s = .next (((s.advance t).withEcc x (·.mcGo (v ||| 1))).withQueue s.pending)) ∧
    (∀ m, s.mcl = some m → m.ok = true → s.on TAMPSTAT.WIPING = false →
      (s.rd LCSTAT.STATE = 3 → ∃ u, exec (.mcldCheckDone t) s = .next u ∧ u.rd MCLDSTAT.ERR = 6 ∧ u.on MCLDSTAT.BUSY = false ∧
        u.mcl = none ∧ u.mcNew = s.mcNew ∧ u.mcRun = s.mcRun ∧ u.mem = s.mem) ∧
      (s.rd LCSTAT.STATE ≠ 3 → mcFormat m.img = true → bitsAt (entryWord m.img 1) 16 16 = s.rd MCVER.ROMID →
        s.rd MCMIN.MINVER ≤ entryWord m.img 1 % 2 ^ 16 → mcSigOk m.img = true →
        ∃ u, exec (.mcldCheckDone t) s = .next u ∧ u.rd MCLDSTAT.ERR = 0 ∧ u.on MCLDSTAT.BUSY = false ∧
          u.rd MCLDSTAT.VERSION = entryWord m.img 1 % 2 ^ 16 ∧ u.rd MCLDSTAT.PENDING = u.mcWait.length ∧
          (u.mcNew.map (·.version)) = some (entryWord m.img 1 % 2 ^ 16) ∧ u.mcRun = s.mcRun ∧
          (∀ p, p < 68 → (p ∈ u.mcWait ↔ s.rd PHEALTH.STATE 0 p ≠ 5 ∧ s.rd PHEALTH.STATE 0 p ≠ 4 ∧ s.isolated p = false)))) ∧
    (∀ p m, p < 68 → p ∈ s.mcWait → s.mcNew = some m → s.tko = none → (∀ g, g < 64 → s.phys g = p → (s.sch g).cur = none) →
      ∃ u, exec (.mcImageApply t p) s = .next u ∧ u.mcRun.get (fun _ => McImage.bare) p = m ∧ p ∉ u.mcWait ∧
        (∀ q, q ≠ p → u.mcRun.get (fun _ => McImage.bare) q = s.mcRun.get (fun _ => McImage.bare) q) ∧ u.eng = s.eng ∧ u.mem = s.mem))

/-! ### Tasks and events (chapter 5) -/

/-- A fresh dispatch gives the engine to the ready slot that waits alone (R142, R146, R150): PC, w15, MODE and w1 from its
registers and inputs, w0 from TDARG for a run request; the inputs are not cleared and the request is consumed. Preemption and
resumption (R142 to R144): a ready slot of higher priority takes the engine at an eligible boundary, the context goes to the
slot's save area and the slot to the head of its order; resuming restores what was saved. `done` ends the task, closes both
loops and clears the snapshot; `yield` saves the context and puts the slot last (R89, R145, R147). The model's own choices it
rests on: log entries 1, 23, 32, 152. -/
def Obligations.TaskSwitching : Prop :=
  (∀ (t g k r : Nat) (s : State), g < 64 → k < 64 → s.engFree g = true → (s.sch g).order = [k] → (s.ts g k).st = .ready →
    (s.ts g k).req = some r → (∀ i, i < 16 → (s.ti g k i).count = 0) → (s.en g).stepping = false → (s.en g).haltReq = false →
    ∃ u, exec (.taskDispatch t g) s = .next u ∧
      u = { s with now := u.now, eng := u.eng, slot := u.slot, sched := u.sched } ∧ (u.sch g).cur = some k ∧ (u.sch g).order = [] ∧
      (u.ts g k).st = .exec ∧ (u.ts g k).req = none ∧ (u.ts g k).ref = r ∧ (u.ts g k).snap = [] ∧
      (u.en g).pc = 0x40000000 + s.rd TDENTRY.ENTRY g k ∧
      (u.en g).r 15 = BitVec.ofNat 32 (0x40000000 + s.rd TDENTRY.STACK g k) ∧
      (u.en g).r 0 = BitVec.ofNat 32 (s.rd TDARG.VALUE g k) ∧ (u.en g).r 1 = 0#32 ∧
      (∀ i, 2 ≤ i → i < 15 → (u.en g).r i = (s.en g).r i) ∧ (u.en g).flags = 0 ∧
      (u.en g).mode = s.rd TDCTL.MRND g k * 4 + s.rd TDCTL.MASTRAP g k * 2 + s.rd TDCTL.MPRECISE g k ∧
      (u.en g).l0.act = false ∧ (u.en g).l1.act = false ∧ (u.en g).acc0 = (s.en g).acc0) ∧
  (∀ (t g k : Nat) (s : State), g < 64 → k < 64 →
    let e := s.en g
    let o := s.rd SAVEBASE.BASE g * 2 ^ 13 + 128 * k
    (∀ j r, (s.sch g).cur = some k → (s.sch g).order = j :: r → s.best g = some j → s.rd TDCTL.PRIO g k < s.rd TDCTL.PRIO g j →
      (s.sch g).due = true → s.on ENGCTL.RUN g = true →
      e.switchable = true → e.halted = false → s.on BALSTAT.INBAL g = false → e.pc < 2 ^ 32 → o + 128 ≤ 0x10000 →
      ∃ u, exec (.taskPreempt t g) s = .next u ∧
        u = { s with now := u.now, eng := u.eng, slot := u.slot, sched := u.sched, mem := u.mem } ∧ (u.sch g).cur = none ∧
        (u.sch g).order = k :: j :: r ∧ (u.ts g k).st = .preempted ∧
        (∀ i, i < 16 → u.mem.lmWord g (o + 4 * i) = (e.r i).toNat) ∧ u.mem.lmWord g (o + 0x50) = e.pc ∧
        (∀ x, x < g * 0x10000 + o ∨ g * 0x10000 + o + 0x80 ≤ x → u.lmByte x = s.lmByte x) ∧ u.mem.sram = s.mem.sram) ∧
    (s.engFree g = true → (s.sch g).order = [k] → (s.ts g k).st = .preempted → (s.ts g k).modeP = [] → e.stepping = false →
      e.haltReq = false →
      ∃ u, exec (.taskResume t g) s = .next u ∧
        u = { s with now := u.now, eng := u.eng, slot := u.slot, sched := u.sched } ∧ (u.sch g).cur = some k ∧
        (u.ts g k).st = .exec ∧ (∀ i, i < 16 → (u.en g).r i = BitVec.ofNat 32 (s.mem.lmWord g (o + 4 * i))) ∧
        (u.en g).pc = s.mem.lmWord g (o + 0x50) ∧ (u.en g).flags = s.mem.lmWord g (o + 0x54) % 16 ∧
        (u.en g).mode = s.mem.lmWord g (o + 0x58) % 16 ∧ (u.ts g k).ref = (s.ts g k).ref)) ∧
  (∀ (t g k : Nat) (s : State), g < 64 → k < 64 → s.plainNext g = true → (s.sch g).cur = some k → (s.en g).posted = [] →
    s.on TDCTL.EN g k = false →
    (∃ u, exec (.doneT t g ⟨0, 0⟩) s = .next u ∧ u = { s with now := u.now, eng := u.eng, slot := u.slot, sched := u.sched } ∧
      (u.sch g).cur = none ∧ (u.ts g k).st = .idle ∧ (u.ts g k).snap = [] ∧ (u.en g).l0.act = false ∧ (u.en g).l1.act = false ∧
      (u.en g).exl = false ∧ (u.en g).w = (s.en g).w ∧ (u.en g).icount = (s.en g).icount + 1) ∧
    ((s.en g).exl = false → ∃ u, exec (.yieldT t g ⟨0, 0⟩) s = .next u ∧
      u = { s with now := u.now, eng := u.eng, slot := u.slot, sched := u.sched, mem := u.mem } ∧ (u.sch g).cur = none ∧
      (u.ts g k).st = .yielded ∧ (u.sch g).order = (s.sch g).order ++ [k] ∧ (u.ts g k).snap = (s.ts g k).snap ∧
      u.mem.lmWord g (s.rd SAVEBASE.BASE g * 2 ^ 13 + 128 * k + 0x50) = ((s.en g).pc + 4) % 2 ^ 32))

/-- Task inputs and requests (R140, R141): an arrival in an empty input is counted and held in entry A; CLR empties the inputs of
its slot; RUN places a request that makes an enabled idle slot ready; EN takes effect at once. Slack (R149, R152): a slot
whose record is not used has none; one that runs alone on its gondola, without PRECISE, has LIMIT less K × (26.0 + 10.4 + WMAX
+ 18.9 × NSH) ns, in 1/16 ns rounded down, which is also the gondola's least. The model's own choices it rests on: log entries
1, 36, 39. -/
def Obligations.TaskInputs : Prop :=
  (∀ (t g k i : Nat) (s : State), g < 64 → k < 64 → i < 16 →
    (∀ p ev r, s.fab.arrivals = ⟨p, g, k, i, ev⟩ :: r → s.ti g k i = TIn.init → s.rd PWRSTAT.STATE = 0 →
      ∃ u, exec (.taskInputArrival t g k i [0]) s = .next u ∧ u.fab.arrivals = r ∧
        u.ti g k i = ⟨1, some ⟨ev.id, ev.ts, ev.coinc, ev.tq⟩, none, false, ev.coinc, ev.id⟩ ∧
        (∀ x, x ≠ 1024 * g + 16 * k + i → u.tin.get (fun _ => TIn.init) x = s.tin.get (fun _ => TIn.init) x) ∧
        u.mem = s.mem ∧ u.eng = s.eng) ∧
    (∀ (src : Src) (v : Word), src.ok = true → s.applies src (TASKRUN.WHOLE.adr g 0) = true → v.toNat % 64 = k →
      (v.toNat.testBit 30 = false → ∃ u, exec (.taskrunClr t src g v) s = .next u ∧
        u = { s with now := u.now, tin := u.tin, slot := u.slot, sched := u.sched } ∧ (∀ j, j < 16 → u.ti g k j = TIn.init) ∧
        (u.ts g k).req = (s.ts g k).req) ∧
      (v.toNat.testBit 31 = false → s.on TDCTL.EN g k = true → (s.ts g k).st = .idle → (s.ts g k).req = none →
        ∃ u, exec (.taskrunRun t src g v) s = .next u ∧ u = { s with now := u.now, slot := u.slot, sched := u.sched } ∧
          (u.ts g k).st = .ready ∧ (u.ts g k).req = some (u.fine 0 / 64 * 64) ∧ (u.sch g).order = (s.sch g).order ++ [k])) ∧
    (∀ (src : Src) (v : Word), src.ok = true → s.applies src (TDCTL.WHOLE.adr g k) = true → v.toNat.testBit 31 = true →
      (s.ts g k).st = .idle → (s.ts g k).req.isSome = true →
      ∃ u, exec (.tdctlWrite t src g k v) s = .next u ∧ u = { s with now := u.now, regs := u.regs, slot := u.slot, sched := u.sched } ∧
        u.rd TDCTL.EN g k = 1 ∧ u.rd TDCTL.PRIO g k = v.toNat / 2 ^ 27 % 8 ∧ u.rd TDCTL.TRIG g k = v.toNat % 2 ^ 16 ∧
        (u.ts g k).st = .ready ∧ (∀ a, a ≠ TDCTL.WHOLE.adr g k → u.reg a = s.reg a))) ∧
  (∀ (t : Nat) (s : State), ∃ u, exec (.slackRecompute t) s = .next u ∧ u = { s with now := u.now, regs := u.regs, rel := u.rel } ∧
    (∀ g k, g < 64 → k < 64 →
      (s.dlUsable g k = false → u.rd TSLACK.SLACK g k = 0x80000000) ∧
      (s.dlUsable g k = true → (∀ h, h < 64 → h ≠ k → s.on TDCTL.EN g h = false ∧ s.dlUsable g h = false) →
        s.on TDCTL.MPRECISE g k = false →
        let x : Int := ((s.rd DLREC.WORD g (4 * k + 1) : Int) * 3276800 -
          s.slackK g * (29120 + 50 * s.rd DLREC.WORD g (4 * k + 2) + 15120 * (s.rd DLREC.WORD g (4 * k + 3) / 16 % 4096))) / 204800
        u.rd TSLACK.SLACK g k = ofSigned 32 (satSigned 32 x) ∧ u.rd SLACKMIN.SLACK g = ofSigned 32 (satSigned 32 x) ∧
        u.rd SLACKSLOT.VALID g = 1 ∧ u.rd SLACKSLOT.SLOT g = k)))

/-- The routers (R131, R134, R135): the head of a FIFO goes where its cached entry says; a missing entry is read from the table in
shared SRAM, cached and then used; with EFCTL.EN = 0 the event is discarded and counted. Cached entries (R136 to R138, R153):
an INVAL is taken up, and refused while one is in progress; its end drops the lines it names in every router; a visit of the
coherence pass passes over a line that holds nothing; clearing EFCTL.EN empties every cache. The model's own choices it rests
on: log entries 1, 32, 33, 34, 35, 137. -/
def Obligations.EventRouting : Prop :=
  (∀ (t r : Nat) (ev : Ev) (f : List (Ev × Bool)) (s : State), r < 69 → (s.router r).fifo = (ev, false) :: f →
    let g (w : Nat) := w / 2 ^ 22 % 64
    let arrives (w : Nat) : Arrival := ⟨s.fromPort ev, g w, w / 2 ^ 16 % 64, w / 2 ^ 12 % 16, ev⟩
    (s.on EFCTL.EN = false → (s.router r).fill = none → ∃ u, exec (.routerRouteEvent t r) s = .next u ∧
      (u.router r).fifo = f ∧ u.rd UNROUTED.COUNT = satTo 0xFFFFFFFF (s.rd UNROUTED.COUNT + 1) ∧
      u.fab.arrivals = s.fab.arrivals ∧ u.mem = s.mem ∧ u.eng = s.eng) ∧
    (∀ l w1, s.on EFCTL.EN = true → (s.router r).fill = none → (s.router r).route = [⟨l, ev.id, 0x80000000 + w1, 0, 0⟩] →
      w1 < 2 ^ 28 → w1.testBit 11 = false → s.isolated (s.phys (g w1)) = false → s.evLost ev = false →
      ∃ u, exec (.routerRouteEvent t r) s = .next u ∧ (u.router r).fifo = f ∧ u.fab.arrivals = s.fab.arrivals ++ [arrives w1] ∧
        u.regs = s.regs ∧ u.mem = s.mem ∧ u.eng = s.eng) ∧
    (∀ w1, s.on EFCTL.EN = true → (s.router r).fill = some false → ev.id < 8192 → s.rd ROUTEBASE.BASE ≤ 0x17E →
      s.isolated (68 + (s.rd ROUTEBASE.BASE * 2 ^ 16 + 8 * ev.id) / 0x40000) = false →
      s.mem.poisoned [(s.rd ROUTEBASE.BASE * 2 ^ 16 + 8 * ev.id) / 8] = false →
      s.mem.sramBytes (s.rd ROUTEBASE.BASE * 2 ^ 16 + 8 * ev.id) 8 = toBytes 8 (0x80000000 + w1) → w1 < 2 ^ 28 →
      w1.testBit 11 = false → s.isolated (s.phys (g w1)) = false → s.evLost ev = false → s.isolated (routerPort r) = false →
      ∃ u, exec (.routerFillDone t r .clean) s = .next u ∧ (u.router r).fifo = f ∧ (u.router r).fill = none ∧
        u.fab.arrivals = s.fab.arrivals ++ [arrives w1] ∧ (∃ l ∈ (u.router r).route, l.id = ev.id ∧ l.w0 = 0x80000000 + w1) ∧
        u.regs = s.regs ∧ u.mem = s.mem)) ∧
  (∀ (t i : Nat) (src : Src) (v : Word) (s : State), src.ok = true → s.applies src (INVAL.WHOLE.adr 0 0) = true →
    s.applies src (EFCTL.WHOLE.adr 0 0) = true → i < 8192 →
    let taken (c : Instr) (k x : Nat) : Prop :=
      (s.fab.inval = none → ∃ u, exec c s = .next u ∧ u = { s with now := u.now, regs := u.regs, fab := u.fab } ∧
        u.fab = { s.fab with inval := some (k, x) } ∧ u.on INVALSTAT.BUSY = true) ∧
      (s.fab.inval ≠ none → ∃ u, exec c s = .next u ∧ onlyRegs s u ∧ u.on INVALSTAT.REFUSED = true)
    taken (.invalRouteEntry t src i) 0 i ∧ taken (.invalDescriptor t src i) 1 i ∧ taken (.invalAllRoutes t src) 2 0 ∧
    taken (.invalAllDescriptors t src) 3 0 ∧
    (∀ k, s.fab.inval = some (k, i) → ∃ u, exec (.invalDone t) s = .next u ∧ u.fab.inval = none ∧ u.on INVALSTAT.BUSY = false ∧
      u.rd INVALSTAT.DONECNT = (s.rd INVALSTAT.DONECNT + 1) % 2 ^ 16 ∧
      (k = 0 → ∀ r, r < 69 → (u.router r).route = (s.router r).route.filter (fun l => l.id != i) ∧ (u.router r).desc = (s.router r).desc) ∧
      (k = 2 → ∀ r, r < 69 → (u.router r).route = [] ∧ (u.router r).desc = (s.router r).desc) ∧
      (k = 3 → ∀ r, r < 69 → (u.router r).desc = [] ∧ (u.router r).route = (s.router r).route) ∧
      (∀ r, r < 69 → (u.router r).fifo = (s.router r).fifo)) ∧
    (v.toNat % 2 = 0 → ∃ u, exec (.efctlEnWrite t src v) s = .next u ∧ u.on EFCTL.EN = false ∧
      (∀ r, r < 69 → (u.router r).route = [] ∧ (u.router r).desc = [] ∧ (u.router r).fifo = (s.router r).fifo) ∧ u.mem = s.mem) ∧
    (∀ n, s.on BOOTSTAT.DONE = true → s.fab.cohLine = n → n < 3264 → 16 ≤ n % 48 → (s.router (n / 48)).route = [] →
      ∃ u, exec (.coherenceVisit t .clean) s = .next u ∧ u = { s with now := u.now, fab := u.fab } ∧
        u.fab = { s.fab with cohLine := n + 1 }) ∧
    (∀ n w x, let a := s.rd ROUTEBASE.BASE * 2 ^ 16 + 8 * i
      s.on BOOTSTAT.DONE = true → s.fab.cohLine = n → 3264 ≤ n → n < 3391 → (s.router 68).route = [⟨n - 3264, i, w, 0, x⟩] →
      s.rd ROUTEBASE.BASE ≤ 0x17E → s.isolated 211 = false → s.isolated (68 + a / 0x40000) = false →
      s.mem.poisoned [a / 8] = false → ofBytes (s.mem.sramBytes a 4) ≠ w →
      ∃ u, exec (.coherenceVisit t .clean) s = .next u ∧ u.fab.cohLine = n + 1 ∧
        u.rd STALECNT.COUNT = satTo 0xFFFFFFFF (s.rd STALECNT.COUNT + 1) ∧
        ((u.router 68).route.map (fun l => (l.id, l.w0))) = [(i, ofBytes (s.mem.sramBytes a 4))] ∧ u.mem = s.mem))

/-! ### Channels (chapters 6 and 7) -/

/-- Orders to a channel that is no member of a pair (R156, R160, R162). GO to a stopped channel, in a mode whose counter runs and
with PRD of at least 8 ns, makes it START_PENDING with S at the first whole nanosecond of its edge timebase at or after 100 ns
from now; with a shorter PRD it is refused with BADPRD, and in OFF it is ignored; ARM arms a stopped channel with a trigger
source; STOP ends a run with its period and STOPNOW 40 ns from now; either puts an armed or pending one in STOPPED. A trigger
and a start (R160, R161). A capture that was accepted triggers an armed channel: S is its instant and TRIGDLY, and a further
trigger while one waits counts as OSMISS. At S a one-shot run starts with the values of the shadow registers once their set is
legal, INIT sets the level, OSCNT is loaded and ZERO is raised; an illegal set refuses the start with BADPRD and leaves the
active set and the state of before. The model's own choices it rests on: log entries 1, 40, 41, 42, 49, 145, 147. -/
def Obligations.RunsStart : Prop :=
  (∀ (t n : Nat) (src : Src) (w : Word) (s : State), n < 1024 → src.ok = true → s.now ≤ t →
    s.applies src (CHCTL.WHOLE.adr n 0) = true → s.paired n = false → CHCTL.STOPNOW.of w = 0 →
    let m := CHCTL.MODE.of w
    let st := s.rd CHSTAT.STATE n
    let own (u : State) : Prop := onlyChan s u n ∧ regsKept s u [CHCTL.WHOLE.adr n 0, CHSTAT.WHOLE.adr n 0] ∧
      u.rd CHCTL.ACTZ n = CHCTL.ACTZ.of w ∧ u.rd CHCTL.ACTA n = CHCTL.ACTA.of w ∧ u.rd CHCTL.ACTB n = CHCTL.ACTB.of w
    (s.flyTail n = none → CHCTL.STOP.of w = 0 → st = 0 → (1 ≤ m ∧ m ≤ 3 ∨ 8 ≤ m ∧ m ≤ 12) →
      ns 8 ≤ s.rd PRD.VALUE n * 2 ^ CHCTL.CUNIT.of w →
      ∃ u x, exec (.chctlGo t src n w) s = .next u ∧ own u ∧ u.rd CHSTAT.STATE n = 4 ∧ u.rd CHCTL.MODE n = m ∧
        u.rd CHCTL.CUNIT n = CHCTL.CUNIT.of w ∧ u.ch n = { s.ch n with run := { (s.ch n).run with start := some x } } ∧
        x.s % 64 = 0 ∧ u.etbNow n + u.espan n (ns 100) ≤ x.s ∧ x.s < u.etbNow n + u.espan n (ns 100) + 64 ∧
        x.d = some (u.etbNow n) ∧ x.trig = false ∧ x.prev = 0 ∧ x.held = false) ∧
    (s.flyTail n = none → CHCTL.STOP.of w = 0 → st = 0 → (1 ≤ m ∧ m ≤ 3 ∨ 8 ≤ m ∧ m ≤ 12) →
      s.rd PRD.VALUE n * 2 ^ CHCTL.CUNIT.of w < ns 8 →
      ∃ u, exec (.chctlGo t src n w) s = .next u ∧ chanEvents s u n ∧ regsKeptEv s u [CHCTL.WHOLE.adr n 0] ∧
        u.ch n = s.ch n ∧ u.rd CHSTAT.STATE n = 0 ∧ raised s u t [⟨6 * n + 5, s.fineAt 0 t, 9 * 2 ^ 24, false, false⟩]) ∧
    (s.flyTail n = none → CHCTL.STOP.of w = 0 → st = 0 → m = 0 →
      ∃ u, exec (.chctlGo t src n w) s = .next u ∧ own u ∧ u.ch n = s.ch n ∧ u.rd CHSTAT.STATE n = 0) ∧
    (CHCTL.STOP.of w = 0 → CHCTL.GO.of w = 0 → (st = 0 ∧ (1 ≤ m ∧ m ≤ 3 ∨ 8 ≤ m ∧ m ≤ 12) ∧
        ns 8 ≤ s.rd PRD.VALUE n * 2 ^ CHCTL.CUNIT.of w ∨ st = 3 ∧ s.rd CHCTL.MODE n = 2 ∧
        ns 8 ≤ s.rd PRD.VALUE n * 2 ^ s.rd CHCTL.CUNIT n) →
      ∃ u, exec (.chctlArm t src n w) s = .next u ∧ own u ∧ u.ch n = s.ch n ∧
        u.rd CHSTAT.STATE n = (if s.rd TRIGCTL.SRC n = 0 then st else 1)) ∧
    (st = 2 → ∃ u, exec (.chctlStop t src n w) s = .next u ∧ own u ∧ u.rd CHSTAT.STATE n = 2 ∧
      u.ch n = { s.ch n with run := { (s.ch n).run with stop := true } }) ∧
    (st = 2 → (s.ch n).run.stopNow = none → ∃ u, exec (.chctlStopnow t src n w) s = .next u ∧ own u ∧ u.rd CHSTAT.STATE n = 2 ∧
      u.ch n = { s.ch n with run := { (s.ch n).run with stopNow := some (t + ns 40) } }) ∧
    (st = 1 ∨ st = 4 → (s.gr (n / 8)).brake = false →
      let dropped (u : State) : Prop := u = { s with now := u.now, regs := u.regs, chan := u.chan } ∧
        (∀ m, m ≠ n → u.ch m = s.ch m) ∧ u.rd CHSTAT.STATE n = 0 ∧ (u.ch n).pin.lvl = (s.ch n).pin.lvl ∧
        (u.ch n).run = { (s.ch n).run with start := none, trig := none } ∧ (u.ch n).dl = (s.ch n).dl ∧
        (∀ b, b ∉ [CHCTL.WHOLE.adr n 0, CHSTAT.WHOLE.adr n 0, PWMSTAT.WHOLE.adr n 0, FORCEST.WHOLE.adr n 0] →
          (∀ k, k < 128 → b ≠ FSSTAT.WHOLE.adr k 0) → u.reg b = s.reg b)
      (∃ u, exec (.chctlStop t src n w) s = .next u ∧ dropped u) ∧ (∃ u, exec (.chctlStopnow t src n w) s = .next u ∧ dropped u))) ∧
  (∀ (t n : Nat) (s : State), n < 1024 → s.now ≤ t → s.paired n = false →
    (∀ a, s.rd TRIGCTL.SRC n = 1 → (s.ch n).run.capTok = some a → 1 ≤ s.rd CHCTL.MODE n → s.rd CHCTL.MODE n ≤ 3 →
      ns 8 ≤ s.rd PRD.VALUE n * 2 ^ s.rd CHCTL.CUNIT n →
      ((s.ch n).run.trig = none → s.rd CHSTAT.STATE n = 1 →
        ∃ u x, exec (.triggerDetect t n) s = .next u ∧ onlyChan s u n ∧ regsKept s u [CHSTAT.WHOLE.adr n 0] ∧
          u.rd CHSTAT.STATE n = 4 ∧ u.ch n = { s.ch n with run := { (s.ch n).run with capTok := none, trig := some x } } ∧
          x.s = s.fineAt (s.etb n) a + ns (s.rd TRIGDLY.DELAY n) ∧ x.d = some (u.etbNow n) ∧ x.trig = true) ∧
      (∀ y, (s.ch n).run.trig = some y →
        ∃ u, exec (.triggerDetect t n) s = .next u ∧ chanEvents s u n ∧ regsKeptEv s u [OSSTAT.WHOLE.adr n 0] ∧
          u.rd OSSTAT.OSMISS n = satTo 0xFFFF (s.rd OSSTAT.OSMISS n + 1) ∧ (u.ch n).run.trig = some y ∧
          raised s u t [⟨6 * n + 5, s.fineAt 0 t, 0xA * 2 ^ 24, false, false⟩])) ∧
    (∀ x, (s.ch n).run.start = some x → (s.ch n).run.trig = none → s.flyTail n = none → x.held = false →
      x.s ≤ s.fineAt (s.etb n) t → s.rd CHSTAT.STATE n = 4 → s.rd CHCTL.MODE n = 2 → s.rd PWMCTL.EVDIV n = 0 →
      (s.ch n).pin.fwait = none → (∀ k, k < 256 → s.on KCTL.RAMPEN k = false) →
      (ns 8 ≤ s.rd PRD.VALUE n * 2 ^ s.rd CHCTL.CUNIT n → (∀ d, x.d = some d → d + (s.advance t).espan n (ns 40) ≤ x.s) → x.s < 2 ^ 64 →
        ∃ u, exec (.runStart t n) s = .next u ∧ chanEvents s u n ∧ u.rd CHSTAT.STATE n = 2 ∧
          regsKeptEv s u [CHSTAT.WHOLE.adr n 0, ACTPRD.WHOLE.adr n 0, ACTCMPA.WHOLE.adr n 0, ACTCMPB.WHOLE.adr n 0,
            ACTDTIME.WHOLE.adr n 0, PWMSTAT.WHOLE.adr n 0, OSSTAT.WHOLE.adr n 0, PSTART_LO.WHOLE.adr n 0,
            PSTART_HI.WHOLE.adr n 0, TRIPSTAT.WHOLE.adr n 0] ∧
          u.rd ACTPRD.VALUE n = s.rd PRD.VALUE n ∧ u.rd ACTCMPA.VALUE n = s.rd CMPA.VALUE n ∧
          u.rd ACTCMPB.VALUE n = s.rd CMPB.VALUE n ∧ u.on PWMSTAT.SHPEND n = false ∧ u.rd OSSTAT.OSCNT n = s.rd OSCTL.OSN n ∧
          u.rd64 PSTART_LO.VALUE PSTART_HI.VALUE n = x.s ∧ u.rd CHSTAT.STARTLATE n = s.rd CHSTAT.STARTLATE n ∧
          (u.ch n).pin.lvl = s.on PINCTL.INIT n ∧ (u.ch n).run.start = none ∧ (u.ch n).run.k = 0 ∧ (u.ch n).run.pk = x.s ∧
          (u.ch n).run.pend = x.s + s.rd PRD.VALUE n * 2 ^ s.rd CHCTL.CUNIT n ∧ (u.ch n).run.tb = s.etb n ∧
          (u.ch n).run.plan = u.actions n x.s ∧
          raised s u t [⟨6 * n, (s.advance t).tsOf (s.etb n) x.s, s.rd OSCTL.OSN n, false, false⟩]) ∧
      (s.rd PRD.VALUE n * 2 ^ s.rd CHCTL.CUNIT n < ns 8 →
        ∃ u, exec (.runStart t n) s = .next u ∧ chanEvents s u n ∧ regsKeptEv s u [CHSTAT.WHOLE.adr n 0] ∧
          u.rd CHSTAT.STATE n = x.prev % 8 ∧ u.ch n = { s.ch n with run := { (s.ch n).run with start := none } } ∧
          raised s u t [⟨6 * n + 5, s.fineAt 0 t, 9 * 2 ^ 24, false, false⟩])))

/-- The running counter of a channel without a carrier (R157, R158, R161, R162): at the end of a period PERIOD is raised, and
either the next period begins there with its ZERO, or the run ends with STOP or, in ONESHOT, with the period that brings OSCNT
to 0; CMP_A and CMP_B are raised once at their instants; a planned edge goes to the delay line 16 ns ahead; a STOPNOW ends the
run without PERIOD and cancels the counter's later edges alone. A change of R, and shadow loads (R178, R181 to R184). The fall
of R in EDGE raises CMP_A; at a latch point pending values become active together unless HOLD holds them, and the next period
is fixed; LOADALL opens the gate of each running channel of the group with LAG; a pair is made of two stopped channels on one
edge timebase in a carrier mode, and else PAIR stays 0. The model's own choices it rests on: log entries 1, 42, 45, 47, 50,
145. -/
def Obligations.RunningCounters : Prop :=
  (∀ (t n : Nat) (s : State), n < 1024 → s.now ≤ t → s.paired n = false → s.rd CHSTAT.STATE n = 2 → s.rd CHCTL.MODE n ≤ 3 →
    s.rd PWMCTL.EVDIV n = 0 →
    let r := (s.ch n).run
    let a := s.advance t
    let ts (v : Nat) : Nat := a.tsOf r.tb v
    let os := s.rd OSSTAT.OSCNT n
    ((s.ch n).pin.fwait = none → (s.ch n).pin.safeLeave = false → (∀ k, k < 256 → s.on KCTL.RAMPEN k = false) →
      r.pend ≤ s.fineAt r.tb t →
      (∀ x, r.stop = false → s.rd CHCTL.MODE n = 1 → r.nxt = some x → r.tb = s.etb n → r.pend < 2 ^ 64 →
        ∃ u, exec (.counterPeriodBoundary t n) s = .next u ∧ chanEvents s u n ∧
          regsKeptEv s u [PSTART_LO.WHOLE.adr n 0, PSTART_HI.WHOLE.adr n 0, TRIPSTAT.WHOLE.adr n 0] ∧ u.rd CHSTAT.STATE n = 2 ∧
          (u.ch n).run.k = r.k + 1 ∧ (u.ch n).run.pk = r.pend ∧ (u.ch n).run.pend = x.pend ∧ (u.ch n).dl = (s.ch n).dl ∧
          u.rd64 PSTART_LO.VALUE PSTART_HI.VALUE n = r.pend ∧
          raised s u t [⟨6 * n + 1, ts r.pend, os, false, false⟩, ⟨6 * n, ts r.pend, os, false, false⟩]) ∧
      (r.stop = true → s.rd CHCTL.MODE n = 1 → r.tb = s.etb n →
        ∃ u, exec (.counterPeriodBoundary t n) s = .next u ∧ chanEvents s u n ∧
          regsKeptEv s u [CHSTAT.WHOLE.adr n 0, TRIPSTAT.WHOLE.adr n 0] ∧ u.rd CHSTAT.STATE n = 0 ∧
          (u.ch n).dl.pend = (s.ch n).dl.pend.filter (fun e => e.org != .counter || decide (e.at_ < r.pend)) ∧
          (u.ch n).pin.lvl = (s.ch n).pin.lvl ∧ raised s u t [⟨6 * n + 1, ts r.pend, os, false, false⟩]) ∧
      (r.stop = false → s.rd CHCTL.MODE n = 2 → r.nxt.isSome = true → os = 1 →
        ∃ u, exec (.counterPeriodBoundary t n) s = .next u ∧ chanEvents s u n ∧
          regsKeptEv s u [CHSTAT.WHOLE.adr n 0, OSSTAT.WHOLE.adr n 0, TRIPSTAT.WHOLE.adr n 0] ∧ u.rd OSSTAT.OSCNT n = 0 ∧
          u.rd CHSTAT.STATE n = (if s.on OSCTL.REARM n then 1 else 3) ∧
          raised s u t [⟨6 * n + 1, ts r.pend, 0, false, false⟩])) ∧
    (let v := r.pk + r.offA
     r.aDone = false → v ≤ s.fineAt r.tb t →
      ∃ u, exec (.counterCmpa t n) s = .next u ∧ chanEvents s u n ∧ regsKeptEv s u [] ∧
        (r.offA < r.offP → u.ch n = { s.ch n with run := { r with aDone := true } } ∧
          raised s u t [⟨6 * n + 2, ts v, os, false, false⟩]) ∧
        (r.offP ≤ r.offA → u = s.advance t)) ∧
    (let v := r.pk + r.offB
     r.bDone = false → v ≤ s.fineAt r.tb t → r.offB < r.offP →
      ∃ u, exec (.counterCmpb t n) s = .next u ∧ chanEvents s u n ∧ regsKeptEv s u [] ∧
        u.ch n = { s.ch n with run := { r with bDone := true } } ∧ raised s u t [⟨6 * n + 3, ts v, os, false, false⟩]) ∧
    (∀ p q, r.plan = p :: q → p.low = false → r.tb = s.etb n → a.planAt n p ≤ s.fineAt r.tb t + a.espan n (ns 16) →
      (s.ch n).dl.pend = [] → (s.ch n).dl.lastAt = none →
      ∃ u, exec (.compareEdgeCommit t n) s = .next u ∧ onlyChan s u n ∧ u.regs = s.regs ∧ (u.ch n).run.plan = q ∧
        (u.ch n).dl.pend = [⟨a.planAt n p, p.act, .counter, p.both, p.meas⟩] ∧ (u.ch n).pin = (s.ch n).pin) ∧
    (∀ b, r.stopNow = some b → b ≤ t →
      ∃ u, exec (.stopnowRunEnd t n) s = .next u ∧ onlyChan s u n ∧
        regsKept s u [CHSTAT.WHOLE.adr n 0, PWMSTAT.WHOLE.adr n 0, FORCEST.WHOLE.adr n 0] ∧
        u.rd CHSTAT.STATE n = 0 ∧ (u.ch n).run.plan = [] ∧ (u.ch n).run.stop = false ∧ (u.ch n).run.stopNow = none ∧
        (u.ch n).pin.lvl = (s.ch n).pin.lvl ∧
        (u.ch n).dl.pend = (s.ch n).dl.pend.filter (fun e => e.org != .counter || decide (e.at_ ≤ s.fineAt (s.etb n) t)))) ∧
  (∀ (t n : Nat) (s : State), n < 1024 → s.now ≤ t →
    let r := (s.ch n).run
    let a := s.advance t
    (∀ x q, s.paired n = false → s.rd CHSTAT.STATE n = 2 → s.rd CHCTL.MODE n = 8 → s.rd PWMCTL.EVDIV n = 0 → r.r = true →
      r.shape = (x, false) :: q → r.pk < x → x ≤ s.fineAt r.tb t →
      ∃ u, exec (.carrierRefChange t n) s = .next u ∧ chanEvents s u n ∧ regsKeptEv s u [] ∧
        u.ch n = { s.ch n with run := { r with shape := changes false q, r := false } } ∧
        raised s u t [⟨6 * n + 2, a.tsOf r.tb x, s.rd OSSTAT.OSCNT n, false, false⟩]) ∧
    (s.paired n = false → s.rd CHSTAT.STATE n = 2 → s.rd CHCTL.MODE n = 1 → r.nxt = none → r.stop = false → r.skip = 0 →
      r.pend ≤ s.fineAt r.tb t + a.rspan n (ns 40) → (s.gr (n / 8)).graces = [] → s.on PWMSTAT.SHPEND n = true →
      (s.on PWMCTL.HOLD n = false → s.on PWMCTL.LAG n = false →
        ∃ u, exec (.shadowLatchPoint t n) s = .next u ∧ onlyChan s u n ∧
          regsKept s u [ACTPRD.WHOLE.adr n 0, ACTCMPA.WHOLE.adr n 0, ACTCMPB.WHOLE.adr n 0, ACTDTIME.WHOLE.adr n 0, PWMSTAT.WHOLE.adr n 0] ∧
          u.rd ACTPRD.VALUE n = s.rd PRD.VALUE n ∧ u.rd ACTCMPA.VALUE n = s.rd CMPA.VALUE n ∧
          u.rd ACTCMPB.VALUE n = s.rd CMPB.VALUE n ∧ u.rd ACTDTIME.DTR n = s.rd DTIME.DTR n ∧
          u.rd ACTDTIME.DTF n = s.rd DTIME.DTF n ∧ u.rd PWMSTAT.SHPEND n = 0 ∧
          u.rd PWMSTAT.LOADS n = (s.rd PWMSTAT.LOADS n + 1) % 2 ^ 8 ∧
          (u.ch n).run.nxt = some ⟨r.pend + s.rd PRD.VALUE n * 2 ^ s.rd CHCTL.CUNIT n, [], 0⟩ ∧
          (u.ch n).run.plan = r.plan ++ u.actions n r.pend) ∧
      (s.on PWMCTL.HOLD n = true →
        ∃ u, exec (.shadowLatchPoint t n) s = .next u ∧ onlyChan s u n ∧ u.regs = s.regs ∧
          (u.ch n).run.nxt = some ⟨r.pend + s.rd ACTPRD.VALUE n * 2 ^ s.rd CHCTL.CUNIT n, [], 0⟩ ∧
          (u.ch n).run.plan = r.plan ++ s.actions n r.pend)) ∧
    (∀ src w, src.ok = true → s.applies src (GLOAD.WHOLE.adr (n / 8) 0) = true → s.paired n = false →
      ∃ u, exec (.gloadLoadall t src (n / 8) w) s = .next u ∧ u = { s with now := u.now, regs := u.regs, chan := u.chan } ∧
        regsKept s u [GLDSTAT.WHOLE.adr (n / 8) 0] ∧ u.rd GLDSTAT.COUNT (n / 8) = (s.rd GLDSTAT.COUNT (n / 8) + 1) % 2 ^ 16 ∧
        u.ch n = (if s.on PWMCTL.LAG n ∧ (s.rd CHSTAT.STATE n = 2 ∨ s.rd CHSTAT.STATE n = 4)
          then { s.ch n with run := { r with gate := true } } else s.ch n) ∧
        ∀ m, m / 8 ≠ n / 8 → u.ch m = s.ch m) ∧
    (∀ src w, src.ok = true → s.applies src (PWMCTL.WHOLE.adr n 0) = true → n % 2 = 0 → s.paired n = false →
      s.rd CHSTAT.STATE n = 0 → PWMCTL.PAIR.of w = 1 →
      ∃ u, exec (.pwmctlPairWrite t src n w) s = .next u ∧ u = { s with now := u.now, regs := u.regs, chan := u.chan } ∧
        (∀ m, m ≠ n → m ≠ n + 1 → u.ch m = s.ch m) ∧ regsKept s u [PWMCTL.WHOLE.adr n 0] ∧
        u.rd PWMCTL.DTMODE n = PWMCTL.DTMODE.of w ∧ u.rd PWMCTL.EVDIV n = PWMCTL.EVDIV.of w ∧
        u.rd PWMCTL.MINPW n = (if PWMCTL.MINPW.of w < 4 then 4 else PWMCTL.MINPW.of w) ∧
        (u.paired n = true ↔ s.rd CHSTAT.STATE (n + 1) = 0 ∧ s.etb n = s.etb (n + 1) ∧ 8 ≤ s.rd CHCTL.MODE n ∧ s.rd CHCTL.MODE n ≤ 12)))

/-- Capture (R164, R166). A change of the pin starts a run on the filter; a level that has held for the filter time and passes the
gate, the edge selection and the prescaler is captured at the start of its run: CAPNEW shifts into CAPOLD, CAPSEQ counts and
CAPTURE is raised with that instant; a transition the gate refuses counts in REJ; a write of CAPCTL clears the validity of the
measurements. Load estimates and charge time (R169, R171 to R173). A measured edge of more than 500 ns sets LOADEST.SLOW and
raises LOADSLOW. A reading at or above TOUCH for the last of DEB times declares a touch with CMP_A; one between the thresholds
moves the baseline by its deviation shifted by TRK; a touch longer than MAXT re-bases, releases with STUCK and raises
CTM_STUCK. The model's own choices it rests on: log entries 1, 43, 44, 131, 146. -/
def Obligations.Capture : Prop :=
  (∀ (t n : Nat) (s : State), n < 1024 → s.now ≤ t →
    let c := (s.ch n).cap
    let filt := ns (if s.rd CAPFILT.FILT n < 4 then 4 else s.rd CAPFILT.FILT n)
    (∀ l, l ≠ c.pin → ∃ u, exec (.pinTransition t n l) s = .next u ∧
      u = { s with now := u.now, regs := u.regs, chan := u.chan, grp := u.grp } ∧ (∀ m, m ≠ n → u.ch m = s.ch m) ∧
      regsKept s u [CAPSTAT.WHOLE.adr n 0] ∧ (u.ch n).cap.pin = l ∧ (u.ch n).cap.runAt = t ∧
      (u.ch n).cap.seen = c.seen ∧ (u.ch n).pin = (s.ch n).pin ∧ (u.ch n).run = (s.ch n).run ∧
      u.rd CAPSTAT.GLITCH n = (if s.on CAPCTL.EN n ∧ s.mode n ≠ 4 ∧ s.pw.deep = false ∧ c.runAt ≠ 0 ∧ t < c.runAt + filt
        then satTo 0xFF (s.rd CAPSTAT.GLITCH n + 1) else s.rd CAPSTAT.GLITCH n)) ∧
    (s.pw.deep = false → s.on SPINESTAT.CALDONE = true → s.on CAPCTL.EN n = true → s.mode n ≠ 4 → c.pin ≠ c.acc → c.runAt + filt ≤ t →
      (s.rd CAPCTL.GATE n ≠ 1 → s.rd CAPCTL.EDGE n = 2 → s.rd CAPCTL.PRESC n = 0 → c.pre = 0 →
        ∃ u, exec (.captureAccept t n) s = .next u ∧ u.rd CAPSEQ.SEQ n = (s.rd CAPSEQ.SEQ n + 1) % 2 ^ 32 ∧
          u.rd64 CAPNEW_LO.VALUE CAPNEW_HI.VALUE n = s.fineAt (s.rd CAPCTL.CTB n) c.runAt % 2 ^ 64 ∧
          u.rd64 CAPOLD_LO.VALUE CAPOLD_HI.VALUE n = s.rd64 CAPNEW_LO.VALUE CAPNEW_HI.VALUE n ∧
          u.rd CAPSTAT.NEWLVL n = b2n c.pin ∧ u.rd CAPSTAT.OLDLVL n = s.rd CAPSTAT.NEWLVL n ∧ (u.ch n).cap.acc = c.pin ∧
          (c.pin = s.on CAPCTL.MPOL n → ∀ b, c.mpolAt = some b → b ≤ s.fineAt (s.rd CAPCTL.CTB n) c.runAt →
            u.rd MWID.VALUE n = satTo 0xFFFFFFFF (s.fineAt (s.rd CAPCTL.CTB n) c.runAt - b) ∧ u.rd CAPSTAT.WIDV n = 1) ∧
          (c.pin ≠ s.on CAPCTL.MPOL n → ∀ b, c.mpolAt = some b → b ≤ s.fineAt (s.rd CAPCTL.CTB n) c.runAt →
            u.rd MPER.VALUE n = satTo 0xFFFFFFFF (s.fineAt (s.rd CAPCTL.CTB n) c.runAt - b) ∧ u.rd CAPSTAT.PERV n = 1) ∧
          regsKeptEv s u [CAPSTAT.WHOLE.adr n 0, CAPSEQ.WHOLE.adr n 0, CAPNEW_LO.WHOLE.adr n 0, CAPNEW_HI.WHOLE.adr n 0,
            CAPOLD_LO.WHOLE.adr n 0, CAPOLD_HI.WHOLE.adr n 0, MPER.WHOLE.adr n 0, MWID.WHOLE.adr n 0, MPHASE.WHOLE.adr n 0] ∧
          u = { s with now := u.now, regs := u.regs, chan := u.chan, sp := u.sp, fab := u.fab, pw := u.pw, teth := u.teth, tp := u.tp } ∧
          raised s u t [⟨6 * n + 4, s.fineAt 0 c.runAt, b2n c.pin * 2 ^ 23 + (s.rd CAPSEQ.SEQ n + 1) % 2 ^ 32 % 2 ^ 16, false, false⟩]) ∧
      (s.rd CAPCTL.GATE n = 1 → (if c.pin = s.on CAPCTL.MPOL n then c.mpolPass else c.inWin) = false →
        ∃ u, exec (.captureAccept t n) s = .next u ∧ onlyChan s u n ∧ regsKept s u [CAPSTAT.WHOLE.adr n 0] ∧
          u.rd CAPSTAT.REJ n = satTo 0xFFFF (s.rd CAPSTAT.REJ n + 1) ∧ (u.ch n).cap.acc = c.pin)) ∧
    (∀ src w, src.ok = true → s.applies src (CAPCTL.WHOLE.adr n 0) = true → (s.on CAPCTL.EN n = false ∨ CAPCTL.EN.of w = 1) →
      ∃ u, exec (.capctlWrite t src n w) s = .next u ∧ onlyChan s u n ∧ u.rd CAPCTL.EN n = CAPCTL.EN.of w ∧
        u.rd CAPCTL.EDGE n = (if CAPCTL.EDGE.of w = 3 then 2 else CAPCTL.EDGE.of w) ∧ u.rd CAPCTL.PRESC n = CAPCTL.PRESC.of w ∧
        u.rd CAPCTL.CTB n = (if 17 < CAPCTL.CTB.of w then s.rd CAPCTL.CTB n else CAPCTL.CTB.of w) ∧ u.rd CAPSTAT.PERV n = 0 ∧
        u.rd CAPSTAT.WIDV n = 0 ∧ u.rd CAPSTAT.PHV n = 0 ∧ (u.ch n).cap.pre = 0 ∧
        regsKept s u [CAPCTL.WHOLE.adr n 0, CAPSTAT.WHOLE.adr n 0, MPER.WHOLE.adr n 0, MWID.WHOLE.adr n 0, MPHASE.WHOLE.adr n 0])) ∧
  (∀ (t n : Nat) (s : State), n < 1024 → s.now ≤ t →
    let c := (s.ch n).ctm
    (∀ d b, s.on PINCTL.LOADEN n = true → s.mode n ≠ 4 → bitAt (s.rd BANKOESTAT.OE) (n / 64) = true → s.rd PINCTL.OMODE n = 1 →
      c.nEst < 15 → ns 500 < d →
      ∃ u, exec (.loadEdgeMeasured t n d b) s = .next u ∧ chanEvents s u n ∧ regsKeptEv s u [LOADEST.WHOLE.adr n 0] ∧
        u.rd LOADEST.SLOW n = 1 ∧ u.rd LOADEST.VALID n = 0 ∧ (u.ch n).ctm.nEst = c.nEst + 1 ∧
        (u.ch n).ctm.ests = (s.loadEst n d :: c.ests).take 16 ∧
        raised s u t [⟨6 * n + 5, s.fineAt 0 t, 0xD * 2 ^ 24, false, false⟩]) ∧
    (∀ raw, s.mode n = 4 → s.on CTMCTL.EN n = true → bitAt (s.rd BANKOESTAT.OE) (n / 64) = true → s.on CTMSTAT.INIT n = false →
      s.on CTMSTAT.TOUCH n = false → raw < 0xFFFFFFFF → c.slot ≠ some ((s.advance t).ctmSlot n raw) → s.rd CTMTHR.RELEASE n < s.rd CTMTHR.TOUCH n →
      let base := s.rd CTMBASE.VALUE n
      let cap : Ev := ⟨6 * n + 4, s.fineAt 0 t, s.rd CAPSEQ.SEQ n % 65536, false, false⟩
      (base + 64 * s.rd CTMTHR.TOUCH n ≤ raw → c.nTouch + 1 = s.rd CTMCTL.DEB n →
        ∃ u, exec (.ctmReading t n raw) s = .next u ∧ chanEvents s u n ∧
          regsKeptEv s u [CTMRAW.WHOLE.adr n 0, CTMSTAT.WHOLE.adr n 0] ∧ u.rd CTMSTAT.TOUCH n = 1 ∧ u.rd CTMRAW.VALUE n = raw ∧
          (u.ch n).ctm.since = t ∧
          raised s u t [⟨6 * n + 2, s.fineAt 0 t, s.rd OSSTAT.OSCNT n, false, false⟩, { cap with detail := 2 ^ 23 + cap.detail }]) ∧
      (base ≤ raw → raw < base + 64 * s.rd CTMTHR.TOUCH n → base < raw + 64 * s.rd CTMTHR.RELEASE n →
        ∃ u, exec (.ctmReading t n raw) s = .next u ∧ chanEvents s u n ∧
          regsKeptEv s u [CTMRAW.WHOLE.adr n 0, CTMSTAT.WHOLE.adr n 0, CTMBASE.WHOLE.adr n 0] ∧ u.rd CTMSTAT.TOUCH n = 0 ∧
          u.rd CTMBASE.VALUE n = base + (raw - base) / 2 ^ s.rd CTMCTL.TRK n ∧ raised s u t [cap])) ∧
    (s.mode n = 4 → s.on CTMSTAT.TOUCH n = true → c.since + ms (1000 * s.rd CTMMAXT.MAXT n) < t →
      ∃ u, exec (.ctmMaxtExpiry t n) s = .next u ∧ chanEvents s u n ∧
        regsKeptEv s u [CTMBASE.WHOLE.adr n 0, CTMSTAT.WHOLE.adr n 0] ∧ u.rd CTMBASE.VALUE n = c.good % 2 ^ 32 ∧
        u.rd CTMSTAT.TOUCH n = 0 ∧ u.rd CTMSTAT.REBASES n = satTo 0xFF (s.rd CTMSTAT.REBASES n + 1) ∧
        u.rd CTMSTAT.STUCKS n = satTo 0xFF (s.rd CTMSTAT.STUCKS n + 1) ∧
        raised s u t [⟨6 * n + 3, s.fineAt 0 t, 2 ^ 22 + s.rd OSSTAT.OSCNT n, false, false⟩,
          ⟨6 * n + 5, s.fineAt 0 t, 0xF * 2 ^ 24, false, false⟩]))

/-- The adaptive dead time and the interlock of a pair (R186, R191, R192). A turn-on that waits is placed GUARD after the sense
shows the far rail, and no sooner than DTMIN after the turn-off, or at DTMAX, which DTMAXCNT counts. Two levels of 1 hold both
switches off for the hold time and are counted and reported; the 16th event within 1,000 µs trips the pair; after the hold the
switch that became 1 last is released once the other's level is 0. The model's own choices it rests on: log entries 1, 53. -/
def Obligations.PairSwitching : Prop :=
  ∀ (t n : Nat) (s : State), n < 1023 → n % 2 = 0 → s.now ≤ t → s.paired n = true →
    let r := (s.ch n).run
    let a := s.advance t
    let dtr := s.rd ACTDTIME.DTR n
    let dtf := if s.rd ACTDTIME.DTF n < dtr then dtr else s.rd ACTDTIME.DTF n
    let p := (s.ch n).pin
    (∀ w b, s.rd PWMCTL.DTMODE n = 3 → r.wait = some w → r.shape = [] → r.nxt = none → a.atFarRail n w.low = true →
      a.nodeAt n = some b →
      let x := (if b < w.off then w.off else b) + ns (s.rd ADTCTL.GUARD n)
      let on_ := if x < w.off + dtr then w.off + dtr else x
      on_ < w.off + dtf →
      ∃ u, exec (.switchNodeSense t n) s = .next u ∧ onlyChan s u n ∧ u.regs = s.regs ∧
        u.ch n = { s.ch n with run := { r with
          wait := none, plan := r.plan ++ [⟨a.runNow n, (on_ : Int) - t, 2, w.low, false, some w.off⟩] } }) ∧
    (∀ w, s.rd PWMCTL.DTMODE n = 3 → r.wait = some w → r.shape = [] → r.nxt = none → w.off + dtf ≤ t →
      ∃ u, exec (.dtmaxExpiry t n) s = .next u ∧ onlyChan s u n ∧ regsKept s u [DTMAXCNT.WHOLE.adr n 0] ∧
        u.rd DTMAXCNT.COUNT n = satTo 0xFFFFFFFF (s.rd DTMAXCNT.COUNT n + 1) ∧
        u.ch n = { s.ch n with run := { r with
          wait := none, plan := r.plan ++ [⟨a.runNow n, 0, 2, w.low, false, some w.off⟩] } }) ∧
    (s.lvl3 n = true → s.lvl3 (n + 1) = true → (p.hOff && p.lOff) = false →
      (((p.ilkAt.take 15).filter (fun x => decide (t ≤ x + ms 1))).length < 15 →
        ∃ u, exec (.interlockBothOn t n) s = .next u ∧ chanEvents s u n ∧
          regsKeptEv s u [PWMSTAT.WHOLE.adr n 0, SHOOTCNT.WHOLE.adr n 0] ∧ u.rd PWMSTAT.SHOOT n = 1 ∧
          u.rd SHOOTCNT.TOTAL n = (s.rd SHOOTCNT.TOTAL n + 1) % 2 ^ 16 ∧ (u.ch n).pin.hOff = true ∧ (u.ch n).pin.lOff = true ∧
          (u.ch n).pin.ilkUntil = some (t + s.ilkHold n) ∧ u.stage5 n ≠ .high ∧ u.stage5 (n + 1) ≠ .high ∧
          raised s u t [⟨6 * n + 5, s.fineAt 0 t, 0x21 * 2 ^ 24 + u.shootWin n, false, false⟩]) ∧
      (((p.ilkAt.take 15).filter (fun x => decide (t ≤ x + ms 1))).length = 15 →
        ∃ u, exec (.interlockBothOn t n) s = .next u ∧ chanEvents s u n ∧
          regsKeptEv s u [PWMSTAT.WHOLE.adr n 0, SHOOTCNT.WHOLE.adr n 0, TRIPSTAT.WHOLE.adr n 0, TRIPSTAT.WHOLE.adr (n + 1) 0] ∧
          u.rd TRIPSTAT.PAIRTRIP n = 1 ∧ u.rd TRIPSTAT.PAIRTRIP (n + 1) = 1 ∧ u.stage5 n = .z ∧ u.stage5 (n + 1) = .z ∧
          raised s u t [⟨6 * n + 5, s.fineAt 0 t, 0x21 * 2 ^ 24 + 16, false, false⟩, ⟨6 * n + 5, s.fineAt 0 t, 0x22 * 2 ^ 24, false, false⟩,
            ⟨7777, s.fineAt 0 t / 64 * 64, n / 8 * 2 ^ 16 + n % 8 / 2, false, false⟩])) ∧
    (∀ x, p.ilkUntil = some x → x ≤ t → p.ilkLast = some true →
      ∃ u, exec (.interlockHoldExpiry t n) s = .next u ∧ onlyChan s u n ∧ u.regs = s.regs ∧
        u.ch n = (if s.lvl3 n then s.ch n else { s.ch n with pin := { p with hOff := false, lOff := false, ilkUntil := none, ilkLast := none } }))

/-- Trip lines in a group without pairs and termination lines (R193 to R196). A line that becomes active trips each channel with
the line in LEN, whose pin goes high-Z, reports each and the activation, and forces the level of each channel with it in CBCEN
alone to 0 outside the blanking window; a line still active when the blanking ends acts then; a clear is refused while a line
in LEN is active. Force orders and safe states (R198 to R200). An order waits 40 ns, or also for a period start of a running
channel, or for FORCEAT; a group order reaches the channels of its mask alone; in effect it stands in FORCEST.CUR until a
RELEASE, which a running channel takes only at a period start. SAFEGO waits 40 ns; an entry sets SAFE on the eight channels,
counts, and is reported for the group and each channel; SAFECLR ends it at once on a stopped channel and at the next period
start on a running one. The model's own choices it rests on: log entries 1, 55. -/
def Obligations.Protection : Prop :=
  (∀ (t n i : Nat) (s : State), n < 1024 → i < 4 → s.now ≤ t →
    (∀ m, m / 8 = n / 8 → s.paired m = false ∧ s.on TERMCTL.TEN m = false) →
    let j := n / 8
    let a := s.advance t
    let act (k : Nat) : Bool := a.lineSrc j k
    let p := (s.ch n).pin
    let own : List Nat := (upFrom (8 * j) 8).map (fun m => TRIPSTAT.WHOLE.adr m 0)
    (act i = true → (s.gr j).act.testBit i = false →
      let hit := (upFrom (8 * j) 8).filter (fun m => (s.rd TRIPCTL.LEN m).testBit i)
      let ts := s.fineAt 0 (s.lineCross j i)
      s.rd TLCFG.TYPE j i ≠ 0 →
      ∃ u, exec (.tripLineActivation t j i) s = .next u ∧
        u = { s with now := u.now, regs := u.regs, chan := u.chan, grp := u.grp, fab := u.fab, pw := u.pw, teth := u.teth, tp := u.tp } ∧
        (∀ m, m / 8 ≠ j → u.ch m = s.ch m) ∧ (∀ k, k ≠ j → u.gr k = s.gr k) ∧ (u.gr j).act.testBit i = true ∧
        regsKeptEv s u (TLSTAT.WHOLE.adr j 0 :: own) ∧ (u.rd TLSTAT.SEEN j).testBit i = true ∧
        ((s.rd TRIPCTL.LEN n).testBit i = true → u.rd TRIPSTAT.TRIPPED n = 1 ∧ (u.rd TRIPSTAT.LLINES n).testBit i = true ∧
          u.stage5 n = .z) ∧
        ((s.rd TRIPCTL.LEN n).testBit i = false → (s.rd TRIPCTL.CBCEN n).testBit i = true →
          (p.onAt = 0 ∨ p.onAt + ns (s.rd TRIPCTL.BLANK n) ≤ s.lineCross j i) →
          u.rd TRIPSTAT.CBCACT n = 1 ∧ u.rd TRIPSTAT.CBCCNT n = satTo 0xFFFF (s.rd TRIPSTAT.CBCCNT n + 1) ∧ u.lvl2 n = false) ∧
        raised s u t (hit.map (fun m => ⟨6 * m + 5, ts, 0x20 * 2 ^ 24 + i, false, false⟩) ++
          (if hit = [] then [] else [⟨7776, ts, j * 2 ^ 16 + i, false, false⟩]))) ∧
    (let e := p.onAt + ns (s.rd TRIPCTL.BLANK n)
     let hits := act i && decide (s.lineCross j i < e)
     p.blanking = true → s.rd TRIPCTL.CBCEN n = 2 ^ i → (s.rd TRIPCTL.LEN n).testBit i = false → e ≤ t → s.rd TLCFG.TYPE j i ≠ 0 →
      ∃ u, exec (.blankWindowEnd t n) s = .next u ∧ onlyChan s u n ∧ regsKept s u [TRIPSTAT.WHOLE.adr n 0] ∧
        (u.ch n).pin.blanking = false ∧ (u.ch n).pin.lvl = p.lvl ∧
        u.rd TRIPSTAT.CBCACT n = (if hits then 1 else s.rd TRIPSTAT.CBCACT n) ∧
        u.rd TRIPSTAT.CBCCNT n = (if hits then satTo 0xFFFF (s.rd TRIPSTAT.CBCCNT n + 1) else s.rd TRIPSTAT.CBCCNT n)) ∧
    (∀ src w, src.ok = true → s.applies src (TRIPCLR.WHOLE.adr n 0) = true →
      ∃ u, exec (.tripclrClr t src n w) s = .next u ∧ onlyChan s u n ∧ regsKept s u [TRIPSTAT.WHOLE.adr n 0] ∧
        ((∀ k, k < 4 → (s.rd TRIPCTL.LEN n).testBit k = true → act k = false) →
          u.rd TRIPSTAT.TRIPPED n = 0 ∧ u.rd TRIPSTAT.PAIRTRIP n = 0 ∧ u.rd TRIPSTAT.LLINES n = 0 ∧
          u.rd TRIPSTAT.CLRREF n = s.rd TRIPSTAT.CLRREF n ∧
          (u.ch n).pin.clrWait = ((s.on TRIPSTAT.TRIPPED n || s.on TRIPSTAT.PAIRTRIP n) && !s.stopped n)) ∧
        ((s.rd TRIPCTL.LEN n).testBit i = true → act i = true →
          u.rd TRIPSTAT.CLRREF n = 1 ∧ u.rd TRIPSTAT.TRIPPED n = s.rd TRIPSTAT.TRIPPED n ∧ u.ch n = s.ch n))) ∧
  (∀ (t n : Nat) (src : Src) (s : State), n < 1024 → src.ok = true → s.now ≤ t →
    let j := n / 8
    let p := (s.ch n).pin
    let waits (u : State) (m : Nat) (w : FWait) : Prop := u.ch m = { s.ch m with pin := { (s.ch m).pin with fwait := some w } }
    (s.applies src (FORCE.WHOLE.adr n 0) = true →
      ∀ c, c = (Instr.forceRelease t src n, 1) ∨ c = (Instr.forceHigh t src n, 2) ∨ c = (Instr.forceLow t src n, 3) ∨
        c = (Instr.forceHiz t src n, 4) →
      (∃ u, exec (c.1 0) s = .next u ∧ onlyChan s u n ∧ u.regs = s.regs ∧ waits u n ⟨c.2, t + ns 40, false, false⟩) ∧
      (s.stopped n = false → ∃ u, exec (c.1 1) s = .next u ∧ onlyChan s u n ∧ u.regs = s.regs ∧ waits u n ⟨c.2, t + ns 40, false, true⟩) ∧
      (let x := ns (s.rd64 FORCEAT_LO.VALUE FORCEAT_HI.VALUE j)
       let soon := s.fineAt 0 t + (s.advance t).span 0 (ns 40)
       (soon ≤ x → ∃ u, exec (c.1 2) s = .next u ∧ onlyChan s u n ∧ u.regs = s.regs ∧ waits u n ⟨c.2, x, true, false⟩) ∧
       (x < soon → ∃ u, exec (c.1 2) s = .next u ∧ onlyChan s u n ∧ regsKept s u [FORCEST.WHOLE.adr n 0] ∧
         u.rd FORCEST.LATE n = 1 ∧ waits u n ⟨c.2, t + ns 40, false, false⟩))) ∧
    (s.applies src (GFORCE.WHOLE.adr j 0) = true → ∀ mask, mask < 256 →
      ∀ c, c = (Instr.gforceRelease t src j 0 mask, 1) ∨ c = (Instr.gforceHigh t src j 0 mask, 2) ∨
        c = (Instr.gforceLow t src j 0 mask, 3) ∨ c = (Instr.gforceHiz t src j 0 mask, 4) →
      ∃ u, exec c.1 s = .next u ∧ u = { s with now := u.now, chan := u.chan } ∧ (∀ m, m / 8 ≠ j → u.ch m = s.ch m) ∧
        (if mask.testBit (n % 8) then waits u n ⟨c.2, t + ns 40, false, false⟩ else u.ch n = s.ch n)) ∧
    (∀ w, p.fwait = some w → s.paired n = false → w.onTb0 = false → w.due ≤ t → 1 ≤ w.ord → w.ord ≤ 4 →
      ((w.period = false ∧ w.ord ≠ 1 ∨ s.stopped n = true) →
        ∃ u, exec (.forceOrderEffect t n) s = .next u ∧ onlyChan s u n ∧ regsKept s u [FORCEST.WHOLE.adr n 0] ∧
          u.rd FORCEST.CUR n = (if w.ord = 1 then 0 else w.ord) ∧ (u.ch n).pin.fwait = none ∧ (u.ch n).pin.lvl = p.lvl) ∧
      (w.ord = 1 ∧ s.stopped n = false → exec (.forceOrderEffect t n) s = .next (s.advance t))) ∧
    (s.applies src (SAFECTL.WHOLE.adr j 0) = true → ∀ w : Word,
      (∃ u, exec (.safectlSafego t src j w) s = .next u ∧
        u = { s with now := u.now, regs := u.regs, chan := u.chan, grp := u.grp } ∧ (∀ m, m / 8 ≠ j → u.ch m = s.ch m) ∧
        (∀ k, k ≠ j → u.gr k = s.gr k) ∧ u.gr j = { s.gr j with safe := (s.gr j).safe ++ [(t + ns 40, 1)] } ∧
        regsKept s u [SAFECTL.WHOLE.adr j 0] ∧ u.rd SAFECTL.SAFEST j = SAFECTL.SAFEST.of w ∧
        u.rd SAFECTL.SAFELVL j = SAFECTL.SAFELVL.of w) ∧
      (SAFECTL.SAFEGO.of w = 0 → s.on SAFESTAT.ACTIVE j = true → (∀ k, k < 128 → s.on LOSSSTAT.LOSS k = false) →
        ∃ u, exec (.safectlSafeclr t src j w) s = .next u ∧ u = { s with now := u.now, regs := u.regs, chan := u.chan } ∧
          (∀ m, m / 8 ≠ j → u.ch m = s.ch m) ∧ u.rd SAFESTAT.ACTIVE j = 0 ∧
          regsKept s u (SAFECTL.WHOLE.adr j 0 :: SAFESTAT.WHOLE.adr j 0 :: (upFrom (8 * j) 8).map (fun m => PWMSTAT.WHOLE.adr m 0)) ∧
          (s.stopped n = true → u.on PWMSTAT.SAFE n = false) ∧
          (s.stopped n = false → u.rd PWMSTAT.SAFE n = s.rd PWMSTAT.SAFE n ∧ (u.ch n).pin.safeLeave = true))) ∧
    (∀ x k q, (s.gr j).safe = (x, k) :: q → x ≤ t → k < 8 →
      ∃ u, exec (.safeStateEffect t j) s = .next u ∧
        u = { s with now := u.now, regs := u.regs, chan := u.chan, grp := u.grp, fab := u.fab, pw := u.pw, teth := u.teth, tp := u.tp } ∧
        (∀ m, m / 8 ≠ j → u.ch m = s.ch m) ∧ u.gr j = { s.gr j with safe := q } ∧ u.rd SAFESTAT.ACTIVE j = 1 ∧
        u.rd SAFESTAT.SRC j = k ∧ u.rd SAFESTAT.COUNT j = (s.rd SAFESTAT.COUNT j + 1) % 2 ^ 16 ∧ u.on PWMSTAT.SAFE n = true ∧
        regsKeptEv s u (SAFESTAT.WHOLE.adr j 0 :: (upFrom (8 * j) 8).map (fun m => PWMSTAT.WHOLE.adr m 0)) ∧
        raised s u t (⟨7778, s.fineAt 0 t / 64 * 64, j * 2 ^ 16 + k, false, false⟩ ::
          (upFrom (8 * j) 8).map (fun m => ⟨6 * m + 5, s.fineAt 0 t, 0x24 * 2 ^ 24 + k, false, false⟩))))

/-! ### The analogue front end (chapter 8) -/

/-- Comparators (R204, R206, R208, R209). The analogue block becomes ready; a cell decides with its hysteresis, a WINDOW on both
cells; a raw change that has held for KFILT reaches the output, sets an enabled latch, is counted, captured with the crossing
instant and reported where EVEDGE selects it; a KCLR write clears the latch of a comparator whose raw output is 0 and is
otherwise refused with CLRREF. SAR converters (R210 to R214). TDIV + 1 announced triggers make one accepted trigger, whose
sequence starts at H_0 = T + DELAY or waits; a GO write's T is 100 ns after it; where the unit cannot take a trigger its
records are MISSED with the intended timestamps. A conversion of an entry gives one record with the hold instant, the code,
and SETTLE after a change of input; a record reaches its place in the ring in one access and SEQ follows. Sigma-delta inputs
(R217 to R222). `x` is the input after the bits that have come. D bits since the last word give one record with ACC >> SHIFT
held to 32 bits, the instant of the window's centre, SETTLE for the first K words after a reset and MODFAULT where the window
holds a bit of a fault; settings written are taken at the first word boundary 40 ns later, which resets the filter; a fault is
counted, and its end, after 256 good bits, resets the filter; the comparator on the input decides on the fast word. The
model's own choices it rests on: log entries 1, 14, 57, 60, 61, 131, 155, 156, 157. -/
def Obligations.Converters : Prop :=
  (∀ (t k : Nat) (s : State), k < 256 → s.now ≤ t →
    let a := s.advance t
    let c := s.kc k
    let own (u : State) : Prop := u = { s with now := u.now, regs := u.regs, kcomp := u.kcomp }
    (s.on ANCTL.EN = true → s.on SUPMON.FAULT 0 3 = false → ∃ u, exec (.analogReady t) s = .next u ∧
      u = { s with now := u.now, regs := u.regs } ∧
      regsKept s u [ANSTAT.WHOLE.adr 0 0] ∧ u.rd ANSTAT.READY = 1 ∧ u.rd ANSTAT.WRFAIL = s.rd ANSTAT.WRFAIL) ∧
    (s.on ANCTL.EN = true → s.on SUPMON.FAULT 0 3 = true → s.on KCTL.EN k = true → s.pw.deep = false →
      ∃ u, exec (.analogReady t) s = .next u ∧ u = { s with now := u.now, regs := u.regs, kcomp := u.kcomp } ∧
        u.rd ANSTAT.READY = 1 ∧ (u.kc k).raw = true) ∧
    (s.on ANCTL.EN = false → exec (.analogReady t) s = .next a) ∧
    (s.on KCTL.SRC k = false → s.kOff k = false → s.on SUPMON.FAULT 0 3 = false → s.pw.deep = false → ∀ nv,
      (s.kMode k ≠ 2 →
        let d : Bool := if s.kMode k = 1 then (if c.cell then !decide (a.kVt k + s.kHys k < nv) else decide (nv < a.kVt k))
          else (if c.cell then !decide (nv + s.kHys k < a.kVt k) else decide (a.kVt k < nv))
        ∃ u, exec (.comparatorCrossing t k nv) s = .next u ∧ own u ∧ (∀ m, m ≠ k → u.kc m = s.kc m) ∧
          regsKept s u [KSTAT.WHOLE.adr k 0] ∧ (u.kc k).cell = d ∧ (u.kc k).raw = d ∧ u.rd KSTAT.OUT k = s.rd KSTAT.OUT k ∧
          (d ≠ c.raw → (u.kc k).rawAt = t ∧ u.rd KSTAT.RAW k = b2n d) ∧ (d = c.raw → u.regs = s.regs ∧ (u.kc k).rawAt = c.rawAt)) ∧
      (s.kMode k = 2 → c.cell = false → (s.kc (k + 1)).cell = false → s.kMode (k + 1) = 1 →
        ∃ u, exec (.comparatorCrossing t k nv) s = .next u ∧ own u ∧ (∀ m, m ≠ k → m ≠ k + 1 → u.kc m = s.kc m) ∧
          regsKept s u [KSTAT.WHOLE.adr k 0] ∧ (u.kc k).raw = (decide (a.kVt k < nv) || decide (nv < a.kVt (k + 1))))) ∧
    (s.kOff k = false → s.on KCTL.WAKE k = false → c.rawAt + ns (s.rd KCTL.KFILT k) ≤ t → c.raw ≠ s.on KSTAT.OUT k →
      let held := s.on KCTL.LATCH k && s.on KSTAT.LATCHED k && !c.raw
      let ts := s.fineAt 0 c.rawAt
      let tr := (s.rd KSTAT.TRANS k + 1) % 2 ^ 16
      (held = false → s.rd KCTL.EVEDGE k = 3 →
        ∃ u, exec (.comparatorOutputChange t k) s = .next u ∧
          u = { s with now := u.now, regs := u.regs, sar := u.sar, grp := u.grp, fab := u.fab, pw := u.pw, teth := u.teth, tp := u.tp } ∧
          regsKeptEv s u [KSTAT.WHOLE.adr k 0, KCAP_LO.WHOLE.adr k 0, KCAP_HI.WHOLE.adr k 0] ∧ u.on KSTAT.OUT k = c.raw ∧
          u.rd KSTAT.TRANS k = tr ∧ u.on KSTAT.LATCHED k = (s.on KSTAT.LATCHED k || (c.raw && s.on KCTL.LATCH k)) ∧
          u.rd64 KCAP_LO.VALUE KCAP_HI.VALUE k = ts % 2 ^ 64 ∧
          raised s u t [⟨6784 + k, ts, b2n c.raw * 2 ^ 23 + b2n (c.raw && c.byLow) * 2 ^ 22 + tr, false, false⟩]) ∧
      (held = true → exec (.comparatorOutputChange t k) s = .next a)) ∧
    (∀ src w, src.ok = true → s.applies src (KCLR.WHOLE.adr k 0) = true →
      (s.on KSTAT.LATCHED k = false → exec (.kclrClr t src k w) s = .next a) ∧
      (s.on KSTAT.LATCHED k = true → c.raw = true → ∃ u, exec (.kclrClr t src k w) s = .next u ∧ onlyRegs s u ∧
        regsKept s u [KSTAT.WHOLE.adr k 0] ∧ u.rd KSTAT.CLRREF k = 1 ∧ u.rd KSTAT.LATCHED k = 1 ∧ u.rd KSTAT.OUT k = s.rd KSTAT.OUT k) ∧
      (s.on KSTAT.LATCHED k = true → c.raw = false → s.on KSTAT.OUT k = true → s.rd KCTL.EVEDGE k = 0 →
        ∃ u, exec (.kclrClr t src k w) s = .next u ∧ u = { s with now := u.now, regs := u.regs, grp := u.grp } ∧
        regsKept s u [KSTAT.WHOLE.adr k 0, KCAP_LO.WHOLE.adr k 0, KCAP_HI.WHOLE.adr k 0] ∧ u.rd KSTAT.LATCHED k = 0 ∧
        u.rd KSTAT.OUT k = 0 ∧ u.rd KSTAT.TRANS k = (s.rd KSTAT.TRANS k + 1) % 2 ^ 16))) ∧
  (∀ (t i : Nat) (s : State), i < 16 → s.now ≤ t → s.on SARQ.QEN i = false →
    let r := s.sarU i
    let own (u : State) : Prop := u = { s with now := u.now, regs := u.regs, sar := u.sar } ∧ ∀ m, m ≠ i → u.sarU m = s.sarU m
    let n := s.rd SARCTL.NSTEP i + 1
    let rec_ (c : Nat) (ws : List Nat) : Sample := ⟨c, s.rd SARBUF.BASE i * 256 + 16 * (c % 2 ^ (s.rd SARBUF.SIZE i + 4)), ws, false⟩
    let waits (h : Nat) : Bool := firstHold (s.sarLast i) h != h
    let takes (h : Nat) : Prop := s.on ANSTAT.READY = true ∧ s.on SARCTL.EN i = true ∧ s.on SUPMON.FAULT 0 3 = false ∧
      (waits h = true → r.pend < 4)
    (r.trigs = [] → exec (.sarTrigger t i) s = .next (s.advance t)) ∧
    (∀ inst ts, r.trigs = inst :: ts → s.rd SARTRIG.TSRC i = 1 ∨ s.rd SARTRIG.TSRC i = 2 →
      let h := inst + ns (s.rd SARDLY.DELAY i)
      (r.div < s.rd SARTRIG.TDIV i → ∃ u, exec (.sarTrigger t i) s = .next u ∧ own u ∧ u.regs = s.regs ∧
        u.sarU i = { r with trigs := ts, div := r.div + 1 }) ∧
      (r.div = s.rd SARTRIG.TDIV i → r.queue.all (fun q => !q.missed) = true →
        (takes h → ∃ u, exec (.sarTrigger t i) s = .next u ∧ own u ∧ u.regs = s.regs ∧
          u.sarU i = { r with trigs := ts, div := 0, queue := r.queue ++ [⟨h, n, false, waits h⟩] }) ∧
        (¬ takes h → r.cur = none → r.queue = [] →
          ∃ u, exec (.sarTrigger t i) s = .next u ∧ own u ∧ regsKept s u [SARSTAT.WHOLE.adr i 0] ∧
            u.rd SARSTAT.MISSED i = satTo 0xFFFF (s.rd SARSTAT.MISSED i + n) ∧
            u.sarU i = { r with trigs := ts, div := 0, count := r.count + n, recs := r.recs ++ (upFrom 0 n).map (fun j =>
              rec_ (r.count + j + 1) (sampleWords ((s.advance t).fineAt 0 (h + ns 250 * j)) 0 false 3 false (j + 1 == n) false
                (i * 32 + s.rd SEQENT.INPUT i j) (r.count + j + 1))) }))) ∧
    (∀ src w, src.ok = true → s.applies src (SARSW.WHOLE.adr i 0) = true → r.queue.all (fun q => !q.missed) = true →
      let h := t + ns 100 + ns (s.rd SARDLY.DELAY i)
      takes h → ∃ u, exec (.sarswGo t src i w) s = .next u ∧ own u ∧ u.regs = s.regs ∧
        u.sarU i = { r with queue := r.queue ++ [⟨h, n, false, waits h⟩] }) ∧
    (∀ nv q, r.cur = some q → q.missed = false → r.queue.all (fun x => !x.missed) = true → r.h + ns 250 * r.j ≤ t →
      let hold := r.h + ns 250 * r.j
      let e := r.ents.getD r.j 28
      r.j < r.ents.length → e % 32 < 8 →
      let bad := decide (r.code ≠ some (e % 32)) || decide (e / 32 ≠ r.gain) || decide (r.since < 2)
      let last := decide (r.j + 1 = q.n)
      let tag := if r.late then 2 else if bad then 1 else 0
      ∃ u, exec (.sarConversion t i nv) s = .next u ∧ own u ∧ u.regs = s.regs ∧
        (u.sarU i).recs = r.recs ++ [rec_ (r.count + 1) (sampleWords (s.fineAt 0 hold)
          (satTo 16383 (nv * 2 ^ (e / 32) * 16384 / 1600000000)) (!bad) tag false last false (i * 32 + e % 32) (r.count + 1))] ∧
        (u.sarU i).count = r.count + 1 ∧ (u.sarU i).lastH = some hold ∧ (u.sarU i).code = some (e % 32) ∧
        (u.sarU i).cur = (if last then none else some q) ∧ (u.sarU i).queue = r.queue) ∧
    (∀ x rest err, r.recs = x :: rest → x.words.length = 4 → x.addr + 16 ≤ 0x1800000 → x.addr % 16 = 0 →
      s.isolated 210 = false → s.isolated (68 + x.addr / 0x40000) = false →
      ∃ u, exec (.sampleRecordAck t false i err) s = .next u ∧
        u = { s with now := u.now, regs := u.regs, mem := u.mem, sar := u.sar } ∧ (∀ m, m ≠ i → u.sarU m = s.sarU m) ∧
        u.sarU i = { r with recs := rest } ∧ regsKept s u [SARSEQ.WHOLE.adr i 0] ∧
        (x.old = false → u.rd SARSEQ.COUNT i = x.n % 2 ^ 32) ∧ (x.old = true → u.regs = s.regs) ∧
        u.mem.sramBytes x.addr 16 = x.words.flatMap (toBytes 4) ∧ (∀ y, y < x.addr ∨ x.addr + 16 ≤ y → u.byteAt y = s.byteAt y))) ∧
  (∀ (t i : Nat) (bits : List RxBit) (s : State), i < 256 → s.now ≤ t → s.on KCTL.SRC i = true → s.kOff i = false →
    s.pw.deep = false → s.on SUPMON.FAULT 0 3 = false →
    let x := (s.advance t).sdBits i bits
    let d := x.sdU i
    let sdOnly (u : State) : Prop := u = { s with now := u.now, regs := u.regs, sd := u.sd } ∧ ∀ m, m ≠ i → u.sdU m = s.sdU m
    let kOnly (u : State) : Prop := u = { s with now := u.now, regs := u.regs, sd := u.sd, kcomp := u.kcomp } ∧
      (∀ m, m ≠ i → u.sdU m = s.sdU m) ∧ ∀ m, m ≠ i → u.kc m = s.kc m
    let rec_ (c : Nat) (ws : List Nat) : Sample := ⟨c, s.rd SDBUF.BASE i * 256 + 16 * (c % 2 ^ (s.rd SDBUF.SIZE i + 4)), ws, false⟩
    let ord (f : Nat) : Nat := f / 2 ^ 28 % 4 + 1
    (s.on SDCTL.EN i = true → d.got < d.dec → exec (.sdWord t i bits) s = .next (x.withQueue s.pending)) ∧
    (∀ acc, s.on SDCTL.EN i = true → s.rd SDCTL.BLK i = 0 → s.on SDQ.QEN i = false → d.dec ≤ d.got →
      d.acc d.since d.ord d.dec = some acc →
      let y := acc / (2 ^ d.shift : Nat)
      let v := satSigned 32 y
      let rem := x.rd SDSTAT.SETREM i
      let tag := if (d.win.take (d.ord * (d.dec - 1) + 1)).any (·.bad) then 5 else if 0 < rem then 1 else if v ≠ y then 4 else 0
      ∃ u, exec (.sdWord t i bits) s = .next u ∧ sdOnly u ∧ regsKept s u [SDSTAT.WHOLE.adr i 0] ∧
        u.rd SDSTAT.RUN i = 1 ∧ u.rd SDSTAT.SETREM i = rem - 1 ∧ (v ≠ y → u.rd SDSTAT.SAT i = 1) ∧
        u.rd SDSTAT.FAULTS i = s.rd SDSTAT.FAULTS i ∧
        u.sdU i = { d with got := 0, wordAt := d.last, count := d.count + 1, recs := d.recs ++ [rec_ (d.count + 1)
          (sampleWords (s.fineAt 0 (x.sdCentre i) + s.rd SDTIME.TOFF i) v (tag == 0) tag true false false i (d.count + 1))] }) ∧
    (∀ c l, (s.sdU i).changes = l ++ [c] → (∀ b ∈ l ++ [c], b.at_ + ns 40 ≤ (s.sdU i).wordAt) → (s.sdU i).got = 0 →
      ∃ u, exec (.sdConfigApply t i) s = .next u ∧ sdOnly u ∧ regsKept s u [SDSTAT.WHOLE.adr i 0] ∧
        (u.sdU i).filt = c.filt ∧ (u.sdU i).cmode = c.cmode ∧ (u.sdU i).clk = c.clk ∧ (u.sdU i).changes = [] ∧
        (u.sdU i).since = 0 ∧ (u.sdU i).recs = (s.sdU i).recs ∧
        ((s.sdU i).cmode = c.cmode → (s.sdU i).clk = c.clk → (u.sdU i).win = (s.sdU i).win) ∧
        ((s.sdU i).cmode ≠ c.cmode → (u.sdU i).win = []) ∧
        u.rd SDSTAT.SETREM i = ord c.filt ∧ u.rd SDSTAT.SETTLING i = 1) ∧
    (∀ viol, s.on SDCTL.EN i = true → s.on SDSTAT.FAULT i = false →
      let bad : Bool := if d.cmode = 1 then viol || decide (d.last + 4 * x.bitPeriod i ≤ t) else decide (256 ≤ d.run)
      (bad = true → ∃ u, exec (.modulatorFault t i bits viol) s = .next u ∧ kOnly u ∧ u.sdU i = { d with good := 0 } ∧
        regsKept s u [SDSTAT.WHOLE.adr i 0, KSTAT.WHOLE.adr i 0] ∧ u.rd SDSTAT.FAULT i = 1 ∧
        u.rd SDSTAT.FAULTS i = satTo 0xFFFF (s.rd SDSTAT.FAULTS i + 1) ∧ (u.kc i).raw = true) ∧
      (bad = false → exec (.modulatorFault t i bits viol) s = .next (x.withQueue s.pending))) ∧
    (s.on SDCTL.EN i = true → s.on SDSTAT.FAULT i = true → s.kMode i = 0 →
      (256 ≤ d.good → ∃ u, exec (.modulatorFaultClear t i bits) s = .next u ∧ kOnly u ∧ u.sdU i = { d with since := 0, got := 0 } ∧
        regsKept s u [SDSTAT.WHOLE.adr i 0, KSTAT.WHOLE.adr i 0] ∧ u.rd SDSTAT.FAULT i = 0 ∧ u.rd SDSTAT.SETREM i = ord d.filt ∧
        (u.kc i).raw = decide (toSigned 16 (s.rd SDFTHR.HI i) ≤ d.fast)) ∧
      (d.good < 256 → exec (.modulatorFaultClear t i bits) s = .next (x.withQueue s.pending))) ∧
    (∀ acc, s.on SDCTL.EN i = true → s.on SDFAST.EN i = true → s.rd SDFAST.DEC i ≤ d.fgot →
      d.acc d.win.length (s.rd SDFAST.ORD i + 1) (s.rd SDFAST.DEC i) = some acc →
      let v := satSigned 16 acc
      let hi := decide (toSigned 16 (s.rd SDFTHR.HI i) ≤ v)
      let lo := decide (v ≤ toSigned 16 (s.rd SDFTHR.LO i))
      ∃ u, exec (.sdFastWord t i bits) s = .next u ∧ kOnly u ∧ u.sdU i = { d with fast := v, fgot := 0 } ∧
        regsKept s u [KSTAT.WHOLE.adr i 0, SDSTAT.WHOLE.adr i 0] ∧
        (u.kc i).raw = (s.on SDSTAT.FAULT i || (if s.kMode i = 0 then hi else if s.kMode i = 1 then lo else hi || lo))))

/-! ### Tails (chapter 9) -/

/-- Incremental and Hall decoding and the speed from edges (R224, R226 to R228, R233, R235, R236), on a tail whose group no flying
start holds and whose outputs it does not pass through. Arming clears POS and POSSEQ, sets STALE and, in HALL, takes the
sector of the present levels. An accepted transition moves POS by one where the decoding counts it, with its own instant as
POSTS, and VEL spans the edges within VWIN; the first edge in a new direction gives 0 with REV; a double transition, or one
under 4 ns after the other's, is illegal. A Hall code gives its sector, one sector on or back counts and raises FRAME, any
other legal change sets POSQ. A rising Z at the levels of ZQ captures POS, raises FRAME and may reset POS. The model's own
choices it rests on: log entries 1, 63, 131, 158. -/
def Obligations.TailDecoding : Prop :=
  ∀ (t k at_ code : Nat) (s : State), k < 128 → s.now ≤ t → s.flyBusy k = false → s.rd EMUSTAT.PATH k ≠ 1 →
    bitAt (s.tailU k).cond 1 = false →
    let h := s.tailU k
    let old := s.rd TAILSTAT.LEVEL k
    let pos := s.rd64 POS_LO.VALUE POS_HI.VALUE k
    let ts := s.fineAt 0 at_
    let posRegs : List Nat := [TAILSTAT.WHOLE.adr k 0, POS_LO.WHOLE.adr k 0, POS_HI.WHOLE.adr k 0, POSTS_LO.WHOLE.adr k 0,
      POSTS_HI.WHOLE.adr k 0, POSSEQ.WHOLE.adr k 0, VEL_LO.WHOLE.adr k 0, VEL_HI.WHOLE.adr k 0, VELSTAT.WHOLE.adr k 0]
    let counts (u : State) (up : Bool) : Prop :=
      u.rd64 POS_LO.VALUE POS_HI.VALUE k = (if up then pos + 1 else pos + (2 ^ 64 - 1)) % 2 ^ 64 ∧
      u.rd64 POSTS_LO.VALUE POSTS_HI.VALUE k = ts % 2 ^ 64 ∧ u.rd POSSEQ.SEQ k = (s.rd POSSEQ.SEQ k + 1) % 2 ^ 32 ∧
      u.rd VELSTAT.STALE k = 0 ∧ u.on VELSTAT.DIR k = !up ∧ u.rd VELSTAT.UPD k = (s.rd VELSTAT.UPD k + 1) % 2 ^ 16 ∧
      (h.samp = [] → u.rd64 VEL_LO.VALUE VEL_HI.VALUE k = 0 ∧ u.rd VELSTAT.LOWCONF k = 1 ∧ u.rd VELSTAT.REV k = 0) ∧
      (h.samp ≠ [] → s.on VELSTAT.DIR k = up →
        u.rd64 VEL_LO.VALUE VEL_HI.VALUE k = 0 ∧ u.rd VELSTAT.LOWCONF k = 1 ∧ u.rd VELSTAT.REV k = 1) ∧
      (h.samp ≠ [] → s.on VELSTAT.DIR k = !up → (∀ q, q ∈ h.samp → q.ts < ts) →
        let n := ((h.samp.take 16).takeWhile (fun q => decide (ts ≤ q.ts + us (s.rd VELCFG.VWIN k)))).length
        let m := if n = 0 then 1 else n
        let d : Int := if up then (m : Int) else -(m : Int)
        u.rd64 VEL_LO.VALUE VEL_HI.VALUE k =
          ofSigned 64 ((d * (64000000000 * 65536 : Nat)).tdiv ((ts - (h.samp.getD (m - 1) ⟨0, 0⟩).ts : Nat) : Int)) ∧
        u.rd VELSTAT.M k = m ∧ u.on VELSTAT.LOWCONF k = decide (h.samp.length < 3) ∧ u.rd VELSTAT.REV k = 0)
    let err (u : State) (cause : Nat) : Prop :=
      raised s u t [⟨6144 + 4 * k, ts, cause * 2 ^ 24 + satTo 0xFFFF (h.errs + 1), false, false⟩]
    (∀ src w, src.ok = true → s.applies src (TAILCTL.WHOLE.adr k 0) = true → s.on TAILCTL.ARM k = false → TAILCTL.ARM.of w = 1 →
      h.grace = none →
      ∃ u, exec (.tailctlArmWrite t src k w) s = .next u ∧ u = { s with now := u.now, regs := u.regs, tail := u.tail } ∧
        (∀ m, m ≠ k → u.tailU m = s.tailU m) ∧ u.rd TAILCTL.ARM k = 1 ∧ u.rd TAILSTAT.ARMED k = 1 ∧
        u.rd TAILCTL.MODE k = (if 4 < TAILCTL.MODE.of w then 0 else TAILCTL.MODE.of w) ∧
        u.rd64 POS_LO.VALUE POS_HI.VALUE k = 0 ∧ u.rd POSSEQ.SEQ k = 0 ∧ u.rd VELSTAT.STALE k = 1 ∧
        u.rd64 VEL_LO.VALUE VEL_HI.VALUE k = 0 ∧ u.rd LOSSSTAT.LOSS k = 0 ∧ u.rd TAILSTAT.LBRK k = 0 ∧
        (let sec := if TAILCTL.MODE.of w = 2 then s.rd HALLMAP.MAP k / 2 ^ (3 * old) % 8 else 7
         u.rd POSSTAT.SECTOR k = if 6 ≤ sec then 7 else sec) ∧
        regsKept s u (posRegs ++ [TAILCTL.WHOLE.adr k 0, LOSSSTAT.WHOLE.adr k 0, POSSTAT.WHOLE.adr k 0, CABLE.WHOLE.adr k 0])) ∧
    (s.on TAILCTL.ARM k = true → at_ + ns (if s.rd TFILT.FILTAB k < 4 then 4 else s.rd TFILT.FILTAB k) ≤ t → h.errAt = none → (∀ z, h.zHit = some z → z.1 < at_) →
      (s.rd TAILCTL.MODE k = 1 →
        let o := old / 2
        let n := code / 2 % 4
        let cnt := s.rd TAILCTL.CNT k
        ((o / 2 ≠ n / 2 ∧ o % 2 = n % 2 ∨ o / 2 = n / 2 ∧ o % 2 ≠ n % 2) → (∀ i, i < 3 → h.abz.getD i 0 + ns 4 ≤ at_) →
          let dir : Option Bool :=
            if cnt = 0 then (if o / 2 = 0 ∧ n / 2 = 1 then some (n % 2 == 0) else none)
            else if cnt = 1 then (if o / 2 ≠ n / 2 then some (n / 2 != n % 2) else none)
            else some ([(0, 2), (2, 3), (3, 1), (1, 0)].contains (o, n))
          (dir = none → ∃ u, exec (.tailEdgeAccept t k at_ code) s = .next u ∧ tailEvents s u k ∧
            regsKept s u [TAILSTAT.WHOLE.adr k 0] ∧ u.rd TAILSTAT.LEVEL k = 2 * n + old % 2 ∧ u.fab = s.fab) ∧
          (∀ d, dir = some d → ∃ u, exec (.tailEdgeAccept t k at_ code) s = .next u ∧ tailEvents s u k ∧ u.fab = s.fab ∧
            regsKept s u posRegs ∧ u.rd TAILSTAT.LEVEL k = 2 * n + old % 2 ∧ counts u (d != s.on TAILCTL.DIRINV k))) ∧
        (o / 2 ≠ n / 2 ∧ o % 2 ≠ n % 2 ∨ (o / 2 ≠ n / 2 ∧ at_ < h.abz.getD 1 0 + ns 4 ∧ h.abz.getD 1 0 ≤ at_ ∧ h.abz.getD 1 0 ≠ 0) →
          ∃ u, exec (.tailEdgeAccept t k at_ code) s = .next u ∧ tailEvents s u k ∧
            regsKeptEv s u [TAILSTAT.WHOLE.adr k 0, POSSTAT.WHOLE.adr k 0] ∧ u.rd POSSTAT.POSQ k = 1 ∧
            u.rd TAILSTAT.ILLCNT k = satTo 0xFF (s.rd TAILSTAT.ILLCNT k + 1) ∧ err u 1)) ∧
      (s.rd TAILCTL.MODE k = 2 → code < 8 → code ≠ old → old < 8 → h.sector < 6 →
        let sec := s.rd HALLMAP.MAP k / 2 ^ (3 * code) % 8
        let inv := s.on TAILCTL.DIRINV k
        (∀ up, sec = (if up then (h.sector + 1) % 6 else (h.sector + 5) % 6) →
          ∃ u, exec (.tailEdgeAccept t k at_ code) s = .next u ∧ tailEvents s u k ∧
            regsKeptEv s u (POSSTAT.WHOLE.adr k 0 :: posRegs) ∧ counts u (up != inv) ∧ u.rd POSSTAT.SECTOR k = sec ∧
            raised s u t [⟨6144 + 4 * k + 2, ts, sec * 2 ^ 16 + (s.rd POSSEQ.SEQ k + 1) % 2 ^ 32 % 65536, false, false⟩]) ∧
        (sec < 6 → (sec = h.sector → s.rd POSSTAT.SECTOR k ≠ 7) → sec ≠ (h.sector + 1) % 6 → sec ≠ (h.sector + 5) % 6 →
          ∃ u, exec (.tailEdgeAccept t k at_ code) s = .next u ∧ tailEvents s u k ∧
            regsKeptEv s u [TAILSTAT.WHOLE.adr k 0, POSSTAT.WHOLE.adr k 0] ∧ u.rd POSSTAT.POSQ k = 1 ∧ u.rd POSSTAT.SECTOR k = sec ∧
            err u 3) ∧
        (sec = h.sector → s.rd POSSTAT.SECTOR k = 7 → ∃ u, exec (.tailEdgeAccept t k at_ code) s = .next u ∧ tailEvents s u k ∧
            regsKept s u [TAILSTAT.WHOLE.adr k 0, POSSTAT.WHOLE.adr k 0] ∧ u.rd POSSTAT.SECTOR k = sec ∧ u.fab = s.fab) ∧
        (6 ≤ sec → ∃ u, exec (.tailEdgeAccept t k at_ code) s = .next u ∧ tailEvents s u k ∧
            regsKeptEv s u [TAILSTAT.WHOLE.adr k 0, POSSTAT.WHOLE.adr k 0] ∧ u.rd POSSTAT.SECTOR k = 7 ∧ err u 2))) ∧
    (s.on TAILCTL.ARM k = true → s.rd TAILCTL.MODE k = 1 → at_ + ns (if s.rd TFILT.FILTZ k < 4 then 4 else s.rd TFILT.FILTZ k) ≤ t →
      old = 2 * s.rd TAILCTL.ZQ k → (∀ i, i < 32 → s.on SPCTL.EN i = false) → s.rd TAILCTL.ZMODE k ≠ 0 →
      ∃ u, exec (.tailZEdge t k at_ true) s = .next u ∧ tailEvents s u k ∧ u.rd64 ZCAP_LO.VALUE ZCAP_HI.VALUE k = pos ∧
        u.rd POSSEQ.SEQ k = (s.rd POSSEQ.SEQ k + 1) % 2 ^ 32 ∧ u.rd64 POSTS_LO.VALUE POSTS_HI.VALUE k = ts % 2 ^ 64 ∧
        regsKeptEv s u (POSSTAT.WHOLE.adr k 0 :: ZCAP_LO.WHOLE.adr k 0 :: ZCAP_HI.WHOLE.adr k 0 :: posRegs) ∧
        (s.rd TAILCTL.ZMODE k = 3 ∨ s.rd TAILCTL.ZMODE k = 2 ∧ h.zSeen = false →
          u.rd64 POS_LO.VALUE POS_HI.VALUE k = 0 ∧ u.rd POSSTAT.POSQ k = 0) ∧
        (s.rd TAILCTL.ZMODE k = 1 ∨ s.rd TAILCTL.ZMODE k = 2 ∧ h.zSeen = true → u.rd64 POS_LO.VALUE POS_HI.VALUE k = pos) ∧
        raised s u t [⟨6144 + 4 * k + 2, ts, 2 ^ 19 + s.rd POSSTAT.SECTOR k * 2 ^ 16 + (s.rd POSSEQ.SEQ k + 1) % 2 ^ 32 % 65536, false, false⟩]) ∧
    (∀ e, h.edgeAt = some e → s.on TAILCTL.ARM k = true → s.counting k = true → s.on VELSTAT.STALE k = false → e < t →
      let v := s.vel k
      (s.fineAt 17 t % 64000 = 0 → 64000000000 * 65536 / (t - e) < mag v →
        ∃ u, exec (.velDecayUpdate t k) s = .next u ∧ tailEvents s u k ∧ u.fab = s.fab ∧
          regsKept s u [VEL_LO.WHOLE.adr k 0, VEL_HI.WHOLE.adr k 0, VELSTAT.WHOLE.adr k 0] ∧ u.rd VELSTAT.STALE k = 0 ∧
          mag (u.vel k) = 64000000000 * 65536 / (t - e) ∧ (u.vel k < 0 → v < 0)) ∧
      (e + us (s.rd VELCFG.SSTO k) ≤ t →
        ∃ u, exec (.speedStaleTimeout t k) s = .next u ∧ tailEvents s u k ∧
          regsKeptEv s u [VEL_LO.WHOLE.adr k 0, VEL_HI.WHOLE.adr k 0, VELSTAT.WHOLE.adr k 0] ∧ u.vel k = 0 ∧
          u.rd VELSTAT.STALE k = 1 ∧ u.rd VELSTAT.LOWCONF k = 0 ∧ u.rd VELSTAT.REV k = 0 ∧
          raised s u t [⟨6144 + 4 * k + 3, s.fineAt 0 e + us (s.rd VELCFG.SSTO k), 0, false, false⟩]))

/-- Serial encoders and the feedback record (R229, R230, R232 to R234, R237). A GO is a trigger 100 ns after it; a trigger that
finds a frame in progress is counted in MISSED, one that finds SLO not ready fails with NOREADY, and else a frame begins; no
ACK or no start bit in time fails it with TIMEOUT; a BISS frame with a wrong CRC fails and leaves POS as it was; a failed
frame is reported at its sample instant; a good one becomes POS with T + DLY + LATDLY as its instant, POSSEQ and FRAME. The
record has its 32 bytes in the order of R234. The model's own choices it rests on: log entries 1, 62, 64, 131. -/
def Obligations.SerialEncoders : Prop :=
  ∀ (t k : Nat) (s : State), k < 128 → s.now ≤ t → s.on TAILCTL.ARM k = true → s.rd TAILCTL.MODE k = 4 → s.flyBusy k = false →
    let h := s.tailU k
    let failRegs : List Nat := [TAILSTAT.WHOLE.adr k 0, POSSTAT.WHOLE.adr k 0]
    let fails (u : State) (cause at_ : Nat) : Prop := tailEvents s u k ∧
      u.rd TAILSTAT.FAILCNT k = satTo 0xFF (s.rd TAILSTAT.FAILCNT k + 1) ∧
      u.rd POSSTAT.FAILRUN k = satTo 0xFF (s.rd POSSTAT.FAILRUN k + 1) ∧ u.rd TAILSTAT.BUSY k = 0 ∧ (u.tailU k).frame = none ∧
      raised s u t [⟨6144 + 4 * k, s.fineAt 0 at_, cause * 2 ^ 24 + satTo 0xFFFF (h.errs + 1), false, false⟩]
    let sample (u : State) (T : Nat) : Nat := T + u.rd CABLE.DLY k + ns (s.rd CABLECFG.LATDLY k)
    (∀ src w, src.ok = true → s.applies src (SERTRIG.WHOLE.adr k 0) = true →
      ∃ u, exec (.sertrigGo t src k w) s = .next u ∧ u = { s with now := u.now, regs := u.regs, tail := u.tail } ∧
        (∀ m, m ≠ k → u.tailU m = s.tailU m) ∧ regsKept s u [SERTRIG.WHOLE.adr k 0] ∧ (u.tailU k).goAt = h.goAt ++ [t + ns 100] ∧
        (u.tailU k).trigs = [] ∧
        u.rd SERTRIG.TSRC k = SERTRIG.TSRC.of w ∧ (u.tailU k).frame = h.frame) ∧
    (∀ g r, h.goAt = g :: r → g ≤ t →
      (s.on TAILSTAT.BUSY k = true → ∀ ready, ∃ u, exec (.serialTrigger t k ready) s = .next u ∧ tailEvents s u k ∧
        regsKept s u [TAILSTAT.WHOLE.adr k 0] ∧ u.rd TAILSTAT.MISSED k = satTo 0xFF (s.rd TAILSTAT.MISSED k + 1) ∧
        u.tailU k = { h with goAt := r }) ∧
      (s.on TAILSTAT.BUSY k = false → ∃ u, exec (.serialTrigger t k true) s = .next u ∧ tailEvents s u k ∧
        regsKept s u [TAILSTAT.WHOLE.adr k 0] ∧ u.rd TAILSTAT.BUSY k = 1 ∧ u.tailU k = { h with goAt := r, frame := some g }) ∧
      (s.on TAILSTAT.BUSY k = false → h.errAt = none → s.rd POSSTAT.FAILRUN k + 1 < s.rd SERCHK.CRCMAX k →
        ∃ u, exec (.serialTrigger t k false) s = .next u ∧ fails u 6 g ∧ regsKeptEv s u failRegs)) ∧
    (∀ T, h.frame = some T → h.errAt = none → s.rd POSSTAT.FAILRUN k + 1 < s.rd SERCHK.CRCMAX k →
      (T + ns (s.rd SERCFG.CLKP k) * 3 / 2 + us 2 ≤ t →
        ∃ u, exec (.bissAckTimeout t k) s = .next u ∧ fails u 5 (sample s T) ∧ regsKeptEv s u failRegs) ∧
      (∀ trt, T + ns (s.rd SERCFG.CLKP k) * 3 / 2 + trt + s.rd SERCFG.STMAX k * ns (s.rd SERCFG.CLKP k) ≤ t →
        ∃ u, exec (.bissStartTimeout t k trt) s = .next u ∧ fails u 5 (sample u T) ∧ u.rd CABLE.VALID k = 1 ∧
          (h.delays = [] → ns (s.rd CABLECFG.ENCDLY k) ≤ trt →
            u.rd CABLE.DLY k = satTo 0xFFFF ((trt - ns (s.rd CABLECFG.ENCDLY k)) / 2)) ∧
          regsKeptEv s u (CABLE.WHOLE.adr k 0 :: failRegs)) ∧
      (∀ trt data crc cds, s.rd SERCHK.NSTAT k = 0 → data < 2 ^ s.rd SERCFG.NBITS k →
        let good := crc6 (msbBits (s.rd SERCFG.NBITS k) data)
        (crc % 64 ≠ 63 - good → ∃ u, exec (.serialFrameDone t k trt data 0 crc cds) s = .next u ∧ fails u 4 (sample u T) ∧ u.rd POSSTAT.CRCERR k = 1 ∧
          regsKeptEv s u (CABLE.WHOLE.adr k 0 :: failRegs)))) ∧
    (∀ T trt data crc cds, h.frame = some T → s.rd SERCHK.NSTAT k = 0 → data < 2 ^ s.rd SERCFG.NBITS k → h.delays = [] →
      ns (s.rd CABLECFG.ENCDLY k) ≤ trt → h.cond = 0 → h.samp = [] → s.rd SERCHK.LIFELEN k = 0 → s.rd CABLECFG.VPROP k ≠ 0 →
      crc % 64 = 63 - crc6 (msbBits (s.rd SERCFG.NBITS k) data) → s.rd SERCFG.NBITS k ≤ 48 →
      let dly := satTo 0xFFFF ((trt - ns (s.rd CABLECFG.ENCDLY k)) / 2)
      let ts := s.fineAt 0 (T + dly + ns (s.rd CABLECFG.LATDLY k))
      ∃ u, exec (.serialFrameDone t k trt data 0 crc cds) s = .next u ∧ tailEvents s u k ∧ u.rd64 POS_LO.VALUE POS_HI.VALUE k = data ∧
        u.rd CABLE.DLY k = dly ∧ u.rd CABLE.CM k = satTo 0x7FFF (dly * 1000 / (64 * s.rd CABLECFG.VPROP k)) ∧
        u.rd64 POSTS_LO.VALUE POSTS_HI.VALUE k = ts % 2 ^ 64 ∧ u.rd POSSEQ.SEQ k = (s.rd POSSEQ.SEQ k + 1) % 2 ^ 32 ∧
        u.vel k = 0 ∧ u.rd VELSTAT.LOWCONF k = 1 ∧ u.rd POSSTAT.FAILRUN k = 0 ∧ u.rd POSSTAT.CRCERR k = 0 ∧ u.rd TAILSTAT.BUSY k = 0 ∧
        (u.tailU k).frame = none ∧
        regsKeptEv s u (failRegs ++ [CABLE.WHOLE.adr k 0, POS_LO.WHOLE.adr k 0, POS_HI.WHOLE.adr k 0, POSTS_LO.WHOLE.adr k 0,
          POSTS_HI.WHOLE.adr k 0, POSSEQ.WHOLE.adr k 0, VEL_LO.WHOLE.adr k 0, VEL_HI.WHOLE.adr k 0, VELSTAT.WHOLE.adr k 0,
          LOSSSTAT.WHOLE.adr k 0]) ∧
        raised s u t [⟨6144 + 4 * k + 2, ts, s.rd POSSTAT.SECTOR k * 2 ^ 16 + (s.rd POSSEQ.SEQ k + 1) % 2 ^ 32 % 65536, false, false⟩]) ∧
    (let b := s.rd TAILREC.BASE k * 32
     s.on TAILREC.EN k = true → h.recDue = true → (∀ x, h.recAt = some x → x + ns (100 * s.rd TAILREC.RATE k) ≤ t) → b < 0x1800000 →
      s.isolated (68 + b / 0x40000) = false → s.isolated (201 + k / 16) = false → ∀ err,
      let w (f : RField) : List Byte := toBytes 4 (s.reg (f.adr k 0)).toNat
      ∃ u, exec (.tailRecordWrite t k err) s = .next u ∧ u = { s with now := u.now, mem := u.mem, tail := u.tail } ∧
        (∀ m, m ≠ k → u.tailU m = s.tailU m) ∧ u.tailU k = { h with recDue := false, recAt := some t } ∧
        u.mem.sramBytes b 32 = w POSSEQ.WHOLE ++ w POSSTAT.WHOLE ++ w POS_LO.WHOLE ++ w POS_HI.WHOLE ++ w POSTS_LO.WHOLE ++
          w POSTS_HI.WHOLE ++ w VEL_LO.WHOLE ++ w VEL_HI.WHOLE ∧
        ∀ x, x < b ∨ b + 32 ≤ x → u.byteAt x = s.byteAt x)

/-- Feedback loss and held starts (R238 to R243), on a tail that no spool follows and no emulator uses. The first loss condition
sets STALE and LOSS, raises LOSS with its cause and, with the policy enabled, starts the group's grace; the last one cleared
ends both; a grace that runs out with LOSS still 1 asks for the safe state 40 ns later with source 3. A held start whose time
has run out ends with its channels STOPPED and FLYABORT: reason 1 for the synchronisation, 3 for the brake. Encoder emulation
(R245 to R248). In synthesis the next count goes out 16 ns ahead as an edge of the one output the quadrature changes, and LAG
says that more is owed; a wanted path takes over at a quiet instant at least 40 ns after the condition changed, and
passthrough takes the levels of the inputs. The model's own choices it rests on: log entries 1, 65, 69. -/
def Obligations.FeedbackLoss : Prop :=
  (∀ (t k : Nat) (s : State), k < 128 → s.now ≤ t → s.on TAILCTL.ARM k = true → (∀ i, i < 32 → s.on SPCTL.EN i = false) →
    s.rd EMUCTL.SRC k = 0 → (s.tailU k).emuWant = 0 →
    let h := s.tailU k
    let j := s.rd LOSSCTL.GRP k
    let grace := s.rd LOSSCTL.GRACE k
    let only (u : State) : Prop := u = { s with now := u.now, regs := u.regs, tail := u.tail, grp := u.grp, fab := u.fab, pw := u.pw, teth := u.teth, tp := u.tp } ∧
      (∀ m, m ≠ k → u.tailU m = s.tailU m) ∧ ∀ m, m ≠ j → u.gr m = s.gr m
    let regs : List Nat := [POSSTAT.WHOLE.adr k 0, LOSSSTAT.WHOLE.adr k 0, TAILSTAT.WHOLE.adr k 0]
    let ev (cause : Nat) (rec_ : Bool) : Ev :=
      ⟨6144 + 4 * k + 1, s.fineAt 0 t, cause * 2 ^ 24 + b2n rec_ * 2 ^ 23 + j * 2 ^ 16 + grace, false, false⟩
    let lost (u : State) (cause : Nat) : Prop := only u ∧ regsKeptEv s u regs ∧ u.rd POSSTAT.STALE k = 1 ∧ u.rd LOSSSTAT.LOSS k = 1 ∧
      u.rd LOSSSTAT.COUNT k = satTo 0xFF (s.rd LOSSSTAT.COUNT k + 1) ∧ (u.tailU k).cause = cause ∧ raised s u t [ev cause false] ∧
      (s.on LOSSCTL.EN k = true → grace = 0 → u.rd LOSSSTAT.SAFED k = 1 ∧ u.gr j = { s.gr j with safe := (s.gr j).safe ++ [(t + ns 40, 3)] }) ∧
      (s.on LOSSCTL.EN k = true → grace ≠ 0 → u.rd LOSSSTAT.GRACING k = 1 ∧ (u.tailU k).grace = some (t + us grace, j) ∧
        u.gr j = { s.gr j with graces := (s.gr j).graces ++ [k] }) ∧
      (s.on LOSSCTL.EN k = false → u.gr j = s.gr j ∧ (u.tailU k).grace = h.grace)
    (s.flyBusy k = false → s.on LOSSSTAT.LOSS k = false → h.cond = 0 → h.grace = none →
      (∀ mask, mask < 8 → s.on TAILCTL.DIFF k = true → s.rd TAILCTL.MODE k = 2 → s.on LOSSCTL.LBRK k = true → mask ≠ 0 →
        ∃ u, exec (.lineBreakDetect t k mask) s = .next u ∧ lost u 1 ∧ u.rd TAILSTAT.LBRK k = (s.rd TAILSTAT.LBRK k ||| mask) % 8 ∧
          u.rd POSSTAT.POSQ k = 1) ∧
      (∀ e n, s.counting k = true → s.rd TAILCTL.FRESH k ≠ 0 → h.edgeAt = some e → e + us (s.rd TAILCTL.FRESH k) ≤ t →
        s.on LOSSCTL.FRESHEN k = true → n / 8 = j → s.rd CHSTAT.STATE n = 2 → s.paired n = false → s.on PWMSTAT.SAFE n = false →
        ∃ u, exec (.freshnessTimeout t k) s = .next u ∧ lost u 2 ∧ u.rd POSSTAT.POSQ k = s.rd POSSTAT.POSQ k)) ∧
    (s.on LOSSSTAT.LOSS k = true → h.cond = 1 →
      (∀ mask, h.grace = none → (s.rd TAILSTAT.LBRK k &&& (7 - mask % 8)) &&& s.usedPairs k = 0 →
        ∃ u, exec (.lineBreakClear t k mask) s = .next u ∧ u.rd TAILSTAT.LBRK k = (s.rd TAILSTAT.LBRK k &&& (7 - mask % 8)) ∧ only u ∧ regsKeptEv s u regs ∧ u.rd POSSTAT.STALE k = 0 ∧
        u.rd LOSSSTAT.LOSS k = 0 ∧ (u.tailU k).samp = [] ∧ raised s u t [ev h.cause true]) ∧
      (∀ e g, h.grace = some (e, g) → e ≤ t → g = j →
        ∃ u, exec (.lossGraceExpiry t k) s = .next u ∧ only u ∧ regsKept s u [LOSSSTAT.WHOLE.adr k 0] ∧ u.rd LOSSSTAT.SAFED k = 1 ∧
          u.rd LOSSSTAT.GRACING k = 0 ∧ u.tailU k = { h with grace := none } ∧
          u.gr j = { s.gr j with graces := (s.gr j).graces.erase k, safe := (s.gr j).safe ++ [(e + ns 40, 3)] })) ∧
    (s.flyBusy k = true → s.on VELSTAT.STALE k = false → s.rd FSTHR.THR k * 65536 < mag (s.vel k) →
      let g := s.rd FSCTL.GRP k
      (∀ m, m < 128 → m ≠ k → s.rd FSCTL.GRP m = g → s.on FSSTAT.STATE m = false) →
      let ends (i : Instr) (reason : Nat) : Prop := ∃ u, exec i s = .next u ∧
        u = { s with now := u.now, regs := u.regs, chan := u.chan, grp := u.grp, fab := u.fab, pw := u.pw, teth := u.teth, tp := u.tp } ∧
        u.rd FSSTAT.STATE k = 0 ∧ (u.gr g).brake = false ∧ (∀ m, m / 8 ≠ g → u.ch m = s.ch m) ∧
        (∀ m, m / 8 = g → (s.ch m).run.start.any (·.held) = true → u.rd CHSTAT.STATE m = 0 ∧ (u.ch m).run.start = none) ∧
        (∀ m, m / 8 = g → (s.ch m).run.start.any (·.held) = false → u.rd CHSTAT.STATE m = s.rd CHSTAT.STATE m) ∧
        regsKeptEv s u (FSSTAT.WHOLE.adr k 0 :: (upFrom (8 * g) 8).flatMap (fun m => [CHSTAT.WHOLE.adr m 0, PWMSTAT.WHOLE.adr m 0, FORCEST.WHOLE.adr m 0])) ∧
        raised s u t [⟨6 * (8 * g) + 5, s.fineAt 0 t, 0x13 * 2 ^ 24 + reason, false, false⟩]
      (s.rd FSSTAT.STATE k = 1 → h.fsAt - 1 + us (4 * s.rd FSCTL.FSTMO k) ≤ t → (s.gr g).brake = false → ends (.flyingSyncTimeout t k) 1) ∧
      (s.rd FSSTAT.STATE k = 2 → h.fsAt - 1 + ms (10 * s.rd FSCTL.FSBRK k) ≤ t → ends (.brakeTimeout t k) 3))) ∧
  (∀ (t k : Nat) (s : State), k < 128 → s.now ≤ t → s.on EMUCTL.ZEN k = false → s.on EMUCTL.INV k = false →
    let h := s.tailU k
    let a := s.advance t
    let ach := s.rd EMUCTL.ACH k
    let gap := a.emuTarget k - h.emuC
    let x := s.fineAt 0 t + a.span 0 (ns 16)
    (s.rd EMUSTAT.PATH k = 2 → h.emuSamp ≠ [] → ach < 1023 →
      (gap = 0 → ∃ u, exec (.emuEdgeCommit t k) s = .next u ∧ onlyRegs s u ∧ regsKept s u [EMUSTAT.WHOLE.adr k 0] ∧ u.rd EMUSTAT.LAG k = 0) ∧
      (∀ b : Bool, 1 ≤ gap → gap ≤ 4096 → h.emuC % 4 = (if b then 1 else 0) → h.emuLast + a.span 0 (ns 20) ≤ x →
        h.emuLast + a.span 0 (ns 10) ≤ x →
        let n := if b then ach + 1 else ach
        s.etb n = 0 → s.emuOk n = true → (s.ch n).dl.pend = [] → (s.ch n).dl.lastAt = none →
        ∃ u, exec (.emuEdgeCommit t k) s = .next u ∧
          u = { s with now := u.now, regs := u.regs, chan := u.chan, tail := u.tail } ∧ (∀ m, m ≠ n → u.ch m = s.ch m) ∧
          (∀ m, m ≠ k → u.tailU m = s.tailU m) ∧ regsKept s u [EMUSTAT.WHOLE.adr k 0] ∧ u.on EMUSTAT.LAG k = decide (1 < gap) ∧
          (u.ch n).dl.pend = [⟨x, 2, .emu, false, none⟩] ∧ (u.tailU k).emuC = h.emuC + 1 ∧ (u.tailU k).emuC0 = h.emuC0)) ∧
    (s.rd EMUCTL.SRC k = 1 → s.serial k = false → s.rd EMUSTAT.PATH k ≠ 1 → h.emuWant = 1 → h.emuSince + ns 40 ≤ t →
      a.emuQuiet k = true → (∀ m, m = ach ∨ m = ach + 1 → m < 1024 ∧ s.emuOk m = true ∧ s.paired m = false) →
      ∃ u, exec (.emuPathChange t k) s = .next u ∧ u = { s with now := u.now, regs := u.regs, chan := u.chan } ∧
        (∀ m, m ≠ ach → m ≠ ach + 1 → u.ch m = s.ch m) ∧ u.rd EMUSTAT.PATH k = 1 ∧ u.rd EMUSTAT.NOPASS k = 0 ∧
        regsKept s u [EMUSTAT.WHOLE.adr k 0] ∧ (u.ch ach).pin.passTail = true ∧ (u.ch (ach + 1)).pin.passTail = true ∧
        (u.ch ach).pin.lvl = bitAt (s.rd TAILSTAT.LEVEL k) 2 ∧ (u.ch (ach + 1)).pin.lvl = bitAt (s.rd TAILSTAT.LEVEL k) 1))

/-! ### Spools (chapter 10) -/

/-- Spools (R252 to R258, R260). A tooth in time lays out the schedule from its own instant, with Δ the normalised interval, and
GAP is raised at position 0; the predicted instant passing gives HALT; a negative edge gives REVHOLD with the angle held; no
tooth by the deadline, DESYNC, and EN cleared end synchronisation at L with SYNC_LOSS; SYNCNOW makes the next tooth position
0; at L + 40 ns an ended channel takes its level and raises ANGLEEND. Reading and mirroring an angle (R250, R265 to R267). A
read of SPANGLE answers the angle of its instant and latches SPREV and SPANGTS; a sample of a broadcasting spool is sent on
the tether with its fields; a mirror enters SYNC at the first record in SYNC, follows later ones, and loses synchronisation
with cause REMOTE once none is younger than REMAGE. The model's own choices it rests on: log entries 1, 66, 67, 68. -/
def Obligations.Spools : Prop :=
  (∀ (t i : Nat) (s : State), i < 32 → s.now ≤ t → s.aevs i = [] → (∀ k, k < 18 → (s.tbH k).mode ≠ 2 ∨ (s.tbH k).spool ≠ i) →
    let h := s.spU i
    let a := s.advance t
    let d := s.fineAt 0 t
    let own (u : State) : Prop :=
      u = { s with now := u.now, regs := u.regs, sp := u.sp, fab := u.fab, pw := u.pw, teth := u.teth, tp := u.tp } ∧
        ∀ m, m ≠ i → u.spU m = s.spU m
    let lost (u : State) (cause l : Nat) : Prop := own u ∧ (u.spU i).pieces = [] ∧ (u.spU i).lastT = none ∧ (u.spU i).num = 0 ∧
      (u.spU i).ends = h.ends ++ (a.endSet i).map (fun c => (a.toStrobe 0 l + ns 40, c.1, c.2)) ∧
      u.rd SPSTAT.LASTLOSS i = cause ∧ u.rd SPSTAT.LOSSES i = satTo 0xFF (s.rd SPSTAT.LOSSES i + 1) ∧
      raised s u t [⟨6656 + 4 * i + 1, l, cause * 2 ^ 24 + a.spAngle i l, false, false⟩]
    let live := s.rd SPSTAT.STATE i = 3 ∨ s.rd SPSTAT.STATE i = 4
    let g := s.gapOf i h.pos
    (∀ e rest, h.edges = e :: rest → e.fwd = true → live → h.now0 = false → h.bare = false → s.on SPCTL.PRED i = false →
      let x := s.fineAt 0 e.at_
      let iv := x - h.tk
      let p := (h.pos + g + 1) % s.teeth i
      let rev := if h.pos + g + 1 < s.teeth i then h.rev else h.rev + 1
      let from_ := rev * s.revLen i + p * s.mtpt i
      let gn := s.gapOf i p
      0 < h.num → x < h.tk + (g + 1) * s.rd SPTOL.LATE i * h.num / (16 * h.den) →
      (g + 1) * s.rd SPTOL.EARLY i * h.num ≤ iv * 16 * h.den → h.tk + (g + 1) * h.num / h.den ≤ x →
      ∃ u, exec (.spoolTooth t i) s = .next u ∧ own u ∧ u.rd SPSTAT.STATE i = 3 ∧
        regsKeptEv s u [SPSTAT.WHOLE.adr i 0, SPTOOTH_LO.WHOLE.adr i 0, SPTOOTH_HI.WHOLE.adr i 0, SPDELTA.WHOLE.adr i 0] ∧
        u.rd64 SPTOOTH_LO.VALUE SPTOOTH_HI.VALUE i = x % 2 ^ 64 ∧ u.rd SPDELTA.DELTA i = satTo 0xFFFFFFFF (iv / (64 * (g + 1))) ∧
        u.spU i = { { h with edges := rest, lastT := some x, tk := x, pos := p, rev := rev, num := iv, den := g + 1, prev := (iv, g + 1) } with
          pieces := [⟨x, 65536 * from_, iv, (g + 1) * s.mtpt i * 65536⟩], top := some (from_ + (gn + 1) * s.mtpt i - 1), floor := h.fineAt d / 65536 } ∧
        raised s u t (if p = 0 then [⟨6656 + 4 * i + 2, x, g % 8 * 2 ^ 24 + rev % 65536, false, false⟩] else [])) ∧
    (s.rd SPSTAT.STATE i = 3 → h.bare = false → 0 < h.num → s.rd SPCTL.SRC i ≠ 3 → h.tk + (g + 1) * h.num / h.den ≤ d →
      ∃ u, exec (.spoolHalt t i) s = .next u ∧ own u ∧ u.spU i = h ∧ u.fab = s.fab ∧ regsKept s u [SPSTAT.WHOLE.adr i 0] ∧
        u.rd SPSTAT.STATE i = 4 ∧ u.rd SPSTAT.LOSSES i = s.rd SPSTAT.LOSSES i) ∧
    (∀ e rest, h.edges = e :: rest → e.fwd = false → live →
      ∃ u, exec (.spoolReverseEdge t i) s = .next u ∧ own u ∧ u.fab = s.fab ∧ regsKept s u [SPSTAT.WHOLE.adr i 0] ∧
        u.rd SPSTAT.STATE i = 5 ∧ u.spU i = { h with edges := rest, floor := h.tickAt d, pieces := [], top := none, back := 1 }) ∧
    (let l := h.tk + (g + 1) * s.rd SPTOL.LATE i * h.num / (16 * h.den)
     live → 0 < h.num → s.rd SPCTL.SRC i ≠ 3 → l ≤ d →
      ∃ u, exec (.spoolLateDeadline t i) s = .next u ∧ lost u 1 l ∧ u.rd SPSTAT.STATE i = 1 ∧ regsKeptEv s u [SPSTAT.WHOLE.adr i 0]) ∧
    (∀ src w, src.ok = true → s.applies src (SPCTL.WHOLE.adr i 0) = true →
      (SPCTL.EN.of w = 1 → SPCTL.DESYNC.of w = 0 → s.on SPCTL.EN i = true →
        ∃ u, exec (.spctlSyncnow t src i w) s = .next u ∧ own u ∧ regsKept s u [SPCTL.WHOLE.adr i 0] ∧ u.fab = s.fab ∧
          u.rd SPCTL.SRC i = s.rd SPCTL.SRC i ∧ u.spU i = { h with now0 := true }) ∧
      (SPCTL.EN.of w = 1 → SPCTL.SYNCNOW.of w = 0 → s.on SPCTL.EN i = true → live →
        ∃ u, exec (.spctlDesync t src i w) s = .next u ∧ lost u 5 d ∧ u.rd SPSTAT.STATE i = 1 ∧
          regsKeptEv s u [SPCTL.WHOLE.adr i 0, SPSTAT.WHOLE.adr i 0]) ∧
      (SPCTL.EN.of w = 1 → SPCTL.SYNCNOW.of w = 0 → SPCTL.DESYNC.of w = 0 → s.on SPCTL.EN i = false →
        ∃ u, exec (.spctlEnWrite t src i w) s = .next u ∧ own u ∧ regsKept s u [SPCTL.WHOLE.adr i 0, SPSTAT.WHOLE.adr i 0] ∧
          u.fab = s.fab ∧ u.rd SPCTL.SRC i = SPCTL.SRC.of w ∧ u.rd SPCTL.EN i = 1 ∧ u.rd SPSTAT.STATE i = 1 ∧
          u.on SPSTAT.PATERR i = u.patErr i ∧ u.spU i = { SpH.init with rev := h.rev, ends := h.ends }) ∧
      (SPCTL.EN.of w = 0 → SPCTL.DESYNC.of w = 0 → s.on SPCTL.EN i = true → live →
        ∃ u, exec (.spctlEnWrite t src i w) s = .next u ∧ lost u 5 d ∧ u.rd SPSTAT.STATE i = 0 ∧ u.rd SPCTL.EN i = 0 ∧
          regsKeptEv s u [SPCTL.WHOLE.adr i 0, SPSTAT.WHOLE.adr i 0])) ∧
    (∀ E n l, h.ends = [(E, n, l)] → E ≤ t → n < 1024 → s.paired n = false → (s.ch n).run.slot = none → s.rd CHSTAT.STATE n = 0 →
      ∃ u, exec (.spoolEnding t i) s = .next u ∧
        u = { s with now := u.now, regs := u.regs, sp := u.sp, chan := u.chan, fab := u.fab, pw := u.pw, teth := u.teth, tp := u.tp } ∧
        (∀ m, m ≠ n → u.ch m = s.ch m) ∧ regsKeptEv s u [] ∧ u.spU i = { h with ends := [] } ∧ (u.ch n).pin.lvl = l ∧
        (u.ch n).dl.pend = (s.ch n).dl.pend.filter
          (fun e => e.org != .slot i || decide (e.at_ ≤ a.etbNow n - a.espan n (ns 4))) ∧
        raised s u t [⟨6 * n + 5, d, 5 * 2 ^ 24 + i, false, false⟩])) ∧
  (∀ (t i : Nat) (s : State), i < 32 → s.now ≤ t → s.aevs i = [] → (∀ k, k < 18 → (s.tbH k).mode ≠ 2 ∨ (s.tbH k).spool ≠ i) →
    let h := s.spU i
    let a := s.advance t
    let d := s.fineAt 0 t
    let own (u : State) : Prop :=
      u = { s with now := u.now, regs := u.regs, sp := u.sp, fab := u.fab, pw := u.pw, teth := u.teth, tp := u.tp } ∧
        ∀ m, m ≠ i → u.spU m = s.spU m
    (∀ src, src.ok = true → s.readable src (SPANGLE.WHOLE.adr i 0) = true →
      ∃ u, exec (.spangleRead t src i) s = .next u ∧ onlyRegs s u ∧
        regsKept s u [SPANGLE.WHOLE.adr i 0, SPREV.WHOLE.adr i 0, SPANGTS_LO.WHOLE.adr i 0, SPANGTS_HI.WHOLE.adr i 0] ∧
        u.rd SPANGLE.ANGLE i = a.spAngle i d % 2 ^ 22 ∧ u.rd SPREV.REV i = a.spRev i d % 2 ^ 32 ∧
        u.rd64 SPANGTS_LO.VALUE SPANGTS_HI.VALUE i = d % 2 ^ 64 ∧
        u.resp = ⟨.ok, (toBytes 4 (a.spAngle i d % 2 ^ 22)).map (·.toNat)⟩) ∧
    (s.isolated 209 = false → s.on SPCTL.BCAST i = true → h.sampled ≠ some (d / 64000) → s.rd SPSTAT.STATE i = 4 → 0 < s.revLen i →
      let n := d / 64000
      let y := h.fineAt (64000 * n)
      let r : SpRec := ⟨s.rd TSTAT.IDX, i, 1000 * n, y % (65536 * s.revLen i), 0, 4, y / 65536 / s.revLen i % 2 ^ 32,
        s.rd SPSTAT.LOSSES i, s.teeth i, s.mtpt i⟩
      exec (.spoolBcastSample t i) s = .next ((a.modSp i (fun h => { h with sampled := some n })).tSend 32 (.spool r))) ∧
    (∀ r : SpRec, s.on SPCTL.EN i = true → s.rd SPCTL.SRC i = 3 → r.dev = s.rd SPSRC.RDEV i → r.spool = s.rd SPSRC.RSPOOL i →
      r.state = 3 → r.rate ≠ 0 → r.teeth < 2 ^ 11 → r.mtpt < 2 ^ 13 →
      let p : Piece := ⟨64 * r.tau, 65536 * r.rev * (r.teeth * r.mtpt) + r.angle, 64000, r.rate⟩
      (s.spLive i = false →
        ∃ u, exec (.spoolRecordArrival t i r) s = .next u ∧ own u ∧
          regsKeptEv s u [SPSTAT.WHOLE.adr i 0, SPGEOM.WHOLE.adr i 0, SPREMSTAT.WHOLE.adr i 0] ∧ u.rd SPSTAT.STATE i = 3 ∧
          u.teeth i = r.teeth ∧ u.mtpt i = r.mtpt ∧ u.rd SPREMSTAT.RECS i = (s.rd SPREMSTAT.RECS i + 1) % 2 ^ 16 ∧
          (u.spU i).pieces = [p] ∧ (u.spU i).floor = 0 ∧ (u.spU i).tau = some (64 * r.tau) ∧ (u.spU i).losses = r.losses ∧
          raised s u t [⟨6656 + 4 * i, 64 * r.tau, r.angle / 65536, false, false⟩]) ∧
      (s.spLive i = true → r.losses = h.losses → s.on SPCTL.CATCHUP i = false → s.teeth i = r.teeth → s.mtpt i = r.mtpt →
        ∃ u, exec (.spoolRecordArrival t i r) s = .next u ∧ own u ∧ u.fab = s.fab ∧
          regsKept s u [SPSTAT.WHOLE.adr i 0, SPREMSTAT.WHOLE.adr i 0] ∧ u.rd SPSTAT.STATE i = 3 ∧
          u.rd SPREMSTAT.RECS i = (s.rd SPREMSTAT.RECS i + 1) % 2 ^ 16 ∧ (u.spU i).pieces = [p] ∧
          (u.spU i).floor = h.fineAt d / 65536 ∧ (u.spU i).tau = some (64 * r.tau)) ∧
      (s.spLive i = true → r.losses ≠ h.losses →
        ∃ u, exec (.spoolRecordArrival t i r) s = .next u ∧ own u ∧ regsKeptEv s u [SPSTAT.WHOLE.adr i 0] ∧
          u.rd SPSTAT.STATE i = 1 ∧ u.rd SPSTAT.LASTLOSS i = 4 ∧
          raised s u t [⟨6656 + 4 * i + 1, d, 4 * 2 ^ 24 + a.spAngle i d, false, false⟩])) ∧
    (∀ x, h.tau = some x → s.rd SPCTL.SRC i = 3 → s.spLive i = true →
      let l := x + us (s.rd SPSRC.REMAGE i)
      l ≤ d → ∃ u, exec (.remoteAgeExpiry t i) s = .next u ∧ own u ∧ regsKeptEv s u [SPSTAT.WHOLE.adr i 0] ∧
        u.rd SPSTAT.STATE i = 1 ∧ u.rd SPSTAT.LASTLOSS i = 4 ∧ u.rd SPSTAT.LOSSES i = satTo 0xFF (s.rd SPSTAT.LOSSES i + 1) ∧
        (u.spU i).pieces = [] ∧ (u.spU i).ends = h.ends ++ (a.endSet i).map (fun c => (a.toStrobe 0 l + ns 40, c.1, c.2)) ∧
        raised s u t [⟨6656 + 4 * i + 1, l, 4 * 2 ^ 24 + a.spAngle i l, false, false⟩]))

/-- Angle events (R261 to R264). An AEVCTL write arms a slot with the angle and the offset written before it, for the first
occurrence whose R and F lie 40 ns after the write; ARM 0 disarms it without an event; an angle of a revolution or more is
refused with BADARG. At F − 40 ns the slot is fixed and delivers an edge, a run start or a trigger. The arm ring applies an
entry as the three register writes and CONS follows. The model's own choices it rests on: log entry 1. -/
def Obligations.AngleEvents : Prop :=
  ∀ (t i j : Nat) (s : State), i < 32 → j < 64 → s.now ≤ t → (s.aevU i j).fix = none → (s.aevU i j).ra = none →
    let a := s.advance t
    let x := s.aevU i j
    let d := s.fineAt 0 t
    let ang := s.rd AEVANG.ANG i j
    let off : Int := 64 * toSigned 32 (s.rd AEVOFF.OFF i j)
    let slotOnly (u : State) : Prop := u = { s with now := u.now, regs := u.regs, aev := u.aev } ∧
      ∀ m n, n < 64 → (m, n) ≠ (i, j) → u.aevU m n = s.aevU m n
    let ctl (u : State) (w : Word) (arm : Nat) : Prop := u.rd AEVCTL.ARM i j = arm ∧ u.rd AEVCTL.ACT i j = AEVCTL.ACT.of w ∧
      u.rd AEVCTL.CH i j = AEVCTL.CH.of w ∧ u.rd AEVCTL.LVL i j = (if AEVCTL.LVL.of w = 3 then 0 else AEVCTL.LVL.of w) ∧
      u.rd AEVCTL.END i j = AEVCTL.END.of w ∧ u.rd AEVCTL.ENDLVL i j = AEVCTL.ENDLVL.of w ∧ u.rd AEVCTL.KEEP i j = AEVCTL.KEEP.of w ∧
      u.rd AEVCTL.REV i j = AEVCTL.REV.of w
    let both : List Nat := [AEVCTL.WHOLE.adr i j, AEVSTAT.WHOLE.adr i j]
    (∀ src w, src.ok = true → s.applies src (AEVCTL.WHOLE.adr i j) = true → AEVCTL.ACT.of w = 0 ∨ AEVCTL.ACT.of w = 3 →
      AEVCTL.END.of w = 0 →
      (∃ u, exec (.aevctlDisarm t src i j w) s = .next u ∧ slotOnly u ∧ regsKept s u both ∧ ctl u w 0 ∧ u.rd AEVSTAT.STATE i j = 0 ∧
        u.aevU i j = { x with armed := false, occ := none, ra := none }) ∧
      (∀ c, c = (Instr.aevctlOnce t src i j w, 1) ∨ c = (Instr.aevctlEvery t src i j w, 2) ∨ c = (Instr.aevctlOnceRev t src i j w, 3) →
        (ang < s.revLen i → s.spLive i = false →
          ∃ u, exec c.1 s = .next u ∧ slotOnly u ∧ regsKept s u both ∧ ctl u w c.2 ∧ u.rd AEVSTAT.STATE i j = 1 ∧
            u.aevU i j = { x with armed := true, ang := ang, off := off, arr := d, occ := none, ra := none }) ∧
        (s.revLen i ≤ ang → ∃ u, exec c.1 s = .next u ∧
          u = { s with now := u.now, regs := u.regs, aev := u.aev, fab := u.fab, pw := u.pw, teth := u.teth, tp := u.tp } ∧
          (∀ m n, n < 64 → (m, n) ≠ (i, j) → u.aevU m n = s.aevU m n) ∧ regsKeptEv s u both ∧ ctl u w c.2 ∧ u.rd AEVSTAT.STATE i j = 0 ∧ u.rd AEVSTAT.EXPR i j = 3 ∧ (u.aevU i j).armed = false ∧
          raised s u t [⟨6656 + 4 * i + 3, d / 64 * 64, 3 * 2 ^ 24 + j * 2 ^ 16 + s.rd AEVSTAT.FIRES i j, false, false⟩]) ∧
        (∀ y z, ang < s.revLen i → s.spLive i = true → c.2 ≠ 3 →
          let m := a.spTick i d / s.revLen i * s.revLen i + ang
          let need := d + a.span 0 (ns 40)
          a.startAngle i ≤ 65536 * m → s.reachOf i m = some y → s.reachOf i (m + s.revLen i) = some z → y < z → need ≤ y → (need : Int) ≤ (y : Int) + off →
          ∃ u, exec c.1 s = .next u ∧ slotOnly u ∧ regsKept s u both ∧ ctl u w c.2 ∧ u.rd AEVSTAT.STATE i j = 1 ∧
            u.aevU i j = { x with armed := true, ang := ang, off := off, arr := d, occ := some m, ra := none, f := ((y : Int) + off).toNat }))) ∧
    (∀ m, x.occ = some m → x.armed = true → s.rd SPSTAT.STATE i = 3 → (s.spU i).bare = false → x.f ≤ d + a.span 0 (ns 40) → s.rd AEVCTL.ARM i j = 1 →
      let n := s.rd AEVCTL.CH i j
      let fixed (u : State) (res : Nat) : Prop := u.aevU i j = { x with fix := some x.f, armed := false, occ := none, ra := none, skips := 0 } ∧
        (∀ p q, q < 64 → (p, q) ≠ (i, j) → u.aevU p q = s.aevU p q) ∧ u.rd AEVSTAT.STATE i j = 2 ∧ u.rd AEVSTAT.RESULT i j = res
      s.etb n = 0 → (s.ch n).dl.etbHeld = none → s.paired n = false →
      (s.rd AEVCTL.ACT i j = 1 → (s.ch n).dl.pend = [] → (s.ch n).dl.lastAt = none →
        ∃ u, exec (.slotCommit t i j) s = .next u ∧ u = { s with now := u.now, regs := u.regs, aev := u.aev, chan := u.chan } ∧
          (∀ q, q ≠ n → u.ch q = s.ch q) ∧ regsKept s u [AEVSTAT.WHOLE.adr i j] ∧ fixed u 0 ∧
          (u.ch n).dl.pend = [⟨x.f, s.rd AEVCTL.LVL i j + 1, .slot i, false, none⟩] ∧ (u.ch n).pin = (s.ch n).pin) ∧
      (s.rd AEVCTL.ACT i j = 2 → 1 ≤ s.rd CHCTL.MODE n → s.rd CHCTL.MODE n ≤ 3 → s.rd CHSTAT.STATE n = 0 →
        ns 8 ≤ s.rd PRD.VALUE n * 2 ^ s.rd CHCTL.CUNIT n →
        ∃ u, exec (.slotCommit t i j) s = .next u ∧ u = { s with now := u.now, regs := u.regs, aev := u.aev, chan := u.chan } ∧
          (∀ q, q ≠ n → u.ch q = s.ch q) ∧ regsKept s u [AEVSTAT.WHOLE.adr i j, CHSTAT.WHOLE.adr n 0] ∧ fixed u 0 ∧
          u.rd CHSTAT.STATE n = 4 ∧ u.ch n = { s.ch n with run := { (s.ch n).run with start := some ⟨x.f, none, false, 0, false, false, some (64 * i + j)⟩ } }) ∧
      (s.rd AEVCTL.ACT i j = 3 → ∃ u, exec (.slotCommit t i j) s = .next u ∧
          u = { s with now := u.now, regs := u.regs, aev := u.aev, sar := u.sar } ∧ regsKept s u [AEVSTAT.WHOLE.adr i j] ∧ fixed u 0 ∧
          ∀ k, k < 16 → u.sarU k = (if s.rd SARTRIG.TSRC k = 2 ∧ s.rd SARTRIG.TCH k % 32 = i
            then { s.sarU k with trigs := (s.sarU k).trigs ++ [a.toStrobe 0 x.f] } else s.sarU k))) ∧
    (let b := s.rd SPRING.BASE i * 512
     let w32 (y : Nat) : Nat := ofBytes (s.mem.sramBytes y 4)
     let cons := w32 (b + 0x104)
     let e := b + 16 * (cons % 16)
     s.on SPRING.EN i = true → s.fineAt 17 t % 64000 = 0 → b < 0x1800000 → s.isolated (68 + b / 0x40000) = false →
      s.isolated 209 = false → s.mem.poison = [] → w32 (b + 0x100) = (cons + 1) % 2 ^ 32 → w32 e % 64 = j → s.spLive i = false →
      w32 (e + 4) % 2 ^ 22 < s.revLen i → w32 (e + 12) / 2 ^ 25 % 2 = 0 → w32 (e + 12) / 2 ^ 28 = 4 → ∀ err : Ecc, err.ue = [] →
      ∃ u, exec (.springPoll t i err) s = .next u ∧ u = { s with now := u.now, regs := u.regs, rel := u.rel, aev := u.aev, mem := u.mem, ecc := .clean } ∧
        regsKept s u (SRAMCE.WHOLE.adr 0 0 :: AEVANG.WHOLE.adr i j :: AEVOFF.WHOLE.adr i j :: both) ∧ u.rd AEVANG.ANG i j = w32 (e + 4) % 2 ^ 22 ∧
        u.rd AEVOFF.OFF i j = w32 (e + 8) ∧ u.rd AEVSTAT.STATE i j = 1 ∧ (u.aevU i j).armed = true ∧
        (u.aevU i j).ang = w32 (e + 4) % 2 ^ 22 ∧ (u.aevU i j).off = 64 * toSigned 32 (w32 (e + 8)) ∧
        ofBytes (u.mem.sramBytes (b + 0x104) 4) = (cons + 1) % 2 ^ 32 ∧
        ∀ y, y < b + 0x104 ∨ b + 0x108 ≤ y → u.byteAt y = s.byteAt y)

/-! ### The host interface (chapter 11) -/

/-- Resets of the host interface, the bridle, the watchdog and configuration requests (R271 to R273, R278, R279). A Function Level
Reset stops the function's queues and movers and masks its vectors; a reset of PF0 or a hot reset does so for every function
and returns every register of the chapter to its reset value, the bridle excepted; none of them changes anything outside the
bridge. A KICK restarts the watchdog's period, whose end is reported and, with ACT, sends the function's groups to their safe
state 40 ns later. Until boot completes a configuration request is answered with Configuration Request Retry Status; then it
reads and sets the fields of the capabilities (R269, R270). The model's own choices it rests on: log entries 1, 77, 78, 123,
159, 160. -/
def Obligations.HostInterface : Prop :=
  ∀ (t f : Nat) (s : State), f < 17 → s.now ≤ t →
    let d := s.fineAt 0 t / 64 * 64
    let busy (g : Nat) : Prop := ∃ m, m < 32 ∧ s.mvFn m = g ∧ 1 ≤ s.rd MVSTAT.STATE m ∧ s.rd MVSTAT.STATE m ≤ 3
    let vec (g v : Nat) : Prop := s.rd FNVR.VFIRST g ≤ v ∧ v < s.rd FNVR.VFIRST g + s.rd FNVR.VCNT g
    let reset (u : State) : Prop := hostEvents s u ∧ (∀ a, hostReg a = true → u.reg a = regReset a) ∧
      (∀ a, hostReg a = false → evReg a = false → u.reg a = s.reg a) ∧ (∀ q, u.qc q = QCtx.init) ∧ (∀ m, u.mover m = MvH.init) ∧
      (∀ v, u.msix v = MsixE.init) ∧ u.host.up = s.host.up ∧ u.vecReq = []
    (1 ≤ f → ∃ u, exec (.vfFlr t f) s = .next u ∧ hostEvents s u ∧
      (∀ q, s.qFunc q = some f → (u.qc q).en = false) ∧ (∀ q, s.qFunc q ≠ some f → u.qc q = s.qc q) ∧
      (∀ v, vec f v → (u.msix v).mask = true) ∧ (∀ v, ¬ vec f v → u.msix v = s.msix v) ∧
      (∀ m, m < 32 → s.mvFn m = f → 1 ≤ s.rd MVSTAT.STATE m → s.rd MVSTAT.STATE m ≤ 3 →
        u.rd MVSTAT.STATE m = 4 ∧ u.rd MVSTAT.ERR m = 10 ∧ u.mover m = MvH.init) ∧
      regsKeptEv s u (QCMDSTAT.WHOLE.adr 0 0 :: (upFrom 0 32).flatMap (fun m => [MVSEQ.WHOLE.adr m 0, MVSTAT.WHOLE.adr m 0])) ∧
      (∀ x q, u.host.qcmd = some (x, q) → s.qFunc q ≠ some f) ∧
      (¬ busy f → regsKeptEv s u [QCMDSTAT.WHOLE.adr 0 0] ∧ raised s u t [⟨7716, d, f, false, false⟩])) ∧
    (∃ u, exec (.pfFlr t) s = .next u ∧ reset u ∧ ((∀ g, ¬ busy g) → raised s u t [⟨7716, d, 0, false, false⟩])) ∧
    (∃ u, exec (.hotReset t) s = .next u ∧ reset u ∧ ((∀ g, ¬ busy g) → u.fab = s.fab)) ∧
    (∀ src e w, src.ok = true → e < 384 → s.applies src (BRIDLE.WHOLE.adr 0 e) = true →
      ∃ u, exec (.bridleWrite t src e w) s = .next u ∧ onlyRegs s u ∧ regsKept s u [BRIDLE.WHOLE.adr 0 e] ∧
        u.rd BRIDLE.SHARED 0 e = BRIDLE.SHARED.of w ∧ u.rd BRIDLE.OWNER 0 e = BRIDLE.OWNER.of w ∧ u.rd BRIDLE.VF 0 e = BRIDLE.VF.of w ∧
        u.rd BRIDLE.COOWN 0 e = BRIDLE.COOWN.of w ∧ u.rd BRIDLE.COVF 0 e = BRIDLE.COVF.of w) ∧
    (∀ src w, src.ok = true → s.applies src (HOSTWD.WHOLE.adr f 0) = true → HOSTWD.PERIOD.of w ≠ 0 →
      ∃ u, exec (.hostwdKick t src f w) s = .next u ∧ hostOnly s u ∧ regsKept s u [HOSTWD.WHOLE.adr f 0] ∧
        u.rd HOSTWD.PERIOD f = HOSTWD.PERIOD.of w ∧ u.rd HOSTWD.ACT f = HOSTWD.ACT.of w ∧
        u.host = { s.host with wd := u.host.wd } ∧ u.host.wd.get (fun _ => none) f = some t ∧
        ∀ g, g ≠ f → u.host.wd.get (fun _ => none) g = s.host.wd.get (fun _ => none) g) ∧
    (∀ b, s.host.wd.get (fun _ => none) f = some b → b + us (s.rd HOSTWD.PERIOD f) ≤ t → s.on WAKEEN.WD = false →
      ∃ u, exec (.hostWdExpiry t f) s = .next u ∧
        u = { s with now := u.now, regs := u.regs, host := u.host, grp := u.grp, fab := u.fab, pw := u.pw, teth := u.teth, tp := u.tp } ∧
        u.host = { s.host with wd := u.host.wd } ∧ regsKeptEv s u [FNSTAT.WHOLE.adr f 0] ∧ u.rd FNSTAT.WDEXP f = 1 ∧
        u.host.wd.get (fun _ => none) f = none ∧ raised s u t [⟨7715, d, f, false, false⟩] ∧
        ∀ j, j < 128 → u.gr j = (if s.on HOSTWD.ACT f ∧ ownedBy (s.rd BRIDLE.OWNER 0 j) (s.rd BRIDLE.VF 0 j) j (.fn f) then
          { s.gr j with safe := (s.gr j).safe ++ [(b + us (s.rd HOSTWD.PERIOD f) + ns 40, 4)] } else s.gr j)) ∧
    (s.host.perst = false → s.pw.gnd = false → ∀ off, off < 4096 →
      (s.on BOOTSTAT.DONE = false → ∀ w v, ∃ u, exec (.configurationRequest t f off w v) s = .next u ∧ u = { s with now := t, resp := ⟨.crs, []⟩ }) ∧
      (s.on BOOTSTAT.DONE = true →
        (∃ u, exec (.configurationRequest t f 0 none none) s = .next u ∧
          u = { s with now := t, resp := ⟨.ok, [0x4B, 0x1E, if f = 0 then 0x24 else 0x25, 0x10]⟩ }) ∧
        (∀ x v, s.cfgField f x = some v → ∃ u, exec (.configurationRequest t f off none (some x)) s = .next u ∧
          u = { s with now := t, resp := ⟨.ok, (toBytes 4 v).map (·.toNat)⟩ }) ∧
        (∀ w x, ∃ u, exec (.configurationRequest t f off (some w) x) s = .next u ∧
          u = { s with now := t, resp := ⟨.ok, []⟩, host := u.host } ∧
          u.host = { s.host with vfEn := u.host.vfEn, cfg := u.host.cfg } ∧ (∀ g, g ≠ f → (f = 0 → g ≠ 1) → u.cfg g = s.cfg g) ∧
          u.host.vfEn = (if f = 0 ∧ x = some .vfEnable then bitAt w.toNat 0 else s.host.vfEn) ∧
          (x = some .payload → u.cfg f = { s.cfg f with payload := if w.toNat % 8 ≤ 2 then w.toNat % 8 else (s.cfg f).payload }) ∧
          (x = some .readRequest → u.cfg f = { s.cfg f with readReq := if w.toNat % 8 ≤ 5 then w.toNat % 8 else (s.cfg f).readReq }) ∧
          (x = none → f = 0 → off = 0x10 → (u.cfg 0).bar 0 = w.toNat / 2 ^ 26 * 2 ^ 26 + 4))))

/-- Movers (R280 to R284, R294). GO starts at MVHEAD from IDLE or ERROR; STOP lets the current descriptor retire, and ends RECOVER
with ABORT; a descriptor with a shape mismatch moves nothing; a FILL of shared SRAM stores its pattern; host data go out to
the destination and wait for their acknowledgement; a descriptor that is done retires with the next sequence number and its
event; an error stops the mover; a completion timeout counts and replays the descriptor, the fourth ends it; with the link
down movers hold in RECOVER, and at its return unacknowledged records are written again with REPLAY. The model's own choices
it rests on: log entries 1, 73, 74, 75, 76, 161. -/
def Obligations.Movers : Prop :=
  ∀ (t m : Nat) (s : State), m < 32 → s.now ≤ t → s.host.up = true → s.isolated (164 + m) = false → s.mvFn m = 0 → ∀ e : Ecc,
    let h := s.mover m
    let d64 := s.fineAt 0 t / 64 * 64
    let st := s.rd MVSTAT.STATE m
    let z : State := { s with ecc := .clean }
    let mvOnly (z u : State) : Prop := hostOnly z u ∧ u.host = { s.host with mv := u.host.mv } ∧ ∀ k, k ≠ m → u.mover k = s.mover k
    let cur : List Nat := [MVCUR_LO.WHOLE.adr m 0, MVCUR_HI.WHOLE.adr m 0]
    let fails (z u : State) (code tag : Nat) : Prop := hostEvents z u ∧ u.rd MVSTAT.STATE m = 4 ∧ u.rd MVSTAT.ERR m = code ∧
      u.rd MVSEQ.SEQ m = (s.rd MVSEQ.SEQ m + 1) % 2 ^ 32 ∧ u.mover m = MvH.init ∧
      raised s u t [⟨7456 + m, d64, code * 2 ^ 24 + m * 2 ^ 16 + tag, false, false⟩] ∧
      regsKeptEv s u [MVSTAT.WHOLE.adr m 0, MVSEQ.WHOLE.adr m 0]
    (∀ src w, src.ok = true → s.applies src (MVCTL.WHOLE.adr m 0) = true →
      (st = 0 ∨ st = 4 → MVCTL.STOP.of w = 0 →
        ∃ u, exec (.mvctlGo t src m w) s = .next u ∧ mvOnly s u ∧ regsKept s u [MVSTAT.WHOLE.adr m 0] ∧ u.rd MVSTAT.STATE m = 1 ∧
          u.rd MVSTAT.RETRY m = 0 ∧
          u.mover m = ⟨some (s.rd MVHEAD_LO.ADDR m * 64 + s.rd MVHEAD_LO.SP m + s.rd MVHEAD_HI.ADDR m * 2 ^ 32), [], false⟩) ∧
      (∀ d, st = 1 → h.descs = [d] → ∃ u, exec (.mvctlStop t src m w) s = .next u ∧ hostOnly s u ∧ u.regs = s.regs ∧
        u.host = { s.host with mv := u.host.mv, reqs := keepReqs m d.due s.host.reqs } ∧ (∀ k, k ≠ m → u.mover k = s.mover k) ∧
        u.mover m = ⟨none, [d], true⟩) ∧
      (∀ d, st = 3 → h.descs = [d] → ∃ u, exec (.mvctlStop t src m w) s = .next u ∧ fails s u 10 d.tag)) ∧
    (∀ a w, st = 1 → h.fetch = some a → a % 2 = 0 → h.descs = [] →
      let D : MvD := ⟨a, w, bitAt (w.getD 0 0) 25, [], 0, false, 0, 0, false, 0, 0⟩
      (D.op = 0 → D.reserved = false → D.slen * D.slines ≠ D.dlen * D.dlines →
        ∃ u, exec (.mvDescriptorFetched t m .ok e w) s = .next u ∧ mvOnly z u ∧ regsKept s u cur ∧
          u.mover m = ⟨none, [{ D with err := 2 }], h.stop⟩) ∧
      (s.mvCheck m D = 0 → D.op = 0 → D.ssp = false → D.slines = 1 → D.slen ≤ s.maxRead 0 → s.nonPosted < 256 →
        ∃ u, exec (.mvDescriptorFetched t m .ok e w) s = .next u ∧ hostOnly z u ∧ regsKept s u cur ∧
          u.host = { s.host with mv := u.host.mv, reqs := s.host.reqs ++ [(m, D.slen)] } ∧ (∀ k, k ≠ m → u.mover k = s.mover k) ∧
          u.mover m = ⟨D.chain, [{ D with need := D.slen, asked := D.slen }], h.stop⟩) ∧
      (let b := (D.dAdr 0).toNat
       s.mvCheck m D = 0 → D.op = 1 → D.dsp = true → D.dlen = 8 → D.dlines = 1 → b % 8 = 0 → s.isolated (68 + b / 0x40000) = false →
        ∃ u, exec (.mvDescriptorFetched t m .ok e w) s = .next u ∧
          u = { z with now := u.now, regs := u.regs, host := u.host, mem := u.mem } ∧ u.host = { s.host with mv := u.host.mv } ∧
          regsKept s u cur ∧ u.mover m = ⟨D.chain, [{ D with issued := true }], h.stop⟩ ∧
          u.mem.sramBytes b 8 = toBytes 4 (D.at 4) ++ toBytes 4 (D.at 5) ∧ ∀ x, x < b ∨ b + 8 ≤ x → u.byteAt x = s.byteAt x)) ∧
    (∀ (d : MvD) (data : List Byte), st = 1 → h.descs = [d] → d.op = 0 → d.ssp = false → d.dsp = false → d.err = 0 → d.issued = false →
      d.need = data.length → data ≠ [] → d.got = [] → d.dlines = 1 → d.dlen = data.length → data.length ≤ s.maxPayload 0 →
      s.host.reqs = [(m, data.length)] → (∀ k, k < 32 → k ≠ m → s.rd MVSTAT.STATE k = 0) →
      (∃ u, exec (.hostCompletion t m .ok data e) s = .next u ∧ hostOnly z u ∧ regsKept s u cur ∧
        u.host = { s.host with mv := u.host.mv, reqs := [], out := s.host.out ++ [⟨(d.dAdr 0 % (2 ^ 48 : Nat)).toNat, data, .data m⟩] } ∧
        u.mover m = { h with descs := [{ d with got := data, need := 0, issued := true, unack := 1 }] }) ∧
      (∃ u, exec (.hostCompletion t m .error [] e) s = .next u ∧ hostOnly z u ∧ regsKept s u cur ∧
        u.host = { s.host with mv := u.host.mv, reqs := [] } ∧ u.mover m = { h with descs := [{ d with err := 5 }] }) ∧
      (s.qrec = [] → s.host.out = [] → d.w ≠ [] → s.rd MVSTAT.RETRY m < 3 → (s.mvNew m d.adr d.w).need ≠ 0 → d.slines = 1 →
        d.slen ≤ s.maxRead 0 → s.nonPosted < 256 →
        ∃ u, exec (.pcieCompletionTimeout t m e) s = .next u ∧ hostOnly z u ∧ u.host = { s.host with mv := u.host.mv, reqs := [(m, d.slen)] } ∧
          (∀ k, k ≠ m → u.mover k = s.mover k) ∧ regsKept s u (MVSTAT.WHOLE.adr m 0 :: cur) ∧
          u.rd MVSTAT.STATE m = 1 ∧ u.rd MVSTAT.RETRY m = s.rd MVSTAT.RETRY m + 1 ∧
          u.mover m = { h with descs := [{ s.mvNew m d.adr d.w with replay := true, asked := d.slen }] }) ∧
      (s.rd MVSTAT.RETRY m = 3 → d.crec = false → ∃ u, exec (.pcieCompletionTimeout t m e) s = .next u ∧ fails z u 7 d.tag)) ∧
    (∀ d x, st = 1 → h.descs = [d] → s.host.out = [x] → x.org = .data m → d.issued = true → d.unack ≠ 0 →
      (∀ k, k < 32 → k ≠ m → s.rd MVSTAT.STATE k = 0) →
      ∃ u, exec (.dllAck t 1 e) s = .next u ∧ hostOnly z u ∧ regsKept s u cur ∧ u.host = { s.host with mv := u.host.mv, out := [] } ∧
        (∀ k, k ≠ m → u.mover k = s.mover k) ∧ u.mover m = { h with descs := [{ d with unack := d.unack - 1 }] }) ∧
    (∀ d, st = 1 → h.descs = [d] → h.fetch = none →
      (d.err = 0 → d.issued = true → d.unack = 0 → d.crec = false → d.cev = true →
        ∃ u, exec (.mvDescriptorRetire t m e) s = .next u ∧ hostEvents z u ∧ u.host = { s.host with mv := u.host.mv } ∧ u.qrec = s.qrec ∧
          u.rd MVSEQ.SEQ m = (s.rd MVSEQ.SEQ m + 1) % 2 ^ 32 ∧ u.rd MVSTAT.STATE m = 0 ∧ u.mover m = ⟨none, [], false⟩ ∧
          regsKeptEv s u [MVSTAT.WHOLE.adr m 0, MVSEQ.WHOLE.adr m 0] ∧
          raised s u t [⟨7424 + m, d64, m * 2 ^ 16 + d.tag, false, false⟩]) ∧
      (d.err = 0 → d.issued = true → d.unack = 0 → d.crec = true → d.rec_ = 0 → s.qrec = [] →
        ∃ u, exec (.mvDescriptorRetire t m e) s = .next u ∧ u = { z with now := u.now, host := u.host, qrec := u.qrec } ∧
          u.host = { s.host with mv := u.host.mv } ∧ u.mover m = { h with descs := [{ d with rec_ := 1 }] } ∧
          u.qrec = [⟨bitsAt (d.at 11) 0 18, .completion, complWords d64 0 m d.tag (7424 + m) ((s.rd MVSEQ.SEQ m + 1) % 2 ^ 32) (d.at 14),
            d64, m, none, false, false⟩]) ∧
      (d.err ≠ 0 → d.err < 12 → d.crec = false → ∃ u, exec (.mvDescriptorRetire t m e) s = .next u ∧ fails z u d.err d.tag)) ∧
    (∃ u, exec (.linkDown t) s = .next u ∧ hostOnly s u ∧ u.host = { s.host with up := false, downAt := t } ∧
      regsKept s u ((upFrom 0 32).map (fun k => MVSTAT.WHOLE.adr k 0)) ∧
      ∀ k, k < 32 → u.rd MVSTAT.STATE k = (if s.rd MVSTAT.STATE k = 1 ∨ s.rd MVSTAT.STATE k = 2 then 3 else s.rd MVSTAT.STATE k)) ∧
    (∀ x r, s.host.out = [x] → x.org = .record r → s.host.perst = false → (∀ k, k < 32 → s.rd MVSTAT.STATE k ≠ 3) →
      let z : State := { z with host := { s.host with up := false } }
      ∃ u, exec (.linkUp t e) z = .next u ∧ hostEvents z u ∧ u.host = { s.host with out := [] } ∧
        u.qrec = { r with replay := true, hold := false } :: s.qrec ∧ regsKeptEv s u [] ∧
        raised z u t [⟨7490, d64, satTo 0xFFFF ((t - s.host.downAt) / us 1), false, false⟩])

/-- Queues (R286 to R291). QCMD starts a fetch or stops a queue of the writer's function; a context that passes the check enables
it with its counts at 0, and one that fails is reported; a doorbell moves CONS on and a backward one is ignored and reported;
a record goes to its slot with QSEQ, a full queue loses it, and one its queue does not take is dropped and counted; PROD
follows; a vector's request sends its message or sets the pending bit of a masked one. Command queues (R292). A WRITE reaches
its register with the authority of the queue's function and is consumed; a write that the bridle drops fails with AUTH; a
WRITEAT whose AT has not come holds the queue until then, one whose AT has passed is applied with status LATE; MARK gives a
result record; an undefined code is skipped with status BADCMD. The model's own choices it rests on: log entries 1, 38, 70,
71, 72, 79, 80. -/
def Obligations.Queues : Prop :=
  (∀ (t q f : Nat) (s : State), q < 262144 → f < 17 → s.now ≤ t → s.host.up = true → s.pw.gnd = false → s.qFunc q = some f →
    let c := s.qc q
    let d64 := s.fineAt 0 t / 64 * 64
    let src : Src := .fn f
    (s.holds src 0x401000 = false → s.on QCMDSTAT.BUSY = false →
      (∀ x, x = (Instr.qcmdEnable t src q, 1) ∨ x = (Instr.qcmdReload t src q, 3) →
        ∃ u, exec x.1 s = .next u ∧ hostOnly s u ∧ u.host = { s.host with qcmd := some (x.2, q) } ∧
          regsKept s u [QCMDSTAT.WHOLE.adr 0 0] ∧ u.rd QCMDSTAT.BUSY = 1) ∧
      (∃ u, exec (.qcmdDisable t src q) s = .next u ∧ hostOnly s u ∧ u.regs = s.regs ∧
        u.qc q = { c with en := false, cached := false, wat := none } ∧ (∀ p, p ≠ q → u.qc p = s.qc p) ∧
        u.host = { s.host with
          q := u.host.q, qfetch := s.host.qfetch.filter (· != q), out := s.host.out ++ [⟨(s.ctxAdr f q + 0x20) % 2 ^ 48,
            hostBytes [c.prod, c.cons, c.lost, c.qseq], .ctx q⟩] })) ∧
    (∀ w, s.host.qcmd = some (1, q) → (s.host.q.filter (fun e => e.2.cached)).length < 4096 →
      (s.ctxOk f (fun i => w.getD i 0) = true →
        ∃ u, exec (.queueContextFetched t q .ok w) s = .next u ∧ hostOnly s u ∧ (∀ p, p ≠ q → u.qc p = s.qc p) ∧
          u.qc q = { QCtx.init.load (fun i => w.getD i 0) with en := true, cached := true, used := s.host.clock + 1 } ∧
          u.host = { s.host with qcmd := none, q := u.host.q, clock := s.host.clock + 1 } ∧
          regsKept s u [QCMDSTAT.WHOLE.adr 0 0] ∧ u.rd QCMDSTAT.BUSY = 0 ∧ u.rd QCMDSTAT.ERR = 0) ∧
      (s.ctxOk f (fun i => w.getD i 0) = false →
        ∃ u, exec (.queueContextFetched t q .ok w) s = .next u ∧ hostEvents s u ∧ u.host = { s.host with qcmd := none } ∧
          regsKeptEv s u [QCMDSTAT.WHOLE.adr 0 0] ∧ u.rd QCMDSTAT.BUSY = 0 ∧ u.rd QCMDSTAT.ERR = 1 ∧
          raised s u t [⟨7489, d64, q, false, false⟩])) ∧
    (∀ w : Word, s.holds src 0x440000 = false → c.en = true → c.kind ≠ 2 →
      let n := (w.toNat + 2 ^ 32 - c.cons) % 2 ^ 32
      (n ≤ c.fill → ∃ u, exec (.doorbellWrite t src q w) s = .next u ∧ hostOnly s u ∧ u.regs = s.regs ∧
        u.host = { s.host with q := u.host.q } ∧ (∀ p, p ≠ q → u.qc p = s.qc p) ∧
        u.qc q = { c with cons := w.toNat, full := decide ((c.prod + 2 ^ 32 - w.toNat) % 2 ^ 32 = 2 ^ c.log2) }) ∧
      (c.fill < n → ∃ u, exec (.doorbellWrite t src q w) s = .next u ∧ hostEvents s u ∧ u.host = s.host ∧ regsKeptEv s u [] ∧
        raised s u t [⟨7489, d64, q, false, false⟩])) ∧
    (∀ r rest, s.qrec = r :: rest → r.q = q → r.hold = false → r.kind = .event → r.qseq = none →
      (c.en = true → c.kind = 0 → c.cached = true → c.gap = 0 → c.full = false → c.isen = false → ((c.prod + 1) % 2 ^ 32 + 2 ^ 32 - c.cons) % 2 ^ 32 ≠ 2 ^ c.log2 →
        (s.host.q.filter (fun e => e.2.cached)).length < 4096 →
        ∃ u, exec (.queueRecordWrite t q) s = .next u ∧ u = { s with now := u.now, host := u.host, qrec := rest } ∧
          u.host.out = s.host.out ++ [⟨(c.base + 32 * (c.prod % 2 ^ c.log2)) % 2 ^ 48, hostBytes (r.image c.qseq),
            .record { r with qseq := some c.qseq }⟩] ∧
          (u.qc q).prod = (c.prod + 1) % 2 ^ 32 ∧ (u.qc q).qseq = (c.qseq + 1) % 2 ^ 32 ∧ (u.qc q).wbDue = true ∧
          (u.qc q).cons = c.cons ∧ (u.qc q).lost = c.lost ∧ (∀ p, p ≠ q → u.qc p = s.qc p)) ∧
      (c.en = true → c.kind = 0 → c.cached = true → c.gap = 0 → c.full = true →
        ∃ u, exec (.queueRecordWrite t q) s = .next u ∧ u = { s with now := u.now, host := u.host, qrec := rest } ∧
          u.host = { s.host with q := u.host.q, bufFull := false } ∧ (∀ p, p ≠ q → u.qc p = s.qc p) ∧
          u.qc q = { c with lost := satTo 0xFFFFFFFF (c.lost + 1), gap := 1, gapTs := r.ts }) ∧
      (c.en = false → c.errAt = none → ∃ u, exec (.queueRecordWrite t q) s = .next u ∧ hostEvents s u ∧ u.qrec = rest ∧
          u.host.out = s.host.out ∧ regsKeptEv s u [] ∧
          u.qc q = { c with errAt := some t } ∧ raised s u t [⟨7489, d64, q, false, false⟩])) ∧
    (c.en = true → c.wbDue = true → ∃ u, exec (.prodWriteback t q) s = .next u ∧ hostOnly s u ∧ u.regs = s.regs ∧
      u.host = { s.host with q := u.host.q, out := s.host.out ++ [⟨c.prodwb % 2 ^ 48, toBytes 4 c.prod, .prodwb q⟩] } ∧
      (∀ p, p ≠ q → u.qc p = s.qc p) ∧ u.qc q = { c with wbDue := false }) ∧
    (c.en = true → c.isen = true → c.itime ≠ 0 → c.unsig ≠ 0 → c.oldest + us c.itime ≤ t →
      let v := s.rd FNVR.VFIRST f + c.vector
      ∃ u, exec (.queueItimeExpiry t q) s = .next u ∧ u = { s with now := u.now, host := u.host, vecReq := u.vecReq } ∧
        u.host = { s.host with q := u.host.q } ∧ (∀ p, p ≠ q → u.qc p = s.qc p) ∧ u.qc q = { c with unsig := 0 } ∧
        u.vecReq = (if (f, v) ∈ s.vecReq then s.vecReq else s.vecReq ++ [(f, v)])) ∧
    (∀ v, v < 2048 → (f, v) ∈ s.vecReq → let e := s.msix v
      ∃ u, exec (.msixRequest t f v) s = .next u ∧ u = { s with now := u.now, host := u.host, vecReq := s.vecReq.filter (· != (f, v)) } ∧
        (e.mask = true → u.host = { s.host with msix := u.host.msix } ∧ u.msix v = { e with pend := true }) ∧
        (e.mask = false → u.host = { s.host with out := s.host.out ++ [⟨e.addr % 2 ^ 48, toBytes 4 e.data, .msix v⟩] })) ∧
    (∀ i w, i < 0x800 → i < s.rd FNVR.VCNT f → s.holds src 0x300000 = false →
      let v := s.rd FNVR.VFIRST f + i
      let e := s.msix v
      (e.pend = false → ∃ u, exec (.msixTableWrite t src (16 * i + 12) [w]) s = .next u ∧ hostOnly s u ∧ u.regs = s.regs ∧
        u.host = { s.host with msix := u.host.msix } ∧ (∀ x, x ≠ v → u.msix x = s.msix x) ∧ u.msix v = { e with mask := bitAt w 0 }) ∧
      (e.pend = true → bitAt w 0 = false → ∃ u, exec (.msixTableWrite t src (16 * i + 12) [w]) s = .next u ∧ hostOnly s u ∧
        u.regs = s.regs ∧ u.msix v = { e with mask := false, pend := false } ∧
        u.host = { s.host with msix := u.host.msix, out := s.host.out ++ [⟨e.addr % 2 ^ 48, toBytes 4 e.data, .msix v⟩] }))) ∧
  (∀ (t q f i tag : Nat) (w : Word) (s : State), q < 262144 → f < 17 → i < 32 → tag < 2 ^ 32 → s.now ≤ t → s.asleep = false → s.pw.gnd = false →
    s.qFunc q = some f → (s.host.q.filter (fun e => e.2.cached)).length < 4096 →
    let c := s.qc q
    let off := GSTARTMASK.SEL.adr 0 i
    let d := s.fineAt 0 t
    let mine (u : State) (y : QCtx) : Prop := (u.qc q) = { c with prod := (c.prod + 1) % 2 ^ 32, wat := none, cached := y.cached, used := y.used } ∧
      ∀ p, p ≠ q → u.qc p = s.qc p
    let rec_ (status : Nat) : QRec := ⟨c.resq, .mark, [d % 2 ^ 32, d / 2 ^ 32 % 2 ^ 32, status * 2 ^ 24 + tag % 2 ^ 16, 3, 0, c.prod, 0, 0],
      d, q, none, false, false⟩
    let written (u : State) : Prop := u.reg off = w ∧ ∀ a, a ≠ off → u.reg a = s.reg a
    (s.cmdReady q = true → c.cached = true →
      (f = 0 → s.applies (.cmdq 0) off = true →
        (∃ u, exec (.cmdWrite t q off w tag) s = .next u ∧ hostOnly s u ∧ mine u (u.qc q) ∧ written u) ∧
        (∀ x, 64 * x < d → c.resen = true → s.qrec.length < 8192 → x < 2 ^ 64 →
          ∃ u, exec (.cmdWriteat t q off w x tag) s = .next u ∧ u = { s with now := u.now, regs := u.regs, host := u.host, qrec := s.qrec ++ [rec_ 3] } ∧
            mine u (u.qc q) ∧ written u)) ∧
      (f ≠ 0 → ∃ u, exec (.cmdWrite t q off w tag) s = .next u ∧ mine u (u.qc q) ∧ regsKeptEv s u [FNSTAT.WHOLE.adr f 0] ∧
        u.rd FNSTAT.AUTHDROP f = satTo 0xFFFF (s.rd FNSTAT.AUTHDROP f + 1)) ∧
      (∀ x, d ≤ 64 * x → x < 2 ^ 64 → ∃ u, exec (.cmdWriteat t q off w x tag) s = .next u ∧ hostOnly s u ∧ u.regs = s.regs ∧
        (u.qc q).wat = some (off, w.toNat, x, tag) ∧ (u.qc q).prod = c.prod ∧ ∀ p, p ≠ q → u.qc p = s.qc p) ∧
      (s.qrec.length < 8192 → ∃ u, exec (.cmdMark t q tag) s = .next u ∧
        u = { s with now := u.now, host := u.host, qrec := s.qrec ++ [rec_ 0] } ∧ mine u (u.qc q)) ∧
      (∀ code, code < 16 → code ≠ 1 → code ≠ 2 → code ≠ 3 → c.resen = false →
        ∃ u, exec (.cmdBad t q code tag) s = .next u ∧ hostEvents s u ∧ mine u (u.qc q) ∧ regsKeptEv s u [] ∧
          raised s u t [⟨7491, d / 64 * 64, 2 ^ 24 + q, false, false⟩])) ∧
    (∀ x, f = 0 → s.applies (.cmdq 0) off = true → c.en = true → c.wat = some (off, w.toNat, x, tag) → 64 * x ≤ d →
      ∃ u, exec (.writeatDue t q) s = .next u ∧ hostOnly s u ∧ mine u (u.qc q) ∧ written u))

/-! ### The tether (chapter 12) -/

/-- The link states of a port (R304, R305, R307, R310, R311). A port starts training when each lower port has had its turn and no
other port trains; lanes that train within 25 ms lead to CAPX, a failure waits 10 ms, a busy partner 1 ms; a partner of this
part leads to AUTH and another one to INCOMPAT; proof of identity leads to TLOCK, a failure to QUAR for 1 s; RETRY, a loss of
lock and a rekey that takes more than 10 ms lead back to TRAIN, where the partner's index and delay are no longer valid. The
model's own choices it rests on: log entries 1, 86, 87, 88. -/
def Obligations.TetherLinks : Prop :=
  ∀ (t p : Nat) (s : State), p < 4 → s.now ≤ t →
    let h := s.tpU p
    let d := s.fineAt 0 t / 64 * 64
    let st := s.rd TPSTAT.STATE p
    let cyc := s.fineAt 0 t / 64000
    let others (u : State) : Prop := ∀ q, q ≠ p → u.tpU q = s.tpU q
    let moves (u : State) (to_ : Nat) (l : List Nat) : Prop := u = { s with now := u.now, regs := u.regs, tp := u.tp } ∧ others u ∧
      regsKept s u (TPSTAT.WHOLE.adr p 0 :: l) ∧ u.rd TPSTAT.STATE p = to_ ∧ (u.tpU p).since = t ∧ (u.tpU p).retryAt = none
    let busyElse : Prop := ∃ q, q < 4 ∧ q ≠ p ∧ s.rd TPSTAT.STATE q = 1 ∧ (s.tpU q).retryAt = none
    let lone : Prop := s.on TSTAT.ADMITTED = false ∧ s.on TSTAT.MASTER = false ∧ s.on TSTAT.UPV = false ∧ s.on TSTAT.MLOST = false ∧
      s.teth.rw = none ∧ ∀ q, q < 4 → q ≠ p → s.rd TPSTAT.STATE q < 5
    let drops (u : State) (to_ err : Nat) : Prop :=
      u = { s with now := u.now, regs := u.regs, tp := u.tp, teth := u.teth, disc := u.disc, tb := u.tb, fab := u.fab, pw := u.pw } ∧
        u.rd TPSTAT.STATE p = to_ ∧ u.rd TPSTAT.LASTERR p = err ∧ u.rd TPSTAT.PVALID p = 0 ∧ u.rd TPDELAY.VALID p = 0 ∧
        (u.tpU p).since = t ∧ (u.tpU p).buf = [] ∧ (u.tpU p).polls = [] ∧ (u.tpU p).cand = none ∧ (u.tpU p).proven = false ∧
        (∀ q, q < 4 → u.rd TPSTAT.STATE q = (if q = p then to_ else s.rd TPSTAT.STATE q)) ∧
        regsKeptEv s u (TPDELAY.WHOLE.adr p 0 :: TPERR.WHOLE.adr p 0 :: TSTAT.WHOLE.adr 0 0 :: TDEVMAP.WHOLE.adr 0 0 ::
          TMAXLAT.WHOLE.adr 0 0 :: RWSTAT.WHOLE.adr 0 0 :: DISCSTAT.WHOLE.adr 0 0 :: (upFrom 0 4).map (fun q => TPSTAT.WHOLE.adr q 0))
    (s.on BOOTSTAT.DONE = true → s.on TCTL.EN = true → s.on TPCTL.EN p = true → s.rd LCSTAT.STATE ≠ 3 → st = 0 →
      ((∀ q, q < p → s.on TPCTL.EN q = true → (s.tpU q).turn = true) → ¬ busyElse →
        ∃ u, exec (.portTrainTurn t p) s = .next u ∧ moves u 1 [] ∧ u.rd TPSTAT.LASTERR p = s.rd TPSTAT.LASTERR p) ∧
      ((∃ q, q < p ∧ s.on TPCTL.EN q = true ∧ (s.tpU q).turn = false) → exec (.portTrainTurn t p) s = .next { s with now := t })) ∧
    (st = 1 → h.retryAt = none →
      (∀ lanes, 1 ≤ lanes → lanes ≤ 2 → t ≤ h.since + ms 25 → ∃ u, exec (.laneTrained t p lanes) s = .next u ∧ moves u 3 [] ∧
        u.rd TPSTAT.LANES p = (if lanes = 1 then 1 else 0) ∧ (u.tpU p).turn = true) ∧
      (h.since + ms 25 ≤ t → ∃ u, exec (.trainTimeout t p) s = .next u ∧ u = { s with now := u.now, regs := u.regs, tp := u.tp } ∧
        others u ∧ regsKept s u [TPSTAT.WHOLE.adr p 0] ∧ u.rd TPSTAT.STATE p = 1 ∧ u.rd TPSTAT.LASTERR p = 1 ∧
        u.tpU p = { h with turn := true, retryAt := some (h.since + ms 35) }) ∧
      (∃ u, exec (.busyRx t p) s = .next u ∧ moves u 2 [])) ∧
    (∀ a, st = 1 → h.retryAt = some a → a ≤ t → (∀ q, q < 4 → q ≠ p → s.rd TPSTAT.STATE q ≠ 1) →
      (∀ q, q < 4 → s.on TPCTL.EN q = true → (s.tpU q).turn = true) →
      ∃ u, exec (.trainRetry t p) s = .next u ∧ moves u 1 []) ∧
    (st = 2 → h.since + ms 1 ≤ t → ¬ busyElse → ∃ u, exec (.busywaitRetry t p) s = .next u ∧ moves u 1 []) ∧
    (∀ m : CapMsg, st = 3 →
      let l : List Nat := [TPPCAP.WHOLE.adr p 0, TPPSER_LO.WHOLE.adr p 0, TPPSER_HI.WHOLE.adr p 0]
      let shows (u : State) : Prop := u.rd TPPCAP.CAP p = m.cap % 2 ^ 32 ∧ u.rd64 TPPSER_LO.SER TPPSER_HI.SER p = m.serial % 2 ^ 64 ∧
        u.rd TPSTAT.PIDX p = m.idx % 32 ∧ u.rd TPSTAT.PVALID p = (if m.adm then 1 else 0)
      (m.cap / 2 ^ 24 % 256 ≠ 0 → m.cap % 2 ^ 16 = 0x1024 →
        ∃ u, exec (.capxMessage t p m) s = .next u ∧ moves u 4 l ∧ shows u) ∧
      (m.cap % 2 ^ 16 ≠ 0x1024 → ∃ u, exec (.capxMessage t p m) s = .next u ∧
        u = { s with now := u.now, regs := u.regs, tp := u.tp, teth := u.teth, fab := u.fab, pw := u.pw } ∧
        regsKeptEv s u (TPSTAT.WHOLE.adr p 0 :: l) ∧ shows u ∧ u.rd TPSTAT.STATE p = 10 ∧ u.rd TPSTAT.LASTERR p = 2 ∧
        raised s u t [⟨7304 + p, d, 2, false, false⟩])) ∧
    (∀ m : AuthMsg, st = 4 → t ≤ h.since + ms 5 →
      let root := s.secH.fuse.trust
      let certFine : Prop := Config.certOk root m.cert = true ∧ Config.certSerial m.cert ∉ s.secH.rev
      let sigFine : Prop := Config.ecdsaOk (Config.certKey m.cert) (Config.sha384 m.eph) m.r m.s = true
      (s.rd LCSTAT.STATE ≠ 0 → s.secH.priv ≠ none → certFine → sigFine → ∃ u, exec (.authMessage t p m) s = .next u ∧
        moves u 5 [] ∧ (u.tpU p).proven = true ∧ (u.tpU p).quar = 0 ∧ (u.tpU p).keyCyc = cyc ∧ (u.tpU p).nLock = 0) ∧
      (∀ e, (e = 3 ∧ s.rd LCSTAT.STATE = 0) ∨ (e = 4 ∧ s.rd LCSTAT.STATE ≠ 0 ∧ s.secH.priv ≠ none ∧ ¬ certFine) ∨
          (e = 5 ∧ s.rd LCSTAT.STATE ≠ 0 ∧ s.secH.priv ≠ none ∧ certFine ∧ ¬ sigFine) →
        ∃ u, exec (.authMessage t p m) s = .next u ∧ drops u 9 e ∧ u.rd TPERR.AUTHFAIL p = satTo 0xFF (s.rd TPERR.AUTHFAIL p + 1) ∧
          (u.tpU p).quar = h.quar + 1 ∧ (lone → raised s u t [⟨7304 + p, d, e, false, false⟩]))) ∧
    (st = 4 → h.since + ms 5 ≤ t → ∃ u, exec (.authTimeout t p) s = .next u ∧ drops u 9 5 ∧ (u.tpU p).quar = h.quar + 1 ∧
      u.rd TPERR.AUTHFAIL p = satTo 0xFF (s.rd TPERR.AUTHFAIL p + 1) ∧ (lone → raised s u t [⟨7304 + p, d, 5, false, false⟩])) ∧
    (st = 9 → h.since + ms 1000 ≤ t →
      (h.quar < 3 → ∃ u, exec (.quarExpiry t p) s = .next u ∧ moves u 1 []) ∧
      (3 ≤ h.quar → exec (.quarExpiry t p) s = .next { s with now := t })) ∧
    (∀ src w, src.ok = true → s.applies src (TPCTL.WHOLE.adr p 0) = true → TPCTL.EN.of w = 1 → s.rd LCSTAT.STATE ≠ 3 →
      st = 10 ∨ (st = 9 ∧ 3 ≤ h.quar) → ∃ u, exec (.tpctlRetry t src p w) s = .next u ∧ moves u 1 [TPCTL.WHOLE.adr p 0] ∧
        (u.tpU p).quar = 0 ∧ u.rd TPCTL.ASYM p = TPCTL.ASYM.of w ∧
        u.rd TPCTL.VPROP p = (if TPCTL.VPROP.of w < 20 then 20 else TPCTL.VPROP.of w)) ∧
    (3 ≤ st → ∃ u, exec (.laneLockLoss t p) s = .next u ∧ drops u 1 (s.rd TPSTAT.LASTERR p) ∧ (u.tpU p).quar = h.quar ∧
      (lone → u.fab = s.fab)) ∧
    (5 ≤ st → st ≤ 7 → h.rekey = none → h.keyCyc + 2 ^ 30 ≤ cyc → ∃ u, exec (.rekeyStart t p) s = .next u ∧
      u = { s with now := t, tp := u.tp } ∧ others u ∧ u.tpU p = { h with rekey := some t }) ∧
    (∀ a, h.rekey = some a → a + ms 10 ≤ t → ∃ u, exec (.rekeyTimeout t p) s = .next u ∧ drops u 1 10 ∧ (lone → u.fab = s.fab))

/-- Cycles, polls, time and failures of a link (R299, R300, R308, R309, R311 to R313). Each cycle sends the items that were ready
200 ns before, in their order of priority, none in Moored, and polls the partner; an item for another device goes on in the
cycle under way where a slot is free; an answer's latency is recorded, a slow one reported, a missing one makes the partner
absent; a control block's exchange measures delay and offset, which on the upstream port steers TB0; 64 cycles within 1 ns end
TLOCK; a tag that fails is counted, and the sixteenth failure retrains the link. The model's own choices it rests on: log
entries 1, 81, 82, 87. -/
def Obligations.TetherTime : Prop :=
  ∀ (t p : Nat) (s : State), p < 4 → s.now ≤ t →
    let h := s.tpU p
    let f := s.fineAt 0 t
    let d := f / 64 * 64
    let c := f / 64000
    let st := s.rd TPSTAT.STATE p
    let me := s.rd TSTAT.IDX
    let others (u : State) : Prop := ∀ q, q ≠ p → u.tpU q = s.tpU q
    let tpOnly (u : State) : Prop := u = { s with now := u.now, regs := u.regs, tp := u.tp } ∧ others u
    let lone : Prop := s.on TSTAT.ADMITTED = false ∧ s.on TSTAT.MASTER = false ∧ s.on TSTAT.UPV = false ∧ s.on TSTAT.MLOST = false ∧
      s.teth.rw = none ∧ ∀ q, q < 4 → q ≠ p → s.rd TPSTAT.STATE q < 5
    let retrains (u : State) (err : Nat) : Prop :=
      u = { s with now := u.now, regs := u.regs, tp := u.tp, teth := u.teth, disc := u.disc, tb := u.tb, fab := u.fab, pw := u.pw } ∧
        u.rd TPSTAT.STATE p = 1 ∧ u.rd TPSTAT.LASTERR p = err ∧ u.rd TPSTAT.PVALID p = 0 ∧ (u.tpU p).buf = [] ∧ (u.tpU p).polls = []
    let fewer (n : Nat) : Prop := (h.fails.filter (fun x => decide (c < x.1 + 1000))).length = n
    (s.on TSTAT.MASTER = false → st = 7 → h.dropped = 0 → h.cyc ≠ some c →
      let due (x : TxItem) : Prop := x.ready + ns 200 ≤ 64000 * c
      let cap := if s.on TPSTAT.LANES p then 30 else 60
      (s.pw.deep = true → ∃ u, exec (.tetherCycleStart t p) s = .next u ∧ tpOnly u ∧ u.regs = s.regs ∧ (u.tpU p).sent = [] ∧
        (u.tpU p).polls = h.polls ++ [(c, t)] ∧ (u.tpU p).buf = h.buf) ∧
      (s.pw.deep = false → ∃ u, exec (.tetherCycleStart t p) s = .next u ∧ tpOnly u ∧ u.regs = s.regs ∧ (u.tpU p).polls = h.polls ++ [(c, t)] ∧
        (u.tpU p).cyc = some c ∧ (u.tpU p).admSent = h.adm ∧ (u.tpU p).adm = [] ∧ (u.tpU p).sent.length ≤ cap ∧
        (∀ m, m ∈ (u.tpU p).sent → ∃ x, x ∈ h.buf ∧ x.msg = m ∧ due x) ∧
        (∀ x, x ∈ h.buf → ¬ due x → x ∈ (u.tpU p).buf) ∧
        ∀ x, x ∈ (u.tpU p).buf → x ∈ h.buf ∧ (due x → (u.tpU p).sent.length = cap ∧ ∀ m, m ∈ (u.tpU p).sent → m.item.prio ≤ x.msg.item.prio))) ∧
    (∀ k a, 5 ≤ st → st ≤ 7 → h.polls.find? (fun x => x.1 == k) = some (k, a) → (t - a) / 64 ≤ 2000 →
      let l := (t - a) / 64
      let holds (u : State) : Prop := (u.tpU p).polls = h.polls.filter (fun x => x.1 != k) ∧ u.rd TPANS.LAST p = l ∧
        u.rd TPANS.MAX p = (if s.rd TPANS.MAX p < l then l else s.rd TPANS.MAX p)
      (l ≤ 1500 → ∃ u, exec (.answerBlockRx t p k true) s = .next u ∧ tpOnly u ∧ regsKept s u [TPANS.WHOLE.adr p 0] ∧ holds u) ∧
      (1500 < l → h.slowAt = none → ∃ u, exec (.answerBlockRx t p k true) s = .next u ∧
        u = { s with now := u.now, regs := u.regs, tp := u.tp, teth := u.teth, fab := u.fab, pw := u.pw } ∧
        regsKeptEv s u [TPANS.WHOLE.adr p 0, TPSTAT.WHOLE.adr p 0, TPERR.WHOLE.adr p 0] ∧ holds u ∧ u.rd TPSTAT.SLOW p = 1 ∧
        u.rd TPERR.SLOWCNT p = satTo 0xFF (s.rd TPERR.SLOWCNT p + 1) ∧ (u.tpU p).slowAt = some t ∧
        raised s u t [⟨7316, d, p * 2 ^ 16 + l, false, false⟩])) ∧
    (∀ k a, st = 7 → h.polls.find? (fun x => decide (x.2 + ns 2000 ≤ t)) = some (k, a) →
      ∃ u, exec (.pollDeadline t p) s = .next u ∧ retrains u 7 ∧
        (lone → raised s u t [⟨7300 + p, 64000 * k + ns 2000, s.rd TPSTAT.PIDX p * 2 ^ 16, false, false⟩])) ∧
    (∀ (b : CtlBlk) k theirs mine, b.back = some (k, theirs) →
      (((b.cyc, f) :: h.marks).take 4).find? (fun m => m.1 == k) = some (k, mine) →
      let th : Int := ((mine : Int) - theirs) / 2 - s.tAsym p
      let dl : Int := ((mine + theirs : Nat) - (2 * k * 64000 : Nat) : Int) / 2 - Config.lPhy p - s.tAsym p
      let l := (dl :: h.delays).take 64
      let m := (l.foldl (· + ·) 0 / 64).toNat
      let measured (u : State) : Prop := (u.tpU p).delays = l ∧ u.rd TPOFFS.THETA p = ofSigned 32 (satSigned 32 th) ∧
        (l.length = 64 → u.rd TPDELAY.VALID p = 1 ∧ u.rd TPDELAY.DLY p = satTo 0xFFFF m ∧
          u.rd TPDELAY.CM p = satTo 0x7FFF (m * 1000 / 64 / s.rd TPCTL.VPROP p))
      (st = 3 ∨ st = 4 → ∃ u, exec (.controlBlockRx t p b) s = .next u ∧ tpOnly u ∧
        regsKept s u [TPOFFS.WHOLE.adr p 0, TPDELAY.WHOLE.adr p 0] ∧ measured u) ∧
      (b.tag = true → s.on TSTAT.MASTER = false → s.on TSTAT.MLOST = false → s.on TSTAT.UPV = true → s.rd TSTAT.UPPORT = p →
        s.on TPSTAT.UPSTREAM p = true → s.on DISCSTAT.TETHOK = true → s.rd DISCSTAT.SRCACT = 4 → s.teth.rw = none →
        s.isolated (197 + p) = false → s.tBest = s.teth.best → s.tUpstream = some p → b.cand = h.cand → b.hops = h.hops → h.clash = false →
        let regs : List Nat := [TPOFFS.WHOLE.adr p 0, TPDELAY.WHOLE.adr p 0, TPSTAT.WHOLE.adr p 0, PHASEERR.WHOLE.adr 0 0,
          TDEVMAP.WHOLE.adr 0 0, TSTAT.WHOLE.adr 0 0, TMAXLAT.WHOLE.adr 0 0]
        let steered (u : State) : Prop := u.rd PHASEERR.ERR = ofSigned 32 (satSigned 32 th) ∧
          u.tbH 0 = { s.tbH 0 with asks := (u.tbH 0).asks } ∧
          (u.tbH 0).asks.reverse.take 2 = [(t, TbAsk.slew (-th * (2 ^ 30 : Nat))), (t, TbAsk.abort)] ∧ (∀ j, j ≠ 0 → u.tbH j = s.tbH j) ∧
          u.rd TDEVMAP.MAP = b.devs % 2 ^ 32 ∧ u.rd TSTAT.MIDX = b.midx % 32
        (st = 7 → b.cyc = c → s.rd DISCSTAT.STATE = 2 → ∃ u, exec (.controlBlockRx t p b) s = .next u ∧
          u = { s with now := u.now, regs := u.regs, tp := u.tp, tb := u.tb, disc := { s.disc with slewing := true } } ∧ others u ∧ regsKept s u regs ∧ measured u ∧ steered u ∧
          (u.tpU p).nValid = h.nValid + 1 ∧ (u.tpU p).lastValid = some t) ∧
        (∀ k', st = 5 → h.lastCyc = some k' → b.cyc = k' + 1 → h.nLock = 63 → mag th ≤ 64 → s.on TSTAT.ADMITTED = false →
          s.rd DISCSTAT.STATE = 1 → ∃ u, exec (.controlBlockRx t p b) s = .next u ∧
          u = { s with now := u.now, regs := u.regs, tp := u.tp, tb := u.tb, disc := u.disc, fab := u.fab, pw := u.pw, teth := u.teth } ∧
          regsKeptEv s u (DISCSTAT.WHOLE.adr 0 0 :: regs) ∧ measured u ∧ steered u ∧ u.rd TPSTAT.STATE p = 6 ∧ u.rd DISCSTAT.STATE = 2 ∧
          (u.tpU p).adm = h.adm ++ [.req s.ownSerial (if s.on TCTL.IDXEN then some (s.rd TCTL.IDXREQ) else none)] ∧
          raised s u t [⟨7684, d, 4, false, false⟩]))) ∧
    (∀ b : CtlBlk, 5 ≤ st → st ≤ 7 → b.tag = false → ∀ n, fewer n → n < 15 → ∃ u, exec (.controlBlockRx t p b) s = .next u ∧ tpOnly u ∧
      regsKept s u [TPERR.WHOLE.adr p 0] ∧ u.rd TPERR.TAGFAIL p = satTo 0xFF (s.rd TPERR.TAGFAIL p + 1) ∧ (u.tpU p).nLock = 0) ∧
    (s.member = true → s.on DISCSTAT.TETHOK = true → s.rd DISCSTAT.STATE = 2 → s.rd DISCSTAT.SRCACT = 4 →
      (∀ q a, q < 4 → (s.tpU q).lastValid = some a → a + us 8 ≤ t) →
      ∃ u, exec (.tetherExchangeLoss t) s = .next u ∧
        u = { s with now := u.now, regs := u.regs, tp := u.tp, tb := u.tb, disc := u.disc, fab := u.fab, pw := u.pw, teth := u.teth } ∧
        (∀ j, j ≠ 0 → u.tbH j = s.tbH j) ∧ u.disc.slewing = false ∧ regsKeptEv s u [DISCSTAT.WHOLE.adr 0 0] ∧ u.rd DISCSTAT.STATE = 3 ∧ u.rd DISCSTAT.SRCACT = 0 ∧ u.rd DISCSTAT.TETHOK = 0 ∧
        raised s u t [⟨7685, d, 4, false, false⟩]) ∧
    (st = 7 → ∀ k (items : List TMsg), items.all TMsg.ok = true →
      (∀ x, x = (Slot.tagFail, TPERR.TAGFAIL, false) ∨ x = (Slot.fec, TPERR.FECUNC, true) →
        (∀ n, fewer n → n < 15 → ∃ u, exec (.dataSlotRx t p x.1 k items) s = .next u ∧ tpOnly u ∧ regsKept s u [TPERR.WHOLE.adr p 0] ∧
          u.rd x.2.1 p = satTo 0xFF (s.rd x.2.1 p + 1)) ∧
        (fewer 15 → ∃ u, exec (.dataSlotRx t p x.1 k items) s = .next u ∧ retrains u 6 ∧
          (lone →
            let fl := (c, x.2.2) :: h.fails.filter (fun y => decide (c < y.1 + 1000))
            let nf := (fl.filter (·.2)).length
            raised s u t [⟨7308 + p, d, nf * 256 + (16 - nf), false, false⟩]))) ∧
      (∀ m, h.lastCyc = some k → m.ok = true → m.src ≠ me → s.isolated (197 + p) = false →
        (m.dst = 32 → s.teth.seen.contains (m.src, m.seq) = true → exec (.dataSlotRx t p .read k [m]) s = .next { s with now := t }) ∧
        (∀ q, m.dst ≠ 32 → m.dst ≠ me → s.tRoute m.dst = some q → q ≠ p → s.pw.deep = false →
          let goes (u : State) (g : TpH) : Prop := u = { s with now := t, tp := u.tp } ∧ (∀ r, r ≠ q → u.tpU r = s.tpU r) ∧ u.tpU q = g
          ((s.tpU q).cyc = some c → (s.tpU q).sent.length < s.slots q → ∃ u, exec (.dataSlotRx t p .read k [m]) s = .next u ∧
            goes u { s.tpU q with sent := (s.tpU q).sent ++ [m] }) ∧
          ((s.tpU q).cyc ≠ some c ∨ s.slots q ≤ (s.tpU q).sent.length → (s.tpU q).buf.length < 4096 →
            ∃ u, exec (.dataSlotRx t p .read k [m]) s = .next u ∧ goes u { s.tpU q with buf := (s.tpU q).buf ++ [⟨m, f⟩] })) ∧
        (∀ x n id ts dt tq co, m.dst = me → s.on WAKEEN.TETH = false → m.item = .event x n id ts dt tq co →
          exec (.dataSlotRx t p .read k [m]) s = exec (.importEventRx t m.src x n ts dt tq co) s)))

/-- Election, admission and the loss of the master (R314 to R316). After 100 µs without a change the best candidate is elected;
the device itself becomes master with its own index and reports it, another one ends its mastership; the master grants an
index, reports it and answers, or refuses; an admitted device opens the link; with MSAFE the groups of the tether master enter
their safe state at the end of the grace. The model's own choices it rests on: log entries 1, 83, 84, 85. -/
def Obligations.TetherMaster : Prop :=
  ∀ (t p : Nat) (s : State), p < 4 → s.now ≤ t → s.on TSTAT.MLOST = false → s.teth.rw = none →
    let h := s.tpU p
    let d := s.fineAt 0 t / 64 * 64
    let tethOnly (u : State) : Prop :=
      u = { s with now := u.now, regs := u.regs, tp := u.tp, teth := u.teth, fab := u.fab, pw := u.pw }
    let regs : List Nat := [TSTAT.WHOLE.adr 0 0, TDEVMAP.WHOLE.adr 0 0, TMAXLAT.WHOLE.adr 0 0]
    (∀ b, s.teth.best = some b → s.on TSTAT.ELECTED = false → s.on TCTL.EN = true → s.teth.bestAt + us 100 ≤ t →
      (b.serial = s.ownSerial → s.on TSTAT.MASTER = false → s.on TSTAT.UPV = false → (∀ q, q < 4 → s.rd TPSTAT.STATE q < 5) →
        let i := if s.on TCTL.IDXEN then s.rd TCTL.IDXREQ else 0
        ∃ u, exec (.electionSettled t) s = .next u ∧ tethOnly u ∧ regsKeptEv s u regs ∧ u.rd TSTAT.ELECTED = 1 ∧ u.rd TSTAT.MASTER = 1 ∧
          u.rd TSTAT.ADMITTED = 1 ∧ u.rd TSTAT.IDX = i ∧ u.rd TSTAT.MIDX = i ∧ u.rd TSTAT.NDEV = 1 ∧ u.rd TDEVMAP.MAP = 2 ^ i ∧
          u.rd TMAXLAT.NS = 400 ∧ u.teth.devs = [(i, s.ownSerial)] ∧ raised s u t [⟨7312, d, i, false, false⟩]) ∧
      (b.serial ≠ s.ownSerial → s.on TSTAT.MASTER = true → s.teth.mser ≠ b.serial → s.on TSTAT.UPV = true → s.rd TSTAT.UPPORT = p →
        s.tBest = s.teth.best → s.tUpstream = some p →
        ∃ u, exec (.electionSettled t) s = .next u ∧ tethOnly u ∧ u.fab = s.fab ∧ regsKeptEv s u regs ∧ u.rd TSTAT.ELECTED = 1 ∧
          u.rd TSTAT.MASTER = 0 ∧ u.rd TSTAT.ADMITTED = 0)) ∧
    (∀ serial want, s.on TSTAT.MASTER = true → s.rd TPSTAT.STATE p = 6 → (∀ i, want = some i → i < 32) →
      let used (i : Nat) : Prop := ∃ x, x ∈ s.teth.devs ∧ x.1 = i
      let grants (i : Nat) : Prop := s.rd64 TPPSER_LO.SER TPPSER_HI.SER p ≠ serial →
        ∃ u, exec (.admreqRx t p serial want) s = .next u ∧ tethOnly u ∧ regsKeptEv s u regs ∧ bitAt (u.rd TDEVMAP.MAP) i = true ∧
          u.teth.devs = s.teth.devs.filter (fun x => x.1 != i) ++ [(i, serial)] ∧ (u.tpU p).adm = h.adm ++ [.ans serial (some i)] ∧
          raised s u t [⟨7314, d, i, false, false⟩]
      ((∀ x, x ∈ s.teth.devs → x.2 ≠ serial) →
        (∀ i, want = some i → ¬ used i → grants i) ∧
        (∀ i, i < 32 → (want = none ∨ ∃ j, want = some j ∧ used j) → ¬ used i → (∀ j, j < i → used j) → grants i) ∧
        ((∀ j, j < 32 → used j ∧ bitAt (s.rd TDEVMAP.MAP) j = true) →
          ∃ u, exec (.admreqRx t p serial want) s = .next u ∧ u = { s with now := t, tp := u.tp } ∧ (∀ q, q ≠ p → u.tpU q = s.tpU q) ∧
            (u.tpU p).adm = h.adm ++ [.ans serial none] ∧ u.tpU p = { h with adm := (u.tpU p).adm, wait := (u.tpU p).wait })) ∧
      (∀ i, i < 32 → s.teth.devs.find? (fun x => x.2 == serial) = some (i, serial) → grants i)) ∧
    (∀ midx, midx < 32 → s.on TSTAT.MASTER = false → s.rd TPSTAT.STATE p = 6 →
      (∃ u, exec (.admitRx t p s.ownSerial none midx) s = .next u ∧ onlyRegs s u ∧ regsKept s u [TPSTAT.WHOLE.adr p 0] ∧
        u.rd TPSTAT.LASTERR p = 9 ∧ u.rd TPSTAT.STATE p = 6) ∧
      (∀ i, i < 32 → s.on TSTAT.UPV = true → s.rd TSTAT.UPPORT = p → s.isolated (197 + p) = false → s.tBest = s.teth.best →
        s.tUpstream = some p →
        ∃ u, exec (.admitRx t p s.ownSerial (some i) midx) s = .next u ∧ tethOnly u ∧ regsKeptEv s u (TPSTAT.WHOLE.adr p 0 :: regs) ∧
          u.rd TSTAT.ADMITTED = 1 ∧ u.rd TSTAT.IDX = i ∧ u.rd TSTAT.MIDX = midx ∧ u.rd TPSTAT.STATE p = 7 ∧
          raised s u t [⟨7296 + p, d, s.rd TPSTAT.PIDX p * 2 ^ 16 + s.rd TPDELAY.DLY p, false, false⟩])) ∧
    (∀ a, s.teth.lostAt = some a → s.teth.graced = false → s.on TCTL.MSAFE = true → a + us (s.rd TCTL.MGRACE) ≤ t →
      ∃ u, exec (.masterLostGraceExpiry t) s = .next u ∧ u = { s with now := t, teth := u.teth, grp := u.grp } ∧
        u.teth = { s.teth with graced := true } ∧ ∀ j, j < 128 → u.gr j = (if s.rd BRIDLE.OWNER 0 j = 2
          then { s.gr j with safe := (s.gr j).safe ++ [(a + us (s.rd TCTL.MGRACE), 5)] } else s.gr j))

/-- Remote register commands, imports and cascade starts (R318 to R320). Only a master issues a command, to a device it reaches;
the target applies it once, answers again a command that comes again, and answers a read with the register's value; a response
ends it, and 20 µs without one. A subscription goes to its source, which exports at most 256 events; a forwarded event is
issued with its own timestamp and DETAIL, TQ where this device is not in cascade time, and a gap is counted. A cascade start
is refused when it comes too late, else broadcast; every outcome counts once, and the master reports them at T + TMAXLAT. The
model's own choices it rests on: log entries 1, 81, 89, 90, 163. -/
def Obligations.TetherTraffic : Prop :=
  ∀ (t : Nat) (s : State), s.now ≤ t →
    let f := s.fineAt 0 t
    let me := s.rd TSTAT.IDX
    let sends (u : State) (dst : Nat) (i : TItem) : Prop := ∀ q, s.tRoute dst = some q → (s.tpU q).buf.length < 4096 →
      (u.tpU q).buf = (s.tpU q).buf ++ [⟨⟨me, dst, s.teth.seq + 1, i⟩, f⟩] ∧ ∀ r, r ≠ q → u.tpU r = s.tpU r
    let drops : List Nat := (upFrom 0 4).map (fun q => TXDROP.COUNT.adr q 0)
    let quiet (u : State) : Prop := u = { s with now := u.now, regs := u.regs, tp := u.tp, teth := u.teth }
    (∀ src w, src.ok = true → s.applies src (RWCTL.WHOLE.adr 0 0) = true →
      let dv := RWCTL.DEV.of w
      let stores (u : State) : Prop := u.rd RWCTL.WR = RWCTL.WR.of w ∧ u.rd RWCTL.DEV = dv ∧ u.rd RWCTL.OFF = RWCTL.OFF.of w
      s.on RWSTAT.BUSY = false →
      (∀ e, (e = 4 ∧ s.on TSTAT.MASTER = false) ∨ (e = 1 ∧ s.on TSTAT.MASTER = true ∧ bitAt (s.rd TDEVMAP.MAP) dv = false) →
        ∃ u, exec (.rwctlGo t src w) s = .next u ∧ onlyRegs s u ∧ regsKept s u [RWCTL.WHOLE.adr 0 0, RWSTAT.WHOLE.adr 0 0] ∧ stores u ∧
          u.rd RWSTAT.RES = e ∧ u.rd RWSTAT.BUSY = 0) ∧
      (s.on TSTAT.MASTER = true → bitAt (s.rd TDEVMAP.MAP) dv = true → dv ≠ me →
        ∃ u, exec (.rwctlGo t src w) s = .next u ∧ quiet u ∧
          regsKept s u (RWCTL.WHOLE.adr 0 0 :: RWSTAT.WHOLE.adr 0 0 :: drops) ∧ stores u ∧ u.rd RWSTAT.BUSY = 1 ∧
          u.teth.rw = some ⟨s.teth.rwSeq + 1, dv, RWCTL.WR.of w == 1, RWCTL.OFF.of w * 4, s.rd RWDATA.DATA, t, s.tRoute dv, false⟩ ∧
          sends u dv (.cmd (s.teth.rwSeq + 1) (RWCTL.WR.of w == 1) (RWCTL.OFF.of w * 4) (s.rd RWDATA.DATA)))) ∧
    (∀ dv seq i v, dv < 32 → 1 ≤ i → i ≤ 16 → v < 2 ^ 32 → s.on TSTAT.ADMITTED = true → dv = s.rd TSTAT.MIDX → dv ≠ me →
      let a := LOAD_LO.VALUE.adr i 0
      s.applies .tether a = true →
      (∀ (b : Bool) res x, s.teth.rwDone.find? (fun y => y.1 == dv && y.2.1 == seq) = some (dv, seq, res, x) →
        ∃ u, exec (.remoteCommandRx t dv seq b a v) s = .next u ∧ quiet u ∧ regsKept s u drops ∧ sends u dv (.resp seq res x)) ∧
      (s.teth.rwDone.find? (fun y => y.1 == dv && y.2.1 == seq) = none →
        (∃ u, exec (.remoteCommandRx t dv seq true a v) s = .next u ∧ quiet u ∧ regsKept s u (a :: drops) ∧ u.rd LOAD_LO.VALUE i = v ∧
          sends u dv (.resp seq 0 0)) ∧
        (∃ u, exec (.remoteCommandRx t dv seq false a v) s = .next u ∧ quiet u ∧ regsKept s u drops ∧
          sends u dv (.resp seq 0 (s.rd LOAD_LO.VALUE i))))) ∧
    (∀ r, s.teth.rw = some r →
      (∀ res v, res < 8 → v < 2 ^ 32 → ∃ u, exec (.rwResponseRx t r.seq res v) s = .next u ∧
        u = { s with now := t, regs := u.regs, teth := { s.teth with rw := none } } ∧
        regsKept s u [RWSTAT.WHOLE.adr 0 0, RWDATA.WHOLE.adr 0 0] ∧ u.rd RWSTAT.BUSY = 0 ∧ u.rd RWSTAT.RES = res ∧
        u.rd RWDATA.DATA = (if r.wr then s.rd RWDATA.DATA else v)) ∧
      (r.at_ + us 20 ≤ t → ∃ u, exec (.rwTimeout t) s = .next u ∧ u = { s with now := t, regs := u.regs, teth := { s.teth with rw := none } } ∧
        regsKept s u [RWSTAT.WHOLE.adr 0 0] ∧ u.rd RWSTAT.BUSY = 0 ∧ u.rd RWSTAT.RES = 2)) ∧
    (∀ src x w, src.ok = true → x < 96 → s.applies src (IMPORT.WHOLE.adr 0 x) = true → s.on IMPORT.EN 0 x = false → IMPORT.EN.of w = 1 →
      ∃ u, exec (.importWrite t src x w) s = .next u ∧ quiet u ∧ regsKept s u (IMPORT.WHOLE.adr 0 x :: drops) ∧ u.rd IMPORT.EN 0 x = 1 ∧
        u.rd IMPORT.ACT 0 x = 0 ∧ u.rd IMPORT.SRCDEV 0 x = IMPORT.SRCDEV.of w ∧ u.rd IMPORT.SRCID 0 x = IMPORT.SRCID.of w ∧
        sends u (IMPORT.SRCDEV.of w) (.sub x (IMPORT.SRCID.of w) true)) ∧
    (∀ dv x id, dv < 32 → x < 96 → id < 8192 → (∀ e, e ∈ s.teth.exports → ¬ (e.1 = dv ∧ e.2.1 = x)) →
      let ids := (s.teth.exports.map (·.2.2)).eraseDups
      let takes (l : List (Nat × Nat × Nat)) (act : Bool) : Prop := ∃ u, exec (.subscriptionRx t dv x id true) s = .next u ∧ quiet u ∧
        regsKept s u drops ∧ u.teth.exports = l ∧ sends u dv (.subAck x act)
      (ids.length < 256 → takes (s.teth.exports ++ [(dv, x, id)]) true) ∧
      (256 ≤ ids.length → ids.contains id = false → takes s.teth.exports false)) ∧
    (∀ dv x n ts dt (tq co : Bool), dv < 32 → x < 96 →
      let last := s.teth.rxSeq.get (fun _ => 0) dv
      let ev : Ev := ⟨7328 + x, ts, dt, tq || !s.cascadeTime, co⟩
      s.on IMPORT.EN 0 x = true → s.rd IMPORT.SRCDEV 0 x = dv →
      (n ≤ last → exec (.importEventRx t dv x n ts dt tq co) s = .next { s with now := t }) ∧
      (n = last + 1 ∨ (last = 0 ∧ 0 < n) → ∃ u, exec (.importEventRx t dv x n ts dt tq co) s = .next u ∧ onlyEvents s u ∧
        regsKeptEv s u [] ∧ u.teth.rxSeq.get (fun _ => 0) dv = n ∧ raised s u t [ev]) ∧
      (0 < last → last + 1 < n → ∃ u, exec (.importEventRx t dv x n ts dt tq co) s = .next u ∧ onlyEvents s u ∧
        regsKeptEv s u [IMPLOST.WHOLE.adr 0 0] ∧ u.rd IMPLOST.COUNT = satTo 0xFFFFFFFF (s.rd IMPLOST.COUNT + (n - last - 1)) ∧
        raised s u t [⟨7317, f / 64 * 64, 2 ^ 31 + satTo 0xFFFF (n - last - 1), false, false⟩, ev])) ∧
    (∀ src w, src.ok = true → s.applies src (CGSTART.WHOLE.adr 0 0) = true → s.on TSTAT.MASTER = true →
      let at_ := s.rd64 CGSTARTAT_LO.VALUE CGSTARTAT_HI.VALUE
      let soon := f + ns (s.rd TMAXLAT.NS + 100)
      (s.on CGSTAT.PEND = true ∨ 64 * at_ < soon → ∃ u, exec (.cgstartGo t src w) s = .next u ∧ onlyRegs s u ∧
        regsKept s u [CGSTAT.WHOLE.adr 0 0] ∧ u.rd CGSTAT.REFUSED = 1 ∧ u.rd CGSTAT.PEND = s.rd CGSTAT.PEND) ∧
      (s.on CGSTAT.PEND = false → soon ≤ 64 * at_ → s.on GSTARTSTAT.PEND = false → f + ns 100 ≤ 64 * at_ →
        ∃ u, exec (.cgstartGo t src w) s = .next u ∧ u = { s with now := t, regs := u.regs, tp := u.tp, teth := u.teth, release := u.release } ∧
          regsKept s u (CGSTAT.WHOLE.adr 0 0 :: GSTARTSTAT.WHOLE.adr 0 0 :: drops) ∧ u.rd CGSTAT.PEND = 1 ∧ u.rd GSTARTSTAT.PEND = 1 ∧
          u.teth.cg = some ⟨at_, [(me, 0)]⟩ ∧ u.release = some ⟨s.gmask, CGSTART.RESTART.of w == 1, src, at_, true⟩ ∧
          ∀ q, q < 4 → s.tpUp q = true → (s.tpU q).buf.length < 4096 →
            (u.tpU q).buf = (s.tpU q).buf ++ [⟨⟨me, 32, s.teth.seq + 1, .cgStart at_ (CGSTART.RESTART.of w == 1)⟩, f⟩])) ∧
    (∀ at_ (re : Bool), s.on TSTAT.ADMITTED = true → s.on TSTAT.MASTER = false →
      let joins (u : State) (l : List Nat) (res : Nat) : Prop :=
        u = { s with now := t, regs := u.regs, tp := u.tp, teth := u.teth, release := u.release } ∧
          regsKept s u (l ++ drops) ∧ sends u (s.rd TSTAT.MIDX) (.cgReport res)
      (s.on GSTARTSTAT.PEND = true → ∃ u, exec (.cgstartBroadcastRx t at_ re) s = .next u ∧ joins u [GSTARTSTAT.WHOLE.adr 0 0] 2 ∧
        u.rd GSTARTSTAT.REFUSED = 1 ∧ u.release = s.release) ∧
      (s.on GSTARTSTAT.PEND = false → f + ns 100 ≤ 64 * at_ → ∃ u, exec (.cgstartBroadcastRx t at_ re) s = .next u ∧
        joins u [GSTARTSTAT.WHOLE.adr 0 0] 0 ∧ u.rd GSTARTSTAT.PEND = 1 ∧ u.release = some ⟨s.gmask, re, .tether, at_, true⟩) ∧
      (s.on GSTARTSTAT.PEND = false → 64 * at_ < f + ns 100 → ∃ u, exec (.cgstartBroadcastRx t at_ re) s = .next u ∧
        joins u [GSTARTSTAT.WHOLE.adr 0 0] 1 ∧ u.rd GSTARTSTAT.LATE = 1 ∧ u.rd GSTARTSTAT.PEND = 1)) ∧
    (∀ c, s.teth.cg = some c →
      (∀ dv res, dv < 32 → res < 3 → exec (.cgstartReportRx t dv res) s = .next { s with now := t, teth := { s.teth with
        cg := some (if c.reps.any (fun r => r.1 == dv) then c else { c with reps := c.reps ++ [(dv, res)] }) } }) ∧
      (let e := 64 * c.at_ + ns (s.rd TMAXLAT.NS)
       let a := (c.reps.filter (fun r => r.2 == 0)).length
       e ≤ f → c.reps.length ≤ 32 → ∃ u, exec (.cgstartClose t) s = .next u ∧ onlyEvents s u ∧ regsKeptEv s u [CGSTAT.WHOLE.adr 0 0] ∧
        u.teth.cg = none ∧ u.rd CGSTAT.PEND = 0 ∧ u.rd CGSTAT.NACK = a ∧ u.rd CGSTAT.NLATE = c.reps.length - a ∧
        raised s u t [⟨7319, e, (c.reps.length - a) * 256 + a, false, false⟩]))

/-! ### Background service and reliability (chapter 13) -/

/-- Scrubbing, path monitors, spine readers and telemetry (R28, R325, R326, R328, R330, R331, R343). The scrubber goes from word
to word, counts and corrects what it can, poisons and reports what it cannot, skips poisoned words, records a word that was
weak in three passes in a row, and counts passes and late ones; a monitor publishes the largest of its last 16 readings plus
KGUARD, a faulty one the slow corner; the telemetry block is stored with an even SEQ and reported. The model's own choices it
rests on: log entries 1, 91, 97, 98, 129, 131. -/
def Obligations.BackgroundService : Prop :=
  ∀ (t : Nat) (s : State), s.now ≤ t →
    let d := s.fineAt 0 t / 64 * 64
    let relOnly (u : State) : Prop := u = { s with now := u.now, regs := u.regs, rel := u.rel }
    let evRel (u : State) : Prop :=
      u = { s with now := u.now, regs := u.regs, rel := u.rel, mem := u.mem, fab := u.fab, pw := u.pw, teth := u.teth, tp := u.tp }
    let w := s.rel.scrubS.ptr
    let on (u : State) : Prop := u.rel.scrubS = { s.rel.scrubS with ptr := w + 1 }
    (s.pw.deep = false → w + 1 < 0x300000 → s.isolated (68 + w / 0x8000) = false →
      (∀ e, (e = Ecc.clean ∨ s.mem.poisoned [w] = true) → ∃ u, exec (.scrubWord t 0 0 e) s = .next u ∧
        u = { s with now := t, rel := u.rel } ∧ on u ∧ u.rel = { s.rel with scrubS := u.rel.scrubS }) ∧
      (s.isolated 211 = true → ∀ e, ∃ u, exec (.scrubWord t 0 0 e) s = .next u ∧ u = { s with now := t, rel := u.rel } ∧ on u ∧
        u.rel = { s.rel with scrubS := u.rel.scrubS }) ∧
      (s.mem.poisoned [w] = false → s.isolated 211 = false →
        (∀ k q, s.rel.ce.find? (fun x => x.1 == w) = some (w, k, q) → (q + 1) % 2 ^ 16 = s.rd SCRUBSTAT.PASSES →
          let counted (u : State) : Prop := on u ∧ u.rd SRAMCE.COUNT = satTo 0xFFFFFFFF (s.rd SRAMCE.COUNT + 1) ∧
            u.rd BANKREP.CECNT 0 (w / 0x8000) = satTo 0xFF (s.rd BANKREP.CECNT 0 (w / 0x8000) + 1) ∧
            u.rel.telCe = satTo 0xFFFF (s.rel.telCe + 1)
          let regs : List Nat := [SRAMCE.WHOLE.adr 0 0, BANKREP.WHOLE.adr 0 (w / 0x8000)]
          (k < 2 → ∃ u, exec (.scrubWord t 0 0 .correctable) s = .next u ∧ relOnly u ∧ regsKept s u regs ∧ counted u) ∧
          (2 ≤ k → s.rel.weak.contains w = false → ∃ u, exec (.scrubWord t 0 0 .correctable) s = .next u ∧ evRel u ∧ u.mem = s.mem ∧
            regsKeptEv s u (SCRUBWEAK.WHOLE.adr 0 0 :: regs) ∧ counted u ∧ u.rd SCRUBWEAK.VALID = 1 ∧ u.rd SCRUBWEAK.WORD = w ∧
            u.rel.weak = s.rel.weak ++ [w] ∧ raised s u t [⟨7818, d, 8 * w, false, false⟩])) ∧
        (∃ u, exec (.scrubWord t 0 0 .uncorrectable) s = .next u ∧ evRel u ∧ on u ∧
          regsKeptEv s u [SRAMUE.WHOLE.adr 0 0, SRAMUEADDR.WHOLE.adr 0 0] ∧ u.rd SRAMUE.COUNT = satTo 0xFFFFFFFF (s.rd SRAMUE.COUNT + 1) ∧
          u.rd SRAMUEADDR.WORD = w ∧ u.mem.poison.contains w = true ∧ u.mem.sram = s.mem.sram ∧ u.mem.lm = s.mem.lm ∧
          raised s u t [⟨7682, d, w * 8, false, false⟩]))) ∧
    (s.pw.deep = false → w = 0x2FFFFF → ∀ late : Bool,
      (3 * (0x300000 * ns 640 * 4 ^ s.rd MARGSTAT.THR) < 2 * (t - s.rel.scrubS.from_) ↔ late = true) →
      ∃ u, exec (.scrubWord t 0 0 .clean) s = .next u ∧ evRel u ∧ u.mem = s.mem ∧ u.rel = { s.rel with scrubS := ⟨0, t⟩ } ∧
        regsKeptEv s u [SCRUBSTAT.WHOLE.adr 0 0] ∧ u.rd SCRUBSTAT.PASSES = (s.rd SCRUBSTAT.PASSES + 1) % 2 ^ 16 ∧
        u.rd SCRUBSTAT.LASTPASS = satTo 0xFFF ((t - s.rel.scrubS.from_) / ms 10) ∧
        u.rd SCRUBSTAT.LATE = (if late then 1 else s.rd SCRUBSTAT.LATE) ∧
        raised s u t (if late then [⟨7817, d, 0, false, false⟩] else [])) ∧
    (s.pw.deep = true → ∀ m p e, m < 3 → p < 68 → exec (.scrubWord t m p e) s = .next { s with now := t }) ∧
    (∀ p g, p < 68 → s.logOf p = some g → s.rd PHEALTH.STATE 0 p = 0 → s.on RELCTL.AUTOWARM = false → s.phys g = p →
      let o := (s.rel.scrubL.get (fun _ => Scrub.init) p).ptr
      let v := Config.freeValue s.freeCtr % 2 ^ 22
      s.pw.deep = false → s.isolated 211 = false → o + 1 < 0x2000 → s.mem.lmBad g (8 * o) 8 = false →
      ∃ u, exec (.scrubWord t 1 p .uncorrectable) s = .next u ∧
        u = { s with now := u.now, regs := u.regs, rel := u.rel, mem := u.mem, fab := u.fab, pw := u.pw, teth := u.teth, tp := u.tp, freeCtr := s.freeCtr + 1 } ∧ (u.rel.scrubL.get (fun _ => Scrub.init) p).ptr = o + 1 ∧
        regsKeptEv s u [SRAMUE.WHOLE.adr 0 0, SRAMUEADDR.WHOLE.adr 0 0, PHEALTH.WHOLE.adr 0 p] ∧
        u.rd SRAMUE.COUNT = satTo 0xFFFFFFFF (s.rd SRAMUE.COUNT + 1) ∧ u.rd SRAMUEADDR.WORD = v ∧ u.rd PHEALTH.LASTSUSP 0 p = 2 ∧ u.rel.marked.contains p = true ∧
        u.rd PHEALTH.STATE 0 p = 0 ∧ u.rd PHEALTH.SUSPCNT 0 p = satTo 0xF (s.rd PHEALTH.SUSPCNT 0 p + 1) ∧
        u.mem.lmPoison.contains (g * 0x2000 + (8 * o) / 8) = true ∧ u.mem.lm = s.mem.lm ∧
        raised s u t [⟨7682, d, v * 8, false, false⟩, ⟨7814, d, 2 * 2 ^ 22 + satTo 0xF (s.rd PHEALTH.SUSPCNT 0 p + 1) * 2 ^ 16 + p, false, false⟩]) ∧
    (∀ m k, m < 96 → k < 2 ^ 15 → ∀ temp : Int,
      let h := s.monU m
      let bad : Prop := k < 0x666 ∨ 0x1999 < k ∨ ∃ q r, h.last = q :: r ∧ q < 10 * absDiff k q
      let l := (k :: h.last).take 16
      let best := l.foldl max 0 + 0x50
      let others (u : State) : Prop := (∀ j, j ≠ m → u.monU j = s.monU j) ∧ (u.monU m).last = l ∧ (u.monU m).n = h.n + 1
      s.refHolds temp = false →
      (¬ bad → s.on MON.FAULT 0 m = false → ∃ u, exec (.monitorReading t m k temp) s = .next u ∧ relOnly u ∧
        regsKept s u [MON.WHOLE.adr 0 m] ∧ others u ∧ u.rd MON.FAULT 0 m = 0 ∧
        u.rd MON.K 0 m = (if h.n + 1 < 16 then 0x1050 else best % 2 ^ 16)) ∧
      (bad → s.on MON.FAULT 0 m = false → 68 ≤ m → ∃ u, exec (.monitorReading t m k temp) s = .next u ∧ evRel u ∧ u.mem = s.mem ∧
        regsKeptEv s u [MON.WHOLE.adr 0 m] ∧ others u ∧ u.rd MON.FAULT 0 m = 1 ∧ u.rd MON.K 0 m = 0x1050 ∧ (u.monU m).good = 0 ∧
        raised s u t [⟨7816, d, m, false, false⟩]) ∧
      (¬ bad → s.on MON.FAULT 0 m = true → ∃ u, exec (.monitorReading t m k temp) s = .next u ∧ relOnly u ∧
        regsKept s u [MON.WHOLE.adr 0 m] ∧ others u ∧ u.rd MON.FAULT 0 m = (if h.good + 1 < 16 then 1 else 0) ∧
        u.rd MON.K 0 m = (if h.good + 1 < 16 ∨ h.n + 1 < 16 then 0x1050 else best % 2 ^ 16))) ∧
    (∀ m k (temp : Int), m < 96 → 0x666 ≤ k → k ≤ 0x1999 → (s.monU m).last = [] → s.on MON.FAULT 0 m = false → 550 ≤ temp → temp ≤ 650 →
      s.rd SUPMON.LEVEL 0 0 = 800 → ∃ u, exec (.monitorReading t m k temp) s = .next u ∧ relOnly u ∧ u.rd MON.KREF 0 m = k ∧
        (u.monU m).refs = (s.strobe t, k) :: (s.monU m).refs) ∧
    (∀ x, ∃ u, exec (.readerLatencyTracking t x) s = .next u ∧ onlyRegs s u ∧ regsKept s u [SPINESTAT.WHOLE.adr 0 0] ∧
      u.rd SPINESTAT.SKEWMAX = satTo 0xFF x ∧ u.rd SPINESTAT.CALDONE = s.rd SPINESTAT.CALDONE) ∧
    (∀ (hot mean : Int) (err : Ecc), s.on TELCTL.EN = true → s.pw.deep = false →
      let b := s.rd TELBASE.BASE * 512
      let n := (s.rel.telSeq + 2) % 2 ^ 32
      let word (u : State) (o : Nat) : Nat := ofBytes (u.mem.sramBytes (b + o) 4)
      s.rel.telAt + ms (s.rd TELCTL.PERIOD) * (if s.rd MARGSTAT.THR = 0 then 1 else 4) ≤ t → b < 0x1800000 →
      s.isolated (68 + b / 0x40000) = false → s.isolated 211 = false →
      ∃ u, exec (.telemetryBlock t hot mean err) s = .next u ∧ u.ecc = .clean ∧ evRel { u with ecc := s.ecc } ∧ regsKeptEv s u [] ∧
        u.rel = { s.rel with telSeq := n, telAt := t, telCe := 0, telUe := 0 } ∧ (∀ x, x < b ∨ b + 512 ≤ x → u.byteAt x = s.byteAt x) ∧
        u.mem.lm = s.mem.lm ∧ u.mem.sec = s.mem.sec ∧ word u 0 = n ∧ word u 8 = s.fineAt 0 t / 64 % 2 ^ 32 ∧
        word u 12 = s.fineAt 0 t / 64 / 2 ^ 32 % 2 ^ 32 ∧
        word u 0x14 = (ofSigned 16 hot * 2 ^ 16 + ofSigned 16 mean) ∧
        word u 0x18 = s.rd MARGLIFE.MARGIN * 2 ^ 16 + s.rd MARGLIFE.YEARS ∧
        (∀ m, m < 96 → ofBytes (u.mem.sramBytes (b + 0x40 + 2 * m) 2) = s.rd MON.K 0 m) ∧
        (∀ g, g < 64 → s.rd SLACKMIN.SLACK g = 0x80000000 → ofBytes (u.mem.sramBytes (b + 0x100 + 2 * g) 2) = 0x8000) ∧
        raised s u t [⟨7819, d, n / 2 % 2 ^ 16, false, false⟩])

/-- Margin re-planning (R332, R333). Every 10 ms the gondola with the least slack below TARGET makes the re-planner take the first
step available: 10 mV more, one throttle level more, a warm takeover to the free spare with the least K, or a report; each
step is counted and reported, and a negative slack is reported at once. After a second of ample slack one step is taken back.
The model's own choices it rests on: log entries 1, 93. -/
def Obligations.Replanning : Prop :=
  ∀ (t : Nat) (s : State), s.now ≤ t → s.on MARGCTL.EN = true →
    let d := s.fineAt 0 t / 64 * 64
    let relEv (u : State) : Prop :=
      u = { s with now := u.now, regs := u.regs, rel := u.rel, sprQ := u.sprQ, fab := u.fab, pw := u.pw, teth := u.teth, tp := u.tp }
    let regs : List Nat := [MARGLIFE.WHOLE.adr 0 0, MARGSTAT.WHOLE.adr 0 0]
    let vmax := s.rd AVSCTL.VMAX
    let more : Prop := s.on MARGCTL.VEN = true ∧ s.vReq < vmax ∧ s.on AVSSTAT.PMFAIL = false
    let throttle : Prop := s.on MARGCTL.TEN = true ∧ s.rd MARGSTAT.THR < 2
    let due : Prop := s.strobe t % ms 10 = 0 ∧ s.on MARGLIFE.VALID = false
    (∀ g v, due → s.rel.wait = .go → worstOf s.slacks = some (g, v) → v < (16 * s.rd MARGCTL.TARGET : Nat) →
      let neg : List Ev := if v < 0 ∧ s.rel.negRep = false then [⟨7808, d, g * 2 ^ 22 + slackNs v, false, false⟩] else []
      let steps (u : State) (i x : Nat) : Prop := exec (.marginEvaluation t) s = .next u ∧ relEv u ∧ regsKeptEv s u regs ∧
        u.rd MARGSTAT.WORST = g % 64 ∧ u.rd MARGSTAT.STEPS = satTo 0xFF (s.rd MARGSTAT.STEPS + 1) ∧
        raised s u t (neg ++ [⟨7809, d, i * 2 ^ 30 + g * 2 ^ 22 + x, false, false⟩])
      (more → ∃ u, steps u 1 (min vmax (s.vReq + 10)) ∧ u.rel.rv = min vmax (s.vReq + 10) ∧ u.rel.wait = .settle (s.phys g) ∧
        u.sprQ = s.sprQ) ∧
      (¬ more → throttle → ∃ u, steps u 2 (s.rd MARGSTAT.THR + 1) ∧ u.rd MARGSTAT.THR = s.rd MARGSTAT.THR + 1 ∧ u.sprQ = s.sprQ ∧
        u.rel.rv = s.rel.rv) ∧
      (∀ p, ¬ more → ¬ throttle → s.on MARGCTL.MEN = true → s.leastK = some p → s.rd MON.K 0 p + 0x7B ≤ s.rd MON.K 0 (s.phys g) →
        s.tko = none → s.sprQ = [] → ∃ u, steps u 3 p ∧ u.sprQ = [⟨false, false, false, g, p⟩] ∧
        u.rd MARGSTAT.MIGR = satTo 0xFF (s.rd MARGSTAT.MIGR + 1)) ∧
      (¬ more → ¬ throttle → s.on MARGCTL.MEN = false → s.rel.lowRep = false →
        ∃ u, exec (.marginEvaluation t) s = .next u ∧ relEv u ∧ regsKeptEv s u regs ∧ u.rd MARGSTAT.LOW = 1 ∧ u.sprQ = s.sprQ ∧
          raised s u t (neg ++ [⟨7808, d, g * 2 ^ 22 + slackNs v, false, false⟩]))) ∧
    (due → s.ample = true → ∃ u, exec (.marginEvaluation t) s = .next u ∧ u = { s with now := u.now, regs := u.regs, rel := u.rel } ∧
      regsKept s u regs ∧ (s.slacks ≠ [] → u.rd MARGSTAT.LOW = 0)) ∧
    (∀ a, s.rel.goodFrom = some a → s.ample = true → a + ms 1000 ≤ t →
      (∃ u, exec (.marginStepBack t) s = .next u ∧ u = { s with now := u.now, regs := u.regs, rel := u.rel } ∧
        regsKept s u [MARGSTAT.WHOLE.adr 0 0] ∧ u.rel.goodFrom = some t ∧
        (s.rd MARGSTAT.THR ≠ 0 → u.rd MARGSTAT.THR = s.rd MARGSTAT.THR - 1 ∧ u.rel.rv = s.rel.rv) ∧
        (s.rd MARGSTAT.THR = 0 → s.rd AVSSTAT.LOOP < s.rel.rv →
          u.rd MARGSTAT.THR = 0 ∧ u.rel.rv = max (s.rd AVSSTAT.LOOP) (s.rel.rv - 10))))

/-- Requests for takeovers and self-tests (R335, R336, R338, R340, R342). SPRCMD queues a takeover, COLD ahead of WARM, refuses
one for a gondola that is queued, one that finds the queue full and a WARM one with an isolated source, starts a test and
aborts a takeover; an idle suspect gondola is tested by itself; a pass applies the latest microcode image and makes it a
spare, a failure retires it, with the outcome reported. Takeovers (R337 to R339). A WARM one starts with its target in SHADOW,
joins once copied and without a task, counts differences, and hands over at an instant without edges at a period start once it
is ready: the target serves, the source becomes a spare; after 100 ms it is aborted. A COLD one empties the gondola: STOPPED,
local memory zero, inputs empty, groups in the HIZ safe state. The model's own choices it rests on: log entries 1, 94, 95, 96,
99. -/
def Obligations.Takeovers : Prop :=
  (∀ (t : Nat) (s : State), s.now ≤ t →
    let d := s.fineAt 0 t / 64 * 64
    (∀ src w, src.ok = true → s.applies src (SPRCMD.WHOLE.adr 0 0) = true →
      let g := SPRCMD.LOG.of w
      let p := SPRCMD.PHYS.of w
      let queued : Prop := ∃ r, r ∈ s.sprQ ∧ r.log = g
      let refuses (c : Instr) (e : Nat) : Prop := ∃ u, exec c s = .next u ∧ onlyRegs s u ∧ regsKept s u [SPRSTAT.WHOLE.adr 0 0] ∧
        u.rd SPRSTAT.LASTRES = e
      (s.isolated (s.phys g) = true → refuses (.sprcmdWarm t src w) 4) ∧
      (queued → s.isolated (s.phys g) = false → refuses (.sprcmdWarm t src w) 4) ∧
      (queued → refuses (.sprcmdCold t src w) 4) ∧
      (¬ queued → 4 ≤ s.sprQ.length → s.isolated (s.phys g) = false → refuses (.sprcmdWarm t src w) 3) ∧
      (¬ queued → 4 ≤ s.sprQ.length → refuses (.sprcmdCold t src w) 3) ∧
      (¬ queued → s.sprQ.length < 4 → s.isolated (s.phys g) = false →
        exec (.sprcmdWarm t src w) s = .next { s with now := t, sprQ := s.sprQ ++ [⟨false, SPRCMD.FORCE.of w == 1, false, g, p⟩] }) ∧
      (¬ queued → s.sprQ.length < 4 → s.tko = none →
        let l := s.sprQ.filter (·.cold) ++ [⟨true, false, false, g, p⟩] ++ s.sprQ.filter (fun r => !r.cold)
        exec (.sprcmdCold t src w) s = .next { s with now := t, sprQ := l }) ∧
      (let st := s.rd PHEALTH.STATE 0 p
       (68 ≤ p ∨ (st ≠ 1 ∧ st ≠ 3 ∧ st ≠ 5) ∨ s.test ≠ none → refuses (.sprcmdTest t src w) 4) ∧
       (p < 68 → st = 1 ∨ st = 3 ∨ st = 5 → s.test = none → s.mcWait.contains p = false →
        ∃ u, exec (.sprcmdTest t src w) s = .next u ∧ u = { s with now := u.now, regs := u.regs, rel := u.rel, test := some p } ∧
          regsKept s u [PHEALTH.WHOLE.adr 0 p] ∧ u.rd PHEALTH.STATE 0 p = 4 ∧ u.rel = { s.rel with testWas := st })) ∧
      (∀ k, s.tko = some k → k.log < 64 → k.tgt < 68 → ∃ u, exec (.sprcmdAbort t src w) s = .next u ∧
        u = { s with now := u.now, regs := u.regs, tko := none, fab := u.fab, pw := u.pw, teth := u.teth, tp := u.tp } ∧
        regsKeptEv s u [LMAP.WHOLE.adr 0 k.log, PHEALTH.WHOLE.adr 0 k.tgt, SPRSTAT.WHOLE.adr 0 0] ∧ u.rd LMAP.SHADOW 0 k.log = 0 ∧
        u.rd LMAP.PHYS 0 k.log = s.rd LMAP.PHYS 0 k.log ∧ u.rd PHEALTH.STATE 0 k.tgt = 1 ∧ u.rd SPRSTAT.LASTRES = 5 ∧
        raised s u t [⟨7812, d, 5 * 2 ^ 29 + k.log * 2 ^ 22 + s.rd SPRSTAT.MISM * 2 ^ 8 + k.tgt, false, false⟩]) ∧
      (s.tko = none → exec (.sprcmdAbort t src w) s = .next { s with now := t })) ∧
    (∀ p, p < 68 → s.on RELCTL.AUTOTEST = true → s.test = none → s.rd PHEALTH.STATE 0 p = 3 → s.mcWait.contains p = false →
      ∃ u, exec (.selftestStart t p) s = .next u ∧ u = { s with now := u.now, regs := u.regs, rel := u.rel, test := some p } ∧
        regsKept s u [PHEALTH.WHOLE.adr 0 p] ∧ u.rd PHEALTH.STATE 0 p = 4) ∧
    (∀ p k, s.test = some p → p < 68 → s.isolated p = false → k < 6 →
      ∃ u, exec (.selftestDone t k) s = .next u ∧
        u = { s with now := u.now, regs := u.regs, mcRun := u.mcRun, test := none, fab := u.fab, pw := u.pw, teth := u.teth, tp := u.tp } ∧
        regsKeptEv s u [PHEALTH.WHOLE.adr 0 p] ∧
        (k = 0 → u.rd PHEALTH.STATE 0 p = (if s.rel.testWas = 5 then 5 else 1) ∧ (s.mcNew = none → u.mcRun = s.mcRun) ∧
          (∀ m, s.mcNew = some m → u.mcRun.get (fun _ => McImage.bare) p = m ∧
            ∀ q, q ≠ p → u.mcRun.get (fun _ => McImage.bare) q = s.mcRun.get (fun _ => McImage.bare) q) ∧ raised s u t [⟨7815, d, 2 ^ 31 + p, false, false⟩]) ∧
        (k ≠ 0 → u.mcRun = s.mcRun ∧ u.rd PHEALTH.STATE 0 p = 5 ∧ u.rd PHEALTH.LASTSUSP 0 p = 5 ∧
          raised s u t [⟨7814, d, 5 * 2 ^ 22 + satTo 0xF (s.rd PHEALTH.SUSPCNT 0 p + 1) * 2 ^ 16 + p, false, false⟩,
            ⟨7815, d, k * 2 ^ 28 + p, false, false⟩]))) ∧
  (∀ (t : Nat) (s : State), s.now ≤ t →
    let a := s.advance t
    let d := s.fineAt 0 t / 64 * 64
    let code (kind g src tgt : Nat) : Nat := kind * 2 ^ 30 + g * 2 ^ 22 + src * 2 ^ 8 + tgt
    (∀ r rest, s.sprQ = r :: rest → s.tko = none → r.log < 64 →
      (∀ p, r.cold = false → s.isolated (s.phys r.log) = false → s.sprTarget r = .ok p →
        ∃ u, exec (.takeoverStart t) s = .next u ∧
          u = { s with now := u.now, regs := u.regs, sprQ := rest, tko := u.tko, fab := u.fab, pw := u.pw, teth := u.teth, tp := u.tp } ∧
          u.tko = some ⟨r.log, s.phys r.log, p, r.force, r.susp, s.engState r.log == 5, false, none, 0⟩ ∧
          regsKeptEv s u [PHEALTH.WHOLE.adr 0 p, LMAP.WHOLE.adr 0 r.log, SPRSTAT.WHOLE.adr 0 0] ∧ u.rd PHEALTH.STATE 0 p = 2 ∧
          u.rd LMAP.SHADOW 0 r.log = 1 ∧ u.rd LMAP.SPHYS 0 r.log = p ∧ u.rd LMAP.PHYS 0 r.log = s.rd LMAP.PHYS 0 r.log ∧
          u.rd SPRSTAT.LOG = r.log ∧ u.rd SPRSTAT.TGT = p ∧ u.rd SPRSTAT.MISM = 0 ∧
          raised s u t [⟨7810, d, code 1 r.log (s.phys r.log) p, false, false⟩]) ∧
      (∀ e c, s.sprTarget r = .error e → e < 8 →
        (c = Instr.takeoverStart t ∧ r.cold = false ∧ s.isolated (s.phys r.log) = false) ∨ (c = .coldTakeover t ∧ r.cold = true) →
        ∃ u, exec c s = .next u ∧ u = { s with now := u.now, regs := u.regs, sprQ := rest } ∧ regsKept s u [SPRSTAT.WHOLE.adr 0 0] ∧
          u.rd SPRSTAT.LASTRES = e) ∧
      (∀ p, r.cold = true → s.sprTarget r = .ok p → p ≠ s.phys r.log →
        let g := r.log
        ∃ u, exec (.coldTakeover t) s = .next u ∧ u.sprQ = rest ∧ u.tko = none ∧ u.rd LMAP.PHYS 0 g = p ∧ u.rd PHEALTH.STATE 0 p = 0 ∧
          (∀ o, o < 0x10000 → u.lmByte (0x10000 * g + o) = 0) ∧ (∀ k, k < 0x10000 * g ∨ 0x10000 * (g + 1) ≤ k → u.lmByte k = s.lmByte k) ∧
          u.rd ENGCTL.RUN g = 0 ∧ u.en g = Eng.init ∧ (∀ h, h ≠ g → u.en h = s.en h) ∧ u.mem.sram = s.mem.sram ∧ u.mem.sec = s.mem.sec ∧
          bitAt (u.rd SECGON.SEC 0 (g / 32)) (g % 32) = false ∧ u.rd SPRSTAT.LASTRES = 0 ∧
          (∀ j, j = 2 * g ∨ j = 2 * g + 1 → u.rd SAFESTAT.ACTIVE j = 1 ∧ u.rd SAFESTAT.SRC j = 6 ∧ u.rd SAFECTL.SAFEST j = 0) ∧
          ∀ n, n / 16 ≠ g → u.ch n = s.ch n)) ∧
    (∀ k, s.tko = some k → k.log < 64 → k.tgt < 68 → k.src < 68 → k.src ≠ k.tgt →
      (exec (.takeoverCopyDone t) s = .next { s with now := t, tko := some { k with copied := true } }) ∧
      (k.copied = true → k.joined = none → k.bal = true ∨ s.taskFree k.log = true → ∀ n,
        exec (.takeoverJoin t n) s = .next { s with now := t, tko := some { k with joined := some t, clean := t } }) ∧
      (let hands (c : Instr) : Prop := ∃ u, exec c s = .next u ∧
          u = { s with now := u.now, regs := u.regs, tko := none, rel := u.rel, fab := u.fab, pw := u.pw, teth := u.teth, tp := u.tp } ∧
          regsKeptEv s u [LMAP.WHOLE.adr 0 k.log, PHEALTH.WHOLE.adr 0 k.src, PHEALTH.WHOLE.adr 0 k.tgt, SPRSTAT.WHOLE.adr 0 0] ∧
          u.rd LMAP.PHYS 0 k.log = k.tgt ∧ u.rd LMAP.SHADOW 0 k.log = 0 ∧ u.rd PHEALTH.STATE 0 k.tgt = 0 ∧
          u.rd PHEALTH.STATE 0 k.src = 1 ∧ u.rd SPRSTAT.LASTRES = 0 ∧
          u.fab = ((a.routerHand k.src k.tgt).raiseEv ⟨7811, d, code 1 k.log k.src k.tgt, false, false⟩).fab
       let plain : Prop := k.bal = false ∧ k.susp = false ∧ s.rel.marked.contains k.src = false
       let still : Prop := s.taskFree k.log = true ∧ (∀ n, n / 16 = k.log → s.rd CHSTAT.STATE n ≠ 2 ∧ (s.ch n).dl.pend = [] ∧ (s.ch n).dl.lastAt = none)
       (plain → a.tkoReady k = true → a.tkoInstant k = true → hands (.takeoverHandover t 0)) ∧
       (∀ j, plain → still → k.joined = some j → k.clean + us 10 ≤ t → hands (.takeoverHandover t 0)) ∧
       (∀ j n, k.joined = some j → 0 < n → k.force = false → ∃ u, exec (.takeoverHandover t n) s = .next u ∧
          u = { s with now := u.now, regs := u.regs, tko := some { k with clean := t } } ∧ regsKept s u [SPRSTAT.WHOLE.adr 0 0] ∧
          u.rd SPRSTAT.MISM = satTo 0xFF (s.rd SPRSTAT.MISM + n)) ∧
       (∀ j, plain → k.joined = some j → j + ms 100 ≤ t → k.force = true → a.tkoInstant k = true → hands (.takeoverTimeLimit t)) ∧
       (∀ j, k.joined = some j → j + ms 100 ≤ t → k.force = false → ∃ u, exec (.takeoverTimeLimit t) s = .next u ∧
          u = { s with now := u.now, regs := u.regs, tko := none, fab := u.fab, pw := u.pw, teth := u.teth, tp := u.tp } ∧
          regsKeptEv s u [LMAP.WHOLE.adr 0 k.log, PHEALTH.WHOLE.adr 0 k.tgt, SPRSTAT.WHOLE.adr 0 0] ∧ u.rd LMAP.SHADOW 0 k.log = 0 ∧
          u.rd LMAP.PHYS 0 k.log = s.rd LMAP.PHYS 0 k.log ∧ u.rd PHEALTH.STATE 0 k.tgt = 1 ∧ u.rd SPRSTAT.LASTRES = 1 ∧
          raised s u t [⟨7812, d, 2 ^ 29 + k.log * 2 ^ 22 + s.rd SPRSTAT.MISM * 2 ^ 8 + k.tgt, false, false⟩]))))

/-! ### Power states, supplies and the core voltage (chapter 14) -/

/-- Entry into a power state (R348, R349, R351, R352, R354). A request for Drift or Moored starts the entry where its conditions
hold and is refused with the reason otherwise; Grounded needs its key; an automatic entry takes the deepest state whose wake
is tolerable and whose conditions have held for DWELL; a completed entry shows its state and reports it, in Moored in the wake
log, and Grounded leaves only secure SRAM, the life cycle and the tamper logic. The model's own choices it rests on: log
entries 1, 102, 103. -/
def Obligations.PowerEntry : Prop :=
  ∀ (t : Nat) (s : State), s.now ≤ t → s.pw.gnd = false →
    let d := s.fineAt 0 t / 64 * 64
    let st := s.rd PWRSTAT.STATE
    let enters (u : State) (k : Nat) : Prop := u.rd PWRSTAT.STATE = 3 ∧ u.pw = { s.pw with tgt := k, prev := st, from_ := t }
    let regsPw (u : State) : Prop := u = { s with now := u.now, regs := u.regs, pw := u.pw }
    let both : List Nat := [PWRCTL.WHOLE.adr 0 0, PWRSTAT.WHOLE.adr 0 0]
    let idle : Prop := ∀ g, g < 64 → s.engState g < 2
    let noWork : Prop := (∀ m, m < 32 → s.rd MVSTAT.STATE m = 0 ∨ 4 ≤ s.rd MVSTAT.STATE m) ∧ s.qrec = []
    let noSlot : Prop := ∀ g k, g < 64 → k ∈ (s.sch g).order → (s.ts g k).st = .idle ∨ (s.ts g k).st = .exec
    let noChannel : Prop := ∀ n, n < 1024 → (s.chSt n = 0 ∨ s.chSt n = 3) ∧ (s.ch n).dl.pend = []
    let noInput : Prop := (∀ k, k < 128 → s.on TAILCTL.ARM k = false) ∧ (∀ i, i < 32 → s.on SPCTL.EN i = false) ∧
      (∀ i, i < 16 → s.on SARCTL.EN i = false) ∧ (∀ i, i < 256 → s.on SDCTL.EN i = false)
    let moorable : Prop := idle ∧ noSlot ∧ noChannel ∧ noInput ∧ noWork ∧ s.tko = none ∧ s.test = none
    (∀ src w, src.ok = true → s.applies src (PWRCTL.WHOLE.adr 0 0) = true →
      let stored (u : State) : Prop := u.rd PWRCTL.AUTO = PWRCTL.AUTO.of w ∧ u.rd PWRCTL.MOOREN = PWRCTL.MOOREN.of w ∧
        u.rd PWRCTL.TETHKEEP = PWRCTL.TETHKEEP.of w ∧ u.rd PWRCTL.PMOFF = PWRCTL.PMOFF.of w ∧
        u.rd PWRCTL.DWELL = (if PWRCTL.DWELL.of w = 0 then 1 else PWRCTL.DWELL.of w)
      let starts (c : Instr) (k : Nat) : Prop := ∃ u, exec c s = .next u ∧ regsPw u ∧ regsKept s u both ∧ stored u ∧ enters u k
      let refused (c : Instr) (r : Nat) : Prop := ∃ u, exec c s = .next u ∧ onlyRegs s u ∧ regsKept s u both ∧ stored u ∧
        u.rd PWRSTAT.REFUSED = 1 ∧ u.rd PWRSTAT.REASON = r ∧ u.rd PWRSTAT.STATE = st
      (st = 0 → idle → noWork → starts (.pwrctlGoDrift t src w) 1) ∧
      (st = 0 → ¬ idle → refused (.pwrctlGoDrift t src w) 1) ∧
      (st = 0 → idle → ¬ noWork → refused (.pwrctlGoDrift t src w) 4) ∧
      (st < 2 → moorable → starts (.pwrctlGoMoored t src w) 2) ∧
      (st < 2 → ¬ (idle ∧ noSlot) → refused (.pwrctlGoMoored t src w) 1) ∧
      (st < 2 → idle → noSlot → ¬ noChannel → refused (.pwrctlGoMoored t src w) 2) ∧
      (st < 2 → idle → noSlot → noChannel → ¬ noInput → refused (.pwrctlGoMoored t src w) 3) ∧
      (st < 2 → idle → noSlot → noChannel → noInput → ¬ noWork → refused (.pwrctlGoMoored t src w) 4) ∧
      (st < 2 → idle → noSlot → noChannel → noInput → noWork → (s.tko ≠ none ∨ s.test ≠ none) → refused (.pwrctlGoMoored t src w) 5) ∧
      (PWRCTL.GNDKEY.of w ≠ 0x5A → refused (.pwrctlGoGrounded t src w) 6) ∧
      (PWRCTL.GNDKEY.of w = 0x5A → st < 3 → s.rd BANKOESTAT.OE = 0 → (∀ p, p < 4 → s.rd TPSTAT.STATE p = 0) → s.boot.oe = [] →
        ∃ u, exec (.pwrctlGoGrounded t src w) s = .next u ∧ u = { s with now := u.now, regs := u.regs, pw := u.pw, host := u.host } ∧
          stored u ∧ enters u 3 ∧ u.host = { s.host with up := false, downAt := u.host.downAt } ∧
          regsKept s u (both ++ (upFrom 0 32).map (fun k => MVSTAT.WHOLE.adr k 0)))) ∧
    (∀ a b, s.on PWRCTL.AUTO = true → st < 2 →
      let dwell := us (100 * s.rd PWRCTL.DWELL)
      let auto (k : Nat) : Prop := ∃ u, exec (.powerAutoEntry t a b) s = .next u ∧ regsPw u ∧ regsKept s u [PWRSTAT.WHOLE.adr 0 0] ∧ enters u k
      let deep : Prop := s.on PWRCTL.MOOREN = true ∧ 65 ≤ s.rd WAKETOL.TOL ∧ b + dwell ≤ t ∧ moorable
      (deep → auto 2) ∧
      (¬ deep → st = 0 → 2 ≤ s.rd WAKETOL.TOL → a + dwell ≤ t → idle → noWork → auto 1) ∧
      (s.rd WAKETOL.TOL < 2 → exec (.powerAutoEntry t a b) s = .next { s with now := t })) ∧
    (st = 3 → s.on SPINESTAT.CALDONE = true → s.pw.deep = false →
      (s.pw.tgt = 1 → ∃ u, exec (.powerEntryDone t) s = .next u ∧ onlyEvents s u ∧ regsKeptEv s u [PWRSTAT.WHOLE.adr 0 0] ∧
        u.rd PWRSTAT.STATE = 1 ∧ u.pw = { s.pw with prev := 1 } ∧ raised s u t [⟨7936, d, s.pw.prev * 16 + 1, false, false⟩]) ∧
      (s.pw.tgt = 2 → s.pw.log = [] → (∀ k, k < 256 → s.kLive k = true) → s.on PWRCTL.TETHKEEP = true →
        ∃ u, exec (.powerEntryDone t) s = .next u ∧ regsPw u ∧ regsKept s u [PWRSTAT.WHOLE.adr 0 0] ∧ u.rd PWRSTAT.STATE = 2 ∧
          u.pw = { s.pw with prev := 2, deep := true, deepAt := t, log := [⟨7936, d, s.pw.prev * 16 + 2, false, false⟩] }) ∧
      (s.pw.tgt = 3 → ∃ u, exec (.powerEntryDone t) s = .next u ∧ u.pw.gnd = true ∧ u.mem.sec = s.secKept ∧ u.mem.sram = [] ∧ u.mem.lm = [] ∧
        u.eng = [] ∧ u.chan = [] ∧ u.secH.fuse = s.secH.cut (Config.freeValue s.freeCtr) ∧ u.boot.stage = 0 ∧ u.spine = none ∧
        u.reg (TAMPCTL.WHOLE.adr 0 0) = s.reg (TAMPCTL.WHOLE.adr 0 0) ∧ u.reg (LCSTAT.WHOLE.adr 0 0) = s.reg (LCSTAT.WHOLE.adr 0 0) ∧
        ∀ x, x ∉ [TAMPCTL.WHOLE.adr 0 0, LCSTAT.WHOLE.adr 0 0, TAMPSTAT.WHOLE.adr 0 0] → u.reg x = regReset x)) ∧
    (st ≠ 3 → exec (.powerEntryDone t) s = .next { s with now := t })

/-- Wakes (R349, R350, R352 to R354). A wake source of R353 that is enabled starts a wake, also out of an entry; GO with TGT Aloft
does; when the wake completes the device is Aloft, its log is issued in timestamp order with the count of lost entries, its
time, cause and the change of state are recorded and reported, and then the accesses that waited for it are applied in order.
The model's own choices it rests on: log entries 1, 101, 103, 104. -/
def Obligations.Wakes : Prop :=
  ∀ (t : Nat) (s : State), s.now ≤ t → s.pw.gnd = false →
    let d := s.fineAt 0 t / 64 * 64
    let st := s.rd PWRSTAT.STATE
    let wakes (c : Instr) (cause idx : Nat) (l : List Nat) : Prop := ∃ u, exec c s = .next u ∧
      u = { s with now := u.now, regs := u.regs, pw := u.pw } ∧ regsKept s u (PWRSTAT.WHOLE.adr 0 0 :: l) ∧ u.rd PWRSTAT.STATE = 4 ∧
      u.pw = { s.pw with from_ := t, cause := cause, idx := idx }
    (1 ≤ st → st ≤ 3 →
      (∀ i, i < 256 → wakes (.wakeRequest t 2 i) 2 i []) ∧
      (∀ i, i < 256 → s.on KCTL.WAKE i = true → s.on KSTAT.OUT i = true → wakes (.wakeRequest t 3 i) 3 i []) ∧
      (∀ i, i < 256 → s.on WAKEEN.TETH = true → wakes (.wakeRequest t 5 i) 5 i []) ∧
      (∀ i, i < 256 → s.on WAKEEN.WD = true → wakes (.wakeRequest t 6 i) 6 i []) ∧
      (∀ i, i < 256 → s.on WAKEEN.SUPPLY = true → wakes (.wakeRequest t 7 i) 7 i []) ∧
      (∀ i g k, i < 256 → s.pw.deep = false → g < 64 → k ∈ (s.sch g).order → (s.ts g k).st = .ready → wakes (.wakeRequest t 1 i) 1 i []) ∧
      (s.on WAKEEN.TIMER = true → s.rd64 WAKEAT_LO.VALUE WAKEAT_HI.VALUE ≤ s.fineAt 0 t / 64 → wakes (.wakeTimer t) 4 0 []) ∧
      (∀ src w, src.ok = true → s.applies src (PWRCTL.WHOLE.adr 0 0) = true → wakes (.pwrctlGoAloft t src w) 8 0 [PWRCTL.WHOLE.adr 0 0])) ∧
    (∀ c, (c = 1 ∧ s.pw.deep = true) ∨ (c = 5 ∧ s.on WAKEEN.TETH = false) ∨ (c = 6 ∧ s.on WAKEEN.WD = false) ∨
        (c = 7 ∧ s.on WAKEEN.SUPPLY = false) → exec (.wakeRequest t c 0) s = .next { s with now := t }) ∧
    (s.on WAKEEN.TIMER = false → exec (.wakeTimer t) s = .next { s with now := t }) ∧
    (st = 4 →
      let x := satTo 0xFFFF ((t - s.pw.from_ + 3200) / 6400)
      let shown (u : State) : Prop := u.rd PWRSTAT.STATE = 0 ∧ u.rd PWRSTAT.WAKES = (s.rd PWRSTAT.WAKES + 1) % 2 ^ 16 ∧ u.rd WAKELAT.LAST = x ∧
        u.rd WAKELAT.MAX = max x (s.rd WAKELAT.MAX) ∧ u.rd WAKECAUSE.CAUSE = s.pw.cause % 16 ∧ u.rd WAKECAUSE.INDEX = s.pw.idx % 256 ∧
        u.pw.prev = 0 ∧ u.pw.log = [] ∧ u.pw.deep = false
      let own : Ev := ⟨7937, d, s.pw.cause * 2 ^ 28 + s.pw.idx * 2 ^ 16 + x, false, false⟩
      (s.pw.deep = false → s.pw.held = [] → s.on SPINESTAT.CALDONE = true →
        ∃ u, exec (.wakeDone t) s = .next u ∧ u.answers = [] ∧ onlyEvents s { u with answers := s.answers } ∧
          regsKeptEv s u [PWRSTAT.WHOLE.adr 0 0, WAKELAT.WHOLE.adr 0 0, WAKECAUSE.WHOLE.adr 0 0] ∧ shown u ∧
          raised s u t (sortEvs s.pw.log ++ (if s.pw.lost = 0 then [] else [⟨7938, d, satTo 0xFF s.pw.lost, false, false⟩]) ++
            (if s.pw.prev = 0 then [] else [⟨7936, d, s.pw.prev * 16, false, false⟩]) ++ [own])) ∧
      (s.pw.deep = true → s.pw.held = [] → s.on SPINESTAT.CALDONE = true → (∀ g, g < 64 → (s.en g).posted = []) →
        ∃ u, exec (.wakeDone t) s = .next u ∧ shown u ∧ u.calT0 = t ∧ u.mem = s.mem ∧
          (∀ g, g < 64 → (u.en g).w = [] ∧ (u.en g).acc0 = 0 ∧ (u.en g).acc1 = 0 ∧ (u.en g).flags = 0 ∧ (u.en g).mode = 0) ∧
          (∀ n, (u.ch n).pin = (s.ch n).pin ∧ (u.ch n).run = (s.ch n).run)) ∧
      ∀ v, exec (.wakeDone t) { s with pw := { s.pw with held := [] } } = .next v →
        exec (.wakeDone t) s = .next (s.pw.held.foldl (fun x h => x.withEcc h.2 (·.heldApply h.1)) v))

/-- Supply monitors (R353, R355, R358). A measurement shows the level and keeps the lowest one; a warning and a fault are shown,
reported and wake the device; a bank's fault revokes its output enable, a SerDes fault retrains the tether, an analogue one
forces the comparators and a core fault resets the device; a fault that has ended is reported. The core voltage (R356, R357).
The loop raises its value by 10 mV when KW exceeds the target, lowers it after 16 low evaluations, within VMIN to VMAX; the
larger of it and the re-planner's value is sent at most every 100 µs, never during an entry or a wake; a request is settled
within 10 mV; three misses in a row, 2 ms without settling and a fault bit are failures, which RETRY clears. The model's own
choices it rests on: log entries 1, 105, 106. -/
def Obligations.Supplies : Prop :=
  (∀ (t r mv : Nat) (s : State), r < 20 → mv < 4096 → s.now ≤ t → s.rd PWRSTAT.STATE = 0 →
    let d := s.fineAt 0 t / 64 * 64
    let hi := s.on SUPMON.HI 0 r
    let warnOk (v : Nat) : Prop := if r = 0 then s.rd AVSSTAT.REQ - 30 ≤ v ∧ v ≤ s.rd AVSSTAT.REQ + 30 else if r = 1 then 808 ≤ v ∧ v ≤ 892
      else if r = 2 then 1140 ≤ v ∧ v ≤ 1260 else if r = 3 then 1710 ≤ v ∧ v ≤ 1890
      else if hi then 3069 ≤ v ∧ v ≤ 3531 else 1674 ≤ v ∧ v ≤ 1926
    let faultOk : Prop := if r = 0 then 600 ≤ mv ∧ mv ≤ 950 else if r = 1 then 765 ≤ mv ∧ mv ≤ 935
      else if r = 2 then 1080 ≤ mv ∧ mv ≤ 1320 else if r = 3 then 1620 ≤ mv ∧ mv ≤ 1980
      else if hi then 2904 ≤ mv ∧ mv ≤ 3696 else 1584 ≤ mv ∧ mv ≤ 2016
    let reg : List Nat := [SUPMON.WHOLE.adr 0 r]
    let lvl := s.rd SUPMON.LEVEL 0 r
    (r < 4 ∨ bitAt s.pw.seen (r - 4) = true → ∃ u, exec (.supplyMeasurement t r mv) s = .next u ∧ onlyRegs s u ∧ regsKept s u reg ∧
      u.rd SUPMON.LEVEL 0 r = mv ∧ u.rd SUPMON.MIN 0 r = min mv (s.rd SUPMON.MIN 0 r) ∧ u.rd SUPMON.FAULT 0 r = s.rd SUPMON.FAULT 0 r ∧
      (warnOk mv → u.rd SUPMON.WARN 0 r = 0) ∧ (¬ warnOk mv → u.rd SUPMON.WARN 0 r = s.rd SUPMON.WARN 0 r)) ∧
    (∀ v, 4 ≤ r → bitAt s.pw.seen (r - 4) = false → ((v = 1 ∧ 3135 ≤ mv ∧ mv ≤ 3465) ∨ (v = 0 ∧ 1710 ≤ mv ∧ mv ≤ 1890)) →
      ∃ u, exec (.supplyMeasurement t r mv) s = .next u ∧ u = { s with now := u.now, regs := u.regs, pw := u.pw } ∧ regsKept s u reg ∧
        u.rd SUPMON.HI 0 r = v ∧ u.rd SUPMON.LEVEL 0 r = mv ∧ bitAt u.pw.seen (r - 4) = true) ∧
    (¬ warnOk lvl → s.on SUPMON.WARN 0 r = false → ∃ u, exec (.supplyWarning t r) s = .next u ∧ onlyEvents s u ∧ regsKeptEv s u reg ∧
      u.rd SUPMON.WARN 0 r = 1 ∧ raised s u t [⟨7939, d, r * 2 ^ 24 + lvl, false, false⟩]) ∧
    (¬ faultOk → s.on SUPMON.FAULT 0 r = false →
      let ev : Ev := ⟨7940, d, r * 2 ^ 24 + mv, false, false⟩
      let shown (u : State) : Prop := u.rd SUPMON.FAULT 0 r = 1 ∧ u.rd SUPMON.SEEN 0 r = 1 ∧ u.rd SUPMON.LEVEL 0 r = mv ∧
        u.rd SUPMON.MIN 0 r = min mv (s.rd SUPMON.MIN 0 r)
      (4 ≤ r → bitAt (s.rd BANKOESTAT.OE) (r - 4) = true → ∃ u, exec (.supplyFault t r mv) s = .next u ∧
        u = { s with now := u.now, regs := u.regs, boot := u.boot, fab := u.fab, pw := u.pw, teth := u.teth, tp := u.tp } ∧
        regsKeptEv s u (BANKOESTAT.WHOLE.adr 0 0 :: reg) ∧ shown u ∧ bitAt (u.rd BANKOESTAT.OE) (r - 4) = false ∧
        (∀ b, b < 16 → b ≠ r - 4 → bitAt (u.rd BANKOESTAT.OE) b = bitAt (s.rd BANKOESTAT.OE) b) ∧
        raised s u t [ev, ⟨7714, d, r - 4, false, false⟩]) ∧
      (r = 3 → (∀ k, k < 256 → s.kOff k = true) → ∃ u, exec (.supplyFault t r mv) s = .next u ∧ onlyEvents s u ∧ regsKeptEv s u reg ∧ shown u ∧
        raised s u t [ev]) ∧
      (r = 1 ∨ r = 2 → (∀ p, p < 4 → s.rd TPSTAT.STATE p = 0) → ∃ u, exec (.supplyFault t r mv) s = .next u ∧ onlyEvents s u ∧
        regsKeptEv s u reg ∧ shown u ∧ raised s u t [ev]) ∧
      (r = 0 → ∃ u, exec (.supplyFault t r mv) s = .next u ∧ u.boot.stage = 0 ∧ u.spine = none ∧ u.chan = [] ∧ u.eng = [] ∧ u.mem.sram = [] ∧
        u.mem.lm = [] ∧ u.mem.sec = s.secKept ∧ ∀ x, x ≠ TAMPSTAT.WHOLE.adr 0 0 → u.reg x = regReset x)) ∧
    (faultOk → s.on SUPMON.FAULT 0 r = true → (r = 3 → ∀ k, k < 256 → s.kOff k = true) → ∃ u, exec (.supplyFaultClear t r mv) s = .next u ∧ onlyEvents s u ∧ regsKeptEv s u reg ∧
      u.rd SUPMON.FAULT 0 r = 0 ∧ u.rd SUPMON.SEEN 0 r = s.rd SUPMON.SEEN 0 r ∧ u.rd SUPMON.LEVEL 0 r = mv ∧
      raised s u t [⟨7941, d, r * 2 ^ 24 + mv, false, false⟩])) ∧
  (∀ (t : Nat) (s : State), s.now ≤ t →
    let d := s.fineAt 0 t / 64 * 64
    let req := max (s.rd AVSSTAT.LOOP) s.rel.rv
    let clamp (v : Nat) : Nat := if v < s.rd AVSCTL.VMIN then s.rd AVSCTL.VMIN else if v > s.rd AVSCTL.VMAX then s.rd AVSCTL.VMAX else v
    let fails (u : State) (cause word : Nat) : Prop := onlyEvents s u ∧ regsKeptEv s u [AVSSTAT.WHOLE.adr 0 0] ∧ u.rd AVSSTAT.PMFAIL = 1 ∧
      raised s u t [⟨7942, d, cause * 2 ^ 16 + word % 2 ^ 16, false, false⟩]
    let regsPw (u : State) : Prop := u = { s with now := u.now, regs := u.regs, pw := u.pw }
    (∀ k, s.on AVSCTL.EN = true → s.pw.deep = false → s.strobe t % ms 1 = 0 → s.avsK = some k →
      let a := s.rd PMBCFG.AVSK
      let loops (v n : Nat) : Prop := ∃ u, exec (.avsEvaluation t) s = .next u ∧ regsPw u ∧
        regsKept s u [AVSSTAT.WHOLE.adr 0 0, MARGSTAT.WHOLE.adr 0 0] ∧ u.rd AVSSTAT.LOOP = v ∧ u.rd AVSSTAT.REQ = s.rd AVSSTAT.REQ ∧
        u.pw = { s.pw with lowN := n }
      (a + 0x40 < k → loops (clamp (s.rd AVSSTAT.LOOP + 10)) 0) ∧
      (k + 0x40 < a → s.pw.lowN < 15 → loops (s.rd AVSSTAT.LOOP) (s.pw.lowN + 1)) ∧
      (k + 0x40 < a → 15 ≤ s.pw.lowN → loops (clamp (s.rd AVSSTAT.LOOP - 10)) 0) ∧
      (k ≤ a + 0x40 → a ≤ k + 0x40 → loops (s.rd AVSSTAT.LOOP) 0)) ∧
    (req ≠ s.rd AVSSTAT.REQ → s.on AVSSTAT.PMFAIL = false → s.rd PWRSTAT.STATE < 3 → s.on BOOTSTAT.DONE = true →
      (∀ a, s.pw.sentAt = some a → a + us 100 ≤ t) →
      (req < 1024 → ∃ u, exec (.pmbusRequestSend t true) s = .next u ∧ regsPw u ∧ regsKept s u [AVSSTAT.WHOLE.adr 0 0] ∧
        u.rd AVSSTAT.REQ = req ∧ u.rd AVSSTAT.SETTLING = 1 ∧ u.pw = { s.pw with sentAt := some t, tries := 0 }) ∧
      (s.pw.tries < 2 → exec (.pmbusRequestSend t false) s = .next { s with now := t, pw := { s.pw with sentAt := some t, tries := s.pw.tries + 1 } }) ∧
      (s.pw.tries = 2 → ∃ u, exec (.pmbusRequestSend t false) s = .next u ∧ fails u 1 s.pw.status)) ∧
    (s.rd PWRSTAT.STATE = 3 ∨ s.rd PWRSTAT.STATE = 4 ∨ (∃ a, s.pw.sentAt = some a ∧ t < a + us 100) → ∀ b : Bool,
      exec (.pmbusRequestSend t b) s = .next { s with now := t }) ∧
    (s.on AVSSTAT.SETTLING = true → absDiff (s.rd SUPMON.LEVEL 0 0) (s.rd AVSSTAT.REQ) ≤ 10 → ∃ u, exec (.pmbusSettled t) s = .next u ∧
      u = { s with now := u.now, regs := u.regs, rel := u.rel } ∧ regsKept s u [AVSSTAT.WHOLE.adr 0 0] ∧ u.rd AVSSTAT.SETTLING = 0 ∧
      (∀ m, s.rel.wait = .settle m → u.rel = { s.rel with wait := .reads m (s.monU m).n })) ∧
    (∀ a, s.on AVSSTAT.SETTLING = true → s.on AVSSTAT.PMFAIL = false → s.pw.sentAt = some a → a + ms 2 ≤ t →
      ∃ u, exec (.pmbusSettleTimeout t) s = .next u ∧ fails u 2 s.pw.status) ∧
    (∀ y, (exec (.pmbusStatusPoll t true y false) s = .next { s with now := t, pw := { s.pw with status := y % 2 ^ 16, tries := 0 } }) ∧
      (s.on AVSSTAT.PMFAIL = false → (∃ u, exec (.pmbusStatusPoll t true y true) s = .next u ∧ fails u 3 y) ∧
        (s.pw.tries = 2 → ∃ u, exec (.pmbusStatusPoll t false y false) s = .next u ∧ fails u 1 s.pw.status))) ∧
    (∀ src w, src.ok = true → s.applies src (AVSCTL.WHOLE.adr 0 0) = true → s.on AVSSTAT.PMFAIL = true →
      let hold (lo hi v : Nat) : Nat := if v < lo then lo else if v > hi then hi else v
      let vmax := hold 650 900 (AVSCTL.VMAX.of w)
      ∃ u, exec (.avsctlRetry t src w) s = .next u ∧ u = { s with now := u.now, regs := u.regs, pw := u.pw, rel := u.rel } ∧
        regsKept s u [AVSCTL.WHOLE.adr 0 0, AVSSTAT.WHOLE.adr 0 0, MARGSTAT.WHOLE.adr 0 0] ∧ u.rd AVSSTAT.PMFAIL = 0 ∧
        u.rd AVSCTL.EN = AVSCTL.EN.of w ∧ u.rd AVSCTL.VMAX = vmax ∧ u.rd AVSCTL.VMIN = hold 650 vmax (AVSCTL.VMIN.of w) ∧
        u.pw = { s.pw with tries := 0, sentAt := some t }))

/-! ### Security and debug (chapter 15) -/

/-- Life-cycle commands (R361 to R364, R377, R382). A command is refused while one runs, in a state it does not leave, without
CONFIRM or with an output enabled; GETKEY derives a pair from a fresh nonce; PROVISION and RETIRE read and check their record
or token; an accepted transition programs the fuses, wipes secure SRAM and resets the device when it completes. The model's
own choices it rests on: log entries 1, 107, 112. -/
def Obligations.LifeCycle : Prop :=
  ∀ (t : Nat) (s : State), s.now ≤ t →
    let st := s.rd LCSTAT.STATE
    let stat : List Nat := [LCSTAT.WHOLE.adr 0 0]
    let res : List Nat := [LCRES.WHOLE.adr 0 0]
    let nonce : List Nat := [DBGNONCE_LO.WHOLE.adr 0 0, DBGNONCE_HI.WHOLE.adr 0 0]
    (∀ src w err, src.ok = true → s.applies src (LCCMD.WHOLE.adr 0 0) = true →
      let refused (c : Instr) (e : Nat) : Prop := ∃ u, exec c s = .next u ∧ onlyRegs s { u with ecc := s.ecc } ∧ regsKept s u res ∧ u.rd LCRES.ERR = e
      let ce : List Nat := [SRAMCE.WHOLE.adr 0 0]
      let getkey : Instr := .lccmdGetkey t src w
      let provision : Instr := .lccmdProvision t src w err
      let lock : Instr := .lccmdLock t src w
      let retire : Instr := .lccmdRetire t src w err
      let ready : Prop := s.on LCSTAT.BUSY = false ∧ LCCMD.CONFIRM.of w = 0x4C43
      let off : Prop := s.rd BANKOESTAT.OE = 0
      let readable : Prop := err.ue = [] ∧ s.mem.poison = [] ∧ (∀ p, 68 ≤ p → p < 164 → s.isolated p = false)
      let a := s.rd LCARG.ADDR * 8
      let closes (u : State) : Prop := { u with ecc := s.ecc } =
        { s with now := u.now, regs := u.regs, secH := u.secH, freeCtr := u.freeCtr, rel := { s.rel with telCe := u.rel.telCe } }
      let fails (c : Instr) (e : Nat) : Prop := ∃ u, exec c s = .next u ∧ closes u ∧ u.secH = s.secH ∧ u.freeCtr = s.freeCtr ∧
        regsKept s u (ce ++ res) ∧ u.rd LCRES.ERR = e
      (∀ c, c ∈ [getkey, provision, lock, retire] → (s.on LCSTAT.BUSY = true → refused c 1) ∧
        (s.on LCSTAT.BUSY = false → LCCMD.CONFIRM.of w ≠ 0x4C43 → refused c 2)) ∧
      (s.on LCSTAT.BUSY = false → (st ≠ 0 → refused getkey 2 ∧ refused provision 2) ∧ (st ≠ 1 → refused lock 2) ∧ (3 ≤ st → refused retire 2)) ∧
      (ready → ¬ off → (st = 0 → refused getkey 3 ∧ refused provision 3) ∧ (st = 1 → refused lock 3) ∧ (st < 3 → refused retire 3)) ∧
      (ready → off →
        (st = 0 → ∃ u, exec getkey s = .next u ∧ closes u ∧ regsKept s u stat ∧ u.rd LCSTAT.BUSY = 1 ∧ u.secH = { s.secH with getkey := true }) ∧
        (st = 1 → s.secH.sess = none → ∃ u, exec lock s = .next u ∧ closes u ∧ regsKept s u stat ∧ u.rd LCSTAT.BUSY = 1 ∧
          u.secH = { s.secH with op := some ⟨3, 2, { s.secH.fuse with lc := 2, fielddbg := w.toNat.testBit 27 }⟩ }) ∧
        (st = 0 → readable → a + 0x800 ≤ 0x1800000 →
          let r := s.mem.sramBytes a 0x200
          let n := entryWord r 1 % 2 ^ 16
          let root := ofBytesBE ((r.drop 8).take 96)
          let cert := (s.mem.sramBytes (a + 0x200) n).map (·.toNat)
          let form : Prop := entryWord r 0 = 0x50524F56 ∧ 1 ≤ n ∧ n ≤ 1536 ∧ ∀ i, 0x1C8 ≤ i → i < 0x200 → r.getD i 0#8 = 0#8
          let key : Prop := (∃ p, s.secH.pair = some p ∧ Config.certKey cert = Config.pubKey p.1) ∧ Config.certOk root cert = true
          (¬ form → fails provision 4) ∧ (form → ¬ key → fails provision 5) ∧
          (form → key → Config.certSerial cert ≠ Config.devSer → fails provision 6) ∧
          (form → key → Config.certSerial cert = Config.devSer → s.secH.sess = none →
            ∃ u f, exec provision s = .next u ∧ closes u ∧ regsKept s u (ce ++ stat) ∧ u.rd LCSTAT.BUSY = 1 ∧
              u.secH = { s.secH with op := some ⟨2, 1, f⟩ } ∧ f.lc = 1 ∧ f.tethen = (entryWord r 1).testBit 31 ∧ f.mcap = Config.certMaster cert ∧
              f.trust = root ∧ f.dbgroot = ofBytesBE ((r.drop 0x68).take 96) ∧ f.slots = (r.drop 0xC8).take 256 ∧ f.cert = cert ∧
              (∀ p, s.secH.pair = some p → f.nonce = p.2))) ∧
        (st < 3 → readable → a + 160 ≤ 0x1800000 →
          let k := s.mem.sramBytes a 160
          let form : Prop := entryWord k 0 = 0x44424754 ∧ entryWord k 1 / 2 ^ 24 % 2 ^ 8 = 0x0F ∧ 1 ≤ entryWord k 1 % 2 ^ 16 ∧
            ∀ i, 0x18 ≤ i → i < 0x40 → k.getD i 0#8 = 0#8
          let root := if st = 0 then Config.spfKey else s.secH.fuse.dbgroot
          let sig : Prop := Config.ecdsaOk root (Config.sha384 ((k.take 0x40).map (·.toNat))) (ofBytesBE ((k.drop 0x40).take 48)) (ofBytesBE ((k.drop 0x70).take 48)) = true
          let genuine : Prop := entryWord k 4 + entryWord k 5 * 2 ^ 32 = s.rd64 DBGNONCE_LO.NONCE DBGNONCE_HI.NONCE ∧ sig
          let mine : Prop := entryWord k 2 + entryWord k 3 * 2 ^ 32 = Config.devSer
          let ends (l : List Nat) (u : State) : Prop := exec retire s = .next u ∧ closes u ∧ regsKept s u (l ++ ce ++ nonce) ∧
            u.rd64 DBGNONCE_LO.NONCE DBGNONCE_HI.NONCE = Config.freeValue s.freeCtr % 2 ^ 64 ∧ u.freeCtr = s.freeCtr + 1
          (¬ form → ∃ u, ends res u ∧ u.rd LCRES.ERR = 4 ∧ u.secH = s.secH) ∧ (form → ¬ genuine → ∃ u, ends res u ∧ u.rd LCRES.ERR = 5 ∧ u.secH = s.secH) ∧
          (form → genuine → ¬ mine → ∃ u, ends res u ∧ u.rd LCRES.ERR = 6 ∧ u.secH = s.secH) ∧
          (form → genuine → mine → s.secH.sess = none → ∃ u f, ends stat u ∧ u.rd LCSTAT.BUSY = 1 ∧ u.secH = { s.secH with op := some ⟨4, 3, f⟩ } ∧
            f.lc = 3 ∧ f.slots = List.replicate 256 0xFF#8)) ∧
        (st = 0 → 0x1800000 ≤ a → refused provision 7) ∧ (st < 3 → 0x1800000 ≤ a → refused retire 7))) ∧
    (s.secH.getkey = true →
      let n := Config.freeValue s.freeCtr % 2 ^ 384
      let k := Config.idKey Config.dseed n
      ∃ u, exec (.getkeyDone t) s = .next u ∧ u = { s with now := u.now, regs := u.regs, secH := u.secH, freeCtr := s.freeCtr + 1 } ∧
        regsKept s u (stat ++ res ++ (upFrom 0 24).map (PUBKEY.WORD.adr 0)) ∧ u.rd LCSTAT.BUSY = 0 ∧ u.rd LCRES.DONE = 1 ∧
        u.secH = { s.secH with getkey := false, pair := some (k, n) } ∧
        ∀ i, i < 24 → u.rd PUBKEY.WORD 0 i = entryWord (toBytes 96 (Config.pubKey k)).reverse i) ∧
    (∀ o, s.secH.op = some o → ∃ u, exec (.lcCommandDone t) s = .next u ∧ u.secH = { SecH.init with fuse := o.fuse, gndTamp := s.secH.gndTamp } ∧
      u.mem.sec = [] ∧ u.mem.sram = [] ∧ u.boot.stage = 1 ∧ u.spine = none ∧ u.eng = [] ∧ u.chan = [] ∧
      u.rd TAMPSTAT.COUNT = s.rd TAMPSTAT.COUNT ∧ ∀ x, x ≠ TAMPSTAT.WHOLE.adr 0 0 → u.reg x = regReset x) ∧
    (s.secH.op = none → exec (.lcCommandDone t) s = .next { s with now := t })

/-- The revocation list and secure gondolas (R366, R368): GO reads a list, or is refused while one is checked; a list that passes
replaces the previous one and is reported, any other is refused; the bits of SECGON are only set. Tamper and wipe (R366, R370,
R372 to R374, R380). A source that is enabled destroys the identity key, closes the session, starts a wipe, takes the outputs
away where OEOFF is set, and is counted and reported; in Grounded it wipes and is kept for the next boot; a completed wipe
leaves secure SRAM zero but for the key slots. The model's own choices it rests on: log entries 1, 5, 113. -/
def Obligations.SecureStorage : Prop :=
  (∀ (t : Nat) (s : State), s.now ≤ t →
    let reg : List Nat := [REVSTAT.WHOLE.adr 0 0]
    let secOnly (u : State) : Prop := u = { s with now := u.now, regs := u.regs, secH := u.secH } ∧ regsKept s u reg
    (∀ src w err, src.ok = true → s.applies src (REVCTL.WHOLE.adr 0 0) = true →
      (s.secH.revLoad ≠ none → ∃ u, exec (.revctlGo t src w err) s = .next u ∧ secOnly { u with ecc := s.ecc } ∧ u.secH = s.secH ∧ u.rd REVSTAT.ERR = 1) ∧
      (s.secH.revLoad = none → err.ue = [] → s.mem.poison = [] → (∀ p, 68 ≤ p → p < 164 → s.isolated p = false) →
        let a := REVCTL.ADDR.of w * 8
        let n := entryWord (s.mem.sramBytes a 8) 1 % 2 ^ 9
        a + 2152 ≤ 0x1800000 → n ≤ 256 →
        ∃ u, exec (.revctlGo t src w err) s = .next u ∧ u.rd REVSTAT.BUSY = 1 ∧
          u = { s with now := u.now, regs := u.regs, secH := u.secH, rel := { s.rel with telCe := u.rel.telCe }, ecc := .clean } ∧ regsKept s u (SRAMCE.WHOLE.adr 0 0 :: reg) ∧
          u.secH = { s.secH with revLoad := some (some (s.mem.sramBytes a (8 + 8 * n + 96))) })) ∧
    (∀ b, s.secH.revLoad = some b →
      let fails (e : Nat) : Prop := ∃ u, exec (.revlistCheckDone t) s = .next u ∧ secOnly u ∧ u.rd REVSTAT.BUSY = 0 ∧ u.rd REVSTAT.ERR = e ∧
        u.rd REVSTAT.COUNT = s.rd REVSTAT.COUNT ∧ u.secH = { s.secH with revLoad := none }
      (b = none → fails 5) ∧
      (∀ l, b = some l →
        let n := entryWord l 1 % 2 ^ 9
        let v := entryWord l 1 / 2 ^ 16 % 2 ^ 16
        let form : Prop := entryWord l 0 = 0x5245564C ∧ n ≤ 256
        let sig : Prop := Config.ecdsaOk s.secH.fuse.trust (Config.sha384 ((l.take (8 + 8 * n)).map (·.toNat)))
          (ofBytesBE ((l.drop (8 + 8 * n)).take 48)) (ofBytesBE ((l.drop (8 + 8 * n + 48)).take 48)) = true
        (¬ form → fails 2) ∧ (form → v ≤ s.secH.revVer → fails 3) ∧ (form → s.secH.revVer < v → ¬ sig → fails 4) ∧
        (form → s.secH.revVer < v → sig → ∃ u, exec (.revlistCheckDone t) s = .next u ∧
          u = { s with now := u.now, regs := u.regs, secH := u.secH, fab := u.fab, pw := u.pw, teth := u.teth, tp := u.tp } ∧ regsKeptEv s u reg ∧
          u.rd REVSTAT.BUSY = 0 ∧ u.rd REVSTAT.ERR = 0 ∧ u.rd REVSTAT.COUNT = n ∧
          u.secH = { s.secH with revLoad := none, revVer := v, rev := (upFrom 0 n).map (fun i => entryWord l (2 + 2 * i) + entryWord l (3 + 2 * i) * 2 ^ 32) } ∧
          raised s u t [⟨8069, s.fineAt 0 t / 64 * 64, v * 2 ^ 16 + n, false, false⟩]))) ∧
    (∀ src i w, i < 2 → src.ok = true → s.applies src (SECGON.WHOLE.adr 0 i) = true →
      ∃ u, exec (.secgonWrite t src i w) s = .next u ∧ onlyRegs s u ∧ regsKept s u [SECGON.WHOLE.adr 0 i] ∧
        u.reg (SECGON.WHOLE.adr 0 i) = (s.reg (SECGON.WHOLE.adr 0 i) ||| w))) ∧
  (∀ (t k : Nat) (s : State), k < 7 → s.now ≤ t →
    let d := s.fineAt 0 t / 64 * 64
    let en := (s.rd TAMPCTL.EN).testBit k
    (en = false → exec (.tamperDetect t k) s = .next { s with now := t }) ∧
    (en = true → s.pw.gnd = false →
      let oe := s.on TAMPCTL.OEOFF
      let lost : List Ev := if oe then ((upFrom 0 16).filter (fun b => (s.rd BANKOESTAT.OE).testBit b)).map (fun b => ⟨7714, d, b, false, false⟩) else []
      ∃ u, exec (.tamperDetect t k) s = .next u ∧
        u = { s with now := u.now, regs := u.regs, eng := u.eng, mcl := u.mcl, secH := u.secH, boot := u.boot, fab := u.fab, pw := u.pw, teth := u.teth, tp := u.tp } ∧
        regsKeptEv s u ([TAMPSTAT.WHOLE.adr 0 0, TAMPTS_LO.WHOLE.adr 0 0, TAMPTS_HI.WHOLE.adr 0 0, LCSTAT.WHOLE.adr 0 0, BANKOESTAT.WHOLE.adr 0 0,
          DBGSTAT.WHOLE.adr 0 0] ++ (upFrom 0 64).map (fun g => DBGECTL.WHOLE.adr g 0)) ∧
        u.rd TAMPSTAT.KEYGONE = 1 ∧ u.rd TAMPSTAT.WIPING = 1 ∧ (u.rd TAMPSTAT.SEEN).testBit k = true ∧
        u.rd TAMPSTAT.COUNT = (s.rd TAMPSTAT.COUNT + 1) % 2 ^ 16 ∧ u.rd LCSTAT.KEYOK = 0 ∧ u.rd LCSTAT.STATE = s.rd LCSTAT.STATE ∧
        u.rd64 TAMPTS_LO.VALUE TAMPTS_HI.VALUE = s.fineAt 0 t / 64 % 2 ^ 64 ∧ u.rd BANKOESTAT.OE = (if oe then 0 else s.rd BANKOESTAT.OE) ∧
        u.secH = { s.secH with priv := none, sess := none, wipe := some t } ∧ (s.mcl = none → u.mcl = none) ∧ (∀ m, u.mcl = some m → m.ok = false) ∧
        (∀ g, g < 64 → u.en g = (if s.secH.sess = none then s.en g else { s.en g with halted := false, haltReq := false, stepping := false })) ∧
        raised s u t ((if s.secH.priv = none then [] else [⟨8070, d, 2 ^ k, false, false⟩]) ++ (if s.secH.sess = none then [] else [⟨8067, d, 3, false, false⟩])
          ++ lost ++ [⟨8065, d, 2 ^ k, false, false⟩])) ∧
    (en = true → s.pw.gnd = true → ∃ u, exec (.tamperDetect t k) s = .next u ∧
      u = { s with now := u.now, regs := u.regs, mem := { s.mem with sec := [] }, secH := { s.secH with gndTamp := u.secH.gndTamp } } ∧
      regsKept s u [TAMPSTAT.WHOLE.adr 0 0, TAMPTS_LO.WHOLE.adr 0 0, TAMPTS_HI.WHOLE.adr 0 0] ∧ u.secH.gndTamp.testBit k = true ∧
      u.rd TAMPSTAT.GND = 1 ∧ u.rd TAMPSTAT.COUNT = (s.rd TAMPSTAT.COUNT + 1) % 2 ^ 16 ∧ u.rd64 TAMPTS_LO.VALUE TAMPTS_HI.VALUE = 0 ∧
      (∀ j, j < 7 → j ≠ k → u.secH.gndTamp.testBit j = s.secH.gndTamp.testBit j)) ∧
    (s.secH.wipe ≠ none → ∃ u, exec (.wipeDone t) s = .next u ∧
      u = { s with now := u.now, regs := u.regs, mem := { s.mem with sec := u.mem.sec }, secH := u.secH } ∧
      regsKept s u [TAMPSTAT.WHOLE.adr 0 0, REVSTAT.WHOLE.adr 0 0] ∧ u.rd TAMPSTAT.WIPING = 0 ∧ u.rd TAMPSTAT.KEYGONE = s.rd TAMPSTAT.KEYGONE ∧ u.rd REVSTAT.COUNT = 0 ∧
      u.secH = { s.secH with wipe := none, rev := [], revVer := 0, stage := [], stagePtr := 0 } ∧
      (s.on TAMPSTAT.KEYGONE = true ∨ s.rd LCSTAT.STATE = 3 → u.mem.sec = []) ∧
      (s.on TAMPSTAT.KEYGONE = false → s.rd LCSTAT.STATE ≠ 3 → s.secH.fuse.slots.length = 256 →
        u.mem.secBytes 0x3FF00 256 = s.secH.fuse.slots ∧ ∀ o, o < 0x3FF00 → u.mem.secBytes o 1 = [0#8])) ∧
    (s.secH.wipe = none → exec (.wipeDone t) s = .next { s with now := t }))

/-- Debug sessions (R375 to R377, R380). An open is refused while a session is open or checked, at a level the life cycle does not
allow and during a lock-out; it opens at once in Blank and Slate; else its token is checked: form, serial number, nonce,
signature, level and path in this order; a check that JTAG asks for while the device sleeps waits for the wake. Every check
loads a fresh nonce, and every eighth failure in a row locks out checks for 10 s. The model's own choices it rests on: log
entries 1, 108, 164. -/
def Obligations.DebugSessions : Prop :=
  ∀ (t : Nat) (s : State), s.now ≤ t →
    let d := s.fineAt 0 t / 64 * 64
    let st := s.rd LCSTAT.STATE
    let stat : List Nat := [DBGSTAT.WHOLE.adr 0 0]
    let nonce : List Nat := [DBGNONCE_LO.WHOLE.adr 0 0, DBGNONCE_HI.WHOLE.adr 0 0]
    let secEv (u : State) : Prop := { u with ecc := s.ecc } = { s with now := u.now, regs := u.regs, secH := u.secH, freeCtr := u.freeCtr, fab := u.fab, pw := u.pw, teth := u.teth, tp := u.tp }
    let closed (u : State) (cause : Nat) : Prop := u = { s with now := u.now, regs := u.regs, eng := u.eng, secH := { s.secH with sess := none }, fab := u.fab, pw := u.pw, teth := u.teth, tp := u.tp } ∧
      regsKeptEv s u (stat ++ (upFrom 0 64).map (fun g => DBGECTL.WHOLE.adr g 0)) ∧ u.rd DBGSTAT.LEVEL = 0 ∧
      (∀ g, g < 64 → u.rd DBGECTL.BPEN g = 0 ∧ u.en g = { s.en g with halted := false, haltReq := false, stepping := false }) ∧
      raised s u t [⟨8067, d, cause, false, false⟩]
    let levelOk (l : Nat) : Prop := 1 ≤ l ∧ l ≤ 3 ∧ (st = 2 → l = 1 ∨ (l = 2 ∧ s.on LCSTAT.FIELDDBG = true))
    let asks (c : Instr) (jtag : Bool) (l : Nat) (tok : Option (List Byte)) (ji : JInstr) : Prop :=
      let refused (r : Nat) : Prop := ∃ u, exec c s = .next u ∧ secEv u ∧ u.secH = { s.secH with jtag := ji } ∧ regsKeptEv s u stat ∧ u.rd DBGSTAT.LASTREF = r ∧
        u.rd DBGSTAT.LEVEL = s.rd DBGSTAT.LEVEL ∧ raised s u t [⟨8068, d, b2n jtag * 16 + r, false, false⟩]
      (s.secH.sess ≠ none ∨ s.secH.chk ≠ none → refused 1) ∧
      (s.secH.sess = none → s.secH.chk = none → ¬ levelOk l → refused 6) ∧
      (s.secH.sess = none → s.secH.chk = none → levelOk l → st = 0 ∨ st = 3 → ∃ u, exec c s = .next u ∧ secEv u ∧ regsKeptEv s u stat ∧
        u.secH = { s.secH with jtag := ji, sess := some ⟨l, jtag, t, none⟩ } ∧ u.rd DBGSTAT.LEVEL = l ∧ u.rd DBGSTAT.PATH = b2n jtag ∧
        raised s u t [⟨8066, d, b2n jtag * 16 + l, false, false⟩]) ∧
      (s.secH.sess = none → s.secH.chk = none → levelOk l → st = 1 ∨ st = 2 →
        (∀ a, s.secH.lockTo = some a → t < a → refused 8) ∧
        ((∀ a, s.secH.lockTo = some a → a ≤ t) → s.asleep = false → ∃ u, exec c s = .next u ∧
          { u with ecc := s.ecc } = { s with now := u.now, regs := u.regs, secH := u.secH, rel := { s.rel with telCe := u.rel.telCe } } ∧ regsKept s u (SRAMCE.WHOLE.adr 0 0 :: stat) ∧
          u.secH = { s.secH with jtag := ji, chk := some ⟨l, jtag, tok⟩ } ∧ u.rd DBGSTAT.CHECKING = 1))
    (∀ src w err, src.ok = true → s.pw.gnd = false → err.ue = [] → s.mem.poison = [] → (∀ p, 68 ≤ p → p < 164 → s.isolated p = false) → src ≠ .jtag →
      s.applies src (DBGCTL.WHOLE.adr 0 0) = true →
      let a := DBGCTL.TOKADDR.of w * 8
      (a + 160 ≤ 0x1800000 → asks (.dbgctlOpen t src w err) false (DBGCTL.LEVEL.of w) (some (s.mem.sramBytes a 160)) s.secH.jtag) ∧
      (0x1800000 ≤ a → asks (.dbgctlOpen t src w err) false (DBGCTL.LEVEL.of w) none s.secH.jtag) ∧
      (∀ x, s.secH.sess = some x → x.jtag = false → ∃ u, exec (.dbgctlClose t src w) s = .next u ∧ closed u 1) ∧
      (s.secH.sess = none ∨ (∃ x, s.secH.sess = some x ∧ x.jtag = true) → exec (.dbgctlClose t src w) s = .next { s with now := t })) ∧
    (∀ l, l < 4 → s.pw.gnd = false → asks (.jtagDbgopen t l) true l (some s.secH.tok) .dbgopen ∧
      (s.asleep = true → s.secH.sess = none → s.secH.chk = none → levelOk l → st = 1 ∨ st = 2 → (∀ a, s.secH.lockTo = some a → a ≤ t) →
        ∃ u, exec (.jtagDbgopen t l) s = .next u ∧ u = { s with now := u.now, regs := u.regs, secH := { s.secH with jtag := .dbgopen }, pw := u.pw } ∧
          regsKept s u [PWRSTAT.WHOLE.adr 0 0] ∧ u.rd PWRSTAT.STATE = 4 ∧ u.pw.held = s.pw.held ++ [(.dbgopen l, s.ecc)])) ∧
    (∀ c, s.secH.chk = some c →
      let checked (u : State) (fails : Nat) : Prop := secEv u ∧ regsKeptEv s u (stat ++ nonce) ∧ u.rd DBGSTAT.CHECKING = 0 ∧ u.rd DBGSTAT.FAILS = fails ∧
        u.rd64 DBGNONCE_LO.NONCE DBGNONCE_HI.NONCE = Config.freeValue s.freeCtr % 2 ^ 64 ∧ u.freeCtr = s.freeCtr + 1
      let fails (r : Nat) : Prop := ∃ u, exec (.tokenCheckDone t) s = .next u ∧
        let n := satTo 0xFF (s.rd DBGSTAT.FAILS + 1)
        checked u n ∧ u.rd DBGSTAT.LASTREF = r ∧ u.secH = { s.secH with chk := none, lockTo := if n % 8 = 0 ∨ n = 255 then some (t + ms 10000) else s.secH.lockTo } ∧
        raised s u t [⟨8068, d, b2n c.jtag * 16 + r, false, false⟩]
      (c.tok = none → fails 2) ∧
      (∀ k, c.tok = some k →
        let l := entryWord k 1 / 2 ^ 24 % 2 ^ 8
        let form : Prop := k.length = 160 ∧ entryWord k 0 = 0x44424754 ∧ 1 ≤ l ∧ l ≤ 3 ∧ 1 ≤ entryWord k 1 % 2 ^ 16 ∧ ∀ i, 0x18 ≤ i → i < 0x40 → k.getD i 0#8 = 0#8
        let mine : Prop := entryWord k 2 + entryWord k 3 * 2 ^ 32 = Config.devSer
        let new : Prop := entryWord k 4 + entryWord k 5 * 2 ^ 32 = s.rd64 DBGNONCE_LO.NONCE DBGNONCE_HI.NONCE
        let root := if st = 0 then Config.spfKey else s.secH.fuse.dbgroot
        let sig : Prop := Config.ecdsaOk root (Config.sha384 ((k.take 0x40).map (·.toNat))) (ofBytesBE ((k.drop 0x40).take 48)) (ofBytesBE ((k.drop 0x70).take 48)) = true
        let path : Prop := (entryWord k 1).testBit (if c.jtag then 17 else 16) = true
        (¬ form → fails 2) ∧ (form → ¬ mine → fails 3) ∧ (form → mine → ¬ new → fails 4) ∧ (form → mine → new → ¬ sig → fails 5) ∧
        (form → mine → new → sig → l < c.level → fails 6) ∧ (form → mine → new → sig → c.level ≤ l → ¬ path → fails 7) ∧
        (form → mine → new → sig → c.level ≤ l → path → c.level < 4 → ∃ u, exec (.tokenCheckDone t) s = .next u ∧ checked u 0 ∧ u.rd DBGSTAT.LEVEL = c.level ∧
          u.rd DBGSTAT.PATH = b2n c.jtag ∧ u.secH = { s.secH with chk := none, sess := some ⟨c.level, c.jtag, t, some (entryWord k 1 % 2 ^ 16)⟩ } ∧
          raised s u t [⟨8066, d, b2n c.jtag * 16 + c.level, false, false⟩]))) ∧
    (∀ x n, s.secH.sess = some x → x.dur = some n → x.at_ + ms (1000 * n) ≤ t → ∃ u, exec (.debugSessionExpiry t) s = .next u ∧ closed u 2) ∧
    ((s.secH.sess = none ∨ (∃ x, s.secH.sess = some x ∧ x.dur = none)) → exec (.debugSessionExpiry t) s = .next { s with now := t }) ∧
    (∀ a, s.secH.lockTo = some a →
      (a ≤ t → exec (.debugLockoutExpiry t) s = .next { s with now := t, secH := { s.secH with lockTo := none } }) ∧
      (t < a → exec (.debugLockoutExpiry t) s = .next { s with now := t }))

/-- Debugging an engine (R368, R375, R378, R379). A session of the path at level D2, D3 for a secure gondola, halts the engine at
the boundary it stands at, steps and resumes it, and writes its items while it is HALTED; D1 reads them; without such a
session a read gives 0 and a write is dropped; a breakpoint halts the engine before its instruction. The model's own choices
it rests on: log entries 1, 109, 110. -/
def Obligations.EngineDebug : Prop :=
  ∀ (t g : Nat) (src : Src) (s : State), g < 64 → src.ok = true → s.now ≤ t →
    let may (level : Nat) : Prop := ∃ x, s.secH.sess = some x ∧ src.isPf0 = true ∧ x.jtag = (src == Src.jtag) ∧ (if s.secure g then 3 else level) ≤ x.level
    let engOnly (u : State) (e : Eng) : Prop := u = { s with now := u.now, regs := u.regs, eng := u.eng } ∧ (∀ h, h ≠ g → u.en h = s.en h) ∧ u.en g = e
    let free : Prop := ∀ k, s.tko = some k → k.log ≠ g
    let e := s.en g
    (∀ w, s.applies src (DBGECTL.WHOLE.adr g 0) = true → may 2 →
      let bp (u : State) : Prop := regsKept s u [DBGECTL.WHOLE.adr g 0] ∧ u.rd DBGECTL.BPEN g = w.toNat / 2 ^ 28 % 2
      ((s.sch g).cur ≠ none → s.on BALSTAT.INBAL g = false → e.halted = false → e.prec = none → e.due = none → e.br = none → e.hold = none →
        e.stepping = false → e.modeP = [] → free →
        ∃ u, exec (.dbgectlHalt t src g w) s = .next u ∧ bp u ∧ engOnly u { e with haltReq := false, halted := true }) ∧
      ((s.sch g).cur = none → s.on BALSTAT.INBAL g = false → e.halted = false → free →
        ∃ u, exec (.dbgectlHalt t src g w) s = .next u ∧ bp u ∧ engOnly u { e with haltReq := true }) ∧
      (s.on BALSTAT.INBAL g = true → ∃ u, exec (.dbgectlHalt t src g w) s = .next u ∧ bp u ∧ engOnly u e) ∧
      (e.halted = true → (∃ u, exec (.dbgectlStep t src g w) s = .next u ∧ bp u ∧ engOnly u { e with halted := false, stepping := true, bpPass := true }) ∧
        (∃ u, exec (.dbgectlResume t src g w) s = .next u ∧ bp u ∧ engOnly u { e with halted := false, haltReq := false, stepping := false, bpPass := true })) ∧
      (e.halted = false → ∃ u, exec (.dbgectlStep t src g w) s = .next u ∧ bp u ∧ engOnly u e)) ∧
    (∀ w, s.applies src (DBGECTL.WHOLE.adr g 0) = true → ¬ may 2 → ∀ c, c ∈ [Instr.dbgectlHalt t src g w, .dbgectlResume t src g w, .dbgectlStep t src g w] →
      ∃ u, exec c s = .next u ∧ u.eng = s.eng ∧ u.secH = s.secH ∧ u.mem = s.mem ∧
        ∀ a, evReg a = false → (∀ f, src.func = some f → a ≠ FNSTAT.WHOLE.adr f 0) → u.reg a = s.reg a) ∧
    ((s.sch g).cur ≠ none → s.on ENGCTL.RUN g = true → s.on BALSTAT.INBAL g = false → s.on DBGECTL.BPEN g = true → s.rd DBGBP.ADDR g = e.pc →
      e.bpPass = false → e.halted = false → e.br = none → e.bal = [] → e.fault = none → e.prec = none → e.due = none → e.hold = none → free →
      ∃ u, exec (.breakpointHit t g) s = .next u ∧ engOnly u { e with halted := true, haltReq := false, stepping := false } ∧ u.regs = s.regs) ∧
    (s.on DBGECTL.BPEN g = false → exec (.breakpointHit t g) s = .next { s with now := t }) ∧
    (s.readable src (DBGDATA.WHOLE.adr g 0) = true →
      let i := s.rd DBGSEL.INDEX g
      let gives (v : Nat) : Prop := exec (.dbgdataRead t src g) s = .next { s with now := t, resp := ⟨.ok, (toBytes 4 v).map (·.toNat)⟩ }
      (¬ may 1 → gives 0) ∧
      (may 1 → (i < 16 → gives (e.r i).toNat) ∧ (i = 16 → gives e.flags) ∧ (i = 17 → gives e.mode) ∧ (i = 18 → gives e.pc) ∧
        (i = 23 → gives e.l0.lc) ∧ (i = 28 → gives e.l1.le) ∧ (160 ≤ i → gives 0))) ∧
    (∀ w, s.applies src (DBGDATA.WHOLE.adr g 0) = true → may 2 → s.on BALSTAT.INBAL g = false → (s.sch g).cur ≠ none → e.halted = true →
      let i := s.rd DBGSEL.INDEX g
      let sets (e' : Eng) : Prop := ∃ u, exec (.dbgdataWrite t src g w) s = .next u ∧ engOnly u e' ∧ u.regs = s.regs
      (i < 16 → sets (e.setR i w)) ∧ (i = 16 → sets { e with flags := w.toNat % 16 }) ∧ (i = 18 → sets { e with pc := w.toNat }) ∧ (32 ≤ i → sets e)) ∧
    (∀ w, s.applies src (DBGDATA.WHOLE.adr g 0) = true → s.on BALSTAT.INBAL g = false → e.halted = false → s.on ENGCTL.RUN g = true →
      ∃ u, exec (.dbgdataWrite t src g w) s = .next u ∧ u.eng = s.eng ∧ u.mem = s.mem)

/-- The JTAG port (R381 to R383, R392). Each instruction enters the TAP and shifts out what it stands for; in Grounded every one
but IDCODE, BYPASS and LCREAD acts as BYPASS, as does EXTEST outside Blank and Slate; words enter the staging buffer up to
2,048 bytes; LCCMD starts a command with the staged bytes; DBGACC has no effect without a JTAG session. The model's own
choices it rests on: log entries 1, 8, 111, 117. -/
def Obligations.JtagPort : Prop :=
  ∀ (t : Nat) (s : State), s.now ≤ t →
    let g := s.pw.gnd
    let loads (c : Instr) (i : JInstr) (n v : Nat) : Prop :=
      exec c s = .next { s with now := t, secH := { s.secH with jtag := i }, resp := ⟨.ok, (toBytes n v).map (·.toNat)⟩ }
    let bypassed (c : Instr) : Prop := exec c s = .next { s with now := t, secH := { s.secH with jtag := .bypass }, resp := ⟨.ok, [0]⟩ }
    let quiet (c : Instr) (h : SecH) : Prop := exec c s = .next { s with now := t, secH := h }
    loads (.jtagIdcode t) .idcode 4 Config.idcode ∧ bypassed (.jtagBypass t) ∧
    (∃ v, loads (.jtagLcread t) .lcread 16 v ∧ v / 2 ^ 64 = Config.devSer % 2 ^ 64 ∧ v / 2 ^ 32 % 2 ^ 32 = (s.reg (LCSTAT.WHOLE.adr 0 0)).toNat ∧
      v / 2 ^ 8 % 2 ^ 8 = s.secH.bootFail % 2 ^ 8) ∧
    (g = false → (∃ v, loads (.jtagLcpub t) .lcpub 96 v ∧ ∀ i, i < 24 → v / 2 ^ (32 * i) % 2 ^ 32 = s.rd PUBKEY.WORD 0 i) ∧
      loads (.jtagDbgnonce t) .dbgnonce 8 (s.rd64 DBGNONCE_LO.NONCE DBGNONCE_HI.NONCE)) ∧
    (g = true → bypassed (.jtagLcpub t) ∧ bypassed (.jtagDbgnonce t) ∧ bypassed (.jtagSamplePreload t [])) ∧
    (∀ l, l.length ≤ 1024 → g = false → ∃ u, exec (.jtagSamplePreload t l) s = .next u ∧ u = { s with now := u.now, secH := { s.secH with jtag := .samplePreload, scan := l }, resp := u.resp } ∧
      u.resp.status = .ok ∧ ∀ n, n < 1024 → u.resp.data[n]? = some (b2n (s.ch n).cap.pin)) ∧
    quiet (.jtagExtest t) { s.secH with jtag := if g = false ∧ (s.rd LCSTAT.STATE = 0 ∨ s.rd LCSTAT.STATE = 3) then .extest else .bypass } ∧
    quiet (.jtagLcstage t) (if g then { s.secH with jtag := .bypass } else { s.secH with jtag := .lcstage, stagePtr := 0 }) ∧
    (∀ w : Word,
      let p := s.secH.stagePtr
      (s.secH.jtag = .lcstage → g = false → p < 512 → 4 * p ≤ s.secH.stage.length → ∃ u, exec (.lcstageWordUpdate t w) s = .next u ∧
        u = { s with now := u.now, secH := { s.secH with stage := u.secH.stage, stagePtr := p + 1 } } ∧ u.secH.stage.take (4 * p) = s.secH.stage.take (4 * p) ∧
        entryWord u.secH.stage p = w.toNat ∧ u.secH.stage.drop (4 * p + 4) = s.secH.stage.drop (4 * p + 4)) ∧
      (s.secH.jtag ≠ .lcstage ∨ 512 ≤ p → exec (.lcstageWordUpdate t w) s = .next { s with now := t }) ∧
      (g = false → s.on LCSTAT.BUSY = false → w.toNat % 2 ^ 16 = 0x4C43 → s.rd BANKOESTAT.OE = 0 →
        (w.toNat / 2 ^ 28 = 2 → s.rd LCSTAT.STATE = 0 → s.secH.stage.length < 0x200 → ∃ u, exec (.jtagLccmd t w) s = .next u ∧
          u = { s with now := u.now, regs := u.regs, secH := { s.secH with jtag := .lccmd } } ∧ regsKept s u [LCRES.WHOLE.adr 0 0] ∧ u.rd LCRES.ERR = 7) ∧
        (w.toNat / 2 ^ 28 = 3 → s.rd LCSTAT.STATE = 1 → s.secH.sess = none → ∃ u, exec (.jtagLccmd t w) s = .next u ∧
          u = { s with now := u.now, regs := u.regs, secH := u.secH } ∧ regsKept s u [LCSTAT.WHOLE.adr 0 0] ∧ u.rd LCSTAT.BUSY = 1 ∧
          u.secH = { s.secH with jtag := .lccmd, op := some ⟨3, 2, { s.secH.fuse with lc := 2, fielddbg := w.toNat.testBit 27 }⟩ })) ∧
      (g = true → quiet (.jtagLccmd t w) { s.secH with jtag := .bypass })) ∧
    (∀ l : List Byte, l.length ≤ 160 → quiet (.jtagToken t l) (if g then { s.secH with jtag := .bypass } else { s.secH with jtag := .token, tok := l })) ∧
    (g = true → ∀ l, l < 4 → quiet (.jtagDbgopen t l) { s.secH with jtag := .bypass }) ∧
    (∀ off w, off < 0x4000000 → (g = true ∨ s.secH.sess = none) → quiet (.jtagDbgacc t off w) { s.secH with jtag := if g then .bypass else .dbgacc }) ∧
    (∀ i x, i < 32 → g = false → s.asleep = false → s.secH.sess = some x → x.jtag = true → 1 ≤ x.level →
      let a := GSTARTMASK.SEL.adr 0 i
      exec (.jtagDbgacc t a none) s = .next { s with now := t, secH := { s.secH with jtag := .dbgacc }, resp := ⟨.ok, (toBytes 4 (s.reg a).toNat).map (·.toNat)⟩ } ∧
      ∀ w : Word, 2 ≤ x.level → ∃ u, exec (.jtagDbgacc t a (some w)) s = .next u ∧
        u = { s with now := u.now, regs := u.regs, secH := { s.secH with jtag := .dbgacc } } ∧ regsKept s u [a] ∧ u.reg a = w)

/-! ### Start-up and pins (chapter 16) -/

/-- Boot (R42, R45, R66, R137, R335, R340, R342, R356, R360, R363, R370, R391, R392). The stages follow power-on: fuses and secure
SRAM, the spine, the gondolas' self-test with the spares' assignment and the identity key, calibration, which issues the
events raised before with timestamps of its end, and completion with the first voltage request and the first coherence sweep;
a stage that fails repeats the boot once, and then the device stays in reset. The model's own choices it rests on: log entries
1, 7, 100, 118, 130, 141. -/
def Obligations.BootStages : Prop :=
  ∀ (t : Nat) (s : State), s.now ≤ t →
    let d := s.fineAt 0 t / 64 * 64
    let b := s.boot
    let f := s.secH.fuse
    (b.stage = 0 → s.pw.gnd = false → exec (.powerOnReset t) s = .next { s with now := t, boot := { b with stage := 1, at_ := t } }) ∧
    (b.stage ≠ 0 → exec (.powerOnReset t) s = .next { s with now := t }) ∧
    (b.stage = 1 → f.lc < 16 → f.slots.length ≤ 256 → ∀ keep : Bool,
      let regs : List Nat := [DEVID.WHOLE.adr 0 0, LCSTAT.WHOLE.adr 0 0, TCAP.WHOLE.adr 0 0, TCTL.WHOLE.adr 0 0, MCMIN.WHOLE.adr 0 0,
        DEVSER_LO.WHOLE.adr 0 0, DEVSER_HI.WHOLE.adr 0 0, DBGNONCE_LO.WHOLE.adr 0 0, DBGNONCE_HI.WHOLE.adr 0 0] ++
        (upFrom 0 4).map (fun p => TPCTL.WHOLE.adr p 0) ++ (upFrom 0 68).map (PHEALTH.WHOLE.adr 0) ++ (upFrom 0 96).map (BANKREP.WHOLE.adr 0)
      let fused (u : State) : Prop := u = { s with now := u.now, regs := u.regs, mem := { s.mem with sec := u.mem.sec }, secH := u.secH, boot := u.boot, freeCtr := s.freeCtr + 1 } ∧
        regsKept s u regs ∧ u.boot.stage = 2 ∧ u.secH = { s.secH with fuse := u.secH.fuse } ∧ u.rd LCSTAT.STATE = u.secH.fuse.lc ∧
        u.rd TCTL.EN = (if f.tethen ∧ u.secH.fuse.lc ≠ 3 then 1 else 0) ∧
        u.rd64 DBGNONCE_LO.NONCE DBGNONCE_HI.NONCE = Config.freeValue s.freeCtr % 2 ^ 64 ∧ u.rd64 DEVSER_LO.SER DEVSER_HI.SER = Config.devSer % 2 ^ 64
      (f.half = none → ∃ u, exec (.bootFuseDone t keep) s = .next u ∧ fused u ∧ u.secH = s.secH ∧ u.boot = { b with stage := 2 } ∧ u.rd LCSTAT.INCOMP = s.rd LCSTAT.INCOMP ∧
        (f.slots.length = 256 → u.mem.secBytes 0x3FF00 256 = f.slots) ∧ (∀ o, 0x40000 ≤ o → o < 0x5E000 → u.mem.secBytes o 1 = [0#8]) ∧
        ∀ o, o < 0x3FF00 ∨ 0x5E000 ≤ o → u.mem.secBytes o 1 = (if keep then s.mem.secBytes o 1 else [0#8])) ∧
      (∀ dst, f.half = some dst → ∃ u, exec (.bootFuseDone t keep) s = .next u ∧ fused u ∧ u.rd LCSTAT.INCOMP = 1 ∧
        u.boot = { b with stage := 2, evs := b.evs ++ [(8064, 256 + f.lc * 16 + (if f.keyCut then dst else f.lc))] } ∧
        u.secH.fuse = (if f.keyCut then { f with half := none, keyCut := false, lc := 3, slots := List.replicate 256 0xFF#8 } else { f with half := none, keyCut := false }) ∧
        ∀ o, o < 0x3FF00 ∨ 0x40000 ≤ o → u.mem.secBytes o 1 = [0#8])) ∧
    (b.stage = 2 → (s.tbH 0).segs = [] → ∃ u, exec (.bootClockDone t) s = .next u ∧ u = { s with now := u.now, spine := some t, tb := u.tb, boot := { b with stage := 3 } } ∧
      u.fineAt 0 t = 0 ∧ u.fineAt 17 t = 0 ∧ u.fineAt 0 (t + 64000) = 64000 ∧ ∀ k, 0 < k → u.tbH k = s.tbH k) ∧
    (b.stage = 3 → ∀ bad, bad < 2 ^ 68 →
      let k := Config.idKey Config.dseed f.nonce
      let p0 (g : Nat) : Prop := bad.testBit g = true
      let owned : Prop := f.lc = 1 ∨ f.lc = 2
      ∃ u, exec (.bootTestDone t bad) s = .next u ∧ u = { s with now := u.now, regs := u.regs, secH := u.secH, boot := u.boot, freeCtr := u.freeCtr } ∧
        u.boot.stage = 4 ∧ u.secH = (if owned then { s.secH with priv := some k } else s.secH) ∧ (owned → u.rd LCSTAT.KEYOK = 1 ∧
          ∀ i, i < 24 → u.rd PUBKEY.WORD 0 i = entryWord (toBytes 96 (Config.pubKey k)).reverse i) ∧
        (∀ p, p < 68 → p0 p → u.rd PHEALTH.STATE 0 p = 5 ∧ u.rd PHEALTH.LASTSUSP 0 p = 5) ∧
        (∀ g, g < 64 → ¬ p0 g → u.reg (PHEALTH.WHOLE.adr 0 g) = s.reg (PHEALTH.WHOLE.adr 0 g) ∧ u.reg (LMAP.WHOLE.adr 0 g) = s.reg (LMAP.WHOLE.adr 0 g)) ∧
        (bad = 0 → u.boot.evs = b.evs ∧ u.rd BOOTSTAT.SPAREUSE = s.rd BOOTSTAT.SPAREUSE) ∧
        (∀ g, g < 64 → bad = 2 ^ g →
          u.boot.evs = b.evs ++ [(7814, 5 * 2 ^ 22 + satTo 15 (s.rd PHEALTH.SUSPCNT 0 g + 1) * 2 ^ 16 + g), (7815, (1 + Config.freeValue s.freeCtr % 5) * 2 ^ 28 + g)] ∧
          (s.rd PHEALTH.STATE 0 64 = 1 → u.rd LMAP.PHYS 0 g = 64 ∧ u.rd PHEALTH.STATE 0 64 = 0 ∧ u.rd BOOTSTAT.SPAREUSE = (s.rd BOOTSTAT.SPAREUSE + 1) % 16) ∧
          ((∀ q, 64 ≤ q → q < 68 → s.rd PHEALTH.STATE 0 q ≠ 1) → u.rd LMAP.PHYS 0 g = 0x7F ∧ u.rd BOOTSTAT.DEGR = 1))) ∧
    (b.stage = 4 → (∀ k, k < 128 → s.rd EMUCTL.SRC k = 0 ∧ (s.tailU k).emuWant = 0) →
      ∃ v, v = { s with now := t, regs := v.regs, calT0 := t, boot := { b with stage := 5 }, fab := { s.fab with deferred := [] } } ∧
        regsKept s v [SPINESTAT.WHOLE.adr 0 0] ∧ v.rd SPINESTAT.CALDONE = 1 ∧
        exec (.bootCalDone t) s = .next (s.fab.deferred.foldl (fun x e => x.raiseEv { e with ts := if e.id < 7040 then x.tsPin else x.tsInt }) v)) ∧
    (b.stage = 5 → ∃ u, exec (.bootReady t) s = .next u ∧
      u = { s with now := u.now, regs := u.regs, boot := { b with stage := 6, evs := [] }, secH := { s.secH with gndTamp := 0 }, fab := u.fab, pw := u.pw, teth := u.teth, tp := u.tp } ∧
      regsKeptEv s u [AVSSTAT.WHOLE.adr 0 0, BOOTSTAT.WHOLE.adr 0 0] ∧ u.rd AVSSTAT.REQ = 800 ∧ u.rd AVSSTAT.LOOP = 800 ∧ u.rd AVSSTAT.SETTLING = 1 ∧
      u.pw.sentAt = some t ∧ u.rd BOOTSTAT.DONE = 1 ∧ u.rd BOOTSTAT.RETRIED = b2n b.again ∧ u.rd BOOTSTAT.TIME = satTo 0xFFFF ((t - b.at_) / us 10) ∧
      u.rd BOOTSTAT.DEGR = s.rd BOOTSTAT.DEGR ∧ u.rd BOOTSTAT.SPAREUSE = s.rd BOOTSTAT.SPAREUSE ∧
      raised { s with fab := { s.fab with cohFrom := t } } u t (b.evs.map (fun e => ⟨e.1, d, e.2, false, false⟩) ++ (if s.secH.gndTamp = 0 then [] else [⟨8065, d, 2 ^ 7 + s.secH.gndTamp, false, false⟩]))) ∧
    (∀ c, (c = Instr.bootCalDone t ∧ b.stage ≠ 4) ∨ (c = Instr.bootReady t ∧ b.stage ≠ 5) ∨ (c = Instr.bootClockDone t ∧ b.stage ≠ 2) → exec c s = .next { s with now := t }) ∧
    (∀ k, k = 1 ∨ k = 2 → b.stage = k →
      (b.again = false → ∃ u, exec (.bootStageFail t k) s = .next u ∧ u.boot = { BootH.init with stage := 1, again := true, at_ := t } ∧ u.spine = none ∧ u.mem.sec = s.secKept ∧
        u.secH.fuse = s.secH.cut (Config.freeValue s.freeCtr) ∧ ∀ x, x ≠ TAMPSTAT.WHOLE.adr 0 0 → u.reg x = regReset x) ∧
      (b.again = true → exec (.bootStageFail t k) s = .next { s with now := t, boot := { b with stage := 7 }, secH := { s.secH with bootFail := k * 16 + 1 } }))

/-- PERST#, GWAKE and THERMTRIP# (R272, R351, R390, R401). PERST# resets the host interface of a running device and, deasserted,
leaves Grounded; GWAKE leaves Grounded; both leave it with a device reset. Output enables (R395). A write releases or revokes
banks 40 ns after it arrives; a release of a bank whose supply is at fault or was never in a nominal band is refused and
noted; each bank that changes is reported with its effective instant. The model's own choices it rests on: log entries 1, 119,
121, 122. -/
def Obligations.ResetPins : Prop :=
  (∀ (t : Nat) (s : State), s.now ≤ t →
    let gnd := s.pw.gnd
    let reset (c : Instr) (perst : Bool) : Prop := ∃ u, exec c s = .next u ∧ u.boot = { BootH.init with stage := 1, at_ := t } ∧ u.host.perst = perst ∧
      u.spine = none ∧ u.chan = [] ∧ u.eng = [] ∧ u.mem.sram = [] ∧ u.mem.lm = [] ∧ u.mem.sec = s.secKept ∧ u.secH.fuse = s.secH.cut (Config.freeValue s.freeCtr) ∧
      ∀ x, x ≠ TAMPSTAT.WHOLE.adr 0 0 → u.reg x = regReset x
    (s.host.perst = false → s.boot.stage = 6 → gnd = false → ∃ u, exec (.perst t true) s = .next u ∧ u.host.perst = true ∧ (s.host.up = true → u.host.up = false) ∧
      u.host.q = [] ∧ u.host.mv = [] ∧ u.host.vfEn = false ∧ u.eng = s.eng ∧ u.chan = s.chan ∧ u.tb = s.tb ∧ u.sched = s.sched ∧ u.mem.lm = s.mem.lm ∧
      ∀ x, hostReg x = true → u.reg x = regReset x) ∧
    (s.host.perst = true ∨ s.boot.stage ≠ 6 ∨ gnd = true → exec (.perst t true) s = .next { s with now := t, host := { s.host with perst := true } }) ∧
    (s.host.perst = true → gnd = true → reset (.perst t false) false) ∧
    (s.host.perst = false ∨ gnd = false → exec (.perst t false) s = .next { s with now := t, host := { s.host with perst := false } }) ∧
    (gnd = true → reset (.gwakeRise t) s.host.perst) ∧ (gnd = false → exec (.gwakeRise t) s = .next { s with now := t }) ∧
    exec (.thermtripAssert t) s = .next { s with now := t, pw := { s.pw with therm := true } } ∧
    exec (.thermtripRelease t) s = .next { s with now := t, pw := { s.pw with therm := false } }) ∧
  (∀ (t : Nat) (s : State), s.now ≤ t →
    let no (n : Nat) : Prop := s.on SUPMON.FAULT 0 (4 + n) = true ∨ s.pw.seen.testBit n = false
    (∀ src w, src.ok = true →
      (s.applies src (BANKOESET.WHOLE.adr 0 0) = true →
        ∃ u, exec (.bankoeset t src w) s = .next u ∧ u = { s with now := u.now, regs := u.regs, boot := u.boot } ∧ regsKept s u [BANKOESTAT.WHOLE.adr 0 0] ∧
          u.rd BANKOESTAT.OE = s.rd BANKOESTAT.OE ∧
          (∀ n, n < 16 → ((u.rd BANKOESTAT.REF).testBit n = true ↔ (s.rd BANKOESTAT.REF).testBit n = true ∨ (w.toNat.testBit n = true ∧ no n))) ∧
          ((∀ n, n < 16 → w.toNat.testBit n = true → no n) → u.boot = s.boot) ∧
          (∀ n, n < 16 → w.toNat.testBit n = true → ¬ no n → ∃ m, u.boot = { s.boot with oe := s.boot.oe ++ [(t + ns 40, true, m)] } ∧
            ∀ j, m.testBit j = true ↔ j < 16 ∧ w.toNat.testBit j = true ∧ ¬ no j)) ∧
      (s.applies src (BANKOECLR.WHOLE.adr 0 0) = true →
        let m := w.toNat % 2 ^ 16
        exec (.bankoeclr t src w) s = .next { s with now := t, boot := if m = 0 then s.boot else { s.boot with oe := s.boot.oe ++ [(t + ns 40, false, m)] } })) ∧
    (∀ a v m r, s.boot.oe = (a, v, m) :: r →
      (a ≤ t → ∃ u, exec (.bankOeEffect t) s = .next u ∧ u = { s with now := u.now, regs := u.regs, boot := { s.boot with oe := r }, fab := u.fab, pw := u.pw, teth := u.teth, tp := u.tp } ∧
        regsKeptEv s u [BANKOESTAT.WHOLE.adr 0 0] ∧ u.rd BANKOESTAT.REF = s.rd BANKOESTAT.REF ∧
        (∀ n, n < 16 → (u.rd BANKOESTAT.OE).testBit n = (if m.testBit n then v else (s.rd BANKOESTAT.OE).testBit n)) ∧
        raised s u t (((upFrom 0 16).filter (fun n => m.testBit n && (s.rd BANKOESTAT.OE).testBit n != v)).map
          (fun n => ⟨7714, s.fineAt 0 a / 64 * 64, b2n v * 2 ^ 8 + n, false, false⟩))) ∧
      (t < a → exec (.bankOeEffect t) s = .next { s with now := t })) ∧
    (s.boot.oe = [] → exec (.bankOeEffect t) s = .next { s with now := t }))

/-! ### What each command does, whatever its operands -/

/-- Registers, shared SRAM and the mesh (R10, R11, R19 to R23, R34 to R39). Timebases, global start, edges and delay lines (R44 to
R66). Exceptions, posted stores, microcode, tasks and events (R94 to R156). Channels, captures, pins and pairs (R157 to R203).
The analogue front end (R204 to R223). Tails (R224 to R250). Spools (R251 to R268). Movers, queues and the host (R269 to
R300). The tether (R301 to R330). Background service, power and start-up (R331 to R361, R382 to R398). Security and debug
(R362 to R381). Each clause names a command and the operation that is its effect: where its operands name units the device has
and, for a register write, where its source may write the register and the write arrives (R10, R20, R274 to R276), exec
answers the next state that this operation makes. What the operations do is the subject of the statements above, as are the
engine instructions. The model's own choices it rests on: log entries 1, 3, 124, 125, 132. -/
def Obligations.CommandEffects : Prop :=
  ((∀ (t : Nat) (src : Src) (off len : Nat) (s : State), src.ok = true → off < 0x4000000 →
    does (.readClearAccess t src off len) t s (·.readLen src off len)) ∧
  (∀ (t : Nat) (src : Src) (k : Nat) (s : State), src.ok = true → k < 18 →
    does (.nsLoRead t src k) t s (·.read src (NS_LO.VALUE.adr k 0))) ∧
  (∀ (t : Nat) (src : Src) (i : Nat) (s : State), src.ok = true → i < 32 →
    does (.spangleRead t src i) t s (·.read src (SPANGLE.ANGLE.adr i 0))) ∧
  (∀ (t : Nat) (src : Src) (off len : Nat) (val : Word) (s : State), src.ok = true → off < 0x4000000 →
    does (.registerWrite t src off len val) t s (·.writeLen src off len val)) ∧
  (∀ (t : Nat) (s : State), does (.wakeDone t) t s (·.wakeAll)) ∧
  (∀ (t : Nat) (reqs : List Req) (s : State), reqs.length ≤ 8 → reqs.all Req.ok = true → roundOk reqs = true →
    does (.grantRoundOpen t reqs) t s (·.grant reqs)) ∧
  (∀ (t k : Nat) (s : State), k < 256 → does (.comparatorOutputChange t k) t s (·.kChange k)) ∧
  (∀ (t off : Nat) (wr : Option Word) (s : State), off < 0x4000000 → does (.jtagDbgacc t off wr) t s (·.dbgacc off wr)) ∧
  (∀ (t : Nat) (src : Src) (i : Nat) (val : Word) (s : State), src.ok = true → i < 7 →
    s.applies src (Reg.MESHISO.ISO.adr 0 i) = true → does (.meshisoReadmit t src i val) t s (·.readmit i val)) ∧
  (∀ (t port : Nat) (ok : Bool) (s : State), port ≤ 212 →
    does (.readmitSelftestDone t port ok) t s (·.readmitDone port ok)) ∧
  (∀ (t : Nat) (src : Src) (addr len : Nat) (err : Ecc) (s : State), src.ok = true →
    does (.sramRead t src addr len err) t s (·.sramRead src addr len err)) ∧
  (∀ (t : Nat) (src : Src) (addr : Nat) (data : List Byte) (err : Ecc) (s : State), src.ok = true →
    does (.sramWrite t src addr data err) t s (·.sramWrite src addr data err)) ∧
  (∀ (t : Nat) (src : Src) (addr len val : Nat) (err : Ecc) (s : State), src.ok = true →
    does (.sramAtomicSwap t src addr len val err) t s (·.sramAtomic src .swap addr len 0 val err) ∧
    does (.sramAtomicAdd t src addr len val err) t s (·.sramAtomic src .add addr len 0 val err) ∧
    does (.sramAtomicAnd t src addr len val err) t s (·.sramAtomic src .and addr len 0 val err) ∧
    does (.sramAtomicOr t src addr len val err) t s (·.sramAtomic src .or addr len 0 val err)) ∧
  (∀ (t : Nat) (src : Src) (addr len cmp val : Nat) (err : Ecc) (s : State), src.ok = true →
    does (.sramAtomicCas t src addr len cmp val err) t s (·.sramAtomic src .cas addr len cmp val err)) ∧
  (∀ (t port : Nat) (s : State), port ≤ 212 → does (.handshakeWatchdogExpiry t port) t s (·.watchdogExpiry port))) ∧
  ((∀ (t : Nat) (bad : List Mismatch) (s : State), does (.spineBeacon t bad) t s (·.beacon bad)) ∧
  (∀ (t : Nat) (src : Src) (k : Nat) (val : Word) (s : State), src.ok = true → k < 18 →
    s.applies src (TBCTL.WHOLE.adr k 0) = true → does (.tbLoadgo t src k val) t s (·.tbctlWrite k (val ||| 0x80000000)) ∧
    does (.tbSlewabort t src k val) t s (·.tbctlWrite k (val ||| 0x20000000))) ∧
  (∀ (t : Nat) (src : Src) (k : Nat) (val : Word) (s : State), src.ok = true → k < 18 →
    s.applies src (SLEWOFF.WHOLE.adr k 0) = true → does (.tbSlewoffWrite t src k val) t s (·.slewoffWrite k val)) ∧
  (∀ (t : Nat) (src : Src) (val : Word) (s : State), src.ok = true → s.applies src (DISCCTL.WHOLE.adr 0 0) = true →
    does (.discctlSrcWrite t src val) t s (·.discctlWrite val)) ∧
  (∀ (t : Nat) (s : State), does (.ppsPulse t) t s (·.ppsPulse) ∧ does (.ppsTimeout t) t s (·.ppsTimeout) ∧
    does (.refinLockAchieved t) t s (·.refLock) ∧ does (.refinLoss t) t s (·.refLoss) ∧
    does (.ppsoutPulse t) t s (·.ppsOut) ∧ does (.gstartRelease t) t s (·.gstartRelease)) ∧
  (∀ (t : Nat) (ppb : Int) (s : State), does (.refinQualified t ppb) t s (·.refQualified ppb)) ∧
  (∀ (t : Nat) (src : Src) (val : Word) (s : State), src.ok = true → s.applies src 0x280 = true →
    does (.gstartGo t src val) t s (·.gstartWrite src (val ||| 1))) ∧
  (∀ (t n : Nat) (s : State), n < 1024 → does (.edgeFire t n) t s (·.fireEdge n) ∧
    does (.calRunDone t n) t s (·.calRunDone n) ∧ does (.dlSwap t n) t s (·.dlSwap n) ∧
    does (.dlctlEtbApply t n) t s (·.etbApply n) ∧ does (.calAged t n) t s (·.calAged n)) ∧
  (∀ (t : Nat) (src : Src) (n : Nat) (val : Word) (s : State), src.ok = true → n < 1024 →
    s.applies src (DLCTL.WHOLE.adr n 0) = true → does (.dlctlSwapnow t src n val) t s (·.dlctlWrite n (val ||| 1)))) ∧
  ((∀ (t g : Nat) (s : State), g < 64 → does (.impreciseExceptionDue t g) t s (·.modEn g (·.impDue)) ∧
    does (.exceptionEntry t g) t s (·.entry g) ∧ does (.engrateInterval t g) t s (·.engrate g) ∧
    does (.taskDispatch t g) t s (fun s => (s.dispatch g).haltLook g) ∧
    does (.taskPreempt t g) t s (fun s => (s.preempt g).haltLook g) ∧
    does (.taskResume t g) t s (fun s => (s.resume g).haltLook g)) ∧
  (∀ (t : Nat) (src : Src) (g : Nat) (val : Word) (s : State), src.ok = true → g < 64 →
    s.applies src (BALCTL.WHOLE.adr g 0) = true →
    does (.balctlBalreq t src g val) t s (·.balctlWrite g (val ||| 0x80000000)) ∧
    does (.balctlBalclr t src g val) t s (·.balctlWrite g (val ||| 0x40000000))) ∧
  (∀ (t g : Nat) (par : Bool) (s : State), g < 64 → does (.ballastEntry t g par) t s (·.ballastEntry g par)) ∧
  (∀ (t g words : Nat) (s : State), g < 64 → does (.ballastDumpDone t g words) t s (·.dumpDone g words)) ∧
  (∀ (t : Nat) (src : Src) (g : Nat) (val : Word) (s : State), src.ok = true → g < 64 →
    s.applies src (ENGCTL.WHOLE.adr g 0) = true →
    does (.engctlEreset t src g val) t s (·.engctlWrite g (val ||| 0x80000000)) ∧
    does (.engctlRun t src g val) t s (·.engctlWrite g val)) ∧
  (∀ (t : Nat) (src : Src) (val : Word) (err : Ecc) (s : State), src.ok = true →
    s.applies src (MCLDCTL.WHOLE.adr 0 0) = true → does (.mcldGo t src val err) t s (·.withEcc err (·.mcGo (val ||| 1)))) ∧
  (∀ (t : Nat) (s : State), does (.mcldCheckDone t) t s (·.mcChecked) ∧
    does (.slackRecompute t) t s (fun s => ((upFrom 0 64).foldl State.slackOf s).marginLook) ∧
    does (.invalDone t) t s (·.invalDone)) ∧
  (∀ (t p : Nat) (s : State), p < 68 → does (.mcImageApply t p) t s (·.mcApply p)) ∧
  (∀ (t g i : Nat) (err : Ecc) (s : State), g < 64 → does (.postedStoreAck t g i err) t s (·.storeAck g i err) ∧
    does (.postedStoreError t g i err) t s (·.storeError g i err)) ∧
  (∀ (t g slot inp : Nat) (arr : List Nat) (s : State), g < 64 → slot < 64 → inp < 16 → arr.length ≤ 8 →
    does (.taskInputArrival t g slot inp arr) t s (fun s => (s.arrivals g slot inp arr).wakeSlot g slot)) ∧
  (∀ (t : Nat) (src : Src) (g : Nat) (val : Word) (s : State), src.ok = true → g < 64 →
    s.applies src (TASKRUN.WHOLE.adr g 0) = true →
    does (.taskrunClr t src g val) t s (·.taskrunWrite g (val ||| 0x80000000)) ∧
    does (.taskrunRun t src g val) t s (·.taskrunWrite g (val ||| 0x40000000))) ∧
  (∀ (t : Nat) (src : Src) (g slot : Nat) (val : Word) (s : State), src.ok = true → g < 64 → slot < 64 →
    s.applies src (TDCTL.WHOLE.adr g slot) = true → does (.tdctlWrite t src g slot val) t s (·.tdctlWrite g slot val)) ∧
  (∀ (t r : Nat) (s : State), r < 69 → does (.routerRouteEvent t r) t s (·.routeHead r)) ∧
  (∀ (t r : Nat) (err : Ecc) (s : State), r < 69 → does (.routerFillDone t r err) t s (·.fillDone r err)) ∧
  (∀ (t : Nat) (err : Ecc) (s : State), does (.coherenceVisit t err) t s (·.cohVisit err)) ∧
  (∀ (t : Nat) (src : Src) (index : Nat) (s : State), src.ok = true → index < 8192 →
    s.applies src (INVAL.WHOLE.adr 0 0) = true → does (.invalRouteEntry t src index) t s (·.invalWrite 0 index) ∧
    does (.invalDescriptor t src index) t s (·.invalWrite 1 index)) ∧
  (∀ (t : Nat) (src : Src) (s : State), src.ok = true → s.applies src (INVAL.WHOLE.adr 0 0) = true →
    does (.invalAllRoutes t src) t s (·.invalWrite 2 0) ∧ does (.invalAllDescriptors t src) t s (·.invalWrite 3 0)) ∧
  (∀ (t : Nat) (src : Src) (val : Word) (s : State), src.ok = true → s.applies src (EFCTL.WHOLE.adr 0 0) = true →
    does (.efctlEnWrite t src val) t s (·.efctlWrite val))) ∧
  ((∀ (t n : Nat) (s : State), n < 1024 → does (.counterPeriodBoundary t n) t s (fun s => s.rampLook (s.boundary n) n) ∧
    does (.runStart t n) t s (fun s => s.rampLook (s.flyStart n) n) ∧ does (.triggerDetect t n) t s (·.triggerDetect n) ∧
    does (.counterCmpa t n) t s (·.cmpA n) ∧ does (.compareEdgeCommit t n) t s (·.commitEdge n) ∧
    does (.stopnowRunEnd t n) t s (·.stopNowEnd n) ∧ does (.carrierRefChange t n) t s (·.refChange n) ∧
    does (.shadowLatchPoint t n) t s (·.latchPoint n) ∧ does (.switchNodeSense t n) t s (·.nodeSense n) ∧
    does (.dtmaxExpiry t n) t s (·.dtMax n) ∧ does (.captureAccept t n) t s (·.capAccept n) ∧
    does (.ctmMaxtExpiry t n) t s (·.ctmMaxt n) ∧ does (.counterCmpb t n) t s (fun s => (s.cmpB n).varonOpen n) ∧
    does (.interlockBothOn t n) t s (·.interlock n) ∧ does (.interlockHoldExpiry t n) t s (·.interlockExpiry n) ∧
    does (.blankWindowEnd t n) t s (·.blankEnd n) ∧ does (.forceOrderEffect t n) t s (·.forceEffect n)) ∧
  (∀ (t : Nat) (src : Src) (n : Nat) (val : Word) (s : State), src.ok = true → n < 1024 →
    s.applies src (CHCTL.WHOLE.adr n 0) = true → does (.chctlGo t src n val) t s (·.chctlFull n (val ||| 0x80000000)) ∧
    does (.chctlArm t src n val) t s (·.chctlFull n (val ||| 0x40000000)) ∧
    does (.chctlStop t src n val) t s (·.chctlFull n (val ||| 0x20000000)) ∧
    does (.chctlStopnow t src n val) t s (·.chctlFull n (val ||| 0x10000000))) ∧
  (∀ (t : Nat) (src : Src) (n : Nat) (val : Word) (s : State), src.ok = true → n < 1024 →
    s.applies src (CAPCTL.WHOLE.adr n 0) = true → does (.capctlWrite t src n val) t s (·.capctlFull n val)) ∧
  (∀ (t : Nat) (src : Src) (j : Nat) (val : Word) (s : State), src.ok = true → j < 128 →
    s.applies src (SAFECTL.WHOLE.adr j 0) = true →
    does (.safectlSafego t src j val) t s (·.safectlFull j (val ||| 0x80000000)) ∧
    does (.safectlSafeclr t src j val) t s (·.safectlFull j (val ||| 0x40000000))) ∧
  (∀ (t : Nat) (src : Src) (j : Nat) (val : Word) (s : State), src.ok = true → j < 128 →
    s.applies src (GLOAD.WHOLE.adr j 0) = true → does (.gloadLoadall t src j val) t s (·.loadAllGo j)) ∧
  (∀ (t : Nat) (src : Src) (n : Nat) (val : Word) (s : State), src.ok = true → n < 1024 →
    s.applies src (PWMCTL.WHOLE.adr n 0) = true → does (.pwmctlPairWrite t src n val) t s (·.pwmctlWrite n val)) ∧
  (∀ (t n : Nat) (lvl : Bool) (s : State), n < 1024 → does (.pinTransition t n lvl) t s (·.pinChange n lvl)) ∧
  (∀ (t n time : Nat) (rising : Bool) (s : State), n < 1024 →
    does (.loadEdgeMeasured t n time rising) t s (·.loadEdge n time rising)) ∧
  (∀ (t n raw : Nat) (s : State), n < 1024 → does (.ctmReading t n raw) t s (·.ctmReading n raw)) ∧
  (∀ (t j line : Nat) (s : State), j < 128 → line < 4 → does (.tripLineActivation t j line) t s (·.lineActivate j line)) ∧
  (∀ (t : Nat) (src : Src) (n : Nat) (val : Word) (s : State), src.ok = true → n < 1024 →
    s.applies src (TRIPCLR.WHOLE.adr n 0) = true → does (.tripclrClr t src n val) t s (·.tripClear n)) ∧
  (∀ (t : Nat) (src : Src) (n sync : Nat) (s : State), src.ok = true → n < 1024 →
    s.applies src (FORCE.WHOLE.adr n 0) = true →
    does (.forceRelease t src n sync) t s (·.forceWrite n (forceWord 1 sync 0)) ∧
    does (.forceHigh t src n sync) t s (·.forceWrite n (forceWord 2 sync 0)) ∧
    does (.forceLow t src n sync) t s (·.forceWrite n (forceWord 3 sync 0)) ∧
    does (.forceHiz t src n sync) t s (·.forceWrite n (forceWord 4 sync 0))) ∧
  (∀ (t : Nat) (src : Src) (j sync mask : Nat) (s : State), src.ok = true → j < 128 →
    s.applies src (GFORCE.WHOLE.adr j 0) = true →
    does (.gforceRelease t src j sync mask) t s (·.gforceWrite j (forceWord 1 sync mask)) ∧
    does (.gforceHigh t src j sync mask) t s (·.gforceWrite j (forceWord 2 sync mask)) ∧
    does (.gforceLow t src j sync mask) t s (·.gforceWrite j (forceWord 3 sync mask)) ∧
    does (.gforceHiz t src j sync mask) t s (·.gforceWrite j (forceWord 4 sync mask))) ∧
  (∀ (t j : Nat) (s : State), j < 128 → does (.safeStateEffect t j) t s (·.safeEffect j))) ∧
  ((∀ (t : Nat) (s : State), does (.analogReady t) t s (·.analogReady)) ∧
  (∀ (t k nv : Nat) (s : State), k < 256 → does (.comparatorCrossing t k nv) t s (·.kCross k nv)) ∧
  (∀ (t : Nat) (src : Src) (k : Nat) (val : Word) (s : State), src.ok = true → k < 256 →
    s.applies src (KCLR.WHOLE.adr k 0) = true → does (.kclrClr t src k val) t s (·.kClear k true)) ∧
  (∀ (t i : Nat) (s : State), i < 16 → does (.sarTrigger t i) t s (·.sarTriggerBy i)) ∧
  (∀ (t : Nat) (src : Src) (i : Nat) (val : Word) (s : State), src.ok = true → i < 16 →
    s.applies src (SARSW.WHOLE.adr i 0) = true →
    does (.sarswGo t src i val) t s (fun s => s.sarAccept i (s.now + ns 100) false)) ∧
  (∀ (t i nv : Nat) (s : State), i < 16 → does (.sarConversion t i nv) t s (·.sarConvert i nv)) ∧
  (∀ (t : Nat) (sd : Bool) (i : Nat) (err : Ecc) (s : State), (if sd then i < 256 else i < 16) →
    does (.sampleRecordAck t sd i err) t s (·.sampleAck sd i err)) ∧
  (∀ (t i : Nat) (bits : List RxBit) (s : State), i < 256 → does (.sdWord t i bits) t s (·.sdWord i bits) ∧
    does (.modulatorFaultClear t i bits) t s (·.modFaultClear i bits) ∧
    does (.sdFastWord t i bits) t s (·.fastWord i bits)) ∧
  (∀ (t i : Nat) (s : State), i < 256 → does (.sdConfigApply t i) t s (·.sdApply i)) ∧
  (∀ (t i : Nat) (bits : List RxBit) (viol : Bool) (s : State), i < 256 →
    does (.modulatorFault t i bits viol) t s (·.modFault i bits viol))) ∧
  ((∀ (t : Nat) (src : Src) (k : Nat) (val : Word) (s : State), src.ok = true → k < 128 →
    s.applies src (TAILCTL.WHOLE.adr k 0) = true → does (.tailctlArmWrite t src k val) t s (·.tailctlWrite k val)) ∧
  (∀ (t k inst code : Nat) (s : State), k < 128 → does (.tailEdgeAccept t k inst code) t s (·.tailEdge k inst code)) ∧
  (∀ (t k inst : Nat) (lvl : Bool) (s : State), k < 128 → does (.tailZEdge t k inst lvl) t s (·.tailZ k inst lvl)) ∧
  (∀ (t : Nat) (src : Src) (k : Nat) (val : Word) (s : State), src.ok = true → k < 128 →
    s.applies src (SERTRIG.WHOLE.adr k 0) = true → does (.sertrigGo t src k val) t s (·.sertrigWrite k (val ||| 0x20000))) ∧
  (∀ (t k : Nat) (ready : Bool) (s : State), k < 128 → does (.serialTrigger t k ready) t s (·.serialTrigger k ready)) ∧
  (∀ (t k : Nat) (s : State), k < 128 → does (.bissAckTimeout t k) t s (·.ackTimeout k) ∧
    does (.velDecayUpdate t k) t s (·.velDecay k) ∧ does (.speedStaleTimeout t k) t s (·.speedStale k) ∧
    does (.freshnessTimeout t k) t s (·.freshLoss k) ∧ does (.lossGraceExpiry t k) t s (·.graceExpiry k) ∧
    does (.flyingSyncTimeout t k) t s (·.flyTimeout k) ∧ does (.brakeTimeout t k) t s (·.brakeTimeout k) ∧
    does (.emuEdgeCommit t k) t s (·.emuCommit k) ∧ does (.emuPathChange t k) t s (·.emuPathChange k)) ∧
  (∀ (t k trt : Nat) (s : State), k < 128 → does (.bissStartTimeout t k trt) t s (·.startTimeout k trt)) ∧
  (∀ (t k trt data stat crc cds : Nat) (s : State), k < 128 →
    does (.serialFrameDone t k trt data stat crc cds) t s (·.serialDone k trt data stat crc cds)) ∧
  (∀ (t k : Nat) (err : Ecc) (s : State), k < 128 → does (.tailRecordWrite t k err) t s (·.tailRecord k err)) ∧
  (∀ (t k mask : Nat) (s : State), k < 128 → does (.lineBreakDetect t k mask) t s (·.lineBreak k mask) ∧
    does (.lineBreakClear t k mask) t s (·.lineGood k mask))) ∧
  ((∀ (t i : Nat) (s : State), i < 32 → does (.spoolTooth t i) t s (·.spTooth i) ∧ does (.spoolHalt t i) t s (·.spHalt i) ∧
    does (.spoolLateDeadline t i) t s (·.spLate i) ∧ does (.spoolReverseEdge t i) t s (·.spReverse i) ∧
    does (.spoolEnding t i) t s (·.spEnding i) ∧ does (.spoolBcastSample t i) t s (·.spSample i) ∧
    does (.remoteAgeExpiry t i) t s (·.remoteAge i)) ∧
  (∀ (t : Nat) (src : Src) (i : Nat) (val : Word) (s : State), src.ok = true → i < 32 →
    s.applies src (SPCTL.WHOLE.adr i 0) = true →
    does (.spctlSyncnow t src i val) t s (·.spctlWrite i (val ||| 0x08000000)) ∧
    does (.spctlDesync t src i val) t s (·.spctlWrite i (val ||| 0x04000000)) ∧
    does (.spctlEnWrite t src i val) t s (·.spctlWrite i val)) ∧
  (∀ (t : Nat) (src : Src) (i j : Nat) (val : Word) (s : State), src.ok = true → i < 32 → j < 64 →
    does (.aevctlDisarm t src i j val) t s (·.aevctlFrom src i j (armWord 0 val)) ∧
    does (.aevctlOnce t src i j val) t s (·.aevctlFrom src i j (armWord 1 val)) ∧
    does (.aevctlEvery t src i j val) t s (·.aevctlFrom src i j (armWord 2 val)) ∧
    does (.aevctlOnceRev t src i j val) t s (·.aevctlFrom src i j (armWord 3 val))) ∧
  (∀ (t i j : Nat) (s : State), i < 32 → j < 64 → does (.slotCommit t i j) t s (·.aevCommit i j)) ∧
  (∀ (t i : Nat) (err : Ecc) (s : State), i < 32 → does (.springPoll t i err) t s (·.withEcc err (·.springPoll i))) ∧
  (∀ (t i : Nat) (r : SpRec) (s : State), i < 32 → does (.spoolRecordArrival t i r) t s (·.spRecord i r))) ∧
  ((∀ (t f : Nat) (s : State), 1 ≤ f → f < 17 → does (.vfFlr t f) t s (fun s => (s.fnReset f).raise 7716 f)) ∧
  (∀ (t : Nat) (s : State), does (.pfFlr t) t s (·.hostReset.raise 7716 0) ∧ does (.hotReset t) t s (·.hostReset) ∧
    does (.linkDown t) t s (·.linkDown)) ∧
  (∀ (t : Nat) (src : Src) (e : Nat) (val : Word) (s : State), src.ok = true → e < 384 →
    s.applies src (BRIDLE.WHOLE.adr 0 e) = true →
    does (.bridleWrite t src e val) t s (·.plainWrite (BRIDLE.WHOLE.adr 0 e) val)) ∧
  (∀ (t : Nat) (src : Src) (f : Nat) (val : Word) (s : State), src.ok = true → f < 17 →
    s.applies src (HOSTWD.WHOLE.adr f 0) = true →
    does (.hostwdKick t src f val) t s (·.hostwdWrite f (val ||| 0x40000000))) ∧
  (∀ (t f : Nat) (s : State), f < 17 → does (.hostWdExpiry t f) t s (·.hostwdExpire f)) ∧
  (∀ (t : Nat) (src : Src) (m : Nat) (val : Word) (s : State), src.ok = true → m < 32 →
    s.applies src (MVCTL.WHOLE.adr m 0) = true → does (.mvctlGo t src m val) t s (·.mvctlWrite m (val ||| 0x80000000)) ∧
    does (.mvctlStop t src m val) t s (·.mvctlWrite m (val ||| 0x40000000))) ∧
  (∀ (t m : Nat) (st : Cpl) (err : Ecc) (words : List Nat) (s : State), m < 32 →
    does (.mvDescriptorFetched t m st err words) t s (·.withEcc err (·.mvFetched m st words))) ∧
  (∀ (t m : Nat) (st : Cpl) (data : List Byte) (err : Ecc) (s : State), m < 32 →
    does (.hostCompletion t m st data err) t s (·.withEcc err (·.hostCpl m st data))) ∧
  (∀ (t n : Nat) (err : Ecc) (s : State), does (.dllAck t n err) t s (·.withEcc err (·.dllAck n))) ∧
  (∀ (t m : Nat) (err : Ecc) (s : State), m < 32 → does (.mvDescriptorRetire t m err) t s (·.withEcc err (·.mvRetire m)) ∧
    does (.pcieCompletionTimeout t m err) t s (·.withEcc err (·.mvTimeout m))) ∧
  (∀ (t : Nat) (err : Ecc) (s : State), does (.linkUp t err) t s (·.withEcc err (·.linkUp))) ∧
  (∀ (t f off : Nat) (wr : Option Word) (field : Option CfgField) (s : State), f < 17 → off < 4096 →
    does (.configurationRequest t f off wr field) t s (·.cfgReq f off wr field)) ∧
  (∀ (t : Nat) (src : Src) (q : Nat) (s : State), src.ok = true → q < 262144 →
    does (.qcmdEnable t src q) t s (·.qcmd src 1 q) ∧ does (.qcmdDisable t src q) t s (·.qcmd src 2 q) ∧
    does (.qcmdReload t src q) t s (·.qcmd src 3 q)) ∧
  (∀ (t q : Nat) (st : Cpl) (words : List Nat) (s : State), q < 262144 →
    does (.queueContextFetched t q st words) t s (·.ctxFetched q st words)) ∧
  (∀ (t : Nat) (src : Src) (q : Nat) (val : Word) (s : State), src.ok = true → q < 262144 →
    does (.doorbellWrite t src q val) t s (·.doorbell src q val.toNat)) ∧
  (∀ (t q : Nat) (s : State), q < 262144 → does (.queueRecordWrite t q) t s (·.qStep q) ∧
    does (.prodWriteback t q) t s (·.prodBack q) ∧ does (.queueItimeExpiry t q) t s (·.itime q) ∧
    does (.writeatDue t q) t s (·.writeAtDue q)) ∧
  (∀ (t f v : Nat) (s : State), f < 17 → v < 2048 → does (.msixRequest t f v) t s (·.msixAsked f v)) ∧
  (∀ (t : Nat) (src : Src) (off : Nat) (words : List Nat) (s : State), src.ok = true →
    (off < 0x8000 ∧ (words.length = 1 ∧ off % 4 = 0 ∨ words.length = 2 ∧ off % 8 = 0)) →
    does (.msixTableWrite t src off words) t s (·.msixWrite src off words)) ∧
  (∀ (t q off : Nat) (val : Word) (tag : Nat) (s : State), cmdOk q off tag = true →
    does (.cmdWrite t q off val tag) t s (·.cmdTake q (·.cmdWrite q off val 0 tag))) ∧
  (∀ (t q off : Nat) (val : Word) (at_ tag : Nat) (s : State), cmdOk q off tag = true → at_ < 2 ^ 64 →
    does (.cmdWriteat t q off val at_ tag) t s (·.cmdTake q (·.cmdWriteAt q off val at_ tag))) ∧
  (∀ (t q tag : Nat) (s : State), cmdOk q 0 tag = true →
    does (.cmdMark t q tag) t s (fun s => s.cmdTake q (fun s => (s.cmdResult q 0 tag).cmdEnd q 0 tag))) ∧
  (∀ (t q code tag : Nat) (s : State), cmdOk q 0 tag = true → code < 16 → code ≠ 1 → code ≠ 2 → code ≠ 3 →
    does (.cmdBad t q code tag) t s (·.cmdTake q (·.cmdEnd q 1 tag)))) ∧
  ((∀ (t p : Nat) (s : State), p < 4 → does (.tetherCycleStart t p) t s (fun s => (s.tServe p).tCycle p) ∧
    does (.pollDeadline t p) t s (·.tAbsent p) ∧ does (.portTrainTurn t p) t s (·.tpTurn p) ∧
    does (.trainTimeout t p) t s (·.tpTrainFail p) ∧ does (.trainRetry t p) t s (·.tpTrainAgain p) ∧
    does (.busyRx t p) t s (·.tpBusy p) ∧ does (.busywaitRetry t p) t s (·.tpBusyAgain p) ∧
    does (.authTimeout t p) t s (·.tpAuthLate p) ∧ does (.quarExpiry t p) t s (·.tpQuarEnd p) ∧
    does (.laneLockLoss t p) t s (·.tpUnlock p) ∧ does (.rekeyStart t p) t s (·.tpRekey p) ∧
    does (.rekeyTimeout t p) t s (·.tpRekeyLate p)) ∧
  (∀ (t p : Nat) (b : CtlBlk) (s : State), p < 4 → does (.controlBlockRx t p b) t s (·.ctlRx p b)) ∧
  (∀ (t p cyc : Nat) (tag : Bool) (s : State), p < 4 → does (.answerBlockRx t p cyc tag) t s (·.tAnswer p cyc tag)) ∧
  (∀ (t p lanes : Nat) (s : State), p < 4 → 1 ≤ lanes → lanes ≤ 2 →
    does (.laneTrained t p lanes) t s (·.tpTrained p lanes)) ∧
  (∀ (t p : Nat) (m : CapMsg) (s : State), p < 4 → does (.capxMessage t p m) t s (·.tpCap p m)) ∧
  (∀ (t p : Nat) (m : AuthMsg) (s : State), p < 4 → does (.authMessage t p m) t s (·.tpAuth p m)) ∧
  (∀ (t : Nat) (src : Src) (p : Nat) (val : Word) (s : State), src.ok = true → p < 4 →
    s.applies src (TPCTL.WHOLE.adr p 0) = true → does (.tpctlRetry t src p val) t s (·.tpctlWrite p (val ||| 0x40000000))) ∧
  (∀ (t : Nat) (s : State), does (.tetherExchangeLoss t) t s (·.tLoss) ∧ does (.electionSettled t) t s (·.tSettled) ∧
    does (.masterLostGraceExpiry t) t s (·.tGraceEnd) ∧ does (.rwTimeout t) t s (·.rwTimeout) ∧
    does (.cgstartClose t) t s (·.cgClose)) ∧
  (∀ (t p serial : Nat) (want : Option Nat) (s : State), p < 4 → want.all (· < 32) →
    does (.admreqRx t p serial want) t s (·.tAdmReq p serial want)) ∧
  (∀ (t p serial : Nat) (idx : Option Nat) (midx : Nat) (s : State), p < 4 → idx.all (· < 32) → midx < 32 →
    does (.admitRx t p serial idx midx) t s (·.tAdmit p serial idx midx)) ∧
  (∀ (t : Nat) (src : Src) (val : Word) (s : State), src.ok = true → s.applies src (RWCTL.WHOLE.adr 0 0) = true →
    does (.rwctlGo t src val) t s (·.rwctlWrite (val ||| 0x80000000))) ∧
  (∀ (t seq res val : Nat) (s : State), res < 8 → does (.rwResponseRx t seq res val) t s (·.rwResponse seq res val)) ∧
  (∀ (t : Nat) (src : Src) (x : Nat) (val : Word) (s : State), src.ok = true → x < 96 →
    s.applies src (IMPORT.WHOLE.adr 0 x) = true → does (.importWrite t src x val) t s (·.importWrite x val)) ∧
  (∀ (t dev x id : Nat) (en : Bool) (s : State), dev < 32 → x < 96 → id < 8192 →
    does (.subscriptionRx t dev x id en) t s (·.subscribe dev x id en)) ∧
  (∀ (t dev x seq ts detail : Nat) (tq coinc : Bool) (s : State), dev < 32 → x < 96 →
    does (.importEventRx t dev x seq ts detail tq coinc) t s (·.importEvent dev x seq ts detail tq coinc)) ∧
  (∀ (t : Nat) (src : Src) (val : Word) (s : State), src.ok = true → s.applies src (CGSTART.WHOLE.adr 0 0) = true →
    does (.cgstartGo t src val) t s (·.cgstartWrite src (val ||| 1))) ∧
  (∀ (t at_ : Nat) (restart : Bool) (s : State), does (.cgstartBroadcastRx t at_ restart) t s (·.cgStart at_ restart)) ∧
  (∀ (t dev res : Nat) (s : State), dev < 32 → res < 3 → does (.cgstartReportRx t dev res) t s (·.cgReport dev res)) ∧
  (∀ (t p : Nat) (slot : Slot) (cyc : Nat) (items : List TMsg) (s : State), p < 4 → items.all TMsg.ok = true →
    does (.dataSlotRx t p slot cyc items) t s (·.tSlot p slot cyc items)) ∧
  (∀ (t dev seq : Nat) (wr : Bool) (off val : Nat) (s : State), dev < 32 → (TItem.cmd seq wr off val).ok = true →
    does (.remoteCommandRx t dev seq wr off val) t s (·.remoteCmd dev seq wr off val))) ∧
  ((∀ (t mem p : Nat) (err : Ecc) (s : State), mem < 3 → p < 68 →
    does (.scrubWord t mem p err) t s (·.scrubWord mem p err)) ∧
  (∀ (t m k : Nat) (temp : Int) (s : State), m < 96 → does (.monitorReading t m k temp) t s (·.monRead m k temp)) ∧
  (∀ (t skew : Nat) (s : State), does (.readerLatencyTracking t skew) t s (·.skewPass skew)) ∧
  (∀ (t : Nat) (s : State), does (.marginEvaluation t) t s (·.marginEval) ∧ does (.marginStepBack t) t s (·.marginBack) ∧
    does (.takeoverStart t) t s (·.tkoStart) ∧ does (.takeoverCopyDone t) t s (·.tkoCopied) ∧
    does (.takeoverTimeLimit t) t s (·.tkoLimit) ∧ does (.coldTakeover t) t s (·.coldTake) ∧
    does (.powerEntryDone t) t s (·.powerDone) ∧ does (.wakeTimer t) t s (·.wakeTimer) ∧
    does (.avsEvaluation t) t s (·.avsEval) ∧ does (.pmbusSettled t) t s (·.pmSettled) ∧
    does (.pmbusSettleTimeout t) t s (·.pmLate) ∧ does (.powerOnReset t) t s (·.powerOn) ∧
    does (.bootClockDone t) t s (·.bootClock) ∧ does (.bootCalDone t) t s (·.bootCal) ∧
    does (.bootReady t) t s (·.bootReady) ∧ does (.gwakeRise t) t s (·.gwake) ∧ does (.bankOeEffect t) t s (·.oeEffect) ∧
    does (.thermtripAssert t) t s (·.thermtrip true) ∧ does (.thermtripRelease t) t s (·.thermtrip false)) ∧
  (∀ (t : Nat) (src : Src) (val : Word) (s : State), src.ok = true → s.applies src (SPRCMD.WHOLE.adr 0 0) = true →
    does (.sprcmdWarm t src val) t s (·.sprcmdWrite (sprWord 1 val)) ∧
    does (.sprcmdCold t src val) t s (·.sprcmdWrite (sprWord 2 val)) ∧
    does (.sprcmdTest t src val) t s (·.sprcmdWrite (sprWord 3 val)) ∧
    does (.sprcmdAbort t src val) t s (·.sprcmdWrite (sprWord 4 val))) ∧
  (∀ (t mism : Nat) (s : State), does (.takeoverJoin t mism) t s (·.tkoJoin mism) ∧
    does (.takeoverHandover t mism) t s (·.tkoHandover mism)) ∧
  (∀ (t p : Nat) (s : State), p < 68 → does (.selftestStart t p) t s (·.testAuto p)) ∧
  (∀ (t check : Nat) (s : State), check < 6 → does (.selftestDone t check) t s (·.testDone check)) ∧
  (∀ (t : Nat) (hot mean : Int) (err : Ecc) (s : State),
    does (.telemetryBlock t hot mean err) t s (·.withEcc err (·.telBlock hot mean))) ∧
  (∀ (t : Nat) (src : Src) (val : Word) (s : State), src.ok = true → s.applies src (PWRCTL.WHOLE.adr 0 0) = true →
    does (.pwrctlGoAloft t src val) t s (·.pwrctlWrite (pwrWord 0 val)) ∧
    does (.pwrctlGoDrift t src val) t s (·.pwrctlWrite (pwrWord 1 val)) ∧
    does (.pwrctlGoMoored t src val) t s (·.pwrctlWrite (pwrWord 2 val)) ∧
    does (.pwrctlGoGrounded t src val) t s (·.pwrctlWrite (pwrWord 3 val))) ∧
  (∀ (t sinceD sinceM : Nat) (s : State), does (.powerAutoEntry t sinceD sinceM) t s (·.powerAuto sinceD sinceM)) ∧
  (∀ (t cause idx : Nat) (s : State), cause < 9 → idx < 256 → does (.wakeRequest t cause idx) t s (·.wakeReq cause idx)) ∧
  (∀ (t r mv : Nat) (s : State), r < 20 → does (.supplyMeasurement t r mv) t s (·.supMeasure r mv) ∧
    does (.supplyFault t r mv) t s (·.supFault r mv) ∧ does (.supplyFaultClear t r mv) t s (·.supClear r mv)) ∧
  (∀ (t r : Nat) (s : State), r < 20 → does (.supplyWarning t r) t s (·.supWarn r)) ∧
  (∀ (t : Nat) (ok : Bool) (s : State), does (.pmbusRequestSend t ok) t s (·.pmSend ok)) ∧
  (∀ (t : Nat) (ok : Bool) (word : Nat) (fault : Bool) (s : State),
    does (.pmbusStatusPoll t ok word fault) t s (·.pmPoll ok word fault)) ∧
  (∀ (t : Nat) (src : Src) (val : Word) (s : State), src.ok = true → s.applies src (AVSCTL.WHOLE.adr 0 0) = true →
    does (.avsctlRetry t src val) t s (·.avsctlWrite (BitVec.ofNat 32 (putBit val.toNat 30 true)))) ∧
  (∀ (t : Nat) (keep : Bool) (s : State), does (.bootFuseDone t keep) t s (·.bootFuse keep)) ∧
  (∀ (t bad : Nat) (s : State), bad < 2 ^ 68 → does (.bootTestDone t bad) t s (·.bootTest bad)) ∧
  (∀ (t stage : Nat) (s : State), stage < 6 → does (.bootStageFail t stage) t s (·.bootStageFail stage)) ∧
  (∀ (t : Nat) (asserted : Bool) (s : State), does (.perst t asserted) t s (·.perst asserted)) ∧
  (∀ (t : Nat) (src : Src) (val : Word) (s : State), src.ok = true → s.applies src (BANKOESET.WHOLE.adr 0 0) = true →
    does (.bankoeset t src val) t s (·.oeSet val)) ∧
  (∀ (t : Nat) (src : Src) (val : Word) (s : State), src.ok = true → s.applies src (BANKOECLR.WHOLE.adr 0 0) = true →
    does (.bankoeclr t src val) t s (·.oeClr val))) ∧
  ((∀ (t : Nat) (src : Src) (val : Word) (s : State), src.ok = true → s.applies src (LCCMD.WHOLE.adr 0 0) = true →
    does (.lccmdGetkey t src val) t s (·.lccmd false (lcWord 1 val)) ∧
    does (.lccmdLock t src val) t s (·.lccmd false (lcWord 3 val))) ∧
  (∀ (t : Nat) (src : Src) (val : Word) (err : Ecc) (s : State), src.ok = true →
    s.applies src (LCCMD.WHOLE.adr 0 0) = true →
    does (.lccmdProvision t src val err) t s (·.withEcc err (·.lccmd false (lcWord 2 val))) ∧
    does (.lccmdRetire t src val err) t s (·.withEcc err (·.lccmd false (lcWord 4 val)))) ∧
  (∀ (t : Nat) (s : State), does (.getkeyDone t) t s (·.getkeyDone) ∧ does (.lcCommandDone t) t s (·.lcDone) ∧
    does (.revlistCheckDone t) t s (·.revDone) ∧ does (.wipeDone t) t s (·.wipeDone) ∧
    does (.tokenCheckDone t) t s (·.tokDone) ∧ does (.debugSessionExpiry t) t s (·.sessExpire) ∧
    does (.debugLockoutExpiry t) t s (·.lockEnd) ∧ does (.jtagIdcode t) t s (·.shiftOut .idcode 4 Config.idcode) ∧
    does (.jtagBypass t) t s (·.shiftOut .bypass 1 0) ∧ does (.jtagExtest t) t s (·.extest) ∧
    does (.jtagLcread t) t s (fun s => s.shiftOut .lcread 16 s.lcread) ∧
    does (.jtagLcpub t) t s (fun s => s.shiftOut .lcpub 96 s.lcpub) ∧
    does (.jtagLcstage t) t s (fun s => (s.tap .lcstage).modSec (fun h => { h with stagePtr := if h.jtag = JInstr.lcstage then 0 else h.stagePtr })) ∧
    does (.jtagDbgnonce t) t s (fun s => s.shiftOut .dbgnonce 8 (s.rd64 DBGNONCE_LO.NONCE DBGNONCE_HI.NONCE))) ∧
  (∀ (t : Nat) (src : Src) (val : Word) (err : Ecc) (s : State), src.ok = true →
    s.applies src (REVCTL.WHOLE.adr 0 0) = true →
    does (.revctlGo t src val err) t s (·.withEcc err (·.revGo (val ||| 0x80000000)))) ∧
  (∀ (t : Nat) (src : Src) (i : Nat) (val : Word) (s : State), src.ok = true → i < 2 →
    s.applies src (SECGON.WHOLE.adr 0 i) = true → does (.secgonWrite t src i val) t s (·.secgonWrite i val)) ∧
  (∀ (t k : Nat) (s : State), k < 7 → does (.tamperDetect t k) t s (·.tamper k)) ∧
  (∀ (t : Nat) (src : Src) (val : Word) (err : Ecc) (s : State), src.ok = true →
    s.applies src (DBGCTL.WHOLE.adr 0 0) = true →
    does (.dbgctlOpen t src val err) t s (·.withEcc err (·.dbgctlWrite src (dbgWord true val)))) ∧
  (∀ (t : Nat) (src : Src) (val : Word) (s : State), src.ok = true → s.applies src (DBGCTL.WHOLE.adr 0 0) = true →
    does (.dbgctlClose t src val) t s (·.dbgctlWrite src (dbgWord false val))) ∧
  (∀ (t : Nat) (src : Src) (g : Nat) (val : Word) (s : State), src.ok = true → g < 64 →
    does (.dbgectlHalt t src g val) t s (·.dbgectlFrom src g (dbgeWord 2 val)) ∧
    does (.dbgectlResume t src g val) t s (·.dbgectlFrom src g (dbgeWord 1 val)) ∧
    does (.dbgectlStep t src g val) t s (·.dbgectlFrom src g (dbgeWord 0 val)) ∧
    does (.dbgdataWrite t src g val) t s (·.dbgdataFrom src g val)) ∧
  (∀ (t g : Nat) (s : State), g < 64 → does (.breakpointHit t g) t s (·.breakHit g)) ∧
  (∀ (t : Nat) (src : Src) (g : Nat) (s : State), src.ok = true → g < 64 →
    does (.dbgdataRead t src g) t s (·.dbgdataRead src g)) ∧
  (∀ (t : Nat) (cells : List Bool) (s : State), cells.length ≤ 1024 →
    does (.jtagSamplePreload t cells) t s (·.sample cells)) ∧
  (∀ (t : Nat) (val : Word) (s : State), does (.lcstageWordUpdate t val) t s (·.stageWord val) ∧
    does (.jtagLccmd t val) t s (fun s => (s.tap .lccmd).jtagLc val)) ∧
  (∀ (t : Nat) (tok : List Byte) (s : State), tok.length ≤ 160 →
    does (.jtagToken t tok) t s (fun s => (s.tap .token).modSec (fun h => { h with tok := if h.jtag = JInstr.token then tok else h.tok }))) ∧
  (∀ (t level : Nat) (s : State), level < 4 → does (.jtagDbgopen t level) t s (fun s => (s.tap .dbgopen).jtagOpen level)))
end

