-- ==== Sys2Proof/Laws/Store.lean ====
section
/-! SUPPORT. The basic laws of stores: a read after a write, and that every operation keeps the canonical form. -/
namespace Sys2Proof.Machine

/-- The default lower bound lets every key through. -/
theorem Store.wfFrom_mono {α : Type} [DecidableEq α] (d : Nat → α) (lo lo' : Option Nat) (m : Store α)
    (h : ∀ k, lo.all (· < k) = true → lo'.all (· < k) = true) (w : Store.wfFrom d lo m = true) :
    Store.wfFrom d lo' m = true := by
  cases m with
  | nil => rfl
  | cons x r => simp_all [Store.wfFrom]

theorem Store.drop_wf {α : Type} [DecidableEq α] (d : Nat → α) (m : Store α) (lo : Option Nat) (k : Nat)
    (w : Store.wfFrom d lo m = true) : Store.wfFrom d lo (Store.drop m k) = true := by
  induction m generalizing lo with
  | nil => rfl
  | cons x r ih =>
    obtain ⟨k', a⟩ := x
    simp only [Store.wfFrom, Bool.and_eq_true, decide_eq_true_eq] at w
    by_cases h : k = k'
    · simp only [Store.drop, h, if_true]
      refine Store.wfFrom_mono d (some k') lo _ (fun j hj => ?_) (h ▸ ih (some k') w.2)
      cases lo with
      | none => rfl
      | some l =>
        simp only [Option.all_some, decide_eq_true_eq] at *
        omega
    · simp only [Store.drop, h, if_false, Store.wfFrom, Bool.and_eq_true, decide_eq_true_eq]
      exact ⟨w.1, ih _ w.2⟩

theorem Store.put_wf {α : Type} [DecidableEq α] (d : Nat → α) (m : Store α) (lo : Option Nat) (k : Nat) (a : α)
    (ha : a ≠ d k) (hk : lo.all (· < k) = true) (w : Store.wfFrom d lo m = true) :
    Store.wfFrom d lo (Store.put m k a) = true := by
  induction m generalizing lo with
  | nil => simp [Store.put, Store.wfFrom, ha, hk]
  | cons x r ih =>
    obtain ⟨k', a'⟩ := x
    simp only [Store.wfFrom, Bool.and_eq_true, decide_eq_true_eq] at w
    simp only [Store.put]
    by_cases h1 : k < k'
    · simp [h1, Store.wfFrom, ha, hk, w.1.2, w.2]
    · by_cases h2 : k = k'
      · subst h2
        simp [Store.wfFrom, ha, hk, w.2]
      · simp only [h1, h2, if_false, Store.wfFrom, Bool.and_eq_true, decide_eq_true_eq]
        exact ⟨w.1, ih (some k') (by simp only [Option.all_some, decide_eq_true_eq]; omega) w.2⟩

/-- A write keeps the canonical form. -/
theorem Store.set_wf {α : Type} [DecidableEq α] (d : Nat → α) (m : Store α) (k : Nat) (a : α)
    (w : Store.wf d m = true) : Store.wf d (Store.set d m k a) = true := by
  unfold Store.set
  split
  · exact Store.drop_wf d m none k w
  · rename_i h
    exact Store.put_wf d m none k a h rfl w

theorem Store.get_drop_ne {α : Type} (d : Nat → α) (m : Store α) (k j : Nat) (h : j ≠ k) :
    Store.get d (Store.drop m k) j = Store.get d m j := by
  induction m with
  | nil => rfl
  | cons x r ih =>
    obtain ⟨k', a⟩ := x
    by_cases h1 : k = k'
    · have : j ≠ k' := by omega
      simp [Store.drop, h1, Store.get, this]
      simpa [h1] using ih
    · simp [Store.drop, h1, Store.get, ih]

theorem Store.get_put_ne {α : Type} (d : Nat → α) (m : Store α) (k j : Nat) (a : α) (h : j ≠ k) :
    Store.get d (Store.put m k a) j = Store.get d m j := by
  induction m with
  | nil => simp [Store.put, Store.get, h]
  | cons x r ih =>
    obtain ⟨k', a'⟩ := x
    simp only [Store.put]
    split
    · simp [Store.get, h]
    · split
      · rename_i h2; subst h2; simp [Store.get, h]
      · simp only [Store.get]; split
        · rfl
        · exact ih

/-- A write leaves every other key alone. -/
theorem Store.get_set_ne {α : Type} [DecidableEq α] (d : Nat → α) (m : Store α) (k j : Nat) (a : α) (h : j ≠ k) :
    Store.get d (Store.set d m k a) j = Store.get d m j := by
  unfold Store.set
  split
  · exact Store.get_drop_ne d m k j h
  · exact Store.get_put_ne d m k j a h

theorem Store.get_put_same {α : Type} (d : Nat → α) (m : Store α) (k : Nat) (a : α) :
    Store.get d (Store.put m k a) k = a := by
  induction m with
  | nil => simp [Store.put, Store.get]
  | cons x r ih =>
    obtain ⟨k', a'⟩ := x
    simp only [Store.put]
    split
    · simp [Store.get]
    · split
      · simp [Store.get]
      · rename_i h; simp [Store.get, h, ih]

theorem Store.get_drop_same {α : Type} (d : Nat → α) (m : Store α) (k : Nat) : Store.get d (Store.drop m k) k = d k := by
  induction m with
  | nil => rfl
  | cons x r ih =>
    obtain ⟨k', a⟩ := x
    by_cases h : k = k'
    · simp [Store.drop, h]
      simpa [h] using ih
    · simp [Store.drop, h, Store.get, ih]

/-- A read after a write to the same key gives the value written. -/
theorem Store.get_set_same {α : Type} [DecidableEq α] (d : Nat → α) (m : Store α) (k : Nat) (a : α) :
    Store.get d (Store.set d m k a) k = a := by
  unfold Store.set
  split
  · rename_i h; rw [Store.get_drop_same, h]
  · exact Store.get_put_same d m k a

end Sys2Proof.Machine
end

