-- ==== Sys2Proof/Laws/State.lean ====
section
/-! SUPPORT. What each update of the state leaves alone, and what a register reads after a write: one lemma per field per
update, so that no proof unfolds a record update. -/
namespace Sys2Proof.Machine

/-! ### A register takes a word -/

@[simp] theorem State.setReg_now (s : State) (a : Nat) (w : Word) : (s.setReg a w).now = s.now := (rfl)
@[simp] theorem State.setReg_spine (s : State) (a : Nat) (w : Word) : (s.setReg a w).spine = s.spine := (rfl)
@[simp] theorem State.setReg_tb (s : State) (a : Nat) (w : Word) : (s.setReg a w).tb = s.tb := (rfl)
@[simp] theorem State.setReg_disc (s : State) (a : Nat) (w : Word) : (s.setReg a w).disc = s.disc := (rfl)
@[simp] theorem State.setReg_release (s : State) (a : Nat) (w : Word) : (s.setReg a w).release = s.release := (rfl)
@[simp] theorem State.setReg_chan (s : State) (a : Nat) (w : Word) : (s.setReg a w).chan = s.chan := (rfl)
@[simp] theorem State.setReg_grp (s : State) (a : Nat) (w : Word) : (s.setReg a w).grp = s.grp := (rfl)
@[simp] theorem State.setReg_fab (s : State) (a : Nat) (w : Word) : (s.setReg a w).fab = s.fab := (rfl)
@[simp] theorem State.setReg_tin (s : State) (a : Nat) (w : Word) : (s.setReg a w).tin = s.tin := (rfl)
@[simp] theorem State.setReg_slot (s : State) (a : Nat) (w : Word) : (s.setReg a w).slot = s.slot := (rfl)
@[simp] theorem State.setReg_sched (s : State) (a : Nat) (w : Word) : (s.setReg a w).sched = s.sched := (rfl)
@[simp] theorem State.setReg_eng (s : State) (a : Nat) (w : Word) : (s.setReg a w).eng = s.eng := (rfl)
@[simp] theorem State.setReg_mcl (s : State) (a : Nat) (w : Word) : (s.setReg a w).mcl = s.mcl := (rfl)
@[simp] theorem State.setReg_mcNew (s : State) (a : Nat) (w : Word) : (s.setReg a w).mcNew = s.mcNew := (rfl)
@[simp] theorem State.setReg_mcWait (s : State) (a : Nat) (w : Word) : (s.setReg a w).mcWait = s.mcWait := (rfl)
@[simp] theorem State.setReg_mcRun (s : State) (a : Nat) (w : Word) : (s.setReg a w).mcRun = s.mcRun := (rfl)
@[simp] theorem State.setReg_sprQ (s : State) (a : Nat) (w : Word) : (s.setReg a w).sprQ = s.sprQ := (rfl)
@[simp] theorem State.setReg_tko (s : State) (a : Nat) (w : Word) : (s.setReg a w).tko = s.tko := (rfl)
@[simp] theorem State.setReg_test (s : State) (a : Nat) (w : Word) : (s.setReg a w).test = s.test := (rfl)
@[simp] theorem State.setReg_suspEnt (s : State) (a : Nat) (w : Word) : (s.setReg a w).suspEnt = s.suspEnt := (rfl)
@[simp] theorem State.setReg_mem (s : State) (a : Nat) (w : Word) : (s.setReg a w).mem = s.mem := (rfl)
@[simp] theorem State.setReg_meshTest (s : State) (a : Nat) (w : Word) : (s.setReg a w).meshTest = s.meshTest := (rfl)
@[simp] theorem State.setReg_authAt (s : State) (a : Nat) (w : Word) : (s.setReg a w).authAt = s.authAt := (rfl)
@[simp] theorem State.setReg_calT0 (s : State) (a : Nat) (w : Word) : (s.setReg a w).calT0 = s.calT0 := (rfl)
@[simp] theorem State.setReg_kcomp (s : State) (a : Nat) (w : Word) : (s.setReg a w).kcomp = s.kcomp := (rfl)
@[simp] theorem State.setReg_sar (s : State) (a : Nat) (w : Word) : (s.setReg a w).sar = s.sar := (rfl)
@[simp] theorem State.setReg_sd (s : State) (a : Nat) (w : Word) : (s.setReg a w).sd = s.sd := (rfl)
@[simp] theorem State.setReg_mclk (s : State) (a : Nat) (w : Word) : (s.setReg a w).mclk = s.mclk := (rfl)
@[simp] theorem State.setReg_tail (s : State) (a : Nat) (w : Word) : (s.setReg a w).tail = s.tail := (rfl)
@[simp] theorem State.setReg_sp (s : State) (a : Nat) (w : Word) : (s.setReg a w).sp = s.sp := (rfl)
@[simp] theorem State.setReg_aev (s : State) (a : Nat) (w : Word) : (s.setReg a w).aev = s.aev := (rfl)
@[simp] theorem State.setReg_qrec (s : State) (a : Nat) (w : Word) : (s.setReg a w).qrec = s.qrec := (rfl)
@[simp] theorem State.setReg_vecReq (s : State) (a : Nat) (w : Word) : (s.setReg a w).vecReq = s.vecReq := (rfl)
@[simp] theorem State.setReg_host (s : State) (a : Nat) (w : Word) : (s.setReg a w).host = s.host := (rfl)
@[simp] theorem State.setReg_tp (s : State) (a : Nat) (w : Word) : (s.setReg a w).tp = s.tp := (rfl)
@[simp] theorem State.setReg_teth (s : State) (a : Nat) (w : Word) : (s.setReg a w).teth = s.teth := (rfl)
@[simp] theorem State.setReg_secH (s : State) (a : Nat) (w : Word) : (s.setReg a w).secH = s.secH := (rfl)
@[simp] theorem State.setReg_rel (s : State) (a : Nat) (w : Word) : (s.setReg a w).rel = s.rel := (rfl)
@[simp] theorem State.setReg_pw (s : State) (a : Nat) (w : Word) : (s.setReg a w).pw = s.pw := (rfl)
@[simp] theorem State.setReg_boot (s : State) (a : Nat) (w : Word) : (s.setReg a w).boot = s.boot := (rfl)
@[simp] theorem State.setReg_lastBeacon (s : State) (a : Nat) (w : Word) : (s.setReg a w).lastBeacon = s.lastBeacon := (rfl)
@[simp] theorem State.setReg_ecc (s : State) (a : Nat) (w : Word) : (s.setReg a w).ecc = s.ecc := (rfl)
@[simp] theorem State.setReg_resp (s : State) (a : Nat) (w : Word) : (s.setReg a w).resp = s.resp := (rfl)
@[simp] theorem State.setReg_answers (s : State) (a : Nat) (w : Word) : (s.setReg a w).answers = s.answers := (rfl)
@[simp] theorem State.setReg_freeCtr (s : State) (a : Nat) (w : Word) : (s.setReg a w).freeCtr = s.freeCtr := (rfl)
@[simp] theorem State.setReg_pending (s : State) (a : Nat) (w : Word) : (s.setReg a w).pending = s.pending := (rfl)

@[simp] theorem State.setReg_reg (s : State) (a : Nat) (w : Word) : (s.setReg a w).reg a = w :=
  Store.get_set_same regReset s.regs a w

theorem State.setReg_reg_ne (s : State) (a b : Nat) (w : Word) (h : b ≠ a) : (s.setReg a w).reg b = s.reg b :=
  Store.get_set_ne regReset s.regs a b w h

/-! ### A field takes a value -/

@[simp] theorem State.wr_now (s : State) (F : RField) (v n i : Nat) : (s.wr F v n i).now = s.now := (rfl)
@[simp] theorem State.wr_spine (s : State) (F : RField) (v n i : Nat) : (s.wr F v n i).spine = s.spine := (rfl)
@[simp] theorem State.wr_tb (s : State) (F : RField) (v n i : Nat) : (s.wr F v n i).tb = s.tb := (rfl)
@[simp] theorem State.wr_disc (s : State) (F : RField) (v n i : Nat) : (s.wr F v n i).disc = s.disc := (rfl)
@[simp] theorem State.wr_release (s : State) (F : RField) (v n i : Nat) : (s.wr F v n i).release = s.release := (rfl)
@[simp] theorem State.wr_chan (s : State) (F : RField) (v n i : Nat) : (s.wr F v n i).chan = s.chan := (rfl)
@[simp] theorem State.wr_grp (s : State) (F : RField) (v n i : Nat) : (s.wr F v n i).grp = s.grp := (rfl)
@[simp] theorem State.wr_fab (s : State) (F : RField) (v n i : Nat) : (s.wr F v n i).fab = s.fab := (rfl)
@[simp] theorem State.wr_tin (s : State) (F : RField) (v n i : Nat) : (s.wr F v n i).tin = s.tin := (rfl)
@[simp] theorem State.wr_slot (s : State) (F : RField) (v n i : Nat) : (s.wr F v n i).slot = s.slot := (rfl)
@[simp] theorem State.wr_sched (s : State) (F : RField) (v n i : Nat) : (s.wr F v n i).sched = s.sched := (rfl)
@[simp] theorem State.wr_eng (s : State) (F : RField) (v n i : Nat) : (s.wr F v n i).eng = s.eng := (rfl)
@[simp] theorem State.wr_mcl (s : State) (F : RField) (v n i : Nat) : (s.wr F v n i).mcl = s.mcl := (rfl)
@[simp] theorem State.wr_mcNew (s : State) (F : RField) (v n i : Nat) : (s.wr F v n i).mcNew = s.mcNew := (rfl)
@[simp] theorem State.wr_mcWait (s : State) (F : RField) (v n i : Nat) : (s.wr F v n i).mcWait = s.mcWait := (rfl)
@[simp] theorem State.wr_mcRun (s : State) (F : RField) (v n i : Nat) : (s.wr F v n i).mcRun = s.mcRun := (rfl)
@[simp] theorem State.wr_sprQ (s : State) (F : RField) (v n i : Nat) : (s.wr F v n i).sprQ = s.sprQ := (rfl)
@[simp] theorem State.wr_tko (s : State) (F : RField) (v n i : Nat) : (s.wr F v n i).tko = s.tko := (rfl)
@[simp] theorem State.wr_test (s : State) (F : RField) (v n i : Nat) : (s.wr F v n i).test = s.test := (rfl)
@[simp] theorem State.wr_suspEnt (s : State) (F : RField) (v n i : Nat) : (s.wr F v n i).suspEnt = s.suspEnt := (rfl)
@[simp] theorem State.wr_mem (s : State) (F : RField) (v n i : Nat) : (s.wr F v n i).mem = s.mem := (rfl)
@[simp] theorem State.wr_meshTest (s : State) (F : RField) (v n i : Nat) : (s.wr F v n i).meshTest = s.meshTest := (rfl)
@[simp] theorem State.wr_authAt (s : State) (F : RField) (v n i : Nat) : (s.wr F v n i).authAt = s.authAt := (rfl)
@[simp] theorem State.wr_calT0 (s : State) (F : RField) (v n i : Nat) : (s.wr F v n i).calT0 = s.calT0 := (rfl)
@[simp] theorem State.wr_kcomp (s : State) (F : RField) (v n i : Nat) : (s.wr F v n i).kcomp = s.kcomp := (rfl)
@[simp] theorem State.wr_sar (s : State) (F : RField) (v n i : Nat) : (s.wr F v n i).sar = s.sar := (rfl)
@[simp] theorem State.wr_sd (s : State) (F : RField) (v n i : Nat) : (s.wr F v n i).sd = s.sd := (rfl)
@[simp] theorem State.wr_mclk (s : State) (F : RField) (v n i : Nat) : (s.wr F v n i).mclk = s.mclk := (rfl)
@[simp] theorem State.wr_tail (s : State) (F : RField) (v n i : Nat) : (s.wr F v n i).tail = s.tail := (rfl)
@[simp] theorem State.wr_sp (s : State) (F : RField) (v n i : Nat) : (s.wr F v n i).sp = s.sp := (rfl)
@[simp] theorem State.wr_aev (s : State) (F : RField) (v n i : Nat) : (s.wr F v n i).aev = s.aev := (rfl)
@[simp] theorem State.wr_qrec (s : State) (F : RField) (v n i : Nat) : (s.wr F v n i).qrec = s.qrec := (rfl)
@[simp] theorem State.wr_vecReq (s : State) (F : RField) (v n i : Nat) : (s.wr F v n i).vecReq = s.vecReq := (rfl)
@[simp] theorem State.wr_host (s : State) (F : RField) (v n i : Nat) : (s.wr F v n i).host = s.host := (rfl)
@[simp] theorem State.wr_tp (s : State) (F : RField) (v n i : Nat) : (s.wr F v n i).tp = s.tp := (rfl)
@[simp] theorem State.wr_teth (s : State) (F : RField) (v n i : Nat) : (s.wr F v n i).teth = s.teth := (rfl)
@[simp] theorem State.wr_secH (s : State) (F : RField) (v n i : Nat) : (s.wr F v n i).secH = s.secH := (rfl)
@[simp] theorem State.wr_rel (s : State) (F : RField) (v n i : Nat) : (s.wr F v n i).rel = s.rel := (rfl)
@[simp] theorem State.wr_pw (s : State) (F : RField) (v n i : Nat) : (s.wr F v n i).pw = s.pw := (rfl)
@[simp] theorem State.wr_boot (s : State) (F : RField) (v n i : Nat) : (s.wr F v n i).boot = s.boot := (rfl)
@[simp] theorem State.wr_lastBeacon (s : State) (F : RField) (v n i : Nat) : (s.wr F v n i).lastBeacon = s.lastBeacon := (rfl)
@[simp] theorem State.wr_ecc (s : State) (F : RField) (v n i : Nat) : (s.wr F v n i).ecc = s.ecc := (rfl)
@[simp] theorem State.wr_resp (s : State) (F : RField) (v n i : Nat) : (s.wr F v n i).resp = s.resp := (rfl)
@[simp] theorem State.wr_answers (s : State) (F : RField) (v n i : Nat) : (s.wr F v n i).answers = s.answers := (rfl)
@[simp] theorem State.wr_freeCtr (s : State) (F : RField) (v n i : Nat) : (s.wr F v n i).freeCtr = s.freeCtr := (rfl)
@[simp] theorem State.wr_pending (s : State) (F : RField) (v n i : Nat) : (s.wr F v n i).pending = s.pending := (rfl)

theorem bitsAt_lt (w lo len : Nat) : bitsAt w lo len < 2 ^ len := Nat.mod_lt _ (Nat.two_pow_pos len)

theorem putBits_lt (w lo len v : Nat) (h : w < 2 ^ 32) (hl : lo + len ≤ 32) : putBits w lo len v < 2 ^ 32 := by
  unfold putBits
  obtain ⟨k, hk⟩ : ∃ k, 32 = lo + len + k := ⟨32 - (lo + len), by omega⟩
  have h1 : w / 2 ^ (lo + len) < 2 ^ k := Nat.div_lt_of_lt_mul (by rw [← pow_add, ← hk]; exact h)
  have h2 : v % 2 ^ len < 2 ^ len := Nat.mod_lt _ (Nat.two_pow_pos len)
  have h3 : w % 2 ^ lo < 2 ^ lo := Nat.mod_lt _ (Nat.two_pow_pos lo)
  have e : (2 : Nat) ^ 32 = 2 ^ k * (2 ^ lo * 2 ^ len) := by rw [hk]; ring
  have e2 : (2 : Nat) ^ (lo + len) = 2 ^ lo * 2 ^ len := pow_add 2 lo len
  have h4 : w / (2 ^ lo * 2 ^ len) + 1 ≤ 2 ^ k := by rw [← e2]; exact h1
  rw [e, e2]
  have h5 : v % 2 ^ len + 1 ≤ 2 ^ len := h2
  nlinarith [Nat.mul_le_mul_right (2 ^ lo * 2 ^ len) h4, Nat.mul_le_mul_right (2 ^ lo) h5]

/-- The field that is put reads back. -/
theorem bitsAt_putBits (w lo len v : Nat) : bitsAt (putBits w lo len v) lo len = v % 2 ^ len := by
  unfold bitsAt putBits
  have h3 : w % 2 ^ lo < 2 ^ lo := Nat.mod_lt _ (Nat.two_pow_pos lo)
  have e : w / 2 ^ (lo + len) * 2 ^ (lo + len) + v % 2 ^ len * 2 ^ lo + w % 2 ^ lo
      = w % 2 ^ lo + 2 ^ lo * (v % 2 ^ len + 2 ^ len * (w / 2 ^ (lo + len))) := by rw [pow_add]; ring
  rw [e, Nat.add_mul_div_left _ _ (Nat.two_pow_pos lo), Nat.div_eq_of_lt h3, Nat.zero_add, Nat.add_mul_mod_self_left,
    Nat.mod_mod]

/-- A field above the one that is put keeps its value. -/
theorem bitsAt_putBits_above (w lo len v lo' len' : Nat) (h : lo + len ≤ lo') :
    bitsAt (putBits w lo len v) lo' len' = bitsAt w lo' len' := by
  unfold bitsAt
  have key : putBits w lo len v / 2 ^ (lo + len) = w / 2 ^ (lo + len) := by
    unfold putBits
    have h2 : v % 2 ^ len + 1 ≤ 2 ^ len := Nat.mod_lt _ (Nat.two_pow_pos len)
    have h3 : w % 2 ^ lo < 2 ^ lo := Nat.mod_lt _ (Nat.two_pow_pos lo)
    have e2 : (2 : Nat) ^ (lo + len) = 2 ^ lo * 2 ^ len := pow_add 2 lo len
    have h4 : v % 2 ^ len * 2 ^ lo + w % 2 ^ lo < 2 ^ (lo + len) := by
      rw [e2]; nlinarith [Nat.mul_le_mul_right (2 ^ lo) h2]
    rw [Nat.add_assoc, Nat.add_comm, Nat.add_mul_div_right _ _ (Nat.two_pow_pos _), Nat.div_eq_of_lt h4, Nat.zero_add]
  obtain ⟨k, rfl⟩ : ∃ k, lo' = lo + len + k := ⟨lo' - (lo + len), by omega⟩
  rw [pow_add 2 (lo + len) k, ← Nat.div_div_eq_div_mul, key, Nat.div_div_eq_div_mul]

/-- A field below the one that is put keeps its value. -/
theorem bitsAt_putBits_below (w lo len v lo' len' : Nat) (h : lo' + len' ≤ lo) :
    bitsAt (putBits w lo len v) lo' len' = bitsAt w lo' len' := by
  unfold bitsAt
  have key : putBits w lo len v % 2 ^ lo = w % 2 ^ lo := by
    unfold putBits
    have e : w / 2 ^ (lo + len) * 2 ^ (lo + len) + v % 2 ^ len * 2 ^ lo + w % 2 ^ lo
        = w % 2 ^ lo + 2 ^ lo * (v % 2 ^ len + 2 ^ len * (w / 2 ^ (lo + len))) := by rw [pow_add]; ring
    rw [e, Nat.add_mul_mod_self_left, Nat.mod_mod]
  have low (x : Nat) : x / 2 ^ lo' % 2 ^ len' = x % 2 ^ lo / 2 ^ lo' % 2 ^ len' := by
    obtain ⟨k, rfl⟩ : ∃ k, lo = lo' + len' + k := ⟨lo - (lo' + len'), by omega⟩
    have : x % 2 ^ (lo' + len' + k) / 2 ^ lo' = x / 2 ^ lo' % 2 ^ (len' + k) := by
      rw [show lo' + len' + k = lo' + (len' + k) by ring, pow_add, Nat.mod_mul_right_div_self]
    rw [this, Nat.mod_mod_of_dvd _ (pow_dvd_pow 2 (Nat.le_add_right len' k))]
  rw [low, key, ← low]

theorem ofNat_putBits_toNat (w : Word) (lo len v : Nat) (h : lo + len ≤ 32) :
    (BitVec.ofNat 32 (putBits w.toNat lo len v)).toNat = putBits w.toNat lo len v := by
  rw [BitVec.toNat_ofNat, Nat.mod_eq_of_lt (putBits_lt _ _ _ _ w.isLt h)]

/-- A field reads the low bits of what was written into it. -/
theorem State.wr_rd (s : State) (F : RField) (v n i : Nat) (h : F.lo + F.len ≤ 32) :
    (s.wr F v n i).rd F n i = v % 2 ^ F.len := by
  unfold State.wr State.rd
  rw [State.setReg_reg, ofNat_putBits_toNat _ _ _ _ h, bitsAt_putBits]

theorem State.wr_reg_ne (s : State) (F : RField) (v n i a : Nat) (h : a ≠ F.adr n i) : (s.wr F v n i).reg a = s.reg a :=
  State.setReg_reg_ne s _ _ _ h

/-- A write of a field leaves every field of another register alone. -/
theorem State.wr_rd_ne (s : State) (F G : RField) (v n i m j : Nat) (h : G.adr m j ≠ F.adr n i) :
    (s.wr F v n i).rd G m j = s.rd G m j := by
  unfold State.rd
  rw [State.wr_reg_ne s F v n i _ h]

/-- A write of a field leaves the other fields of its register alone. -/
theorem State.wr_rd_other (s : State) (F G : RField) (v n i m j : Nat) (hl : F.lo + F.len ≤ 32)
    (h : G.lo + G.len ≤ F.lo ∨ F.lo + F.len ≤ G.lo) : (s.wr F v n i).rd G m j = s.rd G m j := by
  by_cases e : G.adr m j = F.adr n i
  · unfold State.wr State.rd
    rw [e, State.setReg_reg, ofNat_putBits_toNat _ _ _ _ hl]
    cases h with
    | inl h => exact bitsAt_putBits_below _ _ _ _ _ _ h
    | inr h => exact bitsAt_putBits_above _ _ _ _ _ _ h
  · exact State.wr_rd_ne s F G v n i m j e

theorem State.rd_lt (s : State) (F : RField) (n i : Nat) : s.rd F n i < 2 ^ F.len := bitsAt_lt _ _ _

/-- Registers read the same where the stored words are the same. -/
theorem State.reg_of_regs (s t : State) (a : Nat) (h : s.regs = t.regs) : s.reg a = t.reg a := by
  unfold State.reg; rw [h]

theorem State.rd_of_regs (s t : State) (F : RField) (n i : Nat) (h : s.regs = t.regs) : s.rd F n i = t.rd F n i := by
  unfold State.rd; rw [State.reg_of_regs s t _ h]

theorem State.rd_of_reg (s t : State) (F : RField) (n i : Nat) (h : s.reg (F.adr n i) = t.reg (F.adr n i)) :
    s.rd F n i = t.rd F n i := by
  unfold State.rd; rw [h]

/-- A saturating count. -/
theorem State.cnt_rd (s : State) (F : RField) (k n i : Nat) (h : F.lo + F.len ≤ 32) :
    (s.cnt F k n i).rd F n i = satTo (2 ^ F.len - 1) (s.rd F n i + k) := by
  unfold State.cnt
  rw [State.wr_rd _ _ _ _ _ h]
  apply Nat.mod_eq_of_lt
  have := Nat.two_pow_pos F.len
  unfold satTo
  split <;> omega

theorem State.cnt_rd_ne (s : State) (F G : RField) (k n i m j : Nat) (h : G.adr m j ≠ F.adr n i) :
    (s.cnt F k n i).rd G m j = s.rd G m j := State.wr_rd_ne _ _ _ _ _ _ _ _ h

theorem State.cnt_rd_other (s : State) (F G : RField) (k n i m j : Nat) (hl : F.lo + F.len ≤ 32)
    (h : G.lo + G.len ≤ F.lo ∨ F.lo + F.len ≤ G.lo) : (s.cnt F k n i).rd G m j = s.rd G m j :=
  State.wr_rd_other _ _ _ _ _ _ _ _ hl h

/-- A wrapping count. -/
theorem State.inc_rd (s : State) (F : RField) (k n i : Nat) (h : F.lo + F.len ≤ 32) :
    (s.inc F k n i).rd F n i = (s.rd F n i + k) % 2 ^ F.len := State.wr_rd _ _ _ _ _ h

/-! ### The other updates -/

@[simp] theorem State.withQueue_regs (s : State) (q : List Instr) : (s.withQueue q).regs = s.regs := (rfl)
@[simp] theorem State.withQueue_mem (s : State) (q : List Instr) : (s.withQueue q).mem = s.mem := (rfl)
@[simp] theorem State.withQueue_now (s : State) (q : List Instr) : (s.withQueue q).now = s.now := (rfl)
@[simp] theorem State.withQueue_resp (s : State) (q : List Instr) : (s.withQueue q).resp = s.resp := (rfl)
@[simp] theorem State.withQueue_freeCtr (s : State) (q : List Instr) : (s.withQueue q).freeCtr = s.freeCtr := (rfl)
@[simp] theorem State.withQueue_reg (s : State) (q : List Instr) (a : Nat) : (s.withQueue q).reg a = s.reg a := (rfl)
@[simp] theorem State.withQueue_rd (s : State) (q : List Instr) (F : RField) (u v : Nat) : (s.withQueue q).rd F u v = s.rd F u v := (rfl)
@[simp] theorem State.advance_regs (s : State) (t : Nat) : (s.advance t).regs = s.regs := (rfl)
@[simp] theorem State.advance_mem (s : State) (t : Nat) : (s.advance t).mem = s.mem := (rfl)
@[simp] theorem State.advance_pending (s : State) (t : Nat) : (s.advance t).pending = s.pending := (rfl)
@[simp] theorem State.advance_resp (s : State) (t : Nat) : (s.advance t).resp = s.resp := (rfl)
@[simp] theorem State.advance_freeCtr (s : State) (t : Nat) : (s.advance t).freeCtr = s.freeCtr := (rfl)
@[simp] theorem State.advance_reg (s : State) (t : Nat) (a : Nat) : (s.advance t).reg a = s.reg a := (rfl)
@[simp] theorem State.advance_rd (s : State) (t : Nat) (F : RField) (u v : Nat) : (s.advance t).rd F u v = s.rd F u v := (rfl)
@[simp] theorem State.answer_regs (s : State) (st : RespStatus) (d : List Nat) : (s.answer st d).regs = s.regs := (rfl)
@[simp] theorem State.answer_mem (s : State) (st : RespStatus) (d : List Nat) : (s.answer st d).mem = s.mem := (rfl)
@[simp] theorem State.answer_pending (s : State) (st : RespStatus) (d : List Nat) : (s.answer st d).pending = s.pending := (rfl)
@[simp] theorem State.answer_now (s : State) (st : RespStatus) (d : List Nat) : (s.answer st d).now = s.now := (rfl)
@[simp] theorem State.answer_freeCtr (s : State) (st : RespStatus) (d : List Nat) : (s.answer st d).freeCtr = s.freeCtr := (rfl)
@[simp] theorem State.answer_reg (s : State) (st : RespStatus) (d : List Nat) (a : Nat) : (s.answer st d).reg a = s.reg a := (rfl)
@[simp] theorem State.answer_rd (s : State) (st : RespStatus) (d : List Nat) (F : RField) (u v : Nat) : (s.answer st d).rd F u v = s.rd F u v := (rfl)
@[simp] theorem State.modK_regs (s : State) (k : Nat) (f : KComp → KComp) : (s.modK k f).regs = s.regs := (rfl)
@[simp] theorem State.modK_mem (s : State) (k : Nat) (f : KComp → KComp) : (s.modK k f).mem = s.mem := (rfl)
@[simp] theorem State.modK_pending (s : State) (k : Nat) (f : KComp → KComp) : (s.modK k f).pending = s.pending := (rfl)
@[simp] theorem State.modK_now (s : State) (k : Nat) (f : KComp → KComp) : (s.modK k f).now = s.now := (rfl)
@[simp] theorem State.modK_resp (s : State) (k : Nat) (f : KComp → KComp) : (s.modK k f).resp = s.resp := (rfl)
@[simp] theorem State.modK_freeCtr (s : State) (k : Nat) (f : KComp → KComp) : (s.modK k f).freeCtr = s.freeCtr := (rfl)
@[simp] theorem State.modK_reg (s : State) (k : Nat) (f : KComp → KComp) (a : Nat) : (s.modK k f).reg a = s.reg a := (rfl)
@[simp] theorem State.modK_rd (s : State) (k : Nat) (f : KComp → KComp) (F : RField) (u v : Nat) : (s.modK k f).rd F u v = s.rd F u v := (rfl)
@[simp] theorem State.modSd_regs (s : State) (i : Nat) (f : SdU → SdU) : (s.modSd i f).regs = s.regs := (rfl)
@[simp] theorem State.modSd_mem (s : State) (i : Nat) (f : SdU → SdU) : (s.modSd i f).mem = s.mem := (rfl)
@[simp] theorem State.modSd_pending (s : State) (i : Nat) (f : SdU → SdU) : (s.modSd i f).pending = s.pending := (rfl)
@[simp] theorem State.modSd_now (s : State) (i : Nat) (f : SdU → SdU) : (s.modSd i f).now = s.now := (rfl)
@[simp] theorem State.modSd_resp (s : State) (i : Nat) (f : SdU → SdU) : (s.modSd i f).resp = s.resp := (rfl)
@[simp] theorem State.modSd_freeCtr (s : State) (i : Nat) (f : SdU → SdU) : (s.modSd i f).freeCtr = s.freeCtr := (rfl)
@[simp] theorem State.modSd_reg (s : State) (i : Nat) (f : SdU → SdU) (a : Nat) : (s.modSd i f).reg a = s.reg a := (rfl)
@[simp] theorem State.modSd_rd (s : State) (i : Nat) (f : SdU → SdU) (F : RField) (u v : Nat) : (s.modSd i f).rd F u v = s.rd F u v := (rfl)
@[simp] theorem State.modMclk_regs (s : State) (j : Nat) (f : MClk → MClk) : (s.modMclk j f).regs = s.regs := (rfl)
@[simp] theorem State.modMclk_mem (s : State) (j : Nat) (f : MClk → MClk) : (s.modMclk j f).mem = s.mem := (rfl)
@[simp] theorem State.modMclk_pending (s : State) (j : Nat) (f : MClk → MClk) : (s.modMclk j f).pending = s.pending := (rfl)
@[simp] theorem State.modMclk_now (s : State) (j : Nat) (f : MClk → MClk) : (s.modMclk j f).now = s.now := (rfl)
@[simp] theorem State.modMclk_resp (s : State) (j : Nat) (f : MClk → MClk) : (s.modMclk j f).resp = s.resp := (rfl)
@[simp] theorem State.modMclk_freeCtr (s : State) (j : Nat) (f : MClk → MClk) : (s.modMclk j f).freeCtr = s.freeCtr := (rfl)
@[simp] theorem State.modMclk_reg (s : State) (j : Nat) (f : MClk → MClk) (a : Nat) : (s.modMclk j f).reg a = s.reg a := (rfl)
@[simp] theorem State.modMclk_rd (s : State) (j : Nat) (f : MClk → MClk) (F : RField) (u v : Nat) : (s.modMclk j f).rd F u v = s.rd F u v := (rfl)
@[simp] theorem State.modBoot_regs (s : State) (f : BootH → BootH) : (s.modBoot f).regs = s.regs := (rfl)
@[simp] theorem State.modBoot_mem (s : State) (f : BootH → BootH) : (s.modBoot f).mem = s.mem := (rfl)
@[simp] theorem State.modBoot_pending (s : State) (f : BootH → BootH) : (s.modBoot f).pending = s.pending := (rfl)
@[simp] theorem State.modBoot_now (s : State) (f : BootH → BootH) : (s.modBoot f).now = s.now := (rfl)
@[simp] theorem State.modBoot_resp (s : State) (f : BootH → BootH) : (s.modBoot f).resp = s.resp := (rfl)
@[simp] theorem State.modBoot_freeCtr (s : State) (f : BootH → BootH) : (s.modBoot f).freeCtr = s.freeCtr := (rfl)
@[simp] theorem State.modBoot_reg (s : State) (f : BootH → BootH) (a : Nat) : (s.modBoot f).reg a = s.reg a := (rfl)
@[simp] theorem State.modBoot_rd (s : State) (f : BootH → BootH) (F : RField) (u v : Nat) : (s.modBoot f).rd F u v = s.rd F u v := (rfl)
@[simp] theorem State.modDl_regs (s : State) (n : Nat) (f : DLine → DLine) : (s.modDl n f).regs = s.regs := (rfl)
@[simp] theorem State.modDl_mem (s : State) (n : Nat) (f : DLine → DLine) : (s.modDl n f).mem = s.mem := (rfl)
@[simp] theorem State.modDl_pending (s : State) (n : Nat) (f : DLine → DLine) : (s.modDl n f).pending = s.pending := (rfl)
@[simp] theorem State.modDl_now (s : State) (n : Nat) (f : DLine → DLine) : (s.modDl n f).now = s.now := (rfl)
@[simp] theorem State.modDl_resp (s : State) (n : Nat) (f : DLine → DLine) : (s.modDl n f).resp = s.resp := (rfl)
@[simp] theorem State.modDl_freeCtr (s : State) (n : Nat) (f : DLine → DLine) : (s.modDl n f).freeCtr = s.freeCtr := (rfl)
@[simp] theorem State.modDl_reg (s : State) (n : Nat) (f : DLine → DLine) (a : Nat) : (s.modDl n f).reg a = s.reg a := (rfl)
@[simp] theorem State.modDl_rd (s : State) (n : Nat) (f : DLine → DLine) (F : RField) (u v : Nat) : (s.modDl n f).rd F u v = s.rd F u v := (rfl)
@[simp] theorem State.modRun_regs (s : State) (n : Nat) (f : ChRun → ChRun) : (s.modRun n f).regs = s.regs := (rfl)
@[simp] theorem State.modRun_mem (s : State) (n : Nat) (f : ChRun → ChRun) : (s.modRun n f).mem = s.mem := (rfl)
@[simp] theorem State.modRun_pending (s : State) (n : Nat) (f : ChRun → ChRun) : (s.modRun n f).pending = s.pending := (rfl)
@[simp] theorem State.modRun_now (s : State) (n : Nat) (f : ChRun → ChRun) : (s.modRun n f).now = s.now := (rfl)
@[simp] theorem State.modRun_resp (s : State) (n : Nat) (f : ChRun → ChRun) : (s.modRun n f).resp = s.resp := (rfl)
@[simp] theorem State.modRun_freeCtr (s : State) (n : Nat) (f : ChRun → ChRun) : (s.modRun n f).freeCtr = s.freeCtr := (rfl)
@[simp] theorem State.modRun_reg (s : State) (n : Nat) (f : ChRun → ChRun) (a : Nat) : (s.modRun n f).reg a = s.reg a := (rfl)
@[simp] theorem State.modRun_rd (s : State) (n : Nat) (f : ChRun → ChRun) (F : RField) (u v : Nat) : (s.modRun n f).rd F u v = s.rd F u v := (rfl)
@[simp] theorem State.modPin_regs (s : State) (n : Nat) (f : ChPin → ChPin) : (s.modPin n f).regs = s.regs := (rfl)
@[simp] theorem State.modPin_mem (s : State) (n : Nat) (f : ChPin → ChPin) : (s.modPin n f).mem = s.mem := (rfl)
@[simp] theorem State.modPin_pending (s : State) (n : Nat) (f : ChPin → ChPin) : (s.modPin n f).pending = s.pending := (rfl)
@[simp] theorem State.modPin_now (s : State) (n : Nat) (f : ChPin → ChPin) : (s.modPin n f).now = s.now := (rfl)
@[simp] theorem State.modPin_resp (s : State) (n : Nat) (f : ChPin → ChPin) : (s.modPin n f).resp = s.resp := (rfl)
@[simp] theorem State.modPin_freeCtr (s : State) (n : Nat) (f : ChPin → ChPin) : (s.modPin n f).freeCtr = s.freeCtr := (rfl)
@[simp] theorem State.modPin_reg (s : State) (n : Nat) (f : ChPin → ChPin) (a : Nat) : (s.modPin n f).reg a = s.reg a := (rfl)
@[simp] theorem State.modPin_rd (s : State) (n : Nat) (f : ChPin → ChPin) (F : RField) (u v : Nat) : (s.modPin n f).rd F u v = s.rd F u v := (rfl)
@[simp] theorem State.modCap_regs (s : State) (n : Nat) (f : ChCap → ChCap) : (s.modCap n f).regs = s.regs := (rfl)
@[simp] theorem State.modCap_mem (s : State) (n : Nat) (f : ChCap → ChCap) : (s.modCap n f).mem = s.mem := (rfl)
@[simp] theorem State.modCap_pending (s : State) (n : Nat) (f : ChCap → ChCap) : (s.modCap n f).pending = s.pending := (rfl)
@[simp] theorem State.modCap_now (s : State) (n : Nat) (f : ChCap → ChCap) : (s.modCap n f).now = s.now := (rfl)
@[simp] theorem State.modCap_resp (s : State) (n : Nat) (f : ChCap → ChCap) : (s.modCap n f).resp = s.resp := (rfl)
@[simp] theorem State.modCap_freeCtr (s : State) (n : Nat) (f : ChCap → ChCap) : (s.modCap n f).freeCtr = s.freeCtr := (rfl)
@[simp] theorem State.modCap_reg (s : State) (n : Nat) (f : ChCap → ChCap) (a : Nat) : (s.modCap n f).reg a = s.reg a := (rfl)
@[simp] theorem State.modCap_rd (s : State) (n : Nat) (f : ChCap → ChCap) (F : RField) (u v : Nat) : (s.modCap n f).rd F u v = s.rd F u v := (rfl)
@[simp] theorem State.modCtm_regs (s : State) (n : Nat) (f : ChCtm → ChCtm) : (s.modCtm n f).regs = s.regs := (rfl)
@[simp] theorem State.modCtm_mem (s : State) (n : Nat) (f : ChCtm → ChCtm) : (s.modCtm n f).mem = s.mem := (rfl)
@[simp] theorem State.modCtm_pending (s : State) (n : Nat) (f : ChCtm → ChCtm) : (s.modCtm n f).pending = s.pending := (rfl)
@[simp] theorem State.modCtm_now (s : State) (n : Nat) (f : ChCtm → ChCtm) : (s.modCtm n f).now = s.now := (rfl)
@[simp] theorem State.modCtm_resp (s : State) (n : Nat) (f : ChCtm → ChCtm) : (s.modCtm n f).resp = s.resp := (rfl)
@[simp] theorem State.modCtm_freeCtr (s : State) (n : Nat) (f : ChCtm → ChCtm) : (s.modCtm n f).freeCtr = s.freeCtr := (rfl)
@[simp] theorem State.modCtm_reg (s : State) (n : Nat) (f : ChCtm → ChCtm) (a : Nat) : (s.modCtm n f).reg a = s.reg a := (rfl)
@[simp] theorem State.modCtm_rd (s : State) (n : Nat) (f : ChCtm → ChCtm) (F : RField) (u v : Nat) : (s.modCtm n f).rd F u v = s.rd F u v := (rfl)
@[simp] theorem State.modEn_regs (s : State) (g : Nat) (f : Eng → Eng) : (s.modEn g f).regs = s.regs := (rfl)
@[simp] theorem State.modEn_mem (s : State) (g : Nat) (f : Eng → Eng) : (s.modEn g f).mem = s.mem := (rfl)
@[simp] theorem State.modEn_pending (s : State) (g : Nat) (f : Eng → Eng) : (s.modEn g f).pending = s.pending := (rfl)
@[simp] theorem State.modEn_now (s : State) (g : Nat) (f : Eng → Eng) : (s.modEn g f).now = s.now := (rfl)
@[simp] theorem State.modEn_resp (s : State) (g : Nat) (f : Eng → Eng) : (s.modEn g f).resp = s.resp := (rfl)
@[simp] theorem State.modEn_freeCtr (s : State) (g : Nat) (f : Eng → Eng) : (s.modEn g f).freeCtr = s.freeCtr := (rfl)
@[simp] theorem State.modEn_reg (s : State) (g : Nat) (f : Eng → Eng) (a : Nat) : (s.modEn g f).reg a = s.reg a := (rfl)
@[simp] theorem State.modEn_rd (s : State) (g : Nat) (f : Eng → Eng) (F : RField) (u v : Nat) : (s.modEn g f).rd F u v = s.rd F u v := (rfl)
@[simp] theorem State.modSch_regs (s : State) (g : Nat) (f : Sched → Sched) : (s.modSch g f).regs = s.regs := (rfl)
@[simp] theorem State.modSch_mem (s : State) (g : Nat) (f : Sched → Sched) : (s.modSch g f).mem = s.mem := (rfl)
@[simp] theorem State.modSch_pending (s : State) (g : Nat) (f : Sched → Sched) : (s.modSch g f).pending = s.pending := (rfl)
@[simp] theorem State.modSch_now (s : State) (g : Nat) (f : Sched → Sched) : (s.modSch g f).now = s.now := (rfl)
@[simp] theorem State.modSch_resp (s : State) (g : Nat) (f : Sched → Sched) : (s.modSch g f).resp = s.resp := (rfl)
@[simp] theorem State.modSch_freeCtr (s : State) (g : Nat) (f : Sched → Sched) : (s.modSch g f).freeCtr = s.freeCtr := (rfl)
@[simp] theorem State.modSch_reg (s : State) (g : Nat) (f : Sched → Sched) (a : Nat) : (s.modSch g f).reg a = s.reg a := (rfl)
@[simp] theorem State.modSch_rd (s : State) (g : Nat) (f : Sched → Sched) (F : RField) (u v : Nat) : (s.modSch g f).rd F u v = s.rd F u v := (rfl)
@[simp] theorem State.modTs_regs (s : State) (g k : Nat) (f : TSlot → TSlot) : (s.modTs g k f).regs = s.regs := (rfl)
@[simp] theorem State.modTs_mem (s : State) (g k : Nat) (f : TSlot → TSlot) : (s.modTs g k f).mem = s.mem := (rfl)
@[simp] theorem State.modTs_pending (s : State) (g k : Nat) (f : TSlot → TSlot) : (s.modTs g k f).pending = s.pending := (rfl)
@[simp] theorem State.modTs_now (s : State) (g k : Nat) (f : TSlot → TSlot) : (s.modTs g k f).now = s.now := (rfl)
@[simp] theorem State.modTs_resp (s : State) (g k : Nat) (f : TSlot → TSlot) : (s.modTs g k f).resp = s.resp := (rfl)
@[simp] theorem State.modTs_freeCtr (s : State) (g k : Nat) (f : TSlot → TSlot) : (s.modTs g k f).freeCtr = s.freeCtr := (rfl)
@[simp] theorem State.modTs_reg (s : State) (g k : Nat) (f : TSlot → TSlot) (a : Nat) : (s.modTs g k f).reg a = s.reg a := (rfl)
@[simp] theorem State.modTs_rd (s : State) (g k : Nat) (f : TSlot → TSlot) (F : RField) (u v : Nat) : (s.modTs g k f).rd F u v = s.rd F u v := (rfl)
@[simp] theorem State.modTi_regs (s : State) (g k i : Nat) (f : TIn → TIn) : (s.modTi g k i f).regs = s.regs := (rfl)
@[simp] theorem State.modTi_mem (s : State) (g k i : Nat) (f : TIn → TIn) : (s.modTi g k i f).mem = s.mem := (rfl)
@[simp] theorem State.modTi_pending (s : State) (g k i : Nat) (f : TIn → TIn) : (s.modTi g k i f).pending = s.pending := (rfl)
@[simp] theorem State.modTi_now (s : State) (g k i : Nat) (f : TIn → TIn) : (s.modTi g k i f).now = s.now := (rfl)
@[simp] theorem State.modTi_resp (s : State) (g k i : Nat) (f : TIn → TIn) : (s.modTi g k i f).resp = s.resp := (rfl)
@[simp] theorem State.modTi_freeCtr (s : State) (g k i : Nat) (f : TIn → TIn) : (s.modTi g k i f).freeCtr = s.freeCtr := (rfl)
@[simp] theorem State.modTi_reg (s : State) (g k i : Nat) (f : TIn → TIn) (a : Nat) : (s.modTi g k i f).reg a = s.reg a := (rfl)
@[simp] theorem State.modTi_rd (s : State) (g k i : Nat) (f : TIn → TIn) (F : RField) (u v : Nat) : (s.modTi g k i f).rd F u v = s.rd F u v := (rfl)
@[simp] theorem State.modCfg_regs (s : State) (f : Nat) (g : CfgF → CfgF) : (s.modCfg f g).regs = s.regs := (rfl)
@[simp] theorem State.modCfg_mem (s : State) (f : Nat) (g : CfgF → CfgF) : (s.modCfg f g).mem = s.mem := (rfl)
@[simp] theorem State.modCfg_pending (s : State) (f : Nat) (g : CfgF → CfgF) : (s.modCfg f g).pending = s.pending := (rfl)
@[simp] theorem State.modCfg_now (s : State) (f : Nat) (g : CfgF → CfgF) : (s.modCfg f g).now = s.now := (rfl)
@[simp] theorem State.modCfg_resp (s : State) (f : Nat) (g : CfgF → CfgF) : (s.modCfg f g).resp = s.resp := (rfl)
@[simp] theorem State.modCfg_freeCtr (s : State) (f : Nat) (g : CfgF → CfgF) : (s.modCfg f g).freeCtr = s.freeCtr := (rfl)
@[simp] theorem State.modCfg_reg (s : State) (f : Nat) (g : CfgF → CfgF) (a : Nat) : (s.modCfg f g).reg a = s.reg a := (rfl)
@[simp] theorem State.modCfg_rd (s : State) (f : Nat) (g : CfgF → CfgF) (F : RField) (u v : Nat) : (s.modCfg f g).rd F u v = s.rd F u v := (rfl)
@[simp] theorem State.modTb_regs (s : State) (k : Nat) (f : TbH → TbH) : (s.modTb k f).regs = s.regs := (rfl)
@[simp] theorem State.modTb_mem (s : State) (k : Nat) (f : TbH → TbH) : (s.modTb k f).mem = s.mem := (rfl)
@[simp] theorem State.modTb_pending (s : State) (k : Nat) (f : TbH → TbH) : (s.modTb k f).pending = s.pending := (rfl)
@[simp] theorem State.modTb_now (s : State) (k : Nat) (f : TbH → TbH) : (s.modTb k f).now = s.now := (rfl)
@[simp] theorem State.modTb_resp (s : State) (k : Nat) (f : TbH → TbH) : (s.modTb k f).resp = s.resp := (rfl)
@[simp] theorem State.modTb_freeCtr (s : State) (k : Nat) (f : TbH → TbH) : (s.modTb k f).freeCtr = s.freeCtr := (rfl)
@[simp] theorem State.modTb_reg (s : State) (k : Nat) (f : TbH → TbH) (a : Nat) : (s.modTb k f).reg a = s.reg a := (rfl)
@[simp] theorem State.modTb_rd (s : State) (k : Nat) (f : TbH → TbH) (F : RField) (u v : Nat) : (s.modTb k f).rd F u v = s.rd F u v := (rfl)
@[simp] theorem State.modCh_regs (s : State) (n : Nat) (f : Chan → Chan) : (s.modCh n f).regs = s.regs := (rfl)
@[simp] theorem State.modCh_mem (s : State) (n : Nat) (f : Chan → Chan) : (s.modCh n f).mem = s.mem := (rfl)
@[simp] theorem State.modCh_pending (s : State) (n : Nat) (f : Chan → Chan) : (s.modCh n f).pending = s.pending := (rfl)
@[simp] theorem State.modCh_now (s : State) (n : Nat) (f : Chan → Chan) : (s.modCh n f).now = s.now := (rfl)
@[simp] theorem State.modCh_resp (s : State) (n : Nat) (f : Chan → Chan) : (s.modCh n f).resp = s.resp := (rfl)
@[simp] theorem State.modCh_freeCtr (s : State) (n : Nat) (f : Chan → Chan) : (s.modCh n f).freeCtr = s.freeCtr := (rfl)
@[simp] theorem State.modCh_reg (s : State) (n : Nat) (f : Chan → Chan) (a : Nat) : (s.modCh n f).reg a = s.reg a := (rfl)
@[simp] theorem State.modCh_rd (s : State) (n : Nat) (f : Chan → Chan) (F : RField) (u v : Nat) : (s.modCh n f).rd F u v = s.rd F u v := (rfl)
@[simp] theorem State.modGr_regs (s : State) (j : Nat) (f : Grp → Grp) : (s.modGr j f).regs = s.regs := (rfl)
@[simp] theorem State.modGr_mem (s : State) (j : Nat) (f : Grp → Grp) : (s.modGr j f).mem = s.mem := (rfl)
@[simp] theorem State.modGr_pending (s : State) (j : Nat) (f : Grp → Grp) : (s.modGr j f).pending = s.pending := (rfl)
@[simp] theorem State.modGr_now (s : State) (j : Nat) (f : Grp → Grp) : (s.modGr j f).now = s.now := (rfl)
@[simp] theorem State.modGr_resp (s : State) (j : Nat) (f : Grp → Grp) : (s.modGr j f).resp = s.resp := (rfl)
@[simp] theorem State.modGr_freeCtr (s : State) (j : Nat) (f : Grp → Grp) : (s.modGr j f).freeCtr = s.freeCtr := (rfl)
@[simp] theorem State.modGr_reg (s : State) (j : Nat) (f : Grp → Grp) (a : Nat) : (s.modGr j f).reg a = s.reg a := (rfl)
@[simp] theorem State.modGr_rd (s : State) (j : Nat) (f : Grp → Grp) (F : RField) (u v : Nat) : (s.modGr j f).rd F u v = s.rd F u v := (rfl)
@[simp] theorem State.modRouter_regs (s : State) (r : Nat) (f : Router → Router) : (s.modRouter r f).regs = s.regs := (rfl)
@[simp] theorem State.modRouter_mem (s : State) (r : Nat) (f : Router → Router) : (s.modRouter r f).mem = s.mem := (rfl)
@[simp] theorem State.modRouter_pending (s : State) (r : Nat) (f : Router → Router) : (s.modRouter r f).pending = s.pending := (rfl)
@[simp] theorem State.modRouter_now (s : State) (r : Nat) (f : Router → Router) : (s.modRouter r f).now = s.now := (rfl)
@[simp] theorem State.modRouter_resp (s : State) (r : Nat) (f : Router → Router) : (s.modRouter r f).resp = s.resp := (rfl)
@[simp] theorem State.modRouter_freeCtr (s : State) (r : Nat) (f : Router → Router) : (s.modRouter r f).freeCtr = s.freeCtr := (rfl)
@[simp] theorem State.modRouter_reg (s : State) (r : Nat) (f : Router → Router) (a : Nat) : (s.modRouter r f).reg a = s.reg a := (rfl)
@[simp] theorem State.modRouter_rd (s : State) (r : Nat) (f : Router → Router) (F : RField) (u v : Nat) : (s.modRouter r f).rd F u v = s.rd F u v := (rfl)
@[simp] theorem State.modSar_regs (s : State) (i : Nat) (f : SarU → SarU) : (s.modSar i f).regs = s.regs := (rfl)
@[simp] theorem State.modSar_mem (s : State) (i : Nat) (f : SarU → SarU) : (s.modSar i f).mem = s.mem := (rfl)
@[simp] theorem State.modSar_pending (s : State) (i : Nat) (f : SarU → SarU) : (s.modSar i f).pending = s.pending := (rfl)
@[simp] theorem State.modSar_now (s : State) (i : Nat) (f : SarU → SarU) : (s.modSar i f).now = s.now := (rfl)
@[simp] theorem State.modSar_resp (s : State) (i : Nat) (f : SarU → SarU) : (s.modSar i f).resp = s.resp := (rfl)
@[simp] theorem State.modSar_freeCtr (s : State) (i : Nat) (f : SarU → SarU) : (s.modSar i f).freeCtr = s.freeCtr := (rfl)
@[simp] theorem State.modSar_reg (s : State) (i : Nat) (f : SarU → SarU) (a : Nat) : (s.modSar i f).reg a = s.reg a := (rfl)
@[simp] theorem State.modSar_rd (s : State) (i : Nat) (f : SarU → SarU) (F : RField) (u v : Nat) : (s.modSar i f).rd F u v = s.rd F u v := (rfl)
@[simp] theorem State.modTail_regs (s : State) (k : Nat) (f : TailH → TailH) : (s.modTail k f).regs = s.regs := (rfl)
@[simp] theorem State.modTail_mem (s : State) (k : Nat) (f : TailH → TailH) : (s.modTail k f).mem = s.mem := (rfl)
@[simp] theorem State.modTail_pending (s : State) (k : Nat) (f : TailH → TailH) : (s.modTail k f).pending = s.pending := (rfl)
@[simp] theorem State.modTail_now (s : State) (k : Nat) (f : TailH → TailH) : (s.modTail k f).now = s.now := (rfl)
@[simp] theorem State.modTail_resp (s : State) (k : Nat) (f : TailH → TailH) : (s.modTail k f).resp = s.resp := (rfl)
@[simp] theorem State.modTail_freeCtr (s : State) (k : Nat) (f : TailH → TailH) : (s.modTail k f).freeCtr = s.freeCtr := (rfl)
@[simp] theorem State.modTail_reg (s : State) (k : Nat) (f : TailH → TailH) (a : Nat) : (s.modTail k f).reg a = s.reg a := (rfl)
@[simp] theorem State.modTail_rd (s : State) (k : Nat) (f : TailH → TailH) (F : RField) (u v : Nat) : (s.modTail k f).rd F u v = s.rd F u v := (rfl)
@[simp] theorem State.modSp_regs (s : State) (i : Nat) (f : SpH → SpH) : (s.modSp i f).regs = s.regs := (rfl)
@[simp] theorem State.modSp_mem (s : State) (i : Nat) (f : SpH → SpH) : (s.modSp i f).mem = s.mem := (rfl)
@[simp] theorem State.modSp_pending (s : State) (i : Nat) (f : SpH → SpH) : (s.modSp i f).pending = s.pending := (rfl)
@[simp] theorem State.modSp_now (s : State) (i : Nat) (f : SpH → SpH) : (s.modSp i f).now = s.now := (rfl)
@[simp] theorem State.modSp_resp (s : State) (i : Nat) (f : SpH → SpH) : (s.modSp i f).resp = s.resp := (rfl)
@[simp] theorem State.modSp_freeCtr (s : State) (i : Nat) (f : SpH → SpH) : (s.modSp i f).freeCtr = s.freeCtr := (rfl)
@[simp] theorem State.modSp_reg (s : State) (i : Nat) (f : SpH → SpH) (a : Nat) : (s.modSp i f).reg a = s.reg a := (rfl)
@[simp] theorem State.modSp_rd (s : State) (i : Nat) (f : SpH → SpH) (F : RField) (u v : Nat) : (s.modSp i f).rd F u v = s.rd F u v := (rfl)
@[simp] theorem State.modAev_regs (s : State) (i j : Nat) (f : SlotH → SlotH) : (s.modAev i j f).regs = s.regs := (rfl)
@[simp] theorem State.modAev_mem (s : State) (i j : Nat) (f : SlotH → SlotH) : (s.modAev i j f).mem = s.mem := (rfl)
@[simp] theorem State.modAev_pending (s : State) (i j : Nat) (f : SlotH → SlotH) : (s.modAev i j f).pending = s.pending := (rfl)
@[simp] theorem State.modAev_now (s : State) (i j : Nat) (f : SlotH → SlotH) : (s.modAev i j f).now = s.now := (rfl)
@[simp] theorem State.modAev_resp (s : State) (i j : Nat) (f : SlotH → SlotH) : (s.modAev i j f).resp = s.resp := (rfl)
@[simp] theorem State.modAev_freeCtr (s : State) (i j : Nat) (f : SlotH → SlotH) : (s.modAev i j f).freeCtr = s.freeCtr := (rfl)
@[simp] theorem State.modAev_reg (s : State) (i j : Nat) (f : SlotH → SlotH) (a : Nat) : (s.modAev i j f).reg a = s.reg a := (rfl)
@[simp] theorem State.modAev_rd (s : State) (i j : Nat) (f : SlotH → SlotH) (F : RField) (u v : Nat) : (s.modAev i j f).rd F u v = s.rd F u v := (rfl)
@[simp] theorem State.modTp_regs (s : State) (p : Nat) (f : TpH → TpH) : (s.modTp p f).regs = s.regs := (rfl)
@[simp] theorem State.modTp_mem (s : State) (p : Nat) (f : TpH → TpH) : (s.modTp p f).mem = s.mem := (rfl)
@[simp] theorem State.modTp_pending (s : State) (p : Nat) (f : TpH → TpH) : (s.modTp p f).pending = s.pending := (rfl)
@[simp] theorem State.modTp_now (s : State) (p : Nat) (f : TpH → TpH) : (s.modTp p f).now = s.now := (rfl)
@[simp] theorem State.modTp_resp (s : State) (p : Nat) (f : TpH → TpH) : (s.modTp p f).resp = s.resp := (rfl)
@[simp] theorem State.modTp_freeCtr (s : State) (p : Nat) (f : TpH → TpH) : (s.modTp p f).freeCtr = s.freeCtr := (rfl)
@[simp] theorem State.modTp_reg (s : State) (p : Nat) (f : TpH → TpH) (a : Nat) : (s.modTp p f).reg a = s.reg a := (rfl)
@[simp] theorem State.modTp_rd (s : State) (p : Nat) (f : TpH → TpH) (F : RField) (u v : Nat) : (s.modTp p f).rd F u v = s.rd F u v := (rfl)
@[simp] theorem State.modQc_regs (s : State) (q : Nat) (f : QCtx → QCtx) : (s.modQc q f).regs = s.regs := (rfl)
@[simp] theorem State.modQc_mem (s : State) (q : Nat) (f : QCtx → QCtx) : (s.modQc q f).mem = s.mem := (rfl)
@[simp] theorem State.modQc_pending (s : State) (q : Nat) (f : QCtx → QCtx) : (s.modQc q f).pending = s.pending := (rfl)
@[simp] theorem State.modQc_now (s : State) (q : Nat) (f : QCtx → QCtx) : (s.modQc q f).now = s.now := (rfl)
@[simp] theorem State.modQc_resp (s : State) (q : Nat) (f : QCtx → QCtx) : (s.modQc q f).resp = s.resp := (rfl)
@[simp] theorem State.modQc_freeCtr (s : State) (q : Nat) (f : QCtx → QCtx) : (s.modQc q f).freeCtr = s.freeCtr := (rfl)
@[simp] theorem State.modQc_reg (s : State) (q : Nat) (f : QCtx → QCtx) (a : Nat) : (s.modQc q f).reg a = s.reg a := (rfl)
@[simp] theorem State.modQc_rd (s : State) (q : Nat) (f : QCtx → QCtx) (F : RField) (u v : Nat) : (s.modQc q f).rd F u v = s.rd F u v := (rfl)
@[simp] theorem State.modPw_regs (s : State) (f : PwrH → PwrH) : (s.modPw f).regs = s.regs := (rfl)
@[simp] theorem State.modPw_mem (s : State) (f : PwrH → PwrH) : (s.modPw f).mem = s.mem := (rfl)
@[simp] theorem State.modPw_pending (s : State) (f : PwrH → PwrH) : (s.modPw f).pending = s.pending := (rfl)
@[simp] theorem State.modPw_now (s : State) (f : PwrH → PwrH) : (s.modPw f).now = s.now := (rfl)
@[simp] theorem State.modPw_resp (s : State) (f : PwrH → PwrH) : (s.modPw f).resp = s.resp := (rfl)
@[simp] theorem State.modPw_freeCtr (s : State) (f : PwrH → PwrH) : (s.modPw f).freeCtr = s.freeCtr := (rfl)
@[simp] theorem State.modPw_reg (s : State) (f : PwrH → PwrH) (a : Nat) : (s.modPw f).reg a = s.reg a := (rfl)
@[simp] theorem State.modPw_rd (s : State) (f : PwrH → PwrH) (F : RField) (u v : Nat) : (s.modPw f).rd F u v = s.rd F u v := (rfl)
@[simp] theorem State.modMsix_regs (s : State) (v : Nat) (f : MsixE → MsixE) : (s.modMsix v f).regs = s.regs := (rfl)
@[simp] theorem State.modMsix_mem (s : State) (v : Nat) (f : MsixE → MsixE) : (s.modMsix v f).mem = s.mem := (rfl)
@[simp] theorem State.modMsix_pending (s : State) (v : Nat) (f : MsixE → MsixE) : (s.modMsix v f).pending = s.pending := (rfl)
@[simp] theorem State.modMsix_now (s : State) (v : Nat) (f : MsixE → MsixE) : (s.modMsix v f).now = s.now := (rfl)
@[simp] theorem State.modMsix_resp (s : State) (v : Nat) (f : MsixE → MsixE) : (s.modMsix v f).resp = s.resp := (rfl)
@[simp] theorem State.modMsix_freeCtr (s : State) (v : Nat) (f : MsixE → MsixE) : (s.modMsix v f).freeCtr = s.freeCtr := (rfl)
@[simp] theorem State.modMsix_reg (s : State) (v : Nat) (f : MsixE → MsixE) (a : Nat) : (s.modMsix v f).reg a = s.reg a := (rfl)
@[simp] theorem State.modMsix_rd (s : State) (v : Nat) (f : MsixE → MsixE) (F : RField) (u v : Nat) : (s.modMsix v f).rd F u v = s.rd F u v := (rfl)
@[simp] theorem State.modMv_regs (s : State) (m : Nat) (f : MvH → MvH) : (s.modMv m f).regs = s.regs := (rfl)
@[simp] theorem State.modMv_mem (s : State) (m : Nat) (f : MvH → MvH) : (s.modMv m f).mem = s.mem := (rfl)
@[simp] theorem State.modMv_pending (s : State) (m : Nat) (f : MvH → MvH) : (s.modMv m f).pending = s.pending := (rfl)
@[simp] theorem State.modMv_now (s : State) (m : Nat) (f : MvH → MvH) : (s.modMv m f).now = s.now := (rfl)
@[simp] theorem State.modMv_resp (s : State) (m : Nat) (f : MvH → MvH) : (s.modMv m f).resp = s.resp := (rfl)
@[simp] theorem State.modMv_freeCtr (s : State) (m : Nat) (f : MvH → MvH) : (s.modMv m f).freeCtr = s.freeCtr := (rfl)
@[simp] theorem State.modMv_reg (s : State) (m : Nat) (f : MvH → MvH) (a : Nat) : (s.modMv m f).reg a = s.reg a := (rfl)
@[simp] theorem State.modMv_rd (s : State) (m : Nat) (f : MvH → MvH) (F : RField) (u v : Nat) : (s.modMv m f).rd F u v = s.rd F u v := (rfl)
@[simp] theorem State.modRel_regs (s : State) (f : RelH → RelH) : (s.modRel f).regs = s.regs := (rfl)
@[simp] theorem State.modRel_mem (s : State) (f : RelH → RelH) : (s.modRel f).mem = s.mem := (rfl)
@[simp] theorem State.modRel_pending (s : State) (f : RelH → RelH) : (s.modRel f).pending = s.pending := (rfl)
@[simp] theorem State.modRel_now (s : State) (f : RelH → RelH) : (s.modRel f).now = s.now := (rfl)
@[simp] theorem State.modRel_resp (s : State) (f : RelH → RelH) : (s.modRel f).resp = s.resp := (rfl)
@[simp] theorem State.modRel_freeCtr (s : State) (f : RelH → RelH) : (s.modRel f).freeCtr = s.freeCtr := (rfl)
@[simp] theorem State.modRel_reg (s : State) (f : RelH → RelH) (a : Nat) : (s.modRel f).reg a = s.reg a := (rfl)
@[simp] theorem State.modRel_rd (s : State) (f : RelH → RelH) (F : RField) (u v : Nat) : (s.modRel f).rd F u v = s.rd F u v := (rfl)
@[simp] theorem State.modMon_regs (s : State) (m : Nat) (f : MonH → MonH) : (s.modMon m f).regs = s.regs := (rfl)
@[simp] theorem State.modMon_mem (s : State) (m : Nat) (f : MonH → MonH) : (s.modMon m f).mem = s.mem := (rfl)
@[simp] theorem State.modMon_pending (s : State) (m : Nat) (f : MonH → MonH) : (s.modMon m f).pending = s.pending := (rfl)
@[simp] theorem State.modMon_now (s : State) (m : Nat) (f : MonH → MonH) : (s.modMon m f).now = s.now := (rfl)
@[simp] theorem State.modMon_resp (s : State) (m : Nat) (f : MonH → MonH) : (s.modMon m f).resp = s.resp := (rfl)
@[simp] theorem State.modMon_freeCtr (s : State) (m : Nat) (f : MonH → MonH) : (s.modMon m f).freeCtr = s.freeCtr := (rfl)
@[simp] theorem State.modMon_reg (s : State) (m : Nat) (f : MonH → MonH) (a : Nat) : (s.modMon m f).reg a = s.reg a := (rfl)
@[simp] theorem State.modMon_rd (s : State) (m : Nat) (f : MonH → MonH) (F : RField) (u v : Nat) : (s.modMon m f).rd F u v = s.rd F u v := (rfl)
@[simp] theorem State.modSec_regs (s : State) (f : SecH → SecH) : (s.modSec f).regs = s.regs := (rfl)
@[simp] theorem State.modSec_mem (s : State) (f : SecH → SecH) : (s.modSec f).mem = s.mem := (rfl)
@[simp] theorem State.modSec_pending (s : State) (f : SecH → SecH) : (s.modSec f).pending = s.pending := (rfl)
@[simp] theorem State.modSec_now (s : State) (f : SecH → SecH) : (s.modSec f).now = s.now := (rfl)
@[simp] theorem State.modSec_resp (s : State) (f : SecH → SecH) : (s.modSec f).resp = s.resp := (rfl)
@[simp] theorem State.modSec_freeCtr (s : State) (f : SecH → SecH) : (s.modSec f).freeCtr = s.freeCtr := (rfl)
@[simp] theorem State.modSec_reg (s : State) (f : SecH → SecH) (a : Nat) : (s.modSec f).reg a = s.reg a := (rfl)
@[simp] theorem State.modSec_rd (s : State) (f : SecH → SecH) (F : RField) (u v : Nat) : (s.modSec f).rd F u v = s.rd F u v := (rfl)
@[simp] theorem State.fresh_regs (s : State) : s.fresh.2.regs = s.regs := (rfl)
@[simp] theorem State.fresh_mem (s : State) : s.fresh.2.mem = s.mem := (rfl)
@[simp] theorem State.fresh_pending (s : State) : s.fresh.2.pending = s.pending := (rfl)
@[simp] theorem State.fresh_now (s : State) : s.fresh.2.now = s.now := (rfl)
@[simp] theorem State.fresh_resp (s : State) : s.fresh.2.resp = s.resp := (rfl)
@[simp] theorem State.cnt_now (s : State) (F : RField) (k n i : Nat) : (s.cnt F k n i).now = s.now := (rfl)
@[simp] theorem State.inc_now (s : State) (F : RField) (k n i : Nat) : (s.inc F k n i).now = s.now := (rfl)
@[simp] theorem State.wr64_now (s : State) (F G : RField) (v n i : Nat) : (s.wr64 F G v n i).now = s.now := (rfl)
@[simp] theorem State.wrs_now (s : State) (n : Nat) (l : List (RField × Nat)) : (s.wrs n l).now = s.now := by
  unfold State.wrs; induction l generalizing s with
  | nil => rfl
  | cons x r ih => rw [List.foldl_cons, ih, State.wr_now]
@[simp] theorem State.cnt_spine (s : State) (F : RField) (k n i : Nat) : (s.cnt F k n i).spine = s.spine := (rfl)
@[simp] theorem State.inc_spine (s : State) (F : RField) (k n i : Nat) : (s.inc F k n i).spine = s.spine := (rfl)
@[simp] theorem State.wr64_spine (s : State) (F G : RField) (v n i : Nat) : (s.wr64 F G v n i).spine = s.spine := (rfl)
@[simp] theorem State.wrs_spine (s : State) (n : Nat) (l : List (RField × Nat)) : (s.wrs n l).spine = s.spine := by
  unfold State.wrs; induction l generalizing s with
  | nil => rfl
  | cons x r ih => rw [List.foldl_cons, ih, State.wr_spine]
@[simp] theorem State.cnt_tb (s : State) (F : RField) (k n i : Nat) : (s.cnt F k n i).tb = s.tb := (rfl)
@[simp] theorem State.inc_tb (s : State) (F : RField) (k n i : Nat) : (s.inc F k n i).tb = s.tb := (rfl)
@[simp] theorem State.wr64_tb (s : State) (F G : RField) (v n i : Nat) : (s.wr64 F G v n i).tb = s.tb := (rfl)
@[simp] theorem State.wrs_tb (s : State) (n : Nat) (l : List (RField × Nat)) : (s.wrs n l).tb = s.tb := by
  unfold State.wrs; induction l generalizing s with
  | nil => rfl
  | cons x r ih => rw [List.foldl_cons, ih, State.wr_tb]
@[simp] theorem State.cnt_disc (s : State) (F : RField) (k n i : Nat) : (s.cnt F k n i).disc = s.disc := (rfl)
@[simp] theorem State.inc_disc (s : State) (F : RField) (k n i : Nat) : (s.inc F k n i).disc = s.disc := (rfl)
@[simp] theorem State.wr64_disc (s : State) (F G : RField) (v n i : Nat) : (s.wr64 F G v n i).disc = s.disc := (rfl)
@[simp] theorem State.wrs_disc (s : State) (n : Nat) (l : List (RField × Nat)) : (s.wrs n l).disc = s.disc := by
  unfold State.wrs; induction l generalizing s with
  | nil => rfl
  | cons x r ih => rw [List.foldl_cons, ih, State.wr_disc]
@[simp] theorem State.cnt_release (s : State) (F : RField) (k n i : Nat) : (s.cnt F k n i).release = s.release := (rfl)
@[simp] theorem State.inc_release (s : State) (F : RField) (k n i : Nat) : (s.inc F k n i).release = s.release := (rfl)
@[simp] theorem State.wr64_release (s : State) (F G : RField) (v n i : Nat) : (s.wr64 F G v n i).release = s.release := (rfl)
@[simp] theorem State.wrs_release (s : State) (n : Nat) (l : List (RField × Nat)) : (s.wrs n l).release = s.release := by
  unfold State.wrs; induction l generalizing s with
  | nil => rfl
  | cons x r ih => rw [List.foldl_cons, ih, State.wr_release]
@[simp] theorem State.cnt_chan (s : State) (F : RField) (k n i : Nat) : (s.cnt F k n i).chan = s.chan := (rfl)
@[simp] theorem State.inc_chan (s : State) (F : RField) (k n i : Nat) : (s.inc F k n i).chan = s.chan := (rfl)
@[simp] theorem State.wr64_chan (s : State) (F G : RField) (v n i : Nat) : (s.wr64 F G v n i).chan = s.chan := (rfl)
@[simp] theorem State.wrs_chan (s : State) (n : Nat) (l : List (RField × Nat)) : (s.wrs n l).chan = s.chan := by
  unfold State.wrs; induction l generalizing s with
  | nil => rfl
  | cons x r ih => rw [List.foldl_cons, ih, State.wr_chan]
@[simp] theorem State.cnt_grp (s : State) (F : RField) (k n i : Nat) : (s.cnt F k n i).grp = s.grp := (rfl)
@[simp] theorem State.inc_grp (s : State) (F : RField) (k n i : Nat) : (s.inc F k n i).grp = s.grp := (rfl)
@[simp] theorem State.wr64_grp (s : State) (F G : RField) (v n i : Nat) : (s.wr64 F G v n i).grp = s.grp := (rfl)
@[simp] theorem State.wrs_grp (s : State) (n : Nat) (l : List (RField × Nat)) : (s.wrs n l).grp = s.grp := by
  unfold State.wrs; induction l generalizing s with
  | nil => rfl
  | cons x r ih => rw [List.foldl_cons, ih, State.wr_grp]
@[simp] theorem State.cnt_fab (s : State) (F : RField) (k n i : Nat) : (s.cnt F k n i).fab = s.fab := (rfl)
@[simp] theorem State.inc_fab (s : State) (F : RField) (k n i : Nat) : (s.inc F k n i).fab = s.fab := (rfl)
@[simp] theorem State.wr64_fab (s : State) (F G : RField) (v n i : Nat) : (s.wr64 F G v n i).fab = s.fab := (rfl)
@[simp] theorem State.wrs_fab (s : State) (n : Nat) (l : List (RField × Nat)) : (s.wrs n l).fab = s.fab := by
  unfold State.wrs; induction l generalizing s with
  | nil => rfl
  | cons x r ih => rw [List.foldl_cons, ih, State.wr_fab]
@[simp] theorem State.cnt_tin (s : State) (F : RField) (k n i : Nat) : (s.cnt F k n i).tin = s.tin := (rfl)
@[simp] theorem State.inc_tin (s : State) (F : RField) (k n i : Nat) : (s.inc F k n i).tin = s.tin := (rfl)
@[simp] theorem State.wr64_tin (s : State) (F G : RField) (v n i : Nat) : (s.wr64 F G v n i).tin = s.tin := (rfl)
@[simp] theorem State.wrs_tin (s : State) (n : Nat) (l : List (RField × Nat)) : (s.wrs n l).tin = s.tin := by
  unfold State.wrs; induction l generalizing s with
  | nil => rfl
  | cons x r ih => rw [List.foldl_cons, ih, State.wr_tin]
@[simp] theorem State.cnt_slot (s : State) (F : RField) (k n i : Nat) : (s.cnt F k n i).slot = s.slot := (rfl)
@[simp] theorem State.inc_slot (s : State) (F : RField) (k n i : Nat) : (s.inc F k n i).slot = s.slot := (rfl)
@[simp] theorem State.wr64_slot (s : State) (F G : RField) (v n i : Nat) : (s.wr64 F G v n i).slot = s.slot := (rfl)
@[simp] theorem State.wrs_slot (s : State) (n : Nat) (l : List (RField × Nat)) : (s.wrs n l).slot = s.slot := by
  unfold State.wrs; induction l generalizing s with
  | nil => rfl
  | cons x r ih => rw [List.foldl_cons, ih, State.wr_slot]
@[simp] theorem State.cnt_sched (s : State) (F : RField) (k n i : Nat) : (s.cnt F k n i).sched = s.sched := (rfl)
@[simp] theorem State.inc_sched (s : State) (F : RField) (k n i : Nat) : (s.inc F k n i).sched = s.sched := (rfl)
@[simp] theorem State.wr64_sched (s : State) (F G : RField) (v n i : Nat) : (s.wr64 F G v n i).sched = s.sched := (rfl)
@[simp] theorem State.wrs_sched (s : State) (n : Nat) (l : List (RField × Nat)) : (s.wrs n l).sched = s.sched := by
  unfold State.wrs; induction l generalizing s with
  | nil => rfl
  | cons x r ih => rw [List.foldl_cons, ih, State.wr_sched]
@[simp] theorem State.cnt_eng (s : State) (F : RField) (k n i : Nat) : (s.cnt F k n i).eng = s.eng := (rfl)
@[simp] theorem State.inc_eng (s : State) (F : RField) (k n i : Nat) : (s.inc F k n i).eng = s.eng := (rfl)
@[simp] theorem State.wr64_eng (s : State) (F G : RField) (v n i : Nat) : (s.wr64 F G v n i).eng = s.eng := (rfl)
@[simp] theorem State.wrs_eng (s : State) (n : Nat) (l : List (RField × Nat)) : (s.wrs n l).eng = s.eng := by
  unfold State.wrs; induction l generalizing s with
  | nil => rfl
  | cons x r ih => rw [List.foldl_cons, ih, State.wr_eng]
@[simp] theorem State.cnt_mcl (s : State) (F : RField) (k n i : Nat) : (s.cnt F k n i).mcl = s.mcl := (rfl)
@[simp] theorem State.inc_mcl (s : State) (F : RField) (k n i : Nat) : (s.inc F k n i).mcl = s.mcl := (rfl)
@[simp] theorem State.wr64_mcl (s : State) (F G : RField) (v n i : Nat) : (s.wr64 F G v n i).mcl = s.mcl := (rfl)
@[simp] theorem State.wrs_mcl (s : State) (n : Nat) (l : List (RField × Nat)) : (s.wrs n l).mcl = s.mcl := by
  unfold State.wrs; induction l generalizing s with
  | nil => rfl
  | cons x r ih => rw [List.foldl_cons, ih, State.wr_mcl]
@[simp] theorem State.cnt_mcNew (s : State) (F : RField) (k n i : Nat) : (s.cnt F k n i).mcNew = s.mcNew := (rfl)
@[simp] theorem State.inc_mcNew (s : State) (F : RField) (k n i : Nat) : (s.inc F k n i).mcNew = s.mcNew := (rfl)
@[simp] theorem State.wr64_mcNew (s : State) (F G : RField) (v n i : Nat) : (s.wr64 F G v n i).mcNew = s.mcNew := (rfl)
@[simp] theorem State.wrs_mcNew (s : State) (n : Nat) (l : List (RField × Nat)) : (s.wrs n l).mcNew = s.mcNew := by
  unfold State.wrs; induction l generalizing s with
  | nil => rfl
  | cons x r ih => rw [List.foldl_cons, ih, State.wr_mcNew]
@[simp] theorem State.cnt_mcWait (s : State) (F : RField) (k n i : Nat) : (s.cnt F k n i).mcWait = s.mcWait := (rfl)
@[simp] theorem State.inc_mcWait (s : State) (F : RField) (k n i : Nat) : (s.inc F k n i).mcWait = s.mcWait := (rfl)
@[simp] theorem State.wr64_mcWait (s : State) (F G : RField) (v n i : Nat) : (s.wr64 F G v n i).mcWait = s.mcWait := (rfl)
@[simp] theorem State.wrs_mcWait (s : State) (n : Nat) (l : List (RField × Nat)) : (s.wrs n l).mcWait = s.mcWait := by
  unfold State.wrs; induction l generalizing s with
  | nil => rfl
  | cons x r ih => rw [List.foldl_cons, ih, State.wr_mcWait]
@[simp] theorem State.cnt_mcRun (s : State) (F : RField) (k n i : Nat) : (s.cnt F k n i).mcRun = s.mcRun := (rfl)
@[simp] theorem State.inc_mcRun (s : State) (F : RField) (k n i : Nat) : (s.inc F k n i).mcRun = s.mcRun := (rfl)
@[simp] theorem State.wr64_mcRun (s : State) (F G : RField) (v n i : Nat) : (s.wr64 F G v n i).mcRun = s.mcRun := (rfl)
@[simp] theorem State.wrs_mcRun (s : State) (n : Nat) (l : List (RField × Nat)) : (s.wrs n l).mcRun = s.mcRun := by
  unfold State.wrs; induction l generalizing s with
  | nil => rfl
  | cons x r ih => rw [List.foldl_cons, ih, State.wr_mcRun]
@[simp] theorem State.cnt_sprQ (s : State) (F : RField) (k n i : Nat) : (s.cnt F k n i).sprQ = s.sprQ := (rfl)
@[simp] theorem State.inc_sprQ (s : State) (F : RField) (k n i : Nat) : (s.inc F k n i).sprQ = s.sprQ := (rfl)
@[simp] theorem State.wr64_sprQ (s : State) (F G : RField) (v n i : Nat) : (s.wr64 F G v n i).sprQ = s.sprQ := (rfl)
@[simp] theorem State.wrs_sprQ (s : State) (n : Nat) (l : List (RField × Nat)) : (s.wrs n l).sprQ = s.sprQ := by
  unfold State.wrs; induction l generalizing s with
  | nil => rfl
  | cons x r ih => rw [List.foldl_cons, ih, State.wr_sprQ]
@[simp] theorem State.cnt_tko (s : State) (F : RField) (k n i : Nat) : (s.cnt F k n i).tko = s.tko := (rfl)
@[simp] theorem State.inc_tko (s : State) (F : RField) (k n i : Nat) : (s.inc F k n i).tko = s.tko := (rfl)
@[simp] theorem State.wr64_tko (s : State) (F G : RField) (v n i : Nat) : (s.wr64 F G v n i).tko = s.tko := (rfl)
@[simp] theorem State.wrs_tko (s : State) (n : Nat) (l : List (RField × Nat)) : (s.wrs n l).tko = s.tko := by
  unfold State.wrs; induction l generalizing s with
  | nil => rfl
  | cons x r ih => rw [List.foldl_cons, ih, State.wr_tko]
@[simp] theorem State.cnt_test (s : State) (F : RField) (k n i : Nat) : (s.cnt F k n i).test = s.test := (rfl)
@[simp] theorem State.inc_test (s : State) (F : RField) (k n i : Nat) : (s.inc F k n i).test = s.test := (rfl)
@[simp] theorem State.wr64_test (s : State) (F G : RField) (v n i : Nat) : (s.wr64 F G v n i).test = s.test := (rfl)
@[simp] theorem State.wrs_test (s : State) (n : Nat) (l : List (RField × Nat)) : (s.wrs n l).test = s.test := by
  unfold State.wrs; induction l generalizing s with
  | nil => rfl
  | cons x r ih => rw [List.foldl_cons, ih, State.wr_test]
@[simp] theorem State.cnt_suspEnt (s : State) (F : RField) (k n i : Nat) : (s.cnt F k n i).suspEnt = s.suspEnt := (rfl)
@[simp] theorem State.inc_suspEnt (s : State) (F : RField) (k n i : Nat) : (s.inc F k n i).suspEnt = s.suspEnt := (rfl)
@[simp] theorem State.wr64_suspEnt (s : State) (F G : RField) (v n i : Nat) : (s.wr64 F G v n i).suspEnt = s.suspEnt := (rfl)
@[simp] theorem State.wrs_suspEnt (s : State) (n : Nat) (l : List (RField × Nat)) : (s.wrs n l).suspEnt = s.suspEnt := by
  unfold State.wrs; induction l generalizing s with
  | nil => rfl
  | cons x r ih => rw [List.foldl_cons, ih, State.wr_suspEnt]
@[simp] theorem State.cnt_mem (s : State) (F : RField) (k n i : Nat) : (s.cnt F k n i).mem = s.mem := (rfl)
@[simp] theorem State.inc_mem (s : State) (F : RField) (k n i : Nat) : (s.inc F k n i).mem = s.mem := (rfl)
@[simp] theorem State.wr64_mem (s : State) (F G : RField) (v n i : Nat) : (s.wr64 F G v n i).mem = s.mem := (rfl)
@[simp] theorem State.wrs_mem (s : State) (n : Nat) (l : List (RField × Nat)) : (s.wrs n l).mem = s.mem := by
  unfold State.wrs; induction l generalizing s with
  | nil => rfl
  | cons x r ih => rw [List.foldl_cons, ih, State.wr_mem]
@[simp] theorem State.cnt_meshTest (s : State) (F : RField) (k n i : Nat) : (s.cnt F k n i).meshTest = s.meshTest := (rfl)
@[simp] theorem State.inc_meshTest (s : State) (F : RField) (k n i : Nat) : (s.inc F k n i).meshTest = s.meshTest := (rfl)
@[simp] theorem State.wr64_meshTest (s : State) (F G : RField) (v n i : Nat) : (s.wr64 F G v n i).meshTest = s.meshTest := (rfl)
@[simp] theorem State.wrs_meshTest (s : State) (n : Nat) (l : List (RField × Nat)) : (s.wrs n l).meshTest = s.meshTest := by
  unfold State.wrs; induction l generalizing s with
  | nil => rfl
  | cons x r ih => rw [List.foldl_cons, ih, State.wr_meshTest]
@[simp] theorem State.cnt_authAt (s : State) (F : RField) (k n i : Nat) : (s.cnt F k n i).authAt = s.authAt := (rfl)
@[simp] theorem State.inc_authAt (s : State) (F : RField) (k n i : Nat) : (s.inc F k n i).authAt = s.authAt := (rfl)
@[simp] theorem State.wr64_authAt (s : State) (F G : RField) (v n i : Nat) : (s.wr64 F G v n i).authAt = s.authAt := (rfl)
@[simp] theorem State.wrs_authAt (s : State) (n : Nat) (l : List (RField × Nat)) : (s.wrs n l).authAt = s.authAt := by
  unfold State.wrs; induction l generalizing s with
  | nil => rfl
  | cons x r ih => rw [List.foldl_cons, ih, State.wr_authAt]
@[simp] theorem State.cnt_calT0 (s : State) (F : RField) (k n i : Nat) : (s.cnt F k n i).calT0 = s.calT0 := (rfl)
@[simp] theorem State.inc_calT0 (s : State) (F : RField) (k n i : Nat) : (s.inc F k n i).calT0 = s.calT0 := (rfl)
@[simp] theorem State.wr64_calT0 (s : State) (F G : RField) (v n i : Nat) : (s.wr64 F G v n i).calT0 = s.calT0 := (rfl)
@[simp] theorem State.wrs_calT0 (s : State) (n : Nat) (l : List (RField × Nat)) : (s.wrs n l).calT0 = s.calT0 := by
  unfold State.wrs; induction l generalizing s with
  | nil => rfl
  | cons x r ih => rw [List.foldl_cons, ih, State.wr_calT0]
@[simp] theorem State.cnt_kcomp (s : State) (F : RField) (k n i : Nat) : (s.cnt F k n i).kcomp = s.kcomp := (rfl)
@[simp] theorem State.inc_kcomp (s : State) (F : RField) (k n i : Nat) : (s.inc F k n i).kcomp = s.kcomp := (rfl)
@[simp] theorem State.wr64_kcomp (s : State) (F G : RField) (v n i : Nat) : (s.wr64 F G v n i).kcomp = s.kcomp := (rfl)
@[simp] theorem State.wrs_kcomp (s : State) (n : Nat) (l : List (RField × Nat)) : (s.wrs n l).kcomp = s.kcomp := by
  unfold State.wrs; induction l generalizing s with
  | nil => rfl
  | cons x r ih => rw [List.foldl_cons, ih, State.wr_kcomp]
@[simp] theorem State.cnt_sar (s : State) (F : RField) (k n i : Nat) : (s.cnt F k n i).sar = s.sar := (rfl)
@[simp] theorem State.inc_sar (s : State) (F : RField) (k n i : Nat) : (s.inc F k n i).sar = s.sar := (rfl)
@[simp] theorem State.wr64_sar (s : State) (F G : RField) (v n i : Nat) : (s.wr64 F G v n i).sar = s.sar := (rfl)
@[simp] theorem State.wrs_sar (s : State) (n : Nat) (l : List (RField × Nat)) : (s.wrs n l).sar = s.sar := by
  unfold State.wrs; induction l generalizing s with
  | nil => rfl
  | cons x r ih => rw [List.foldl_cons, ih, State.wr_sar]
@[simp] theorem State.cnt_sd (s : State) (F : RField) (k n i : Nat) : (s.cnt F k n i).sd = s.sd := (rfl)
@[simp] theorem State.inc_sd (s : State) (F : RField) (k n i : Nat) : (s.inc F k n i).sd = s.sd := (rfl)
@[simp] theorem State.wr64_sd (s : State) (F G : RField) (v n i : Nat) : (s.wr64 F G v n i).sd = s.sd := (rfl)
@[simp] theorem State.wrs_sd (s : State) (n : Nat) (l : List (RField × Nat)) : (s.wrs n l).sd = s.sd := by
  unfold State.wrs; induction l generalizing s with
  | nil => rfl
  | cons x r ih => rw [List.foldl_cons, ih, State.wr_sd]
@[simp] theorem State.cnt_mclk (s : State) (F : RField) (k n i : Nat) : (s.cnt F k n i).mclk = s.mclk := (rfl)
@[simp] theorem State.inc_mclk (s : State) (F : RField) (k n i : Nat) : (s.inc F k n i).mclk = s.mclk := (rfl)
@[simp] theorem State.wr64_mclk (s : State) (F G : RField) (v n i : Nat) : (s.wr64 F G v n i).mclk = s.mclk := (rfl)
@[simp] theorem State.wrs_mclk (s : State) (n : Nat) (l : List (RField × Nat)) : (s.wrs n l).mclk = s.mclk := by
  unfold State.wrs; induction l generalizing s with
  | nil => rfl
  | cons x r ih => rw [List.foldl_cons, ih, State.wr_mclk]
@[simp] theorem State.cnt_tail (s : State) (F : RField) (k n i : Nat) : (s.cnt F k n i).tail = s.tail := (rfl)
@[simp] theorem State.inc_tail (s : State) (F : RField) (k n i : Nat) : (s.inc F k n i).tail = s.tail := (rfl)
@[simp] theorem State.wr64_tail (s : State) (F G : RField) (v n i : Nat) : (s.wr64 F G v n i).tail = s.tail := (rfl)
@[simp] theorem State.wrs_tail (s : State) (n : Nat) (l : List (RField × Nat)) : (s.wrs n l).tail = s.tail := by
  unfold State.wrs; induction l generalizing s with
  | nil => rfl
  | cons x r ih => rw [List.foldl_cons, ih, State.wr_tail]
@[simp] theorem State.cnt_sp (s : State) (F : RField) (k n i : Nat) : (s.cnt F k n i).sp = s.sp := (rfl)
@[simp] theorem State.inc_sp (s : State) (F : RField) (k n i : Nat) : (s.inc F k n i).sp = s.sp := (rfl)
@[simp] theorem State.wr64_sp (s : State) (F G : RField) (v n i : Nat) : (s.wr64 F G v n i).sp = s.sp := (rfl)
@[simp] theorem State.wrs_sp (s : State) (n : Nat) (l : List (RField × Nat)) : (s.wrs n l).sp = s.sp := by
  unfold State.wrs; induction l generalizing s with
  | nil => rfl
  | cons x r ih => rw [List.foldl_cons, ih, State.wr_sp]
@[simp] theorem State.cnt_aev (s : State) (F : RField) (k n i : Nat) : (s.cnt F k n i).aev = s.aev := (rfl)
@[simp] theorem State.inc_aev (s : State) (F : RField) (k n i : Nat) : (s.inc F k n i).aev = s.aev := (rfl)
@[simp] theorem State.wr64_aev (s : State) (F G : RField) (v n i : Nat) : (s.wr64 F G v n i).aev = s.aev := (rfl)
@[simp] theorem State.wrs_aev (s : State) (n : Nat) (l : List (RField × Nat)) : (s.wrs n l).aev = s.aev := by
  unfold State.wrs; induction l generalizing s with
  | nil => rfl
  | cons x r ih => rw [List.foldl_cons, ih, State.wr_aev]
@[simp] theorem State.cnt_qrec (s : State) (F : RField) (k n i : Nat) : (s.cnt F k n i).qrec = s.qrec := (rfl)
@[simp] theorem State.inc_qrec (s : State) (F : RField) (k n i : Nat) : (s.inc F k n i).qrec = s.qrec := (rfl)
@[simp] theorem State.wr64_qrec (s : State) (F G : RField) (v n i : Nat) : (s.wr64 F G v n i).qrec = s.qrec := (rfl)
@[simp] theorem State.wrs_qrec (s : State) (n : Nat) (l : List (RField × Nat)) : (s.wrs n l).qrec = s.qrec := by
  unfold State.wrs; induction l generalizing s with
  | nil => rfl
  | cons x r ih => rw [List.foldl_cons, ih, State.wr_qrec]
@[simp] theorem State.cnt_vecReq (s : State) (F : RField) (k n i : Nat) : (s.cnt F k n i).vecReq = s.vecReq := (rfl)
@[simp] theorem State.inc_vecReq (s : State) (F : RField) (k n i : Nat) : (s.inc F k n i).vecReq = s.vecReq := (rfl)
@[simp] theorem State.wr64_vecReq (s : State) (F G : RField) (v n i : Nat) : (s.wr64 F G v n i).vecReq = s.vecReq := (rfl)
@[simp] theorem State.wrs_vecReq (s : State) (n : Nat) (l : List (RField × Nat)) : (s.wrs n l).vecReq = s.vecReq := by
  unfold State.wrs; induction l generalizing s with
  | nil => rfl
  | cons x r ih => rw [List.foldl_cons, ih, State.wr_vecReq]
@[simp] theorem State.cnt_host (s : State) (F : RField) (k n i : Nat) : (s.cnt F k n i).host = s.host := (rfl)
@[simp] theorem State.inc_host (s : State) (F : RField) (k n i : Nat) : (s.inc F k n i).host = s.host := (rfl)
@[simp] theorem State.wr64_host (s : State) (F G : RField) (v n i : Nat) : (s.wr64 F G v n i).host = s.host := (rfl)
@[simp] theorem State.wrs_host (s : State) (n : Nat) (l : List (RField × Nat)) : (s.wrs n l).host = s.host := by
  unfold State.wrs; induction l generalizing s with
  | nil => rfl
  | cons x r ih => rw [List.foldl_cons, ih, State.wr_host]
@[simp] theorem State.cnt_tp (s : State) (F : RField) (k n i : Nat) : (s.cnt F k n i).tp = s.tp := (rfl)
@[simp] theorem State.inc_tp (s : State) (F : RField) (k n i : Nat) : (s.inc F k n i).tp = s.tp := (rfl)
@[simp] theorem State.wr64_tp (s : State) (F G : RField) (v n i : Nat) : (s.wr64 F G v n i).tp = s.tp := (rfl)
@[simp] theorem State.wrs_tp (s : State) (n : Nat) (l : List (RField × Nat)) : (s.wrs n l).tp = s.tp := by
  unfold State.wrs; induction l generalizing s with
  | nil => rfl
  | cons x r ih => rw [List.foldl_cons, ih, State.wr_tp]
@[simp] theorem State.cnt_teth (s : State) (F : RField) (k n i : Nat) : (s.cnt F k n i).teth = s.teth := (rfl)
@[simp] theorem State.inc_teth (s : State) (F : RField) (k n i : Nat) : (s.inc F k n i).teth = s.teth := (rfl)
@[simp] theorem State.wr64_teth (s : State) (F G : RField) (v n i : Nat) : (s.wr64 F G v n i).teth = s.teth := (rfl)
@[simp] theorem State.wrs_teth (s : State) (n : Nat) (l : List (RField × Nat)) : (s.wrs n l).teth = s.teth := by
  unfold State.wrs; induction l generalizing s with
  | nil => rfl
  | cons x r ih => rw [List.foldl_cons, ih, State.wr_teth]
@[simp] theorem State.cnt_secH (s : State) (F : RField) (k n i : Nat) : (s.cnt F k n i).secH = s.secH := (rfl)
@[simp] theorem State.inc_secH (s : State) (F : RField) (k n i : Nat) : (s.inc F k n i).secH = s.secH := (rfl)
@[simp] theorem State.wr64_secH (s : State) (F G : RField) (v n i : Nat) : (s.wr64 F G v n i).secH = s.secH := (rfl)
@[simp] theorem State.wrs_secH (s : State) (n : Nat) (l : List (RField × Nat)) : (s.wrs n l).secH = s.secH := by
  unfold State.wrs; induction l generalizing s with
  | nil => rfl
  | cons x r ih => rw [List.foldl_cons, ih, State.wr_secH]
@[simp] theorem State.cnt_rel (s : State) (F : RField) (k n i : Nat) : (s.cnt F k n i).rel = s.rel := (rfl)
@[simp] theorem State.inc_rel (s : State) (F : RField) (k n i : Nat) : (s.inc F k n i).rel = s.rel := (rfl)
@[simp] theorem State.wr64_rel (s : State) (F G : RField) (v n i : Nat) : (s.wr64 F G v n i).rel = s.rel := (rfl)
@[simp] theorem State.wrs_rel (s : State) (n : Nat) (l : List (RField × Nat)) : (s.wrs n l).rel = s.rel := by
  unfold State.wrs; induction l generalizing s with
  | nil => rfl
  | cons x r ih => rw [List.foldl_cons, ih, State.wr_rel]
@[simp] theorem State.cnt_pw (s : State) (F : RField) (k n i : Nat) : (s.cnt F k n i).pw = s.pw := (rfl)
@[simp] theorem State.inc_pw (s : State) (F : RField) (k n i : Nat) : (s.inc F k n i).pw = s.pw := (rfl)
@[simp] theorem State.wr64_pw (s : State) (F G : RField) (v n i : Nat) : (s.wr64 F G v n i).pw = s.pw := (rfl)
@[simp] theorem State.wrs_pw (s : State) (n : Nat) (l : List (RField × Nat)) : (s.wrs n l).pw = s.pw := by
  unfold State.wrs; induction l generalizing s with
  | nil => rfl
  | cons x r ih => rw [List.foldl_cons, ih, State.wr_pw]
@[simp] theorem State.cnt_boot (s : State) (F : RField) (k n i : Nat) : (s.cnt F k n i).boot = s.boot := (rfl)
@[simp] theorem State.inc_boot (s : State) (F : RField) (k n i : Nat) : (s.inc F k n i).boot = s.boot := (rfl)
@[simp] theorem State.wr64_boot (s : State) (F G : RField) (v n i : Nat) : (s.wr64 F G v n i).boot = s.boot := (rfl)
@[simp] theorem State.wrs_boot (s : State) (n : Nat) (l : List (RField × Nat)) : (s.wrs n l).boot = s.boot := by
  unfold State.wrs; induction l generalizing s with
  | nil => rfl
  | cons x r ih => rw [List.foldl_cons, ih, State.wr_boot]
@[simp] theorem State.cnt_lastBeacon (s : State) (F : RField) (k n i : Nat) : (s.cnt F k n i).lastBeacon = s.lastBeacon := (rfl)
@[simp] theorem State.inc_lastBeacon (s : State) (F : RField) (k n i : Nat) : (s.inc F k n i).lastBeacon = s.lastBeacon := (rfl)
@[simp] theorem State.wr64_lastBeacon (s : State) (F G : RField) (v n i : Nat) : (s.wr64 F G v n i).lastBeacon = s.lastBeacon := (rfl)
@[simp] theorem State.wrs_lastBeacon (s : State) (n : Nat) (l : List (RField × Nat)) : (s.wrs n l).lastBeacon = s.lastBeacon := by
  unfold State.wrs; induction l generalizing s with
  | nil => rfl
  | cons x r ih => rw [List.foldl_cons, ih, State.wr_lastBeacon]
@[simp] theorem State.cnt_ecc (s : State) (F : RField) (k n i : Nat) : (s.cnt F k n i).ecc = s.ecc := (rfl)
@[simp] theorem State.inc_ecc (s : State) (F : RField) (k n i : Nat) : (s.inc F k n i).ecc = s.ecc := (rfl)
@[simp] theorem State.wr64_ecc (s : State) (F G : RField) (v n i : Nat) : (s.wr64 F G v n i).ecc = s.ecc := (rfl)
@[simp] theorem State.wrs_ecc (s : State) (n : Nat) (l : List (RField × Nat)) : (s.wrs n l).ecc = s.ecc := by
  unfold State.wrs; induction l generalizing s with
  | nil => rfl
  | cons x r ih => rw [List.foldl_cons, ih, State.wr_ecc]
@[simp] theorem State.cnt_resp (s : State) (F : RField) (k n i : Nat) : (s.cnt F k n i).resp = s.resp := (rfl)
@[simp] theorem State.inc_resp (s : State) (F : RField) (k n i : Nat) : (s.inc F k n i).resp = s.resp := (rfl)
@[simp] theorem State.wr64_resp (s : State) (F G : RField) (v n i : Nat) : (s.wr64 F G v n i).resp = s.resp := (rfl)
@[simp] theorem State.wrs_resp (s : State) (n : Nat) (l : List (RField × Nat)) : (s.wrs n l).resp = s.resp := by
  unfold State.wrs; induction l generalizing s with
  | nil => rfl
  | cons x r ih => rw [List.foldl_cons, ih, State.wr_resp]
@[simp] theorem State.cnt_answers (s : State) (F : RField) (k n i : Nat) : (s.cnt F k n i).answers = s.answers := (rfl)
@[simp] theorem State.inc_answers (s : State) (F : RField) (k n i : Nat) : (s.inc F k n i).answers = s.answers := (rfl)
@[simp] theorem State.wr64_answers (s : State) (F G : RField) (v n i : Nat) : (s.wr64 F G v n i).answers = s.answers := (rfl)
@[simp] theorem State.wrs_answers (s : State) (n : Nat) (l : List (RField × Nat)) : (s.wrs n l).answers = s.answers := by
  unfold State.wrs; induction l generalizing s with
  | nil => rfl
  | cons x r ih => rw [List.foldl_cons, ih, State.wr_answers]
@[simp] theorem State.cnt_freeCtr (s : State) (F : RField) (k n i : Nat) : (s.cnt F k n i).freeCtr = s.freeCtr := (rfl)
@[simp] theorem State.inc_freeCtr (s : State) (F : RField) (k n i : Nat) : (s.inc F k n i).freeCtr = s.freeCtr := (rfl)
@[simp] theorem State.wr64_freeCtr (s : State) (F G : RField) (v n i : Nat) : (s.wr64 F G v n i).freeCtr = s.freeCtr := (rfl)
@[simp] theorem State.wrs_freeCtr (s : State) (n : Nat) (l : List (RField × Nat)) : (s.wrs n l).freeCtr = s.freeCtr := by
  unfold State.wrs; induction l generalizing s with
  | nil => rfl
  | cons x r ih => rw [List.foldl_cons, ih, State.wr_freeCtr]
@[simp] theorem State.cnt_pending (s : State) (F : RField) (k n i : Nat) : (s.cnt F k n i).pending = s.pending := (rfl)
@[simp] theorem State.inc_pending (s : State) (F : RField) (k n i : Nat) : (s.inc F k n i).pending = s.pending := (rfl)
@[simp] theorem State.wr64_pending (s : State) (F G : RField) (v n i : Nat) : (s.wr64 F G v n i).pending = s.pending := (rfl)
@[simp] theorem State.wrs_pending (s : State) (n : Nat) (l : List (RField × Nat)) : (s.wrs n l).pending = s.pending := by
  unfold State.wrs; induction l generalizing s with
  | nil => rfl
  | cons x r ih => rw [List.foldl_cons, ih, State.wr_pending]
@[simp] theorem State.fresh_reg (s : State) (a : Nat) : s.fresh.2.reg a = s.reg a := (rfl)
@[simp] theorem State.fresh_rd (s : State) (F : RField) (u v : Nat) : s.fresh.2.rd F u v = s.rd F u v := (rfl)
@[simp] theorem State.withQueue_spine (s : State) (q : List Instr) : (s.withQueue q).spine = s.spine := (rfl)
@[simp] theorem State.advance_spine (s : State) (t : Nat) : (s.advance t).spine = s.spine := (rfl)
@[simp] theorem State.withQueue_tb (s : State) (q : List Instr) : (s.withQueue q).tb = s.tb := (rfl)
@[simp] theorem State.advance_tb (s : State) (t : Nat) : (s.advance t).tb = s.tb := (rfl)
@[simp] theorem State.withQueue_disc (s : State) (q : List Instr) : (s.withQueue q).disc = s.disc := (rfl)
@[simp] theorem State.advance_disc (s : State) (t : Nat) : (s.advance t).disc = s.disc := (rfl)
@[simp] theorem State.withQueue_release (s : State) (q : List Instr) : (s.withQueue q).release = s.release := (rfl)
@[simp] theorem State.advance_release (s : State) (t : Nat) : (s.advance t).release = s.release := (rfl)
@[simp] theorem State.withQueue_chan (s : State) (q : List Instr) : (s.withQueue q).chan = s.chan := (rfl)
@[simp] theorem State.advance_chan (s : State) (t : Nat) : (s.advance t).chan = s.chan := (rfl)
@[simp] theorem State.withQueue_grp (s : State) (q : List Instr) : (s.withQueue q).grp = s.grp := (rfl)
@[simp] theorem State.advance_grp (s : State) (t : Nat) : (s.advance t).grp = s.grp := (rfl)
@[simp] theorem State.withQueue_fab (s : State) (q : List Instr) : (s.withQueue q).fab = s.fab := (rfl)
@[simp] theorem State.advance_fab (s : State) (t : Nat) : (s.advance t).fab = s.fab := (rfl)
@[simp] theorem State.withQueue_tin (s : State) (q : List Instr) : (s.withQueue q).tin = s.tin := (rfl)
@[simp] theorem State.advance_tin (s : State) (t : Nat) : (s.advance t).tin = s.tin := (rfl)
@[simp] theorem State.withQueue_slot (s : State) (q : List Instr) : (s.withQueue q).slot = s.slot := (rfl)
@[simp] theorem State.advance_slot (s : State) (t : Nat) : (s.advance t).slot = s.slot := (rfl)
@[simp] theorem State.withQueue_sched (s : State) (q : List Instr) : (s.withQueue q).sched = s.sched := (rfl)
@[simp] theorem State.advance_sched (s : State) (t : Nat) : (s.advance t).sched = s.sched := (rfl)
@[simp] theorem State.withQueue_eng (s : State) (q : List Instr) : (s.withQueue q).eng = s.eng := (rfl)
@[simp] theorem State.advance_eng (s : State) (t : Nat) : (s.advance t).eng = s.eng := (rfl)
@[simp] theorem State.withQueue_mcl (s : State) (q : List Instr) : (s.withQueue q).mcl = s.mcl := (rfl)
@[simp] theorem State.advance_mcl (s : State) (t : Nat) : (s.advance t).mcl = s.mcl := (rfl)
@[simp] theorem State.withQueue_mcNew (s : State) (q : List Instr) : (s.withQueue q).mcNew = s.mcNew := (rfl)
@[simp] theorem State.advance_mcNew (s : State) (t : Nat) : (s.advance t).mcNew = s.mcNew := (rfl)
@[simp] theorem State.withQueue_mcWait (s : State) (q : List Instr) : (s.withQueue q).mcWait = s.mcWait := (rfl)
@[simp] theorem State.advance_mcWait (s : State) (t : Nat) : (s.advance t).mcWait = s.mcWait := (rfl)
@[simp] theorem State.withQueue_mcRun (s : State) (q : List Instr) : (s.withQueue q).mcRun = s.mcRun := (rfl)
@[simp] theorem State.advance_mcRun (s : State) (t : Nat) : (s.advance t).mcRun = s.mcRun := (rfl)
@[simp] theorem State.withQueue_sprQ (s : State) (q : List Instr) : (s.withQueue q).sprQ = s.sprQ := (rfl)
@[simp] theorem State.advance_sprQ (s : State) (t : Nat) : (s.advance t).sprQ = s.sprQ := (rfl)
@[simp] theorem State.withQueue_tko (s : State) (q : List Instr) : (s.withQueue q).tko = s.tko := (rfl)
@[simp] theorem State.advance_tko (s : State) (t : Nat) : (s.advance t).tko = s.tko := (rfl)
@[simp] theorem State.withQueue_test (s : State) (q : List Instr) : (s.withQueue q).test = s.test := (rfl)
@[simp] theorem State.advance_test (s : State) (t : Nat) : (s.advance t).test = s.test := (rfl)
@[simp] theorem State.withQueue_suspEnt (s : State) (q : List Instr) : (s.withQueue q).suspEnt = s.suspEnt := (rfl)
@[simp] theorem State.advance_suspEnt (s : State) (t : Nat) : (s.advance t).suspEnt = s.suspEnt := (rfl)
@[simp] theorem State.withQueue_meshTest (s : State) (q : List Instr) : (s.withQueue q).meshTest = s.meshTest := (rfl)
@[simp] theorem State.advance_meshTest (s : State) (t : Nat) : (s.advance t).meshTest = s.meshTest := (rfl)
@[simp] theorem State.withQueue_authAt (s : State) (q : List Instr) : (s.withQueue q).authAt = s.authAt := (rfl)
@[simp] theorem State.advance_authAt (s : State) (t : Nat) : (s.advance t).authAt = s.authAt := (rfl)
@[simp] theorem State.withQueue_calT0 (s : State) (q : List Instr) : (s.withQueue q).calT0 = s.calT0 := (rfl)
@[simp] theorem State.advance_calT0 (s : State) (t : Nat) : (s.advance t).calT0 = s.calT0 := (rfl)
@[simp] theorem State.withQueue_kcomp (s : State) (q : List Instr) : (s.withQueue q).kcomp = s.kcomp := (rfl)
@[simp] theorem State.advance_kcomp (s : State) (t : Nat) : (s.advance t).kcomp = s.kcomp := (rfl)
@[simp] theorem State.withQueue_sar (s : State) (q : List Instr) : (s.withQueue q).sar = s.sar := (rfl)
@[simp] theorem State.advance_sar (s : State) (t : Nat) : (s.advance t).sar = s.sar := (rfl)
@[simp] theorem State.withQueue_sd (s : State) (q : List Instr) : (s.withQueue q).sd = s.sd := (rfl)
@[simp] theorem State.advance_sd (s : State) (t : Nat) : (s.advance t).sd = s.sd := (rfl)
@[simp] theorem State.withQueue_mclk (s : State) (q : List Instr) : (s.withQueue q).mclk = s.mclk := (rfl)
@[simp] theorem State.advance_mclk (s : State) (t : Nat) : (s.advance t).mclk = s.mclk := (rfl)
@[simp] theorem State.withQueue_tail (s : State) (q : List Instr) : (s.withQueue q).tail = s.tail := (rfl)
@[simp] theorem State.advance_tail (s : State) (t : Nat) : (s.advance t).tail = s.tail := (rfl)
@[simp] theorem State.withQueue_sp (s : State) (q : List Instr) : (s.withQueue q).sp = s.sp := (rfl)
@[simp] theorem State.advance_sp (s : State) (t : Nat) : (s.advance t).sp = s.sp := (rfl)
@[simp] theorem State.withQueue_aev (s : State) (q : List Instr) : (s.withQueue q).aev = s.aev := (rfl)
@[simp] theorem State.advance_aev (s : State) (t : Nat) : (s.advance t).aev = s.aev := (rfl)
@[simp] theorem State.withQueue_qrec (s : State) (q : List Instr) : (s.withQueue q).qrec = s.qrec := (rfl)
@[simp] theorem State.advance_qrec (s : State) (t : Nat) : (s.advance t).qrec = s.qrec := (rfl)
@[simp] theorem State.withQueue_vecReq (s : State) (q : List Instr) : (s.withQueue q).vecReq = s.vecReq := (rfl)
@[simp] theorem State.advance_vecReq (s : State) (t : Nat) : (s.advance t).vecReq = s.vecReq := (rfl)
@[simp] theorem State.withQueue_host (s : State) (q : List Instr) : (s.withQueue q).host = s.host := (rfl)
@[simp] theorem State.advance_host (s : State) (t : Nat) : (s.advance t).host = s.host := (rfl)
@[simp] theorem State.withQueue_tp (s : State) (q : List Instr) : (s.withQueue q).tp = s.tp := (rfl)
@[simp] theorem State.advance_tp (s : State) (t : Nat) : (s.advance t).tp = s.tp := (rfl)
@[simp] theorem State.withQueue_teth (s : State) (q : List Instr) : (s.withQueue q).teth = s.teth := (rfl)
@[simp] theorem State.advance_teth (s : State) (t : Nat) : (s.advance t).teth = s.teth := (rfl)
@[simp] theorem State.withQueue_secH (s : State) (q : List Instr) : (s.withQueue q).secH = s.secH := (rfl)
@[simp] theorem State.advance_secH (s : State) (t : Nat) : (s.advance t).secH = s.secH := (rfl)
@[simp] theorem State.withQueue_rel (s : State) (q : List Instr) : (s.withQueue q).rel = s.rel := (rfl)
@[simp] theorem State.advance_rel (s : State) (t : Nat) : (s.advance t).rel = s.rel := (rfl)
@[simp] theorem State.withQueue_pw (s : State) (q : List Instr) : (s.withQueue q).pw = s.pw := (rfl)
@[simp] theorem State.advance_pw (s : State) (t : Nat) : (s.advance t).pw = s.pw := (rfl)
@[simp] theorem State.withQueue_boot (s : State) (q : List Instr) : (s.withQueue q).boot = s.boot := (rfl)
@[simp] theorem State.advance_boot (s : State) (t : Nat) : (s.advance t).boot = s.boot := (rfl)
@[simp] theorem State.withQueue_lastBeacon (s : State) (q : List Instr) : (s.withQueue q).lastBeacon = s.lastBeacon := (rfl)
@[simp] theorem State.advance_lastBeacon (s : State) (t : Nat) : (s.advance t).lastBeacon = s.lastBeacon := (rfl)
@[simp] theorem State.withQueue_ecc (s : State) (q : List Instr) : (s.withQueue q).ecc = s.ecc := (rfl)
@[simp] theorem State.advance_ecc (s : State) (t : Nat) : (s.advance t).ecc = s.ecc := (rfl)
@[simp] theorem State.withQueue_answers (s : State) (q : List Instr) : (s.withQueue q).answers = s.answers := (rfl)
@[simp] theorem State.advance_answers (s : State) (t : Nat) : (s.advance t).answers = s.answers := (rfl)
@[simp] theorem State.withQueue_pending (s : State) (q : List Instr) : (s.withQueue q).pending = q := (rfl)

/-! ### What a unit holds after an update -/

@[simp] theorem State.modCh_ch (s : State) (n : Nat) (f : Chan → Chan) : (s.modCh n f).ch n = f (s.ch n) :=
  Store.get_set_same _ _ _ _

theorem State.modCh_ch_ne (s : State) (n : Nat) (m : Nat) (f : Chan → Chan) (h : m ≠ n) : (s.modCh n f).ch m = s.ch m :=
  Store.get_set_ne _ _ _ _ _ h

@[simp] theorem State.modGr_gr (s : State) (n : Nat) (f : Grp → Grp) : (s.modGr n f).gr n = f (s.gr n) :=
  Store.get_set_same _ _ _ _

theorem State.modGr_gr_ne (s : State) (n : Nat) (m : Nat) (f : Grp → Grp) (h : m ≠ n) : (s.modGr n f).gr m = s.gr m :=
  Store.get_set_ne _ _ _ _ _ h

@[simp] theorem State.modEn_en (s : State) (n : Nat) (f : Eng → Eng) : (s.modEn n f).en n = f (s.en n) :=
  Store.get_set_same _ _ _ _

theorem State.modEn_en_ne (s : State) (n : Nat) (m : Nat) (f : Eng → Eng) (h : m ≠ n) : (s.modEn n f).en m = s.en m :=
  Store.get_set_ne _ _ _ _ _ h

@[simp] theorem State.modTb_tbH (s : State) (n : Nat) (f : TbH → TbH) : (s.modTb n f).tbH n = f (s.tbH n) :=
  Store.get_set_same _ _ _ _

theorem State.modTb_tbH_ne (s : State) (n : Nat) (m : Nat) (f : TbH → TbH) (h : m ≠ n) : (s.modTb n f).tbH m = s.tbH m :=
  Store.get_set_ne _ _ _ _ _ h

@[simp] theorem State.modRouter_router (s : State) (n : Nat) (f : Router → Router) : (s.modRouter n f).router n = f (s.router n) :=
  Store.get_set_same _ _ _ _

theorem State.modRouter_router_ne (s : State) (n : Nat) (m : Nat) (f : Router → Router) (h : m ≠ n) : (s.modRouter n f).router m = s.router m :=
  Store.get_set_ne _ _ _ _ _ h

@[simp] theorem State.modSp_spU (s : State) (n : Nat) (f : SpH → SpH) : (s.modSp n f).spU n = f (s.spU n) :=
  Store.get_set_same _ _ _ _

theorem State.modSp_spU_ne (s : State) (n : Nat) (m : Nat) (f : SpH → SpH) (h : m ≠ n) : (s.modSp n f).spU m = s.spU m :=
  Store.get_set_ne _ _ _ _ _ h

@[simp] theorem State.modTp_tpU (s : State) (n : Nat) (f : TpH → TpH) : (s.modTp n f).tpU n = f (s.tpU n) :=
  Store.get_set_same _ _ _ _

theorem State.modTp_tpU_ne (s : State) (n : Nat) (m : Nat) (f : TpH → TpH) (h : m ≠ n) : (s.modTp n f).tpU m = s.tpU m :=
  Store.get_set_ne _ _ _ _ _ h

@[simp] theorem State.modQc_qc (s : State) (n : Nat) (f : QCtx → QCtx) : (s.modQc n f).qc n = f (s.qc n) :=
  Store.get_set_same _ _ _ _

theorem State.modQc_qc_ne (s : State) (n : Nat) (m : Nat) (f : QCtx → QCtx) (h : m ≠ n) : (s.modQc n f).qc m = s.qc m :=
  Store.get_set_ne _ _ _ _ _ h

@[simp] theorem State.modK_kc (s : State) (n : Nat) (f : KComp → KComp) : (s.modK n f).kc n = f (s.kc n) :=
  Store.get_set_same _ _ _ _

theorem State.modK_kc_ne (s : State) (n : Nat) (m : Nat) (f : KComp → KComp) (h : m ≠ n) : (s.modK n f).kc m = s.kc m :=
  Store.get_set_ne _ _ _ _ _ h

@[simp] theorem State.modSar_sarU (s : State) (n : Nat) (f : SarU → SarU) : (s.modSar n f).sarU n = f (s.sarU n) :=
  Store.get_set_same _ _ _ _

theorem State.modSar_sarU_ne (s : State) (n : Nat) (m : Nat) (f : SarU → SarU) (h : m ≠ n) : (s.modSar n f).sarU m = s.sarU m :=
  Store.get_set_ne _ _ _ _ _ h

@[simp] theorem State.modSd_sdU (s : State) (n : Nat) (f : SdU → SdU) : (s.modSd n f).sdU n = f (s.sdU n) :=
  Store.get_set_same _ _ _ _

theorem State.modSd_sdU_ne (s : State) (n : Nat) (m : Nat) (f : SdU → SdU) (h : m ≠ n) : (s.modSd n f).sdU m = s.sdU m :=
  Store.get_set_ne _ _ _ _ _ h

@[simp] theorem State.modTail_tailU (s : State) (n : Nat) (f : TailH → TailH) : (s.modTail n f).tailU n = f (s.tailU n) :=
  Store.get_set_same _ _ _ _

theorem State.modTail_tailU_ne (s : State) (n : Nat) (m : Nat) (f : TailH → TailH) (h : m ≠ n) : (s.modTail n f).tailU m = s.tailU m :=
  Store.get_set_ne _ _ _ _ _ h

@[simp] theorem State.modMv_mover (s : State) (n : Nat) (f : MvH → MvH) : (s.modMv n f).mover n = f (s.mover n) :=
  Store.get_set_same _ _ _ _

theorem State.modMv_mover_ne (s : State) (n : Nat) (m : Nat) (f : MvH → MvH) (h : m ≠ n) : (s.modMv n f).mover m = s.mover m :=
  Store.get_set_ne _ _ _ _ _ h

end Sys2Proof.Machine
end

