-- ==== Sys2Proof/Laws/Ops.lean ====
section
/-! SUPPORT. What the shared operations do: events, wakes, writes under the bridle, and shared SRAM. -/
namespace Sys2Proof.Machine

/-! ### Memory -/

theorem upFrom_mem (k n x : Nat) : x ∈ upFrom k n ↔ k ≤ x ∧ x < k + n := by
  induction n generalizing k with
  | zero => simp [upFrom]
  | succ n ih => simp only [upFrom, List.mem_cons, ih]; omega

theorem upFrom_length (k n : Nat) : (upFrom k n).length = n := by
  induction n generalizing k with
  | zero => rfl
  | succ n ih => simp [upFrom, ih]

theorem upFrom_getElem (k n i : Nat) (h : i < (upFrom k n).length) : (upFrom k n)[i] = k + i := by
  induction n generalizing k i with
  | zero => simp [upFrom] at h
  | succ n ih =>
    cases i with
    | zero => rfl
    | succ i =>
      simp only [upFrom, List.getElem_cons_succ]
      rw [ih]; omega

/-- The byte of shared SRAM at `x` after bytes were stored from `a` on. -/
theorem Mem.sramPut_byte (m : Mem) (a : Nat) (d : List Byte) (x : Nat) :
    (m.sramPut a d).sramByte x = if h : a ≤ x ∧ x < a + d.length then d[x - a]'(by omega) else m.sramByte x := by
  induction d generalizing m a with
  | nil => simp [Mem.sramPut]
  | cons b bs ih =>
    simp only [Mem.sramPut, List.length_cons]
    rw [ih]
    by_cases h : x = a
    · subst h
      have h1 : ¬ (x + 1 ≤ x ∧ x < x + 1 + bs.length) := by omega
      have h2 : x ≤ x ∧ x < x + (bs.length + 1) := by omega
      simp only [h1, h2, dif_neg, dif_pos, not_false_eq_true, and_self]
      simp [Mem.sramByte, Store.get_set_same]
    · by_cases h1 : a + 1 ≤ x ∧ x < a + 1 + bs.length
      · have h2 : a ≤ x ∧ x < a + (bs.length + 1) := by omega
        simp only [dif_pos h1, dif_pos h2]
        have : x - a = (x - (a + 1)) + 1 := by omega
        simp [this]
      · have h2 : ¬ (a ≤ x ∧ x < a + (bs.length + 1)) := by omega
        simp only [dif_neg h1, dif_neg h2]
        exact Store.get_set_ne _ _ _ _ _ h

@[simp] theorem Mem.sramPut_lm (m : Mem) (a : Nat) (d : List Byte) : (m.sramPut a d).lm = m.lm := by
  induction d generalizing m a with
  | nil => rfl
  | cons b bs ih => simp [Mem.sramPut, ih]

@[simp] theorem Mem.sramPut_sec (m : Mem) (a : Nat) (d : List Byte) : (m.sramPut a d).sec = m.sec := by
  induction d generalizing m a with
  | nil => rfl
  | cons b bs ih => simp [Mem.sramPut, ih]

@[simp] theorem Mem.sramPut_poison (m : Mem) (a : Nat) (d : List Byte) : (m.sramPut a d).poison = m.poison := by
  induction d generalizing m a with
  | nil => rfl
  | cons b bs ih => simp [Mem.sramPut, ih]

/-- Storing keeps the canonical form of shared SRAM. -/
theorem Mem.sramPut_wf (m : Mem) (a : Nat) (d : List Byte) (w : Store.wf (fun _ => (0 : Byte)) m.sram = true) :
    Store.wf (fun _ => (0 : Byte)) (m.sramPut a d).sram = true := by
  induction d generalizing m a with
  | nil => exact w
  | cons b bs ih => exact ih _ _ (Store.set_wf _ _ _ _ w)

/-! ### Folds -/

theorem foldl_keep {α β : Type} (p : State → β) (f : State → α → State) (h : ∀ s x, p (f s x) = p s) (l : List α) (s : State) :
    p (l.foldl f s) = p s := by
  induction l generalizing s with
  | nil => rfl
  | cons x r ih => rw [List.foldl_cons, ih, h]

/-! ### Events -/

theorem State.cnt_reg_ne (s : State) (F : RField) (k n i a : Nat) (h : a ≠ F.adr n i) : (s.cnt F k n i).reg a = s.reg a :=
  State.wr_reg_ne s F _ n i a h

theorem State.tPush_reg (s : State) (p : Nat) (m : TMsg) (a : Nat) (hp : p < 4) (h : evReg a = false) :
    (s.tPush p m).reg a = s.reg a := by
  unfold State.tPush
  split
  · rfl
  split
  · simp
  · rw [State.modTp_reg]
    apply State.cnt_reg_ne
    intro e
    simp only [evReg, Bool.or_eq_false_iff, List.any_eq_false, beq_iff_eq] at h
    exact h.2 p ((upFrom_mem _ _ _).mpr ⟨by omega, by omega⟩) e

theorem State.tRoute_lt (s : State) (d p : Nat) (h : s.tRoute d = some p) : p < 4 := by
  unfold State.tRoute at h
  have key : ∀ (l : List Nat) (b : Option (Nat × Nat)), (∀ q ∈ l, q < 4) → b.all (fun x => decide (x.2 < 4)) = true →
      ((l.foldl (fun b p =>
        if s.tpUp p ∧ s.on Reg.TPSTAT.PVALID p then
          match (distances (s.tpU p).links (s.rd Reg.TPSTAT.PIDX p)).getD d none, b with
          | some (h, _), some (h', q) => if h < h' then some (h, p) else some (h', q)
          | some (h, _), none => some (h, p)
          | none, b => b
        else b) b).all (fun x => decide (x.2 < 4))) = true := by
    intro l
    induction l with
    | nil => intro b _ hb; exact hb
    | cons q r ih =>
      intro b hl hb
      rw [List.foldl_cons]
      apply ih _ (fun x hx => hl x (List.mem_cons_of_mem _ hx))
      have hq : q < 4 := hl q List.mem_cons_self
      split
      · split
        · split
          · simpa using hq
          · simpa using hb
        · simpa using hq
        · exact hb
      · exact hb
  have := key (upFrom 0 4) none (fun q hq => by have := (upFrom_mem _ _ _).mp hq; omega) rfl
  revert h this
  generalize (upFrom 0 4).foldl _ _ = r
  intro h this
  cases r with
  | none => simp at h
  | some x => simp at h this; omega

theorem State.tSend_reg (s : State) (d : Nat) (i : TItem) (a : Nat) (h : evReg a = false) : (s.tSend d i).reg a = s.reg a := by
  unfold State.tSend
  dsimp only
  split
  · generalize hl : upFrom 0 4 = l
    have hl : ∀ q ∈ l, q < 4 := fun q hq => by rw [← hl] at hq; have := (upFrom_mem _ _ _).mp hq; omega
    have key : ∀ (l : List Nat) (u : State) (m : TMsg), (∀ q ∈ l, q < 4) →
        (l.foldl (fun s p => if s.tpUp p then s.tPush p m else s) u).reg a = u.reg a := by
      intro l
      induction l with
      | nil => intros; rfl
      | cons q r ih =>
        intro u m hl
        rw [List.foldl_cons, ih _ _ (fun x hx => hl x (List.mem_cons_of_mem _ hx))]
        split
        · exact State.tPush_reg u q m a (hl q List.mem_cons_self) h
        · rfl
    rw [key l _ _ hl]; rfl
  · split
    · rename_i p hp
      rw [State.tPush_reg _ _ _ _ (State.tRoute_lt _ _ _ hp) h]; rfl
    · rfl

theorem State.exportEv_reg (s : State) (ev : Ev) (a : Nat) (h : evReg a = false) : (s.exportEv ev).reg a = s.reg a := by
  unfold State.exportEv
  split
  · rfl
  apply foldl_keep (fun s => s.reg a)
  intro u x
  dsimp only
  rw [State.tSend_reg _ _ _ _ h]; rfl

theorem State.dropEvent_reg (s : State) (r a : Nat) (h : evReg a = false) : (s.dropEvent r).reg a = s.reg a := by
  have h1 : a ≠ Reg.EVDROP.COUNT.adr 0 0 := by
    intro e; simp only [evReg, Bool.or_eq_false_iff, beq_eq_false_iff_ne] at h; exact h.1.1.2 e
  unfold State.dropEvent
  dsimp only
  split
  · split
    · simp [State.cnt_reg_ne _ _ _ _ _ _ h1]
    · simp [State.cnt_reg_ne _ _ _ _ _ _ h1]
  · simp [State.cnt_reg_ne _ _ _ _ _ _ h1]

theorem State.issue_reg (s : State) (ev : Ev) (a : Nat) (h : evReg a = false) : (s.issue ev).reg a = s.reg a := by
  have h1 : a ≠ Reg.UNROUTED.COUNT.adr 0 0 := by
    intro e; simp only [evReg, Bool.or_eq_false_iff, beq_eq_false_iff_ne] at h; exact h.1.1.1 e
  unfold State.issue
  dsimp only
  generalize (if ev.id < 6144 then (s.router (s.routerOf ev.id)).gated ev.id else some false) = gate
  split
  · rfl
  · split
    · exact State.cnt_reg_ne _ _ _ _ _ _ h1
    · split
      · exact State.dropEvent_reg _ _ _ h
      · split
        · rw [State.exportEv_reg _ _ _ h, State.modRouter_reg]
        · rw [State.modRouter_reg]

theorem State.raiseEv_reg (s : State) (ev : Ev) (a : Nat) (h : evReg a = false) : (s.raiseEv ev).reg a = s.reg a := by
  unfold State.raiseEv
  split
  · rfl
  · split
    · unfold State.wakeLog
      split
      · rfl
      · rw [State.cnt_reg_ne]
        · rfl
        · intro e; simp only [evReg, Bool.or_eq_false_iff, beq_eq_false_iff_ne] at h; exact h.1.2 e
    · exact State.issue_reg _ _ _ h

/-- An event leaves every register alone but the counters of lost events. -/
theorem State.raise_reg (s : State) (id d a : Nat) (h : evReg a = false) : (s.raise id d).reg a = s.reg a :=
  State.raiseEv_reg _ _ _ h

theorem State.raiseAt_reg (s : State) (id d ts a : Nat) (h : evReg a = false) : (s.raiseAt id d ts).reg a = s.reg a :=
  State.raiseEv_reg _ _ _ h

theorem State.raise_rd (s : State) (id d : Nat) (F : RField) (n i : Nat) (h : evReg (F.adr n i) = false) :
    (s.raise id d).rd F n i = s.rd F n i := by
  unfold State.rd; rw [State.raise_reg _ _ _ _ h]

theorem State.raiseAt_rd (s : State) (id d ts : Nat) (F : RField) (n i : Nat) (h : evReg (F.adr n i) = false) :
    (s.raiseAt id d ts).rd F n i = s.rd F n i := by
  unfold State.rd; rw [State.raiseAt_reg _ _ _ _ _ h]

/-! ### Outcomes and writes -/

@[simp] theorem State.ran_true (s t : State) : s.ran true t = .next (t.withQueue s.pending) := rfl

theorem State.ran_ok (s t : State) (b : Bool) (h : b = true) : s.ran b t = .next (t.withQueue s.pending) := by
  subst h; rfl

theorem State.ran_bad (s t : State) (b : Bool) (h : b = false) : s.ran b t = .fault .noSuchUnit := by
  subst h; rfl

/-- A write that applies has its effect (R11, R274). -/
theorem State.authWrite_applies (s : State) (src : Src) (a : Nat) (w : Word) (f : State → State) (h : s.applies src a = true) :
    s.authWrite src a w f = f s := by
  simp only [State.applies, Bool.and_eq_true, Bool.not_eq_true', Bool.and_eq_false_iff] at h
  obtain ⟨⟨⟨⟨⟨h0, h1⟩, h2⟩, h3⟩, h4⟩, h5⟩ := h
  unfold State.authWrite
  rw [if_neg, if_neg (by simp [h2]), if_neg (by simp [h3]), if_neg (by simp [h4]), if_neg (by simp [h5])]
  rintro (h6 | ⟨rfl, h6⟩)
  · simp [h0] at h6
  rcases h1 with h1 | h1
  · simp at h1
  · simp at h1; exact h6 h1

/-- A write that the bridle or PF0's authority refuses is dropped; where nothing is implemented without a report (R11, R274,
R275). -/
theorem State.authWrite_denied (s : State) (src : Src) (a : Nat) (w : Word) (f : State → State) (hg : s.pw.gnd = false)
    (hj : src ≠ .jtag) (hh : s.holds src a = false) (hm : s.mayWrite src a = false) :
    s.authWrite src a w f = if (regRow a).isNone then s else s.authDrop src a := by
  unfold State.authWrite
  rw [if_neg (by simp [hg, hj]), if_neg (by simp [hh]), if_pos (by simp [hm])]

/-- A write that comes while the device sleeps waits, and wakes it (R350). -/
theorem State.authWrite_held (s : State) (src : Src) (a : Nat) (w : Word) (f : State → State) (hg : s.pw.gnd = false)
    (hj : src ≠ .jtag) (hh : s.holds src a = true) : s.authWrite src a w f = s.hold (.write src a 4 w) := by
  unfold State.authWrite
  rw [if_neg (by simp [hg, hj]), if_pos hh]

@[simp] theorem State.advance_applies (s : State) (t : Nat) (src : Src) (a : Nat) :
    (s.advance t).applies src a = s.applies src a := (rfl)

end Sys2Proof.Machine
end

