-- ==== Sys2Proof/Laws/Engine.lean ====
section
/-! SUPPORT. What the engine does with one instruction: the plain retirement, said once for every instruction. -/
namespace Sys2Proof.Machine

@[simp] theorem State.en_advance (s : State) (t g : Nat) : (s.advance t).en g = s.en g := (rfl)
@[simp] theorem State.en_withQueue (s : State) (q : List Instr) (g : Nat) : (s.withQueue q).en g = s.en g := (rfl)
@[simp] theorem State.plainNext_advance (s : State) (t g : Nat) : (s.advance t).plainNext g = s.plainNext g := (rfl)
@[simp] theorem State.curSlot_modEn (s : State) (g : Nat) (f : Eng → Eng) (h : Nat) : (s.modEn g f).curSlot h = s.curSlot h := (rfl)
@[simp] theorem State.dlUsable_modEn (s : State) (g : Nat) (f : Eng → Eng) (h k : Nat) :
    (s.modEn g f).dlUsable h k = s.dlUsable h k := (rfl)

/-- What a plain instruction may not touch of its engine before it retires. -/
def Eng.keeps (e e' : Eng) : Prop :=
  e'.pc = e.pc ∧ e'.br = e.br ∧ e'.l0 = e.l0 ∧ e'.l1 = e.l1 ∧ e'.imp = e.imp ∧ e'.modeP = e.modeP ∧ e'.stepping = e.stepping ∧
    e'.haltReq = e.haltReq ∧ e'.icount = e.icount

theorem State.modEn_eng (s : State) (g : Nat) (f : Eng → Eng) :
    s.modEn g f = { s with eng := (s.modEn g f).eng } := (rfl)

theorem State.modEn_congr (s : State) (g : Nat) (f f' : Eng → Eng) (h : f (s.en g) = f' (s.en g)) :
    s.modEn g f = s.modEn g f' := by
  unfold State.modEn; rw [h]

/-- The end of a plain instruction: the PC goes on to the next word. -/
theorem Eng.goOn_plain (e : Eng) (h1 : e.br = none) (h2 : e.atLe = false) (h3 : e.imp = []) (h4 : e.modeP = []) :
    e.modeStep.impStep.goOn none none = { e with pc := e.pc + 4 } := by
  simp only [Eng.atLe, Bool.or_eq_false_iff] at h2
  cases e
  simp only at h1 h3 h4
  subst h1 h3 h4
  simp only [Eng.modeStep, Eng.impStep, List.map_nil, List.filter_nil, List.foldl_nil, Eng.goOn, Eng.loopBack]
  simp only [LoopL.look, h2.1, h2.2, Bool.false_eq_true, if_false, ite_self]

theorem Eng.haltCheck_plain (e : Eng) (h1 : e.stepping = false) (h2 : e.haltReq = false) : e.haltCheck = e := by
  unfold Eng.haltCheck
  split
  · rfl
  · simp [h1, h2]

/-- An instruction whose effect is on its engine alone retires: the engine is `h` of it, with the PC on and one more
instruction counted. -/
theorem State.engRun_plain (s : State) (g : Nat) (k : InsKind) (f : State → Done) (h : Eng → Eng)
    (hp : s.plainNext g = true) (hi : k.ill = none) (hf : f s = .ok (s.modEn g h) none none none)
    (hk : (s.en g).keeps (h (s.en g))) :
    s.engRun g k f = ((s.modEn g h).modEn g (fun e => { e with pc := e.pc + 4, icount := e.icount + 1, bpPass := false })) := by
  simp only [State.plainNext, Bool.and_eq_true, Bool.not_eq_true', Option.isNone_iff_eq_none, List.isEmpty_iff] at hp
  obtain ⟨⟨⟨⟨⟨⟨⟨⟨h1, h2⟩, h3⟩, h4⟩, h5⟩, h6⟩, h7⟩, h8⟩, h9⟩ := hp
  obtain ⟨k1, k2, k3, k4, k5, k6, k7, k8, k9⟩ := hk
  have hc : (s.en g).checking = false := by simp [Eng.checking, h5]
  have hil : (s.en g).illegal k = none := by simp [Eng.illegal, hi, h4, h3]
  unfold State.engRun
  rw [if_neg (by simp [h1]), h2]
  simp only [hc, Bool.false_eq_true, and_false, false_and, if_false, hil, hf]
  unfold State.retire State.deadline
  simp only [State.curSlot_modEn, State.dlUsable_modEn, h9, Bool.false_eq_true, not_false_eq_true, true_or, or_true, if_true]
  apply State.modEn_congr
  rw [State.modEn_en, Eng.goOn_plain]
  · exact Eng.haltCheck_plain _ (k7.trans h7) (k8.trans h8)
  · rw [k2, h3]
  · simpa [Eng.atLe, k1, k3, k4] using h4
  · rw [k5, h5]
  · rw [k6, h6]

/-- The same, as what the statements say of a step. -/
theorem State.engRun_retires (s : State) (t g : Nat) (k : InsKind) (f : State → Done) (h : Eng → Eng)
    (hp : s.plainNext g = true) (hi : k.ill = none) (hf : f (s.advance t) = .ok ((s.advance t).modEn g h) none none none)
    (hk : (s.en g).keeps (h (s.en g))) : retires s (((s.advance t).engRun g k f).withQueue s.pending) g (h (s.en g)) := by
  rw [State.engRun_plain (s.advance t) g k f h (by simpa using hp) hi hf (by simpa using hk)]
  refine ⟨rfl, ⟨fun j hj => ?_, ?_⟩⟩
  · rw [State.en_withQueue, State.modEn_en_ne _ _ _ _ hj, State.modEn_en_ne _ _ _ _ hj, State.en_advance]
  · obtain ⟨k1, k2, k3, k4, k5, k6, k7, k8, k9⟩ := hk
    rw [State.en_withQueue, State.modEn_en, State.modEn_en, State.en_advance, k1, k9]

/-- A register write keeps the rest of the engine. -/
theorem Eng.keeps_setR (e : Eng) (i : Nat) (v : Word) : e.keeps (e.setR i v) := ⟨rfl, rfl, rfl, rfl, rfl, rfl, rfl, rfl, rfl⟩

end Sys2Proof.Machine
end

