-- ==== Sys2Proof/Laws/PerInstr.lean ====
section
/-! SUPPORT. One lemma per command for each family of LAWS.json. -/
namespace Sys2Proof.Laws.Sourced
open Machine

/-- A well-formed command that a source sends names a source the device has (R273). -/
def Statement (i : Instr) : Prop := i.wf = true → ∀ x, i.source = some x → x.ok = true

theorem registerWrite (t : Nat) (src : Src) (off : Nat) (len : Nat) (val : Word) : Statement (.registerWrite t src off len val) :=
  fun h _ hx => Option.some.inj hx ▸ (Bool.and_eq_true_iff.mp h).1
theorem readClearAccess (t : Nat) (src : Src) (off : Nat) (len : Nat) : Statement (.readClearAccess t src off len) :=
  fun h _ hx => Option.some.inj hx ▸ (Bool.and_eq_true_iff.mp h).1
theorem handshakeWatchdogExpiry (t : Nat) (port : Nat) : Statement (.handshakeWatchdogExpiry t port) := fun _ _ hx => nomatch hx
theorem meshisoReadmit (t : Nat) (src : Src) (i : Nat) (val : Word) : Statement (.meshisoReadmit t src i val) :=
  fun h _ hx => Option.some.inj hx ▸ (Bool.and_eq_true_iff.mp h).1
theorem readmitSelftestDone (t : Nat) (port : Nat) (ok : Bool) : Statement (.readmitSelftestDone t port ok) := fun _ _ hx => nomatch hx
theorem grantRoundOpen (t : Nat) (reqs : List Req) : Statement (.grantRoundOpen t reqs) := fun _ _ hx => nomatch hx
theorem sramRead (t : Nat) (src : Src) (addr : Nat) (len : Nat) (err : Ecc) : Statement (.sramRead t src addr len err) :=
  fun h _ hx => Option.some.inj hx ▸ h
theorem sramWrite (t : Nat) (src : Src) (addr : Nat) (data : List Byte) (err : Ecc) : Statement (.sramWrite t src addr data err) :=
  fun h _ hx => Option.some.inj hx ▸ h
theorem sramAtomicSwap (t : Nat) (src : Src) (addr : Nat) (len : Nat) (val : Nat) (err : Ecc) : Statement (.sramAtomicSwap t src addr len val err) :=
  fun h _ hx => Option.some.inj hx ▸ h
theorem sramAtomicCas (t : Nat) (src : Src) (addr : Nat) (len : Nat) (cmp : Nat) (val : Nat) (err : Ecc) : Statement (.sramAtomicCas t src addr len cmp val err) :=
  fun h _ hx => Option.some.inj hx ▸ h
theorem sramAtomicAdd (t : Nat) (src : Src) (addr : Nat) (len : Nat) (val : Nat) (err : Ecc) : Statement (.sramAtomicAdd t src addr len val err) :=
  fun h _ hx => Option.some.inj hx ▸ h
theorem sramAtomicAnd (t : Nat) (src : Src) (addr : Nat) (len : Nat) (val : Nat) (err : Ecc) : Statement (.sramAtomicAnd t src addr len val err) :=
  fun h _ hx => Option.some.inj hx ▸ h
theorem sramAtomicOr (t : Nat) (src : Src) (addr : Nat) (len : Nat) (val : Nat) (err : Ecc) : Statement (.sramAtomicOr t src addr len val err) :=
  fun h _ hx => Option.some.inj hx ▸ h
theorem spineBeacon (t : Nat) (bad : List Mismatch) : Statement (.spineBeacon t bad) := fun _ _ hx => nomatch hx
theorem nsLoRead (t : Nat) (src : Src) (k : Nat) : Statement (.nsLoRead t src k) :=
  fun h _ hx => Option.some.inj hx ▸ (Bool.and_eq_true_iff.mp h).1
theorem tbLoadgo (t : Nat) (src : Src) (k : Nat) (val : Word) : Statement (.tbLoadgo t src k val) :=
  fun h _ hx => Option.some.inj hx ▸ (Bool.and_eq_true_iff.mp h).1
theorem tbSlewabort (t : Nat) (src : Src) (k : Nat) (val : Word) : Statement (.tbSlewabort t src k val) :=
  fun h _ hx => Option.some.inj hx ▸ (Bool.and_eq_true_iff.mp h).1
theorem tbSlewoffWrite (t : Nat) (src : Src) (k : Nat) (val : Word) : Statement (.tbSlewoffWrite t src k val) :=
  fun h _ hx => Option.some.inj hx ▸ (Bool.and_eq_true_iff.mp h).1
theorem discctlSrcWrite (t : Nat) (src : Src) (val : Word) : Statement (.discctlSrcWrite t src val) :=
  fun h _ hx => Option.some.inj hx ▸ h
theorem ppsPulse (t : Nat) : Statement (.ppsPulse t) := fun _ _ hx => nomatch hx
theorem ppsTimeout (t : Nat) : Statement (.ppsTimeout t) := fun _ _ hx => nomatch hx
theorem refinQualified (t : Nat) (ppb : Int) : Statement (.refinQualified t ppb) := fun _ _ hx => nomatch hx
theorem refinLockAchieved (t : Nat) : Statement (.refinLockAchieved t) := fun _ _ hx => nomatch hx
theorem refinLoss (t : Nat) : Statement (.refinLoss t) := fun _ _ hx => nomatch hx
theorem ppsoutPulse (t : Nat) : Statement (.ppsoutPulse t) := fun _ _ hx => nomatch hx
theorem gstartGo (t : Nat) (src : Src) (val : Word) : Statement (.gstartGo t src val) :=
  fun h _ hx => Option.some.inj hx ▸ h
theorem gstartRelease (t : Nat) : Statement (.gstartRelease t) := fun _ _ hx => nomatch hx
theorem edgeFire (t : Nat) (n : Nat) : Statement (.edgeFire t n) := fun _ _ hx => nomatch hx
theorem calRunDone (t : Nat) (n : Nat) : Statement (.calRunDone t n) := fun _ _ hx => nomatch hx
theorem dlSwap (t : Nat) (n : Nat) : Statement (.dlSwap t n) := fun _ _ hx => nomatch hx
theorem dlctlSwapnow (t : Nat) (src : Src) (n : Nat) (val : Word) : Statement (.dlctlSwapnow t src n val) :=
  fun h _ hx => Option.some.inj hx ▸ (Bool.and_eq_true_iff.mp h).1
theorem dlctlEtbApply (t : Nat) (n : Nat) : Statement (.dlctlEtbApply t n) := fun _ _ hx => nomatch hx
theorem calAged (t : Nat) (n : Nat) : Statement (.calAged t n) := fun _ _ hx => nomatch hx
theorem addR (t : Nat) (g : Nat) (f : FmtR) : Statement (.addR t g f) := fun _ _ hx => nomatch hx
theorem subR (t : Nat) (g : Nat) (f : FmtR) : Statement (.subR t g f) := fun _ _ hx => nomatch hx
theorem addt (t : Nat) (g : Nat) (f : FmtR) : Statement (.addt t g f) := fun _ _ hx => nomatch hx
theorem subt (t : Nat) (g : Nat) (f : FmtR) : Statement (.subt t g f) := fun _ _ hx => nomatch hx
theorem andR (t : Nat) (g : Nat) (f : FmtR) : Statement (.andR t g f) := fun _ _ hx => nomatch hx
theorem orR (t : Nat) (g : Nat) (f : FmtR) : Statement (.orR t g f) := fun _ _ hx => nomatch hx
theorem xorR (t : Nat) (g : Nat) (f : FmtR) : Statement (.xorR t g f) := fun _ _ hx => nomatch hx
theorem andn (t : Nat) (g : Nat) (f : FmtR) : Statement (.andn t g f) := fun _ _ hx => nomatch hx
theorem shl (t : Nat) (g : Nat) (f : FmtR) : Statement (.shl t g f) := fun _ _ hx => nomatch hx
theorem shr (t : Nat) (g : Nat) (f : FmtR) : Statement (.shr t g f) := fun _ _ hx => nomatch hx
theorem sar (t : Nat) (g : Nat) (f : FmtR) : Statement (.sar t g f) := fun _ _ hx => nomatch hx
theorem ror (t : Nat) (g : Nat) (f : FmtR) : Statement (.ror t g f) := fun _ _ hx => nomatch hx
theorem cmp (t : Nat) (g : Nat) (f : FmtR) : Statement (.cmp t g f) := fun _ _ hx => nomatch hx
theorem tst (t : Nat) (g : Nat) (f : FmtR) : Statement (.tst t g f) := fun _ _ hx => nomatch hx
theorem minR (t : Nat) (g : Nat) (f : FmtR) : Statement (.minR t g f) := fun _ _ hx => nomatch hx
theorem maxR (t : Nat) (g : Nat) (f : FmtR) : Statement (.maxR t g f) := fun _ _ hx => nomatch hx
theorem movR (t : Nat) (g : Nat) (f : FmtR) : Statement (.movR t g f) := fun _ _ hx => nomatch hx
theorem clz (t : Nat) (g : Nat) (f : FmtR) : Statement (.clz t g f) := fun _ _ hx => nomatch hx
theorem absR (t : Nat) (g : Nat) (f : FmtR) : Statement (.absR t g f) := fun _ _ hx => nomatch hx
theorem negR (t : Nat) (g : Nat) (f : FmtR) : Statement (.negR t g f) := fun _ _ hx => nomatch hx
theorem mul (t : Nat) (g : Nat) (f : FmtR) : Statement (.mul t g f) := fun _ _ hx => nomatch hx
theorem mulh (t : Nat) (g : Nat) (f : FmtR) : Statement (.mulh t g f) := fun _ _ hx => nomatch hx
theorem mulhu (t : Nat) (g : Nat) (f : FmtR) : Statement (.mulhu t g f) := fun _ _ hx => nomatch hx
theorem mult (t : Nat) (g : Nat) (f : FmtR) : Statement (.mult t g f) := fun _ _ hx => nomatch hx
theorem div (t : Nat) (g : Nat) (f : FmtR) : Statement (.div t g f) := fun _ _ hx => nomatch hx
theorem divu (t : Nat) (g : Nat) (f : FmtR) : Statement (.divu t g f) := fun _ _ hx => nomatch hx
theorem rem (t : Nat) (g : Nat) (f : FmtR) : Statement (.rem t g f) := fun _ _ hx => nomatch hx
theorem remu (t : Nat) (g : Nat) (f : FmtR) : Statement (.remu t g f) := fun _ _ hx => nomatch hx
theorem addi (t : Nat) (g : Nat) (f : FmtI) : Statement (.addi t g f) := fun _ _ hx => nomatch hx
theorem andi (t : Nat) (g : Nat) (f : FmtI) : Statement (.andi t g f) := fun _ _ hx => nomatch hx
theorem ori (t : Nat) (g : Nat) (f : FmtI) : Statement (.ori t g f) := fun _ _ hx => nomatch hx
theorem xori (t : Nat) (g : Nat) (f : FmtI) : Statement (.xori t g f) := fun _ _ hx => nomatch hx
theorem shli (t : Nat) (g : Nat) (f : FmtI) : Statement (.shli t g f) := fun _ _ hx => nomatch hx
theorem shri (t : Nat) (g : Nat) (f : FmtI) : Statement (.shri t g f) := fun _ _ hx => nomatch hx
theorem sari (t : Nat) (g : Nat) (f : FmtI) : Statement (.sari t g f) := fun _ _ hx => nomatch hx
theorem cmpi (t : Nat) (g : Nat) (f : FmtI) : Statement (.cmpi t g f) := fun _ _ hx => nomatch hx
theorem movl (t : Nat) (g : Nat) (f : FmtU) : Statement (.movl t g f) := fun _ _ hx => nomatch hx
theorem movh (t : Nat) (g : Nat) (f : FmtU) : Statement (.movh t g f) := fun _ _ hx => nomatch hx
theorem addp (t : Nat) (g : Nat) (f : FmtR) : Statement (.addp t g f) := fun _ _ hx => nomatch hx
theorem subp (t : Nat) (g : Nat) (f : FmtR) : Statement (.subp t g f) := fun _ _ hx => nomatch hx
theorem cmpp (t : Nat) (g : Nat) (f : FmtR) : Statement (.cmpp t g f) := fun _ _ hx => nomatch hx
theorem movp (t : Nat) (g : Nat) (f : FmtR) : Statement (.movp t g f) := fun _ _ hx => nomatch hx
theorem addpw (t : Nat) (g : Nat) (f : FmtR) : Statement (.addpw t g f) := fun _ _ hx => nomatch hx
theorem mac (t : Nat) (g : Nat) (f : FmtR) : Statement (.mac t g f) := fun _ _ hx => nomatch hx
theorem msu (t : Nat) (g : Nat) (f : FmtR) : Statement (.msu t g f) := fun _ _ hx => nomatch hx
theorem mpy (t : Nat) (g : Nat) (f : FmtR) : Statement (.mpy t g f) := fun _ _ hx => nomatch hx
theorem mclr (t : Nat) (g : Nat) (f : FmtR) : Statement (.mclr t g f) := fun _ _ hx => nomatch hx
theorem mrd (t : Nat) (g : Nat) (f : FmtR) : Statement (.mrd t g f) := fun _ _ hx => nomatch hx
theorem mld (t : Nat) (g : Nat) (f : FmtR) : Statement (.mld t g f) := fun _ _ hx => nomatch hx
theorem mst (t : Nat) (g : Nat) (f : FmtR) : Statement (.mst t g f) := fun _ _ hx => nomatch hx
theorem ldb (t : Nat) (g : Nat) (f : FmtM) (err : Ecc) : Statement (.ldb t g f err) := fun _ _ hx => nomatch hx
theorem ldbu (t : Nat) (g : Nat) (f : FmtM) (err : Ecc) : Statement (.ldbu t g f err) := fun _ _ hx => nomatch hx
theorem ldh (t : Nat) (g : Nat) (f : FmtM) (err : Ecc) : Statement (.ldh t g f err) := fun _ _ hx => nomatch hx
theorem ldhu (t : Nat) (g : Nat) (f : FmtM) (err : Ecc) : Statement (.ldhu t g f err) := fun _ _ hx => nomatch hx
theorem ldw (t : Nat) (g : Nat) (f : FmtM) (err : Ecc) : Statement (.ldw t g f err) := fun _ _ hx => nomatch hx
theorem ldp (t : Nat) (g : Nat) (f : FmtM) (err : Ecc) : Statement (.ldp t g f err) := fun _ _ hx => nomatch hx
theorem stb (t : Nat) (g : Nat) (f : FmtM) (err : Ecc) : Statement (.stb t g f err) := fun _ _ hx => nomatch hx
theorem sth (t : Nat) (g : Nat) (f : FmtM) (err : Ecc) : Statement (.sth t g f err) := fun _ _ hx => nomatch hx
theorem stw (t : Nat) (g : Nat) (f : FmtM) (err : Ecc) : Statement (.stw t g f err) := fun _ _ hx => nomatch hx
theorem stp (t : Nat) (g : Nat) (f : FmtM) (err : Ecc) : Statement (.stp t g f err) := fun _ _ hx => nomatch hx
theorem aswpW (t : Nat) (g : Nat) (f : FmtR) (err : Ecc) : Statement (.aswpW t g f err) := fun _ _ hx => nomatch hx
theorem acasW (t : Nat) (g : Nat) (f : FmtR) (err : Ecc) : Statement (.acasW t g f err) := fun _ _ hx => nomatch hx
theorem aaddW (t : Nat) (g : Nat) (f : FmtR) (err : Ecc) : Statement (.aaddW t g f err) := fun _ _ hx => nomatch hx
theorem aandW (t : Nat) (g : Nat) (f : FmtR) (err : Ecc) : Statement (.aandW t g f err) := fun _ _ hx => nomatch hx
theorem aorW (t : Nat) (g : Nat) (f : FmtR) (err : Ecc) : Statement (.aorW t g f err) := fun _ _ hx => nomatch hx
theorem aswpP (t : Nat) (g : Nat) (f : FmtR) (err : Ecc) : Statement (.aswpP t g f err) := fun _ _ hx => nomatch hx
theorem acasP (t : Nat) (g : Nat) (f : FmtR) (err : Ecc) : Statement (.acasP t g f err) := fun _ _ hx => nomatch hx
theorem aaddP (t : Nat) (g : Nat) (f : FmtR) (err : Ecc) : Statement (.aaddP t g f err) := fun _ _ hx => nomatch hx
theorem aandP (t : Nat) (g : Nat) (f : FmtR) (err : Ecc) : Statement (.aandP t g f err) := fun _ _ hx => nomatch hx
theorem aorP (t : Nat) (g : Nat) (f : FmtR) (err : Ecc) : Statement (.aorP t g f err) := fun _ _ hx => nomatch hx
theorem fenceI (t : Nat) (g : Nat) (f : FmtX) : Statement (.fenceI t g f) := fun _ _ hx => nomatch hx
theorem mfs (t : Nat) (g : Nat) (f : FmtS) : Statement (.mfs t g f) := fun _ _ hx => nomatch hx
theorem mts (t : Nat) (g : Nat) (f : FmtS) : Statement (.mts t g f) := fun _ _ hx => nomatch hx
theorem mtsGstartw (t : Nat) (g : Nat) (rd : Nat) (res : Nat) : Statement (.mtsGstartw t g rd res) := fun _ _ hx => nomatch hx
theorem prd (t : Nat) (g : Nat) (f : FmtP) : Statement (.prd t g f) := fun _ _ hx => nomatch hx
theorem prdP (t : Nat) (g : Nat) (f : FmtP) : Statement (.prdP t g f) := fun _ _ hx => nomatch hx
theorem pwr (t : Nat) (g : Nat) (f : FmtP) : Statement (.pwr t g f) := fun _ _ hx => nomatch hx
theorem pwrP (t : Nat) (g : Nat) (f : FmtP) : Statement (.pwrP t g f) := fun _ _ hx => nomatch hx
theorem edge (t : Nat) (g : Nat) (f : FmtE) : Statement (.edge t g f) := fun _ _ hx => nomatch hx
theorem tnow (t : Nat) (g : Nat) (f : FmtT) : Statement (.tnow t g f) := fun _ _ hx => nomatch hx
theorem tnowf (t : Nat) (g : Nat) (f : FmtT) : Statement (.tnowf t g f) := fun _ _ hx => nomatch hx
theorem evtake (t : Nat) (g : Nat) (f : FmtV) : Statement (.evtake t g f) := fun _ _ hx => nomatch hx
theorem bCond (t : Nat) (g : Nat) (f : FmtB) : Statement (.bCond t g f) := fun _ _ hx => nomatch hx
theorem cbz (t : Nat) (g : Nat) (f : FmtB) : Statement (.cbz t g f) := fun _ _ hx => nomatch hx
theorem cbnz (t : Nat) (g : Nat) (f : FmtB) : Statement (.cbnz t g f) := fun _ _ hx => nomatch hx
theorem jmp (t : Nat) (g : Nat) (off : Nat) : Statement (.jmp t g off) := fun _ _ hx => nomatch hx
theorem jl (t : Nat) (g : Nat) (off : Nat) : Statement (.jl t g off) := fun _ _ hx => nomatch hx
theorem jr (t : Nat) (g : Nat) (f : FmtB) : Statement (.jr t g f) := fun _ _ hx => nomatch hx
theorem jlr (t : Nat) (g : Nat) (f : FmtB) : Statement (.jlr t g f) := fun _ _ hx => nomatch hx
theorem loopI (t : Nat) (g : Nat) (f : FmtL) : Statement (.loopI t g f) := fun _ _ hx => nomatch hx
theorem eret (t : Nat) (g : Nat) (f : FmtX) : Statement (.eret t g f) := fun _ _ hx => nomatch hx
theorem doneT (t : Nat) (g : Nat) (f : FmtX) : Statement (.doneT t g f) := fun _ _ hx => nomatch hx
theorem yieldT (t : Nat) (g : Nat) (f : FmtX) : Statement (.yieldT t g f) := fun _ _ hx => nomatch hx
theorem trapI (t : Nat) (g : Nat) (f : FmtX) : Statement (.trapI t g f) := fun _ _ hx => nomatch hx
theorem nopI (t : Nat) (g : Nat) (w : Nat) : Statement (.nopI t g w) := fun _ _ hx => nomatch hx
theorem postedStoreAck (t : Nat) (g : Nat) (i : Nat) (err : Ecc) : Statement (.postedStoreAck t g i err) := fun _ _ hx => nomatch hx
theorem postedStoreError (t : Nat) (g : Nat) (i : Nat) (err : Ecc) : Statement (.postedStoreError t g i err) := fun _ _ hx => nomatch hx
theorem engctlEreset (t : Nat) (src : Src) (g : Nat) (val : Word) : Statement (.engctlEreset t src g val) :=
  fun h _ hx => Option.some.inj hx ▸ (Bool.and_eq_true_iff.mp h).1
theorem engctlRun (t : Nat) (src : Src) (g : Nat) (val : Word) : Statement (.engctlRun t src g val) :=
  fun h _ hx => Option.some.inj hx ▸ (Bool.and_eq_true_iff.mp h).1
theorem engrateInterval (t : Nat) (g : Nat) : Statement (.engrateInterval t g) := fun _ _ hx => nomatch hx
theorem impreciseExceptionDue (t : Nat) (g : Nat) : Statement (.impreciseExceptionDue t g) := fun _ _ hx => nomatch hx
theorem exceptionEntry (t : Nat) (g : Nat) : Statement (.exceptionEntry t g) := fun _ _ hx => nomatch hx
theorem balctlBalreq (t : Nat) (src : Src) (g : Nat) (val : Word) : Statement (.balctlBalreq t src g val) :=
  fun h _ hx => Option.some.inj hx ▸ (Bool.and_eq_true_iff.mp h).1
theorem balctlBalclr (t : Nat) (src : Src) (g : Nat) (val : Word) : Statement (.balctlBalclr t src g val) :=
  fun h _ hx => Option.some.inj hx ▸ (Bool.and_eq_true_iff.mp h).1
theorem ballastEntry (t : Nat) (g : Nat) (par : Bool) : Statement (.ballastEntry t g par) := fun _ _ hx => nomatch hx
theorem ballastDumpDone (t : Nat) (g : Nat) (words : Nat) : Statement (.ballastDumpDone t g words) := fun _ _ hx => nomatch hx
theorem mcldGo (t : Nat) (src : Src) (val : Word) (err : Ecc) : Statement (.mcldGo t src val err) :=
  fun h _ hx => Option.some.inj hx ▸ h
theorem mcldCheckDone (t : Nat) : Statement (.mcldCheckDone t) := fun _ _ hx => nomatch hx
theorem mcImageApply (t : Nat) (p : Nat) : Statement (.mcImageApply t p) := fun _ _ hx => nomatch hx
theorem routerRouteEvent (t : Nat) (r : Nat) : Statement (.routerRouteEvent t r) := fun _ _ hx => nomatch hx
theorem routerFillDone (t : Nat) (r : Nat) (err : Ecc) : Statement (.routerFillDone t r err) := fun _ _ hx => nomatch hx
theorem taskInputArrival (t : Nat) (g : Nat) (slot : Nat) (inp : Nat) (arr : List Nat) : Statement (.taskInputArrival t g slot inp arr) := fun _ _ hx => nomatch hx
theorem coherenceVisit (t : Nat) (err : Ecc) : Statement (.coherenceVisit t err) := fun _ _ hx => nomatch hx
theorem invalRouteEntry (t : Nat) (src : Src) (index : Nat) : Statement (.invalRouteEntry t src index) :=
  fun h _ hx => Option.some.inj hx ▸ (Bool.and_eq_true_iff.mp h).1
theorem invalDescriptor (t : Nat) (src : Src) (index : Nat) : Statement (.invalDescriptor t src index) :=
  fun h _ hx => Option.some.inj hx ▸ (Bool.and_eq_true_iff.mp h).1
theorem invalAllRoutes (t : Nat) (src : Src) : Statement (.invalAllRoutes t src) :=
  fun h _ hx => Option.some.inj hx ▸ h
theorem invalAllDescriptors (t : Nat) (src : Src) : Statement (.invalAllDescriptors t src) :=
  fun h _ hx => Option.some.inj hx ▸ h
theorem invalDone (t : Nat) : Statement (.invalDone t) := fun _ _ hx => nomatch hx
theorem efctlEnWrite (t : Nat) (src : Src) (val : Word) : Statement (.efctlEnWrite t src val) :=
  fun h _ hx => Option.some.inj hx ▸ h
theorem taskrunClr (t : Nat) (src : Src) (g : Nat) (val : Word) : Statement (.taskrunClr t src g val) :=
  fun h _ hx => Option.some.inj hx ▸ (Bool.and_eq_true_iff.mp h).1
theorem taskrunRun (t : Nat) (src : Src) (g : Nat) (val : Word) : Statement (.taskrunRun t src g val) :=
  fun h _ hx => Option.some.inj hx ▸ (Bool.and_eq_true_iff.mp h).1
theorem tdctlWrite (t : Nat) (src : Src) (g : Nat) (slot : Nat) (val : Word) : Statement (.tdctlWrite t src g slot val) :=
  fun h _ hx => Option.some.inj hx ▸ (Bool.and_eq_true_iff.mp h).1
theorem taskDispatch (t : Nat) (g : Nat) : Statement (.taskDispatch t g) := fun _ _ hx => nomatch hx
theorem taskPreempt (t : Nat) (g : Nat) : Statement (.taskPreempt t g) := fun _ _ hx => nomatch hx
theorem taskResume (t : Nat) (g : Nat) : Statement (.taskResume t g) := fun _ _ hx => nomatch hx
theorem slackRecompute (t : Nat) : Statement (.slackRecompute t) := fun _ _ hx => nomatch hx
theorem chctlGo (t : Nat) (src : Src) (n : Nat) (val : Word) : Statement (.chctlGo t src n val) :=
  fun h _ hx => Option.some.inj hx ▸ (Bool.and_eq_true_iff.mp h).1
theorem chctlArm (t : Nat) (src : Src) (n : Nat) (val : Word) : Statement (.chctlArm t src n val) :=
  fun h _ hx => Option.some.inj hx ▸ (Bool.and_eq_true_iff.mp h).1
theorem chctlStop (t : Nat) (src : Src) (n : Nat) (val : Word) : Statement (.chctlStop t src n val) :=
  fun h _ hx => Option.some.inj hx ▸ (Bool.and_eq_true_iff.mp h).1
theorem chctlStopnow (t : Nat) (src : Src) (n : Nat) (val : Word) : Statement (.chctlStopnow t src n val) :=
  fun h _ hx => Option.some.inj hx ▸ (Bool.and_eq_true_iff.mp h).1
theorem triggerDetect (t : Nat) (n : Nat) : Statement (.triggerDetect t n) := fun _ _ hx => nomatch hx
theorem runStart (t : Nat) (n : Nat) : Statement (.runStart t n) := fun _ _ hx => nomatch hx
theorem counterPeriodBoundary (t : Nat) (n : Nat) : Statement (.counterPeriodBoundary t n) := fun _ _ hx => nomatch hx
theorem counterCmpa (t : Nat) (n : Nat) : Statement (.counterCmpa t n) := fun _ _ hx => nomatch hx
theorem counterCmpb (t : Nat) (n : Nat) : Statement (.counterCmpb t n) := fun _ _ hx => nomatch hx
theorem compareEdgeCommit (t : Nat) (n : Nat) : Statement (.compareEdgeCommit t n) := fun _ _ hx => nomatch hx
theorem pinTransition (t : Nat) (n : Nat) (lvl : Bool) : Statement (.pinTransition t n lvl) := fun _ _ hx => nomatch hx
theorem captureAccept (t : Nat) (n : Nat) : Statement (.captureAccept t n) := fun _ _ hx => nomatch hx
theorem capctlWrite (t : Nat) (src : Src) (n : Nat) (val : Word) : Statement (.capctlWrite t src n val) :=
  fun h _ hx => Option.some.inj hx ▸ (Bool.and_eq_true_iff.mp h).1
theorem loadEdgeMeasured (t : Nat) (n : Nat) (time : Nat) (rising : Bool) : Statement (.loadEdgeMeasured t n time rising) := fun _ _ hx => nomatch hx
theorem ctmReading (t : Nat) (n : Nat) (raw : Nat) : Statement (.ctmReading t n raw) := fun _ _ hx => nomatch hx
theorem ctmMaxtExpiry (t : Nat) (n : Nat) : Statement (.ctmMaxtExpiry t n) := fun _ _ hx => nomatch hx
theorem carrierRefChange (t : Nat) (n : Nat) : Statement (.carrierRefChange t n) := fun _ _ hx => nomatch hx
theorem shadowLatchPoint (t : Nat) (n : Nat) : Statement (.shadowLatchPoint t n) := fun _ _ hx => nomatch hx
theorem gloadLoadall (t : Nat) (src : Src) (j : Nat) (val : Word) : Statement (.gloadLoadall t src j val) :=
  fun h _ hx => Option.some.inj hx ▸ (Bool.and_eq_true_iff.mp h).1
theorem pwmctlPairWrite (t : Nat) (src : Src) (n : Nat) (val : Word) : Statement (.pwmctlPairWrite t src n val) :=
  fun h _ hx => Option.some.inj hx ▸ (Bool.and_eq_true_iff.mp h).1
theorem switchNodeSense (t : Nat) (n : Nat) : Statement (.switchNodeSense t n) := fun _ _ hx => nomatch hx
theorem dtmaxExpiry (t : Nat) (n : Nat) : Statement (.dtmaxExpiry t n) := fun _ _ hx => nomatch hx
theorem interlockBothOn (t : Nat) (n : Nat) : Statement (.interlockBothOn t n) := fun _ _ hx => nomatch hx
theorem interlockHoldExpiry (t : Nat) (n : Nat) : Statement (.interlockHoldExpiry t n) := fun _ _ hx => nomatch hx
theorem tripLineActivation (t : Nat) (j : Nat) (line : Nat) : Statement (.tripLineActivation t j line) := fun _ _ hx => nomatch hx
theorem blankWindowEnd (t : Nat) (n : Nat) : Statement (.blankWindowEnd t n) := fun _ _ hx => nomatch hx
theorem tripclrClr (t : Nat) (src : Src) (n : Nat) (val : Word) : Statement (.tripclrClr t src n val) :=
  fun h _ hx => Option.some.inj hx ▸ (Bool.and_eq_true_iff.mp h).1
theorem forceRelease (t : Nat) (src : Src) (n : Nat) (sync : Nat) : Statement (.forceRelease t src n sync) :=
  fun h _ hx => Option.some.inj hx ▸ (Bool.and_eq_true_iff.mp h).1
theorem forceHigh (t : Nat) (src : Src) (n : Nat) (sync : Nat) : Statement (.forceHigh t src n sync) :=
  fun h _ hx => Option.some.inj hx ▸ (Bool.and_eq_true_iff.mp h).1
theorem forceLow (t : Nat) (src : Src) (n : Nat) (sync : Nat) : Statement (.forceLow t src n sync) :=
  fun h _ hx => Option.some.inj hx ▸ (Bool.and_eq_true_iff.mp h).1
theorem forceHiz (t : Nat) (src : Src) (n : Nat) (sync : Nat) : Statement (.forceHiz t src n sync) :=
  fun h _ hx => Option.some.inj hx ▸ (Bool.and_eq_true_iff.mp h).1
theorem gforceRelease (t : Nat) (src : Src) (j : Nat) (sync : Nat) (mask : Nat) : Statement (.gforceRelease t src j sync mask) :=
  fun h _ hx => Option.some.inj hx ▸ (Bool.and_eq_true_iff.mp h).1
theorem gforceHigh (t : Nat) (src : Src) (j : Nat) (sync : Nat) (mask : Nat) : Statement (.gforceHigh t src j sync mask) :=
  fun h _ hx => Option.some.inj hx ▸ (Bool.and_eq_true_iff.mp h).1
theorem gforceLow (t : Nat) (src : Src) (j : Nat) (sync : Nat) (mask : Nat) : Statement (.gforceLow t src j sync mask) :=
  fun h _ hx => Option.some.inj hx ▸ (Bool.and_eq_true_iff.mp h).1
theorem gforceHiz (t : Nat) (src : Src) (j : Nat) (sync : Nat) (mask : Nat) : Statement (.gforceHiz t src j sync mask) :=
  fun h _ hx => Option.some.inj hx ▸ (Bool.and_eq_true_iff.mp h).1
theorem forceOrderEffect (t : Nat) (n : Nat) : Statement (.forceOrderEffect t n) := fun _ _ hx => nomatch hx
theorem safectlSafego (t : Nat) (src : Src) (j : Nat) (val : Word) : Statement (.safectlSafego t src j val) :=
  fun h _ hx => Option.some.inj hx ▸ (Bool.and_eq_true_iff.mp h).1
theorem safectlSafeclr (t : Nat) (src : Src) (j : Nat) (val : Word) : Statement (.safectlSafeclr t src j val) :=
  fun h _ hx => Option.some.inj hx ▸ (Bool.and_eq_true_iff.mp h).1
theorem safeStateEffect (t : Nat) (j : Nat) : Statement (.safeStateEffect t j) := fun _ _ hx => nomatch hx
theorem analogReady (t : Nat) : Statement (.analogReady t) := fun _ _ hx => nomatch hx
theorem comparatorCrossing (t : Nat) (k : Nat) (nv : Nat) : Statement (.comparatorCrossing t k nv) := fun _ _ hx => nomatch hx
theorem comparatorOutputChange (t : Nat) (k : Nat) : Statement (.comparatorOutputChange t k) := fun _ _ hx => nomatch hx
theorem kclrClr (t : Nat) (src : Src) (k : Nat) (val : Word) : Statement (.kclrClr t src k val) :=
  fun h _ hx => Option.some.inj hx ▸ (Bool.and_eq_true_iff.mp h).1
theorem sarTrigger (t : Nat) (i : Nat) : Statement (.sarTrigger t i) := fun _ _ hx => nomatch hx
theorem sarswGo (t : Nat) (src : Src) (i : Nat) (val : Word) : Statement (.sarswGo t src i val) :=
  fun h _ hx => Option.some.inj hx ▸ (Bool.and_eq_true_iff.mp h).1
theorem sarConversion (t : Nat) (i : Nat) (nv : Nat) : Statement (.sarConversion t i nv) := fun _ _ hx => nomatch hx
theorem sampleRecordAck (t : Nat) (sd : Bool) (i : Nat) (err : Ecc) : Statement (.sampleRecordAck t sd i err) := fun _ _ hx => nomatch hx
theorem sdWord (t : Nat) (i : Nat) (bits : List RxBit) : Statement (.sdWord t i bits) := fun _ _ hx => nomatch hx
theorem sdConfigApply (t : Nat) (i : Nat) : Statement (.sdConfigApply t i) := fun _ _ hx => nomatch hx
theorem modulatorFault (t : Nat) (i : Nat) (bits : List RxBit) (viol : Bool) : Statement (.modulatorFault t i bits viol) := fun _ _ hx => nomatch hx
theorem modulatorFaultClear (t : Nat) (i : Nat) (bits : List RxBit) : Statement (.modulatorFaultClear t i bits) := fun _ _ hx => nomatch hx
theorem sdFastWord (t : Nat) (i : Nat) (bits : List RxBit) : Statement (.sdFastWord t i bits) := fun _ _ hx => nomatch hx
theorem tailctlArmWrite (t : Nat) (src : Src) (k : Nat) (val : Word) : Statement (.tailctlArmWrite t src k val) :=
  fun h _ hx => Option.some.inj hx ▸ (Bool.and_eq_true_iff.mp h).1
theorem tailEdgeAccept (t : Nat) (k : Nat) (inst : Nat) (code : Nat) : Statement (.tailEdgeAccept t k inst code) := fun _ _ hx => nomatch hx
theorem tailZEdge (t : Nat) (k : Nat) (inst : Nat) (lvl : Bool) : Statement (.tailZEdge t k inst lvl) := fun _ _ hx => nomatch hx
theorem sertrigGo (t : Nat) (src : Src) (k : Nat) (val : Word) : Statement (.sertrigGo t src k val) :=
  fun h _ hx => Option.some.inj hx ▸ (Bool.and_eq_true_iff.mp h).1
theorem serialTrigger (t : Nat) (k : Nat) (ready : Bool) : Statement (.serialTrigger t k ready) := fun _ _ hx => nomatch hx
theorem bissAckTimeout (t : Nat) (k : Nat) : Statement (.bissAckTimeout t k) := fun _ _ hx => nomatch hx
theorem bissStartTimeout (t : Nat) (k : Nat) (trt : Nat) : Statement (.bissStartTimeout t k trt) := fun _ _ hx => nomatch hx
theorem serialFrameDone (t : Nat) (k : Nat) (trt : Nat) (data : Nat) (stat : Nat) (crc : Nat) (cds : Nat) : Statement (.serialFrameDone t k trt data stat crc cds) := fun _ _ hx => nomatch hx
theorem tailRecordWrite (t : Nat) (k : Nat) (err : Ecc) : Statement (.tailRecordWrite t k err) := fun _ _ hx => nomatch hx
theorem velDecayUpdate (t : Nat) (k : Nat) : Statement (.velDecayUpdate t k) := fun _ _ hx => nomatch hx
theorem speedStaleTimeout (t : Nat) (k : Nat) : Statement (.speedStaleTimeout t k) := fun _ _ hx => nomatch hx
theorem lineBreakDetect (t : Nat) (k : Nat) (mask : Nat) : Statement (.lineBreakDetect t k mask) := fun _ _ hx => nomatch hx
theorem lineBreakClear (t : Nat) (k : Nat) (mask : Nat) : Statement (.lineBreakClear t k mask) := fun _ _ hx => nomatch hx
theorem freshnessTimeout (t : Nat) (k : Nat) : Statement (.freshnessTimeout t k) := fun _ _ hx => nomatch hx
theorem lossGraceExpiry (t : Nat) (k : Nat) : Statement (.lossGraceExpiry t k) := fun _ _ hx => nomatch hx
theorem flyingSyncTimeout (t : Nat) (k : Nat) : Statement (.flyingSyncTimeout t k) := fun _ _ hx => nomatch hx
theorem brakeTimeout (t : Nat) (k : Nat) : Statement (.brakeTimeout t k) := fun _ _ hx => nomatch hx
theorem emuEdgeCommit (t : Nat) (k : Nat) : Statement (.emuEdgeCommit t k) := fun _ _ hx => nomatch hx
theorem emuPathChange (t : Nat) (k : Nat) : Statement (.emuPathChange t k) := fun _ _ hx => nomatch hx
theorem spoolTooth (t : Nat) (i : Nat) : Statement (.spoolTooth t i) := fun _ _ hx => nomatch hx
theorem spoolHalt (t : Nat) (i : Nat) : Statement (.spoolHalt t i) := fun _ _ hx => nomatch hx
theorem spoolLateDeadline (t : Nat) (i : Nat) : Statement (.spoolLateDeadline t i) := fun _ _ hx => nomatch hx
theorem spoolReverseEdge (t : Nat) (i : Nat) : Statement (.spoolReverseEdge t i) := fun _ _ hx => nomatch hx
theorem spctlSyncnow (t : Nat) (src : Src) (i : Nat) (val : Word) : Statement (.spctlSyncnow t src i val) :=
  fun h _ hx => Option.some.inj hx ▸ (Bool.and_eq_true_iff.mp h).1
theorem spctlDesync (t : Nat) (src : Src) (i : Nat) (val : Word) : Statement (.spctlDesync t src i val) :=
  fun h _ hx => Option.some.inj hx ▸ (Bool.and_eq_true_iff.mp h).1
theorem spctlEnWrite (t : Nat) (src : Src) (i : Nat) (val : Word) : Statement (.spctlEnWrite t src i val) :=
  fun h _ hx => Option.some.inj hx ▸ (Bool.and_eq_true_iff.mp h).1
theorem spoolEnding (t : Nat) (i : Nat) : Statement (.spoolEnding t i) := fun _ _ hx => nomatch hx
theorem aevctlDisarm (t : Nat) (src : Src) (i : Nat) (j : Nat) (val : Word) : Statement (.aevctlDisarm t src i j val) :=
  fun h _ hx => Option.some.inj hx ▸ (Bool.and_eq_true_iff.mp (Bool.and_eq_true_iff.mp h).1).1
theorem aevctlOnce (t : Nat) (src : Src) (i : Nat) (j : Nat) (val : Word) : Statement (.aevctlOnce t src i j val) :=
  fun h _ hx => Option.some.inj hx ▸ (Bool.and_eq_true_iff.mp (Bool.and_eq_true_iff.mp h).1).1
theorem aevctlEvery (t : Nat) (src : Src) (i : Nat) (j : Nat) (val : Word) : Statement (.aevctlEvery t src i j val) :=
  fun h _ hx => Option.some.inj hx ▸ (Bool.and_eq_true_iff.mp (Bool.and_eq_true_iff.mp h).1).1
theorem aevctlOnceRev (t : Nat) (src : Src) (i : Nat) (j : Nat) (val : Word) : Statement (.aevctlOnceRev t src i j val) :=
  fun h _ hx => Option.some.inj hx ▸ (Bool.and_eq_true_iff.mp (Bool.and_eq_true_iff.mp h).1).1
theorem slotCommit (t : Nat) (i : Nat) (j : Nat) : Statement (.slotCommit t i j) := fun _ _ hx => nomatch hx
theorem springPoll (t : Nat) (i : Nat) (err : Ecc) : Statement (.springPoll t i err) := fun _ _ hx => nomatch hx
theorem spangleRead (t : Nat) (src : Src) (i : Nat) : Statement (.spangleRead t src i) :=
  fun h _ hx => Option.some.inj hx ▸ (Bool.and_eq_true_iff.mp h).1
theorem spoolBcastSample (t : Nat) (i : Nat) : Statement (.spoolBcastSample t i) := fun _ _ hx => nomatch hx
theorem spoolRecordArrival (t : Nat) (i : Nat) (r : SpRec) : Statement (.spoolRecordArrival t i r) := fun _ _ hx => nomatch hx
theorem remoteAgeExpiry (t : Nat) (i : Nat) : Statement (.remoteAgeExpiry t i) := fun _ _ hx => nomatch hx
theorem vfFlr (t : Nat) (f : Nat) : Statement (.vfFlr t f) := fun _ _ hx => nomatch hx
theorem pfFlr (t : Nat) : Statement (.pfFlr t) := fun _ _ hx => nomatch hx
theorem hotReset (t : Nat) : Statement (.hotReset t) := fun _ _ hx => nomatch hx
theorem perst (t : Nat) (asserted : Bool) : Statement (.perst t asserted) := fun _ _ hx => nomatch hx
theorem bridleWrite (t : Nat) (src : Src) (e : Nat) (val : Word) : Statement (.bridleWrite t src e val) :=
  fun h _ hx => Option.some.inj hx ▸ (Bool.and_eq_true_iff.mp h).1
theorem hostwdKick (t : Nat) (src : Src) (f : Nat) (val : Word) : Statement (.hostwdKick t src f val) :=
  fun h _ hx => Option.some.inj hx ▸ (Bool.and_eq_true_iff.mp h).1
theorem hostWdExpiry (t : Nat) (f : Nat) : Statement (.hostWdExpiry t f) := fun _ _ hx => nomatch hx
theorem mvctlGo (t : Nat) (src : Src) (m : Nat) (val : Word) : Statement (.mvctlGo t src m val) :=
  fun h _ hx => Option.some.inj hx ▸ (Bool.and_eq_true_iff.mp h).1
theorem mvctlStop (t : Nat) (src : Src) (m : Nat) (val : Word) : Statement (.mvctlStop t src m val) :=
  fun h _ hx => Option.some.inj hx ▸ (Bool.and_eq_true_iff.mp h).1
theorem mvDescriptorFetched (t : Nat) (m : Nat) (st : Cpl) (err : Ecc) (words : List Nat) : Statement (.mvDescriptorFetched t m st err words) := fun _ _ hx => nomatch hx
theorem hostCompletion (t : Nat) (m : Nat) (st : Cpl) (data : List Byte) (err : Ecc) : Statement (.hostCompletion t m st data err) := fun _ _ hx => nomatch hx
theorem dllAck (t : Nat) (n : Nat) (err : Ecc) : Statement (.dllAck t n err) := fun _ _ hx => nomatch hx
theorem mvDescriptorRetire (t : Nat) (m : Nat) (err : Ecc) : Statement (.mvDescriptorRetire t m err) := fun _ _ hx => nomatch hx
theorem pcieCompletionTimeout (t : Nat) (m : Nat) (err : Ecc) : Statement (.pcieCompletionTimeout t m err) := fun _ _ hx => nomatch hx
theorem qcmdEnable (t : Nat) (src : Src) (q : Nat) : Statement (.qcmdEnable t src q) :=
  fun h _ hx => Option.some.inj hx ▸ (Bool.and_eq_true_iff.mp h).1
theorem qcmdDisable (t : Nat) (src : Src) (q : Nat) : Statement (.qcmdDisable t src q) :=
  fun h _ hx => Option.some.inj hx ▸ (Bool.and_eq_true_iff.mp h).1
theorem qcmdReload (t : Nat) (src : Src) (q : Nat) : Statement (.qcmdReload t src q) :=
  fun h _ hx => Option.some.inj hx ▸ (Bool.and_eq_true_iff.mp h).1
theorem queueContextFetched (t : Nat) (q : Nat) (st : Cpl) (words : List Nat) : Statement (.queueContextFetched t q st words) := fun _ _ hx => nomatch hx
theorem doorbellWrite (t : Nat) (src : Src) (q : Nat) (val : Word) : Statement (.doorbellWrite t src q val) :=
  fun h _ hx => Option.some.inj hx ▸ (Bool.and_eq_true_iff.mp h).1
theorem queueRecordWrite (t : Nat) (q : Nat) : Statement (.queueRecordWrite t q) := fun _ _ hx => nomatch hx
theorem prodWriteback (t : Nat) (q : Nat) : Statement (.prodWriteback t q) := fun _ _ hx => nomatch hx
theorem queueItimeExpiry (t : Nat) (q : Nat) : Statement (.queueItimeExpiry t q) := fun _ _ hx => nomatch hx
theorem msixRequest (t : Nat) (f : Nat) (v : Nat) : Statement (.msixRequest t f v) := fun _ _ hx => nomatch hx
theorem msixTableWrite (t : Nat) (src : Src) (off : Nat) (words : List Nat) : Statement (.msixTableWrite t src off words) :=
  fun h _ hx => Option.some.inj hx ▸ (Bool.and_eq_true_iff.mp h).1
theorem cmdWrite (t : Nat) (q : Nat) (off : Nat) (val : Word) (tag : Nat) : Statement (.cmdWrite t q off val tag) := fun _ _ hx => nomatch hx
theorem cmdWriteat (t : Nat) (q : Nat) (off : Nat) (val : Word) (at_ : Nat) (tag : Nat) : Statement (.cmdWriteat t q off val at_ tag) := fun _ _ hx => nomatch hx
theorem writeatDue (t : Nat) (q : Nat) : Statement (.writeatDue t q) := fun _ _ hx => nomatch hx
theorem cmdMark (t : Nat) (q : Nat) (tag : Nat) : Statement (.cmdMark t q tag) := fun _ _ hx => nomatch hx
theorem cmdBad (t : Nat) (q : Nat) (code : Nat) (tag : Nat) : Statement (.cmdBad t q code tag) := fun _ _ hx => nomatch hx
theorem linkDown (t : Nat) : Statement (.linkDown t) := fun _ _ hx => nomatch hx
theorem linkUp (t : Nat) (err : Ecc) : Statement (.linkUp t err) := fun _ _ hx => nomatch hx
theorem tetherCycleStart (t : Nat) (p : Nat) : Statement (.tetherCycleStart t p) := fun _ _ hx => nomatch hx
theorem controlBlockRx (t : Nat) (p : Nat) (b : CtlBlk) : Statement (.controlBlockRx t p b) := fun _ _ hx => nomatch hx
theorem dataSlotRx (t : Nat) (p : Nat) (slot : Slot) (cyc : Nat) (items : List TMsg) : Statement (.dataSlotRx t p slot cyc items) := fun _ _ hx => nomatch hx
theorem answerBlockRx (t : Nat) (p : Nat) (cyc : Nat) (tag : Bool) : Statement (.answerBlockRx t p cyc tag) := fun _ _ hx => nomatch hx
theorem pollDeadline (t : Nat) (p : Nat) : Statement (.pollDeadline t p) := fun _ _ hx => nomatch hx
theorem portTrainTurn (t : Nat) (p : Nat) : Statement (.portTrainTurn t p) := fun _ _ hx => nomatch hx
theorem laneTrained (t : Nat) (p : Nat) (lanes : Nat) : Statement (.laneTrained t p lanes) := fun _ _ hx => nomatch hx
theorem trainTimeout (t : Nat) (p : Nat) : Statement (.trainTimeout t p) := fun _ _ hx => nomatch hx
theorem trainRetry (t : Nat) (p : Nat) : Statement (.trainRetry t p) := fun _ _ hx => nomatch hx
theorem busyRx (t : Nat) (p : Nat) : Statement (.busyRx t p) := fun _ _ hx => nomatch hx
theorem busywaitRetry (t : Nat) (p : Nat) : Statement (.busywaitRetry t p) := fun _ _ hx => nomatch hx
theorem capxMessage (t : Nat) (p : Nat) (m : CapMsg) : Statement (.capxMessage t p m) := fun _ _ hx => nomatch hx
theorem authMessage (t : Nat) (p : Nat) (m : AuthMsg) : Statement (.authMessage t p m) := fun _ _ hx => nomatch hx
theorem authTimeout (t : Nat) (p : Nat) : Statement (.authTimeout t p) := fun _ _ hx => nomatch hx
theorem quarExpiry (t : Nat) (p : Nat) : Statement (.quarExpiry t p) := fun _ _ hx => nomatch hx
theorem tpctlRetry (t : Nat) (src : Src) (p : Nat) (val : Word) : Statement (.tpctlRetry t src p val) :=
  fun h _ hx => Option.some.inj hx ▸ (Bool.and_eq_true_iff.mp h).1
theorem laneLockLoss (t : Nat) (p : Nat) : Statement (.laneLockLoss t p) := fun _ _ hx => nomatch hx
theorem rekeyStart (t : Nat) (p : Nat) : Statement (.rekeyStart t p) := fun _ _ hx => nomatch hx
theorem rekeyTimeout (t : Nat) (p : Nat) : Statement (.rekeyTimeout t p) := fun _ _ hx => nomatch hx
theorem tetherExchangeLoss (t : Nat) : Statement (.tetherExchangeLoss t) := fun _ _ hx => nomatch hx
theorem electionSettled (t : Nat) : Statement (.electionSettled t) := fun _ _ hx => nomatch hx
theorem admreqRx (t : Nat) (p : Nat) (serial : Nat) (want : Option Nat) : Statement (.admreqRx t p serial want) := fun _ _ hx => nomatch hx
theorem admitRx (t : Nat) (p : Nat) (serial : Nat) (idx : Option Nat) (midx : Nat) : Statement (.admitRx t p serial idx midx) := fun _ _ hx => nomatch hx
theorem masterLostGraceExpiry (t : Nat) : Statement (.masterLostGraceExpiry t) := fun _ _ hx => nomatch hx
theorem rwctlGo (t : Nat) (src : Src) (val : Word) : Statement (.rwctlGo t src val) :=
  fun h _ hx => Option.some.inj hx ▸ h
theorem remoteCommandRx (t : Nat) (dev : Nat) (seq : Nat) (wr : Bool) (off : Nat) (val : Nat) : Statement (.remoteCommandRx t dev seq wr off val) := fun _ _ hx => nomatch hx
theorem rwResponseRx (t : Nat) (seq : Nat) (res : Nat) (val : Nat) : Statement (.rwResponseRx t seq res val) := fun _ _ hx => nomatch hx
theorem rwTimeout (t : Nat) : Statement (.rwTimeout t) := fun _ _ hx => nomatch hx
theorem importWrite (t : Nat) (src : Src) (x : Nat) (val : Word) : Statement (.importWrite t src x val) :=
  fun h _ hx => Option.some.inj hx ▸ (Bool.and_eq_true_iff.mp h).1
theorem subscriptionRx (t : Nat) (dev : Nat) (x : Nat) (id : Nat) (en : Bool) : Statement (.subscriptionRx t dev x id en) := fun _ _ hx => nomatch hx
theorem importEventRx (t : Nat) (dev : Nat) (x : Nat) (seq : Nat) (ts : Nat) (detail : Nat) (tq : Bool) (coinc : Bool) : Statement (.importEventRx t dev x seq ts detail tq coinc) := fun _ _ hx => nomatch hx
theorem cgstartGo (t : Nat) (src : Src) (val : Word) : Statement (.cgstartGo t src val) :=
  fun h _ hx => Option.some.inj hx ▸ h
theorem cgstartBroadcastRx (t : Nat) (at_ : Nat) (restart : Bool) : Statement (.cgstartBroadcastRx t at_ restart) := fun _ _ hx => nomatch hx
theorem cgstartReportRx (t : Nat) (dev : Nat) (res : Nat) : Statement (.cgstartReportRx t dev res) := fun _ _ hx => nomatch hx
theorem cgstartClose (t : Nat) : Statement (.cgstartClose t) := fun _ _ hx => nomatch hx
theorem scrubWord (t : Nat) (mem : Nat) (p : Nat) (err : Ecc) : Statement (.scrubWord t mem p err) := fun _ _ hx => nomatch hx
theorem monitorReading (t : Nat) (m : Nat) (k : Nat) (temp : Int) : Statement (.monitorReading t m k temp) := fun _ _ hx => nomatch hx
theorem marginEvaluation (t : Nat) : Statement (.marginEvaluation t) := fun _ _ hx => nomatch hx
theorem marginStepBack (t : Nat) : Statement (.marginStepBack t) := fun _ _ hx => nomatch hx
theorem sprcmdWarm (t : Nat) (src : Src) (val : Word) : Statement (.sprcmdWarm t src val) :=
  fun h _ hx => Option.some.inj hx ▸ h
theorem sprcmdCold (t : Nat) (src : Src) (val : Word) : Statement (.sprcmdCold t src val) :=
  fun h _ hx => Option.some.inj hx ▸ h
theorem sprcmdTest (t : Nat) (src : Src) (val : Word) : Statement (.sprcmdTest t src val) :=
  fun h _ hx => Option.some.inj hx ▸ h
theorem sprcmdAbort (t : Nat) (src : Src) (val : Word) : Statement (.sprcmdAbort t src val) :=
  fun h _ hx => Option.some.inj hx ▸ h
theorem takeoverStart (t : Nat) : Statement (.takeoverStart t) := fun _ _ hx => nomatch hx
theorem takeoverCopyDone (t : Nat) : Statement (.takeoverCopyDone t) := fun _ _ hx => nomatch hx
theorem takeoverJoin (t : Nat) (mism : Nat) : Statement (.takeoverJoin t mism) := fun _ _ hx => nomatch hx
theorem takeoverHandover (t : Nat) (mism : Nat) : Statement (.takeoverHandover t mism) := fun _ _ hx => nomatch hx
theorem takeoverTimeLimit (t : Nat) : Statement (.takeoverTimeLimit t) := fun _ _ hx => nomatch hx
theorem coldTakeover (t : Nat) : Statement (.coldTakeover t) := fun _ _ hx => nomatch hx
theorem selftestStart (t : Nat) (p : Nat) : Statement (.selftestStart t p) := fun _ _ hx => nomatch hx
theorem selftestDone (t : Nat) (check : Nat) : Statement (.selftestDone t check) := fun _ _ hx => nomatch hx
theorem telemetryBlock (t : Nat) (hot : Int) (mean : Int) (err : Ecc) : Statement (.telemetryBlock t hot mean err) := fun _ _ hx => nomatch hx
theorem pwrctlGoAloft (t : Nat) (src : Src) (val : Word) : Statement (.pwrctlGoAloft t src val) :=
  fun h _ hx => Option.some.inj hx ▸ h
theorem pwrctlGoDrift (t : Nat) (src : Src) (val : Word) : Statement (.pwrctlGoDrift t src val) :=
  fun h _ hx => Option.some.inj hx ▸ h
theorem pwrctlGoMoored (t : Nat) (src : Src) (val : Word) : Statement (.pwrctlGoMoored t src val) :=
  fun h _ hx => Option.some.inj hx ▸ h
theorem pwrctlGoGrounded (t : Nat) (src : Src) (val : Word) : Statement (.pwrctlGoGrounded t src val) :=
  fun h _ hx => Option.some.inj hx ▸ h
theorem powerAutoEntry (t : Nat) (sinceD : Nat) (sinceM : Nat) : Statement (.powerAutoEntry t sinceD sinceM) := fun _ _ hx => nomatch hx
theorem powerEntryDone (t : Nat) : Statement (.powerEntryDone t) := fun _ _ hx => nomatch hx
theorem wakeRequest (t : Nat) (cause : Nat) (idx : Nat) : Statement (.wakeRequest t cause idx) := fun _ _ hx => nomatch hx
theorem wakeTimer (t : Nat) : Statement (.wakeTimer t) := fun _ _ hx => nomatch hx
theorem wakeDone (t : Nat) : Statement (.wakeDone t) := fun _ _ hx => nomatch hx
theorem gwakeRise (t : Nat) : Statement (.gwakeRise t) := fun _ _ hx => nomatch hx
theorem supplyMeasurement (t : Nat) (r : Nat) (mv : Nat) : Statement (.supplyMeasurement t r mv) := fun _ _ hx => nomatch hx
theorem supplyWarning (t : Nat) (r : Nat) : Statement (.supplyWarning t r) := fun _ _ hx => nomatch hx
theorem supplyFault (t : Nat) (r : Nat) (mv : Nat) : Statement (.supplyFault t r mv) := fun _ _ hx => nomatch hx
theorem supplyFaultClear (t : Nat) (r : Nat) (mv : Nat) : Statement (.supplyFaultClear t r mv) := fun _ _ hx => nomatch hx
theorem avsEvaluation (t : Nat) : Statement (.avsEvaluation t) := fun _ _ hx => nomatch hx
theorem pmbusRequestSend (t : Nat) (ok : Bool) : Statement (.pmbusRequestSend t ok) := fun _ _ hx => nomatch hx
theorem pmbusSettled (t : Nat) : Statement (.pmbusSettled t) := fun _ _ hx => nomatch hx
theorem pmbusSettleTimeout (t : Nat) : Statement (.pmbusSettleTimeout t) := fun _ _ hx => nomatch hx
theorem pmbusStatusPoll (t : Nat) (ok : Bool) (word : Nat) (fault : Bool) : Statement (.pmbusStatusPoll t ok word fault) := fun _ _ hx => nomatch hx
theorem avsctlRetry (t : Nat) (src : Src) (val : Word) : Statement (.avsctlRetry t src val) :=
  fun h _ hx => Option.some.inj hx ▸ h
theorem lccmdGetkey (t : Nat) (src : Src) (val : Word) : Statement (.lccmdGetkey t src val) :=
  fun h _ hx => Option.some.inj hx ▸ h
theorem lccmdProvision (t : Nat) (src : Src) (val : Word) (err : Ecc) : Statement (.lccmdProvision t src val err) :=
  fun h _ hx => Option.some.inj hx ▸ h
theorem lccmdLock (t : Nat) (src : Src) (val : Word) : Statement (.lccmdLock t src val) :=
  fun h _ hx => Option.some.inj hx ▸ h
theorem lccmdRetire (t : Nat) (src : Src) (val : Word) (err : Ecc) : Statement (.lccmdRetire t src val err) :=
  fun h _ hx => Option.some.inj hx ▸ h
theorem lcCommandDone (t : Nat) : Statement (.lcCommandDone t) := fun _ _ hx => nomatch hx
theorem revctlGo (t : Nat) (src : Src) (val : Word) (err : Ecc) : Statement (.revctlGo t src val err) :=
  fun h _ hx => Option.some.inj hx ▸ h
theorem revlistCheckDone (t : Nat) : Statement (.revlistCheckDone t) := fun _ _ hx => nomatch hx
theorem secgonWrite (t : Nat) (src : Src) (i : Nat) (val : Word) : Statement (.secgonWrite t src i val) :=
  fun h _ hx => Option.some.inj hx ▸ (Bool.and_eq_true_iff.mp h).1
theorem tamperDetect (t : Nat) (k : Nat) : Statement (.tamperDetect t k) := fun _ _ hx => nomatch hx
theorem wipeDone (t : Nat) : Statement (.wipeDone t) := fun _ _ hx => nomatch hx
theorem dbgctlOpen (t : Nat) (src : Src) (val : Word) (err : Ecc) : Statement (.dbgctlOpen t src val err) :=
  fun h _ hx => Option.some.inj hx ▸ h
theorem tokenCheckDone (t : Nat) : Statement (.tokenCheckDone t) := fun _ _ hx => nomatch hx
theorem dbgctlClose (t : Nat) (src : Src) (val : Word) : Statement (.dbgctlClose t src val) :=
  fun h _ hx => Option.some.inj hx ▸ h
theorem debugSessionExpiry (t : Nat) : Statement (.debugSessionExpiry t) := fun _ _ hx => nomatch hx
theorem debugLockoutExpiry (t : Nat) : Statement (.debugLockoutExpiry t) := fun _ _ hx => nomatch hx
theorem dbgectlHalt (t : Nat) (src : Src) (g : Nat) (val : Word) : Statement (.dbgectlHalt t src g val) :=
  fun h _ hx => Option.some.inj hx ▸ (Bool.and_eq_true_iff.mp h).1
theorem dbgectlResume (t : Nat) (src : Src) (g : Nat) (val : Word) : Statement (.dbgectlResume t src g val) :=
  fun h _ hx => Option.some.inj hx ▸ (Bool.and_eq_true_iff.mp h).1
theorem dbgectlStep (t : Nat) (src : Src) (g : Nat) (val : Word) : Statement (.dbgectlStep t src g val) :=
  fun h _ hx => Option.some.inj hx ▸ (Bool.and_eq_true_iff.mp h).1
theorem breakpointHit (t : Nat) (g : Nat) : Statement (.breakpointHit t g) := fun _ _ hx => nomatch hx
theorem dbgdataRead (t : Nat) (src : Src) (g : Nat) : Statement (.dbgdataRead t src g) :=
  fun h _ hx => Option.some.inj hx ▸ (Bool.and_eq_true_iff.mp h).1
theorem dbgdataWrite (t : Nat) (src : Src) (g : Nat) (val : Word) : Statement (.dbgdataWrite t src g val) :=
  fun h _ hx => Option.some.inj hx ▸ (Bool.and_eq_true_iff.mp h).1
theorem jtagIdcode (t : Nat) : Statement (.jtagIdcode t) := fun _ _ hx => nomatch hx
theorem jtagBypass (t : Nat) : Statement (.jtagBypass t) := fun _ _ hx => nomatch hx
theorem jtagSamplePreload (t : Nat) (cells : List Bool) : Statement (.jtagSamplePreload t cells) := fun _ _ hx => nomatch hx
theorem jtagExtest (t : Nat) : Statement (.jtagExtest t) := fun _ _ hx => nomatch hx
theorem jtagLcread (t : Nat) : Statement (.jtagLcread t) := fun _ _ hx => nomatch hx
theorem jtagLcpub (t : Nat) : Statement (.jtagLcpub t) := fun _ _ hx => nomatch hx
theorem jtagLcstage (t : Nat) : Statement (.jtagLcstage t) := fun _ _ hx => nomatch hx
theorem lcstageWordUpdate (t : Nat) (val : Word) : Statement (.lcstageWordUpdate t val) := fun _ _ hx => nomatch hx
theorem jtagLccmd (t : Nat) (val : Word) : Statement (.jtagLccmd t val) := fun _ _ hx => nomatch hx
theorem jtagDbgnonce (t : Nat) : Statement (.jtagDbgnonce t) := fun _ _ hx => nomatch hx
theorem jtagToken (t : Nat) (tok : List Byte) : Statement (.jtagToken t tok) := fun _ _ hx => nomatch hx
theorem jtagDbgopen (t : Nat) (level : Nat) : Statement (.jtagDbgopen t level) := fun _ _ hx => nomatch hx
theorem jtagDbgacc (t : Nat) (off : Nat) (wr : Option Word) : Statement (.jtagDbgacc t off wr) := fun _ _ hx => nomatch hx
theorem powerOnReset (t : Nat) : Statement (.powerOnReset t) := fun _ _ hx => nomatch hx
theorem bootFuseDone (t : Nat) (keep : Bool) : Statement (.bootFuseDone t keep) := fun _ _ hx => nomatch hx
theorem bootClockDone (t : Nat) : Statement (.bootClockDone t) := fun _ _ hx => nomatch hx
theorem bootTestDone (t : Nat) (bad : Nat) : Statement (.bootTestDone t bad) := fun _ _ hx => nomatch hx
theorem bootCalDone (t : Nat) : Statement (.bootCalDone t) := fun _ _ hx => nomatch hx
theorem bootReady (t : Nat) : Statement (.bootReady t) := fun _ _ hx => nomatch hx
theorem bootStageFail (t : Nat) (stage : Nat) : Statement (.bootStageFail t stage) := fun _ _ hx => nomatch hx
theorem bankoeset (t : Nat) (src : Src) (val : Word) : Statement (.bankoeset t src val) :=
  fun h _ hx => Option.some.inj hx ▸ h
theorem bankoeclr (t : Nat) (src : Src) (val : Word) : Statement (.bankoeclr t src val) :=
  fun h _ hx => Option.some.inj hx ▸ h
theorem bankOeEffect (t : Nat) : Statement (.bankOeEffect t) := fun _ _ hx => nomatch hx
theorem thermtripAssert (t : Nat) : Statement (.thermtripAssert t) := fun _ _ hx => nomatch hx
theorem getkeyDone (t : Nat) : Statement (.getkeyDone t) := fun _ _ hx => nomatch hx
theorem stopnowRunEnd (t : Nat) (n : Nat) : Statement (.stopnowRunEnd t n) := fun _ _ hx => nomatch hx
theorem readerLatencyTracking (t : Nat) (skew : Nat) : Statement (.readerLatencyTracking t skew) := fun _ _ hx => nomatch hx
theorem configurationRequest (t : Nat) (f : Nat) (off : Nat) (wr : Option Word) (field : Option CfgField) : Statement (.configurationRequest t f off wr field) := fun _ _ hx => nomatch hx
theorem thermtripRelease (t : Nat) : Statement (.thermtripRelease t) := fun _ _ hx => nomatch hx

end Sys2Proof.Laws.Sourced
end

