-- ==== Sys2Proof/Machine/Fetch.lean ====
section
/-! DEFINITION. The instruction an engine comes to by its PC (R70, R84). The commands of the block carry their instruction
themselves; this is the one that local memory holds for it (notes/assumptions/153.md). -/
namespace Sys2Proof.Machine

/-- The command that executes the next instruction of engine `g` at instant `t`, as local memory holds it at the PC; none where
the fetch faults. -/
def State.engNext (s : State) (t g : Nat) (err : Ecc) : Option Instr :=
  if (s.fetchBad g).isSome then none
  else some (decodeEngine t g (s.mem.lmWord g ((s.en g).pc - 0x40000000)) err)

end Sys2Proof.Machine
end

