-- ==== Sys2Proof/Tests/Slice0.lean ====
section
/-! SUPPORT. Small tests: ill-formed commands are refused, the spec's worked examples hold, and the hypotheses of every statement
of Certificates/Slice0/Obligations.lean can be met together. -/
open Sys2Proof Sys2Proof.Machine Sys2Proof.Machine.Reg
namespace Sys2Proof.Tests
set_option maxRecDepth 100000
set_option linter.unusedVariables false
set_option Elab.async false

/-! ### Ill-formed commands: one for each check of each command -/

theorem test_ill_formed_1 : ([
    .registerWrite 0 (.fn 0) 0x4000000 0 0, .readClearAccess 0 (.fn 0) 0x4000000 0, .handshakeWatchdogExpiry 0 213,
    .meshisoReadmit 0 (.fn 0) 7 0, .readmitSelftestDone 0 213 true,
    .grantRoundOpen 0 (List.replicate 9 ⟨.fn 0, 0, .regRead 0, .clean⟩),
    .grantRoundOpen 0 [⟨.fn 17, 0, .regRead 0, .clean⟩],
    .grantRoundOpen 0 [⟨.fn 0, 0, .regRead 0, .clean⟩, ⟨.fn 0, 0, .regRead 0, .clean⟩], .sramRead 0 (.fn 17) 0 0 .clean,
    .sramWrite 0 (.fn 17) 0 [] .clean, .sramAtomicSwap 0 (.fn 17) 0 0 0 .clean,
    .sramAtomicCas 0 (.fn 17) 0 0 0 0 .clean, .sramAtomicAdd 0 (.fn 17) 0 0 0 .clean,
    .sramAtomicAnd 0 (.fn 17) 0 0 0 .clean, .sramAtomicOr 0 (.fn 17) 0 0 0 .clean, .nsLoRead 0 (.fn 0) 18,
    .tbLoadgo 0 (.fn 0) 18 0, .tbSlewabort 0 (.fn 0) 18 0, .tbSlewoffWrite 0 (.fn 0) 18 0,
    .discctlSrcWrite 0 (.fn 17) 0, .gstartGo 0 (.fn 17) 0, .edgeFire 0 1024, .calRunDone 0 1024, .dlSwap 0 1024,
    .dlctlSwapnow 0 (.fn 0) 1024 0, .dlctlEtbApply 0 1024, .calAged 0 1024, .addR 0 64 ⟨0, 0, 0, false, 0⟩,
    .addR 0 0 ⟨16, 0, 0, false, 0⟩, .subR 0 64 ⟨0, 0, 0, false, 0⟩, .subR 0 0 ⟨16, 0, 0, false, 0⟩,
    .addt 0 64 ⟨0, 0, 0, false, 0⟩, .addt 0 0 ⟨16, 0, 0, false, 0⟩, .subt 0 64 ⟨0, 0, 0, false, 0⟩,
    .subt 0 0 ⟨16, 0, 0, false, 0⟩, .andR 0 64 ⟨0, 0, 0, false, 0⟩, .andR 0 0 ⟨16, 0, 0, false, 0⟩,
    .orR 0 64 ⟨0, 0, 0, false, 0⟩, .orR 0 0 ⟨16, 0, 0, false, 0⟩, .xorR 0 64 ⟨0, 0, 0, false, 0⟩,
    .xorR 0 0 ⟨16, 0, 0, false, 0⟩, .andn 0 64 ⟨0, 0, 0, false, 0⟩, .andn 0 0 ⟨16, 0, 0, false, 0⟩,
    .shl 0 64 ⟨0, 0, 0, false, 0⟩, .shl 0 0 ⟨16, 0, 0, false, 0⟩, .shr 0 64 ⟨0, 0, 0, false, 0⟩,
    .shr 0 0 ⟨16, 0, 0, false, 0⟩, .sar 0 64 ⟨0, 0, 0, false, 0⟩, .sar 0 0 ⟨16, 0, 0, false, 0⟩,
    .ror 0 64 ⟨0, 0, 0, false, 0⟩, .ror 0 0 ⟨16, 0, 0, false, 0⟩, .cmp 0 64 ⟨0, 0, 0, false, 0⟩,
    .cmp 0 0 ⟨16, 0, 0, false, 0⟩, .tst 0 64 ⟨0, 0, 0, false, 0⟩, .tst 0 0 ⟨16, 0, 0, false, 0⟩,
    .minR 0 64 ⟨0, 0, 0, false, 0⟩, .minR 0 0 ⟨16, 0, 0, false, 0⟩, .maxR 0 64 ⟨0, 0, 0, false, 0⟩,
    .maxR 0 0 ⟨16, 0, 0, false, 0⟩, .movR 0 64 ⟨0, 0, 0, false, 0⟩] : List Instr).all (fun c => !c.wf) = true := by decide +kernel

theorem test_ill_formed_2 : ([
    .movR 0 0 ⟨16, 0, 0, false, 0⟩, .clz 0 64 ⟨0, 0, 0, false, 0⟩, .clz 0 0 ⟨16, 0, 0, false, 0⟩,
    .absR 0 64 ⟨0, 0, 0, false, 0⟩, .absR 0 0 ⟨16, 0, 0, false, 0⟩, .negR 0 64 ⟨0, 0, 0, false, 0⟩,
    .negR 0 0 ⟨16, 0, 0, false, 0⟩, .mul 0 64 ⟨0, 0, 0, false, 0⟩, .mul 0 0 ⟨16, 0, 0, false, 0⟩,
    .mulh 0 64 ⟨0, 0, 0, false, 0⟩, .mulh 0 0 ⟨16, 0, 0, false, 0⟩, .mulhu 0 64 ⟨0, 0, 0, false, 0⟩,
    .mulhu 0 0 ⟨16, 0, 0, false, 0⟩, .mult 0 64 ⟨0, 0, 0, false, 0⟩, .mult 0 0 ⟨16, 0, 0, false, 0⟩,
    .div 0 64 ⟨0, 0, 0, false, 0⟩, .div 0 0 ⟨16, 0, 0, false, 0⟩, .divu 0 64 ⟨0, 0, 0, false, 0⟩,
    .divu 0 0 ⟨16, 0, 0, false, 0⟩, .rem 0 64 ⟨0, 0, 0, false, 0⟩, .rem 0 0 ⟨16, 0, 0, false, 0⟩,
    .remu 0 64 ⟨0, 0, 0, false, 0⟩, .remu 0 0 ⟨16, 0, 0, false, 0⟩, .addi 0 64 ⟨0, 0, 0⟩, .addi 0 0 ⟨16, 0, 0⟩,
    .andi 0 64 ⟨0, 0, 0⟩, .andi 0 0 ⟨16, 0, 0⟩, .ori 0 64 ⟨0, 0, 0⟩, .ori 0 0 ⟨16, 0, 0⟩, .xori 0 64 ⟨0, 0, 0⟩,
    .xori 0 0 ⟨16, 0, 0⟩, .shli 0 64 ⟨0, 0, 0⟩, .shli 0 0 ⟨16, 0, 0⟩, .shri 0 64 ⟨0, 0, 0⟩, .shri 0 0 ⟨16, 0, 0⟩,
    .sari 0 64 ⟨0, 0, 0⟩, .sari 0 0 ⟨16, 0, 0⟩, .cmpi 0 64 ⟨0, 0, 0⟩, .cmpi 0 0 ⟨16, 0, 0⟩, .movl 0 64 ⟨0, 0, 0⟩,
    .movl 0 0 ⟨16, 0, 0⟩, .movh 0 64 ⟨0, 0, 0⟩, .movh 0 0 ⟨16, 0, 0⟩, .addp 0 64 ⟨0, 0, 0, false, 0⟩,
    .addp 0 0 ⟨16, 0, 0, false, 0⟩, .subp 0 64 ⟨0, 0, 0, false, 0⟩, .subp 0 0 ⟨16, 0, 0, false, 0⟩,
    .cmpp 0 64 ⟨0, 0, 0, false, 0⟩, .cmpp 0 0 ⟨16, 0, 0, false, 0⟩, .movp 0 64 ⟨0, 0, 0, false, 0⟩,
    .movp 0 0 ⟨16, 0, 0, false, 0⟩, .addpw 0 64 ⟨0, 0, 0, false, 0⟩, .addpw 0 0 ⟨16, 0, 0, false, 0⟩,
    .mac 0 64 ⟨0, 0, 0, false, 0⟩, .mac 0 0 ⟨16, 0, 0, false, 0⟩, .msu 0 64 ⟨0, 0, 0, false, 0⟩,
    .msu 0 0 ⟨16, 0, 0, false, 0⟩, .mpy 0 64 ⟨0, 0, 0, false, 0⟩, .mpy 0 0 ⟨16, 0, 0, false, 0⟩,
    .mclr 0 64 ⟨0, 0, 0, false, 0⟩] : List Instr).all (fun c => !c.wf) = true := by decide +kernel

theorem test_ill_formed_3 : ([
    .mclr 0 0 ⟨16, 0, 0, false, 0⟩, .mrd 0 64 ⟨0, 0, 0, false, 0⟩, .mrd 0 0 ⟨16, 0, 0, false, 0⟩,
    .mld 0 64 ⟨0, 0, 0, false, 0⟩, .mld 0 0 ⟨16, 0, 0, false, 0⟩, .mst 0 64 ⟨0, 0, 0, false, 0⟩,
    .mst 0 0 ⟨16, 0, 0, false, 0⟩, .ldb 0 64 ⟨0, 0, 0, 0⟩ .clean, .ldb 0 0 ⟨16, 0, 0, 0⟩ .clean,
    .ldbu 0 64 ⟨0, 0, 0, 0⟩ .clean, .ldbu 0 0 ⟨16, 0, 0, 0⟩ .clean, .ldh 0 64 ⟨0, 0, 0, 0⟩ .clean,
    .ldh 0 0 ⟨16, 0, 0, 0⟩ .clean, .ldhu 0 64 ⟨0, 0, 0, 0⟩ .clean, .ldhu 0 0 ⟨16, 0, 0, 0⟩ .clean,
    .ldw 0 64 ⟨0, 0, 0, 0⟩ .clean, .ldw 0 0 ⟨16, 0, 0, 0⟩ .clean, .ldp 0 64 ⟨0, 0, 0, 0⟩ .clean,
    .ldp 0 0 ⟨16, 0, 0, 0⟩ .clean, .stb 0 64 ⟨0, 0, 0, 0⟩ .clean, .stb 0 0 ⟨16, 0, 0, 0⟩ .clean,
    .sth 0 64 ⟨0, 0, 0, 0⟩ .clean, .sth 0 0 ⟨16, 0, 0, 0⟩ .clean, .stw 0 64 ⟨0, 0, 0, 0⟩ .clean,
    .stw 0 0 ⟨16, 0, 0, 0⟩ .clean, .stp 0 64 ⟨0, 0, 0, 0⟩ .clean, .stp 0 0 ⟨16, 0, 0, 0⟩ .clean,
    .aswpW 0 64 ⟨0, 0, 0, false, 0⟩ .clean, .aswpW 0 0 ⟨16, 0, 0, false, 0⟩ .clean,
    .acasW 0 64 ⟨0, 0, 0, false, 0⟩ .clean, .acasW 0 0 ⟨16, 0, 0, false, 0⟩ .clean,
    .aaddW 0 64 ⟨0, 0, 0, false, 0⟩ .clean, .aaddW 0 0 ⟨16, 0, 0, false, 0⟩ .clean,
    .aandW 0 64 ⟨0, 0, 0, false, 0⟩ .clean, .aandW 0 0 ⟨16, 0, 0, false, 0⟩ .clean,
    .aorW 0 64 ⟨0, 0, 0, false, 0⟩ .clean, .aorW 0 0 ⟨16, 0, 0, false, 0⟩ .clean,
    .aswpP 0 64 ⟨0, 0, 0, false, 0⟩ .clean, .aswpP 0 0 ⟨16, 0, 0, false, 0⟩ .clean,
    .acasP 0 64 ⟨0, 0, 0, false, 0⟩ .clean, .acasP 0 0 ⟨16, 0, 0, false, 0⟩ .clean,
    .aaddP 0 64 ⟨0, 0, 0, false, 0⟩ .clean, .aaddP 0 0 ⟨16, 0, 0, false, 0⟩ .clean,
    .aandP 0 64 ⟨0, 0, 0, false, 0⟩ .clean, .aandP 0 0 ⟨16, 0, 0, false, 0⟩ .clean,
    .aorP 0 64 ⟨0, 0, 0, false, 0⟩ .clean, .aorP 0 0 ⟨16, 0, 0, false, 0⟩ .clean, .fenceI 0 64 ⟨0, 0⟩,
    .fenceI 0 0 ⟨1024, 0⟩, .mfs 0 64 ⟨0, 0, 0⟩, .mfs 0 0 ⟨16, 0, 0⟩, .mts 0 64 ⟨0, 0, 0⟩, .mts 0 0 ⟨16, 0, 0⟩,
    .mtsGstartw 0 64 0 0, .mtsGstartw 0 0 16 0, .mtsGstartw 0 0 0 4096, .prd 0 64 ⟨0, 0, false, 0, 0, 0⟩,
    .prd 0 0 ⟨16, 0, false, 0, 0, 0⟩, .prdP 0 64 ⟨0, 0, false, 0, 0, 0⟩, .prdP 0 0 ⟨16, 0, false, 0, 0, 0⟩] : List Instr).all (fun c => !c.wf) = true := by decide +kernel

theorem test_ill_formed_4 : ([
    .pwr 0 64 ⟨0, 0, false, 0, 0, 0⟩, .pwr 0 0 ⟨16, 0, false, 0, 0, 0⟩, .pwrP 0 64 ⟨0, 0, false, 0, 0, 0⟩,
    .pwrP 0 0 ⟨16, 0, false, 0, 0, 0⟩, .edge 0 64 ⟨0, 0, false, 0, 0, 0, 0⟩, .edge 0 0 ⟨16, 0, false, 0, 0, 0, 0⟩,
    .tnow 0 64 ⟨0, 0, 0⟩, .tnow 0 0 ⟨16, 0, 0⟩, .tnowf 0 64 ⟨0, 0, 0⟩, .tnowf 0 0 ⟨16, 0, 0⟩, .evtake 0 64 ⟨0, 0, 0⟩,
    .evtake 0 0 ⟨16, 0, 0⟩, .bCond 0 64 ⟨0, 0⟩, .bCond 0 0 ⟨16, 0⟩, .cbz 0 64 ⟨0, 0⟩, .cbz 0 0 ⟨16, 0⟩,
    .cbnz 0 64 ⟨0, 0⟩, .cbnz 0 0 ⟨16, 0⟩, .jmp 0 64 0, .jmp 0 0 (2 ^ 26), .jl 0 64 0, .jl 0 0 (2 ^ 26), .jr 0 64 ⟨0, 0⟩,
    .jr 0 0 ⟨16, 0⟩, .jlr 0 64 ⟨0, 0⟩, .jlr 0 0 ⟨16, 0⟩, .loopI 0 64 ⟨false, 0, 0, 0⟩, .loopI 0 0 ⟨false, 16, 0, 0⟩,
    .eret 0 64 ⟨0, 0⟩, .eret 0 0 ⟨1024, 0⟩, .doneT 0 64 ⟨0, 0⟩, .doneT 0 0 ⟨1024, 0⟩, .yieldT 0 64 ⟨0, 0⟩,
    .yieldT 0 0 ⟨1024, 0⟩, .trapI 0 64 ⟨0, 0⟩, .trapI 0 0 ⟨1024, 0⟩, .nopI 0 64 0, .nopI 0 0 0x04000000,
    .postedStoreAck 0 64 0 .clean, .postedStoreError 0 64 0 .clean, .engctlEreset 0 (.fn 0) 64 0,
    .engctlRun 0 (.fn 0) 64 0, .engrateInterval 0 64, .impreciseExceptionDue 0 64, .exceptionEntry 0 64,
    .balctlBalreq 0 (.fn 0) 64 0, .balctlBalclr 0 (.fn 0) 64 0, .ballastEntry 0 64 true, .ballastDumpDone 0 64 0,
    .mcldGo 0 (.fn 17) 0 .clean, .mcImageApply 0 68, .routerRouteEvent 0 69, .routerFillDone 0 69 .clean,
    .taskInputArrival 0 64 0 0 [], .taskInputArrival 0 0 64 0 [], .taskInputArrival 0 0 0 16 [],
    .taskInputArrival 0 0 0 0 (List.replicate 9 0), .invalRouteEntry 0 (.fn 0) 8192, .invalDescriptor 0 (.fn 0) 8192,
    .invalAllRoutes 0 (.fn 17)] : List Instr).all (fun c => !c.wf) = true := by decide +kernel

theorem test_ill_formed_5 : ([
    .invalAllDescriptors 0 (.fn 17), .efctlEnWrite 0 (.fn 17) 0, .taskrunClr 0 (.fn 0) 64 0, .taskrunRun 0 (.fn 0) 64 0,
    .tdctlWrite 0 (.fn 0) 64 0 0, .tdctlWrite 0 (.fn 0) 0 64 0, .taskDispatch 0 64, .taskPreempt 0 64, .taskResume 0 64,
    .chctlGo 0 (.fn 0) 1024 0, .chctlArm 0 (.fn 0) 1024 0, .chctlStop 0 (.fn 0) 1024 0, .chctlStopnow 0 (.fn 0) 1024 0,
    .triggerDetect 0 1024, .runStart 0 1024, .counterPeriodBoundary 0 1024, .counterCmpa 0 1024, .counterCmpb 0 1024,
    .compareEdgeCommit 0 1024, .pinTransition 0 1024 true, .captureAccept 0 1024, .capctlWrite 0 (.fn 0) 1024 0,
    .loadEdgeMeasured 0 1024 0 true, .ctmReading 0 1024 0, .ctmMaxtExpiry 0 1024, .carrierRefChange 0 1024,
    .shadowLatchPoint 0 1024, .gloadLoadall 0 (.fn 0) 128 0, .pwmctlPairWrite 0 (.fn 0) 1024 0, .switchNodeSense 0 1024,
    .dtmaxExpiry 0 1024, .interlockBothOn 0 1024, .interlockHoldExpiry 0 1024, .tripLineActivation 0 128 0,
    .tripLineActivation 0 0 4, .blankWindowEnd 0 1024, .tripclrClr 0 (.fn 0) 1024 0, .forceRelease 0 (.fn 0) 1024 0,
    .forceHigh 0 (.fn 0) 1024 0, .forceLow 0 (.fn 0) 1024 0, .forceHiz 0 (.fn 0) 1024 0,
    .gforceRelease 0 (.fn 0) 128 0 0, .gforceHigh 0 (.fn 0) 128 0 0, .gforceLow 0 (.fn 0) 128 0 0,
    .gforceHiz 0 (.fn 0) 128 0 0, .forceOrderEffect 0 1024, .safectlSafego 0 (.fn 0) 128 0,
    .safectlSafeclr 0 (.fn 0) 128 0, .safeStateEffect 0 128, .comparatorCrossing 0 256 0, .comparatorOutputChange 0 256,
    .kclrClr 0 (.fn 0) 256 0, .sarTrigger 0 16, .sarswGo 0 (.fn 0) 16 0, .sarConversion 0 16 0,
    .sampleRecordAck 0 true 256 .clean, .sampleRecordAck 0 false 16 .clean, .sdWord 0 256 [], .sdConfigApply 0 256,
    .modulatorFault 0 256 [] true] : List Instr).all (fun c => !c.wf) = true := by decide +kernel

theorem test_ill_formed_6 : ([
    .modulatorFaultClear 0 256 [], .sdFastWord 0 256 [], .tailctlArmWrite 0 (.fn 0) 128 0, .tailEdgeAccept 0 128 0 0,
    .tailZEdge 0 128 0 true, .sertrigGo 0 (.fn 0) 128 0, .serialTrigger 0 128 true, .bissAckTimeout 0 128,
    .bissStartTimeout 0 128 0, .serialFrameDone 0 128 0 0 0 0 0, .tailRecordWrite 0 128 .clean, .velDecayUpdate 0 128,
    .speedStaleTimeout 0 128, .lineBreakDetect 0 128 0, .lineBreakClear 0 128 0, .freshnessTimeout 0 128,
    .lossGraceExpiry 0 128, .flyingSyncTimeout 0 128, .brakeTimeout 0 128, .emuEdgeCommit 0 128, .emuPathChange 0 128,
    .spoolTooth 0 32, .spoolHalt 0 32, .spoolLateDeadline 0 32, .spoolReverseEdge 0 32, .spctlSyncnow 0 (.fn 0) 32 0,
    .spctlDesync 0 (.fn 0) 32 0, .spctlEnWrite 0 (.fn 0) 32 0, .spoolEnding 0 32, .aevctlDisarm 0 (.fn 0) 32 0 0,
    .aevctlDisarm 0 (.fn 0) 0 64 0, .aevctlOnce 0 (.fn 0) 32 0 0, .aevctlOnce 0 (.fn 0) 0 64 0,
    .aevctlEvery 0 (.fn 0) 32 0 0, .aevctlEvery 0 (.fn 0) 0 64 0, .aevctlOnceRev 0 (.fn 0) 32 0 0,
    .aevctlOnceRev 0 (.fn 0) 0 64 0, .slotCommit 0 32 0, .slotCommit 0 0 64, .springPoll 0 32 .clean,
    .spangleRead 0 (.fn 0) 32, .spoolBcastSample 0 32, .spoolRecordArrival 0 32 ⟨0, 0, 0, 0, 0, 0, 0, 0, 0, 0⟩,
    .remoteAgeExpiry 0 32, .vfFlr 0 0, .vfFlr 0 17, .bridleWrite 0 (.fn 0) 384 0, .hostwdKick 0 (.fn 0) 17 0,
    .hostWdExpiry 0 17, .mvctlGo 0 (.fn 0) 32 0, .mvctlStop 0 (.fn 0) 32 0, .mvDescriptorFetched 0 32 .ok .clean [],
    .hostCompletion 0 32 .ok [] .clean, .mvDescriptorRetire 0 32 .clean, .pcieCompletionTimeout 0 32 .clean,
    .qcmdEnable 0 (.fn 0) 262144, .qcmdDisable 0 (.fn 0) 262144, .qcmdReload 0 (.fn 0) 262144,
    .queueContextFetched 0 262144 .ok [], .doorbellWrite 0 (.fn 0) 262144 0] : List Instr).all (fun c => !c.wf) = true := by decide +kernel

theorem test_ill_formed_7 : ([
    .queueRecordWrite 0 262144, .prodWriteback 0 262144, .queueItimeExpiry 0 262144, .msixRequest 0 17 0,
    .msixRequest 0 0 2048, .msixTableWrite 0 (.fn 0) 0x8000 [], .msixTableWrite 0 (.fn 0) 4 [0, 0],
    .msixTableWrite 0 (.fn 0) 0 [], .cmdWrite 0 262144 0 0 0, .cmdWrite 0 0 0 0 (2 ^ 32), .cmdWriteat 0 262144 0 0 0 0,
    .cmdWriteat 0 0 0 0 0 (2 ^ 32), .cmdWriteat 0 0 0 0 (2 ^ 64) 0, .writeatDue 0 262144, .cmdMark 0 262144 0,
    .cmdMark 0 0 (2 ^ 32), .cmdBad 0 262144 0 0, .cmdBad 0 0 0 (2 ^ 32), .cmdBad 0 0 16 0, .cmdBad 0 0 1 0,
    .cmdBad 0 0 2 0, .cmdBad 0 0 3 0, .tetherCycleStart 0 4, .dataSlotRx 0 4 .read 0 [],
    .dataSlotRx 0 0 .read 0 [⟨32, 0, 0, .cgStart 0 true⟩], .answerBlockRx 0 4 0 true, .pollDeadline 0 4,
    .portTrainTurn 0 4, .laneTrained 0 4 0, .laneTrained 0 0 0, .laneTrained 0 0 3, .trainTimeout 0 4, .trainRetry 0 4,
    .busyRx 0 4, .busywaitRetry 0 4, .capxMessage 0 4 ⟨0, 0, false, 0, 0, 0, false⟩, .authMessage 0 4 ⟨[], [], 0, 0⟩,
    .authTimeout 0 4, .quarExpiry 0 4, .tpctlRetry 0 (.fn 0) 4 0, .laneLockLoss 0 4, .rekeyStart 0 4, .rekeyTimeout 0 4,
    .admreqRx 0 4 0 none, .admreqRx 0 0 0 (some 32), .admitRx 0 4 0 none 0, .admitRx 0 0 0 (some 32) 0,
    .admitRx 0 0 0 none 32, .rwctlGo 0 (.fn 17) 0, .remoteCommandRx 0 32 0 true 0 0, .remoteCommandRx 0 0 0 true 1 0,
    .rwResponseRx 0 0 8 0, .importWrite 0 (.fn 0) 96 0, .subscriptionRx 0 32 0 0 true, .subscriptionRx 0 0 96 0 true,
    .subscriptionRx 0 0 0 8192 true, .importEventRx 0 32 0 0 0 0 true true, .importEventRx 0 0 96 0 0 0 true true,
    .cgstartGo 0 (.fn 17) 0, .cgstartReportRx 0 32 0] : List Instr).all (fun c => !c.wf) = true := by decide +kernel

theorem test_ill_formed_8 : ([
    .cgstartReportRx 0 0 3, .scrubWord 0 3 0 .clean, .scrubWord 0 0 68 .clean, .monitorReading 0 96 0 0,
    .sprcmdWarm 0 (.fn 17) 0, .sprcmdCold 0 (.fn 17) 0, .sprcmdTest 0 (.fn 17) 0, .sprcmdAbort 0 (.fn 17) 0,
    .selftestStart 0 68, .selftestDone 0 6, .pwrctlGoAloft 0 (.fn 17) 0, .pwrctlGoDrift 0 (.fn 17) 0,
    .pwrctlGoMoored 0 (.fn 17) 0, .pwrctlGoGrounded 0 (.fn 17) 0, .wakeRequest 0 9 0, .wakeRequest 0 0 256,
    .supplyMeasurement 0 20 0, .supplyWarning 0 20, .supplyFault 0 20 0, .supplyFaultClear 0 20 0,
    .avsctlRetry 0 (.fn 17) 0, .lccmdGetkey 0 (.fn 17) 0, .lccmdProvision 0 (.fn 17) 0 .clean, .lccmdLock 0 (.fn 17) 0,
    .lccmdRetire 0 (.fn 17) 0 .clean, .revctlGo 0 (.fn 17) 0 .clean, .secgonWrite 0 (.fn 0) 2 0, .tamperDetect 0 7,
    .dbgctlOpen 0 (.fn 17) 0 .clean, .dbgctlClose 0 (.fn 17) 0, .dbgectlHalt 0 (.fn 0) 64 0,
    .dbgectlResume 0 (.fn 0) 64 0, .dbgectlStep 0 (.fn 0) 64 0, .breakpointHit 0 64, .dbgdataRead 0 (.fn 0) 64,
    .dbgdataWrite 0 (.fn 0) 64 0, .jtagSamplePreload 0 (List.replicate 1025 true), .jtagToken 0 (List.replicate 161 0),
    .jtagDbgopen 0 4, .jtagDbgacc 0 0x4000000 none, .bootTestDone 0 (2 ^ 68), .bootStageFail 0 6,
    .bankoeset 0 (.fn 17) 0, .bankoeclr 0 (.fn 17) 0, .stopnowRunEnd 0 1024, .configurationRequest 0 17 0 none none,
    .configurationRequest 0 0 4096 none none] : List Instr).all (fun c => !c.wf) = true := by decide +kernel

/-! ### The spec's own examples -/

/-- R83: the words of `add w3, w1, w2` and of `edge w7, ch9, high, wp1`. -/
theorem test_decode_examples :
    decodeEngine 0 5 0x04C48000 .clean = .addR 0 5 ⟨3, 1, 2, false, 0⟩ ∧
    decodeEngine 0 5 0x91C12900 .clean = .edge 0 5 ⟨7, 0, false, 9, 1, 1, 0⟩ := by decide

/-- R141: three captures in two grants. -/
def captures : State :=
  { State.reset with fab := { State.reset.fab with
      arrivals := [⟨12, 20, 5, 3, ⟨1204, 320000032, 0, false, false⟩⟩, ⟨6, 20, 5, 3, ⟨604, 320000000, 0, false, false⟩⟩] } }

theorem test_r141_grant_1 : (captures.arrivals 20 5 3 [1000, 1150]).ti 20 5 3 =
    ⟨2, some ⟨604, 320000000, true, false⟩, some ⟨1204, 320000032, true, false⟩, false, true, 1204⟩ := by decide +kernel

theorem test_r141_grant_2 : TIn.arrive ⟨2, some ⟨604, 320000000, true, false⟩, some ⟨1204, 320000032, true, false⟩, false, true, 1204⟩
    ⟨904, 320000080, 0, false, false⟩ =
    ⟨3, some ⟨604, 320000000, true, false⟩, some ⟨904, 320000080, false, false⟩, true, true, 904⟩ := by decide +kernel

/-- R152: the two slots of the web press; S is 667.15 ns and 887.04 ns, here in 1/800 ns. -/
def press : State :=
  let d (s : State) (slot : Nat) (l : List Nat) : State :=
    (l.zipIdx).foldl (fun s x => s.wr DLREC.WORD x.1 12 (4 * slot + x.2)) s
  let s := (State.reset.wr TDCTL.EN 1 12 0).wr TDCTL.PRIO 6 12 0
  let s := ((s.wr TDCTL.EN 1 12 1).wr TDCTL.PRIO 2 12 1).wr SCHCTL.HMAX 500 12
  let s := (s.wr TDMININT.VALUE 50000000 12 0).wr TDMININT.VALUE 1000 12 1
  d (d s 0 [0, 30000, 572, 0]) 1 [0, 900, 11376, 0]

theorem test_r152 : press.slotS 12 0 = some 533720 ∧ press.slotS 12 1 = some 709632 := by decide +kernel

/-- R189: R's on-time in ns for a commanded on-time, from the table's rows of NONE, FIXED and ADAPTIVE. -/
theorem test_r189_drop :
    [1, 199, 200, 49800, 49801].map (fun x => (minPulse false 50000 x 0 0 200).1) = [0, 0, 200, 49800, 50000] ∧
    [699, 700, 1000, 49300, 49301].map (fun x => (minPulse false 50000 x 500 500 200).1) = [0, 700, 1000, 49300, 50000] ∧
    [379, 380, 49620, 49621].map (fun x => (minPulse false 50000 x 180 180 200).1) = [0, 380, 49620, 50000] := by decide

theorem test_r189_extend :
    [0, 1, 49801, 50000].map (fun x => (minPulse true 50000 x 0 0 200).1) = [0, 200, 49800, 50000] ∧
    [0, 1, 699, 49301, 50000].map (fun x => (minPulse true 50000 x 500 500 200).1) = [0, 700, 700, 49300, 50000] ∧
    [0, 1, 379, 49621, 50000].map (fun x => (minPulse true 50000 x 180 180 200).1) = [0, 380, 380, 49620, 50000] := by decide

/-! ### Witnesses: for each clause of a statement, a state and operands that meet its hypotheses together. `up` is the machine
started up; a witness named `_but_checks` leaves out the hypotheses on a check that Config holds opaque (a signature, a
certificate, the serial number), which no evaluation settles. -/

def upTb : TbH := { State.reset.tbH 0 with segs := [⟨200, 0, 0x40000000, 0⟩] }

def onSome {α : Type} (none_ : Bool) (o : Option α) (f : α → Bool) : Bool := match o with
  | some x => f x
  | none => none_

def onCons {α : Type} (nil_ : Bool) (l : List α) (f : α → List α → Bool) : Bool := match l with
  | x :: r => f x r
  | [] => nil_

def up : State :=
  { State.reset with
    now := 500, spine := some 200, calT0 := 400, tb := [(0, upTb)],
    regs := [(268, 0x80000000), (1060, 1913421824), (41947184, 0x80000000)] }

namespace RegisterAccess
def w1 : State :=
  (up.wr SRAMCE.COUNT 0x01020304)

theorem witness_RegisterAccess :
    (let off : Nat := 0x240; let src : Src := (.fn 0); let s : State := up; (decide (src.ok = true) &&
    (decide (off < 0x4000000) && (decide (off % 4 = 0) && (decide (s.applies src off = true) &&
    (decide (spareOf off = none) && (decide (s.windowOf off = none) && ((!(decide (0x300000 ≤ off) &&
    decide (off < 0x308000))) && ((!(decide (0x440000 ≤ off) && decide (off < 0x540000)))))))))))) = true ∧
    (let i : Nat := 0; let s : State := up; (decide (i < 32) &&
    (decide (s.applies (.fn 0) (GSTARTMASK.SEL.adr 0 i) = true)))) = true ∧
    (let off : Nat := (SRAMCE.COUNT.adr 0 0); let src : Src := (.fn 3); let r : RegRow := ((regRow (SRAMCE.COUNT.adr 0 0)).getD ⟨0,0,0,0,0,0,0,0,0⟩); let s : State := w1; (decide (src.ok = true) && (decide (off < 0x4000000) && (decide (off % 4 = 0) && (decide (s.readable src off = true) && (decide (spareOf off = none) && (decide (s.windowOf off = none) && ((!(decide (0x300000 ≤ off) && decide (off < 0x310000))) && ((match blkOf off with | some (.tb, _, 8) => false | _ => true) && ((match blkOf off with | some (.sp, _, _) => false | _ => true) && (decide (regRow off = some r)))))))))))) = true ∧
    (let s : State := w1; (decide (s.readable (.fn 0) (SRAMCE.COUNT.adr 0 0) = true))) = true := by decide +kernel

end RegisterAccess

namespace DroppedWrite

theorem witness_DroppedWrite :
    (let f : Nat := 1; let off : Nat := 0x108; let s : State := up; (decide (f < 17) && (decide (off < 0x4000000) &&
    (decide (off % 4 = 0) && (decide (s.pw.gnd = false) && (decide (s.holds (.fn f) off = false) &&
    (decide (s.mayWrite (.fn f) off = false) && (decide (spareOf off = none) && (decide (s.windowOf off = none) &&
    ((!(decide (0x300000 ≤ off) && decide (off < 0x308000))) && ((!(decide (0x440000 ≤ off) && decide (off < 0x540000))) &&
    (decide (regRow off ≠ none))))))))))))) = true ∧
    (let f : Nat := 3; let off : Nat := 0x300; let s : State := up; (decide (f < 17) && (decide (off < 0x4000000) &&
    (decide (off % 4 = 0) && (decide (s.pw.gnd = false) && (decide (s.holds (.fn f) off = false) &&
    (decide (s.mayWrite (.fn f) off = false) && (decide (spareOf off = none) && (decide (s.windowOf off = none) &&
    ((!(decide (0x300000 ≤ off) && decide (off < 0x308000))) && ((!(decide (0x440000 ≤ off) && decide (off < 0x540000))) &&
    (decide (regRow off = none))))))))))))) = true := by decide +kernel

end DroppedWrite

namespace SramReads
def st : State := { up with mem := up.mem.sramPut 0 (toBytes 16 0x0102030405060708090A0B0C0D0E0F) }

theorem witness_SramReads :
    (let a : Nat := 0; let n : Nat := 16; let src : Src := (.eng 0); let s : State := st; (decide (src.ok = true) &&
    (decide (src.func = none) && (decide (src.outside = false) && (decide (a < 0x1800000) &&
    (decide (accessOk a n = true) && (decide (s.isolated (68 + a / 0x40000) = false) &&
    (decide (s.mem.poisoned (wordsOf a n) = false))))))))) = true := by decide +kernel

end SramReads

namespace SramWrites
def st : State := { up with mem := up.mem.sramPut 0 (toBytes 16 0x0102030405060708090A0B0C0D0E0F) }

theorem witness_SramWrites :
    (let a : Nat := 8; let d : List Byte := (toBytes 16 0x55AA55AA); let src : Src := (.eng 0); let s : State := st;
    (decide (src.ok = true) && (decide (src.func = none) && (decide (src.outside = false) && (decide (a < 0x1800000) &&
    (decide (accessOk a d.length = true) && (decide (s.isolated (68 + a / 0x40000) = false) &&
    (decide (s.mem.poisoned (wordsOf a d.length) = false))))))))) = true := by decide +kernel

end SramWrites

namespace SramAtomics
def st : State := { up with mem := up.mem.sramPut 0 (toBytes 16 0x0102030405060708090A0B0C0D0E0F) }

theorem witness_SramAtomics :
    (let a : Nat := 8; let n : Nat := 8; let src : Src := (.eng 0); let s : State := st; (decide (src.ok = true) &&
    (decide (src ≠ .jtag) && ((decide (n = 4) || decide (n = 8)) && (decide (a < 0x1800000) && (decide (a % n = 0) &&
    (decide (s.isolated (68 + a / 0x40000) = false) && (decide (s.mem.poisoned (wordsOf a n) = false))))))))) = true := by decide +kernel

end SramAtomics

namespace GrantReadsNewData
def st : State := { up with mem := up.mem.sramPut 0 (toBytes 16 0x0102030405060708090A0B0C0D0E0F) }

theorem witness_GrantReadsNewData :
    (let a : Nat := 8; let g : Nat := 0; let h : Nat := 1; let d : List Byte := (toBytes 8 0x55AA55AA); let s : State := st;
    (decide (g < 64) && (decide (h < 64) && (decide (g ≠ h) && (decide (d.length = 8) && (decide (a % 8 = 0) &&
    (decide (a < 0x1800000) && (decide (s.isolated (68 + a / 0x40000) = false) &&
    (decide (s.mem.poisoned [a / 8] = false)))))))))) = true := by decide +kernel

end GrantReadsNewData

namespace MeshPorts
def st : State := (up.setIso 70 true).setIso 164 true

theorem witness_MeshPorts :
    (let p : Nat := 68; let s : State := up; (decide (68 ≤ p) && (decide (p ≤ 212) &&
    (decide (s.isolated p = false))))) = true ∧
    (let p : Nat := 5; let s : State := up; (decide (p < 68) && (decide (s.isolated p = false) &&
    (decide (s.tko = none))))) = true ∧
    (let p : Nat := 70; let s : State := st; (decide (p ≤ 212) && (decide (s.isolated p = true)))) = true ∧
    (let i : Nat := 2; let src : Src := (.fn 0); let s : State := st; (decide (src.ok = true) && (decide (i < 7) &&
    (decide (s.applies src (MESHISO.ISO.adr 0 i) = true))))) = true ∧
    (let p : Nat := 70; let s : State := {st with meshTest := [70, 164]}; (decide (p ≤ 212) &&
    (decide (p ∈ s.meshTest)))) = true := by decide +kernel

end MeshPorts

namespace TimebaseRequests

theorem witness_TimebaseRequests :
    (let k : Nat := 1; let src : Src := (.fn 0); let s : State := up; (decide (src.ok = true) && (decide (k ≤ 17) &&
    (decide (s.applies src (TBCTL.WHOLE.adr k 0) = true) && (decide (s.applies src (SLEWOFF.WHOLE.adr k 0) = true) &&
    (decide (k < 17))))))) = true ∧
    (let k : Nat := 17; let src : Src := (.fn 0); let s : State := up; (decide (src.ok = true) && (decide (k ≤ 17) &&
    (decide (s.applies src (TBCTL.WHOLE.adr k 0) = true) && (decide (s.applies src (SLEWOFF.WHOLE.adr k 0) = true) &&
    (decide (k = 17))))))) = true := by decide +kernel

end TimebaseRequests

namespace BeaconLoads
def w1 : State :=
  (up.modTb 5 (fun b => {b with asks := [(900, .load (12345*64) true)]}))

theorem witness_BeaconLoads :
    (let t : Nat := (200+64000); let k : Nat := 5; let b : Nat := 200; let v : Nat := (12345*64); let a : Nat := 900;
    let s : State := w1; (decide (1 ≤ k) && (decide (k ≤ 16) && (decide (s.spine = some b) && (decide (s.now ≤ t) &&
    (decide (b ≤ t) && (decide ((t - b) % 64000 = 0) && (decide ((s.tbH k).asks = [(a, .load v true)]) && (decide (a < t) &&
    (decide ((s.tbH k).mode ≠ 2) && ((decide ((s.tbH k).segs.all (fun g => decide (g.from_ ≤ t)) = true))))))))))))) = true := by decide +kernel

end BeaconLoads

namespace BeaconSteady

theorem witness_BeaconSteady :
    (let t : Nat := (200+64000); let k : Nat := 5; let b : Nat := 200; let s : State := up; (decide (1 ≤ k) &&
    (decide (k ≤ 16) && (decide (s.spine = some b) && (decide (s.now ≤ t) && (decide (b ≤ t) &&
    (decide ((t - b) % 64000 = 0) && (decide ((s.tbH k).asks = []) && (decide ((s.tbH k).mode ≠ 2)))))))))) = true ∧
    (let t : Nat := (200+64000); let b : Nat := 200; let s : State := up; (decide (s.spine = some b) &&
    (decide (s.now ≤ t) && (decide (b ≤ t) && (decide ((t - b) % 64000 = 0)))))) = true ∧
    (let s : State := {up with spine := none}; (decide (s.spine = none))) = true := by decide +kernel

end BeaconSteady

namespace CountRead

theorem witness_CountRead :
    (let k : Nat := 0; let src : Src := (.fn 0); let s : State := up; (decide (src.ok = true) && (decide (k < 18) &&
    (decide (s.readable src (NS_LO.VALUE.adr k 0) = true))))) = true := by decide +kernel

end CountRead

namespace Discipline
def s1 : State := (up.wr DISCSTAT.STATE 1).wr DISCSTAT.SRCACT 1
def w1 : State :=
  (((s1.wr DISCSTAT.STATE 2).wr DISCCTL.SRC 1).wr SPINESTAT.CALDONE 0)
def w2 : State :=
  {((up.wr DISCSTAT.STATE 1).wrs 0 [(DISCSTAT.SRCACT,2),(DISCCTL.SRC,2)]) with disc := {up.disc with lastPps := some 1000, everLocked := false}}
def w3 : State :=
  {(up.wr DISCCTL.SRC 2) with disc := {up.disc with lastPps := some 1000, everLocked := false}}

theorem witness_Discipline :
    (let src : Src := (.fn 0); let w : Word := 0xFFFFFFF8; let s : State := s1; (decide (src.ok = true) &&
    (decide (s.applies src (DISCCTL.WHOLE.adr 0 0) = true) && (decide (s.member = false) &&
    (decide (w.toNat % 8 = 0)))))) = true ∧
    (let s : State := (up.wr DISCCTL.SRC 1); (decide (s.rd DISCSTAT.STATE = 0) && (decide (s.rd DISCCTL.SRC = 1) &&
    (decide (s.member = false))))) = true ∧
    (let s : State := (s1.wr SPINESTAT.CALDONE 0); (decide (s.rd DISCSTAT.STATE = 1) &&
    (decide (s.rd DISCSTAT.SRCACT = 1)))) = true ∧
    (let s : State := w1; (decide (s.rd DISCSTAT.STATE = 2) && (decide (s.rd DISCSTAT.SRCACT = 1) &&
    (decide (s.rd DISCCTL.SRC = 1) && (decide (s.member = false)))))) = true ∧
    (let t : Nat := (1000+ms 1500); let a : Nat := 1000; let s : State := w2; (decide (s.disc.lastPps = some a) &&
    (decide (a + ms 1500 ≤ t) && (decide (s.rd DISCSTAT.STATE = 1) && (decide (s.rd DISCSTAT.SRCACT = 2) &&
    (decide (s.rd DISCCTL.SRC = 2) && (decide (s.member = false) && (decide (s.disc.everLocked = false))))))))) = true ∧
    (let t : Nat := (1000+ms 1001); let a : Nat := 1000; let s : State := w3; (decide (s.now ≤ t) &&
    (decide (s.disc.lastPps = some a) && (decide (a + ms 999 ≤ t) && (decide (t ≤ a + ms 1001) &&
    (decide (s.rd DISCSTAT.STATE = 0) && (decide (s.rd DISCCTL.SRC = 2) && (decide (s.member = false))))))))) = true ∧
    (let t : Nat := (200+64000000000); let s : State := (up.wr DISCCTL.PPSOUTEN 1);
    (decide (s.on DISCCTL.PPSOUTEN = true) && (decide (s.now ≤ t) && (decide (s.fineAt 0 t % 64000000000 = 0))))) = true := by decide +kernel

end Discipline

namespace GlobalStartRequest
def w1 : State :=
  ((up.wr GSTARTMASK.SEL 0xF00F0001 0 3).wr64 GSTARTAT_LO.VALUE GSTARTAT_HI.VALUE 5000)

theorem witness_GlobalStartRequest :
    (let src : Src := (.fn 0); let s : State := w1; (decide (src.ok = true) && (decide (s.applies src 0x280 = true) &&
    (decide (s.on GSTARTSTAT.PEND = false))))) = true ∧
    (let src : Src := (.fn 0); let s : State := (up.wr GSTARTSTAT.PEND 1); (decide (src.ok = true) &&
    (decide (s.applies src 0x280 = true) && (decide (s.on GSTARTSTAT.PEND = true))))) = true := by decide +kernel

end GlobalStartRequest

namespace GlobalStartRelease
def rel (m a : Nat) : Release := ⟨m, false, .fn 0, a, false⟩
def w1 : State :=
  {up with release := some (rel 0 1000)}

theorem witness_GlobalStartRelease :
    (let t : Nat := 100000; let r : Release := (rel 0 1000); let s : State := w1; (decide (s.release = some r) &&
    (decide (r.at_ < 2 ^ 64) && (decide (s.now ≤ t) && (decide (64 * r.at_ ≤ s.fineAt 0 t)))))) = true ∧
    (let t : Nat := 100000; let r : Release := (rel 0 1000); let s : State := w1; (decide (s.release = some r) &&
    (decide (r.mask = 0) && (decide (r.at_ < 2 ^ 64) && (decide (s.now ≤ t) &&
    (decide (64 * r.at_ ≤ s.fineAt 0 t))))))) = true ∧
    (let t : Nat := 100000; let n : Nat := 5; let r : Release := (rel (2^5) 1000);
    let s : State := {up with release := some (rel (2^5) 1000)}; (decide (n < 1024) && (decide (s.release = some r) &&
    (decide (r.mask = 2 ^ n) && (decide (r.src = .fn 0) && (decide (s.rd BRIDLE.OWNER 0 (n / 8) = 0) &&
    (decide (s.rd CHCTL.MODE (s.leader n) = 0) && (decide (s.paired n = false) && (decide (s.now ≤ t) &&
    (decide (64 * r.at_ ≤ s.fineAt 0 t))))))))))) = true := by decide +kernel

end GlobalStartRelease

namespace EdgeFires
def pe (a act : Nat) (m : Option Nat) : PEdge := ⟨a, act, .prog, false, m⟩
def st (l : List PEdge) (n := 3) : State := (up.modCh n (fun c => {c with dl := {c.dl with pend := l}}))

theorem witness_EdgeFires :
    (let t : Nat := 2000; let n : Nat := 3; let e : PEdge := (pe 1000 1 none); let r : List PEdge := [pe 1500 2 none];
    let s : State := (st [pe 1000 1 none, pe 1500 2 none]); (decide (n < 1024) && (decide (s.now ≤ t) &&
    (decide ((s.ch n).dl.pend = e :: r) && (decide (s.on SPINESTAT.CALDONE = true) &&
    (decide (e.at_ ≤ s.fineAt (s.etb n) t) && (decide ((s.advance t).rateOf (s.etb n) ≠ 0)))))))) = true ∧
    (let n : Nat := 5; (decide (n < 1024))) = true := by decide +kernel

end EdgeFires

namespace DelayLines
def w1 : State :=
  (up.modCh 3 (fun c => {c with dl := {c.dl with runFrom := 500}}))
def w2 : State :=
  (up.modCh 3 (fun c => {c with dl := {c.dl with swapDue := some 700, calAt := some 600}}))
def w3 : State :=
  (up.modCh 3 (fun c => {c with dl := {c.dl with swapDue := some (us 6)}}))
def w4 : State :=
  (up.modCh 3 (fun c => {c with dl := {c.dl with etbHeld := some 17}}))
def w5 : State :=
  (up.modCh 3 (fun c => {c with dl := {c.dl with liveCal := 600}}))

theorem witness_DelayLines :
    (let t : Nat := (us 50); let n : Nat := 3; let s : State := w1; (decide (n < 1024) && (decide (s.now ≤ t) &&
    (decide (s.on SPINESTAT.CALDONE = true) && (decide (s.calT0 ≤ (s.ch n).dl.runFrom) &&
    (decide ((s.ch n).dl.runFrom + us 40 ≤ t))))))) = true ∧
    (let t : Nat := (us 50); let n : Nat := 3; let s : State := w2; (decide (n < 1024) && (decide (s.now ≤ t) &&
    (decide (s.on SPINESTAT.CALDONE = true) && (onSome false ((s.ch n).dl.swapDue) fun d => (decide (d ≤ t) &&
    (decide ((s.ch n).dl.pend = []) && ((onSome true ((s.ch n).dl.lastAt) fun a => decide (a + ns 4 ≤ t)) &&
    (onSome false ((s.ch n).dl.calAt) fun c => (decide (s.calT0 ≤ c))))))))))) = true ∧
    (let t : Nat := (us 5); let n : Nat := 3; let s : State := w3; (decide (n < 1024) && (decide (s.now ≤ t) &&
    (let src := (Src.fn 0); (let w := 0x00000100#32; (decide (src.ok = true) &&
    (decide (s.applies src (DLCTL.WHOLE.adr n 0) = true) && (onSome false ((s.ch n).dl.swapDue) fun d => (decide (t < d) &&
    (decide (DLCTL.ETB.of w = s.etb n) && (decide ((s.ch n).dl.etbHeld = none)))))))))))) = true ∧
    (let t : Nat := (us 50); let n : Nat := 3; let s : State := w4; (decide (n < 1024) && (decide (s.now ≤ t) &&
    (let v : Nat := 17; (decide (s.paired n = false) && (decide (v ≤ 17) && (decide ((s.ch n).dl.etbHeld = some v) &&
    (decide ((s.ch n).dl.pend = []))))))))) = true ∧
    (let t : Nat := (us 6000); let n : Nat := 3; let s : State := w5; (decide (n < 1024) && (decide (s.now ≤ t) &&
    (decide (s.on SPINESTAT.CALDONE = true) && (decide ((s.ch n).dl.aged = false) &&
    (decide (s.calT0 ≤ (s.ch n).dl.liveCal) && (decide ((s.ch n).dl.liveCal + us 5001 ≤ t)))))))) = true ∧
    (let t : Nat := (us 50); let n : Nat := 3; let s : State := w1; (decide (n < 1024) && (decide (s.now ≤ t)))) = true ∧
    (let t : Nat := (us 50); let n : Nat := 3; let s : State := w1; (decide (n < 1024) && (decide (s.now ≤ t) &&
    (let src := (Src.fn 0); (decide (src.ok = true) && (decide (s.applies src (DLCTL.WHOLE.adr n 0) = true))))))) = true := by decide +kernel

end DelayLines

namespace WordArithmetic
def eu (g : Nat) (l : List Nat) : State := ((up.wr ENGCTL.RUN 1 g).modSch g (fun x => {x with cur := some 5})).modEn g (fun e => (l.zipIdx).foldl (fun e x => e.setR x.2 (BitVec.ofNat 32 x.1)) {e with pc := 0x40000100})
def rg : Nat → List Nat
 | 0 => [0,1,2,3,4,5,6,7,8,9,10,11,12,13,14,15]
 | 1 => [0xFFFFFFFF,0x80000000,0x7FFFFFFF,0x12345678,0,31,32,33,0xDEADBEEF,0x80000001,1,0xFFFF0000,65536,0x40000,0,7]
 | n => (List.range 16).map (fun i => (n * 2654435761 + i * 40503 * (n+i) * 7919 + n*n*97 + i*i*65599*n) % 2^32)
def fr (k : Nat) : FmtR := ⟨(k*7+3)%16, (k*5+1)%16, (k*11+2)%16, k%2==0, 0⟩

theorem witness_WordArithmetic :
    (let k := 0; let r := 0; let g : Nat := (k % 64); let f : FmtR := (fr k); let s : State := (eu (k%64) (rg r));
    (decide (g < 64) && (decide (f.ok = true) && (decide (f.res = 0) && (decide (s.plainNext g = true)))))) = true ∧
    (let k := 0; let r := 0; let g : Nat := (k % 64); let f : FmtR := (fr k); let s : State := (eu (k%64) (rg r));
    (decide (g < 64) && (decide (f.ok = true) && (decide (f.res = 0) && (decide (s.plainNext g = true) && (let e := s.en g;
    (let a := e.r f.ra; (let b := e.r f.rb; (let ovf (x : Int) : Bool := decide (x < -2 ^ 31 ∨ 2 ^ 31 ≤ x);
    (decide (ovf (a.toInt + b.toInt) = false))))))))))) = true ∧
    (let k := 0; let r := 0; let g : Nat := (k % 64); let f : FmtR := (fr k); let s : State := (eu (k%64) (rg r));
    (decide (g < 64) && (decide (f.ok = true) && (decide (f.res = 0) && (decide (s.plainNext g = true) && (let e := s.en g;
    (let a := e.r f.ra; (let b := e.r f.rb; (let ovf (x : Int) : Bool := decide (x < -2 ^ 31 ∨ 2 ^ 31 ≤ x);
    (decide (ovf (a.toInt - b.toInt) = false))))))))))) = true ∧
    (let k := 0; let r := 0; let g : Nat := (k % 64); let f : FmtR := (fr k); let s : State := (eu (k%64) (rg r));
    (decide (g < 64) && (decide (f.ok = true) && (decide (f.res = 0) && (decide (s.plainNext g = true) && (let e := s.en g;
    (let a := e.r f.ra; (let b := e.r f.rb; (let ovf (x : Int) : Bool := decide (x < -2 ^ 31 ∨ 2 ^ 31 ≤ x);
    (decide (ovf (a.toInt * b.toInt) = false))))))))))) = true ∧
    (let k := 0; let r := 0; let g : Nat := (k % 64); let f : FmtR := (fr k); let s : State := (eu (k%64) (rg r));
    (decide (g < 64) && (decide (f.ok = true) && (decide (f.res = 0) && (decide (s.plainNext g = true) && (let e := s.en g;
    (let b := e.r f.rb; (decide (b ≠ 0#32))))))))) = true ∧
    (let k := 10; let r := 0; let g : Nat := (k % 64); let f : FmtR := (fr k); let s : State := (eu (k%64) (rg r));
    (decide (g < 64) && (decide (f.ok = true) && (decide (f.res = 0) && (decide (s.plainNext g = true) &&
    (decide (f.rb = 0))))))) = true ∧
    (let k := 10; let r := 0; let g : Nat := (k % 64); let f : FmtR := (fr k); let s : State := (eu (k%64) (rg r));
    (decide (g < 64) && (decide (f.ok = true) && (decide (f.res = 0) && (decide (s.plainNext g = true) && (let e := s.en g;
    (let a := e.r f.ra; (decide (f.rb = 0) && (let n : Nat := 30; (decide (n ≤ 32) && ((List.all (List.range n) fun j =>
    decide (a.toNat.testBit (31 - j) = false)) &&
    ((decide (n = 32) || decide (a.toNat.testBit (31 - n) = true)))))))))))))) = true := by decide +kernel

end WordArithmetic

namespace Compares
def eu (g : Nat) (l : List Nat) : State := ((up.wr ENGCTL.RUN 1 g).modSch g (fun x => {x with cur := some 5})).modEn g (fun e => (l.zipIdx).foldl (fun e x => e.setR x.2 (BitVec.ofNat 32 x.1)) {e with pc := 0x40000100})
def rg : Nat → List Nat
 | 0 => [0,1,2,3,4,5,6,7,8,9,10,11,12,13,14,15]
 | 1 => [0xFFFFFFFF,0x80000000,0x7FFFFFFF,0x12345678,0,31,32,33,0xDEADBEEF,0x80000001,1,0xFFFF0000,65536,0x40000,0,7]
 | n => (List.range 16).map (fun i => (n * 2654435761 + i * 40503 * (n+i) * 7919 + n*n*97 + i*i*65599*n) % 2^32)
def fr (k : Nat) : FmtR := ⟨(k*7+3)%16, (k*5+1)%16, (k*11+2)%16, k%2==0, 0⟩

theorem witness_Compares :
    (let k := 0; let r := 0; let g : Nat := (k % 64); let f : FmtR := {fr k with rd := 0};
    let i : FmtI := ⟨0, k%16, (k * 77777 + 131072*k) % 2^18⟩; let s : State := (eu (k%64) (rg r)); (decide (g < 64) &&
    (decide (f.ok = true) && (decide (f.res = 0) && (decide (f.rd = 0) && (decide (i.ok = true) && (decide (i.rd = 0) &&
    (decide (s.plainNext g = true))))))))) = true ∧
    (let k := 0; let r := 0; let g : Nat := (k % 64); let f : FmtR := ⟨0,(k*2)%16,(k*6)%16,true,0⟩;
    let i : FmtI := ⟨0, k%16, (k * 77777 + 131072*k) % 2^18⟩; let s : State := (eu (k%64) (rg r)); (decide (g < 64) &&
    (decide (f.ok = true) && (decide (f.res = 0) && (decide (f.rd = 0) && (decide (i.ok = true) && (decide (i.rd = 0) &&
    (decide (s.plainNext g = true) && (decide (f.ra % 2 = 0) && (decide (f.rb % 2 = 0))))))))))) = true := by decide +kernel

end Compares

namespace Immediates
def eu (g : Nat) (l : List Nat) : State := ((up.wr ENGCTL.RUN 1 g).modSch g (fun x => {x with cur := some 5})).modEn g (fun e => (l.zipIdx).foldl (fun e x => e.setR x.2 (BitVec.ofNat 32 x.1)) {e with pc := 0x40000100})
def rg : Nat → List Nat
 | 0 => [0,1,2,3,4,5,6,7,8,9,10,11,12,13,14,15]
 | 1 => [0xFFFFFFFF,0x80000000,0x7FFFFFFF,0x12345678,0,31,32,33,0xDEADBEEF,0x80000001,1,0xFFFF0000,65536,0x40000,0,7]
 | n => (List.range 16).map (fun i => (n * 2654435761 + i * 40503 * (n+i) * 7919 + n*n*97 + i*i*65599*n) % 2^32)

theorem witness_Immediates :
    (let k := 0; let r := 0; let g : Nat := (k % 64);
    let f : FmtI := ⟨(k*3)%16, k%16, if k < 8 then k*4 else (k * 77777 + 131072*k) % 2^18⟩;
    let w : FmtU := ⟨k%16, 0, k*2049⟩; let s : State := (eu (k%64) (rg r)); (decide (g < 64) && (decide (f.ok = true) &&
    (decide (w.ok = true) && (decide (w.res = 0) && (decide (s.plainNext g = true))))))) = true ∧
    (let k := 0; let r := 0; let g : Nat := (k % 64);
    let f : FmtI := ⟨(k*3)%16, k%16, if k < 8 then k*4 else (k * 77777 + 131072*k) % 2^18⟩;
    let w : FmtU := ⟨k%16, 0, k*2049⟩; let s : State := (eu (k%64) (rg r)); (decide (g < 64) && (decide (f.ok = true) &&
    (decide (w.ok = true) && (decide (w.res = 0) && (decide (s.plainNext g = true) && (decide (f.imm < 32)))))))) = true := by decide +kernel

end Immediates

namespace Pairs
def eu (g : Nat) (l : List Nat) : State := ((up.wr ENGCTL.RUN 1 g).modSch g (fun x => {x with cur := some 5})).modEn g (fun e => (l.zipIdx).foldl (fun e x => e.setR x.2 (BitVec.ofNat 32 x.1)) {e with pc := 0x40000100})
def rg : Nat → List Nat
 | 0 => [0,1,2,3,4,5,6,7,8,9,10,11,12,13,14,15]
 | 1 => [0xFFFFFFFF,0x80000000,0x7FFFFFFF,0x12345678,0,31,32,33,0xDEADBEEF,0x80000001,1,0xFFFF0000,65536,0x40000,0,7]
 | n => (List.range 16).map (fun i => (n * 2654435761 + i * 40503 * (n+i) * 7919 + n*n*97 + i*i*65599*n) % 2^32)

theorem witness_Pairs :
    (let k := 0; let r := 0; let g : Nat := (k % 64);
    let f : FmtR := ⟨(k*2)%16,(k*6+2)%16,if k%3==0 then 0 else k%16, k%2==0,0⟩; let s : State := (eu (k%64) (rg r));
    (decide (g < 64) && (decide (f.ok = true) && (decide (f.res = 0) && (decide (f.rd % 2 = 0) && (decide (f.ra % 2 = 0) &&
    (decide (s.plainNext g = true) && (decide (f.rb % 2 = 0))))))))) = true ∧
    (let k := 0; let r := 0; let g : Nat := (k % 64);
    let f : FmtR := ⟨(k*2)%16,(k*6+2)%16,if k%3==0 then 0 else k%16, k%2==0,0⟩; let s : State := (eu (k%64) (rg r));
    (decide (g < 64) && (decide (f.ok = true) && (decide (f.res = 0) && (decide (f.rd % 2 = 0) && (decide (f.ra % 2 = 0) &&
    (decide (s.plainNext g = true) && (decide (f.rb = 0))))))))) = true ∧
    (let k := 0; let r := 0; let g : Nat := (k % 64);
    let f : FmtR := ⟨(k*2)%16,(k*6+2)%16,if k%3==0 then 0 else k%16, k%2==0,0⟩; let s : State := (eu (k%64) (rg r));
    (decide (g < 64) && (decide (f.ok = true) && (decide (f.res = 0) && (decide (f.rd % 2 = 0) && (decide (f.ra % 2 = 0) &&
    (decide (s.plainNext g = true)))))))) = true := by decide +kernel

end Pairs

namespace Accumulators
def eu (g : Nat) (l : List Nat) : State := ((up.wr ENGCTL.RUN 1 g).modSch g (fun x => {x with cur := some 5})).modEn g (fun e => (l.zipIdx).foldl (fun e x => e.setR x.2 (BitVec.ofNat 32 x.1)) {e with pc := 0x40000100})
def rg : Nat → List Nat
 | 0 => [0,1,2,3,4,5,6,7,8,9,10,11,12,13,14,15]
 | 1 => [0xFFFFFFFF,0x80000000,0x7FFFFFFF,0x12345678,0,31,32,33,0xDEADBEEF,0x80000001,1,0xFFFF0000,65536,0x40000,0,7]
 | n => (List.range 16).map (fun i => (n * 2654435761 + i * 40503 * (n+i) * 7919 + n*n*97 + i*i*65599*n) % 2^32)

theorem witness_Accumulators :
    (let k := 0; let r := 0; let g : Nat := (k % 64); let f : FmtR := ⟨k%16,(k*6+2)%16,(k*5)%16, false,0⟩;
    let s : State := ((eu (k%64) (rg r)).modEn (k%64) (fun e => {e with acc0 := (-123456789012), acc1 := 2^46}));
    (decide (g < 64) && (decide (f.ok = true) && (decide (f.res = 0) && (decide (s.plainNext g = true) &&
    (decide ((s.en g).mode / 4 % 4 = 0) && (let e := s.en g; (let p := (e.r f.ra).toInt * (e.r f.rb).toInt / 65536;
    (let fits (x : Int) : Bool := (decide (-2 ^ 47 ≤ x) && decide (x < 2 ^ 47)); (decide (f.rd < 2) &&
    (decide (fits (e.acc f.rd + p))))))))))))) = true ∧
    (let k := 0; let r := 0; let g : Nat := (k % 64); let f : FmtR := ⟨k%16,(k*6+2)%16,(k*5)%16, false,0⟩;
    let s : State := ((eu (k%64) (rg r)).modEn (k%64) (fun e => {e with acc0 := (-123456789012), acc1 := 2^46}));
    (decide (g < 64) && (decide (f.ok = true) && (decide (f.res = 0) && (decide (s.plainNext g = true) &&
    (decide ((s.en g).mode / 4 % 4 = 0) && (let e := s.en g; (let p := (e.r f.ra).toInt * (e.r f.rb).toInt / 65536;
    (let fits (x : Int) : Bool := (decide (-2 ^ 47 ≤ x) && decide (x < 2 ^ 47)); (decide (f.rd < 2) &&
    (decide (fits (e.acc f.rd - p))))))))))))) = true ∧
    (let k := 0; let r := 0; let g : Nat := (k % 64); let f : FmtR := ⟨k%16,(k*6+2)%16,(k*5)%16, false,0⟩;
    let s : State := ((eu (k%64) (rg r)).modEn (k%64) (fun e => {e with acc0 := (-123456789012), acc1 := 2^46}));
    (decide (g < 64) && (decide (f.ok = true) && (decide (f.res = 0) && (decide (s.plainNext g = true) &&
    (decide ((s.en g).mode / 4 % 4 = 0) && (decide (f.rd < 2)))))))) = true ∧
    (let k := 0; let r := 0; let g : Nat := (k % 64); let f : FmtR := ⟨k%2*((k%4)/2),(k%4/2),0, false,0⟩;
    let s : State := ((eu (k%64) (rg r)).modEn (k%64) (fun e => {e with acc0 := (-1234567), acc1 := 2^46}));
    (decide (g < 64) && (decide (f.ok = true) && (decide (f.res = 0) && (decide (s.plainNext g = true) &&
    (decide ((s.en g).mode / 4 % 4 = 0) && (decide (f.rd < 2) && (decide (f.ra = 0) && (decide (f.rb = 0)))))))))) = true ∧
    (let k := 0; let r := 0; let g : Nat := (k % 64); let f : FmtR := ⟨k%16,(k*6+2)%16,(k*5)%16, false,0⟩;
    let s : State := ((eu (k%64) (rg r)).modEn (k%64) (fun e => {e with acc0 := (-123456789012), acc1 := 2^46}));
    (decide (g < 64) && (decide (f.ok = true) && (decide (f.res = 0) && (decide (s.plainNext g = true) &&
    (decide ((s.en g).mode / 4 % 4 = 0) && (decide (f.rd < 2) && (decide (f.ra % 2 = 0) &&
    (decide (f.rb = 0)))))))))) = true ∧
    (let k := 0; let r := 0; let g : Nat := (k % 64); let f : FmtR := ⟨k%2*((k%4)/2),(k%4/2),0, false,0⟩;
    let s : State := ((eu (k%64) (rg r)).modEn (k%64) (fun e => {e with acc0 := (-1234567), acc1 := 2^46}));
    (decide (g < 64) && (decide (f.ok = true) && (decide (f.res = 0) && (decide (s.plainNext g = true) &&
    (decide ((s.en g).mode / 4 % 4 = 0) && (let e := s.en g; (decide (f.ra < 2) && (decide (f.rb = 0) &&
    (decide (-2 ^ 31 ≤ e.acc f.ra) && (decide (e.acc f.ra < 2 ^ 31)))))))))))) = true ∧
    (let k := 0; let r := 0; let g : Nat := (k % 64); let f : FmtR := ⟨k%2*((k%4)/2),(k%4/2),0, false,0⟩;
    let s : State := ((eu (k%64) (rg r)).modEn (k%64) (fun e => {e with acc0 := (-1234567), acc1 := 2^46}));
    (decide (g < 64) && (decide (f.ok = true) && (decide (f.res = 0) && (decide (s.plainNext g = true) &&
    (decide ((s.en g).mode / 4 % 4 = 0) && (decide (f.ra < 2) && (decide (f.rb = 0) &&
    (decide (f.rd % 2 = 0)))))))))) = true := by decide +kernel

end Accumulators

namespace Saturation
def eu (g : Nat) (l : List Nat) : State := ((up.wr ENGCTL.RUN 1 g).modSch g (fun x => {x with cur := some 5})).modEn g (fun e => (l.zipIdx).foldl (fun e x => e.setR x.2 (BitVec.ofNat 32 x.1)) {e with pc := 0x40000100})
def rg : Nat → List Nat
 | 0 => [0,1,2,3,4,5,6,7,8,9,10,11,12,13,14,15]
 | 1 => [0xFFFFFFFF,0x80000000,0x7FFFFFFF,0x12345678,0,31,32,33,0xDEADBEEF,0x80000001,1,0xFFFF0000,65536,0x40000,0,7]
 | n => (List.range 16).map (fun i => (n * 2654435761 + i * 40503 * (n+i) * 7919 + n*n*97 + i*i*65599*n) % 2^32)
def w1 : State :=
  ((eu 3 (rg 1)).modEn 3 (fun e => {e with acc0 := 2^47-1, accstat := 2}))
def w2 : State :=
  ((eu 3 (rg 1)).modEn 3 (fun e => {e with acc1 := -2^47, accstat := 1}))

theorem witness_Saturation :
    (let g : Nat := 3; let f : FmtR := ⟨0,2,2,false,0⟩; let s : State := w1; (decide (g < 64) && (decide (f.ok = true) &&
    (decide (f.res = 0) && (decide (f.rd < 2) && (decide (s.plainNext g = true) && (decide ((s.en g).mode = 0) &&
    (let e := s.en g; (let p := (e.r f.ra).toInt * (e.r f.rb).toInt / 65536;
    (decide (2 ^ 47 ≤ e.acc f.rd + p))))))))))) = true ∧
    (let g : Nat := 3; let f : FmtR := ⟨1,2,2,false,0⟩; let s : State := w2; (decide (g < 64) && (decide (f.ok = true) &&
    (decide (f.res = 0) && (decide (f.rd < 2) && (decide (s.plainNext g = true) && (decide ((s.en g).mode = 0) &&
    (let e := s.en g; (let p := (e.r f.ra).toInt * (e.r f.rb).toInt / 65536;
    (decide (e.acc f.rd - p < -2 ^ 47))))))))))) = true := by decide +kernel

end Saturation

namespace Loads
def eu (g : Nat) (l : List Nat) : State := ((up.wr ENGCTL.RUN 1 g).modSch g (fun x => {x with cur := some 5})).modEn g (fun e => (l.zipIdx).foldl (fun e x => e.setR x.2 (BitVec.ofNat 32 x.1)) {e with pc := 0x40000100})
def ms_ (s : State) : State := { s with mem := ((s.mem.sramPut 0x100 (toBytes 64 0x8102F304A50607B8090A0B0C0D0E0F1112131415161718191A1B1C1D1E1F)).lmPut 3 0x200 (toBytes 32 0x8899AABBCCDDEEFF0011223344556677)).secPut 0x40 (toBytes 32 0xF1F2F3F4F5F6F7F8) }
def w1 : State :=
  (ms_ (eu 3 [0,0]))

theorem witness_Loads :
    (let k := 0; let g : Nat := 3; let f : FmtM := ⟨k, 1, 0, 0x100+8*k⟩; let x : Ecc := .clean; let s : State := w1;
    (decide (g < 64) && (decide (f.ok = true) && (decide (f.res = 0) && (decide (s.plainNext g = true) &&
    (decide ((s.en g).posted = []) && (decide (x.ue = [])))))))) = true ∧
    (let k := 0; let g : Nat := 3; let f : FmtM := ⟨k, 1, 0, 0x100+8*k⟩; let x : Ecc := .clean; let s : State := w1;
    (decide (g < 64) && (decide (f.ok = true) && (decide (f.res = 0) && (decide (s.plainNext g = true) &&
    (decide ((s.en g).posted = []) && (decide (x.ue = []) && (decide (f.rd % 2 = 0))))))))) = true := by decide +kernel

end Loads

namespace Stores
def eu (g : Nat) (l : List Nat) : State := ((up.wr ENGCTL.RUN 1 g).modSch g (fun x => {x with cur := some 5})).modEn g (fun e => (l.zipIdx).foldl (fun e x => e.setR x.2 (BitVec.ofNat 32 x.1)) {e with pc := 0x40000100})
def ms_ (s : State) : State := { s with mem := ((s.mem.sramPut 0x100 (toBytes 64 0x8102F304A50607B8090A0B0C0D0E0F1112131415161718191A1B1C1D1E1F)).lmPut 3 0x200 (toBytes 32 0x8899AABBCCDDEEFF0011223344556677)).secPut 0x40 (toBytes 32 0xF1F2F3F4F5F6F7F8) }
def w1 : State :=
  (ms_ (eu 3 [0,0,0xDEADBEEF,5,6,7,8,9]))

theorem witness_Stores :
    (let k := 0; let g : Nat := 3; let f : FmtM := ⟨k, 1, 0, 0x100+8*k⟩; let x : Ecc := .clean; let s : State := w1;
    (decide (g < 64) && (decide (f.ok = true) && (decide (f.res = 0) && (decide (s.plainNext g = true) &&
    (decide (x.ue = []))))))) = true ∧
    (let k := 0; let g : Nat := 3; let f : FmtM := ⟨k, 1, 0, 0x100+8*k⟩; let x : Ecc := .clean; let s : State := w1;
    (decide (g < 64) && (decide (f.ok = true) && (decide (f.res = 0) && (decide (s.plainNext g = true) &&
    (decide (x.ue = []) && (decide (f.rd % 2 = 0)))))))) = true := by decide +kernel

end Stores

namespace EngineAtomics
def eu (g : Nat) (l : List Nat) : State := ((up.wr ENGCTL.RUN 1 g).modSch g (fun x => {x with cur := some 5})).modEn g (fun e => (l.zipIdx).foldl (fun e x => e.setR x.2 (BitVec.ofNat 32 x.1)) {e with pc := 0x40000100})
def ms_ (s : State) : State := { s with mem := ((s.mem.sramPut 0x100 (toBytes 64 0x8102F304A50607B8090A0B0C0D0E0F1112131415161718191A1B1C1D1E1F)).lmPut 3 0x200 (toBytes 32 0x8899AABBCCDDEEFF0011223344556677)).secPut 0x40 (toBytes 32 0xF1F2F3F4F5F6F7F8) }
def w1 : State :=
  (ms_ (eu 3 [0,0x108,0x0D0E0F11,0xFFFFFFFF,6,7,8,9]))

theorem witness_EngineAtomics :
    (let k := 0; let g : Nat := 3; let f : FmtR := ⟨k, 1, (k*3)%16, false,0⟩; let x : Ecc := .clean; let s : State := w1;
    (decide (g < 64) && (decide (f.ok = true) && (decide (f.res = 0) && (decide (s.plainNext g = true) &&
    (decide ((s.en g).posted = []) && (decide (x.ue = [])))))))) = true ∧
    (let k := 0; let g : Nat := 3; let f : FmtR := ⟨k, 1, (k*3)%16, false,0⟩; let x : Ecc := .clean; let s : State := w1;
    (decide (g < 64) && (decide (f.ok = true) && (decide (f.res = 0) && (decide (s.plainNext g = true) &&
    (decide ((s.en g).posted = []) && (decide (x.ue = []) && (decide (f.rd % 2 = 0) &&
    (decide (f.rb % 2 = 0)))))))))) = true := by decide +kernel

end EngineAtomics

namespace PostedStores
def eu (g : Nat) (l : List Nat) : State := ((up.wr ENGCTL.RUN 1 g).modSch g (fun x => {x with cur := some 5})).modEn g (fun e => (l.zipIdx).foldl (fun e x => e.setR x.2 (BitVec.ofNat 32 x.1)) {e with pc := 0x40000100})
def ms_ (s : State) : State := { s with mem := ((s.mem.sramPut 0x100 (toBytes 64 0x8102F304A50607B8090A0B0C0D0E0F1112131415161718191A1B1C1D1E1F)).lmPut 3 0x200 (toBytes 32 0x8899AABBCCDDEEFF0011223344556677)).secPut 0x40 (toBytes 32 0xF1F2F3F4F5F6F7F8) }
def w1 : State :=
  ((ms_ (eu 3 [])).modEn 3 (fun e => {e with posted := [⟨8,0x104,toBytes 4 99,none⟩,⟨8,0x108,toBytes 4 99,none⟩]}))
def w2 : State :=
  (((ms_ (eu 3 [])).modEn 3 (fun e => {e with posted := [⟨8,0x104,toBytes 4 99,none⟩]})).setIso 3 true)
def w3 : State :=
  (((ms_ (eu 3 [])).modEn 3 (fun e => {e with posted := [⟨8,0x104,toBytes 4 99,none⟩,⟨8,0x108,toBytes 4 99,none⟩]})).setIso 68 true)
def w4 : State :=
  (((ms_ (eu 3 [])).modEn 3 (fun e => {e with posted := [⟨8,0x104,toBytes 4 99,none⟩], hold := some .fence})).setIso 3 true)

theorem witness_PostedStores_1 :
    (let g : Nat := 3; let s : State := w1; (decide (g < 64) && (onSome false (((List.range 5))[0]?) fun k =>
    (onSome false ((([(Ecc.clean)]))[0]?) fun x => (onSome false ((s.en g).posted[k]?) fun p =>
    (decide ((s.en g).oldest k = true) && (decide ((s.en g).hold = none) && (decide (p.served = none) &&
    (decide (p.addr < 0x1800000) && (decide (accessOk p.addr p.data.length = true) && (decide (x.ue = []) &&
    (decide (s.cutEng g = false) && (decide (s.isolated (68 + p.addr / 0x40000) = false) &&
    (decide (s.mem.poisoned (wordsOf p.addr p.data.length) = false))))))))))))))) = true := by decide +kernel

theorem witness_PostedStores_2 :
    (let g : Nat := 3; let s : State := w2; (decide (g < 64) && (onSome false (((List.range 5))[0]?) fun k =>
    (onSome false ((([(Ecc.clean)]))[0]?) fun x => (onSome false ((s.en g).posted[k]?) fun p =>
    (decide ((s.en g).oldest k = true) && (decide ((s.en g).hold = none) && (decide (p.served = none) &&
    (decide (p.addr < 0x1800000) && (decide (accessOk p.addr p.data.length = true) && (decide (x.ue = []) &&
    (decide (s.cutEng g = true))))))))))))) = true := by decide +kernel

theorem witness_PostedStores_3 :
    (let g : Nat := 3; let s : State := w3; (decide (g < 64) && (onSome false (((List.range 5))[0]?) fun k =>
    (onSome false ((([(Ecc.clean)]))[0]?) fun x => (onSome false ((s.en g).posted[k]?) fun p =>
    (decide ((s.en g).oldest k = true) && (decide ((s.en g).hold = none) && (decide (p.served = none) &&
    (decide (p.addr < 0x1800000) && (decide (accessOk p.addr p.data.length = true) && (decide (x.ue = []) &&
    (decide (s.cutEng g = false) && (decide (s.isolated (68 + p.addr / 0x40000) = true)))))))))))))) = true := by decide +kernel

theorem witness_PostedStores_4 :
    (let g : Nat := 3; let s : State := w4; (decide (g < 64) && (onSome false ((([(Ecc.clean)]))[0]?) fun x =>
    (onCons false ((s.en g).posted) fun p r => (decide (r = []) && (decide ((s.en g).hold = some .fence) &&
    (decide (p.served = none) && (decide (s.cutEng g = true) && (decide ((s.en g).br = none) &&
    (decide ((s.en g).atLe = false) && (decide ((s.en g).imp = []) && (decide ((s.en g).modeP = []) &&
    (decide ((s.en g).stepping = false) && (decide ((s.en g).haltReq = false) &&
    (decide (s.dlUsable g (s.curSlot g) = false)))))))))))))))) = true := by decide +kernel

theorem witness_PostedStores_5 :
    (let g : Nat := 3; let s : State := (eu 3 []); (decide (g < 64) && (decide (s.plainNext g = true) &&
    (decide ((s.en g).posted = []))))) = true := by decide +kernel

theorem witness_PostedStores_6 :
    (let g : Nat := 3; let s : State := w1; (decide (g < 64) && (decide (s.plainNext g = true) &&
    (decide ((s.en g).posted ≠ []))))) = true := by decide +kernel

end PostedStores

namespace SpecialRegisters
def eu (g : Nat) (l : List Nat) : State := ((up.wr ENGCTL.RUN 1 g).modSch g (fun x => {x with cur := some 5})).modEn g (fun e => (l.zipIdx).foldl (fun e x => e.setR x.2 (BitVec.ofNat 32 x.1)) {e with pc := 0x40000100})
def w1 : State :=
  ((eu 3 [1,9,0x80000001,7,7,7,7,7,7,0x81]).modEn 3 (fun e => {e with mode := 11, flags := 9, l0 := ⟨true,3,4,5⟩, l1 := ⟨false,6,7,8⟩, accstat := 3, ecause := 77, efpc := 78, eaddr := 79, etrap := 80, eframe := 81}))

theorem witness_SpecialRegisters :
    (let rd := 0; let g : Nat := 3; let rd : Nat := rd; let s : State := w1; (decide (g < 64) && (decide (rd < 16) &&
    (decide (s.plainNext g = true))))) = true ∧
    (let rd := 0; let g : Nat := 3; let rd : Nat := rd; let s : State := w1; (decide (g < 64) && (decide (rd < 16) &&
    (decide (s.plainNext g = true) && (let i : Nat := 0; (let w : Nat := 0; (decide (i < 16) &&
    (decide (w < 16))))))))) = true ∧
    (let rd := 0; let g : Nat := 3; let rd : Nat := rd; let s : State := w1; (decide (g < 64) && (decide (rd < 16) &&
    (decide (s.plainNext g = true) && (let e := s.en g; (decide ((e.r rd).toNat % 8 = 1) &&
    (decide (s.on GSTARTSTAT.PEND = false)))))))) = true ∧
    (let rd := 0; let g : Nat := 3; let rd : Nat := rd; let s : State := w1; (decide (g < 64) && (decide (rd < 16) &&
    (decide (s.plainNext g = true) && (let k : Nat := 0; (decide (k < 18) && (decide (rd % 2 = 0)))))))) = true := by decide +kernel

end SpecialRegisters

namespace ModeShadow
def eu (g : Nat) (l : List Nat) : State := ((up.wr ENGCTL.RUN 1 g).modSch g (fun x => {x with cur := some 5})).modEn g (fun e => (l.zipIdx).foldl (fun e x => e.setR x.2 (BitVec.ofNat 32 x.1)) {e with pc := 0x40000100})

theorem witness_ModeShadow :
    (let g : Nat := 3; let v : Nat := 7; let s : State := ((eu 3 []).modEn 3 (fun e => {e with modeP := [⟨7,2⟩]}));
    (decide (g < 64) && (decide (s.engReady g = true) && (decide (s.fetchBad g = none) && (decide ((s.en g).br = none) &&
    (decide ((s.en g).atLe = false) && (decide ((s.en g).imp = []) && (decide ((s.en g).stepping = false) &&
    (decide ((s.en g).haltReq = false) && (decide (s.dlUsable g (s.curSlot g) = false) &&
    (decide ((s.en g).modeP = [⟨v, 2⟩])))))))))))) = true ∧
    (let g : Nat := 3; let v : Nat := 7; let s : State := ((eu 3 []).modEn 3 (fun e => {e with modeP := [⟨7,1⟩]}));
    (decide (g < 64) && (decide (s.engReady g = true) && (decide (s.fetchBad g = none) && (decide ((s.en g).br = none) &&
    (decide ((s.en g).atLe = false) && (decide ((s.en g).imp = []) && (decide ((s.en g).stepping = false) &&
    (decide ((s.en g).haltReq = false) && (decide (s.dlUsable g (s.curSlot g) = false) &&
    (decide ((s.en g).modeP = [⟨v, 1⟩])))))))))))) = true := by decide +kernel

end ModeShadow

namespace Ports
def eu (g : Nat) (l : List Nat) : State := ((up.wr ENGCTL.RUN 1 g).modSch g (fun x => {x with cur := some 5})).modEn g (fun e => (l.zipIdx).foldl (fun e x => e.setR x.2 (BitVec.ofNat 32 x.1)) {e with pc := 0x40000100})

theorem witness_Ports :
    (let k := 0; let g : Nat := 3; let rd : Nat := k; let ch : Nat := k;
    let s : State := ((((((eu 3 [1,2,3,4,5,6,7,8,9,10,11,12,13,14,15,16])).wr ACTPRD.VALUE 99 (48+k)).wr CAPNEW_LO.VALUE 5 (48+k)).wr CAPNEW_HI.VALUE 6 (48+k)).wr BRIDLE.OWNER 3 0 (6+k/8));
    (decide (g < 64) && (decide (rd < 16) && (decide (ch < 16) && (decide (s.plainNext g = true)))))) = true ∧
    (let k := 0; let g : Nat := 3; let rd : Nat := k; let ch : Nat := k;
    let s : State := ((((((eu 3 [1,2,3,4,5,6,7,8,9,10,11,12,13,14,15,16])).wr ACTPRD.VALUE 99 (48+k)).wr CAPNEW_LO.VALUE 5 (48+k)).wr CAPNEW_HI.VALUE 6 (48+k)).wr BRIDLE.OWNER 3 0 (6+k/8));
    (decide (g < 64) && (decide (rd < 16) && (decide (ch < 16) && (decide (s.plainNext g = true) &&
    (decide (rd % 2 = 0))))))) = true ∧
    (let k := 0; let g : Nat := 3; let rd : Nat := k; let ch : Nat := k;
    let s : State := ((((((eu 3 [1,2,3,4,5,6,7,8,9,10,11,12,13,14,15,16])).wr ACTPRD.VALUE 99 (48+k)).wr CAPNEW_LO.VALUE 5 (48+k)).wr CAPNEW_HI.VALUE 6 (48+k)).wr BRIDLE.OWNER 3 0 (6+k/8));
    (decide (g < 64) && (decide (rd < 16) && (decide (ch < 16) && (decide (s.plainNext g = true) && (let n := 16 * g + ch;
    (decide (s.bridlePass (n / 8) (.eng g) = true)))))))) = true ∧
    (let k := 0; let g : Nat := 3; let rd : Nat := k; let ch : Nat := k;
    let s : State := ((((((eu 3 [1,2,3,4,5,6,7,8,9,10,11,12,13,14,15,16])).wr ACTPRD.VALUE 99 (48+k)).wr CAPNEW_LO.VALUE 5 (48+k)).wr CAPNEW_HI.VALUE 6 (48+k)).wr BRIDLE.OWNER 3 0 (6+k/8));
    (decide (g < 64) && (decide (rd < 16) && (decide (ch < 16) && (decide (s.plainNext g = true) && (let n := 16 * g + ch;
    (decide (s.bridlePass (n / 8) (.eng g) = true) && (decide (rd % 2 = 0))))))))) = true ∧
    (let k := 0; let g : Nat := 3; let rd : Nat := k; let ch : Nat := k;
    let s : State := ((((((eu 3 [1,2,3,4,5,6,7,8,9,10,11,12,13,14,15,16])).wr ACTPRD.VALUE 99 (48+k)).wr CAPNEW_LO.VALUE 5 (48+k)).wr CAPNEW_HI.VALUE 6 (48+k)));
    (decide (g < 64) && (decide (rd < 16) && (decide (ch < 16) && (decide (s.plainNext g = true) && (let n := 16 * g + ch;
    (decide (s.bridlePass (n / 8) (.eng g) = false)))))))) = true := by decide +kernel

end Ports

namespace EdgeRequests
def eu (g : Nat) (l : List Nat) : State := ((up.wr ENGCTL.RUN 1 g).modSch g (fun x => {x with cur := some 5})).modEn g (fun e => (l.zipIdx).foldl (fun e x => e.setR x.2 (BitVec.ofNat 32 x.1)) {e with pc := 0x40000100})

theorem witness_EdgeRequests :
    (let k := 0; let t : Nat := 1000; let g : Nat := 3; let rd : Nat := k; let ch : Nat := k; let lvl : Nat := (k%3);
    let pr : Nat := (k%8);
    let s : State := ((eu 3 [60000,0,60000,0,60000,0,60000,0,70000,0,1900,0,1250,0,90000,1]).wr BRIDLE.OWNER 3 0 (6+k/8));
    (decide (g < 64) && (decide (rd < 16) && (decide (ch < 16) && (decide (lvl < 3) && (decide (pr < 8) &&
    (decide (s.plainNext g = true) && (decide (s.now ≤ t) && (let e := s.en g; (let n := 16 * g + ch;
    (let F := (e.rp (2 * pr)).toNat; (let cur := s.fineAt (s.etb n) t; (decide (s.bridlePass (n / 8) (.eng g) = true) &&
    (decide ((s.ch n).dl.pend = []) && (decide ((s.ch n).dl.lastAt = none) && (decide (F < 2 ^ 63) && (decide (cur < F) &&
    (decide (cur + (s.advance t).espan n (ns 12) ≤ F))))))))))))))))))) = true ∧
    (let t : Nat := 1000; let g : Nat := 3; let rd : Nat := 1; let ch : Nat := 15; let lvl : Nat := 2; let pr : Nat := 0;
    let s : State := (eu 3 [1,0]); (decide (g < 64) && (decide (rd < 16) && (decide (ch < 16) && (decide (lvl < 3) &&
    (decide (pr < 8) && (decide (s.plainNext g = true) && (decide (s.now ≤ t) && (let n := 16 * g + ch;
    (decide (s.bridlePass (n / 8) (.eng g) = false))))))))))) = true := by decide +kernel

end EdgeRequests

namespace EventTake
def eu (g : Nat) (l : List Nat) : State := ((up.wr ENGCTL.RUN 1 g).modSch g (fun x => {x with cur := some 5})).modEn g (fun e => (l.zipIdx).foldl (fun e x => e.setR x.2 (BitVec.ofNat 32 x.1)) {e with pc := 0x40000100})

theorem witness_EventTake :
    (let k := 0; let g : Nat := 3; let rd : Nat := k; let i : Nat := k; let s : State := ((eu 3 []).modTi 3 5 k (fun _ =>
    ⟨3, some ⟨5,6,true,false⟩, some ⟨7,8,false,true⟩, true, true, 7⟩)); (decide (g < 64) && (decide (rd < 16) &&
    (decide (i < 16) && (decide (s.plainNext g = true)))))) = true := by decide +kernel

end EventTake

namespace Branches
def eu (g : Nat) (l : List Nat) : State := ((up.wr ENGCTL.RUN 1 g).modSch g (fun x => {x with cur := some 5})).modEn g (fun e => (l.zipIdx).foldl (fun e x => e.setR x.2 (BitVec.ofNat 32 x.1)) {e with pc := 0x40000100})
def rg : Nat → List Nat
 | 0 => [0,1,2,3,4,5,6,7,8,9,10,11,12,13,14,15]
 | 1 => [0xFFFFFFFF,0x80000000,0x7FFFFFFF,0x12345678,0,31,32,33,0xDEADBEEF,0x80000001,1,0xFFFF0000,65536,0x40000,0,7]
 | n => (List.range 16).map (fun i => (n * 2654435761 + i * 40503 * (n+i) * 7919 + n*n*97 + i*i*65599*n) % 2^32)

theorem witness_Branches :
    (let fl := 0; let c := 0; let g : Nat := 3; let c : Nat := c;
    let off : Nat := (if fl % 3 == 0 then 5 else if fl % 3 == 1 then 2^21+77 else 2^25+3);
    let s : State := ((eu 3 (rg 1)).modEn 3 (fun e => {e with flags := fl})); (decide (g < 64) && (decide (c < 16) &&
    (decide (s.plainNext g = true) && (decide (off < 2 ^ 22) && (decide (c < 15))))))) = true ∧
    (let fl := 0; let c := 0; let g : Nat := 3; let c : Nat := c;
    let off : Nat := (if fl % 3 == 0 then 5 else if fl % 3 == 1 then 2^21+77 else 2^25+3);
    let s : State := ((eu 3 (rg 1)).modEn 3 (fun e => {e with flags := fl})); (decide (g < 64) && (decide (c < 16) &&
    (decide (s.plainNext g = true) && (decide (off < 2 ^ 22)))))) = true ∧
    (let fl := 0; let c := 0; let g : Nat := 3; let c : Nat := c;
    let off : Nat := (if fl % 3 == 0 then 5 else if fl % 3 == 1 then 2^21+77 else 2^25+3);
    let s : State := ((eu 3 (rg 1)).modEn 3 (fun e => {e with flags := fl})); (decide (g < 64) && (decide (c < 16) &&
    (decide (s.plainNext g = true) && (decide (off < 2 ^ 26)))))) = true ∧
    (let fl := 0; let c := 0; let g : Nat := 3; let c : Nat := c; let s : State := ((eu 3 (rg 1)).modEn 3 (fun e =>
    {e with flags := fl})); (decide (g < 64) && (decide (c < 16) && (decide (s.plainNext g = true))))) = true := by decide +kernel

end Branches

namespace DelaySlot
def eu (g : Nat) (l : List Nat) : State := ((up.wr ENGCTL.RUN 1 g).modSch g (fun x => {x with cur := some 5})).modEn g (fun e => (l.zipIdx).foldl (fun e x => e.setR x.2 (BitVec.ofNat 32 x.1)) {e with pc := 0x40000100})
def rg : Nat → List Nat
 | 0 => [0,1,2,3,4,5,6,7,8,9,10,11,12,13,14,15]
 | 1 => [0xFFFFFFFF,0x80000000,0x7FFFFFFF,0x12345678,0,31,32,33,0xDEADBEEF,0x80000001,1,0xFFFF0000,65536,0x40000,0,7]
 | n => (List.range 16).map (fun i => (n * 2654435761 + i * 40503 * (n+i) * 7919 + n*n*97 + i*i*65599*n) % 2^32)
def w1 : State :=
  ((eu 3 (rg 1)).modEn 3 (fun e => {e with br := some ⟨0x400000FC,0x40000200,true,true,false⟩}))

theorem witness_DelaySlot :
    (let g : Nat := 3; let b : Branch := ⟨0x400000FC,0x40000200,true,true,false⟩; let s : State := w1; (decide (g < 64) &&
    (decide (s.engReady g = true) && (decide (s.fetchBad g = none) && (decide ((s.en g).br = some b) &&
    (decide ((s.en g).l0.act = false) && (decide ((s.en g).l1.act = false) && (decide ((s.en g).imp = []) &&
    (decide ((s.en g).modeP = []) && (decide ((s.en g).stepping = false) && (decide ((s.en g).haltReq = false) &&
    (decide (s.dlUsable g (s.curSlot g) = false))))))))))))) = true := by decide +kernel

end DelaySlot

namespace Loops
def eu (g : Nat) (l : List Nat) : State := ((up.wr ENGCTL.RUN 1 g).modSch g (fun x => {x with cur := some 5})).modEn g (fun e => (l.zipIdx).foldl (fun e x => e.setR x.2 (BitVec.ofNat 32 x.1)) {e with pc := 0x40000100})
def rg : Nat → List Nat
 | 0 => [0,1,2,3,4,5,6,7,8,9,10,11,12,13,14,15]
 | 1 => [0xFFFFFFFF,0x80000000,0x7FFFFFFF,0x12345678,0,31,32,33,0xDEADBEEF,0x80000001,1,0xFFFF0000,65536,0x40000,0,7]
 | n => (List.range 16).map (fun i => (n * 2654435761 + i * 40503 * (n+i) * 7919 + n*n*97 + i*i*65599*n) % 2^32)
def w1 : State :=
  (eu 3 (rg 1))
def w2 : State :=
  ((eu 3 (rg 1)).modEn 3 (fun e => {e with l0 := ⟨true,3,0x400000F0,0x40000100⟩}))
def w3 : State :=
  ((eu 3 (rg 1)).modEn 3 (fun e => {e with l0 := ⟨true,1,0x400000F0,0x40000100⟩}))

theorem witness_Loops :
    (let g : Nat := 3; let n : Nat := 5; let len : Nat := 7; let s : State := w1; (decide (g < 64) && (decide (n < 512) &&
    (decide (0 < len) && (decide (len < 4096) && (let e := s.en g; (decide (s.plainNext g = true) &&
    (decide (e.l0.act = false) && (decide (0 < n)))))))))) = true ∧
    (let g : Nat := 3; let n : Nat := 0; let len : Nat := 7; let s : State := w1; (decide (g < 64) && (decide (n < 512) &&
    (decide (0 < len) && (decide (len < 4096) && (let e := s.en g; (decide (s.plainNext g = true) &&
    (decide (e.l0.act = false) && (decide (n = 0)))))))))) = true ∧
    (let g : Nat := 3; let n : Nat := 5; let len : Nat := 7; let s : State := w2; (decide (g < 64) && (decide (n < 512) &&
    (decide (0 < len) && (decide (len < 4096) && (let e := s.en g; (decide (s.engReady g = true) &&
    (decide (s.fetchBad g = none) && (decide (e.br = none) && (decide (e.l1.act = false) && (decide (e.l0.act = true) &&
    (decide (e.l0.le = e.pc) && (decide (e.imp = []) && (decide (e.modeP = []) && (decide (e.stepping = false) &&
    (decide (e.haltReq = false) && (decide (s.dlUsable g (s.curSlot g) = false) &&
    (decide (1 < e.l0.lc))))))))))))))))))) = true ∧
    (let g : Nat := 3; let n : Nat := 5; let len : Nat := 7; let s : State := w3; (decide (g < 64) && (decide (n < 512) &&
    (decide (0 < len) && (decide (len < 4096) && (let e := s.en g; (decide (s.engReady g = true) &&
    (decide (s.fetchBad g = none) && (decide (e.br = none) && (decide (e.l1.act = false) && (decide (e.l0.act = true) &&
    (decide (e.l0.le = e.pc) && (decide (e.imp = []) && (decide (e.modeP = []) && (decide (e.stepping = false) &&
    (decide (e.haltReq = false) && (decide (s.dlUsable g (s.curSlot g) = false) &&
    (decide (e.l0.lc = 1))))))))))))))))))) = true := by decide +kernel

end Loops

namespace ArithmeticTraps
def eu (g : Nat) (l : List Nat) : State := ((up.wr ENGCTL.RUN 1 g).modSch g (fun x => {x with cur := some 5})).modEn g (fun e => (l.zipIdx).foldl (fun e x => e.setR x.2 (BitVec.ofNat 32 x.1)) {e with pc := 0x40000100})
def rg : Nat → List Nat
 | 0 => [0,1,2,3,4,5,6,7,8,9,10,11,12,13,14,15]
 | 1 => [0xFFFFFFFF,0x80000000,0x7FFFFFFF,0x12345678,0,31,32,33,0xDEADBEEF,0x80000001,1,0xFFFF0000,65536,0x40000,0,7]
 | n => (List.range 16).map (fun i => (n * 2654435761 + i * 40503 * (n+i) * 7919 + n*n*97 + i*i*65599*n) % 2^32)
def fr (k : Nat) : FmtR := ⟨(k*7+3)%16, (k*5+1)%16, (k*11+2)%16, k%2==0, 0⟩

theorem witness_ArithmeticTraps :
    (let k := 0; let r := 9; let g : Nat := (k % 64); let f : FmtR := {fr k with s := false};
    let s : State := ((eu (k%64) (rg r)).modEn (k%64) (fun e => {e with exl := false, mode := 1})); (decide (g < 64) &&
    (decide (f.ok = true) && (decide (f.res = 0) && (decide (f.s = false) && (decide (s.plainNext g = true) &&
    (let e := s.en g; (let a := e.r f.ra; (let b := e.r f.rb;
    (let out (x : Int) : Bool := (decide (x < -2 ^ 31) || decide (2 ^ 31 ≤ x));
    (decide (out (a.toInt + b.toInt))))))))))))) = true ∧
    (let k := 0; let r := 1; let g : Nat := (k % 64); let f : FmtR := {fr k with s := false};
    let s : State := ((eu (k%64) (rg r)).modEn (k%64) (fun e => {e with exl := false, mode := 1})); (decide (g < 64) &&
    (decide (f.ok = true) && (decide (f.res = 0) && (decide (f.s = false) && (decide (s.plainNext g = true) &&
    (let e := s.en g; (let a := e.r f.ra; (let b := e.r f.rb;
    (let out (x : Int) : Bool := (decide (x < -2 ^ 31) || decide (2 ^ 31 ≤ x));
    (decide (out (a.toInt - b.toInt))))))))))))) = true ∧
    (let k := 0; let r := 1; let g : Nat := (k % 64); let f : FmtR := {fr k with s := false};
    let s : State := ((eu (k%64) (rg r)).modEn (k%64) (fun e => {e with exl := false, mode := 1})); (decide (g < 64) &&
    (decide (f.ok = true) && (decide (f.res = 0) && (decide (f.s = false) && (decide (s.plainNext g = true) &&
    (let e := s.en g; (let a := e.r f.ra; (let b := e.r f.rb;
    (let out (x : Int) : Bool := (decide (x < -2 ^ 31) || decide (2 ^ 31 ≤ x));
    (decide (out (a.toInt * b.toInt))))))))))))) = true ∧
    (let k := 4; let r := 1; let g : Nat := (k % 64); let f : FmtR := {fr k with s := false};
    let s : State := ((eu (k%64) (rg r)).modEn (k%64) (fun e => {e with exl := false, mode := 1})); (decide (g < 64) &&
    (decide (f.ok = true) && (decide (f.res = 0) && (decide (f.s = false) && (decide (s.plainNext g = true) &&
    (let e := s.en g; (let b := e.r f.rb; (decide (b = 0#32)))))))))) = true ∧
    (let k := 0; let r := 0; let g : Nat := (k % 64); let f : FmtR := {fr k with s := false};
    let s : State := ((eu (k%64) (rg r)).modEn (k%64) (fun e => {e with exl := false, mode := 1})); (decide (g < 64) &&
    (decide (f.ok = true) && (decide (f.res = 0) && (decide (f.s = false) && (decide (s.plainNext g = true) &&
    (let code : Nat := 0; (decide (code < 2 ^ 16))))))))) = true := by decide +kernel

end ArithmeticTraps

namespace Faults
def eu (g : Nat) (l : List Nat) : State := ((up.wr ENGCTL.RUN 1 g).modSch g (fun x => {x with cur := some 5})).modEn g (fun e => (l.zipIdx).foldl (fun e x => e.setR x.2 (BitVec.ofNat 32 x.1)) {e with pc := 0x40000100})
def w1 : State :=
  (eu 3 [1,2,3,0x50000000,0x50000001])
def w2 : State :=
  ((eu 3 []).modEn 3 (fun e => {e with br := some ⟨0x400000FC,0x40000200,true,true,false⟩}))

theorem witness_Faults :
    (let g : Nat := 3; let s : State := ((eu 3 []).modEn 3 (fun e => {e with pc := 0x50000000})); (decide (g < 64) &&
    (decide (s.engReady g = true) && (decide ((s.en g).imp = []) &&
    ((decide ((s.en g).pc < 0x40000000) || decide (0x40010000 ≤ (s.en g).pc))))))) = true ∧
    (let g : Nat := 3; let s : State := w1; (decide (g < 64) && (decide (s.engReady g = true) &&
    (decide ((s.en g).imp = []) && (decide (s.fetchBad g = none)))))) = true ∧
    (let g : Nat := 3; let s : State := w1; (decide (g < 64) && (decide (s.engReady g = true) &&
    (decide ((s.en g).imp = []) && (decide (s.fetchBad g = none) && (decide ((s.en g).br = none) &&
    (decide ((s.en g).atLe = false) && (onSome false (([(⟨2,3,0,0⟩ : FmtM),⟨2,4,0,0xFFFF⟩])[0]?) fun f =>
    (decide (f.ok = true) && (decide (f.res = 0) &&
    ((decide (((s.en g).r f.ra + (BitVec.ofNat 16 f.off).signExtend 32).toNat = 0x50000000))))))))))))) = true ∧
    (let g : Nat := 3; let s : State := w2; (decide (g < 64) && (decide (s.engReady g = true) &&
    (decide ((s.en g).imp = []) && (decide (s.fetchBad g = none) && (decide ((s.en g).br.isSome = true) &&
    (decide ((s.en g).atLe = false)))))))) = true ∧
    (let g : Nat := 3; let s : State := w1; (decide (g < 64) && (decide (s.engReady g = true) &&
    (decide ((s.en g).imp = []) && (decide (s.fetchBad g = none) && (decide ((s.en g).exl = false) &&
    (decide ((s.en g).br = none) && (decide ((s.en g).atLe = false))))))))) = true := by decide +kernel

end Faults

namespace ExceptionEntry
def eu (g : Nat) (l : List Nat) : State := ((up.wr ENGCTL.RUN 1 g).modSch g (fun x => {x with cur := some 5})).modEn g (fun e => (l.zipIdx).foldl (fun e x => e.setR x.2 (BitVec.ofNat 32 x.1)) {e with pc := 0x40000100})
def w1 : State :=
  ((((eu 3 [1,2,3,4,5,6,7,8,9,10,11,12,13,14,0x40000123,0x40000200]).wr EVBASE.EN 1 3).wr EVBASE.ADDR 0x12 3).modEn 3 (fun e => {e with fault := some (⟨5,3,0x40000100,0x77,9⟩ : Exc), exl := false, flags := 5, mode := 11, br := none, l0 := ⟨true,3,0x400000F0,0x40000100⟩}))
def w2 : State :=
  ((((eu 3 [1,2,3,4,5,6,7,8,9,10,11,12,13,14,0x40000123,0x40000200]).wr EVBASE.EN 1 3).wr EVBASE.ADDR 0x12 3).modEn 3 (fun e => {e with fault := some (⟨5,3,0x40000100,0x77,9⟩ : Exc), exl := true, flags := 5, mode := 11, br := none, l0 := ⟨true,3,0x400000F0,0x40000100⟩}))

theorem witness_ExceptionEntry :
    (let g : Nat := 3; let x : Exc := (⟨5,3,0x40000100,0x77,9⟩ : Exc); let s : State := w1; (decide (g < 64) &&
    (decide ((s.en g).fault = some x) && (decide ((s.en g).bal = []) && (decide ((s.en g).hold = none) &&
    (decide (s.on BALSTAT.INBAL g = false) && (decide (s.on ENGCTL.RUN g = true) && (decide ((s.en g).halted = false) &&
    (let e := s.en g; (let sp := (e.r 15).toNat; (decide (e.exl = false) && (decide (s.on EVBASE.EN g = true) &&
    (decide (sp % 8 = 0) && (decide (0x40000000 + s.rd ESTKLIM.LIMIT g * 8 + 40 ≤ sp) && (decide (sp ≤ 0x40010000) &&
    (decide (x.cause < 32) && (decide (x.sub < 16) && (decide (e.modeP = []) && (decide (e.stepping = false) &&
    (decide (e.haltReq = false) && (decide (e.flags < 16) && (decide (e.mode < 2 ^ 32) &&
    (decide (s.mem.lmPoison = [])))))))))))))))))))))))) = true ∧
    (let g : Nat := 3; let x : Exc := (⟨5,3,0x40000100,0x77,9⟩ : Exc); let s : State := w2; (decide (g < 64) &&
    (decide ((s.en g).fault = some x) && (decide ((s.en g).bal = []) && (decide ((s.en g).hold = none) &&
    (decide (s.on BALSTAT.INBAL g = false) && (decide (s.on ENGCTL.RUN g = true) && (decide ((s.en g).halted = false) &&
    (let e := s.en g; (let sp := (e.r 15).toNat;
    ((decide (e.exl = true) || (decide (s.on EVBASE.EN g = false) || decide (sp % 8 ≠ 0)))))))))))))) = true := by decide +kernel

end ExceptionEntry

namespace ExceptionReturn
def eu (g : Nat) (l : List Nat) : State := ((up.wr ENGCTL.RUN 1 g).modSch g (fun x => {x with cur := some 5})).modEn g (fun e => (l.zipIdx).foldl (fun e x => e.setR x.2 (BitVec.ofNat 32 x.1)) {e with pc := 0x40000100})
def w1 : State :=
  (({eu 3 [1,2,3,4,5,6,7,8,9,10,11,12,13,14,0x40000123,0x40000200] with mem := up.mem.lmPut 3 0x200 (toBytes 40 0x1122334455667788990011223344556677889900112233445566778899000000090000000040000300)}).modEn 3 (fun e => {e with exl := true, leaving := some .fin}))
def w2 : State :=
  (({eu 3 [1,2,3,4,5,6,7,8,9,10,11,12,13,14,0x40000123,0x40000200] with mem := up.mem.lmPut 3 0x200 (toBytes 40 0x1122334455667788990011223344556677889900112233445566778899000000090000000040000300)}).modEn 3 (fun e => {e with exl := true}))
def w3 : State :=
  ((eu 3 []).modEn 3 (fun e => {e with imp := [⟨⟨4,0,0x40000100,0,0⟩,true,2,false⟩]}))

theorem witness_ExceptionReturn :
    (let g : Nat := 3; let s : State := w1; (decide (g < 64) && (let e := s.en g; (let o := (e.r 15).toNat - 0x40000000;
    (let w (i : Nat) : Nat := s.mem.lmWord g (o + 4 * i); (decide (s.plainNext g = true) && (decide (e.exl = true) &&
    (decide (0x40000000 ≤ (e.r 15).toNat) && (decide ((e.r 15).toNat + 40 ≤ 0x40010000) &&
    (decide ((e.r 15).toNat % 8 = 0) && (decide (s.mem.lmBad g o 40 = false) && (decide ((w 1).testBit 6 = false) &&
    (decide ((w 1).testBit 7 = false) && (decide ((w 1).testBit 14 = false) && (decide ((w 1).testBit 17 = false) &&
    (decide (e.leaving = some .fin))))))))))))))))) = true ∧
    (let g : Nat := 3; let s : State := w2; (decide (g < 64) && (let e := s.en g; (let o := (e.r 15).toNat - 0x40000000;
    (let w (i : Nat) : Nat := s.mem.lmWord g (o + 4 * i); (decide (s.plainNext g = true) && (decide (e.exl = true) &&
    (decide (0x40000000 ≤ (e.r 15).toNat) && (decide ((e.r 15).toNat + 40 ≤ 0x40010000) &&
    (decide ((e.r 15).toNat % 8 = 0) && (decide (s.mem.lmBad g o 40 = false) && (decide ((w 1).testBit 6 = false) &&
    (decide ((w 1).testBit 7 = false) && (decide ((w 1).testBit 14 = false) && (decide ((w 1).testBit 17 = false) &&
    (decide (e.leaving = none))))))))))))))))) = true ∧
    (let g : Nat := 3; let s : State := w3; (decide (g < 64) && (let e := s.en g;
    (onSome false (([((⟨4,0,0x40000100,0,0⟩ : Exc),2)])[0]?) fun xa => (let x := xa.1; (let a := xa.2;
    (decide (e.imp = [⟨x, true, a, false⟩])))))))) = true := by decide +kernel

end ExceptionReturn

namespace Ballast
def eu (g : Nat) (l : List Nat) : State := ((up.wr ENGCTL.RUN 1 g).modSch g (fun x => {x with cur := some 5})).modEn g (fun e => (l.zipIdx).foldl (fun e x => e.setR x.2 (BitVec.ofNat 32 x.1)) {e with pc := 0x40000100})
def rg : Nat → List Nat
 | 0 => [0,1,2,3,4,5,6,7,8,9,10,11,12,13,14,15]
 | 1 => [0xFFFFFFFF,0x80000000,0x7FFFFFFF,0x12345678,0,31,32,33,0xDEADBEEF,0x80000001,1,0xFFFF0000,65536,0x40000,0,7]
 | n => (List.range 16).map (fun i => (n * 2654435761 + i * 40503 * (n+i) * 7919 + n*n*97 + i*i*65599*n) % 2^32)
def w1 : State :=
  (((eu 3 (rg 1)).wr BALCTL.SAFE 0 3).modEn 3 (fun e => {e with bal := [⟨2,0x40000100,0x305,77⟩], flags := 5}))
def w2 : State :=
  ((eu 3 (rg 1)).modEn 3 (fun e => {e with dump := some ((List.range 512).map (fun i => i*8388608+5))}))
def w3 : State :=
  (((eu 3 (rg 1)).wr BALSTAT.INBAL 1 3).modEn 3 (fun e => {e with flags := 3}))

theorem witness_Ballast :
    (let g : Nat := 3; let src : Src := (.fn 0); let v : Word := 0x80000003; let s : State := (eu 3 (rg 1));
    (decide (g < 64) && (decide (src.ok = true) && (decide (s.applies src (BALCTL.WHOLE.adr g 0) = true) &&
    (decide (v.toNat.testBit 30 = false)))))) = true ∧
    (let g : Nat := 3; let src : Src := (.fn 0); let s : State := w1; (decide (g < 64) && (decide (src.ok = true) &&
    (decide (s.applies src (BALCTL.WHOLE.adr g 0) = true) && (onCons false ((s.en g).bal) fun b r =>
    (decide ((s.en g).dump = none) && (decide (s.on BALSTAT.PEND g = false) && (decide (s.on BALCTL.SAFE g = false) &&
    (decide (1 ≤ b.cause) && (decide (b.cause ≤ 7) && (decide (b.cause ≠ 6) &&
    (decide ((s.en g).trace.length ≤ 64))))))))))))) = true ∧
    (let g : Nat := 3; let src : Src := (.fn 0); let s : State := w2; (decide (g < 64) && (decide (src.ok = true) && (decide (s.applies src (BALCTL.WHOLE.adr g 0) = true) && (match (s.en g).dump with | some (h :: r) => (decide ((s.en g).clrWait = false) && (decide (s.on BALCTL.AUTORST g = false) && (decide (s.on TAMPSTAT.WIPING = false) && (decide ((h :: r).length = 512) && ((List.all (h :: r) fun x => decide (x < 2 ^ 32)) && (decide (h < 2 ^ 31))))))) | _ => false))))) = true ∧
    (let g : Nat := 3; let src : Src := (.fn 0); let v : Word := 0x3FFFFFFF; let s : State := w3; (decide (g < 64) &&
    (decide (src.ok = true) && (decide (s.applies src (BALCTL.WHOLE.adr g 0) = true) && (decide ((s.en g).dump = none) &&
    (decide ((s.en g).posted = []) && (decide (s.on BALSTAT.INBAL g = true) &&
    (decide (v.toNat.testBit 31 = false))))))))) = true := by decide +kernel

end Ballast

namespace EngineControl
def eu (g : Nat) (l : List Nat) : State := ((up.wr ENGCTL.RUN 1 g).modSch g (fun x => {x with cur := some 5})).modEn g (fun e => (l.zipIdx).foldl (fun e x => e.setR x.2 (BitVec.ofNat 32 x.1)) {e with pc := 0x40000100})
def rg : Nat → List Nat
 | 0 => [0,1,2,3,4,5,6,7,8,9,10,11,12,13,14,15]
 | 1 => [0xFFFFFFFF,0x80000000,0x7FFFFFFF,0x12345678,0,31,32,33,0xDEADBEEF,0x80000001,1,0xFFFF0000,65536,0x40000,0,7]
 | n => (List.range 16).map (fun i => (n * 2654435761 + i * 40503 * (n+i) * 7919 + n*n*97 + i*i*65599*n) % 2^32)
def w1 : State :=
  ((eu 3 (rg 1)).modEn 3 (fun e => {e with icount := 1234567, rateFrom := 5}))

theorem witness_EngineControl :
    (let g : Nat := 3; let src : Src := (.fn 0); let s : State := ((eu 3 (rg 1)).wr ENGCTL.RUN 0 3); (decide (g < 64) &&
    (decide (src.ok = true) && (decide (s.applies src (ENGCTL.WHOLE.adr g 0) = true) &&
    (decide (s.on ENGCTL.RUN g = false) && (decide ((s.en g).posted = []))))))) = true ∧
    (let g : Nat := 3; let src : Src := (.fn 0); let v : Word := 0x00000001; let s : State := (eu 3 (rg 1));
    (decide (g < 64) && (decide (src.ok = true) && (decide (s.applies src (ENGCTL.WHOLE.adr g 0) = true) &&
    (decide (v.toNat.testBit 31 = false)))))) = true ∧
    (let t : Nat := (200+ms 1); let g : Nat := 3; let src : Src := (.fn 0); let s : State := w1; (decide (g < 64) &&
    (decide (src.ok = true) && (decide (s.applies src (ENGCTL.WHOLE.adr g 0) = true) && (onSome false s.spine fun b =>
    (decide (s.now ≤ t) && (decide (b ≤ t) && (decide ((t - b) % ms 1 = 0) &&
    (decide ((s.en g).rateFrom + 10000 ≤ (s.en g).icount)))))))))) = true := by decide +kernel

end EngineControl

namespace Microcode
def img : List Byte := (toBytes 4 0x4E4C4D43) ++ toBytes 4 (77 + (up.rd MCVER.ROMID) * 65536) ++ toBytes 4 0 ++ List.replicate 52 0 ++ List.replicate (4520-64) 3
def w1 : State :=
  {up with mem := up.mem.sramPut 0 img}
def w2 : State :=
  {up with mcl := some ⟨img,true⟩}

theorem witness_Microcode :
    (let src : Src := (.fn 0); let s : State := w1; (decide (src.ok = true) &&
    (decide (s.applies src (MCLDCTL.WHOLE.adr 0 0) = true) && (decide (s.mcl = none) && (decide (s.mem.poison = []) &&
    ((List.all (List.range 164) fun p =>
    (if decide (68 ≤ p) then (if decide (p < 164) then decide (s.isolated p = false) else true) else true)) &&
    (decide (s.isolated 212 = false) && (decide (s.rd MCLDADDR.ADDR * 8 + 4520 ≤ 0x1800000))))))))) = true ∧
    (let src : Src := (.fn 0); let s : State := w2; (decide (src.ok = true) &&
    (decide (s.applies src (MCLDCTL.WHOLE.adr 0 0) = true) && (decide (s.mcl ≠ none) && (decide (s.ecc = .clean)))))) = true ∧
    (let src : Src := (.fn 0); let s : State := w1; (decide (src.ok = true) &&
    (decide (s.applies src (MCLDCTL.WHOLE.adr 0 0) = true)))) = true ∧
    (let src : Src := (.fn 0); let s : State := ({up with mcl := some ⟨img,true⟩}.wr LCSTAT.STATE 3);
    (decide (src.ok = true) && (decide (s.applies src (MCLDCTL.WHOLE.adr 0 0) = true) && (onSome false s.mcl fun m =>
    (decide (m.ok = true) && (decide (s.on TAMPSTAT.WIPING = false) && (decide (s.rd LCSTAT.STATE = 3)))))))) = true ∧
    (let src : Src := (.fn 0); let s : State := {up with mcWait := [3,66], mcNew := some ⟨7,8,[],[]⟩};
    (decide (src.ok = true) && (decide (s.applies src (MCLDCTL.WHOLE.adr 0 0) = true) && (let p : Nat := 3;
    (decide (p < 68) && (decide (p ∈ s.mcWait) && (onSome false s.mcNew fun m => (decide (s.tko = none) &&
    ((List.all (List.range 64) fun g =>
    (if decide (s.phys g = p) then decide ((s.sch g).cur = none) else true))))))))))) = true := by decide +kernel

theorem witness_Microcode_but_checks :
    (let src : Src := (.fn 0); let s : State := w2; (decide (src.ok = true) &&
    (decide (s.applies src (MCLDCTL.WHOLE.adr 0 0) = true) && (onSome false s.mcl fun m => (decide (m.ok = true) &&
    (decide (s.on TAMPSTAT.WIPING = false) && (decide (s.rd LCSTAT.STATE ≠ 3) && (decide (mcFormat m.img = true) &&
    (decide (bitsAt (entryWord m.img 1) 16 16 = s.rd MCVER.ROMID) &&
    (decide (s.rd MCMIN.MINVER ≤ entryWord m.img 1 % 2 ^ 16))))))))))) = true := by decide +kernel

end Microcode

namespace Dispatch
def w1 : State :=
  ((((((((up.wr ENGCTL.RUN 1 3).modSch 3 (fun x => {x with order := [5]})).modTs 3 5 (fun x => {x with st := .ready, req := some 777})).wr TDENTRY.ENTRY 0x200 3 5).wr TDENTRY.STACK 0x800 3 5).wr TDARG.VALUE 0xDEADBEEF 3 5).wr TDCTL.MRND 2 3 5).wr TDCTL.MPRECISE 1 3 5)

theorem witness_Dispatch :
    (let g : Nat := 3; let k : Nat := 5; let r : Nat := 777; let s : State := w1; (decide (g < 64) && (decide (k < 64) &&
    (decide (s.engFree g = true) && (decide ((s.sch g).order = [k]) && (decide ((s.ts g k).st = .ready) &&
    (decide ((s.ts g k).req = some r) && ((List.all (List.range 16) fun i => decide ((s.ti g k i).count = 0)) &&
    (decide ((s.en g).stepping = false) && (decide ((s.en g).haltReq = false))))))))))) = true := by decide +kernel

end Dispatch

namespace PreemptAndResume
def eu (g : Nat) (l : List Nat) : State := ((up.wr ENGCTL.RUN 1 g).modSch g (fun x => {x with cur := some 5})).modEn g (fun e => (l.zipIdx).foldl (fun e x => e.setR x.2 (BitVec.ofNat 32 x.1)) {e with pc := 0x40000100})
def rg : Nat → List Nat
 | 0 => [0,1,2,3,4,5,6,7,8,9,10,11,12,13,14,15]
 | 1 => [0xFFFFFFFF,0x80000000,0x7FFFFFFF,0x12345678,0,31,32,33,0xDEADBEEF,0x80000001,1,0xFFFF0000,65536,0x40000,0,7]
 | n => (List.range 16).map (fun i => (n * 2654435761 + i * 40503 * (n+i) * 7919 + n*n*97 + i*i*65599*n) % 2^32)
def w1 : State :=
  (((((eu 3 (rg 1)).modSch 3 (fun x => {x with order := [9], due := true})).modTs 3 9 (fun x => {x with st := .ready, req := some 7})).modTs 3 5 (fun x => {x with st := .exec})).wr TDCTL.PRIO 3 3 9)
def w2 : State :=
  {(((up.wr ENGCTL.RUN 1 3).modSch 3 (fun x => {x with order := [5]})).modTs 3 5 (fun x => {x with st := .preempted, req := none})) with mem := up.mem.lmPut 3 640 (toBytes 128 0x1122334455667788990011223344556677889900112233445566778899000000090000000040000300)}

theorem witness_PreemptAndResume :
    (let g : Nat := 3; let k : Nat := 5; let s : State := w1; (decide (g < 64) && (decide (k < 64) && (let e := s.en g;
    (let o := s.rd SAVEBASE.BASE g * 2 ^ 13 + 128 * k; (decide ((s.sch g).cur = some k) &&
    (onCons false ((s.sch g).order) fun j r => (decide (s.best g = some j) &&
    (decide (s.rd TDCTL.PRIO g k < s.rd TDCTL.PRIO g j) && (decide ((s.sch g).due = true) &&
    (decide (s.on ENGCTL.RUN g = true) && (decide (e.switchable = true) && (decide (e.halted = false) &&
    (decide (s.on BALSTAT.INBAL g = false) && (decide (e.pc < 2 ^ 32) && (decide (o + 128 ≤ 0x10000))))))))))))))))) = true ∧
    (let g : Nat := 3; let k : Nat := 5; let s : State := w2; (decide (g < 64) && (decide (k < 64) && (let e := s.en g;
    (decide (s.engFree g = true) && (decide ((s.sch g).order = [k]) && (decide ((s.ts g k).st = .preempted) &&
    (decide ((s.ts g k).modeP = []) && (decide (e.stepping = false) && (decide (e.haltReq = false))))))))))) = true := by decide +kernel

end PreemptAndResume

namespace TaskEnds
def eu (g : Nat) (l : List Nat) : State := ((up.wr ENGCTL.RUN 1 g).modSch g (fun x => {x with cur := some 5})).modEn g (fun e => (l.zipIdx).foldl (fun e x => e.setR x.2 (BitVec.ofNat 32 x.1)) {e with pc := 0x40000100})
def rg : Nat → List Nat
 | 0 => [0,1,2,3,4,5,6,7,8,9,10,11,12,13,14,15]
 | 1 => [0xFFFFFFFF,0x80000000,0x7FFFFFFF,0x12345678,0,31,32,33,0xDEADBEEF,0x80000001,1,0xFFFF0000,65536,0x40000,0,7]
 | n => (List.range 16).map (fun i => (n * 2654435761 + i * 40503 * (n+i) * 7919 + n*n*97 + i*i*65599*n) % 2^32)
def w1 : State :=
  (((eu 3 (rg 1)).modTs 3 5 (fun x => {x with st := .exec, snap := [(1,[2])]})).modEn 3 (fun e => {e with l0 := ⟨true,3,0x400000F0,0x40000200⟩}))

theorem witness_TaskEnds :
    (let g : Nat := 3; let k : Nat := 5; let s : State := w1; (decide (g < 64) && (decide (k < 64) &&
    (decide (s.plainNext g = true) && (decide ((s.sch g).cur = some k) && (decide ((s.en g).posted = []) &&
    (decide (s.on TDCTL.EN g k = false)))))))) = true ∧
    (let g : Nat := 3; let k : Nat := 5; let s : State := w1; (decide (g < 64) && (decide (k < 64) &&
    (decide (s.plainNext g = true) && (decide ((s.sch g).cur = some k) && (decide ((s.en g).posted = []) &&
    (decide (s.on TDCTL.EN g k = false) && (decide ((s.en g).exl = false))))))))) = true := by decide +kernel

end TaskEnds

namespace TaskInputs
def w1 : State :=
  {up with fab := {up.fab with arrivals := [⟨5,3,5,7,⟨99,777,3,true,false⟩⟩]}}
def w2 : State :=
  ((up.wr TDCTL.EN 1 3 5).modTi 3 5 7 (fun _ => ⟨3, some ⟨5,6,true,false⟩, some ⟨7,8,false,true⟩, true, true, 7⟩))

theorem witness_TaskInputs :
    (let g : Nat := 3; let k : Nat := 5; let i : Nat := 7; let s : State := w1; (decide (g < 64) && (decide (k < 64) &&
    (decide (i < 16) && (onCons false s.fab.arrivals fun y r => (let ev := y.ev; (decide (y = ⟨y.port, g, k, i, ev⟩) &&
    (decide (s.ti g k i = TIn.init) && (decide (s.rd PWRSTAT.STATE = 0)))))))))) = true ∧
    (let g : Nat := 3; let k : Nat := 5; let i : Nat := 7; let s : State := w1; (decide (g < 64) && (decide (k < 64) &&
    (decide (i < 16) && (let src := (Src.fn 0); (let v := 0x80000005#32; (decide (src.ok = true) &&
    (decide (s.applies src (TASKRUN.WHOLE.adr g 0) = true) && (decide (v.toNat % 64 = k) &&
    (decide (v.toNat.testBit 30 = false))))))))))) = true ∧
    (let g : Nat := 3; let k : Nat := 5; let i : Nat := 7; let s : State := w2; (decide (g < 64) && (decide (k < 64) &&
    (decide (i < 16) && (let src := (Src.fn 0); (let v := 0x40000005#32; (decide (src.ok = true) &&
    (decide (s.applies src (TASKRUN.WHOLE.adr g 0) = true) && (decide (v.toNat % 64 = k) &&
    (decide (v.toNat.testBit 31 = false) && (decide (s.on TDCTL.EN g k = true) && (decide ((s.ts g k).st = .idle) &&
    (decide ((s.ts g k).req = none)))))))))))))) = true ∧
    (let g : Nat := 3; let k : Nat := 5; let i : Nat := 7; let s : State := (up.modTs 3 5 (fun x =>
    {x with req := some 7})); (decide (g < 64) && (decide (k < 64) && (decide (i < 16) && (let src := (Src.fn 0);
    (let v := 0xc0000005#32; (decide (src.ok = true) && (decide (s.applies src (TDCTL.WHOLE.adr g k) = true) &&
    (decide (v.toNat.testBit 31 = true) && (decide ((s.ts g k).st = .idle) &&
    (decide ((s.ts g k).req.isSome = true)))))))))))) = true := by decide +kernel

end TaskInputs

namespace Slack

theorem witness_Slack :
    (true) = true := by decide +kernel

end Slack

namespace Routing
def w1 : State :=
  (up.modRouter 7 (fun x => {x with fifo := [(⟨99,777,3,true,false⟩,false),(⟨98,777,3,true,false⟩,false)]}))
def w2 : State :=
  ((up.modRouter 7 (fun x => {x with fifo := [(⟨99,777,3,true,false⟩,false),(⟨98,777,3,true,false⟩,false)], route := [⟨5,99,0x80000000+3*2^22+5*2^16+7*2^12,0,0⟩]})).wr EFCTL.EN 1)
def w3 : State :=
  {((up.modRouter 7 (fun x => {x with fifo := [(⟨99,777,3,true,false⟩,false),(⟨98,777,3,true,false⟩,false)], fill := some false})).wr EFCTL.EN 1) with mem := up.mem.sramPut (8*99) (toBytes 8 (0x80000000+3*2^22+5*2^16+7*2^12))}

theorem witness_Routing :
    (let r : Nat := 7; let ev : Ev := ⟨99,777,3,true,false⟩; let f : List (Ev × Bool) := [(⟨98,777,3,true,false⟩,false)];
    let s : State := w1; (decide (r < 69) && (decide ((s.router r).fifo = (ev, false) :: f) &&
    (decide (s.on EFCTL.EN = false) && (decide ((s.router r).fill = none)))))) = true ∧
    (let r : Nat := 7; let ev : Ev := ⟨99,777,3,true,false⟩; let f : List (Ev × Bool) := [(⟨98,777,3,true,false⟩,false)];
    let s : State := w2; (decide (r < 69) && (decide ((s.router r).fifo = (ev, false) :: f) &&
    (let g (w : Nat) := w / 2 ^ 22 % 64; (let l : Nat := 5; (let w1 : Nat := 12939264; (decide (s.on EFCTL.EN = true) &&
    (decide ((s.router r).fill = none) && (decide ((s.router r).route = [⟨l, ev.id, 0x80000000 + w1, 0, 0⟩]) &&
    (decide (w1 < 2 ^ 28) && (decide (w1.testBit 11 = false) && ((decide (s.isolated (s.phys (g w1)) = false)) &&
    (decide (s.evLost ev = false)))))))))))))) = true ∧
    (let r : Nat := 7; let ev : Ev := ⟨99,777,3,true,false⟩; let f : List (Ev × Bool) := [(⟨98,777,3,true,false⟩,false)];
    let s : State := w3; (decide (r < 69) && (decide ((s.router r).fifo = (ev, false) :: f) &&
    (let g (w : Nat) := w / 2 ^ 22 % 64; (let w1 : Nat := 12939264; (decide (s.on EFCTL.EN = true) &&
    (decide ((s.router r).fill = some false) && (decide (ev.id < 8192) && (decide (s.rd ROUTEBASE.BASE ≤ 0x17E) &&
    ((decide (s.isolated (68 + (s.rd ROUTEBASE.BASE * 2 ^ 16 + 8 * ev.id) / 0x40000) = false)) &&
    (decide (s.mem.poisoned [(s.rd ROUTEBASE.BASE * 2 ^ 16 + 8 * ev.id) / 8] = false) &&
    (decide (s.mem.sramBytes (s.rd ROUTEBASE.BASE * 2 ^ 16 + 8 * ev.id) 8 = toBytes 8 (0x80000000 + w1)) &&
    (decide (w1 < 2 ^ 28) && (decide (w1.testBit 11 = false) && ((decide (s.isolated (s.phys (g w1)) = false)) &&
    (decide (s.evLost ev = false) && (decide (s.isolated (routerPort r) = false)))))))))))))))))) = true := by decide +kernel

end Routing

namespace CachedEntries
def w1 : State :=
  (up.modRouter 68 (fun x => {x with route := [⟨6,5,77,0,9⟩], fifo := [(⟨99,777,3,true,false⟩,false)]}))
def w2 : State :=
  ({up with fab := {up.fab with inval := some (0,5)}}.modRouter 68 (fun x => {x with route := [⟨6,5,77,0,9⟩], fifo := [(⟨99,777,3,true,false⟩,false)]}))
def w3 : State :=
  ({up with fab := {up.fab with cohLine := 3270}}.modRouter 68 (fun x => {x with route := [⟨6,5,77,0,9⟩], fifo := [(⟨99,777,3,true,false⟩,false)]}))

theorem witness_CachedEntries :
    (let i : Nat := 5; let src : Src := (.fn 0); let s : State := w1; (decide (src.ok = true) &&
    (decide (s.applies src (INVAL.WHOLE.adr 0 0) = true) && (decide (s.applies src (EFCTL.WHOLE.adr 0 0) = true) &&
    (decide (i < 8192)))))) = true ∧
    (let i : Nat := 5; let src : Src := (.fn 0); let s : State := w2; (decide (src.ok = true) &&
    (decide (s.applies src (INVAL.WHOLE.adr 0 0) = true) && (decide (s.applies src (EFCTL.WHOLE.adr 0 0) = true) &&
    (decide (i < 8192) && (let k : Nat := 0; (decide (s.fab.inval = some (k, i))))))))) = true ∧
    (let i : Nat := 5; let src : Src := (.fn 0); let v : Word := 0; let s : State := w1; (decide (src.ok = true) &&
    (decide (s.applies src (INVAL.WHOLE.adr 0 0) = true) && (decide (s.applies src (EFCTL.WHOLE.adr 0 0) = true) &&
    (decide (i < 8192) && (decide (v.toNat % 2 = 0))))))) = true ∧
    (let i : Nat := 5; let src : Src := (.fn 0); let s : State := {up with fab := {up.fab with cohLine := 64}};
    (decide (src.ok = true) && (decide (s.applies src (INVAL.WHOLE.adr 0 0) = true) &&
    (decide (s.applies src (EFCTL.WHOLE.adr 0 0) = true) && (decide (i < 8192) &&
    (onSome false (([s.fab.cohLine])[0]?) fun n => (decide (n = s.fab.cohLine) && (decide (s.on BOOTSTAT.DONE = true) &&
    (decide (s.fab.cohLine = n) && (decide (n < 3264) && (decide (16 ≤ n % 48) &&
    ((decide ((s.router (n / 48)).route = [])))))))))))))) = true ∧
    (let i : Nat := 5; let src : Src := (.fn 0); let s : State := w3; (decide (src.ok = true) &&
    (decide (s.applies src (INVAL.WHOLE.adr 0 0) = true) && (decide (s.applies src (EFCTL.WHOLE.adr 0 0) = true) &&
    (decide (i < 8192) && (onSome false (([3270])[0]?) fun n => (onSome false (([77])[0]?) fun w =>
    (onSome false (([9])[0]?) fun x => (let a := s.rd ROUTEBASE.BASE * 2 ^ 16 + 8 * i;
    (decide (s.on BOOTSTAT.DONE = true) && (decide (s.fab.cohLine = n) && (decide (3264 ≤ n) && (decide (n < 3391) &&
    (decide ((s.router 68).route = [⟨n - 3264, i, w, 0, x⟩]) && (decide (s.rd ROUTEBASE.BASE ≤ 0x17E) &&
    (decide (s.isolated 211 = false) && (decide (s.isolated (68 + a / 0x40000) = false) &&
    (decide (s.mem.poisoned [a / 8] = false) && (decide (ofBytes (s.mem.sramBytes a 4) ≠ w)))))))))))))))))))) = true := by decide +kernel

end CachedEntries

namespace RunOrders
def F (n : Nat) (l : List (RField × Nat)) (s : State) : State := l.foldl (fun s p => s.wr p.1 p.2 n) s
def w1 : State :=
  (F 3 [(PRD.VALUE,100000)] up)
def w2 : State :=
  (F 3 [(PRD.VALUE,100000),(CHSTAT.STATE,2),(CHCTL.MODE,2)] up)
def w3 : State :=
  (F 3 [(PRD.VALUE,100000),(CHSTAT.STATE,1),(CHCTL.MODE,2)] up)

theorem witness_RunOrders :
    (let t : Nat := 1000; let n : Nat := 3; let src : Src := (.fn 0); let w : Word := (0x80000541 : Word);
    let s : State := w1; (decide (n < 1024) && (decide (src.ok = true) && (decide (s.now ≤ t) &&
    (decide (s.applies src (CHCTL.WHOLE.adr n 0) = true) && (decide (s.paired n = false) &&
    (decide (CHCTL.STOPNOW.of w = 0) && (let m := CHCTL.MODE.of w; (let st := s.rd CHSTAT.STATE n;
    (decide (s.flyTail n = none) && (decide (CHCTL.STOP.of w = 0) && (decide (st = 0) && (((decide (1 ≤ m) &&
    decide (m ≤ 3)) || (decide (8 ≤ m) && decide (m ≤ 12))) &&
    (decide (ns 8 ≤ s.rd PRD.VALUE n * 2 ^ CHCTL.CUNIT.of w))))))))))))))) = true ∧
    (let t : Nat := 1000; let n : Nat := 3; let src : Src := (.fn 0); let w : Word := (0x80000541 : Word);
    let s : State := (F 3 [(PRD.VALUE,100)] up); (decide (n < 1024) && (decide (src.ok = true) && (decide (s.now ≤ t) &&
    (decide (s.applies src (CHCTL.WHOLE.adr n 0) = true) && (decide (s.paired n = false) &&
    (decide (CHCTL.STOPNOW.of w = 0) && (let m := CHCTL.MODE.of w; (let st := s.rd CHSTAT.STATE n;
    (decide (s.flyTail n = none) && (decide (CHCTL.STOP.of w = 0) && (decide (st = 0) && (((decide (1 ≤ m) &&
    decide (m ≤ 3)) || (decide (8 ≤ m) && decide (m ≤ 12))) &&
    (decide (s.rd PRD.VALUE n * 2 ^ CHCTL.CUNIT.of w < ns 8))))))))))))))) = true ∧
    (let t : Nat := 1000; let n : Nat := 3; let src : Src := (.fn 0); let w : Word := (0x80000000 : Word);
    let s : State := w1; (decide (n < 1024) && (decide (src.ok = true) && (decide (s.now ≤ t) &&
    (decide (s.applies src (CHCTL.WHOLE.adr n 0) = true) && (decide (s.paired n = false) &&
    (decide (CHCTL.STOPNOW.of w = 0) && (let m := CHCTL.MODE.of w; (let st := s.rd CHSTAT.STATE n;
    (decide (s.flyTail n = none) && (decide (CHCTL.STOP.of w = 0) && (decide (st = 0) && (decide (m = 0)))))))))))))) = true ∧
    (let t : Nat := 1000; let n : Nat := 3; let src : Src := (.fn 0); let w : Word := (0x40000542 : Word);
    let s : State := w1; (decide (n < 1024) && (decide (src.ok = true) && (decide (s.now ≤ t) &&
    (decide (s.applies src (CHCTL.WHOLE.adr n 0) = true) && (decide (s.paired n = false) &&
    (decide (CHCTL.STOPNOW.of w = 0) && (let m := CHCTL.MODE.of w; (let st := s.rd CHSTAT.STATE n;
    (decide (CHCTL.STOP.of w = 0) && (decide (CHCTL.GO.of w = 0) && (((decide (st = 0) && (((decide (1 ≤ m) &&
    decide (m ≤ 3)) || (decide (8 ≤ m) && decide (m ≤ 12))) &&
    decide (ns 8 ≤ s.rd PRD.VALUE n * 2 ^ CHCTL.CUNIT.of w))) || (decide (st = 3) && (decide (s.rd CHCTL.MODE n = 2) &&
    decide (ns 8 ≤ s.rd PRD.VALUE n * 2 ^ s.rd CHCTL.CUNIT n)))))))))))))))) = true ∧
    (let t : Nat := 1000; let n : Nat := 3; let src : Src := (.fn 0); let w : Word := (0x80000541 : Word);
    let s : State := w2; (decide (n < 1024) && (decide (src.ok = true) && (decide (s.now ≤ t) &&
    (decide (s.applies src (CHCTL.WHOLE.adr n 0) = true) && (decide (s.paired n = false) &&
    (decide (CHCTL.STOPNOW.of w = 0) && (let st := s.rd CHSTAT.STATE n; (decide (st = 2)))))))))) = true ∧
    (let t : Nat := 1000; let n : Nat := 3; let src : Src := (.fn 0); let w : Word := (0x80000541 : Word);
    let s : State := w2; (decide (n < 1024) && (decide (src.ok = true) && (decide (s.now ≤ t) &&
    (decide (s.applies src (CHCTL.WHOLE.adr n 0) = true) && (decide (s.paired n = false) &&
    (decide (CHCTL.STOPNOW.of w = 0) && (let st := s.rd CHSTAT.STATE n; (decide (st = 2) &&
    (decide ((s.ch n).run.stopNow = none))))))))))) = true ∧
    (let t : Nat := 1000; let n : Nat := 3; let src : Src := (.fn 0); let w : Word := (0x80000541 : Word);
    let s : State := w3; (decide (n < 1024) && (decide (src.ok = true) && (decide (s.now ≤ t) &&
    (decide (s.applies src (CHCTL.WHOLE.adr n 0) = true) && (decide (s.paired n = false) &&
    (decide (CHCTL.STOPNOW.of w = 0) && (let st := s.rd CHSTAT.STATE n; ((decide (st = 1) || decide (st = 4)) &&
    ((decide ((s.gr (n / 8)).brake = false)))))))))))) = true := by decide +kernel

end RunOrders

namespace RunStarts
def F (n : Nat) (l : List (RField × Nat)) (s : State) : State := l.foldl (fun s p => s.wr p.1 p.2 n) s
def run_ (n : Nat) (f : ChRun → ChRun) (s : State) : State := s.modCh n (fun c => {c with run := f c.run})
def w1 : State :=
  ((run_ 3 (fun r => {r with capTok := some 900})) (F 3 [(TRIGCTL.SRC,1),(CHCTL.MODE,2),(PRD.VALUE,100000),(CHSTAT.STATE,1),(TRIGDLY.DELAY,55)] up))
def w2 : State :=
  ((run_ 3 (fun r => {r with capTok := some 900, trig := some ⟨1,some 2,true,1,false,false,none⟩})) (F 3 [(TRIGCTL.SRC,1),(CHCTL.MODE,2),(PRD.VALUE,100000),(CHSTAT.STATE,1),(TRIGDLY.DELAY,55),(OSSTAT.OSMISS,65535)] up))
def w3 : State :=
  ((run_ 3 (fun r => {r with start := some ⟨70000,some 2,false,0,false,false,none⟩})) (F 3 [(CHCTL.MODE,2),(CHCTL.ACTZ,2),(CHCTL.ACTA,1),(PRD.VALUE,100000),(CMPA.VALUE,777),(CMPB.VALUE,999),(OSCTL.OSN,5),(CHSTAT.STATE,4),(PINCTL.INIT,1),(PWMSTAT.SHPEND,1)] up))
def w4 : State :=
  ((run_ 3 (fun r => {r with start := some ⟨70000,some 2,false,0,false,false,none⟩})) (F 3 [(CHCTL.MODE,2),(CHCTL.ACTZ,2),(CHCTL.ACTA,1),(PRD.VALUE,7),(CMPA.VALUE,777),(CMPB.VALUE,999),(OSCTL.OSN,5),(CHSTAT.STATE,4),(PINCTL.INIT,1),(PWMSTAT.SHPEND,1)] up))

theorem witness_RunStarts :
    (let t : Nat := 1000; let n : Nat := 3; let s : State := w1; (decide (n < 1024) && (decide (s.now ≤ t) &&
    (decide (s.paired n = false) && (decide (s.rd TRIGCTL.SRC n = 1) && (onSome false ((s.ch n).run.capTok) fun a =>
    (decide (1 ≤ s.rd CHCTL.MODE n) && (decide (s.rd CHCTL.MODE n ≤ 3) &&
    (decide (ns 8 ≤ s.rd PRD.VALUE n * 2 ^ s.rd CHCTL.CUNIT n) && (decide ((s.ch n).run.trig = none) &&
    (decide (s.rd CHSTAT.STATE n = 1)))))))))))) = true ∧
    (let t : Nat := 1000; let n : Nat := 3; let s : State := w2; (decide (n < 1024) && (decide (s.now ≤ t) &&
    (decide (s.paired n = false) && (decide (s.rd TRIGCTL.SRC n = 1) && (onSome false ((s.ch n).run.capTok) fun a =>
    (decide (1 ≤ s.rd CHCTL.MODE n) && (decide (s.rd CHCTL.MODE n ≤ 3) &&
    (decide (ns 8 ≤ s.rd PRD.VALUE n * 2 ^ s.rd CHCTL.CUNIT n) && (onSome false ((s.ch n).run.trig) fun y =>
    true)))))))))) = true ∧
    (let t : Nat := 100000; let n : Nat := 3; let s : State := w3; (decide (n < 1024) && (decide (s.now ≤ t) &&
    (decide (s.paired n = false) && (onSome false ((s.ch n).run.start) fun x => (decide ((s.ch n).run.trig = none) &&
    (decide (s.flyTail n = none) && (decide (x.held = false) && (decide (x.s ≤ s.fineAt (s.etb n) t) &&
    (decide (s.rd CHSTAT.STATE n = 4) && (decide (s.rd CHCTL.MODE n = 2) && (decide (s.rd PWMCTL.EVDIV n = 0) &&
    (decide ((s.ch n).pin.fwait = none) && ((List.all (List.range 256) fun k => decide (s.on KCTL.RAMPEN k = false)) &&
    (decide (ns 8 ≤ s.rd PRD.VALUE n * 2 ^ s.rd CHCTL.CUNIT n) && ((onSome true x.d fun d =>
    decide (d + (s.advance t).espan n (ns 40) ≤ x.s)) && (decide (x.s < 2 ^ 64)))))))))))))))))) = true ∧
    (let t : Nat := 100000; let n : Nat := 3; let s : State := w4; (decide (n < 1024) && (decide (s.now ≤ t) &&
    (decide (s.paired n = false) && (onSome false ((s.ch n).run.start) fun x => (decide ((s.ch n).run.trig = none) &&
    (decide (s.flyTail n = none) && (decide (x.held = false) && (decide (x.s ≤ s.fineAt (s.etb n) t) &&
    (decide (s.rd CHSTAT.STATE n = 4) && (decide (s.rd CHCTL.MODE n = 2) && (decide (s.rd PWMCTL.EVDIV n = 0) &&
    (decide ((s.ch n).pin.fwait = none) && ((List.all (List.range 256) fun k => decide (s.on KCTL.RAMPEN k = false)) &&
    (decide (s.rd PRD.VALUE n * 2 ^ s.rd CHCTL.CUNIT n < ns 8)))))))))))))))) = true := by decide +kernel

end RunStarts

namespace CounterRuns
def F (n : Nat) (l : List (RField × Nat)) (s : State) : State := l.foldl (fun s p => s.wr p.1 p.2 n) s
def run_ (n : Nat) (f : ChRun → ChRun) (s : State) : State := s.modCh n (fun c => {c with run := f c.run})
def w1 : State :=
  ((run_ 3 (fun r => {r with k := 4, pk := 6400, pend := 6400+100000, tb := 0, offB := 500, offP := 100000, nxt := some ⟨206400,[],0⟩})) (F 3 [(CHCTL.MODE,1),(PRD.VALUE,100000),(ACTPRD.VALUE,100000),(CHSTAT.STATE,2),(OSSTAT.OSCNT,1),(OSCTL.REARM,0),(ACTCMPA.VALUE,400),(ACTCMPB.VALUE,500)] up))
def w2 : State :=
  ((run_ 3 (fun r => {r with k := 4, pk := 6400, pend := 6400+100000, tb := 0, offB := 500, offP := 100000, stop := true})) (F 3 [(CHCTL.MODE,1),(PRD.VALUE,100000),(ACTPRD.VALUE,100000),(CHSTAT.STATE,2),(OSSTAT.OSCNT,1),(OSCTL.REARM,0),(ACTCMPA.VALUE,400),(ACTCMPB.VALUE,500)] up))
def w3 : State :=
  ((run_ 3 (fun r => {r with k := 4, pk := 6400, pend := 6400+100000, tb := 0, offB := 500, offP := 100000, nxt := some ⟨206400,[],0⟩})) (F 3 [(CHCTL.MODE,2),(PRD.VALUE,100000),(ACTPRD.VALUE,100000),(CHSTAT.STATE,2),(OSSTAT.OSCNT,1),(OSCTL.REARM,0),(ACTCMPA.VALUE,400),(ACTCMPB.VALUE,500)] up))
def w4 : State :=
  ((run_ 3 (fun r => {r with k := 4, pk := 6400, pend := 6400+100000, tb := 0, offB := 500, offP := 100000, nxt := some ⟨206400,[],0⟩, plan := [⟨7000,0,1,false,false,none⟩]})) (F 3 [(CHCTL.MODE,1),(PRD.VALUE,100000),(ACTPRD.VALUE,100000),(CHSTAT.STATE,2),(OSSTAT.OSCNT,1),(OSCTL.REARM,0),(ACTCMPA.VALUE,400),(ACTCMPB.VALUE,500)] up))
def w5 : State :=
  ((run_ 3 (fun r => {r with k := 4, pk := 6400, pend := 6400+100000, tb := 0, offB := 500, offP := 100000, stopNow := some 60000})) (F 3 [(CHCTL.MODE,1),(PRD.VALUE,100000),(ACTPRD.VALUE,100000),(CHSTAT.STATE,2),(OSSTAT.OSCNT,1),(OSCTL.REARM,0),(ACTCMPA.VALUE,400),(ACTCMPB.VALUE,500)] up))

theorem witness_CounterRuns :
    (let t : Nat := 200000; let n : Nat := 3; let s : State := w1; (decide (n < 1024) && (decide (s.now ≤ t) &&
    (decide (s.paired n = false) && (decide (s.rd CHSTAT.STATE n = 2) && (decide (s.rd CHCTL.MODE n ≤ 3) &&
    (decide (s.rd PWMCTL.EVDIV n = 0) && (let r := (s.ch n).run; (decide ((s.ch n).pin.fwait = none) &&
    (decide ((s.ch n).pin.safeLeave = false) && ((List.all (List.range 256) fun k => decide (s.on KCTL.RAMPEN k = false)) &&
    (decide (r.pend ≤ s.fineAt r.tb t) && (decide (r.stop = false) && (decide (s.rd CHCTL.MODE n = 1) &&
    (onSome false r.nxt fun x => (decide (r.tb = s.etb n) && (decide (r.pend < 2 ^ 64)))))))))))))))))) = true ∧
    (let t : Nat := 200000; let n : Nat := 3; let s : State := w2; (decide (n < 1024) && (decide (s.now ≤ t) &&
    (decide (s.paired n = false) && (decide (s.rd CHSTAT.STATE n = 2) && (decide (s.rd CHCTL.MODE n ≤ 3) &&
    (decide (s.rd PWMCTL.EVDIV n = 0) && (let r := (s.ch n).run; (decide ((s.ch n).pin.fwait = none) &&
    (decide ((s.ch n).pin.safeLeave = false) && ((List.all (List.range 256) fun k => decide (s.on KCTL.RAMPEN k = false)) &&
    (decide (r.pend ≤ s.fineAt r.tb t) && (decide (r.stop = true) && (decide (s.rd CHCTL.MODE n = 1) &&
    (decide (r.tb = s.etb n)))))))))))))))) = true ∧
    (let t : Nat := 200000; let n : Nat := 3; let s : State := w3; (decide (n < 1024) && (decide (s.now ≤ t) &&
    (decide (s.paired n = false) && (decide (s.rd CHSTAT.STATE n = 2) && (decide (s.rd CHCTL.MODE n ≤ 3) &&
    (decide (s.rd PWMCTL.EVDIV n = 0) && (let r := (s.ch n).run; (let os := s.rd OSSTAT.OSCNT n;
    (decide ((s.ch n).pin.fwait = none) && (decide ((s.ch n).pin.safeLeave = false) && ((List.all (List.range 256) fun k =>
    decide (s.on KCTL.RAMPEN k = false)) && (decide (r.pend ≤ s.fineAt r.tb t) && (decide (r.stop = false) &&
    (decide (s.rd CHCTL.MODE n = 2) && (decide (r.nxt.isSome = true) && (decide (os = 1)))))))))))))))))) = true ∧
    (let t : Nat := 200000; let n : Nat := 3; let s : State := w1; (decide (n < 1024) && (decide (s.now ≤ t) &&
    (decide (s.paired n = false) && (decide (s.rd CHSTAT.STATE n = 2) && (decide (s.rd CHCTL.MODE n ≤ 3) &&
    (decide (s.rd PWMCTL.EVDIV n = 0) && (let r := (s.ch n).run; (let v := r.pk + r.offA; (decide (r.aDone = false) &&
    (decide (v ≤ s.fineAt r.tb t)))))))))))) = true ∧
    (let t : Nat := 200000; let n : Nat := 3; let s : State := w1; (decide (n < 1024) && (decide (s.now ≤ t) &&
    (decide (s.paired n = false) && (decide (s.rd CHSTAT.STATE n = 2) && (decide (s.rd CHCTL.MODE n ≤ 3) &&
    (decide (s.rd PWMCTL.EVDIV n = 0) && (let r := (s.ch n).run; (let v := r.pk + r.offB; (decide (r.bDone = false) &&
    (decide (v ≤ s.fineAt r.tb t) && (decide (r.offB < r.offP))))))))))))) = true ∧
    (let t : Nat := 200000; let n : Nat := 3; let s : State := w4; (decide (n < 1024) && (decide (s.now ≤ t) &&
    (decide (s.paired n = false) && (decide (s.rd CHSTAT.STATE n = 2) && (decide (s.rd CHCTL.MODE n ≤ 3) &&
    (decide (s.rd PWMCTL.EVDIV n = 0) && (let r := (s.ch n).run; (let a := s.advance t; (onCons false r.plan fun p q =>
    (decide (p.low = false) && (decide (r.tb = s.etb n) && (decide (a.planAt n p ≤ s.fineAt r.tb t + a.espan n (ns 16)) &&
    (decide ((s.ch n).dl.pend = []) && (decide ((s.ch n).dl.lastAt = none)))))))))))))))) = true ∧
    (let t : Nat := 200000; let n : Nat := 3; let s : State := w5; (decide (n < 1024) && (decide (s.now ≤ t) &&
    (decide (s.paired n = false) && (decide (s.rd CHSTAT.STATE n = 2) && (decide (s.rd CHCTL.MODE n ≤ 3) &&
    (decide (s.rd PWMCTL.EVDIV n = 0) && (let r := (s.ch n).run; (onSome false r.stopNow fun b =>
    (decide (b ≤ t))))))))))) = true := by decide +kernel

end CounterRuns

namespace Capture
def F (n : Nat) (l : List (RField × Nat)) (s : State) : State := l.foldl (fun s p => s.wr p.1 p.2 n) s
def cap_ (n : Nat) (f : ChCap → ChCap) (s : State) : State := s.modCh n (fun c => {c with cap := f c.cap})
def oe (s : State) : State := s.wr BANKOESTAT.OE 0xFFFF
def w1 : State :=
  (cap_ 3 (fun c => {c with runAt := 900, pin := true, acc := false, mpolAt := some 500}) (oe (F 3 [(CAPCTL.EN,1),(CAPCTL.EDGE,2),(CAPNEW_LO.VALUE,77),(CAPSTAT.NEWLVL,0),(CAPCTL.MPOL,1)] up)))
def w2 : State :=
  (cap_ 3 (fun c => {c with runAt := 900, pin := true, acc := false, mpolAt := some 500}) (oe (F 3 [(CAPCTL.EN,1),(CAPCTL.EDGE,2),(CAPNEW_LO.VALUE,77),(CAPSTAT.NEWLVL,0),(CAPCTL.MPOL,0),(CAPSEQ.SEQ,4294967295)] up)))
def w3 : State :=
  (cap_ 3 (fun c => {c with runAt := 900, pin := true, acc := false, inWin := false}) (oe (F 3 [(CAPCTL.EN,1),(CAPCTL.EDGE,2),(CAPCTL.GATE,1),(CAPSTAT.GLITCH,255)] up)))

theorem witness_Capture :
    (let t : Nat := 1000; let n : Nat := 3; let s : State := w1; (decide (n < 1024) && (decide (s.now ≤ t) &&
    (let c := (s.ch n).cap; (let l : Nat := 0; (decide (l ≠ c.pin))))))) = true ∧
    (let t : Nat := 5000; let n : Nat := 3; let s : State := w2; (decide (n < 1024) && (decide (s.now ≤ t) &&
    (let c := (s.ch n).cap; (let filt := ns (if s.rd CAPFILT.FILT n < 4 then 4 else s.rd CAPFILT.FILT n);
    (decide (s.pw.deep = false) && (decide (s.on SPINESTAT.CALDONE = true) && (decide (s.on CAPCTL.EN n = true) &&
    (decide (s.mode n ≠ 4) && (decide (c.pin ≠ c.acc) && (decide (c.runAt + filt ≤ t) && (decide (s.rd CAPCTL.GATE n ≠ 1) &&
    (decide (s.rd CAPCTL.EDGE n = 2) && (decide (s.rd CAPCTL.PRESC n = 0) && (decide (c.pre = 0)))))))))))))))) = true ∧
    (let t : Nat := 1400; let n : Nat := 3; let s : State := w3; (decide (n < 1024) && (decide (s.now ≤ t) &&
    (let c := (s.ch n).cap; (let filt := ns (if s.rd CAPFILT.FILT n < 4 then 4 else s.rd CAPFILT.FILT n);
    (decide (s.pw.deep = false) && (decide (s.on SPINESTAT.CALDONE = true) && (decide (s.on CAPCTL.EN n = true) &&
    (decide (s.mode n ≠ 4) && (decide (c.pin ≠ c.acc) && (decide (c.runAt + filt ≤ t) && (decide (s.rd CAPCTL.GATE n = 1) &&
    (decide ((if c.pin = s.on CAPCTL.MPOL n then c.mpolPass else c.inWin) = false)))))))))))))) = true ∧
    (let t : Nat := 1000; let n : Nat := 3; let s : State := w1; (decide (n < 1024) && (decide (s.now ≤ t) &&
    (let src := (Src.fn 0); (let w := 0xe0000003#32; (decide (src.ok = true) &&
    (decide (s.applies src (CAPCTL.WHOLE.adr n 0) = true) &&
    ((decide (s.on CAPCTL.EN n = false) || decide (CAPCTL.EN.of w = 1)))))))))) = true := by decide +kernel

end Capture

namespace LoadAndTouch
def F (n : Nat) (l : List (RField × Nat)) (s : State) : State := l.foldl (fun s p => s.wr p.1 p.2 n) s
def ctm_ (n : Nat) (f : ChCtm → ChCtm) (s : State) : State := s.modCh n (fun c => {c with ctm := f c.ctm})
def oe (s : State) : State := s.wr BANKOESTAT.OE 0xFFFF
def w1 : State :=
  (ctm_ 3 (fun c => {c with nEst := 3}) (oe (F 3 [(PINCTL.LOADEN,1),(PINCTL.OMODE,1)] up)))
def w2 : State :=
  (ctm_ 3 (fun c => {c with nTouch := 2}) (oe (F 3 [(CHCTL.MODE,4),(CTMCTL.EN,1),(CTMTHR.TOUCH,20),(CTMTHR.RELEASE,10),(CTMBASE.VALUE,100000),(CTMCTL.DEB,3),(CTMCTL.TRK,4)] up)))
def w3 : State :=
  (ctm_ 3 (fun c => {c with since := 5, good := 777}) (oe (F 3 [(CHCTL.MODE,4),(CTMCTL.EN,1),(CTMTHR.TOUCH,20),(CTMTHR.RELEASE,10),(CTMBASE.VALUE,100000),(CTMCTL.DEB,3),(CTMCTL.TRK,4),(CTMSTAT.TOUCH,1),(CTMMAXT.MAXT,0)] up)))

theorem witness_LoadAndTouch :
    (let t : Nat := 100000; let n : Nat := 3; let s : State := w1; (decide (n < 1024) && (decide (s.now ≤ t) &&
    (let c := (s.ch n).ctm; (let d : Nat := 32001; (decide (s.on PINCTL.LOADEN n = true) && (decide (s.mode n ≠ 4) &&
    (decide (bitAt (s.rd BANKOESTAT.OE) (n / 64) = true) && (decide (s.rd PINCTL.OMODE n = 1) && (decide (c.nEst < 15) &&
    (decide (ns 500 < d)))))))))))) = true ∧
    (let t : Nat := 100000; let n : Nat := 3; let s : State := w2; (decide (n < 1024) && (decide (s.now ≤ t) &&
    (let c := (s.ch n).ctm; (let raw : Nat := 101280; (decide (s.mode n = 4) && (decide (s.on CTMCTL.EN n = true) &&
    (decide (bitAt (s.rd BANKOESTAT.OE) (n / 64) = true) && (decide (s.on CTMSTAT.INIT n = false) &&
    (decide (s.on CTMSTAT.TOUCH n = false) && (decide (raw < 0xFFFFFFFF) &&
    ((decide (c.slot ≠ some ((s.advance t).ctmSlot n raw))) && (decide (s.rd CTMTHR.RELEASE n < s.rd CTMTHR.TOUCH n) &&
    (let base := s.rd CTMBASE.VALUE n; (decide (base + 64 * s.rd CTMTHR.TOUCH n ≤ raw) &&
    (decide (c.nTouch + 1 = s.rd CTMCTL.DEB n))))))))))))))))) = true ∧
    (let t : Nat := 100000; let n : Nat := 3; let s : State := w2; (decide (n < 1024) && (decide (s.now ≤ t) &&
    (let c := (s.ch n).ctm; (let raw : Nat := 100000; (decide (s.mode n = 4) && (decide (s.on CTMCTL.EN n = true) &&
    (decide (bitAt (s.rd BANKOESTAT.OE) (n / 64) = true) && (decide (s.on CTMSTAT.INIT n = false) &&
    (decide (s.on CTMSTAT.TOUCH n = false) && (decide (raw < 0xFFFFFFFF) &&
    ((decide (c.slot ≠ some ((s.advance t).ctmSlot n raw))) && (decide (s.rd CTMTHR.RELEASE n < s.rd CTMTHR.TOUCH n) &&
    (let base := s.rd CTMBASE.VALUE n; (decide (base ≤ raw) && (decide (raw < base + 64 * s.rd CTMTHR.TOUCH n) &&
    (decide (base < raw + 64 * s.rd CTMTHR.RELEASE n)))))))))))))))))) = true ∧
    (let t : Nat := 100000; let n : Nat := 3; let s : State := w3; (decide (n < 1024) && (decide (s.now ≤ t) &&
    (let c := (s.ch n).ctm; (decide (s.mode n = 4) && (decide (s.on CTMSTAT.TOUCH n = true) &&
    (decide (c.since + ms (1000 * s.rd CTMMAXT.MAXT n) < t)))))))) = true := by decide +kernel

end LoadAndTouch

namespace CarriersAndLoads
def F (n : Nat) (l : List (RField × Nat)) (s : State) : State := l.foldl (fun s p => s.wr p.1 p.2 n) s
def run_ (n : Nat) (f : ChRun → ChRun) (s : State) : State := s.modCh n (fun c => {c with run := f c.run})
def w1 : State :=
  (run_ 3 (fun r => {r with r := true, pk := 6400, pend := 64000000, shape := [(7000,false),(9000,true)]}) (F 3 [(CHSTAT.STATE,2),(CHCTL.MODE,8),(ACTPRD.VALUE,100000)] up))
def w2 : State :=
  (run_ 3 (fun r => {r with pk := 6400, pend := 12000, plan := [⟨1,0,2,false,false,none⟩]}) (F 3 [(CHSTAT.STATE,2),(CHCTL.MODE,1),(CHCTL.ACTZ,2),(CHCTL.ACTA,1),(ACTPRD.VALUE,100000),(PRD.VALUE,200000),(CMPA.VALUE,500),(DTIME.DTR,5),(PWMSTAT.SHPEND,1),(PWMSTAT.LOADS,255)] up))
def w3 : State :=
  (run_ 3 (fun r => {r with pk := 6400, pend := 12000, plan := [⟨1,0,2,false,false,none⟩]}) (F 3 [(CHSTAT.STATE,2),(CHCTL.MODE,1),(CHCTL.ACTZ,2),(CHCTL.ACTA,1),(ACTPRD.VALUE,100000),(PRD.VALUE,200000),(CMPA.VALUE,500),(DTIME.DTR,5),(PWMSTAT.SHPEND,1),(PWMSTAT.LOADS,255),(PWMCTL.HOLD,1)] up))

theorem witness_CarriersAndLoads :
    (let t : Nat := 10000; let n : Nat := 3; let s : State := w1; (decide (n < 1024) && (decide (s.now ≤ t) && (let r := (s.ch n).run; (decide (s.paired n = false) && (decide (s.rd CHSTAT.STATE n = 2) && (decide (s.rd CHCTL.MODE n = 8) && (decide (s.rd PWMCTL.EVDIV n = 0) && (decide (r.r = true) && (match r.shape with | (x, false) :: q => (decide (r.pk < x) && (decide (x ≤ s.fineAt r.tb t))) | _ => false)))))))))) = true ∧
    (let t : Nat := 11000; let n : Nat := 3; let s : State := w2; (decide (n < 1024) && (decide (s.now ≤ t) &&
    (let r := (s.ch n).run; (let a := s.advance t; (decide (s.paired n = false) && (decide (s.rd CHSTAT.STATE n = 2) &&
    (decide (s.rd CHCTL.MODE n = 1) && (decide (r.nxt = none) && (decide (r.stop = false) && (decide (r.skip = 0) &&
    (decide (r.pend ≤ s.fineAt r.tb t + a.rspan n (ns 40)) && ((decide ((s.gr (n / 8)).graces = [])) &&
    (decide (s.on PWMSTAT.SHPEND n = true) && (decide (s.on PWMCTL.HOLD n = false) &&
    (decide (s.on PWMCTL.LAG n = false))))))))))))))))) = true ∧
    (let t : Nat := 11000; let n : Nat := 3; let s : State := w3; (decide (n < 1024) && (decide (s.now ≤ t) &&
    (let r := (s.ch n).run; (let a := s.advance t; (decide (s.paired n = false) && (decide (s.rd CHSTAT.STATE n = 2) &&
    (decide (s.rd CHCTL.MODE n = 1) && (decide (r.nxt = none) && (decide (r.stop = false) && (decide (r.skip = 0) &&
    (decide (r.pend ≤ s.fineAt r.tb t + a.rspan n (ns 40)) && ((decide ((s.gr (n / 8)).graces = [])) &&
    (decide (s.on PWMSTAT.SHPEND n = true) && (decide (s.on PWMCTL.HOLD n = true)))))))))))))))) = true ∧
    (let t : Nat := 10000; let n : Nat := 3; let s : State := w1; (decide (n < 1024) && (decide (s.now ≤ t) &&
    (let src := (Src.fn 0); (decide (src.ok = true) && ((decide (s.applies src (GLOAD.WHOLE.adr (n / 8) 0) = true)) &&
    (decide (s.paired n = false)))))))) = true ∧
    (let t : Nat := 2000; let n : Nat := 4; let s : State := (F 4 [(CHCTL.MODE,9)] up); (decide (n < 1024) &&
    (decide (s.now ≤ t) && (let src := (Src.fn 0); (let w := 0x80000000#32; (decide (src.ok = true) &&
    (decide (s.applies src (PWMCTL.WHOLE.adr n 0) = true) && (decide (n % 2 = 0) && (decide (s.paired n = false) &&
    (decide (s.rd CHSTAT.STATE n = 0) && (decide (PWMCTL.PAIR.of w = 1)))))))))))) = true := by decide +kernel

end CarriersAndLoads

namespace PairSwitching
def F (n : Nat) (l : List (RField × Nat)) (s : State) : State := l.foldl (fun s p => s.wr p.1 p.2 n) s
def run_ (n : Nat) (f : ChRun → ChRun) (s : State) : State := s.modCh n (fun c => {c with run := f c.run})
def pin_ (n : Nat) (f : ChPin → ChPin) (s : State) : State := s.modCh n (fun c => {c with pin := f c.pin})
def w1 : State :=
  (run_ 4 (fun r => {r with wait := some ⟨true,600⟩}) (pin_ 4 (fun p => {p with l3 := false}) (pin_ 5 (fun p => {p with l3 := false}) (F 4 [(CHCTL.MODE,9),(PWMCTL.PAIR,1),(CHSTAT.STATE,2),(ACTDTIME.DTR,3),(ACTDTIME.DTF,65535),(ADTCTL.GUARD,3),(PWMCTL.DTMODE,3),(ADTCTL.SNSSRC,1)] up))))
def w2 : State :=
  (run_ 4 (fun r => {r with wait := some ⟨true,600⟩}) (pin_ 4 (fun p => {p with l3 := false}) (pin_ 5 (fun p => {p with l3 := false}) (F 4 [(CHCTL.MODE,9),(PWMCTL.PAIR,1),(CHSTAT.STATE,2),(ACTDTIME.DTR,3),(ACTDTIME.DTF,100),(ADTCTL.GUARD,3),(PWMCTL.DTMODE,3)] up))))
def w3 : State :=
  (run_ 4 (fun r => {r with k := 1}) (pin_ 4 (fun p => {p with l3 := true, lvl := true}) (pin_ 5 (fun p => {p with l3 := true, lvl := true}) (F 4 [(CHCTL.MODE,9),(PWMCTL.PAIR,1),(CHSTAT.STATE,2),(ACTDTIME.DTR,3),(ACTDTIME.DTF,5),(ADTCTL.GUARD,3)] up))))
def w4 : State :=
  (run_ 4 (fun r => {r with k := 1}) (pin_ 4 (fun p => {p with l3 := true, lvl := true, ilkAt := [1,2,3,4,5,6,7,8,9,10,11,12,13,14,15]}) (pin_ 5 (fun p => {p with l3 := true, lvl := true}) (F 4 [(CHCTL.MODE,9),(PWMCTL.PAIR,1),(CHSTAT.STATE,2),(ACTDTIME.DTR,3),(ACTDTIME.DTF,5),(ADTCTL.GUARD,3)] up))))
def w5 : State :=
  (run_ 4 (fun r => {r with k := 1}) (pin_ 4 (fun p => {p with l3 := false, ilkUntil := some 500, ilkLast := some true, hOff := true, lOff := true}) (pin_ 5 (fun p => {p with l3 := true, lvl := true}) (F 4 [(CHCTL.MODE,9),(PWMCTL.PAIR,1),(CHSTAT.STATE,2),(ACTDTIME.DTR,3),(ACTDTIME.DTF,5),(ADTCTL.GUARD,3)] up))))

theorem witness_PairSwitching :
    (let t : Nat := 5000; let n : Nat := 4; let s : State := w1; (decide (n < 1023) && (decide (n % 2 = 0) &&
    (decide (s.now ≤ t) && (decide (s.paired n = true) && (let r := (s.ch n).run; (let a := s.advance t;
    (let dtr := s.rd ACTDTIME.DTR n; (let dtf := if s.rd ACTDTIME.DTF n < dtr then dtr else s.rd ACTDTIME.DTF n;
    (decide (s.rd PWMCTL.DTMODE n = 3) && (onSome false r.wait fun w => (decide (r.shape = []) && (decide (r.nxt = none) &&
    (decide (a.atFarRail n w.low = true) && (onSome false (a.nodeAt n) fun b =>
    (let x := (if b < w.off then w.off else b) + ns (s.rd ADTCTL.GUARD n);
    (let on_ := if x < w.off + dtr then w.off + dtr else x; (decide (on_ < w.off + dtf))))))))))))))))))) = true ∧
    (let t : Nat := 5000; let n : Nat := 4; let s : State := w2; (decide (n < 1023) && (decide (n % 2 = 0) &&
    (decide (s.now ≤ t) && (decide (s.paired n = true) && (let r := (s.ch n).run; (let dtr := s.rd ACTDTIME.DTR n;
    (let dtf := if s.rd ACTDTIME.DTF n < dtr then dtr else s.rd ACTDTIME.DTF n; (decide (s.rd PWMCTL.DTMODE n = 3) &&
    (onSome false r.wait fun w => (decide (r.shape = []) && (decide (r.nxt = none) &&
    (decide (w.off + dtf ≤ t)))))))))))))) = true ∧
    (let t : Nat := (5000); let n : Nat := 4; let s : State := w3; (decide (n < 1023) && (decide (n % 2 = 0) &&
    (decide (s.now ≤ t) && (decide (s.paired n = true) && (let p := (s.ch n).pin; (decide (s.lvl3 n = true) &&
    (decide (s.lvl3 (n + 1) = true) && (decide ((p.hOff && p.lOff) = false) && ((decide (((p.ilkAt.take 15).filter (fun x =>
    decide (t ≤ x + ms 1))).length < 15)))))))))))) = true ∧
    (let t : Nat := (5000); let n : Nat := 4; let s : State := w4; (decide (n < 1023) && (decide (n % 2 = 0) &&
    (decide (s.now ≤ t) && (decide (s.paired n = true) && (let p := (s.ch n).pin; (decide (s.lvl3 n = true) &&
    (decide (s.lvl3 (n + 1) = true) && (decide ((p.hOff && p.lOff) = false) && ((decide (((p.ilkAt.take 15).filter (fun x =>
    decide (t ≤ x + ms 1))).length = 15)))))))))))) = true ∧
    (let t : Nat := (5000); let n : Nat := 4; let s : State := w5; (decide (n < 1023) && (decide (n % 2 = 0) &&
    (decide (s.now ≤ t) && (decide (s.paired n = true) && (let p := (s.ch n).pin; (onSome false p.ilkUntil fun x =>
    (decide (x ≤ t) && (decide (p.ilkLast = some true)))))))))) = true := by decide +kernel

end PairSwitching

namespace Trips
def F (n : Nat) (l : List (RField × Nat)) (s : State) : State := l.foldl (fun s p => s.wr p.1 p.2 n) s
def pin_ (n : Nat) (f : ChPin → ChPin) (s : State) : State := s.modCh n (fun c => {c with pin := f c.pin})
def w1 : State :=
  (pin_ 3 (fun p => {p with lvl := true, onAt := 700}) (F 0 [(TLCFG.TYPE,1),(TLCFG.POL,1)] (F 3 [(TRIPCTL.LEN,1),(TRIPCTL.CBCEN,1),(TRIPCTL.BLANK,0),(TRIPSTAT.TRIPPED,0),(CHSTAT.STATE,2)] up)))
def w2 : State :=
  (pin_ 3 (fun p => {p with lvl := true, onAt := 700, blanking := true}) (F 0 [(TLCFG.TYPE,1),(TLCFG.POL,0)] (F 3 [(TRIPCTL.LEN,0),(TRIPCTL.CBCEN,1),(TRIPCTL.BLANK,0),(TRIPSTAT.TRIPPED,0),(CHSTAT.STATE,2)] up)))
def w3 : State :=
  (pin_ 3 (fun p => {p with lvl := true, onAt := 700}) (F 0 [(TLCFG.TYPE,0),(TLCFG.POL,0)] (F 3 [(TRIPCTL.LEN,1),(TRIPCTL.CBCEN,1),(TRIPCTL.BLANK,0),(TRIPSTAT.TRIPPED,0),(CHSTAT.STATE,2)] up)))

theorem witness_Trips :
    (let t : Nat := 100000; let n : Nat := 3; let i : Nat := 0; let s : State := w1; (decide (n < 1024) &&
    (decide (i < 4) && (decide (s.now ≤ t) && ((List.all ((List.range 8).map (n / 8 * 8 + ·)) fun m =>
    (if decide (m / 8 = n / 8) then (decide (s.paired m = false) && decide (s.on TERMCTL.TEN m = false)) else true)) &&
    (let j := n / 8; (let a := s.advance t; (let act (k : Nat) : Bool := a.lineSrc j k; (decide (act i = true) &&
    (decide ((s.gr j).act.testBit i = false) && (decide (s.rd TLCFG.TYPE j i ≠ 0)))))))))))) = true ∧
    (let t : Nat := 100000; let n : Nat := 3; let i : Nat := 0; let s : State := w2; (decide (n < 1024) &&
    (decide (i < 4) && (decide (s.now ≤ t) && ((List.all ((List.range 8).map (n / 8 * 8 + ·)) fun m =>
    (if decide (m / 8 = n / 8) then (decide (s.paired m = false) && decide (s.on TERMCTL.TEN m = false)) else true)) &&
    (let j := n / 8; (let p := (s.ch n).pin; (let e := p.onAt + ns (s.rd TRIPCTL.BLANK n); (decide (p.blanking = true) &&
    (decide (s.rd TRIPCTL.CBCEN n = 2 ^ i) && (decide ((s.rd TRIPCTL.LEN n).testBit i = false) && (decide (e ≤ t) &&
    (decide (s.rd TLCFG.TYPE j i ≠ 0)))))))))))))) = true ∧
    (let t : Nat := 100000; let n : Nat := 3; let i : Nat := 0; let s : State := w3; (decide (n < 1024) &&
    (decide (i < 4) && (decide (s.now ≤ t) && ((List.all ((List.range 8).map (n / 8 * 8 + ·)) fun m =>
    (if decide (m / 8 = n / 8) then (decide (s.paired m = false) && decide (s.on TERMCTL.TEN m = false)) else true)) &&
    (let src := (Src.fn 0); (decide (src.ok = true) && (decide (s.applies src (TRIPCLR.WHOLE.adr n 0) = true))))))))) = true := by decide +kernel

end Trips

namespace ForcesAndSafeStates
def F (n : Nat) (l : List (RField × Nat)) (s : State) : State := l.foldl (fun s p => s.wr p.1 p.2 n) s
def pin_ (n : Nat) (f : ChPin → ChPin) (s : State) : State := s.modCh n (fun c => {c with pin := f c.pin})
def w1 : State :=
  (pin_ 3 (fun p => {p with lvl := true, fwait := none}) (F 3 [(CHSTAT.STATE,0)] up))
def w2 : State :=
  (pin_ 3 (fun p => {p with lvl := true, fwait := none}) (F 3 [(CHSTAT.STATE,2)] up))
def w3 : State :=
  (pin_ 3 (fun p => {p with lvl := true, fwait := some ⟨1,500,false,true⟩}) (F 3 [(CHSTAT.STATE,0)] up))
def w4 : State :=
  (pin_ 3 (fun p => {p with lvl := true, fwait := some ⟨1,500,false,true⟩}) (F 3 [(CHSTAT.STATE,2)] up))
def w5 : State :=
  {(F 3 [(CHSTAT.STATE,0)] (F 0 [(SAFESTAT.ACTIVE,1),(SAFECTL.SAFEST,2)] up)) with grp := (up.modGr 0 (fun g => {g with safe := [(900,5),(950,2)]})).grp}

theorem witness_ForcesAndSafeStates :
    (let t : Nat := 100000; let n : Nat := 3; let src : Src := (.fn 0); let s : State := w1; (decide (n < 1024) &&
    (decide (src.ok = true) && (decide (s.now ≤ t) && (decide (s.applies src (FORCE.WHOLE.adr n 0) = true) &&
    (onSome false (([(Instr.forceRelease t src n, 1), (Instr.forceHigh t src n, 2), (Instr.forceLow t src n, 3), (Instr.forceHiz t src n, 4)])[0]?) fun c =>
    true)))))) = true ∧
    (let t : Nat := 100000; let n : Nat := 3; let src : Src := (.fn 0); let s : State := w2; (decide (n < 1024) &&
    (decide (src.ok = true) && (decide (s.now ≤ t) && (decide (s.applies src (FORCE.WHOLE.adr n 0) = true) &&
    (onSome false (([(Instr.forceRelease t src n, 1), (Instr.forceHigh t src n, 2), (Instr.forceLow t src n, 3), (Instr.forceHiz t src n, 4)])[0]?) fun c =>
    (decide (s.stopped n = false)))))))) = true ∧
    (let t : Nat := 100000; let n : Nat := 3; let src : Src := (.fn 0);
    let s : State := ((up.wr64 FORCEAT_LO.VALUE FORCEAT_HI.VALUE (10^9))); (decide (n < 1024) && (decide (src.ok = true) &&
    (decide (s.now ≤ t) && (let j := n / 8; (decide (s.applies src (FORCE.WHOLE.adr n 0) = true) &&
    (onSome false (([(Instr.forceRelease t src n, 1), (Instr.forceHigh t src n, 2), (Instr.forceLow t src n, 3), (Instr.forceHiz t src n, 4)])[0]?) fun c =>
    (let x := ns (s.rd64 FORCEAT_LO.VALUE FORCEAT_HI.VALUE j); (let soon := s.fineAt 0 t + (s.advance t).span 0 (ns 40);
    (decide (soon ≤ x))))))))))) = true ∧
    (let t : Nat := 100000; let n : Nat := 3; let src : Src := (.fn 0); let s : State := w1; (decide (n < 1024) &&
    (decide (src.ok = true) && (decide (s.now ≤ t) && (let j := n / 8;
    (decide (s.applies src (FORCE.WHOLE.adr n 0) = true) &&
    (onSome false (([(Instr.forceRelease t src n, 1), (Instr.forceHigh t src n, 2), (Instr.forceLow t src n, 3), (Instr.forceHiz t src n, 4)])[0]?) fun c =>
    (let x := ns (s.rd64 FORCEAT_LO.VALUE FORCEAT_HI.VALUE j); (let soon := s.fineAt 0 t + (s.advance t).span 0 (ns 40);
    (decide (x < soon))))))))))) = true ∧
    (let t : Nat := 100000; let n : Nat := 3; let src : Src := (.fn 0); let s : State := w1; (decide (n < 1024) &&
    (decide (src.ok = true) && (decide (s.now ≤ t) && (let j := n / 8;
    (decide (s.applies src (GFORCE.WHOLE.adr j 0) = true) && (let mask : Nat := 0; (decide (mask < 256) &&
    (onSome false (([(Instr.gforceRelease t src j 0 mask, 1), (Instr.gforceHigh t src j 0 mask, 2), (Instr.gforceLow t src j 0 mask, 3), (Instr.gforceHiz t src j 0 mask, 4)])[0]?) fun c =>
    true))))))))) = true ∧
    (let t : Nat := 100000; let n : Nat := 3; let src : Src := (.fn 0); let s : State := w3; (decide (n < 1024) &&
    (decide (src.ok = true) && (decide (s.now ≤ t) && (let p := (s.ch n).pin; (onSome false p.fwait fun w =>
    (decide (s.paired n = false) && (decide (w.onTb0 = false) && (decide (w.due ≤ t) && (decide (1 ≤ w.ord) &&
    (decide (w.ord ≤ 4) && (((decide (w.period = false) &&
    decide (w.ord ≠ 1)) || decide (s.stopped n = true)))))))))))))) = true ∧
    (let t : Nat := 100000; let n : Nat := 3; let src : Src := (.fn 0); let s : State := w4; (decide (n < 1024) &&
    (decide (src.ok = true) && (decide (s.now ≤ t) && (let p := (s.ch n).pin; (onSome false p.fwait fun w =>
    (decide (s.paired n = false) && (decide (w.onTb0 = false) && (decide (w.due ≤ t) && (decide (1 ≤ w.ord) &&
    (decide (w.ord ≤ 4) && ((decide (w.ord = 1) && decide (s.stopped n = false)))))))))))))) = true ∧
    (let t : Nat := 100000; let n : Nat := 3; let src : Src := (.fn 0); let s : State := w1; (decide (n < 1024) &&
    (decide (src.ok = true) && (decide (s.now ≤ t) && (let j := n / 8;
    (decide (s.applies src (SAFECTL.WHOLE.adr j 0) = true))))))) = true ∧
    (let t : Nat := 100000; let n : Nat := 3; let src : Src := (.fn 0); let s : State := w5; (decide (n < 1024) &&
    (decide (src.ok = true) && (decide (s.now ≤ t) && (let j := n / 8;
    (decide (s.applies src (SAFECTL.WHOLE.adr j 0) = true) && (let w : Word := 0x400000ff#32;
    (decide (SAFECTL.SAFEGO.of w = 0) && (decide (s.on SAFESTAT.ACTIVE j = true) && ((List.all (List.range 128) fun k =>
    decide (s.on LOSSSTAT.LOSS k = false)))))))))))) = true ∧
    (let t : Nat := 100000; let n : Nat := 3; let src : Src := (.fn 0); let s : State := w5; (decide (n < 1024) && (decide (src.ok = true) && (decide (s.now ≤ t) && (let j := n / 8; (match (s.gr j).safe with | (x, k) :: q => (decide (x ≤ t) && (decide (k < 8))) | _ => false)))))) = true := by decide +kernel

end ForcesAndSafeStates

namespace Comparators
def F (n : Nat) (l : List (RField × Nat)) (s : State) : State := l.foldl (fun s p => s.wr p.1 p.2 n) s
def up8 : State := (up.wr ANCTL.EN 1).wr ANSTAT.READY 1
def w1 : State :=
  (F 4 [(KCTL.EN,1)] (up8.modK 4 (fun c => {c with raw := true, cell := true, thrAct := 100, rawAt := 800})))
def w2 : State :=
  (F 0 [(ANCTL.EN,1)] ((F 4 [(KCTL.EN,1)] up8).wr SUPMON.FAULT 1 0 3))
def w3 : State :=
  (F 0 [(ANCTL.EN,0)] ((F 4 [(KCTL.EN,1)] up8).wr SUPMON.FAULT 0 0 3))
def w4 : State :=
  (F 4 [(KCTL.EN,1),(KCTL.HYS,2),(KCTL.MODE,2),(KCTL.EVEDGE,3)] (up8.modK 4 (fun c => {c with raw := true, cell := false, thrAct := 100, rawAt := 800})))
def w5 : State :=
  (F 4 [(KCTL.EN,1),(KCTL.HYS,2),(KCTL.EVEDGE,3)] (up8.modK 4 (fun c => {c with raw := true, cell := true, thrAct := 100, rawAt := 800})))
def w6 : State :=
  (F 4 [(KCTL.EN,1),(KCTL.LATCH,1),(KSTAT.LATCHED,1),(KSTAT.OUT,1),(KCTL.EVEDGE,3),(KSTAT.TRANS,65535)] (up8.modK 4 (fun c => {c with raw := false, cell := true, thrAct := 100, rawAt := 800})))
def w7 : State :=
  (F 4 [(KCTL.EN,1),(KCTL.LATCH,1),(KSTAT.LATCHED,1),(KCTL.EVEDGE,3)] (up8.modK 4 (fun c => {c with raw := true, cell := true, thrAct := 100, rawAt := 800})))
def w8 : State :=
  (F 4 [(KCTL.EN,1),(KCTL.LATCH,1),(KSTAT.LATCHED,1),(KSTAT.OUT,1),(KCTL.EVEDGE,0)] (up8.modK 4 (fun c => {c with raw := false, cell := true, thrAct := 100, rawAt := 800})))

theorem witness_Comparators :
    (let t : Nat := 1000; let k : Nat := 4; let s : State := w1; (decide (k < 256) && (decide (s.now ≤ t) &&
    (decide (s.on ANCTL.EN = true) && (decide (s.on SUPMON.FAULT 0 3 = false)))))) = true ∧
    (let t : Nat := 1000; let k : Nat := 4; let s : State := w2; (decide (k < 256) && (decide (s.now ≤ t) &&
    (decide (s.on ANCTL.EN = true) && (decide (s.on SUPMON.FAULT 0 3 = true) && (decide (s.on KCTL.EN k = true) &&
    (decide (s.pw.deep = false)))))))) = true ∧
    (let t : Nat := 1000; let k : Nat := 4; let s : State := w3; (decide (k < 256) && (decide (s.now ≤ t) &&
    (decide (s.on ANCTL.EN = false))))) = true ∧
    (let t : Nat := 1000; let k : Nat := 4; let s : State := w1; (decide (k < 256) && (decide (s.now ≤ t) &&
    (decide (s.on KCTL.SRC k = false) && (decide (s.kOff k = false) && (decide (s.on SUPMON.FAULT 0 3 = false) &&
    (decide (s.pw.deep = false) && (decide (s.kMode k ≠ 2))))))))) = true ∧
    (let t : Nat := 1000; let k : Nat := 4; let s : State := w4; (decide (k < 256) && (decide (s.now ≤ t) &&
    (let c := s.kc k; (decide (s.on KCTL.SRC k = false) && (decide (s.kOff k = false) &&
    (decide (s.on SUPMON.FAULT 0 3 = false) && (decide (s.pw.deep = false) && (decide (s.kMode k = 2) &&
    (decide (c.cell = false) && ((decide ((s.kc (k + 1)).cell = false)) && (decide (s.kMode (k + 1) = 1))))))))))))) = true ∧
    (let t : Nat := 1000; let k : Nat := 4; let s : State := w5; (decide (k < 256) && (decide (s.now ≤ t) &&
    (let c := s.kc k; (decide (s.kOff k = false) && (decide (s.on KCTL.WAKE k = false) &&
    (decide (c.rawAt + ns (s.rd KCTL.KFILT k) ≤ t) && (decide (c.raw ≠ s.on KSTAT.OUT k) &&
    (let held := s.on KCTL.LATCH k && s.on KSTAT.LATCHED k && !c.raw; (decide (held = false) &&
    (decide (s.rd KCTL.EVEDGE k = 3)))))))))))) = true ∧
    (let t : Nat := 1000; let k : Nat := 4; let s : State := w6; (decide (k < 256) && (decide (s.now ≤ t) &&
    (let c := s.kc k; (decide (s.kOff k = false) && (decide (s.on KCTL.WAKE k = false) &&
    (decide (c.rawAt + ns (s.rd KCTL.KFILT k) ≤ t) && (decide (c.raw ≠ s.on KSTAT.OUT k) &&
    (let held := s.on KCTL.LATCH k && s.on KSTAT.LATCHED k && !c.raw; (decide (held = true))))))))))) = true ∧
    (let t : Nat := 1000; let k : Nat := 4; let s : State := w1; (decide (k < 256) && (decide (s.now ≤ t) &&
    (let src := (Src.fn 0); (decide (src.ok = true) && (decide (s.applies src (KCLR.WHOLE.adr k 0) = true) &&
    (decide (s.on KSTAT.LATCHED k = false)))))))) = true ∧
    (let t : Nat := 1000; let k : Nat := 4; let s : State := w7; (decide (k < 256) && (decide (s.now ≤ t) &&
    (let c := s.kc k; (let src := (Src.fn 0); (decide (src.ok = true) &&
    (decide (s.applies src (KCLR.WHOLE.adr k 0) = true) && (decide (s.on KSTAT.LATCHED k = true) &&
    (decide (c.raw = true)))))))))) = true ∧
    (let t : Nat := 1000; let k : Nat := 4; let s : State := w8; (decide (k < 256) && (decide (s.now ≤ t) &&
    (let c := s.kc k; (let src := (Src.fn 0); (decide (src.ok = true) &&
    (decide (s.applies src (KCLR.WHOLE.adr k 0) = true) && (decide (s.on KSTAT.LATCHED k = true) &&
    (decide (c.raw = false) && (decide (s.on KSTAT.OUT k = true) && (decide (s.rd KCTL.EVEDGE k = 0)))))))))))) = true := by decide +kernel

end Comparators

namespace SarConverters
def F (n : Nat) (l : List (RField × Nat)) (s : State) : State := l.foldl (fun s p => s.wr p.1 p.2 n) s
def up8 : State := (up.wr ANCTL.EN 1).wr ANSTAT.READY 1
def w1 : State :=
  {(F 3 [(SARTRIG.TSRC,1),(SARTRIG.TDIV,2),(SARDLY.DELAY,33),(SARCTL.NSTEP,2),(SARCTL.EN,1)] up8) with sar := (up.modSar 3 (fun r => {r with div := 1, queue := [], cur := none, h := 700, ents := [5,38,67], count := 9, recs := [], trigs := [900,2000]})).sar}
def w2 : State :=
  {(F 3 [(SARTRIG.TSRC,1),(SARTRIG.TDIV,2),(SARDLY.DELAY,33),(SARCTL.NSTEP,2),(SARCTL.EN,1)] up8) with sar := (up.modSar 3 (fun r => {r with div := 2, queue := [], cur := none, h := 700, ents := [5,38,67], count := 9, recs := [], trigs := [900,2000]})).sar}
def w3 : State :=
  {(F 3 [(SARTRIG.TSRC,1),(SARTRIG.TDIV,2),(SARDLY.DELAY,33),(SARCTL.NSTEP,2),(SARCTL.EN,0)] up8) with sar := (up.modSar 3 (fun r => {r with div := 2, queue := [], cur := none, h := 700, ents := [5,38,67], count := 9, recs := [], trigs := [900,2000]})).sar}
def w4 : State :=
  {(F 3 [(SARTRIG.TSRC,1),(SARTRIG.TDIV,2),(SARDLY.DELAY,33),(SARCTL.NSTEP,2),(SARCTL.EN,1)] up8) with sar := (up.modSar 3 (fun r => {r with div := 1, queue := [], cur := some ⟨700,3,false,false⟩, h := 700, ents := [5,38,67], count := 9, recs := [], trigs := [900,2000]})).sar}
def w5 : State :=
  {(F 3 [(SARTRIG.TSRC,1),(SARTRIG.TDIV,2),(SARDLY.DELAY,33),(SARCTL.NSTEP,2),(SARCTL.EN,1)] up8) with sar := (up.modSar 3 (fun r => {r with div := 1, queue := [], cur := none, h := 700, ents := [5,38,67], count := 9, recs := [⟨7,4096,[1,2,0xDEADBEEF,4],false⟩,⟨8,4112,[5,6,7,8],true⟩], trigs := [900,2000]})).sar}

theorem witness_SarConverters :
    (let t : Nat := 100000; let i : Nat := 3; let s : State := up8; (decide (i < 16) && (decide (s.now ≤ t) &&
    (decide (s.on SARQ.QEN i = false) && (let r := s.sarU i; (decide (r.trigs = []))))))) = true ∧
    (let t : Nat := 100000; let i : Nat := 3; let s : State := w1; (decide (i < 16) && (decide (s.now ≤ t) &&
    (decide (s.on SARQ.QEN i = false) && (let r := s.sarU i; (onCons false r.trigs fun inst ts =>
    ((decide (s.rd SARTRIG.TSRC i = 1) || decide (s.rd SARTRIG.TSRC i = 2)) &&
    (decide (r.div < s.rd SARTRIG.TDIV i))))))))) = true ∧
    (let t : Nat := 100000; let i : Nat := 3; let s : State := w2; (decide (i < 16) && (decide (s.now ≤ t) &&
    (decide (s.on SARQ.QEN i = false) && (let r := s.sarU i; (let waits (h : Nat) : Bool := firstHold (s.sarLast i) h != h;
    (let takes (h : Nat) : Bool := (decide (s.on ANSTAT.READY = true) && (decide (s.on SARCTL.EN i = true) &&
    (decide (s.on SUPMON.FAULT 0 3 = false) && (if decide (waits h = true) then decide (r.pend < 4) else true))));
    (onCons false r.trigs fun inst ts => ((decide (s.rd SARTRIG.TSRC i = 1) || decide (s.rd SARTRIG.TSRC i = 2)) &&
    (let h := inst + ns (s.rd SARDLY.DELAY i); (decide (r.div = s.rd SARTRIG.TDIV i) && (decide (r.queue.all (fun q =>
    !q.missed) = true) && (decide (takes h)))))))))))))) = true ∧
    (let t : Nat := 100000; let i : Nat := 3; let s : State := w3; (decide (i < 16) && (decide (s.now ≤ t) &&
    (decide (s.on SARQ.QEN i = false) && (let r := s.sarU i; (let waits (h : Nat) : Bool := firstHold (s.sarLast i) h != h;
    (let takes (h : Nat) : Bool := (decide (s.on ANSTAT.READY = true) && (decide (s.on SARCTL.EN i = true) &&
    (decide (s.on SUPMON.FAULT 0 3 = false) && (if decide (waits h = true) then decide (r.pend < 4) else true))));
    (onCons false r.trigs fun inst ts => ((decide (s.rd SARTRIG.TSRC i = 1) || decide (s.rd SARTRIG.TSRC i = 2)) &&
    (let h := inst + ns (s.rd SARDLY.DELAY i); (decide (r.div = s.rd SARTRIG.TDIV i) && (decide (r.queue.all (fun q =>
    !q.missed) = true) && ((!decide (takes h)) && (decide (r.cur = none) && (decide (r.queue = [])))))))))))))))) = true ∧
    (let t : Nat := 100000; let i : Nat := 3; let s : State := w1; (decide (i < 16) && (decide (s.now ≤ t) &&
    (decide (s.on SARQ.QEN i = false) && (let r := s.sarU i; (let waits (h : Nat) : Bool := firstHold (s.sarLast i) h != h;
    (let takes (h : Nat) : Bool := (decide (s.on ANSTAT.READY = true) && (decide (s.on SARCTL.EN i = true) &&
    (decide (s.on SUPMON.FAULT 0 3 = false) && (if decide (waits h = true) then decide (r.pend < 4) else true))));
    (let src := (Src.fn 0); (decide (src.ok = true) && (decide (s.applies src (SARSW.WHOLE.adr i 0) = true) &&
    (decide (r.queue.all (fun q => !q.missed) = true) && (let h := t + ns 100 + ns (s.rd SARDLY.DELAY i);
    (decide (takes h)))))))))))))) = true ∧
    (let t : Nat := 100000; let i : Nat := 3; let s : State := w4; (decide (i < 16) && (decide (s.now ≤ t) &&
    (decide (s.on SARQ.QEN i = false) && (let r := s.sarU i; (onSome false r.cur fun q => (decide (q.missed = false) &&
    (decide (r.queue.all (fun x => !x.missed) = true) && (decide (r.h + ns 250 * r.j ≤ t) && (let e := r.ents.getD r.j 28;
    (decide (r.j < r.ents.length) && (decide (e % 32 < 8))))))))))))) = true ∧
    (let t : Nat := 100000; let i : Nat := 3; let s : State := w5; (decide (i < 16) && (decide (s.now ≤ t) &&
    (decide (s.on SARQ.QEN i = false) && (let r := s.sarU i; (onCons false r.recs fun x rest =>
    (decide (x.words.length = 4) && (decide (x.addr + 16 ≤ 0x1800000) && (decide (x.addr % 16 = 0) &&
    (decide (s.isolated 210 = false) && (decide (s.isolated (68 + x.addr / 0x40000) = false)))))))))))) = true := by decide +kernel

end SarConverters

namespace SigmaDelta
def F (n : Nat) (l : List (RField × Nat)) (s : State) : State := l.foldl (fun s p => s.wr p.1 p.2 n) s
def up8 : State := (up.wr ANCTL.EN 1).wr ANSTAT.READY 1
def win (n : Nat) (b : Bool) : List SdBit := (List.range n).map (fun i => ⟨some (i % 3 == 0), 100000 - 10 * i, b⟩)
def w1 : State :=
  {(F 3 [(KCTL.EN,1),(KCTL.SRC,1),(SDCTL.EN,1),(SDSTAT.SETREM,2),(SDFAST.EN,1),(SDFAST.DEC,4),(SDFAST.ORD,0),(SDFTHR.HI,2),(SDFTHR.LO,65534)] up8) with sd := (up.modSd 3 (fun r => {r with count := 5, filt := 0x10030004})).sd, kcomp := (up.modK 3 (fun r => {r with raw := true})).kcomp}
def w2 : State :=
  {(F 3 [(KCTL.EN,1),(KCTL.SRC,1),(SDCTL.EN,1),(SDSTAT.SETREM,2),(SDFAST.EN,1),(SDFAST.DEC,4),(SDFAST.ORD,0),(SDFTHR.HI,2),(SDFTHR.LO,65534)] up8) with sd := (up.modSd 3 (fun r => {r with filt := 0x10000004, got := 4, fgot := 4, since := 200, win := win 300 false, last := 100000})).sd, kcomp := (up.modK 3 (fun r => {r with raw := true})).kcomp}
def w3 : State :=
  {(F 3 [(KCTL.EN,1),(KCTL.SRC,1),(SDCTL.EN,1),(SDSTAT.SETREM,2),(SDFAST.EN,1),(SDFAST.DEC,4),(SDFAST.ORD,0),(SDFTHR.HI,2),(SDFTHR.LO,65534)] up8) with sd := (up.modSd 3 (fun r => {r with changes := [⟨20,0x10000008,1,0⟩], wordAt := 90000, win := win 10 false, got := 0})).sd, kcomp := (up.modK 3 (fun r => {r with raw := true})).kcomp}
def w4 : State :=
  {(F 3 [(KCTL.EN,1),(KCTL.SRC,1),(SDCTL.EN,1),(SDSTAT.SETREM,2),(SDFAST.EN,1),(SDFAST.DEC,4),(SDFAST.ORD,0),(SDFTHR.HI,2),(SDFTHR.LO,65534)] up8) with sd := (up.modSd 3 (fun r => {r with filt := 0x20000004, got := 4, since := 300, fgot := 4, win := win 300 true, good := 256, last := 100000, run := 256})).sd, kcomp := (up.modK 3 (fun r => {r with raw := true})).kcomp}
def w5 : State :=
  {(F 3 [(KCTL.EN,1),(KCTL.SRC,1),(SDCTL.EN,1),(SDFTHR.HI,65500),(SDSTAT.FAULT,1)] up8) with sd := (up.modSd 3 (fun r => {r with filt := 0x20000004, got := 4, since := 300, fgot := 4, win := win 300 true, good := 256, last := 100000, run := 256})).sd, kcomp := (up.modK 3 (fun r => {r with raw := true})).kcomp}
def w6 : State :=
  {(F 3 [(KCTL.EN,1),(KCTL.SRC,1),(SDCTL.EN,1),(SDFTHR.HI,65500),(SDSTAT.FAULT,1)] up8) with sd := (up.modSd 3 (fun r => {r with count := 5, filt := 0x10030004})).sd, kcomp := (up.modK 3 (fun r => {r with raw := true})).kcomp}

theorem witness_SigmaDelta :
    (let t : Nat := 1000000; let i : Nat := 3; let bits : List RxBit := []; let s : State := w1; (decide (i < 256) &&
    (decide (s.now ≤ t) && (decide (s.on KCTL.SRC i = true) && (decide (s.kOff i = false) && (decide (s.pw.deep = false) &&
    (decide (s.on SUPMON.FAULT 0 3 = false) && (let x := (s.advance t).sdBits i bits; (let d := x.sdU i;
    (decide (s.on SDCTL.EN i = true) && (decide (d.got < d.dec)))))))))))) = true ∧
    (let t : Nat := 1000000; let i : Nat := 3; let bits : List RxBit := []; let s : State := w2; (decide (i < 256) &&
    (decide (s.now ≤ t) && (decide (s.on KCTL.SRC i = true) && (decide (s.kOff i = false) && (decide (s.pw.deep = false) &&
    (decide (s.on SUPMON.FAULT 0 3 = false) && (let x := (s.advance t).sdBits i bits; (let d := x.sdU i;
    (decide (s.on SDCTL.EN i = true) && (decide (s.rd SDCTL.BLK i = 0) && (decide (s.on SDQ.QEN i = false) &&
    (decide (d.dec ≤ d.got) && (onSome false (d.acc d.since d.ord d.dec) fun acc => true)))))))))))))) = true ∧
    (let t : Nat := 1000000; let i : Nat := 3; let s : State := w3; (decide (i < 256) && (decide (s.now ≤ t) &&
    (decide (s.on KCTL.SRC i = true) && (decide (s.kOff i = false) && (decide (s.pw.deep = false) &&
    (decide (s.on SUPMON.FAULT 0 3 = false) && (onSome false ((((s.sdU i).changes.getLast?.toList))[0]?) fun c =>
    (onSome false ((([(s.sdU i).changes.dropLast]))[0]?) fun l => ((List.all ((s.sdU i).changes) fun b =>
    decide (b.at_ + ns 40 ≤ (s.sdU i).wordAt)) && (decide ((s.sdU i).got = 0)))))))))))) = true ∧
    (let t : Nat := 1000000; let i : Nat := 3; let bits : List RxBit := []; let s : State := w4; (decide (i < 256) &&
    (decide (s.now ≤ t) && (decide (s.on KCTL.SRC i = true) && (decide (s.kOff i = false) && (decide (s.pw.deep = false) &&
    (decide (s.on SUPMON.FAULT 0 3 = false) && (let x := (s.advance t).sdBits i bits; (let d := x.sdU i; (let viol := true;
    (decide (s.on SDCTL.EN i = true) && (decide (s.on SDSTAT.FAULT i = false) &&
    (let bad : Bool := if d.cmode = 1 then viol || decide (d.last + 4 * x.bitPeriod i ≤ t) else decide (256 ≤ d.run);
    (decide (bad = true))))))))))))))) = true ∧
    (let t : Nat := 1000000; let i : Nat := 3; let bits : List RxBit := []; let s : State := w1; (decide (i < 256) &&
    (decide (s.now ≤ t) && (decide (s.on KCTL.SRC i = true) && (decide (s.kOff i = false) && (decide (s.pw.deep = false) &&
    (decide (s.on SUPMON.FAULT 0 3 = false) && (let x := (s.advance t).sdBits i bits; (let d := x.sdU i; (let viol := true;
    (decide (s.on SDCTL.EN i = true) && (decide (s.on SDSTAT.FAULT i = false) &&
    (let bad : Bool := if d.cmode = 1 then viol || decide (d.last + 4 * x.bitPeriod i ≤ t) else decide (256 ≤ d.run);
    (decide (bad = false))))))))))))))) = true ∧
    (let t : Nat := 1000000; let i : Nat := 3; let bits : List RxBit := []; let s : State := w5; (decide (i < 256) &&
    (decide (s.now ≤ t) && (decide (s.on KCTL.SRC i = true) && (decide (s.kOff i = false) && (decide (s.pw.deep = false) &&
    (decide (s.on SUPMON.FAULT 0 3 = false) && (let x := (s.advance t).sdBits i bits; (let d := x.sdU i;
    (decide (s.on SDCTL.EN i = true) && (decide (s.on SDSTAT.FAULT i = true) && (decide (s.kMode i = 0) &&
    (decide (256 ≤ d.good)))))))))))))) = true ∧
    (let t : Nat := 1000000; let i : Nat := 3; let bits : List RxBit := []; let s : State := w6; (decide (i < 256) &&
    (decide (s.now ≤ t) && (decide (s.on KCTL.SRC i = true) && (decide (s.kOff i = false) && (decide (s.pw.deep = false) &&
    (decide (s.on SUPMON.FAULT 0 3 = false) && (let x := (s.advance t).sdBits i bits; (let d := x.sdU i;
    (decide (s.on SDCTL.EN i = true) && (decide (s.on SDSTAT.FAULT i = true) && (decide (s.kMode i = 0) &&
    (decide (d.good < 256)))))))))))))) = true ∧
    (let t : Nat := 1000000; let i : Nat := 3; let bits : List RxBit := []; let s : State := w2; (decide (i < 256) &&
    (decide (s.now ≤ t) && (decide (s.on KCTL.SRC i = true) && (decide (s.kOff i = false) && (decide (s.pw.deep = false) &&
    (decide (s.on SUPMON.FAULT 0 3 = false) && (let x := (s.advance t).sdBits i bits; (let d := x.sdU i;
    (decide (s.on SDCTL.EN i = true) && (decide (s.on SDFAST.EN i = true) && (decide (s.rd SDFAST.DEC i ≤ d.fgot) &&
    (onSome false (d.acc d.win.length (s.rd SDFAST.ORD i + 1) (s.rd SDFAST.DEC i)) fun acc => true))))))))))))) = true := by decide +kernel

end SigmaDelta

namespace TailDecoding
def F (n : Nat) (l : List (RField × Nat)) (s : State) : State := l.foldl (fun s p => s.wr p.1 p.2 n) s
def T (k : Nat) (l : List (RField × Nat)) (f : TailH → TailH) (s : State) : State := (F k l s).modTail k f
def w1 : State :=
  (T 3 [(TAILCTL.ARM,0),(TAILCTL.MODE,1),(LOSSSTAT.LOSS,1),(POS_LO.VALUE,77),(POSSEQ.SEQ,4294967295)] (fun h => {h with zSeen := true}) up)
def w2 : State :=
  (T 3 [(TAILCTL.ARM,1),(TAILCTL.MODE,1),(TAILSTAT.LEVEL,0),(TAILCTL.CNT,0),(TAILCTL.DIRINV,0),(VELSTAT.DIR,0)] (fun h => {h with samp := [⟨9000,5⟩,⟨8000,4⟩]}) up)
def w3 : State :=
  (T 3 [(TAILCTL.ARM,1),(TAILCTL.MODE,2),(HALLMAP.MAP,16434824),(TAILSTAT.LEVEL,1),(TAILCTL.DIRINV,0),(VELSTAT.DIR,0)] (fun h => {h with sector := 1, samp := [⟨9000,5⟩,⟨8000,4⟩]}) up)
def w4 : State :=
  (T 3 [(TAILCTL.ARM,1),(TAILCTL.MODE,2),(HALLMAP.MAP,0o22354221),(TAILSTAT.LEVEL,5),(POSSTAT.SECTOR,7)] (fun h => {h with sector := 2}) up)
def w5 : State :=
  (T 3 [(TAILCTL.ARM,1),(TAILCTL.MODE,2),(HALLMAP.MAP,2279102),(TAILSTAT.LEVEL,5),(TAILCTL.DIRINV,0),(VELSTAT.DIR,0)] (fun h => {h with sector := 1, samp := [⟨9000,5⟩,⟨8000,4⟩]}) up)
def w6 : State :=
  (T 3 [(TAILCTL.ARM,1),(TAILCTL.MODE,1),(TAILCTL.ZMODE,1),(TAILCTL.ZQ,2),(TAILSTAT.LEVEL,4),(POS_LO.VALUE,77),(POSSEQ.SEQ,4294967295)] (fun h => {h with zSeen := true}) up)
def w7 : State :=
  (T 3 [(TAILCTL.ARM,1),(TAILCTL.MODE,1),(VEL_LO.VALUE,10),(VEL_HI.VALUE,7),(VELCFG.SSTO,1),(VELSTAT.STALE,0)] (fun h => {h with edgeAt := some 800}) up)

theorem witness_TailDecoding :
    (let t : Nat := 20000; let k : Nat := 3; let s : State := w1; (decide (k < 128) && (decide (s.now ≤ t) &&
    (decide (s.flyBusy k = false) && (decide (s.rd EMUSTAT.PATH k ≠ 1) && (decide (bitAt (s.tailU k).cond 1 = false) &&
    (let h := s.tailU k; (let src := (Src.fn 0); (let w := 0x80000000#32; (decide (src.ok = true) &&
    (decide (s.applies src (TAILCTL.WHOLE.adr k 0) = true) && (decide (s.on TAILCTL.ARM k = false) &&
    (decide (TAILCTL.ARM.of w = 1) && (decide (h.grace = none))))))))))))))) = true ∧
    (let t : Nat := 20000; let k : Nat := 3; let at_ : Nat := 10000; let code : Nat := 2; let s : State := w2;
    (decide (k < 128) && (decide (s.now ≤ t) && (decide (s.flyBusy k = false) && (decide (s.rd EMUSTAT.PATH k ≠ 1) &&
    (decide (bitAt (s.tailU k).cond 1 = false) && (let h := s.tailU k; (let old := s.rd TAILSTAT.LEVEL k;
    (decide (s.on TAILCTL.ARM k = true) &&
    (decide (at_ + ns (if s.rd TFILT.FILTAB k < 4 then 4 else s.rd TFILT.FILTAB k) ≤ t) && (decide (h.errAt = none) &&
    ((onSome true h.zHit fun z => decide (z.1 < at_)) && (decide (s.rd TAILCTL.MODE k = 1) && (let o := old / 2;
    (let n := code / 2 % 4; (let cnt := s.rd TAILCTL.CNT k; (((decide (o / 2 ≠ n / 2) &&
    decide (o % 2 = n % 2)) || (decide (o / 2 = n / 2) && decide (o % 2 ≠ n % 2))) && ((List.all (List.range 3) fun i =>
    decide (h.abz.getD i 0 + ns 4 ≤ at_)) &&
    (let dir : Option Bool := if cnt = 0 then (if o / 2 = 0 ∧ n / 2 = 1 then some (n % 2 == 0) else none) else if cnt = 1 then (if o / 2 ≠ n / 2 then some (n / 2 != n % 2) else none) else some ([(0, 2), (2, 3), (3, 1), (1, 0)].contains (o, n));
    (decide (dir = none))))))))))))))))))))) = true ∧
    (let t : Nat := 20000; let k : Nat := 3; let at_ : Nat := 10000; let code : Nat := 4; let s : State := w2;
    (decide (k < 128) && (decide (s.now ≤ t) && (decide (s.flyBusy k = false) && (decide (s.rd EMUSTAT.PATH k ≠ 1) &&
    (decide (bitAt (s.tailU k).cond 1 = false) && (let h := s.tailU k; (let old := s.rd TAILSTAT.LEVEL k;
    (decide (s.on TAILCTL.ARM k = true) &&
    (decide (at_ + ns (if s.rd TFILT.FILTAB k < 4 then 4 else s.rd TFILT.FILTAB k) ≤ t) && (decide (h.errAt = none) &&
    ((onSome true h.zHit fun z => decide (z.1 < at_)) && (decide (s.rd TAILCTL.MODE k = 1) && (let o := old / 2;
    (let n := code / 2 % 4; (let cnt := s.rd TAILCTL.CNT k; (((decide (o / 2 ≠ n / 2) &&
    decide (o % 2 = n % 2)) || (decide (o / 2 = n / 2) && decide (o % 2 ≠ n % 2))) && ((List.all (List.range 3) fun i =>
    decide (h.abz.getD i 0 + ns 4 ≤ at_)) &&
    (let dir : Option Bool := if cnt = 0 then (if o / 2 = 0 ∧ n / 2 = 1 then some (n % 2 == 0) else none) else if cnt = 1 then (if o / 2 ≠ n / 2 then some (n / 2 != n % 2) else none) else some ([(0, 2), (2, 3), (3, 1), (1, 0)].contains (o, n));
    (onSome false dir fun d => true)))))))))))))))))))) = true ∧
    (let t : Nat := 20000; let k : Nat := 3; let at_ : Nat := 10000; let code : Nat := 6; let s : State := w2;
    (decide (k < 128) && (decide (s.now ≤ t) && (decide (s.flyBusy k = false) && (decide (s.rd EMUSTAT.PATH k ≠ 1) &&
    (decide (bitAt (s.tailU k).cond 1 = false) && (let h := s.tailU k; (let old := s.rd TAILSTAT.LEVEL k;
    (decide (s.on TAILCTL.ARM k = true) &&
    (decide (at_ + ns (if s.rd TFILT.FILTAB k < 4 then 4 else s.rd TFILT.FILTAB k) ≤ t) && (decide (h.errAt = none) &&
    ((onSome true h.zHit fun z => decide (z.1 < at_)) && (decide (s.rd TAILCTL.MODE k = 1) && (let o := old / 2;
    (let n := code / 2 % 4; (((decide (o / 2 ≠ n / 2) && decide (o % 2 ≠ n % 2)) || (decide (o / 2 ≠ n / 2) &&
    (decide (at_ < h.abz.getD 1 0 + ns 4) && (decide (h.abz.getD 1 0 ≤ at_) &&
    decide (h.abz.getD 1 0 ≠ 0))))))))))))))))))))) = true ∧
    (let t : Nat := 20000; let k : Nat := 3; let at_ : Nat := 10000; let code : Nat := 0; let s : State := w3;
    (decide (k < 128) && (decide (s.now ≤ t) && (decide (s.flyBusy k = false) && (decide (s.rd EMUSTAT.PATH k ≠ 1) &&
    (decide (bitAt (s.tailU k).cond 1 = false) && (let h := s.tailU k; (let old := s.rd TAILSTAT.LEVEL k;
    (decide (s.on TAILCTL.ARM k = true) &&
    (decide (at_ + ns (if s.rd TFILT.FILTAB k < 4 then 4 else s.rd TFILT.FILTAB k) ≤ t) && (decide (h.errAt = none) &&
    ((onSome true h.zHit fun z => decide (z.1 < at_)) && (decide (s.rd TAILCTL.MODE k = 2) && (decide (code < 8) &&
    (decide (code ≠ old) && (decide (old < 8) && (decide (h.sector < 6) &&
    (let sec := s.rd HALLMAP.MAP k / 2 ^ (3 * code) % 8; (let up := false;
    ((decide (sec = (if up then (h.sector + 1) % 6 else (h.sector + 5) % 6))))))))))))))))))))))) = true ∧
    (let t : Nat := 20000; let k : Nat := 3; let at_ : Nat := 10000; let code : Nat := 3; let s : State := w3;
    (decide (k < 128) && (decide (s.now ≤ t) && (decide (s.flyBusy k = false) && (decide (s.rd EMUSTAT.PATH k ≠ 1) &&
    (decide (bitAt (s.tailU k).cond 1 = false) && (let h := s.tailU k; (let old := s.rd TAILSTAT.LEVEL k;
    (decide (s.on TAILCTL.ARM k = true) &&
    (decide (at_ + ns (if s.rd TFILT.FILTAB k < 4 then 4 else s.rd TFILT.FILTAB k) ≤ t) && (decide (h.errAt = none) &&
    ((onSome true h.zHit fun z => decide (z.1 < at_)) && (decide (s.rd TAILCTL.MODE k = 2) && (decide (code < 8) &&
    (decide (code ≠ old) && (decide (old < 8) && (decide (h.sector < 6) &&
    (let sec := s.rd HALLMAP.MAP k / 2 ^ (3 * code) % 8; (decide (sec < 6) &&
    ((if decide (sec = h.sector) then decide (s.rd POSSTAT.SECTOR k ≠ 7) else true) && (decide (sec ≠ (h.sector + 1) % 6) &&
    (decide (sec ≠ (h.sector + 5) % 6))))))))))))))))))))))) = true ∧
    (let t : Nat := 20000; let k : Nat := 3; let at_ : Nat := 10000; let code : Nat := 1; let s : State := w4;
    (decide (k < 128) && (decide (s.now ≤ t) && (decide (s.flyBusy k = false) && (decide (s.rd EMUSTAT.PATH k ≠ 1) &&
    (decide (bitAt (s.tailU k).cond 1 = false) && (let h := s.tailU k; (let old := s.rd TAILSTAT.LEVEL k;
    (decide (s.on TAILCTL.ARM k = true) &&
    (decide (at_ + ns (if s.rd TFILT.FILTAB k < 4 then 4 else s.rd TFILT.FILTAB k) ≤ t) && (decide (h.errAt = none) &&
    ((onSome true h.zHit fun z => decide (z.1 < at_)) && (decide (s.rd TAILCTL.MODE k = 2) && (decide (code < 8) &&
    (decide (code ≠ old) && (decide (old < 8) && (decide (h.sector < 6) &&
    (let sec := s.rd HALLMAP.MAP k / 2 ^ (3 * code) % 8; (decide (sec = h.sector) &&
    (decide (s.rd POSSTAT.SECTOR k = 7))))))))))))))))))))) = true ∧
    (let t : Nat := 20000; let k : Nat := 3; let at_ : Nat := 10000; let code : Nat := 0; let s : State := w5;
    (decide (k < 128) && (decide (s.now ≤ t) && (decide (s.flyBusy k = false) && (decide (s.rd EMUSTAT.PATH k ≠ 1) &&
    (decide (bitAt (s.tailU k).cond 1 = false) && (let h := s.tailU k; (let old := s.rd TAILSTAT.LEVEL k;
    (decide (s.on TAILCTL.ARM k = true) &&
    (decide (at_ + ns (if s.rd TFILT.FILTAB k < 4 then 4 else s.rd TFILT.FILTAB k) ≤ t) && (decide (h.errAt = none) &&
    ((onSome true h.zHit fun z => decide (z.1 < at_)) && (decide (s.rd TAILCTL.MODE k = 2) && (decide (code < 8) &&
    (decide (code ≠ old) && (decide (old < 8) && (decide (h.sector < 6) &&
    (let sec := s.rd HALLMAP.MAP k / 2 ^ (3 * code) % 8; (decide (6 ≤ sec)))))))))))))))))))) = true ∧
    (let t : Nat := 20000; let k : Nat := 3; let at_ : Nat := 10000; let s : State := w6; (decide (k < 128) &&
    (decide (s.now ≤ t) && (decide (s.flyBusy k = false) && (decide (s.rd EMUSTAT.PATH k ≠ 1) &&
    (decide (bitAt (s.tailU k).cond 1 = false) && (let old := s.rd TAILSTAT.LEVEL k; (decide (s.on TAILCTL.ARM k = true) &&
    (decide (s.rd TAILCTL.MODE k = 1) &&
    (decide (at_ + ns (if s.rd TFILT.FILTZ k < 4 then 4 else s.rd TFILT.FILTZ k) ≤ t) &&
    (decide (old = 2 * s.rd TAILCTL.ZQ k) && ((List.all (List.range 32) fun i => decide (s.on SPCTL.EN i = false)) &&
    (decide (s.rd TAILCTL.ZMODE k ≠ 0)))))))))))))) = true ∧
    (let t : Nat := (200+64000*5); let k : Nat := 3; let s : State := w7; (decide (k < 128) && (decide (s.now ≤ t) &&
    (decide (s.flyBusy k = false) && (decide (s.rd EMUSTAT.PATH k ≠ 1) && (decide (bitAt (s.tailU k).cond 1 = false) &&
    (let h := s.tailU k; (onSome false h.edgeAt fun e => (decide (s.on TAILCTL.ARM k = true) &&
    (decide (s.counting k = true) && (decide (s.on VELSTAT.STALE k = false) && (decide (e < t) && (let v := s.vel k;
    (decide (s.fineAt 17 t % 64000 = 0) && (decide (64000000000 * 65536 / (t - e) < mag v)))))))))))))))) = true ∧
    (let t : Nat := (200+64000*5); let k : Nat := 3; let s : State := w7; (decide (k < 128) && (decide (s.now ≤ t) &&
    (decide (s.flyBusy k = false) && (decide (s.rd EMUSTAT.PATH k ≠ 1) && (decide (bitAt (s.tailU k).cond 1 = false) &&
    (let h := s.tailU k; (onSome false h.edgeAt fun e => (decide (s.on TAILCTL.ARM k = true) &&
    (decide (s.counting k = true) && (decide (s.on VELSTAT.STALE k = false) && (decide (e < t) &&
    (decide (e + us (s.rd VELCFG.SSTO k) ≤ t)))))))))))))) = true := by decide +kernel

end TailDecoding

namespace SerialEncoders
def F (n : Nat) (l : List (RField × Nat)) (s : State) : State := l.foldl (fun s p => s.wr p.1 p.2 n) s
def T (k : Nat) (l : List (RField × Nat)) (f : TailH → TailH) (s : State) : State := (F k l s).modTail k f
def w1 : State :=
  (T 3 [(TAILCTL.ARM,1),(TAILCTL.MODE,4),(SERCFG.NBITS,8),(SERCFG.CLKP,100),(SERCFG.STMAX,3),(SERCHK.NSTAT,0),(SERCHK.CRCMAX,7),(CABLECFG.VPROP,200),(CABLECFG.ENCDLY,2),(CABLECFG.LATDLY,50),(TAILREC.EN,1),(TAILREC.BASE,5),(TAILREC.RATE,0),(POSSTAT.FAILRUN,1),(TAILSTAT.BUSY,0)] (fun h => {h with goAt := [900,1500]}) up)
def w2 : State :=
  (T 3 [(TAILCTL.ARM,1),(TAILCTL.MODE,4),(SERCFG.NBITS,8),(SERCFG.CLKP,100),(SERCFG.STMAX,3),(SERCHK.NSTAT,0),(SERCHK.CRCMAX,7),(CABLECFG.VPROP,200),(CABLECFG.ENCDLY,2),(CABLECFG.LATDLY,50),(TAILREC.EN,1),(TAILREC.BASE,5),(TAILREC.RATE,0),(POSSTAT.FAILRUN,1),(TAILSTAT.BUSY,1)] (fun h => {h with goAt := [900,1500]}) up)
def w3 : State :=
  (T 3 [(TAILCTL.ARM,1),(TAILCTL.MODE,4),(SERCFG.NBITS,8),(SERCFG.CLKP,100),(SERCFG.STMAX,3),(SERCHK.NSTAT,0),(SERCHK.CRCMAX,7),(CABLECFG.VPROP,200),(CABLECFG.ENCDLY,2),(CABLECFG.LATDLY,50),(TAILREC.EN,1),(TAILREC.BASE,5),(TAILREC.RATE,0),(POSSTAT.FAILRUN,1),(TAILSTAT.BUSY,0)] (fun h => {h with frame := some 900}) up)
def w4 : State :=
  (T 3 [(TAILCTL.ARM,1),(TAILCTL.MODE,4),(SERCFG.NBITS,8),(SERCFG.CLKP,100),(SERCFG.STMAX,3),(SERCHK.NSTAT,0),(SERCHK.CRCMAX,7),(CABLECFG.VPROP,200),(CABLECFG.ENCDLY,2),(CABLECFG.LATDLY,50),(TAILREC.EN,1),(TAILREC.BASE,5),(TAILREC.RATE,0),(POSSTAT.FAILRUN,1),(TAILSTAT.BUSY,0)] (fun h => {h with recDue := true}) up)

theorem witness_SerialEncoders :
    (let t : Nat := 1000; let k : Nat := 3; let s : State := w1; (decide (k < 128) && (decide (s.now ≤ t) &&
    (decide (s.on TAILCTL.ARM k = true) && (decide (s.rd TAILCTL.MODE k = 4) && (decide (s.flyBusy k = false) &&
    (let src := (Src.fn 0); (decide (src.ok = true) &&
    (decide (s.applies src (SERTRIG.WHOLE.adr k 0) = true)))))))))) = true ∧
    (let t : Nat := 1000; let k : Nat := 3; let s : State := w2; (decide (k < 128) && (decide (s.now ≤ t) &&
    (decide (s.on TAILCTL.ARM k = true) && (decide (s.rd TAILCTL.MODE k = 4) && (decide (s.flyBusy k = false) &&
    (let h := s.tailU k; (onCons false h.goAt fun g r => (decide (g ≤ t) &&
    (decide (s.on TAILSTAT.BUSY k = true))))))))))) = true ∧
    (let t : Nat := 1000; let k : Nat := 3; let s : State := w1; (decide (k < 128) && (decide (s.now ≤ t) &&
    (decide (s.on TAILCTL.ARM k = true) && (decide (s.rd TAILCTL.MODE k = 4) && (decide (s.flyBusy k = false) &&
    (let h := s.tailU k; (onCons false h.goAt fun g r => (decide (g ≤ t) &&
    (decide (s.on TAILSTAT.BUSY k = false))))))))))) = true ∧
    (let t : Nat := 1000; let k : Nat := 3; let s : State := w1; (decide (k < 128) && (decide (s.now ≤ t) &&
    (decide (s.on TAILCTL.ARM k = true) && (decide (s.rd TAILCTL.MODE k = 4) && (decide (s.flyBusy k = false) &&
    (let h := s.tailU k; (onCons false h.goAt fun g r => (decide (g ≤ t) && (decide (s.on TAILSTAT.BUSY k = false) &&
    (decide (h.errAt = none) && (decide (s.rd POSSTAT.FAILRUN k + 1 < s.rd SERCHK.CRCMAX k))))))))))))) = true ∧
    (let t : Nat := 200000; let k : Nat := 3; let s : State := w3; (decide (k < 128) && (decide (s.now ≤ t) &&
    (decide (s.on TAILCTL.ARM k = true) && (decide (s.rd TAILCTL.MODE k = 4) && (decide (s.flyBusy k = false) &&
    (let h := s.tailU k; (onSome false h.frame fun T => (decide (h.errAt = none) &&
    (decide (s.rd POSSTAT.FAILRUN k + 1 < s.rd SERCHK.CRCMAX k) &&
    (decide (T + ns (s.rd SERCFG.CLKP k) * 3 / 2 + us 2 ≤ t)))))))))))) = true ∧
    (let t : Nat := 200000; let k : Nat := 3; let s : State := w3; (decide (k < 128) && (decide (s.now ≤ t) &&
    (decide (s.on TAILCTL.ARM k = true) && (decide (s.rd TAILCTL.MODE k = 4) && (decide (s.flyBusy k = false) &&
    (let h := s.tailU k; (onSome false h.frame fun T => (decide (h.errAt = none) &&
    (decide (s.rd POSSTAT.FAILRUN k + 1 < s.rd SERCHK.CRCMAX k) && (let trt : Nat := 0;
    (decide (T + ns (s.rd SERCFG.CLKP k) * 3 / 2 + trt + s.rd SERCFG.STMAX k * ns (s.rd SERCFG.CLKP k) ≤ t))))))))))))) = true ∧
    (let t : Nat := 1000; let k : Nat := 3; let s : State := w3; (decide (k < 128) && (decide (s.now ≤ t) &&
    (decide (s.on TAILCTL.ARM k = true) && (decide (s.rd TAILCTL.MODE k = 4) && (decide (s.flyBusy k = false) &&
    (let h := s.tailU k; (onSome false h.frame fun T => (decide (h.errAt = none) &&
    (decide (s.rd POSSTAT.FAILRUN k + 1 < s.rd SERCHK.CRCMAX k) && (let data : Nat := 0; (let crc : Nat := 0;
    (decide (s.rd SERCHK.NSTAT k = 0) && (decide (data < 2 ^ s.rd SERCFG.NBITS k) &&
    (let good := crc6 (msbBits (s.rd SERCFG.NBITS k) data); (decide (crc % 64 ≠ 63 - good))))))))))))))))) = true ∧
    (let t : Nat := 1000; let k : Nat := 3; let s : State := w3; (decide (k < 128) && (decide (s.now ≤ t) &&
    (decide (s.on TAILCTL.ARM k = true) && (decide (s.rd TAILCTL.MODE k = 4) && (decide (s.flyBusy k = false) &&
    (let h := s.tailU k; (let trt : Nat := 128; (let data : Nat := 0; (let crc : Nat := 63; (onSome false h.frame fun T =>
    (decide (s.rd SERCHK.NSTAT k = 0) && (decide (data < 2 ^ s.rd SERCFG.NBITS k) && (decide (h.delays = []) &&
    (decide (ns (s.rd CABLECFG.ENCDLY k) ≤ trt) && (decide (h.cond = 0) && (decide (h.samp = []) &&
    (decide (s.rd SERCHK.LIFELEN k = 0) && (decide (s.rd CABLECFG.VPROP k ≠ 0) &&
    ((decide (crc % 64 = 63 - crc6 (msbBits (s.rd SERCFG.NBITS k) data))) &&
    (decide (s.rd SERCFG.NBITS k ≤ 48)))))))))))))))))))))) = true ∧
    (let t : Nat := 1000; let k : Nat := 3; let s : State := w4; (decide (k < 128) && (decide (s.now ≤ t) &&
    (decide (s.on TAILCTL.ARM k = true) && (decide (s.rd TAILCTL.MODE k = 4) && (decide (s.flyBusy k = false) &&
    (let h := s.tailU k; (let b := s.rd TAILREC.BASE k * 32; (decide (s.on TAILREC.EN k = true) &&
    (decide (h.recDue = true) && ((onSome true h.recAt fun x => decide (x + ns (100 * s.rd TAILREC.RATE k) ≤ t)) &&
    (decide (b < 0x1800000) && (decide (s.isolated (68 + b / 0x40000) = false) &&
    (decide (s.isolated (201 + k / 16) = false))))))))))))))) = true := by decide +kernel

end SerialEncoders

namespace FeedbackLoss
def F (n : Nat) (l : List (RField × Nat)) (s : State) : State := l.foldl (fun s p => s.wr p.1 p.2 n) s
def run_ (n : Nat) (f : ChRun → ChRun) (s : State) : State := s.modCh n (fun c => {c with run := f c.run})
def T (k : Nat) (l : List (RField × Nat)) (f : TailH → TailH) (s : State) : State := (F k l s).modTail k f
def w1 : State :=
  (T 3 [(TAILCTL.ARM,1),(TAILCTL.DIFF,1),(TAILCTL.MODE,2),(TAILCTL.FRESH,10),(LOSSCTL.EN,0),(LOSSCTL.LBRK,1),(LOSSCTL.FRESHEN,1),(LOSSCTL.GRP,5),(LOSSCTL.GRACE,0),(LOSSSTAT.LOSS,0),(LOSSSTAT.COUNT,255)] (fun h => {h with edgeAt := some 800}) (F 43 [(CHSTAT.STATE,2)] up))
def w2 : State :=
  (T 3 [(TAILCTL.ARM,1),(TAILCTL.DIFF,1),(TAILCTL.MODE,1),(TAILCTL.FRESH,10),(LOSSCTL.EN,0),(LOSSCTL.LBRK,1),(LOSSCTL.FRESHEN,1),(LOSSCTL.GRP,5),(LOSSCTL.GRACE,0),(LOSSSTAT.LOSS,0),(LOSSSTAT.COUNT,255)] (fun h => {h with edgeAt := some 800}) (F 43 [(CHSTAT.STATE,2)] up))
def w3 : State :=
  (T 3 [(TAILCTL.ARM,1),(TAILCTL.DIFF,1),(TAILCTL.MODE,1),(TAILCTL.FRESH,10),(LOSSCTL.EN,0),(LOSSCTL.LBRK,1),(LOSSCTL.FRESHEN,1),(LOSSCTL.GRP,5),(LOSSCTL.GRACE,0),(LOSSSTAT.LOSS,1),(LOSSSTAT.COUNT,255)] (fun h => {h with cond := 1, cause := 3, samp := [⟨1,2⟩]}) (F 43 [(CHSTAT.STATE,2)] up))
def w4 : State :=
  (T 3 [(TAILCTL.ARM,1),(TAILCTL.DIFF,1),(TAILCTL.MODE,1),(TAILCTL.FRESH,10),(LOSSCTL.EN,0),(LOSSCTL.LBRK,1),(LOSSCTL.FRESHEN,1),(LOSSCTL.GRP,5),(LOSSCTL.GRACE,0),(LOSSSTAT.LOSS,1),(LOSSSTAT.COUNT,255)] (fun h => {h with cond := 1, grace := some (900,5)}) (F 43 [(CHSTAT.STATE,2)] up))
def w5 : State :=
  (T 3 [(TAILCTL.ARM,1),(TAILCTL.MODE,1),(FSSTAT.STATE,1),(FSCTL.GRP,5),(FSCTL.FSTMO,2),(FSCTL.FSBRK,1),(FSTHR.THR,3),(VEL_LO.VALUE,196609),(VEL_HI.VALUE,0),(VELSTAT.STALE,0)] (fun h => {h with fsAt := 801}) (F 42 [(CHSTAT.STATE,4)] (run_ 42 (fun r => {r with start := some ⟨1,some 2,false,0,true,false,none⟩}) (F 41 [(CHSTAT.STATE,2)] up))))
def w6 : State :=
  (T 3 [(TAILCTL.ARM,1),(TAILCTL.MODE,1),(FSSTAT.STATE,2),(FSCTL.GRP,5),(FSCTL.FSTMO,2),(FSCTL.FSBRK,1),(FSTHR.THR,3),(VEL_LO.VALUE,196609),(VEL_HI.VALUE,0),(VELSTAT.STALE,0)] (fun h => {h with fsAt := 801}) {((F 42 [(CHSTAT.STATE,4)] (run_ 42 (fun r => {r with start := some ⟨1,some 2,false,0,true,false,none⟩}) (F 41 [(CHSTAT.STATE,2)] up)))) with grp := (up.modGr 5 (fun g => {g with brake := true})).grp})

theorem witness_FeedbackLoss :
    (let t : Nat := 8100000; let k : Nat := 3; let s : State := w1; (decide (k < 128) && (decide (s.now ≤ t) &&
    (decide (s.on TAILCTL.ARM k = true) && ((List.all (List.range 32) fun i => decide (s.on SPCTL.EN i = false)) &&
    (decide (s.rd EMUCTL.SRC k = 0) && (decide ((s.tailU k).emuWant = 0) && (let h := s.tailU k;
    (decide (s.flyBusy k = false) && (decide (s.on LOSSSTAT.LOSS k = false) && (decide (h.cond = 0) &&
    (decide (h.grace = none) && (let mask : Nat := 1; (decide (mask < 8) && (decide (s.on TAILCTL.DIFF k = true) &&
    (decide (s.rd TAILCTL.MODE k = 2) && (decide (s.on LOSSCTL.LBRK k = true) && (decide (mask ≠ 0))))))))))))))))))) = true ∧
    (let t : Nat := 8100000; let k : Nat := 3; let s : State := w2; (decide (k < 128) && (decide (s.now ≤ t) &&
    (decide (s.on TAILCTL.ARM k = true) && ((List.all (List.range 32) fun i => decide (s.on SPCTL.EN i = false)) &&
    (decide (s.rd EMUCTL.SRC k = 0) && (decide ((s.tailU k).emuWant = 0) && (let h := s.tailU k;
    (let j := s.rd LOSSCTL.GRP k; (decide (s.flyBusy k = false) && (decide (s.on LOSSSTAT.LOSS k = false) &&
    (decide (h.cond = 0) && (decide (h.grace = none) && (let n : Nat := 43; (decide (s.counting k = true) &&
    (decide (s.rd TAILCTL.FRESH k ≠ 0) && (onSome false h.edgeAt fun e => (decide (e + us (s.rd TAILCTL.FRESH k) ≤ t) &&
    (decide (s.on LOSSCTL.FRESHEN k = true) && (decide (n / 8 = j) && (decide (s.rd CHSTAT.STATE n = 2) &&
    (decide (s.paired n = false) && (decide (s.on PWMSTAT.SAFE n = false)))))))))))))))))))))))) = true ∧
    (let t : Nat := 8100000; let k : Nat := 3; let s : State := w3; (decide (k < 128) && (decide (s.now ≤ t) &&
    (decide (s.on TAILCTL.ARM k = true) && ((List.all (List.range 32) fun i => decide (s.on SPCTL.EN i = false)) &&
    (decide (s.rd EMUCTL.SRC k = 0) && (decide ((s.tailU k).emuWant = 0) && (let h := s.tailU k;
    (decide (s.on LOSSSTAT.LOSS k = true) && (decide (h.cond = 1) && (let mask : Nat := 0; (decide (h.grace = none) &&
    ((decide ((s.rd TAILSTAT.LBRK k &&& (7 - mask % 8)) &&& s.usedPairs k = 0))))))))))))))) = true ∧
    (let t : Nat := 8100000; let k : Nat := 3; let s : State := w4; (decide (k < 128) && (decide (s.now ≤ t) && (decide (s.on TAILCTL.ARM k = true) && ((List.all (List.range 32) fun i => decide (s.on SPCTL.EN i = false)) && (decide (s.rd EMUCTL.SRC k = 0) && (decide ((s.tailU k).emuWant = 0) && (let h := s.tailU k; (let j := s.rd LOSSCTL.GRP k; (decide (s.on LOSSSTAT.LOSS k = true) && (decide (h.cond = 1) && (match h.grace with | some (e, g) => (decide (e ≤ t) && (decide (g = j))) | _ => false)))))))))))) = true ∧
    (let t : Nat := 81000000; let k : Nat := 3; let s : State := w5; (decide (k < 128) && (decide (s.now ≤ t) &&
    (decide (s.on TAILCTL.ARM k = true) && ((List.all (List.range 32) fun i => decide (s.on SPCTL.EN i = false)) &&
    (decide (s.rd EMUCTL.SRC k = 0) && (decide ((s.tailU k).emuWant = 0) && (let h := s.tailU k;
    (decide (s.flyBusy k = true) && (decide (s.on VELSTAT.STALE k = false) &&
    (decide (s.rd FSTHR.THR k * 65536 < mag (s.vel k)) && (let g := s.rd FSCTL.GRP k; ((List.all (List.range 128) fun m =>
    (if decide (m ≠ k) then (if decide (s.rd FSCTL.GRP m = g) then decide (s.on FSSTAT.STATE m = false) else true) else true)) &&
    (decide (s.rd FSSTAT.STATE k = 1) && (decide (h.fsAt - 1 + us (4 * s.rd FSCTL.FSTMO k) ≤ t) &&
    (decide ((s.gr g).brake = false))))))))))))))))) = true ∧
    (let t : Nat := 810000000; let k : Nat := 3; let s : State := w6; (decide (k < 128) && (decide (s.now ≤ t) &&
    (decide (s.on TAILCTL.ARM k = true) && ((List.all (List.range 32) fun i => decide (s.on SPCTL.EN i = false)) &&
    (decide (s.rd EMUCTL.SRC k = 0) && (decide ((s.tailU k).emuWant = 0) && (let h := s.tailU k;
    (decide (s.flyBusy k = true) && (decide (s.on VELSTAT.STALE k = false) &&
    (decide (s.rd FSTHR.THR k * 65536 < mag (s.vel k)) && (let g := s.rd FSCTL.GRP k; ((List.all (List.range 128) fun m =>
    (if decide (m ≠ k) then (if decide (s.rd FSCTL.GRP m = g) then decide (s.on FSSTAT.STATE m = false) else true) else true)) &&
    (decide (s.rd FSSTAT.STATE k = 2) && (decide (h.fsAt - 1 + ms (10 * s.rd FSCTL.FSBRK k) ≤ t)))))))))))))))) = true := by decide +kernel

end FeedbackLoss

namespace EncoderEmulation_1
def F (n : Nat) (l : List (RField × Nat)) (s : State) : State := l.foldl (fun s p => s.wr p.1 p.2 n) s
def T (k : Nat) (l : List (RField × Nat)) (f : TailH → TailH) (s : State) : State := (F k l s).modTail k f
def w1 : State :=
  (T 3 [(EMUCTL.SRC,2),(TAILCTL.ARM,1),(TAILCTL.MODE,1),(EMUCTL.ACH,20),(EMUSTAT.PATH,2),(EMURATIO.RATIO,16777216),(TAILSTAT.LEVEL,0)] (fun h => {h with emuSamp := [⟨5000,7⟩,⟨1,5⟩], emuC := 5}) (F 20 [(PINCTL.OMODE,1)] (F 21 [(PINCTL.OMODE,2)] up)))
def w2 : State :=
  (T 3 [(EMUCTL.SRC,2),(TAILCTL.ARM,1),(TAILCTL.MODE,1),(EMUCTL.ACH,20),(EMUSTAT.PATH,2),(EMURATIO.RATIO,16777216),(TAILSTAT.LEVEL,0)] (fun h => {h with emuSamp := [⟨5000,7⟩,⟨1,5⟩], emuC := 4}) (F 20 [(PINCTL.OMODE,1)] (F 21 [(PINCTL.OMODE,2)] up)))

theorem witness_EncoderEmulation_1 :
    (let t : Nat := 100000; let k : Nat := 3; let s : State := w1; (decide (k < 128) && (decide (s.now ≤ t) &&
    (decide (s.on EMUCTL.ZEN k = false) && (decide (s.on EMUCTL.INV k = false) && (let h := s.tailU k;
    (let a := s.advance t; (let ach := s.rd EMUCTL.ACH k; (let gap := a.emuTarget k - h.emuC;
    (decide (s.rd EMUSTAT.PATH k = 2) && (decide (h.emuSamp ≠ []) && (decide (ach < 1023) &&
    (decide (gap = 0)))))))))))))) = true ∧
    (let t : Nat := 100000; let k : Nat := 3; let s : State := w2; (decide (k < 128) && (decide (s.now ≤ t) &&
    (decide (s.on EMUCTL.ZEN k = false) && (decide (s.on EMUCTL.INV k = false) && (let h := s.tailU k;
    (let a := s.advance t; (let ach := s.rd EMUCTL.ACH k; (let gap := a.emuTarget k - h.emuC;
    (let x := s.fineAt 0 t + a.span 0 (ns 16); (decide (s.rd EMUSTAT.PATH k = 2) && (decide (h.emuSamp ≠ []) &&
    (decide (ach < 1023) && (let b : Bool := false; (decide (1 ≤ gap) && (decide (gap ≤ 4096) &&
    (decide (h.emuC % 4 = (if b then 1 else 0)) && (decide (h.emuLast + a.span 0 (ns 20) ≤ x) &&
    (decide (h.emuLast + a.span 0 (ns 10) ≤ x) && (let n := if b then ach + 1 else ach; (decide (s.etb n = 0) &&
    (decide (s.emuOk n = true) && (decide ((s.ch n).dl.pend = []) &&
    (decide ((s.ch n).dl.lastAt = none))))))))))))))))))))))))) = true := by decide +kernel

end EncoderEmulation_1

namespace EncoderEmulation_2
def F (n : Nat) (l : List (RField × Nat)) (s : State) : State := l.foldl (fun s p => s.wr p.1 p.2 n) s
def T (k : Nat) (l : List (RField × Nat)) (f : TailH → TailH) (s : State) : State := (F k l s).modTail k f
def w1 : State :=
  (T 3 [(EMUCTL.SRC,1),(TAILCTL.ARM,1),(TAILCTL.MODE,1),(EMUCTL.ACH,20),(EMUSTAT.PATH,0),(EMURATIO.RATIO,16777216),(TAILSTAT.LEVEL,0)] (fun h => {h with emuWant := 1, emuSince := 1000}) (F 20 [(PINCTL.OMODE,1)] (F 21 [(PINCTL.OMODE,2)] up)))

theorem witness_EncoderEmulation_2 :
    (let t : Nat := 100000; let k : Nat := 3; let s : State := w1; (decide (k < 128) && (decide (s.now ≤ t) &&
    (decide (s.on EMUCTL.ZEN k = false) && (decide (s.on EMUCTL.INV k = false) && (let h := s.tailU k;
    (let a := s.advance t; (let ach := s.rd EMUCTL.ACH k; (decide (s.rd EMUCTL.SRC k = 1) && (decide (s.serial k = false) &&
    (decide (s.rd EMUSTAT.PATH k ≠ 1) && (decide (h.emuWant = 1) && (decide (h.emuSince + ns 40 ≤ t) &&
    (decide (a.emuQuiet k = true) && ((List.all [ach, ach + 1] fun m => (decide (m < 1024) && (decide (s.emuOk m = true) &&
    decide (s.paired m = false))))))))))))))))))) = true := by decide +kernel

end EncoderEmulation_2

namespace Spools
def F (n : Nat) (l : List (RField × Nat)) (s : State) : State := l.foldl (fun s p => s.wr p.1 p.2 n) s
def Sp (k : Nat) (l : List (RField × Nat)) (f : SpH → SpH) (s : State) : State := (F k l s).modSp k f
def w1 : State :=
  (Sp 3 [(SPGEOM.TEETH,10),(SPGEOM.MTPT,100),(SPTOL.LATE,24),(SPTOL.EARLY,8),(SPSTAT.STATE,3),(SPCTL.EN,0),(SPSTAT.LOSSES,7)] (fun h => {h with edges := [⟨1149999,true⟩,⟨90000000,true⟩], tk := 1000000, num := 100000, pos := 3, rev := 2, lastT := some 1000000, pieces := [⟨1000000,65536*2300,100000,6553600⟩], top := some 2399}) (F 3 [(GAPMAP.MISS,1)] up))
def w2 : State :=
  (Sp 3 [(SPGEOM.TEETH,10),(SPGEOM.MTPT,100),(SPTOL.LATE,24),(SPTOL.EARLY,8),(SPSTAT.STATE,3),(SPCTL.EN,0),(SPSTAT.LOSSES,7)] (fun h => {h with edges := [⟨1050000,true⟩,⟨90000000,true⟩], tk := 1000000, num := 100000, pos := 3, rev := 2, lastT := some 1000000, pieces := [⟨1000000,65536*2300,100000,6553600⟩], top := some 2399}) (F 3 [(GAPMAP.MISS,1)] up))
def w3 : State :=
  (Sp 3 [(SPGEOM.TEETH,10),(SPGEOM.MTPT,100),(SPTOL.LATE,24),(SPTOL.EARLY,8),(SPSTAT.STATE,3),(SPCTL.EN,0),(SPSTAT.LOSSES,255)] (fun h => {h with edges := [⟨1100000,false⟩], tk := 1000000, num := 100000, pos := 3, rev := 2, lastT := some 1000000, pieces := [⟨1000000,65536*2300,100000,6553600⟩], top := some 2399}) up)
def w4 : State :=
  (Sp 3 [(SPGEOM.TEETH,10),(SPGEOM.MTPT,100),(SPTOL.LATE,24),(SPTOL.EARLY,8),(SPSTAT.STATE,2),(SPCTL.EN,1),(SPSTAT.LOSSES,7)] (fun h => {h with edges := [⟨1050000,true⟩,⟨90000000,true⟩], tk := 1000000, num := 100000, pos := 3, rev := 2, lastT := some 1000000, pieces := [⟨1000000,65536*2300,100000,6553600⟩], top := some 2399}) (F 3 [(GAPMAP.MISS,1)] up))
def w5 : State :=
  (Sp 3 [(SPGEOM.TEETH,10),(SPGEOM.MTPT,100),(SPTOL.LATE,24),(SPTOL.EARLY,8),(SPSTAT.STATE,3),(SPCTL.EN,1),(SPSTAT.LOSSES,7)] (fun h => {h with edges := [⟨1050000,true⟩,⟨90000000,true⟩], tk := 1000000, num := 100000, pos := 3, rev := 2, lastT := some 1000000, pieces := [⟨1000000,65536*2300,100000,6553600⟩], top := some 2399}) (F 3 [(GAPMAP.MISS,1)] up))
def w6 : State :=
  (Sp 3 [(SPGEOM.TEETH,10),(SPGEOM.MTPT,100),(SPTOL.LATE,24),(SPTOL.EARLY,8),(SPSTAT.STATE,2),(SPCTL.EN,0),(SPSTAT.LOSSES,7)] (fun h => {h with edges := [⟨1050000,true⟩,⟨90000000,true⟩], tk := 1000000, num := 100000, pos := 3, rev := 2, lastT := some 1000000, pieces := [⟨1000000,65536*2300,100000,6553600⟩], top := some 2399}) (F 3 [(GAPMAP.MISS,1)] up))
def w7 : State :=
  (Sp 3 [(SPGEOM.TEETH,10),(SPGEOM.MTPT,100),(SPTOL.LATE,24),(SPTOL.EARLY,8),(SPSTAT.STATE,1),(SPCTL.EN,1),(SPSTAT.LOSSES,255)] (fun h => {h with ends := [(1200000,3,true)]}) (up.modCh 3 (fun c => {c with dl := {c.dl with pend := [⟨1600*64,1,.slot 3,false,none⟩,⟨400000*64,1,.slot 3,false,none⟩,⟨400000*64,1,.prog,false,none⟩]}})))

theorem witness_Spools :
    (let t : Nat := 1250000; let i : Nat := 3; let s : State := w1; (decide (i < 32) && (decide (s.now ≤ t) &&
    (decide (s.aevs i = []) && ((List.all (List.range 18) fun k =>
    (decide ((s.tbH k).mode ≠ 2) || decide ((s.tbH k).spool ≠ i))) && (let h := s.spU i;
    (let live : Bool := (decide (s.rd SPSTAT.STATE i = 3) || decide (s.rd SPSTAT.STATE i = 4)); (let g := s.gapOf i h.pos;
    (onCons false h.edges fun e rest => (decide (e.fwd = true) && (decide (live) && (decide (h.now0 = false) &&
    (decide (h.bare = false) && (decide (s.on SPCTL.PRED i = false) && (let x := s.fineAt 0 e.at_; (let iv := x - h.tk;
    (decide (0 < h.num) && (decide (x < h.tk + (g + 1) * s.rd SPTOL.LATE i * h.num / (16 * h.den)) &&
    (decide ((g + 1) * s.rd SPTOL.EARLY i * h.num ≤ iv * 16 * h.den) &&
    (decide (h.tk + (g + 1) * h.num / h.den ≤ x))))))))))))))))))))) = true ∧
    (let t : Nat := 1250000; let i : Nat := 3; let s : State := w2; (decide (i < 32) && (decide (s.now ≤ t) &&
    (decide (s.aevs i = []) && ((List.all (List.range 18) fun k =>
    (decide ((s.tbH k).mode ≠ 2) || decide ((s.tbH k).spool ≠ i))) && (let h := s.spU i; (let d := s.fineAt 0 t;
    (let g := s.gapOf i h.pos; (decide (s.rd SPSTAT.STATE i = 3) && (decide (h.bare = false) && (decide (0 < h.num) &&
    (decide (s.rd SPCTL.SRC i ≠ 3) && (decide (h.tk + (g + 1) * h.num / h.den ≤ d)))))))))))))) = true ∧
    (let t : Nat := 1250000; let i : Nat := 3; let s : State := w3; (decide (i < 32) && (decide (s.now ≤ t) &&
    (decide (s.aevs i = []) && ((List.all (List.range 18) fun k =>
    (decide ((s.tbH k).mode ≠ 2) || decide ((s.tbH k).spool ≠ i))) && (let h := s.spU i;
    (let live : Bool := (decide (s.rd SPSTAT.STATE i = 3) || decide (s.rd SPSTAT.STATE i = 4));
    (onCons false h.edges fun e rest => (decide (e.fwd = false) && (decide (live))))))))))) = true ∧
    (let t : Nat := 1250000; let i : Nat := 3; let s : State := w2; (decide (i < 32) && (decide (s.now ≤ t) &&
    (decide (s.aevs i = []) && ((List.all (List.range 18) fun k =>
    (decide ((s.tbH k).mode ≠ 2) || decide ((s.tbH k).spool ≠ i))) && (let h := s.spU i; (let d := s.fineAt 0 t;
    (let live : Bool := (decide (s.rd SPSTAT.STATE i = 3) || decide (s.rd SPSTAT.STATE i = 4)); (let g := s.gapOf i h.pos;
    (let l := h.tk + (g + 1) * s.rd SPTOL.LATE i * h.num / (16 * h.den); (decide (live) && (decide (0 < h.num) &&
    (decide (s.rd SPCTL.SRC i ≠ 3) && (decide (l ≤ d))))))))))))))) = true ∧
    (let t : Nat := 1250000; let i : Nat := 3; let s : State := w4; (decide (i < 32) && (decide (s.now ≤ t) &&
    (decide (s.aevs i = []) && ((List.all (List.range 18) fun k =>
    (decide ((s.tbH k).mode ≠ 2) || decide ((s.tbH k).spool ≠ i))) && (let src := (Src.fn 0); (let w := 0x80000000#32;
    (decide (src.ok = true) && (decide (s.applies src (SPCTL.WHOLE.adr i 0) = true) && (decide (SPCTL.EN.of w = 1) &&
    (decide (SPCTL.DESYNC.of w = 0) && (decide (s.on SPCTL.EN i = true))))))))))))) = true ∧
    (let t : Nat := 1250000; let i : Nat := 3; let s : State := w5; (decide (i < 32) && (decide (s.now ≤ t) &&
    (decide (s.aevs i = []) && ((List.all (List.range 18) fun k =>
    (decide ((s.tbH k).mode ≠ 2) || decide ((s.tbH k).spool ≠ i))) &&
    (let live : Bool := (decide (s.rd SPSTAT.STATE i = 3) || decide (s.rd SPSTAT.STATE i = 4)); (let src := (Src.fn 0);
    (let w := 0x80000000#32; (decide (src.ok = true) && (decide (s.applies src (SPCTL.WHOLE.adr i 0) = true) &&
    (decide (SPCTL.EN.of w = 1) && (decide (SPCTL.SYNCNOW.of w = 0) && (decide (s.on SPCTL.EN i = true) &&
    (decide (live))))))))))))))) = true ∧
    (let t : Nat := 1250000; let i : Nat := 3; let s : State := w6; (decide (i < 32) && (decide (s.now ≤ t) &&
    (decide (s.aevs i = []) && ((List.all (List.range 18) fun k =>
    (decide ((s.tbH k).mode ≠ 2) || decide ((s.tbH k).spool ≠ i))) && (let src := (Src.fn 0); (let w := 0x80000000#32;
    (decide (src.ok = true) && (decide (s.applies src (SPCTL.WHOLE.adr i 0) = true) && (decide (SPCTL.EN.of w = 1) &&
    (decide (SPCTL.SYNCNOW.of w = 0) && (decide (SPCTL.DESYNC.of w = 0) &&
    (decide (s.on SPCTL.EN i = false)))))))))))))) = true ∧
    (let t : Nat := 1250000; let i : Nat := 3; let s : State := w5; (decide (i < 32) && (decide (s.now ≤ t) &&
    (decide (s.aevs i = []) && ((List.all (List.range 18) fun k =>
    (decide ((s.tbH k).mode ≠ 2) || decide ((s.tbH k).spool ≠ i))) &&
    (let live : Bool := (decide (s.rd SPSTAT.STATE i = 3) || decide (s.rd SPSTAT.STATE i = 4)); (let src := (Src.fn 0);
    (let w := 0x08000000#32; (decide (src.ok = true) && (decide (s.applies src (SPCTL.WHOLE.adr i 0) = true) &&
    (decide (SPCTL.EN.of w = 0) && (decide (SPCTL.DESYNC.of w = 0) && (decide (s.on SPCTL.EN i = true) &&
    (decide (live))))))))))))))) = true ∧
    (let t : Nat := 1250000; let i : Nat := 3; let s : State := w7; (decide (i < 32) && (decide (s.now ≤ t) && (decide (s.aevs i = []) && ((List.all (List.range 18) fun k => (decide ((s.tbH k).mode ≠ 2) || decide ((s.tbH k).spool ≠ i))) && (let h := s.spU i; (match h.ends with | [(E, n, l)] => (decide (E ≤ t) && (decide (n < 1024) && (decide (s.paired n = false) && (decide ((s.ch n).run.slot = none) && (decide (s.rd CHSTAT.STATE n = 0)))))) | _ => false))))))) = true := by decide +kernel

end Spools

namespace RemoteSpools
def F (n : Nat) (l : List (RField × Nat)) (s : State) : State := l.foldl (fun s p => s.wr p.1 p.2 n) s
def Sp (k : Nat) (l : List (RField × Nat)) (f : SpH → SpH) (s : State) : State := (F k l s).modSp k f
def w1 : State :=
  (Sp 3 [(SPGEOM.TEETH,10),(SPGEOM.MTPT,100),(SPTOL.LATE,24),(SPTOL.EARLY,8),(SPSTAT.STATE,1),(SPCTL.EN,1),(SPSTAT.LOSSES,7),(SPCTL.SRC,1),(SPCTL.BCAST,0),(SPSRC.RDEV,2),(SPSRC.RSPOOL,4),(SPSRC.REMAGE,1)] (fun h => {h with rev := 2}) up)
def w2 : State :=
  (Sp 3 [(SPGEOM.TEETH,10),(SPGEOM.MTPT,100),(SPTOL.LATE,24),(SPTOL.EARLY,8),(SPSTAT.STATE,4),(SPCTL.EN,1),(SPSTAT.LOSSES,7),(SPCTL.SRC,1),(SPCTL.BCAST,1),(SPSRC.RDEV,2),(SPSRC.RSPOOL,4),(SPSRC.REMAGE,1)] (fun h => {h with rev := 2}) up)
def w3 : State :=
  (Sp 3 [(SPGEOM.TEETH,10),(SPGEOM.MTPT,100),(SPTOL.LATE,24),(SPTOL.EARLY,8),(SPSTAT.STATE,1),(SPCTL.EN,1),(SPSTAT.LOSSES,7),(SPCTL.SRC,3),(SPCTL.BCAST,0),(SPSRC.RDEV,2),(SPSRC.RSPOOL,4),(SPSRC.REMAGE,1)] (fun h => {h with rev := 2}) up)
def w4 : State :=
  (Sp 3 [(SPGEOM.TEETH,10),(SPGEOM.MTPT,100),(SPTOL.LATE,24),(SPTOL.EARLY,8),(SPSTAT.STATE,3),(SPCTL.EN,1),(SPSTAT.LOSSES,7),(SPCTL.SRC,3),(SPCTL.BCAST,0),(SPSRC.RDEV,2),(SPSRC.RSPOOL,4),(SPSRC.REMAGE,1)] (fun h => {h with rev := 2, tau := some 1000000, losses := 7, pieces := [⟨1000000,65536*2300,10000000,6553600⟩], top := some 2399, tk := 1000000, num := 100}) up)
def w5 : State :=
  (Sp 3 [(SPGEOM.TEETH,10),(SPGEOM.MTPT,100),(SPTOL.LATE,24),(SPTOL.EARLY,8),(SPSTAT.STATE,3),(SPCTL.EN,1),(SPSTAT.LOSSES,7),(SPCTL.SRC,3),(SPCTL.BCAST,0),(SPSRC.RDEV,2),(SPSRC.RSPOOL,4),(SPSRC.REMAGE,1)] (fun h => {h with rev := 2}) up)

theorem witness_RemoteSpools :
    (let t : Nat := 2250000; let i : Nat := 3; let s : State := w1; (decide (i < 32) && (decide (s.now ≤ t) &&
    (decide (s.aevs i = []) && ((List.all (List.range 18) fun k =>
    (decide ((s.tbH k).mode ≠ 2) || decide ((s.tbH k).spool ≠ i))) && (let src := (Src.fn 0); (decide (src.ok = true) &&
    (decide (s.readable src (SPANGLE.WHOLE.adr i 0) = true))))))))) = true ∧
    (let t : Nat := 2250000; let i : Nat := 3; let s : State := w2; (decide (i < 32) && (decide (s.now ≤ t) &&
    (decide (s.aevs i = []) && ((List.all (List.range 18) fun k =>
    (decide ((s.tbH k).mode ≠ 2) || decide ((s.tbH k).spool ≠ i))) && (let h := s.spU i; (let d := s.fineAt 0 t;
    (decide (s.isolated 209 = false) && (decide (s.on SPCTL.BCAST i = true) && (decide (h.sampled ≠ some (d / 64000)) &&
    (decide (s.rd SPSTAT.STATE i = 4) && (decide (0 < s.revLen i))))))))))))) = true ∧
    (let t : Nat := 2250000; let i : Nat := 3; let s : State := w3; (decide (i < 32) && (decide (s.now ≤ t) &&
    (decide (s.aevs i = []) && ((List.all (List.range 18) fun k =>
    (decide ((s.tbH k).mode ≠ 2) || decide ((s.tbH k).spool ≠ i))) &&
    (let r : SpRec := ({ dev := 2,   spool := 4,   tau := 19,   angle := 3604483,   rate := 600,   state := 3,   rev := 6,   losses := 7,   teeth := 10,   mtpt := 100 });
    (decide (s.on SPCTL.EN i = true) && (decide (s.rd SPCTL.SRC i = 3) && (decide (r.dev = s.rd SPSRC.RDEV i) &&
    (decide (r.spool = s.rd SPSRC.RSPOOL i) && (decide (r.state = 3) && (decide (r.rate ≠ 0) &&
    (decide (r.teeth < 2 ^ 11) && (decide (r.mtpt < 2 ^ 13) && (decide (s.spLive i = false)))))))))))))))) = true ∧
    (let t : Nat := 2250000; let i : Nat := 3; let s : State := w4; (decide (i < 32) && (decide (s.now ≤ t) &&
    (decide (s.aevs i = []) && ((List.all (List.range 18) fun k =>
    (decide ((s.tbH k).mode ≠ 2) || decide ((s.tbH k).spool ≠ i))) && (let h := s.spU i;
    (let r : SpRec := ({ dev := 2,   spool := 4,   tau := 19,   angle := 3604483,   rate := 600,   state := 3,   rev := 6,   losses := 7,   teeth := 10,   mtpt := 100 });
    (decide (s.on SPCTL.EN i = true) && (decide (s.rd SPCTL.SRC i = 3) && (decide (r.dev = s.rd SPSRC.RDEV i) &&
    (decide (r.spool = s.rd SPSRC.RSPOOL i) && (decide (r.state = 3) && (decide (r.rate ≠ 0) &&
    (decide (r.teeth < 2 ^ 11) && (decide (r.mtpt < 2 ^ 13) && (decide (s.spLive i = true) &&
    (decide (r.losses = h.losses) && (decide (s.on SPCTL.CATCHUP i = false) && (decide (s.teeth i = r.teeth) &&
    (decide (s.mtpt i = r.mtpt))))))))))))))))))))) = true ∧
    (let t : Nat := 2250000; let i : Nat := 3; let s : State := w5; (decide (i < 32) && (decide (s.now ≤ t) &&
    (decide (s.aevs i = []) && ((List.all (List.range 18) fun k =>
    (decide ((s.tbH k).mode ≠ 2) || decide ((s.tbH k).spool ≠ i))) && (let h := s.spU i;
    (let r : SpRec := ({ dev := 2,   spool := 4,   tau := 19,   angle := 3604483,   rate := 600,   state := 3,   rev := 6,   losses := 7,   teeth := 10,   mtpt := 100 });
    (decide (s.on SPCTL.EN i = true) && (decide (s.rd SPCTL.SRC i = 3) && (decide (r.dev = s.rd SPSRC.RDEV i) &&
    (decide (r.spool = s.rd SPSRC.RSPOOL i) && (decide (r.state = 3) && (decide (r.rate ≠ 0) &&
    (decide (r.teeth < 2 ^ 11) && (decide (r.mtpt < 2 ^ 13) && (decide (s.spLive i = true) &&
    (decide (r.losses ≠ h.losses)))))))))))))))))) = true ∧
    (let t : Nat := 2250000; let i : Nat := 3; let s : State := w4; (decide (i < 32) && (decide (s.now ≤ t) &&
    (decide (s.aevs i = []) && ((List.all (List.range 18) fun k =>
    (decide ((s.tbH k).mode ≠ 2) || decide ((s.tbH k).spool ≠ i))) && (let h := s.spU i; (let d := s.fineAt 0 t;
    (onSome false h.tau fun x => (decide (s.rd SPCTL.SRC i = 3) && (decide (s.spLive i = true) &&
    (let l := x + us (s.rd SPSRC.REMAGE i); (decide (l ≤ d))))))))))))) = true := by decide +kernel

end RemoteSpools

namespace AngleEvents_1
def F (n : Nat) (l : List (RField × Nat)) (s : State) : State := l.foldl (fun s p => s.wr p.1 p.2 n) s
def Sp (k : Nat) (l : List (RField × Nat)) (f : SpH → SpH) (s : State) : State := (F k l s).modSp k f
def Sl (i j : Nat) (l : List (RField × Nat)) (f : SlotH → SlotH) (s : State) : State := (l.foldl (fun s p => s.wr p.1 p.2 i j) s).modAev i j f
def w1 : State :=
  (Sl 3 5 [(AEVANG.ANG,350),(AEVOFF.OFF,0),(AEVSTAT.FIRES,65535)] id (Sp 3 [(SPGEOM.TEETH,10),(SPGEOM.MTPT,100),(SPTOL.LATE,24),(SPTOL.EARLY,8),(SPSTAT.STATE,1),(SPCTL.EN,1),(SPSTAT.LOSSES,7)] (fun h => {h with rev := 2}) up))
def w2 : State :=
  (Sl 3 5 [(AEVANG.ANG,1000),(AEVOFF.OFF,0),(AEVSTAT.FIRES,65535)] id (Sp 3 [(SPGEOM.TEETH,10),(SPGEOM.MTPT,100),(SPTOL.LATE,24),(SPTOL.EARLY,8),(SPSTAT.STATE,1),(SPCTL.EN,1),(SPSTAT.LOSSES,7)] (fun h => {h with rev := 2}) up))
def w3 : State :=
  (Sl 3 5 [(AEVANG.ANG,350),(AEVOFF.OFF,0),(AEVSTAT.FIRES,65535)] id (Sp 3 [(SPGEOM.TEETH,10),(SPGEOM.MTPT,100),(SPTOL.LATE,24),(SPTOL.EARLY,8),(SPSTAT.STATE,3),(SPCTL.EN,1),(SPSTAT.LOSSES,7)] (fun h => {h with tk := 1000000, num := 10000000, pos := 3, rev := 2, lastT := some 1000000, pieces := [⟨1000000,65536*2300,10000000,6553600⟩], top := some 2399}) up))

theorem witness_AngleEvents_1 :
    (let t : Nat := 1250000; let i : Nat := 3; let j : Nat := 5; let s : State := w1; (decide (i < 32) &&
    (decide (j < 64) && (decide (s.now ≤ t) && (decide ((s.aevU i j).fix = none) && (decide ((s.aevU i j).ra = none) &&
    (let src := (Src.fn 0); (let w := 0x40000000#32; (decide (src.ok = true) &&
    (decide (s.applies src (AEVCTL.WHOLE.adr i j) = true) &&
    ((decide (AEVCTL.ACT.of w = 0) || decide (AEVCTL.ACT.of w = 3)) && (decide (AEVCTL.END.of w = 0))))))))))))) = true ∧
    (let t : Nat := 1250000; let i : Nat := 3; let j : Nat := 5; let s : State := w1; (decide (i < 32) &&
    (decide (j < 64) && (decide (s.now ≤ t) && (decide ((s.aevU i j).fix = none) && (decide ((s.aevU i j).ra = none) &&
    (let ang := s.rd AEVANG.ANG i j; (let src := (Src.fn 0); (let w := 0x40000000#32; (decide (src.ok = true) &&
    (decide (s.applies src (AEVCTL.WHOLE.adr i j) = true) &&
    ((decide (AEVCTL.ACT.of w = 0) || decide (AEVCTL.ACT.of w = 3)) && (decide (AEVCTL.END.of w = 0) &&
    (onSome false (([(Instr.aevctlOnce t src i j w, 1), (Instr.aevctlEvery t src i j w, 2), (Instr.aevctlOnceRev t src i j w, 3)])[0]?) fun c =>
    (decide (ang < s.revLen i) && (decide (s.spLive i = false))))))))))))))))) = true ∧
    (let t : Nat := 1250000; let i : Nat := 3; let j : Nat := 5; let s : State := w2; (decide (i < 32) &&
    (decide (j < 64) && (decide (s.now ≤ t) && (decide ((s.aevU i j).fix = none) && (decide ((s.aevU i j).ra = none) &&
    (let ang := s.rd AEVANG.ANG i j; (let src := (Src.fn 0); (let w := 0x40000000#32; (decide (src.ok = true) &&
    (decide (s.applies src (AEVCTL.WHOLE.adr i j) = true) &&
    ((decide (AEVCTL.ACT.of w = 0) || decide (AEVCTL.ACT.of w = 3)) && (decide (AEVCTL.END.of w = 0) &&
    (onSome false (([(Instr.aevctlOnce t src i j w, 1), (Instr.aevctlEvery t src i j w, 2), (Instr.aevctlOnceRev t src i j w, 3)])[0]?) fun c =>
    (decide (s.revLen i ≤ ang)))))))))))))))) = true ∧
    (let t : Nat := 1250000; let i : Nat := 3; let j : Nat := 5; let s : State := w3; (decide (i < 32) &&
    (decide (j < 64) && (decide (s.now ≤ t) && (decide ((s.aevU i j).fix = none) && (decide ((s.aevU i j).ra = none) &&
    (let a := s.advance t; (let d := s.fineAt 0 t; (let ang := s.rd AEVANG.ANG i j;
    (let off : Int := 64 * toSigned 32 (s.rd AEVOFF.OFF i j); (let src := (Src.fn 0); (let w := 0x40000000#32;
    (decide (src.ok = true) && (decide (s.applies src (AEVCTL.WHOLE.adr i j) = true) &&
    ((decide (AEVCTL.ACT.of w = 0) || decide (AEVCTL.ACT.of w = 3)) && (decide (AEVCTL.END.of w = 0) &&
    (onSome false (([(Instr.aevctlOnce t src i j w, 1), (Instr.aevctlEvery t src i j w, 2), (Instr.aevctlOnceRev t src i j w, 3)])[0]?) fun c =>
    (decide (ang < s.revLen i) && (decide (s.spLive i = true) && (decide (c.2 ≠ 3) &&
    (let m := a.spTick i d / s.revLen i * s.revLen i + ang; (let need := d + a.span 0 (ns 40);
    (decide (a.startAngle i ≤ 65536 * m) && (onSome false (s.reachOf i m) fun y =>
    (onSome false (s.reachOf i (m + s.revLen i)) fun z => (decide (y < z) && (decide (need ≤ y) &&
    (decide ((need : Int) ≤ (y : Int) + off))))))))))))))))))))))))))))) = true := by decide +kernel

end AngleEvents_1

namespace AngleEvents_3
def F (n : Nat) (l : List (RField × Nat)) (s : State) : State := l.foldl (fun s p => s.wr p.1 p.2 n) s
def Sp (k : Nat) (l : List (RField × Nat)) (f : SpH → SpH) (s : State) : State := (F k l s).modSp k f
def w1 : State :=
  {(Sp 3 [(SPRING.EN,1),(SPRING.BASE,2),(SPGEOM.TEETH,10),(SPGEOM.MTPT,100)] id up) with mem := (up.mem.sramPut (1024+0x20) (toBytes 4 5 ++ toBytes 4 350 ++ toBytes 4 7 ++ toBytes 4 1073741825)).sramPut (1024+0x100) (toBytes 4 3 ++ toBytes 4 2)}

theorem witness_AngleEvents_3 :
    (let t : Nat := (200+64000*20); let i : Nat := 3; let j : Nat := 5; let s : State := w1; (decide (i < 32) &&
    (decide (j < 64) && (decide (s.now ≤ t) && (decide ((s.aevU i j).fix = none) && (decide ((s.aevU i j).ra = none) &&
    (let b := s.rd SPRING.BASE i * 512; (let w32 (y : Nat) : Nat := ofBytes (s.mem.sramBytes y 4);
    (let cons := w32 (b + 0x104); (let e := b + 16 * (cons % 16); (decide (s.on SPRING.EN i = true) &&
    (decide (s.fineAt 17 t % 64000 = 0) && (decide (b < 0x1800000) && (decide (s.isolated (68 + b / 0x40000) = false) &&
    (decide (s.isolated 209 = false) && (decide (s.mem.poison = []) && (decide (w32 (b + 0x100) = (cons + 1) % 2 ^ 32) &&
    (decide (w32 e % 64 = j) && (decide (s.spLive i = false) && (decide (w32 (e + 4) % 2 ^ 22 < s.revLen i) &&
    (decide (w32 (e + 12) / 2 ^ 25 % 2 = 0) && (decide (w32 (e + 12) / 2 ^ 28 = 4) && (let err : Ecc := Ecc.clean;
    (decide (err.ue = []))))))))))))))))))))))))) = true := by decide +kernel

end AngleEvents_3

namespace AngleEvents_4
def F (n : Nat) (l : List (RField × Nat)) (s : State) : State := l.foldl (fun s p => s.wr p.1 p.2 n) s
def Sp (k : Nat) (l : List (RField × Nat)) (f : SpH → SpH) (s : State) : State := (F k l s).modSp k f
def Sl (i j : Nat) (l : List (RField × Nat)) (f : SlotH → SlotH) (s : State) : State := (l.foldl (fun s p => s.wr p.1 p.2 i j) s).modAev i j f
def w1 : State :=
  (Sl 3 5 [(AEVCTL.ACT,1),(AEVCTL.CH,20),(AEVCTL.ARM,1),(AEVCTL.LVL,1)] (fun h => {h with armed := true, occ := some 2350, f := 1000000}) (F 20 [(CHCTL.MODE,2),(PRD.VALUE,100000),(CHCTL.ACTZ,1)] (F 4 [(SARTRIG.TSRC,2),(SARTRIG.TCH,35)] (Sp 3 [(SPGEOM.TEETH,10),(SPGEOM.MTPT,100),(SPTOL.LATE,24),(SPTOL.EARLY,8),(SPSTAT.STATE,3),(SPCTL.EN,1),(SPSTAT.LOSSES,7)] (fun h => {h with tk := 1000000, num := 10000000, pos := 3, rev := 2, lastT := some 1000000, pieces := [⟨1000000,65536*2300,10000000,6553600⟩], top := some 2399}) up))))

theorem witness_AngleEvents_4 :
    (let t : Nat := 1250000; let i : Nat := 3; let j : Nat := 5; let s : State := w1; (decide (i < 32) &&
    (decide (j < 64) && (decide (s.now ≤ t) && (decide ((s.aevU i j).fix = none) && (decide ((s.aevU i j).ra = none) &&
    (let a := s.advance t; (let x := s.aevU i j; (let d := s.fineAt 0 t; (onSome false x.occ fun m =>
    (decide (x.armed = true) && (decide (s.rd SPSTAT.STATE i = 3) && (decide ((s.spU i).bare = false) &&
    (decide (x.f ≤ d + a.span 0 (ns 40)) && (decide (s.rd AEVCTL.ARM i j = 1) && (let n := s.rd AEVCTL.CH i j;
    (decide (s.etb n = 0) && (decide ((s.ch n).dl.etbHeld = none) && (decide (s.paired n = false) &&
    (decide (s.rd AEVCTL.ACT i j = 1) && (decide ((s.ch n).dl.pend = []) &&
    (decide ((s.ch n).dl.lastAt = none))))))))))))))))))))))) = true := by decide +kernel

end AngleEvents_4

namespace AngleEvents_5
def F (n : Nat) (l : List (RField × Nat)) (s : State) : State := l.foldl (fun s p => s.wr p.1 p.2 n) s
def Sp (k : Nat) (l : List (RField × Nat)) (f : SpH → SpH) (s : State) : State := (F k l s).modSp k f
def Sl (i j : Nat) (l : List (RField × Nat)) (f : SlotH → SlotH) (s : State) : State := (l.foldl (fun s p => s.wr p.1 p.2 i j) s).modAev i j f
def w1 : State :=
  (Sl 3 5 [(AEVCTL.ACT,2),(AEVCTL.CH,20),(AEVCTL.ARM,1),(AEVCTL.LVL,1)] (fun h => {h with armed := true, occ := some 2350, f := 1000000}) (F 20 [(CHCTL.MODE,2),(PRD.VALUE,100000),(CHCTL.ACTZ,1)] (F 4 [(SARTRIG.TSRC,2),(SARTRIG.TCH,35)] (Sp 3 [(SPGEOM.TEETH,10),(SPGEOM.MTPT,100),(SPTOL.LATE,24),(SPTOL.EARLY,8),(SPSTAT.STATE,3),(SPCTL.EN,1),(SPSTAT.LOSSES,7)] (fun h => {h with tk := 1000000, num := 10000000, pos := 3, rev := 2, lastT := some 1000000, pieces := [⟨1000000,65536*2300,10000000,6553600⟩], top := some 2399}) up))))

theorem witness_AngleEvents_5 :
    (let t : Nat := 1250000; let i : Nat := 3; let j : Nat := 5; let s : State := w1; (decide (i < 32) &&
    (decide (j < 64) && (decide (s.now ≤ t) && (decide ((s.aevU i j).fix = none) && (decide ((s.aevU i j).ra = none) &&
    (let a := s.advance t; (let x := s.aevU i j; (let d := s.fineAt 0 t; (onSome false x.occ fun m =>
    (decide (x.armed = true) && (decide (s.rd SPSTAT.STATE i = 3) && (decide ((s.spU i).bare = false) &&
    (decide (x.f ≤ d + a.span 0 (ns 40)) && (decide (s.rd AEVCTL.ARM i j = 1) && (let n := s.rd AEVCTL.CH i j;
    (decide (s.etb n = 0) && (decide ((s.ch n).dl.etbHeld = none) && (decide (s.paired n = false) &&
    (decide (s.rd AEVCTL.ACT i j = 2) && (decide (1 ≤ s.rd CHCTL.MODE n) && (decide (s.rd CHCTL.MODE n ≤ 3) &&
    (decide (s.rd CHSTAT.STATE n = 0) &&
    (decide (ns 8 ≤ s.rd PRD.VALUE n * 2 ^ s.rd CHCTL.CUNIT n))))))))))))))))))))))))) = true := by decide +kernel

end AngleEvents_5

namespace AngleEvents_6
def F (n : Nat) (l : List (RField × Nat)) (s : State) : State := l.foldl (fun s p => s.wr p.1 p.2 n) s
def Sp (k : Nat) (l : List (RField × Nat)) (f : SpH → SpH) (s : State) : State := (F k l s).modSp k f
def Sl (i j : Nat) (l : List (RField × Nat)) (f : SlotH → SlotH) (s : State) : State := (l.foldl (fun s p => s.wr p.1 p.2 i j) s).modAev i j f
def w1 : State :=
  (Sl 3 5 [(AEVCTL.ACT,3),(AEVCTL.CH,20),(AEVCTL.ARM,1),(AEVCTL.LVL,1)] (fun h => {h with armed := true, occ := some 2350, f := 1000000}) (F 20 [(CHCTL.MODE,2),(PRD.VALUE,100000),(CHCTL.ACTZ,1)] (F 4 [(SARTRIG.TSRC,2),(SARTRIG.TCH,35)] (Sp 3 [(SPGEOM.TEETH,10),(SPGEOM.MTPT,100),(SPTOL.LATE,24),(SPTOL.EARLY,8),(SPSTAT.STATE,3),(SPCTL.EN,1),(SPSTAT.LOSSES,7)] (fun h => {h with tk := 1000000, num := 10000000, pos := 3, rev := 2, lastT := some 1000000, pieces := [⟨1000000,65536*2300,10000000,6553600⟩], top := some 2399}) up))))

theorem witness_AngleEvents_6 :
    (let t : Nat := 1250000; let i : Nat := 3; let j : Nat := 5; let s : State := w1; (decide (i < 32) &&
    (decide (j < 64) && (decide (s.now ≤ t) && (decide ((s.aevU i j).fix = none) && (decide ((s.aevU i j).ra = none) &&
    (let a := s.advance t; (let x := s.aevU i j; (let d := s.fineAt 0 t; (onSome false x.occ fun m =>
    (decide (x.armed = true) && (decide (s.rd SPSTAT.STATE i = 3) && (decide ((s.spU i).bare = false) &&
    (decide (x.f ≤ d + a.span 0 (ns 40)) && (decide (s.rd AEVCTL.ARM i j = 1) && (let n := s.rd AEVCTL.CH i j;
    (decide (s.etb n = 0) && (decide ((s.ch n).dl.etbHeld = none) && (decide (s.paired n = false) &&
    (decide (s.rd AEVCTL.ACT i j = 3))))))))))))))))))))) = true := by decide +kernel

end AngleEvents_6

namespace HostInterface
def F (n : Nat) (l : List (RField × Nat)) (s : State) : State := l.foldl (fun s p => s.wr p.1 p.2 n) s
def CF : List CfgField := [.capability false 16, .capability true 16, .payload, .readRequest, .timeout, .power, .vfEnable, .vfBar 0, .msixSize]
def mv_ (m : Nat) (l : List (RField × Nat)) (h : MvH) (s : State) : State := (F m l s).modMv m (fun _ => h)
def host_ (f : HostH → HostH) (s : State) : State := { s with host := f s.host }
def FE (l : List (RField × Nat × Nat × Nat)) (s : State) : State := l.foldl (fun s p => s.wr p.1 p.2.1 p.2.2.1 p.2.2.2) s
def hup : State := host_ (fun h => {h with up := true}) (FE [(FNVR.VCNT,100,0,0),(FNVR.VFIRST,100,3,0),(FNVR.VCNT,50,3,0),(FNQR.QCNT,64,0,0),(FNQR.QFIRST,64,3,0),(FNQR.QCNT,64,3,0),(FNQBASE_LO.ADDR,5,3,0)] up)
def D0 (w : List Nat) : MvD := ⟨64*5, w, false, [], 0, false, 0, 0, false, 0, 0⟩
def w1 : State :=
  (FE [(BRIDLE.OWNER,1,0,354),(BRIDLE.VF,3,0,354)] (mv_ 2 [(MVSTAT.STATE,0),(MVSEQ.SEQ,4294967295)] ⟨none,[D0 [0x5]],false⟩ (((hup.modQc (1024*64) (fun c => {c with en := true})).modQc 5 (fun c => {c with en := true})).modMsix 120 (fun e => {e with mask := false}))))
def w2 : State :=
  (host_ (fun h => {h with wd := [(0, some 64),(3, some 0)], vfEn := true}) (FE [(BRIDLE.OWNER,1,0,3),(BRIDLE.VF,3,0,3),(HOSTWD.PERIOD,10,3,0),(HOSTWD.ACT,1,3,0),(HOSTWD.PERIOD,1,0,0),(HOSTWD.ACT,1,0,0),(WAKEEN.WD,0,0,0)] hup))

theorem witness_HostInterface :
    (let t : Nat := 1000; let f : Nat := 3; let s : State := w1; (decide (f < 17) && (decide (s.now ≤ t) &&
    (decide (1 ≤ f))))) = true ∧
    (let t : Nat := 1000; let f : Nat := 0; let s : State := w1; (decide (f < 17) && (decide (s.now ≤ t)))) = true ∧
    (let t : Nat := 1000; let f : Nat := 0; let s : State := w1; (decide (f < 17) && (decide (s.now ≤ t) &&
    (let src := (Src.fn 0); (let e : Nat := 0; (decide (src.ok = true) && (decide (e < 384) &&
    (decide (s.applies src (BRIDLE.WHOLE.adr 0 e) = true))))))))) = true ∧
    (let t : Nat := 1000; let f : Nat := 0; let s : State := w1; (decide (f < 17) && (decide (s.now ≤ t) &&
    (let src := (Src.fn 0); (let w := 0x80000010#32; (decide (src.ok = true) &&
    (decide (s.applies src (HOSTWD.WHOLE.adr f 0) = true) && (decide (HOSTWD.PERIOD.of w ≠ 0))))))))) = true ∧
    (let t : Nat := 64000000; let f : Nat := 0; let s : State := w2; (decide (f < 17) && (decide (s.now ≤ t) &&
    (onSome false (s.host.wd.get (fun _ => none) f) fun b => (decide (b + us (s.rd HOSTWD.PERIOD f) ≤ t) &&
    (decide (s.on WAKEEN.WD = false))))))) = true ∧
    (let t : Nat := 1000; let f : Nat := 0; let s : State := (hup.wr BOOTSTAT.DONE 0); (decide (f < 17) &&
    (decide (s.now ≤ t) && (decide (s.host.perst = false) && (decide (s.pw.gnd = false) && (let off : Nat := 0;
    (decide (off < 4096) && (decide (s.on BOOTSTAT.DONE = false))))))))) = true ∧
    (let t : Nat := 1000; let f : Nat := 0; let s : State := w1; (decide (f < 17) && (decide (s.now ≤ t) &&
    (decide (s.host.perst = false) && (decide (s.pw.gnd = false) && (let off : Nat := 0; (decide (off < 4096) &&
    (decide (s.on BOOTSTAT.DONE = true))))))))) = true ∧
    (let t : Nat := 1000; let f : Nat := 0; let s : State := w1; (decide (f < 17) && (decide (s.now ≤ t) &&
    (decide (s.host.perst = false) && (decide (s.pw.gnd = false) && (let off : Nat := 0; (decide (off < 4096) &&
    (decide (s.on BOOTSTAT.DONE = true) && (onSome false (((CF))[0]?) fun cf => (onSome false (s.cfgField f cf) fun v =>
    true)))))))))) = true := by decide +kernel

end HostInterface

namespace Movers
def F (n : Nat) (l : List (RField × Nat)) (s : State) : State := l.foldl (fun s p => s.wr p.1 p.2 n) s
def mv_ (m : Nat) (l : List (RField × Nat)) (h : MvH) (s : State) : State := (F m l s).modMv m (fun _ => h)
def host_ (f : HostH → HostH) (s : State) : State := { s with host := f s.host }
def FE (l : List (RField × Nat × Nat × Nat)) (s : State) : State := l.foldl (fun s p => s.wr p.1 p.2.1 p.2.2.1 p.2.2.2) s
def hup : State := host_ (fun h => {h with up := true}) (FE [(FNVR.VCNT,100,0,0),(FNVR.VFIRST,100,3,0),(FNVR.VCNT,50,3,0),(FNQR.QCNT,64,0,0),(FNQR.QFIRST,64,3,0),(FNQR.QCNT,64,3,0),(FNQBASE_LO.ADDR,5,3,0)] up)
def D0 (w : List Nat) : MvD := ⟨64*5, w, false, [], 0, false, 0, 0, false, 0, 0⟩
def w1 : State :=
  (mv_ 2 [(MVSTAT.STATE,0),(MVSTAT.RETRY,0),(MVSEQ.SEQ,4294967295),(MVHEAD_LO.ADDR,5),(MVHEAD_LO.SP,1),(MVHEAD_HI.ADDR,7)] ⟨none,[],false⟩ hup)
def w2 : State :=
  (mv_ 2 [(MVSTAT.STATE,1),(MVSTAT.RETRY,0),(MVSEQ.SEQ,4294967295),(MVHEAD_LO.ADDR,5),(MVHEAD_LO.SP,1),(MVHEAD_HI.ADDR,7)] ⟨none,[D0 [4660, 16, 1, 0, 4096, 0, 16, 1, 0, 8192, 0, 7, 0, 0, 99, 0]],false⟩ hup)
def w3 : State :=
  (mv_ 2 [(MVSTAT.STATE,3),(MVSTAT.RETRY,0),(MVSEQ.SEQ,4294967295),(MVHEAD_LO.ADDR,5),(MVHEAD_LO.SP,1),(MVHEAD_HI.ADDR,7)] ⟨none,[D0 [4660, 16, 1, 0, 4096, 0, 16, 1, 0, 8192, 0, 7, 0, 0, 99, 0]],false⟩ hup)
def w4 : State :=
  (mv_ 2 [(MVSTAT.STATE,1),(MVSTAT.RETRY,0),(MVSEQ.SEQ,4294967295),(MVHEAD_LO.ADDR,5),(MVHEAD_LO.SP,1),(MVHEAD_HI.ADDR,7)] ⟨some 320,[],false⟩ hup)
def w5 : State :=
  (mv_ 2 [(MVSTAT.STATE,1),(MVSTAT.RETRY,0),(MVSEQ.SEQ,4294967295),(MVHEAD_LO.ADDR,5),(MVHEAD_LO.SP,1),(MVHEAD_HI.ADDR,7)] ⟨none,[{D0 [4660, 16, 1, 0, 4096, 0, 16, 1, 0, 8192, 0, 7, 0, 0, 99, 0] with need := 16, asked := 16}],false⟩ (host_ (fun h => {h with reqs := [(2,16)]}) hup))
def w6 : State :=
  (mv_ 2 [(MVSTAT.STATE,1),(MVSTAT.RETRY,3),(MVSEQ.SEQ,4294967295),(MVHEAD_LO.ADDR,5),(MVHEAD_LO.SP,1),(MVHEAD_HI.ADDR,7)] ⟨none,[{D0 [4660, 16, 1, 0, 4096, 0, 16, 1, 0, 8192, 0, 7, 0, 0, 99, 0] with need := 16, asked := 16}],false⟩ (host_ (fun h => {h with reqs := [(2,16)]}) hup))
def w7 : State :=
  (mv_ 2 [(MVSTAT.STATE,1),(MVSTAT.RETRY,0),(MVSEQ.SEQ,4294967295),(MVHEAD_LO.ADDR,5),(MVHEAD_LO.SP,1),(MVHEAD_HI.ADDR,7)] ⟨none,[{D0 [4660, 16, 1, 0, 4096, 0, 16, 1, 0, 8192, 0, 7, 0, 0, 99, 0] with issued := true, unack := 1}],false⟩ (host_ (fun h => {h with out := [⟨5,[1],.data 2⟩]}) hup))
def w8 : State :=
  (mv_ 2 [(MVSTAT.STATE,1),(MVSTAT.RETRY,0),(MVSEQ.SEQ,4294967295),(MVHEAD_LO.ADDR,5),(MVHEAD_LO.SP,1),(MVHEAD_HI.ADDR,7)] ⟨none,[{D0 [67113524, 16, 1, 0, 4096, 0, 16, 1, 0, 8192, 0, 7, 0, 0, 99, 0] with issued := true}],false⟩ (host_ (fun h => {h with out := [⟨5,[1],.data 2⟩]}) hup))
def w9 : State :=
  (mv_ 2 [(MVSTAT.STATE,1),(MVSTAT.RETRY,0),(MVSEQ.SEQ,4294967295),(MVHEAD_LO.ADDR,5),(MVHEAD_LO.SP,1),(MVHEAD_HI.ADDR,7)] ⟨none,[{D0 [134222388, 16, 1, 0, 4096, 0, 16, 1, 0, 8192, 0, 7, 0, 0, 99, 0] with issued := true}],false⟩ (host_ (fun h => {h with out := [⟨5,[1],.data 2⟩]}) hup))
def w10 : State :=
  (mv_ 2 [(MVSTAT.STATE,1),(MVSTAT.RETRY,0),(MVSEQ.SEQ,4294967295),(MVHEAD_LO.ADDR,5),(MVHEAD_LO.SP,1),(MVHEAD_HI.ADDR,7)] ⟨none,[{D0 [4660, 16, 1, 0, 4096, 0, 16, 1, 0, 8192, 0, 7, 0, 0, 99, 0] with err := 5}],false⟩ (host_ (fun h => {h with out := [⟨5,[1],.data 2⟩]}) hup))
def w11 : State :=
  (host_ (fun h => {h with out := [⟨5,[1],.record ⟨5,.event,[1,2,3,4,5,6,7,8],900,0,some 5,false,true⟩⟩], downAt := 500}) {(F 3 [(MVSTAT.STATE,2)] (F 4 [(MVSTAT.STATE,1)] hup)) with now := 500})

theorem witness_Movers :
    (let t : Nat := 1000; let m : Nat := 2; let s : State := w1; (decide (m < 32) && (decide (s.now ≤ t) &&
    (decide (s.host.up = true) && (decide (s.isolated (164 + m) = false) && (decide (s.mvFn m = 0) &&
    (let st := s.rd MVSTAT.STATE m; (let src := (Src.fn 0); (let w : Word := 0x80000000#32; (decide (src.ok = true) &&
    (decide (s.applies src (MVCTL.WHOLE.adr m 0) = true) && ((decide (st = 0) || decide (st = 4)) &&
    (decide (MVCTL.STOP.of w = 0)))))))))))))) = true ∧
    (let t : Nat := 1000; let m : Nat := 2; let s : State := w2; (decide (m < 32) && (decide (s.now ≤ t) && (decide (s.host.up = true) && (decide (s.isolated (164 + m) = false) && (decide (s.mvFn m = 0) && (let h := s.mover m; (let st := s.rd MVSTAT.STATE m; (let src := (Src.fn 0); (decide (src.ok = true) && (decide (s.applies src (MVCTL.WHOLE.adr m 0) = true) && (decide (st = 1) && (match h.descs with | [d] => true | _ => false))))))))))))) = true ∧
    (let t : Nat := 1000; let m : Nat := 2; let s : State := w3; (decide (m < 32) && (decide (s.now ≤ t) && (decide (s.host.up = true) && (decide (s.isolated (164 + m) = false) && (decide (s.mvFn m = 0) && (let h := s.mover m; (let st := s.rd MVSTAT.STATE m; (let src := (Src.fn 0); (decide (src.ok = true) && (decide (s.applies src (MVCTL.WHOLE.adr m 0) = true) && (decide (st = 3) && (match h.descs with | [d] => true | _ => false))))))))))))) = true ∧
    (let t : Nat := 1000; let m : Nat := 2; let s : State := w4; (decide (m < 32) && (decide (s.now ≤ t) &&
    (decide (s.host.up = true) && (decide (s.isolated (164 + m) = false) && (decide (s.mvFn m = 0) && (let h := s.mover m;
    (let st := s.rd MVSTAT.STATE m; (let w : List Nat := ([4660, 16, 1, 0, 4096, 0, 8, 1, 0, 8192, 0, 7, 0, 0, 99, 0]);
    (decide (st = 1) && (onSome false h.fetch fun a => (decide (a % 2 = 0) && (decide (h.descs = []) &&
    (let D : MvD := ⟨a, w, bitAt (w.getD 0 0) 25, [], 0, false, 0, 0, false, 0, 0⟩; (decide (D.op = 0) &&
    (decide (D.reserved = false) && (decide (D.slen * D.slines ≠ D.dlen * D.dlines)))))))))))))))))) = true ∧
    (let t : Nat := 1000; let m : Nat := 2; let s : State := w4; (decide (m < 32) && (decide (s.now ≤ t) &&
    (decide (s.host.up = true) && (decide (s.isolated (164 + m) = false) && (decide (s.mvFn m = 0) && (let h := s.mover m;
    (let st := s.rd MVSTAT.STATE m; (let w : List Nat := ([4660, 16, 1, 0, 4096, 0, 16, 1, 0, 8192, 0, 7, 0, 0, 99, 0]);
    (decide (st = 1) && (onSome false h.fetch fun a => (decide (a % 2 = 0) && (decide (h.descs = []) &&
    (let D : MvD := ⟨a, w, bitAt (w.getD 0 0) 25, [], 0, false, 0, 0, false, 0, 0⟩; (decide (s.mvCheck m D = 0) &&
    (decide (D.op = 0) && (decide (D.ssp = false) && (decide (D.slines = 1) && (decide (D.slen ≤ s.maxRead 0) &&
    (decide (s.nonPosted < 256))))))))))))))))))))) = true ∧
    (let t : Nat := 1000; let m : Nat := 2; let s : State := w4; (decide (m < 32) && (decide (s.now ≤ t) &&
    (decide (s.host.up = true) && (decide (s.isolated (164 + m) = false) && (decide (s.mvFn m = 0) && (let h := s.mover m;
    (let st := s.rd MVSTAT.STATE m;
    (let w : List Nat := ([276824064, 0, 0, 0, 287454020, 1432778632, 8, 1, 0, 8192, 0, 7, 0, 0, 99, 0]);
    (decide (st = 1) && (onSome false h.fetch fun a => (decide (a % 2 = 0) && (decide (h.descs = []) &&
    (let D : MvD := ⟨a, w, bitAt (w.getD 0 0) 25, [], 0, false, 0, 0, false, 0, 0⟩; (let b := (D.dAdr 0).toNat;
    (decide (s.mvCheck m D = 0) && (decide (D.op = 1) && (decide (D.dsp = true) && (decide (D.dlen = 8) &&
    (decide (D.dlines = 1) && (decide (b % 8 = 0) &&
    (decide (s.isolated (68 + b / 0x40000) = false))))))))))))))))))))))) = true ∧
    (let t : Nat := 1000; let m : Nat := 2; let s : State := w5; (decide (m < 32) && (decide (s.now ≤ t) && (decide (s.host.up = true) && (decide (s.isolated (164 + m) = false) && (decide (s.mvFn m = 0) && (let h := s.mover m; (let st := s.rd MVSTAT.STATE m; (let data : List Byte := ([0x89#8,  0x67#8,  0x45#8,  0x23#8,  0x01#8,  0x00#8,  0x00#8,  0x00#8,  0x00#8,  0x00#8,  0x00#8,  0x00#8,  0x00#8,  0x00#8,  0x00#8,  0x00#8]); (decide (st = 1) && (match h.descs with | [d] => (decide (d.op = 0) && (decide (d.ssp = false) && (decide (d.dsp = false) && (decide (d.err = 0) && (decide (d.issued = false) && (decide (d.need = data.length) && (decide (data ≠ []) && (decide (d.got = []) && (decide (d.dlines = 1) && (decide (d.dlen = data.length) && (decide (data.length ≤ s.maxPayload 0) && (decide (s.host.reqs = [(m, data.length)]) && ((List.all (List.range 32) fun k => (if decide (k ≠ m) then decide (s.rd MVSTAT.STATE k = 0) else true))))))))))))))) | _ => false))))))))))) = true ∧
    (let t : Nat := 1000; let m : Nat := 2; let s : State := w5; (decide (m < 32) && (decide (s.now ≤ t) && (decide (s.host.up = true) && (decide (s.isolated (164 + m) = false) && (decide (s.mvFn m = 0) && (let h := s.mover m; (let st := s.rd MVSTAT.STATE m; (let data : List Byte := ([0x89#8,  0x67#8,  0x45#8,  0x23#8,  0x01#8,  0x00#8,  0x00#8,  0x00#8,  0x00#8,  0x00#8,  0x00#8,  0x00#8,  0x00#8,  0x00#8,  0x00#8,  0x00#8]); (decide (st = 1) && (match h.descs with | [d] => (decide (d.op = 0) && (decide (d.ssp = false) && (decide (d.dsp = false) && (decide (d.err = 0) && (decide (d.issued = false) && (decide (d.need = data.length) && (decide (data ≠ []) && (decide (d.got = []) && (decide (d.dlines = 1) && (decide (d.dlen = data.length) && (decide (data.length ≤ s.maxPayload 0) && (decide (s.host.reqs = [(m, data.length)]) && ((List.all (List.range 32) fun k => (if decide (k ≠ m) then decide (s.rd MVSTAT.STATE k = 0) else true)) && (decide (s.qrec = []) && (decide (s.host.out = []) && (decide (d.w ≠ []) && (decide (s.rd MVSTAT.RETRY m < 3) && (decide ((s.mvNew m d.adr d.w).need ≠ 0) && (decide (d.slines = 1) && (decide (d.slen ≤ s.maxRead 0) && (decide (s.nonPosted < 256)))))))))))))))))))))) | _ => false))))))))))) = true ∧
    (let t : Nat := 1000; let m : Nat := 2; let s : State := w6; (decide (m < 32) && (decide (s.now ≤ t) && (decide (s.host.up = true) && (decide (s.isolated (164 + m) = false) && (decide (s.mvFn m = 0) && (let h := s.mover m; (let st := s.rd MVSTAT.STATE m; (let data : List Byte := ([0x89#8,  0x67#8,  0x45#8,  0x23#8,  0x01#8,  0x00#8,  0x00#8,  0x00#8,  0x00#8,  0x00#8,  0x00#8,  0x00#8,  0x00#8,  0x00#8,  0x00#8,  0x00#8]); (decide (st = 1) && (match h.descs with | [d] => (decide (d.op = 0) && (decide (d.ssp = false) && (decide (d.dsp = false) && (decide (d.err = 0) && (decide (d.issued = false) && (decide (d.need = data.length) && (decide (data ≠ []) && (decide (d.got = []) && (decide (d.dlines = 1) && (decide (d.dlen = data.length) && (decide (data.length ≤ s.maxPayload 0) && (decide (s.host.reqs = [(m, data.length)]) && ((List.all (List.range 32) fun k => (if decide (k ≠ m) then decide (s.rd MVSTAT.STATE k = 0) else true)) && (decide (s.rd MVSTAT.RETRY m = 3) && (decide (d.crec = false)))))))))))))))) | _ => false))))))))))) = true ∧
    (let t : Nat := 1000; let m : Nat := 2; let s : State := w7; (decide (m < 32) && (decide (s.now ≤ t) && (decide (s.host.up = true) && (decide (s.isolated (164 + m) = false) && (decide (s.mvFn m = 0) && (let h := s.mover m; (let st := s.rd MVSTAT.STATE m; (decide (st = 1) && (match h.descs with | [d] => (match s.host.out with | [x] => (decide (x.org = .data m) && (decide (d.issued = true) && (decide (d.unack ≠ 0) && ((List.all (List.range 32) fun k => (if decide (k ≠ m) then decide (s.rd MVSTAT.STATE k = 0) else true)))))) | _ => false) | _ => false)))))))))) = true ∧
    (let t : Nat := 1000; let m : Nat := 2; let s : State := w8; (decide (m < 32) && (decide (s.now ≤ t) && (decide (s.host.up = true) && (decide (s.isolated (164 + m) = false) && (decide (s.mvFn m = 0) && (let h := s.mover m; (let st := s.rd MVSTAT.STATE m; (decide (st = 1) && (match h.descs with | [d] => (decide (h.fetch = none) && (decide (d.err = 0) && (decide (d.issued = true) && (decide (d.unack = 0) && (decide (d.crec = false) && (decide (d.cev = true))))))) | _ => false)))))))))) = true ∧
    (let t : Nat := 1000; let m : Nat := 2; let s : State := w9; (decide (m < 32) && (decide (s.now ≤ t) && (decide (s.host.up = true) && (decide (s.isolated (164 + m) = false) && (decide (s.mvFn m = 0) && (let h := s.mover m; (let st := s.rd MVSTAT.STATE m; (decide (st = 1) && (match h.descs with | [d] => (decide (h.fetch = none) && (decide (d.err = 0) && (decide (d.issued = true) && (decide (d.unack = 0) && (decide (d.crec = true) && (decide (d.rec_ = 0) && (decide (s.qrec = [])))))))) | _ => false)))))))))) = true ∧
    (let t : Nat := 1000; let m : Nat := 2; let s : State := w10; (decide (m < 32) && (decide (s.now ≤ t) && (decide (s.host.up = true) && (decide (s.isolated (164 + m) = false) && (decide (s.mvFn m = 0) && (let h := s.mover m; (let st := s.rd MVSTAT.STATE m; (decide (st = 1) && (match h.descs with | [d] => (decide (h.fetch = none) && (decide (d.err ≠ 0) && (decide (d.err < 12) && (decide (d.crec = false))))) | _ => false)))))))))) = true ∧
    (let t : Nat := 1000; let m : Nat := 2; let s : State := w1; (decide (m < 32) && (decide (s.now ≤ t) &&
    (decide (s.host.up = true) && (decide (s.isolated (164 + m) = false) && (decide (s.mvFn m = 0))))))) = true ∧
    (let t : Nat := 1000; let m : Nat := 2; let s : State := w11; (decide (m < 32) && (decide (s.now ≤ t) && (decide (s.host.up = true) && (decide (s.isolated (164 + m) = false) && (decide (s.mvFn m = 0) && (match s.host.out with | [x] => (match x.org with | .record r => (decide (s.host.perst = false) && ((List.all (List.range 32) fun k => decide (s.rd MVSTAT.STATE k ≠ 3)))) | _ => false) | _ => false))))))) = true := by decide +kernel

end Movers

namespace Queues
def host_ (f : HostH → HostH) (s : State) : State := { s with host := f s.host }
def FE (l : List (RField × Nat × Nat × Nat)) (s : State) : State := l.foldl (fun s p => s.wr p.1 p.2.1 p.2.2.1 p.2.2.2) s
def hup : State := host_ (fun h => {h with up := true}) (FE [(FNVR.VCNT,100,0,0),(FNVR.VFIRST,100,3,0),(FNVR.VCNT,50,3,0),(FNQR.QCNT,64,0,0),(FNQR.QFIRST,64,3,0),(FNQR.QCNT,64,3,0),(FNQBASE_LO.ADDR,5,3,0)] up)
def w1 : State :=
  {(hup.modQc 5 (fun c => {c with base := 0x10000, log2 := 4, vector := 3, en := true, cached := true})).modQc 6 (fun c => {c with en := true}) with qrec := [⟨5,.event,[1,2,3,4,5,6,7,8],900,0,none,false,false⟩], vecReq := [(0,3)]}
def w2 : State :=
  (host_ (fun h => {h with qcmd := some (1,5)}) {((hup.modQc 5 (fun c => {c with base := 0x10000, log2 := 4, vector := 3, en := true, cached := true})).modQc 6 (fun c => {c with en := true})) with vecReq := []})
def w3 : State :=
  {(hup.modQc 5 (fun c => {c with base := 0x10000, log2 := 4, vector := 3, en := true, cached := true, full := true, prod := 16})).modQc 6 (fun c => {c with en := true}) with qrec := [⟨5,.event,[1,2,3,4,5,6,7,8],900,0,none,false,false⟩], vecReq := [(0,3)]}
def w4 : State :=
  {(hup.modQc 5 (fun c => {c with base := 0x10000, log2 := 4, vector := 3, errAt := none})).modQc 6 (fun c => {c with en := true}) with qrec := [⟨5,.event,[1,2,3,4,5,6,7,8],900,0,none,false,false⟩], vecReq := [(0,3)]}
def w5 : State :=
  {(hup.modQc 5 (fun c => {c with base := 0x10000, log2 := 4, vector := 3, en := true, wbDue := true, isen := true, itime := 5, unsig := 2, oldest := 600, prodwb := 0x5000, prod := 9})).modQc 6 (fun c => {c with en := true}) with qrec := [⟨5,.event,[1,2,3,4,5,6,7,8],900,0,none,false,false⟩], vecReq := [(0,3)]}
def w6 : State :=
  (((hup.modQc 5 (fun c => {c with base := 0x10000, log2 := 4, vector := 3, en := true})).modQc 6 (fun c => {c with en := true})).modMsix 1 (fun e => {e with mask := true, pend := true, addr := 77, data := 5}))

theorem witness_Queues :
    (let t : Nat := 1000; let q : Nat := 5; let f : Nat := 0; let s : State := w1; (decide (q < 262144) &&
    (decide (f < 17) && (decide (s.now ≤ t) && (decide (s.host.up = true) && (decide (s.pw.gnd = false) &&
    (decide (s.qFunc q = some f) && (let src : Src := .fn f; (decide (s.holds src 0x401000 = false) &&
    (decide (s.on QCMDSTAT.BUSY = false) &&
    (onSome false (([(Instr.qcmdEnable t src q, 1), (Instr.qcmdReload t src q, 3)])[0]?) fun x => true))))))))))) = true ∧
    (let t : Nat := 1000; let q : Nat := 5; let f : Nat := 0; let s : State := w1; (decide (q < 262144) &&
    (decide (f < 17) && (decide (s.now ≤ t) && (decide (s.host.up = true) && (decide (s.pw.gnd = false) &&
    (decide (s.qFunc q = some f) && (let src : Src := .fn f; (decide (s.holds src 0x401000 = false) &&
    (decide (s.on QCMDSTAT.BUSY = false))))))))))) = true ∧
    (let t : Nat := 1000; let q : Nat := 5; let f : Nat := 0; let s : State := w2; (decide (q < 262144) &&
    (decide (f < 17) && (decide (s.now ≤ t) && (decide (s.host.up = true) && (decide (s.pw.gnd = false) &&
    (decide (s.qFunc q = some f) && (let w : List Nat := ([196612, 0, 65536, 0, 20480, 0, 0, 0, 1, 2, 3, 4, 0, 0, 0, 0]);
    (decide (s.host.qcmd = some (1, q)) && ((decide ((s.host.q.filter (fun e => e.2.cached)).length < 4096)) &&
    (decide (s.ctxOk f (fun i => w.getD i 0) = true)))))))))))) = true ∧
    (let t : Nat := 1000; let q : Nat := 5; let f : Nat := 0; let s : State := w2; (decide (q < 262144) &&
    (decide (f < 17) && (decide (s.now ≤ t) && (decide (s.host.up = true) && (decide (s.pw.gnd = false) &&
    (decide (s.qFunc q = some f) && (let w : List Nat := ([3, 0, 65536, 0, 20480, 0, 0, 0, 1, 2, 3, 4, 0, 0, 0, 0]);
    (decide (s.host.qcmd = some (1, q)) && ((decide ((s.host.q.filter (fun e => e.2.cached)).length < 4096)) &&
    (decide (s.ctxOk f (fun i => w.getD i 0) = false)))))))))))) = true ∧
    (let t : Nat := 1000; let q : Nat := 5; let f : Nat := 0; let s : State := w1; (decide (q < 262144) &&
    (decide (f < 17) && (decide (s.now ≤ t) && (decide (s.host.up = true) && (decide (s.pw.gnd = false) &&
    (decide (s.qFunc q = some f) && (let c := s.qc q; (let src : Src := .fn f; (let w : Word := 0x00000000#32;
    (decide (s.holds src 0x440000 = false) && (decide (c.en = true) && (decide (c.kind ≠ 2) &&
    (let n := (w.toNat + 2 ^ 32 - c.cons) % 2 ^ 32; (decide (n ≤ c.fill)))))))))))))))) = true ∧
    (let t : Nat := 1000; let q : Nat := 5; let f : Nat := 0; let s : State := w1; (decide (q < 262144) &&
    (decide (f < 17) && (decide (s.now ≤ t) && (decide (s.host.up = true) && (decide (s.pw.gnd = false) &&
    (decide (s.qFunc q = some f) && (let c := s.qc q; (let src : Src := .fn f; (let w : Word := 0x00000003#32;
    (decide (s.holds src 0x440000 = false) && (decide (c.en = true) && (decide (c.kind ≠ 2) &&
    (let n := (w.toNat + 2 ^ 32 - c.cons) % 2 ^ 32; (decide (c.fill < n)))))))))))))))) = true ∧
    (let t : Nat := 1000; let q : Nat := 5; let f : Nat := 0; let s : State := w1; (decide (q < 262144) &&
    (decide (f < 17) && (decide (s.now ≤ t) && (decide (s.host.up = true) && (decide (s.pw.gnd = false) &&
    (decide (s.qFunc q = some f) && (let c := s.qc q; (onCons false s.qrec fun r rest => (decide (r.q = q) &&
    (decide (r.hold = false) && (decide (r.kind = .event) && (decide (r.qseq = none) && (decide (c.en = true) &&
    (decide (c.kind = 0) && (decide (c.cached = true) && (decide (c.gap = 0) && (decide (c.full = false) &&
    (decide (c.isen = false) && ((decide (((c.prod + 1) % 2 ^ 32 + 2 ^ 32 - c.cons) % 2 ^ 32 ≠ 2 ^ c.log2)) &&
    ((decide ((s.host.q.filter (fun e => e.2.cached)).length < 4096))))))))))))))))))))))) = true ∧
    (let t : Nat := 1000; let q : Nat := 5; let f : Nat := 0; let s : State := w3; (decide (q < 262144) &&
    (decide (f < 17) && (decide (s.now ≤ t) && (decide (s.host.up = true) && (decide (s.pw.gnd = false) &&
    (decide (s.qFunc q = some f) && (let c := s.qc q; (onCons false s.qrec fun r rest => (decide (r.q = q) &&
    (decide (r.hold = false) && (decide (r.kind = .event) && (decide (r.qseq = none) && (decide (c.en = true) &&
    (decide (c.kind = 0) && (decide (c.cached = true) && (decide (c.gap = 0) &&
    (decide (c.full = true))))))))))))))))))) = true ∧
    (let t : Nat := 1000; let q : Nat := 5; let f : Nat := 0; let s : State := w4; (decide (q < 262144) &&
    (decide (f < 17) && (decide (s.now ≤ t) && (decide (s.host.up = true) && (decide (s.pw.gnd = false) &&
    (decide (s.qFunc q = some f) && (let c := s.qc q; (onCons false s.qrec fun r rest => (decide (r.q = q) &&
    (decide (r.hold = false) && (decide (r.kind = .event) && (decide (r.qseq = none) && (decide (c.en = false) &&
    (decide (c.errAt = none)))))))))))))))) = true ∧
    (let t : Nat := 1000; let q : Nat := 5; let f : Nat := 0; let s : State := w5; (decide (q < 262144) &&
    (decide (f < 17) && (decide (s.now ≤ t) && (decide (s.host.up = true) && (decide (s.pw.gnd = false) &&
    (decide (s.qFunc q = some f) && (let c := s.qc q; (decide (c.en = true) && (decide (c.wbDue = true))))))))))) = true ∧
    (let t : Nat := 1000000; let q : Nat := 5; let f : Nat := 0; let s : State := w5; (decide (q < 262144) &&
    (decide (f < 17) && (decide (s.now ≤ t) && (decide (s.host.up = true) && (decide (s.pw.gnd = false) &&
    (decide (s.qFunc q = some f) && (let c := s.qc q; (decide (c.en = true) && (decide (c.isen = true) &&
    (decide (c.itime ≠ 0) && (decide (c.unsig ≠ 0) && (decide (c.oldest + us c.itime ≤ t)))))))))))))) = true ∧
    (let t : Nat := 1000; let q : Nat := 5; let f : Nat := 0; let s : State := w1; (decide (q < 262144) &&
    (decide (f < 17) && (decide (s.now ≤ t) && (decide (s.host.up = true) && (decide (s.pw.gnd = false) &&
    (decide (s.qFunc q = some f) && (let v : Nat := 3; (decide (v < 2048) && (decide ((f, v) ∈ s.vecReq))))))))))) = true ∧
    (let t : Nat := 1000; let q : Nat := 5; let f : Nat := 0; let s : State := w1; (decide (q < 262144) &&
    (decide (f < 17) && (decide (s.now ≤ t) && (decide (s.host.up = true) && (decide (s.pw.gnd = false) &&
    (decide (s.qFunc q = some f) && (let src : Src := .fn f; (let i : Nat := 0; (decide (i < 0x800) &&
    (decide (i < s.rd FNVR.VCNT f) && (decide (s.holds src 0x300000 = false) && (let v := s.rd FNVR.VFIRST f + i;
    (let e := s.msix v; (decide (e.pend = false)))))))))))))))) = true ∧
    (let t : Nat := 1000; let q : Nat := 5; let f : Nat := 0; let s : State := w6; (decide (q < 262144) &&
    (decide (f < 17) && (decide (s.now ≤ t) && (decide (s.host.up = true) && (decide (s.pw.gnd = false) &&
    (decide (s.qFunc q = some f) && (let src : Src := .fn f; (let i : Nat := 1; (let w : Nat := 0; (decide (i < 0x800) &&
    (decide (i < s.rd FNVR.VCNT f) && (decide (s.holds src 0x300000 = false) && (let v := s.rd FNVR.VFIRST f + i;
    (let e := s.msix v; (decide (e.pend = true) && (decide (bitAt w 0 = false)))))))))))))))))) = true := by decide +kernel

end Queues

namespace CommandQueues
def host_ (f : HostH → HostH) (s : State) : State := { s with host := f s.host }
def FE (l : List (RField × Nat × Nat × Nat)) (s : State) : State := l.foldl (fun s p => s.wr p.1 p.2.1 p.2.2.1 p.2.2.2) s
def hup : State := host_ (fun h => {h with up := true}) (FE [(FNVR.VCNT,100,0,0),(FNVR.VFIRST,100,3,0),(FNVR.VCNT,50,3,0),(FNQR.QCNT,64,0,0),(FNQR.QFIRST,64,3,0),(FNQR.QCNT,64,3,0),(FNQBASE_LO.ADDR,5,3,0)] up)
def w1 : State :=
  (((hup.wr BRIDLE.OWNER 0 0 0).modQc 5 (fun c => {c with en := true, cached := true, kind := 2, log2 := 4, prod := 4294967295, cons := 1, resen := true, resq := 6})))
def w2 : State :=
  (((hup.wr BRIDLE.OWNER 0 0 0).modQc 65541 (fun c => {c with en := true, cached := true, kind := 2, log2 := 4, prod := 4294967295, cons := 1, resen := true, resq := 65542})))
def w3 : State :=
  (((hup.wr BRIDLE.OWNER 0 0 0).modQc 5 (fun c => {c with en := true, cached := true, kind := 2, log2 := 4, prod := 4294967295, cons := 1, resen := false, resq := 6})))
def w4 : State :=
  (((hup.wr BRIDLE.OWNER 0 0 0).modQc 5 (fun c => {c with en := true, cached := true, kind := 2, log2 := 4, prod := 4294967295, cons := 1, resen := true, resq := 6, wat := some (GSTARTMASK.SEL.adr 0 3, 5, 10, 0xFFFFFFFF)})))

theorem witness_CommandQueues :
    (let t : Nat := 6400000; let q : Nat := 5; let f : Nat := 0; let i : Nat := 3; let tag : Nat := 0xFFFFFFFF;
    let s : State := w1; (decide (q < 262144) && (decide (f < 17) && (decide (i < 32) && (decide (tag < 2 ^ 32) &&
    (decide (s.now ≤ t) && (decide (s.asleep = false) && (decide (s.pw.gnd = false) && (decide (s.qFunc q = some f) &&
    ((decide ((s.host.q.filter (fun e => e.2.cached)).length < 4096)) && (let c := s.qc q;
    (let off := GSTARTMASK.SEL.adr 0 i; (decide (s.cmdReady q = true) && (decide (c.cached = true) && (decide (f = 0) &&
    (decide (s.applies (.cmdq 0) off = true))))))))))))))))) = true ∧
    (let t : Nat := 6400000; let q : Nat := 5; let f : Nat := 0; let i : Nat := 3; let tag : Nat := 0xFFFFFFFF;
    let s : State := w1; (decide (q < 262144) && (decide (f < 17) && (decide (i < 32) && (decide (tag < 2 ^ 32) &&
    (decide (s.now ≤ t) && (decide (s.asleep = false) && (decide (s.pw.gnd = false) && (decide (s.qFunc q = some f) &&
    ((decide ((s.host.q.filter (fun e => e.2.cached)).length < 4096)) && (let c := s.qc q;
    (let off := GSTARTMASK.SEL.adr 0 i; (let d := s.fineAt 0 t; (decide (s.cmdReady q = true) &&
    (decide (c.cached = true) && (decide (f = 0) && (decide (s.applies (.cmdq 0) off = true) && (let x : Nat := 0;
    (decide (64 * x < d) && (decide (c.resen = true) && (decide (s.qrec.length < 8192) &&
    (decide (x < 2 ^ 64))))))))))))))))))))))) = true ∧
    (let t : Nat := 6400000; let q : Nat := 65541; let f : Nat := 3; let i : Nat := 3; let tag : Nat := 0xFFFFFFFF;
    let s : State := w2; (decide (q < 262144) && (decide (f < 17) && (decide (i < 32) && (decide (tag < 2 ^ 32) &&
    (decide (s.now ≤ t) && (decide (s.asleep = false) && (decide (s.pw.gnd = false) && (decide (s.qFunc q = some f) &&
    ((decide ((s.host.q.filter (fun e => e.2.cached)).length < 4096)) && (let c := s.qc q; (decide (s.cmdReady q = true) &&
    (decide (c.cached = true) && (decide (f ≠ 0))))))))))))))) = true ∧
    (let t : Nat := 6400000; let q : Nat := 5; let f : Nat := 0; let i : Nat := 3; let tag : Nat := 0xFFFFFFFF;
    let s : State := w1; (decide (q < 262144) && (decide (f < 17) && (decide (i < 32) && (decide (tag < 2 ^ 32) &&
    (decide (s.now ≤ t) && (decide (s.asleep = false) && (decide (s.pw.gnd = false) && (decide (s.qFunc q = some f) &&
    ((decide ((s.host.q.filter (fun e => e.2.cached)).length < 4096)) && (let c := s.qc q; (let d := s.fineAt 0 t;
    (decide (s.cmdReady q = true) && (decide (c.cached = true) && (let x : Nat := 100000; (decide (d ≤ 64 * x) &&
    (decide (x < 2 ^ 64)))))))))))))))))) = true ∧
    (let t : Nat := 6400000; let q : Nat := 5; let f : Nat := 0; let i : Nat := 3; let tag : Nat := 0xFFFFFFFF;
    let s : State := w1; (decide (q < 262144) && (decide (f < 17) && (decide (i < 32) && (decide (tag < 2 ^ 32) &&
    (decide (s.now ≤ t) && (decide (s.asleep = false) && (decide (s.pw.gnd = false) && (decide (s.qFunc q = some f) &&
    ((decide ((s.host.q.filter (fun e => e.2.cached)).length < 4096)) && (let c := s.qc q; (decide (s.cmdReady q = true) &&
    (decide (c.cached = true) && (decide (s.qrec.length < 8192))))))))))))))) = true ∧
    (let t : Nat := 6400000; let q : Nat := 5; let f : Nat := 0; let i : Nat := 3; let tag : Nat := 0xFFFFFFFF;
    let s : State := w3; (decide (q < 262144) && (decide (f < 17) && (decide (i < 32) && (decide (tag < 2 ^ 32) &&
    (decide (s.now ≤ t) && (decide (s.asleep = false) && (decide (s.pw.gnd = false) && (decide (s.qFunc q = some f) &&
    ((decide ((s.host.q.filter (fun e => e.2.cached)).length < 4096)) && (let c := s.qc q; (decide (s.cmdReady q = true) &&
    (decide (c.cached = true) && (let code : Nat := 0; (decide (code < 16) && (decide (code ≠ 1) && (decide (code ≠ 2) &&
    (decide (code ≠ 3) && (decide (c.resen = false)))))))))))))))))))) = true ∧
    (let t : Nat := 6400000; let q : Nat := 5; let f : Nat := 0; let i : Nat := 3; let tag : Nat := 0xFFFFFFFF;
    let w : Word := 5; let s : State := w4; (decide (q < 262144) && (decide (f < 17) && (decide (i < 32) &&
    (decide (tag < 2 ^ 32) && (decide (s.now ≤ t) && (decide (s.asleep = false) && (decide (s.pw.gnd = false) &&
    (decide (s.qFunc q = some f) && ((decide ((s.host.q.filter (fun e => e.2.cached)).length < 4096)) && (let c := s.qc q;
    (let off := GSTARTMASK.SEL.adr 0 i; (let d := s.fineAt 0 t; (let x : Nat := 10; (decide (f = 0) &&
    (decide (s.applies (.cmdq 0) off = true) && (decide (c.en = true) && (decide (c.wat = some (off, w.toNat, x, tag)) &&
    (decide (64 * x ≤ d)))))))))))))))))))) = true := by decide +kernel

end CommandQueues

namespace TetherLinks
def F (n : Nat) (l : List (RField × Nat)) (s : State) : State := l.foldl (fun s p => s.wr p.1 p.2 n) s
def TP (p : Nat) (l : List (RField × Nat)) (f : TpH → TpH) (s : State) : State := (F p l s).modTp p f
def base12 : State := F 0 [(DEVSER_LO.SER,99),(TCTL.EN,1),(TPCTL.EN,1)] (F 1 [(TPCTL.EN,1)] (F 2 [(TPCTL.EN,1)] (F 3 [(TPCTL.EN,0)] up)))
def w1 : State :=
  (TP 1 [(TPSTAT.STATE,0),(TPERR.AUTHFAIL,255),(TPSTAT.LASTERR,6),(TPSTAT.PVALID,1),(TPDELAY.VALID,1)] (fun h => {h with since := 500}) (TP 0 [] (fun h => {h with turn := true}) (TP 2 [] (fun h => {h with turn := true}) base12)))
def w2 : State :=
  (TP 1 [(TPSTAT.STATE,0),(TPERR.AUTHFAIL,255),(TPSTAT.LASTERR,6),(TPSTAT.PVALID,1),(TPDELAY.VALID,1)] (fun h => {h with since := 500}) (TP 0 [(TPSTAT.STATE,1)] (fun h => h) base12))
def w3 : State :=
  (TP 1 [(TPSTAT.STATE,1),(TPERR.AUTHFAIL,255),(TPSTAT.LASTERR,6),(TPSTAT.PVALID,1),(TPDELAY.VALID,1)] (fun h => {h with since := 500}) (TP 0 [] (fun h => {h with turn := true}) (TP 2 [] (fun h => {h with turn := true}) base12)))
def w4 : State :=
  (TP 1 [(TPSTAT.STATE,1),(TPERR.AUTHFAIL,255),(TPSTAT.LASTERR,6),(TPSTAT.PVALID,1),(TPDELAY.VALID,1)] (fun h => {h with since := 500, retryAt := some (500+ms 35), turn := true}) (TP 0 [] (fun h => {h with turn := true}) (TP 2 [] (fun h => {h with turn := true}) base12)))
def w5 : State :=
  (TP 1 [(TPSTAT.STATE,2),(TPERR.AUTHFAIL,255),(TPSTAT.LASTERR,6),(TPSTAT.PVALID,1),(TPDELAY.VALID,1)] (fun h => {h with since := 500}) (TP 0 [] (fun h => {h with turn := true}) (TP 2 [] (fun h => {h with turn := true}) base12)))
def w6 : State :=
  (TP 1 [(TPSTAT.STATE,3),(TPERR.AUTHFAIL,255),(TPSTAT.LASTERR,6),(TPSTAT.PVALID,1),(TPDELAY.VALID,1)] (fun h => {h with since := 500}) (TP 0 [] (fun h => {h with turn := true}) (TP 2 [] (fun h => {h with turn := true}) base12)))
def w7 : State :=
  (TP 1 [(TPSTAT.STATE,4),(TPERR.AUTHFAIL,255),(TPSTAT.LASTERR,6),(TPSTAT.PVALID,1),(TPDELAY.VALID,1)] (fun h => {h with since := 500}) {(F 0 [(LCSTAT.STATE,1)] base12) with secH := {base12.secH with priv := some 5}})
def w8 : State :=
  (TP 1 [(TPSTAT.STATE,4),(TPERR.AUTHFAIL,255),(TPSTAT.LASTERR,6),(TPSTAT.PVALID,1),(TPDELAY.VALID,1)] (fun h => {h with since := 500}) (TP 0 [] (fun h => {h with turn := true}) (TP 2 [] (fun h => {h with turn := true}) base12)))
def w9 : State :=
  (TP 1 [(TPSTAT.STATE,9),(TPERR.AUTHFAIL,255),(TPSTAT.LASTERR,6),(TPSTAT.PVALID,1),(TPDELAY.VALID,1)] (fun h => {h with since := 500}) (TP 0 [] (fun h => {h with turn := true}) (TP 2 [] (fun h => {h with turn := true}) base12)))
def w10 : State :=
  (TP 1 [(TPSTAT.STATE,9),(TPERR.AUTHFAIL,255),(TPSTAT.LASTERR,6),(TPSTAT.PVALID,1),(TPDELAY.VALID,1)] (fun h => {h with since := 500, quar := 3, turn := true, buf := [⟨⟨0,1,2,.subAck 0 true⟩,5⟩]}) (TP 0 [] (fun h => {h with turn := true}) (TP 2 [] (fun h => {h with turn := true}) base12)))
def w11 : State :=
  (TP 1 [(TPSTAT.STATE,7),(TPERR.AUTHFAIL,255),(TPSTAT.LASTERR,6),(TPSTAT.PVALID,1),(TPDELAY.VALID,1)] (fun h => {h with since := 500, keyCyc := 0}) base12)
def w12 : State :=
  (TP 1 [(TPSTAT.STATE,7),(TPERR.AUTHFAIL,255),(TPSTAT.LASTERR,6),(TPSTAT.PVALID,1),(TPDELAY.VALID,1)] (fun h => {h with since := 500, rekey := some 1000}) base12)

theorem witness_TetherLinks :
    (let t : Nat := 1000; let p : Nat := 1; let s : State := w1; (decide (p < 4) && (decide (s.now ≤ t) &&
    (let st := s.rd TPSTAT.STATE p; (let busyElse : Bool := (List.any (List.range 4) fun q => (decide (q < 4) &&
    (decide (q ≠ p) && (decide (s.rd TPSTAT.STATE q = 1) && decide ((s.tpU q).retryAt = none)))));
    (decide (s.on BOOTSTAT.DONE = true) && (decide (s.on TCTL.EN = true) && (decide (s.on TPCTL.EN p = true) &&
    (decide (s.rd LCSTAT.STATE ≠ 3) && (decide (st = 0) && ((List.all (List.range p) fun q =>
    (if decide (s.on TPCTL.EN q = true) then decide ((s.tpU q).turn = true) else true)) &&
    ((!decide (busyElse)))))))))))))) = true ∧
    (let t : Nat := 1000; let p : Nat := 1; let s : State := w2; (decide (p < 4) && (decide (s.now ≤ t) &&
    (let st := s.rd TPSTAT.STATE p; (decide (s.on BOOTSTAT.DONE = true) && (decide (s.on TCTL.EN = true) &&
    (decide (s.on TPCTL.EN p = true) && (decide (s.rd LCSTAT.STATE ≠ 3) && (decide (st = 0) &&
    ((List.any (List.range p) fun q => (decide (q < p) && (decide (s.on TPCTL.EN q = true) &&
    decide ((s.tpU q).turn = false)))))))))))))) = true ∧
    (let t : Nat := 1000; let p : Nat := 1; let s : State := w3; (decide (p < 4) && (decide (s.now ≤ t) &&
    (let h := s.tpU p; (let st := s.rd TPSTAT.STATE p; (decide (st = 1) && (decide (h.retryAt = none) &&
    (let lanes : Nat := 1; (decide (1 ≤ lanes) && (decide (lanes ≤ 2) && (decide (t ≤ h.since + ms 25)))))))))))) = true ∧
    (let t : Nat := (500 + ms 25); let p : Nat := 1; let s : State := w3; (decide (p < 4) && (decide (s.now ≤ t) &&
    (let h := s.tpU p; (let st := s.rd TPSTAT.STATE p; (decide (st = 1) && (decide (h.retryAt = none) &&
    (decide (h.since + ms 25 ≤ t))))))))) = true ∧
    (let t : Nat := 1000; let p : Nat := 1; let s : State := w3; (decide (p < 4) && (decide (s.now ≤ t) &&
    (let h := s.tpU p; (let st := s.rd TPSTAT.STATE p; (decide (st = 1) && (decide (h.retryAt = none)))))))) = true ∧
    (let t : Nat := (500+ms 1000); let p : Nat := 1; let s : State := w4; (decide (p < 4) && (decide (s.now ≤ t) &&
    (let h := s.tpU p; (let st := s.rd TPSTAT.STATE p; (decide (st = 1) && (onSome false h.retryAt fun a =>
    (decide (a ≤ t) && ((List.all (List.range 4) fun q =>
    (if decide (q ≠ p) then decide (s.rd TPSTAT.STATE q ≠ 1) else true)) && ((List.all (List.range 4) fun q =>
    (if decide (s.on TPCTL.EN q = true) then decide ((s.tpU q).turn = true) else true)))))))))))) = true ∧
    (let t : Nat := (500 + ms 25); let p : Nat := 1; let s : State := w5; (decide (p < 4) && (decide (s.now ≤ t) &&
    (let h := s.tpU p; (let st := s.rd TPSTAT.STATE p; (let busyElse : Bool := (List.any (List.range 4) fun q =>
    (decide (q < 4) && (decide (q ≠ p) && (decide (s.rd TPSTAT.STATE q = 1) && decide ((s.tpU q).retryAt = none)))));
    (decide (st = 2) && (decide (h.since + ms 1 ≤ t) && ((!decide (busyElse))))))))))) = true ∧
    (let t : Nat := 1000; let p : Nat := 1; let s : State := w6; (decide (p < 4) && (decide (s.now ≤ t) &&
    (let st := s.rd TPSTAT.STATE p;
    (let m : CapMsg := ({ cap := 16781348, serial := 9223372036854775813, adm := true, idx := 31, mser := 5, midx := 6, mever := true });
    (decide (st = 3) && (decide (m.cap / 2 ^ 24 % 256 ≠ 0) && (decide (m.cap % 2 ^ 16 = 0x1024))))))))) = true ∧
    (let t : Nat := 1000; let p : Nat := 1; let s : State := w6; (decide (p < 4) && (decide (s.now ≤ t) &&
    (let st := s.rd TPSTAT.STATE p;
    (let m : CapMsg := ({ cap := 16781349, serial := 7, adm := false, idx := 3, mser := 5, midx := 6, mever := true });
    (decide (st = 3) && (decide (m.cap % 2 ^ 16 ≠ 0x1024)))))))) = true ∧
    (let t : Nat := (500 + ms 25); let p : Nat := 1; let s : State := w8; (decide (p < 4) && (decide (s.now ≤ t) &&
    (let h := s.tpU p; (let st := s.rd TPSTAT.STATE p; (decide (st = 4) && (decide (h.since + ms 5 ≤ t)))))))) = true ∧
    (let t : Nat := (500+ms 1000); let p : Nat := 1; let s : State := w9; (decide (p < 4) && (decide (s.now ≤ t) &&
    (let h := s.tpU p; (let st := s.rd TPSTAT.STATE p; (decide (st = 9) && (decide (h.since + ms 1000 ≤ t) &&
    (decide (h.quar < 3))))))))) = true ∧
    (let t : Nat := (500+ms 1000); let p : Nat := 1; let s : State := w10; (decide (p < 4) && (decide (s.now ≤ t) &&
    (let h := s.tpU p; (let st := s.rd TPSTAT.STATE p; (decide (st = 9) && (decide (h.since + ms 1000 ≤ t) &&
    (decide (3 ≤ h.quar))))))))) = true ∧
    (let t : Nat := 1000; let p : Nat := 1; let s : State := w10; (decide (p < 4) && (decide (s.now ≤ t) &&
    (let h := s.tpU p; (let st := s.rd TPSTAT.STATE p; (let src := (Src.fn 0); (let w := 0x80000000#32;
    (decide (src.ok = true) && (decide (s.applies src (TPCTL.WHOLE.adr p 0) = true) && (decide (TPCTL.EN.of w = 1) &&
    (decide (s.rd LCSTAT.STATE ≠ 3) && ((decide (st = 10) || (decide (st = 9) && decide (3 ≤ h.quar))))))))))))))) = true ∧
    (let t : Nat := 1000; let p : Nat := 1; let s : State := w6; (decide (p < 4) && (decide (s.now ≤ t) &&
    (let st := s.rd TPSTAT.STATE p; (decide (3 ≤ st)))))) = true ∧
    (let t : Nat := (2^36*1000+1000); let p : Nat := 1; let s : State := w11; (decide (p < 4) && (decide (s.now ≤ t) &&
    (let h := s.tpU p; (let st := s.rd TPSTAT.STATE p; (let cyc := s.fineAt 0 t / 64000; (decide (5 ≤ st) &&
    (decide (st ≤ 7) && (decide (h.rekey = none) && (decide (h.keyCyc + 2 ^ 30 ≤ cyc))))))))))) = true ∧
    (let t : Nat := (ms 11); let p : Nat := 1; let s : State := w12; (decide (p < 4) && (decide (s.now ≤ t) &&
    (let h := s.tpU p; (onSome false h.rekey fun a => (decide (a + ms 10 ≤ t))))))) = true := by decide +kernel

theorem witness_TetherLinks_but_checks :
    (let t : Nat := 1000; let p : Nat := 1; let s : State := w7; (decide (p < 4) && (decide (s.now ≤ t) &&
    (let h := s.tpU p; (let st := s.rd TPSTAT.STATE p; (decide (st = 4) && (decide (t ≤ h.since + ms 5) &&
    (decide (s.rd LCSTAT.STATE ≠ 0) && (decide (s.secH.priv ≠ none)))))))))) = true ∧
    (let t : Nat := 1000; let p : Nat := 1; let s : State := w8; (decide (p < 4) && (decide (s.now ≤ t) &&
    (let h := s.tpU p; (let st := s.rd TPSTAT.STATE p; (decide (st = 4) && (decide (t ≤ h.since + ms 5)))))))) = true := by decide +kernel

end TetherLinks

namespace TetherTime
def F (n : Nat) (l : List (RField × Nat)) (s : State) : State := l.foldl (fun s p => s.wr p.1 p.2 n) s
def TP (p : Nat) (l : List (RField × Nat)) (f : TpH → TpH) (s : State) : State := (F p l s).modTp p f
def te (l : List (RField × Nat)) (f : TethD → TethD) (s : State) : State := { (F 0 l s) with teth := f s.teth }
def lk (p st idx : Nat) (links : List TLink) (s : State) : State := TP p [(TPSTAT.STATE,st),(TPSTAT.PVALID,1),(TPSTAT.PIDX,idx)] (fun h => {h with links := links}) s
def me7 : Cand := ⟨false,false,5,77⟩
def base12 : State := F 0 [(DEVSER_LO.SER,99),(TCTL.EN,1),(TPCTL.EN,1)] (F 1 [(TPCTL.EN,1)] (F 2 [(TPCTL.EN,1)] (F 3 [(TPCTL.EN,0)] up)))
def w1 : State :=
  (TP 1 [(TPSTAT.STATE,7),(TPERR.TAGFAIL,255),(TPERR.SLOWCNT,255),(TPERR.FECUNC,7),(TPSTAT.LASTERR,3),(TPSTAT.PVALID,1),(TPSTAT.PIDX,4),(TPANS.MAX,1000),(TPCTL.VPROP,20),(TPSTAT.UPSTREAM,1)] (fun h => {h with since := 500, buf := [⟨⟨4,9,3,.subAck 1 true⟩,5⟩]}) {base12 with pw := {base12.pw with deep := true}})
def w2 : State :=
  (TP 1 [(TPSTAT.STATE,7),(TPERR.TAGFAIL,255),(TPERR.SLOWCNT,255),(TPERR.FECUNC,7),(TPSTAT.LASTERR,3),(TPSTAT.PVALID,1),(TPSTAT.PIDX,4),(TPANS.MAX,1000),(TPCTL.VPROP,20),(TPSTAT.UPSTREAM,1)] (fun h => {h with since := 500}) base12)
def w3 : State :=
  (TP 1 [(TPSTAT.STATE,5),(TPERR.TAGFAIL,255),(TPERR.SLOWCNT,255),(TPERR.FECUNC,7),(TPSTAT.LASTERR,3),(TPSTAT.PVALID,1),(TPSTAT.PIDX,4),(TPANS.MAX,1000),(TPCTL.VPROP,20),(TPSTAT.UPSTREAM,1)] (fun h => {h with since := 500, polls := [(9,600000),(10,640000)]}) base12)
def w4 : State :=
  (TP 1 [(TPSTAT.STATE,7),(TPERR.TAGFAIL,255),(TPERR.SLOWCNT,255),(TPERR.FECUNC,7),(TPSTAT.LASTERR,3),(TPSTAT.PVALID,1),(TPSTAT.PIDX,4),(TPANS.MAX,1000),(TPCTL.VPROP,20),(TPSTAT.UPSTREAM,1)] (fun h => {h with since := 500, polls := [(9,600000),(10,640000)]}) base12)
def w5 : State :=
  (TP 1 [(TPSTAT.STATE,3),(TPERR.TAGFAIL,255),(TPERR.SLOWCNT,255),(TPERR.FECUNC,7),(TPSTAT.LASTERR,3),(TPSTAT.PVALID,1),(TPSTAT.PIDX,4),(TPANS.MAX,1000),(TPCTL.VPROP,20),(TPSTAT.UPSTREAM,1)] (fun h => {h with since := 500}) base12)
def w6 : State :=
  (TP 1 [(TPSTAT.STATE,7),(TPERR.TAGFAIL,255),(TPERR.SLOWCNT,255),(TPERR.FECUNC,7),(TPSTAT.LASTERR,3),(TPSTAT.PVALID,1),(TPSTAT.PIDX,4),(TPANS.MAX,1000),(TPCTL.VPROP,20),(TPSTAT.UPSTREAM,1)] (fun h => {h with since := 500, cand := some me7, hops := 1, marks := [(9,610000)], delays := List.replicate 64 500, lastCyc := some 10, nLock := 63}) (te [(TSTAT.UPV,1),(TSTAT.UPPORT,1),(DISCSTAT.TETHOK,1),(DISCSTAT.SRCACT,4),(DISCSTAT.STATE,2),(TCTL.IDXEN,1),(TCTL.IDXREQ,9)] (fun h => {h with best := some me7}) base12))
def w7 : State :=
  (TP 1 [(TPSTAT.STATE,5),(TPERR.TAGFAIL,255),(TPERR.SLOWCNT,255),(TPERR.FECUNC,7),(TPSTAT.LASTERR,3),(TPSTAT.PVALID,1),(TPSTAT.PIDX,4),(TPANS.MAX,1000),(TPCTL.VPROP,20),(TPSTAT.UPSTREAM,1)] (fun h => {h with since := 500, cand := some me7, hops := 1, marks := [(10,640100),(9,600010)], delays := List.replicate 64 500, lastCyc := some 10, nLock := 63}) (te [(TSTAT.UPV,1),(TSTAT.UPPORT,1),(DISCSTAT.TETHOK,1),(DISCSTAT.SRCACT,4),(DISCSTAT.STATE,1),(TCTL.IDXEN,1),(TCTL.IDXREQ,9)] (fun h => {h with best := some me7}) base12))
def w8 : State :=
  (TP 1 [(TPSTAT.STATE,5),(TPERR.TAGFAIL,255),(TPERR.SLOWCNT,255),(TPERR.FECUNC,7),(TPSTAT.LASTERR,3),(TPSTAT.PVALID,1),(TPSTAT.PIDX,4),(TPANS.MAX,1000),(TPCTL.VPROP,20),(TPSTAT.UPSTREAM,1)] (fun h => {h with since := 500}) base12)
def w9 : State :=
  (TP 1 [(TPSTAT.STATE,3),(TPERR.TAGFAIL,255),(TPERR.SLOWCNT,255),(TPERR.FECUNC,7),(TPSTAT.LASTERR,3),(TPSTAT.PVALID,1),(TPSTAT.PIDX,4),(TPANS.MAX,1000),(TPCTL.VPROP,20),(TPSTAT.UPSTREAM,1)] (fun h => {h with since := 500}) (te [(TSTAT.UPV,1),(TSTAT.UPPORT,1),(DISCSTAT.TETHOK,1),(DISCSTAT.SRCACT,4),(DISCSTAT.STATE,2),(TCTL.IDXEN,1),(TCTL.IDXREQ,9)] (fun h => {h with best := some me7}) base12))
def w10 : State :=
  (TP 1 [(TPSTAT.STATE,7),(TPERR.TAGFAIL,255),(TPERR.SLOWCNT,255),(TPERR.FECUNC,7),(TPSTAT.LASTERR,3),(TPSTAT.PVALID,1),(TPSTAT.PIDX,4),(TPANS.MAX,1000),(TPCTL.VPROP,20),(TPSTAT.UPSTREAM,1)] (fun h => {h with since := 500, fails := (List.range 15).map (fun i => (i,i%2==0)), lastCyc := some 10}) base12)
def w11 : State :=
  (TP 1 [(TPSTAT.STATE,7),(TPERR.TAGFAIL,255),(TPERR.SLOWCNT,255),(TPERR.FECUNC,7),(TPSTAT.LASTERR,3),(TPSTAT.PVALID,1),(TPSTAT.PIDX,4),(TPANS.MAX,1000),(TPCTL.VPROP,20),(TPSTAT.UPSTREAM,1)] (fun h => {h with since := 500, lastCyc := some 10}) (te [] (fun h => {h with seen := [(4,3)]}) (lk 2 7 9 [] base12)))
def w12 : State :=
  (TP 1 [(TPSTAT.STATE,7),(TPERR.TAGFAIL,255),(TPERR.SLOWCNT,255),(TPERR.FECUNC,7),(TPSTAT.LASTERR,3),(TPSTAT.PVALID,1),(TPSTAT.PIDX,4),(TPANS.MAX,1000),(TPCTL.VPROP,20),(TPSTAT.UPSTREAM,1)] (fun h => {h with since := 500, lastCyc := some 10}) (TP 2 [] (fun h => {h with cyc := some 10}) (lk 2 7 9 [] base12)))
def w13 : State :=
  (TP 1 [(TPSTAT.STATE,7),(TPERR.TAGFAIL,255),(TPERR.SLOWCNT,255),(TPERR.FECUNC,7),(TPSTAT.LASTERR,3),(TPSTAT.PVALID,1),(TPSTAT.PIDX,4),(TPANS.MAX,1000),(TPCTL.VPROP,20),(TPSTAT.UPSTREAM,1)] (fun h => {h with since := 500, lastCyc := some 10}) (te [(TSTAT.IDX,31),(WAKEEN.TETH,0)] (fun h => {h with seen := [(4,3)]}) (lk 2 7 9 [] base12)))

theorem witness_TetherTime :
    (let t : Nat := 640200; let p : Nat := 1; let s : State := w1; (decide (p < 4) && (decide (s.now ≤ t) &&
    (let h := s.tpU p; (let f := s.fineAt 0 t; (let c := f / 64000; (let st := s.rd TPSTAT.STATE p;
    (decide (s.on TSTAT.MASTER = false) && (decide (st = 7) && (decide (h.dropped = 0) && (decide (h.cyc ≠ some c) &&
    (decide (s.pw.deep = true))))))))))))) = true ∧
    (let t : Nat := 640200; let p : Nat := 1; let s : State := w2; (decide (p < 4) && (decide (s.now ≤ t) &&
    (let h := s.tpU p; (let f := s.fineAt 0 t; (let c := f / 64000; (let st := s.rd TPSTAT.STATE p;
    (decide (s.on TSTAT.MASTER = false) && (decide (st = 7) && (decide (h.dropped = 0) && (decide (h.cyc ≠ some c) &&
    (decide (s.pw.deep = false))))))))))))) = true ∧
    (let t : Nat := 640200; let p : Nat := 1; let s : State := w3; (decide (p < 4) && (decide (s.now ≤ t) &&
    (let h := s.tpU p; (let st := s.rd TPSTAT.STATE p; (let k : Nat := 10; (let a : Nat := 640000; (decide (5 ≤ st) &&
    (decide (st ≤ 7) && (decide (h.polls.find? (fun x => x.1 == k) = some (k, a)) && (decide ((t - a) / 64 ≤ 2000) &&
    (let l := (t - a) / 64; (decide (l ≤ 1500)))))))))))))) = true ∧
    (let t : Nat := (640100+64*1600); let p : Nat := 1; let s : State := w3; (decide (p < 4) && (decide (s.now ≤ t) &&
    (let h := s.tpU p; (let st := s.rd TPSTAT.STATE p; (let k : Nat := 10; (let a : Nat := 640000; (decide (5 ≤ st) &&
    (decide (st ≤ 7) && (decide (h.polls.find? (fun x => x.1 == k) = some (k, a)) && (decide ((t - a) / 64 ≤ 2000) &&
    (let l := (t - a) / 64; (decide (1500 < l) && (decide (h.slowAt = none))))))))))))))) = true ∧
    (let t : Nat := (640100+64*1600); let p : Nat := 1; let s : State := w4; (decide (p < 4) && (decide (s.now ≤ t) && (let h := s.tpU p; (let st := s.rd TPSTAT.STATE p; (decide (st = 7) && (match h.polls.find? (fun x => decide (x.2 + ns 2000 ≤ t)) with | some (k, a) => true | _ => false))))))) = true ∧
    (let t : Nat := 640200; let p : Nat := 1; let s : State := w5; (decide (p < 4) && (decide (s.now ≤ t) && (let h := s.tpU p; (let f := s.fineAt 0 t; (let st := s.rd TPSTAT.STATE p; (let b : CtlBlk := ({ tag := true,   cyc := 10,   back := some (10, 640100),   cand := some { ever := false, appointed := false, prio := 5, serial := 77 },   hops := 1,   adm := true,   pidx := 4,   mser := 77,   midx := 4,   mever := false,   links := [],   devs := 48 }); (let mine : Nat := 640000; (match b.back with | some (k, theirs) => ((decide ((((b.cyc, f) :: h.marks).take 4).find? (fun m => m.1 == k) = some (k, mine))) && ((decide (st = 3) || decide (st = 4)))) | _ => false))))))))) = true ∧
    (let t : Nat := 640200; let p : Nat := 1; let s : State := w6; (decide (p < 4) && (decide (s.now ≤ t) && (let h := s.tpU p; (let f := s.fineAt 0 t; (let c := f / 64000; (let st := s.rd TPSTAT.STATE p; (let b : CtlBlk := ({ tag := true,   cyc := 10,   back := some (9, 600000),   cand := some { ever := false, appointed := false, prio := 5, serial := 77 },   hops := 1,   adm := true,   pidx := 4,   mser := 77,   midx := 4,   mever := false,   links := [],   devs := 48 }); (let mine : Nat := 610000; (match b.back with | some (k, theirs) => ((decide ((((b.cyc, f) :: h.marks).take 4).find? (fun m => m.1 == k) = some (k, mine))) && (decide (b.tag = true) && (decide (s.on TSTAT.MASTER = false) && (decide (s.on TSTAT.MLOST = false) && (decide (s.on TSTAT.UPV = true) && (decide (s.rd TSTAT.UPPORT = p) && (decide (s.on TPSTAT.UPSTREAM p = true) && (decide (s.on DISCSTAT.TETHOK = true) && (decide (s.rd DISCSTAT.SRCACT = 4) && (decide (s.teth.rw = none) && (decide (s.isolated (197 + p) = false) && (decide (s.tBest = s.teth.best) && (decide (s.tUpstream = some p) && (decide (b.cand = h.cand) && (decide (b.hops = h.hops) && (decide (h.clash = false) && (decide (st = 7) && (decide (b.cyc = c) && (decide (s.rd DISCSTAT.STATE = 2)))))))))))))))))))) | _ => false)))))))))) = true ∧
    (let t : Nat := 640200; let p : Nat := 1; let s : State := w7; (decide (p < 4) && (decide (s.now ≤ t) && (let h := s.tpU p; (let f := s.fineAt 0 t; (let st := s.rd TPSTAT.STATE p; (let b : CtlBlk := ({ tag := true,   cyc := 11,   back := some (9, 600000),   cand := some { ever := false, appointed := false, prio := 5, serial := 77 },   hops := 1,   adm := true,   pidx := 4,   mser := 77,   midx := 4,   mever := false,   links := [],   devs := 48 }); (let mine : Nat := 600010; (match b.back with | some (k, theirs) => ((decide ((((b.cyc, f) :: h.marks).take 4).find? (fun m => m.1 == k) = some (k, mine))) && (let th : Int := ((mine : Int) - theirs) / 2 - s.tAsym p; (decide (b.tag = true) && (decide (s.on TSTAT.MASTER = false) && (decide (s.on TSTAT.MLOST = false) && (decide (s.on TSTAT.UPV = true) && (decide (s.rd TSTAT.UPPORT = p) && (decide (s.on TPSTAT.UPSTREAM p = true) && (decide (s.on DISCSTAT.TETHOK = true) && (decide (s.rd DISCSTAT.SRCACT = 4) && (decide (s.teth.rw = none) && (decide (s.isolated (197 + p) = false) && (decide (s.tBest = s.teth.best) && (decide (s.tUpstream = some p) && (decide (b.cand = h.cand) && (decide (b.hops = h.hops) && (decide (h.clash = false) && (let k' : Nat := 10; (decide (st = 5) && (decide (h.lastCyc = some k') && (decide (b.cyc = k' + 1) && (decide (h.nLock = 63) && (decide (mag th ≤ 64) && (decide (s.on TSTAT.ADMITTED = false) && (decide (s.rd DISCSTAT.STATE = 1)))))))))))))))))))))))))) | _ => false))))))))) = true ∧
    (let t : Nat := 640200; let p : Nat := 1; let s : State := w8; (decide (p < 4) && (decide (s.now ≤ t) &&
    (let h := s.tpU p; (let f := s.fineAt 0 t; (let c := f / 64000; (let st := s.rd TPSTAT.STATE p;
    (let fewer (n : Nat) : Bool := (decide ((h.fails.filter (fun x => decide (c < x.1 + 1000))).length = n));
    (let b : CtlBlk := ({ tag := false,   cyc := 0,   back := some (9, 600000),   cand := some { ever := false, appointed := false, prio := 5, serial := 77 },   hops := 1,   adm := true,   pidx := 4,   mser := 77,   midx := 4,   mever := false,   links := [],   devs := 48 });
    (decide (5 ≤ st) && (decide (st ≤ 7) && (decide (b.tag = false) && (let n : Nat := 0; (decide (fewer n) &&
    (decide (n < 15)))))))))))))))) = true ∧
    (let t : Nat := 640200; let p : Nat := 1; let s : State := w9; (decide (p < 4) && (decide (s.now ≤ t) &&
    (decide (s.member = true) && (decide (s.on DISCSTAT.TETHOK = true) && (decide (s.rd DISCSTAT.STATE = 2) &&
    (decide (s.rd DISCSTAT.SRCACT = 4) && ((List.all (List.range 4) fun q => (onSome true ((s.tpU q).lastValid) fun a =>
    decide (a + us 8 ≤ t))))))))))) = true ∧
    (let t : Nat := 640200; let p : Nat := 1; let s : State := w2; (decide (p < 4) && (decide (s.now ≤ t) &&
    (let h := s.tpU p; (let f := s.fineAt 0 t; (let c := f / 64000; (let st := s.rd TPSTAT.STATE p;
    (let fewer (n : Nat) : Bool := (decide ((h.fails.filter (fun x => decide (c < x.1 + 1000))).length = n));
    (decide (st = 7) && (let items : List TMsg := []; (decide (items.all TMsg.ok = true) &&
    (onSome false (([(Slot.tagFail, TPERR.TAGFAIL, false), (Slot.fec, TPERR.FECUNC, true)])[0]?) fun x => (let n : Nat := 0;
    (decide (fewer n) && (decide (n < 15)))))))))))))))) = true ∧
    (let t : Nat := 640200; let p : Nat := 1; let s : State := w10; (decide (p < 4) && (decide (s.now ≤ t) &&
    (let h := s.tpU p; (let f := s.fineAt 0 t; (let c := f / 64000; (let st := s.rd TPSTAT.STATE p;
    (let fewer (n : Nat) : Bool := (decide ((h.fails.filter (fun x => decide (c < x.1 + 1000))).length = n));
    (decide (st = 7) && (let items : List TMsg := []; (decide (items.all TMsg.ok = true) &&
    (onSome false (([(Slot.tagFail, TPERR.TAGFAIL, false), (Slot.fec, TPERR.FECUNC, true)])[0]?) fun x =>
    (decide (fewer 15)))))))))))))) = true ∧
    (let t : Nat := 640200; let p : Nat := 1; let s : State := w11; (decide (p < 4) && (decide (s.now ≤ t) &&
    (let h := s.tpU p; (let st := s.rd TPSTAT.STATE p; (let me := s.rd TSTAT.IDX; (decide (st = 7) && (let k : Nat := 10;
    (let items : List TMsg := []; (decide (items.all TMsg.ok = true) &&
    (let m : TMsg := ({ src := 4, dst := 32, seq := 3, item := TItem.subAck 1 true }); (decide (h.lastCyc = some k) &&
    (decide (m.ok = true) && (decide (m.src ≠ me) && (decide (s.isolated (197 + p) = false) && (decide (m.dst = 32) &&
    (decide (s.teth.seen.contains (m.src, m.seq) = true)))))))))))))))))) = true ∧
    (let t : Nat := 640200; let p : Nat := 1; let s : State := w12; (decide (p < 4) && (decide (s.now ≤ t) &&
    (let h := s.tpU p; (let f := s.fineAt 0 t; (let c := f / 64000; (let st := s.rd TPSTAT.STATE p;
    (let me := s.rd TSTAT.IDX; (decide (st = 7) && (let k : Nat := 10; (let items : List TMsg := [];
    (decide (items.all TMsg.ok = true) && (let m : TMsg := ({ src := 4, dst := 9, seq := 3, item := TItem.subAck 1 true });
    (decide (h.lastCyc = some k) && (decide (m.ok = true) && (decide (m.src ≠ me) &&
    (decide (s.isolated (197 + p) = false) && (decide (m.dst ≠ 32) && (decide (m.dst ≠ me) &&
    (onSome false (s.tRoute m.dst) fun q => (decide (q ≠ p) && (decide (s.pw.deep = false) &&
    (decide ((s.tpU q).cyc = some c) && (decide ((s.tpU q).sent.length < s.slots q))))))))))))))))))))))))) = true ∧
    (let t : Nat := 640200; let p : Nat := 1; let s : State := w11; (decide (p < 4) && (decide (s.now ≤ t) &&
    (let h := s.tpU p; (let f := s.fineAt 0 t; (let c := f / 64000; (let st := s.rd TPSTAT.STATE p;
    (let me := s.rd TSTAT.IDX; (decide (st = 7) && (let k : Nat := 10; (let items : List TMsg := [];
    (decide (items.all TMsg.ok = true) && (let m : TMsg := ({ src := 4, dst := 9, seq := 3, item := TItem.subAck 1 true });
    (decide (h.lastCyc = some k) && (decide (m.ok = true) && (decide (m.src ≠ me) &&
    (decide (s.isolated (197 + p) = false) && (decide (m.dst ≠ 32) && (decide (m.dst ≠ me) &&
    (onSome false (s.tRoute m.dst) fun q => (decide (q ≠ p) && (decide (s.pw.deep = false) &&
    ((decide ((s.tpU q).cyc ≠ some c) || decide (s.slots q ≤ (s.tpU q).sent.length)) &&
    (decide ((s.tpU q).buf.length < 4096))))))))))))))))))))))))) = true ∧
    (let t : Nat := 640200; let p : Nat := 1; let s : State := w13; (decide (p < 4) && (decide (s.now ≤ t) && (let h := s.tpU p; (let st := s.rd TPSTAT.STATE p; (let me := s.rd TSTAT.IDX; (decide (st = 7) && (let k : Nat := 10; (let items : List TMsg := []; (decide (items.all TMsg.ok = true) && (let m : TMsg := ({ src := 4, dst := 31, seq := 3, item := TItem.event 5 6 77 1000 5 true false }); (decide (h.lastCyc = some k) && (decide (m.ok = true) && (decide (m.src ≠ me) && (decide (s.isolated (197 + p) = false) && (decide (m.dst = me) && (decide (s.on WAKEEN.TETH = false) && (match m.item with | .event x n id ts dt tq co => true | _ => false)))))))))))))))))) = true := by decide +kernel

end TetherTime

namespace TetherMaster
def F (n : Nat) (l : List (RField × Nat)) (s : State) : State := l.foldl (fun s p => s.wr p.1 p.2 n) s
def TP (p : Nat) (l : List (RField × Nat)) (f : TpH → TpH) (s : State) : State := (F p l s).modTp p f
def te (l : List (RField × Nat)) (f : TethD → TethD) (s : State) : State := { (F 0 l s) with teth := f s.teth }
def me7 : Cand := ⟨false,false,5,77⟩
def base12 : State := F 0 [(DEVSER_LO.SER,99),(TCTL.EN,1),(TPCTL.EN,1)] (F 1 [(TPCTL.EN,1)] (F 2 [(TPCTL.EN,1)] (F 3 [(TPCTL.EN,0)] up)))
def w1 : State :=
  (te [(TSTAT.ELECTED,0)] (fun h => {h with best := some ⟨false,false,5,99⟩, bestAt := 500}) base12)
def w2 : State :=
  (te [(TSTAT.ELECTED,0),(TSTAT.MASTER,1),(TSTAT.UPV,1),(TSTAT.UPPORT,1)] (fun h => {h with best := some me7, bestAt := 500, mser := 5}) (TP 1 [(TPSTAT.STATE,7)] (fun h => {h with cand := some me7}) base12))
def w3 : State :=
  (te [(TSTAT.MASTER,1),(TSTAT.ADMITTED,1),(TDEVMAP.MAP,0xFFFFFFFF)] (fun h => {h with devs := []}) (TP 1 [(TPSTAT.STATE,6)] (fun h => h) base12))
def w4 : State :=
  (te [(TSTAT.MASTER,1),(TSTAT.ADMITTED,1),(TDEVMAP.MAP,0xFFFFFFFF)] (fun h => {h with devs := (List.range 32).map (fun i => (i,1000+i))}) (TP 1 [(TPSTAT.STATE,6)] (fun h => h) base12))
def w5 : State :=
  (te [(TSTAT.MASTER,1),(TSTAT.ADMITTED,1),(TDEVMAP.MAP,0xFFFFFFFF)] (fun h => {h with devs := [(0,99)]}) (TP 1 [(TPSTAT.STATE,6)] (fun h => h) base12))
def w6 : State :=
  (te [(TSTAT.UPV,0),(TSTAT.UPPORT,1)] (fun h => {h with best := some me7}) (TP 1 [(TPSTAT.STATE,6),(TPSTAT.PIDX,4),(TPDELAY.DLY,99)] (fun h => {h with cand := some me7}) base12))
def w7 : State :=
  (te [(TSTAT.UPV,1),(TSTAT.UPPORT,1)] (fun h => {h with best := some me7}) (TP 1 [(TPSTAT.STATE,6),(TPSTAT.PIDX,4),(TPDELAY.DLY,99)] (fun h => {h with cand := some me7}) base12))
def w8 : State :=
  (te [(TCTL.MSAFE,1),(TCTL.MGRACE,50)] (fun h => {h with lostAt := some 900}) (F 0 [] ((base12.wr BRIDLE.OWNER 2 0 5).wr BRIDLE.OWNER 1 0 6)))

theorem witness_TetherMaster :
    (let t : Nat := (us 101); let p : Nat := 1; let s : State := w1; (decide (p < 4) && (decide (s.now ≤ t) &&
    (decide (s.on TSTAT.MLOST = false) && (decide (s.teth.rw = none) && (onSome false s.teth.best fun b =>
    (decide (s.on TSTAT.ELECTED = false) && (decide (s.on TCTL.EN = true) && (decide (s.teth.bestAt + us 100 ≤ t) &&
    (decide (b.serial = s.ownSerial) && (decide (s.on TSTAT.MASTER = false) && (decide (s.on TSTAT.UPV = false) &&
    ((List.all (List.range 4) fun q => decide (s.rd TPSTAT.STATE q < 5))))))))))))))) = true ∧
    (let t : Nat := (us 101); let p : Nat := 1; let s : State := w2; (decide (p < 4) && (decide (s.now ≤ t) &&
    (decide (s.on TSTAT.MLOST = false) && (decide (s.teth.rw = none) && (onSome false s.teth.best fun b =>
    (decide (s.on TSTAT.ELECTED = false) && (decide (s.on TCTL.EN = true) && (decide (s.teth.bestAt + us 100 ≤ t) &&
    (decide (b.serial ≠ s.ownSerial) && (decide (s.on TSTAT.MASTER = true) && (decide (s.teth.mser ≠ b.serial) &&
    (decide (s.on TSTAT.UPV = true) && (decide (s.rd TSTAT.UPPORT = p) && (decide (s.tBest = s.teth.best) &&
    (decide (s.tUpstream = some p))))))))))))))))) = true ∧
    (let t : Nat := 1000; let p : Nat := 1; let s : State := w3; (decide (p < 4) && (decide (s.now ≤ t) &&
    (decide (s.on TSTAT.MLOST = false) && (decide (s.teth.rw = none) && (let serial : Nat := 55;
    (let want : Option Nat := (some 1); (decide (s.on TSTAT.MASTER = true) && (decide (s.rd TPSTAT.STATE p = 6) &&
    ((onSome true want fun i => decide (i < 32)) && (let used (i : Nat) : Bool := (List.any (s.teth.devs) fun x =>
    (decide (x ∈ s.teth.devs) && decide (x.1 = i))); ((List.all (s.teth.devs) fun x =>
    (if decide (x ∈ s.teth.devs) then decide (x.2 ≠ serial) else true)) && (onSome false want fun i =>
    ((!decide (used i)))))))))))))))) = true ∧
    (let t : Nat := 1000; let p : Nat := 1; let s : State := w3; (decide (p < 4) && (decide (s.now ≤ t) &&
    (decide (s.on TSTAT.MLOST = false) && (decide (s.teth.rw = none) && (let serial : Nat := 55;
    (let want : Option Nat := none; (decide (s.on TSTAT.MASTER = true) && (decide (s.rd TPSTAT.STATE p = 6) &&
    ((onSome true want fun i => decide (i < 32)) && (let used (i : Nat) : Bool := (List.any (s.teth.devs) fun x =>
    (decide (x ∈ s.teth.devs) && decide (x.1 = i))); ((List.all (s.teth.devs) fun x =>
    (if decide (x ∈ s.teth.devs) then decide (x.2 ≠ serial) else true)) && (let i : Nat := 0; (decide (i < 32) &&
    ((decide (want = none) || (onSome false want fun j => (decide (used j)))) && ((!decide (used i)) &&
    ((List.all (List.range i) fun j => decide (used j))))))))))))))))))) = true ∧
    (let t : Nat := 1000; let p : Nat := 1; let s : State := w4; (decide (p < 4) && (decide (s.now ≤ t) &&
    (decide (s.on TSTAT.MLOST = false) && (decide (s.teth.rw = none) && (let serial : Nat := 55;
    (let want : Option Nat := none; (decide (s.on TSTAT.MASTER = true) && (decide (s.rd TPSTAT.STATE p = 6) &&
    ((onSome true want fun i => decide (i < 32)) && (let used (i : Nat) : Bool := (List.any (s.teth.devs) fun x =>
    (decide (x ∈ s.teth.devs) && decide (x.1 = i))); ((List.all (s.teth.devs) fun x =>
    (if decide (x ∈ s.teth.devs) then decide (x.2 ≠ serial) else true)) && ((List.all (List.range 32) fun j =>
    (decide (used j) && decide (bitAt (s.rd TDEVMAP.MAP) j = true)))))))))))))))) = true ∧
    (let t : Nat := 1000; let p : Nat := 1; let s : State := w5; (decide (p < 4) && (decide (s.now ≤ t) &&
    (decide (s.on TSTAT.MLOST = false) && (decide (s.teth.rw = none) && (let serial : Nat := 99;
    (let want : Option Nat := none; (decide (s.on TSTAT.MASTER = true) && (decide (s.rd TPSTAT.STATE p = 6) &&
    ((onSome true want fun i => decide (i < 32)) && (let i : Nat := 0; (decide (i < 32) &&
    (decide (s.teth.devs.find? (fun x => x.2 == serial) = some (i, serial))))))))))))))) = true ∧
    (let t : Nat := 1000; let p : Nat := 1; let s : State := w6; (decide (p < 4) && (decide (s.now ≤ t) &&
    (decide (s.on TSTAT.MLOST = false) && (decide (s.teth.rw = none) && (let midx : Nat := 4; (decide (midx < 32) &&
    (decide (s.on TSTAT.MASTER = false) && (decide (s.rd TPSTAT.STATE p = 6)))))))))) = true ∧
    (let t : Nat := 1000; let p : Nat := 1; let s : State := w7; (decide (p < 4) && (decide (s.now ≤ t) &&
    (decide (s.on TSTAT.MLOST = false) && (decide (s.teth.rw = none) && (let midx : Nat := 4; (decide (midx < 32) &&
    (decide (s.on TSTAT.MASTER = false) && (decide (s.rd TPSTAT.STATE p = 6) && (let i : Nat := 0; (decide (i < 32) &&
    (decide (s.on TSTAT.UPV = true) && (decide (s.rd TSTAT.UPPORT = p) && (decide (s.isolated (197 + p) = false) &&
    (decide (s.tBest = s.teth.best) && (decide (s.tUpstream = some p))))))))))))))))) = true ∧
    (let t : Nat := (us 101); let p : Nat := 1; let s : State := w8; (decide (p < 4) && (decide (s.now ≤ t) &&
    (decide (s.on TSTAT.MLOST = false) && (decide (s.teth.rw = none) && (onSome false s.teth.lostAt fun a =>
    (decide (s.teth.graced = false) && (decide (s.on TCTL.MSAFE = true) &&
    (decide (a + us (s.rd TCTL.MGRACE) ≤ t)))))))))) = true := by decide +kernel

end TetherMaster

namespace TetherTraffic
def F (n : Nat) (l : List (RField × Nat)) (s : State) : State := l.foldl (fun s p => s.wr p.1 p.2 n) s
def TP (p : Nat) (l : List (RField × Nat)) (f : TpH → TpH) (s : State) : State := (F p l s).modTp p f
def te (l : List (RField × Nat)) (f : TethD → TethD) (s : State) : State := { (F 0 l s) with teth := f s.teth }
def lk (p st idx : Nat) (links : List TLink) (s : State) : State := TP p [(TPSTAT.STATE,st),(TPSTAT.PVALID,1),(TPSTAT.PIDX,idx)] (fun h => {h with links := links}) s
def base12 : State := F 0 [(DEVSER_LO.SER,99),(TCTL.EN,1),(TPCTL.EN,1)] (F 1 [(TPCTL.EN,1)] (F 2 [(TPCTL.EN,1)] (F 3 [(TPCTL.EN,0)] up)))
def w1 : State :=
  (te [] (fun h => {h with seq := 7}) (lk 1 7 4 [⟨4,9,100⟩] (lk 2 7 9 [] base12)))
def w2 : State :=
  (te [(TSTAT.MASTER,1),(TDEVMAP.MAP,529),(RWDATA.DATA,0x1234)] (fun h => {h with seq := 7}) (lk 1 7 4 [⟨4,9,100⟩] (lk 2 7 9 [] base12)))
def w3 : State :=
  (te [(TSTAT.ADMITTED,1),(TSTAT.MIDX,4)] (fun h => {h with rwDone := [(4,6,3,55)]}) ([336,351].foldl (fun s e => s.wr BRIDLE.OWNER 2 0 e) (lk 1 7 4 [⟨4,9,100⟩] (lk 2 7 9 [] base12))))
def w4 : State :=
  (te [(RWSTAT.BUSY,1),(RWDATA.DATA,9)] (fun h => {h with rw := some ⟨7,4,true,0x100,5,900,some 1,false⟩}) (lk 1 7 4 [⟨4,9,100⟩] (lk 2 7 9 [] base12)))
def w5 : State :=
  (te [] (fun h => {h with exports := (List.range 256).map (fun i => (3,2,i))}) (lk 1 7 4 [⟨4,9,100⟩] (lk 2 7 9 [] base12)))
def w6 : State :=
  (te [(TSTAT.MASTER,0)] (fun h => {h with seq := 7}) ((base12.wr IMPORT.EN 1 0 5).wr IMPORT.SRCDEV 4 0 5))
def w7 : State :=
  (te [(TSTAT.MASTER,0)] (fun h => {h with rxSeq := [(4,6)]}) ((base12.wr IMPORT.EN 1 0 5).wr IMPORT.SRCDEV 4 0 5))
def w8 : State :=
  (te [(TSTAT.MASTER,1),(TSTAT.ADMITTED,1),(CGSTAT.PEND,0),(GSTARTSTAT.PEND,0),(TMAXLAT.NS,400)] (fun h => {h with seq := 9}) (((lk 1 7 4 [⟨4,9,100⟩] (lk 2 7 9 [] base12))).wr64 CGSTARTAT_LO.VALUE CGSTARTAT_HI.VALUE 5000))
def w9 : State :=
  (te [(TSTAT.ADMITTED,1),(TSTAT.MIDX,4),(GSTARTSTAT.PEND,1)] (fun h => {h with seq := 3}) (lk 1 7 4 [⟨4,9,100⟩] (lk 2 7 9 [] base12)))
def w10 : State :=
  (te [(CGSTAT.PEND,1),(TMAXLAT.NS,400),(TSTAT.MASTER,1)] (fun h => {h with cg := some ⟨1000,[(0,0)]⟩}) (lk 1 7 4 [⟨4,9,100⟩] (lk 2 7 9 [] base12)))

theorem witness_TetherTraffic_1 :
    (let t : Nat := 100000; let s : State := w1; (decide (s.now ≤ t) && (let src := (Src.fn 0); (let w := 0x80000000#32;
    (decide (src.ok = true) && (decide (s.applies src (RWCTL.WHOLE.adr 0 0) = true) && (let dv := RWCTL.DEV.of w;
    (decide (s.on RWSTAT.BUSY = false) && (let e : Nat := 4; (((decide (e = 4) &&
    decide (s.on TSTAT.MASTER = false)) || (decide (e = 1) && (decide (s.on TSTAT.MASTER = true) &&
    decide (bitAt (s.rd TDEVMAP.MAP) dv = false)))))))))))))) = true := by decide +kernel

theorem witness_TetherTraffic_2 :
    (let t : Nat := 100000; let s : State := w2; (decide (s.now ≤ t) && (let me := s.rd TSTAT.IDX; (let src := (Src.fn 0);
    (let w := 0x89000010#32; (decide (src.ok = true) && (decide (s.applies src (RWCTL.WHOLE.adr 0 0) = true) &&
    (let dv := RWCTL.DEV.of w; (decide (s.on RWSTAT.BUSY = false) && (decide (s.on TSTAT.MASTER = true) &&
    (decide (bitAt (s.rd TDEVMAP.MAP) dv = true) && (decide (dv ≠ me))))))))))))) = true := by decide +kernel

theorem witness_TetherTraffic_3 :
    (let t : Nat := 100000; let s : State := w3; (decide (s.now ≤ t) && (let me := s.rd TSTAT.IDX; (let dv : Nat := 4;
    (let seq : Nat := 6; (let i : Nat := 1; (let v : Nat := 1432778632; (decide (dv < 32) && (decide (1 ≤ i) &&
    (decide (i ≤ 16) && (decide (v < 2 ^ 32) && (decide (s.on TSTAT.ADMITTED = true) && (decide (dv = s.rd TSTAT.MIDX) &&
    (decide (dv ≠ me) && (let a := LOAD_LO.VALUE.adr i 0; (decide (s.applies .tether a = true) && (let res : Nat := 3;
    (let x : Nat := 55; (decide (s.teth.rwDone.find? (fun y => y.1 == dv &&
    y.2.1 == seq) = some (dv, seq, res, x))))))))))))))))))))) = true := by decide +kernel

theorem witness_TetherTraffic_4 :
    (let t : Nat := 100000; let s : State := w3; (decide (s.now ≤ t) && (let me := s.rd TSTAT.IDX; (let dv : Nat := 4;
    (let seq : Nat := 7; (let i : Nat := 1; (let v : Nat := 1432778632; (decide (dv < 32) && (decide (1 ≤ i) &&
    (decide (i ≤ 16) && (decide (v < 2 ^ 32) && (decide (s.on TSTAT.ADMITTED = true) && (decide (dv = s.rd TSTAT.MIDX) &&
    (decide (dv ≠ me) && (let a := LOAD_LO.VALUE.adr i 0; (decide (s.applies .tether a = true) &&
    (decide (s.teth.rwDone.find? (fun y => y.1 == dv && y.2.1 == seq) = none)))))))))))))))))) = true := by decide +kernel

theorem witness_TetherTraffic_5 :
    (let t : Nat := (us 25); let s : State := w4; (decide (s.now ≤ t) && (onSome false s.teth.rw fun r =>
    (let res : Nat := 0; (let v : Nat := 1432778632; (decide (res < 8) && (decide (v < 2 ^ 32)))))))) = true := by decide +kernel

theorem witness_TetherTraffic_6 :
    (let t : Nat := (us 25); let s : State := w4; (decide (s.now ≤ t) && (onSome false s.teth.rw fun r =>
    (decide (r.at_ + us 20 ≤ t))))) = true := by decide +kernel

theorem witness_TetherTraffic_7 :
    (let t : Nat := 100000; let s : State := w1; (decide (s.now ≤ t) && (let src := (Src.fn 0); (let x : Nat := 5;
    (let w := 0x80000000#32; (decide (src.ok = true) && (decide (x < 96) &&
    (decide (s.applies src (IMPORT.WHOLE.adr 0 x) = true) && (decide (s.on IMPORT.EN 0 x = false) &&
    (decide (IMPORT.EN.of w = 1))))))))))) = true := by decide +kernel

theorem witness_TetherTraffic_8 :
    (let t : Nat := 100000; let s : State := w1; (decide (s.now ≤ t) && (let dv : Nat := 0; (let x : Nat := 5;
    (let id : Nat := 5; (decide (dv < 32) && (decide (x < 96) && (decide (id < 8192) && ((List.all (s.teth.exports) fun e =>
    (if decide (e ∈ s.teth.exports) then (!(decide (e.1 = dv) && decide (e.2.1 = x))) else true)) &&
    (let ids := (s.teth.exports.map (·.2.2)).eraseDups; (decide (ids.length < 256)))))))))))) = true := by decide +kernel

theorem witness_TetherTraffic_9 :
    (let t : Nat := 100000; let s : State := w5; (decide (s.now ≤ t) && (let dv : Nat := 0; (let x : Nat := 5;
    (let id : Nat := 300; (decide (dv < 32) && (decide (x < 96) && (decide (id < 8192) &&
    ((List.all (s.teth.exports) fun e => (if decide (e ∈ s.teth.exports) then (!(decide (e.1 = dv) &&
    decide (e.2.1 = x))) else true)) && (let ids := (s.teth.exports.map (·.2.2)).eraseDups; (decide (256 ≤ ids.length) &&
    (decide (ids.contains id = false))))))))))))) = true := by decide +kernel

theorem witness_TetherTraffic_10 :
    (let t : Nat := 100000; let s : State := w6; (decide (s.now ≤ t) && (let dv : Nat := 4; (let x : Nat := 5;
    (let n : Nat := 0; (decide (dv < 32) && (decide (x < 96) && (let last := s.teth.rxSeq.get (fun _ => 0) dv;
    (decide (s.on IMPORT.EN 0 x = true) && (decide (s.rd IMPORT.SRCDEV 0 x = dv) && (decide (n ≤ last)))))))))))) = true := by decide +kernel

theorem witness_TetherTraffic_11 :
    (let t : Nat := 100000; let s : State := w6; (decide (s.now ≤ t) && (let dv : Nat := 4; (let x : Nat := 5;
    (let n : Nat := 1; (decide (dv < 32) && (decide (x < 96) && (let last := s.teth.rxSeq.get (fun _ => 0) dv;
    (decide (s.on IMPORT.EN 0 x = true) && (decide (s.rd IMPORT.SRCDEV 0 x = dv) &&
    ((decide (n = last + 1) || (decide (last = 0) && decide (0 < n)))))))))))))) = true := by decide +kernel

theorem witness_TetherTraffic_12 :
    (let t : Nat := 100000; let s : State := w7; (decide (s.now ≤ t) && (let dv : Nat := 4; (let x : Nat := 5;
    (let n : Nat := 8; (decide (dv < 32) && (decide (x < 96) && (let last := s.teth.rxSeq.get (fun _ => 0) dv;
    (decide (s.on IMPORT.EN 0 x = true) && (decide (s.rd IMPORT.SRCDEV 0 x = dv) && (decide (0 < last) &&
    (decide (last + 1 < n))))))))))))) = true := by decide +kernel

theorem witness_TetherTraffic_13 :
    (let t : Nat := 100000; let s : State := w2; (decide (s.now ≤ t) && (let f := s.fineAt 0 t; (let src := (Src.fn 0);
    (decide (src.ok = true) && (decide (s.applies src (CGSTART.WHOLE.adr 0 0) = true) &&
    (decide (s.on TSTAT.MASTER = true) && (let at_ := s.rd64 CGSTARTAT_LO.VALUE CGSTARTAT_HI.VALUE;
    (let soon := f + ns (s.rd TMAXLAT.NS + 100);
    ((decide (s.on CGSTAT.PEND = true) || decide (64 * at_ < soon)))))))))))) = true := by decide +kernel

theorem witness_TetherTraffic_14 :
    (let t : Nat := 100000; let s : State := w8; (decide (s.now ≤ t) && (let f := s.fineAt 0 t; (let src := (Src.fn 0);
    (decide (src.ok = true) && (decide (s.applies src (CGSTART.WHOLE.adr 0 0) = true) &&
    (decide (s.on TSTAT.MASTER = true) && (let at_ := s.rd64 CGSTARTAT_LO.VALUE CGSTARTAT_HI.VALUE;
    (let soon := f + ns (s.rd TMAXLAT.NS + 100); (decide (s.on CGSTAT.PEND = false) && (decide (soon ≤ 64 * at_) &&
    (decide (s.on GSTARTSTAT.PEND = false) && (decide (f + ns 100 ≤ 64 * at_)))))))))))))) = true := by decide +kernel

theorem witness_TetherTraffic_15 :
    (let t : Nat := 100000; let s : State := w9; (decide (s.now ≤ t) && (decide (s.on TSTAT.ADMITTED = true) &&
    (decide (s.on TSTAT.MASTER = false) && (decide (s.on GSTARTSTAT.PEND = true)))))) = true := by decide +kernel

theorem witness_TetherTraffic_16 :
    (let t : Nat := 100000; let s : State := w3; (decide (s.now ≤ t) && (let f := s.fineAt 0 t; (let at_ : Nat := 2000;
    (decide (s.on TSTAT.ADMITTED = true) && (decide (s.on TSTAT.MASTER = false) && (decide (s.on GSTARTSTAT.PEND = false) &&
    (decide (f + ns 100 ≤ 64 * at_))))))))) = true := by decide +kernel

theorem witness_TetherTraffic_17 :
    (let t : Nat := 100000; let s : State := w3; (decide (s.now ≤ t) && (let f := s.fineAt 0 t; (let at_ : Nat := 1000;
    (decide (s.on TSTAT.ADMITTED = true) && (decide (s.on TSTAT.MASTER = false) && (decide (s.on GSTARTSTAT.PEND = false) &&
    (decide (64 * at_ < f + ns 100))))))))) = true := by decide +kernel

theorem witness_TetherTraffic_18 :
    (let t : Nat := 100000; let s : State := w10; (decide (s.now ≤ t) && (onSome false s.teth.cg fun c =>
    (let dv : Nat := 0; (let res : Nat := 0; (decide (dv < 32) && (decide (res < 3)))))))) = true := by decide +kernel

theorem witness_TetherTraffic_19 :
    (let t : Nat := 100000; let s : State := w10; (decide (s.now ≤ t) && (let f := s.fineAt 0 t;
    (onSome false s.teth.cg fun c => (let e := 64 * c.at_ + ns (s.rd TMAXLAT.NS); (decide (e ≤ f) &&
    (decide (c.reps.length ≤ 32)))))))) = true := by decide +kernel

end TetherTraffic

namespace BackgroundService
def F (n : Nat) (l : List (RField × Nat)) (s : State) : State := l.foldl (fun s p => s.wr p.1 p.2 n) s
def rl (l : List (RField × Nat)) (f : RelH → RelH) (s : State) : State := { (F 0 l s) with rel := f s.rel }
def lg (g : Nat) (l : List (RField × Nat)) (s : State) : State := l.foldl (fun s p => s.wr p.1 p.2 0 g) s
def iso (p : Nat) (s : State) : State := s.setIso p true
def w1 : State :=
  (rl [(SCRUBSTAT.PASSES,5),(SRAMCE.COUNT,7)] (fun h => {h with scrubS := ⟨100,300⟩, ce := [(100,1,4)], weak := [], telCe := 5}) up)
def w2 : State :=
  (rl [(SCRUBSTAT.PASSES,5),(SRAMCE.COUNT,7)] (fun h => {h with scrubS := ⟨100,300⟩, ce := [(100,1,4)], weak := [], telCe := 5}) (iso 211 up))
def w3 : State :=
  (rl [(SCRUBSTAT.PASSES,5),(SRAMCE.COUNT,7)] (fun h => {h with scrubS := ⟨100,300⟩, ce := [(100,2,4)], weak := [], telCe := 5}) up)
def w4 : State :=
  (F 0 [(MARGSTAT.THR,0),(SCRUBSTAT.PASSES,65535)] (rl [(SCRUBSTAT.PASSES,65535),(SRAMCE.COUNT,7)] (fun h => {h with scrubS := ⟨0x2FFFFF,300⟩, ce := [], weak := [], telCe := 5}) up))
def w5 : State :=
  (lg 5 [(PHEALTH.SUSPCNT,0)] (rl [(RELCTL.AUTOWARM,0)] (fun h => {h with scrubL := [(5,⟨77,3⟩)]}) up))
def w6 : State :=
  (rl [(SUPMON.LEVEL,800)] (fun h => {h with mon := [(0,⟨[],0,0,[]⟩),(70,⟨[],0,0,[]⟩)]}) (lg 0 [(MON.FAULT,1)] (lg 70 [(MON.FAULT,1)] up)))
def w7 : State :=
  (rl [(SUPMON.LEVEL,800)] (fun h => {h with mon := [(0,⟨[],0,0,[]⟩),(70,⟨[],0,0,[]⟩)]}) (lg 0 [(MON.FAULT,0)] (lg 70 [(MON.FAULT,0)] up)))
def w8 : State :=
  (rl [(TELCTL.EN,1),(TELCTL.PERIOD,10),(TELBASE.BASE,0),(MARGSTAT.THR,0)] (fun h => {h with telSeq := 8}) up)

theorem witness_BackgroundService :
    (let t : Nat := 1000; let s : State := w1; (decide (s.now ≤ t) && (let w := s.rel.scrubS.ptr;
    (decide (s.pw.deep = false) && (decide (w + 1 < 0x300000) && (decide (s.isolated (68 + w / 0x8000) = false) &&
    (let e := Ecc.clean; ((decide (e = Ecc.clean) || decide (s.mem.poisoned [w] = true)))))))))) = true ∧
    (let t : Nat := 1000; let s : State := w2; (decide (s.now ≤ t) && (let w := s.rel.scrubS.ptr;
    (decide (s.pw.deep = false) && (decide (w + 1 < 0x300000) && (decide (s.isolated (68 + w / 0x8000) = false) &&
    (decide (s.isolated 211 = true)))))))) = true ∧
    (let t : Nat := 1000; let s : State := w1; (decide (s.now ≤ t) && (let w := s.rel.scrubS.ptr;
    (decide (s.pw.deep = false) && (decide (w + 1 < 0x300000) && (decide (s.isolated (68 + w / 0x8000) = false) &&
    (decide (s.mem.poisoned [w] = false) && (decide (s.isolated 211 = false) && (let k : Nat := 1; (let q : Nat := 4;
    (decide (s.rel.ce.find? (fun x => x.1 == w) = some (w, k, q)) && (decide ((q + 1) % 2 ^ 16 = s.rd SCRUBSTAT.PASSES) &&
    (decide (k < 2)))))))))))))) = true ∧
    (let t : Nat := 1000; let s : State := w3; (decide (s.now ≤ t) && (let w := s.rel.scrubS.ptr;
    (decide (s.pw.deep = false) && (decide (w + 1 < 0x300000) && (decide (s.isolated (68 + w / 0x8000) = false) &&
    (decide (s.mem.poisoned [w] = false) && (decide (s.isolated 211 = false) && (let k : Nat := 2; (let q : Nat := 4;
    (decide (s.rel.ce.find? (fun x => x.1 == w) = some (w, k, q)) && (decide ((q + 1) % 2 ^ 16 = s.rd SCRUBSTAT.PASSES) &&
    (decide (2 ≤ k) && (decide (s.rel.weak.contains w = false))))))))))))))) = true ∧
    (let t : Nat := 1000; let s : State := w1; (decide (s.now ≤ t) && (let w := s.rel.scrubS.ptr;
    (decide (s.pw.deep = false) && (decide (w + 1 < 0x300000) && (decide (s.isolated (68 + w / 0x8000) = false) &&
    (decide (s.mem.poisoned [w] = false) && (decide (s.isolated 211 = false))))))))) = true ∧
    (let t : Nat := 1000; let s : State := w4; (decide (s.now ≤ t) && (let w := s.rel.scrubS.ptr;
    (decide (s.pw.deep = false) && (decide (w = 0x2FFFFF) && (let late : Bool := false;
    ((decide (3 * (0x300000 * ns 640 * 4 ^ s.rd MARGSTAT.THR) < 2 * (t - s.rel.scrubS.from_)) == decide (late = true))))))))) = true ∧
    (let t : Nat := 1000; let s : State := { up with pw := { up.pw with deep := true } }; (decide (s.now ≤ t) &&
    (decide (s.pw.deep = true) && (let m : Nat := 0; (let p : Nat := 5; (decide (m < 3) && (decide (p < 68)))))))) = true ∧
    (let t : Nat := 1000; let s : State := w5; (decide (s.now ≤ t) && (let p : Nat := 5; (decide (p < 68) &&
    (onSome false (s.logOf p) fun g => (decide (s.rd PHEALTH.STATE 0 p = 0) && (decide (s.on RELCTL.AUTOWARM = false) &&
    (decide (s.phys g = p) && (let o := (s.rel.scrubL.get (fun _ => Scrub.init) p).ptr; (decide (s.pw.deep = false) &&
    (decide (s.isolated 211 = false) && (decide (o + 1 < 0x2000) &&
    (decide (s.mem.lmBad g (8 * o) 8 = false)))))))))))))) = true ∧
    (let t : Nat := 1000; let s : State := w1; (decide (s.now ≤ t) && (let m : Nat := 0; (let k : Nat := 1638;
    (decide (m < 96) && (decide (k < 2 ^ 15) && (let temp : Int := 400; (let h := s.monU m;
    (let bad : Bool := (decide (k < 0x666) || (decide (0x1999 < k) || (List.any (h.last.head?.toList) fun qq =>
    decide (qq < 10 * absDiff k qq)))); (decide (s.refHolds temp = false) && ((!decide (bad)) &&
    (decide (s.on MON.FAULT 0 m = false))))))))))))) = true ∧
    (let t : Nat := 1000; let s : State := w1; (decide (s.now ≤ t) && (let m : Nat := 69; (let k : Nat := 0;
    (decide (m < 96) && (decide (k < 2 ^ 15) && (let temp : Int := 400; (let h := s.monU m;
    (let bad : Bool := (decide (k < 0x666) || (decide (0x1999 < k) || (List.any (h.last.head?.toList) fun qq =>
    decide (qq < 10 * absDiff k qq)))); (decide (s.refHolds temp = false) && (decide (bad) &&
    (decide (s.on MON.FAULT 0 m = false) && (decide (68 ≤ m)))))))))))))) = true ∧
    (let t : Nat := 1000; let s : State := w6; (decide (s.now ≤ t) && (let m : Nat := 0; (let k : Nat := 1638;
    (decide (m < 96) && (decide (k < 2 ^ 15) && (let temp : Int := 400; (let h := s.monU m;
    (let bad : Bool := (decide (k < 0x666) || (decide (0x1999 < k) || (List.any (h.last.head?.toList) fun qq =>
    decide (qq < 10 * absDiff k qq)))); (decide (s.refHolds temp = false) && ((!decide (bad)) &&
    (decide (s.on MON.FAULT 0 m = true))))))))))))) = true ∧
    (let t : Nat := 1000; let s : State := w7; (decide (s.now ≤ t) && (let m : Nat := 0; (let k : Nat := 1638;
    (let temp : Int := 600; (decide (m < 96) && (decide (0x666 ≤ k) && (decide (k ≤ 0x1999) &&
    (decide ((s.monU m).last = []) && (decide (s.on MON.FAULT 0 m = false) && (decide (550 ≤ temp) &&
    (decide (temp ≤ 650) && (decide (s.rd SUPMON.LEVEL 0 0 = 800)))))))))))))) = true ∧
    (let t : Nat := 1000; let s : State := w1; (decide (s.now ≤ t))) = true ∧
    (let t : Nat := (ms 50); let s : State := w8; (decide (s.now ≤ t) && (decide (s.on TELCTL.EN = true) &&
    (decide (s.pw.deep = false) && (let b := s.rd TELBASE.BASE * 512;
    (decide (s.rel.telAt + ms (s.rd TELCTL.PERIOD) * (if s.rd MARGSTAT.THR = 0 then 1 else 4) ≤ t) &&
    (decide (b < 0x1800000) && (decide (s.isolated (68 + b / 0x40000) = false) &&
    (decide (s.isolated 211 = false)))))))))) = true := by decide +kernel

end BackgroundService

namespace Replanning
def F (n : Nat) (l : List (RField × Nat)) (s : State) : State := l.foldl (fun s p => s.wr p.1 p.2 n) s
def rl (l : List (RField × Nat)) (f : RelH → RelH) (s : State) : State := { (F 0 l s) with rel := f s.rel }
def lg (g : Nat) (l : List (RField × Nat)) (s : State) : State := l.foldl (fun s p => s.wr p.1 p.2 0 g) s
def w1 : State :=
  (rl [(MARGCTL.EN,1),(MARGCTL.TARGET,50),(MARGCTL.HYST,10),(MARGCTL.VEN,1),(MARGCTL.TEN,1),(MARGCTL.MEN,1),(AVSCTL.VMAX,900),(AVSSTAT.LOOP,800),(MARGSTAT.THR,0),(MARGSTAT.STEPS,255),(AVSSTAT.PMFAIL,0)] (fun h => {h with rv := 0}) (F 5 [(SLACKMIN.SLACK,5)] (lg 5 [(MON.K,0x1050)] (lg 66 [(MON.K,0x900)] (lg 65 [(MON.K,0x900)] up)))))
def w2 : State :=
  (rl [(MARGCTL.EN,1),(MARGCTL.TARGET,50),(MARGCTL.HYST,10),(MARGCTL.VEN,1),(MARGCTL.TEN,1),(MARGCTL.MEN,1),(AVSCTL.VMAX,900),(AVSSTAT.LOOP,800),(MARGSTAT.THR,0),(MARGSTAT.STEPS,255),(AVSSTAT.PMFAIL,0)] (fun h => {h with rv := 900}) (F 5 [(SLACKMIN.SLACK,5)] (lg 5 [(MON.K,0x1050)] (lg 66 [(MON.K,0x900)] (lg 65 [(MON.K,0x900)] up)))))
def w3 : State :=
  (rl [(MARGCTL.EN,1),(MARGCTL.TARGET,50),(MARGCTL.HYST,10),(MARGCTL.VEN,0),(MARGCTL.TEN,1),(MARGCTL.MEN,1),(AVSCTL.VMAX,900),(AVSSTAT.LOOP,800),(MARGSTAT.THR,2),(MARGSTAT.STEPS,255),(AVSSTAT.PMFAIL,0)] (fun h => {h with rv := 0}) (F 5 [(SLACKMIN.SLACK,5)] (lg 5 [(MON.K,0x1050)] (lg 66 [(MON.K,0x900)] (lg 65 [(MON.K,0x900)] up)))))
def w4 : State :=
  (rl [(MARGCTL.EN,1),(MARGCTL.TARGET,50),(MARGCTL.HYST,10),(MARGCTL.VEN,0),(MARGCTL.TEN,0),(MARGCTL.MEN,0),(AVSCTL.VMAX,900),(AVSSTAT.LOOP,800),(MARGSTAT.THR,0),(MARGSTAT.STEPS,255),(AVSSTAT.PMFAIL,0)] (fun h => {h with rv := 0}) (F 5 [(SLACKMIN.SLACK,5)] (lg 5 [(MON.K,0x1050)] (lg 66 [(MON.K,0x900)] (lg 65 [(MON.K,0x900)] up)))))
def w5 : State :=
  (rl [(MARGCTL.EN,1),(MARGCTL.TARGET,50),(MARGCTL.HYST,10),(MARGCTL.VEN,1),(MARGCTL.TEN,1),(MARGCTL.MEN,1),(AVSCTL.VMAX,900),(AVSSTAT.LOOP,800),(MARGSTAT.THR,0),(MARGSTAT.STEPS,255),(AVSSTAT.PMFAIL,0)] (fun h => {h with rv := 0}) (F 5 [(SLACKMIN.SLACK,100000)] (lg 5 [(MON.K,0x1050)] (lg 66 [(MON.K,0x900)] (lg 65 [(MON.K,0x900)] up)))))
def w6 : State :=
  (rl [(MARGCTL.EN,1),(MARGCTL.TARGET,50),(MARGCTL.HYST,10),(MARGCTL.VEN,1),(MARGCTL.TEN,1),(MARGCTL.MEN,1),(AVSCTL.VMAX,900),(AVSSTAT.LOOP,800),(MARGSTAT.THR,0),(MARGSTAT.STEPS,255),(AVSSTAT.PMFAIL,0)] (fun h => {h with rv := 0, goodFrom := some 300}) up)

theorem witness_Replanning :
    (let t : Nat := (200+ms 10); let s : State := w1; (decide (s.now ≤ t) && (decide (s.on MARGCTL.EN = true) && (let vmax := s.rd AVSCTL.VMAX; (let more : Bool := (decide (s.on MARGCTL.VEN = true) && (decide (s.vReq < vmax) && decide (s.on AVSSTAT.PMFAIL = false))); (let due : Bool := (decide (s.strobe t % ms 10 = 0) && decide (s.on MARGLIFE.VALID = false)); (decide (due) && (decide (s.rel.wait = .go) && (match worstOf s.slacks with | some (g, v) => (decide (v < (16 * s.rd MARGCTL.TARGET : Nat)) && (decide (more))) | _ => false))))))))) = true ∧
    (let t : Nat := (200+ms 10); let s : State := w2; (decide (s.now ≤ t) && (decide (s.on MARGCTL.EN = true) && (let vmax := s.rd AVSCTL.VMAX; (let more : Bool := (decide (s.on MARGCTL.VEN = true) && (decide (s.vReq < vmax) && decide (s.on AVSSTAT.PMFAIL = false))); (let throttle : Bool := (decide (s.on MARGCTL.TEN = true) && decide (s.rd MARGSTAT.THR < 2)); (let due : Bool := (decide (s.strobe t % ms 10 = 0) && decide (s.on MARGLIFE.VALID = false)); (decide (due) && (decide (s.rel.wait = .go) && (match worstOf s.slacks with | some (g, v) => (decide (v < (16 * s.rd MARGCTL.TARGET : Nat)) && ((!decide (more)) && (decide (throttle)))) | _ => false)))))))))) = true ∧
    (let t : Nat := (200+ms 10); let s : State := w3; (decide (s.now ≤ t) && (decide (s.on MARGCTL.EN = true) && (let vmax := s.rd AVSCTL.VMAX; (let more : Bool := (decide (s.on MARGCTL.VEN = true) && (decide (s.vReq < vmax) && decide (s.on AVSSTAT.PMFAIL = false))); (let throttle : Bool := (decide (s.on MARGCTL.TEN = true) && decide (s.rd MARGSTAT.THR < 2)); (let due : Bool := (decide (s.strobe t % ms 10 = 0) && decide (s.on MARGLIFE.VALID = false)); (decide (due) && (decide (s.rel.wait = .go) && (match worstOf s.slacks with | some (g, v) => (decide (v < (16 * s.rd MARGCTL.TARGET : Nat)) && ((!decide (more)) && ((!decide (throttle)) && (decide (s.on MARGCTL.MEN = true) && (onSome false s.leastK fun p => (decide (s.rd MON.K 0 p + 0x7B ≤ s.rd MON.K 0 (s.phys g)) && (decide (s.tko = none) && (decide (s.sprQ = []))))))))) | _ => false)))))))))) = true ∧
    (let t : Nat := (200+ms 10); let s : State := w4; (decide (s.now ≤ t) && (decide (s.on MARGCTL.EN = true) && (let vmax := s.rd AVSCTL.VMAX; (let more : Bool := (decide (s.on MARGCTL.VEN = true) && (decide (s.vReq < vmax) && decide (s.on AVSSTAT.PMFAIL = false))); (let throttle : Bool := (decide (s.on MARGCTL.TEN = true) && decide (s.rd MARGSTAT.THR < 2)); (let due : Bool := (decide (s.strobe t % ms 10 = 0) && decide (s.on MARGLIFE.VALID = false)); (decide (due) && (decide (s.rel.wait = .go) && (match worstOf s.slacks with | some (g, v) => (decide (v < (16 * s.rd MARGCTL.TARGET : Nat)) && ((!decide (more)) && ((!decide (throttle)) && (decide (s.on MARGCTL.MEN = false) && (decide (s.rel.lowRep = false)))))) | _ => false)))))))))) = true ∧
    (let t : Nat := (200+ms 10); let s : State := w5; (decide (s.now ≤ t) && (decide (s.on MARGCTL.EN = true) &&
    (let due : Bool := (decide (s.strobe t % ms 10 = 0) && decide (s.on MARGLIFE.VALID = false)); (decide (due) &&
    (decide (s.ample = true))))))) = true ∧
    (let t : Nat := (200+ms 1010); let s : State := w6; (decide (s.now ≤ t) && (decide (s.on MARGCTL.EN = true) &&
    (onSome false s.rel.goodFrom fun a => (decide (s.ample = true) && (decide (a + ms 1000 ≤ t))))))) = true := by decide +kernel

end Replanning

namespace SpareRequests
def F (n : Nat) (l : List (RField × Nat)) (s : State) : State := l.foldl (fun s p => s.wr p.1 p.2 n) s
def rl (l : List (RField × Nat)) (f : RelH → RelH) (s : State) : State := { (F 0 l s) with rel := f s.rel }
def lg (g : Nat) (l : List (RField × Nat)) (s : State) : State := l.foldl (fun s p => s.wr p.1 p.2 0 g) s
def iso (p : Nat) (s : State) : State := s.setIso p true
def w1 : State :=
  {up with sprQ := [⟨false,false,false,5,127⟩]}
def w2 : State :=
  {up with sprQ := [⟨false,false,false,10,127⟩,⟨false,false,false,11,127⟩,⟨false,false,false,12,127⟩,⟨false,false,false,13,127⟩]}
def w3 : State :=
  {up with sprQ := []}
def w4 : State :=
  {(F 0 [(SPRSTAT.MISM,9)] (lg 5 [(LMAP.SHADOW,1)] (lg 64 [(PHEALTH.STATE,2)] up))) with tko := some ⟨5,5,64,false,false,false,true,none,0⟩}
def w5 : State :=
  (rl [(RELCTL.AUTOTEST,1)] id (lg 64 [(PHEALTH.STATE,3)] {up with test := none}))
def w6 : State :=
  (rl [(RELCTL.AUTOTEST,1)] id (lg 64 [(PHEALTH.STATE,0)] {up with test := some 9}))

theorem witness_SpareRequests :
    (let t : Nat := 1000; let s : State := {(iso 5 up) with sprQ := []}; (decide (s.now ≤ t) && (let src := (Src.fn 0);
    (let w := 0x11407f00#32; (decide (src.ok = true) && (decide (s.applies src (SPRCMD.WHOLE.adr 0 0) = true) &&
    (let g := SPRCMD.LOG.of w; (decide (s.isolated (s.phys g) = true))))))))) = true ∧
    (let t : Nat := 1000; let s : State := w1; (decide (s.now ≤ t) && (let src := (Src.fn 0); (let w := 0x11407f00#32;
    (decide (src.ok = true) && (decide (s.applies src (SPRCMD.WHOLE.adr 0 0) = true) && (let g := SPRCMD.LOG.of w;
    (let queued : Bool := (List.any (s.sprQ) fun r => decide (r.log = g)); (decide (queued) &&
    (decide (s.isolated (s.phys g) = false))))))))))) = true ∧
    (let t : Nat := 1000; let s : State := w1; (decide (s.now ≤ t) && (let src := (Src.fn 0); (let w := 0x11407f00#32;
    (decide (src.ok = true) && (decide (s.applies src (SPRCMD.WHOLE.adr 0 0) = true) && (let g := SPRCMD.LOG.of w;
    (let queued : Bool := (List.any (s.sprQ) fun r => decide (r.log = g)); (decide (queued)))))))))) = true ∧
    (let t : Nat := 1000; let s : State := w2; (decide (s.now ≤ t) && (let src := (Src.fn 0); (let w := 0x11407f00#32;
    (decide (src.ok = true) && (decide (s.applies src (SPRCMD.WHOLE.adr 0 0) = true) && (let g := SPRCMD.LOG.of w;
    (let queued : Bool := (List.any (s.sprQ) fun r => decide (r.log = g)); ((!decide (queued)) &&
    (decide (4 ≤ s.sprQ.length) && (decide (s.isolated (s.phys g) = false)))))))))))) = true ∧
    (let t : Nat := 1000; let s : State := w2; (decide (s.now ≤ t) && (let src := (Src.fn 0); (let w := 0x11407f00#32;
    (decide (src.ok = true) && (decide (s.applies src (SPRCMD.WHOLE.adr 0 0) = true) && (let g := SPRCMD.LOG.of w;
    (let queued : Bool := (List.any (s.sprQ) fun r => decide (r.log = g)); ((!decide (queued)) &&
    (decide (4 ≤ s.sprQ.length))))))))))) = true ∧
    (let t : Nat := 1000; let s : State := w3; (decide (s.now ≤ t) && (let src := (Src.fn 0); (let w := 0x11407f00#32;
    (decide (src.ok = true) && (decide (s.applies src (SPRCMD.WHOLE.adr 0 0) = true) && (let g := SPRCMD.LOG.of w;
    (let queued : Bool := (List.any (s.sprQ) fun r => decide (r.log = g)); ((!decide (queued)) &&
    (decide (s.sprQ.length < 4) && (decide (s.isolated (s.phys g) = false)))))))))))) = true ∧
    (let t : Nat := 1000; let s : State := w3; (decide (s.now ≤ t) && (let src := (Src.fn 0); (let w := 0x11407f00#32;
    (decide (src.ok = true) && (decide (s.applies src (SPRCMD.WHOLE.adr 0 0) = true) && (let g := SPRCMD.LOG.of w;
    (let queued : Bool := (List.any (s.sprQ) fun r => decide (r.log = g)); ((!decide (queued)) &&
    (decide (s.sprQ.length < 4) && (decide (s.tko = none)))))))))))) = true ∧
    (let t : Nat := 1000; let s : State := w3; (decide (s.now ≤ t) && (let src := (Src.fn 0); (let w := 0x11407f00#32;
    (decide (src.ok = true) && (decide (s.applies src (SPRCMD.WHOLE.adr 0 0) = true) && (let p := SPRCMD.PHYS.of w;
    (let st := s.rd PHEALTH.STATE 0 p; ((decide (68 ≤ p) || ((decide (st ≠ 1) && (decide (st ≠ 3) &&
    decide (st ≠ 5))) || decide (s.test ≠ none)))))))))))) = true ∧
    (let t : Nat := 1000; let s : State := w3; (decide (s.now ≤ t) && (let src := (Src.fn 0); (let w := 0x11404000#32;
    (decide (src.ok = true) && (decide (s.applies src (SPRCMD.WHOLE.adr 0 0) = true) && (let p := SPRCMD.PHYS.of w;
    (let st := s.rd PHEALTH.STATE 0 p; (decide (p < 68) && ((decide (st = 1) || (decide (st = 3) || decide (st = 5))) &&
    (decide (s.test = none) && (decide (s.mcWait.contains p = false))))))))))))) = true ∧
    (let t : Nat := 1000; let s : State := w4; (decide (s.now ≤ t) && (let src := (Src.fn 0); (decide (src.ok = true) &&
    (decide (s.applies src (SPRCMD.WHOLE.adr 0 0) = true) && (onSome false s.tko fun k => (decide (k.log < 64) &&
    (decide (k.tgt < 68))))))))) = true ∧
    (let t : Nat := 1000; let s : State := w3; (decide (s.now ≤ t) && (let src := (Src.fn 0); (decide (src.ok = true) &&
    (decide (s.applies src (SPRCMD.WHOLE.adr 0 0) = true) && (decide (s.tko = none))))))) = true ∧
    (let t : Nat := 1000; let s : State := w5; (decide (s.now ≤ t) && (let p : Nat := 64; (decide (p < 68) &&
    (decide (s.on RELCTL.AUTOTEST = true) && (decide (s.test = none) && (decide (s.rd PHEALTH.STATE 0 p = 3) &&
    (decide (s.mcWait.contains p = false))))))))) = true ∧
    (let t : Nat := 1000; let s : State := w6; (decide (s.now ≤ t) && (let k : Nat := 0; (onSome false s.test fun p =>
    (decide (p < 68) && (decide (s.isolated p = false) && (decide (k < 6)))))))) = true := by decide +kernel

end SpareRequests

namespace Takeovers
def F (n : Nat) (l : List (RField × Nat)) (s : State) : State := l.foldl (fun s p => s.wr p.1 p.2 n) s
def lg (g : Nat) (l : List (RField × Nat)) (s : State) : State := l.foldl (fun s p => s.wr p.1 p.2 0 g) s
def w1 : State :=
  {(lg 66 [(MON.K,0x500)] up) with sprQ := [⟨false,true,true,5,127⟩,⟨false,false,false,6,127⟩]}
def w2 : State :=
  {(lg 66 [(MON.K,0x500)] up) with sprQ := [⟨false,true,true,5,5⟩,⟨false,false,false,6,127⟩]}
def w3 : State :=
  {(lg 66 [(MON.K,0x500)] up) with sprQ := [⟨true,true,true,5,127⟩,⟨false,false,false,6,127⟩]}
def w4 : State :=
  {(lg 5 [(LMAP.SHADOW,1),(LMAP.SPHYS,64)] (lg 64 [(PHEALTH.STATE,2)] (F 0 [(SPRSTAT.MISM,250)] up))) with tko := some ⟨5,5,64,false,false,false,false,none,0⟩}
def w5 : State :=
  {(lg 5 [(LMAP.SHADOW,1),(LMAP.SPHYS,64)] (lg 64 [(PHEALTH.STATE,2)] (F 0 [(SPRSTAT.MISM,250)] up))) with tko := some ⟨5,5,64,false,false,false,true,none,0⟩}
def w6 : State :=
  {(lg 5 [(LMAP.SHADOW,1),(LMAP.SPHYS,64)] (lg 64 [(PHEALTH.STATE,2)] (F 0 [(SPRSTAT.MISM,250)] up))) with tko := some ⟨5,5,64,false,false,false,true,some 600,600⟩}
def w7 : State :=
  {(lg 5 [(LMAP.SHADOW,1),(LMAP.SPHYS,64)] (lg 64 [(PHEALTH.STATE,2)] (F 0 [(SPRSTAT.MISM,250)] up))) with tko := some ⟨5,5,64,true,false,false,true,some 600,600⟩}

theorem witness_Takeovers :
    (let t : Nat := 1000; let s : State := w1; (decide (s.now ≤ t) && (onCons false s.sprQ fun r rest => (decide (s.tko = none) && (decide (r.log < 64) && (decide (r.cold = false) && (decide (s.isolated (s.phys r.log) = false) && (match s.sprTarget r with | .ok p => true | _ => false)))))))) = true ∧
    (let t : Nat := 1000; let s : State := w2; (decide (s.now ≤ t) && (onCons false s.sprQ fun r rest => (decide (s.tko = none) && (decide (r.log < 64) && (match s.sprTarget r with | .error e => (decide (e < 8) && ((((true) && (decide (r.cold = false) && decide (s.isolated (s.phys r.log) = false))) || ((false) && decide (r.cold = true))))) | _ => false)))))) = true ∧
    (let t : Nat := 1000; let s : State := w3; (decide (s.now ≤ t) && (onCons false s.sprQ fun r rest => (decide (s.tko = none) && (decide (r.log < 64) && (decide (r.cold = true) && (match s.sprTarget r with | .ok p => (decide (p ≠ s.phys r.log)) | _ => false))))))) = true ∧
    (let t : Nat := 1000; let s : State := w4; (decide (s.now ≤ t) && (onSome false s.tko fun k => (decide (k.log < 64) &&
    (decide (k.tgt < 68) && (decide (k.src < 68) && (decide (k.src ≠ k.tgt)))))))) = true ∧
    (let t : Nat := 1000; let s : State := w5; (decide (s.now ≤ t) && (onSome false s.tko fun k => (decide (k.log < 64) &&
    (decide (k.tgt < 68) && (decide (k.src < 68) && (decide (k.src ≠ k.tgt) && (decide (k.copied = true) &&
    (decide (k.joined = none) && ((decide (k.bal = true) || decide (s.taskFree k.log = true)))))))))))) = true ∧
    (let t : Nat := (us 50); let s : State := w6; (decide (s.now ≤ t) && (let a := s.advance t; (onSome false s.tko fun k =>
    (decide (k.log < 64) && (decide (k.tgt < 68) && (decide (k.src < 68) && (decide (k.src ≠ k.tgt) &&
    (let plain : Bool := (decide (k.bal = false) && (decide (k.susp = false) &&
    decide (s.rel.marked.contains k.src = false))); (decide (plain) && (decide (a.tkoReady k = true) &&
    (decide (a.tkoInstant k = true))))))))))))) = true ∧
    (let t : Nat := (us 50); let s : State := w6; (decide (s.now ≤ t) && (onSome false s.tko fun k =>
    (decide (k.log < 64) && (decide (k.tgt < 68) && (decide (k.src < 68) && (decide (k.src ≠ k.tgt) &&
    (let plain : Bool := (decide (k.bal = false) && (decide (k.susp = false) &&
    decide (s.rel.marked.contains k.src = false))); (let still : Bool := (decide (s.taskFree k.log = true) &&
    (List.all (List.range 1024) fun n => (if decide (n / 16 = k.log) then (decide (s.rd CHSTAT.STATE n ≠ 2) &&
    (decide ((s.ch n).dl.pend = []) && decide ((s.ch n).dl.lastAt = none))) else true))); (decide (plain) &&
    (decide (still) && (onSome false k.joined fun j => (decide (k.clean + us 10 ≤ t)))))))))))))) = true ∧
    (let t : Nat := 1000; let s : State := w6; (decide (s.now ≤ t) && (onSome false s.tko fun k => (decide (k.log < 64) &&
    (decide (k.tgt < 68) && (decide (k.src < 68) && (decide (k.src ≠ k.tgt) && (let n : Nat := 1;
    (onSome false k.joined fun j => (decide (0 < n) && (decide (k.force = false)))))))))))) = true ∧
    (let t : Nat := (ms 200); let s : State := w7; (decide (s.now ≤ t) && (let a := s.advance t;
    (onSome false s.tko fun k => (decide (k.log < 64) && (decide (k.tgt < 68) && (decide (k.src < 68) &&
    (decide (k.src ≠ k.tgt) && (let plain : Bool := (decide (k.bal = false) && (decide (k.susp = false) &&
    decide (s.rel.marked.contains k.src = false))); (decide (plain) && (onSome false k.joined fun j =>
    (decide (j + ms 100 ≤ t) && (decide (k.force = true) && (decide (a.tkoInstant k = true))))))))))))))) = true ∧
    (let t : Nat := (ms 200); let s : State := w6; (decide (s.now ≤ t) && (onSome false s.tko fun k =>
    (decide (k.log < 64) && (decide (k.tgt < 68) && (decide (k.src < 68) && (decide (k.src ≠ k.tgt) &&
    (onSome false k.joined fun j => (decide (j + ms 100 ≤ t) && (decide (k.force = false))))))))))) = true := by decide +kernel

end Takeovers

namespace PowerEntry
def F (n : Nat) (l : List (RField × Nat)) (s : State) : State := l.foldl (fun s p => s.wr p.1 p.2 n) s
def oe (s : State) : State := s.wr BANKOESTAT.OE 0xFFFF
def pw_ (l : List (RField × Nat)) (f : PwrH → PwrH) (s : State) : State := { (F 0 l s) with pw := f s.pw }
def w1 : State :=
  (F 0 [(PWRSTAT.STATE,0)] up)
def w2 : State :=
  (F 0 [(PWRSTAT.STATE,0)] (F 5 [(ENGCTL.RUN,1)] (up.modSch 5 (fun x => {x with cur := some 3}))))
def w3 : State :=
  (F 0 [(PWRSTAT.STATE,0)] (F 9 [(MVSTAT.STATE,2)] up))
def w4 : State :=
  (F 0 [(PWRSTAT.STATE,0),(PWRCTL.AUTO,1),(PWRCTL.MOOREN,1),(WAKETOL.TOL,65),(PWRCTL.DWELL,3)] up)
def w5 : State :=
  (F 0 [(PWRSTAT.STATE,0),(PWRCTL.AUTO,1),(PWRCTL.MOOREN,0),(WAKETOL.TOL,2),(PWRCTL.DWELL,3)] up)
def w6 : State :=
  (F 0 [(PWRSTAT.STATE,0),(PWRCTL.AUTO,1),(PWRCTL.MOOREN,0),(WAKETOL.TOL,0),(PWRCTL.DWELL,3)] up)
def w7 : State :=
  (pw_ [(PWRSTAT.STATE,3),(PWRCTL.TETHKEEP,1),(TAMPCTL.EN,5),(LCSTAT.STATE,2)] (fun p => {p with tgt := 1, prev := 0}) up)
def w8 : State :=
  (pw_ [(PWRSTAT.STATE,3),(PWRCTL.TETHKEEP,1)] (fun p => {p with tgt := 2, prev := 0}) ((List.range 256).foldl (fun s k => F k [(KCTL.WAKE,1)] s) up))
def w9 : State :=
  (pw_ [(PWRSTAT.STATE,3),(PWRCTL.TETHKEEP,1),(TAMPCTL.EN,5),(LCSTAT.STATE,2)] (fun p => {p with tgt := 3, prev := 0}) up)

theorem witness_PowerEntry_1 :
    (let t : Nat := 1000; let s : State := w1; (decide (s.now ≤ t) && (decide (s.pw.gnd = false) &&
    (let st := s.rd PWRSTAT.STATE; (let idle : Bool := (List.all (List.range 64) fun g => decide (s.engState g < 2));
    (let noWork : Bool := ((List.all (List.range 32) fun m =>
    (decide (s.rd MVSTAT.STATE m = 0) || decide (4 ≤ s.rd MVSTAT.STATE m))) && decide (s.qrec = []));
    (let src := (Src.fn 0); (decide (src.ok = true) && (decide (s.applies src (PWRCTL.WHOLE.adr 0 0) = true) &&
    (decide (st = 0) && (decide (idle) && (decide (noWork))))))))))))) = true := by decide +kernel

theorem witness_PowerEntry_2 :
    (let t : Nat := 1000; let s : State := w2; (decide (s.now ≤ t) && (decide (s.pw.gnd = false) &&
    (let st := s.rd PWRSTAT.STATE; (let idle : Bool := (List.all (List.range 64) fun g => decide (s.engState g < 2));
    (let src := (Src.fn 0); (decide (src.ok = true) && (decide (s.applies src (PWRCTL.WHOLE.adr 0 0) = true) &&
    (decide (st = 0) && ((!decide (idle)))))))))))) = true := by decide +kernel

theorem witness_PowerEntry_3 :
    (let t : Nat := 1000; let s : State := w3; (decide (s.now ≤ t) && (decide (s.pw.gnd = false) &&
    (let st := s.rd PWRSTAT.STATE; (let idle : Bool := (List.all (List.range 64) fun g => decide (s.engState g < 2));
    (let noWork : Bool := ((List.all (List.range 32) fun m =>
    (decide (s.rd MVSTAT.STATE m = 0) || decide (4 ≤ s.rd MVSTAT.STATE m))) && decide (s.qrec = []));
    (let src := (Src.fn 0); (decide (src.ok = true) && (decide (s.applies src (PWRCTL.WHOLE.adr 0 0) = true) &&
    (decide (st = 0) && (decide (idle) && ((!decide (noWork)))))))))))))) = true := by decide +kernel

theorem witness_PowerEntry_4 :
    (let t : Nat := 1000; let s : State := w1; (decide (s.now ≤ t) && (decide (s.pw.gnd = false) &&
    (let st := s.rd PWRSTAT.STATE; (let idle : Bool := (List.all (List.range 64) fun g => decide (s.engState g < 2));
    (let noWork : Bool := ((List.all (List.range 32) fun m =>
    (decide (s.rd MVSTAT.STATE m = 0) || decide (4 ≤ s.rd MVSTAT.STATE m))) && decide (s.qrec = []));
    (let noSlot : Bool := (List.all (List.range 64) fun g => (List.all ((s.sch g).order) fun k =>
    (if decide (g < 64) then (if decide (k ∈ (s.sch g).order) then (decide ((s.ts g k).st = .idle) || decide ((s.ts g k).st = .exec)) else true) else true)));
    (let noChannel : Bool := (List.all (List.range 1024) fun n => ((decide (s.chSt n = 0) || decide (s.chSt n = 3)) &&
    decide ((s.ch n).dl.pend = []))); (let noInput : Bool := ((List.all (List.range 128) fun k =>
    decide (s.on TAILCTL.ARM k = false)) && ((List.all (List.range 32) fun i => decide (s.on SPCTL.EN i = false)) &&
    ((List.all (List.range 16) fun i => decide (s.on SARCTL.EN i = false)) && (List.all (List.range 256) fun i =>
    decide (s.on SDCTL.EN i = false))))); (let moorable : Bool := (decide (idle) && (decide (noSlot) &&
    (decide (noChannel) && (decide (noInput) && (decide (noWork) && (decide (s.tko = none) && decide (s.test = none)))))));
    (let src := (Src.fn 0); (decide (src.ok = true) && (decide (s.applies src (PWRCTL.WHOLE.adr 0 0) = true) &&
    (decide (st < 2) && (decide (moorable)))))))))))))))) = true := by decide +kernel

theorem witness_PowerEntry_5 :
    (let t : Nat := 1000; let s : State := w2; (decide (s.now ≤ t) && (decide (s.pw.gnd = false) &&
    (let st := s.rd PWRSTAT.STATE; (let idle : Bool := (List.all (List.range 64) fun g => decide (s.engState g < 2));
    (let noSlot : Bool := (List.all (List.range 64) fun g => (List.all ((s.sch g).order) fun k =>
    (if decide (g < 64) then (if decide (k ∈ (s.sch g).order) then (decide ((s.ts g k).st = .idle) || decide ((s.ts g k).st = .exec)) else true) else true)));
    (let src := (Src.fn 0); (decide (src.ok = true) && (decide (s.applies src (PWRCTL.WHOLE.adr 0 0) = true) &&
    (decide (st < 2) && ((!(decide (idle) && decide (noSlot)))))))))))))) = true := by decide +kernel

theorem witness_PowerEntry_6 :
    (let t : Nat := 1000; let s : State := (F 0 [(PWRSTAT.STATE,0)] (F 9 [(CHSTAT.STATE,2)] up)); (decide (s.now ≤ t) &&
    (decide (s.pw.gnd = false) && (let st := s.rd PWRSTAT.STATE; (let idle : Bool := (List.all (List.range 64) fun g =>
    decide (s.engState g < 2)); (let noSlot : Bool := (List.all (List.range 64) fun g =>
    (List.all ((s.sch g).order) fun k =>
    (if decide (g < 64) then (if decide (k ∈ (s.sch g).order) then (decide ((s.ts g k).st = .idle) || decide ((s.ts g k).st = .exec)) else true) else true)));
    (let noChannel : Bool := (List.all (List.range 1024) fun n => ((decide (s.chSt n = 0) || decide (s.chSt n = 3)) &&
    decide ((s.ch n).dl.pend = []))); (let src := (Src.fn 0); (decide (src.ok = true) &&
    (decide (s.applies src (PWRCTL.WHOLE.adr 0 0) = true) && (decide (st < 2) && (decide (idle) && (decide (noSlot) &&
    ((!decide (noChannel)))))))))))))))) = true := by decide +kernel

theorem witness_PowerEntry_7 :
    (let t : Nat := 1000; let s : State := (F 0 [(PWRSTAT.STATE,0)] (F 9 [(TAILCTL.ARM,1)] up)); (decide (s.now ≤ t) &&
    (decide (s.pw.gnd = false) && (let st := s.rd PWRSTAT.STATE; (let idle : Bool := (List.all (List.range 64) fun g =>
    decide (s.engState g < 2)); (let noSlot : Bool := (List.all (List.range 64) fun g =>
    (List.all ((s.sch g).order) fun k =>
    (if decide (g < 64) then (if decide (k ∈ (s.sch g).order) then (decide ((s.ts g k).st = .idle) || decide ((s.ts g k).st = .exec)) else true) else true)));
    (let noChannel : Bool := (List.all (List.range 1024) fun n => ((decide (s.chSt n = 0) || decide (s.chSt n = 3)) &&
    decide ((s.ch n).dl.pend = []))); (let noInput : Bool := ((List.all (List.range 128) fun k =>
    decide (s.on TAILCTL.ARM k = false)) && ((List.all (List.range 32) fun i => decide (s.on SPCTL.EN i = false)) &&
    ((List.all (List.range 16) fun i => decide (s.on SARCTL.EN i = false)) && (List.all (List.range 256) fun i =>
    decide (s.on SDCTL.EN i = false))))); (let src := (Src.fn 0); (decide (src.ok = true) &&
    (decide (s.applies src (PWRCTL.WHOLE.adr 0 0) = true) && (decide (st < 2) && (decide (idle) && (decide (noSlot) &&
    (decide (noChannel) && ((!decide (noInput)))))))))))))))))) = true := by decide +kernel

theorem witness_PowerEntry_8 :
    (let t : Nat := 1000; let s : State := w3; (decide (s.now ≤ t) && (decide (s.pw.gnd = false) &&
    (let st := s.rd PWRSTAT.STATE; (let idle : Bool := (List.all (List.range 64) fun g => decide (s.engState g < 2));
    (let noWork : Bool := ((List.all (List.range 32) fun m =>
    (decide (s.rd MVSTAT.STATE m = 0) || decide (4 ≤ s.rd MVSTAT.STATE m))) && decide (s.qrec = []));
    (let noSlot : Bool := (List.all (List.range 64) fun g => (List.all ((s.sch g).order) fun k =>
    (if decide (g < 64) then (if decide (k ∈ (s.sch g).order) then (decide ((s.ts g k).st = .idle) || decide ((s.ts g k).st = .exec)) else true) else true)));
    (let noChannel : Bool := (List.all (List.range 1024) fun n => ((decide (s.chSt n = 0) || decide (s.chSt n = 3)) &&
    decide ((s.ch n).dl.pend = []))); (let noInput : Bool := ((List.all (List.range 128) fun k =>
    decide (s.on TAILCTL.ARM k = false)) && ((List.all (List.range 32) fun i => decide (s.on SPCTL.EN i = false)) &&
    ((List.all (List.range 16) fun i => decide (s.on SARCTL.EN i = false)) && (List.all (List.range 256) fun i =>
    decide (s.on SDCTL.EN i = false))))); (let src := (Src.fn 0); (decide (src.ok = true) &&
    (decide (s.applies src (PWRCTL.WHOLE.adr 0 0) = true) && (decide (st < 2) && (decide (idle) && (decide (noSlot) &&
    (decide (noChannel) && (decide (noInput) && ((!decide (noWork)))))))))))))))))))) = true := by decide +kernel

theorem witness_PowerEntry_9 :
    (let t : Nat := 1000; let s : State := (F 0 [(PWRSTAT.STATE,0)] { up with test := some 64 }); (decide (s.now ≤ t) &&
    (decide (s.pw.gnd = false) && (let st := s.rd PWRSTAT.STATE; (let idle : Bool := (List.all (List.range 64) fun g =>
    decide (s.engState g < 2)); (let noWork : Bool := ((List.all (List.range 32) fun m =>
    (decide (s.rd MVSTAT.STATE m = 0) || decide (4 ≤ s.rd MVSTAT.STATE m))) && decide (s.qrec = []));
    (let noSlot : Bool := (List.all (List.range 64) fun g => (List.all ((s.sch g).order) fun k =>
    (if decide (g < 64) then (if decide (k ∈ (s.sch g).order) then (decide ((s.ts g k).st = .idle) || decide ((s.ts g k).st = .exec)) else true) else true)));
    (let noChannel : Bool := (List.all (List.range 1024) fun n => ((decide (s.chSt n = 0) || decide (s.chSt n = 3)) &&
    decide ((s.ch n).dl.pend = []))); (let noInput : Bool := ((List.all (List.range 128) fun k =>
    decide (s.on TAILCTL.ARM k = false)) && ((List.all (List.range 32) fun i => decide (s.on SPCTL.EN i = false)) &&
    ((List.all (List.range 16) fun i => decide (s.on SARCTL.EN i = false)) && (List.all (List.range 256) fun i =>
    decide (s.on SDCTL.EN i = false))))); (let src := (Src.fn 0); (decide (src.ok = true) &&
    (decide (s.applies src (PWRCTL.WHOLE.adr 0 0) = true) && (decide (st < 2) && (decide (idle) && (decide (noSlot) &&
    (decide (noChannel) && (decide (noInput) && (decide (noWork) &&
    ((decide (s.tko ≠ none) || decide (s.test ≠ none))))))))))))))))))))) = true := by decide +kernel

theorem witness_PowerEntry_10 :
    (let t : Nat := 1000; let s : State := w1; (decide (s.now ≤ t) && (decide (s.pw.gnd = false) && (let src := (Src.fn 0);
    (let w := 0x0000005a#32; (decide (src.ok = true) && (decide (s.applies src (PWRCTL.WHOLE.adr 0 0) = true) &&
    (decide (PWRCTL.GNDKEY.of w ≠ 0x5A))))))))) = true := by decide +kernel

theorem witness_PowerEntry_11 :
    (let t : Nat := 1000; let s : State := w1; (decide (s.now ≤ t) && (decide (s.pw.gnd = false) &&
    (let st := s.rd PWRSTAT.STATE; (let src := (Src.fn 0); (let w := 0x005a0000#32; (decide (src.ok = true) &&
    (decide (s.applies src (PWRCTL.WHOLE.adr 0 0) = true) && (decide (PWRCTL.GNDKEY.of w = 0x5A) && (decide (st < 3) &&
    (decide (s.rd BANKOESTAT.OE = 0) && ((List.all (List.range 4) fun p => decide (s.rd TPSTAT.STATE p = 0)) &&
    (decide (s.boot.oe = [])))))))))))))) = true := by decide +kernel

theorem witness_PowerEntry_12 :
    (let t : Nat := (ms 20); let s : State := w4; (decide (s.now ≤ t) && (decide (s.pw.gnd = false) &&
    (let st := s.rd PWRSTAT.STATE; (let idle : Bool := (List.all (List.range 64) fun g => decide (s.engState g < 2));
    (let noWork : Bool := ((List.all (List.range 32) fun m =>
    (decide (s.rd MVSTAT.STATE m = 0) || decide (4 ≤ s.rd MVSTAT.STATE m))) && decide (s.qrec = []));
    (let noSlot : Bool := (List.all (List.range 64) fun g => (List.all ((s.sch g).order) fun k =>
    (if decide (g < 64) then (if decide (k ∈ (s.sch g).order) then (decide ((s.ts g k).st = .idle) || decide ((s.ts g k).st = .exec)) else true) else true)));
    (let noChannel : Bool := (List.all (List.range 1024) fun n => ((decide (s.chSt n = 0) || decide (s.chSt n = 3)) &&
    decide ((s.ch n).dl.pend = []))); (let noInput : Bool := ((List.all (List.range 128) fun k =>
    decide (s.on TAILCTL.ARM k = false)) && ((List.all (List.range 32) fun i => decide (s.on SPCTL.EN i = false)) &&
    ((List.all (List.range 16) fun i => decide (s.on SARCTL.EN i = false)) && (List.all (List.range 256) fun i =>
    decide (s.on SDCTL.EN i = false))))); (let moorable : Bool := (decide (idle) && (decide (noSlot) &&
    (decide (noChannel) && (decide (noInput) && (decide (noWork) && (decide (s.tko = none) && decide (s.test = none)))))));
    (let b : Nat := 0; (decide (s.on PWRCTL.AUTO = true) && (decide (st < 2) && (let dwell := us (100 * s.rd PWRCTL.DWELL);
    (let deep : Bool := (decide (s.on PWRCTL.MOOREN = true) && (decide (65 ≤ s.rd WAKETOL.TOL) && (decide (b + dwell ≤ t) &&
    decide (moorable)))); (decide (deep))))))))))))))))) = true := by decide +kernel

theorem witness_PowerEntry_13 :
    (let t : Nat := (ms 20); let s : State := w5; (decide (s.now ≤ t) && (decide (s.pw.gnd = false) &&
    (let st := s.rd PWRSTAT.STATE; (let idle : Bool := (List.all (List.range 64) fun g => decide (s.engState g < 2));
    (let noWork : Bool := ((List.all (List.range 32) fun m =>
    (decide (s.rd MVSTAT.STATE m = 0) || decide (4 ≤ s.rd MVSTAT.STATE m))) && decide (s.qrec = []));
    (let noSlot : Bool := (List.all (List.range 64) fun g => (List.all ((s.sch g).order) fun k =>
    (if decide (g < 64) then (if decide (k ∈ (s.sch g).order) then (decide ((s.ts g k).st = .idle) || decide ((s.ts g k).st = .exec)) else true) else true)));
    (let noChannel : Bool := (List.all (List.range 1024) fun n => ((decide (s.chSt n = 0) || decide (s.chSt n = 3)) &&
    decide ((s.ch n).dl.pend = []))); (let noInput : Bool := ((List.all (List.range 128) fun k =>
    decide (s.on TAILCTL.ARM k = false)) && ((List.all (List.range 32) fun i => decide (s.on SPCTL.EN i = false)) &&
    ((List.all (List.range 16) fun i => decide (s.on SARCTL.EN i = false)) && (List.all (List.range 256) fun i =>
    decide (s.on SDCTL.EN i = false))))); (let moorable : Bool := (decide (idle) && (decide (noSlot) &&
    (decide (noChannel) && (decide (noInput) && (decide (noWork) && (decide (s.tko = none) && decide (s.test = none)))))));
    (let a : Nat := 0; (let b : Nat := 0; (decide (s.on PWRCTL.AUTO = true) && (decide (st < 2) &&
    (let dwell := us (100 * s.rd PWRCTL.DWELL); (let deep : Bool := (decide (s.on PWRCTL.MOOREN = true) &&
    (decide (65 ≤ s.rd WAKETOL.TOL) && (decide (b + dwell ≤ t) && decide (moorable)))); ((!decide (deep)) &&
    (decide (st = 0) && (decide (2 ≤ s.rd WAKETOL.TOL) && (decide (a + dwell ≤ t) && (decide (idle) &&
    (decide (noWork))))))))))))))))))))))) = true := by decide +kernel

theorem witness_PowerEntry_14 :
    (let t : Nat := (ms 20); let s : State := w6; (decide (s.now ≤ t) && (decide (s.pw.gnd = false) &&
    (let st := s.rd PWRSTAT.STATE; (decide (s.on PWRCTL.AUTO = true) && (decide (st < 2) &&
    (decide (s.rd WAKETOL.TOL < 2)))))))) = true := by decide +kernel

theorem witness_PowerEntry_15 :
    (let t : Nat := 1000; let s : State := w7; (decide (s.now ≤ t) && (decide (s.pw.gnd = false) &&
    (let st := s.rd PWRSTAT.STATE; (decide (st = 3) && (decide (s.on SPINESTAT.CALDONE = true) &&
    (decide (s.pw.deep = false) && (decide (s.pw.tgt = 1))))))))) = true := by decide +kernel

theorem witness_PowerEntry_16 :
    (let t : Nat := 1000; let s : State := w8; (decide (s.now ≤ t) && (decide (s.pw.gnd = false) &&
    (let st := s.rd PWRSTAT.STATE; (decide (st = 3) && (decide (s.on SPINESTAT.CALDONE = true) &&
    (decide (s.pw.deep = false) && (decide (s.pw.tgt = 2) && (decide (s.pw.log = []) && ((List.all (List.range 256) fun k =>
    decide (s.kLive k = true)) && (decide (s.on PWRCTL.TETHKEEP = true)))))))))))) = true := by decide +kernel

theorem witness_PowerEntry_17 :
    (let t : Nat := 1000; let s : State := w9; (decide (s.now ≤ t) && (decide (s.pw.gnd = false) &&
    (let st := s.rd PWRSTAT.STATE; (decide (st = 3) && (decide (s.on SPINESTAT.CALDONE = true) &&
    (decide (s.pw.deep = false) && (decide (s.pw.tgt = 3))))))))) = true := by decide +kernel

theorem witness_PowerEntry_18 :
    (let t : Nat := 1000; let s : State := w1; (decide (s.now ≤ t) && (decide (s.pw.gnd = false) &&
    (let st := s.rd PWRSTAT.STATE; (decide (st ≠ 3)))))) = true := by decide +kernel

end PowerEntry

namespace Wakes
def F (n : Nat) (l : List (RField × Nat)) (s : State) : State := l.foldl (fun s p => s.wr p.1 p.2 n) s
def pw_ (l : List (RField × Nat)) (f : PwrH → PwrH) (s : State) : State := { (F 0 l s) with pw := f s.pw }
def w1 : State :=
  (pw_ [(PWRSTAT.STATE,1),(WAKEEN.TETH,0),(WAKEEN.WD,0),(WAKEEN.SUPPLY,0),(WAKEEN.TIMER,0)] (fun p => {p with deep := false}) (F 9 [(KCTL.WAKE,1),(KSTAT.OUT,1)] ((up.modSch 5 (fun x => {x with order := [3]})).modTs 5 3 (fun x => {x with st := .ready}))))
def w2 : State :=
  (pw_ [(PWRSTAT.STATE,1),(WAKEEN.TETH,1),(WAKEEN.WD,1),(WAKEEN.SUPPLY,1),(WAKEEN.TIMER,0)] (fun p => {p with deep := false}) (F 9 [(KCTL.WAKE,1),(KSTAT.OUT,1)] ((up.modSch 5 (fun x => {x with order := [3]})).modTs 5 3 (fun x => {x with st := .ready}))))
def w3 : State :=
  (pw_ [(PWRSTAT.STATE,1),(WAKEEN.TETH,0),(WAKEEN.WD,0),(WAKEEN.SUPPLY,0),(WAKEEN.TIMER,1)] (fun p => {p with deep := false}) (F 9 [(KCTL.WAKE,1),(KSTAT.OUT,1)] ((up.modSch 5 (fun x => {x with order := [3]})).modTs 5 3 (fun x => {x with st := .ready}))))
def w4 : State :=
  (pw_ [(PWRSTAT.STATE,4),(PWRSTAT.WAKES,65535),(WAKELAT.MAX,3)] (fun p => {p with deep := false, deepAt := 600, log := [], lost := 0, prev := 0, cause := 3, idx := 9, from_ := 700, held := []}) { up with calT0 := 4 })
def w5 : State :=
  (pw_ [(PWRSTAT.STATE,4),(PWRSTAT.WAKES,65535),(WAKELAT.MAX,3)] (fun p => {p with deep := true, deepAt := 600, log := [], lost := 0, prev := 0, cause := 3, idx := 9, from_ := 700, held := []}) { up with calT0 := 4 })

theorem witness_Wakes :
    (let t : Nat := 1000; let s : State := w1; (decide (s.now ≤ t) && (decide (s.pw.gnd = false) &&
    (let st := s.rd PWRSTAT.STATE; (decide (1 ≤ st) && (decide (st ≤ 3) && (let i : Nat := 0;
    (decide (i < 256))))))))) = true ∧
    (let t : Nat := 1000; let s : State := w1; (decide (s.now ≤ t) && (decide (s.pw.gnd = false) &&
    (let st := s.rd PWRSTAT.STATE; (decide (1 ≤ st) && (decide (st ≤ 3) && (let i : Nat := 9; (decide (i < 256) &&
    (decide (s.on KCTL.WAKE i = true) && (decide (s.on KSTAT.OUT i = true))))))))))) = true ∧
    (let t : Nat := 1000; let s : State := w2; (decide (s.now ≤ t) && (decide (s.pw.gnd = false) &&
    (let st := s.rd PWRSTAT.STATE; (decide (1 ≤ st) && (decide (st ≤ 3) && (let i : Nat := 0; (decide (i < 256) &&
    (decide (s.on WAKEEN.TETH = true)))))))))) = true ∧
    (let t : Nat := 1000; let s : State := w2; (decide (s.now ≤ t) && (decide (s.pw.gnd = false) &&
    (let st := s.rd PWRSTAT.STATE; (decide (1 ≤ st) && (decide (st ≤ 3) && (let i : Nat := 0; (decide (i < 256) &&
    (decide (s.on WAKEEN.WD = true)))))))))) = true ∧
    (let t : Nat := 1000; let s : State := w2; (decide (s.now ≤ t) && (decide (s.pw.gnd = false) &&
    (let st := s.rd PWRSTAT.STATE; (decide (1 ≤ st) && (decide (st ≤ 3) && (let i : Nat := 0; (decide (i < 256) &&
    (decide (s.on WAKEEN.SUPPLY = true)))))))))) = true ∧
    (let t : Nat := 1000; let s : State := w1; (decide (s.now ≤ t) && (decide (s.pw.gnd = false) &&
    (let st := s.rd PWRSTAT.STATE; (decide (1 ≤ st) && (decide (st ≤ 3) && (let i : Nat := 0; (let g : Nat := 5;
    (let k : Nat := 3; (decide (i < 256) && (decide (s.pw.deep = false) && (decide (g < 64) &&
    (decide (k ∈ (s.sch g).order) && (decide ((s.ts g k).st = .ready))))))))))))))) = true ∧
    (let t : Nat := 1000; let s : State := w3; (decide (s.now ≤ t) && (decide (s.pw.gnd = false) &&
    (let st := s.rd PWRSTAT.STATE; (decide (1 ≤ st) && (decide (st ≤ 3) && (decide (s.on WAKEEN.TIMER = true) &&
    (decide (s.rd64 WAKEAT_LO.VALUE WAKEAT_HI.VALUE ≤ s.fineAt 0 t / 64))))))))) = true ∧
    (let t : Nat := 1000; let s : State := w1; (decide (s.now ≤ t) && (decide (s.pw.gnd = false) &&
    (let st := s.rd PWRSTAT.STATE; (decide (1 ≤ st) && (decide (st ≤ 3) && (let src := (Src.fn 0);
    (decide (src.ok = true) && (decide (s.applies src (PWRCTL.WHOLE.adr 0 0) = true)))))))))) = true ∧
    (let t : Nat := 1000; let s : State := w1; (decide (s.now ≤ t) && (decide (s.pw.gnd = false) && (let c : Nat := 5;
    (((decide (c = 1) && decide (s.pw.deep = true)) || ((decide (c = 5) &&
    decide (s.on WAKEEN.TETH = false)) || ((decide (c = 6) && decide (s.on WAKEEN.WD = false)) || (decide (c = 7) &&
    decide (s.on WAKEEN.SUPPLY = false)))))))))) = true ∧
    (let t : Nat := 1000; let s : State := w1; (decide (s.now ≤ t) && (decide (s.pw.gnd = false) &&
    (decide (s.on WAKEEN.TIMER = false))))) = true ∧
    (let t : Nat := (us 100); let s : State := w4; (decide (s.now ≤ t) && (decide (s.pw.gnd = false) &&
    (let st := s.rd PWRSTAT.STATE; (decide (st = 4) && (decide (s.pw.deep = false) && (decide (s.pw.held = []) &&
    (decide (s.on SPINESTAT.CALDONE = true))))))))) = true ∧
    (let t : Nat := (us 100); let s : State := w5; (decide (s.now ≤ t) && (decide (s.pw.gnd = false) &&
    (let st := s.rd PWRSTAT.STATE; (decide (st = 4) && (decide (s.pw.deep = true) && (decide (s.pw.held = []) &&
    (decide (s.on SPINESTAT.CALDONE = true) && ((List.all (List.range 64) fun g =>
    decide ((s.en g).posted = []))))))))))) = true ∧
    (let t : Nat := (us 100); let s : State := w4; (decide (s.now ≤ t) && (decide (s.pw.gnd = false) &&
    (let st := s.rd PWRSTAT.STATE; (decide (st = 4) && (onSome false ((([0]))[0]?) fun dumx => true)))))) = true := by decide +kernel

end Wakes

namespace Supplies
def F (n : Nat) (l : List (RField × Nat)) (s : State) : State := l.foldl (fun s p => s.wr p.1 p.2 n) s
def pw_ (l : List (RField × Nat)) (f : PwrH → PwrH) (s : State) : State := { (F 0 l s) with pw := f s.pw }
def lg (g : Nat) (l : List (RField × Nat)) (s : State) : State := l.foldl (fun s p => s.wr p.1 p.2 0 g) s
def w1 : State :=
  (pw_ [(AVSSTAT.REQ,800),(BANKOESTAT.OE,0xFFFF)] (fun p => {p with seen := 0}) (lg 0 [(SUPMON.LEVEL,500),(SUPMON.MIN,2500),(SUPMON.WARN,0),(SUPMON.FAULT,0),(SUPMON.HI,0)] up))
def w2 : State :=
  (pw_ [(AVSSTAT.REQ,800),(BANKOESTAT.OE,0xFFFF)] (fun p => {p with seen := 0}) (lg 4 [(SUPMON.LEVEL,1800),(SUPMON.MIN,2500),(SUPMON.WARN,0),(SUPMON.FAULT,0),(SUPMON.HI,0)] up))
def w3 : State :=
  (pw_ [(AVSSTAT.REQ,800),(BANKOESTAT.OE,0xFFFF)] (fun p => {p with seen := 0}) (lg 4 [(SUPMON.LEVEL,500),(SUPMON.MIN,2500),(SUPMON.WARN,0),(SUPMON.FAULT,0),(SUPMON.HI,0)] up))
def w4 : State :=
  (pw_ [(AVSSTAT.REQ,800),(BANKOESTAT.OE,0xFFFF)] (fun p => {p with seen := 0}) (lg 3 [(SUPMON.LEVEL,500),(SUPMON.MIN,2500),(SUPMON.WARN,0),(SUPMON.FAULT,0),(SUPMON.HI,0)] up))
def w5 : State :=
  (pw_ [(AVSSTAT.REQ,800),(BANKOESTAT.OE,0xFFFF)] (fun p => {p with seen := 0}) (lg 1 [(SUPMON.LEVEL,500),(SUPMON.MIN,2500),(SUPMON.WARN,0),(SUPMON.FAULT,0),(SUPMON.HI,0)] up))
def w6 : State :=
  (pw_ [(AVSSTAT.REQ,800),(BANKOESTAT.OE,0xFFFF)] (fun p => {p with seen := 65535}) (lg 0 [(SUPMON.LEVEL,700),(SUPMON.MIN,2500),(SUPMON.WARN,1),(SUPMON.FAULT,1),(SUPMON.HI,0)] up))

theorem witness_Supplies :
    (let t : Nat := 1000; let r : Nat := 0; let mv : Nat := 500; let s : State := w1; (decide (r < 20) &&
    (decide (mv < 4096) && (decide (s.now ≤ t) && (decide (s.rd PWRSTAT.STATE = 0) &&
    ((decide (r < 4) || decide (bitAt s.pw.seen (r - 4) = true)))))))) = true ∧
    (let t : Nat := 1000; let r : Nat := 4; let mv : Nat := 1800; let s : State := w2; (decide (r < 20) &&
    (decide (mv < 4096) && (decide (s.now ≤ t) && (decide (s.rd PWRSTAT.STATE = 0) && (let v : Nat := 0; (decide (4 ≤ r) &&
    (decide (bitAt s.pw.seen (r - 4) = false) && (((decide (v = 1) && (decide (3135 ≤ mv) &&
    decide (mv ≤ 3465))) || (decide (v = 0) && (decide (1710 ≤ mv) && decide (mv ≤ 1890))))))))))))) = true ∧
    (let t : Nat := 1000; let r : Nat := 0; let mv : Nat := 500; let s : State := w1; (decide (r < 20) &&
    (decide (mv < 4096) && (decide (s.now ≤ t) && (decide (s.rd PWRSTAT.STATE = 0) && (let hi := s.on SUPMON.HI 0 r;
    (let warnOk (v : Nat) : Bool := (if decide (r = 0) then (decide (s.rd AVSSTAT.REQ - 30 ≤ v) &&
    decide (v ≤ s.rd AVSSTAT.REQ + 30)) else (if decide (r = 1) then (decide (808 ≤ v) &&
    decide (v ≤ 892)) else (if decide (r = 2) then (decide (1140 ≤ v) &&
    decide (v ≤ 1260)) else (if decide (r = 3) then (decide (1710 ≤ v) &&
    decide (v ≤ 1890)) else (if decide (hi) then (decide (3069 ≤ v) && decide (v ≤ 3531)) else (decide (1674 ≤ v) &&
    decide (v ≤ 1926))))))); (let lvl := s.rd SUPMON.LEVEL 0 r; ((!decide (warnOk lvl)) &&
    (decide (s.on SUPMON.WARN 0 r = false))))))))))) = true ∧
    (let t : Nat := 1000; let r : Nat := 4; let mv : Nat := 500; let s : State := w3; (decide (r < 20) &&
    (decide (mv < 4096) && (decide (s.now ≤ t) && (decide (s.rd PWRSTAT.STATE = 0) && (let hi := s.on SUPMON.HI 0 r;
    (let faultOk : Bool := (if decide (r = 0) then (decide (600 ≤ mv) &&
    decide (mv ≤ 950)) else (if decide (r = 1) then (decide (765 ≤ mv) &&
    decide (mv ≤ 935)) else (if decide (r = 2) then (decide (1080 ≤ mv) &&
    decide (mv ≤ 1320)) else (if decide (r = 3) then (decide (1620 ≤ mv) &&
    decide (mv ≤ 1980)) else (if decide (hi) then (decide (2904 ≤ mv) && decide (mv ≤ 3696)) else (decide (1584 ≤ mv) &&
    decide (mv ≤ 2016))))))); ((!decide (faultOk)) && (decide (s.on SUPMON.FAULT 0 r = false) && (decide (4 ≤ r) &&
    (decide (bitAt (s.rd BANKOESTAT.OE) (r - 4) = true)))))))))))) = true ∧
    (let t : Nat := 1000; let r : Nat := 3; let mv : Nat := 500; let s : State := w4; (decide (r < 20) &&
    (decide (mv < 4096) && (decide (s.now ≤ t) && (decide (s.rd PWRSTAT.STATE = 0) && (let hi := s.on SUPMON.HI 0 r;
    (let faultOk : Bool := (if decide (r = 0) then (decide (600 ≤ mv) &&
    decide (mv ≤ 950)) else (if decide (r = 1) then (decide (765 ≤ mv) &&
    decide (mv ≤ 935)) else (if decide (r = 2) then (decide (1080 ≤ mv) &&
    decide (mv ≤ 1320)) else (if decide (r = 3) then (decide (1620 ≤ mv) &&
    decide (mv ≤ 1980)) else (if decide (hi) then (decide (2904 ≤ mv) && decide (mv ≤ 3696)) else (decide (1584 ≤ mv) &&
    decide (mv ≤ 2016))))))); ((!decide (faultOk)) && (decide (s.on SUPMON.FAULT 0 r = false) && (decide (r = 3) &&
    ((List.all (List.range 256) fun k => decide (s.kOff k = true))))))))))))) = true ∧
    (let t : Nat := 1000; let r : Nat := 1; let mv : Nat := 500; let s : State := w5; (decide (r < 20) &&
    (decide (mv < 4096) && (decide (s.now ≤ t) && (decide (s.rd PWRSTAT.STATE = 0) && (let hi := s.on SUPMON.HI 0 r;
    (let faultOk : Bool := (if decide (r = 0) then (decide (600 ≤ mv) &&
    decide (mv ≤ 950)) else (if decide (r = 1) then (decide (765 ≤ mv) &&
    decide (mv ≤ 935)) else (if decide (r = 2) then (decide (1080 ≤ mv) &&
    decide (mv ≤ 1320)) else (if decide (r = 3) then (decide (1620 ≤ mv) &&
    decide (mv ≤ 1980)) else (if decide (hi) then (decide (2904 ≤ mv) && decide (mv ≤ 3696)) else (decide (1584 ≤ mv) &&
    decide (mv ≤ 2016))))))); ((!decide (faultOk)) && (decide (s.on SUPMON.FAULT 0 r = false) &&
    ((decide (r = 1) || decide (r = 2)) && ((List.all (List.range 4) fun p =>
    decide (s.rd TPSTAT.STATE p = 0))))))))))))) = true ∧
    (let t : Nat := 1000; let r : Nat := 0; let mv : Nat := 500; let s : State := w1; (decide (r < 20) &&
    (decide (mv < 4096) && (decide (s.now ≤ t) && (decide (s.rd PWRSTAT.STATE = 0) && (let hi := s.on SUPMON.HI 0 r;
    (let faultOk : Bool := (if decide (r = 0) then (decide (600 ≤ mv) &&
    decide (mv ≤ 950)) else (if decide (r = 1) then (decide (765 ≤ mv) &&
    decide (mv ≤ 935)) else (if decide (r = 2) then (decide (1080 ≤ mv) &&
    decide (mv ≤ 1320)) else (if decide (r = 3) then (decide (1620 ≤ mv) &&
    decide (mv ≤ 1980)) else (if decide (hi) then (decide (2904 ≤ mv) && decide (mv ≤ 3696)) else (decide (1584 ≤ mv) &&
    decide (mv ≤ 2016))))))); ((!decide (faultOk)) && (decide (s.on SUPMON.FAULT 0 r = false) &&
    (decide (r = 0))))))))))) = true ∧
    (let t : Nat := 1000; let r : Nat := 0; let mv : Nat := 700; let s : State := w6; (decide (r < 20) &&
    (decide (mv < 4096) && (decide (s.now ≤ t) && (decide (s.rd PWRSTAT.STATE = 0) && (let hi := s.on SUPMON.HI 0 r;
    (let faultOk : Bool := (if decide (r = 0) then (decide (600 ≤ mv) &&
    decide (mv ≤ 950)) else (if decide (r = 1) then (decide (765 ≤ mv) &&
    decide (mv ≤ 935)) else (if decide (r = 2) then (decide (1080 ≤ mv) &&
    decide (mv ≤ 1320)) else (if decide (r = 3) then (decide (1620 ≤ mv) &&
    decide (mv ≤ 1980)) else (if decide (hi) then (decide (2904 ≤ mv) && decide (mv ≤ 3696)) else (decide (1584 ≤ mv) &&
    decide (mv ≤ 2016))))))); (decide (faultOk) && (decide (s.on SUPMON.FAULT 0 r = true) &&
    ((if decide (r = 3) then (List.all (List.range 256) fun k => decide (s.kOff k = true)) else true))))))))))) = true := by decide +kernel

end Supplies

namespace CoreVoltage
def F (n : Nat) (l : List (RField × Nat)) (s : State) : State := l.foldl (fun s p => s.wr p.1 p.2 n) s
def pw_ (l : List (RField × Nat)) (f : PwrH → PwrH) (s : State) : State := { (F 0 l s) with pw := f s.pw }
def lg (g : Nat) (l : List (RField × Nat)) (s : State) : State := l.foldl (fun s p => s.wr p.1 p.2 0 g) s
def w1 : State :=
  (pw_ [(AVSCTL.EN,1),(AVSCTL.VMIN,650),(AVSCTL.VMAX,900),(AVSSTAT.LOOP,800),(PMBCFG.AVSK,4096)] (fun p => {p with lowN := 3}) ((List.range 96).foldl (fun s m => lg m [(MON.K,4176)] s) up))
def w2 : State :=
  (pw_ [(AVSCTL.EN,1),(AVSCTL.VMIN,650),(AVSCTL.VMAX,900),(AVSSTAT.LOOP,800),(PMBCFG.AVSK,4176)] (fun p => {p with lowN := 3}) ((List.range 96).foldl (fun s m => lg m [(MON.K,2304)] s) up))
def w3 : State :=
  (pw_ [(AVSCTL.EN,1),(AVSCTL.VMIN,650),(AVSCTL.VMAX,900),(AVSSTAT.LOOP,800),(PMBCFG.AVSK,4176)] (fun p => {p with lowN := 15}) ((List.range 96).foldl (fun s m => lg m [(MON.K,2304)] s) up))
def w4 : State :=
  (pw_ [(AVSCTL.EN,1),(AVSCTL.VMIN,650),(AVSCTL.VMAX,900),(AVSSTAT.LOOP,800),(PMBCFG.AVSK,4096)] (fun p => {p with lowN := 3}) ((List.range 96).foldl (fun s m => lg m [(MON.K,4096)] s) up))
def w5 : State :=
  (pw_ [(AVSCTL.EN,1),(AVSCTL.VMIN,650),(AVSCTL.VMAX,900),(AVSSTAT.LOOP,645),(PMBCFG.AVSK,4096)] (fun p => {p with lowN := 3}) ((List.range 96).foldl (fun s m => lg m [(MON.K,4176)] s) up))
def w6 : State :=
  (pw_ [(AVSCTL.EN,1),(AVSCTL.VMIN,650),(AVSCTL.VMAX,900),(AVSSTAT.LOOP,810),(AVSSTAT.REQ,800),(AVSSTAT.SETTLING,1),(AVSSTAT.PMFAIL,0),(SUPMON.LEVEL,800)] (fun p => {p with tries := 2, sentAt := none}) { up with rel := { up.rel with wait := .settle 5 } })
def w7 : State :=
  (pw_ [(AVSCTL.EN,1),(AVSCTL.VMIN,650),(AVSCTL.VMAX,900),(AVSSTAT.LOOP,800),(AVSSTAT.REQ,800),(AVSSTAT.SETTLING,1),(AVSSTAT.PMFAIL,0),(SUPMON.LEVEL,800)] (fun p => {p with tries := 0, sentAt := some 600}) { up with rel := { up.rel with wait := .settle 5 } })
def w8 : State :=
  (pw_ [(AVSCTL.EN,1),(AVSCTL.VMIN,650),(AVSCTL.VMAX,900),(AVSSTAT.LOOP,800),(AVSSTAT.REQ,800),(AVSSTAT.SETTLING,1),(AVSSTAT.PMFAIL,0),(SUPMON.LEVEL,800)] (fun p => {p with tries := 0, sentAt := none}) { up with rel := { up.rel with wait := .settle 5 } })
def w9 : State :=
  (pw_ [(AVSCTL.EN,1),(AVSCTL.VMIN,650),(AVSCTL.VMAX,900),(AVSSTAT.LOOP,800),(AVSSTAT.REQ,800),(AVSSTAT.SETTLING,1),(AVSSTAT.PMFAIL,0),(SUPMON.LEVEL,800)] (fun p => {p with tries := 2, sentAt := none}) { up with rel := { up.rel with wait := .settle 5 } })
def w10 : State :=
  (pw_ [(AVSCTL.EN,1),(AVSCTL.VMIN,650),(AVSCTL.VMAX,900),(AVSSTAT.LOOP,810),(AVSSTAT.REQ,800),(AVSSTAT.SETTLING,1),(AVSSTAT.PMFAIL,1),(SUPMON.LEVEL,800)] (fun p => {p with tries := 0, sentAt := none}) { up with rel := { up.rel with wait := .settle 5 } })

theorem witness_CoreVoltage_1 :
    (let t : Nat := (200+ms 1); let s : State := w1; (decide (s.now ≤ t) && (decide (s.on AVSCTL.EN = true) &&
    (decide (s.pw.deep = false) && (decide (s.strobe t % ms 1 = 0) && (onSome false s.avsK fun k =>
    (let a := s.rd PMBCFG.AVSK; (decide (a + 0x40 < k))))))))) = true := by decide +kernel

theorem witness_CoreVoltage_2 :
    (let t : Nat := (200+ms 1); let s : State := w2; (decide (s.now ≤ t) && (decide (s.on AVSCTL.EN = true) &&
    (decide (s.pw.deep = false) && (decide (s.strobe t % ms 1 = 0) && (onSome false s.avsK fun k =>
    (let a := s.rd PMBCFG.AVSK; (decide (k + 0x40 < a) && (decide (s.pw.lowN < 15)))))))))) = true := by decide +kernel

theorem witness_CoreVoltage_3 :
    (let t : Nat := (200+ms 1); let s : State := w3; (decide (s.now ≤ t) && (decide (s.on AVSCTL.EN = true) &&
    (decide (s.pw.deep = false) && (decide (s.strobe t % ms 1 = 0) && (onSome false s.avsK fun k =>
    (let a := s.rd PMBCFG.AVSK; (decide (k + 0x40 < a) && (decide (15 ≤ s.pw.lowN)))))))))) = true := by decide +kernel

theorem witness_CoreVoltage_4 :
    (let t : Nat := (200+ms 1); let s : State := w4; (decide (s.now ≤ t) && (decide (s.on AVSCTL.EN = true) &&
    (decide (s.pw.deep = false) && (decide (s.strobe t % ms 1 = 0) && (onSome false s.avsK fun k =>
    (let a := s.rd PMBCFG.AVSK; (decide (k ≤ a + 0x40) && (decide (a ≤ k + 0x40)))))))))) = true := by decide +kernel

theorem witness_CoreVoltage_5 :
    (let t : Nat := (200+ms 1); let s : State := w5; (decide (s.now ≤ t) && (let req := max (s.rd AVSSTAT.LOOP) s.rel.rv;
    (decide (req ≠ s.rd AVSSTAT.REQ) && (decide (s.on AVSSTAT.PMFAIL = false) && (decide (s.rd PWRSTAT.STATE < 3) &&
    (decide (s.on BOOTSTAT.DONE = true) && ((onSome true s.pw.sentAt fun a => decide (a + us 100 ≤ t)) &&
    (decide (req < 1024)))))))))) = true := by decide +kernel

theorem witness_CoreVoltage_6 :
    (let t : Nat := (200+ms 1); let s : State := w5; (decide (s.now ≤ t) && (let req := max (s.rd AVSSTAT.LOOP) s.rel.rv;
    (decide (req ≠ s.rd AVSSTAT.REQ) && (decide (s.on AVSSTAT.PMFAIL = false) && (decide (s.rd PWRSTAT.STATE < 3) &&
    (decide (s.on BOOTSTAT.DONE = true) && ((onSome true s.pw.sentAt fun a => decide (a + us 100 ≤ t)) &&
    (decide (s.pw.tries < 2)))))))))) = true := by decide +kernel

theorem witness_CoreVoltage_7 :
    (let t : Nat := (us 120); let s : State := w6; (decide (s.now ≤ t) && (let req := max (s.rd AVSSTAT.LOOP) s.rel.rv;
    (decide (req ≠ s.rd AVSSTAT.REQ) && (decide (s.on AVSSTAT.PMFAIL = false) && (decide (s.rd PWRSTAT.STATE < 3) &&
    (decide (s.on BOOTSTAT.DONE = true) && ((onSome true s.pw.sentAt fun a => decide (a + us 100 ≤ t)) &&
    (decide (s.pw.tries = 2)))))))))) = true := by decide +kernel

theorem witness_CoreVoltage_8 :
    (let t : Nat := 1000; let s : State := w7; (decide (s.now ≤ t) &&
    ((decide (s.rd PWRSTAT.STATE = 3) || (decide (s.rd PWRSTAT.STATE = 4) || (onSome false s.pw.sentAt fun a =>
    (decide (t < a + us 100)))))))) = true := by decide +kernel

theorem witness_CoreVoltage_9 :
    (let t : Nat := (us 120); let s : State := w8; (decide (s.now ≤ t) && (decide (s.on AVSSTAT.SETTLING = true) &&
    (decide (absDiff (s.rd SUPMON.LEVEL 0 0) (s.rd AVSSTAT.REQ) ≤ 10))))) = true := by decide +kernel

theorem witness_CoreVoltage_10 :
    (let t : Nat := (ms 3); let s : State := w7; (decide (s.now ≤ t) && (decide (s.on AVSSTAT.SETTLING = true) &&
    (decide (s.on AVSSTAT.PMFAIL = false) && (onSome false s.pw.sentAt fun a => (decide (a + ms 2 ≤ t))))))) = true := by decide +kernel

theorem witness_CoreVoltage_11 :
    (let t : Nat := (200+ms 1); let s : State := w1; (decide (s.now ≤ t))) = true := by decide +kernel

theorem witness_CoreVoltage_12 :
    (let t : Nat := (200+ms 1); let s : State := w1; (decide (s.now ≤ t) && (decide (s.on AVSSTAT.PMFAIL = false)))) = true := by decide +kernel

theorem witness_CoreVoltage_13 :
    (let t : Nat := (us 120); let s : State := w9; (decide (s.now ≤ t) && (decide (s.on AVSSTAT.PMFAIL = false) &&
    (decide (s.pw.tries = 2))))) = true := by decide +kernel

theorem witness_CoreVoltage_14 :
    (let t : Nat := (us 120); let s : State := w10; (decide (s.now ≤ t) && (let src := (Src.fn 0);
    (decide (src.ok = true) && (decide (s.applies src (AVSCTL.WHOLE.adr 0 0) = true) &&
    (decide (s.on AVSSTAT.PMFAIL = true))))))) = true := by decide +kernel

end CoreVoltage

namespace LifeCycle
def F (n : Nat) (l : List (RField × Nat)) (s : State) : State := l.foldl (fun s p => s.wr p.1 p.2 n) s
def sec_ (l : List (RField × Nat)) (f : SecH → SecH) (s : State) : State := { (F 0 l s) with secH := f s.secH }
def put_ (a : Nat) (l : List Byte) (s : State) : State := { s with mem := s.mem.sramPut a l }
def xs (n v : Nat) : List Byte := toBytes n v
def rec_ (m n : Nat) : List Byte := xs 4 m ++ xs 4 n ++ List.replicate 0x1F8 0
def tok_ (m l s n : Nat) : List Byte := xs 4 m ++ xs 4 l ++ xs 8 s ++ xs 8 n ++ List.replicate 136 0
def w1 : State :=
  (F 0 [(LCSTAT.STATE,0),(LCSTAT.BUSY,1),(BANKOESTAT.OE,0),(LCARG.ADDR,16)] up)
def w2 : State :=
  (F 0 [(LCSTAT.STATE,0),(LCSTAT.BUSY,0),(BANKOESTAT.OE,0),(LCARG.ADDR,16)] up)
def w3 : State :=
  (F 0 [(LCSTAT.STATE,1),(LCSTAT.BUSY,0),(BANKOESTAT.OE,0),(LCARG.ADDR,16)] up)
def w4 : State :=
  (F 0 [(LCSTAT.STATE,3),(LCSTAT.BUSY,0),(BANKOESTAT.OE,0),(LCARG.ADDR,16)] up)
def w5 : State :=
  (F 0 [(LCSTAT.STATE,0),(LCSTAT.BUSY,0),(BANKOESTAT.OE,1),(LCARG.ADDR,16)] up)
def w6 : State :=
  (F 0 [(LCSTAT.STATE,1),(LCSTAT.BUSY,0),(BANKOESTAT.OE,1),(LCARG.ADDR,16)] up)
def w7 : State :=
  (put_ 128 (rec_ 1347571542 2147483748) (F 0 [(LCSTAT.STATE,0),(BANKOESTAT.OE,0),(LCARG.ADDR,16)] { up with secH := { up.secH with pair := some (0,0) } }))
def w8 : State :=
  (put_ 128 (tok_ 1145194324 251658241 0 0) (F 0 [(LCSTAT.STATE,0),(BANKOESTAT.OE,0),(LCARG.ADDR,16)] up))
def w9 : State :=
  (F 0 [(LCSTAT.STATE,0),(BANKOESTAT.OE,0),(LCARG.ADDR,0x3FFFFF)] up)
def w10 : State :=
  (sec_ [(LCSTAT.BUSY,1)] (fun h => {h with getkey := true}) up)
def w11 : State :=
  (sec_ [(LCSTAT.BUSY,1),(TAMPSTAT.COUNT,9)] (fun h => {h with op := some ⟨2,1,{h.fuse with lc := 1}⟩, gndTamp := 3}) up)

theorem witness_LifeCycle :
    (let t : Nat := 1000; let s : State := w1; (decide (s.now ≤ t) && (let src := (Src.fn 0); (let w := 0x00004c43#32;
    (let err := Ecc.clean; (decide (src.ok = true) && (decide (s.applies src (LCCMD.WHOLE.adr 0 0) = true) &&
    (let getkey : Instr := .lccmdGetkey t src w; (let provision : Instr := .lccmdProvision t src w err;
    (let lock : Instr := .lccmdLock t src w; (let retire : Instr := .lccmdRetire t src w err;
    (onSome false ((([getkey, provision, lock, retire]))[0]?) fun c => (decide (s.on LCSTAT.BUSY = true)))))))))))))) = true ∧
    (let t : Nat := 1000; let s : State := w2; (decide (s.now ≤ t) && (let src := (Src.fn 0); (let w := 0x00000005#32;
    (let err := Ecc.clean; (decide (src.ok = true) && (decide (s.applies src (LCCMD.WHOLE.adr 0 0) = true) &&
    (let getkey : Instr := .lccmdGetkey t src w; (let provision : Instr := .lccmdProvision t src w err;
    (let lock : Instr := .lccmdLock t src w; (let retire : Instr := .lccmdRetire t src w err;
    (onSome false ((([getkey, provision, lock, retire]))[0]?) fun c => (decide (s.on LCSTAT.BUSY = false) &&
    (decide (LCCMD.CONFIRM.of w ≠ 0x4C43))))))))))))))) = true ∧
    (let t : Nat := 1000; let s : State := w3; (decide (s.now ≤ t) && (let st := s.rd LCSTAT.STATE; (let src := (Src.fn 0);
    (decide (src.ok = true) && (decide (s.applies src (LCCMD.WHOLE.adr 0 0) = true) && (decide (s.on LCSTAT.BUSY = false) &&
    (decide (st ≠ 0))))))))) = true ∧
    (let t : Nat := 1000; let s : State := w2; (decide (s.now ≤ t) && (let st := s.rd LCSTAT.STATE; (let src := (Src.fn 0);
    (decide (src.ok = true) && (decide (s.applies src (LCCMD.WHOLE.adr 0 0) = true) && (decide (s.on LCSTAT.BUSY = false) &&
    (decide (st ≠ 1))))))))) = true ∧
    (let t : Nat := 1000; let s : State := w4; (decide (s.now ≤ t) && (let st := s.rd LCSTAT.STATE; (let src := (Src.fn 0);
    (decide (src.ok = true) && (decide (s.applies src (LCCMD.WHOLE.adr 0 0) = true) && (decide (s.on LCSTAT.BUSY = false) &&
    (decide (3 ≤ st))))))))) = true ∧
    (let t : Nat := 1000; let s : State := w5; (decide (s.now ≤ t) && (let st := s.rd LCSTAT.STATE; (let src := (Src.fn 0);
    (let w := 0x00004c43#32; (decide (src.ok = true) && (decide (s.applies src (LCCMD.WHOLE.adr 0 0) = true) &&
    (let ready : Bool := (decide (s.on LCSTAT.BUSY = false) && decide (LCCMD.CONFIRM.of w = 0x4C43));
    (let off : Bool := decide (s.rd BANKOESTAT.OE = 0); (decide (ready) && ((!decide (off)) &&
    (decide (st = 0))))))))))))) = true ∧
    (let t : Nat := 1000; let s : State := w6; (decide (s.now ≤ t) && (let st := s.rd LCSTAT.STATE; (let src := (Src.fn 0);
    (let w := 0x00004c43#32; (decide (src.ok = true) && (decide (s.applies src (LCCMD.WHOLE.adr 0 0) = true) &&
    (let ready : Bool := (decide (s.on LCSTAT.BUSY = false) && decide (LCCMD.CONFIRM.of w = 0x4C43));
    (let off : Bool := decide (s.rd BANKOESTAT.OE = 0); (decide (ready) && ((!decide (off)) &&
    (decide (st = 1))))))))))))) = true ∧
    (let t : Nat := 1000; let s : State := w5; (decide (s.now ≤ t) && (let st := s.rd LCSTAT.STATE; (let src := (Src.fn 0);
    (let w := 0x00004c43#32; (decide (src.ok = true) && (decide (s.applies src (LCCMD.WHOLE.adr 0 0) = true) &&
    (let ready : Bool := (decide (s.on LCSTAT.BUSY = false) && decide (LCCMD.CONFIRM.of w = 0x4C43));
    (let off : Bool := decide (s.rd BANKOESTAT.OE = 0); (decide (ready) && ((!decide (off)) &&
    (decide (st < 3))))))))))))) = true ∧
    (let t : Nat := 1000; let s : State := w2; (decide (s.now ≤ t) && (let st := s.rd LCSTAT.STATE; (let src := (Src.fn 0);
    (let w := 0x00004c43#32; (decide (src.ok = true) && (decide (s.applies src (LCCMD.WHOLE.adr 0 0) = true) &&
    (let ready : Bool := (decide (s.on LCSTAT.BUSY = false) && decide (LCCMD.CONFIRM.of w = 0x4C43));
    (let off : Bool := decide (s.rd BANKOESTAT.OE = 0); (decide (ready) && (decide (off) &&
    (decide (st = 0))))))))))))) = true ∧
    (let t : Nat := 1000; let s : State := w3; (decide (s.now ≤ t) && (let st := s.rd LCSTAT.STATE; (let src := (Src.fn 0);
    (let w := 0x00004c43#32; (decide (src.ok = true) && (decide (s.applies src (LCCMD.WHOLE.adr 0 0) = true) &&
    (let ready : Bool := (decide (s.on LCSTAT.BUSY = false) && decide (LCCMD.CONFIRM.of w = 0x4C43));
    (let off : Bool := decide (s.rd BANKOESTAT.OE = 0); (decide (ready) && (decide (off) && (decide (st = 1) &&
    (decide (s.secH.sess = none)))))))))))))) = true ∧
    (let t : Nat := 1000; let s : State := w2; (decide (s.now ≤ t) && (let st := s.rd LCSTAT.STATE; (let src := (Src.fn 0);
    (let w := 0x00004c43#32; (let err := Ecc.clean; (decide (src.ok = true) &&
    (decide (s.applies src (LCCMD.WHOLE.adr 0 0) = true) && (let ready : Bool := (decide (s.on LCSTAT.BUSY = false) &&
    decide (LCCMD.CONFIRM.of w = 0x4C43)); (let off : Bool := decide (s.rd BANKOESTAT.OE = 0);
    (let readable : Bool := (decide (err.ue = []) && (decide (s.mem.poison = []) && (List.all (List.range 164) fun p =>
    (if decide (68 ≤ p) then (if decide (p < 164) then decide (s.isolated p = false) else true) else true))));
    (let a := s.rd LCARG.ADDR * 8; (decide (ready) && (decide (off) && (decide (st = 0) && (decide (readable) &&
    (decide (a + 0x800 ≤ 0x1800000) && (let r := s.mem.sramBytes a 0x200; (let n := entryWord r 1 % 2 ^ 16;
    (let form : Bool := (decide (entryWord r 0 = 0x50524F56) && (decide (1 ≤ n) && (decide (n ≤ 1536) &&
    (((r.take 0x200).drop 0x1C8).all (fun b => decide (b = 0#8)))))); ((!decide (form))))))))))))))))))))))) = true ∧
    (let t : Nat := 1000; let s : State := w2; (decide (s.now ≤ t) && (let st := s.rd LCSTAT.STATE; (let src := (Src.fn 0);
    (let w := 0x00004c43#32; (let err := Ecc.clean; (decide (src.ok = true) &&
    (decide (s.applies src (LCCMD.WHOLE.adr 0 0) = true) && (let ready : Bool := (decide (s.on LCSTAT.BUSY = false) &&
    decide (LCCMD.CONFIRM.of w = 0x4C43)); (let off : Bool := decide (s.rd BANKOESTAT.OE = 0);
    (let readable : Bool := (decide (err.ue = []) && (decide (s.mem.poison = []) && (List.all (List.range 164) fun p =>
    (if decide (68 ≤ p) then (if decide (p < 164) then decide (s.isolated p = false) else true) else true))));
    (let a := s.rd LCARG.ADDR * 8; (decide (ready) && (decide (off) && (decide (st < 3) && (decide (readable) &&
    (decide (a + 160 ≤ 0x1800000) && (let k := s.mem.sramBytes a 160;
    (let form : Bool := (decide (entryWord k 0 = 0x44424754) && (decide (entryWord k 1 / 2 ^ 24 % 2 ^ 8 = 0x0F) &&
    (decide (1 ≤ entryWord k 1 % 2 ^ 16) && (((k.take 0x40).drop 0x18).all (fun b => decide (b = 0#8))))));
    ((!decide (form)))))))))))))))))))))) = true ∧
    (let t : Nat := 1000; let s : State := w9; (decide (s.now ≤ t) && (let st := s.rd LCSTAT.STATE; (let src := (Src.fn 0);
    (let w := 0x00004c43#32; (decide (src.ok = true) && (decide (s.applies src (LCCMD.WHOLE.adr 0 0) = true) &&
    (let ready : Bool := (decide (s.on LCSTAT.BUSY = false) && decide (LCCMD.CONFIRM.of w = 0x4C43));
    (let off : Bool := decide (s.rd BANKOESTAT.OE = 0); (let a := s.rd LCARG.ADDR * 8; (decide (ready) && (decide (off) &&
    (decide (st = 0) && (decide (0x1800000 ≤ a))))))))))))))) = true ∧
    (let t : Nat := 1000; let s : State := w9; (decide (s.now ≤ t) && (let st := s.rd LCSTAT.STATE; (let src := (Src.fn 0);
    (let w := 0x00004c43#32; (decide (src.ok = true) && (decide (s.applies src (LCCMD.WHOLE.adr 0 0) = true) &&
    (let ready : Bool := (decide (s.on LCSTAT.BUSY = false) && decide (LCCMD.CONFIRM.of w = 0x4C43));
    (let off : Bool := decide (s.rd BANKOESTAT.OE = 0); (let a := s.rd LCARG.ADDR * 8; (decide (ready) && (decide (off) &&
    (decide (st < 3) && (decide (0x1800000 ≤ a))))))))))))))) = true ∧
    (let t : Nat := 1000; let s : State := w10; (decide (s.now ≤ t) && (decide (s.secH.getkey = true)))) = true ∧
    (let t : Nat := 1000; let s : State := w11; (decide (s.now ≤ t) && (onSome false s.secH.op fun o => true))) = true ∧
    (let t : Nat := 1000; let s : State := w2; (decide (s.now ≤ t) && (decide (s.secH.op = none)))) = true := by decide +kernel

theorem witness_LifeCycle_but_checks_1 :
    (let t : Nat := 1000; let s : State := w7; (decide (s.now ≤ t) && (let st := s.rd LCSTAT.STATE; (let src := (Src.fn 0);
    (let w := 0x00004c43#32; (let err := Ecc.clean; (decide (src.ok = true) &&
    (decide (s.applies src (LCCMD.WHOLE.adr 0 0) = true) && (let ready : Bool := (decide (s.on LCSTAT.BUSY = false) &&
    decide (LCCMD.CONFIRM.of w = 0x4C43)); (let off : Bool := decide (s.rd BANKOESTAT.OE = 0);
    (let readable : Bool := (decide (err.ue = []) && (decide (s.mem.poison = []) && (List.all (List.range 164) fun p =>
    (if decide (68 ≤ p) then (if decide (p < 164) then decide (s.isolated p = false) else true) else true))));
    (let a := s.rd LCARG.ADDR * 8; (decide (ready) && (decide (off) && (decide (st = 0) && (decide (readable) &&
    (decide (a + 0x800 ≤ 0x1800000) && (let r := s.mem.sramBytes a 0x200; (let n := entryWord r 1 % 2 ^ 16;
    (let form : Bool := (decide (entryWord r 0 = 0x50524F56) && (decide (1 ≤ n) && (decide (n ≤ 1536) &&
    (((r.take 0x200).drop 0x1C8).all (fun b => decide (b = 0#8)))))); (decide (form) &&
    (decide (s.secH.sess = none))))))))))))))))))))))) = true := by decide +kernel

theorem witness_LifeCycle_but_checks_2 :
    (let t : Nat := 1000; let s : State := w8; (decide (s.now ≤ t) && (let st := s.rd LCSTAT.STATE; (let src := (Src.fn 0);
    (let w := 0x00004c43#32; (let err := Ecc.clean; (decide (src.ok = true) &&
    (decide (s.applies src (LCCMD.WHOLE.adr 0 0) = true) && (let ready : Bool := (decide (s.on LCSTAT.BUSY = false) &&
    decide (LCCMD.CONFIRM.of w = 0x4C43)); (let off : Bool := decide (s.rd BANKOESTAT.OE = 0);
    (let readable : Bool := (decide (err.ue = []) && (decide (s.mem.poison = []) && (List.all (List.range 164) fun p =>
    (if decide (68 ≤ p) then (if decide (p < 164) then decide (s.isolated p = false) else true) else true))));
    (let a := s.rd LCARG.ADDR * 8; (decide (ready) && (decide (off) && (decide (st < 3) && (decide (readable) &&
    (decide (a + 160 ≤ 0x1800000) && (let k := s.mem.sramBytes a 160;
    (let form : Bool := (decide (entryWord k 0 = 0x44424754) && (decide (entryWord k 1 / 2 ^ 24 % 2 ^ 8 = 0x0F) &&
    (decide (1 ≤ entryWord k 1 % 2 ^ 16) && (((k.take 0x40).drop 0x18).all (fun b => decide (b = 0#8))))));
    (decide (form) && (decide (s.secH.sess = none)))))))))))))))))))))) = true := by decide +kernel

end LifeCycle

namespace RevocationList
def F (n : Nat) (l : List (RField × Nat)) (s : State) : State := l.foldl (fun s p => s.wr p.1 p.2 n) s
def sec_ (l : List (RField × Nat)) (f : SecH → SecH) (s : State) : State := { (F 0 l s) with secH := f s.secH }
def put_ (a : Nat) (l : List Byte) (s : State) : State := { s with mem := s.mem.sramPut a l }
def xs (n v : Nat) : List Byte := toBytes n v
def w1 : State :=
  (sec_ [(SECGON.SEC,5)] (fun h => {h with revLoad := some none, revVer := 3}) (put_ 128 (xs 4 1380275788 ++ xs 4 327682 ++ List.replicate 16 3 ++ List.replicate 96 4) up))
def w2 : State :=
  (sec_ [(SECGON.SEC,5)] (fun h => {h with revLoad := none, revVer := 3}) (put_ 128 (xs 4 1380275788 ++ xs 4 327682 ++ List.replicate 16 3 ++ List.replicate 96 4) up))
def w3 : State :=
  (sec_ [(SECGON.SEC,5)] (fun h => {h with revLoad := some (some []), revVer := 3}) (put_ 128 (xs 4 1380275788 ++ xs 4 327682 ++ List.replicate 16 3 ++ List.replicate 96 4) up))
def w4 : State :=
  (sec_ [(SECGON.SEC,5)] (fun h => {h with revLoad := some (some (xs 4 1380275788 ++ xs 4 65538 ++ List.replicate 16 3 ++ List.replicate 96 4)), revVer := 3}) (put_ 128 (xs 4 1380275788 ++ xs 4 327682 ++ List.replicate 16 3 ++ List.replicate 96 4) up))
def w5 : State :=
  (sec_ [(SECGON.SEC,5)] (fun h => {h with revLoad := some (some (xs 4 1380275788 ++ xs 4 327682 ++ List.replicate 16 3 ++ List.replicate 96 4)), revVer := 3}) (put_ 128 (xs 4 1380275788 ++ xs 4 327682 ++ List.replicate 16 3 ++ List.replicate 96 4) up))

theorem witness_RevocationList :
    (let t : Nat := 1000; let s : State := w1; (decide (s.now ≤ t) && (let src := (Src.fn 0); (decide (src.ok = true) &&
    (decide (s.applies src (REVCTL.WHOLE.adr 0 0) = true) && (decide (s.secH.revLoad ≠ none))))))) = true ∧
    (let t : Nat := 1000; let s : State := w2; (decide (s.now ≤ t) && (let src := (Src.fn 0); (let w := 0x00000010#32;
    (let err := Ecc.clean; (decide (src.ok = true) && (decide (s.applies src (REVCTL.WHOLE.adr 0 0) = true) &&
    (decide (s.secH.revLoad = none) && (decide (err.ue = []) && (decide (s.mem.poison = []) &&
    ((List.all (List.range 164) fun p =>
    (if decide (68 ≤ p) then (if decide (p < 164) then decide (s.isolated p = false) else true) else true)) &&
    (let a := REVCTL.ADDR.of w * 8; (let n := entryWord (s.mem.sramBytes a 8) 1 % 2 ^ 9; (decide (a + 2152 ≤ 0x1800000) &&
    (decide (n ≤ 256)))))))))))))))) = true ∧
    (let t : Nat := 1000; let s : State := w1; (decide (s.now ≤ t) && (onSome false s.secH.revLoad fun b =>
    (decide (b = none))))) = true ∧
    (let t : Nat := 1000; let s : State := w3; (decide (s.now ≤ t) && (onSome false s.secH.revLoad fun b =>
    (onSome false b fun l => (let n := entryWord l 1 % 2 ^ 9; (let form : Bool := (decide (entryWord l 0 = 0x5245564C) &&
    decide (n ≤ 256)); ((!decide (form))))))))) = true ∧
    (let t : Nat := 1000; let s : State := w4; (decide (s.now ≤ t) && (onSome false s.secH.revLoad fun b =>
    (onSome false b fun l => (let n := entryWord l 1 % 2 ^ 9; (let v := entryWord l 1 / 2 ^ 16 % 2 ^ 16;
    (let form : Bool := (decide (entryWord l 0 = 0x5245564C) && decide (n ≤ 256)); (decide (form) &&
    (decide (v ≤ s.secH.revVer)))))))))) = true ∧
    (let t : Nat := 1000; let s : State := w2; (decide (s.now ≤ t) && (let src := (Src.fn 0); (let i : Nat := 0;
    (decide (i < 2) && (decide (src.ok = true) && (decide (s.applies src (SECGON.WHOLE.adr 0 i) = true)))))))) = true := by decide +kernel

theorem witness_RevocationList_but_checks :
    (let t : Nat := 1000; let s : State := w5; (decide (s.now ≤ t) && (onSome false s.secH.revLoad fun b =>
    (onSome false b fun l => (let n := entryWord l 1 % 2 ^ 9; (let v := entryWord l 1 / 2 ^ 16 % 2 ^ 16;
    (let form : Bool := (decide (entryWord l 0 = 0x5245564C) && decide (n ≤ 256)); (decide (form) &&
    (decide (s.secH.revVer < v)))))))))) = true := by decide +kernel

end RevocationList

namespace TamperAndWipe
def F (n : Nat) (l : List (RField × Nat)) (s : State) : State := l.foldl (fun s p => s.wr p.1 p.2 n) s
def sec_ (l : List (RField × Nat)) (f : SecH → SecH) (s : State) : State := { (F 0 l s) with secH := f s.secH }
def w1 : State :=
  (sec_ [(TAMPCTL.EN,0),(TAMPCTL.OEOFF,0),(BANKOESTAT.OE,0x8003),(TAMPSTAT.COUNT,65535),(LCSTAT.KEYOK,1)] (fun h => {h with priv := none, sess := none, gndTamp := 2}) { up with pw := { up.pw with gnd := false }, mcl := some ⟨[],true⟩ })
def w2 : State :=
  (sec_ [(TAMPCTL.EN,127),(TAMPCTL.OEOFF,0),(BANKOESTAT.OE,0x8003),(TAMPSTAT.COUNT,65535),(LCSTAT.KEYOK,1)] (fun h => {h with priv := none, sess := none, gndTamp := 2}) { up with pw := { up.pw with gnd := false }, mcl := some ⟨[],true⟩ })
def w3 : State :=
  (sec_ [(TAMPCTL.EN,127),(TAMPCTL.OEOFF,0),(BANKOESTAT.OE,0x8003),(TAMPSTAT.COUNT,65535),(LCSTAT.KEYOK,1)] (fun h => {h with priv := none, sess := none, gndTamp := 2}) { up with pw := { up.pw with gnd := true }, mcl := some ⟨[],true⟩ })
def w4 : State :=
  (sec_ [(TAMPSTAT.KEYGONE,0),(LCSTAT.STATE,1)] (fun h => {h with wipe := some 4, fuse := {h.fuse with lc := 1}}) { up with mem := { up.mem with sec := [(5,6)] } })

theorem witness_TamperAndWipe :
    (let t : Nat := 1000; let k : Nat := 0; let s : State := w1; (decide (k < 7) && (decide (s.now ≤ t) &&
    (let en := (s.rd TAMPCTL.EN).testBit k; (decide (en = false)))))) = true ∧
    (let t : Nat := 1000; let k : Nat := 0; let s : State := w2; (decide (k < 7) && (decide (s.now ≤ t) &&
    (let en := (s.rd TAMPCTL.EN).testBit k; (decide (en = true) && (decide (s.pw.gnd = false))))))) = true ∧
    (let t : Nat := 1000; let k : Nat := 0; let s : State := w3; (decide (k < 7) && (decide (s.now ≤ t) &&
    (let en := (s.rd TAMPCTL.EN).testBit k; (decide (en = true) && (decide (s.pw.gnd = true))))))) = true ∧
    (let t : Nat := 1000; let k : Nat := 1; let s : State := w4; (decide (k < 7) && (decide (s.now ≤ t) &&
    (decide (s.secH.wipe ≠ none))))) = true ∧
    (let t : Nat := 1000; let k : Nat := 0; let s : State := w1; (decide (k < 7) && (decide (s.now ≤ t) &&
    (decide (s.secH.wipe = none))))) = true := by decide +kernel

end TamperAndWipe

namespace DebugSessions
def F (n : Nat) (l : List (RField × Nat)) (s : State) : State := l.foldl (fun s p => s.wr p.1 p.2 n) s
def sec_ (l : List (RField × Nat)) (f : SecH → SecH) (s : State) : State := { (F 0 l s) with secH := f s.secH }
def xs (n v : Nat) : List Byte := toBytes n v
def tok_ (m l s n : Nat) : List Byte := xs 4 m ++ xs 4 l ++ xs 8 s ++ xs 8 n ++ List.replicate 136 0
def w1 : State :=
  (sec_ [(LCSTAT.STATE,0),(LCSTAT.FIELDDBG,0),(PWRSTAT.STATE,0),(DBGSTAT.FAILS,7)] (fun h => {h with sess := none, chk := none, lockTo := none, tok := [7]}) up)
def w2 : State :=
  (sec_ [(LCSTAT.STATE,0),(LCSTAT.FIELDDBG,0),(PWRSTAT.STATE,0),(DBGSTAT.FAILS,7)] (fun h => {h with sess := some ⟨2,false,500,some 0⟩, chk := none, lockTo := none, tok := [7]}) up)
def w3 : State :=
  (sec_ [(LCSTAT.STATE,1),(LCSTAT.FIELDDBG,0),(PWRSTAT.STATE,1),(DBGSTAT.FAILS,7)] (fun h => {h with sess := none, chk := none, lockTo := none, tok := [7]}) up)
def w4 : State :=
  (sec_ [(LCSTAT.STATE,0),(LCSTAT.FIELDDBG,0),(PWRSTAT.STATE,0),(DBGSTAT.FAILS,7)] (fun h => {h with sess := none, chk := some ⟨1,true,none⟩, lockTo := none, tok := [7]}) up)
def w5 : State :=
  (sec_ [(LCSTAT.STATE,1),(DBGSTAT.FAILS,7)] (fun h => {h with chk := some ⟨2,true,some (tok_ 4 0x02020007 0 0)⟩}) (up.wr64 DBGNONCE_LO.NONCE DBGNONCE_HI.NONCE 0))
def w6 : State :=
  (sec_ [(LCSTAT.STATE,1),(DBGSTAT.FAILS,7)] (fun h => {h with chk := some ⟨2,true,some (tok_ 1145194324 0x02020007 0 0)⟩}) (up.wr64 DBGNONCE_LO.NONCE DBGNONCE_HI.NONCE 0))
def w7 : State :=
  (sec_ [(LCSTAT.STATE,1),(DBGSTAT.FAILS,7)] (fun h => {h with chk := some ⟨2,true,some (tok_ 1145194324 0x02020007 0 1)⟩}) (up.wr64 DBGNONCE_LO.NONCE DBGNONCE_HI.NONCE 0))
def w8 : State :=
  (sec_ [(LCSTAT.STATE,1)] (fun h => {h with chk := some ⟨3,true,some (tok_ 0x44424754 33685511 0 0)⟩}) (up.wr64 DBGNONCE_LO.NONCE DBGNONCE_HI.NONCE 0))
def w9 : State :=
  (sec_ [(LCSTAT.STATE,1)] (fun h => {h with chk := some ⟨2,true,some (tok_ 0x44424754 33619975 0 0)⟩}) (up.wr64 DBGNONCE_LO.NONCE DBGNONCE_HI.NONCE 0))
def w10 : State :=
  (sec_ [(LCSTAT.STATE,0),(LCSTAT.FIELDDBG,0),(PWRSTAT.STATE,0),(DBGSTAT.FAILS,7)] (fun h => {h with sess := none, chk := none, lockTo := some 600, tok := [7]}) up)
def w11 : State :=
  (sec_ [(LCSTAT.STATE,0),(LCSTAT.FIELDDBG,0),(PWRSTAT.STATE,0),(DBGSTAT.FAILS,7)] (fun h => {h with sess := none, chk := none, lockTo := some 5000, tok := [7]}) up)

theorem witness_DebugSessions :
    (let t : Nat := 1000; let s : State := w1; (decide (s.now ≤ t) && (let src := (Src.fn 0); (let w := 0x00000010#32;
    (let err := Ecc.clean; (decide (src.ok = true) && (decide (s.pw.gnd = false) && (decide (err.ue = []) &&
    (decide (s.mem.poison = []) && ((List.all (List.range 164) fun p =>
    (if decide (68 ≤ p) then (if decide (p < 164) then decide (s.isolated p = false) else true) else true)) &&
    (decide (src ≠ .jtag) && (decide (s.applies src (DBGCTL.WHOLE.adr 0 0) = true) && (let a := DBGCTL.TOKADDR.of w * 8;
    (decide (a + 160 ≤ 0x1800000))))))))))))))) = true ∧
    (let t : Nat := 1000; let s : State := w1; (decide (s.now ≤ t) && (let src := (Src.fn 0); (let w := 0xffffffff#32;
    (let err := Ecc.clean; (decide (src.ok = true) && (decide (s.pw.gnd = false) && (decide (err.ue = []) &&
    (decide (s.mem.poison = []) && ((List.all (List.range 164) fun p =>
    (if decide (68 ≤ p) then (if decide (p < 164) then decide (s.isolated p = false) else true) else true)) &&
    (decide (src ≠ .jtag) && (decide (s.applies src (DBGCTL.WHOLE.adr 0 0) = true) && (let a := DBGCTL.TOKADDR.of w * 8;
    (decide (0x1800000 ≤ a))))))))))))))) = true ∧
    (let t : Nat := 1000; let s : State := w2; (decide (s.now ≤ t) && (let src := (Src.fn 0); (let err := Ecc.clean;
    (decide (src.ok = true) && (decide (s.pw.gnd = false) && (decide (err.ue = []) && (decide (s.mem.poison = []) &&
    ((List.all (List.range 164) fun p =>
    (if decide (68 ≤ p) then (if decide (p < 164) then decide (s.isolated p = false) else true) else true)) &&
    (decide (src ≠ .jtag) && (decide (s.applies src (DBGCTL.WHOLE.adr 0 0) = true) && (onSome false s.secH.sess fun x =>
    (decide (x.jtag = false)))))))))))))) = true ∧
    (let t : Nat := 1000; let s : State := w1; (decide (s.now ≤ t) && (let src := (Src.fn 0); (let err := Ecc.clean;
    (decide (src.ok = true) && (decide (s.pw.gnd = false) && (decide (err.ue = []) && (decide (s.mem.poison = []) &&
    ((List.all (List.range 164) fun p =>
    (if decide (68 ≤ p) then (if decide (p < 164) then decide (s.isolated p = false) else true) else true)) &&
    (decide (src ≠ .jtag) && (decide (s.applies src (DBGCTL.WHOLE.adr 0 0) = true) &&
    ((decide (s.secH.sess = none) || decide (s.secH.sess.any (fun x => x.jtag) = true)))))))))))))) = true ∧
    (let t : Nat := 1000; let s : State := w1; (decide (s.now ≤ t) && (let l : Nat := 0; (decide (l < 4) &&
    (decide (s.pw.gnd = false)))))) = true ∧
    (let t : Nat := 1000; let s : State := w3; (decide (s.now ≤ t) && (let st := s.rd LCSTAT.STATE;
    (let levelOk (l : Nat) : Bool := (decide (1 ≤ l) && (decide (l ≤ 3) &&
    (if decide (st = 2) then (decide (l = 1) || (decide (l = 2) && decide (s.on LCSTAT.FIELDDBG = true))) else true)));
    (let l : Nat := 1; (decide (l < 4) && (decide (s.pw.gnd = false) && (decide (s.asleep = true) &&
    (decide (s.secH.sess = none) && (decide (s.secH.chk = none) && (decide (levelOk l) &&
    ((decide (st = 1) || decide (st = 2)) && ((onSome true s.secH.lockTo fun a => decide (a ≤ t))))))))))))))) = true ∧
    (let t : Nat := 1000; let s : State := w4; (decide (s.now ≤ t) && (onSome false s.secH.chk fun c =>
    (decide (c.tok = none))))) = true ∧
    (let t : Nat := 1000; let s : State := w5; (decide (s.now ≤ t) && (onSome false s.secH.chk fun c =>
    (onSome false c.tok fun k => (let l := entryWord k 1 / 2 ^ 24 % 2 ^ 8; (let form : Bool := (decide (k.length = 160) &&
    (decide (entryWord k 0 = 0x44424754) && (decide (1 ≤ l) && (decide (l ≤ 3) && (decide (1 ≤ entryWord k 1 % 2 ^ 16) &&
    (((k.take 0x40).drop 0x18).all (fun b => decide (b = 0#8)))))))); ((!decide (form))))))))) = true ∧
    (let t : Nat := 1000; let s : State := w2; (decide (s.now ≤ t) && (onSome false s.secH.sess fun x =>
    (onSome false x.dur fun n => (decide (x.at_ + ms (1000 * n) ≤ t)))))) = true ∧
    (let t : Nat := 1000; let s : State := w1; (decide (s.now ≤ t) &&
    ((decide (s.secH.sess = none) || decide (s.secH.sess.any (fun x => x.dur.isNone) = true))))) = true ∧
    (let t : Nat := 1000; let s : State := w10; (decide (s.now ≤ t) && (onSome false s.secH.lockTo fun a =>
    (decide (a ≤ t))))) = true ∧
    (let t : Nat := 1000; let s : State := w11; (decide (s.now ≤ t) && (onSome false s.secH.lockTo fun a =>
    (decide (t < a))))) = true := by decide +kernel

theorem witness_DebugSessions_but_checks :
    (let t : Nat := 1000; let s : State := w6; (decide (s.now ≤ t) && (onSome false s.secH.chk fun c =>
    (onSome false c.tok fun k => (let l := entryWord k 1 / 2 ^ 24 % 2 ^ 8; (let form : Bool := (decide (k.length = 160) &&
    (decide (entryWord k 0 = 0x44424754) && (decide (1 ≤ l) && (decide (l ≤ 3) && (decide (1 ≤ entryWord k 1 % 2 ^ 16) &&
    (((k.take 0x40).drop 0x18).all (fun b => decide (b = 0#8)))))))); (decide (form)))))))) = true ∧
    (let t : Nat := 1000; let s : State := w7; (decide (s.now ≤ t) && (onSome false s.secH.chk fun c =>
    (onSome false c.tok fun k => (let l := entryWord k 1 / 2 ^ 24 % 2 ^ 8; (let form : Bool := (decide (k.length = 160) &&
    (decide (entryWord k 0 = 0x44424754) && (decide (1 ≤ l) && (decide (l ≤ 3) && (decide (1 ≤ entryWord k 1 % 2 ^ 16) &&
    (((k.take 0x40).drop 0x18).all (fun b => decide (b = 0#8))))))));
    (let new : Bool := decide (entryWord k 4 + entryWord k 5 * 2 ^ 32 = s.rd64 DBGNONCE_LO.NONCE DBGNONCE_HI.NONCE);
    (decide (form) && ((!decide (new))))))))))) = true ∧
    (let t : Nat := 1000; let s : State := w6; (decide (s.now ≤ t) && (onSome false s.secH.chk fun c =>
    (onSome false c.tok fun k => (let l := entryWord k 1 / 2 ^ 24 % 2 ^ 8; (let form : Bool := (decide (k.length = 160) &&
    (decide (entryWord k 0 = 0x44424754) && (decide (1 ≤ l) && (decide (l ≤ 3) && (decide (1 ≤ entryWord k 1 % 2 ^ 16) &&
    (((k.take 0x40).drop 0x18).all (fun b => decide (b = 0#8))))))));
    (let new : Bool := decide (entryWord k 4 + entryWord k 5 * 2 ^ 32 = s.rd64 DBGNONCE_LO.NONCE DBGNONCE_HI.NONCE);
    (decide (form) && (decide (new)))))))))) = true ∧
    (let t : Nat := 1000; let s : State := w8; (decide (s.now ≤ t) && (onSome false s.secH.chk fun c =>
    (onSome false c.tok fun k => (let l := entryWord k 1 / 2 ^ 24 % 2 ^ 8; (let form : Bool := (decide (k.length = 160) &&
    (decide (entryWord k 0 = 0x44424754) && (decide (1 ≤ l) && (decide (l ≤ 3) && (decide (1 ≤ entryWord k 1 % 2 ^ 16) &&
    (((k.take 0x40).drop 0x18).all (fun b => decide (b = 0#8))))))));
    (let new : Bool := decide (entryWord k 4 + entryWord k 5 * 2 ^ 32 = s.rd64 DBGNONCE_LO.NONCE DBGNONCE_HI.NONCE);
    (decide (form) && (decide (new) && (decide (l < c.level))))))))))) = true ∧
    (let t : Nat := 1000; let s : State := w9; (decide (s.now ≤ t) && (onSome false s.secH.chk fun c =>
    (onSome false c.tok fun k => (let l := entryWord k 1 / 2 ^ 24 % 2 ^ 8; (let form : Bool := (decide (k.length = 160) &&
    (decide (entryWord k 0 = 0x44424754) && (decide (1 ≤ l) && (decide (l ≤ 3) && (decide (1 ≤ entryWord k 1 % 2 ^ 16) &&
    (((k.take 0x40).drop 0x18).all (fun b => decide (b = 0#8))))))));
    (let new : Bool := decide (entryWord k 4 + entryWord k 5 * 2 ^ 32 = s.rd64 DBGNONCE_LO.NONCE DBGNONCE_HI.NONCE);
    (let path : Bool := decide ((entryWord k 1).testBit (if c.jtag then 17 else 16) = true); (decide (form) &&
    (decide (new) && (decide (c.level ≤ l) && ((!decide (path)))))))))))))) = true ∧
    (let t : Nat := 1000; let s : State := w6; (decide (s.now ≤ t) && (onSome false s.secH.chk fun c =>
    (onSome false c.tok fun k => (let l := entryWord k 1 / 2 ^ 24 % 2 ^ 8; (let form : Bool := (decide (k.length = 160) &&
    (decide (entryWord k 0 = 0x44424754) && (decide (1 ≤ l) && (decide (l ≤ 3) && (decide (1 ≤ entryWord k 1 % 2 ^ 16) &&
    (((k.take 0x40).drop 0x18).all (fun b => decide (b = 0#8))))))));
    (let new : Bool := decide (entryWord k 4 + entryWord k 5 * 2 ^ 32 = s.rd64 DBGNONCE_LO.NONCE DBGNONCE_HI.NONCE);
    (let path : Bool := decide ((entryWord k 1).testBit (if c.jtag then 17 else 16) = true); (decide (form) &&
    (decide (new) && (decide (c.level ≤ l) && (decide (path) && (decide (c.level < 4)))))))))))))) = true := by decide +kernel

end DebugSessions

namespace EngineDebug
def F (n : Nat) (l : List (RField × Nat)) (s : State) : State := l.foldl (fun s p => s.wr p.1 p.2 n) s
def sec_ (l : List (RField × Nat)) (f : SecH → SecH) (s : State) : State := { (F 0 l s) with secH := f s.secH }
def w1 : State :=
  (sec_ [] (fun h => {h with sess := some ⟨2,false,500,none⟩}) ((F 5 [(BALSTAT.INBAL,0),(DBGSEL.INDEX,0),(ENGCTL.RUN,1),(DBGECTL.BPEN,1),(DBGBP.ADDR,0x40)] (up.modSch 5 (fun x => {x with cur := some 3}))).modEn 5 (fun e => {e with halted := false, pc := 0x40})))
def w2 : State :=
  (sec_ [] (fun h => {h with sess := some ⟨2,false,500,none⟩}) ((F 5 [(BALSTAT.INBAL,0),(DBGSEL.INDEX,3),(ENGCTL.RUN,1),(DBGECTL.BPEN,1),(DBGBP.ADDR,0x40)] (up.modSch 5 (fun x => {x with cur := none}))).modEn 5 (fun e => {e with halted := false, pc := 0x40})))
def w3 : State :=
  (sec_ [] (fun h => {h with sess := some ⟨2,false,500,none⟩}) ((F 5 [(BALSTAT.INBAL,1),(DBGSEL.INDEX,3),(ENGCTL.RUN,1),(DBGECTL.BPEN,1),(DBGBP.ADDR,0x40)] (up.modSch 5 (fun x => {x with cur := none}))).modEn 5 (fun e => {e with halted := false, pc := 0x40})))
def w4 : State :=
  (sec_ [] (fun h => {h with sess := some ⟨2,false,500,none⟩}) ((F 5 [(BALSTAT.INBAL,0),(DBGSEL.INDEX,3),(ENGCTL.RUN,1),(DBGECTL.BPEN,1),(DBGBP.ADDR,0x40)] (up.modSch 5 (fun x => {x with cur := none}))).modEn 5 (fun e => {e with halted := true, pc := 0x40})))
def w5 : State :=
  (sec_ [] (fun h => {h with sess := none}) ((F 5 [(BALSTAT.INBAL,0),(DBGSEL.INDEX,3),(ENGCTL.RUN,1),(DBGECTL.BPEN,1),(DBGBP.ADDR,0x40)] (up.modSch 5 (fun x => {x with cur := some 3}))).modEn 5 (fun e => {e with halted := false, pc := 0x40})))
def w6 : State :=
  (sec_ [] (fun h => {h with sess := some ⟨2,false,500,none⟩}) ((F 5 [(BALSTAT.INBAL,0),(DBGSEL.INDEX,16),(ENGCTL.RUN,1),(DBGECTL.BPEN,1),(DBGBP.ADDR,0x40)] (up.modSch 5 (fun x => {x with cur := some 3}))).modEn 5 (fun e => {e with halted := false, pc := 0x40})))
def w7 : State :=
  (sec_ [] (fun h => {h with sess := some ⟨2,false,500,none⟩}) ((F 5 [(BALSTAT.INBAL,0),(DBGSEL.INDEX,17),(ENGCTL.RUN,1),(DBGECTL.BPEN,1),(DBGBP.ADDR,0x40)] (up.modSch 5 (fun x => {x with cur := some 3}))).modEn 5 (fun e => {e with halted := false, pc := 0x40})))
def w8 : State :=
  (sec_ [] (fun h => {h with sess := some ⟨2,false,500,none⟩}) ((F 5 [(BALSTAT.INBAL,0),(DBGSEL.INDEX,18),(ENGCTL.RUN,1),(DBGECTL.BPEN,1),(DBGBP.ADDR,0x40)] (up.modSch 5 (fun x => {x with cur := some 3}))).modEn 5 (fun e => {e with halted := false, pc := 0x40})))
def w9 : State :=
  (sec_ [] (fun h => {h with sess := some ⟨2,false,500,none⟩}) ((F 5 [(BALSTAT.INBAL,0),(DBGSEL.INDEX,23),(ENGCTL.RUN,1),(DBGECTL.BPEN,1),(DBGBP.ADDR,0x40)] (up.modSch 5 (fun x => {x with cur := some 3}))).modEn 5 (fun e => {e with halted := false, pc := 0x40})))
def w10 : State :=
  (sec_ [] (fun h => {h with sess := some ⟨2,false,500,none⟩}) ((F 5 [(BALSTAT.INBAL,0),(DBGSEL.INDEX,28),(ENGCTL.RUN,1),(DBGECTL.BPEN,1),(DBGBP.ADDR,0x40)] (up.modSch 5 (fun x => {x with cur := some 3}))).modEn 5 (fun e => {e with halted := false, pc := 0x40})))
def w11 : State :=
  (sec_ [] (fun h => {h with sess := some ⟨2,false,500,none⟩}) ((F 5 [(BALSTAT.INBAL,0),(DBGSEL.INDEX,160),(ENGCTL.RUN,1),(DBGECTL.BPEN,1),(DBGBP.ADDR,0x40)] (up.modSch 5 (fun x => {x with cur := some 3}))).modEn 5 (fun e => {e with halted := false, pc := 0x40})))
def w12 : State :=
  (sec_ [] (fun h => {h with sess := some ⟨2,false,500,none⟩}) ((F 5 [(BALSTAT.INBAL,0),(DBGSEL.INDEX,0),(ENGCTL.RUN,1),(DBGECTL.BPEN,1),(DBGBP.ADDR,0x40)] (up.modSch 5 (fun x => {x with cur := some 3}))).modEn 5 (fun e => {e with halted := true, pc := 0x40})))
def w13 : State :=
  (sec_ [] (fun h => {h with sess := some ⟨2,false,500,none⟩}) ((F 5 [(BALSTAT.INBAL,0),(DBGSEL.INDEX,16),(ENGCTL.RUN,1),(DBGECTL.BPEN,1),(DBGBP.ADDR,0x40)] (up.modSch 5 (fun x => {x with cur := some 3}))).modEn 5 (fun e => {e with halted := true, pc := 0x40})))
def w14 : State :=
  (sec_ [] (fun h => {h with sess := some ⟨2,false,500,none⟩}) ((F 5 [(BALSTAT.INBAL,0),(DBGSEL.INDEX,18),(ENGCTL.RUN,1),(DBGECTL.BPEN,1),(DBGBP.ADDR,0x40)] (up.modSch 5 (fun x => {x with cur := some 3}))).modEn 5 (fun e => {e with halted := true, pc := 0x40})))
def w15 : State :=
  (sec_ [] (fun h => {h with sess := some ⟨2,false,500,none⟩}) ((F 5 [(BALSTAT.INBAL,0),(DBGSEL.INDEX,33),(ENGCTL.RUN,1),(DBGECTL.BPEN,1),(DBGBP.ADDR,0x40)] (up.modSch 5 (fun x => {x with cur := some 3}))).modEn 5 (fun e => {e with halted := true, pc := 0x40})))
def w16 : State :=
  (sec_ [] (fun h => {h with sess := none}) ((F 5 [(BALSTAT.INBAL,0),(DBGSEL.INDEX,3),(ENGCTL.RUN,1),(DBGECTL.BPEN,1),(DBGBP.ADDR,0x40)] (up.modSch 5 (fun x => {x with cur := none}))).modEn 5 (fun e => {e with halted := false, pc := 0x40})))

theorem witness_EngineDebug :
    (let t : Nat := 1000; let g : Nat := 5; let src : Src := (.fn 0); let s : State := w1; (decide (g < 64) &&
    (decide (src.ok = true) && (decide (s.now ≤ t) &&
    (let may (level : Nat) : Bool := (List.any (s.secH.sess.toList) fun x => (decide (src.isPf0 = true) &&
    (decide (x.jtag = (src == Src.jtag)) && decide ((if s.secure g then 3 else level) ≤ x.level))));
    (let free : Bool := (List.all (s.tko.toList) fun k => decide (k.log ≠ g)); (let e := s.en g;
    (decide (s.applies src (DBGECTL.WHOLE.adr g 0) = true) && (decide (may 2) && (decide ((s.sch g).cur ≠ none) &&
    (decide (s.on BALSTAT.INBAL g = false) && (decide (e.halted = false) && (decide (e.prec = none) &&
    (decide (e.due = none) && (decide (e.br = none) && (decide (e.hold = none) && (decide (e.stepping = false) &&
    (decide (e.modeP = []) && (decide (free)))))))))))))))))))) = true ∧
    (let t : Nat := 1000; let g : Nat := 5; let src : Src := (.fn 0); let s : State := w2; (decide (g < 64) &&
    (decide (src.ok = true) && (decide (s.now ≤ t) &&
    (let may (level : Nat) : Bool := (List.any (s.secH.sess.toList) fun x => (decide (src.isPf0 = true) &&
    (decide (x.jtag = (src == Src.jtag)) && decide ((if s.secure g then 3 else level) ≤ x.level))));
    (let free : Bool := (List.all (s.tko.toList) fun k => decide (k.log ≠ g)); (let e := s.en g;
    (decide (s.applies src (DBGECTL.WHOLE.adr g 0) = true) && (decide (may 2) && (decide ((s.sch g).cur = none) &&
    (decide (s.on BALSTAT.INBAL g = false) && (decide (e.halted = false) && (decide (free)))))))))))))) = true ∧
    (let t : Nat := 1000; let g : Nat := 5; let src : Src := (.fn 0); let s : State := w3; (decide (g < 64) &&
    (decide (src.ok = true) && (decide (s.now ≤ t) &&
    (let may (level : Nat) : Bool := (List.any (s.secH.sess.toList) fun x => (decide (src.isPf0 = true) &&
    (decide (x.jtag = (src == Src.jtag)) && decide ((if s.secure g then 3 else level) ≤ x.level))));
    (decide (s.applies src (DBGECTL.WHOLE.adr g 0) = true) && (decide (may 2) &&
    (decide (s.on BALSTAT.INBAL g = true))))))))) = true ∧
    (let t : Nat := 1000; let g : Nat := 5; let src : Src := (.fn 0); let s : State := w4; (decide (g < 64) &&
    (decide (src.ok = true) && (decide (s.now ≤ t) &&
    (let may (level : Nat) : Bool := (List.any (s.secH.sess.toList) fun x => (decide (src.isPf0 = true) &&
    (decide (x.jtag = (src == Src.jtag)) && decide ((if s.secure g then 3 else level) ≤ x.level)))); (let e := s.en g;
    (decide (s.applies src (DBGECTL.WHOLE.adr g 0) = true) && (decide (may 2) && (decide (e.halted = true)))))))))) = true ∧
    (let t : Nat := 1000; let g : Nat := 5; let src : Src := (.fn 0); let s : State := w2; (decide (g < 64) &&
    (decide (src.ok = true) && (decide (s.now ≤ t) &&
    (let may (level : Nat) : Bool := (List.any (s.secH.sess.toList) fun x => (decide (src.isPf0 = true) &&
    (decide (x.jtag = (src == Src.jtag)) && decide ((if s.secure g then 3 else level) ≤ x.level)))); (let e := s.en g;
    (decide (s.applies src (DBGECTL.WHOLE.adr g 0) = true) && (decide (may 2) && (decide (e.halted = false)))))))))) = true ∧
    (let t : Nat := 1000; let g : Nat := 5; let src : Src := (.fn 0); let s : State := up; (decide (g < 64) &&
    (decide (src.ok = true) && (decide (s.now ≤ t) &&
    (let may (level : Nat) : Bool := (List.any (s.secH.sess.toList) fun x => (decide (src.isPf0 = true) &&
    (decide (x.jtag = (src == Src.jtag)) && decide ((if s.secure g then 3 else level) ≤ x.level))));
    (let w := 0x80000000#32; (decide (s.applies src (DBGECTL.WHOLE.adr g 0) = true) && ((!decide (may 2)))))))))) = true ∧
    (let t : Nat := 1000; let g : Nat := 5; let src : Src := (.fn 0); let s : State := w5; (decide (g < 64) &&
    (decide (src.ok = true) && (decide (s.now ≤ t) && (let free : Bool := (List.all (s.tko.toList) fun k =>
    decide (k.log ≠ g)); (let e := s.en g; (decide ((s.sch g).cur ≠ none) && (decide (s.on ENGCTL.RUN g = true) &&
    (decide (s.on BALSTAT.INBAL g = false) && (decide (s.on DBGECTL.BPEN g = true) && (decide (s.rd DBGBP.ADDR g = e.pc) &&
    (decide (e.bpPass = false) && (decide (e.halted = false) && (decide (e.br = none) && (decide (e.bal = []) &&
    (decide (e.fault = none) && (decide (e.prec = none) && (decide (e.due = none) && (decide (e.hold = none) &&
    (decide (free))))))))))))))))))))) = true ∧
    (let t : Nat := 1000; let g : Nat := 5; let src : Src := (.fn 0); let s : State := up; (decide (g < 64) &&
    (decide (src.ok = true) && (decide (s.now ≤ t) && (decide (s.on DBGECTL.BPEN g = false)))))) = true ∧
    (let t : Nat := 1000; let g : Nat := 5; let src : Src := (.fn 0); let s : State := up; (decide (g < 64) &&
    (decide (src.ok = true) && (decide (s.now ≤ t) &&
    (let may (level : Nat) : Bool := (List.any (s.secH.sess.toList) fun x => (decide (src.isPf0 = true) &&
    (decide (x.jtag = (src == Src.jtag)) && decide ((if s.secure g then 3 else level) ≤ x.level))));
    (decide (s.readable src (DBGDATA.WHOLE.adr g 0) = true) && ((!decide (may 1))))))))) = true ∧
    (let t : Nat := 1000; let g : Nat := 5; let src : Src := (.fn 0); let s : State := w2; (decide (g < 64) &&
    (decide (src.ok = true) && (decide (s.now ≤ t) &&
    (let may (level : Nat) : Bool := (List.any (s.secH.sess.toList) fun x => (decide (src.isPf0 = true) &&
    (decide (x.jtag = (src == Src.jtag)) && decide ((if s.secure g then 3 else level) ≤ x.level))));
    (decide (s.readable src (DBGDATA.WHOLE.adr g 0) = true) && (let i := s.rd DBGSEL.INDEX g; (decide (may 1) &&
    (decide (i < 16)))))))))) = true ∧
    (let t : Nat := 1000; let g : Nat := 5; let src : Src := (.fn 0); let s : State := w6; (decide (g < 64) &&
    (decide (src.ok = true) && (decide (s.now ≤ t) &&
    (let may (level : Nat) : Bool := (List.any (s.secH.sess.toList) fun x => (decide (src.isPf0 = true) &&
    (decide (x.jtag = (src == Src.jtag)) && decide ((if s.secure g then 3 else level) ≤ x.level))));
    (decide (s.readable src (DBGDATA.WHOLE.adr g 0) = true) && (let i := s.rd DBGSEL.INDEX g; (decide (may 1) &&
    (decide (i = 16)))))))))) = true ∧
    (let t : Nat := 1000; let g : Nat := 5; let src : Src := (.fn 0); let s : State := w7; (decide (g < 64) &&
    (decide (src.ok = true) && (decide (s.now ≤ t) &&
    (let may (level : Nat) : Bool := (List.any (s.secH.sess.toList) fun x => (decide (src.isPf0 = true) &&
    (decide (x.jtag = (src == Src.jtag)) && decide ((if s.secure g then 3 else level) ≤ x.level))));
    (decide (s.readable src (DBGDATA.WHOLE.adr g 0) = true) && (let i := s.rd DBGSEL.INDEX g; (decide (may 1) &&
    (decide (i = 17)))))))))) = true ∧
    (let t : Nat := 1000; let g : Nat := 5; let src : Src := (.fn 0); let s : State := w8; (decide (g < 64) &&
    (decide (src.ok = true) && (decide (s.now ≤ t) &&
    (let may (level : Nat) : Bool := (List.any (s.secH.sess.toList) fun x => (decide (src.isPf0 = true) &&
    (decide (x.jtag = (src == Src.jtag)) && decide ((if s.secure g then 3 else level) ≤ x.level))));
    (decide (s.readable src (DBGDATA.WHOLE.adr g 0) = true) && (let i := s.rd DBGSEL.INDEX g; (decide (may 1) &&
    (decide (i = 18)))))))))) = true ∧
    (let t : Nat := 1000; let g : Nat := 5; let src : Src := (.fn 0); let s : State := w9; (decide (g < 64) &&
    (decide (src.ok = true) && (decide (s.now ≤ t) &&
    (let may (level : Nat) : Bool := (List.any (s.secH.sess.toList) fun x => (decide (src.isPf0 = true) &&
    (decide (x.jtag = (src == Src.jtag)) && decide ((if s.secure g then 3 else level) ≤ x.level))));
    (decide (s.readable src (DBGDATA.WHOLE.adr g 0) = true) && (let i := s.rd DBGSEL.INDEX g; (decide (may 1) &&
    (decide (i = 23)))))))))) = true ∧
    (let t : Nat := 1000; let g : Nat := 5; let src : Src := (.fn 0); let s : State := w10; (decide (g < 64) &&
    (decide (src.ok = true) && (decide (s.now ≤ t) &&
    (let may (level : Nat) : Bool := (List.any (s.secH.sess.toList) fun x => (decide (src.isPf0 = true) &&
    (decide (x.jtag = (src == Src.jtag)) && decide ((if s.secure g then 3 else level) ≤ x.level))));
    (decide (s.readable src (DBGDATA.WHOLE.adr g 0) = true) && (let i := s.rd DBGSEL.INDEX g; (decide (may 1) &&
    (decide (i = 28)))))))))) = true ∧
    (let t : Nat := 1000; let g : Nat := 5; let src : Src := (.fn 0); let s : State := w11; (decide (g < 64) &&
    (decide (src.ok = true) && (decide (s.now ≤ t) &&
    (let may (level : Nat) : Bool := (List.any (s.secH.sess.toList) fun x => (decide (src.isPf0 = true) &&
    (decide (x.jtag = (src == Src.jtag)) && decide ((if s.secure g then 3 else level) ≤ x.level))));
    (decide (s.readable src (DBGDATA.WHOLE.adr g 0) = true) && (let i := s.rd DBGSEL.INDEX g; (decide (may 1) &&
    (decide (160 ≤ i)))))))))) = true ∧
    (let t : Nat := 1000; let g : Nat := 5; let src : Src := (.fn 0); let s : State := w12; (decide (g < 64) &&
    (decide (src.ok = true) && (decide (s.now ≤ t) &&
    (let may (level : Nat) : Bool := (List.any (s.secH.sess.toList) fun x => (decide (src.isPf0 = true) &&
    (decide (x.jtag = (src == Src.jtag)) && decide ((if s.secure g then 3 else level) ≤ x.level)))); (let e := s.en g;
    (decide (s.applies src (DBGDATA.WHOLE.adr g 0) = true) && (decide (may 2) && (decide (s.on BALSTAT.INBAL g = false) &&
    (decide ((s.sch g).cur ≠ none) && (decide (e.halted = true) && (let i := s.rd DBGSEL.INDEX g;
    (decide (i < 16)))))))))))))) = true ∧
    (let t : Nat := 1000; let g : Nat := 5; let src : Src := (.fn 0); let s : State := w13; (decide (g < 64) &&
    (decide (src.ok = true) && (decide (s.now ≤ t) &&
    (let may (level : Nat) : Bool := (List.any (s.secH.sess.toList) fun x => (decide (src.isPf0 = true) &&
    (decide (x.jtag = (src == Src.jtag)) && decide ((if s.secure g then 3 else level) ≤ x.level)))); (let e := s.en g;
    (decide (s.applies src (DBGDATA.WHOLE.adr g 0) = true) && (decide (may 2) && (decide (s.on BALSTAT.INBAL g = false) &&
    (decide ((s.sch g).cur ≠ none) && (decide (e.halted = true) && (let i := s.rd DBGSEL.INDEX g;
    (decide (i = 16)))))))))))))) = true ∧
    (let t : Nat := 1000; let g : Nat := 5; let src : Src := (.fn 0); let s : State := w14; (decide (g < 64) &&
    (decide (src.ok = true) && (decide (s.now ≤ t) &&
    (let may (level : Nat) : Bool := (List.any (s.secH.sess.toList) fun x => (decide (src.isPf0 = true) &&
    (decide (x.jtag = (src == Src.jtag)) && decide ((if s.secure g then 3 else level) ≤ x.level)))); (let e := s.en g;
    (decide (s.applies src (DBGDATA.WHOLE.adr g 0) = true) && (decide (may 2) && (decide (s.on BALSTAT.INBAL g = false) &&
    (decide ((s.sch g).cur ≠ none) && (decide (e.halted = true) && (let i := s.rd DBGSEL.INDEX g;
    (decide (i = 18)))))))))))))) = true ∧
    (let t : Nat := 1000; let g : Nat := 5; let src : Src := (.fn 0); let s : State := w15; (decide (g < 64) &&
    (decide (src.ok = true) && (decide (s.now ≤ t) &&
    (let may (level : Nat) : Bool := (List.any (s.secH.sess.toList) fun x => (decide (src.isPf0 = true) &&
    (decide (x.jtag = (src == Src.jtag)) && decide ((if s.secure g then 3 else level) ≤ x.level)))); (let e := s.en g;
    (decide (s.applies src (DBGDATA.WHOLE.adr g 0) = true) && (decide (may 2) && (decide (s.on BALSTAT.INBAL g = false) &&
    (decide ((s.sch g).cur ≠ none) && (decide (e.halted = true) && (let i := s.rd DBGSEL.INDEX g;
    (decide (32 ≤ i)))))))))))))) = true ∧
    (let t : Nat := 1000; let g : Nat := 5; let src : Src := (.fn 0); let s : State := w16; (decide (g < 64) &&
    (decide (src.ok = true) && (decide (s.now ≤ t) && (let e := s.en g;
    (decide (s.applies src (DBGDATA.WHOLE.adr g 0) = true) && (decide (s.on BALSTAT.INBAL g = false) &&
    (decide (e.halted = false) && (decide (s.on ENGCTL.RUN g = true)))))))))) = true := by decide +kernel

end EngineDebug

namespace JtagPort
def F (n : Nat) (l : List (RField × Nat)) (s : State) : State := l.foldl (fun s p => s.wr p.1 p.2 n) s
def sec_ (l : List (RField × Nat)) (f : SecH → SecH) (s : State) : State := { (F 0 l s) with secH := f s.secH }
def w1 : State :=
  (sec_ [(LCSTAT.STATE,0)] (fun h => {h with jtag := .lcstage, stage := [], stagePtr := 0, bootFail := 300, sess := none}) { up with pw := { up.pw with gnd := false } })
def w2 : State :=
  (sec_ [(LCSTAT.STATE,0)] (fun h => {h with jtag := .lcstage, stage := [], stagePtr := 0, bootFail := 300, sess := none}) { up with pw := { up.pw with gnd := true } })
def w3 : State :=
  (sec_ [(LCSTAT.STATE,0)] (fun h => {h with jtag := .lcstage, stage := List.replicate 2048 1, stagePtr := 512, bootFail := 300, sess := some ⟨2,true,500,none⟩}) { up with pw := { up.pw with gnd := false } })
def w4 : State :=
  (sec_ [(LCSTAT.STATE,1)] (fun h => {h with jtag := .lcstage, stage := [], stagePtr := 0, bootFail := 300, sess := none}) { up with pw := { up.pw with gnd := false } })
def w5 : State :=
  (sec_ [(LCSTAT.STATE,0)] (fun h => {h with jtag := .lcstage, stage := [1,2,3,4,5,6,7,8], stagePtr := 1, bootFail := 300, sess := some ⟨2,true,500,none⟩}) { up with pw := { up.pw with gnd := false } })

theorem witness_JtagPort_1 :
    (let t : Nat := 1000; let s : State := w1; (decide (s.now ≤ t))) = true := by decide +kernel

theorem witness_JtagPort_2 :
    (let t : Nat := 1000; let s : State := w1; (decide (s.now ≤ t) &&
    (onSome false ((([(s.advance t).lcread]))[0]?) fun v => true))) = true := by decide +kernel

theorem witness_JtagPort_3 :
    (let t : Nat := 1000; let s : State := w1; (decide (s.now ≤ t) && (let g := s.pw.gnd; (decide (g = false) &&
    (onSome false ((([(s.advance t).lcpub]))[0]?) fun v => true))))) = true := by decide +kernel

theorem witness_JtagPort_4 :
    (let t : Nat := 1000; let s : State := w1; (decide (s.now ≤ t) && (let g := s.pw.gnd; (decide (g = false))))) = true := by decide +kernel

theorem witness_JtagPort_5 :
    (let t : Nat := 1000; let s : State := w2; (decide (s.now ≤ t) && (let g := s.pw.gnd; (decide (g = true))))) = true := by decide +kernel

theorem witness_JtagPort_6 :
    (let t : Nat := 1000; let s : State := w1; (decide (s.now ≤ t) && (let g := s.pw.gnd;
    (onSome false (((([[],[true,false]] : List (List Bool))))[0]?) fun l => (decide (l.length ≤ 1024) &&
    (decide (g = false))))))) = true := by decide +kernel

theorem witness_JtagPort_7 :
    (let t : Nat := 1000; let s : State := w1; (decide (s.now ≤ t) && (let g := s.pw.gnd; (let p := s.secH.stagePtr;
    (decide (s.secH.jtag = .lcstage) && (decide (g = false) && (decide (p < 512) &&
    (decide (4 * p ≤ s.secH.stage.length))))))))) = true := by decide +kernel

theorem witness_JtagPort_8 :
    (let t : Nat := 1000; let s : State := w3; (decide (s.now ≤ t) && (let p := s.secH.stagePtr;
    ((decide (s.secH.jtag ≠ .lcstage) || decide (512 ≤ p)))))) = true := by decide +kernel

theorem witness_JtagPort_9 :
    (let t : Nat := 1000; let s : State := w1; (decide (s.now ≤ t) && (let g := s.pw.gnd; (let w : Word := 0x20004c43#32;
    (decide (g = false) && (decide (s.on LCSTAT.BUSY = false) && (decide (w.toNat % 2 ^ 16 = 0x4C43) &&
    (decide (s.rd BANKOESTAT.OE = 0) && (decide (w.toNat / 2 ^ 28 = 2) && (decide (s.rd LCSTAT.STATE = 0) &&
    (decide (s.secH.stage.length < 0x200)))))))))))) = true := by decide +kernel

theorem witness_JtagPort_10 :
    (let t : Nat := 1000; let s : State := w4; (decide (s.now ≤ t) && (let g := s.pw.gnd; (let w : Word := 0x30004c43#32;
    (decide (g = false) && (decide (s.on LCSTAT.BUSY = false) && (decide (w.toNat % 2 ^ 16 = 0x4C43) &&
    (decide (s.rd BANKOESTAT.OE = 0) && (decide (w.toNat / 2 ^ 28 = 3) && (decide (s.rd LCSTAT.STATE = 1) &&
    (decide (s.secH.sess = none)))))))))))) = true := by decide +kernel

theorem witness_JtagPort_11 :
    (let t : Nat := 1000; let s : State := w1; (decide (s.now ≤ t) &&
    (onSome false (((([[],[1,2]] : List (List Byte))))[0]?) fun l => (decide (l.length ≤ 160))))) = true := by decide +kernel

theorem witness_JtagPort_12 :
    (let t : Nat := 1000; let s : State := w2; (decide (s.now ≤ t) && (let g := s.pw.gnd; (decide (g = true) &&
    (let l : Nat := 0; (decide (l < 4))))))) = true := by decide +kernel

theorem witness_JtagPort_13 :
    (let t : Nat := 1000; let s : State := w1; (decide (s.now ≤ t) && (let g := s.pw.gnd; (let off : Nat := 0;
    (decide (off < 0x4000000) && ((decide (g = true) || decide (s.secH.sess = none)))))))) = true := by decide +kernel

theorem witness_JtagPort_14 :
    (let t : Nat := 1000; let s : State := w5; (decide (s.now ≤ t) && (let g := s.pw.gnd; (let i : Nat := 0;
    (decide (i < 32) && (decide (g = false) && (decide (s.asleep = false) && (onSome false s.secH.sess fun x =>
    (decide (x.jtag = true) && (decide (1 ≤ x.level))))))))))) = true := by decide +kernel

theorem witness_JtagPort_15 :
    (let t : Nat := 1000; let s : State := w5; (decide (s.now ≤ t) && (let g := s.pw.gnd; (let i : Nat := 0;
    (decide (i < 32) && (decide (g = false) && (decide (s.asleep = false) && (onSome false s.secH.sess fun x =>
    (decide (x.jtag = true) && (decide (1 ≤ x.level) && (decide (2 ≤ x.level)))))))))))) = true := by decide +kernel

end JtagPort

namespace BootStages
def F (n : Nat) (l : List (RField × Nat)) (s : State) : State := l.foldl (fun s p => s.wr p.1 p.2 n) s
def sec_ (l : List (RField × Nat)) (f : SecH → SecH) (s : State) : State := { (F 0 l s) with secH := f s.secH }
def bo (f : BootH → BootH) (s : State) : State := { s with boot := f s.boot }
def w1 : State :=
  (bo (fun b => {b with stage := 0, again := false, evs := [(7815,5)], at_ := 7}) { up with tb := [], spine := if 0 = 2 then none else up.spine, fab := { up.fab with deferred := [⟨7000,1,2,false,false⟩,⟨7680,4,2,false,false⟩] }, secH := { up.secH with gndTamp := 5 } })
def w2 : State :=
  (bo (fun b => {b with stage := 1, again := false, evs := [(7815,5)], at_ := 7}) { up with tb := [], spine := if 1 = 2 then none else up.spine, fab := { up.fab with deferred := [⟨7000,1,2,false,false⟩,⟨7680,4,2,false,false⟩] }, secH := { up.secH with gndTamp := 5 } })
def w3 : State :=
  (bo (fun b => {b with stage := 1}) (sec_ [] (fun h => {h with fuse := {h.fuse with lc := 0, tethen := true, half := some 3, keyCut := false, slots := []}}) { up with mem := { up.mem with sec := [(5,6),(0x5F000,7)] } }))
def w4 : State :=
  (bo (fun b => {b with stage := 2, again := false, evs := [(7815,5)], at_ := 7}) { up with tb := [], spine := if 2 = 2 then none else up.spine, fab := { up.fab with deferred := [⟨7000,1,2,false,false⟩,⟨7680,4,2,false,false⟩] }, secH := { up.secH with gndTamp := 5 } })
def w5 : State :=
  (bo (fun b => {b with stage := 3, again := false, evs := [(7815,5)], at_ := 7}) { up with tb := [], spine := if 3 = 2 then none else up.spine, fab := { up.fab with deferred := [⟨7000,1,2,false,false⟩,⟨7680,4,2,false,false⟩] }, secH := { up.secH with gndTamp := 5 } })
def w6 : State :=
  (bo (fun b => {b with stage := 4, again := false, evs := [(7815,5)], at_ := 7}) { up with tb := [], spine := if 4 = 2 then none else up.spine, fab := { up.fab with deferred := [⟨7000,1,2,false,false⟩,⟨7680,4,2,false,false⟩] }, secH := { up.secH with gndTamp := 5 } })
def w7 : State :=
  (bo (fun b => {b with stage := 5, again := false, evs := [(7815,5)], at_ := 7}) { up with tb := [], spine := if 5 = 2 then none else up.spine, fab := { up.fab with deferred := [⟨7000,1,2,false,false⟩,⟨7680,4,2,false,false⟩] }, secH := { up.secH with gndTamp := 5 } })
def w8 : State :=
  (bo (fun b => {b with stage := 1, again := true, evs := [(7815,5)], at_ := 7}) { up with tb := [], spine := if 1 = 2 then none else up.spine, fab := { up.fab with deferred := [⟨7000,1,2,false,false⟩,⟨7680,4,2,false,false⟩] }, secH := { up.secH with gndTamp := 5 } })

theorem witness_BootStages :
    (let t : Nat := 1000; let s : State := w1; (decide (s.now ≤ t) && (let b := s.boot; (decide (b.stage = 0) &&
    (decide (s.pw.gnd = false)))))) = true ∧
    (let t : Nat := 1000; let s : State := w2; (decide (s.now ≤ t) && (let b := s.boot; (decide (b.stage ≠ 0))))) = true ∧
    (let t : Nat := 1000; let s : State := w2; (decide (s.now ≤ t) && (let b := s.boot; (let f := s.secH.fuse;
    (decide (b.stage = 1) && (decide (f.lc < 16) && (decide (f.slots.length ≤ 256) && (decide (f.half = none))))))))) = true ∧
    (let t : Nat := 1000; let s : State := w3; (decide (s.now ≤ t) && (let b := s.boot; (let f := s.secH.fuse;
    (decide (b.stage = 1) && (decide (f.lc < 16) && (decide (f.slots.length ≤ 256) && (onSome false f.half fun dst =>
    true)))))))) = true ∧
    (let t : Nat := 1000; let s : State := w4; (decide (s.now ≤ t) && (let b := s.boot; (decide (b.stage = 2) &&
    (decide ((s.tbH 0).segs = [])))))) = true ∧
    (let t : Nat := 1000; let s : State := w5; (decide (s.now ≤ t) && (let b := s.boot; (decide (b.stage = 3) &&
    (let bad : Nat := 0; (decide (bad < 2 ^ 68))))))) = true ∧
    (let t : Nat := 1000; let s : State := w6; (decide (s.now ≤ t) && (let b := s.boot; (decide (b.stage = 4) &&
    ((List.all (List.range 128) fun k => (decide (s.rd EMUCTL.SRC k = 0) && decide ((s.tailU k).emuWant = 0)))))))) = true ∧
    (let t : Nat := 1000; let s : State := w7; (decide (s.now ≤ t) && (let b := s.boot; (decide (b.stage = 5))))) = true ∧
    (let t : Nat := 1000; let s : State := w1; (decide (s.now ≤ t) && (let b := s.boot; ((((true) &&
    decide (b.stage ≠ 4)) || (((false) && decide (b.stage ≠ 5)) || ((false) && decide (b.stage ≠ 2)))))))) = true ∧
    (let t : Nat := 1000; let s : State := w2; (decide (s.now ≤ t) && (let b := s.boot;
    (onSome false (([1, 2])[0]?) fun k => (decide (b.stage = k) && (decide (b.again = false))))))) = true ∧
    (let t : Nat := 1000; let s : State := w8; (decide (s.now ≤ t) && (let b := s.boot;
    (onSome false (([1, 2])[0]?) fun k => (decide (b.stage = k) && (decide (b.again = true))))))) = true := by decide +kernel

end BootStages

namespace ResetPins
def bo (f : BootH → BootH) (s : State) : State := { s with boot := f s.boot }
def w1 : State :=
  (bo (fun b => {b with stage := 6}) { up with pw := { up.pw with gnd := false }, host := { up.host with perst := false, up := false, vfEn := true }, mem := { up.mem with sec := [(5,6)] } })
def w2 : State :=
  (bo (fun b => {b with stage := 6}) { up with pw := { up.pw with gnd := true }, host := { up.host with perst := false, up := false, vfEn := true }, mem := { up.mem with sec := [(5,6)] } })
def w3 : State :=
  (bo (fun b => {b with stage := 6}) { up with pw := { up.pw with gnd := true }, host := { up.host with perst := true, up := false, vfEn := true }, mem := { up.mem with sec := [(5,6)] } })

theorem witness_ResetPins :
    (let t : Nat := 1000; let s : State := w1; (decide (s.now ≤ t) && (let gnd := s.pw.gnd;
    (decide (s.host.perst = false) && (decide (s.boot.stage = 6) && (decide (gnd = false))))))) = true ∧
    (let t : Nat := 1000; let s : State := w2; (decide (s.now ≤ t) && (let gnd := s.pw.gnd;
    ((decide (s.host.perst = true) || (decide (s.boot.stage ≠ 6) || decide (gnd = true))))))) = true ∧
    (let t : Nat := 1000; let s : State := w3; (decide (s.now ≤ t) && (let gnd := s.pw.gnd; (decide (s.host.perst = true) &&
    (decide (gnd = true)))))) = true ∧
    (let t : Nat := 1000; let s : State := w1; (decide (s.now ≤ t) && (let gnd := s.pw.gnd;
    ((decide (s.host.perst = false) || decide (gnd = false)))))) = true ∧
    (let t : Nat := 1000; let s : State := w2; (decide (s.now ≤ t) && (let gnd := s.pw.gnd; (decide (gnd = true))))) = true ∧
    (let t : Nat := 1000; let s : State := w1; (decide (s.now ≤ t) && (let gnd := s.pw.gnd; (decide (gnd = false))))) = true ∧
    (let t : Nat := 1000; let s : State := w1; (decide (s.now ≤ t))) = true := by decide +kernel

end ResetPins

namespace OutputEnables
def F (n : Nat) (l : List (RField × Nat)) (s : State) : State := l.foldl (fun s p => s.wr p.1 p.2 n) s
def oe (s : State) : State := s.wr BANKOESTAT.OE 0xFFFF
def bo (f : BootH → BootH) (s : State) : State := { s with boot := f s.boot }
def lg (g : Nat) (l : List (RField × Nat)) (s : State) : State := l.foldl (fun s p => s.wr p.1 p.2 0 g) s
def w1 : State :=
  (bo (fun b => {b with oe := []}) (F 0 [(BANKOESTAT.OE,0x8001),(BANKOESTAT.REF,4)] (lg 5 [(SUPMON.FAULT,0)] { up with pw := { up.pw with seen := 0 } })))
def w2 : State :=
  (bo (fun b => {b with oe := [(900,false,0x8001),(950,true,1)]}) (F 0 [(BANKOESTAT.OE,0x8001),(BANKOESTAT.REF,4)] (lg 5 [(SUPMON.FAULT,0)] { up with pw := { up.pw with seen := 0 } })))
def w3 : State :=
  (bo (fun b => {b with oe := [(1500,true,3)]}) (F 0 [(BANKOESTAT.OE,0x8001),(BANKOESTAT.REF,4)] (lg 5 [(SUPMON.FAULT,0)] { up with pw := { up.pw with seen := 0 } })))

theorem witness_OutputEnables :
    (let t : Nat := 1000; let s : State := w1; (decide (s.now ≤ t) && (let src := (Src.fn 0); (decide (src.ok = true) &&
    (decide (s.applies src (BANKOESET.WHOLE.adr 0 0) = true)))))) = true ∧
    (let t : Nat := 1000; let s : State := w1; (decide (s.now ≤ t) && (let src := (Src.fn 0); (decide (src.ok = true) &&
    (decide (s.applies src (BANKOECLR.WHOLE.adr 0 0) = true)))))) = true ∧
    (let t : Nat := 1000; let s : State := w2; (decide (s.now ≤ t) && (match s.boot.oe with | (a, v, m) :: r => (decide (a ≤ t)) | _ => false))) = true ∧
    (let t : Nat := 1000; let s : State := w3; (decide (s.now ≤ t) && (match s.boot.oe with | (a, v, m) :: r => (decide (t < a)) | _ => false))) = true ∧
    (let t : Nat := 1000; let s : State := w1; (decide (s.now ≤ t) && (decide (s.boot.oe = [])))) = true := by decide +kernel

end OutputEnables

end Sys2Proof.Tests
end

section
/-! PROOFS. Shared SRAM (chapter 1): what an ECC finding, a served access, a command of an engine or a mover and a grant of two
requests do, each said once, and the statement that they make up. -/
namespace Sys2Proof.Machine

/-! ### Raising an event changes only what `onlyEvents` lists (R134, R319, R349) -/

theorem onlyEvents.refl (s : State) : onlyEvents s s := (rfl)

theorem onlyEvents.trans {s u v : State} (h : onlyEvents s u) (k : onlyEvents u v) : onlyEvents s v := by
  unfold onlyEvents at *
  rw [k, h]

theorem onlyEvents.mem {s u : State} (h : onlyEvents s u) : u.mem = s.mem := by
  rw [h]

theorem onlyEvents_foldl {α : Type} (f : State → α → State) (h : ∀ s x, onlyEvents s (f s x)) (l : List α) (s : State) :
    onlyEvents s (l.foldl f s) := by
  induction l generalizing s with
  | nil => exact .refl s
  | cons x r ih => exact (h s x).trans (ih _)

theorem State.setReg_onlyEvents (s : State) (a : Nat) (w : Word) : onlyEvents s (s.setReg a w) := (rfl)

theorem State.cnt_onlyEvents (s : State) (F : RField) (k n i : Nat) : onlyEvents s (s.cnt F k n i) :=
  s.setReg_onlyEvents _ _

theorem State.modTp_onlyEvents (s : State) (p : Nat) (f : TpH → TpH) : onlyEvents s (s.modTp p f) := (rfl)

theorem State.modRouter_onlyEvents (s : State) (r : Nat) (f : Router → Router) : onlyEvents s (s.modRouter r f) := (rfl)

theorem State.tPush_onlyEvents (s : State) (p : Nat) (m : TMsg) : onlyEvents s (s.tPush p m) := by
  unfold State.tPush
  split
  · exact .refl s
  split
  · exact s.modTp_onlyEvents p _
  · exact (s.cnt_onlyEvents _ _ _ _).trans (State.modTp_onlyEvents _ _ _)

theorem State.tSend_onlyEvents (s : State) (d : Nat) (i : TItem) : onlyEvents s (s.tSend d i) := by
  unfold State.tSend
  dsimp only
  have numbered : onlyEvents s { s with teth := { s.teth with seq := s.teth.seq + 1 } } := (rfl)
  split
  · refine numbered.trans (onlyEvents_foldl _ (fun u p => ?_) _ _)
    split
    · exact u.tPush_onlyEvents p _
    · exact .refl u
  · split
    · exact numbered.trans (State.tPush_onlyEvents _ _ _)
    · exact numbered

theorem State.exportEv_onlyEvents (s : State) (ev : Ev) : onlyEvents s (s.exportEv ev) := by
  unfold State.exportEv
  split
  · exact .refl s
  · refine onlyEvents_foldl _ (fun u e => ?_) _ _
    have numbered : onlyEvents u { u with teth :=
      { u.teth with txSeq := u.teth.txSeq.set (fun _ => 0) e.1 (u.teth.txSeq.get (fun _ => 0) e.1 + 1) } } := (rfl)
    exact numbered.trans (State.tSend_onlyEvents _ _ _)

theorem State.dropEvent_onlyEvents (s : State) (r : Nat) : onlyEvents s (s.dropEvent r) := by
  unfold State.dropEvent
  dsimp only
  refine ((s.cnt_onlyEvents Reg.EVDROP.COUNT 1 0 0).trans
    (State.modRouter_onlyEvents _ r fun x => { x with dropped := x.dropped + 1 })).trans ?_
  generalize (s.cnt Reg.EVDROP.COUNT).modRouter r (fun x => { x with dropped := x.dropped + 1 }) = u
  split
  · refine (u.modRouter_onlyEvents r fun x => { x with dropped := 0, reported := some u.now }).trans ?_
    split
    · exact State.modRouter_onlyEvents _ _ _
    · exact (State.cnt_onlyEvents _ _ _ _ _).trans (State.modRouter_onlyEvents _ _ _)
  · exact .refl u

theorem State.issue_onlyEvents (s : State) (ev : Ev) : onlyEvents s (s.issue ev) := by
  unfold State.issue
  dsimp only
  generalize (if ev.id < 6144 then (s.router (s.routerOf ev.id)).gated ev.id else some false) = gate
  split
  · exact .refl s
  split
  · exact s.cnt_onlyEvents _ _ _ _
  split
  · exact s.dropEvent_onlyEvents _
  · have queued := s.modRouter_onlyEvents (s.routerOf ev.id) fun x => { x with fifo := x.fifo ++ [(ev, gate.isNone)] }
    split
    · exact queued.trans (State.exportEv_onlyEvents _ _)
    · exact queued

theorem State.wakeLog_onlyEvents (s : State) (ev : Ev) : onlyEvents s (s.wakeLog ev) := by
  unfold State.wakeLog
  split
  · exact (rfl)
  · have lost : onlyEvents s { s with pw := { s.pw with lost := s.pw.lost + 1 } } := (rfl)
    exact lost.trans (State.cnt_onlyEvents _ _ _ _ _)

theorem State.raiseEv_onlyEvents (s : State) (ev : Ev) : onlyEvents s (s.raiseEv ev) := by
  unfold State.raiseEv
  split
  · exact (rfl)
  split
  · exact s.wakeLog_onlyEvents ev
  · exact s.issue_onlyEvents ev

@[simp] theorem State.raise_mem (s : State) (id d : Nat) : (s.raise id d).mem = s.mem := (s.raiseEv_onlyEvents _).mem

/-! ### Numbers as bytes -/

@[simp] theorem toBytes_length (n v : Nat) : (toBytes n v).length = n := by
  induction n generalizing v with
  | zero => rfl
  | succ n ih => simp [toBytes, ih]

theorem ofBytes_toBytes (n v : Nat) : ofBytes (toBytes n v) = v % 2 ^ (8 * n) := by
  induction n generalizing v with
  | zero => simp [toBytes, ofBytes, Nat.mod_one]
  | succ n ih =>
    rw [toBytes, ofBytes, ih, BitVec.toNat_ofNat, Nat.mul_succ, Nat.add_comm (8 * n), pow_add, Nat.mod_mul]
    norm_num

/-! ### Bytes and words of shared SRAM -/

@[simp] theorem Mem.sramBytes_length (m : Mem) (a n : Nat) : (m.sramBytes a n).length = n := by
  simp [Mem.sramBytes, upFrom_length]

theorem Mem.sramPut_byte_inside (m : Mem) (a : Nat) (d : List Byte) (i : Nat) (h : i < d.length) :
    (m.sramPut a d).sramByte (a + i) = d[i] := by
  rw [Mem.sramPut_byte, dif_pos (by omega)]
  simp

theorem Mem.sramPut_byte_outside (m : Mem) (a : Nat) (d : List Byte) (x : Nat) (h : x < a ∨ a + d.length ≤ x) :
    (m.sramPut a d).sramByte x = m.sramByte x := by
  rw [Mem.sramPut_byte, dif_neg (by omega)]

/-- A read of the bytes just stored gives them back. -/
theorem Mem.sramPut_bytes (m : Mem) (a : Nat) (d : List Byte) : (m.sramPut a d).sramBytes a d.length = d :=
  List.ext_getElem (by simp) fun i _ hi => by
    simp [Mem.sramBytes, upFrom_getElem, Mem.sramPut_byte_inside _ _ _ _ hi]

/-- Shared SRAM after a write of `d` from `a` on: the bytes are stored, and whole words lose their poison (R37, R39). -/
def Mem.sramWritten (m : Mem) (a : Nat) (d : List Byte) : Mem :=
  ({ m with poison := m.poison.filter fun w => !(fullWords a d.length).contains w } : Mem).sramPut a d

theorem Mem.sramWritten_byte_inside (m : Mem) (a : Nat) (d : List Byte) (i : Nat) (h : i < d.length) :
    (m.sramWritten a d).sramByte (a + i) = d[i] := Mem.sramPut_byte_inside _ _ _ _ h

theorem Mem.sramWritten_byte_outside (m : Mem) (a : Nat) (d : List Byte) (x : Nat) (h : x < a ∨ a + d.length ≤ x) :
    (m.sramWritten a d).sramByte x = m.sramByte x := Mem.sramPut_byte_outside _ _ _ _ h

theorem Mem.sramWritten_bytes (m : Mem) (a : Nat) (d : List Byte) : (m.sramWritten a d).sramBytes a d.length = d :=
  Mem.sramPut_bytes _ _ _

/-- A write poisons no word. -/
theorem Mem.sramWritten_poisoned {m : Mem} {ws : List Nat} (a : Nat) (d : List Byte) (h : m.poisoned ws = false) :
    (m.sramWritten a d).poisoned ws = false := by
  simp only [Mem.poisoned, Mem.sramWritten, Mem.sramPut_poison, List.any_eq_false, List.contains_iff_mem] at *
  exact fun w hw hw' => h w hw (List.mem_of_mem_filter hw')

theorem accessOk_pos {a n : Nat} (h : accessOk a n = true) : 0 < n := by
  by_contra h0
  obtain rfl : n = 0 := by omega
  simp [accessOk] at h

theorem first_mem_wordsOf (a : Nat) {n : Nat} (h : 0 < n) : a / 8 ∈ wordsOf a n :=
  (upFrom_mem _ _ _).mpr (by omega)

/-- A finding in the first word of an access is one in a word that it touches. -/
theorem eccWords_first (a : Nat) {n : Nat} (h : 0 < n) : eccWords a n [0] = [a / 8] := by
  simp [eccWords, first_mem_wordsOf a h]

theorem wordsOf_word {a : Nat} (h : a % 8 = 0) : wordsOf a 8 = [a / 8] := by
  have : (a + 8 + 7) / 8 - a / 8 = 1 := by omega
  rw [wordsOf, this]
  rfl

theorem Mem.poisoned_filter {m : Mem} {ws : List Nat} (p : Nat → Bool) (h : m.poisoned ws = false) :
    m.poisoned (ws.filter p) = false := by
  simp only [Mem.poisoned, List.any_eq_false] at *
  exact fun w hw => h w (List.mem_of_mem_filter hw)

/-! ### What an ECC finding does (R39) -/

@[simp] theorem State.telCe_mem (s : State) : s.telCe.mem = s.mem := (rfl)
@[simp] theorem State.telUe_mem (s : State) : s.telUe.mem = s.mem := (rfl)
@[simp] theorem State.telCe_rd (s : State) (F : RField) (n i : Nat) : s.telCe.rd F n i = s.rd F n i := (rfl)
@[simp] theorem State.telUe_rd (s : State) (F : RField) (n i : Nat) : s.telUe.rd F n i = s.rd F n i := (rfl)

@[simp] theorem State.sramCe_mem (s : State) : s.sramCe.mem = s.mem := by
  simp [State.sramCe]

theorem State.sramCe_count (s : State) : s.sramCe.rd Reg.SRAMCE.COUNT = satTo 0xFFFFFFFF (s.rd Reg.SRAMCE.COUNT + 1) := by
  rw [State.sramCe, State.telCe_rd, State.cnt_rd _ _ _ _ _ (by decide)]
  rfl

theorem State.sramCes_nil (s : State) : s.sramCes [] = s := (rfl)
theorem State.sramCes_one (s : State) (w : Nat) : s.sramCes [w] = s.sramCe := (rfl)
theorem State.sramUes_one (s : State) (w : Nat) : s.sramUes [w] = s.sramUe w := by
  rw [State.sramUes, List.foldl_cons, List.foldl_nil]

@[simp] theorem State.sramCes_mem (s : State) (ws : List Nat) : (s.sramCes ws).mem = s.mem :=
  foldl_keep State.mem (fun s _ => s.sramCe) (fun s _ => s.sramCe_mem) ws s

theorem State.sramUe_mem (s : State) (w : Nat) : (s.sramUe w).mem =
    { s.mem with poison := if s.mem.poison.contains w then s.mem.poison else s.mem.poison ++ [w] } := by
  simp [State.sramUe]

theorem State.sramUe_poisons (s : State) (w : Nat) : (s.sramUe w).mem.poison.contains w = true := by
  rw [State.sramUe_mem]
  dsimp only
  split
  · assumption
  · simp

theorem State.sramUe_byteAt (s : State) (w x : Nat) : (s.sramUe w).byteAt x = s.byteAt x := by
  rw [State.byteAt, State.sramUe_mem]
  rfl

/-- Neither the poisoning nor the report of an error touches a register that no event counts in. -/
theorem State.sramUe_rd (s : State) (w : Nat) (F : RField) (h : evReg (F.adr 0 0) = false) :
    (s.sramUe w).rd F = ((s.cnt Reg.SRAMUE.COUNT).wr Reg.SRAMUEADDR.WORD w).rd F := by
  rw [State.sramUe]
  dsimp only
  rw [State.raise_rd _ _ _ _ _ _ h, State.telUe_rd]
  rfl

theorem State.sramUe_count (s : State) (w : Nat) :
    (s.sramUe w).rd Reg.SRAMUE.COUNT = satTo 0xFFFFFFFF (s.rd Reg.SRAMUE.COUNT + 1) := by
  rw [State.sramUe_rd _ _ _ (by decide), State.wr_rd_ne _ _ _ _ _ _ _ _ (by decide), State.cnt_rd _ _ _ _ _ (by decide)]
  rfl

theorem State.sramUe_addr (s : State) (w : Nat) : (s.sramUe w).rd Reg.SRAMUEADDR.WORD = w % 2 ^ 22 := by
  rw [State.sramUe_rd _ _ _ (by decide), State.wr_rd _ _ _ _ _ (by decide)]
  rfl

/-! ### An access that its bank serves (R34, R37 to R39) -/

section Served
variable {s : State} {a n : Nat} (ha : a < 0x1800000) (hok : accessOk a n = true)
  (hi : s.isolated (68 + a / 0x40000) = false) (hp : s.mem.poisoned (wordsOf a n) = false)
include ha hok hi hp

theorem State.sramReadBy_ok (src : Src) (err : Ecc) (hue : eccWords a n err.ue = []) :
    s.sramReadBy src a n err = (s.sramCes (eccWords a n err.ce), .ok, s.mem.sramBytes a n) := by
  rw [State.sramReadBy, if_neg (by omega), if_neg (by simp [hok]), if_neg (by simp [hi]), if_neg (by simp [hp])]
  dsimp only
  rw [if_pos hue, State.sramCes_mem]

theorem State.sramReadBy_uncorrectable (src : Src) :
    s.sramReadBy src a n .uncorrectable = (s.sramUe (a / 8), src.failure 4, []) := by
  have hue : eccWords a n Ecc.uncorrectable.ue = [a / 8] := eccWords_first a (accessOk_pos hok)
  rw [State.sramReadBy, if_neg (by omega), if_neg (by simp [hok]), if_neg (by simp [hi]), if_neg (by simp [hp])]
  dsimp only
  rw [hue, if_neg (List.cons_ne_nil _ _), show eccWords a n Ecc.uncorrectable.ce = [] from rfl, State.sramCes_nil,
    State.sramUes_one]

theorem State.sramWriteBy_clean (src : Src) (d : List Byte) (hd : d.length = n) :
    s.sramWriteBy src a d .clean = ({ s with mem := s.mem.sramWritten a d }, .ok) := by
  subst hd
  have hpart := s.mem.poisoned_filter (fun w => !(fullWords a d.length).contains w) hp
  rw [State.sramWriteBy, if_neg (by omega), if_neg (by simp [hok]), if_neg (by simp [hi])]
  dsimp only
  rw [hpart, if_neg Bool.false_ne_true, if_neg (fun h => h rfl)]
  rfl

theorem State.sramAtomicBy_clean (src : Src) (op : Atomic) (cmp val : Nat) (hn : n = 4 ∨ n = 8) :
    s.sramAtomicBy src op a n cmp val .clean =
      ({ s with mem := s.mem.sramPut a (toBytes n (op.apply n (ofBytes (s.mem.sramBytes a n)) cmp val)) },
        .ok, ofBytes (s.mem.sramBytes a n)) := by
  rw [State.sramAtomicBy, if_neg (by omega), if_neg (by simp [hn, hok]), if_neg (by simp [hi]), if_neg (by simp [hp]),
    if_neg (fun h => h rfl)]
  rfl

end Served

/-! ### The requesters inside the device: engines and movers (R34, R36, R350) -/

theorem Src.ne_jtag_of_inside {src : Src} (ho : src.outside = false) : src ≠ .jtag := by
  rintro rfl
  cases ho

theorem State.holds_inside (s : State) {src : Src} (ho : src.outside = false) (a : Nat) : s.holds src a = false := by
  simp [State.holds, ho]

/-- No window, no sleep and no missing session stands between an engine or a mover and the bank. -/
theorem State.sramRead_inside (s : State) {src : Src} (hf : src.func = none) (ho : src.outside = false) (a n : Nat) (err : Ecc) :
    s.sramRead src a n err = (s.sramReadBy src a n err).1.answer (s.sramReadBy src a n err).2.1
      ((s.sramReadBy src a n err).2.2.map (·.toNat)) := by
  rw [State.sramRead, if_neg (by simp [ho, Src.ne_jtag_of_inside ho]), if_neg (by simp [s.holds_inside ho]),
    if_neg (by simp [hf])]

theorem State.sramWrite_inside (s : State) {src : Src} (hf : src.func = none) (ho : src.outside = false) (a : Nat)
    (d : List Byte) (err : Ecc) :
    s.sramWrite src a d err = (s.sramWriteBy src a d err).1.answer (s.sramWriteBy src a d err).2 := by
  rw [State.sramWrite, if_neg (by simp [ho, Src.ne_jtag_of_inside ho]), if_neg (by simp [s.holds_inside ho]),
    if_neg (by simp [hf]), if_neg (by simp [hf])]
  cases src with
  | fn f => cases hf
  | _ => rfl

/-! ### The commands on shared SRAM -/

section Commands
variable {s : State} {a n : Nat} {src : Src} (ha : a < 0x1800000) (hi : s.isolated (68 + a / 0x40000) = false)
include ha hi

section Reads
variable (hsrc : src.ok = true) (hf : src.func = none) (ho : src.outside = false) (hok : accessOk a n = true)
  (hp : s.mem.poisoned (wordsOf a n) = false)
include hsrc hf ho hok hp

theorem exec_sramRead_ok (t : Nat) (err : Ecc) (hue : eccWords a n err.ue = []) :
    exec (.sramRead t src a n err) s = .next ((((s.advance t).sramCes (eccWords a n err.ce)).answer .ok
      ((s.mem.sramBytes a n).map (·.toNat))).withQueue s.pending) := by
  have he : exec (.sramRead t src a n err) s = _ := s.ran_ok ((s.advance t).sramRead src a n err) src.ok hsrc
  rw [he, State.sramRead_inside _ hf ho, State.sramReadBy_ok (s := s.advance t) ha hok hi hp _ _ hue]
  rfl

theorem exec_sramRead_correctable (t : Nat) :
    ∃ u, exec (.sramRead t src a n .correctable) s = .next u ∧ u.resp = ⟨.ok, (s.mem.sramBytes a n).map (·.toNat)⟩ ∧
      u.mem = s.mem ∧ u.rd Reg.SRAMCE.COUNT = satTo 0xFFFFFFFF (s.rd Reg.SRAMCE.COUNT + 1) := by
  have hce : eccWords a n Ecc.correctable.ce = [a / 8] := eccWords_first a (accessOk_pos hok)
  refine ⟨_, exec_sramRead_ok ha hi hsrc hf ho hok hp t .correctable rfl, rfl, ?_, ?_⟩
  · simp
  · rw [hce, State.sramCes_one, State.withQueue_rd, State.answer_rd, State.sramCe_count, State.advance_rd]

theorem exec_sramRead_uncorrectable (t : Nat) :
    ∃ u, exec (.sramRead t src a n .uncorrectable) s = .next u ∧ u.resp.status = src.failure 4 ∧
      u.mem.poison.contains (a / 8) = true ∧ (∀ x, u.byteAt x = s.byteAt x) ∧
      u.rd Reg.SRAMUE.COUNT = satTo 0xFFFFFFFF (s.rd Reg.SRAMUE.COUNT + 1) ∧
      u.rd Reg.SRAMUEADDR.WORD = a / 8 % 2 ^ 22 := by
  refine ⟨_, s.ran_ok ((s.advance t).sramRead src a n .uncorrectable) src.ok hsrc, ?_⟩
  rw [State.sramRead_inside _ hf ho, State.sramReadBy_uncorrectable (s := s.advance t) ha hok hi hp]
  refine ⟨rfl, ?_, fun x => ?_, ?_, ?_⟩
  · rw [State.withQueue_mem, State.answer_mem]
    exact State.sramUe_poisons _ _
  · rw [State.byteAt, State.withQueue_mem, State.answer_mem]
    exact State.sramUe_byteAt _ _ _
  · rw [State.withQueue_rd, State.answer_rd, State.sramUe_count, State.advance_rd]
  · rw [State.withQueue_rd, State.answer_rd, State.sramUe_addr]

end Reads

theorem exec_sramWrite_clean (t : Nat) (d : List Byte) (hsrc : src.ok = true) (hf : src.func = none)
    (ho : src.outside = false) (hok : accessOk a d.length = true) (hp : s.mem.poisoned (wordsOf a d.length) = false) :
    ∃ u, exec (.sramWrite t src a d .clean) s = .next u ∧ u.resp.status = .ok ∧ u.regs = s.regs ∧
      (∀ i (h : i < d.length), u.byteAt (a + i) = d[i]) ∧ (∀ x, x < a ∨ a + d.length ≤ x → u.byteAt x = s.byteAt x) := by
  refine ⟨_, s.ran_ok ((s.advance t).sramWrite src a d .clean) src.ok hsrc, ?_⟩
  rw [State.sramWrite_inside _ hf ho, State.sramWriteBy_clean (s := s.advance t) ha hok hi hp _ _ rfl]
  exact ⟨rfl, rfl, Mem.sramWritten_byte_inside _ _ _, Mem.sramWritten_byte_outside _ _ _⟩

/-- An atomic command answers the old word and stores what its operation makes of it, which is `x` cut to the word's
width (R38). -/
theorem exec_sramAtomic (t : Nat) (i : Instr) (op : Atomic) (cmp val x : Nat) (hsrc : src.ok = true) (hj : src ≠ .jtag)
    (hn : n = 4 ∨ n = 8) (hal : a % n = 0) (hp : s.mem.poisoned (wordsOf a n) = false)
    (he : exec i s = s.ran src.ok ((s.advance t).sramAtomic src op a n cmp val .clean))
    (hx : op.apply n (ofBytes (s.mem.sramBytes a n)) cmp val % 2 ^ (8 * n) = x % 2 ^ (8 * n)) :
    ∃ u, exec i s = .next u ∧ u.resp = ⟨.ok, [ofBytes (s.mem.sramBytes a n)]⟩ ∧ u.regs = s.regs ∧
      ofBytes (u.mem.sramBytes a n) = x % 2 ^ (8 * n) ∧ (∀ y, y < a ∨ a + n ≤ y → u.byteAt y = s.byteAt y) := by
  have hok : accessOk a n = true := by rcases hn with rfl | rfl <;> simpa [accessOk] using hal
  refine ⟨_, he.trans (State.ran_ok _ _ _ hsrc), ?_⟩
  rw [State.sramAtomic, if_neg hj, State.sramAtomicBy_clean (s := s.advance t) ha hok hi hp _ _ _ _ hn]
  set new := toBytes n (op.apply n (ofBytes (s.mem.sramBytes a n)) cmp val) with hnew
  have hlen : new.length = n := toBytes_length _ _
  refine ⟨rfl, rfl, ?_, fun y h => Mem.sramPut_byte_outside s.mem a new y (by omega)⟩
  calc ofBytes ((s.mem.sramPut a new).sramBytes a n)
      = ofBytes ((s.mem.sramPut a new).sramBytes a new.length) := by rw [hlen]
    _ = x % 2 ^ (8 * n) := by rw [Mem.sramPut_bytes, hnew, ofBytes_toBytes, hx]

end Commands

/-! ### The order in which a round serves two requests (R24) -/

theorem State.arbOrder_one (s : State) (p : Nat × Req) : s.arbOrder 1 [p] = (s, [p]) := by
  simp [State.arbOrder, firstArrive]

/-- Two requests are both served, in one order or the other; the choice leaves memory, registers and answers alone. -/
theorem State.arbOrder_two (s : State) (p q : Nat × Req) (h : p.1 ≠ q.1) : ∃ u : State,
    u.mem = s.mem ∧ u.answers = s.answers ∧ u.regs = s.regs ∧
    (s.arbOrder 2 [p, q] = (u, [p, q]) ∨ s.arbOrder 2 [p, q] = (u, [q, p])) := by
  have hm : firstArrive [p, q] = min p.2.arrive q.2.arrive := by simp [firstArrive]
  by_cases hp : p.2.arrive < min p.2.arrive q.2.arrive + 200
  · by_cases hq : q.2.arrive < min p.2.arrive q.2.arrive + 200
    · refine ⟨s.fresh.2, rfl, rfl, rfl, ?_⟩
      rcases Nat.mod_two_eq_zero_or_one s.fresh.1 with hi | hi
      · left
        simp [State.arbOrder, hm, hp, hq, hi, h.symm, State.arbOrder_one]
      · right
        simp [State.arbOrder, hm, hp, hq, hi, h, State.arbOrder_one]
    · refine ⟨s, rfl, rfl, rfl, .inl ?_⟩
      simp [State.arbOrder, hm, hp, hq, h.symm, State.arbOrder_one]
  · have hq : q.2.arrive < min p.2.arrive q.2.arrive + 200 := by omega
    refine ⟨s, rfl, rfl, rfl, .inr ?_⟩
    simp [State.arbOrder, hm, hp, hq, h, State.arbOrder_one]

/-! ### COINCCNT (R24, R41) -/

theorem State.countCoinc_rd64 (s : State) (k : Nat) :
    (s.countCoinc k).rd64 Reg.COINCCNT_LO.COUNT Reg.COINCCNT_HI.COUNT =
      (s.rd64 Reg.COINCCNT_LO.COUNT Reg.COINCCNT_HI.COUNT + k) % 2 ^ 64 := by
  generalize hv : s.rd64 Reg.COINCCNT_LO.COUNT Reg.COINCCNT_HI.COUNT + k = v
  rw [State.countCoinc, hv, State.wr64, State.rd64, State.wr_rd_ne _ _ _ _ _ _ _ _ (by decide),
    State.wr_rd _ _ _ _ _ (by decide), State.wr_rd _ _ _ _ _ (by decide)]
  change v % 2 ^ 32 + 2 ^ 32 * (v / 2 ^ 32 % 2 ^ 32) = v % 2 ^ 64
  omega

theorem State.countCoinc_mem (s : State) (k : Nat) : (s.countCoinc k).mem = s.mem := State.wr64_mem _ _ _ _ _ _
theorem State.countCoinc_answers (s : State) (k : Nat) : (s.countCoinc k).answers = s.answers :=
  State.wr64_answers _ _ _ _ _ _

theorem State.countCoinc_isolated (s : State) (k p : Nat) : (s.countCoinc k).isolated p = s.isolated p := by
  have key : ∀ F : RField, F.adr 0 0 < Reg.MESHISO.ISO.adr 0 0 → Reg.MESHISO.ISO.adr 0 (p / 32) ≠ F.adr 0 0 := by
    intro F hF
    have : Reg.MESHISO.ISO.adr 0 (p / 32) = Reg.MESHISO.ISO.adr 0 0 + 4 * (p / 32) := rfl
    omega
  rw [State.isolated, State.countCoinc, State.wr64, State.wr_rd_ne _ _ _ _ _ _ _ _ (key _ (by decide)),
    State.wr_rd_ne _ _ _ _ _ _ _ _ (key _ (by decide))]
  rfl

theorem coincPairs_two (x y : Nat) : coincPairs [x, y] = if absDiff x y < 200 then 1 else 0 := by
  by_cases h : absDiff x y < 200 <;> simp [coincPairs, h]

/-! ### A read and a write of one word in one grant (R36) -/

theorem State.rd64_of_regs {s u : State} {F G : RField} {n i : Nat} (h : s.regs = u.regs) :
    s.rd64 F G n i = u.rd64 F G n i := by
  rw [State.rd64, State.rd_of_regs s u F n i h, State.rd_of_regs s u G n i h, State.rd64]

section Round
variable {s : State} {a n : Nat} (ha : a < 0x1800000) (hi : s.isolated (68 + a / 0x40000) = false)
include ha hi

theorem State.answerOf_roundWrite (h : Nat) (d : List Byte) (hd : d.length = n) (hok : accessOk a n = true)
    (hp : s.mem.poisoned (wordsOf a n) = false) :
    s.answerOf (.eng h) (·.roundWrite (.eng h) a d .clean) =
      { s with mem := s.mem.sramWritten a d, resp := ⟨.ok, []⟩, answers := s.answers ++ [(.eng h, ⟨.ok, []⟩)] } := by
  have hr : ({ s with resp := ⟨.ok, []⟩ } : State).roundWrite (.eng h) a d .clean = _ :=
    (if_neg (by omega)).trans (State.sramWrite_inside _ rfl rfl a d .clean)
  rw [State.sramWriteBy_clean (s := { s with resp := ⟨.ok, []⟩ }) ha hok hi hp _ _ hd] at hr
  rw [State.answerOf, hr]
  rfl

theorem State.answerOf_roundRead (g : Nat) (hok : accessOk a n = true) (hp : s.mem.poisoned (wordsOf a n) = false) :
    s.answerOf (.eng g) (·.roundRead (.eng g) a n .clean) =
      { s with
          resp := ⟨.ok, (s.mem.sramBytes a n).map (·.toNat)⟩
          answers := s.answers ++ [(.eng g, ⟨.ok, (s.mem.sramBytes a n).map (·.toNat)⟩)] } := by
  have hr : ({ s with resp := ⟨.ok, []⟩ } : State).roundRead (.eng g) a n .clean = _ :=
    (if_neg (by omega)).trans (State.sramRead_inside _ rfl rfl a n .clean)
  rw [State.sramReadBy_ok (s := { s with resp := ⟨.ok, []⟩ }) ha hok hi hp _ _ rfl] at hr
  rw [State.answerOf, hr]
  rfl

/-- A read served after the write of the same bytes answers them (R36). -/
theorem State.roundRead_after_roundWrite (g h : Nat) (d : List Byte) (hd : d.length = n) (hok : accessOk a n = true)
    (hp : s.mem.poisoned (wordsOf a n) = false) :
    (s.answerOf (.eng h) (·.roundWrite (.eng h) a d .clean)).answerOf (.eng g) (·.roundRead (.eng g) a n .clean) =
      { s with
          mem := s.mem.sramWritten a d
          resp := ⟨.ok, d.map (·.toNat)⟩
          answers := s.answers ++ [(.eng h, ⟨.ok, []⟩)] ++ [(.eng g, ⟨.ok, d.map (·.toNat)⟩)] } := by
  rw [State.answerOf_roundWrite ha hi h d hd hok hp]
  refine (State.answerOf_roundRead ha ?_ g hok ?_).trans ?_
  · exact hi
  · exact Mem.sramWritten_poisoned a d hp
  · subst hd
    rw [Mem.sramWritten_bytes]

end Round

/-- Whichever of the two the round's order puts first, the write is served before the read; a round of accesses to memory
has no register write, no arrival and no clear to serve. -/
theorem State.grant_read_write (s : State) (g h x y a n : Nat) (d : List Byte) : ∃ u : State,
    u.mem = s.mem ∧ u.answers = [] ∧ u.regs = (({ s with answers := [] } : State).countCoinc (coincPairs [x, y])).regs ∧
    s.grant [⟨.eng g, x, .read a n, .clean⟩, ⟨.eng h, y, .write a d, .clean⟩] =
      (u.answerOf (.eng h) (·.roundWrite (.eng h) a d .clean)).answerOf (.eng g) (·.roundRead (.eng g) a n .clean) := by
  obtain ⟨u, hmem, hans, hregs, hord⟩ := (({ s with answers := [] } : State).countCoinc (coincPairs [x, y])).arbOrder_two
    (0, ⟨.eng g, x, .read a n, .clean⟩) (1, ⟨.eng h, y, .write a d, .clean⟩) Nat.zero_ne_one
  refine ⟨u, hmem.trans (State.countCoinc_mem _ _), hans.trans (State.countCoinc_answers _ _), hregs, ?_⟩
  rcases hord with hord | hord <;>
  · simp only [State.grant, List.map_cons, List.map_nil, List.length_cons, List.length_nil, upFrom, List.zip_cons_cons,
      List.zip_nil_right, hord]
    rfl

theorem roundOk_read_write {g h : Nat} (hgh : g ≠ h) (x y a n : Nat) (d : List Byte) (ha : a < 0x1800000) :
    roundOk [⟨.eng g, x, .read a n, .clean⟩, ⟨.eng h, y, .write a d, .clean⟩] = true := by
  simp [roundOk, Req.dest, memDest, Nat.not_le.mpr ha, List.eraseDups_cons, hgh.symm]

theorem exec_grant_read_write (t a g h x y : Nat) (d : List Byte) (s : State) (hg : g < 64) (hh : h < 64) (hgh : g ≠ h)
    (hd : d.length = 8) (hal : a % 8 = 0) (ha : a < 0x1800000) (hi : s.isolated (68 + a / 0x40000) = false)
    (hp : s.mem.poisoned [a / 8] = false) :
    ∃ u, exec (.grantRoundOpen t [⟨.eng g, x, .read a 8, .clean⟩, ⟨.eng h, y, .write a d, .clean⟩]) s = .next u ∧
      u.answers = [(.eng h, ⟨.ok, []⟩), (.eng g, ⟨.ok, d.map (·.toNat)⟩)] ∧
      (∀ i (hi : i < d.length), u.byteAt (a + i) = d[i]) ∧ (∀ z, z < a ∨ a + 8 ≤ z → u.byteAt z = s.byteAt z) ∧
      u.rd64 Reg.COINCCNT_LO.COUNT Reg.COINCCNT_HI.COUNT =
        (s.rd64 Reg.COINCCNT_LO.COUNT Reg.COINCCNT_HI.COUNT + (if absDiff x y < 200 then 1 else 0)) % 2 ^ 64 := by
  have hok : accessOk a 8 = true := by simp [accessOk, hal]
  have hround := roundOk_read_write hgh x y a 8 d ha
  refine ⟨_, s.ran_ok ((s.advance t).grant _) _ (by simp [Req.ok, Src.ok, hg, hh, hround]), ?_⟩
  obtain ⟨u, hmem, hans, hregs, hgrant⟩ := (s.advance t).grant_read_write g h x y a 8 d
  have hiu : u.isolated (68 + a / 0x40000) = false := by
    rw [State.isolated, State.rd_of_regs _ _ _ _ _ hregs]
    exact (State.countCoinc_isolated _ _ _).trans hi
  have hpu : u.mem.poisoned (wordsOf a 8) = false := by rwa [hmem, wordsOf_word hal]
  rw [hgrant, State.roundRead_after_roundWrite ha hiu g h d hd hok hpu]
  refine ⟨?_, Mem.sramWritten_byte_inside _ _ _, fun z hz => ?_, ?_⟩
  · change u.answers ++ _ ++ _ = _
    rw [hans]
    rfl
  · refine (Mem.sramWritten_byte_outside _ _ _ _ (by omega)).trans ?_
    change u.mem.sramByte z = s.mem.sramByte z
    rw [hmem, State.advance_mem]
  · change u.rd64 _ _ = _
    rw [State.rd64_of_regs hregs, State.countCoinc_rd64, coincPairs_two]
    rfl

/-! ### The statement on shared SRAM -/

/-- Settles O7: the bank's answer to each access gives the first three clauses, and the fourth holds because a round serves its
write before its read in either order of arbitration. -/
theorem sharedSram : Obligations.SharedSram := by
  refine ⟨?reads, ?writes, ?atomics, ?grant⟩
  case reads =>
    intro t a n src s hsrc hf ho ha hok hi hp
    exact ⟨⟨_, exec_sramRead_ok ha hi hsrc hf ho hok hp t .clean rfl, rfl, rfl, rfl⟩,
      exec_sramRead_correctable ha hi hsrc hf ho hok hp t, exec_sramRead_uncorrectable ha hi hsrc hf ho hok hp t⟩
  case writes =>
    intro t a d src s hsrc hf ho ha hok hi hp
    exact exec_sramWrite_clean ha hi t d hsrc hf ho hok hp
  case atomics =>
    intro t a n v c src s hsrc hj hn ha hal hi hp old gives
    have atomic (i : Instr) (op : Atomic) (cmp x : Nat) :=
      exec_sramAtomic ha hi t i op cmp v x hsrc hj hn hal hp
    refine ⟨atomic _ .swap 0 _ rfl (Nat.mod_mod _ _), atomic _ .cas c _ rfl ?_, atomic _ .add 0 _ rfl (Nat.mod_mod _ _),
      atomic _ .and 0 _ rfl rfl, atomic _ .or 0 _ rfl (Nat.mod_mod _ _)⟩
    change (if old = c % 2 ^ (8 * n) then v % 2 ^ (8 * n) else old) % _ = (if old = c % 2 ^ (8 * n) then v else old) % _
    split
    · exact Nat.mod_mod _ _
    · rfl
  case grant =>
    intro t a g h x y d s hg hh hgh hd hal ha hi hp
    exact exec_grant_read_write t a g h x y d s hg hh hgh hd hal ha hi hp

end Sys2Proof.Machine
end

section
/-! PROOFS. Control transfers (chapter 3): an instruction that executes and retires, the branch that leaves its slot to come, and
the slot after which control goes on, each said once, and the statement that they make up. -/
namespace Sys2Proof.Machine

/-! ### An instruction that executes and retires (R69, R94, R98, R103, R151) -/

/-- The engine of logical gondola `g` executes its next instruction with nothing else due as it retires: no MODE write, no
exception, no debug halt and no deadline. Unlike `plainNext` it may stand in a delay slot or at the end of a loop. -/
structure State.Executes (s : State) (g : Nat) : Prop where
  ready : s.engReady g = true
  fetched : s.fetchBad g = none
  noImp : (s.en g).imp = []
  noMode : (s.en g).modeP = []
  noStep : (s.en g).stepping = false
  noHalt : (s.en g).haltReq = false
  noDeadline : s.dlUsable g (s.curSlot g) = false

theorem State.Executes.advance {s : State} {g : Nat} (hx : s.Executes g) (t : Nat) : (s.advance t).Executes g :=
  ⟨hx.ready, hx.fetched, hx.noImp, hx.noMode, hx.noStep, hx.noHalt, hx.noDeadline⟩

theorem State.plainNext_iff (s : State) (g : Nat) :
    s.plainNext g = true ↔ s.Executes g ∧ (s.en g).br = none ∧ (s.en g).atLe = false := by
  simp only [State.plainNext, Bool.and_eq_true, Bool.not_eq_true', Option.isNone_iff_eq_none, List.isEmpty_iff]
  constructor
  · rintro ⟨⟨⟨⟨⟨⟨⟨⟨ready, fetched⟩, noBr⟩, noLe⟩, noImp⟩, noMode⟩, noStep⟩, noHalt⟩, noDeadline⟩
    exact ⟨⟨ready, fetched, noImp, noMode, noStep, noHalt, noDeadline⟩, noBr, noLe⟩
  · rintro ⟨⟨ready, fetched, noImp, noMode, noStep, noHalt, noDeadline⟩, noBr, noLe⟩
    exact ⟨⟨⟨⟨⟨⟨⟨⟨ready, fetched⟩, noBr⟩, noLe⟩, noImp⟩, noMode⟩, noStep⟩, noHalt⟩, noDeadline⟩

theorem Eng.modeStep_of_nil (e : Eng) (h : e.modeP = []) : e.modeStep = e := by
  cases e
  subst h
  rfl

theorem Eng.impStep_of_nil (e : Eng) (h : e.imp = []) : e.impStep = e := by
  cases e
  subst h
  rfl

theorem Eng.loopBack_keeps_halts (e : Eng) (pc : Nat) :
    (e.loopBack pc).stepping = e.stepping ∧ (e.loopBack pc).haltReq = e.haltReq := by
  unfold Eng.loopBack
  dsimp only
  split_ifs <;> exact ⟨rfl, rfl⟩

/-- After a delay slot control is at the branch's target; the branch, where it is taken, is noted and closes the loops it leaves,
and a linking one leaves its address + 8 in w14, whatever its slot left there (R86, R87, R89, R114). -/
theorem Eng.goOn_slot (e : Eng) {b : Branch} (hb : e.br = some b) (npc : Option Nat) (nb : Option Branch) :
    e.goOn npc nb = { e with
      br := none, pc := b.dest
      w := if b.link then (e.setR 14 (BitVec.ofNat 32 (b.src + 8))).w else e.w
      trace := if b.taken then (e.note b.src b.dest).trace else e.trace
      l0 := if b.taken ∧ b.close then e.l0.leave b.dest else e.l0
      l1 := if b.taken ∧ b.close then e.l1.leave b.dest else e.l1 } := by
  unfold Eng.goOn
  rw [hb]
  dsimp only
  split_ifs <;> rfl

theorem Eng.goOn_keeps_halts (e : Eng) (npc : Option Nat) (nb : Option Branch) :
    (e.goOn npc nb).stepping = e.stepping ∧ (e.goOn npc nb).haltReq = e.haltReq := by
  cases hbr : e.br with
  | some b =>
    rw [e.goOn_slot hbr]
    exact ⟨rfl, rfl⟩
  | none =>
    unfold Eng.goOn
    rw [hbr]
    cases nb with
    | some b => exact ⟨rfl, rfl⟩
    | none =>
      cases npc with
      | some p => exact ⟨rfl, rfl⟩
      | none => exact e.loopBack_keeps_halts e.pc

/-- The engine after an instruction that goes on as `npc` and `nb` say, counted as retired (R86, R94). -/
def Eng.retired (e : Eng) (npc : Option Nat) (nb : Option Branch) : Eng :=
  { e.goOn npc nb with icount := e.icount + 1, bpPass := false }

theorem State.retire_of_executes {s : State} {g : Nat} (hx : s.Executes g) (npc : Option Nat) (nb : Option Branch) :
    s.retire g npc nb = s.modEn g (·.retired npc nb) := by
  have hd : s.deadline g (s.en g).pc = s := by
    rw [State.deadline]
    exact if_pos (.inr (.inl (by simp [hx.noDeadline])))
  rw [State.retire, hd]
  apply State.modEn_congr
  rw [Eng.modeStep_of_nil _ hx.noMode, Eng.impStep_of_nil _ hx.noImp]
  obtain ⟨hstep, hhalt⟩ := (s.en g).goOn_keeps_halts npc nb
  exact Eng.haltCheck_plain _ (hstep.trans hx.noStep) (hhalt.trans hx.noHalt)

/-- An instruction that is legal where it stands and changes nothing but where control goes retires. -/
theorem State.engRun_goesOn {s : State} {g : Nat} (hx : s.Executes g) {k : InsKind} {f : State → Done} {npc : Option Nat}
    {nb : Option Branch} (hlegal : (s.en g).illegal k = none) (hf : f s = .ok s none npc nb) :
    s.engRun g k f = s.modEn g (·.retired npc nb) := by
  have hcheck : (s.en g).checking = false := by simp [Eng.checking, hx.noImp]
  rw [State.engRun, if_neg (by simp [hx.ready]), hx.fetched]
  dsimp only
  rw [if_neg (by simp [hcheck]), hlegal, hf]
  exact State.retire_of_executes hx npc nb

/-- What such an instruction does as a command: the clock and its engine change, the other engines stay. -/
theorem exec_goesOn {s : State} {t g : Nat} {i : Instr} {ok : Bool} {k : InsKind} {f : State → Done} {npc : Option Nat}
    {nb : Option Branch} (hexec : exec i s = s.ran ok ((s.advance t).engRun g k f)) (hok : ok = true) (hx : s.Executes g)
    (hlegal : (s.en g).illegal k = none) (hf : f (s.advance t) = .ok (s.advance t) none npc nb) :
    ∃ u, exec i s = .next u ∧ u = { s with now := u.now, eng := u.eng } ∧ (∀ h, h ≠ g → u.en h = s.en h) ∧
      u.en g = (s.en g).retired npc nb := by
  refine ⟨_, hexec.trans (s.ran_ok _ ok hok), ?_⟩
  rw [State.engRun_goesOn (hx.advance t) hlegal hf]
  exact ⟨rfl, fun h hne => by simp [State.modEn_en_ne _ _ _ _ hne], by simp⟩

/-! ### A branch: it reads its operands and leaves its slot to come (R84 to R86) -/

/-- Command `i`, a control transfer of engine `g`, has settled where control goes after its slot, which comes next. -/
def branches (i : Instr) (s : State) (g : Nat) (taken : Bool) (tgt : Nat) (link close : Bool) : Prop :=
  ∃ u, exec i s = .next u ∧ u = { s with now := u.now, eng := u.eng } ∧
    engineIs s u g { s.en g with br := some ⟨(s.en g).pc, if taken then tgt else (s.en g).pc + 8, taken, link, close⟩ }
      ((s.en g).pc + 4)

theorem Eng.retired_branch (e : Eng) (b : Branch) (h : e.br = none) :
    e.retired none (some b) = { e with br := some b, pc := e.pc + 4, icount := e.icount + 1, bpPass := false } := by
  rw [Eng.retired, Eng.goOn, h]

/-- Outside a delay slot and away from the end of a loop only its encoding can make an instruction illegal (R83, R87, R88). -/
theorem Eng.illegal_plain (e : Eng) (k : InsKind) (hbr : e.br = none) (hle : e.atLe = false) : e.illegal k = k.ill := by
  cases hill : k.ill with
  | none => simp [Eng.illegal, hill, hbr, hle]
  | some n => simp [Eng.illegal, hill]

theorem exec_branches {s : State} {t g : Nat} {i : Instr} {ok : Bool} {k : InsKind} {f : State → Done} {taken : Bool}
    {tgt : Nat} {link close : Bool} (hexec : exec i s = s.ran ok ((s.advance t).engRun g k f)) (hok : ok = true)
    (hp : s.plainNext g = true) (hill : k.ill = none)
    (hf : f (s.advance t) = (s.advance t).branch g taken tgt link close) : branches i s g taken tgt link close := by
  obtain ⟨hx, hbr, hle⟩ := (s.plainNext_iff g).mp hp
  obtain ⟨u, hu, hframe, hothers, hen⟩ := exec_goesOn hexec hok hx (((s.en g).illegal_plain k hbr hle).trans hill) hf
  exact ⟨u, hu, hframe, hothers, hen.trans (Eng.retired_branch _ _ hbr)⟩

theorem toSigned_of_lt {w v : Nat} (h : v < 2 ^ w) :
    toSigned w v = if v < 2 ^ (w - 1) then (v : Int) else v - 2 ^ w := by
  simp [toSigned, Nat.mod_eq_of_lt h]

theorem branchTo_of_lt (pc : Nat) {w off : Nat} (h : off < 2 ^ w) :
    branchTo pc w off = (((pc : Int) + 4 * (if off < 2 ^ (w - 1) then (off : Int) else off - 2 ^ w)) % 2 ^ 32).toNat := by
  rw [branchTo, ofSigned, toSigned_of_lt h]
  norm_num

/-- The conditions of `b.cond` in the order of their codes (R85). -/
theorem condHolds_eq_getD (c f : Nat) (h : c < 15) : condHolds c f =
    [flagZ f, !flagZ f, flagC f, !flagC f, flagN f, !flagN f, flagV f, !flagV f, flagC f && !flagZ f, !flagC f || flagZ f,
      flagN f == flagV f, flagN f != flagV f, !flagZ f && flagN f == flagV f, flagZ f || flagN f != flagV f,
      true].getD c false := by
  interval_cases c <;> rfl

section Transfers
variable {s : State} {g : Nat} (hg : g < 64) (hp : s.plainNext g = true)
include hg hp

/-- The transfers of format B have their two fields within range; `jr` and `jlr` leave OFF22 at 0 (R82, R84). -/
theorem exec_formatB {i : Instr} {t c off : Nat} {k : InsKind} {f : State → Done} {taken : Bool} {tgt : Nat} {link close : Bool}
    (hc : c < 16) (hoff : off < 2 ^ 22)
    (hexec : exec i s = s.ran (g < 64 && (⟨c, off⟩ : FmtB).ok) ((s.advance t).engRun g k f)) (hill : k.ill = none)
    (hf : f (s.advance t) = (s.advance t).branch g taken tgt link close) : branches i s g taken tgt link close :=
  exec_branches hexec (by simpa [hg, FmtB.ok, hc] using hoff) hp hill hf

theorem exec_bCond_branches (t c off : Nat) (hc : c < 15) (hoff : off < 2 ^ 22) :
    branches (.bCond t g ⟨c, off⟩) s g (condHolds c (s.en g).flags) (branchTo (s.en g).pc 22 off) false true :=
  exec_formatB hg hp (by omega) hoff rfl (if_neg (by simpa using hc.ne)) rfl

theorem exec_cbz_branches (t c off : Nat) (hc : c < 16) (hoff : off < 2 ^ 22) :
    branches (.cbz t g ⟨c, off⟩) s g ((s.en g).r c == 0#32) (branchTo (s.en g).pc 22 off) false true :=
  exec_formatB hg hp hc hoff rfl rfl rfl

theorem exec_cbnz_branches (t c off : Nat) (hc : c < 16) (hoff : off < 2 ^ 22) :
    branches (.cbnz t g ⟨c, off⟩) s g ((s.en g).r c != 0#32) (branchTo (s.en g).pc 22 off) false true :=
  exec_formatB hg hp hc hoff rfl rfl rfl

theorem exec_jmp_branches (t off : Nat) (hoff : off < 2 ^ 26) :
    branches (.jmp t g off) s g true (branchTo (s.en g).pc 26 off) false true :=
  exec_branches rfl (by simpa [hg] using hoff) hp rfl rfl

theorem exec_jl_branches (t off : Nat) (hoff : off < 2 ^ 26) :
    branches (.jl t g off) s g true (branchTo (s.en g).pc 26 off) true false :=
  exec_branches rfl (by simpa [hg] using hoff) hp rfl rfl

theorem exec_jr_branches (t c : Nat) (hc : c < 16) :
    branches (.jr t g ⟨c, 0⟩) s g true ((s.en g).r c).toNat false true :=
  exec_formatB hg hp hc (by norm_num) rfl rfl rfl

theorem exec_jlr_branches (t c : Nat) (hc : c < 16) :
    branches (.jlr t g ⟨c, 0⟩) s g true ((s.en g).r c).toNat true false :=
  exec_formatB hg hp hc (by norm_num) rfl rfl rfl

end Transfers

/-! ### The delay slot: control goes where its branch goes (R86, R114) -/

@[simp] theorem Eng.setR_r_same (e : Eng) (i : Nat) (v : Word) : (e.setR i v).r i = v := Store.get_set_same _ _ _ _

theorem Eng.setR_r_ne (e : Eng) (i j : Nat) (v : Word) (h : j ≠ i) : (e.setR i v).r j = e.r j := Store.get_set_ne _ _ _ _ _ h

section Slot
variable (e : Eng) {b : Branch} (hb : e.br = some b) (npc : Option Nat) (nb : Option Branch)
include hb

theorem Eng.goOn_slot_r14 : (e.goOn npc nb).r 14 = if b.link then BitVec.ofNat 32 (b.src + 8) else e.r 14 := by
  rw [e.goOn_slot hb, Eng.r]
  dsimp only
  split
  · exact e.setR_r_same 14 _
  · rfl

theorem Eng.goOn_slot_r (i : Nat) (hi : i ≠ 14) : (e.goOn npc nb).r i = e.r i := by
  rw [e.goOn_slot hb, Eng.r]
  dsimp only
  split
  · exact e.setR_r_ne 14 i _ hi
  · rfl

end Slot

/-- An instruction that is no control transfer and whose encoding is legal may execute in a slot outside hardware loops, if it
is not barred there (R87, R88). -/
theorem Eng.illegal_slot (e : Eng) (k : InsKind) (h0 : e.l0.act = false) (h1 : e.l1.act = false) (hctl : k.ctl = false)
    (hslot : k.noSlot = false) : e.illegal k = k.ill := by
  cases hill : k.ill with
  | none => simp [Eng.illegal, hill, Eng.atLe, LoopL.at, h0, h1, hctl, hslot]
  | some n => simp [Eng.illegal, hill]

theorem exec_nop_goesOn {s : State} {t g : Nat} (hg : g < 64) (hx : s.Executes g) (h0 : (s.en g).l0.act = false)
    (h1 : (s.en g).l1.act = false) :
    ∃ u, exec (.nopI t g 0xFC000000) s = .next u ∧ u = { s with now := u.now, eng := u.eng } ∧
      (∀ h, h ≠ g → u.en h = s.en h) ∧ u.en g = (s.en g).retired none none := by
  have hword : nopWord 0xFC000000 = true := by decide
  have hill : nopIll 0xFC000000 = none := by decide
  exact exec_goesOn rfl (by simp [hg, hword]) hx ((Eng.illegal_slot _ _ h0 h1 rfl rfl).trans hill) rfl

/-! ### The statement on control transfers -/

/-- Settles O20: each transfer answers `State.branch` with its own condition and target, and `Eng.goOn` after the slot goes where
that branch settled. -/
theorem controlTransfers : Obligations.ControlTransfers := by
  refine ⟨?transfers, ?slot⟩
  case transfers =>
    intro t g c off s hg hc hp e goes n z cc v holds
    refine ⟨?formatB, ?formatJ, exec_jr_branches hg hp t c hc, exec_jlr_branches hg hp t c hc⟩
    case formatB =>
      intro hoff b
      have hb : branchTo e.pc 22 off = b := branchTo_of_lt _ hoff
      rw [← hb]
      refine ⟨fun hc15 => ?_, exec_cbz_branches hg hp t c off hc hoff, exec_cbnz_branches hg hp t c off hc hoff⟩
      have hcond : condHolds c e.flags = holds := condHolds_eq_getD c e.flags hc15
      rw [← hcond]
      exact exec_bCond_branches hg hp t c off hc15 hoff
    case formatJ =>
      intro hoff j
      have hj : branchTo e.pc 26 off = j := branchTo_of_lt _ hoff
      rw [← hj]
      exact ⟨exec_jmp_branches hg hp t off hoff, exec_jl_branches hg hp t off hoff⟩
  case slot =>
    intro t g b s hg ready fetched hb h0 h1 noImp noMode noStep noHalt noDeadline
    have hx : s.Executes g := ⟨ready, fetched, noImp, noMode, noStep, noHalt, noDeadline⟩
    obtain ⟨u, hu, hframe, -, hen⟩ := exec_nop_goesOn (t := t) hg hx h0 h1
    have hslot := (s.en g).goOn_slot hb none none
    refine ⟨u, hu, hframe, ?_⟩
    rw [hen]
    exact ⟨congrArg Eng.pc hslot, congrArg Eng.br hslot, (s.en g).goOn_slot_r14 hb none none,
      (s.en g).goOn_slot_r hb none none, (congrArg Eng.flags hslot :), rfl,
      fun hnot => (congrArg Eng.trace hslot).trans (if_neg (by simp [hnot]))⟩

end Sys2Proof.Machine
end

section
/-! PROOFS. The block as a whole: every command is `State.ran` of its well-formedness (log entry 125), every 32-bit word decodes to a
well-formed engine command (R82 to R84), and exec answers each command's own operation. -/
namespace Sys2Proof.Machine

/-! ### Every command completes, or names a unit the device does not have -/

theorem exec_eq_ran (i : Instr) (s : State) : ∃ u, exec i s = s.ran i.wf u := by
  cases i <;> exact ⟨_, rfl⟩

/-- Settles O1: by the definition of `step`. -/
theorem stepRunsFront : Obligations.StepRunsFront := fun _ _ _ => rfl

/-- Settles O3. -/
theorem stopsOnlyIllFormed : Obligations.StopsOnlyIllFormed := by
  intro c s h
  obtain ⟨u, hu⟩ := exec_eq_ran c s
  exact hu.trans (s.ran_bad u _ h)

theorem exec_of_wf {c : Instr} (s : State) (h : c.wf = true) : ∃ u, exec c s = .next u ∧ u.pending = s.pending := by
  obtain ⟨u, hu⟩ := exec_eq_ran c s
  exact ⟨_, hu.trans (s.ran_ok u _ h), rfl⟩

/-! ### The fields of a word are within the ranges of its format (R82) -/

section Decoder
variable (w : Nat)

theorem fmtR_ok : (fmtR w).ok = true := by simp [fmtR, FmtR.ok, bitsAt, Nat.mod_lt]
theorem fmtI_ok : (fmtI w).ok = true := by simp [fmtI, FmtI.ok, bitsAt, Nat.mod_lt]
theorem fmtU_ok : (fmtU w).ok = true := by simp [fmtU, FmtU.ok, bitsAt, Nat.mod_lt]
theorem fmtM_ok : (fmtM w).ok = true := by simp [fmtM, FmtM.ok, bitsAt, Nat.mod_lt]
theorem fmtS_ok : (fmtS w).ok = true := by simp [fmtS, FmtS.ok, bitsAt, Nat.mod_lt]
theorem fmtV_ok : (fmtV w).ok = true := by simp [fmtV, FmtV.ok, bitsAt, Nat.mod_lt]
theorem fmtT_ok : (fmtT w).ok = true := by simp [fmtT, FmtT.ok, bitsAt, Nat.mod_lt]
theorem fmtP_ok : (fmtP w).ok = true := by simp [fmtP, FmtP.ok, bitsAt, Nat.mod_lt]
theorem fmtE_ok : (fmtE w).ok = true := by simp [fmtE, FmtE.ok, bitsAt, Nat.mod_lt]
theorem fmtB_ok : (fmtB w).ok = true := by simp [fmtB, FmtB.ok, bitsAt, Nat.mod_lt]
theorem fmtL_ok : (fmtL w).ok = true := by simp [fmtL, FmtL.ok, bitsAt, Nat.mod_lt]
theorem fmtX_ok : (fmtX w).ok = true := by simp [fmtX, FmtX.ok, bitsAt, Nat.mod_lt]

theorem bitsAt_26_lt : bitsAt w 0 26 < 67108864 := bitsAt_lt w 0 26
theorem fmtS_fields : (fmtS w).rd < 16 ∧ (fmtS w).res < 4096 := ⟨bitsAt_lt w 22 4, bitsAt_lt w 0 12⟩

variable {w} {t g : Nat} {err : Ecc} {i : Instr} (hg : g < 64)
include hg

theorem decAlu_wf (h : decAlu t g w = some i) : i.wf = true := by
  unfold decAlu at h
  split at h <;> cases h <;> simp [Instr.wf, hg, fmtR_ok]

theorem decPair_wf (h : decPair t g w = some i) : i.wf = true := by
  unfold decPair at h
  split at h <;> cases h <;> simp [Instr.wf, hg, fmtR_ok]

theorem decAcc_wf (h : decAcc t g w = some i) : i.wf = true := by
  unfold decAcc at h
  split at h <;> cases h <;> simp [Instr.wf, hg, fmtR_ok]

theorem decAtom_wf (h : decAtom t g w err = some i) : i.wf = true := by
  unfold decAtom at h
  split at h <;> cases h <;> simp [Instr.wf, hg, fmtR_ok]

theorem decodeListed_wf (hw : w < 2 ^ 32) (h : decodeListed t g w err = some i) : i.wf = true := by
  have hnop : opOf w = 0x3F → nopWord w = true := fun ho => by
    have : bitsAt w 26 6 = 0x3F := ho
    simpa [nopWord, this] using hw
  unfold decodeListed at h
  split at h
  case h_1 => exact decAlu_wf hg h
  case h_2 => exact decPair_wf hg h
  case h_3 => exact decAcc_wf hg h
  case h_4 => exact decAtom_wf hg h
  case h_46 => exact nomatch h
  all_goals
    cases h
    (try split) <;>
      simp [Instr.wf, fmtI_ok, fmtU_ok, fmtM_ok, fmtS_ok, fmtV_ok, fmtT_ok, fmtP_ok, fmtE_ok, fmtB_ok, fmtL_ok, fmtX_ok,
        bitsAt_26_lt, fmtS_fields, *]

omit hg in
theorem decAlu_none (h : decAlu t g w = none) : ¬ (fnOf w ≤ 0x13) ∧ ¬ (0x18 ≤ fnOf w ∧ fnOf w ≤ 0x1F) := by
  unfold decAlu at h
  split at h <;> first | contradiction | (simp only [imp_false] at *; omega)

omit hg in
theorem decPair_none (h : decPair t g w = none) : ¬ fnOf w ≤ 4 := by
  unfold decPair at h
  split at h <;> first | contradiction | (simp only [imp_false] at *; omega)

omit hg in
theorem decAcc_none (h : decAcc t g w = none) : ¬ fnOf w ≤ 6 := by
  unfold decAcc at h
  split at h <;> first | contradiction | (simp only [imp_false] at *; omega)

omit hg in
theorem decAtom_none (h : decAtom t g w err = none) : ¬ fnOf w ≤ 4 ∧ ¬ (8 ≤ fnOf w ∧ fnOf w ≤ 0xC) := by
  unfold decAtom at h
  split at h <;> first | contradiction | (simp only [imp_false] at *; omega)

omit hg in
theorem decodeListed_none (h : decodeListed t g w err = none) : opListed (opOf w) (fnOf w) = false := by
  unfold decodeListed at h
  split at h
  case h_1 ho => simpa [opListed, ho] using decAlu_none h
  case h_2 ho => simpa [opListed, ho] using decPair_none h
  case h_3 ho => simpa [opListed, ho] using decAcc_none h
  case h_4 ho => simpa [opListed, ho] using decAtom_none h
  all_goals
    first
    | contradiction
    | have ho : opOf w < 64 := bitsAt_lt w 26 6
      simp only [imp_false] at *
      simp [opListed, *]
      omega

theorem decodeEngine_wf (hw : w < 2 ^ 32) : (decodeEngine t g w err).wf = true := by
  unfold decodeEngine
  cases h : decodeListed t g w err with
  | some i => exact decodeListed_wf hg hw h
  | none =>
    have hnop : nopWord w = true := by simpa [nopWord, opOf, fnOf] using ⟨hw, .inr (decodeListed_none h)⟩
    simp [Instr.wf, hg, hnop]

end Decoder

/-- Settles O2: completion is `exec_of_wf`, and a word is well formed by the format its OP and FN select. -/
theorem everyCommandCompletes : Obligations.EveryCommandCompletes :=
  ⟨fun _ s h => exec_of_wf s h, fun _ _ _ _ hg hw => decodeEngine_wf hg hw, fun _ _ _ => ⟨rfl, rfl⟩⟩

/-! ### Reset -/

/-- Settles O5: each value is read off the machine after reset. -/
theorem resetState : Obligations.ResetState := by
  refine ⟨by decide, by decide, by decide, ?_, ?_, ?_, by decide, by decide, rfl⟩
  all_goals decide

/-! ### Each command has its own effect -/

/-- A command with effect `f` has it where its operands name units the device has. -/
theorem does_of_ran {i : Instr} {t : Nat} {s : State} {f : State → State} {ok : Bool}
    (hexec : exec i s = s.ran ok (f (s.advance t))) (hok : ok = true) : does i t s f :=
  hexec.trans (s.ran_ok _ _ hok)

/-- Some commands name no unit at all. -/
theorem does_of_next {i : Instr} {t : Nat} {s : State} {f : State → State}
    (hexec : exec i s = .next ((f (s.advance t)).withQueue s.pending)) : does i t s f := hexec

/-- A register write of a source has its effect where the source may write the register and the write arrives. -/
theorem does_of_applies {i : Instr} {t a : Nat} {src : Src} {w : Word} {s : State} {f : State → State} {ok : Bool}
    (ha : s.applies src a = true) (hexec : exec i s = s.ran ok ((s.advance t).authWrite src a w f)) (hok : ok = true) :
    does i t s f := by
  rw [State.authWrite_applies (s.advance t) src a w f ha] at hexec
  exact does_of_ran hexec hok

/-- The same of a write whose accesses meet ECC findings (R39). -/
theorem does_withEcc_of_applies {i : Instr} {t a : Nat} {src : Src} {w : Word} {err : Ecc} {s : State} {f : State → State}
    {ok : Bool} (ha : s.applies src a = true)
    (hexec : exec i s = s.ran ok ((s.advance t).withEcc err (·.authWrite src a w f))) (hok : ok = true) :
    does i t s (·.withEcc err f) := by
  refine does_of_ran (hexec.trans ?_) hok
  rw [State.withEcc, State.authWrite_applies { s.advance t with ecc := err } src a w f ha]
  rfl

/-- Settles O60: each command is the write of a source, which applies, or an operation of its own. -/
theorem commandEffects : Obligations.CommandEffects := by
  refine ⟨?_, ?_, ?_, ?_, ?_, ?_, ?_, ?_, ?_, ?_, ?_⟩
  all_goals
    repeat' apply And.intro
    all_goals
      intros
      repeat' apply And.intro
      all_goals
        first
        | have err := ‹Ecc›
          have ha := ‹State.applies _ _ _ = true›
          refine does_withEcc_of_applies ha rfl ?_
        | have ha := ‹State.applies _ _ _ = true›
          refine does_of_applies ha rfl ?_
        | refine does_of_ran rfl ?_
        | exact does_of_next rfl
        all_goals simp_all

end Sys2Proof.Machine
end

section
/-! PROOFS. The arithmetic of the engine (chapter 3): words, compares, pairs and accumulators. Each instruction is an update of its
own engine, given by the operation's result and flags, after which it retires. -/
namespace Sys2Proof.Machine

/-! ### An instruction that changes its engine alone -/

/-- A legal instruction whose effect is the update `h` of its engine retires with it. -/
theorem exec_retires {s : State} {t g : Nat} {i : Instr} {ok : Bool} {k : InsKind} {f : State → Done} (h : Eng → Eng)
    (hexec : exec i s = s.ran ok ((s.advance t).engRun g k f)) (hok : ok = true) (hp : s.plainNext g = true)
    (hill : k.ill = none) (hf : f (s.advance t) = ((s.advance t).modEn g h).fin) (hk : (s.en g).keeps (h (s.en g))) :
    ∃ u, exec i s = .next u ∧ retires s u g (h (s.en g)) :=
  ⟨_, hexec.trans (s.ran_ok _ ok hok), s.engRun_retires t g k f h hp hill hf hk⟩

theorem Eng.keeps_setP (e : Eng) (i : Nat) (v : BitVec 64) : e.keeps (e.setP i v) :=
  ⟨rfl, rfl, rfl, rfl, rfl, rfl, rfl, rfl, rfl⟩

theorem Eng.keeps_setAcc (e : Eng) (i : Nat) (v : Int) : e.keeps (e.setAcc i v) := by
  unfold Eng.setAcc
  split <;> exact ⟨rfl, rfl, rfl, rfl, rfl, rfl, rfl, rfl, rfl⟩

/-- Flags and the accumulators' saturation bits are no part of what retirement reads (R86 to R94). -/
theorem Eng.keeps.with_flags {e e' : Eng} (h : e.keeps e') (fl acc : Nat) :
    e.keeps { e' with flags := fl, accstat := acc } := h

/-! ### The flags of a sum and a difference (R85) -/

/-- A number wrapped to `n + 1` bits is another one exactly where it is out of their signed range. -/
theorem bmod_ne_iff (n : Nat) (x : Int) : x.bmod (2 ^ (n + 1)) ≠ x ↔ x < -2 ^ n ∨ 2 ^ n ≤ x := by
  have hpos : 0 < 2 ^ (n + 1) := by positivity
  have hlow := Int.le_bmod (x := x) hpos
  have hhigh := Int.bmod_lt (x := x) hpos
  have hself := Int.bmod_eq_of_le (n := x) (m := 2 ^ (n + 1))
  have hcast : ((2 ^ (n + 1) : Nat) : Int) = 2 ^ n * 2 := by push_cast; exact pow_succ _ _
  rw [hcast] at hlow hhigh hself
  constructor
  · intro hne
    by_contra hin
    exact hne (hself (by omega) (by omega))
  · intro hout heq
    omega

theorem toInt_add_ne_iff {n : Nat} (a b : BitVec (n + 1)) :
    (a + b).toInt ≠ a.toInt + b.toInt ↔ a.toInt + b.toInt < -2 ^ n ∨ 2 ^ n ≤ a.toInt + b.toInt := by
  rw [BitVec.toInt_add]
  exact bmod_ne_iff n _

theorem toInt_sub_ne_iff {n : Nat} (a b : BitVec (n + 1)) :
    (a - b).toInt ≠ a.toInt - b.toInt ↔ a.toInt - b.toInt < -2 ^ n ∨ 2 ^ n ≤ a.toInt - b.toInt := by
  rw [BitVec.toInt_sub]
  exact bmod_ne_iff n _

theorem toInt_mul_ne_iff {n : Nat} (a b : BitVec (n + 1)) :
    (a * b).toInt ≠ a.toInt * b.toInt ↔ a.toInt * b.toInt < -2 ^ n ∨ 2 ^ n ≤ a.toInt * b.toInt := by
  rw [BitVec.toInt_mul]
  exact bmod_ne_iff n _

/-- Whether a result leaves the signed range of `n + 1` bits. -/
def outside (n : Nat) (x : Int) : Bool := decide (x < -2 ^ n ∨ 2 ^ n ≤ x)

theorem addFlags_eq {n : Nat} (a b : BitVec (n + 1)) : addFlags a b =
    flagWord (a + b).msb (a + b == 0) (decide (2 ^ (n + 1) ≤ a.toNat + b.toNat)) (outside n (a.toInt + b.toInt)) :=
  congrArg _ (decide_eq_decide.mpr (toInt_add_ne_iff a b))

theorem subFlags_eq {n : Nat} (a b : BitVec (n + 1)) : subFlags a b =
    flagWord (a - b).msb (a - b == 0) (decide (b.toNat ≤ a.toNat)) (outside n (a.toInt - b.toInt)) :=
  congrArg _ (decide_eq_decide.mpr (toInt_sub_ne_iff a b))

theorem sub_beq_zero {n : Nat} (a b : BitVec n) : (a - b == 0#n) = (a == b) := by
  rw [Bool.eq_iff_iff, beq_iff_eq, beq_iff_eq]
  exact ⟨fun h => by simpa using congrArg (· + b) h, fun h => by simp [h]⟩

theorem subFlags_eq_cmp {n : Nat} (a b : BitVec (n + 1)) : subFlags a b =
    flagWord (a - b).msb (a == b) (decide (b.toNat ≤ a.toNat)) (outside n (a.toInt - b.toInt)) := by
  rw [subFlags_eq, ← sub_beq_zero a b]
  rfl

theorem flagV_flagWord (n z c v : Bool) : flagV (flagWord n z c v) = v := by
  cases n <;> cases z <;> cases c <;> cases v <;> rfl

/-! ### The word operations that need an argument of their own (R84, R85) -/

theorem aluAddt_eq (fl : Nat) (a b : Word) (h : outside 31 (a.toInt + b.toInt) = false) : aluAddt fl a b =
    (a + b, flagWord (a + b).msb (a + b == 0) (decide (2 ^ 32 ≤ a.toNat + b.toNat)) false, none) := by
  rw [aluAddt, addFlags_eq, flagV_flagWord, h]
  rfl

theorem aluSubt_eq (fl : Nat) (a b : Word) (h : outside 31 (a.toInt - b.toInt) = false) : aluSubt fl a b =
    (a - b, flagWord (a - b).msb (a - b == 0) (decide (b.toNat ≤ a.toNat)) false, none) := by
  rw [aluSubt, subFlags_eq, flagV_flagWord, h]
  rfl

theorem aluMult_eq (fl : Nat) (a b : Word) (h : outside 31 (a.toInt * b.toInt) = false) :
    aluMult fl a b = (a * b, resFlags (a * b) (flagC fl) false, none) := by
  have hfits : decide ((a * b).toInt ≠ a.toInt * b.toInt) = false :=
    (decide_eq_decide.mpr (toInt_mul_ne_iff a b)).trans h
  rw [aluMult, hfits]
  rfl

/-- The zeros above the highest 1 of the low `m` bits. -/
theorem leadZeros_eq (a : Word) (m n : Nat) (hn : n ≤ m) (hzero : ∀ j, j < n → a.toNat.testBit (m - 1 - j) = false)
    (hone : n = m ∨ a.toNat.testBit (m - 1 - n) = true) : leadZeros a m = n := by
  induction m generalizing n with
  | zero => rw [leadZeros]; omega
  | succ m ih =>
    rw [leadZeros, BitVec.getLsbD]
    cases n with
    | zero =>
      have htop : a.toNat.testBit m = true := by simpa using hone
      rw [if_pos htop]
    | succ n =>
      have htop : a.toNat.testBit m = false := by simpa using hzero 0 (by omega)
      rw [if_neg (by simp [htop]), ih n (by omega)]
      · omega
      · intro j hj
        have := hzero (j + 1) (by omega)
        rwa [show m + 1 - 1 - (j + 1) = m - 1 - j by omega] at this
      · rw [show m + 1 - 1 - (n + 1) = m - 1 - n by omega] at hone
        exact hone.imp_left (by omega)

theorem aluAbs_eq (fl : Nat) (a b : Word) : aluAbs fl a b =
    (let r := if a.toInt < 0 then 0#32 - a else a
     (r, resFlags r (flagC fl) (a == 0x80000000#32), none)) := by
  simp [aluAbs, BitVec.msb_eq_toInt]

/-- Only the least number has no negative of its own. -/
theorem outside_neg (a : Word) : outside 31 ((0#32).toInt - a.toInt) = (a == 0x80000000#32) := by
  have hlow := BitVec.le_toInt a
  have hhigh := BitVec.toInt_lt (x := a)
  have hmin : a = 0x80000000#32 ↔ a.toInt = -2147483648 := BitVec.toInt_inj.symm
  rw [Bool.eq_iff_iff, beq_iff_eq, hmin, outside, decide_eq_true_iff, BitVec.toInt_zero]
  norm_num at hlow hhigh ⊢
  omega

theorem aluNeg_eq (fl : Nat) (a b : Word) : aluNeg fl a b =
    (0#32 - a, flagWord (0#32 - a).msb (0#32 - a == 0#32) (a == 0#32) (a == 0x80000000#32), none) := by
  have hc : decide (a.toNat ≤ (0#32).toNat) = (a == 0#32) := by
    rw [Bool.eq_iff_iff, beq_iff_eq, decide_eq_true_iff, BitVec.toNat_eq]
    simp
  rw [aluNeg, subFlags_eq, outside_neg, hc]
  rfl

/-! ### The statement on word arithmetic -/

section
variable {s : State} {g : Nat} {f : FmtR} (hg : g < 64) (hok : f.ok = true) (hp : s.plainNext g = true)
include hg hok hp

/-- A register instruction whose operation gives `r` with flags C and V and no exception writes them and retires. -/
theorem exec_regOp_retires {t : Nat} {i : Instr} {ill : Option Nat} (op : Nat → Word → Word → Alu) {r : Word} {c v : Bool}
    (hexec : exec i s = s.ran (g < 64 && f.ok) ((s.advance t).engRun g ⟨ill, false, false, false⟩ (fun s => s.regOp g f op)))
    (hill : ill = none)
    (hop : op (s.en g).flags ((s.en g).r f.ra) ((s.en g).r f.rb) = (r, flagWord r.msb (r == 0#32) c v, none)) :
    ∃ u, exec i s = .next u ∧
      retires s u g { (s.en g).setR f.rd r with
        flags := if f.s then flagWord r.msb (r == 0#32) c v else (s.en g).flags } := by
  refine exec_retires (fun e => { e.setR f.rd r with flags := if f.s then flagWord r.msb (r == 0#32) c v else e.flags })
    hexec (by simp [hg, hok]) hp hill ?_ (((s.en g).keeps_setR f.rd r).with_flags _ _)
  rw [State.regOp, State.en_advance, hop]
  rfl

end

theorem FmtR.illWords_none {f : FmtR} (h : f.res = 0) : f.illWords = none := by simp [FmtR.illWords, firstIll, h]

theorem FmtR.illUnary_none {f : FmtR} (h : f.res = 0) (hb : f.rb = 0) : f.illUnary = none := by
  simp [FmtR.illUnary, firstIll, h, hb]

/-- Settles O13: each instruction runs its own operation, whose flags are those of R85. -/
theorem wordArithmetic : Obligations.WordArithmetic := by
  intro t g f s hg hok hres hp e a b gives c0 carry noBorrow ovf k
  have words {i : Instr} (op : Nat → Word → Word → Alu) {r : Word} {c v : Bool}
      (hexec : exec i s = s.ran (g < 64 && f.ok)
        ((s.advance t).engRun g ⟨f.illWords, false, false, false⟩ (fun s => s.regOp g f op)))
      (hop : op e.flags a b = (r, flagWord r.msb (r == 0#32) c v, none)) : gives i r c v :=
    exec_regOp_retires hg hok hp op hexec (FmtR.illWords_none hres) hop
  have divides (x : Alu) (y : Alu) (hb : b ≠ 0#32) : (if b = 0#32 then x else y) = y := if_neg hb
  refine ⟨words aluAdd rfl (congrArg (_, ·, none) (addFlags_eq a b)), words aluSub rfl (congrArg (_, ·, none) (subFlags_eq a b)),
    fun h => words aluAddt rfl (aluAddt_eq _ a b h), fun h => words aluSubt rfl (aluSubt_eq _ a b h),
    words aluAnd rfl rfl, words aluOr rfl rfl, words aluXor rfl rfl, words aluAndn rfl rfl,
    words aluShl rfl rfl, words aluShr rfl rfl, words aluSar rfl rfl, words aluRor rfl rfl,
    words aluMin rfl rfl, words aluMax rfl rfl, words aluMul rfl rfl, words aluMulh rfl rfl, words aluMulhu rfl rfl,
    fun h => words aluMult rfl (aluMult_eq _ a b h),
    fun hb => ⟨words aluDiv rfl (divides _ _ hb), words aluDivu rfl (divides _ _ hb), words aluRem rfl (divides _ _ hb),
      words aluRemu rfl (divides _ _ hb)⟩,
    fun hrb => ?unary⟩
  have unary {i : Instr} (op : Nat → Word → Word → Alu) {r : Word} {c v : Bool}
      (hexec : exec i s = s.ran (g < 64 && f.ok)
        ((s.advance t).engRun g ⟨f.illUnary, false, false, false⟩ (fun s => s.regOp g f op)))
      (hop : op e.flags a b = (r, flagWord r.msb (r == 0#32) c v, none)) : gives i r c v :=
    exec_regOp_retires hg hok hp op hexec (FmtR.illUnary_none hres hrb) hop
  refine ⟨unary aluMov rfl rfl, fun n hn hzero hone => unary aluClz rfl ?_, unary aluAbs rfl (aluAbs_eq _ a b),
    unary aluNeg rfl (aluNeg_eq _ a b)⟩
  exact congrArg (fun z => plain e.flags (BitVec.ofNat 32 z)) (leadZeros_eq a 32 n hn hzero hone)

/-! ### Compares, immediates and pairs (R82, R84, R85) -/

/-- IMM18 as a signed number. -/
theorem toSigned_eighteen {v : Nat} (h : v < 2 ^ 18) :
    toSigned 18 v = if v < 2 ^ 17 then (v : Int) else v - 2 ^ 18 := by
  rw [toSigned_of_lt h]

theorem toInt_sext18 {v : Nat} (h : v < 2 ^ 18) : (sext18 v).toInt = toSigned 18 v := by
  rw [sext18, BitVec.toInt_ofInt, toSigned_eighteen h]
  apply Int.bmod_eq_of_le <;> split <;> omega

/-- `movh` puts its immediate above the low half of RD. -/
theorem ofNat_movh {v : Nat} (h : v < 2 ^ 16) (x : Word) :
    BitVec.ofNat 32 (v * 2 ^ 16 + x.toNat % 2 ^ 16) = BitVec.ofNat 16 v ++ x.extractLsb' 0 16 := by
  have hlow : x.toNat % 2 ^ 16 < 2 ^ 16 := Nat.mod_lt _ (by norm_num)
  apply BitVec.eq_of_toNat_eq
  rw [BitVec.toNat_append, BitVec.extractLsb'_toNat, BitVec.toNat_ofNat, BitVec.toNat_ofNat, Nat.shiftRight_zero,
    Nat.mod_eq_of_lt h, ← Nat.shiftLeft_add_eq_or_of_lt hlow, Nat.shiftLeft_eq]
  exact Nat.mod_eq_of_lt (by omega)

theorem isOdd_of_even {n : Nat} (h : n % 2 = 0) : isOdd n = false := by simp [isOdd, h]

section
variable {s : State} {t g : Nat} {i : Instr} {ok : Bool} {ill : Option Nat} (hok : ok = true) (hp : s.plainNext g = true)
  (hill : ill = none)
include hok hp hill

theorem exec_flags_retires {f : State → Done} (h : Eng → Eng) {fl : Nat}
    (hexec : exec i s = s.ran ok ((s.advance t).engRun g ⟨ill, false, false, false⟩ f))
    (hf : f (s.advance t) = ((s.advance t).modEn g h).fin) (hfl : h (s.en g) = { s.en g with flags := fl }) :
    ∃ u, exec i s = .next u ∧ retires s u g { s.en g with flags := fl } := by
  rw [← hfl]
  refine exec_retires h hexec hok hp hill hf ?_
  rw [hfl]
  exact ⟨rfl, rfl, rfl, rfl, rfl, rfl, rfl, rfl, rfl⟩

theorem exec_immOp_retires {rd : Nat} {v : State → Word} {r : Word}
    (hexec : exec i s = s.ran ok ((s.advance t).engRun g ⟨ill, false, false, false⟩ (fun s => s.immOp g rd (v s))))
    (hv : v (s.advance t) = r) : ∃ u, exec i s = .next u ∧ retires s u g ((s.en g).setR rd r) :=
  exec_retires (·.setR rd r) hexec hok hp hill (congrArg (State.immOp _ g rd) hv) (Eng.keeps_setR _ _ _)

theorem exec_pairOp_retires {rd : Nat} {sf : Bool} {v : State → BitVec 64} {fl : State → Nat} {r : BitVec 64} {k : Nat}
    (hexec : exec i s = s.ran ok ((s.advance t).engRun g ⟨ill, false, false, false⟩ (fun s => s.pairOp g rd sf (v s) (fl s))))
    (hv : v (s.advance t) = r) (hfl : fl (s.advance t) = k) : ∃ u, exec i s = .next u ∧
      retires s u g { (s.en g).setP rd r with flags := if sf then k else (s.en g).flags } := by
  subst hv hfl
  exact exec_retires (fun e => { e.setP rd (v (s.advance t)) with flags := if sf then fl (s.advance t) else e.flags })
    hexec hok hp hill rfl ((Eng.keeps_setP _ _ _).with_flags _ _)

end

/-- Settles O14: compares write FLAGS alone, immediates RD alone, pair instructions the pair and, with S = 1, FLAGS. -/
theorem comparesAndPairs : Obligations.ComparesAndPairs := by
  refine ⟨?compares, ?immediates, ?pairs⟩
  case compares =>
    intro t g f i s hg hf hres hrd hi hird hp e a b gives ovf m
    have hfok : (decide (g < 64) && f.ok) = true := by simp [hg, hf]
    have himm : i.imm < 2 ^ 18 := by simp only [FmtI.ok, Bool.and_eq_true, decide_eq_true_iff] at hi; exact hi.2
    have hm : toSigned 18 i.imm = m := toSigned_eighteen himm
    have hcmp : f.illCmp = none := by simp [FmtR.illCmp, firstIll, hres, hrd]
    have flags (k : Nat) (x : Nat) (h : k = x) : ({ e with flags := k } : Eng) = { e with flags := x } := by rw [h]
    refine ⟨?cmp, ?tst, ?cmpi, ?cmpp⟩
    case cmp =>
      exact exec_flags_retires hfok hp hcmp (fun e => { e with flags := subFlags a b }) rfl rfl
        (flags _ _ (subFlags_eq_cmp a b))
    case tst =>
      exact exec_flags_retires hfok hp hcmp (fun x => { x with flags := (aluAnd e.flags a b).2.1 }) rfl rfl rfl
    case cmpi =>
      refine exec_flags_retires (by simp [hg, hi]) hp (by simp [FmtI.illCmpi, firstIll, hird])
        (fun e => { e with flags := subFlags (e.r i.ra) (sext18 i.imm) }) rfl rfl (flags _ _ ?_)
      rw [subFlags_eq_cmp, toInt_sext18 himm, sext18, hm]
      rfl
    case cmpp =>
      intro hra hrb
      exact exec_flags_retires hfok hp (by simp [FmtR.illCmpp, firstIll, hres, hrd, isOdd_of_even hra, isOdd_of_even hrb])
        (fun e => { e with flags := subFlags (e.rp f.ra) (e.rp f.rb) }) rfl rfl
        (flags (subFlags (e.rp f.ra) (e.rp f.rb)) _ (subFlags_eq_cmp (n := 63) _ _))
  case immediates =>
    intro t g f w s hg hf hw hres hp e a gives
    have himm : f.imm < 2 ^ 18 := by simp only [FmtI.ok, Bool.and_eq_true, decide_eq_true_iff] at hf; exact hf.2
    have hwimm : w.imm < 2 ^ 16 := by simp only [FmtU.ok, Bool.and_eq_true, decide_eq_true_iff] at hw; exact hw.2
    have hfok : (decide (g < 64) && f.ok) = true := by simp [hg, hf]
    have hwok : (decide (g < 64) && w.ok) = true := by simp [hg, hw]
    have hill : w.ill = none := by simp [FmtU.ill, firstIll, hres]
    refine ⟨exec_immOp_retires hfok hp rfl rfl ?_, exec_immOp_retires hfok hp rfl rfl rfl,
      exec_immOp_retires hfok hp rfl rfl rfl, exec_immOp_retires hfok hp rfl rfl rfl, fun hshift => ?shifts,
      exec_immOp_retires hwok hp hill rfl rfl, exec_immOp_retires hwok hp hill rfl (ofNat_movh hwimm _)⟩
    · exact congrArg (fun z => a + BitVec.ofInt 32 z) (toSigned_eighteen himm)
    case shifts =>
      have hsh : f.illShift = none := by simp [FmtI.illShift, firstIll]; omega
      exact ⟨exec_immOp_retires hfok hp hsh rfl rfl, exec_immOp_retires hfok hp hsh rfl rfl,
        exec_immOp_retires hfok hp hsh rfl rfl⟩
  case pairs =>
    intro t g f s hg hf hres hrd hra hp e a b c ovf gives fl
    have hfok : (decide (g < 64) && f.ok) = true := by simp [hg, hf]
    have hrd' := isOdd_of_even hrd
    have hra' := isOdd_of_even hra
    refine ⟨fun hrb => ?both, fun hrb => ?movp, ?addpw⟩
    case both =>
      have hill : f.illPairs = none := by simp [FmtR.illPairs, firstIll, hres, hrd', hra', isOdd_of_even hrb]
      exact ⟨exec_pairOp_retires hfok hp hill rfl rfl (addFlags_eq a b),
        exec_pairOp_retires hfok hp hill rfl rfl (subFlags_eq a b)⟩
    case movp =>
      have hill : f.illMovp = none := by simp [FmtR.illMovp, firstIll, hres, hrb, hrd', hra']
      have h := exec_pairOp_retires (i := .movp t g f) (r := a) (k := 0) hfok hp hill rfl rfl rfl
      simpa only [Bool.false_eq_true, if_false] using h
    case addpw =>
      exact exec_pairOp_retires hfok hp (by simp [FmtR.illAddpw, firstIll, hres, hrd', hra']) rfl rfl (addFlags_eq a c)

/-! ### Accumulators (R90) -/

theorem satSigned_of_fits {w : Nat} {x : Int} (hlow : -2 ^ (w - 1) ≤ x) (hhigh : x < 2 ^ (w - 1)) : satSigned w x = x := by
  simp only [satSigned]
  push_cast
  rw [if_neg (by omega), if_neg (by omega)]

theorem satSigned_above {w : Nat} {x : Int} (h : 2 ^ (w - 1) ≤ x) : satSigned w x = 2 ^ (w - 1) - 1 := by
  simp only [satSigned]
  push_cast
  rw [if_pos (by omega)]

theorem satSigned_below {w : Nat} {x : Int} (h : x < -2 ^ (w - 1)) : satSigned w x = -2 ^ (w - 1) := by
  have hpos : (0 : Int) < 2 ^ (w - 1) := by positivity
  simp only [satSigned]
  push_cast
  rw [if_neg (by omega), if_pos h]

/-- A product under RND = 0 is shifted right towards −∞ (R90). -/
theorem Eng.product_trunc (e : Eng) (a b : Nat) (h : e.mode / 4 % 4 = 0) :
    e.product a b = (e.r a).toInt * (e.r b).toInt / 65536 := by
  have hrnd : bitsAt e.mode 2 2 = 0 := h
  rw [Eng.product, hrnd]
  rfl

theorem Eng.setAcc_accstat (e : Eng) (i : Nat) (v : Int) :
    ({ e.setAcc i v with accstat := e.accstat } : Eng) = e.setAcc i v := by
  unfold Eng.setAcc
  split <;> rfl

theorem Eng.setAcc_flags (e : Eng) (i : Nat) (v : Int) : (e.setAcc i v).flags = e.flags := by
  unfold Eng.setAcc
  split <;> rfl

/-- A value within 48 bits goes to the accumulator as it is. -/
theorem State.accOp_fits (s : State) (g acc : Nat) (v : Int) (hlow : -2 ^ 47 ≤ v) (hhigh : v < 2 ^ 47) :
    s.accOp g acc v = (s.modEn g (·.setAcc acc v)).fin := by
  have hsat : satSigned 48 v = v := satSigned_of_fits hlow hhigh
  simp only [State.accOp, hsat, ne_eq, not_true_eq_false, decide_false, Bool.false_and, Bool.false_eq_true, if_false,
    Eng.setAcc_accstat]
  rfl

/-- A value outside 48 bits is held at the bound and, without ASTRAP, only ACCSTAT tells of it. -/
theorem State.accOp_saturates (s : State) (g acc : Nat) (v r : Int) (hsat : satSigned 48 v = r) (hne : r ≠ v)
    (hmode : (s.en g).mode = 0) :
    s.accOp g acc v = (s.modEn g (fun e => { e.setAcc acc r with accstat := putBit e.accstat acc true })).fin := by
  have htrap : bitAt (s.en g).mode 1 = false := by rw [hmode]; rfl
  simp only [State.accOp, hsat, hne, ne_eq, not_false_eq_true, decide_true, htrap, Bool.and_false, if_true]
  rfl

theorem State.mrdOp_fits (s : State) (g rd acc : Nat) (hlow : -2 ^ 31 ≤ (s.en g).acc acc) (hhigh : (s.en g).acc acc < 2 ^ 31) :
    s.mrdOp g rd acc = (s.modEn g (·.setR rd (BitVec.ofInt 32 ((s.en g).acc acc)))).fin := by
  have hsat : satSigned 32 ((s.en g).acc acc) = (s.en g).acc acc := satSigned_of_fits hlow hhigh
  simp only [State.mrdOp, hsat, ne_eq, not_true_eq_false, decide_false, Bool.false_and, Bool.false_eq_true, if_false]
  rfl

theorem toSigned_48_toNat (x : BitVec 64) : toSigned 48 x.toNat = (x.extractLsb' 0 48).toInt := by
  have hnat : (x.extractLsb' 0 48).toNat = x.toNat % 2 ^ 48 := by simp [BitVec.extractLsb'_toNat]
  rw [BitVec.toInt_eq_toNat_cond, hnat, toSigned]
  split_ifs <;> omega

/-- Settles O15: an accumulator takes its value where that is within 48 bits and the bound where it is not. -/
theorem accumulators : Obligations.Accumulators := by
  refine ⟨?fitting, ?saturating⟩
  case fitting =>
    intro t g f s hg hf hres hp hmode e p fits gives
    have hfok : (decide (g < 64) && f.ok) = true := by simp [hg, hf]
    have hprod : e.product f.ra f.rb = p := e.product_trunc _ _ hmode
    refine ⟨fun hrd => ?writes, fun hra hrb => ?reads⟩
    case writes =>
      have hrd' : ¬ 1 < f.rd := by omega
      have hmac : f.illMac = none := by simp [FmtR.illMac, firstIll, hres, hrd']
      refine ⟨fun h => ?mac, fun h => ?msu, ?mpy, fun hra hrb => ?mclr, fun hra hrb => ?mld⟩
      case mac =>
        rw [← hprod] at h ⊢
        exact exec_retires (·.setAcc f.rd (e.acc f.rd + e.product f.ra f.rb)) rfl hfok hp hmac
          (State.accOp_fits _ _ _ _ h.1 h.2) (e.keeps_setAcc _ _)
      case msu =>
        rw [← hprod] at h ⊢
        exact exec_retires (·.setAcc f.rd (e.acc f.rd - e.product f.ra f.rb)) rfl hfok hp hmac
          (State.accOp_fits _ _ _ _ h.1 h.2) (e.keeps_setAcc _ _)
      case mpy =>
        rw [← hprod]
        exact exec_retires (fun e => e.setAcc f.rd (e.product f.ra f.rb)) rfl hfok hp hmac rfl (e.keeps_setAcc _ _)
      case mclr =>
        exact exec_retires (·.setAcc f.rd 0) rfl hfok hp (by simp [FmtR.illMclr, firstIll, hres, hrd', hra, hrb]) rfl
          (e.keeps_setAcc _ _)
      case mld =>
        rw [← toSigned_48_toNat]
        exact exec_retires (fun e => e.setAcc f.rd (toSigned 48 (e.rp f.ra).toNat)) rfl hfok hp
          (by simp [FmtR.illMld, firstIll, hres, hrd', hrb, isOdd_of_even hra]) rfl (e.keeps_setAcc _ _)
    case reads =>
      have hra' : ¬ 1 < f.ra := by omega
      refine ⟨fun hlow hhigh => ?mrd, fun hrd => ?mst⟩
      case mrd =>
        exact exec_retires (·.setR f.rd (BitVec.ofInt 32 (e.acc f.ra))) rfl hfok hp
          (by simp [FmtR.illMrd, firstIll, hres, hra', hrb]) (State.mrdOp_fits _ _ _ _ hlow hhigh) (e.keeps_setR _ _)
      case mst =>
        exact exec_retires (fun e => e.setP f.rd (BitVec.ofInt 64 (e.acc f.ra))) rfl hfok hp
          (by simp [FmtR.illMst, firstIll, hres, hra', hrb, isOdd_of_even hrd]) rfl (e.keeps_setP _ _)
  case saturating =>
    intro t g f s hg hf hres hrd hp hmode e p
    have hfok : (decide (g < 64) && f.ok) = true := by simp [hg, hf]
    have hill : f.illMac = none := by simp [FmtR.illMac, firstIll, hres, show ¬ 1 < f.rd by omega]
    have hprod : e.product f.ra f.rb = p := e.product_trunc _ _ (by rw [hmode])
    have saturates {i : Instr} {v : State → Int} {r : Int}
        (hexec : exec i s = s.ran (g < 64 && f.ok)
          ((s.advance t).engRun g ⟨f.illMac, false, false, false⟩ (fun s => s.accOp g f.rd (v s))))
        (hsat : satSigned 48 (v (s.advance t)) = r) (hne : r ≠ v (s.advance t)) :
        ∃ u, exec i s = .next u ∧ retires s u g { e.setAcc f.rd r with accstat := putBit e.accstat f.rd true } := by
      refine exec_retires (fun e => { e.setAcc f.rd r with accstat := putBit e.accstat f.rd true }) hexec hfok hp hill
        (State.accOp_saturates _ _ _ _ _ hsat hne hmode) ?_
      have hflags : (e.setAcc f.rd r).flags = e.flags := e.setAcc_flags _ _
      exact (e.keeps_setAcc f.rd r).with_flags (e.setAcc f.rd r).flags _
    refine ⟨fun h => ?mac, fun h => ?msu⟩
    case mac =>
      rw [← hprod] at h
      exact saturates rfl (satSigned_above h) (by change (2 : Int) ^ 47 - 1 ≠ e.acc f.rd + e.product f.ra f.rb; omega)
    case msu =>
      rw [← hprod] at h
      exact saturates rfl (satSigned_below h) (by change -(2 : Int) ^ 47 ≠ e.acc f.rd - e.product f.ra f.rb; omega)

end Sys2Proof.Machine
end

section
/-! PROOFS. The engine's special registers, its hardware loops and its traps (chapters 3 and 4): an instruction that executes ends its
state's engine as `Eng.ends` says, whatever else it changed. -/
namespace Sys2Proof.Machine
open Reg

/-! ### An instruction that executes and retires, whatever it changed (R69, R86, R88, R94, R103) -/

/-- The engine after an instruction that ends at it, with what waits counted on. -/
def Eng.ends (e : Eng) (npc : Option Nat) (nb : Option Branch) : Eng :=
  ({ e.modeStep.impStep.goOn npc nb with icount := e.icount + 1, bpPass := false } : Eng).haltCheck

theorem State.retire_ends {u : State} {g : Nat} (hd : u.dlUsable g (u.curSlot g) = false) (npc : Option Nat) (nb : Option Branch) :
    u.retire g npc nb = u.modEn g (·.ends npc nb) := by
  have hsame : u.deadline g (u.en g).pc = u := by
    rw [State.deadline]
    exact if_pos (.inr (.inl (by simp [hd])))
  rw [State.retire, hsame]
  rfl

/-- The state that executing an instruction comes to. -/
def Done.state (g : Nat) : Done → State
  | .fault s cause sub addr => s.modEn g (·.setFault cause sub addr)
  | .wait s h => s.modEn g (fun e => { e with hold := some h })
  | .ballast s c => s.modEn g (fun e => { e with bal := e.bal ++ [⟨c, e.pc, e.ecause, e.eaddr⟩] })
  | .last s => s
  | .ok s none npc nb => s.retire g npc nb
  | .ok s (some (c, sub)) npc nb => (s.arith g c sub).retire g npc nb

theorem State.engRun_eq {s : State} {g : Nat} {k : InsKind} {f : State → Done} (hready : s.engReady g = true)
    (hfetch : s.fetchBad g = none) (hcheck : (s.en g).checking = false) :
    s.engRun g k f = match (s.en g).illegal k with
      | some sub => s.modEn g (·.setFault 2 sub 0)
      | none => (f s).state g := by
  rw [State.engRun, if_neg (by simp [hready]), hfetch]
  dsimp only
  rw [if_neg (by simp [hcheck])]
  cases (s.en g).illegal k with
  | some sub => rfl
  | none =>
    cases f s with
    | ok u exc npc nb => rcases exc with _ | ⟨c, sub⟩ <;> rfl
    | _ => rfl

section
variable {s u : State} {t g : Nat} {i : Instr} {ok : Bool} {k : InsKind} {f : State → Done}
  (hexec : exec i s = s.ran ok ((s.advance t).engRun g k f)) (hok : ok = true) (hready : s.engReady g = true)
  (hfetch : s.fetchBad g = none) (hcheck : (s.en g).checking = false)
include hexec hok hready hfetch hcheck

/-- An engine that comes to an instruction with no check outstanding either meets its breach or executes it (R97, R103). -/
theorem exec_engine : exec i s = .next ((match (s.en g).illegal k with
    | some sub => (s.advance t).modEn g (·.setFault 2 sub 0)
    | none => (f (s.advance t)).state g).withQueue s.pending) := by
  rw [hexec, s.ran_ok _ ok hok, State.engRun_eq (s := s.advance t) hready hfetch hcheck]
  rfl

theorem exec_illegal {sub : Nat} (hill : (s.en g).illegal k = some sub) :
    exec i s = .next (((s.advance t).modEn g (·.setFault 2 sub 0)).withQueue s.pending) := by
  rw [exec_engine hexec hok hready hfetch hcheck, hill]

section
variable (hill : (s.en g).illegal k = none)
include hill

theorem exec_faults {cause sub addr : Nat} (hf : f (s.advance t) = .fault u cause sub addr) :
    exec i s = .next ((u.modEn g (·.setFault cause sub addr)).withQueue s.pending) := by
  rw [exec_engine hexec hok hready hfetch hcheck, hill, hf]
  rfl

theorem exec_waits {h : Hold} (hf : f (s.advance t) = .wait u h) :
    exec i s = .next ((u.modEn g (fun e => { e with hold := some h })).withQueue s.pending) := by
  rw [exec_engine hexec hok hready hfetch hcheck, hill, hf]
  rfl

theorem exec_last (hf : f (s.advance t) = .last u) : exec i s = .next (u.withQueue s.pending) := by
  rw [exec_engine hexec hok hready hfetch hcheck, hill, hf]
  rfl

theorem exec_ends {npc : Option Nat} {nb : Option Branch} (hf : f (s.advance t) = .ok u none npc nb)
    (hd : u.dlUsable g (u.curSlot g) = false) :
    exec i s = .next ((u.modEn g (·.ends npc nb)).withQueue s.pending) := by
  rw [exec_engine hexec hok hready hfetch hcheck, hill, hf]
  exact congrArg (fun x : State => (.next (x.withQueue s.pending) : Out)) (State.retire_ends hd npc nb)

theorem exec_raises {cause sub : Nat} {npc : Option Nat} {nb : Option Branch}
    (hf : f (s.advance t) = .ok u (some (cause, sub)) npc nb)
    (hd : (u.arith g cause sub).dlUsable g ((u.arith g cause sub).curSlot g) = false) :
    exec i s = .next (((u.arith g cause sub).modEn g (·.ends npc nb)).withQueue s.pending) := by
  rw [exec_engine hexec hok hready hfetch hcheck, hill, hf]
  exact congrArg (fun x : State => (.next (x.withQueue s.pending) : Out)) (State.retire_ends hd npc nb)

end

/-- Where the effect is on its engine alone the other parts of the state stay. -/
theorem exec_ends_eng (h : Eng → Eng) {npc : Option Nat} {nb : Option Branch} {e' : Eng}
    (hill : (s.en g).illegal k = none) (hf : f (s.advance t) = .ok ((s.advance t).modEn g h) none npc nb)
    (hd : s.dlUsable g (s.curSlot g) = false) (he : (h (s.en g)).ends npc nb = e') :
    ∃ u, exec i s = .next u ∧ u = { s with now := u.now, eng := u.eng } ∧ (∀ j, j ≠ g → u.en j = s.en j) ∧ u.en g = e' :=
  ⟨_, exec_ends hexec hok hready hfetch hcheck hill hf hd, rfl, fun j hj => by
    rw [State.en_withQueue, State.modEn_en_ne _ _ _ _ hj, State.modEn_en_ne _ _ _ _ hj, State.en_advance],
    by rw [State.en_withQueue, State.modEn_en, State.modEn_en, State.en_advance, he]⟩

end

theorem exec_ends_self {s : State} {t g : Nat} {i : Instr} {ok : Bool} {k : InsKind} {f : State → Done} {npc : Option Nat}
    {nb : Option Branch} {e' : Eng} (hexec : exec i s = s.ran ok ((s.advance t).engRun g k f)) (hok : ok = true)
    (hready : s.engReady g = true) (hfetch : s.fetchBad g = none) (hcheck : (s.en g).checking = false)
    (hill : (s.en g).illegal k = none) (hf : f (s.advance t) = .ok (s.advance t) none npc nb)
    (hd : s.dlUsable g (s.curSlot g) = false) (he : (s.en g).ends npc nb = e') :
    ∃ u, exec i s = .next u ∧ u = { s with now := u.now, eng := u.eng } ∧ (∀ j, j ≠ g → u.en j = s.en j) ∧ u.en g = e' :=
  ⟨_, exec_ends hexec hok hready hfetch hcheck hill hf hd, rfl, fun j hj => by
    rw [State.en_withQueue, State.modEn_en_ne _ _ _ _ hj, State.en_advance],
    by rw [State.en_withQueue, State.modEn_en, State.en_advance, he]⟩

theorem Eng.checking_of_nil {e : Eng} (h : e.imp = []) : e.checking = false := by simp [Eng.checking, h]

/-! ### How an engine ends an instruction -/

/-- With no branch, check or halt on its way an engine goes on as its loops say, its pending MODE writes counted. -/
theorem Eng.ends_loopBack {e : Eng} (hbr : e.br = none) (himp : e.imp = []) (hstep : e.stepping = false)
    (hhalt : e.haltReq = false) :
    e.ends none none = { e.modeStep.loopBack e.pc with icount := e.icount + 1, bpPass := false } := by
  obtain ⟨hstep', hhalt'⟩ := e.modeStep.loopBack_keeps_halts e.pc
  have hbr' : e.modeStep.br = none := hbr
  rw [Eng.ends, Eng.impStep_of_nil e.modeStep himp, Eng.goOn, hbr']
  exact Eng.haltCheck_plain _ (hstep'.trans hstep) (hhalt'.trans hhalt)

/-- Away from the end of a loop it goes on to the next word. -/
theorem Eng.loopBack_next {e : Eng} (h : e.atLe = false) : e.loopBack e.pc = { e with pc := e.pc + 4 } := by
  simp only [Eng.atLe, Bool.or_eq_false_iff] at h
  obtain ⟨h0, h1⟩ := h
  simp only [Eng.loopBack, LoopL.look, h0, h1, Bool.false_eq_true, if_false, ite_self]

theorem Eng.ends_next_mode {e : Eng} (hbr : e.br = none) (hle : e.atLe = false) (himp : e.imp = [])
    (hstep : e.stepping = false) (hhalt : e.haltReq = false) :
    e.ends none none = { e.modeStep with pc := e.pc + 4, icount := e.icount + 1, bpPass := false } := by
  rw [Eng.ends_loopBack hbr himp hstep hhalt, show e.pc = e.modeStep.pc from rfl, Eng.loopBack_next (e := e.modeStep) hle]

theorem Eng.ends_next {e : Eng} (hbr : e.br = none) (hle : e.atLe = false) (himp : e.imp = []) (hmode : e.modeP = [])
    (hstep : e.stepping = false) (hhalt : e.haltReq = false) :
    e.ends none none = { e with pc := e.pc + 4, icount := e.icount + 1, bpPass := false } := by
  rw [Eng.ends_next_mode hbr hle himp hstep hhalt, Eng.modeStep_of_nil e hmode]

/-! ### Loops (R88) -/

theorem LoopL.at_inactive {l : LoopL} (h : l.act = false) (pc : Nat) : l.at pc = false := by simp [LoopL.at, h]

/-- The engine at LE of level 0 alone, with more than one turn left, goes back to LS. -/
theorem Eng.loopBack_again {e : Eng} (h1 : e.l1.act = false) (hact : e.l0.act = true) (hle : e.l0.le = e.pc) (hlc : 1 < e.l0.lc) :
    e.loopBack e.pc = { e with l0 := { e.l0 with lc := e.l0.lc - 1 }, pc := e.l0.ls } := by
  have hat : e.l0.at e.pc = true := by simp [LoopL.at, hact, hle]
  have hl0 : e.l0.down = { e.l0 with lc := e.l0.lc - 1 } := by simp [LoopL.down, hlc, hact]
  simp [Eng.loopBack, LoopL.look, hat, LoopL.at_inactive h1, hlc, hl0]

/-- In its last turn it closes the level and goes on. -/
theorem Eng.loopBack_close {e : Eng} (h1 : e.l1.act = false) (hact : e.l0.act = true) (hle : e.l0.le = e.pc) (hlc : e.l0.lc = 1) :
    e.loopBack e.pc = { e with l0 := { e.l0 with lc := 0, act := false }, pc := e.pc + 4 } := by
  have hat : e.l0.at e.pc = true := by simp [LoopL.at, hact, hle]
  have hl0 : e.l0.down = { e.l0 with lc := 0, act := false } := by simp [LoopL.down, hlc]
  simp [Eng.loopBack, LoopL.look, hat, LoopL.at_inactive h1, hlc, hl0]

theorem nopWord_nop : nopWord 0xFC000000 = true := by decide

theorem nopIll_nop : nopIll 0xFC000000 = none := by decide

theorem State.loopOp_opens (s : State) (g : Nat) {n len : Nat} (hact : (s.en g).l0.act = false) (hn : 0 < n) :
    s.loopOp g ⟨false, 0, n, len⟩ = (s.modEn g (fun e => { e with
      l0 := ⟨true, n, (s.en g).pc + 4, (s.en g).pc + 4 * len⟩ })).fin := by
  rw [State.loopOp]
  dsimp only
  rw [if_neg (by rw [hact]; simp), if_neg (by simp; omega)]
  exact congrArg State.fin (State.modEn_congr _ _ _ _ (by rw [if_neg (by simp [hact])]; rfl))

theorem State.loopOp_skips (s : State) (g : Nat) {len : Nat} (hact : (s.en g).l0.act = false) :
    s.loopOp g ⟨false, 0, 0, len⟩ = .ok s none (some ((s.en g).pc + 4 * len + 4)) none := by
  rw [State.loopOp]
  dsimp only
  rw [if_neg (by rw [hact]; simp)]
  rfl

/-- A level that opens after the instruction at the PC does not end there. -/
theorem Eng.atLe_opened {e : Eng} {n len : Nat} (hle : e.atLe = false) (hlen : 0 < len) :
    ({ e with l0 := ⟨true, n, e.pc + 4, e.pc + 4 * len⟩ } : Eng).atLe = false := by
  simp only [Eng.atLe, Bool.or_eq_false_iff] at hle ⊢
  refine ⟨?_, hle.2⟩
  simp [LoopL.at]
  omega

/-- Settles O21: `loop` opens level 0 or skips, and `Eng.loopBack` counts it down at LE. -/
theorem loops : Obligations.Loops := by
  intro t g n len s hg hn hlen hlen' e
  refine ⟨fun hp hact => ?opens, fun ready fetched hbr h1 hact hle himp hmode hstep hhalt hd => ?turns⟩
  case opens =>
    obtain ⟨hx, hbr, hle⟩ := (s.plainNext_iff g).mp hp
    have hok : (decide (g < 64) && (⟨false, 0, n, len⟩ : FmtL).ok) = true := by simp [hg, FmtL.ok, hn, hlen']
    have hill : (⟨false, 0, n, len⟩ : FmtL).ill = none := by simp [FmtL.ill, firstIll]; omega
    have hlegal := ((s.en g).illegal_plain ⟨(⟨false, 0, n, len⟩ : FmtL).ill, true, false, false⟩ hbr hle).trans hill
    refine ⟨fun hpos => ?enters, fun hzero => ?skips⟩
    case enters =>
      exact exec_ends_eng rfl hok hx.ready hx.fetched (Eng.checking_of_nil hx.noImp)
        (fun x => { x with l0 := ⟨true, n, e.pc + 4, e.pc + 4 * len⟩ }) hlegal ((s.advance t).loopOp_opens g hact hpos)
        hx.noDeadline (Eng.ends_next hbr (Eng.atLe_opened hle hlen) hx.noImp hx.noMode hx.noStep hx.noHalt)
    case skips =>
      subst hzero
      obtain ⟨u, hu, hframe, -, hen⟩ := exec_goesOn (i := .loopI t g ⟨false, 0, 0, len⟩) rfl hok hx hlegal
        ((s.advance t).loopOp_skips g hact)
      refine ⟨u, hu, hframe, ?_⟩
      rw [hen, Eng.retired, Eng.goOn, hbr]
      exact ⟨rfl, rfl, rfl, rfl⟩
  case turns =>
    have hlegal : (s.en g).illegal ⟨nopIll 0xFC000000, false, false, false⟩ = none := by
      have hbr' : (s.en g).br = none := hbr
      simp [Eng.illegal, nopIll_nop, hbr']
    have turn (e' : Eng) (he : e.loopBack e.pc = e') : ∃ u, exec (.nopI t g 0xFC000000) s = .next u ∧
        u = { s with now := u.now, eng := u.eng } ∧ (∀ j, j ≠ g → u.en j = s.en j) ∧
        u.en g = { e' with icount := e.icount + 1, bpPass := false } := by
      obtain ⟨u, hu, hframe, hothers, hen⟩ := exec_goesOn (i := .nopI t g 0xFC000000) rfl (by simp [hg, nopWord_nop])
        ⟨ready, fetched, himp, hmode, hstep, hhalt, hd⟩ hlegal rfl
      refine ⟨u, hu, hframe, hothers, ?_⟩
      have hgo : (s.en g).goOn none none = e' := by
        rw [Eng.goOn, show (s.en g).br = none from hbr]
        exact he
      rw [hen, Eng.retired, hgo]
    exact ⟨fun hlc => turn _ (Eng.loopBack_again h1 hact hle hlc), fun hlc => turn _ (Eng.loopBack_close h1 hact hle hlc)⟩

/-! ### Special registers, time and MODE (R69, R75, R79, R80) -/

theorem State.wr_on (s : State) (F : RField) (v n i : Nat) (h : F.lo + F.len ≤ 32) :
    (s.wr F v n i).on F n i = (v % 2 ^ F.len != 0) := congrArg (· != 0) (s.wr_rd F v n i h)

@[simp] theorem State.on_modEn (s : State) (g : Nat) (h : Eng → Eng) (F : RField) (n i : Nat) :
    (s.modEn g h).on F n i = s.on F n i := (rfl)

@[simp] theorem State.on_withQueue (s : State) (q : List Instr) (F : RField) (n i : Nat) :
    (s.withQueue q).on F n i = s.on F n i := (rfl)

/-- A MODE write that waits is one instruction nearer, or in force with its last one (R69). -/
theorem Eng.modeStep_waits (e : Eng) {v n : Nat} (h : e.modeP = [⟨v, n + 2⟩]) : e.modeStep = { e with modeP := [⟨v, n + 1⟩] } := by
  simp [Eng.modeStep, h]

theorem Eng.modeStep_takes (e : Eng) {v : Nat} (h : e.modeP = [⟨v, 1⟩]) : e.modeStep = { e with modeP := [], mode := v } := by
  simp [Eng.modeStep, h]

/-- The window of the event inputs among the special registers (R81). -/
theorem State.sreg_window (s : State) (g i w : Nat) (hi : i < 16) (hw : w < 16) :
    s.sreg g (0x100 + 16 * i + w) = ((s.ts g (s.curSlot g)).snap.get (fun _ => []) i).getD w 0 := by
  unfold State.sreg
  split <;> try omega
  rw [if_pos (by omega), State.evin, show (256 + 16 * i + w - 256) / 16 = i by omega,
    show (256 + 16 * i + w) % 16 = w by omega]

theorem sregReads_window (i w : Nat) (hi : i < 16) (hw : w < 16) : sregReads (0x100 + 16 * i + w) = true := by
  simp [sregReads]
  omega

theorem FmtS.ok_of_lt {rd n : Nat} (hrd : rd < 16) (hn : n < 1024) : (⟨rd, n, 0⟩ : FmtS).ok = true := by
  simp [FmtS.ok, hrd, hn]

/-- With GO alone in the word a start without RESTART is set for `GSTARTMASK` (R59). -/
theorem State.gstartWrite_plain (s : State) (src : Src) {w : Word} (hw : w.toNat % 8 = 1) (hpend : s.on GSTARTSTAT.PEND = false) :
    s.gstartWrite src w =
      { s with release := some ⟨s.gmask, false, src, ceilNs (s.fine 0 + ns 100) / 64, false⟩ }.wr GSTARTSTAT.PEND 1 := by
  have hgo : GSTART.GO.of w = 1 := by change w.toNat / 2 ^ 0 % 2 ^ 1 = 1; omega
  have htimed : GSTART.TIMED.of w = 0 := by change w.toNat / 2 ^ 1 % 2 ^ 1 = 0; omega
  have hrestart : GSTART.RESTART.of w = 0 := by change w.toNat / 2 ^ 2 % 2 ^ 1 = 0; omega
  simp [State.gstartWrite, hgo, htimed, hrestart, hpend]

/-- A write of a register below the task tables leaves the deadline records as they are (R149, R155). -/
theorem State.dlUsable_wr (s : State) (F : RField) (v n i g k : Nat) (h : F.adr n i < 0x1000000) :
    (s.wr F v n i).dlUsable g k = s.dlUsable g k := by
  have hdl (j : Nat) : (s.wr F v n i).dlrec g k j = s.dlrec g k j :=
    State.wr_rd_ne _ _ _ _ _ _ _ _ (by simp only [RField.adr, blkBase, DLREC.WORD] at h ⊢; omega)
  have hent : (s.wr F v n i).rd TDENTRY.ENTRY g k = s.rd TDENTRY.ENTRY g k :=
    State.wr_rd_ne _ _ _ _ _ _ _ _ (by simp only [RField.adr, blkBase, TDENTRY.ENTRY] at h ⊢; omega)
  simp only [State.dlUsable, hdl, hent]

section
variable {s : State} {t g : Nat} (hg : g < 64) (hp : s.plainNext g = true)
include hp

/-- A time read answers the instant at which it executes, which the state after it still shows (R75). -/
theorem exec_time_retires {i : Instr} {ok : Bool} {ill : Option Nat} {rd k : Nat} {v : State → BitVec 64}
    (hexec : exec i s = s.ran ok ((s.advance t).engRun g ⟨ill, false, false, false⟩
      (fun s => (s.modEn g (fun e => e.setP rd (v s))).fin))) (hok : ok = true) (hill : ill = none)
    (val : Nat → BitVec 64) (hv : v (s.advance t) = val ((s.advance t).fine k)) :
    ∃ u, exec i s = .next u ∧ retires s u g ((s.en g).setP rd (val (u.fine k))) := by
  obtain ⟨hx, hbr, hle⟩ := (s.plainNext_iff g).mp hp
  refine ⟨_, exec_ends (u := (s.advance t).modEn g (fun e => e.setP rd (v (s.advance t)))) hexec hok hx.ready hx.fetched
    (Eng.checking_of_nil hx.noImp) (((s.en g).illegal_plain _ hbr hle).trans hill) rfl hx.noDeadline, rfl, fun j hj => ?others, ?own⟩
  case others => rw [State.en_withQueue, State.modEn_en_ne _ _ _ _ hj, State.modEn_en_ne _ _ _ _ hj, State.en_advance]
  case own =>
    rw [State.en_withQueue, State.modEn_en, State.modEn_en, State.en_advance, hv,
      Eng.ends_next (e := (s.en g).setP rd _) hbr hle hx.noImp hx.noMode hx.noStep hx.noHalt]
    rfl

include hg

theorem exec_mfs_retires {rd n v : Nat} (hrd : rd < 16) (hn : n < 1024) (hreads : sregReads n = true)
    (hv : (s.advance t).sreg g n = v) :
    ∃ u, exec (.mfs t g ⟨rd, n, 0⟩) s = .next u ∧ retires s u g ((s.en g).setR rd (BitVec.ofNat 32 v)) := by
  subst hv
  exact exec_retires (fun e => e.setR rd (BitVec.ofNat 32 ((s.advance t).sreg g n))) rfl
    (by simp [hg, FmtS.ok_of_lt hrd hn]) hp (by simp [FmtS.illMfs, firstIll, hreads]) rfl (Eng.keeps_setR _ _ _)

theorem exec_mts_ends {rd n : Nat} (hrd : rd < 16) (hn : n < 1024) (hwrites : sregWrites n = true) (h : Eng → Eng) {e' : Eng}
    (hop : (s.advance t).mtsOp g n ((s.en g).r rd) = (s.advance t).modEn g h)
    (hends : (h (s.en g)).ends none none = { e' with pc := (s.en g).pc + 4, icount := (s.en g).icount + 1, bpPass := false }) :
    ∃ u, exec (.mts t g ⟨rd, n, 0⟩) s = .next u ∧ retires s u g e' := by
  obtain ⟨hx, hbr, hle⟩ := (s.plainNext_iff g).mp hp
  have hill : (⟨rd, n, 0⟩ : FmtS).illMts = none := by simp [FmtS.illMts, firstIll, hwrites]
  exact exec_ends_eng (i := .mts t g ⟨rd, n, 0⟩) rfl (by simp [hg, FmtS.ok_of_lt hrd hn]) hx.ready hx.fetched (Eng.checking_of_nil hx.noImp) h
    (((s.en g).illegal_plain _ hbr hle).trans hill) (congrArg State.fin hop) hx.noDeadline hends

end

/-- Settles O18: `State.sreg` and `State.mtsOp` by number, and `Eng.modeStep` for the MODE write that waits. -/
theorem specialRegisters : Obligations.SpecialRegisters := by
  refine ⟨?moves, ?shadow⟩
  case moves =>
    intro t g rd s hg hrd hp e reads
    obtain ⟨hx, hbr, hle⟩ := (s.plainNext_iff g).mp hp
    have reg {n v : Nat} (hn : n < 1024) (hr : sregReads n = true) (hv : (s.advance t).sreg g n = v) : reads n v :=
      exec_mfs_retires hg hp hrd hn hr hv
    refine ⟨reg (by decide) rfl rfl, reg (by decide) rfl rfl, reg (by decide) rfl rfl, reg (by decide) rfl rfl,
      reg (by decide) rfl rfl, reg (by decide) rfl rfl, reg (by decide) rfl rfl, reg (by decide) rfl rfl,
      reg (by decide) rfl rfl, reg (by decide) rfl rfl, reg (by decide) rfl rfl, reg (by decide) rfl rfl,
      reg (by decide) rfl rfl, reg (by decide) rfl rfl, reg (by decide) rfl rfl, reg (by decide) rfl rfl,
      reg (by decide) rfl rfl, reg (by decide) rfl rfl,
      fun i w hi hw => reg (by omega) (sregReads_window i w hi hw) (State.sreg_window _ g i w hi hw), ?mode, ?flags, ?accstat,
      fun hw hpend => ?gstart, fun k hk hrd2 => ⟨?tnow, ?tnowf⟩⟩
    case mode =>
      have hadd : (s.advance t).modEn g (fun x => { x with modeP := x.modeP ++ [⟨((s.en g).r rd).toNat % 16, 3⟩] }) =
          (s.advance t).modEn g (fun x => { x with modeP := [⟨((s.en g).r rd).toNat % 16, 3⟩] }) :=
        State.modEn_congr _ _ _ _ (by rw [State.en_advance, hx.noMode]; rfl)
      refine exec_mts_ends hg hp hrd (by decide) rfl _ hadd ?_
      rw [Eng.ends_next_mode (e := { s.en g with modeP := [_] }) hbr hle hx.noImp hx.noStep hx.noHalt,
        Eng.modeStep_waits _ rfl]
    case flags =>
      exact exec_mts_ends hg hp hrd (by decide) rfl (fun e => { e with flags := ((s.en g).r rd).toNat % 16 }) rfl
        (Eng.ends_next hbr hle hx.noImp hx.noMode hx.noStep hx.noHalt)
    case accstat =>
      exact exec_mts_ends hg hp hrd (by decide) rfl
        (fun e => { e with accstat := e.accstat &&& (3 - ((s.en g).r rd).toNat % 4) }) rfl
        (Eng.ends_next hbr hle hx.noImp hx.noMode hx.noStep hx.noHalt)
    case gstart =>
      have hstart := (s.advance t).gstartWrite_plain (.eng g) hw hpend
      have hf : ((s.advance t).mtsOp g 0x13 ((s.en g).r rd)).fin = .ok _ none none none := congrArg State.fin hstart
      have hd := (State.dlUsable_wr { s.advance t with release := some ⟨(s.advance t).gmask, false, .eng g,
        ceilNs ((s.advance t).fine 0 + ns 100) / 64, false⟩ } GSTARTSTAT.PEND 1 0 0 g (s.curSlot g) (by decide)).trans
          hx.noDeadline
      refine ⟨_, _, exec_ends (i := .mtsGstartw t g rd 0) rfl (by simp [hg, hrd]) hx.ready hx.fetched
        (Eng.checking_of_nil hx.noImp) ((s.en g).illegal_plain _ hbr hle) hf hd, rfl, ⟨fun j hj => ?_, ?_⟩, rfl, rfl, ?_⟩
      · rw [State.en_withQueue, State.modEn_en_ne _ _ _ _ hj]
        rfl
      · rw [State.en_withQueue, State.modEn_en]
        exact Eng.ends_next hbr hle hx.noImp hx.noMode hx.noStep hx.noHalt
      · rw [State.on_withQueue, State.on_modEn, State.wr_on _ _ _ _ _ (by decide)]
        rfl
    case tnow =>
      have hok : (decide (g < 64) && (⟨rd, k, 0⟩ : FmtT).ok) = true := by simp [hg, FmtT.ok, hrd]; omega
      have hill : (⟨rd, k, 0⟩ : FmtT).ill = none := by simp [FmtT.ill, firstIll, isOdd_of_even hrd2]; omega
      exact exec_time_retires (k := k) hp rfl hok hill (fun x => BitVec.ofNat 64 (x / 64)) rfl
    case tnowf =>
      have hok : (decide (g < 64) && (⟨rd, k, 0⟩ : FmtT).ok) = true := by simp [hg, FmtT.ok, hrd]; omega
      have hill : (⟨rd, k, 0⟩ : FmtT).ill = none := by simp [FmtT.ill, firstIll, isOdd_of_even hrd2]; omega
      exact exec_time_retires (k := k) hp rfl hok hill (fun x => BitVec.ofNat 64 x) rfl
  case shadow =>
    intro t g v s hg ready fetched hbr hle himp hstep hhalt hd
    have hlegal : (s.en g).illegal ⟨nopIll 0xFC000000, false, false, false⟩ = none :=
      ((s.en g).illegal_plain _ hbr hle).trans nopIll_nop
    have nop (e' : Eng) (he : (s.en g).modeStep = e') : ∃ u, exec (.nopI t g 0xFC000000) s = .next u ∧ retires s u g e' := by
      subst he
      exact exec_ends_self (i := .nopI t g 0xFC000000) rfl (by simp [hg, nopWord_nop]) ready fetched (Eng.checking_of_nil himp)
        hlegal rfl hd (Eng.ends_next_mode hbr hle himp hstep hhalt)
    exact ⟨fun hm => nop _ (Eng.modeStep_waits _ hm), fun hm => nop _ (Eng.modeStep_takes _ hm)⟩

end Sys2Proof.Machine
end

section
/-! PROOFS. Traps and faults of the engine (chapter 4): an instruction that raises an arithmetic exception completes first; one that
faults leaves all but the pending exception as it was. -/
namespace Sys2Proof.Machine
open Reg

/-! ### Causes that complete (R96, R97, R103) -/

theorem Eng.goOn_next {e : Eng} (hbr : e.br = none) (hle : e.atLe = false) : e.goOn none none = { e with pc := e.pc + 4 } := by
  have hloop : e.goOn none none = e.loopBack e.pc := by rw [Eng.goOn, hbr]
  exact hloop.trans (Eng.loopBack_next hle)

/-- An outstanding check is one instruction old when the instruction that raised it retires (R103). -/
theorem Eng.ends_next_check {e : Eng} {x : Exc} (hbr : e.br = none) (hle : e.atLe = false) (himp : e.imp = [⟨x, true, 0, false⟩])
    (hmode : e.modeP = []) (hstep : e.stepping = false) (hhalt : e.haltReq = false) :
    e.ends none none =
      { e with imp := [⟨x, true, 1, false⟩], pc := e.pc + 4, icount := e.icount + 1, bpPass := false } := by
  have hstep1 : e.impStep = { e with imp := [⟨x, true, 1, false⟩] } := by simp [Eng.impStep, himp]
  rw [Eng.ends, Eng.modeStep_of_nil e hmode, hstep1, Eng.goOn_next (e := { e with imp := [⟨x, true, 1, false⟩] }) hbr hle]
  exact Eng.haltCheck_plain _ hstep hhalt

theorem State.arith_precise {s : State} {g cause sub : Nat} (hexl : (s.en g).exl = false) (hmode : (s.en g).mode % 2 = 1) :
    s.arith g cause sub = s.modEn g (fun e => { e with prec := some ⟨cause, sub, (s.en g).pc, 0, 0⟩ }) := by
  have hprec : bitAt (s.en g).mode 0 = true := by simp [bitAt, hmode]
  rw [State.arith]
  rw [hexl, if_neg (by simp), if_pos hprec]
  exact State.modEn_congr _ _ _ _ rfl

theorem State.arith_imprecise {s : State} {g cause sub : Nat} (hexl : (s.en g).exl = false) (hmode : (s.en g).mode % 2 = 0)
    (himp : (s.en g).imp = []) : s.arith g cause sub =
      s.modEn g (fun e => { e with imp := [⟨⟨cause, sub, (s.en g).pc, 0, 0⟩, true, 0, false⟩] }) := by
  have hprec : bitAt (s.en g).mode 0 = false := by simp [bitAt, hmode]
  rw [State.arith]
  rw [hexl, if_neg (by simp), hprec, if_neg (by simp), himp, if_neg (by simp)]
  exact State.modEn_congr _ _ _ _ (by rw [himp]; rfl)

theorem State.arith_handler {s : State} {g cause sub : Nat} (hexl : (s.en g).exl = true) :
    s.arith g cause sub = s.cnt EXCCNT.SUPP 1 g := by
  rw [State.arith]
  rw [if_pos hexl]

theorem ovfIf_overflow {n : Nat} {x : Int} (h : x < -2 ^ n ∨ 2 ^ n ≤ x) : ovfIf (outside n x) = some (4, 0) := by
  simp [ovfIf, outside, h]

theorem aluAddt_overflow (fl : Nat) (a b : Word) (h : a.toInt + b.toInt < -2 ^ 31 ∨ 2 ^ 31 ≤ a.toInt + b.toInt) :
    aluAddt fl a b = (a + b, addFlags a b, some (4, 0)) := by
  rw [aluAddt, addFlags_eq, flagV_flagWord, ovfIf_overflow h]

theorem aluSubt_overflow (fl : Nat) (a b : Word) (h : a.toInt - b.toInt < -2 ^ 31 ∨ 2 ^ 31 ≤ a.toInt - b.toInt) :
    aluSubt fl a b = (a - b, subFlags a b, some (4, 0)) := by
  rw [aluSubt, subFlags_eq, flagV_flagWord, ovfIf_overflow h]

theorem aluMult_overflow (fl : Nat) (a b : Word) (h : a.toInt * b.toInt < -2 ^ 31 ∨ 2 ^ 31 ≤ a.toInt * b.toInt) :
    aluMult fl a b = (a * b, resFlags (a * b) (flagC fl) true, some (4, 0)) := by
  have hout : decide ((a * b).toInt ≠ a.toInt * b.toInt) = true := decide_eq_true ((toInt_mul_ne_iff a b).mpr h)
  rw [aluMult, hout]
  rfl

/-- The field SUPP is in the engine's own registers, below its deadline records (R93, R155). -/
theorem State.dlUsable_cnt_supp (s : State) (g k : Nat) : (s.cnt EXCCNT.SUPP 1 g).dlUsable g k = s.dlUsable g k := by
  have hdl (j : Nat) : (s.cnt EXCCNT.SUPP 1 g).dlrec g k j = s.dlrec g k j :=
    State.cnt_rd_ne _ _ _ _ _ _ _ _ (by simp only [RField.adr, blkBase, DLREC.WORD, EXCCNT.SUPP]; omega)
  have hent : (s.cnt EXCCNT.SUPP 1 g).rd TDENTRY.ENTRY g k = s.rd TDENTRY.ENTRY g k :=
    State.cnt_rd_ne _ _ _ _ _ _ _ _ (by simp only [RField.adr, blkBase, TDENTRY.ENTRY, EXCCNT.SUPP]; omega)
  simp only [State.dlUsable, hdl, hent]

/-- What an instruction that raises `cause` with result `r` comes to, as the engine takes it (R97, R103). -/
def raisesCause (s : State) (g rd : Nat) (i : Instr) (r : Word) (cause : Nat) : Prop :=
  let e := s.en g
  (e.exl = false → e.mode % 2 = 1 → ∃ u, exec i s = .next u ∧
    retires s u g { e.setR rd r with prec := some ⟨cause, 0, e.pc, 0, 0⟩ }) ∧
  (e.exl = false → e.mode % 2 = 0 → ∃ u, exec i s = .next u ∧
    retires s u g { e.setR rd r with imp := [⟨⟨cause, 0, e.pc, 0, 0⟩, true, 1, false⟩] }) ∧
  (e.exl = true → ∃ u, exec i s = .next u ∧ u = { s with now := u.now, eng := u.eng, regs := u.regs } ∧
    engineIs s u g (e.setR rd r) (e.pc + 4) ∧
    u.rd EXCCNT.SUPP g = satTo 255 (s.rd EXCCNT.SUPP g + 1) ∧ (∀ x, x ≠ EXCCNT.WHOLE.adr g 0 → u.reg x = s.reg x))

section
variable {s : State} {g : Nat} {f : FmtR} (hg : g < 64) (hok : f.ok = true) (hres : f.res = 0) (hs : f.s = false)
  (hp : s.plainNext g = true)
include hg hok hres hs hp

theorem exec_regOp_raises {t : Nat} {i : Instr} (op : Nat → Word → Word → Alu) {r : Word} {fl cause : Nat}
    (hexec : exec i s = s.ran (g < 64 && f.ok)
      ((s.advance t).engRun g ⟨f.illWords, false, false, false⟩ (fun s => s.regOp g f op)))
    (hop : op (s.en g).flags ((s.en g).r f.ra) ((s.en g).r f.rb) = (r, fl, some (cause, 0))) : raisesCause s g f.rd i r cause := by
  obtain ⟨hx, hbr, hle⟩ := (s.plainNext_iff g).mp hp
  have hfok : (decide (g < 64) && f.ok) = true := by simp [hg, hok]
  have hill := ((s.en g).illegal_plain ⟨f.illWords, false, false, false⟩ hbr hle).trans (FmtR.illWords_none hres)
  have hf : (s.advance t).regOp g f op = .ok ((s.advance t).modEn g (·.setR f.rd r)) (some (cause, 0)) none none := by
    rw [State.regOp, State.en_advance, hop, hs]
    rfl
  have hen : ((s.advance t).modEn g (·.setR f.rd r)).en g = (s.en g).setR f.rd r := by rw [State.modEn_en, State.en_advance]
  have hexec' {v : State} (harith : ((s.advance t).modEn g (·.setR f.rd r)).arith g cause 0 = v)
      (hd : v.dlUsable g (v.curSlot g) = false) : exec i s = .next ((v.modEn g (·.ends none none)).withQueue s.pending) := by
    subst harith
    exact exec_raises hexec hfok hx.ready hx.fetched (Eng.checking_of_nil hx.noImp) hill hf hd
  have frame (h : Eng → Eng) (e' : Eng)
      (he : (h ((s.en g).setR f.rd r)).ends none none =
        { e' with pc := (s.en g).pc + 4, icount := (s.en g).icount + 1, bpPass := false }) :
      retires s ((((((s.advance t).modEn g (·.setR f.rd r)).modEn g h).modEn g (·.ends none none))).withQueue s.pending) g e' := by
    refine ⟨rfl, fun j hj => ?_, ?_⟩
    · rw [State.en_withQueue, State.modEn_en_ne _ _ _ _ hj, State.modEn_en_ne _ _ _ _ hj, State.modEn_en_ne _ _ _ _ hj,
        State.en_advance]
    · rw [State.en_withQueue, State.modEn_en, State.modEn_en, hen, he]
  refine ⟨fun hexl hmode => ?precise, fun hexl hmode => ?imprecise, fun hexl => ?handler⟩
  case precise =>
    refine ⟨_, hexec' (State.arith_precise (by rw [hen]; exact hexl) (by rw [hen]; exact hmode)) hx.noDeadline, frame _ _ ?_⟩
    rw [hen]
    exact Eng.ends_next (e := { (s.en g).setR f.rd r with prec := _ }) hbr hle hx.noImp hx.noMode hx.noStep hx.noHalt
  case imprecise =>
    refine ⟨_, hexec' (State.arith_imprecise (by rw [hen]; exact hexl) (by rw [hen]; exact hmode) (by rw [hen]; exact hx.noImp))
      hx.noDeadline, frame _ _ ?_⟩
    rw [hen]
    exact Eng.ends_next_check (e := { (s.en g).setR f.rd r with imp := [_] }) hbr hle rfl hx.noMode hx.noStep hx.noHalt
  case handler =>
    refine ⟨_, hexec' (State.arith_handler (by rw [hen]; exact hexl)) ((State.dlUsable_cnt_supp _ _ _).trans hx.noDeadline), rfl,
      ⟨fun j hj => ?_, ?_⟩, ?count, ?regs⟩
    · rw [State.en_withQueue, State.modEn_en_ne _ _ _ _ hj]
      exact (State.modEn_en_ne (s.advance t) g j (·.setR f.rd r) hj :)
    · rw [State.en_withQueue, State.modEn_en]
      have hsame : (((s.advance t).modEn g (·.setR f.rd r)).cnt EXCCNT.SUPP 1 g).en g = (s.en g).setR f.rd r := hen
      rw [hsame]
      exact Eng.ends_next (e := (s.en g).setR f.rd r) hbr hle hx.noImp hx.noMode hx.noStep hx.noHalt
    case count =>
      rw [State.withQueue_rd, State.modEn_rd, State.cnt_rd _ _ _ _ _ (by decide), State.modEn_rd, State.advance_rd]
      rfl
    case regs =>
      intro a ha
      have hcnt := ((s.advance t).modEn g (·.setR f.rd r)).cnt_reg_ne EXCCNT.SUPP 1 g 0 a ha
      rw [State.withQueue_reg, State.modEn_reg, hcnt, State.modEn_reg, State.advance_reg]

end

/-! ### Faults (R70, R83, R87, R97) -/

/-- A fault leaves all of the state but the pending exception of its engine. -/
theorem setFault_frame (s : State) (t g cause sub addr : Nat) :
    let u := ((s.advance t).modEn g (·.setFault cause sub addr)).withQueue s.pending
    u = { s with now := u.now, eng := u.eng } ∧ (∀ h, h ≠ g → u.en h = s.en h) ∧
      u.en g = { s.en g with fault := some ⟨cause, sub, (s.en g).pc, addr, 0⟩ } := by
  refine ⟨rfl, fun h hne => ?_, ?_⟩
  · rw [State.en_withQueue, State.modEn_en_ne _ _ _ _ hne, State.en_advance]
  · rw [State.en_withQueue, State.modEn_en, State.en_advance]
    rfl

theorem exec_fetchFault {s : State} {t g : Nat} {i : Instr} {ok : Bool} {k : InsKind} {f : State → Done} {sub : Nat}
    (hexec : exec i s = s.ran ok ((s.advance t).engRun g k f)) (hok : ok = true) (hready : s.engReady g = true)
    (hfetch : s.fetchBad g = some sub) :
    exec i s = .next (((s.advance t).modEn g (·.setFault 1 sub 0)).withQueue s.pending) := by
  have hready' : (s.advance t).engReady g = true := hready
  have hfetch' : (s.advance t).fetchBad g = some sub := hfetch
  rw [hexec, s.ran_ok _ ok hok, State.engRun, if_neg (by simp [hready']), hfetch']

/-- Bits read as a two's complement number are the value of the bit vector. -/
theorem toSigned_eq_toInt (w v : Nat) : toSigned w v = (BitVec.ofNat w v).toInt := by
  rw [BitVec.toInt_eq_toNat_cond, BitVec.toNat_ofNat, toSigned]
  rcases w with _ | w
  · simp [Nat.mod_one]
  · have hpow : 2 ^ (w + 1) = 2 * 2 ^ w := by rw [pow_succ, Nat.mul_comm]
    have hiff : v % 2 ^ (w + 1) < 2 ^ (w + 1 - 1) ↔ 2 * (v % 2 ^ (w + 1)) < 2 ^ (w + 1) := by
      rw [Nat.add_sub_cancel]
      omega
    simp only [hiff]

theorem Eng.addr_eq (e : Eng) (f : FmtM) : e.addr f = (e.r f.ra + (BitVec.ofNat 16 f.off).signExtend 32).toNat := by
  rw [Eng.addr, toSigned_eq_toInt]
  rfl

theorem FmtM.illWord_none {f : FmtM} (h : f.res = 0) : f.illWord = none := by simp [FmtM.illWord, firstIll, h]

/-- Nothing answers at 0x5000_0000 (R70). -/
theorem State.loadOp_unmapped (s : State) (g n : Nat) (err : Ecc) (put : Eng → Nat → Eng) :
    s.loadOp g 0x50000000 n err put = .fault s 3 0 0x50000000 := rfl

theorem State.storeOp_unmapped (s : State) (g n v : Nat) (err : Ecc) :
    s.storeOp g 0x50000000 n v err = .fault s 3 0 0x50000000 := rfl

/-- Settles O22: a completing cause goes through `State.arith` and retires, a fault through `Eng.setFault`. -/
theorem trapsAndFaults : Obligations.TrapsAndFaults := by
  refine ⟨?completing, ?faulting⟩
  case completing =>
    intro t g f s hg hf hres hs hp e a b out raises
    have op {i : Instr} (op : Nat → Word → Word → Alu) {r : Word} {fl cause : Nat}
        (hexec : exec i s = s.ran (g < 64 && f.ok)
          ((s.advance t).engRun g ⟨f.illWords, false, false, false⟩ (fun s => s.regOp g f op)))
        (hop : op e.flags a b = (r, fl, some (cause, 0))) : raises i r cause := exec_regOp_raises hg hf hres hs hp op hexec hop
    refine ⟨fun h => op aluAddt rfl (aluAddt_overflow _ a b h), fun h => op aluSubt rfl (aluSubt_overflow _ a b h),
      fun h => op aluMult rfl (aluMult_overflow _ a b h),
      fun hb => ⟨op aluDiv rfl (if_pos hb), op aluDivu rfl (if_pos hb), op aluRem rfl (if_pos hb), op aluRemu rfl (if_pos hb)⟩,
      fun code hcode => ?trap⟩
    case trap =>
      have hok : (decide (g < 64) && (⟨0, code⟩ : FmtX).ok) = true := by simp [hg, FmtX.ok]; omega
      exact exec_retires (fun e => { e with prec := some ⟨7, 0, e.pc, 0, code⟩ }) rfl hok hp rfl rfl
        ⟨rfl, rfl, rfl, rfl, rfl, rfl, rfl, rfl, rfl⟩
  case faulting =>
    intro t g s hg hready himp faults
    have hcheck := Eng.checking_of_nil himp
    have frame {i : Instr} {cause sub adr : Nat}
        (h : exec i s = .next (((s.advance t).modEn g (·.setFault cause sub adr)).withQueue s.pending)) :
        faults i cause sub adr := ⟨_, h, setFault_frame s t g cause sub adr⟩
    refine ⟨fun hpc => ?fetch, fun hfetch => ⟨?undefined, fun hbr hle f hf hres ha => ?unmapped, fun hbr hle => ?slot,
      fun hexl hbr hle => ?eret⟩⟩
    case fetch =>
      refine frame (exec_fetchFault rfl (by simp [hg, nopWord_nop]) hready ?_)
      exact if_pos hpc
    case undefined =>
      have hword : nopWord 0 = true := by decide
      have hill : nopIll 0 = some 0 := by decide
      exact frame (exec_illegal rfl (by simp [hg, hword]) hready hfetch hcheck (by simp [Eng.illegal, hill]))
    case unmapped =>
      have hok : (decide (g < 64) && f.ok) = true := by simp [hg, hf]
      have hadr : ((s.advance t).en g).addr f = 0x50000000 := ((s.en g).addr_eq f).trans ha
      have legal (b : Bool) : (s.en g).illegal ⟨f.illWord, false, false, b⟩ = none :=
        ((s.en g).illegal_plain _ hbr hle).trans (FmtM.illWord_none hres)
      refine ⟨frame (exec_faults rfl hok hready hfetch hcheck (legal false) ?_),
        frame (exec_faults rfl hok hready hfetch hcheck (legal true) ?_)⟩
      · rw [hadr]
        exact State.loadOp_unmapped _ _ _ _ _
      · rw [hadr]
        exact State.storeOp_unmapped _ _ _ _ _
    case slot =>
      exact frame (exec_illegal rfl (by simp [hg]) hready hfetch hcheck (by simp [Eng.illegal, hbr, hle]))
    case eret =>
      have hill : orFour (⟨0, 0⟩ : FmtX).ill (!((s.advance t).en g).exl) = some 4 := by
        rw [State.en_advance, hexl]
        rfl
      exact frame (exec_illegal rfl (by simp [hg, FmtX.ok]) hready hfetch hcheck
        (((s.en g).illegal_plain _ hbr hle).trans hill))

end Sys2Proof.Machine
end

section
/-! PROOFS. Statements of the engine's chapter that some state refutes. -/
namespace Sys2Proof.Machine
open Reg

/-! ### Loads, stores and atomics with a slot number beyond the 64 slots (R93, R155)

The statements do not bound the number of the running slot. Beyond the slots of a gondola the words of its deadline record are
registers that a correctable error counts in (R39); the count makes the record one that is used, and the retirement checks the
deadline (R151). -/

/-- Engine 0 runs slot 1,571,972, whose record begins at SRAMCE; w1 points at local memory, and one more correctable error gives
the record the entry that its slot names. -/
def State.straySlot : State :=
  ((({ State.reset with
      sched := [(0, { Sched.init with cur := some 1571972 })]
      eng := [(0, { Eng.init with w := [(1, 0x40000000#32)] })] }.setReg (SRAMCE.COUNT.adr 0 0) 0xFFFF#32).setReg
    (SRAMUE.COUNT.adr 0 0) 1#32).setReg (TDENTRY.ENTRY.adr 0 1571972) 1#32).wr ENGCTL.RUN 1

/-- The slots' state after a step, where there is one. -/
def slotsAfter : Out → Option (Store TSlot)
  | .next u => some u.slot
  | _ => none

/-- A step that changes the slots' state is none that leaves it in its frame. -/
theorem slotsAfter_kept {o : Out} {s u : State} (hu : o = .next u) (hslot : u.slot = s.slot) : slotsAfter o = some s.slot := by
  rw [hu, slotsAfter, hslot]

/-- Refutes O16: a load of a byte with a correctable error notes that the slot's END has retired. -/
theorem not_loadsAndStores : ¬ Obligations.LoadsAndStores := by
  rintro ⟨loads, -⟩
  obtain ⟨ldb, -⟩ := loads 0 0 ⟨2, 1, 0, 0⟩ .correctable State.straySlot (by decide) (by decide) rfl (by decide) rfl rfl
  obtain ⟨u, hu, hframe, -⟩ := ldb (by decide)
  have hslot : u.slot = State.straySlot.slot := by rw [hframe]
  exact absurd (slotsAfter_kept hu hslot) (by decide)

/-- Refutes O17: so does an atomic on a word of local memory. -/
theorem not_sharedMemoryOrders : ¬ Obligations.SharedMemoryOrders := by
  rintro ⟨atomics, -⟩
  obtain ⟨aswpW, -⟩ := atomics 0 0 ⟨2, 1, 3, false, 0⟩ .correctable State.straySlot (by decide) (by decide) rfl (by decide) rfl rfl
  obtain ⟨u, hu, hframe, -⟩ := aswpW (by decide) (by decide)
  have hslot : u.slot = State.straySlot.slot := by rw [hframe]
  exact absurd (slotsAfter_kept hu hslot) (by decide)

/-! ### Port writes of a Grounded device (R351) -/

/-- Engine 0 owns its channels and holds 5 in w1, and the device is Grounded, where no write has an effect. -/
def State.groundedEngine : State :=
  ({ State.reset with
      pw := { State.reset.pw with gnd := true }
      sched := [(0, { Sched.init with cur := some 0 })]
      eng := [(0, { Eng.init with w := [(1, 5#32)] })] }.wr ENGCTL.RUN 1).wr BRIDLE.OWNER 3

/-- The register at `a` after a step, where there is one. -/
def regAfter (a : Nat) : Out → Option Word
  | .next u => some (u.reg a)
  | _ => none

/-- Refutes O19: the statement does not exclude a Grounded device, whose owner's `pwr` completes and writes nothing. -/
theorem not_portsAndEvents : ¬ Obligations.PortsAndEvents := by
  rintro ⟨ports, -⟩
  obtain ⟨-, -, writes, -⟩ := ports 0 0 1 0 State.groundedEngine (by decide) (by decide) (by decide) (by decide)
  obtain ⟨⟨u, hu, -, -, hreg, -⟩, -⟩ := writes (by decide)
  have hafter : regAfter (TRIGDLY.DELAY.adr 0 0) (exec (.pwr 0 0 ⟨1, 0, false, 0, 0, 11⟩) State.groundedEngine) =
      some ((State.groundedEngine.en 0).r 1) := by
    rw [hu]
    exact congrArg some hreg
  exact absurd hafter (by decide)

end Sys2Proof.Machine
end

section
/-! PROOFS. Exceptions and ballast (chapter 4): bytes and words put in a row and read back, the entry and the return of a handler, and
the recognition, the dump and the clearing of ballast. -/
namespace Sys2Proof.Machine
open Reg

/-! ### A change of registers alone -/

/-- `u` is `s` but for the registers. -/
def regsOnly (s u : State) : Prop := u = { s with regs := u.regs }

theorem regsOnly.refl (s : State) : regsOnly s s := (rfl)

theorem regsOnly.trans {s u v : State} (h : regsOnly s u) (k : regsOnly u v) : regsOnly s v := by
  unfold regsOnly at *
  rw [k, h]

theorem regsOnly.wr (s : State) (F : RField) (v n i : Nat) : regsOnly s (s.wr F v n i) := (rfl)

theorem regsOnly.mem {s u : State} (h : regsOnly s u) : u.mem = s.mem := by rw [h]

theorem regsOnly.en {s u : State} (h : regsOnly s u) (g : Nat) : u.en g = s.en g := by
  rw [h]
  rfl

/-- `u` is `s` but for the clock, the registers, the engines and the memories. -/
def engineSide (s u : State) : Prop := u = { s with now := u.now, regs := u.regs, eng := u.eng, mem := u.mem }

theorem engineSide.refl (s : State) : engineSide s s := (rfl)

theorem engineSide.trans {s u v : State} (h : engineSide s u) (k : engineSide u v) : engineSide s v := by
  unfold engineSide at *
  rw [k, h]

theorem regsOnly.engineSide {s u : State} (h : regsOnly s u) : engineSide s u := by
  unfold regsOnly at h
  rw [h]
  rfl

theorem engineSide.advance (s : State) (t : Nat) : engineSide s (s.advance t) := (rfl)

theorem engineSide.modEn (s : State) (g : Nat) (f : Eng → Eng) : engineSide s (s.modEn g f) := (rfl)

theorem engineSide.lmStores (s : State) (g o : Nat) (l : List Nat) : engineSide s (s.lmStores g o l) := (rfl)

theorem engineSide.withQueue {s u : State} (h : engineSide s u) : engineSide s (u.withQueue s.pending) := by
  unfold Machine.engineSide at h
  rw [h]
  rfl

/-! ### Bytes put in a row -/

/-- A byte memory with `d` from key `k` on. -/
def Store.puts (m : Store Byte) : Nat → List Byte → Store Byte
  | _, [] => m
  | k, b :: bs => Store.puts (Store.set (fun _ => 0) m k b) (k + 1) bs

theorem Store.puts_get (m : Store Byte) (k : Nat) (d : List Byte) (x : Nat) :
    Store.get (fun _ => 0) (Store.puts m k d) x =
      if k ≤ x ∧ x < k + d.length then d.getD (x - k) 0 else Store.get (fun _ => 0) m x := by
  induction d generalizing m k with
  | nil => rw [if_neg (by simp)]; rfl
  | cons b bs ih =>
    rw [Store.puts, ih, List.length_cons]
    by_cases hx : x = k
    · subst hx
      rw [if_neg (by omega), if_pos (by omega), Store.get_set_same]
      simp
    · rw [Store.get_set_ne _ _ _ _ _ hx]
      by_cases hin : k + 1 ≤ x ∧ x < k + 1 + bs.length
      · rw [if_pos hin, if_pos (by omega), show x - k = x - (k + 1) + 1 by omega, List.getD_cons_succ]
      · rw [if_neg hin, if_neg (by omega)]

/-- The bytes of a row that was put, read in a row within it. -/
theorem Store.puts_read (m : Store Byte) (k : Nat) (d : List Byte) (i n : Nat) (h : i + n ≤ d.length) :
    (upFrom (k + i) n).map (Store.get (fun _ => 0) (Store.puts m k d)) = (d.drop i).take n := by
  apply List.ext_getElem
  · simp [upFrom_length]; omega
  · intro j hj _
    simp only [List.length_map, upFrom_length] at hj
    rw [List.getElem_map, upFrom_getElem, Store.puts_get, if_pos (by omega), List.getElem_take, List.getElem_drop,
      List.getD_eq_getElem _ _ (by omega)]
    congr 1
    omega

/-- A row read clear of the one that was put is as it was. -/
theorem Store.puts_read_apart (m : Store Byte) (k : Nat) (d : List Byte) (a n : Nat) (h : a + n ≤ k ∨ k + d.length ≤ a) :
    (upFrom a n).map (Store.get (fun _ => 0) (Store.puts m k d)) = (upFrom a n).map (Store.get (fun _ => 0) m) :=
  List.map_congr_left fun x hx => by
    have := (upFrom_mem _ _ _).mp hx
    rw [Store.puts_get, if_neg (by omega)]

theorem Mem.lmPutAt_eq (m : Mem) (k : Nat) (d : List Byte) : m.lmPutAt k d = { m with lm := Store.puts m.lm k d } := by
  induction d generalizing m k with
  | nil => rfl
  | cons b bs ih => rw [Mem.lmPutAt, ih]; rfl

theorem Mem.secPut_eq (m : Mem) (k : Nat) (d : List Byte) : m.secPut k d = { m with sec := Store.puts m.sec k d } := by
  induction d generalizing m k with
  | nil => rfl
  | cons b bs ih => rw [Mem.secPut, ih]; rfl

theorem Mem.lmPut_lm (m : Mem) (g o : Nat) (d : List Byte) : (m.lmPut g o d).lm = Store.puts m.lm (g * 0x10000 + o) d := by
  rw [Mem.lmPut, Mem.lmPutAt_eq]

theorem Mem.lmPut_sram (m : Mem) (g o : Nat) (d : List Byte) : (m.lmPut g o d).sram = m.sram := by
  rw [Mem.lmPut, Mem.lmPutAt_eq]

theorem Mem.lmPut_sec (m : Mem) (g o : Nat) (d : List Byte) : (m.lmPut g o d).sec = m.sec := by
  rw [Mem.lmPut, Mem.lmPutAt_eq]

theorem Mem.lmPut_bytes (m : Mem) (g o : Nat) (d : List Byte) : (m.lmPut g o d).lmBytes g o d.length = d := by
  have h := Store.puts_read m.lm (g * 0x10000 + o) d 0 d.length (by omega)
  rw [Nat.add_zero, List.drop_zero, List.take_length] at h
  rw [Mem.lmBytes, Mem.lmPut_lm, h]

/-! ### Numbers as bytes -/

theorem toBytes_getD (n v j : Nat) (h : j < n) : (toBytes n v).getD j 0 = BitVec.ofNat 8 (v / 256 ^ j) := by
  induction n generalizing v j with
  | zero => omega
  | succ n ih =>
    cases j with
    | zero => simp [toBytes]
    | succ j =>
      rw [toBytes, List.getD_cons_succ, ih _ _ (by omega), Nat.div_div_eq_div_mul, pow_succ, Nat.mul_comm]

theorem ofBytes_lt (l : List Byte) : ofBytes l < 2 ^ (8 * l.length) := by
  induction l with
  | nil => simp [ofBytes]
  | cons b bs ih =>
    have hb := b.isLt
    rw [ofBytes, List.length_cons, Nat.mul_succ, Nat.pow_add]
    omega


/-! ### Words put in a row (R106, R114) -/

theorem length_flatMap_toBytes (l : List Nat) : (l.flatMap (toBytes 4)).length = 4 * l.length := by
  induction l with
  | nil => rfl
  | cons w r ih => rw [List.flatMap_cons, List.length_append, toBytes_length, ih, List.length_cons]; omega

theorem drop_flatMap_toBytes (l : List Nat) (i : Nat) : (l.flatMap (toBytes 4)).drop (4 * i) = (l.drop i).flatMap (toBytes 4) := by
  induction i generalizing l with
  | zero => rfl
  | succ i ih =>
    cases l with
    | nil => simp
    | cons w r =>
      rw [List.flatMap_cons, show 4 * (i + 1) = (toBytes 4 w).length + 4 * i by rw [toBytes_length]; omega,
        List.drop_length_add_append, ih, List.drop_succ_cons]

/-- Word `i` of a row of words. -/
theorem ofBytes_word (l : List Nat) (i : Nat) (hi : i < l.length) :
    ofBytes (((l.flatMap (toBytes 4)).drop (4 * i)).take 4) = l.getD i 0 % 2 ^ 32 := by
  rw [drop_flatMap_toBytes, List.drop_eq_getElem_cons hi, List.flatMap_cons, List.take_append_of_le_length (by simp),
    List.take_of_length_le (by simp), ofBytes_toBytes, List.getD_eq_getElem _ _ hi]

theorem Mem.lmPut_word (m : Mem) (g o : Nat) (l : List Nat) (i : Nat) (hi : i < l.length) :
    (m.lmPut g o (l.flatMap (toBytes 4))).lmWord g (o + 4 * i) = l.getD i 0 % 2 ^ 32 := by
  have hlen := length_flatMap_toBytes l
  rw [Mem.lmWord, Mem.lmBytes, Mem.lmPut_lm, ← Nat.add_assoc, Store.puts_read _ _ _ _ _ (by omega), ofBytes_word l i hi]

theorem Mem.lmPut_poison_nil (m : Mem) (g o : Nat) (d : List Byte) (h : m.lmPoison = []) : (m.lmPut g o d).lmPoison = [] := by
  rw [Mem.lmPut, Mem.lmPutAt_eq, h]
  rfl

/-! ### The entry of a handler (R99, R105, R106) -/

theorem b2n_le (b : Bool) : b2n b ≤ 1 := by cases b <;> decide

/-- The status word of a frame with no MODE write on its way. -/
theorem Eng.festat_fields (e : Eng) (ds lend : Bool) (hmode : e.modeP = []) (hflags : e.flags < 16) :
    let w := e.festatAt ds lend false % 2 ^ 32
    w % 16 = e.flags ∧ w.testBit 11 = ds ∧ w.testBit 10 = lend ∧ w.testBit 9 = false := by
  have h0 := b2n_le e.l0.act
  have h1 := b2n_le e.l1.act
  have hw : e.festatAt ds lend false =
      b2n ds * 2 ^ 11 + b2n lend * 2 ^ 10 + b2n e.l1.act * 2 ^ 7 + b2n e.l0.act * 2 ^ 6 + e.flags := by
    simp [Eng.festatAt, hmode, b2n]
  intro w
  have hval : w = b2n ds * 2 ^ 11 + b2n lend * 2 ^ 10 + b2n e.l1.act * 2 ^ 7 + b2n e.l0.act * 2 ^ 6 + e.flags := by
    have hds := b2n_le ds
    have hlend := b2n_le lend
    rw [← hw]
    exact Nat.mod_eq_of_lt (by omega)
  clear_value w
  subst hval
  generalize b2n e.l1.act = c1 at *
  generalize b2n e.l0.act = c0 at *
  have htrue : b2n true = 1 := rfl
  have hfalse : b2n false = 0 := rfl
  simp only [Nat.testBit_eq_decide_div_mod_eq]
  cases ds <;> cases lend <;> simp only [htrue, hfalse, decide_eq_true_eq, decide_eq_false_iff_not] <;> omega

/-- The exception registers take an exception that is entered (R109). -/
def State.noteExc (s : State) (g : Nat) (x : Exc) (impr : Bool) : State :=
  ((((((s.wr LASTEXC.VALID 1 g).wr LASTEXC.TASK (s.curSlot g) g).wr LASTEXC.IMPR (b2n impr) g).wr LASTEXC.CAUSE
    (x.sub * 2 ^ 5 + x.cause) g).wr LASTEFPC.PC x.pc g).cnt EXCCNT.ENTRIES 1 g)

section
variable (s : State) (g : Nat) (x : Exc) (impr : Bool)

theorem State.noteExc_frame : regsOnly s (s.noteExc g x impr) :=
  (((((regsOnly.wr s _ _ _ _).trans (.wr _ _ _ _ _)).trans (.wr _ _ _ _ _)).trans (.wr _ _ _ _ _)).trans
    (.wr _ _ _ _ _)).trans (.wr _ _ _ _ _)

theorem State.noteExc_valid : (s.noteExc g x impr).rd LASTEXC.VALID g = 1 := by
  simp only [State.noteExc]
  rw [State.cnt_rd_ne _ _ _ _ _ _ _ _ (by simp only [RField.adr, blkBase, LASTEXC.VALID, EXCCNT.ENTRIES]; omega),
    State.wr_rd_ne _ _ _ _ _ _ _ _ (by simp only [RField.adr, blkBase, LASTEXC.VALID, LASTEFPC.PC]; omega),
    State.wr_rd_other _ _ _ _ _ _ _ _ (by decide) (by decide), State.wr_rd_other _ _ _ _ _ _ _ _ (by decide) (by decide),
    State.wr_rd_other _ _ _ _ _ _ _ _ (by decide) (by decide), State.wr_rd _ _ _ _ _ (by decide)]
  rfl

theorem State.noteExc_cause (hc : x.cause < 32) (hs : x.sub < 16) :
    (s.noteExc g x impr).rd LASTEXC.CAUSE g = x.sub * 2 ^ 5 + x.cause := by
  simp only [State.noteExc]
  rw [State.cnt_rd_ne _ _ _ _ _ _ _ _ (by simp only [RField.adr, blkBase, LASTEXC.CAUSE, EXCCNT.ENTRIES]; omega),
    State.wr_rd_ne _ _ _ _ _ _ _ _ (by simp only [RField.adr, blkBase, LASTEXC.CAUSE, LASTEFPC.PC]; omega),
    State.wr_rd _ _ _ _ _ (by decide)]
  exact Nat.mod_eq_of_lt (by change _ < 2 ^ 9; omega)

theorem State.noteExc_entries :
    (s.noteExc g x impr).rd EXCCNT.ENTRIES g = satTo 0xFFFF (s.rd EXCCNT.ENTRIES g + 1) := by
  have hother (F : RField) (hF : F.adr g 0 < 0x1000050 + 0x40000 * g) (u : State) (v : Nat) :
      (u.wr F v g).rd EXCCNT.ENTRIES g = u.rd EXCCNT.ENTRIES g :=
    State.wr_rd_ne _ _ _ _ _ _ _ _ (by
      have : EXCCNT.ENTRIES.adr g 0 = 0x1000050 + 0x40000 * g := by simp only [RField.adr, blkBase, EXCCNT.ENTRIES]; omega
      omega)
  have hbelow (F : RField) (hF : F.blk = .eng ∧ F.off < 0x50) : F.adr g 0 < 0x1000050 + 0x40000 * g := by
    simp only [RField.adr, hF.1, blkBase]
    omega
  simp only [State.noteExc]
  rw [State.cnt_rd _ _ _ _ _ (by decide)]
  simp only [hother _ (hbelow LASTEFPC.PC (by decide)), hother _ (hbelow LASTEXC.CAUSE (by decide)),
    hother _ (hbelow LASTEXC.IMPR (by decide)), hother _ (hbelow LASTEXC.TASK (by decide)),
    hother _ (hbelow LASTEXC.VALID (by decide))]
  rfl

end

/-- The engine as its handler begins. -/
def Eng.entered (e : Eng) (x : Exc) (ec fe vec : Nat) : Eng :=
  { e.setR 15 (BitVec.ofNat 32 ((e.r 15).toNat - 40)) with
    ecause := ec, efpc := x.pc, eaddr := x.addr, etrap := if x.cause = 7 then x.code else e.etrap
    eframe := (e.r 15).toNat - 40, festat := fe, exl := true, modeP := [], br := none, pc := 0x40000000 + vec
    l0 := { e.l0 with act := false }, l1 := { e.l1 with act := false } }

/-- The engine without the fault it waits on. -/
def Eng.unfaulted (e : Eng) : Eng := { e with fault := none }

/-- Where an exception resumes. -/
def Eng.epc (e : Eng) : Nat :=
  match e.br with
  | some b => b.src
  | none => e.pc

/-- An exception that is not escalated: the frame, the registers and the engine (R105, R106). -/
theorem State.takeExc_enters {s : State} {g : Nat} {x : Exc} {fault : Bool} (hexl : (s.en g).exl = false)
    (hbase : s.on EVBASE.EN g = true) (hal : ((s.en g).r 15).toNat % 8 = 0)
    (hlim : 0x40000000 + s.rd ESTKLIM.LIMIT g * 8 + 40 ≤ ((s.en g).r 15).toNat) (htop : ((s.en g).r 15).toNat ≤ 0x40010000)
    (hpois : s.mem.lmPoison = []) :
    let e := s.en g
    let fe := e.festatAt e.br.isSome (fault && e.atLe) false
    s.takeExc g x fault false false =
      (((s.lmStores g ((e.r 15).toNat - 40 - 0x40000000) (e.frame e.epc fe)).modEn g
        (·.entered x (x.sub * 2 ^ 8 + x.cause) fe (s.rd EVBASE.ADDR g * 0x100 + 0x20 * x.cause))).noteExc g x false).modEn g
          (·.haltCheck) := by
  intro e fe
  set vec := s.rd EVBASE.ADDR g * 0x100 + 0x20 * x.cause with hvec
  have hec : b2n false * 2 ^ 31 + x.sub * 2 ^ 8 + x.cause = x.sub * 2 ^ 8 + x.cause := by simp [b2n]
  have hgood (u : State) (hu : u.mem.lmPoison = []) : u.mem.lmBad g vec 4 = false := by simp [Mem.lmBad, hu]
  rw [State.takeExc]
  dsimp only
  rw [if_neg (by simp [hexl]), if_neg (by simp [hbase]), if_neg (by omega), hec, if_neg]
  · rfl
  · rw [Bool.not_eq_true]
    exact hgood _ (Mem.lmPut_poison_nil _ _ _ _ hpois)

@[simp] theorem State.lmStores_rd (s : State) (g o : Nat) (l : List Nat) (F : RField) (n i : Nat) :
    (s.lmStores g o l).rd F n i = s.rd F n i := (rfl)

@[simp] theorem State.lmStores_mem (s : State) (g o : Nat) (l : List Nat) :
    (s.lmStores g o l).mem = s.mem.lmPut g o (l.flatMap (toBytes 4)) := (rfl)

/-- A boundary at which a fault waits (R97). -/
theorem State.entry_fault {s : State} {g : Nat} {x : Exc} (hfault : (s.en g).fault = some x) (hbal : (s.en g).bal = [])
    (hhold : (s.en g).hold = none) (hinbal : s.on BALSTAT.INBAL g = false) (hrun : s.on ENGCTL.RUN g = true)
    (hhalted : (s.en g).halted = false) : s.entry g = (s.modEn g Eng.unfaulted).takeExc g x true false false := by
  rw [State.entry, if_neg (by simp [hbal, hhold, hinbal, hrun, hhalted]), hfault]
  rfl

/-- What the machine shows once a handler has begun. -/
theorem exec_exceptionEntry_enters {s : State} {t g : Nat} {x : Exc} (hg : g < 64) (hfault : (s.en g).fault = some x)
    (hbal : (s.en g).bal = []) (hhold : (s.en g).hold = none) (hinbal : s.on BALSTAT.INBAL g = false)
    (hrun : s.on ENGCTL.RUN g = true) (hhalted : (s.en g).halted = false) (hexl : (s.en g).exl = false)
    (hbase : s.on EVBASE.EN g = true) (hal : ((s.en g).r 15).toNat % 8 = 0)
    (hlim : 0x40000000 + s.rd ESTKLIM.LIMIT g * 8 + 40 ≤ ((s.en g).r 15).toNat) (htop : ((s.en g).r 15).toNat ≤ 0x40010000)
    (hpois : s.mem.lmPoison = []) (hstep : (s.en g).stepping = false) (hhalt : (s.en g).haltReq = false) :
    let e := (s.en g).unfaulted
    let fe := e.festatAt e.br.isSome e.atLe false
    ∃ u, exec (.exceptionEntry t g) s = .next u ∧ u = { s with now := u.now, regs := u.regs, eng := u.eng, mem := u.mem } ∧
      u.en g = e.entered x (x.sub * 2 ^ 8 + x.cause) fe (s.rd EVBASE.ADDR g * 0x100 + 0x20 * x.cause) ∧
      u.mem = s.mem.lmPut g ((e.r 15).toNat - 40 - 0x40000000) ((e.frame e.epc fe).flatMap (toBytes 4)) ∧
      ∃ v : State, v.rd EXCCNT.ENTRIES g = s.rd EXCCNT.ENTRIES g ∧ u.regs = (v.noteExc g x false).regs := by
  intro e fe
  set a := (s.advance t).modEn g Eng.unfaulted with ha
  have hen : a.en g = e := by rw [ha, State.modEn_en, State.en_advance]
  have hentry : (s.advance t).entry g = a.takeExc g x true false false :=
    State.entry_fault hfault hbal hhold hinbal hrun hhalted
  have henters := State.takeExc_enters (s := a) (g := g) (x := x) (fault := true) (by rw [hen]; exact hexl) hbase
    (by rw [hen]; exact hal) (by rw [hen]; exact hlim) (by rw [hen]; exact htop) hpois
  rw [hen] at henters
  refine ⟨_, s.ran_ok ((s.advance t).entry g) _ (by simp [hg]), ?_⟩
  rw [hentry, henters]
  set b := (a.lmStores g _ _).modEn g (·.entered x _ _ _) with hb
  have hnote := State.noteExc_frame b g x false
  have hben : b.en g = e.entered x (x.sub * 2 ^ 8 + x.cause) fe (s.rd EVBASE.ADDR g * 0x100 + 0x20 * x.cause) := by
    rw [hb, State.modEn_en]
    exact congrArg (Eng.entered · x _ _ _) hen
  have hentries : b.rd EXCCNT.ENTRIES g = s.rd EXCCNT.ENTRIES g := by
    rw [hb, State.modEn_rd, State.lmStores_rd, ha, State.modEn_rd, State.advance_rd]
  refine ⟨?frame, ?engine, ?memory, b, hentries, ?regs⟩
  case frame =>
    exact ((((((engineSide.advance s t).trans (.modEn _ _ _)).trans (.lmStores _ _ _ _)).trans (.modEn _ _ _)).trans
      hnote.engineSide).trans (.modEn _ _ _)).withQueue
  case engine =>
    rw [State.en_withQueue, State.modEn_en, hnote.en, hben]
    exact Eng.haltCheck_plain _ hstep hhalt
  case memory =>
    rw [State.withQueue_mem, State.modEn_mem, hnote.mem, hb, State.modEn_mem, State.lmStores_mem, ha, State.modEn_mem,
      State.advance_mem, Bool.true_and]
  case regs => rw [State.withQueue_regs, State.modEn_regs]

/-- An exception in a handler, without handlers or with a bad stack asks for ballast instead (R99, R111). -/
theorem State.takeExc_escalates {s : State} {g : Nat} {x : Exc} {fault : Bool}
    (h : (s.en g).exl = true ∨ s.on EVBASE.EN g = false ∨ ((s.en g).r 15).toNat % 8 ≠ 0) :
    s.takeExc g x fault false false = s.askBallast g (if (s.en g).exl then 1 else if s.on EVBASE.EN g then 2 else 3)
      (if (s.en g).exl then x.pc else (s.en g).epc) (x.sub * 2 ^ 8 + x.cause) x.addr := by
  have hec : b2n false * 2 ^ 31 + x.sub * 2 ^ 8 + x.cause = x.sub * 2 ^ 8 + x.cause := by simp [b2n]
  rw [State.takeExc]
  dsimp only
  rw [hec]
  cases hexl : (s.en g).exl with
  | true => rfl
  | false =>
    cases hbase : s.on EVBASE.EN g with
    | false => rfl
    | true =>
      have hal : ((s.en g).r 15).toNat % 8 ≠ 0 := by simpa [hexl, hbase] using h
      rw [if_neg (by simp), if_neg (by simp), if_pos (.inl hal)]
      rfl

/-! ### The return from a handler (R102, R104, R107) -/

theorem bitAt_eq_testBit (w i : Nat) : bitAt w i = w.testBit i := by
  rw [Nat.testBit_eq_decide_div_mod_eq, bitAt, Bool.eq_iff_iff, beq_iff_eq, decide_eq_true_iff]

/-- The engine as the frame of words `w` restores it, where the frame holds no active loop and no MODE write. -/
def Eng.returned (e : Eng) (w : Nat → Nat) : Eng :=
  { (e.setR 14 (BitVec.ofNat 32 (w 9))).setR 15 (BitVec.ofNat 32 ((e.r 15).toNat + 40)) with
    flags := w 1 % 16, mode := w 2 % 16, modeP := [], l0 := { e.l0 with act := false }, l1 := { e.l1 with act := false }
    exl := false }

theorem Eng.ends_jump {e : Eng} {p : Nat} (hbr : e.br = none) (himp : e.imp = []) (hmode : e.modeP = [])
    (hstep : e.stepping = false) (hhalt : e.haltReq = false) :
    e.ends (some p) none = { e.note e.pc p with pc := p, icount := e.icount + 1, bpPass := false } := by
  have hgo : e.goOn (some p) none = { e.note e.pc p with pc := p } := by rw [Eng.goOn, hbr]
  rw [Eng.ends, Eng.modeStep_of_nil e hmode, Eng.impStep_of_nil e himp, hgo]
  exact Eng.haltCheck_plain _ hstep hhalt

section
variable {s : State} {g : Nat} (hlow : 0x40000000 ≤ ((s.en g).r 15).toNat) (hhigh : ((s.en g).r 15).toNat + 40 ≤ 0x40010000)
  (hal : ((s.en g).r 15).toNat % 8 = 0) (hbad : s.mem.lmBad g (((s.en g).r 15).toNat - 0x40000000) 40 = false)
include hlow hhigh hal hbad

theorem State.eretOp_returns {w : Nat → Nat} (hw : w = fun i => s.mem.lmWord g (((s.en g).r 15).toNat - 0x40000000 + 4 * i))
    (h6 : (w 1).testBit 6 = false) (h7 : (w 1).testBit 7 = false) (h14 : (w 1).testBit 14 = false)
    (h17 : (w 1).testBit 17 = false) :
    s.eretOp g = match (s.en g).leaving with
      | some h => .last (((s.modEn g (·.returned w)).retire g (some (w 0))).leaveNow g h)
      | none => .ok (s.modEn g (·.returned w)) none (some (w 0)) none := by
  subst hw
  rw [← bitAt_eq_testBit] at h6 h7 h14 h17
  have hgood : frameBad (s.mem.lmWord g (((s.en g).r 15).toNat - 0x40000000 + 4 * 1))
      (s.mem.lmWord g (((s.en g).r 15).toNat - 0x40000000 + 4 * 7))
      (s.mem.lmWord g (((s.en g).r 15).toNat - 0x40000000 + 4 * 8)) = false := by simp [frameBad, h6, h7]
  rw [State.eretOp]
  dsimp only
  rw [if_neg (by simp [hbad]; omega), hgood, if_neg (by simp), State.modEn_congr s g _
    (·.returned fun i => s.mem.lmWord g (((s.en g).r 15).toNat - 0x40000000 + 4 * i)) ?_]
  · rw [State.modEn_en]
    rfl
  · simp only [Eng.returned, LoopL.restore, framePending, h6, h7, h14, h17, Bool.false_eq_true, if_false, List.append_nil]

end

/-! ### The end of a task (R145) -/

theorem State.modSch_sch (s : State) (g : Nat) (f : Sched → Sched) : (s.modSch g f).sch g = f (s.sch g) :=
  Store.get_set_same _ _ _ _

theorem State.decideSch_cur (s : State) (g : Nat) : ((s.decide_ g).sch g).cur = (s.sch g).cur := by
  rw [State.decide_]
  split
  · rw [State.modSch_sch]
  · rfl

theorem State.decideSch_en (s : State) (g h : Nat) : (s.decide_ g).en h = s.en h := by
  rw [State.decide_]
  split <;> rfl

theorem State.lookAt_cur (s : State) (g k : Nat) : ((s.lookAt g k).sch g).cur = (s.sch g).cur := by
  rw [State.lookAt]
  split
  · split
    · rw [State.decideSch_cur, State.modSch_sch]
      rfl
    · rfl
  · split
    · rfl
    · rw [State.modSch_sch]
      rfl
  · rfl

theorem State.lookAt_en (s : State) (g k h : Nat) : (s.lookAt g k).en h = s.en h := by
  rw [State.lookAt]
  split
  · split
    · rw [State.decideSch_en]
      rfl
    · rfl
  · split <;> rfl
  · rfl

theorem State.endTask_cur (s : State) (g : Nat) : ((s.endTask g).sch g).cur = none := by
  rw [State.endTask]
  split
  case h_1 h => exact h
  case h_2 k h => rw [State.lookAt_cur, State.modSch_sch]

theorem State.endTask_en (s : State) (g h : Nat) : (s.endTask g).en h = s.en h := by
  rw [State.endTask]
  split
  · rfl
  · rw [State.lookAt_en]
    rfl

theorem Eng.due_of_nil {e : Eng} (h : e.imp = []) : e.due = none := by simp [Eng.due, h]

/-- A task that leaves at once. -/
theorem State.leaveNow_fin {s : State} {g : Nat} (hdue : (s.en g).due = none) :
    ((s.leaveNow g .fin).sch g).cur = none ∧ ((s.leaveNow g .fin).en g).exl = (s.en g).exl ∧
      ((s.leaveNow g .fin).en g).leaving = none := by
  have hleave : s.leaveNow g .fin = (((s.modEn g (fun e => { e with leaving := none })).modEn g
      (fun e => { e with imp := [], multi := false, modeP := [], br := none })).endTask g) := by
    rw [State.leaveNow, if_neg (by simp [hdue])]
  rw [hleave]
  refine ⟨State.endTask_cur _ _, ?_, ?_⟩
  · rw [State.endTask_en, State.modEn_en, State.modEn_en]
  · rw [State.endTask_en, State.modEn_en, State.modEn_en]

/-! ### The statement -/

theorem Mem.lmPut_byte_apart (m : Mem) (g o : Nat) (d : List Byte) (k : Nat)
    (h : k < g * 0x10000 + o ∨ g * 0x10000 + o + d.length ≤ k) :
    Store.get (fun _ => 0) (m.lmPut g o d).lm k = Store.get (fun _ => 0) m.lm k := by
  rw [Mem.lmPut_lm, Store.puts_get, if_neg (by omega)]

theorem Eng.frame_length (e : Eng) (p f : Nat) : (e.frame p f).length = 10 := rfl

/-- The words of a frame that was put (R105). -/
theorem Mem.lmPut_frame_word (m : Mem) (g o : Nat) (e : Eng) (p f i : Nat) (hi : i < 10) :
    (m.lmPut g o ((e.frame p f).flatMap (toBytes 4))).lmWord g (o + 4 * i) = (e.frame p f).getD i 0 % 2 ^ 32 :=
  Mem.lmPut_word m g o _ i hi

theorem frame_apart {base sp k : Nat} (hroom : 0x40000000 + 40 ≤ sp)
    (h : k < base + (sp - 40 - 0x40000000) ∨ base + (sp - 0x40000000) ≤ k) :
    k < base + (sp - 40 - 0x40000000) ∨ base + (sp - 40 - 0x40000000) + 4 * 10 ≤ k := by
  omega

theorem exceptionEntry_shows {s : State} {t g : Nat} {x : Exc} (hg : g < 64) (hfault : (s.en g).fault = some x)
    (hbal : (s.en g).bal = []) (hhold : (s.en g).hold = none) (hinbal : s.on BALSTAT.INBAL g = false)
    (hrun : s.on ENGCTL.RUN g = true) (hhalted : (s.en g).halted = false) (hexl : (s.en g).exl = false)
    (hbase : s.on EVBASE.EN g = true) (hal : ((s.en g).r 15).toNat % 8 = 0)
    (hlim : 0x40000000 + s.rd ESTKLIM.LIMIT g * 8 + 40 ≤ ((s.en g).r 15).toNat) (htop : ((s.en g).r 15).toNat ≤ 0x40010000)
    (hcause : x.cause < 32) (hsub : x.sub < 16) (hmodeP : (s.en g).modeP = []) (hstep : (s.en g).stepping = false)
    (hhalt : (s.en g).haltReq = false) (hflags : (s.en g).flags < 16) (hmode : (s.en g).mode < 2 ^ 32)
    (hpois : s.mem.lmPoison = []) :
    let e := s.en g
    let sp := (e.r 15).toNat
    ∃ u, exec (.exceptionEntry t g) s = .next u ∧ u = { s with now := u.now, regs := u.regs, eng := u.eng, mem := u.mem } ∧
        (u.en g).pc = 0x40000000 + s.rd EVBASE.ADDR g * 0x100 + 0x20 * x.cause ∧ (u.en g).exl = true ∧
        (u.en g).r 15 = BitVec.ofNat 32 (sp - 40) ∧ (∀ i, i < 15 → (u.en g).r i = e.r i) ∧ (u.en g).flags = e.flags ∧
        (u.en g).mode = e.mode ∧ (u.en g).l0.act = false ∧ (u.en g).l1.act = false ∧
        (u.en g).ecause = x.sub * 2 ^ 8 + x.cause ∧ (u.en g).efpc = x.pc ∧ (u.en g).eaddr = x.addr ∧ (u.en g).eframe = sp - 40 ∧
        u.mem.lmWord g (sp - 40 - 0x40000000) = e.epc % 2 ^ 32 ∧ u.mem.lmWord g (sp - 40 - 0x40000000 + 8) = e.mode ∧
        u.mem.lmWord g (sp - 40 - 0x40000000 + 4) % 16 = e.flags ∧
        (u.mem.lmWord g (sp - 40 - 0x40000000 + 4)).testBit 11 = e.br.isSome ∧
        (u.mem.lmWord g (sp - 40 - 0x40000000 + 4)).testBit 10 = e.atLe ∧
        (u.mem.lmWord g (sp - 40 - 0x40000000 + 4)).testBit 9 = false ∧
        u.mem.lmWord g (sp - 40 - 0x40000000 + 36) = (e.r 14).toNat ∧
        (∀ k, k < g * 0x10000 + (sp - 40 - 0x40000000) ∨ g * 0x10000 + (sp - 0x40000000) ≤ k → u.lmByte k = s.lmByte k) ∧
        u.mem.sram = s.mem.sram ∧ u.rd LASTEXC.VALID g = 1 ∧ u.rd LASTEXC.CAUSE g = x.sub * 2 ^ 5 + x.cause ∧
        u.rd EXCCNT.ENTRIES g = satTo 0xFFFF (s.rd EXCCNT.ENTRIES g + 1) := by
  intro e sp
  obtain ⟨u, hex, hframe, heng, hmem, v, hentries, hregs⟩ := exec_exceptionEntry_enters (t := t) hg hfault hbal hhold hinbal
    hrun hhalted hexl hbase hal hlim htop hpois hstep hhalt
  have hrd (F : RField) : u.rd F g = (v.noteExc g x false).rd F g := State.rd_of_regs _ _ F g 0 hregs
  obtain ⟨hfl, hds, hlend, himpr⟩ := Eng.festat_fields e.unfaulted e.br.isSome e.atLe hmodeP hflags
  have hword (i : Nat) (hi : i < 10) : u.mem.lmWord g (sp - 40 - 0x40000000 + 4 * i) =
      (e.unfaulted.frame e.epc (e.unfaulted.festatAt e.br.isSome e.atLe false)).getD i 0 % 2 ^ 32 :=
    (congrArg (Mem.lmWord · g _) hmem).trans (Mem.lmPut_frame_word s.mem g _ e.unfaulted _ _ i hi)
  have hw0 := hword 0 (by decide)
  rw [Nat.mul_zero, Nat.add_zero] at hw0
  have hw1 := hword 1 (by decide)
  have hw2 := hword 2 (by decide)
  have hw9 := hword 9 (by decide)
  have hsp : sp < 2 ^ 32 := (e.r 15).isLt
  have hstatus : u.mem.lmWord g (sp - 40 - 0x40000000 + 4) =
      (e.unfaulted.festatAt e.br.isSome e.atLe false) % 2 ^ 32 := hw1
  refine ⟨u, hex, hframe, ?_⟩
  rw [hrd, hrd, hrd, hstatus, heng]
  refine ⟨(Nat.add_assoc _ _ _).symm, rfl, Eng.setR_r_same _ _ _, fun i hi => Eng.setR_r_ne _ _ _ _ (by omega), rfl, rfl, rfl, rfl, rfl,
    rfl, rfl, rfl, hw0, ?mode, hfl, hds, hlend, himpr, ?link, ?other, ?shared, State.noteExc_valid _ _ _ _,
    State.noteExc_cause _ _ _ _ hcause hsub, ?count⟩
  case mode => exact hw2.trans (Nat.mod_eq_of_lt hmode)
  case link => exact hw9.trans (Nat.mod_eq_of_lt (e.r 14).isLt)
  case other =>
    intro k hk
    rw [State.lmByte, State.lmByte, hmem]
    refine Mem.lmPut_byte_apart _ _ _ _ _ ?_
    exact frame_apart (le_trans (by omega) hlim) hk
  case shared => rw [hmem, Mem.lmPut_sram]
  case count => rw [State.noteExc_entries, hentries]

section
variable {s : State} {g : Nat}

theorem exceptionEntry_escalates {t : Nat} {x : Exc} (hg : g < 64) (hfault : (s.en g).fault = some x)
    (hbal : (s.en g).bal = []) (hhold : (s.en g).hold = none) (hinbal : s.on BALSTAT.INBAL g = false)
    (hrun : s.on ENGCTL.RUN g = true) (hhalted : (s.en g).halted = false)
    (h : (s.en g).exl = true ∨ s.on EVBASE.EN g = false ∨ ((s.en g).r 15).toNat % 8 ≠ 0) :
    let e := s.en g
    ∃ u c, exec (.exceptionEntry t g) s = .next u ∧ u = { s with now := u.now, eng := u.eng } ∧
        u.en g = { e with fault := none, bal := [⟨c, if e.exl then x.pc else e.epc, x.sub * 2 ^ 8 + x.cause, x.addr⟩] } ∧
        c = (if e.exl then 1 else if s.on EVBASE.EN g then 2 else 3) := by
  intro e
  have hen : ((s.advance t).modEn g Eng.unfaulted).en g = e.unfaulted := State.modEn_en _ _ _
  have hentry := (State.entry_fault (s := s.advance t) hfault hbal hhold hinbal hrun hhalted).trans
    (State.takeExc_escalates (by rw [hen]; exact h))
  rw [hen] at hentry
  refine ⟨_, _, s.ran_ok ((s.advance t).entry g) _ (by simp [hg]), ?frame, ?engine, rfl⟩
  case frame =>
    rw [hentry]
    rfl
  case engine =>
    rw [hentry, State.en_withQueue, State.askBallast, State.modEn_en, hen, Eng.unfaulted, hbal]
    rfl

/-- `eret` with a frame that restores (R102, R104, R107). -/
theorem exec_eret_returns {t : Nat} (hg : g < 64) (hp : s.plainNext g = true) (hexl : (s.en g).exl = true)
    (hlow : 0x40000000 ≤ ((s.en g).r 15).toNat) (hhigh : ((s.en g).r 15).toNat + 40 ≤ 0x40010000)
    (hal : ((s.en g).r 15).toNat % 8 = 0) (hbad : s.mem.lmBad g (((s.en g).r 15).toNat - 0x40000000) 40 = false)
    {w : Nat → Nat} (hw : w = fun i => s.mem.lmWord g (((s.en g).r 15).toNat - 0x40000000 + 4 * i))
    (h6 : (w 1).testBit 6 = false) (h7 : (w 1).testBit 7 = false) (h14 : (w 1).testBit 14 = false)
    (h17 : (w 1).testBit 17 = false) :
    ((s.en g).leaving = none → ∃ u, exec (.eret t g ⟨0, 0⟩) s = .next u ∧ u = { s with now := u.now, eng := u.eng } ∧
      u.en g = { ((s.en g).returned w).note (s.en g).pc (w 0) with
        pc := w 0, icount := (s.en g).icount + 1, bpPass := false }) ∧
    ((s.en g).leaving = some .fin → ∃ u, exec (.eret t g ⟨0, 0⟩) s = .next u ∧ (u.sch g).cur = none ∧ (u.en g).exl = false ∧
      (u.en g).leaving = none) := by
  obtain ⟨hx, hbr, hle⟩ := (s.plainNext_iff g).mp hp
  set k : InsKind := ⟨orFour (FmtX.ill ⟨0, 0⟩) (!(s.en g).exl), true, false, true⟩ with hk
  have hill : (s.en g).illegal k = none := ((s.en g).illegal_plain _ hbr hle).trans (by simp [hk, hexl]; rfl)
  have hok : (decide (g < 64) && FmtX.ok ⟨0, 0⟩) = true := by simp [hg]; rfl
  have hop := State.eretOp_returns (s := s.advance t) (g := g) hlow hhigh hal hbad hw h6 h7 h14 h17
  have hends : ((s.en g).returned w).ends (some (w 0)) none = { ((s.en g).returned w).note (s.en g).pc (w 0) with
      pc := w 0, icount := (s.en g).icount + 1, bpPass := false } :=
    Eng.ends_jump (e := (s.en g).returned w) hbr hx.noImp rfl hx.noStep hx.noHalt
  refine ⟨fun hstay => ?stays, fun hleave => ?leaves⟩
  case stays =>
    have hdone : (s.advance t).eretOp g = .ok ((s.advance t).modEn g (·.returned w)) none (some (w 0)) none := by
      rw [hop, State.en_advance, hstay]
    obtain ⟨u, hex, hframe, -, heng⟩ := exec_ends_eng (i := .eret t g ⟨0, 0⟩) (k := k) rfl hok hx.ready hx.fetched
      (Eng.checking_of_nil hx.noImp) (·.returned w) hill hdone hx.noDeadline hends
    exact ⟨u, hex, hframe, heng⟩
  case leaves =>
    have hdone : (s.advance t).eretOp g =
        .last ((((s.advance t).modEn g (·.returned w)).retire g (some (w 0))).leaveNow g .fin) := by
      rw [hop, State.en_advance, hleave]
    set r := ((s.advance t).modEn g (·.returned w)).retire g (some (w 0)) with hr
    have hen : r.en g = { ((s.en g).returned w).note (s.en g).pc (w 0) with
        pc := w 0, icount := (s.en g).icount + 1, bpPass := false } := by
      rw [hr, State.retire_ends (u := (s.advance t).modEn g (·.returned w)) hx.noDeadline, State.modEn_en, State.modEn_en, State.en_advance, hends]
    have hdue : (r.en g).due = none := by
      rw [hen]
      exact Eng.due_of_nil hx.noImp
    obtain ⟨hcur, hexl', hleft⟩ := State.leaveNow_fin hdue
    refine ⟨_, exec_last (i := .eret t g ⟨0, 0⟩) (k := k) rfl hok hx.ready hx.fetched (Eng.checking_of_nil hx.noImp) hill hdone,
      hcur, hexl'.trans ?_, hleft⟩
    rw [hen]
    rfl

end

/-- What an engine shows once it has returned from its handler. -/
theorem Eng.returned_shows {e e' : Eng} {w : Nat → Nat}
    (h : e' = { (e.returned w).note e.pc (w 0) with pc := w 0, icount := e.icount + 1, bpPass := false }) :
    e'.pc = w 0 ∧ e'.flags = w 1 % 16 ∧ e'.mode = w 2 % 16 ∧ e'.r 14 = BitVec.ofNat 32 (w 9) ∧
      e'.r 15 = BitVec.ofNat 32 ((e.r 15).toNat + 40) ∧ (∀ i, i < 14 → e'.r i = e.r i) ∧ e'.exl = false ∧
      e'.l0.act = false ∧ e'.l1.act = false ∧ e'.ecause = e.ecause ∧ e'.acc0 = e.acc0 ∧ e'.acc1 = e.acc1 := by
  rw [h]
  refine ⟨rfl, rfl, rfl, ?_, Eng.setR_r_same _ _ _, fun i hi => ?_, rfl, rfl, rfl, rfl, rfl, rfl⟩
  · exact (Eng.setR_r_ne _ _ _ _ (by decide)).trans (Eng.setR_r_same _ _ _)
  · exact (Eng.setR_r_ne _ _ _ _ (by omega)).trans (Eng.setR_r_ne _ _ _ _ (by omega))

theorem impreciseExceptionDue_shows {s : State} {t g : Nat} {x : Exc} {a : Nat} (hg : g < 64) (himp : (s.en g).imp = [⟨x, true, a, false⟩]) :
    ∃ u, exec (.impreciseExceptionDue t g) s = .next u ∧ u = { s with now := u.now, eng := u.eng } ∧
      u.en g = { s.en g with imp := [⟨x, true, a, true⟩] } := by
  refine ⟨_, s.ran_ok ((s.advance t).modEn g Eng.impDue) _ (by simp [hg]), rfl, ?_⟩
  rw [State.en_withQueue, State.modEn_en, State.en_advance, Eng.impDue, himp]
  rfl

/-- Settles O23: the entry by the frame and the registers it writes, the escalation, and the return by the frame it reads. -/
theorem exceptions : Obligations.Exceptions := by
  unfold Obligations.Exceptions
  refine ⟨?entry, ?eret⟩
  case entry =>
    intro t g x s hg hfault hbal hhold hinbal hrun hhalted
    refine ⟨?enters, ?escalates⟩
    case enters =>
      intro hexl hbase hal hlim htop hcause hsub hmodeP hstep hhalt hflags hmode hpois
      exact exceptionEntry_shows hg hfault hbal hhold hinbal hrun hhalted hexl hbase hal hlim htop hcause hsub hmodeP hstep
        hhalt hflags hmode hpois
    case escalates => exact exceptionEntry_escalates hg hfault hbal hhold hinbal hrun hhalted
  case eret =>
    intro t g s hg e o w
    refine ⟨?returns, fun x a => impreciseExceptionDue_shows hg⟩
    case returns =>
      intro hp hexl hlow hhigh hal hbad h6 h7 h14 h17
      obtain ⟨hback, hleave⟩ := exec_eret_returns (t := t) hg hp hexl hlow hhigh hal hbad rfl h6 h7 h14 h17
      refine ⟨hleave, fun hstay => ?_⟩
      obtain ⟨u, hex, hframe, heng⟩ := hback hstay
      exact ⟨u, hex, hframe, Eng.returned_shows heng⟩

end Sys2Proof.Machine
end

section
/-! PROOFS. Ballast (chapter 4): what raising an event leaves alone, and the request, the recognition, the dump and the clearing of
ballast. -/
namespace Sys2Proof.Machine
open Reg

/-! ### What raising an event may change (R131, R135, R299, R349) -/

/-- `u` is `s` but for the registers, the routers, the tether and the wake log. -/
def eventSide (s u : State) : Prop := u = { s with regs := u.regs, fab := u.fab, tp := u.tp, teth := u.teth, pw := u.pw }

theorem eventSide.refl (s : State) : eventSide s s := (rfl)

theorem eventSide.trans {s u v : State} (h : eventSide s u) (k : eventSide u v) : eventSide s v := by
  unfold eventSide at *
  rw [k, h]

theorem eventSide.foldl {α : Type} {f : State → α → State} (h : ∀ s x, eventSide s (f s x)) (l : List α) (s : State) :
    eventSide s (l.foldl f s) := by
  induction l generalizing s with
  | nil => exact .refl s
  | cons x r ih => exact (h s x).trans (ih (f s x))

theorem eventSide.wr (s : State) (F : RField) (v n i : Nat) : eventSide s (s.wr F v n i) := (rfl)
theorem eventSide.cnt (s : State) (F : RField) (k n i : Nat) : eventSide s (s.cnt F k n i) := (rfl)
theorem eventSide.modTp (s : State) (p : Nat) (f : TpH → TpH) : eventSide s (s.modTp p f) := (rfl)
theorem eventSide.modRouter (s : State) (r : Nat) (f : Router → Router) : eventSide s (s.modRouter r f) := (rfl)

theorem eventSide.withTeth (s : State) (x : TethD) : eventSide s { s with teth := x } := (rfl)
theorem eventSide.withPw (s : State) (x : PwrH) : eventSide s { s with pw := x } := (rfl)

theorem eventSide.tPush (s : State) (p : Nat) (m : TMsg) : eventSide s (s.tPush p m) := by
  rw [State.tPush]
  split
  · exact .refl s
  · split
    · exact .modTp _ _ _
    · exact (eventSide.cnt _ _ _ _ _).trans (.modTp _ _ _)

theorem eventSide.tSend (s : State) (d : Nat) (i : TItem) : eventSide s (s.tSend d i) := by
  rw [State.tSend]
  split
  · refine (eventSide.withTeth s _).trans (eventSide.foldl (fun u p => ?_) _ _)
    split
    · exact .tPush _ _ _
    · exact .refl u
  · split
    · exact (eventSide.withTeth s _).trans (.tPush _ _ _)
    · exact eventSide.withTeth s _

theorem eventSide.exportEv (s : State) (ev : Ev) : eventSide s (s.exportEv ev) := by
  rw [State.exportEv]
  split
  · exact .refl s
  · refine eventSide.foldl (fun u e => ?_) _ _
    exact (eventSide.withTeth u _).trans (.tSend _ _ _)

theorem eventSide.dropEvent (s : State) (r : Nat) : eventSide s (s.dropEvent r) := by
  have hcount := (eventSide.cnt s EVDROP.COUNT 1 0 0).trans (.modRouter _ r (fun x => { x with dropped := x.dropped + 1 }))
  rw [State.dropEvent]
  dsimp only
  split
  · split
    · exact (hcount.trans (.modRouter _ _ _)).trans (.modRouter _ _ _)
    · exact ((hcount.trans (.modRouter _ _ _)).trans (.cnt _ _ _ _ _)).trans (.modRouter _ _ _)
  · exact hcount

theorem eventSide.issue (s : State) (ev : Ev) : eventSide s (s.issue ev) := by
  rw [State.issue]
  dsimp only
  generalize (if ev.id < 6144 then (s.router (s.routerOf ev.id)).gated ev.id else some false) = gate
  split
  · exact .refl s
  · split
    · exact .cnt _ _ _ _ _
    · split
      · exact .dropEvent _ _
      · split
        · exact (eventSide.modRouter _ _ _).trans (.exportEv _ _)
        · exact .modRouter _ _ _

theorem eventSide.wakeLog (s : State) (ev : Ev) : eventSide s (s.wakeLog ev) := by
  rw [State.wakeLog]
  split
  · rfl
  · exact (eventSide.withPw s _).trans (.cnt _ _ _ _ _)

theorem eventSide.raiseEv (s : State) (ev : Ev) : eventSide s (s.raiseEv ev) := by
  rw [State.raiseEv]
  split
  · rfl
  · split
    · exact .wakeLog _ _
    · exact .issue _ _

theorem eventSide.raise (s : State) (id d : Nat) : eventSide s (s.raise id d) := .raiseEv _ _
theorem eventSide.raiseAt (s : State) (id d ts : Nat) : eventSide s (s.raiseAt id d ts) := .raiseEv _ _

theorem eventSide.mem {s u : State} (h : eventSide s u) : u.mem = s.mem := by rw [h]
theorem eventSide.en {s u : State} (h : eventSide s u) (g : Nat) : u.en g = s.en g := by rw [h]; rfl
theorem eventSide.sch {s u : State} (h : eventSide s u) (g : Nat) : u.sch g = s.sch g := by rw [h]; rfl

/-- The registers from the engines' on are none of those that raising an event may change. -/
theorem evReg_of_engine {a : Nat} (h : 0x1000000 ≤ a) : evReg a = false := by
  have hne (b : Nat) (hb : b < 0x1000000) : (a == b) = false := beq_eq_false_iff_ne.mpr (by omega)
  simp only [evReg, Bool.or_eq_false_iff]
  refine ⟨⟨⟨hne _ (by decide), hne _ (by decide)⟩, hne _ (by decide)⟩, List.any_eq_false.mpr fun p hp => ?_⟩
  have hp4 := (upFrom_mem _ _ _).mp hp
  rw [hne _ (by simp only [RField.adr, blkBase, TXDROP.COUNT]; omega)]
  simp

/-! ### Requests for ballast (R111) -/

section
variable {s : State} {g : Nat}

/-- A field of one bit of a word. -/
theorem RField.of_bit {F : RField} (hF : F.len = 1) (w : Word) : F.of w = (w.toNat.testBit F.lo).toNat := by
  rw [RField.of, bitsAt, hF, Nat.toNat_testBit, pow_one]

/-- A field of one bit of a word in which the bits of `k` are set. -/
theorem RField.of_bit_or {F : RField} (hF : F.len = 1) (v k : Word) :
    F.of (v ||| k) = (v.toNat.testBit F.lo || k.toNat.testBit F.lo).toNat := by
  rw [RField.of_bit hF, BitVec.toNat_or, Nat.testBit_or]

theorem RField.of_bit_set {F : RField} (hF : F.len = 1) {k : Word} (hk : k.toNat.testBit F.lo = true) (v : Word) :
    F.of (v ||| k) = 1 := by
  rw [RField.of_bit_or hF, hk, Bool.or_true]
  rfl

theorem RField.of_bit_kept {F : RField} (hF : F.len = 1) {k : Word} (hk : k.toNat.testBit F.lo = false) (v : Word) :
    F.of (v ||| k) = v.toNat / 2 ^ F.lo % 2 := by
  rw [RField.of_bit_or hF, hk, Bool.or_false, Nat.toNat_testBit]

/-- The fields that a write of BALCTL sets. -/
def State.balctl (s : State) (g : Nat) (w : Word) : State :=
  (s.wr BALCTL.AUTORST (BALCTL.AUTORST.of w) g).wr BALCTL.SAFE (BALCTL.SAFE.of w) g

theorem State.balctlWrite_request {w : Word} (hclr : BALCTL.BALCLR.of w = 0) (hreq : BALCTL.BALREQ.of w = 1) :
    s.balctlWrite g w = (s.balctl g w).askBallast g 7 (s.en g).pc 0 0 := by
  rw [State.balctlWrite]
  rw [if_neg (c := BALCTL.BALCLR.of w = 1) (by omega), if_pos hreq]
  rfl

theorem State.balctlWrite_clear {w : Word} (hclr : BALCTL.BALCLR.of w = 1) (hreq : BALCTL.BALREQ.of w = 0) :
    s.balctlWrite g w = (s.balctl g w).balclr g := by
  rw [State.balctlWrite]
  rw [if_pos hclr, if_neg (by rw [hreq]; decide)]
  rfl

/-- The first and the last words of a dump (R114). -/
theorem State.dumpWords_shape (s : State) (g : Nat) (b : BalReq) (stat count : Nat) (h : (s.en g).trace.length ≤ 64) :
    (s.dumpWords g b stat count).length = 512 ∧ (s.dumpWords g b stat count).getD 4 0 = b.pc ∧
      (s.dumpWords g b stat count).getD 6 0 = b.ecause ∧
      (∀ i, i < 16 → (s.dumpWords g b stat count).getD (8 + i) 0 = ((s.en g).r i).toNat) ∧
      (s.dumpWords g b stat count).getD 28 0 = (s.en g).flags := by
  refine ⟨?length, rfl, rfl, ?regs, rfl⟩
  case length =>
    have hrow (k n : Nat) : (upFrom k n).length = n := upFrom_length k n
    have hpairs (l : List (Nat × Nat)) : (l.flatMap (fun (a, b) => [a, b])).length = 2 * l.length := by
      induction l with
      | nil => rfl
      | cons x r ih => rw [List.flatMap_cons, List.length_append, ih, List.length_cons]; exact Nat.add_comm _ _
    simp only [State.dumpWords, List.length_append, List.length_map, hrow, hpairs, List.length_replicate, List.length_reverse,
      twoWords, List.length_cons, List.length_nil]
    omega
  case regs =>
    intro i hi
    simp only [State.dumpWords, List.append_assoc]
    refine (List.getD_append_right _ _ _ _ (Nat.le_add_right 8 i)).trans ?_
    change List.getD _ (8 + i - 8) 0 = _
    rw [Nat.add_sub_cancel_left, List.getD_append _ _ _ _ (by simpa [upFrom_length] using hi),
      List.getD_eq_getElem _ _ (by simpa [upFrom_length] using hi), List.getElem_map, upFrom_getElem]
    simp

end

/-! ### Recognition (R112, R114) -/

theorem State.sch_withQueue (s : State) (q : List Instr) (g : Nat) : (s.withQueue q).sch g = s.sch g := (rfl)

theorem State.wr_en (s : State) (F : RField) (v n i g : Nat) : (s.wr F v n i).en g = s.en g := (rfl)

theorem State.inc_en (s : State) (F : RField) (k n i g : Nat) : (s.inc F k n i).en g = s.en g := (rfl)

/-- The registers and the engine once ballast is recognised, before the dump is laid out. -/
def State.inBallast (s : State) (g : Nat) (b : BalReq) : State :=
  (((s.modEn g (fun e => { e with hold := none, fault := none, prec := none })).inc BALSTAT.COUNT 1 g).wr BALSTAT.BCAUSE b.cause
    g).wr BALSTAT.INBAL 1 g

section
variable (s : State) (g : Nat) (b : BalReq)

theorem State.inBallast_en : (s.inBallast g b).en g = { s.en g with hold := none, fault := none, prec := none } := by
  rw [State.inBallast, State.wr_en, State.wr_en, State.inc_en, State.modEn_en]

theorem State.inBallast_mem : (s.inBallast g b).mem = s.mem := by
  rw [State.inBallast, State.wr_mem, State.wr_mem, State.inc_mem, State.modEn_mem]

theorem State.inBallast_inbal : (s.inBallast g b).rd BALSTAT.INBAL g = 1 := by
  rw [State.inBallast, State.wr_rd _ _ _ _ _ (by decide)]
  rfl

theorem State.inBallast_bcause (hb : b.cause < 8) : (s.inBallast g b).rd BALSTAT.BCAUSE g = b.cause := by
  rw [State.inBallast, State.wr_rd_other _ _ _ _ _ _ _ _ (by decide) (by decide), State.wr_rd _ _ _ _ _ (by decide)]
  exact Nat.mod_eq_of_lt hb

theorem State.inBallast_count : (s.inBallast g b).rd BALSTAT.COUNT g = (s.rd BALSTAT.COUNT g + 1) % 2 ^ 16 := by
  rw [State.inBallast, State.wr_rd_other _ _ _ _ _ _ _ _ (by decide) (by decide),
    State.wr_rd_other _ _ _ _ _ _ _ _ (by decide) (by decide), State.inc_rd _ _ _ _ _ (by decide)]
  rfl

theorem State.inBallast_safe : (s.inBallast g b).rd BALCTL.SAFE g = s.rd BALCTL.SAFE g := by
  have hne (F : RField) (hF : F.blk = .eng ∧ F.off = 0x64 ∧ F.stride = 0) (u : State) (v : Nat) :
      (u.wr F v g).rd BALCTL.SAFE g = u.rd BALCTL.SAFE g :=
    State.wr_rd_ne _ _ _ _ _ _ _ _ (by
      obtain ⟨hblk, hoff, -⟩ := hF
      simp only [RField.adr, hblk, hoff, blkBase, BALCTL.SAFE]
      omega)
  rw [State.inBallast, hne _ (by decide), hne _ (by decide), State.inc, hne _ (by decide), State.modEn_rd]

end

theorem State.withTko_rd (s : State) (x : Option Tko) (F : RField) (n i : Nat) : ({ s with tko := x } : State).rd F n i = s.rd F n i :=
  (rfl)

theorem State.withTko_en (s : State) (x : Option Tko) (g : Nat) : ({ s with tko := x } : State).en g = s.en g := (rfl)

theorem State.withTko_mem (s : State) (x : Option Tko) : ({ s with tko := x } : State).mem = s.mem := (rfl)

/-- Recognition where no dump is stored or being written: the dump begins (R112). -/
theorem State.recognise_dumps {s : State} {g : Nat} {b : BalReq} (hdump : (s.en g).dump = none)
    (hpend : s.on BALSTAT.PEND g = false) (hsafe : s.on BALCTL.SAFE g = false) (hcause : b.cause ≠ 6) :
    ∃ w : State, (∀ F, F.blk = .eng → F.adr g 0 < BALSEC.SEC.adr 0 0 → w.rd F g = (s.inBallast g b).rd F g) ∧ w.en g = (s.inBallast g b).en g ∧ w.mem = s.mem ∧
      s.recognise g b = w.modEn g (fun e =>
        { e with dump := some (w.dumpWords g b (s.engstatWord g) (w.rd BALSTAT.COUNT g)), dumpCause := b.cause }) := by
  delta State.recognise
  extract_lets stat old s1 s2 s3 s4 s5 sb p s6 ws
  have hold : ¬ old = true := by simp [old, hdump, hpend]
  have h2 : s2 = s.inBallast g b := rfl
  have h3 : s3 = s2 := if_neg (by rw [h2, State.on, State.inBallast_safe]; simpa [State.on] using hsafe)
  have h4 : s4 = s3 := if_neg hcause
  rw [if_neg hold]
  have hrd (F : RField) (n i : Nat) : s5.rd F n i = (s.inBallast g b).rd F n i := by
    rw [State.withTko_rd, h4, h3, h2]
  have hsec (F : RField) (hF : F.blk = .eng) (hoff : F.adr g 0 < BALSEC.SEC.adr 0 0) : s6.rd F g = s5.rd F g :=
    State.wr_rd_ne _ _ _ _ _ _ _ _ (by
      have : BALSEC.SEC.adr 0 (p / 32) = BALSEC.SEC.adr 0 0 + 4 * (p / 32) := by
        simp only [RField.adr, BALSEC.SEC, blkBase]
      omega)
  refine ⟨s6, fun F hF hoff => (hsec F hF hoff).trans (hrd F g 0), ?engine, ?memory, rfl⟩
  case engine => rw [State.wr_en, State.withTko_en, h4, h3, h2]
  case memory => rw [State.wr_mem, State.withTko_mem, h4, h3, h2, State.inBallast_mem]

/-! ### The dump (R112, R113) -/

/-- The words of a row stored in secure SRAM. -/
theorem State.secStore_word (s : State) (o : Nat) (l : List Nat) (i : Nat) (hi : i < l.length) :
    ofBytes ((s.secStore o (l.flatMap (toBytes 4))).mem.secBytes (o + 4 * i) 4) = l.getD i 0 % 2 ^ 32 := by
  have hlen := length_flatMap_toBytes l
  rw [Mem.secBytes, State.secStore, Mem.secPut_eq, Store.puts_read _ _ _ _ _ (by omega), ofBytes_word l i hi]

theorem State.secStore_sram (s : State) (o : Nat) (d : List Byte) : (s.secStore o d).mem.sram = s.mem.sram := by
  rw [State.secStore, Mem.secPut_eq]

theorem State.secStore_lm (s : State) (o : Nat) (d : List Byte) : (s.secStore o d).mem.lm = s.mem.lm := by
  rw [State.secStore, Mem.secPut_eq]

theorem State.secStore_en (s : State) (o : Nat) (d : List Byte) (g : Nat) : (s.secStore o d).en g = s.en g := (rfl)

theorem State.secStore_rd (s : State) (o : Nat) (d : List Byte) (F : RField) (n i : Nat) : (s.secStore o d).rd F n i = s.rd F n i :=
  (rfl)

theorem State.dumpWrite_all {s : State} {g h : Nat} {r : List Nat} (hwipe : s.on TAMPSTAT.WIPING = false) :
    s.dumpWrite g 512 (h :: r) = s.secStore (0x5E000 + s.phys g * 0x800) (((h + 2 ^ 31) :: r).flatMap (toBytes 4)) := by
  rw [State.dumpWrite, hwipe]
  rfl

theorem State.dumpWrite_rd (s : State) (g n : Nat) (ws : List Nat) (F : RField) (k i : Nat) :
    (s.dumpWrite g n ws).rd F k i = s.rd F k i :=
  State.secStore_rd _ _ _ _ _ _

theorem eventSide.evBallast (s : State) (g c : Nat) : eventSide s (s.evBallast g c) := .raise _ _ _

theorem State.evBallast_rd (s : State) (g c : Nat) (F : RField) (n : Nat) (h : 0x1000000 ≤ F.adr n 0) :
    (s.evBallast g c).rd F n = s.rd F n :=
  State.raise_rd _ _ _ _ _ _ (evReg_of_engine h)

/-- A dump ends, and nothing waits on it. -/
theorem State.dumpDone_plain {s : State} {g n : Nat} {ws : List Nat} (hdump : (s.en g).dump = some ws)
    (hwait : (s.en g).clrWait = false) (hauto : s.on BALCTL.AUTORST g = false) :
    s.dumpDone g n = ((((s.dumpWrite g n ws).modEn g (fun e => { e with dump := none, clrWait := false })).wr BALSTAT.PEND 1
      g).evBallast g (s.en g).dumpCause) := by
  delta State.dumpDone
  extract_lets e
  have he : e.dump = some ws := hdump
  have hw : ¬ e.clrWait = true := by simp [e, hwait]
  rw [he]
  dsimp -zeta only
  extract_lets s1 s2
  have hauto' : ¬ s2.on BALCTL.AUTORST g = true := by
    rw [State.on, State.evBallast_rd _ _ _ _ _ (by simp only [RField.adr, blkBase, BALCTL.AUTORST]; omega),
      State.wr_rd_ne _ _ _ _ _ _ _ _ (by simp only [RField.adr, blkBase, BALCTL.AUTORST, BALSTAT.PEND]; omega), State.modEn_rd,
      State.dumpWrite_rd, ← State.on, hauto]
    decide
  rw [if_neg hw, if_neg hauto']

/-! ### BALCLR (R115) -/

theorem State.drainAll_nil {s : State} {g : Nat} (h : (s.en g).posted = []) :
    s.drainAll g = s.modEn g (fun e => { e with posted := [] }) := by
  rw [State.drainAll, h]
  rfl

/-- The engine as a reset leaves it (R94, R95). -/
def Eng.wiped (e : Eng) : Eng :=
  { e with
    w := [], acc0 := 0, acc1 := 0, flags := 0, mode := 0, modeP := [], l0 := { e.l0 with act := false },
    l1 := { e.l1 with act := false }, br := none, posted := [], hold := none, fault := none, prec := none, imp := [],
    multi := false, exl := false, bal := [], dump := none, clrWait := false, leaving := none, halted := false, haltReq := false,
    stepping := false }

/-- `u` is `s` but for the slots and the schedulers. -/
def taskSide (s u : State) : Prop := u = { s with slot := u.slot, sched := u.sched }

theorem taskSide.refl (s : State) : taskSide s s := (rfl)

theorem taskSide.trans {s u v : State} (h : taskSide s u) (k : taskSide u v) : taskSide s v := by
  unfold taskSide at *
  rw [k, h]

theorem taskSide.modTs (s : State) (g k : Nat) (f : TSlot → TSlot) : taskSide s (s.modTs g k f) := (rfl)
theorem taskSide.modSch (s : State) (g : Nat) (f : Sched → Sched) : taskSide s (s.modSch g f) := (rfl)

theorem taskSide.decideSch (s : State) (g : Nat) : taskSide s (s.decide_ g) := by
  rw [State.decide_]
  split
  · exact .modSch _ _ _
  · exact .refl s

theorem taskSide.lookAt (s : State) (g k : Nat) : taskSide s (s.lookAt g k) := by
  rw [State.lookAt]
  split
  · split
    · exact ((taskSide.modTs _ _ _ _).trans (.modSch _ _ _)).trans (.decideSch _ _)
    · exact .refl s
  · split
    · exact .refl s
    · exact (taskSide.modTs _ _ _ _).trans (.modSch _ _ _)
  · exact .refl s

theorem taskSide.foldl {α : Type} {f : State → α → State} (h : ∀ s x, taskSide s (f s x)) (l : List α) (s : State) :
    taskSide s (l.foldl f s) := by
  induction l generalizing s with
  | nil => exact .refl s
  | cons x r ih => exact (h s x).trans (ih (f s x))

theorem taskSide.mem {s u : State} (h : taskSide s u) : u.mem = s.mem := by rw [h]
theorem taskSide.regs {s u : State} (h : taskSide s u) : u.regs = s.regs := by rw [h]
theorem taskSide.en {s u : State} (h : taskSide s u) (g : Nat) : u.en g = s.en g := by rw [h]; rfl

/-- What the tail of an engine reset does: its slots take up their conditions again. -/
theorem State.engReset_frame {s : State} {g : Nat} (h : (s.en g).posted = []) :
    (s.engReset g).en g = (s.en g).wiped ∧ (s.engReset g).mem = s.mem ∧ (s.engReset g).regs = s.regs ∧
      ((s.engReset g).sch g).cur = none := by
  delta State.engReset
  extract_lets s1 s2 s3
  have h1 : s1 = s.modEn g (fun e => { e with posted := [] }) := State.drainAll_nil h
  have hslot (u : State) (k : Nat) : taskSide u ((if (u.ts g k).st = .ready then u else
      u.modTs g k (fun x => { x with st := .idle, snap := [], modeP := [] })).lookAt g k) := by
    split
    · exact .lookAt _ _ _
    · exact (taskSide.modTs _ _ _ _).trans (.lookAt _ _ _)
  have hcur (u : State) (k : Nat) : (((if (u.ts g k).st = .ready then u else
      u.modTs g k (fun x => { x with st := .idle, snap := [], modeP := [] })).lookAt g k).sch g).cur = (u.sch g).cur := by
    rw [State.lookAt_cur]
    split <;> rfl
  have hside := taskSide.foldl hslot (upFrom 0 64) s3
  have hthree : taskSide s2 s3 := .modSch _ _ _
  refine ⟨?engine, ?memory, ?registers, ?current⟩
  case engine =>
    rw [hside.en, hthree.en, State.modEn_en, h1, State.modEn_en]
    rfl
  case memory => rw [hside.mem, hthree.mem, State.modEn_mem, h1, State.modEn_mem]
  case registers => rw [hside.regs, hthree.regs, State.modEn_regs, h1, State.modEn_regs]
  case current =>
    rw [foldl_keep (fun u => (u.sch g).cur) _ hcur]
    exact congrArg Sched.cur (State.modSch_sch _ _ _)

/-- A clear of an engine in ballast, with no dump on its way (R115). -/
theorem State.balclr_inBallast {s : State} {g : Nat} (hdump : (s.en g).dump = none) (hin : s.on BALSTAT.INBAL g = true) :
    s.balclr g = (((s.wr BALSTAT.PEND 0 g).wr BALSTAT.INBAL 0 g).wr ENGCTL.RUN 0 g).engReset g := by
  have hin' : (s.wr BALSTAT.PEND 0 g).on BALSTAT.INBAL g = true := by
    rw [State.on, State.wr_rd_other _ _ _ _ _ _ _ _ (by decide) (by decide)]
    exact hin
  delta State.balclr
  rw [if_neg (by simp [hdump])]
  exact if_pos hin'

theorem State.cleared_rd (s : State) (g : Nat) :
    let u := ((s.wr BALSTAT.PEND 0 g).wr BALSTAT.INBAL 0 g).wr ENGCTL.RUN 0 g
    u.rd BALSTAT.PEND g = 0 ∧ u.rd BALSTAT.INBAL g = 0 ∧ u.rd ENGCTL.RUN g = 0 := by
  have hne (F : RField) (hF : F.blk = .eng ∧ F.off = 0x64 ∧ F.stride = 0) (v : State) :
      (v.wr ENGCTL.RUN 0 g).rd F g = v.rd F g :=
    State.wr_rd_ne _ _ _ _ _ _ _ _ (by
      obtain ⟨hblk, hoff, -⟩ := hF
      simp only [RField.adr, hblk, hoff, blkBase, ENGCTL.RUN]
      omega)
  refine ⟨?_, ?_, ?_⟩
  · rw [hne _ (by decide), State.wr_rd_other _ _ _ _ _ _ _ _ (by decide) (by decide), State.wr_rd _ _ _ _ _ (by decide)]
    rfl
  · rw [hne _ (by decide), State.wr_rd _ _ _ _ _ (by decide)]
    rfl
  · rw [State.wr_rd _ _ _ _ _ (by decide)]
    rfl

theorem State.balctl_rd (s : State) (g : Nat) (w : Word) :
    (s.balctl g w).rd BALCTL.AUTORST g = BALCTL.AUTORST.of w % 2 ∧ (s.balctl g w).rd BALCTL.SAFE g = BALCTL.SAFE.of w % 2 ∧
      (s.balctl g w).rd BALSTAT.INBAL g = s.rd BALSTAT.INBAL g := by
  have hne (F : RField) (hF : F.blk = .eng ∧ F.off = 0x60 ∧ F.stride = 0) (v : State) (x : Nat) :
      (v.wr F x g).rd BALSTAT.INBAL g = v.rd BALSTAT.INBAL g :=
    State.wr_rd_ne _ _ _ _ _ _ _ _ (by
      obtain ⟨hblk, hoff, -⟩ := hF
      simp only [RField.adr, hblk, hoff, blkBase, BALSTAT.INBAL]
      omega)
  refine ⟨?_, ?_, ?_⟩
  · rw [State.balctl, State.wr_rd_other _ _ _ _ _ _ _ _ (by decide) (by decide), State.wr_rd _ _ _ _ _ (by decide)]
    rfl
  · rw [State.balctl, State.wr_rd _ _ _ _ _ (by decide)]
    rfl
  · rw [State.balctl, hne _ (by decide), hne _ (by decide)]

/-- Settles O24: the request, `State.recognise`, `State.dumpDone` and `State.balclr`, each by what it does to the engine. -/
theorem ballast : Obligations.Ballast := by
  unfold Obligations.Ballast
  intro t g src v s hg hsrc happ
  refine ⟨?request, ?recognition, ?dump, ?clear⟩
  case request =>
    intro hv
    have hclr : BALCTL.BALCLR.of (v ||| 0x80000000) = 0 := by
      rw [RField.of_bit_kept rfl (by decide), ← Nat.toNat_testBit]
      exact congrArg Bool.toNat hv
    have hreq : BALCTL.BALREQ.of (v ||| 0x80000000) = 1 := RField.of_bit_set rfl (by decide) v
    have hauto : BALCTL.AUTORST.of (v ||| 0x80000000) = v.toNat / 2 % 2 := RField.of_bit_kept rfl (by decide) v
    have hsafe : BALCTL.SAFE.of (v ||| 0x80000000) = v.toNat % 2 :=
      (RField.of_bit_kept rfl (by decide) v).trans (congrArg (· % 2) (Nat.div_one _))
    have hex := does_of_applies (i := .balctlBalreq t src g v) (t := t) happ rfl (by simp [hsrc, hg])
    have hwrite := State.balctlWrite_request (s := s.advance t) (g := g) hclr hreq
    obtain ⟨hauto', hsafe', -⟩ := (s.advance t).balctl_rd g (v ||| 0x80000000)
    rw [does, hwrite] at hex
    refine ⟨_, hex, rfl, ?_, ?_, ?_⟩
    · rw [State.en_withQueue, State.askBallast, State.modEn_en, State.balctl, State.wr_en, State.wr_en, State.en_advance]
    · exact hauto'.trans (by rw [hauto, Nat.mod_mod])
    · exact hsafe'.trans (by rw [hsafe, Nat.mod_mod])
  case recognition =>
    intro b r hbal hdump hpend hsafe hlow hhigh hpar htrace
    set b' : BalReq := if b.cause = 7 then { b with pc := (s.en g).pc } else b with hb'
    have hcause : b'.cause = b.cause := by rw [hb']; split <;> rfl
    have hpc : b'.pc = if b.cause = 7 then (s.en g).pc else b.pc := by rw [hb']; split <;> rfl
    have hecause : b'.ecause = b.ecause := by rw [hb']; split <;> rfl
    set a := (s.advance t).modEn g (fun e => { e with bal := r }) with ha
    have hen : a.en g = { s.en g with bal := r } := by rw [ha, State.modEn_en, State.en_advance]
    have hentry : (s.advance t).ballastEntry g false = a.recognise g b' := by
      rw [State.ballastEntry, if_neg (by decide), State.en_advance, hbal]
    obtain ⟨w, hrd, hwen, hwmem, hrec⟩ := State.recognise_dumps (s := a) (g := g) (b := b') (by rw [hen]; exact hdump) hpend hsafe
      (by rw [hcause]; exact hpar)
    set ws := w.dumpWords g b' (a.engstatWord g) (w.rd BALSTAT.COUNT g) with hws
    have hwen' : w.en g = { s.en g with bal := r, hold := none, fault := none, prec := none } := by
      rw [hwen, State.inBallast_en, hen]
    have hbelow (F : RField) (hF : F.blk = .eng ∧ F.off = 0x64 ∧ F.stride = 0) : w.rd F g = (a.inBallast g b').rd F g := by
      obtain ⟨hblk, hoff, -⟩ := hF
      refine hrd F hblk ?_
      have hsec : BALSEC.SEC.adr 0 0 = 46137600 := by decide
      simp only [RField.adr, hblk, hoff, blkBase] at hsec ⊢
      omega
    have htrace' : (w.en g).trace.length ≤ 64 := by rw [hwen']; exact htrace
    obtain ⟨hlen, hw4, hw6, hregs, hflags⟩ := State.dumpWords_shape w g b' (a.engstatWord g) (w.rd BALSTAT.COUNT g) htrace'
    refine ⟨_, ws, s.ran_ok ((s.advance t).ballastEntry g false) _ (by simp [hg]), ?_⟩
    rw [hentry, hrec, State.on_withQueue, State.on_modEn, State.withQueue_rd, State.modEn_rd, State.withQueue_rd, State.modEn_rd,
      State.en_withQueue, State.modEn_en, State.on, hbelow _ (by decide), hbelow _ (by decide), hbelow _ (by decide),
      State.inBallast_inbal, State.inBallast_bcause _ _ _ (by omega), State.inBallast_count, hwen', hws, hw4, hw6, hflags, hwen']
    refine ⟨rfl, hcause, rfl, rfl, hlen, hpc, hecause, fun i hi => ?_, rfl, rfl, rfl, ?_⟩
    · rw [hregs i hi, hwen']
      rfl
    · rw [State.withQueue_mem, State.modEn_mem, hwmem]
      rfl
  case dump =>
    intro h r hdump hwait hauto hwipe hlen hlt hh
    have hwords : (s.advance t).dumpWrite g 512 (h :: r) =
        (s.advance t).secStore (0x5E000 + s.phys g * 0x800) (((h + 2 ^ 31) :: r).flatMap (toBytes 4)) :=
      State.dumpWrite_all hwipe
    have hdone := State.dumpDone_plain (s := s.advance t) (g := g) (n := 512) hdump hwait hauto
    rw [hwords] at hdone
    set b := (s.advance t).secStore (0x5E000 + s.phys g * 0x800) (((h + 2 ^ 31) :: r).flatMap (toBytes 4)) with hb
    set c := (b.modEn g (fun e => { e with dump := none, clrWait := false })).wr BALSTAT.PEND 1 g with hc
    have hev := eventSide.evBallast c g ((s.advance t).en g).dumpCause
    have hmem : (c.evBallast g ((s.advance t).en g).dumpCause).mem = b.mem := by
      rw [hev.mem, hc, State.wr_mem, State.modEn_mem]
    have hword (i : Nat) (hi : i < 512) := State.secStore_word (s.advance t) (0x5E000 + s.phys g * 0x800) ((h + 2 ^ 31) :: r) i
      (by rw [List.length_cons] at hlen ⊢; omega)
    refine ⟨_, s.ran_ok ((s.advance t).dumpDone g 512) _ (by simp [hg]), ?_⟩
    rw [hdone, State.on_withQueue, State.en_withQueue, State.withQueue_mem, hmem, hev.en, State.on,
      State.evBallast_rd _ _ _ _ _ (by simp only [RField.adr, blkBase, BALSTAT.PEND]; omega), hc,
      State.wr_rd _ _ _ _ _ (by decide), State.wr_en, State.modEn_en, Nat.mul_comm 0x800]
    refine ⟨rfl, rfl, ?_, fun i hi => ?_, State.secStore_sram _ _ _, State.secStore_lm _ _ _⟩
    · exact (hword 0 (by decide)).trans (Nat.mod_eq_of_lt (by change h + 2 ^ 31 < _; omega))
    · refine (hword (i + 1) (by omega)).trans ?_
      rw [List.getD_cons_succ]
      refine Nat.mod_eq_of_lt (hlt _ (List.mem_cons_of_mem _ ?_))
      have hir : i < r.length := by
        rw [List.length_cons] at hlen
        omega
      rw [List.getD_eq_getElem _ _ hir]
      exact List.getElem_mem hir
  case clear =>
    intro hdump hposted hin hv
    have hreq : BALCTL.BALREQ.of (v ||| 0x40000000) = 0 := by
      rw [RField.of_bit_kept rfl (by decide), ← Nat.toNat_testBit]
      exact congrArg Bool.toNat hv
    have hclr : BALCTL.BALCLR.of (v ||| 0x40000000) = 1 := RField.of_bit_set rfl (by decide) v
    have hex := does_of_applies (i := .balctlBalclr t src g v) (t := t) happ rfl (by simp [hsrc, hg])
    have hwrite := State.balctlWrite_clear (s := s.advance t) (g := g) hclr hreq
    obtain ⟨-, -, hinbal⟩ := (s.advance t).balctl_rd g (v ||| 0x40000000)
    set a := (s.advance t).balctl g (v ||| 0x40000000) with ha
    have hen : a.en g = s.en g := by rw [ha, State.balctl, State.wr_en, State.wr_en, State.en_advance]
    have hmem : a.mem = s.mem := by rw [ha, State.balctl, State.wr_mem, State.wr_mem, State.advance_mem]
    have hin' : a.on BALSTAT.INBAL g = true := by
      rw [State.on, hinbal, State.advance_rd]
      exact hin
    have hclear := State.balclr_inBallast (s := a) (g := g) (by rw [hen]; exact hdump) hin'
    obtain ⟨hpend0, hin0, hrun0⟩ := a.cleared_rd g
    set c := ((a.wr BALSTAT.PEND 0 g).wr BALSTAT.INBAL 0 g).wr ENGCTL.RUN 0 g with hc
    have hcen : c.en g = s.en g := by rw [hc, State.wr_en, State.wr_en, State.wr_en, hen]
    obtain ⟨hren, hrmem, hrregs, hrcur⟩ := State.engReset_frame (s := c) (g := g) (by rw [hcen]; exact hposted)
    have hrd (F : RField) : (c.engReset g).rd F g = c.rd F g := State.rd_of_regs _ _ F g 0 hrregs
    rw [does, hwrite] at hex
    refine ⟨_, hex, ?_⟩
    rw [hclear, State.on_withQueue, State.on_withQueue, State.on_withQueue, State.en_withQueue, State.withQueue_mem, State.on,
      State.on, State.on, hrd, hrd, hrd, hpend0, hin0, hrun0, hren, hrmem, State.sch_withQueue]
    refine ⟨rfl, rfl, rfl, fun i => rfl, rfl, rfl, hrcur, ?_⟩
    rw [hc, State.wr_mem, State.wr_mem, State.wr_mem, hmem]

end Sys2Proof.Machine
end

section
/-! PROOFS. Engine control and microcode (chapters 3 and 4): reset, RUN and the rate, and the load, the check and the application of an
image. -/
namespace Sys2Proof.Machine
open Reg

/-! ### Reads of the security block (R124) -/

theorem State.takeEcc_clean {s : State} (h : s.ecc = .clean) (a n : Nat) : s.takeEcc a n = (s, .clean) := by
  rw [State.takeEcc, if_pos h]

theorem accessOk_word {a : Nat} (h : a % 8 = 0) : accessOk a 8 = true := by
  simp [accessOk]
  omega

theorem upFrom_append (a m n : Nat) : upFrom a m ++ upFrom (a + m) n = upFrom a (m + n) := by
  induction m generalizing a with
  | zero => rw [Nat.zero_add]; rfl
  | succ m ih => rw [show a + (m + 1) = (a + 1) + m by omega, show m + 1 + n = (m + n) + 1 by omega, upFrom, List.cons_append, ih]; rfl

theorem Mem.sramBytes_append (m : Mem) (a n k : Nat) : m.sramBytes a n ++ m.sramBytes (a + n) k = m.sramBytes a (n + k) := by
  rw [Mem.sramBytes, Mem.sramBytes, Mem.sramBytes, ← List.map_append, upFrom_append]

theorem Mem.sramBytes_take (m : Mem) (a : Nat) {n k : Nat} (h : n ≤ k) : (m.sramBytes a k).take n = m.sramBytes a n := by
  rw [show k = n + (k - n) by omega, ← Mem.sramBytes_append]
  exact List.take_left' (Mem.sramBytes_length _ _ _)

section
variable {s : State} (hecc : s.ecc = .clean) (hpois : s.mem.poison = [])
  (hbank : ∀ p, 68 ≤ p → p < 164 → s.isolated p = false) (hport : s.isolated 212 = false)
include hecc hpois hbank

theorem State.blockRead_clean {a : Nat} (src : Src) (hal : a % 8 = 0) (hin : a + 8 ≤ 0x1800000) :
    s.blockRead src a 8 = (s, .ok, s.mem.sramBytes a 8) := by
  have hread := State.sramReadBy_ok (s := s) (a := a) (n := 8) (by omega) (accessOk_word hal) (hbank _ (by omega) (by omega))
    (by simp [Mem.poisoned, hpois]) src .clean rfl
  rw [State.blockRead, State.takeEcc_clean hecc, hread]
  rfl

include hport

theorem State.secCopy_clean {a : Nat} (n : Nat) (hal : a % 8 = 0) (hin : a + 8 * n ≤ 0x1800000) :
    s.secCopy a n = (s, some (s.mem.sramBytes a (8 * n))) := by
  induction n generalizing a with
  | zero => rfl
  | succ n ih =>
    rw [State.secCopy, if_neg (by simp [hport]), State.blockRead_clean hecc hpois hbank .jtag hal (by omega)]
    dsimp only
    rw [ih (by omega) (by omega)]
    dsimp only
    rw [Mem.sramBytes_append, show 8 + 8 * n = 8 * (n + 1) by omega]

theorem State.secRead_clean {a n : Nat} (hal : a % 8 = 0) (hin : a + 8 * ((n + 7) / 8) ≤ 0x1800000) :
    s.secRead a n = (s, some (s.mem.sramBytes a n)) := by
  rw [State.secRead, State.secCopy_clean hecc hpois hbank hport _ hal hin]
  dsimp only
  rw [Option.map_some, Mem.sramBytes_take _ _ (by omega)]

end

theorem mcLen_bounds (nm nw : Nat) : 0x40 ≤ mcLen nm nw ∧ mcLen nm nw ≤ 4512 := by
  rw [mcLen]
  split <;> omega

/-- GO with no load on its way and a readable image (R124). -/
theorem State.mcGo_copies {s : State} {w : Word} (hgo : MCLDCTL.GO.of w = 1) (hmcl : s.mcl = none) (hecc : s.ecc = .clean)
    (hpois : s.mem.poison = []) (hbank : ∀ p, 68 ≤ p → p < 164 → s.isolated p = false) (hport : s.isolated 212 = false)
    (hin : s.rd MCLDADDR.ADDR * 8 + 4520 ≤ 0x1800000) :
    ∃ n, 64 ≤ n ∧ s.mcGo w =
      ({ s with mcl := some ⟨s.mem.sramBytes (s.rd MCLDADDR.ADDR * 8) n, true⟩ } : State).wr MCLDSTAT.BUSY 1 := by
  set a := s.rd MCLDADDR.ADDR * 8 with ha
  have hal : a % 8 = 0 := by omega
  have hhead := State.secRead_clean hecc hpois hbank hport (a := a) (n := 0x40) hal (by omega)
  set c := mcCounts (s.mem.sramBytes a 0x40) with hc
  obtain ⟨hlow, hhigh⟩ := mcLen_bounds c.1 c.2
  have himg := State.secRead_clean hecc hpois hbank hport (a := a) (n := mcLen c.1 c.2) hal (by omega)
  refine ⟨_, hlow, ?_⟩
  rw [State.mcGo, if_neg (by omega), if_neg (by simp [hmcl])]
  dsimp only
  rw [← ha, hhead]
  dsimp only
  rw [← hc, himg]
  rfl

/-! ### The check of an image (R124, R125) -/

theorem State.wr_mcldstat_rd {F G : RField} (hF : F.blk = .sec ∧ F.off = 0x8008 ∧ F.stride = 0) (s : State) (v n i : Nat)
    (hG : G.adr n i ≠ MCLDSTAT.WHOLE.adr 0 0) : (s.wr F v).rd G n i = s.rd G n i := by
  refine State.wr_rd_ne _ _ _ _ _ _ _ _ fun h => hG (h.trans ?_)
  obtain ⟨hblk, hoff, hstride⟩ := hF
  simp only [RField.adr, hblk, hoff, hstride, MCLDSTAT.WHOLE]

/-- The load as it leaves, with its outcome. -/
def State.mcOut (s : State) (v : Nat) : State := (({ s with mcl := none } : State).wr MCLDSTAT.BUSY 0).wr MCLDSTAT.ERR v

theorem State.mcOut_rd (s : State) (v : Nat) {F : RField} {n i : Nat} (hF : F.adr n i ≠ MCLDSTAT.WHOLE.adr 0 0) :
    (s.mcOut v).rd F n i = s.rd F n i := by
  rw [State.mcOut, State.wr_mcldstat_rd (by decide) _ _ _ _ hF, State.wr_mcldstat_rd (by decide) _ _ _ _ hF]
  rfl

theorem State.mcOut_err (s : State) {v : Nat} (hv : v < 8) : (s.mcOut v).rd MCLDSTAT.ERR = v := by
  rw [State.mcOut, State.wr_rd _ _ _ _ _ (by decide)]
  exact Nat.mod_eq_of_lt hv

theorem State.mcOut_busy (s : State) (v : Nat) : (s.mcOut v).rd MCLDSTAT.BUSY = 0 := by
  rw [State.mcOut, State.wr_rd_other _ _ _ _ _ _ _ _ (by decide) (by decide), State.wr_rd _ _ _ _ _ (by decide)]
  rfl

theorem State.mcOut_eligible (s : State) (v p : Nat) (hp : p < 68) : (s.mcOut v).mcEligible p = s.mcEligible p := by
  have hwhole : MCLDSTAT.WHOLE.adr 0 0 = 46170120 := by decide
  have hhealth : PHEALTH.STATE.adr 0 p ≠ MCLDSTAT.WHOLE.adr 0 0 := by
    rw [hwhole]
    simp only [RField.adr, blkBase, PHEALTH.STATE]
    omega
  have hiso : MESHISO.ISO.adr 0 (p / 32) ≠ MCLDSTAT.WHOLE.adr 0 0 := by
    rw [hwhole]
    simp only [RField.adr, blkBase, MESHISO.ISO]
    omega
  rw [State.mcEligible, State.mcEligible, State.isolated, State.isolated, State.mcOut_rd _ _ hhealth, State.mcOut_rd _ _ hiso]

theorem State.mcChecked_fails {s : State} {m : McLoad} (hm : s.mcl = some m) (hv : s.mcVerdict m ≠ 0) :
    ∃ d, s.mcChecked = (s.mcOut (s.mcVerdict m)).raise 7690 d := by
  refine ⟨s.mcVerdict m * 2 ^ 29 + (if m.ok then entryWord m.img 1 % 2 ^ 16 else 0), ?_⟩
  rw [State.mcChecked, hm]
  exact if_pos hv

/-- The image that has passed its checks, as the engines are to take it (R125). -/
def State.mcTake (s : State) (ver : Nat) (m : McLoad) (ps : List Nat) : State :=
  (({ s with mcNew := some ⟨ver, Config.sha384 (m.img.map (·.toNat)) / 2 ^ 352 % 2 ^ 32, mcHits m.img, mcPatch m.img⟩
             mcWait := ps } : State).wr MCLDSTAT.VERSION ver).wr MCLDSTAT.PENDING ps.length

theorem State.mcChecked_passes {s : State} {m : McLoad} (hm : s.mcl = some m) (hok : m.ok = true) (hv : s.mcVerdict m = 0) :
    let ver := entryWord m.img 1 % 2 ^ 16
    let ps := (upFrom 0 68).filter (s.mcOut 0).mcEligible
    let w := (s.mcOut 0).mcTake ver m ps
    s.mcChecked = if ps.isEmpty then (w.wr MCLDSTAT.DONE 1).raise 7689 ver else w := by
  intro ver ps w
  delta State.mcChecked
  rw [hm]
  dsimp -zeta only
  extract_lets v ver' s1 hash ps' s2 s3
  have hv0 : v = 0 := hv
  have hver : ver' = ver := if_pos hok
  have hs1 : s1 = s.mcOut 0 := congrArg s.mcOut hv0
  rw [if_neg (not_not.mpr hv0)]
  have hps : ps' = ps := by
    change (upFrom 0 68).filter s1.mcEligible = _
    rw [hs1]
  have hs3 : s3 = w := by
    change (({ s1 with mcNew := some ⟨ver', _, _, _⟩, mcWait := ps' } : State).wr MCLDSTAT.VERSION ver').wr MCLDSTAT.PENDING ps'.length = _
    rw [hs1, hver, hps]
    rfl
  rw [hs3, hps, hver]

theorem eventSide.mcl {s u : State} (h : eventSide s u) : u.mcl = s.mcl := by rw [h]
theorem eventSide.mcNew {s u : State} (h : eventSide s u) : u.mcNew = s.mcNew := by rw [h]
theorem eventSide.mcRun {s u : State} (h : eventSide s u) : u.mcRun = s.mcRun := by rw [h]
theorem eventSide.mcWait {s u : State} (h : eventSide s u) : u.mcWait = s.mcWait := by rw [h]
theorem eventSide.eng {s u : State} (h : eventSide s u) : u.eng = s.eng := by rw [h]

/-- What shows of an image that is taken, with or without the report that no engine waits for it. -/
theorem State.mcTake_shows (s : State) {ver : Nat} (m : McLoad) (ps : List Nat) (hver : ver < 2 ^ 16) (hps : ps.length < 2 ^ 7) :
    let w := s.mcTake ver m ps
    let u := if ps.isEmpty then (w.wr MCLDSTAT.DONE 1).raise 7689 ver else w
    u.rd MCLDSTAT.ERR = s.rd MCLDSTAT.ERR ∧ u.rd MCLDSTAT.BUSY = s.rd MCLDSTAT.BUSY ∧ u.rd MCLDSTAT.VERSION = ver ∧
      u.rd MCLDSTAT.PENDING = ps.length ∧ u.mcNew.map (·.version) = some ver ∧ u.mcRun = s.mcRun ∧ u.mcWait = ps := by
  intro w u
  have hside : eventSide w u := by
    change eventSide w (if ps.isEmpty then _ else _)
    split
    · exact (eventSide.wr _ _ _ _ _).trans (.raise _ _ _)
    · exact .refl w
  have hrd (F : RField) (hF : F.adr 0 0 = MCLDSTAT.WHOLE.adr 0 0 ∧ (F.lo + F.len ≤ MCLDSTAT.DONE.lo ∨ MCLDSTAT.DONE.lo + MCLDSTAT.DONE.len ≤ F.lo)) :
      u.rd F = w.rd F := by
    obtain ⟨hadr, hapart⟩ := hF
    change (if ps.isEmpty then (w.wr MCLDSTAT.DONE 1).raise 7689 ver else w).rd F = _
    split
    · rw [State.raise_rd _ _ _ _ _ _ (by rw [hadr]; exact evReg_of_engine (by decide)),
        State.wr_rd_other _ _ _ _ _ _ _ _ (by decide) hapart]
    · rfl
  have hold (F : RField) (hF : F.lo + F.len ≤ 16 ∨ 23 ≤ F.lo) (hF' : 16 ≤ F.lo) : w.rd F = s.rd F := by
    change (s.mcTake ver m ps).rd F = _
    rw [State.mcTake, State.wr_rd_other _ MCLDSTAT.PENDING F _ _ _ _ _ (by decide) hF,
      State.wr_rd_other _ MCLDSTAT.VERSION F _ _ _ _ _ (by decide) (.inr hF')]
    rfl
  refine ⟨?_, ?_, ?_, ?_, ?_, ?_, ?_⟩
  · rw [hrd _ (by decide), hold _ (by decide) (by decide)]
  · rw [hrd _ (by decide), hold _ (by decide) (by decide)]
  · rw [hrd _ (by decide)]
    change (s.mcTake ver m ps).rd MCLDSTAT.VERSION = ver
    rw [State.mcTake, State.wr_rd_other _ _ _ _ _ _ _ _ (by decide) (by decide), State.wr_rd _ _ _ _ _ (by decide)]
    exact Nat.mod_eq_of_lt hver
  · rw [hrd _ (by decide)]
    change (s.mcTake ver m ps).rd MCLDSTAT.PENDING = ps.length
    rw [State.mcTake, State.wr_rd _ _ _ _ _ (by decide)]
    exact Nat.mod_eq_of_lt hps
  · rw [hside.mcNew]
    change (s.mcTake ver m ps).mcNew.map _ = _
    rw [State.mcTake, State.wr_mcNew, State.wr_mcNew]
    rfl
  · rw [hside.mcRun]
    change (s.mcTake ver m ps).mcRun = _
    rw [State.mcTake, State.wr_mcRun, State.wr_mcRun]
  · rw [hside.mcWait]
    change (s.mcTake ver m ps).mcWait = _
    rw [State.mcTake, State.wr_mcWait, State.wr_mcWait]

/-! ### An image is applied (R125, R126) -/

theorem State.mcPoint_of_idle {s : State} {p : Nat} (htko : s.tko = none)
    (hidle : ∀ g, g < 64 → s.phys g = p → (s.sch g).cur = none) : s.mcPoint p = true := by
  rw [State.mcPoint, htko]
  cases hlog : s.logOf p with
  | none => simp
  | some g =>
    have hmem := (upFrom_mem _ _ _).mp (List.mem_of_find?_eq_some hlog)
    have hphys := List.find?_some hlog
    simp [hidle g (by omega) (by simpa using hphys)]

theorem State.mcLeave_frame (s : State) (p : Nat) : eventSide { s with mcWait := s.mcWait.filter (· != p) } (s.mcLeave p) := by
  rw [State.mcLeave]
  by_cases hp : s.mcWait.contains p = true
  · rw [if_pos hp]
    extract_lets w a
    split
    · exact ((eventSide.wr _ _ _ _ _).trans (.wr _ _ _ _ _)).trans (.raise _ _ _)
    · exact .wr _ _ _ _ _
  · rw [if_neg hp]
    have hsame : s.mcWait.filter (· != p) = s.mcWait := by
      rw [List.filter_eq_self]
      intro a ha
      simp only [bne_iff_ne, ne_eq]
      rintro rfl
      exact hp (by simpa using ha)
    rw [hsame]
    exact .refl s

theorem State.mcVerdict_slate {s : State} {m : McLoad} (hok : m.ok = true) (hwipe : s.on TAMPSTAT.WIPING = false)
    (hslate : s.rd LCSTAT.STATE = 3) : s.mcVerdict m = 6 := by
  rw [State.mcVerdict, if_neg (by simp [hok, hwipe]), if_pos hslate]

theorem State.mcVerdict_passes {s : State} {m : McLoad} (hok : m.ok = true) (hwipe : s.on TAMPSTAT.WIPING = false)
    (hslate : s.rd LCSTAT.STATE ≠ 3) (hform : mcFormat m.img = true)
    (hrom : bitsAt (entryWord m.img 1) 16 16 = s.rd MCVER.ROMID) (hmin : s.rd MCMIN.MINVER ≤ entryWord m.img 1 % 2 ^ 16)
    (hsig : mcSigOk m.img = true) : s.mcVerdict m = 0 := by
  rw [State.mcVerdict, if_neg (by simp [hok, hwipe]), if_neg hslate, if_neg (by simp [hform]), if_neg (by simp [hrom]),
    if_neg (by omega), if_neg (by simp [hsig])]

/-! ### Engine control (R68, R94) -/

theorem State.engctlWrite_resets {s : State} {g : Nat} {w : Word} (hreset : ENGCTL.ERESET.of w = 1) (hrun : s.on ENGCTL.RUN g = false) :
    s.engctlWrite g w = (s.engReset g).wr ENGCTL.RUN (ENGCTL.RUN.of w) g := by
  rw [State.engctlWrite, if_pos ⟨hreset, by simp [hrun]⟩]

theorem State.engctlWrite_runs {s : State} {g : Nat} {w : Word} (hreset : ENGCTL.ERESET.of w = 0) :
    s.engctlWrite g w = s.wr ENGCTL.RUN (ENGCTL.RUN.of w) g := by
  rw [State.engctlWrite, if_neg (by omega)]

theorem State.engrate_full {s : State} {g b : Nat} (hspine : s.spine = some b) (hdue : (s.now - b) % ms 1 = 0)
    (hcount : (s.en g).rateFrom + 10000 ≤ (s.en g).icount) :
    s.engrate g = (s.modEn g (fun e => { e with rateFrom := (s.en g).icount })).wr ENGRATE.RATE
      (satTo 0xFFFF (((s.en g).icount - (s.en g).rateFrom) / 1000)) g := by
  have hstrobe : s.strobe s.now = s.now - b := by rw [State.strobe, hspine]
  rw [State.engrate, hstrobe, if_neg (by omega)]
  dsimp only
  rw [if_pos (by omega)]
  exact congrArg (fun u : State => u.wr ENGRATE.RATE _ g) (State.modEn_congr s g _ _ rfl)

theorem State.wr_sch (s : State) (F : RField) (v n i g : Nat) : (s.wr F v n i).sch g = s.sch g := (rfl)

theorem State.withEcc_rd (s : State) (x : Ecc) (F : RField) (n i : Nat) : ({ s with ecc := x } : State).rd F n i = s.rd F n i := (rfl)

theorem State.at_now {s u : State} {t : Nat} (h : u = { s with now := u.now, eng := u.eng, regs := u.regs }) (hnow : u.now = t) :
    u = { s with now := t, eng := u.eng, regs := u.regs } := by
  subst hnow
  exact h

theorem State.advance_now_of_le {s : State} {t : Nat} (h : s.now ≤ t) : (s.advance t).now = t := by
  rw [State.advance]
  split
  · rfl
  · exact (Nat.le_antisymm (by omega) h).symm ▸ rfl

/-- Settles O25: reset, RUN and the rate by `State.engctlWrite` and `State.engrate`; a load by `State.mcGo_copies`, its check by
`State.mcVerdict`, and an image's application by `State.mcLeave_frame`. -/
theorem engineControl : Obligations.EngineControl := by
  unfold Obligations.EngineControl
  refine ⟨?control, ?microcode⟩
  case control =>
    intro t g src v s hg hsrc happ
    refine ⟨?reset, ?run, ?rate⟩
    case reset =>
      intro hrun hposted
      have hreset : ENGCTL.ERESET.of (v ||| 0x80000000) = 1 := RField.of_bit_set rfl (by decide) v
      have hof : ENGCTL.RUN.of (v ||| 0x80000000) = v.toNat % 2 :=
        (RField.of_bit_kept rfl (by decide) v).trans (congrArg (· % 2) (Nat.div_one _))
      have hex := does_of_applies (i := .engctlEreset t src g v) (t := t) happ rfl (by simp [hsrc, hg])
      have hwrite := State.engctlWrite_resets (s := s.advance t) (g := g) hreset hrun
      rw [does, hwrite, hof] at hex
      obtain ⟨hen, hmem, hregs, hcur⟩ := State.engReset_frame (s := s.advance t) (g := g) hposted
      refine ⟨_, hex, ?_⟩
      rw [State.en_withQueue, State.wr_en, hen, State.sch_withQueue, State.wr_sch, State.withQueue_rd, State.wr_rd _ _ _ _ _ (by decide),
        State.withQueue_mem, State.wr_mem, hmem]
      refine ⟨fun _ => rfl, rfl, rfl, rfl, rfl, rfl, rfl, hcur, Nat.mod_mod _ 2, rfl, fun a ha => ?_⟩
      rw [State.withQueue_reg, State.wr_reg_ne _ ENGCTL.RUN _ _ _ _ ha]
      exact State.reg_of_regs _ _ a hregs
    case run =>
      intro hv
      have hreset : ENGCTL.ERESET.of v = 0 := by
        rw [RField.of_bit rfl]
        exact congrArg Bool.toNat hv
      have hof : ENGCTL.RUN.of v = v.toNat % 2 := congrArg (· % 2) (Nat.div_one _)
      have hex := does_of_applies (i := .engctlRun t src g v) (t := t) happ rfl (by simp [hsrc, hg])
      rw [does, State.engctlWrite_runs hreset, hof] at hex
      refine ⟨_, hex, rfl, ?_, fun a ha => ?_⟩
      · rw [State.withQueue_rd, State.wr_rd _ _ _ _ _ (by decide)]
        exact Nat.mod_mod _ 2
      · rw [State.withQueue_reg, State.wr_reg_ne _ ENGCTL.RUN _ _ _ _ ha, State.advance_reg]
    case rate =>
      intro b hspine hnow hb hdue hcount
      have hadv : (s.advance t).now = t := State.advance_now_of_le hnow
      have hrate := State.engrate_full (s := s.advance t) (g := g) hspine (by rw [hadv]; exact hdue) hcount
      refine ⟨_, s.ran_ok ((s.advance t).engrate g) _ (by simp [hg]), ?_⟩
      rw [hrate]
      refine ⟨?frame, ?engine, ?register⟩
      case frame => exact State.at_now rfl hadv
      case engine => rw [State.en_withQueue, State.wr_en, State.modEn_en, State.en_advance]
      case register =>
        rw [State.withQueue_rd, State.wr_rd _ _ _ _ _ (by decide)]
        refine Nat.mod_eq_of_lt ?_
        change satTo 0xFFFF _ < 2 ^ 16
        rw [satTo]
        split <;> omega
  case microcode =>
    intro t src v s hsrc happ
    refine ⟨?load, ?busy, ?effect, ?check, ?apply⟩
    case effect => exact fun x => does_withEcc_of_applies happ rfl hsrc
    case load =>
      intro hmcl hpois hbank hport hin
      have hex : does (.mcldGo t src v .clean) t s (·.withEcc .clean (·.mcGo (v ||| 1))) := does_withEcc_of_applies happ rfl hsrc
      obtain ⟨n, hn, hgo⟩ := State.mcGo_copies (s := { s.advance t with ecc := .clean }) (w := v ||| 1)
        (RField.of_bit_set rfl (by decide) v) hmcl rfl hpois hbank hport hin
      rw [does, State.withEcc, hgo] at hex
      refine ⟨_, _, hex, rfl, rfl, Mem.sramBytes_take _ _ hn, ?_⟩
      change (State.rd _ MCLDSTAT.BUSY != 0) = true
      rw [State.withQueue_rd, State.withEcc_rd, State.wr_rd _ _ _ _ _ (by decide)]
      rfl
    case busy =>
      intro x hmcl hecc
      have hex : does (.mcldGo t src v x) t s (·.withEcc x (·.mcGo (v ||| 1))) := does_withEcc_of_applies happ rfl hsrc
      have hsome : ({ s.advance t with ecc := x } : State).mcl.isSome = true := Option.isSome_iff_ne_none.mpr hmcl
      have hgo : ({ s.advance t with ecc := x } : State).mcGo (v ||| 1) = ({ s.advance t with ecc := x } : State).wr MCLDSTAT.ERR 1 := by
        rw [State.mcGo, if_neg (by rw [RField.of_bit_set rfl (by decide) v]; decide), if_pos hsome]
      rw [does, State.withEcc, hgo] at hex
      refine ⟨_, hex, ?_, ?_⟩
      · rw [onlyRegs, ← hecc]
        rfl
      · rw [State.withQueue_rd, State.withEcc_rd, State.wr_rd _ _ _ _ _ (by decide)]
        rfl
    case check =>
      intro m hm hok hwipe
      refine ⟨fun hslate => ?_, fun hslate hform hrom hmin hsig => ?_⟩
      · have hverdict : (s.advance t).mcVerdict m = 6 := State.mcVerdict_slate (s := s.advance t) hok hwipe hslate
        obtain ⟨d, hchecked⟩ := State.mcChecked_fails (s := s.advance t) hm (by rw [hverdict]; decide)
        rw [hverdict] at hchecked
        set w := (s.advance t).mcOut 6 with hw
        have hev := eventSide.raise w 7690 d
        have hsec (F : RField) (hF : 0x1000000 ≤ F.adr 0 0) : (w.raise 7690 d).rd F = w.rd F :=
          State.raise_rd _ _ _ _ _ _ (evReg_of_engine hF)
        refine ⟨_, s.ran_ok (s.advance t).mcChecked _ rfl, ?_⟩
        rw [hchecked, State.withQueue_rd, State.on_withQueue, State.withQueue_mcl, State.withQueue_mcNew, State.withQueue_mcRun,
          State.withQueue_mem, State.on, hsec _ (by decide), hsec _ (by decide), hev.mcl, hev.mcNew, hev.mcRun, hev.mem, hw,
          State.mcOut_err _ (by decide), State.mcOut_busy]
        exact ⟨rfl, rfl, rfl, rfl, rfl, rfl⟩
      · have hverdict : (s.advance t).mcVerdict m = 0 :=
          State.mcVerdict_passes (s := s.advance t) hok hwipe hslate hform hrom hmin hsig
        have hchecked := State.mcChecked_passes (s := s.advance t) hm hok hverdict
        set ps := (upFrom 0 68).filter ((s.advance t).mcOut 0).mcEligible with hps
        have hlen : ps.length ≤ 68 := (List.length_filter_le _ _).trans (upFrom_length 0 68).le
        obtain ⟨herr, hbusy, hver, hpend, hnew, hrun, hwaits⟩ := State.mcTake_shows ((s.advance t).mcOut 0)
          (ver := entryWord m.img 1 % 2 ^ 16) m ps (Nat.mod_lt _ (by decide)) (by omega)
        rw [← hchecked] at herr hbusy hver hpend hnew hrun hwaits
        refine ⟨_, s.ran_ok (s.advance t).mcChecked _ rfl, ?_⟩
        rw [State.withQueue_rd, State.on_withQueue, State.withQueue_rd, State.withQueue_rd, State.withQueue_mcWait,
          State.withQueue_mcNew, State.withQueue_mcRun, State.on, herr, hbusy, hver, hpend, hnew, hrun, hwaits,
          State.mcOut_err _ (by decide), State.mcOut_busy]
        refine ⟨rfl, rfl, rfl, rfl, rfl, rfl, fun p hp => ?_⟩
        rw [hps, List.mem_filter, State.mcOut_eligible _ _ _ hp, upFrom_mem]
        have hiso : (s.advance t).isolated p = s.isolated p := rfl
        simp [State.mcEligible, and_assoc, hp, hiso]
    case apply =>
      intro p m hp hwait hnew htko hidle
      have hpoint := State.mcPoint_of_idle (s := s.advance t) (p := p) htko hidle
      have happly : (s.advance t).mcApply p = ((s.advance t).mcPut p).mcLeave p := by
        rw [State.mcApply, if_pos ⟨List.contains_iff_mem.mpr hwait, hpoint⟩]
      have hput : (s.advance t).mcPut p = { s.advance t with mcRun := s.mcRun.set (fun _ => McImage.bare) p m } := by
        rw [State.mcPut]
        change (match s.mcNew with | none => _ | some m => _) = _
        rw [hnew]
        rfl
      set a := (s.advance t).mcPut p with ha
      have hleave := a.mcLeave_frame p
      refine ⟨_, s.ran_ok ((s.advance t).mcApply p) _ (by simp [hp]), ?_⟩
      rw [happly, State.withQueue_mcRun, State.withQueue_mcWait, State.withQueue_eng, State.withQueue_mem, hleave.mcRun, hleave.mcWait,
        hleave.eng, hleave.mem, hput]
      refine ⟨Store.get_set_same _ _ _ _, ?_, fun q hq => Store.get_set_ne _ _ _ _ _ hq, rfl, rfl⟩
      simp

end Sys2Proof.Machine
end

section
/-! PROOFS. Task switching (chapter 5): a fresh dispatch, a preemption, a resumption, and the end of a task by `done` and `yield`. -/
namespace Sys2Proof.Machine
open Reg

/-! ### The state of a slot, of a scheduler and of an engine -/

section
variable (s : State) (g k h : Nat)

@[simp] theorem State.modTs_ts (f : TSlot → TSlot) : (s.modTs g k f).ts g k = f (s.ts g k) := Store.get_set_same _ _ _ _
@[simp] theorem State.modTs_en (f : TSlot → TSlot) : (s.modTs g k f).en h = s.en h := (rfl)
@[simp] theorem State.modTs_sch (f : TSlot → TSlot) : (s.modTs g k f).sch h = s.sch h := (rfl)
@[simp] theorem State.modSch_ts (f : Sched → Sched) : (s.modSch g f).ts h k = s.ts h k := (rfl)
@[simp] theorem State.modSch_en (f : Sched → Sched) : (s.modSch g f).en h = s.en h := (rfl)
@[simp] theorem State.modEn_ts (f : Eng → Eng) : (s.modEn g f).ts h k = s.ts h k := (rfl)
@[simp] theorem State.modEn_sch (f : Eng → Eng) : (s.modEn g f).sch h = s.sch h := (rfl)
@[simp] theorem State.lmStores_en (o : Nat) (l : List Nat) : (s.lmStores g o l).en h = s.en h := (rfl)
@[simp] theorem State.lmStores_ts (o : Nat) (l : List Nat) : (s.lmStores g o l).ts h k = s.ts h k := (rfl)
@[simp] theorem State.lmStores_sch (o : Nat) (l : List Nat) : (s.lmStores g o l).sch h = s.sch h := (rfl)
@[simp] theorem State.withQueue_ts (q : List Instr) : (s.withQueue q).ts g k = s.ts g k := (rfl)
@[simp] theorem State.advance_ts (t : Nat) : (s.advance t).ts g k = s.ts g k := (rfl)
@[simp] theorem State.advance_sch (t : Nat) : (s.advance t).sch g = s.sch g := (rfl)
@[simp] theorem State.advance_ti (t i : Nat) : (s.advance t).ti g k i = s.ti g k i := (rfl)

end

/-- `u` is `s` but for the clock, the engines, the slots, the schedulers and the memories. -/
def switchSide (s u : State) : Prop :=
  u = { s with now := u.now, eng := u.eng, slot := u.slot, sched := u.sched, mem := u.mem }

theorem switchSide.refl (s : State) : switchSide s s := (rfl)

theorem switchSide.trans {s u v : State} (h : switchSide s u) (k : switchSide u v) : switchSide s v := by
  unfold switchSide at *
  rw [k, h]

section
variable {s u : State} (h : switchSide s u)
include h

theorem switchSide.modTs (g k : Nat) (f : TSlot → TSlot) : switchSide s (u.modTs g k f) := h.trans rfl
theorem switchSide.modSch (g : Nat) (f : Sched → Sched) : switchSide s (u.modSch g f) := h.trans rfl
theorem switchSide.modEn (g : Nat) (f : Eng → Eng) : switchSide s (u.modEn g f) := h.trans rfl
theorem switchSide.lmStores (g o : Nat) (l : List Nat) : switchSide s (u.lmStores g o l) := h.trans rfl
theorem switchSide.advance (t : Nat) : switchSide s (u.advance t) := h.trans rfl

theorem switchSide.task {v : State} (k : taskSide u v) : switchSide s v := by
  refine h.trans ?_
  unfold taskSide at k
  rw [k]
  rfl

theorem switchSide.withQueue : switchSide s (u.withQueue s.pending) := by
  unfold Machine.switchSide at h
  rw [h]
  rfl

theorem switchSide.of_mem (hmem : u.mem = s.mem) : u = { s with now := u.now, eng := u.eng, slot := u.slot, sched := u.sched } := by
  unfold Machine.switchSide at h
  rw [h, hmem]

end

theorem switchSide.haltLook (s : State) (g : Nat) : switchSide s (s.haltLook g) := by
  rw [State.haltLook]
  split
  · exact (switchSide.refl s).modEn _ _
  · exact .refl s

/-! ### A halt that waits (R94, R378) -/

theorem State.haltLook_plain {s : State} {g : Nat} (hstep : (s.en g).stepping = false) (hhalt : (s.en g).haltReq = false) (h : Nat) :
    (s.haltLook g).en g = s.en g ∧ (s.haltLook g).sch h = s.sch h ∧ (∀ k, (s.haltLook g).ts h k = s.ts h k) ∧
      (s.haltLook g).mem = s.mem := by
  rw [State.haltLook]
  split
  · exact ⟨(State.modEn_en _ _ _).trans (Eng.haltCheck_plain _ hstep hhalt), rfl, fun _ => rfl, rfl⟩
  · exact ⟨rfl, rfl, fun _ => rfl, rfl⟩

/-! ### A fresh dispatch (R142, R146, R150) -/

theorem State.best_single {s : State} {g k : Nat} (h : (s.sch g).order = [k]) : s.best g = some k := by
  rw [State.best, h]
  rfl

theorem firstEntry_none {s : State} {g k : Nat} (h : ∀ i, i < 16 → (s.ti g k i).count = 0) : s.firstEntry g k = none := by
  have key : ∀ l : List Nat, (∀ i ∈ l, i < 16) → l.foldl (fun (b : Option InEnt) i =>
      let x := s.ti g k i
      if x.count = 0 then b
      else match b, x.a with
        | none, a => a
        | some b, some a => if a.ts < b.ts ∨ (a.ts = b.ts ∧ a.id < b.id) then some a else some b
        | some b, none => some b) none = none := by
    intro l hl
    induction l with
    | nil => rfl
    | cons i r ih =>
      rw [List.foldl_cons]
      dsimp only
      rw [if_pos (h i (hl i List.mem_cons_self))]
      exact ih fun j hj => hl j (List.mem_cons_of_mem _ hj)
  exact key _ fun i hi => by have := (upFrom_mem _ _ _).mp hi; omega

theorem inputMask_none {s : State} {g k : Nat} (h : ∀ i, i < 16 → (s.ti g k i).count = 0) :
    (upFrom 0 16).filter (fun i => decide (0 < (s.ti g k i).count)) = [] := by
  rw [List.filter_eq_nil_iff]
  intro i hi
  have := (upFrom_mem _ _ _).mp hi
  simp [h i (by omega)]

/-- The engine as a slot begins with argument `w0`. -/
def Eng.begun (e : Eng) (w0 sp : Word) (pc mode : Nat) : Eng :=
  { (((e.setR 0 w0).setR 1 0#32).setR 15 sp) with
    pc := pc, flags := 0, mode := mode, modeP := [], br := none
    l0 := { e.l0 with act := false }, l1 := { e.l1 with act := false } }

/-- A slot dispatched for a run request alone. -/
theorem State.fresh_request {s : State} {g k r : Nat} (hreq : (s.ts g k).req = some r) (hin : ∀ i, i < 16 → (s.ti g k i).count = 0) :
    s.fresh_ g k = ((s.startSlot g k).modTs g k
      (fun x => { x with req := none, ref := r, endSeen := false, snap := [], modeP := [] })).modEn g
        (fun e => (e.begun (BitVec.ofNat 32 (s.rd TDARG.VALUE g k)) (BitVec.ofNat 32 (0x40000000 + s.rd TDENTRY.STACK g k))
          (0x40000000 + s.rd TDENTRY.ENTRY g k)
          (s.rd TDCTL.MRND g k * 4 + s.rd TDCTL.MASTRAP g k * 2 + s.rd TDCTL.MPRECISE g k)).haltCheck) := by
  rw [State.fresh_, firstEntry_none hin, hreq, inputMask_none hin]
  simp only [Eng.begun, List.foldl_nil, Option.map_none, Option.getD_none, Option.getD_some, Nat.zero_mul, Nat.add_zero]

theorem Eng.begun_r {e : Eng} {w0 sp : Word} {pc mode : Nat} : (e.begun w0 sp pc mode).r 0 = w0 ∧ (e.begun w0 sp pc mode).r 1 = 0#32 ∧
    (e.begun w0 sp pc mode).r 15 = sp ∧ ∀ i, 2 ≤ i → i < 15 → (e.begun w0 sp pc mode).r i = e.r i := by
  refine ⟨?_, ?_, Eng.setR_r_same _ _ _, fun i hl hh => ?_⟩
  · exact (Eng.setR_r_ne _ _ _ _ (by decide)).trans ((Eng.setR_r_ne _ _ _ _ (by decide)).trans (Eng.setR_r_same _ _ _))
  · exact (Eng.setR_r_ne _ _ _ _ (by decide)).trans (Eng.setR_r_same _ _ _)
  · exact (Eng.setR_r_ne _ _ _ _ (by omega)).trans ((Eng.setR_r_ne _ _ _ _ (by omega)).trans (Eng.setR_r_ne _ _ _ _ (by omega)))

theorem State.startSlot_ts (s : State) (g k : Nat) : (s.startSlot g k).ts g k = { s.ts g k with st := .exec } := by
  rw [State.startSlot, State.modSch_ts, State.modTs_ts]

theorem State.startSlot_sch (s : State) (g k : Nat) :
    (s.startSlot g k).sch g = { order := (s.sch g).order.filter (· != k), cur := some k, due := false } := by
  rw [State.startSlot, State.modSch_sch, State.modTs_sch]

@[simp] theorem State.startSlot_en (s : State) (g k h : Nat) : (s.startSlot g k).en h = s.en h := (rfl)
@[simp] theorem State.startSlot_mem (s : State) (g k : Nat) : (s.startSlot g k).mem = s.mem := (rfl)

theorem order_left (k : Nat) : [k].filter (· != k) = [] := by simp

theorem taskDispatch_begins {s : State} {t g k r : Nat} (hg : g < 64) (hfree : s.engFree g = true) (horder : (s.sch g).order = [k])
    (hready : (s.ts g k).st = .ready) (hreq : (s.ts g k).req = some r) (hin : ∀ i, i < 16 → (s.ti g k i).count = 0)
    (hstep : (s.en g).stepping = false) (hhalt : (s.en g).haltReq = false) :
    ∃ u, exec (.taskDispatch t g) s = .next u ∧
      u = { s with now := u.now, eng := u.eng, slot := u.slot, sched := u.sched } ∧ u.sch g = ⟨[], some k, false⟩ ∧
      u.ts g k = ⟨.exec, none, r, false, [], []⟩ ∧
      u.en g = (s.en g).begun (BitVec.ofNat 32 (s.rd TDARG.VALUE g k)) (BitVec.ofNat 32 (0x40000000 + s.rd TDENTRY.STACK g k))
        (0x40000000 + s.rd TDENTRY.ENTRY g k) (s.rd TDCTL.MRND g k * 4 + s.rd TDCTL.MASTRAP g k * 2 + s.rd TDCTL.MPRECISE g k) := by
  set a := s.advance t with ha
  have hbest : a.best g = some k := State.best_single horder
  have hdisp : a.dispatch g = a.fresh_ g k := by
    have hfree' : a.engFree g = true := hfree
    have hready' : (a.ts g k).st = .ready := hready
    rw [State.dispatch, if_neg (by simp [hfree']), hbest]
    exact if_pos hready'
  have hfresh := hdisp.trans (State.fresh_request (s := a) hreq hin)
  set v := a.dispatch g with hv
  set f : TSlot → TSlot := fun x => { x with req := none, ref := r, endSeen := false, snap := [], modeP := [] } with hf
  set b : Eng → Eng := fun e => (e.begun (BitVec.ofNat 32 (a.rd TDARG.VALUE g k))
    (BitVec.ofNat 32 (0x40000000 + a.rd TDENTRY.STACK g k)) (0x40000000 + a.rd TDENTRY.ENTRY g k)
    (a.rd TDCTL.MRND g k * 4 + a.rd TDCTL.MASTRAP g k * 2 + a.rd TDCTL.MPRECISE g k)).haltCheck with hb
  have hside : switchSide s v := by
    rw [hfresh, State.startSlot]
    exact ((((((switchSide.refl s).advance t).modTs _ _ _).modSch _ _).modTs _ _ _).modEn _ _)
  have hven : v.en g = b (s.en g) := by
    rw [hfresh, State.modEn_en, State.modTs_en, State.startSlot_en]
    rfl
  have hplain : b (s.en g) = (s.en g).begun _ _ _ _ := Eng.haltCheck_plain _ hstep hhalt
  have hvts : v.ts g k = ⟨.exec, none, r, false, [], []⟩ := by
    rw [hfresh, State.modEn_ts, State.modTs_ts, State.startSlot_ts]
  have hvsch : v.sch g = ⟨[], some k, false⟩ := by
    rw [hfresh, State.modEn_sch, State.modTs_sch, State.startSlot_sch]
    simp [a, horder]
  have hvmem : v.mem = s.mem := by
    rw [hfresh, State.modEn_mem, State.modTs_mem, State.startSlot_mem]
    rfl
  obtain ⟨hlen, hlsch, hlts, hlmem⟩ := State.haltLook_plain (s := v) (g := g) (by rw [hven, hplain]; exact hstep)
    (by rw [hven, hplain]; exact hhalt) g
  refine ⟨_, s.ran_ok (v.haltLook g) _ (by simp [hg]), ?_, ?_, ?_, ?_⟩
  · exact (hside.trans (.haltLook v g)).withQueue.of_mem (by rw [State.withQueue_mem, hlmem, hvmem])
  · rw [State.sch_withQueue, hlsch, hvsch]
  · rw [State.withQueue_ts, hlts, hvts]
  · rw [State.en_withQueue, hlen, hven, hplain]
    rfl

/-! ### The save area (R144) -/

theorem Eng.context_shape (e : Eng) : e.context.length = 32 ∧ (∀ i, i < 16 → e.context.getD i 0 = (e.r i).toNat) ∧ e.context.getD 20 0 = e.pc := by
  refine ⟨rfl, fun i hi => ?_, rfl⟩
  rw [Eng.context, List.append_assoc, List.getD_append _ _ _ _ (by simpa [upFrom_length] using hi),
    List.getD_eq_getElem _ _ (by simpa [upFrom_length] using hi), List.getElem_map, upFrom_getElem, Nat.zero_add]

/-- What a saved context shows in local memory. -/
theorem saveCtx_shows (s : State) (g k : Nat) :
    let o := s.saveAt g k
    (∀ i, i < 16 → (s.saveCtx g k).mem.lmWord g (o + 4 * i) = ((s.en g).r i).toNat) ∧
      (s.saveCtx g k).mem.lmWord g (o + 0x50) = (s.en g).pc % 2 ^ 32 ∧
      (∀ x, x < g * 0x10000 + o ∨ g * 0x10000 + o + 0x80 ≤ x → (s.saveCtx g k).lmByte x = s.lmByte x) ∧
      (s.saveCtx g k).mem.sram = s.mem.sram := by
  intro o
  obtain ⟨hlen, hregs, hpc⟩ := (s.en g).context_shape
  have hmem : (s.saveCtx g k).mem = s.mem.lmPut g o ((s.en g).context.flatMap (toBytes 4)) := by
    rw [State.saveCtx]
    rw [State.modEn_mem, State.modTs_mem, State.lmStores_mem]
  have hword (i : Nat) (hi : i < 32) := Mem.lmPut_word s.mem g o (s.en g).context i (by omega)
  have h20 : (s.mem.lmPut g o ((s.en g).context.flatMap (toBytes 4))).lmWord g (o + 80) = _ := hword 20 (by decide)
  rw [hpc] at h20
  rw [hmem]
  clear_value o
  refine ⟨fun i hi => ?_, h20, fun x hx => ?_, Mem.lmPut_sram _ _ _ _⟩
  · rw [hword i (by omega), hregs i hi, Nat.mod_eq_of_lt ((s.en g).r i).isLt]
  · rw [State.lmByte, State.lmByte, hmem]
    refine Mem.lmPut_byte_apart _ _ _ _ _ ?_
    rw [length_flatMap_toBytes, hlen]
    exact hx

theorem State.saveCtx_ts (s : State) (g k : Nat) : (s.saveCtx g k).ts g k = { s.ts g k with modeP := (s.en g).modeP } := by
  rw [State.saveCtx]
  rw [State.modEn_ts, State.modTs_ts, State.lmStores_ts]

theorem State.saveCtx_sch (s : State) (g k : Nat) : (s.saveCtx g k).sch g = s.sch g := by
  rw [State.saveCtx]
  rw [State.modEn_sch, State.modTs_sch, State.lmStores_sch]

theorem switchSide.saveCtx {s u : State} (h : switchSide s u) (g k : Nat) : switchSide s (u.saveCtx g k) := by
  rw [State.saveCtx]
  exact ((h.lmStores _ _ _).modTs _ _ _).modEn _ _

theorem State.haltLook_idle {s : State} {g : Nat} (h : (s.sch g).cur = none) : s.haltLook g = s := by
  rw [State.haltLook, if_neg (by simp [h])]

/-! ### Preemption (R142 to R144) -/

theorem taskPreempt_switches {s : State} {t g k j : Nat} (hg : g < 64) (hcur : (s.sch g).cur = some k) (hbest : s.best g = some j)
    (hprio : s.rd TDCTL.PRIO g k < s.rd TDCTL.PRIO g j) (hdue : (s.sch g).due = true) (hrun : s.on ENGCTL.RUN g = true)
    (hswitch : (s.en g).switchable = true) (hhalted : (s.en g).halted = false) (hinbal : s.on BALSTAT.INBAL g = false) :
    ∃ u, exec (.taskPreempt t g) s = .next u ∧ switchSide s u ∧ u.sch g = ⟨k :: (s.sch g).order, none, false⟩ ∧
      (u.ts g k).st = .preempted ∧ u.mem = (s.saveCtx g k).mem := by
  set a := s.advance t with ha
  have hcur' : (a.sch g).cur = some k := hcur
  have hbest' : a.best g = some j := hbest
  have hcond : (a.sch g).due ∧ a.on ENGCTL.RUN g ∧ a.rd TDCTL.PRIO g k < a.rd TDCTL.PRIO g j ∧ (a.en g).switchable ∧
      ¬ (a.en g).halted ∧ ¬ a.on BALSTAT.INBAL g :=
    ⟨hdue, hrun, hprio, hswitch, fun hx => absurd (hx.symm.trans hhalted) (by decide), fun hx => absurd (hx.symm.trans hinbal) (by decide)⟩
  have hpre : a.preempt g = ((a.saveCtx g k).modTs g k (fun x => { x with st := .preempted })).modSch g
      (fun d => { d with order := k :: d.order, cur := none, due := false }) := by
    rw [State.preempt, hcur', hbest']
    exact if_pos hcond
  have hsch : (a.preempt g).sch g = ⟨k :: (s.sch g).order, none, false⟩ := by
    rw [hpre, State.modSch_sch, State.modTs_sch, State.saveCtx_sch]
    rfl
  have hidle : (a.preempt g).haltLook g = a.preempt g := State.haltLook_idle (by rw [hsch])
  refine ⟨_, s.ran_ok ((a.preempt g).haltLook g) _ (by simp [hg]), ?_, ?_, ?_, ?_⟩
  · rw [hidle, hpre]
    exact (((((switchSide.refl s).advance t).saveCtx g k).modTs _ _ _).modSch _ _).withQueue
  · rw [hidle, State.sch_withQueue, hsch]
  · rw [hidle, hpre, State.withQueue_ts, State.modSch_ts, State.modTs_ts]
  · rw [hidle, hpre, State.withQueue_mem, State.modSch_mem, State.modTs_mem]
    rfl

/-! ### Resumption (R142, R144) -/

theorem Eng.loadRegs_keeps (e : Eng) (i : Nat) (l : List Nat) :
    (e.loadRegs i l).stepping = e.stepping ∧ (e.loadRegs i l).haltReq = e.haltReq := by
  induction l generalizing e i with
  | nil => exact ⟨rfl, rfl⟩
  | cons v vs ih => exact ih (e.setR i (BitVec.ofNat 32 v)) (i + 1)

theorem Eng.loadRegs_r (e : Eng) (i : Nat) (l : List Nat) (j : Nat) :
    (e.loadRegs i l).r j = if i ≤ j ∧ j < i + l.length then BitVec.ofNat 32 (l.getD (j - i) 0) else e.r j := by
  induction l generalizing e i with
  | nil => rw [if_neg (by simp)]; rfl
  | cons v vs ih =>
    rw [Eng.loadRegs, ih, List.length_cons]
    by_cases hj : j = i
    · subst hj
      rw [if_neg (by omega), if_pos (by omega), Eng.setR_r_same]
      simp
    · by_cases hin : i + 1 ≤ j ∧ j < i + 1 + vs.length
      · rw [if_pos hin, if_pos (by omega), show j - i = j - (i + 1) + 1 by omega, List.getD_cons_succ]
      · rw [if_neg hin, if_neg (by omega), Eng.setR_r_ne _ _ _ _ hj]

/-- The engine as the words `w` of a save area restore it, with `p` pending MODE writes. -/
def Eng.restored (e : Eng) (w : Nat → Nat) (p : List ModeW) : Eng :=
  { (e.loadRegs 0 ((upFrom 0 16).map w)) with
    acc0 := toSigned 48 (w 16 + 2 ^ 32 * w 17), acc1 := toSigned 48 (w 18 + 2 ^ 32 * w 19), pc := w 20, flags := w 21 % 16
    mode := w 22 % 16, modeP := p, l0 := ⟨bitAt (w 29) 0, w 23, w 24, w 25⟩, l1 := ⟨bitAt (w 29) 1, w 26, w 27, w 28⟩, br := none }

theorem Eng.restored_r (e : Eng) (w : Nat → Nat) (p : List ModeW) {i : Nat} (hi : i < 16) :
    (e.restored w p).r i = BitVec.ofNat 32 (w i) := by
  have hr : (e.restored w p).r i = (e.loadRegs 0 ((upFrom 0 16).map w)).r i := rfl
  rw [hr, Eng.loadRegs_r, if_pos (by simpa [upFrom_length] using hi), Nat.sub_zero,
    List.getD_eq_getElem _ _ (by simpa [upFrom_length] using hi), List.getElem_map, upFrom_getElem, Nat.zero_add]

theorem Eng.restored_keeps (e : Eng) (w : Nat → Nat) (p : List ModeW) :
    (e.restored w p).stepping = e.stepping ∧ (e.restored w p).haltReq = e.haltReq := by
  delta Eng.restored
  generalize (upFrom 0 16).map w = l
  exact e.loadRegs_keeps 0 l

theorem taskResume_restores {s : State} {t g k : Nat} (hg : g < 64) (hfree : s.engFree g = true) (horder : (s.sch g).order = [k])
    (hst : (s.ts g k).st = .preempted) (hstep : (s.en g).stepping = false) (hhalt : (s.en g).haltReq = false) :
    ∃ u, exec (.taskResume t g) s = .next u ∧
      u = { s with now := u.now, eng := u.eng, slot := u.slot, sched := u.sched } ∧ u.sch g = ⟨[], some k, false⟩ ∧
      u.ts g k = { s.ts g k with st := .exec, modeP := [] } ∧
      u.en g = (s.en g).restored (fun i => s.mem.lmWord g (s.saveAt g k + 4 * i)) (s.ts g k).modeP := by
  set a := s.advance t with ha
  set w : Nat → Nat := fun i => s.mem.lmWord g (s.saveAt g k + 4 * i) with hw
  have hbest : a.best g = some k := State.best_single horder
  have hres : a.resume g = ((((a.modEn g (·.restored w (s.ts g k).modeP)).modTs g k (fun x => { x with modeP := [] })).startSlot g
      k).modEn g (·.haltCheck)) := by
    have hfree' : a.engFree g = true := hfree
    have hnot : ¬ (a.ts g k).st = .ready := by
      have hst' : (a.ts g k).st = .preempted := hst
      simp [hst']
    rw [State.resume, if_neg (by simp [hfree']), hbest]
    exact if_neg hnot
  set v := a.resume g with hv
  have hplain : ((s.en g).restored w (s.ts g k).modeP).haltCheck = (s.en g).restored w (s.ts g k).modeP := by
    obtain ⟨hs, hh⟩ := (s.en g).restored_keeps w (s.ts g k).modeP
    exact Eng.haltCheck_plain _ (hs.trans hstep) (hh.trans hhalt)
  have hven : v.en g = (s.en g).restored w (s.ts g k).modeP := by
    rw [hres, State.modEn_en, State.startSlot_en, State.modTs_en, State.modEn_en]
    exact hplain
  have hvts : v.ts g k = { s.ts g k with st := .exec, modeP := [] } := by
    rw [hres, State.modEn_ts, State.startSlot_ts, State.modTs_ts, State.modEn_ts]
    rfl
  have hvsch : v.sch g = ⟨[], some k, false⟩ := by
    rw [hres, State.modEn_sch, State.startSlot_sch, State.modTs_sch, State.modEn_sch]
    simp [a, horder]
  have hvmem : v.mem = s.mem := by
    rw [hres, State.modEn_mem, State.startSlot_mem, State.modTs_mem, State.modEn_mem]
    rfl
  have hside : switchSide s v := by
    rw [hres, State.startSlot]
    exact ((((((switchSide.refl s).advance t).modEn _ _).modTs _ _ _).modTs _ _ _).modSch _ _).modEn _ _
  obtain ⟨hs, hh⟩ := (s.en g).restored_keeps w (s.ts g k).modeP
  obtain ⟨hlen, hlsch, hlts, hlmem⟩ := State.haltLook_plain (s := v) (g := g) (by rw [hven]; exact hs.trans hstep)
    (by rw [hven]; exact hh.trans hhalt) g
  refine ⟨_, s.ran_ok (v.haltLook g) _ (by simp [hg]), ?_, ?_, ?_, ?_⟩
  · exact (hside.trans (.haltLook v g)).withQueue.of_mem (by rw [State.withQueue_mem, hlmem, hvmem])
  · rw [State.sch_withQueue, hlsch, hvsch]
  · rw [State.withQueue_ts, hlts, hvts]
  · rw [State.en_withQueue, hlen, hven]

/-! ### The end of a task (R89, R145, R147) -/

/-- A slot that is not enabled, looked at while idle, stays so. -/
theorem State.lookAt_disabled {s : State} {g k : Nat} (hen : s.on TDCTL.EN g k = false) (hst : (s.ts g k).st = .idle) :
    s.lookAt g k = s := by
  rw [State.lookAt, hst]
  exact if_neg (by simp [State.slotCond, hen])

theorem State.endTask_disabled {s : State} {g k : Nat} (hcur : (s.sch g).cur = some k) (hen : s.on TDCTL.EN g k = false) :
    s.endTask g = (s.modTs g k (fun x => { x with st := .idle, snap := [], modeP := [] })).modSch g
      (fun d => { d with cur := none, due := false }) := by
  rw [State.endTask, hcur]
  exact State.lookAt_disabled hen (by rw [State.modSch_ts, State.modTs_ts])

/-- The engine after the last instruction of a task. -/
def Eng.pastLast (e : Eng) : Eng := { e with pc := e.pc + 4, icount := e.icount + 1, bpPass := false }

theorem State.retire_last {s : State} {g : Nat} (hx : s.Executes g) (hbr : (s.en g).br = none) (hle : (s.en g).atLe = false) :
    s.retire g = s.modEn g Eng.pastLast := by
  rw [State.retire_ends hx.noDeadline]
  exact State.modEn_congr _ _ _ _ (Eng.ends_next hbr hle hx.noImp hx.noMode hx.noStep hx.noHalt)

section
variable {s : State} {t g k : Nat} (hg : g < 64) (hp : s.plainNext g = true) (hcur : (s.sch g).cur = some k)
  (hposted : (s.en g).posted = [])
include hg hp hcur hposted

theorem done_ends (hen : s.on TDCTL.EN g k = false) :
    ∃ u, exec (.doneT t g ⟨0, 0⟩) s = .next u ∧ u = { s with now := u.now, eng := u.eng, slot := u.slot, sched := u.sched } ∧
      (u.sch g).cur = none ∧ (u.ts g k).st = .idle ∧ (u.ts g k).snap = [] ∧ (u.en g).l0.act = false ∧ (u.en g).l1.act = false ∧
      (u.en g).exl = false ∧ (u.en g).w = (s.en g).w ∧ (u.en g).icount = (s.en g).icount + 1 := by
  obtain ⟨hx, hbr, hle⟩ := (s.plainNext_iff g).mp hp
  set a := s.advance t with ha
  have hretire : a.retire g = a.modEn g Eng.pastLast := State.retire_last (hx.advance t) hbr hle
  set b := (a.modEn g Eng.pastLast).modEn g
    (fun e => { e with exl := false, l0 := { e.l0 with act := false }, l1 := { e.l1 with act := false } }) with hb
  have hben : b.en g = { (s.en g).pastLast with
      exl := false, l0 := { (s.en g).l0 with act := false }, l1 := { (s.en g).l1 with act := false } } := by
    rw [hb, State.modEn_en, State.modEn_en]
    rfl
  have hdue : (b.en g).due = none := by
    rw [hben]
    exact Eng.due_of_nil hx.noImp
  set c := (b.modEn g (fun e => { e with leaving := none })).modEn g
    (fun e => { e with imp := [], multi := false, modeP := [], br := none }) with hc
  have hleave : a.doneNow g = c.endTask g := by
    rw [State.doneNow, hretire, ← hb, State.leaveNow, hdue, if_neg (by decide)]
  have hend : c.endTask g = _ := State.endTask_disabled (s := c) (k := k) hcur hen
  have hop : a.leaveOp g .fin = .last (a.doneNow g) := by
    have hposted' : (a.en g).posted = [] := hposted
    rw [State.leaveOp, if_neg (by simp [hposted'])]
    exact fun hx => nomatch hx
  have hill : (s.en g).illegal ⟨FmtX.ill ⟨0, 0⟩, true, false, true⟩ = none := ((s.en g).illegal_plain _ hbr hle).trans rfl
  have hcen : c.en g = { b.en g with leaving := none, imp := [], multi := false, modeP := [], br := none } := by
    rw [hc, State.modEn_en, State.modEn_en]
  refine ⟨_, exec_last (i := .doneT t g ⟨0, 0⟩) rfl (by simp [hg]; rfl) hx.ready hx.fetched (Eng.checking_of_nil hx.noImp) hill
    hop, ?_⟩
  rw [hleave, hend, State.sch_withQueue, State.withQueue_ts, State.en_withQueue, State.modSch_sch, State.modSch_ts,
    State.modTs_ts, State.modSch_en, State.modTs_en, hcen, hben]
  refine ⟨?_, rfl, rfl, rfl, rfl, rfl, rfl, rfl, rfl⟩
  exact (((((((((switchSide.refl s).advance t).modEn _ _).modEn _ _).modEn _ _).modEn _ _).modTs _ _ _).modSch _ _).withQueue).of_mem rfl

theorem yield_ends (hexl : (s.en g).exl = false) :
    ∃ u, exec (.yieldT t g ⟨0, 0⟩) s = .next u ∧ switchSide s u ∧ (u.sch g).cur = none ∧
      (u.ts g k).st = .yielded ∧ (u.sch g).order = (s.sch g).order ++ [k] ∧ (u.ts g k).snap = (s.ts g k).snap ∧
      u.mem.lmWord g (s.rd SAVEBASE.BASE g * 2 ^ 13 + 128 * k + 0x50) = ((s.en g).pc + 4) % 2 ^ 32 := by
  obtain ⟨hx, hbr, hle⟩ := (s.plainNext_iff g).mp hp
  set a := s.advance t with ha
  have hretire : a.retire g = a.modEn g Eng.pastLast := State.retire_last (hx.advance t) hbr hle
  set b := a.modEn g Eng.pastLast with hb
  have hben : b.en g = (s.en g).pastLast := State.modEn_en _ _ _
  have hdue : (b.en g).due = none := by
    rw [hben]
    exact Eng.due_of_nil hx.noImp
  set c := b.modEn g (fun e => { e with leaving := none }) with hc
  have hleave : a.yieldNow g = c.yieldTask g := by
    rw [State.yieldNow, hretire, State.leaveNow, hdue, if_neg (by decide)]
  have hyield : c.yieldTask g = ((c.saveCtx g k).modTs g k (fun x => { x with st := .yielded })).modSch g
      (fun d => { d with order := d.order ++ [k], cur := none, due := false }) := by
    have hcur' : (c.sch g).cur = some k := hcur
    rw [State.yieldTask, hcur']
  have hop : a.leaveOp g .yld = .last (a.yieldNow g) := by
    have hposted' : (a.en g).posted = [] := hposted
    rw [State.leaveOp, if_neg (by simp [hposted'])]
  have hill : (s.en g).illegal ⟨orFour (FmtX.ill ⟨0, 0⟩) (s.en g).exl, true, false, true⟩ = none :=
    ((s.en g).illegal_plain _ hbr hle).trans (by rw [hexl]; rfl)
  have hcen : c.en g = { (s.en g).pastLast with leaving := none } := by rw [hc, State.modEn_en, hben]
  obtain ⟨-, hpc, -, -⟩ := saveCtx_shows c g k
  refine ⟨_, exec_last (i := .yieldT t g ⟨0, 0⟩) rfl (by simp [hg]; rfl) hx.ready hx.fetched (Eng.checking_of_nil hx.noImp) hill
    hop, ?_⟩
  rw [hleave, hyield, State.sch_withQueue, State.withQueue_ts, State.withQueue_mem, State.modSch_sch, State.modSch_ts,
    State.modTs_ts, State.modSch_mem, State.modTs_mem, State.modTs_sch, State.saveCtx_sch, State.saveCtx_ts]
  refine ⟨?_, rfl, rfl, rfl, rfl, ?_⟩
  · exact ((((((((switchSide.refl s).advance t).modEn _ _).modEn _ _).saveCtx _ _).modTs _ _ _).modSch _ _).withQueue)
  · rw [hcen] at hpc
    exact hpc

end

/-- Settles O26: each switch by the lemma that says what the engine, the slot and the scheduler then are. -/
theorem taskSwitching : Obligations.TaskSwitching := by
  unfold Obligations.TaskSwitching
  refine ⟨?dispatch, ?switch, ?leave⟩
  case dispatch =>
    intro t g k r s hg _ hfree horder hready hreq hin hstep hhalt
    obtain ⟨u, hex, hframe, hsch, hts, hen⟩ := taskDispatch_begins (t := t) hg hfree horder hready hreq hin hstep hhalt
    refine ⟨u, hex, hframe, ?_⟩
    rw [hsch, hts, hen]
    obtain ⟨h0, h1, h15, hrest⟩ := Eng.begun_r (e := s.en g) (w0 := BitVec.ofNat 32 (s.rd TDARG.VALUE g k))
      (sp := BitVec.ofNat 32 (0x40000000 + s.rd TDENTRY.STACK g k)) (pc := 0x40000000 + s.rd TDENTRY.ENTRY g k)
      (mode := s.rd TDCTL.MRND g k * 4 + s.rd TDCTL.MASTRAP g k * 2 + s.rd TDCTL.MPRECISE g k)
    exact ⟨rfl, rfl, rfl, rfl, rfl, rfl, rfl, h15, h0, h1, hrest, rfl, rfl, rfl, rfl, rfl⟩
  case switch =>
    intro t g k s hg _ e o
    refine ⟨fun j r hcur horder hbest hprio hdue hrun hswitch hhalted hinbal hpc _ => ?_, fun hfree horder hst hmode hstep hhalt => ?_⟩
    · obtain ⟨u, hex, hside, hsch, hts, hmem⟩ := taskPreempt_switches (t := t) hg hcur hbest hprio hdue hrun hswitch hhalted hinbal
      obtain ⟨hregs, hpcw, hbytes, hsram⟩ := saveCtx_shows s g k
      refine ⟨u, hex, hside, ?_⟩
      rw [hsch, hts, hmem, horder]
      refine ⟨rfl, rfl, rfl, hregs, hpcw.trans (Nat.mod_eq_of_lt hpc), fun x hx => ?_, hsram⟩
      exact (congrArg (fun m : Mem => Store.get (fun _ => 0) m.lm x) hmem).trans (hbytes x hx)
    · obtain ⟨u, hex, hframe, hsch, hts, hen⟩ := taskResume_restores (t := t) hg hfree horder hst hstep hhalt
      refine ⟨u, hex, hframe, ?_⟩
      rw [hsch, hts, hen]
      exact ⟨rfl, rfl, fun i hi => Eng.restored_r _ _ _ hi, rfl, rfl, rfl, rfl⟩
  case leave =>
    intro t g k s hg _ hp hcur hposted hen
    refine ⟨done_ends hg hp hcur hposted hen, fun hexl => ?_⟩
    obtain ⟨u, hex, hside, hrest⟩ := yield_ends (t := t) hg hp hcur hposted hexl
    exact ⟨u, hex, hside, hrest⟩

end Sys2Proof.Machine
end

section
/-! PROOFS. Task inputs and slack (chapter 5): an arrival, the orders to a slot, and the slack of a slot that runs alone. -/
namespace Sys2Proof.Machine
open Reg

/-! ### Slack (R149, R152) -/

theorem upFrom_split {n k : Nat} (h : k < n) : upFrom 0 n = upFrom 0 k ++ k :: upFrom (k + 1) (n - k - 1) := by
  have hn : n = k + ((n - k - 1) + 1) := by omega
  conv_lhs => rw [hn, ← upFrom_append, Nat.zero_add]
  rfl

theorem ofSigned_lt (w : Nat) (v : Int) : ofSigned w v < 2 ^ w := by
  have hpos : (0 : Int) < (2 ^ w : Nat) := by positivity
  have := Int.emod_nonneg v hpos.ne'
  have := Int.emod_lt_of_pos v hpos
  rw [ofSigned]
  omega

/-- The registers in which the slack of gondola `g` is published. -/
def slackReg (g a : Nat) : Prop :=
  ∃ o, (o = 0xC ∨ o = 0x10 ∨ 0xC00 ≤ o ∧ o < 0xD00) ∧ a = 0x1004000 + 0x40000 * g + o

theorem slackReg_tslack {g k : Nat} (hk : k < 64) : slackReg g (TSLACK.SLACK.adr g k) :=
  ⟨0xC00 + 4 * k, by omega, by simp only [RField.adr, blkBase, TSLACK.SLACK]; omega⟩

theorem slackReg_min (g : Nat) : slackReg g (SLACKMIN.SLACK.adr g 0) :=
  ⟨0xC, by omega, by simp only [RField.adr, blkBase, SLACKMIN.SLACK]⟩

theorem slackReg_slot (g : Nat) : slackReg g (SLACKSLOT.SLOT.adr g 0) :=
  ⟨0x10, by omega, by simp only [RField.adr, blkBase, SLACKSLOT.SLOT]⟩

theorem slackReg_gondola {g h a : Nat} (hg : slackReg g a) (hh : slackReg h a) : g = h := by
  obtain ⟨o, ho, ha⟩ := hg
  obtain ⟨p, hp, ha'⟩ := hh
  omega

/-- The slack of each slot of the list is written. -/
def State.putSlacks (s : State) (g : Nat) (l : List (Nat × Option Int)) : State :=
  l.foldl (fun s (k, v) => s.wr TSLACK.SLACK (ofSigned 32 (v.getD (-0x80000000))) g k) s

/-- The slot with the least slack. -/
def leastSlack (b : Option (Nat × Int)) (l : List (Nat × Option Int)) : Option (Nat × Int) :=
  l.foldl (fun b (k, v) => match b, v with
    | none, some x => some (k, x)
    | some (j, y), some x => if x < y then some (k, x) else some (j, y)
    | b, none => b) b

/-- The least slack of a gondola is published. -/
def State.putLeast (s : State) (g : Nat) : Option (Nat × Int) → State
  | some (k, x) => ((s.wr SLACKMIN.SLACK (ofSigned 32 x) g).wr SLACKSLOT.VALID 1 g).wr SLACKSLOT.SLOT k g
  | none => ((s.wr SLACKMIN.SLACK 0x80000000 g).wr SLACKSLOT.VALID 0 g).wr SLACKSLOT.SLOT 0 g

theorem State.slackOf_eq (s : State) (g : Nat) : s.slackOf g =
    (s.putSlacks g ((upFrom 0 64).map (fun k => (k, s.slotSlack g k)))).putLeast g
      (leastSlack none ((upFrom 0 64).map (fun k => (k, s.slotSlack g k)))) := by
  delta State.slackOf
  extract_lets vs s1 best
  have hput : s1 = s.putSlacks g vs := rfl
  have hbest : best = leastSlack none vs := rfl
  change _ = (s.putSlacks g vs).putLeast g (leastSlack none vs)
  rw [← hput, ← hbest]
  clear_value s1 best
  cases best <;> rfl

theorem State.putSlacks_reg (s : State) (g : Nat) (l : List (Nat × Option Int)) (a : Nat)
    (h : ∀ p ∈ l, a ≠ TSLACK.SLACK.adr g p.1) : (s.putSlacks g l).reg a = s.reg a := by
  induction l generalizing s with
  | nil => rfl
  | cons p r ih =>
    obtain ⟨k, v⟩ := p
    refine (ih _ fun q hq => h q (List.mem_cons_of_mem _ hq)).trans ?_
    exact State.wr_reg_ne _ _ _ _ _ _ (h (k, v) List.mem_cons_self)

theorem State.putLeast_reg (s : State) (g : Nat) (b : Option (Nat × Int)) (a : Nat) (hmin : a ≠ SLACKMIN.SLACK.adr g 0)
    (hslot : a ≠ SLACKSLOT.SLOT.adr g 0) : (s.putLeast g b).reg a = s.reg a := by
  cases b with
  | none => rw [State.putLeast, State.wr_reg_ne _ _ _ _ _ _ hslot, State.wr_reg_ne _ SLACKSLOT.VALID _ _ _ _ hslot, State.wr_reg_ne _ _ _ _ _ _ hmin]
  | some p => rw [State.putLeast, State.wr_reg_ne _ _ _ _ _ _ hslot, State.wr_reg_ne _ SLACKSLOT.VALID _ _ _ _ hslot, State.wr_reg_ne _ _ _ _ _ _ hmin]

/-- A gondola's slack changes the registers in which it is published alone. -/
theorem State.slackOf_reg (s : State) (g a : Nat) (h : ¬ slackReg g a) : (s.slackOf g).reg a = s.reg a := by
  rw [State.slackOf_eq, State.putLeast_reg, State.putSlacks_reg]
  · intro p hp hpa
    obtain ⟨k, hk, rfl⟩ := List.mem_map.mp hp
    have := (upFrom_mem _ _ _).mp hk
    exact h (hpa ▸ slackReg_tslack (by omega))
  · exact fun ha => h (ha ▸ slackReg_min g)
  · exact fun ha => h (ha ▸ slackReg_slot g)

theorem State.slacks_reg (s : State) (l : List Nat) (a : Nat) (h : ∀ g ∈ l, ¬ slackReg g a) : (l.foldl State.slackOf s).reg a = s.reg a := by
  induction l generalizing s with
  | nil => rfl
  | cons g r ih =>
    exact (ih _ fun g' hg' => h g' (List.mem_cons_of_mem _ hg')).trans (State.slackOf_reg s g a (h g List.mem_cons_self))

/-- The published slack of each slot. -/
theorem State.putSlacks_rd (s : State) (g : Nat) (f : Nat → Option Int) {k : Nat} (hk : k < 64) :
    (s.putSlacks g ((upFrom 0 64).map (fun k => (k, f k)))).rd TSLACK.SLACK g k = ofSigned 32 ((f k).getD (-0x80000000)) := by
  rw [upFrom_split hk, List.map_append, List.map_cons, State.putSlacks, List.foldl_append, List.foldl_cons]
  have hkeep := State.putSlacks_reg (State.wr (State.putSlacks s g ((upFrom 0 k).map (fun k => (k, f k)))) TSLACK.SLACK
    (ofSigned 32 ((f k).getD (-0x80000000))) g k) g ((upFrom (k + 1) (64 - k - 1)).map (fun k => (k, f k))) (TSLACK.SLACK.adr g k) (by
      intro p hp
      obtain ⟨j, hj, rfl⟩ := List.mem_map.mp hp
      have := (upFrom_mem _ _ _).mp hj
      simp only [RField.adr, TSLACK.SLACK]
      omega)
  refine (State.rd_of_reg _ _ _ _ _ hkeep).trans ?_
  rw [State.wr_rd _ _ _ _ _ (by decide)]
  exact Nat.mod_eq_of_lt (ofSigned_lt 32 _)

theorem leastSlack_none (b : Option (Nat × Int)) (f : Nat → Option Int) (l : List Nat) (h : ∀ k ∈ l, f k = none) :
    leastSlack b (l.map (fun k => (k, f k))) = b := by
  induction l generalizing b with
  | nil => rfl
  | cons k r ih =>
    have hk := h k List.mem_cons_self
    have hr := ih b fun j hj => h j (List.mem_cons_of_mem _ hj)
    rw [List.map_cons, leastSlack, List.foldl_cons, hk]
    cases b <;> exact hr

theorem leastSlack_single {f : Nat → Option Int} {k : Nat} {x : Int} (hk : k < 64) (hf : f k = some x)
    (h : ∀ j, j < 64 → j ≠ k → f j = none) : leastSlack none ((upFrom 0 64).map (fun k => (k, f k))) = some (k, x) := by
  rw [upFrom_split hk, List.map_append, List.map_cons, leastSlack, List.foldl_append, List.foldl_cons]
  have hbefore : leastSlack none ((upFrom 0 k).map (fun k => (k, f k))) = none := leastSlack_none _ _ _ fun j hj => by
    have := (upFrom_mem _ _ _).mp hj
    exact h j (by omega) (by omega)
  rw [leastSlack] at hbefore
  rw [hbefore, hf]
  exact leastSlack_none _ _ _ fun j hj => by
    have := (upFrom_mem _ _ _).mp hj
    exact h j (by omega) (by omega)

/-! ### The inputs of a slack -/

/-- `v` has the registers of `s`, but for those in which slack is published. -/
def slackKept (s v : State) : Prop := ∀ a, (∀ h, h < 64 → ¬ slackReg h a) → v.reg a = s.reg a

theorem slackKept.sch {s v : State} (hv : slackKept s v) {F : RField} {g i : Nat} (hF : F.blk = .sch)
    (hlow : 0x14 ≤ F.off) (hhigh : F.off + F.stride * i < 0xC00) : v.rd F g i = s.rd F g i := by
  refine State.rd_of_reg _ _ _ _ _ (hv _ fun h _ hs => ?_)
  obtain ⟨o, ho, ha⟩ := hs
  have hadr : F.adr g i = 0x1004000 + 0x40000 * g + (F.off + F.stride * i) := by rw [RField.adr, hF, blkBase]; omega
  omega

theorem slackKept.rel {s v : State} (hv : slackKept s v) {F : RField} {n i : Nat} (hF : F.blk = .rel)
    (hhigh : F.off + F.stride * i < 0x2000) : v.rd F n i = s.rd F n i := by
  refine State.rd_of_reg _ _ _ _ _ (hv _ fun h hh hs => ?_)
  obtain ⟨o, ho, ha⟩ := hs
  have hadr : F.adr n i = 0x2800000 + (F.off + F.stride * i) := by rw [RField.adr, hF, blkBase]; omega
  omega

section
variable {s v : State} (hv : slackKept s v) (g k : Nat) (hk : k < 64)
include hv

theorem slackKept.dlrec (hk : k < 64) {i : Nat} (hi : i < 4) : v.dlrec g k i = s.dlrec g k i :=
  hv.sch rfl (by decide) (by simp only [DLREC.WORD]; omega)

theorem slackKept.dlUsable (hk : k < 64) : v.dlUsable g k = s.dlUsable g k := by
  rw [State.dlUsable, State.dlUsable, hv.dlrec g k hk (by decide), hv.dlrec g k hk (by decide),
    hv.sch (F := TDENTRY.ENTRY) rfl (by decide) (by simp only [TDENTRY.ENTRY]; omega)]

theorem slackKept.slackK (hg : g < 64) : v.slackK g = s.slackK g := by
  have hp : v.phys g = s.phys g := hv.rel rfl (by simp only [LMAP.PHYS]; omega)
  have hphys : s.phys g < 2 ^ 7 := State.rd_lt _ _ _ _
  have hr : v.rd PHEALTH.MREG 0 (s.phys g) = s.rd PHEALTH.MREG 0 (s.phys g) := hv.rel rfl (by simp only [PHEALTH.MREG]; omega)
  have hreg : s.rd PHEALTH.MREG 0 (s.phys g) < 2 ^ 4 := State.rd_lt _ _ _ _
  rw [State.slackK, State.slackK, hp, hr]
  refine congrArg (List.foldl max 0) (List.map_congr_left fun m hm => hv.rel rfl ?_)
  have hm' : m < 128 := by
    rcases List.mem_cons.mp hm with rfl | hm
    · exact hphys
    rcases List.mem_cons.mp hm with rfl | hm
    · omega
    · have := (upFrom_mem _ _ _).mp hm
      omega
  simp only [MON.K]
  omega

end

theorem State.slotSlack_unusable {s : State} {g k : Nat} (h : s.dlUsable g k = false) : s.slotSlack g k = none := by
  rw [State.slotSlack, State.slotS, h, if_pos (.inl (by decide))]
  rfl

/-- The slack of a slot that runs alone, without PRECISE (R152). -/
theorem State.slotSlack_alone {s : State} {g k : Nat} (h : s.dlUsable g k = true)
    (halone : ∀ j, j < 64 → j ≠ k → s.on TDCTL.EN g j = false) (hprec : s.on TDCTL.MPRECISE g k = false) :
    s.slotSlack g k = some (satSigned 32 (((s.dlrec g k 1 : Int) * 3276800 - s.slackK g *
      (29120 + 50 * s.dlrec g k 2 + 15120 * (s.dlrec g k 3 / 16 % 4096))) / 204800)) := by
  have hothers : (upFrom 0 64).filter (fun h => h != k && s.on TDCTL.EN g h) = [] := by
    rw [List.filter_eq_nil_iff]
    intro j hj
    have := (upFrom_mem _ _ _).mp hj
    by_cases hjk : j = k
    · simp [hjk]
    · simp [halone j (by omega) hjk]
  have hw : s.slotW g k = s.dlrec g k 2 * 50 + s.dlrec g k 3 / 2 ^ 4 % 2 ^ 12 * 15120 := by
    rw [State.slotW, if_neg (by simp [hprec])]
    rfl
  have hS : s.slotS g k = some (20800 + 8320 + 0 + s.slotW g k) := by
    rw [State.slotS, hothers]
    rw [if_neg (by simp [h])]
    rfl
  rw [State.slotSlack, hS, hw, Option.map_some]
  push_cast
  ring_nf

/-- What a recomputation publishes of gondola `g`: what `State.slackOf` publishes on a state with the same inputs. -/
theorem slackRecompute_publishes (s : State) {g : Nat} (hg : g < 64) :
    ∃ v, slackKept s v ∧ ∀ F i, (∀ a, a = F.adr g i → slackReg g a) →
      (((upFrom 0 64).foldl State.slackOf s).marginLook).rd F g i = (v.slackOf g).rd F g i := by
  refine ⟨(upFrom 0 g).foldl State.slackOf s, fun a ha => ?_, fun F i hF => ?_⟩
  · refine State.slacks_reg _ _ _ fun h hh => ha h ?_
    have := (upFrom_mem _ _ _).mp hh
    omega
  · have hsplit : (upFrom 0 64).foldl State.slackOf s =
        (upFrom (g + 1) (64 - g - 1)).foldl State.slackOf (((upFrom 0 g).foldl State.slackOf s).slackOf g) := by
      rw [upFrom_split hg, List.foldl_append, List.foldl_cons]
    have hkeep := State.slacks_reg (((upFrom 0 g).foldl State.slackOf s).slackOf g) (upFrom (g + 1) (64 - g - 1)) (F.adr g i)
      fun h hh hs => by
        have := (upFrom_mem _ _ _).mp hh
        have := slackReg_gondola (hF _ rfl) hs
        omega
    rw [hsplit]
    exact State.rd_of_reg _ _ _ _ _ hkeep

/-- The slack published of a slot. -/
theorem State.slackOf_tslack (s : State) (g : Nat) {k : Nat} (hk : k < 64) :
    (s.slackOf g).rd TSLACK.SLACK g k = ofSigned 32 ((s.slotSlack g k).getD (-0x80000000)) := by
  have hmin : TSLACK.SLACK.adr g k ≠ SLACKMIN.SLACK.adr g 0 := by simp only [RField.adr, blkBase, TSLACK.SLACK, SLACKMIN.SLACK]; omega
  have hslot : TSLACK.SLACK.adr g k ≠ SLACKSLOT.SLOT.adr g 0 := by simp only [RField.adr, blkBase, TSLACK.SLACK, SLACKSLOT.SLOT]; omega
  rw [State.slackOf_eq]
  exact (State.rd_of_reg _ _ _ _ _ (State.putLeast_reg _ _ _ _ hmin hslot)).trans (State.putSlacks_rd s g (s.slotSlack g) hk)

theorem State.putLeast_shows (s : State) (g k : Nat) (x : Int) (hk : k < 64) :
    (s.putLeast g (some (k, x))).rd SLACKMIN.SLACK g = ofSigned 32 x ∧ (s.putLeast g (some (k, x))).rd SLACKSLOT.VALID g = 1 ∧
      (s.putLeast g (some (k, x))).rd SLACKSLOT.SLOT g = k := by
  have hne (F : RField) (hF : F.blk = .sch ∧ F.off = 0x10 ∧ F.stride = 0) (u : State) (v : Nat) :
      (u.wr F v g).rd SLACKMIN.SLACK g = u.rd SLACKMIN.SLACK g :=
    State.wr_rd_ne _ _ _ _ _ _ _ _ (by
      obtain ⟨hblk, hoff, -⟩ := hF
      simp only [RField.adr, hblk, hoff, blkBase, SLACKMIN.SLACK]
      omega)
  refine ⟨?_, ?_, ?_⟩
  · rw [State.putLeast, hne _ (by decide), hne _ (by decide), State.wr_rd _ _ _ _ _ (by decide)]
    exact Nat.mod_eq_of_lt (ofSigned_lt 32 x)
  · rw [State.putLeast, State.wr_rd_other _ _ _ _ _ _ _ _ (by decide) (by decide), State.wr_rd _ _ _ _ _ (by decide)]
    rfl
  · rw [State.putLeast, State.wr_rd _ _ _ _ _ (by decide)]
    exact Nat.mod_eq_of_lt hk

/-- The least slack published of a gondola with one slot that has any. -/
theorem State.slackOf_least {s : State} {g k : Nat} {x : Int} (hk : k < 64) (hx : s.slotSlack g k = some x)
    (halone : ∀ j, j < 64 → j ≠ k → s.slotSlack g j = none) :
    (s.slackOf g).rd SLACKMIN.SLACK g = ofSigned 32 x ∧ (s.slackOf g).rd SLACKSLOT.VALID g = 1 ∧
      (s.slackOf g).rd SLACKSLOT.SLOT g = k := by
  rw [State.slackOf_eq, leastSlack_single hk hx halone]
  exact State.putLeast_shows _ g k x hk

/-- `u` is `s` but for the registers and the background service. -/
def slackSide (s u : State) : Prop := u = { s with regs := u.regs, rel := u.rel }

theorem slackSide.refl (s : State) : slackSide s s := (rfl)

theorem slackSide.trans {s u v : State} (h : slackSide s u) (k : slackSide u v) : slackSide s v := by
  unfold slackSide at *
  rw [k, h]

theorem slackSide.wr (s : State) (F : RField) (v n i : Nat) : slackSide s (s.wr F v n i) := (rfl)

theorem slackSide.marginLook (s : State) : slackSide s s.marginLook := (rfl)

theorem slackSide.putSlacks (s : State) (g : Nat) (l : List (Nat × Option Int)) : slackSide s (s.putSlacks g l) := by
  induction l generalizing s with
  | nil => exact .refl s
  | cons p r ih => exact (slackSide.wr s _ _ _ _).trans (ih _)

theorem slackSide.slackOf (s : State) (g : Nat) : slackSide s (s.slackOf g) := by
  rw [State.slackOf_eq]
  refine (slackSide.putSlacks s g ((upFrom 0 64).map (fun k => (k, s.slotSlack g k)))).trans ?_
  cases leastSlack none ((upFrom 0 64).map (fun k => (k, s.slotSlack g k))) with
  | none => exact ((slackSide.wr _ _ _ _ _).trans (.wr _ _ _ _ _)).trans (.wr _ _ _ _ _)
  | some p => exact ((slackSide.wr _ _ _ _ _).trans (.wr _ _ _ _ _)).trans (.wr _ _ _ _ _)

theorem slackSide.recompute (s : State) : slackSide s (((upFrom 0 64).foldl State.slackOf s).marginLook) := by
  have hfold (l : List Nat) (u : State) : slackSide u (l.foldl State.slackOf u) := by
    induction l generalizing u with
    | nil => exact .refl u
    | cons g r ih => exact (slackSide.slackOf u g).trans (ih _)
  exact (hfold (upFrom 0 64) s).trans (.marginLook _)

theorem slackSide.ran {s u : State} {t : Nat} (h : slackSide (s.advance t) u) :
    u.withQueue s.pending = { s with now := (u.withQueue s.pending).now, regs := (u.withQueue s.pending).regs, rel := (u.withQueue s.pending).rel } := by
  unfold slackSide at h
  rw [h]
  rfl

/-- Settles the clause of O27 on slack: what `State.slackOf` publishes, whatever gondolas come before and after. -/
theorem slackRecompute_shows (t : Nat) (s : State) :
    ∃ u, exec (.slackRecompute t) s = .next u ∧ u = { s with now := u.now, regs := u.regs, rel := u.rel } ∧
    (∀ g k, g < 64 → k < 64 →
      (s.dlUsable g k = false → u.rd TSLACK.SLACK g k = 0x80000000) ∧
      (s.dlUsable g k = true → (∀ h, h < 64 → h ≠ k → s.on TDCTL.EN g h = false ∧ s.dlUsable g h = false) →
        s.on TDCTL.MPRECISE g k = false →
        let x : Int := ((s.dlrec g k 1 : Int) * 3276800 - s.slackK g *
          (29120 + 50 * s.dlrec g k 2 + 15120 * (s.dlrec g k 3 / 16 % 4096))) / 204800
        u.rd TSLACK.SLACK g k = ofSigned 32 (satSigned 32 x) ∧ u.rd SLACKMIN.SLACK g = ofSigned 32 (satSigned 32 x) ∧
        u.rd SLACKSLOT.VALID g = 1 ∧ u.rd SLACKSLOT.SLOT g = k)) := by
  refine ⟨_, s.ran_ok (((upFrom 0 64).foldl State.slackOf (s.advance t)).marginLook) _ rfl, (slackSide.recompute _).ran, ?_⟩
  intro g k hg hk
  obtain ⟨v, hv, hrd⟩ := slackRecompute_publishes (s.advance t) hg
  have hkept : slackKept s v := hv
  have htslack := (hrd TSLACK.SLACK k (fun a ha => ha ▸ slackReg_tslack hk)).trans (State.slackOf_tslack v g hk)
  refine ⟨fun hno => ?_, fun husable halone hprec => ?_⟩
  · rw [State.withQueue_rd, htslack, State.slotSlack_unusable ((hkept.dlUsable g k hk).trans hno)]
    rfl
  · have hslack := State.slotSlack_alone (s := v) ((hkept.dlUsable g k hk).trans husable)
      (fun j hj hjk => by
        rw [State.on, hkept.sch (F := TDCTL.EN) rfl (by decide) (by simp only [TDCTL.EN]; omega)]
        exact (halone j hj hjk).1)
      (by
        rw [State.on, hkept.sch (F := TDCTL.MPRECISE) rfl (by decide) (by simp only [TDCTL.MPRECISE]; omega)]
        exact hprec)
    rw [hkept.dlrec g k hk (by decide), hkept.dlrec g k hk (by decide), hkept.dlrec g k hk (by decide), hkept.slackK g hg] at hslack
    obtain ⟨hmin, hvalid, hslot⟩ := State.slackOf_least hk hslack fun j hj hjk =>
      State.slotSlack_unusable ((hkept.dlUsable g j hj).trans (halone j hj hjk).2)
    rw [State.withQueue_rd, State.withQueue_rd, State.withQueue_rd, State.withQueue_rd, htslack, hslack,
      hrd SLACKMIN.SLACK 0 (fun a ha => ha ▸ slackReg_min g), hrd SLACKSLOT.VALID 0 (fun a ha => ha ▸ slackReg_slot g),
      hrd SLACKSLOT.SLOT 0 (fun a ha => ha ▸ slackReg_slot g)]
    exact ⟨rfl, hmin, hvalid, hslot⟩

/-! ### Arrivals (R141) -/

theorem takeArrivals_one (g k i p : Nat) (ev : Ev) (r : List Arrival) :
    takeArrivals g k i 1 [] (⟨p, g, k, i, ev⟩ :: r) = ([⟨p, g, k, i, ev⟩], r) := by
  rw [takeArrivals, if_pos ⟨rfl, rfl, rfl, by simp⟩]
  rw [takeArrivals]

theorem State.arrivals_one {s : State} {g k i p : Nat} {ev : Ev} {r : List Arrival} (h : s.fab.arrivals = ⟨p, g, k, i, ev⟩ :: r) :
    s.arrivals g k i [0] = ((({ s with fab := { s.fab with arrivals := r } } : State).countCoinc 0).applyArrivals g k i [ev]).lookAt g k := by
  have hev : ({ ev with coinc := ev.coinc || coincAt [0] 0 } : Ev) = ev := by
    have : coincAt [0] 0 = false := by decide
    rw [this, Bool.or_false]
  have htake : takeArrivals g k i [0].length [] s.fab.arrivals = ([⟨p, g, k, i, ev⟩], r) := by rw [h]; exact takeArrivals_one g k i p ev r
  have hzip : (([⟨p, g, k, i, ev⟩] : List Arrival).zip (upFrom 0 8)).map
      (fun (a, j) => ({ a.ev with coinc := a.ev.coinc || coincAt (List.take [(⟨p, g, k, i, ev⟩ : Arrival)].length [0]) j } : Ev)) = [ev] :=
    congrArg (fun x => [x]) hev
  delta State.arrivals
  rw [htake]
  dsimp -zeta only
  extract_lets es st
  have hes : es = [ev] := hzip
  rw [hes, if_neg (by simp)]
  rfl

/-- An arrival in an empty input. -/
theorem TIn.arrive_init (ev : Ev) : TIn.init.arrive ev = ⟨1, some ⟨ev.id, ev.ts, ev.coinc, ev.tq⟩, none, false, ev.coinc, ev.id⟩ := by
  rfl

theorem State.wakeSlot_aloft {s : State} (h : s.rd PWRSTAT.STATE = 0) (g k : Nat) : s.wakeSlot g k = s := by
  rw [State.wakeSlot]
  split
  · rw [State.wakeAsk]
    exact if_pos (.inl h)
  · rfl

theorem taskSide.tin {s u : State} (h : taskSide s u) : u.tin = s.tin := by rw [h]
theorem taskSide.fab {s u : State} (h : taskSide s u) : u.fab = s.fab := by rw [h]
theorem taskSide.eng {s u : State} (h : taskSide s u) : u.eng = s.eng := by rw [h]

theorem taskInputArrival_counts {s : State} {t g k i p : Nat} {ev : Ev} {r : List Arrival} (hg : g < 64) (hk : k < 64) (hi : i < 16)
    (harr : s.fab.arrivals = ⟨p, g, k, i, ev⟩ :: r) (hempty : s.ti g k i = TIn.init) (hpow : s.rd PWRSTAT.STATE = 0) :
    ∃ u, exec (.taskInputArrival t g k i [0]) s = .next u ∧ u.fab.arrivals = r ∧
        u.ti g k i = ⟨1, some ⟨ev.id, ev.ts, ev.coinc, ev.tq⟩, none, false, ev.coinc, ev.id⟩ ∧
        (∀ x, x ≠ 1024 * g + 16 * k + i → u.tin.get (fun _ => TIn.init) x = s.tin.get (fun _ => TIn.init) x) ∧
        u.mem = s.mem ∧ u.eng = s.eng := by
  set a : State := { s.advance t with fab := { s.fab with arrivals := r } } with ha
  set b := (a.countCoinc 0).applyArrivals g k i [ev] with hb
  have hone : (s.advance t).arrivals g k i [0] = b.lookAt g k := State.arrivals_one (s := s.advance t) harr
  have hlook := taskSide.lookAt b g k
  have hbpow : b.rd PWRSTAT.STATE = s.rd PWRSTAT.STATE := by
    rw [hb, State.applyArrivals, State.modTi_rd, State.countCoinc, State.wr64,
      State.wr_rd_ne _ _ _ _ _ _ _ _ (by decide), State.wr_rd_ne _ _ _ _ _ _ _ _ (by decide)]
    rfl
  have hwake : (b.lookAt g k).wakeSlot g k = b.lookAt g k := by
    refine State.wakeSlot_aloft ?_ g k
    rw [State.rd_of_regs _ _ _ _ _ hlook.regs, hbpow, hpow]
  have hbtin : b.tin = s.tin.set (fun _ => TIn.init) (1024 * g + 16 * k + i) (TIn.init.arrive ev) := by
    have hti : ((a.countCoinc 0).ti g k i) = TIn.init := hempty
    rw [hb, State.applyArrivals, State.modTi, hti]
    rfl
  refine ⟨_, s.ran_ok (((s.advance t).arrivals g k i [0]).wakeSlot g k) _ (by simp [hg, hk, hi]), ?_⟩
  rw [hone, hwake]
  refine ⟨?_, ?_, fun x hx => ?_, ?_, ?_⟩
  · rw [State.withQueue_fab, hlook.fab]
    rfl
  · have hti (u : State) (h : u.tin = b.tin) : u.ti g k i = TIn.init.arrive ev := by
      rw [State.ti, h, hbtin]
      exact Store.get_set_same _ _ _ _
    exact (hti (b.lookAt g k) hlook.tin).trans (TIn.arrive_init ev)
  · rw [State.withQueue_tin, hlook.tin, hbtin]
    exact Store.get_set_ne _ _ _ _ _ hx
  · rw [State.withQueue_mem, hlook.mem]
    rfl
  · rw [State.withQueue_eng, hlook.eng]
    rfl

/-! ### Orders to a slot (R140, R155) -/

theorem State.lookAt_req (s : State) (g k : Nat) : ((s.lookAt g k).ts g k).req = (s.ts g k).req := by
  rw [State.lookAt]
  split
  · split
    · have hdec (u : State) : (u.decide_ g).ts g k = u.ts g k := by
        rw [State.decide_]
        split <;> rfl
      rw [hdec, State.modSch_ts, State.modTs_ts]
    · rfl
  · split
    · rfl
    · rw [State.modSch_ts, State.modTs_ts]
  · rfl

theorem State.decideSch_ts (s : State) (g h k : Nat) : (s.decide_ g).ts h k = s.ts h k := by
  rw [State.decide_]
  split <;> rfl

theorem State.decideSch_order (s : State) (g : Nat) : ((s.decide_ g).sch g).order = (s.sch g).order := by
  rw [State.decide_]
  split
  · rw [State.modSch_sch]
  · rfl

/-- An idle slot whose condition holds becomes ready, behind the others. -/
theorem State.lookAt_ready {s : State} {g k : Nat} (hst : (s.ts g k).st = .idle) (hcond : s.slotCond g k = true) :
    ((s.lookAt g k).ts g k).st = .ready ∧ ((s.lookAt g k).sch g).order = (s.sch g).order ++ [k] := by
  rw [State.lookAt, hst]
  dsimp only
  rw [if_pos hcond, State.decideSch_ts, State.decideSch_order, State.modSch_ts, State.modTs_ts, State.modSch_sch, State.modTs_sch]
  exact ⟨rfl, rfl⟩

theorem State.slotCond_request {s : State} {g k : Nat} (hen : s.on TDCTL.EN g k = true) (hreq : (s.ts g k).req.isSome = true) :
    s.slotCond g k = true := by
  rw [State.slotCond]
  simp [hen, hreq]

/-- The inputs of a slot are emptied. -/
def State.clearInputs (s : State) (g k : Nat) : State := (upFrom 0 16).foldl (fun s i => s.modTi g k i (fun _ => TIn.init)) s

/-- `u` is `s` but for the task inputs. -/
def inputSide (s u : State) : Prop := u = { s with tin := u.tin }

theorem State.clearInputs_side (s : State) (g k : Nat) : inputSide s (s.clearInputs g k) := by
  have key (l : List Nat) (u : State) : inputSide u (l.foldl (fun s i => s.modTi g k i (fun _ => TIn.init)) u) := by
    induction l generalizing u with
    | nil => rfl
    | cons i r ih =>
      have hr := ih (u.modTi g k i (fun _ => TIn.init))
      unfold inputSide at hr ⊢
      rw [List.foldl_cons, hr]
      rfl
  exact key (upFrom 0 16) s

theorem State.clearInputs_ti (s : State) (g k : Nat) {j : Nat} (hj : j < 16) : (s.clearInputs g k).ti g k j = TIn.init := by
  have key (l : List Nat) (u : State) : ((l.foldl (fun s i => s.modTi g k i (fun _ => TIn.init)) u).ti g k j) =
      if j ∈ l then TIn.init else u.ti g k j := by
    induction l generalizing u with
    | nil => simp
    | cons i r ih =>
      rw [List.foldl_cons, ih]
      by_cases hr : j ∈ r
      · rw [if_pos hr, if_pos (List.mem_cons_of_mem _ hr)]
      · rw [if_neg hr]
        by_cases hi : j = i
        · subst hi
          rw [if_pos List.mem_cons_self]
          exact Store.get_set_same (fun _ => TIn.init) u.tin (1024 * g + 16 * k + j) TIn.init
        · rw [if_neg (by simp [hi, hr])]
          exact Store.get_set_ne (fun _ => TIn.init) u.tin (1024 * g + 16 * k + i) (1024 * g + 16 * k + j) TIn.init (by omega)
  rw [State.clearInputs, key, if_pos ((upFrom_mem _ _ _).mpr (by omega))]

/-! ### Plain registers (R10) -/

/-- A field of a word in which no bit of `k` lies. -/
theorem RField.of_or {F : RField} {k : Word} (h : ∀ j, j < F.len → k.getLsbD (F.lo + j) = false) (v : Word) : F.of (v ||| k) = F.of v := by
  rw [RField.of, RField.of, bitsAt, bitsAt]
  refine Nat.eq_of_testBit_eq fun j => ?_
  rw [Nat.testBit_mod_two_pow, Nat.testBit_mod_two_pow, Nat.testBit_div_two_pow, Nat.testBit_div_two_pow]
  by_cases hj : j < F.len
  · have hm := h j hj
    rw [Nat.add_comm F.lo j] at hm
    simp only [BitVec.testBit_toNat, BitVec.getLsbD_or, hm, Bool.or_false]
  · simp [hj]

/-- A field whose bits are all writable takes those of the word written. -/
theorem State.plainWrite_rd {s : State} {a : Nat} {r : RegRow} {F : RField} {n i : Nat} (w : Word) (hrow : regRow a = some r)
    (ha : F.adr n i = a) (hmask : ∀ j, j < F.len → (BitVec.ofNat 32 r.rw).getLsbD (F.lo + j) = true) :
    (s.plainWrite a w).rd F n i = F.of w := by
  have hreg : (s.plainWrite a w).reg a = (s.reg a &&& ~~~(BitVec.ofNat 32 r.rw) &&& ~~~(BitVec.ofNat 32 r.w1c &&& w)) |||
      (w &&& BitVec.ofNat 32 r.rw) := by
    rw [State.plainWrite, hrow]
    exact State.setReg_reg _ _ _
  rw [State.rd, ha, hreg, RField.of, bitsAt, bitsAt]
  refine Nat.eq_of_testBit_eq fun j => ?_
  rw [Nat.testBit_mod_two_pow, Nat.testBit_mod_two_pow, Nat.testBit_div_two_pow, Nat.testBit_div_two_pow]
  by_cases hj : j < F.len
  · have hm := hmask j hj
    rw [Nat.add_comm F.lo j] at hm
    simp only [BitVec.testBit_toNat, BitVec.getLsbD_or, BitVec.getLsbD_and, BitVec.getLsbD_not, hm]
    simp
  · simp [hj]

theorem State.plainWrite_reg_ne {s : State} {a b : Nat} (w : Word) (h : b ≠ a) : (s.plainWrite a w).reg b = s.reg b := by
  rw [State.plainWrite]
  split
  · rfl
  · exact State.setReg_reg_ne _ _ _ _ h

theorem regsOnly.plainWrite (s : State) (a : Nat) (w : Word) : regsOnly s (s.plainWrite a w) := by
  rw [State.plainWrite]
  split
  · rfl
  · rfl

/-- The block of a register of the schedulers. -/
theorem blkOf_sch {g o : Nat} (hg : g < 64) (ho : o < 0x4000) : blkOf (0x1004000 + 0x40000 * g + o) = some (.sch, g, o) := by
  have hmod : (0x1004000 + 0x40000 * g + o) % 0x40000 = 0x4000 + o := by omega
  have hdiv : (0x1004000 + 0x40000 * g + o - 0x1000000) / 0x40000 = g := by omega
  rw [blkOf, if_neg (by omega), if_neg (by omega), if_neg (by omega), if_neg (by omega), if_neg (by omega), if_neg (by omega),
    if_neg (by omega), if_neg (by omega), if_neg (by omega), if_neg (by omega), if_neg (by omega), if_neg (by omega),
    if_neg (by omega), if_neg (by omega), if_pos (by omega)]
  dsimp only
  rw [hmod, hdiv, if_neg (by omega), if_pos (by omega), Nat.add_sub_cancel_left]

theorem regRow_tdctl {g k : Nat} (hg : g < 64) (hk : k < 64) :
    regRow (TDCTL.WHOLE.adr g k) = some ⟨0x100, 64, 16, 0xff80ffff, 0x0, 0x0, 0x0, 0xff80ffff, 0x0⟩ := by
  have hadr : TDCTL.WHOLE.adr g k = 0x1004000 + 0x40000 * g + (0x100 + 16 * k) := by
    simp only [RField.adr, blkBase, TDCTL.WHOLE, Nat.add_assoc]
  have hblk : blkOf (TDCTL.WHOLE.adr g k) = some (.sch, g, 0x100 + 16 * k) := hadr ▸ blkOf_sch hg (by omega)
  have hrow : ∀ k, k < 64 → (rowAt (blkRows .sch) (0x100 + 16 * k)).map (·.1) =
      some ⟨0x100, 64, 16, 0xff80ffff, 0x0, 0x0, 0x0, 0xff80ffff, 0x0⟩ := by decide
  rw [regRow, hblk]
  exact hrow k hk

/-! ### The orders -/

theorem inputSide.ts {s u : State} (h : inputSide s u) (g k : Nat) : u.ts g k = s.ts g k := by
  rw [h]
  rfl

theorem inputSide.ran {s c u : State} {t : Nat} (h : inputSide (s.advance t) c) (k : taskSide c u) :
    u.withQueue s.pending = { s with now := (u.withQueue s.pending).now, tin := (u.withQueue s.pending).tin
                                     slot := (u.withQueue s.pending).slot, sched := (u.withQueue s.pending).sched } := by
  unfold inputSide at h
  unfold taskSide at k
  rw [k, h]
  rfl

theorem taskSide.ran {s u : State} {t : Nat} (h : taskSide (s.advance t) u) :
    u.withQueue s.pending = { s with now := (u.withQueue s.pending).now
                                     slot := (u.withQueue s.pending).slot, sched := (u.withQueue s.pending).sched } := by
  unfold taskSide at h
  rw [h]
  rfl

theorem regsOnly.ranTask {s c u : State} {t : Nat} (h : regsOnly (s.advance t) c) (k : taskSide c u) :
    u.withQueue s.pending = { s with now := (u.withQueue s.pending).now, regs := (u.withQueue s.pending).regs
                                     slot := (u.withQueue s.pending).slot, sched := (u.withQueue s.pending).sched } := by
  unfold regsOnly at h
  unfold taskSide at k
  rw [k, h]
  rfl

section
variable {s : State} {t g k : Nat} {src : Src} {v : Word} (hg : g < 64) (hsrc : src.ok = true)
include hg hsrc

section
variable (happ : s.applies src (TASKRUN.WHOLE.adr g 0) = true) (hslot : v.toNat % 64 = k)
include happ hslot

theorem taskrunClr_empties (hv : v.toNat.testBit 30 = false) :
    ∃ u, exec (.taskrunClr t src g v) s = .next u ∧
        u = { s with now := u.now, tin := u.tin, slot := u.slot, sched := u.sched } ∧ (∀ j, j < 16 → u.ti g k j = TIn.init) ∧
        (u.ts g k).req = (s.ts g k).req := by
  have hclr : TASKRUN.CLR.of (v ||| 0x80000000) = 1 := RField.of_bit_set rfl (by decide) v
  have hrun : TASKRUN.RUN.of (v ||| 0x80000000) = 0 := by
    rw [RField.of_bit_kept rfl (by decide), ← Nat.toNat_testBit]
    exact congrArg Bool.toNat hv
  have hk : TASKRUN.SLOT.of (v ||| 0x80000000) = k := by
    rw [RField.of_or (by decide), ← hslot]
    exact congrArg (· % 64) (Nat.div_one _)
  have hwrite (a : State) : a.taskrunWrite g (v ||| 0x80000000) = (a.clearInputs g k).lookAt g k := by
    rw [State.taskrunWrite, hk, if_pos hclr, if_neg (by omega)]
    rfl
  have hex := does_of_applies (i := .taskrunClr t src g v) (t := t) happ rfl (by simp [hg, hsrc])
  rw [does, hwrite] at hex
  set c := (s.advance t).clearInputs g k with hc
  have hclear : inputSide (s.advance t) c := State.clearInputs_side _ g k
  have hlook := taskSide.lookAt c g k
  refine ⟨_, hex, inputSide.ran hclear hlook, fun j hj => ?_, ?_⟩
  · have hcti : c.ti g k j = TIn.init := by rw [hc, State.clearInputs_ti _ _ _ hj]
    rw [State.ti, State.withQueue_tin, hlook.tin, ← State.ti, hcti]
  · rw [State.withQueue_ts, State.lookAt_req, hclear.ts]
    rfl

theorem taskrunRun_readies (hv : v.toNat.testBit 31 = false) (hen : s.on TDCTL.EN g k = true) (hst : (s.ts g k).st = .idle)
    (hreq : (s.ts g k).req = none) :
    ∃ u, exec (.taskrunRun t src g v) s = .next u ∧ u = { s with now := u.now, slot := u.slot, sched := u.sched } ∧
          (u.ts g k).st = .ready ∧ (u.ts g k).req = some (u.fine 0 / 64 * 64) ∧ (u.sch g).order = (s.sch g).order ++ [k] := by
  have hrun : TASKRUN.RUN.of (v ||| 0x40000000) = 1 := RField.of_bit_set rfl (by decide) v
  have hclr : TASKRUN.CLR.of (v ||| 0x40000000) = 0 := by
    rw [RField.of_bit_kept rfl (by decide), ← Nat.toNat_testBit]
    exact congrArg Bool.toNat hv
  have hk : TASKRUN.SLOT.of (v ||| 0x40000000) = k := by
    rw [RField.of_or (by decide), ← hslot]
    exact congrArg (· % 64) (Nat.div_one _)
  set c := (s.advance t).modTs g k (fun x => { x with req := some ((s.advance t).tsInt) }) with hc
  have hwrite : (s.advance t).taskrunWrite g (v ||| 0x40000000) = c.lookAt g k := by
    rw [State.taskrunWrite, hk, if_pos hrun, if_neg (c := TASKRUN.CLR.of (v ||| 0x40000000) = 1) (by omega), hc]
    refine congrArg (fun u : State => u.lookAt g k) ?_
    rw [State.modTs, State.modTs, State.advance_ts, hreq]
    rfl
  have hex := does_of_applies (i := .taskrunRun t src g v) (t := t) happ rfl (by simp [hg, hsrc])
  rw [does, hwrite] at hex
  have hcts : c.ts g k = { s.ts g k with req := some ((s.advance t).tsInt) } := by rw [hc, State.modTs_ts, State.advance_ts]
  have hlook := taskSide.lookAt c g k
  have hcond : c.slotCond g k = true := State.slotCond_request hen (by rw [hcts]; rfl)
  obtain ⟨hready, horder⟩ := State.lookAt_ready (s := c) (by rw [hcts]; exact hst) hcond
  refine ⟨_, hex, ((taskSide.modTs _ _ _ _).trans hlook).ran, ?_, ?_, ?_⟩
  · rw [State.withQueue_ts, hready]
  · have hfine (u : State) (h : taskSide c u) : (u.withQueue s.pending).fine 0 / 64 * 64 = (s.advance t).tsInt := by
      unfold taskSide at h
      rw [h]
      rfl
    rw [State.withQueue_ts, State.lookAt_req, hcts, hfine _ hlook]
  · rw [State.sch_withQueue, horder]
    rfl

end

theorem tdctlWrite_readies (hk : k < 64) (happ : s.applies src (TDCTL.WHOLE.adr g k) = true) (hv : v.toNat.testBit 31 = true)
    (hst : (s.ts g k).st = .idle) (hreq : (s.ts g k).req.isSome = true) :
    ∃ u, exec (.tdctlWrite t src g k v) s = .next u ∧ u = { s with now := u.now, regs := u.regs, slot := u.slot, sched := u.sched } ∧
        u.rd TDCTL.EN g k = 1 ∧ u.rd TDCTL.PRIO g k = v.toNat / 2 ^ 27 % 8 ∧ u.rd TDCTL.TRIG g k = v.toNat % 2 ^ 16 ∧
        (u.ts g k).st = .ready ∧ (∀ a, a ≠ TDCTL.WHOLE.adr g k → u.reg a = s.reg a) := by
  have hex := does_of_applies (i := .tdctlWrite t src g k v) (t := t) happ rfl (by simp [hg, hk, hsrc])
  rw [does, State.tdctlWrite] at hex
  set c := (s.advance t).plainWrite (TDCTL.WHOLE.adr g k) v with hc
  have hregs : regsOnly (s.advance t) c := .plainWrite _ _ _
  have hrow := regRow_tdctl hg hk
  have hlook := taskSide.lookAt c g k
  have hrd (F : RField) : ((c.lookAt g k).withQueue s.pending).rd F g k = c.rd F g k := by
    rw [State.withQueue_rd]
    exact State.rd_of_regs _ _ _ _ _ hlook.regs
  have hen : c.rd TDCTL.EN g k = 1 := by
    rw [hc, State.plainWrite_rd (F := TDCTL.EN) v hrow rfl (by decide), RField.of_bit rfl]
    exact congrArg Bool.toNat hv
  have hcts : c.ts g k = s.ts g k := by
    have hslot : c.slot = s.slot := by rw [hregs]; rfl
    rw [State.ts, State.ts, hslot]
  obtain ⟨hready, -⟩ := State.lookAt_ready (s := c) (by rw [hcts]; exact hst)
    (State.slotCond_request (by rw [State.on, hen]; rfl) (by rw [hcts]; exact hreq))
  refine ⟨_, hex, hregs.ranTask hlook, ?_, ?_, ?_, ?_, fun a ha => ?_⟩
  · rw [hrd, hen]
  · rw [hrd, hc, State.plainWrite_rd (F := TDCTL.PRIO) v hrow rfl (by decide)]
    rfl
  · rw [hrd, hc, State.plainWrite_rd (F := TDCTL.TRIG) v hrow rfl (by decide)]
    exact congrArg (· % 2 ^ 16) (Nat.div_one _)
  · rw [State.withQueue_ts, hready]
  · rw [State.withQueue_reg, State.reg_of_regs _ _ a hlook.regs, hc, State.plainWrite_reg_ne v ha]
    rfl

end

/-- Settles O27: arrivals by `State.arrivals_one`, the orders by `State.lookAt_ready`, slack by `slackRecompute_shows`. -/
theorem taskInputs : Obligations.TaskInputs := by
  unfold Obligations.TaskInputs
  refine ⟨?inputs, slackRecompute_shows⟩
  intro t g k i s hg hk hi
  refine ⟨fun p ev r harr hempty hpow => taskInputArrival_counts hg hk hi harr hempty hpow, fun src v hsrc happ hslot => ⟨?clr, ?run⟩, ?en⟩
  case clr => exact fun hv => taskrunClr_empties hg hsrc happ hslot hv
  case run => exact fun hv hen hst hreq => taskrunRun_readies hg hsrc happ hslot hv hen hst hreq
  case en => exact fun src v hsrc happ hv hst hreq => tdctlWrite_readies hg hsrc hk happ hv hst hreq

end Sys2Proof.Machine
end

section
/-! PROOFS. Event routing (chapter 5): delivery to a task, the caches of the routers, their invalidation and the coherence pass. -/
namespace Sys2Proof.Machine
open Reg

/-! ### Delivery to a task (R131, R135) -/

theorem bitAt_high {w1 : Nat} (h : w1 < 2 ^ 28) : bitAt (0x80000000 + w1) 31 = true ∧ bitAt (0x80000000 + w1) 30 = false ∧
    bitAt (0x80000000 + w1) 29 = false ∧ bitAt (0x80000000 + w1) 28 = false := by
  simp only [bitAt, beq_iff_eq, beq_eq_false_iff_ne]
  omega

theorem routeBad_task {w1 : Nat} (h : w1 < 2 ^ 28) (h11 : w1.testBit 11 = false) : routeBad (0x80000000 + w1) 0 = false := by
  obtain ⟨-, -, -, h28⟩ := bitAt_high h
  have hlow : bitAt (0x80000000 + w1) 11 = false := by
    rw [← bitAt_eq_testBit] at h11
    simp only [bitAt, beq_eq_false_iff_ne] at h11 ⊢
    omega
  simp [routeBad, h28, hlow]

/-- The arrival that an entry of a task input makes of an event. -/
def State.arrivalOf (s : State) (ev : Ev) (w1 : Nat) : Arrival :=
  ⟨s.fromPort ev, w1 / 2 ^ 22 % 64, w1 / 2 ^ 16 % 64, w1 / 2 ^ 12 % 16, ev⟩

/-- An event whose entry names a task input alone. -/
theorem State.deliver_task {s : State} {ev : Ev} {w1 : Nat} (hw : w1 < 2 ^ 28) (h11 : w1.testBit 11 = false)
    (hiso : s.isolated (s.phys (w1 / 2 ^ 22 % 64)) = false) (hlost : s.evLost ev = false) :
    s.deliver ev (0x80000000 + w1) 0 = { s with fab := { s.fab with arrivals := s.fab.arrivals ++ [s.arrivalOf ev w1] } } := by
  obtain ⟨h31, h30, h29, -⟩ := bitAt_high hw
  have hg : bitsAt (0x80000000 + w1) 22 6 = w1 / 2 ^ 22 % 64 := by rw [bitsAt]; omega
  have hk : bitsAt (0x80000000 + w1) 16 6 = w1 / 2 ^ 16 % 64 := by rw [bitsAt]; omega
  have hi : bitsAt (0x80000000 + w1) 12 4 = w1 / 2 ^ 12 % 16 := by rw [bitsAt]; omega
  have htask : s.toTask ev (0x80000000 + w1) = { s with fab := { s.fab with arrivals := s.fab.arrivals ++ [s.arrivalOf ev w1] } } := by
    rw [State.toTask, hg, hk, hi, hlost, hiso]
    dsimp only
    split
    · rfl
    · rw [if_neg (by decide), if_neg (by decide)]
      rfl
  have hkind : ¬ (routeBad (0x80000000 + w1) 0 = true ∨ (0x80000000 + w1) / 2 ^ 29 % 8 = 0) := by
    rintro (h | h)
    · exact absurd (h.symm.trans (routeBad_task hw h11)) (by decide)
    · omega
  rw [State.deliver, if_neg hkind, h31, h30, h29]
  simp only [Bool.false_eq_true, false_and, if_false, if_true]
  exact htask

/-! ### The head of a FIFO (R134) -/

/-- `u` is `s` but for the routers and what they pass on. -/
def fabSide (s u : State) : Prop := u = { s with fab := u.fab }

theorem fabSide.refl (s : State) : fabSide s s := (rfl)

theorem fabSide.trans {s u v : State} (h : fabSide s u) (k : fabSide u v) : fabSide s v := by
  unfold fabSide at *
  rw [k, h]

theorem fabSide.modRouter (s : State) (r : Nat) (f : Router → Router) : fabSide s (s.modRouter r f) := (rfl)
theorem fabSide.withFab (s : State) (f : Fabric) : fabSide s { s with fab := f } := (rfl)

section
variable {s u : State} (h : fabSide s u)
include h

theorem fabSide.regs : u.regs = s.regs := by rw [h]
theorem fabSide.mem : u.mem = s.mem := by rw [h]
theorem fabSide.eng : u.eng = s.eng := by rw [h]
theorem fabSide.rd (F : RField) (n i : Nat) : u.rd F n i = s.rd F n i := State.rd_of_regs _ _ _ _ _ h.regs
theorem fabSide.isolated (p : Nat) : u.isolated p = s.isolated p := by rw [State.isolated, State.isolated, h.rd]
theorem fabSide.phys (g : Nat) : u.phys g = s.phys g := h.rd _ _ _
theorem fabSide.evLost (ev : Ev) : u.evLost ev = s.evLost ev := by rw [State.evLost, State.evLost, h.phys, h.isolated]

theorem fabSide.arrivalOf (ev : Ev) (w1 : Nat) : u.arrivalOf ev w1 = s.arrivalOf ev w1 := by
  rw [State.arrivalOf, State.arrivalOf, State.fromPort, State.fromPort, State.evPort, State.evPort, h.phys]

end

theorem State.cnt_router (s : State) (F : RField) (k n i r : Nat) : (s.cnt F k n i).router r = s.router r := (rfl)
theorem State.inc_router (s : State) (F : RField) (k n i r : Nat) : (s.inc F k n i).router r = s.router r := (rfl)
theorem State.wr_router (s : State) (F : RField) (v n i r : Nat) : (s.wr F v n i).router r = s.router r := (rfl)
theorem State.withQueue_router (s : State) (q : List Instr) (r : Nat) : (s.withQueue q).router r = s.router r := (rfl)

theorem State.popHead_router (s : State) (r : Nat) :
    (s.popHead r).router r = { s.router r with fifo := (s.router r).fifo.drop 1, fill := none } := State.modRouter_router _ _ _

theorem fabSide.popHead (s : State) (r : Nat) : fabSide s (s.popHead r) := .modRouter _ _ _

theorem State.popHead_arrivals (s : State) (r : Nat) : (s.popHead r).fab.arrivals = s.fab.arrivals := (rfl)

/-- With event routing off the head is discarded and counted (R135). -/
theorem State.routeHead_off {s : State} {r : Nat} {ev : Ev} {f : List (Ev × Bool)} (hfifo : (s.router r).fifo = (ev, false) :: f)
    (hfill : (s.router r).fill = none) (hen : s.on EFCTL.EN = false) : s.routeHead r = (s.popHead r).cnt UNROUTED.COUNT := by
  delta State.routeHead
  extract_lets x
  have hx : x.fifo = (ev, false) :: f := hfifo
  have hy : x.fill = none := hfill
  rw [hx, hy]
  exact if_pos (by simp [hen])

theorem State.routeHead_step {s : State} {r : Nat} {ev : Ev} {f : List (Ev × Bool)} (hfifo : (s.router r).fifo = (ev, false) :: f)
    (hfill : (s.router r).fill = none) (hen : s.on EFCTL.EN = true) : s.routeHead r = s.routeStep r ev := by
  delta State.routeHead
  extract_lets x
  have hx : x.fifo = (ev, false) :: f := hfifo
  have hy : x.fill = none := hfill
  rw [hx, hy]
  exact (if_neg (by simp [hen])).trans (if_neg (by decide))

/-- The cached entry of an event becomes the most recently used. -/
def State.touchRoute (s : State) (r id : Nat) : State :=
  s.modRouter r (fun x => { x with clock := x.clock + 1, route := x.route.map (fun m => if m.id = id then { m with used := x.clock + 1 } else m) })

/-- A cached entry routes the head. -/
theorem State.routeStep_hit {s : State} {r : Nat} {ev : Ev} {l : RLine} (hroute : (s.router r).route = [l]) (hid : l.id = ev.id) :
    s.routeStep r ev = ((s.touchRoute r ev.id).popHead r).deliver ev l.w0 l.w1 := by
  have hfind : (s.router r).route.find? (fun l => l.id = ev.id) = some l := by
    rw [hroute, List.find?_cons_of_pos (by simpa using hid)]
  rw [State.routeStep, State.routeHit, hfind]
  rfl

/-! ### A missing line (R134) -/

theorem accessOk_eight {a : Nat} (h : a % 8 = 0) : accessOk a 8 = true := accessOk_word h

/-- A read of a table entry whose bank and port are reached. -/
theorem State.tableRead_ok {s : State} {p a : Nat} (hport : s.isolated p = false) (hin : a < 0x1800000) (hal : a % 8 = 0)
    (hbank : s.isolated (68 + a / 0x40000) = false) (hpois : s.mem.poisoned [a / 8] = false) :
    s.tableRead p a 8 .clean = (s, some (s.mem.sramBytes a 8)) := by
  have hread := State.sramReadBy_ok (s := s) (a := a) (n := 8) hin (accessOk_eight hal) hbank (by rw [wordsOf_word hal]; exact hpois)
    .jtag .clean rfl
  rw [State.tableRead, hport, hread]
  rfl

theorem entryWord_eight {a : Nat} (m : Mem) : entryWord (m.sramBytes a 8) 0 = ofBytes (m.sramBytes a 4) := by
  rw [entryWord, Nat.mul_zero, List.drop_zero, Mem.sramBytes_take _ _ (by decide)]

theorem entryWord_bytes {w : Nat} (h : w < 2 ^ 32) : entryWord (toBytes 8 w) 0 = w ∧ entryWord (toBytes 8 w) 1 = 0 := by
  have hfirst : entryWord (toBytes 8 w) 0 = ofBytes (toBytes 4 w) := rfl
  have hsecond : entryWord (toBytes 8 w) 1 = ofBytes (toBytes 4 (w / 256 / 256 / 256 / 256)) := rfl
  rw [hfirst, hsecond, ofBytes_toBytes, ofBytes_toBytes]
  omega

/-- The line that a router fetches is cached, and then routes the head. -/
theorem State.fillDone_route {s : State} {r : Nat} {ev : Ev} {f : List (Ev × Bool)} {d : List Byte}
    (hfifo : (s.router r).fifo = (ev, false) :: f) (hfill : (s.router r).fill = some false) (hen : s.on EFCTL.EN = true)
    (hread : s.tableRead (routerPort r) (s.routeAdr ev.id) 8 .clean = (s, some d)) :
    s.fillDone r .clean = ((s.modRouter r (fun x => x.addRoute (routeLines r) ev.id (entryWord d 0) (entryWord d 1))).popHead r).deliver
      ev (entryWord d 0) (entryWord d 1) := by
  delta State.fillDone
  extract_lets x
  have hx : x.fifo = (ev, false) :: f := hfifo
  have hy : x.fill = some false := hfill
  rw [hx, hy]
  refine (if_neg (by simp [hen])).trans ((if_neg (by decide)).trans ?_)
  rw [hread]

section
variable {s : State} {t r w1 : Nat} {ev : Ev} {f : List (Ev × Bool)} (hfifo : (s.router r).fifo = (ev, false) :: f)
include hfifo

theorem routerRouteEvent_off (hr : r < 69) (hen : s.on EFCTL.EN = false) (hfill : (s.router r).fill = none) :
    ∃ u, exec (.routerRouteEvent t r) s = .next u ∧
      (u.router r).fifo = f ∧ u.rd UNROUTED.COUNT = satTo 0xFFFFFFFF (s.rd UNROUTED.COUNT + 1) ∧
      u.fab.arrivals = s.fab.arrivals ∧ u.mem = s.mem ∧ u.eng = s.eng := by
  have hhead : (s.advance t).routeHead r = ((s.advance t).popHead r).cnt UNROUTED.COUNT :=
    State.routeHead_off (s := s.advance t) hfifo hfill hen
  refine ⟨_, s.ran_ok ((s.advance t).routeHead r) _ (by simp [hr]), ?_⟩
  rw [hhead]
  have hside : fabSide (s.advance t) ((s.advance t).popHead r) := .popHead _ r
  have hrouter : ((s.advance t).popHead r).router r = { s.router r with fifo := (s.router r).fifo.drop 1, fill := none } :=
    State.popHead_router _ _
  have harr : ((s.advance t).popHead r).fab.arrivals = s.fab.arrivals := State.popHead_arrivals _ _
  rw [State.withQueue_router, State.cnt_router, hrouter, hfifo, State.withQueue_rd, State.cnt_rd _ _ _ _ _ (by decide), hside.rd,
    State.withQueue_fab, State.cnt_fab, harr, State.withQueue_mem, State.cnt_mem, hside.mem, State.withQueue_eng, State.cnt_eng,
    hside.eng]
  exact ⟨rfl, rfl, rfl, rfl, rfl⟩

variable (hw : w1 < 2 ^ 28) (h11 : w1.testBit 11 = false) (hiso : s.isolated (s.phys (w1 / 2 ^ 22 % 64)) = false)
  (hlost : s.evLost ev = false)
include hw h11 hiso hlost

/-- What shows of a head that goes to a task input. -/
theorem State.deliver_shows {a v : State} (ha : fabSide s a) (hafifo : (a.router r).fifo = (s.router r).fifo)
    (haarr : a.fab.arrivals = s.fab.arrivals) (hv : v = (a.popHead r).deliver ev (0x80000000 + w1) 0) :
    (v.router r).fifo = f ∧ (v.router r).fill = none ∧ (v.router r).route = (a.router r).route ∧
      v.fab.arrivals = s.fab.arrivals ++ [s.arrivalOf ev w1] ∧ fabSide s v := by
  have hpop := ha.trans (.popHead a r)
  have hdeliver := State.deliver_task (s := a.popHead r) hw h11 (by rw [hpop.isolated, hpop.phys]; exact hiso)
    (by rw [hpop.evLost]; exact hlost)
  have hrouter : v.router r = (a.popHead r).router r := by
    rw [hv, hdeliver]
    rfl
  rw [hrouter, State.popHead_router, hafifo, hfifo]
  refine ⟨rfl, rfl, rfl, ?_, ?_⟩
  · rw [hv, hdeliver, hpop.arrivalOf]
    exact congrArg (· ++ [s.arrivalOf ev w1]) haarr
  · rw [hv, hdeliver]
    exact hpop.trans (.withFab _ _)

theorem routerRouteEvent_hit (hr : r < 69) {l : Nat} (hen : s.on EFCTL.EN = true) (hfill : (s.router r).fill = none)
    (hroute : (s.router r).route = [⟨l, ev.id, 0x80000000 + w1, 0, 0⟩]) :
    ∃ u, exec (.routerRouteEvent t r) s = .next u ∧ (u.router r).fifo = f ∧
      u.fab.arrivals = s.fab.arrivals ++ [s.arrivalOf ev w1] ∧ u.regs = s.regs ∧ u.mem = s.mem ∧ u.eng = s.eng := by
  have hhead := State.routeHead_step (s := s.advance t) hfifo hfill hen
  have hstep := State.routeStep_hit (s := s.advance t) (ev := ev) hroute rfl
  set a := (s.advance t).touchRoute r ev.id with ha
  have hrouter : (a.router r).fifo = (s.router r).fifo := by rw [ha, State.touchRoute, State.modRouter_router]; rfl
  obtain ⟨hf, -, -, harr, hside⟩ := State.deliver_shows (s := s.advance t) hfifo hw h11 hiso hlost (a := a) (.modRouter _ _ _) hrouter
    rfl (hhead.trans hstep)
  refine ⟨_, s.ran_ok ((s.advance t).routeHead r) _ (by simp [hr]), ?_⟩
  rw [State.withQueue_router, hf, State.withQueue_fab, harr, State.withQueue_regs, hside.regs, State.withQueue_mem, hside.mem,
    State.withQueue_eng, hside.eng]
  exact ⟨rfl, rfl, rfl, rfl, rfl⟩

theorem routerFillDone_route (hr : r < 69) (hen : s.on EFCTL.EN = true) (hfill : (s.router r).fill = some false)
    (hid : ev.id < 8192) (hbase : s.rd ROUTEBASE.BASE ≤ 0x17E)
    (hbank : s.isolated (68 + (s.rd ROUTEBASE.BASE * 2 ^ 16 + 8 * ev.id) / 0x40000) = false)
    (hpois : s.mem.poisoned [(s.rd ROUTEBASE.BASE * 2 ^ 16 + 8 * ev.id) / 8] = false)
    (hentry : s.mem.sramBytes (s.rd ROUTEBASE.BASE * 2 ^ 16 + 8 * ev.id) 8 = toBytes 8 (0x80000000 + w1))
    (hport : s.isolated (routerPort r) = false) :
    ∃ u, exec (.routerFillDone t r .clean) s = .next u ∧ (u.router r).fifo = f ∧ (u.router r).fill = none ∧
        u.fab.arrivals = s.fab.arrivals ++ [s.arrivalOf ev w1] ∧ (∃ l ∈ (u.router r).route, l.id = ev.id ∧ l.w0 = 0x80000000 + w1) ∧
        u.regs = s.regs ∧ u.mem = s.mem := by
  obtain ⟨hfirst, hsecond⟩ := entryWord_bytes (w := 0x80000000 + w1) (by omega)
  have hread : (s.advance t).tableRead (routerPort r) ((s.advance t).routeAdr ev.id) 8 .clean =
      (s.advance t, some (toBytes 8 (0x80000000 + w1))) := by
    rw [← hentry]
    exact State.tableRead_ok (s := s.advance t) (a := s.rd ROUTEBASE.BASE * 2 ^ 16 + 8 * ev.id) hport (by omega) (by omega) hbank hpois
  have hdone := State.fillDone_route (s := s.advance t) hfifo hfill hen hread
  rw [hfirst, hsecond] at hdone
  set a := (s.advance t).modRouter r (fun x => x.addRoute (routeLines r) ev.id (0x80000000 + w1) 0) with ha
  have hrouter : a.router r = (s.router r).addRoute (routeLines r) ev.id (0x80000000 + w1) 0 := State.modRouter_router _ _ _
  obtain ⟨hf, hfilled, hline, harr, hside⟩ := State.deliver_shows (s := s.advance t) hfifo hw h11 hiso hlost (a := a) (.modRouter _ _ _)
    (by rw [hrouter]; rfl) rfl hdone
  refine ⟨_, s.ran_ok ((s.advance t).fillDone r .clean) _ (by simp [hr]), ?_⟩
  rw [State.withQueue_router, hf, hfilled, hline, hrouter, State.withQueue_fab, harr, State.withQueue_regs, hside.regs,
    State.withQueue_mem, hside.mem]
  refine ⟨rfl, rfl, rfl, ⟨⟨(s.router r).victim (routeLines r), ev.id, 0x80000000 + w1, 0, (s.router r).clock + 1⟩, ?_, rfl, rfl⟩, rfl, rfl⟩
  exact List.mem_append_right _ (List.mem_singleton.mpr rfl)

end

/-! ### Invalidation (R138, R153) -/

/-- Every router is changed alike. -/
def State.eachRouter (s : State) (f : Nat → Router → Router) : State := (upFrom 0 69).foldl (fun s r => s.modRouter r (f r)) s

theorem State.eachRouter_side (s : State) (f : Nat → Router → Router) :
    (s.eachRouter f) = { s with fab := { s.fab with routers := (s.eachRouter f).fab.routers } } := by
  have key (l : List Nat) (u : State) : l.foldl (fun s r => s.modRouter r (f r)) u =
      { u with fab := { u.fab with routers := (l.foldl (fun s r => s.modRouter r (f r)) u).fab.routers } } := by
    induction l generalizing u with
    | nil => rfl
    | cons r rs ih =>
      rw [List.foldl_cons, ih]
      rfl
  exact key _ s

theorem State.eachRouter_router (s : State) (f : Nat → Router → Router) {r : Nat} (hr : r < 69) :
    (s.eachRouter f).router r = f r (s.router r) := by
  have hrest (l : List Nat) (hl : r ∉ l) (u : State) : (l.foldl (fun s r => s.modRouter r (f r)) u).router r = u.router r := by
    induction l generalizing u with
    | nil => rfl
    | cons q qs ih =>
      rw [List.foldl_cons, ih fun h => hl (List.mem_cons_of_mem _ h)]
      exact State.modRouter_router_ne _ _ _ _ fun h => hl (h ▸ List.mem_cons_self)
  rw [State.eachRouter, upFrom_split hr, List.foldl_append, List.foldl_cons, hrest _ (by rw [upFrom_mem]; omega),
    State.modRouter_router, hrest _ (by rw [upFrom_mem]; omega)]

theorem State.invalDone_eq {s : State} {k x : Nat} (h : s.fab.inval = some (k, x)) :
    s.invalDone = (({ s.eachRouter (fun r y => y.inval r k x s.phys) with
      fab := { (s.eachRouter (fun r y => y.inval r k x s.phys)).fab with inval := none } } : State).wr INVALSTAT.BUSY 0).inc
        INVALSTAT.DONECNT := by
  have key (l : List Nat) (u : State) (hu : u.phys = s.phys) :
      l.foldl (fun s r => s.modRouter r (fun y => y.inval r k x s.phys)) u =
        l.foldl (fun v r => v.modRouter r (fun y => y.inval r k x s.phys)) u := by
    induction l generalizing u with
    | nil => rfl
    | cons r rs ih =>
      rw [List.foldl_cons, List.foldl_cons, hu]
      exact ih _ (funext fun g => ((fabSide.modRouter u r _).phys g).trans (congrFun hu g))
  rw [State.invalDone, h]
  dsimp only
  rw [key _ s rfl]
  rfl

/-- A write of INVAL with none in progress, and with one. -/
theorem invalWrite_taken {s : State} {t : Nat} {c : Instr} {k x : Nat} (hex : does c t s (·.invalWrite k x)) :
    (s.fab.inval = none → ∃ u, exec c s = .next u ∧ u = { s with now := u.now, regs := u.regs, fab := u.fab } ∧
        u.fab = { s.fab with inval := some (k, x) } ∧ u.on INVALSTAT.BUSY = true) ∧
      (s.fab.inval ≠ none → ∃ u, exec c s = .next u ∧ onlyRegs s u ∧ u.on INVALSTAT.REFUSED = true) := by
  refine ⟨fun hnone => ?_, fun hsome => ?_⟩
  · have hwrite : (s.advance t).invalWrite k x =
        ({ s.advance t with fab := { s.fab with inval := some (k, x) } } : State).wr INVALSTAT.BUSY 1 := by
      have hnone' : (s.advance t).fab.inval = none := hnone
      rw [State.invalWrite, hnone']
      rfl
    rw [does, hwrite] at hex
    refine ⟨_, hex, rfl, rfl, ?_⟩
    rw [State.on_withQueue, State.on, State.wr_rd _ _ _ _ _ (by decide)]
    rfl
  · have hwrite : (s.advance t).invalWrite k x = (s.advance t).wr INVALSTAT.REFUSED 1 := by
      have hsome' : (s.advance t).fab.inval.isSome = true := Option.isSome_iff_ne_none.mpr hsome
      rw [State.invalWrite, if_pos hsome']
    rw [does, hwrite] at hex
    refine ⟨_, hex, rfl, ?_⟩
    rw [State.on_withQueue, State.on, State.wr_rd _ _ _ _ _ (by decide)]
    rfl

theorem State.withInval_router (s : State) (y : Option (Nat × Nat)) (r : Nat) :
    ({ s with fab := { s.fab with inval := y } } : State).router r = s.router r := (rfl)

/-- The registers and the routers once an invalidation ends. -/
theorem State.invalDone_shows {s : State} {k x : Nat} (h : s.fab.inval = some (k, x)) :
    s.invalDone.fab.inval = none ∧ s.invalDone.rd INVALSTAT.BUSY = 0 ∧
      s.invalDone.rd INVALSTAT.DONECNT = (s.rd INVALSTAT.DONECNT + 1) % 2 ^ 16 ∧
      ∀ r, r < 69 → s.invalDone.router r = (s.router r).inval r k x s.phys := by
  have hside := s.eachRouter_side (fun r y => y.inval r k x s.phys)
  have hrouter (r : Nat) (hr : r < 69) := s.eachRouter_router (fun r y => y.inval r k x s.phys) hr
  rw [State.invalDone_eq h]
  generalize s.eachRouter (fun r y => y.inval r k x s.phys) = a at *
  have hregs : a.regs = s.regs := by rw [hside]
  have hbrd (y : Option (Nat × Nat)) : ({ a with fab := { a.fab with inval := y } } : State).rd INVALSTAT.DONECNT = s.rd INVALSTAT.DONECNT :=
    State.rd_of_regs _ _ _ _ _ hregs
  refine ⟨?_, ?_, ?_, fun r hr => ?_⟩
  · rw [State.inc_fab, State.wr_fab]
  · rw [State.inc, State.wr_rd_other _ _ _ _ _ _ _ _ (by decide) (by decide), State.wr_rd _ _ _ _ _ (by decide)]
    rfl
  · rw [State.inc_rd _ _ _ _ _ (by decide), State.wr_rd_other _ _ _ _ _ _ _ _ (by decide) (by decide), hbrd]
    rfl
  · rw [State.inc_router, State.wr_router, State.withInval_router, hrouter r hr]

theorem Router.inval_fifo (x : Router) (r k i : Nat) (phys : Nat → Nat) : (x.inval r k i phys).fifo = x.fifo := by
  rw [Router.inval.eq_def]
  split
  · rfl
  · split <;> rfl
  · rfl
  · rfl

theorem invalDone_drops {s : State} {t k x : Nat} (h : s.fab.inval = some (k, x)) :
    ∃ u, exec (.invalDone t) s = .next u ∧ u.fab.inval = none ∧ u.on INVALSTAT.BUSY = false ∧
      u.rd INVALSTAT.DONECNT = (s.rd INVALSTAT.DONECNT + 1) % 2 ^ 16 ∧
      ∀ r, r < 69 → u.router r = (s.router r).inval r k x s.phys := by
  obtain ⟨hinval, hbusy, hcount, hrouter⟩ := State.invalDone_shows (s := s.advance t) h
  refine ⟨_, s.ran_ok (s.advance t).invalDone _ rfl, hinval, ?_, hcount, hrouter⟩
  rw [State.on_withQueue, State.on, hbusy]
  rfl

/-- EN cleared (R153). -/
theorem efctlEnWrite_empties {s : State} {t : Nat} {src : Src} {v : Word} (hsrc : src.ok = true)
    (happ : s.applies src (EFCTL.WHOLE.adr 0 0) = true) (hv : v.toNat % 2 = 0) :
    ∃ u, exec (.efctlEnWrite t src v) s = .next u ∧ u.on EFCTL.EN = false ∧
      (∀ r, r < 69 → (u.router r).route = [] ∧ (u.router r).desc = [] ∧ (u.router r).fifo = (s.router r).fifo) ∧ u.mem = s.mem := by
  have hof : EFCTL.EN.of v = 0 := (congrArg (· % 2) (Nat.div_one _)).trans hv
  have hex := does_of_applies (i := .efctlEnWrite t src v) (t := t) happ rfl hsrc
  set a := (s.advance t).wr EFCTL.EN 0 with ha
  have hwrite : (s.advance t).efctlWrite v = a.eachRouter (fun _ x => { x with desc := [], route := [] }) := by
    rw [State.efctlWrite, hof, if_pos rfl]
    rfl
  rw [does, hwrite] at hex
  have hside := a.eachRouter_side (fun _ x => { x with desc := [], route := [] })
  have hrouter (r : Nat) (hr : r < 69) := a.eachRouter_router (fun _ x => { x with desc := [], route := [] }) hr
  set b := a.eachRouter (fun _ x => { x with desc := [], route := [] }) with hb
  have hregs : b.regs = a.regs := by rw [hside]
  have hmem : b.mem = s.mem := by
    rw [hside]
    rfl
  refine ⟨_, hex, ?_, fun r hr => ?_, by rw [State.withQueue_mem, hmem]⟩
  · rw [State.on_withQueue, State.on, State.rd_of_regs _ _ _ _ _ hregs, ha, State.wr_rd _ _ _ _ _ (by decide)]
    rfl
  · rw [State.withQueue_router, hrouter r hr]
    exact ⟨rfl, rfl, rfl⟩

/-! ### The coherence pass (R136, R137) -/

/-- The cached routes of every router are those of before. -/
def routesKept (s u : State) : Prop := ∀ q, (u.router q).route = (s.router q).route

theorem routesKept.trans {s u v : State} (h : routesKept s u) (k : routesKept u v) : routesKept s v := fun q => (k q).trans (h q)

theorem routesKept.modRouter {r : Nat} {f : Router → Router} (hf : ∀ x, (f x).route = x.route) (s : State) :
    routesKept s (s.modRouter r f) := by
  intro q
  by_cases hq : q = r
  · rw [hq, State.modRouter_router, hf]
  · rw [State.modRouter_router_ne _ _ _ _ hq]

theorem routesKept.foldl {α : Type} {f : State → α → State} (h : ∀ s x, routesKept s (f s x)) (l : List α) (s : State) :
    routesKept s (l.foldl f s) := by
  induction l generalizing s with
  | nil => exact fun q => rfl
  | cons x r ih => exact (h s x).trans (ih (f s x))

theorem State.withTeth_router (s : State) (x : TethD) (q : Nat) : ({ s with teth := x } : State).router q = s.router q := (rfl)
theorem State.withPw_router (s : State) (x : PwrH) (q : Nat) : ({ s with pw := x } : State).router q = s.router q := (rfl)
theorem State.withDeferred_router (s : State) (l : List Ev) (q : Nat) :
    ({ s with fab := { s.fab with deferred := l } } : State).router q = s.router q := (rfl)
theorem State.modTp_router (s : State) (p : Nat) (f : TpH → TpH) (q : Nat) : (s.modTp p f).router q = s.router q := (rfl)

theorem routesKept.refl (s : State) : routesKept s s := fun _ => rfl

theorem routesKept.of_router {s u : State} (h : ∀ q, u.router q = s.router q) : routesKept s u := fun q => by rw [h]

theorem routesKept.cnt (s : State) (F : RField) (k n i : Nat) : routesKept s (s.cnt F k n i) := .of_router (s.cnt_router F k n i)
theorem routesKept.withTeth (s : State) (x : TethD) : routesKept s { s with teth := x } := .of_router (s.withTeth_router x)
theorem routesKept.withPw (s : State) (x : PwrH) : routesKept s { s with pw := x } := .of_router (s.withPw_router x)
theorem routesKept.modTp (s : State) (p : Nat) (f : TpH → TpH) : routesKept s (s.modTp p f) := .of_router (s.modTp_router p f)

theorem routesKept.tPush (s : State) (p : Nat) (m : TMsg) : routesKept s (s.tPush p m) := by
  rw [State.tPush]
  split
  · exact .refl s
  · split
    · exact .modTp _ _ _
    · exact (routesKept.cnt _ _ _ _ _).trans (.modTp _ _ _)

theorem routesKept.tSend (s : State) (d : Nat) (i : TItem) : routesKept s (s.tSend d i) := by
  rw [State.tSend]
  split
  · refine (routesKept.withTeth s _).trans (.foldl (fun u p => ?_) _ _)
    split
    · exact .tPush _ _ _
    · exact .refl u
  · split
    · exact (routesKept.withTeth s _).trans (.tPush _ _ _)
    · exact .withTeth s _

theorem routesKept.exportEv (s : State) (ev : Ev) : routesKept s (s.exportEv ev) := by
  rw [State.exportEv]
  split
  · exact .refl s
  · refine routesKept.foldl (fun u e => ?_) _ _
    exact (routesKept.withTeth u _).trans (.tSend _ _ _)

theorem routesKept.dropEvent (s : State) (r : Nat) : routesKept s (s.dropEvent r) := by
  rw [State.dropEvent]
  dsimp only
  have hcount : routesKept s ((s.cnt EVDROP.COUNT).modRouter r (fun x => { x with dropped := x.dropped + 1 })) := by
    refine (routesKept.cnt s _ _ _ _).trans (.modRouter ?_ _)
    exact fun _ => rfl
  generalize (s.cnt EVDROP.COUNT).modRouter r (fun x => { x with dropped := x.dropped + 1 }) = a at *
  split
  · have hreported : routesKept s (a.modRouter r (fun x => { x with dropped := 0, reported := some a.now })) := by
      refine hcount.trans (.modRouter ?_ _)
      exact fun _ => rfl
    generalize a.modRouter r (fun x => { x with dropped := 0, reported := some a.now }) = b at *
    split
    · refine hreported.trans (.modRouter ?_ _)
      exact fun _ => rfl
    · refine (hreported.trans (.cnt _ _ _ _ _)).trans (.modRouter ?_ _)
      exact fun _ => rfl
  · exact hcount

theorem routesKept.issue (s : State) (ev : Ev) : routesKept s (s.issue ev) := by
  rw [State.issue]
  dsimp only
  generalize (if ev.id < 6144 then (s.router (s.routerOf ev.id)).gated ev.id else some false) = gate
  have hput : routesKept s (s.modRouter (s.routerOf ev.id) (fun x => { x with fifo := x.fifo ++ [(ev, gate.isNone)] })) := by
    refine .modRouter ?_ _
    exact fun _ => rfl
  generalize s.modRouter (s.routerOf ev.id) (fun x => { x with fifo := x.fifo ++ [(ev, gate.isNone)] }) = a at *
  split
  · exact .refl s
  · split
    · exact .cnt _ _ _ _ _
    · split
      · exact .dropEvent _ _
      · split
        · exact hput.trans (.exportEv _ _)
        · exact hput

theorem routesKept.wakeLog (s : State) (ev : Ev) : routesKept s (s.wakeLog ev) := by
  rw [State.wakeLog]
  split
  · exact .withPw _ _
  · exact (routesKept.withPw s _).trans (.cnt _ _ _ _ _)

theorem routesKept.raise (s : State) (id d : Nat) : routesKept s (s.raise id d) := by
  rw [State.raise, State.raiseAt, State.raiseEv]
  split
  · exact .of_router (s.withDeferred_router _)
  · split
    · exact .wakeLog _ _
    · exact .issue _ _

theorem State.visitRoute_none {s : State} {r k : Nat} {err : Ecc} (h : (s.router r).route = []) : s.visitRoute r k err = s := by
  rw [State.visitRoute, h]
  rfl

/-- A line that differs from its table entry takes what the table holds, and is reported. -/
theorem State.visitRoute_stale {s : State} {r k i w x : Nat} {d : List Byte} (hroute : (s.router r).route = [⟨k, i, w, 0, x⟩])
    (hread : s.tableRead 211 (s.routeAdr i) 8 .clean = (s, some d)) (hw : entryWord d 0 ≠ w) :
    s.visitRoute r k .clean = (s.modRouter r (fun x => { x with
      route := x.route.map (fun m => if m.slot = k then { m with w0 := entryWord d 0, w1 := entryWord d 1 } else m) })).stale 0 r i := by
  rw [State.visitRoute, hroute, List.find?_cons_of_pos (by simp)]
  dsimp only
  rw [hread]
  exact if_neg fun h => hw h.1

theorem State.stale_shows (s : State) (typ r index : Nat) :
    routesKept s (s.stale typ r index) ∧ eventSide s (s.stale typ r index) ∧
      (s.stale typ r index).rd STALECNT.COUNT = satTo 0xFFFFFFFF (s.rd STALECNT.COUNT + 1) := by
  rw [State.stale]
  refine ⟨(routesKept.cnt s _ _ _ _).trans (.raise _ _ _), (eventSide.cnt s _ _ _ _).trans (.raise _ _ _), ?_⟩
  rw [State.raise_rd _ _ _ _ _ _ (by decide), State.cnt_rd _ _ _ _ _ (by decide)]
  rfl

theorem State.cohVisit_eq {s v : State} {n : Nat} {err : Ecc} (hdone : s.on BOOTSTAT.DONE = true) (hline : s.fab.cohLine = n)
    (hn : n ≠ 3391) (hv : (if n < 3264 then (if n % 48 < 16 then s.visitDesc (n / 48) (n % 48) err else s.visitRoute (n / 48) (n % 48 - 16) err)
      else s.visitRoute 68 (n - 3264) err) = v) :
    s.cohVisit err = { v with fab := { v.fab with cohLine := n + 1 } } := by
  rw [State.cohVisit, if_neg (not_not_intro hdone)]
  dsimp only
  rw [hline, hv, if_neg hn]

theorem coherenceVisit_empty {s : State} {t n : Nat} (hdone : s.on BOOTSTAT.DONE = true) (hline : s.fab.cohLine = n) (hn : n < 3264)
    (hslot : 16 ≤ n % 48) (hroute : (s.router (n / 48)).route = []) :
    ∃ u, exec (.coherenceVisit t .clean) s = .next u ∧ u = { s with now := u.now, fab := u.fab } ∧
      u.fab = { s.fab with cohLine := n + 1 } := by
  have hvisit := State.cohVisit_eq (s := s.advance t) (err := .clean) hdone hline (by omega) (by
    rw [if_pos hn, if_neg (by omega), State.visitRoute_none (s := s.advance t) hroute])
  refine ⟨_, s.ran_ok ((s.advance t).cohVisit .clean) _ rfl, ?_⟩
  rw [hvisit]
  exact ⟨rfl, rfl⟩

theorem State.withCohLine_router (s : State) (n r : Nat) :
    ({ s with fab := { s.fab with cohLine := n } } : State).router r = s.router r := (rfl)
theorem State.withCohLine_line (s : State) (n : Nat) : ({ s with fab := { s.fab with cohLine := n } } : State).fab.cohLine = n := (rfl)
theorem State.withFab_mem (s : State) (f : Fabric) : ({ s with fab := f } : State).mem = s.mem := (rfl)
theorem State.withFab_rd (s : State) (f : Fabric) (F : RField) (n i : Nat) : ({ s with fab := f } : State).rd F n i = s.rd F n i := (rfl)

section
variable {s : State} {t n i w x : Nat} (hi : i < 8192) (hdone : s.on BOOTSTAT.DONE = true) (hline : s.fab.cohLine = n)
  (hlow : 3264 ≤ n) (hhigh : n < 3391) (hroute : (s.router 68).route = [⟨n - 3264, i, w, 0, x⟩]) (hbase : s.rd ROUTEBASE.BASE ≤ 0x17E)
  (hport : s.isolated 211 = false) (hbank : s.isolated (68 + (s.rd ROUTEBASE.BASE * 2 ^ 16 + 8 * i) / 0x40000) = false)
  (hpois : s.mem.poisoned [(s.rd ROUTEBASE.BASE * 2 ^ 16 + 8 * i) / 8] = false)
  (hw : ofBytes (s.mem.sramBytes (s.rd ROUTEBASE.BASE * 2 ^ 16 + 8 * i) 4) ≠ w)
include hi hdone hline hlow hhigh hroute hbase hport hbank hpois hw

theorem State.cohVisit_stale : (s.cohVisit .clean).fab.cohLine = n + 1 ∧
    (s.cohVisit .clean).rd STALECNT.COUNT = satTo 0xFFFFFFFF (s.rd STALECNT.COUNT + 1) ∧
    ((s.cohVisit .clean).router 68).route.map (fun l => (l.id, l.w0)) =
      [(i, ofBytes (s.mem.sramBytes (s.rd ROUTEBASE.BASE * 2 ^ 16 + 8 * i) 4))] ∧ (s.cohVisit .clean).mem = s.mem := by
  have hread : s.tableRead 211 (s.routeAdr i) 8 .clean = (s, some (s.mem.sramBytes (s.rd ROUTEBASE.BASE * 2 ^ 16 + 8 * i) 8)) := by
    rw [State.routeAdr]
    exact State.tableRead_ok hport (by omega) (by omega) hbank hpois
  have hstale := State.visitRoute_stale (s := s) (k := n - 3264) (i := i) (w := w) (x := x) hroute hread
    (by rw [entryWord_eight]; exact hw)
  have hvisit := State.cohVisit_eq (s := s) (err := .clean) hdone hline (by omega) (by rw [if_neg (by omega : ¬ n < 3264), hstale])
  rw [entryWord_eight] at hvisit
  generalize entryWord (s.mem.sramBytes (s.rd ROUTEBASE.BASE * 2 ^ 16 + 8 * i) 8) 1 = w1 at hvisit
  generalize ofBytes (s.mem.sramBytes (s.rd ROUTEBASE.BASE * 2 ^ 16 + 8 * i) 4) = w0 at *
  have hrouter := State.modRouter_router s 68 (fun x => { x with
    route := x.route.map (fun m => if m.slot = n - 3264 then { m with w0 := w0, w1 := w1 } else m) })
  have hmod := fabSide.modRouter s 68 (fun x => { x with
    route := x.route.map (fun m => if m.slot = n - 3264 then { m with w0 := w0, w1 := w1 } else m) })
  generalize s.modRouter 68 (fun x => { x with
    route := x.route.map (fun m => if m.slot = n - 3264 then { m with w0 := w0, w1 := w1 } else m) }) = a at *
  obtain ⟨hkept, hside, hcount⟩ := State.stale_shows a 0 68 i
  rw [hvisit]
  generalize a.stale 0 68 i = v at *
  refine ⟨State.withCohLine_line _ _, ?_, ?_, ?_⟩
  · rw [State.withFab_rd, hcount, hmod.rd]
  · rw [State.withCohLine_router, hkept 68, hrouter, hroute]
    simp
  · rw [State.withFab_mem, hside.mem, hmod.mem]

theorem coherenceVisit_stale : ∃ u, exec (.coherenceVisit t .clean) s = .next u ∧ u.fab.cohLine = n + 1 ∧
    u.rd STALECNT.COUNT = satTo 0xFFFFFFFF (s.rd STALECNT.COUNT + 1) ∧
    (u.router 68).route.map (fun l => (l.id, l.w0)) = [(i, ofBytes (s.mem.sramBytes (s.rd ROUTEBASE.BASE * 2 ^ 16 + 8 * i) 4))] ∧
    u.mem = s.mem := by
  have hshows := State.cohVisit_stale (s := s.advance t) hi hdone hline hlow hhigh hroute hbase hport hbank hpois hw
  refine ⟨_, s.ran_ok ((s.advance t).cohVisit .clean) _ rfl, ?_⟩
  rw [State.withQueue_fab, State.withQueue_rd, State.withQueue_router, State.withQueue_mem]
  exact hshows

end

/-! ### The routers -/

/-- Settles O28: the head of a FIFO, INVAL, EFCTL.EN and a visit of the coherence pass. -/
theorem eventRouting : Obligations.EventRouting := by
  refine ⟨fun t r ev f s hr hfifo => ?_, fun t i src v s hsrc hinval hefctl hi => ?_⟩
  · exact ⟨fun hen hfill => routerRouteEvent_off hfifo hr hen hfill,
      fun l w1 hen hfill hroute hw h11 hiso hlost => routerRouteEvent_hit hfifo hw h11 hiso hlost hr hen hfill hroute,
      fun w1 hen hfill hid hbase hbank hpois hentry hw h11 hiso hlost hport =>
        routerFillDone_route hfifo hw h11 hiso hlost hr hen hfill hid hbase hbank hpois hentry hport⟩
  · refine ⟨invalWrite_taken (t := t) (does_of_applies hinval rfl (by simp [hsrc, hi])),
      invalWrite_taken (t := t) (does_of_applies hinval rfl (by simp [hsrc, hi])),
      invalWrite_taken (t := t) (does_of_applies hinval rfl hsrc),
      invalWrite_taken (t := t) (does_of_applies hinval rfl hsrc), fun k hk => ?_, fun hv => efctlEnWrite_empties hsrc hefctl hv,
      fun n hdone hline hn hslot hroute => coherenceVisit_empty hdone hline hn hslot hroute,
      fun n w x hdone hline hlow hhigh hroute hbase hport hbank hpois hw =>
        coherenceVisit_stale hi hdone hline hlow hhigh hroute hbase hport hbank hpois hw⟩
    obtain ⟨u, hex, hnone, hbusy, hcount, hrouter⟩ := invalDone_drops (t := t) hk
    refine ⟨u, hex, hnone, hbusy, hcount, ?_, ?_, ?_, fun r hr => ?_⟩
    · rintro rfl r hr
      rw [hrouter r hr]
      exact ⟨rfl, rfl⟩
    · rintro rfl r hr
      rw [hrouter r hr]
      exact ⟨rfl, rfl⟩
    · rintro rfl r hr
      rw [hrouter r hr]
      exact ⟨rfl, rfl⟩
    · rw [hrouter r hr]
      exact Router.inval_fifo _ _ _ _ _

end Sys2Proof.Machine
end

section
/-! PROOFS. Accesses to registers (chapter 0): the register map, the writes that are applied and those that are dropped. -/
namespace Sys2Proof.Machine
open Reg

section
variable {s : State} {src : Src} {off : Nat} {w : Word}

/-- A write of a register that is neither a doorbell nor an MSI-X entry nor in a window is checked and applied. -/
theorem State.write_checked (hgnd : s.pw.gnd = false) (hjtag : ¬ (src = .jtag ∧ ¬ s.jtagMay 2)) (hholds : s.holds src off = false)
    (hal : off % 4 = 0) (hspare : spareOf off = none) (hwin : s.windowOf off = none) (hmsix : ¬ (0x300000 ≤ off ∧ off < 0x308000))
    (hdb : ¬ (0x440000 ≤ off ∧ off < 0x540000)) : s.write src off w = s.authWrite src off w (·.regWrite src off w) := by
  rw [State.write, if_neg (by simpa [hgnd] using hjtag), if_neg (by simp [hholds]), if_neg (by omega), if_neg hdb, if_neg hmsix,
    hspare, if_neg (by simp), hwin]

/-- A write that its source may make reaches the register. -/
theorem State.write_applied (happ : s.applies src off = true) (hal : off % 4 = 0) (hspare : spareOf off = none)
    (hwin : s.windowOf off = none) (hmsix : ¬ (0x300000 ≤ off ∧ off < 0x308000)) (hdb : ¬ (0x440000 ≤ off ∧ off < 0x540000)) :
    s.write src off w = s.regWrite src off w := by
  have happ' := happ
  simp only [State.applies, Bool.and_eq_true, Bool.not_eq_true', Bool.and_eq_false_iff] at happ'
  obtain ⟨⟨⟨⟨⟨hgnd, hjtag⟩, hholds⟩, -⟩, -⟩, -⟩ := happ'
  have hjtag' : ¬ (src = .jtag ∧ ¬ s.jtagMay 2) := by
    rintro ⟨rfl, hno⟩
    simp_all
  rw [State.write_checked hgnd hjtag' hholds hal hspare hwin hmsix hdb, State.authWrite_applies _ _ _ _ _ happ]

/-- A read that comes through answers the register's word and clears its RC bits. -/
theorem State.read_reg {r : RegRow} (hread : s.readable src off = true) (hal : off % 4 = 0) (hspare : spareOf off = none)
    (hwin : s.windowOf off = none) (hmsix : ¬ (0x300000 ≤ off ∧ off < 0x310000)) (htb : ∀ k, blkOf off ≠ some (.tb, k, 8))
    (hsp : ∀ i l, blkOf off ≠ some (.sp, i, l)) (hrow : regRow off = some r) :
    s.read src off = (s.answerWord (s.view src off)).setReg off (s.reg off &&& ~~~(BitVec.ofNat 32 r.rc)) := by
  have hclear (u : State) : u.readClear off = u.setReg off (u.reg off &&& ~~~(BitVec.ofNat 32 r.rc)) := by rw [State.readClear, hrow]
  simp only [State.readable, Bool.and_eq_true, Bool.not_eq_true', Bool.or_eq_true] at hread
  obtain ⟨⟨⟨hgnd, hjtag⟩, hholds⟩, hcut⟩ := hread
  have hjtag' : ¬ (src = .jtag ∧ ¬ s.jtagMay 1) := by
    rintro ⟨rfl, hno⟩
    simp_all
  rw [State.read, if_neg (by simpa [hgnd] using hjtag'), if_neg (by simp [hholds]), if_neg (by omega), if_neg hmsix, hspare, hwin]
  dsimp only
  rw [if_neg (by simp [hcut]), State.regRead.eq_def]
  split
  case h_1 k hk => exact absurd hk (htb k)
  case h_2 i hk => exact absurd hk (hsp i _)
  case h_3 i l _ hk => exact absurd hk (hsp i l)
  case h_4 => exact hclear _

end

theorem exec_registerWrite {s : State} {t off : Nat} {src : Src} {w : Word} (hsrc : src.ok = true) (hoff : off < 0x4000000) :
    exec (.registerWrite t src off 4 w) s = .next (((s.advance t).write src off w).withQueue s.pending) :=
  s.ran_ok ((s.advance t).write src off w) _ (by simp [hsrc, hoff])

theorem exec_readClearAccess {s : State} {t off : Nat} {src : Src} (hsrc : src.ok = true) (hoff : off < 0x4000000) :
    exec (.readClearAccess t src off 4) s = .next (((s.advance t).read src off).withQueue s.pending) :=
  s.ran_ok ((s.advance t).read src off) _ (by simp [hsrc, hoff])

/-! ### Writes that are applied -/

/-- A write of a register all of whose bits are writable. -/
theorem State.plainWrite_whole {s : State} {a : Nat} {r : RegRow} (w : Word) (hrow : regRow a = some r) (hrw : r.rw = 0xFFFFFFFF) :
    (s.plainWrite a w).reg a = w := by
  rw [State.plainWrite, hrow]
  refine (State.setReg_reg _ _ _).trans ?_
  have hones : BitVec.ofNat 32 r.rw = BitVec.allOnes 32 := by
    rw [hrw]
    rfl
  rw [hones, BitVec.and_allOnes]
  simp

/-- A register of the global block without an effect of its own. -/
theorem State.globWrite_plain (s : State) (src : Src) {a loc : Nat} (w : Word) (h : loc ∉ [0x100, 0x104, 0x280, 0x400, 0x420])
    (hsup : ¬ (0x440 ≤ loc ∧ loc < 0x490)) : s.globWrite src a loc w = s.plainWrite a w := by
  rw [State.globWrite.eq_def]
  split
  case h_6 => exact if_neg hsup
  all_goals simp at h

theorem registerWrite_gstartmask {s : State} {t i : Nat} {w : Word} (hi : i < 32) (happ : s.applies (.fn 0) (GSTARTMASK.SEL.adr 0 i) = true) :
    ∃ u, exec (.registerWrite t (.fn 0) (GSTARTMASK.SEL.adr 0 i) 4 w) s = .next u ∧ u.reg (GSTARTMASK.SEL.adr 0 i) = w ∧
      (∀ a, a ≠ GSTARTMASK.SEL.adr 0 i → u.reg a = s.reg a) ∧ u.mem = s.mem := by
  have hadr : GSTARTMASK.SEL.adr 0 i = 0x200 + 4 * i := rfl
  rw [hadr] at happ ⊢
  have hblk : ∀ i, i < 32 → blkOf (0x200 + 4 * i) = some (.glob, 0, 0x200 + 4 * i) := by decide
  have hrow : ∀ i, i < 32 → ∃ r, regRow (0x200 + 4 * i) = some r ∧ r.rw = 0xFFFFFFFF := by decide
  obtain ⟨r, hr, hrw⟩ := hrow i hi
  have hwrite : (s.advance t).write (.fn 0) (0x200 + 4 * i) w = (s.advance t).plainWrite (0x200 + 4 * i) w := by
    rw [State.write_applied (s := s.advance t) happ (by omega) (if_neg (by omega)) (if_neg (by omega)) (by omega) (by omega),
      State.regWrite, hblk i hi]
    have hloc : ∀ i, i < 32 → 0x200 + 4 * i ∉ [0x100, 0x104, 0x280, 0x400, 0x420] := by decide
    exact State.globWrite_plain _ _ _ (hloc i hi) (by omega)
  refine ⟨_, exec_registerWrite rfl (by omega), ?_, fun a ha => ?_, ?_⟩
  · rw [State.withQueue_reg, hwrite, State.plainWrite_whole w hr hrw]
  · rw [State.withQueue_reg, hwrite, State.plainWrite_reg_ne w ha]
    rfl
  · rw [State.withQueue_mem, hwrite, (regsOnly.plainWrite _ _ _).mem]
    rfl

/-! ### Reads that clear -/

theorem readClear_shows {s : State} {t off : Nat} {src : Src} {r : RegRow} (hsrc : src.ok = true) (hoff : off < 0x4000000)
    (hread : s.readable src off = true) (hal : off % 4 = 0) (hspare : spareOf off = none) (hwin : s.windowOf off = none)
    (hmsix : ¬ (0x300000 ≤ off ∧ off < 0x310000)) (htb : ∀ k, blkOf off ≠ some (.tb, k, 8))
    (hsp : ∀ i l, blkOf off ≠ some (.sp, i, l)) (hrow : regRow off = some r) :
    ∃ u, exec (.readClearAccess t src off 4) s = .next u ∧ onlyRegs s u ∧
      u.resp = ⟨.ok, (toBytes 4 ((s.advance t).view src off)).map (·.toNat)⟩ ∧
      u.reg off = s.reg off &&& ~~~(BitVec.ofNat 32 r.rc) ∧ ∀ a, a ≠ off → u.reg a = s.reg a := by
  refine ⟨_, exec_readClearAccess hsrc hoff, ?_⟩
  rw [State.read_reg (s := s.advance t) hread hal hspare hwin hmsix htb hsp hrow, State.withQueue_reg, State.setReg_reg]
  refine ⟨rfl, rfl, rfl, fun a ha => ?_⟩
  rw [State.withQueue_reg, State.setReg_reg_ne _ _ _ _ ha]
  rfl

/-- Reading SRAMCE (R11, R39). -/
theorem readClear_sramce {s : State} {t : Nat} (hread : s.readable (.fn 0) (SRAMCE.COUNT.adr 0 0) = true) :
    ∃ u, exec (.readClearAccess t (.fn 0) (SRAMCE.COUNT.adr 0 0) 4) s = .next u ∧
      u.resp = ⟨.ok, (toBytes 4 (s.reg (SRAMCE.COUNT.adr 0 0)).toNat).map (·.toNat)⟩ ∧ u.reg (SRAMCE.COUNT.adr 0 0) = 0 ∧
      (∀ a, a ≠ SRAMCE.COUNT.adr 0 0 → u.reg a = s.reg a) ∧ u.mem = s.mem := by
  set off := SRAMCE.COUNT.adr 0 0 with hoff
  have hblk : blkOf off = some (.rel, 0, 0x1040) := by decide
  obtain ⟨r, hrow, hrc, hrd⟩ : ∃ r, regRow off = some r ∧ r.rc = 0xFFFFFFFF ∧ r.rd = 0xFFFFFFFF := by decide
  obtain ⟨u, hex, honly, hresp, hreg, hother⟩ := readClear_shows (t := t) rfl (by decide) hread (by decide) (by decide)
    (if_neg (by decide)) (by decide) (fun k h => by simp [hblk] at h) (fun i l h => by simp [hblk] at h) hrow
  have hview : (s.advance t).view (.fn 0) off = (s.reg off).toNat := by
    rw [State.view, hblk, hrow]
    dsimp only
    rw [hrd]
    exact (Nat.and_two_pow_sub_one_eq_mod _ 32).trans (Nat.mod_eq_of_lt (s.reg off).isLt)
  refine ⟨u, hex, by rw [hresp, hview], ?_, hother, by rw [honly]⟩
  have hones : BitVec.ofNat 32 r.rc = BitVec.allOnes 32 := by
    rw [hrc]
    rfl
  rw [hreg, hones]
  simp

/-! ### Writes that are dropped (R11, R274) -/

/-- What a drop of a write by a function leaves. -/
theorem State.authDrop_shows (s : State) {f off : Nat} (hf : f < 17) :
    (s.authDrop (.fn f) off).rd FNSTAT.AUTHDROP f = satTo (2 ^ FNSTAT.AUTHDROP.len - 1) (s.rd FNSTAT.AUTHDROP f + 1) ∧
      (∀ a, a ≠ FNSTAT.AUTHDROP.adr f 0 → evReg a = false → (s.authDrop (.fn f) off).reg a = s.reg a) ∧
      (s.authDrop (.fn f) off).mem = s.mem := by
  have hadr : ∀ f, f < 17 → evReg (FNSTAT.AUTHDROP.adr f 0) = false := by decide
  have hcount := State.cnt_rd s FNSTAT.AUTHDROP 1 f 0 (by decide)
  have hother (a : Nat) (ha : a ≠ FNSTAT.AUTHDROP.adr f 0) := s.cnt_reg_ne FNSTAT.AUTHDROP 1 f 0 a ha
  have hmem : (s.cnt FNSTAT.AUTHDROP 1 f).mem = s.mem := State.cnt_mem _ _ _ _ _
  delta State.authDrop State.authDropAs
  dsimp only [Src.func]
  generalize s.cnt FNSTAT.AUTHDROP 1 f = c at *
  split
  · refine ⟨?_, fun a ha hev => ?_, ?_⟩
    · rw [State.raise_rd _ _ _ _ _ _ (hadr f hf)]
      exact hcount
    · rw [State.raise_reg _ _ _ _ hev]
      exact hother a ha
    · rw [State.raise_mem]
      exact hmem
  · exact ⟨hcount, fun a ha _ => hother a ha, hmem⟩

/-- Settles O6: what a write does once it is checked, a read once it comes through, and a drop. -/
theorem registerAccess : Obligations.RegisterAccess := by
  refine ⟨⟨fun t off src w s hsrc hoff hal happ hspare hwin hmsix hdb => ?applied, fun t i w s hi happ => registerWrite_gstartmask hi happ,
    fun t off src r s hsrc hoff hal hread hspare hwin hmsix htb hsp hrow =>
      readClear_shows hsrc hoff hread hal hspare hwin hmsix htb hsp hrow, fun t s hread => readClear_sramce hread⟩,
    fun t f off w s hf hoff hal hgnd hholds hmay hspare hwin hmsix hdb => ⟨fun hrow => ?dropped, fun hrow => ?nothing⟩⟩
  case applied =>
    rw [exec_registerWrite hsrc hoff, State.write_applied (s := s.advance t) happ hal hspare hwin hmsix hdb]
  all_goals
    have hjtag : ¬ (Src.fn f = .jtag ∧ ¬ (s.advance t).jtagMay 2) := fun h => nomatch h.1
    have hsrc : (Src.fn f).ok = true := by simp [Src.ok, hf]
    have hwrite := State.write_checked (s := s.advance t) (w := w) hgnd hjtag hholds hal hspare hwin hmsix hdb
    rw [State.authWrite_denied (s.advance t) (.fn f) _ _ _ hgnd (by simp) hholds hmay] at hwrite
  case dropped =>
    rw [if_neg (by simpa using hrow)] at hwrite
    obtain ⟨hcount, hother, hmem⟩ := (s.advance t).authDrop_shows (off := off) hf
    refine ⟨_, exec_registerWrite hsrc hoff, ?_⟩
    rw [hwrite, State.withQueue_rd, State.withQueue_mem]
    exact ⟨hcount, hother, hmem⟩
  case nothing =>
    rw [if_pos (by simp [hrow])] at hwrite
    rw [exec_registerWrite hsrc hoff, hwrite]
    rfl

end Sys2Proof.Machine
end

section
/-! PROOFS. Mesh ports (chapter 1): what a report of a suspect leaves alone, isolation and readmission. -/
namespace Sys2Proof.Machine
open Reg

/-! ### A suspect gondola (R336, R340) -/

/-- A field that no report about gondola `p` writes but its own health word's count and cause. -/
structure ApartFromHealth (p : Nat) (G : RField) (m j : Nat) : Prop where
  high : 0x1000000 ≤ G.adr m j
  spare : G.adr m j ≠ SPRSTAT.WHOLE.adr 0 0
  load : G.adr m j ≠ MCLDSTAT.WHOLE.adr 0 0
  low : G.adr m j ≠ PHEALTH.WHOLE.adr 0 p ∨ G.lo + G.len ≤ 29

section
variable {s : State} {p m j : Nat} {G : RField} (hG : ApartFromHealth p G m j)
include hG

theorem ApartFromHealth.raise (s : State) (id d : Nat) : (s.raise id d).rd G m j = s.rd G m j :=
  State.raise_rd _ _ _ _ _ _ (evReg_of_engine hG.high)

theorem ApartFromHealth.state (s : State) (v : Nat) : (s.wr PHEALTH.STATE v 0 p).rd G m j = s.rd G m j := by
  rcases hG.low with h | h
  · exact State.wr_rd_ne _ _ _ _ _ _ _ _ h
  · exact State.wr_rd_other _ _ _ _ _ _ _ _ (by decide) (.inl h)

theorem ApartFromHealth.mcLeave (s : State) : (s.mcLeave p).rd G m j = s.rd G m j := by
  rw [State.mcLeave]
  split
  · extract_lets w a
    have ha : a.rd G m j = s.rd G m j := State.wr_rd_ne _ _ _ _ _ _ _ _ hG.load
    split
    · have hdone : (a.wr MCLDSTAT.DONE 1).rd G m j = a.rd G m j := State.wr_rd_ne a MCLDSTAT.DONE G 1 0 0 m j hG.load
      rw [hG.raise, hdone, ha]
    · exact ha
  · rfl

theorem ApartFromHealth.sprAsk (s : State) (q : SprReq) : (s.sprAsk q).rd G m j = s.rd G m j := by
  rw [State.sprAsk]
  split
  · exact State.wr_rd_ne _ _ _ _ _ _ _ _ hG.spare
  · split
    · exact State.wr_rd_ne _ _ _ _ _ _ _ _ hG.spare
    · split
      · exact State.rd_of_regs _ _ _ _ _ rfl
      · exact State.rd_of_regs _ _ _ _ _ rfl

theorem ApartFromHealth.enterSuspect (s : State) : (s.enterSuspect p).rd G m j = s.rd G m j := by
  delta State.enterSuspect
  extract_lets k a
  have ha : a.rd G m j = s.rd G m j := State.rd_of_regs _ _ _ _ _ rfl
  split
  · rw [hG.raise, hG.mcLeave, hG.state, ha]
  · rw [hG.state, ha]

end

theorem State.mcLeave_mem (s : State) (p : Nat) : (s.mcLeave p).mem = s.mem := (s.mcLeave_frame p).mem

theorem State.sprAsk_mem (s : State) (q : SprReq) : (s.sprAsk q).mem = s.mem := by
  rw [State.sprAsk]
  split
  · exact State.wr_mem _ _ _ _ _
  · split
    · exact State.wr_mem _ _ _ _ _
    · split <;> rfl

theorem State.enterSuspect_mem (s : State) (p : Nat) : (s.enterSuspect p).mem = s.mem := by
  delta State.enterSuspect
  extract_lets k a
  split
  · rw [State.raise_mem, State.mcLeave_mem, State.wr_mem]
  · rw [State.wr_mem]

theorem State.withRel_rd (s : State) (r : RelH) (F : RField) (n i : Nat) : ({ s with rel := r } : State).rd F n i = s.rd F n i := (rfl)
theorem State.withRel_mem (s : State) (r : RelH) : ({ s with rel := r } : State).mem = s.mem := (rfl)

/-- What follows the mark of a suspect gondola leaves every field apart from its health word alone. -/
theorem State.suspect_after (s : State) (p c : Nat) :
    (∀ G m j, ApartFromHealth p G m j → (s.suspect p c).rd G m j = (s.suspMark p c).rd G m j) ∧
      (s.suspect p c).mem = (s.suspMark p c).mem := by
  generalize hu : s.suspect p c = u
  rw [State.suspect] at hu
  generalize s.suspMark p c = a at *
  have hb := And.intro (fun G m j (_ : ApartFromHealth p G m j) => a.withRel_rd { a.rel with
    marked := if a.rel.marked.contains p then a.rel.marked else a.rel.marked ++ [p] } G m j) (a.withRel_mem { a.rel with
    marked := if a.rel.marked.contains p then a.rel.marked else a.rel.marked ++ [p] })
  generalize ({ a with rel := { a.rel with
    marked := if a.rel.marked.contains p then a.rel.marked else a.rel.marked ++ [p] } } : State) = b at *
  obtain ⟨hrd, hmem⟩ := hb
  have hask (q : SprReq) : (∀ G m j, ApartFromHealth p G m j → (b.sprAsk q).rd G m j = a.rd G m j) ∧ (b.sprAsk q).mem = a.mem :=
    ⟨fun G m j hG => (hG.sprAsk b q).trans (hrd G m j hG), (State.sprAsk_mem _ _).trans hmem⟩
  split at hu
  · dsimp only at hu
    cases hlog : b.logOf p with
    | none =>
      rw [hlog] at hu
      exact hu ▸ ⟨hrd, hmem⟩
    | some g =>
      rw [hlog] at hu
      dsimp only at hu
      split at hu
      · exact hu ▸ hask _
      · split at hu
        · exact hu ▸ hask _
        · exact hu ▸ ⟨hrd, hmem⟩
  · split at hu
    · exact hu ▸ ⟨fun _ _ _ _ => rfl, rfl⟩
    · exact hu ▸ ⟨fun G m j hG => hG.enterSuspect _, State.enterSuspect_mem _ _⟩

/-- The mark: SUSPCNT and LASTSUSP, and EV_SUSPECT. -/
theorem State.suspMark_shows (s : State) {p c : Nat} (hc : c < 8) :
    (s.suspMark p c).rd PHEALTH.LASTSUSP 0 p = c ∧ (s.suspMark p c).rd PHEALTH.SUSPCNT 0 p = satTo 0xF (s.rd PHEALTH.SUSPCNT 0 p + 1) ∧
      (∀ G m j, 0x1000000 ≤ G.adr m j → G.adr m j ≠ PHEALTH.WHOLE.adr 0 p → (s.suspMark p c).rd G m j = s.rd G m j) ∧
      (s.suspMark p c).mem = s.mem := by
  have hhigh (F : RField) (hF : F.adr 0 p = PHEALTH.WHOLE.adr 0 p) : evReg (F.adr 0 p) = false := by
    rw [hF]
    exact evReg_of_engine (by simp only [RField.adr, blkBase, PHEALTH.WHOLE]; omega)
  delta State.suspMark
  extract_lets a
  have hlast : a.rd PHEALTH.LASTSUSP 0 p = c := (State.wr_rd _ _ _ _ _ (by decide)).trans (Nat.mod_eq_of_lt hc)
  have hcount : a.rd PHEALTH.SUSPCNT 0 p = satTo 0xF (s.rd PHEALTH.SUSPCNT 0 p + 1) :=
    (State.wr_rd_other _ _ _ _ _ _ _ _ (by decide) (by decide)).trans (State.cnt_rd _ _ _ _ _ (by decide))
  have hother (G : RField) (m j : Nat) (hne : G.adr m j ≠ PHEALTH.WHOLE.adr 0 p) : a.rd G m j = s.rd G m j :=
    (State.wr_rd_ne (s.cnt PHEALTH.SUSPCNT 1 0 p) PHEALTH.LASTSUSP G c 0 p m j hne).trans (State.wr_rd_ne s PHEALTH.SUSPCNT G _ 0 p m j hne)
  have hmem : a.mem = s.mem := (State.wr_mem _ _ _ _ _).trans (State.cnt_mem _ _ _ _ _)
  clear_value a
  refine ⟨?_, ?_, fun G m j hG hne => ?_, ?_⟩
  · rw [State.raise_rd _ _ _ _ _ _ (hhigh PHEALTH.LASTSUSP rfl), hlast]
  · rw [State.raise_rd _ _ _ _ _ _ (hhigh PHEALTH.SUSPCNT rfl), hcount]
  · rw [State.raise_rd _ _ _ _ _ _ (evReg_of_engine hG), hother G m j hne]
  · rw [State.raise_mem, hmem]

/-! ### Isolation (R19) -/

theorem bitAt_putBit (w i j : Nat) (b : Bool) : bitAt (putBit w i b) j = if j = i then b else bitAt w j := by
  have hfield (w : Nat) : bitAt w j = (bitsAt w j 1 == 1) := rfl
  rw [hfield, hfield, putBit]
  generalize hv : (if b = true then 1 else 0) = v
  split
  case isTrue h =>
    rw [h, bitsAt_putBits, ← hv]
    cases b
    · rfl
    · rfl
  case isFalse h =>
    rcases Nat.lt_or_gt_of_ne h with hlt | hgt
    · rw [bitsAt_putBits_below _ _ _ _ _ _ hlt]
    · rw [bitsAt_putBits_above _ _ _ _ _ _ hgt]

theorem MESHISO_adr (i : Nat) : MESHISO.ISO.adr 0 i = 0x2801010 + 4 * i := by
  simp only [RField.adr, blkBase, MESHISO.ISO]

/-- Which ports are isolated once the bit of one of them is set or cleared. -/
theorem State.setIso_isolated (s : State) {p q : Nat} (b : Bool) (hp : p ≤ 212) :
    (s.setIso p b).isolated q = if q = p then b else s.isolated q := by
  have hiso : (s.setIso p b).rd MESHISO.ISO 0 (q / 32) = (s.wr MESHISO.ISO (putBit (s.rd MESHISO.ISO 0 (p / 32)) (p % 32) b) 0 (p / 32)).rd
      MESHISO.ISO 0 (q / 32) := State.wr_rd_ne _ _ _ _ _ _ _ _ (by rw [MESHISO_adr]; exact ne_of_gt (Nat.lt_add_right _ (by decide)))
  rw [State.isolated, State.isolated, hiso]
  by_cases hword : q / 32 = p / 32
  · have hlt : putBit (s.rd MESHISO.ISO 0 (p / 32)) (p % 32) b < 2 ^ 32 :=
      putBits_lt _ _ _ _ (State.rd_lt _ _ _ _) (by omega)
    rw [hword, State.wr_rd _ _ _ _ _ (by decide)]
    change bitAt (_ % 2 ^ 32) _ = _
    rw [Nat.mod_eq_of_lt hlt, bitAt_putBit]
    by_cases hq : q = p
    · rw [if_pos hq, if_pos (by rw [hq])]
    · rw [if_neg hq, if_neg (by omega)]
  · rw [State.wr_rd_ne _ _ _ _ _ _ _ _ (by rw [MESHISO_adr, MESHISO_adr]; omega), if_neg (by rintro rfl; exact hword rfl)]

theorem State.setIso_mem (s : State) (p : Nat) (b : Bool) : (s.setIso p b).mem = s.mem := by
  rw [State.setIso]
  exact (State.wr_mem _ _ _ _ _).trans (State.wr_mem _ _ _ _ _)

/-- The registers of the mesh, and the ports that they isolate. -/
def meshKept (s u : State) : Prop :=
  (∀ q, q ≤ 212 → u.isolated q = s.isolated q) ∧ u.rd MESHSTAT.STALL = s.rd MESHSTAT.STALL ∧ u.rd MESHSTAT.LASTPORT = s.rd MESHSTAT.LASTPORT ∧
    u.mem = s.mem

theorem meshKept.trans {s u v : State} (h : meshKept s u) (k : meshKept u v) : meshKept s v := by
  obtain ⟨hiso, hstall, hlast, hmem⟩ := h
  obtain ⟨kiso, kstall, klast, kmem⟩ := k
  exact ⟨fun q hq => (kiso q hq).trans (hiso q hq), kstall.trans hstall, klast.trans hlast, kmem.trans hmem⟩

theorem meshKept.of_rd {s u : State} (hrd : ∀ G : RField, ∀ i, i < 7 → G = MESHISO.ISO ∨ G = MESHSTAT.STALL ∨ G = MESHSTAT.LASTPORT →
    u.rd G 0 i = s.rd G 0 i) (hmem : u.mem = s.mem) : meshKept s u := by
  refine ⟨fun q hq => ?_, hrd _ 0 (by decide) (by simp), hrd _ 0 (by decide) (by simp), hmem⟩
  rw [State.isolated, State.isolated, hrd _ (q / 32) (by omega) (by simp)]

theorem mesh_high {G : RField} {i : Nat} (h : G = MESHISO.ISO ∨ G = MESHSTAT.STALL ∨ G = MESHSTAT.LASTPORT) :
    0x2801000 ≤ G.adr 0 i ∧ G.adr 0 i < 0x2801010 + 4 * i + 1 := by
  rcases h with rfl | rfl | rfl
  all_goals simp only [RField.adr, blkBase, MESHISO.ISO, MESHSTAT.STALL, MESHSTAT.LASTPORT]
  all_goals omega

theorem meshKept.raise (s : State) (id d : Nat) : meshKept s (s.raise id d) :=
  .of_rd (fun G i _ hG => State.raise_rd _ _ _ _ _ _ (evReg_of_engine (by have := mesh_high (i := i) hG; omega))) (State.raise_mem _ _ _)

theorem meshKept.advance (s : State) (t : Nat) : meshKept s (s.advance t) := .of_rd (fun _ _ _ _ => rfl) rfl

/-- The watchdog of a port isolates it, and reports it (R19). -/
theorem State.isolate_shows (s : State) {p : Nat} (hp : p ≤ 212) :
    (s.isolate p).isolated p = true ∧ (s.isolate p).rd MESHSTAT.STALL = 1 ∧ (s.isolate p).rd MESHSTAT.LASTPORT = p ∧
      (∀ q, q ≠ p → q ≤ 212 → (s.isolate p).isolated q = s.isolated q) ∧ (s.isolate p).mem = s.mem := by
  rw [State.isolate]
  obtain ⟨hiso, hstall, hlast, hmem⟩ := meshKept.raise (((s.setIso p true).wr MESHSTAT.STALL 1).wr MESHSTAT.LASTPORT p) 7680 p
  have hbits (q : Nat) : (((s.setIso p true).wr MESHSTAT.STALL 1).wr MESHSTAT.LASTPORT p).isolated q = (s.setIso p true).isolated q := by
    have hne (F : RField) (hF : F.adr 0 0 = MESHSTAT.WHOLE.adr 0 0) (i : Nat) : MESHISO.ISO.adr 0 i ≠ F.adr 0 0 := by
      rw [hF, MESHISO_adr]
      exact ne_of_gt (Nat.lt_add_right _ (by decide))
    rw [State.isolated, State.isolated, State.wr_rd_ne _ _ _ _ _ _ _ _ (hne MESHSTAT.LASTPORT rfl _),
      State.wr_rd_ne _ _ _ _ _ _ _ _ (hne MESHSTAT.STALL rfl _)]
  refine ⟨?_, ?_, ?_, fun q hq hle => ?_, ?_⟩
  · rw [hiso p hp, hbits, State.setIso_isolated s true hp, if_pos rfl]
  · rw [hstall, State.wr_rd_other _ _ _ _ _ _ _ _ (by decide) (by decide), State.wr_rd _ _ _ _ _ (by decide)]
    rfl
  · rw [hlast, State.wr_rd _ _ _ _ _ (by decide)]
    exact Nat.mod_eq_of_lt (Nat.lt_of_le_of_lt hp (by decide))
  · rw [hiso q hle, hbits, State.setIso_isolated s true hp, if_neg hq]
  · rw [hmem, State.wr_mem, State.wr_mem, State.setIso_mem]

theorem State.isolate_side (s : State) (p : Nat) : eventSide s (s.isolate p) := by
  rw [State.isolate, State.setIso]
  exact ((((eventSide.wr _ _ _ _ _).trans (.wr _ _ _ _ _)).trans (.wr _ _ _ _ _)).trans (.wr _ _ _ _ _)).trans (.raise _ _ _)

theorem eventSide.meshTest {s u : State} (h : eventSide s u) : u.meshTest = s.meshTest := by rw [h]
theorem eventSide.tko {s u : State} (h : eventSide s u) : u.tko = s.tko := by rw [h]

/-- The isolation of a port leaves the health word of a gondola alone. -/
theorem State.isolate_health (s : State) {p : Nat} (hp : p < 68) :
    (s.isolate p).rd PHEALTH.SUSPCNT 0 p = s.rd PHEALTH.SUSPCNT 0 p := by
  have hadr : PHEALTH.SUSPCNT.adr 0 p = 0x2800200 + 4 * p := by simp only [RField.adr, blkBase, PHEALTH.SUSPCNT]
  have hstat (F : RField) (hF : F.adr 0 0 = 0x2801000) : PHEALTH.SUSPCNT.adr 0 p ≠ F.adr 0 0 := by omega
  have hiso : PHEALTH.SUSPCNT.adr 0 p ≠ MESHISO.ISO.adr 0 (p / 32) := by rw [hadr, MESHISO_adr]; omega
  rw [State.isolate, State.setIso, State.raise_rd _ _ _ _ _ _ (evReg_of_engine (by omega)),
    State.wr_rd_ne _ _ _ _ _ _ _ _ (hstat MESHSTAT.LASTPORT rfl), State.wr_rd_ne _ _ _ _ _ _ _ _ (hstat MESHSTAT.STALL rfl),
    State.wr_rd_ne _ _ _ _ _ _ _ _ (hstat MESHSTAT.NISO rfl), State.wr_rd_ne _ _ _ _ _ _ _ _ hiso]

/-- The registers of the mesh are apart from the health words. -/
theorem mesh_apart {G : RField} {i p : Nat} (hp : p < 68) (hi : i < 7)
    (h : G = MESHISO.ISO ∨ G = MESHSTAT.STALL ∨ G = MESHSTAT.LASTPORT) :
    ApartFromHealth p G 0 i ∧ G.adr 0 i ≠ PHEALTH.WHOLE.adr 0 p := by
  obtain ⟨hlow, hhigh⟩ := mesh_high (i := i) h
  have hspare : SPRSTAT.WHOLE.adr 0 0 = 0x2800044 := rfl
  have hload : MCLDSTAT.WHOLE.adr 0 0 = 0x2C08008 := rfl
  have hhealth : PHEALTH.WHOLE.adr 0 p = 0x2800200 + 4 * p := by simp only [RField.adr, blkBase, PHEALTH.WHOLE]
  have hne : G.adr 0 i ≠ PHEALTH.WHOLE.adr 0 p := by omega
  exact ⟨⟨by omega, by omega, by omega, .inl hne⟩, hne⟩

/-- A gondola whose port the watchdog has isolated is suspect, of cause 4 (R340). -/
theorem State.gondolaIsolated_shows {s : State} {p : Nat} (hp : p < 68) (htko : s.tko = none) :
    meshKept s (s.gondolaIsolated p) ∧ (s.gondolaIsolated p).rd PHEALTH.LASTSUSP 0 p = 4 ∧
      (s.gondolaIsolated p).rd PHEALTH.SUSPCNT 0 p = satTo 0xF (s.rd PHEALTH.SUSPCNT 0 p + 1) := by
  have htko' : (s.mcLeave p).tko = none := by rw [(s.mcLeave_frame p)]; exact htko
  have heq : s.gondolaIsolated p = (s.mcLeave p).suspect p 4 := by
    rw [State.gondolaIsolated]
    dsimp only
    rw [htko']
  obtain ⟨hafter, hmem⟩ := (s.mcLeave p).suspect_after p 4
  obtain ⟨hlast, hcount, hother, hmem'⟩ := (s.mcLeave p).suspMark_shows (p := p) (c := 4) (by decide)
  have hhealth : PHEALTH.WHOLE.adr 0 p = 0x2800200 + 4 * p := by simp only [RField.adr, blkBase, PHEALTH.WHOLE]
  have hspare : SPRSTAT.WHOLE.adr 0 0 = 0x2800044 := rfl
  have hload : MCLDSTAT.WHOLE.adr 0 0 = 0x2C08008 := rfl
  have hhave (G : RField) (hG : G.adr 0 p = PHEALTH.WHOLE.adr 0 p) (hbits : G.lo + G.len ≤ 29) : ApartFromHealth p G 0 p :=
    ⟨by omega, by omega, by omega, .inr hbits⟩
  have hlastAp := hhave PHEALTH.LASTSUSP rfl (by decide)
  have hcountAp := hhave PHEALTH.SUSPCNT rfl (by decide)
  rw [heq]
  refine ⟨.of_rd (fun G i hi hG => ?_) ?_, ?_, ?_⟩
  · obtain ⟨hap, hne⟩ := mesh_apart hp hi hG
    rw [hafter G 0 i hap, hother G 0 i hap.high hne, hap.mcLeave]
  · rw [hmem, hmem', State.mcLeave_mem]
  · rw [hafter _ 0 p hlastAp, hlast]
  · rw [hafter _ 0 p hcountAp, hcount, hcountAp.mcLeave]

section
variable {s : State} {t p : Nat}

theorem exec_handshakeWatchdogExpiry (hp : p ≤ 212) :
    exec (.handshakeWatchdogExpiry t p) s = .next (((s.advance t).watchdogExpiry p).withQueue s.pending) :=
  s.ran_ok ((s.advance t).watchdogExpiry p) _ (decide_eq_true hp)

theorem State.watchdogExpiry_open (hiso : s.isolated p = false) :
    s.watchdogExpiry p = if p < 68 then (s.isolate p).gondolaIsolated p else s.isolate p := by
  have hno : ¬ s.isolated p = true := by simp [hiso]
  have hmark : s.watchdogIsolate p = s.isolate p := if_neg hno
  rw [State.watchdogExpiry, if_neg hno, hmark]

theorem State.isolated_withQueue (s : State) (q : List Instr) (p : Nat) : (s.withQueue q).isolated p = s.isolated p := (rfl)

/-- The watchdog of a port that is no gondola's. -/
theorem handshakeWatchdogExpiry_unit (hp : 68 ≤ p) (hle : p ≤ 212) (hiso : s.isolated p = false) :
    ∃ u, exec (.handshakeWatchdogExpiry t p) s = .next u ∧ u.isolated p = true ∧ u.on MESHSTAT.STALL = true ∧
      u.rd MESHSTAT.LASTPORT = p ∧ (∀ q, q ≠ p → q ≤ 212 → u.isolated q = s.isolated q) ∧ u.mem = s.mem := by
  obtain ⟨hset, hstall, hlast, hother, hmem⟩ := (s.advance t).isolate_shows hle
  have heq := State.watchdogExpiry_open (s := s.advance t) (p := p) hiso
  rw [if_neg (by omega)] at heq
  refine ⟨_, exec_handshakeWatchdogExpiry hle, ?_⟩
  rw [heq, State.isolated_withQueue, State.on_withQueue, State.withQueue_rd, State.withQueue_mem, State.on, hstall, hset, hlast, hmem]
  exact ⟨rfl, rfl, rfl, fun q hq hq' => (State.isolated_withQueue _ _ _).trans (hother q hq hq'), rfl⟩

/-- The watchdog of a gondola's port. -/
theorem handshakeWatchdogExpiry_gondola (hp : p < 68) (hiso : s.isolated p = false) (htko : s.tko = none) :
    ∃ u, exec (.handshakeWatchdogExpiry t p) s = .next u ∧ u.isolated p = true ∧ u.on MESHSTAT.STALL = true ∧
      u.rd MESHSTAT.LASTPORT = p ∧ (∀ q, q ≠ p → q ≤ 212 → u.isolated q = s.isolated q) ∧
      u.rd PHEALTH.LASTSUSP 0 p = 4 ∧ u.rd PHEALTH.SUSPCNT 0 p = satTo 0xF (s.rd PHEALTH.SUSPCNT 0 p + 1) ∧ u.mem = s.mem := by
  have hle : p ≤ 212 := by omega
  obtain ⟨hset, hstall, hlast, hother, hmem⟩ := (s.advance t).isolate_shows hle
  have heq := State.watchdogExpiry_open (s := s.advance t) (p := p) hiso
  rw [if_pos hp] at heq
  have hcount := (s.advance t).isolate_health (p := p) hp
  have htko' := ((s.advance t).isolate_side p).tko
  generalize (s.advance t).isolate p = a at *
  obtain ⟨⟨kiso, kstall, klast, kmem⟩, hcause, hn⟩ := State.gondolaIsolated_shows (s := a) hp (htko'.trans htko)
  refine ⟨_, exec_handshakeWatchdogExpiry hle, ?_⟩
  rw [heq, State.isolated_withQueue, State.on_withQueue, State.withQueue_rd, State.withQueue_rd, State.withQueue_rd, State.withQueue_mem,
    State.on, kstall, hstall, kiso p hle, hset, klast, hlast, kmem, hmem, hcause, hn, hcount]
  exact ⟨rfl, rfl, rfl, fun q hq hq' => ((State.isolated_withQueue _ _ _).trans (kiso q hq')).trans (hother q hq hq'), rfl, rfl, rfl⟩

theorem handshakeWatchdogExpiry_isolated (hle : p ≤ 212) (hiso : s.isolated p = true) :
    exec (.handshakeWatchdogExpiry t p) s = .next (s.advance t) := by
  have heq : (s.advance t).watchdogExpiry p = s.advance t := if_pos hiso
  rw [exec_handshakeWatchdogExpiry hle, heq]
  rfl

end

/-! ### Readmission (R22) -/

theorem meshisoReadmit_asks {s : State} {t i : Nat} {src : Src} {w : Word} (hsrc : src.ok = true) (hi : i < 7)
    (happ : s.applies src (MESHISO.ISO.adr 0 i) = true) :
    ∃ u, exec (.meshisoReadmit t src i w) s = .next u ∧ u.regs = s.regs ∧ u.mem = s.mem ∧
      (∀ j, j < 32 → 68 ≤ 32 * i + j → 32 * i + j ≤ 212 → w.toNat.testBit j = true → s.isolated (32 * i + j) = true →
        (32 * i + j) ∈ u.meshTest) ∧
      (∀ p, p < 68 → p ∉ s.meshTest → p ∉ u.meshTest) := by
  have hex := does_of_applies (i := .meshisoReadmit t src i w) (t := t) happ rfl (by simp [hsrc, hi])
  have hmember (p : Nat) : p ∈ ((s.advance t).readmit i w).meshTest ↔ p ∈ s.meshTest ∨ (∃ j, j < 32 ∧ bitAt w.toNat j = true ∧ 32 * i + j = p) ∧
      68 ≤ p ∧ p ≤ 212 ∧ s.isolated p = true ∧ p ∉ s.meshTest := by
    rw [State.readmit, List.mem_append, List.mem_filter, List.mem_map]
    refine or_congr Iff.rfl (and_congr ?_ ?_)
    · simp [onesOf, upFrom_mem, and_assoc]
    · simp [State.isolated, and_assoc]
  refine ⟨_, hex, rfl, rfl, fun j hj hlow hhigh hbit hiso => (hmember _).mpr ?_, fun p hp hnot hin => ?_⟩
  · by_cases hin : 32 * i + j ∈ s.meshTest
    · exact .inl hin
    · exact .inr ⟨⟨j, hj, (bitAt_eq_testBit _ _).trans hbit, rfl⟩, hlow, hhigh, hiso, hin⟩
  · rcases (hmember p).mp hin with h | ⟨-, hlow, -⟩
    · exact hnot h
    · omega

theorem readmitSelftestDone_shows {s : State} {t p : Nat} (hp : p ≤ 212) (htest : p ∈ s.meshTest) :
    (∃ u, exec (.readmitSelftestDone t p true) s = .next u ∧ u.isolated p = false ∧ p ∉ u.meshTest ∧ u.mem = s.mem) ∧
      (∃ u, exec (.readmitSelftestDone t p false) s = .next u ∧ u.isolated p = s.isolated p ∧ p ∉ u.meshTest ∧ u.mem = s.mem) := by
  have hin : (s.advance t).meshTest.contains p = true := by simpa using htest
  set a := ({ s.advance t with meshTest := s.meshTest.filter (· != p) } : State) with ha
  have hout : p ∉ a.meshTest := by simp [ha]
  have hdone (ok : Bool) : (s.advance t).readmitDone p ok = if ok then a.setIso p false else a.raise 7680 p := if_pos hin
  refine ⟨⟨_, s.ran_ok ((s.advance t).readmitDone p true) _ (decide_eq_true hp), ?_⟩,
    ⟨_, s.ran_ok ((s.advance t).readmitDone p false) _ (decide_eq_true hp), ?_⟩⟩
  · rw [hdone, if_pos rfl, State.isolated_withQueue, State.setIso_isolated a false hp, if_pos rfl, State.withQueue_mem, State.setIso_mem]
    exact ⟨rfl, hout, rfl⟩
  · obtain ⟨hiso, -, -, hmem⟩ := meshKept.raise a 7680 p
    rw [hdone, if_neg (by decide), State.isolated_withQueue, hiso p hp, State.withQueue_mem, hmem]
    exact ⟨rfl, by rw [State.withQueue_meshTest, (eventSide.raise a 7680 p).meshTest]; exact hout, rfl⟩

/-- Settles O8: the isolation by the watchdog of a port, and its readmission. -/
theorem meshPorts : Obligations.MeshPorts :=
  ⟨fun _ _ _ hp hle hiso => handshakeWatchdogExpiry_unit hp hle hiso, fun _ _ _ hp hiso htko => handshakeWatchdogExpiry_gondola hp hiso htko,
    fun _ _ _ hle hiso => handshakeWatchdogExpiry_isolated hle hiso, fun _ _ _ _ _ hsrc hi happ => meshisoReadmit_asks hsrc hi happ,
    fun _ _ _ hp htest => readmitSelftestDone_shows hp htest⟩

end Sys2Proof.Machine
end

section
/-! PROOFS. Statements about the timebases that some state refutes. -/
namespace Sys2Proof.Machine
open Reg

/-- A timebase whose mode is none of the register's four but counts as slaved: the statement excludes mode 2 alone, and a mode
that is neither 0 nor 1 follows the spool. TB1 runs on spool 0, which is in SYNC, from an anchor ahead of it. -/
def State.slavedByMode3 : State :=
  ({ State.reset with
      spine := some 0
      tb := [(1, { TbH.init with run := true, mode := 3, nspt := 0, anchVal := 2 ^ 40 })] } : State).wr SPSTAT.STATE 3

/-- The count of a timebase after a step, where there is one. -/
def countAfter (k a : Nat) : Out → Option Nat
  | .next u => some (u.tbVal k a)
  | _ => none

/-- Refutes O9: a beacon with nothing written to TB1 steps it to its anchor. -/
theorem not_timebases : ¬ Obligations.Timebases := by
  rintro ⟨-, -, ⟨quiet, -⟩, -⟩
  obtain ⟨u, hu, hval, -⟩ := quiet 0 1 0 State.slavedByMode3 (by decide) (by decide) rfl (by decide) (by decide) (by decide)
    (by decide) (by decide)
  have hafter : countAfter 1 0 (exec (.spineBeacon 0 []) State.slavedByMode3) = some (State.slavedByMode3.tbVal 1 0) := by
    rw [hu]
    exact congrArg some hval
  exact absurd hafter (by decide +kernel)

/-- TB0 runs a little slower than the spine, as a disciplined timebase may (R55), and PPSOUT is enabled: the whole second falls at
instant 0, and instant 1 still shows the same fine count. -/
def State.slowTb0 : State :=
  ({ State.reset with
      spine := some 0
      tb := [(0, { TbH.init with segs := [⟨0, 0, 2 ^ 30 - 1, 0⟩] })] } : State).wr DISCCTL.PPSOUTEN 1

/-- The start of the last PPSOUT pulse after a step, where there is one. -/
def pulseAfter : Out → Option (Option Nat)
  | .next u => some u.disc.lastPpsOut
  | _ => none

/-- Refutes O10: a pulse that comes at instant 1 begins at the whole second, instant 0. -/
theorem not_discipline : ¬ Obligations.Discipline := by
  rintro ⟨⟨-, -, -, -, -, -, pulse⟩, -⟩
  obtain ⟨u, hu, -, hlast, -⟩ := pulse 1 State.slowTb0 (by decide) (by decide) (by decide)
  have hafter : pulseAfter (exec (.ppsoutPulse 1) State.slowTb0) = some (some 1) := by
    rw [hu]
    exact congrArg some hlast
  exact absurd hafter (by decide)

end Sys2Proof.Machine
end

section
/-! PROOFS. The global start (chapter 2): the write of GSTART and the release at T. -/
namespace Sys2Proof.Machine
open Reg

/-! ### The mask (R59) -/

/-- A number written in base 2^32 by a fold keeps each digit's bits. -/
theorem testBit_maskSum (f : Nat → Nat) (hf : ∀ i, f i < 2 ^ 32) (c n : Nat) :
    ((upFrom 0 c).foldl (fun m i => m + f i * 2 ^ (32 * i)) 0) < 2 ^ (32 * c) ∧
      (n < 32 * c → ((upFrom 0 c).foldl (fun m i => m + f i * 2 ^ (32 * i)) 0).testBit n = (f (n / 32)).testBit (n % 32)) := by
  induction c with
  | zero => exact ⟨Nat.one_pos, fun h => absurd h (by omega)⟩
  | succ c ih =>
    rw [← upFrom_append 0 c 1, List.foldl_append]
    obtain ⟨hlt, hbit⟩ := ih
    generalize (upFrom 0 c).foldl (fun m i => m + f i * 2 ^ (32 * i)) 0 = m at *
    have hlast : (upFrom (0 + c) 1).foldl (fun m i => m + f i * 2 ^ (32 * i)) m = 2 ^ (32 * c) * f c + m := by
      rw [Nat.zero_add]
      change m + f c * 2 ^ (32 * c) = _
      ring
    rw [hlast]
    refine ⟨?_, fun hn => ?_⟩
    · have hstep : 2 ^ (32 * (c + 1)) = 2 ^ (32 * c) * 2 ^ 32 := by rw [Nat.mul_succ, Nat.pow_add]
      have hmul := Nat.mul_le_mul_left (2 ^ (32 * c)) (Nat.succ_le_of_lt (hf c))
      rw [Nat.mul_succ] at hmul
      omega
    · rw [Nat.testBit_two_pow_mul_add _ hlt]
      split
      case isTrue h => exact hbit h
      case isFalse h =>
        have hdiv : n / 32 = c := by omega
        have hmod : n - 32 * c = n % 32 := by omega
        rw [hdiv, hmod]

theorem State.gmask_testBit (s : State) {n : Nat} (hn : n < 1024) :
    s.gmask.testBit n = (s.rd GSTARTMASK.SEL 0 (n / 32)).testBit (n % 32) :=
  (testBit_maskSum (fun i => s.rd GSTARTMASK.SEL 0 i) (fun _ => State.rd_lt _ _ _ _) 32 n).2 hn

/-! ### GO (R59) -/

/-- What shows of a GO with no release pending. -/
theorem State.gstartWrite_sets {s : State} {src : Src} {w : Word} (hgo : GSTART.GO.of w = 1) (hpend : s.on GSTARTSTAT.PEND = false) :
    ∃ r, s.gstartWrite src w = { s with regs := (s.gstartWrite src w).regs, release := some r } ∧
      (s.gstartWrite src w).on GSTARTSTAT.PEND = true ∧ r.mask = s.gmask ∧ r.restart = (GSTART.RESTART.of w == 1) ∧ r.src = src ∧
      r.cascade = false ∧
      (if GSTART.TIMED.of w = 1 ∧ s.fine 0 + ns 100 ≤ 64 * s.rd64 GSTARTAT_LO.VALUE GSTARTAT_HI.VALUE then
        r.at_ = s.rd64 GSTARTAT_LO.VALUE GSTARTAT_HI.VALUE ∧ (s.gstartWrite src w).rd GSTARTSTAT.LATE = s.rd GSTARTSTAT.LATE
      else r.at_ = ceilNs (s.fine 0 + ns 100) / 64 ∧
        (s.gstartWrite src w).rd GSTARTSTAT.LATE = if GSTART.TIMED.of w = 1 then 1 else s.rd GSTARTSTAT.LATE) := by
  generalize hu : s.gstartWrite src w = u
  delta State.gstartWrite at hu
  extract_lets soon at_ timed late t a at hu
  rw [if_neg (by simp [hgo]), if_neg (by simp [hpend])] at hu
  have hmask : a.gmask = s.gmask := by
    have hrd (i : Nat) (hi : i ∈ upFrom 0 32) : a.rd GSTARTMASK.SEL 0 i = s.rd GSTARTMASK.SEL 0 i := by
      simp only [a]
      split
      · exact State.wr_rd_ne _ _ _ _ _ _ _ _ (by have := (upFrom_mem _ _ _).mp hi; simp only [RField.adr, blkBase, GSTARTMASK.SEL, GSTARTSTAT.LATE]; omega)
      · rfl
    rw [State.gmask, State.gmask]
    exact List.foldl_ext _ _ _ fun m i hi => by rw [hrd i hi]
  have hside : a = { s with regs := a.regs } := by
    simp only [a]
    split <;> rfl
  have hlate : a.rd GSTARTSTAT.LATE = if late then 1 else s.rd GSTARTSTAT.LATE := by
    simp only [a]
    split
    · exact State.wr_rd _ _ _ _ _ (by decide)
    · rfl
  have hframe : u = { s with regs := u.regs, release := some ⟨s.gmask, GSTART.RESTART.of w == 1, src, t, false⟩ } := by
    rw [← hu, hmask, hside]
    rfl
  have hpendU : u.on GSTARTSTAT.PEND = true := by
    rw [← hu, State.on, State.wr_rd _ _ _ _ _ (by decide)]
    rfl
  have hlateU : u.rd GSTARTSTAT.LATE = if late then 1 else s.rd GSTARTSTAT.LATE := by
    rw [← hu, State.wr_rd_other _ _ _ _ _ _ _ _ (by decide) (by decide)]
    exact hlate
  clear hu
  clear_value a
  refine ⟨_, hframe, hpendU, rfl, rfl, rfl, rfl, ?_⟩
  by_cases hT : GSTART.TIMED.of w = 1
  · by_cases hsoon : s.fine 0 + ns 100 ≤ 64 * s.rd64 GSTARTAT_LO.VALUE GSTARTAT_HI.VALUE
    · have hno : late = false := by simp [late, timed, hT, soon, at_, hsoon]
      rw [if_pos ⟨hT, hsoon⟩, hlateU, hno]
      refine ⟨?_, rfl⟩
      simp [t, timed, hT, hno, at_]
    · have hyes : late = true := by simp [late, timed, hT, soon, at_]; omega
      rw [if_neg (fun h => hsoon h.2), hlateU, hyes, if_pos hT]
      refine ⟨?_, rfl⟩
      simp [t, hyes, soon]
  · have htimed : timed = false := by simp [timed, hT]
    have hno : late = false := by simp [late, htimed]
    rw [if_neg (fun h => hT h.1), hlateU, hno, if_neg hT]
    refine ⟨?_, rfl⟩
    simp [t, htimed, soon]

theorem ceilNs_bounds (v : Nat) : v ≤ 64 * (ceilNs v / 64) ∧ 64 * (ceilNs v / 64) < v + 64 := by
  rw [ceilNs]
  omega

/-- GSTART with GO set. -/
theorem gstartFields (w : Word) : GSTART.GO.of (w ||| 1) = 1 ∧ (GSTART.RESTART.of (w ||| 1) == 1) = w.toNat.testBit 2 ∧
    (GSTART.TIMED.of (w ||| 1) = 1 ↔ w.toNat.testBit 1 = true) := by
  have hbit {F : RField} (hF : F.len = 1) (hk : (1 : Word).toNat.testBit F.lo = false) : F.of (w ||| 1) = (w.toNat.testBit F.lo).toNat := by
    rw [RField.of_bit_or hF, hk, Bool.or_false]
  refine ⟨RField.of_bit_set rfl (by decide) w, ?_, ?_⟩
  · rw [hbit (F := GSTART.RESTART) rfl (by decide)]
    change ((w.toNat.testBit 2).toNat == 1) = w.toNat.testBit 2
    cases w.toNat.testBit 2 <;> rfl
  · rw [hbit (F := GSTART.TIMED) rfl (by decide)]
    change (w.toNat.testBit 1).toNat = 1 ↔ w.toNat.testBit 1 = true
    cases w.toNat.testBit 1 <;> decide

theorem gstartGo_sets {s : State} {t : Nat} {src : Src} {w : Word} (hsrc : src.ok = true) (happ : s.applies src 0x280 = true)
    (hpend : s.on GSTARTSTAT.PEND = false) :
    ∃ u r, exec (.gstartGo t src w) s = .next u ∧ u = { s with now := u.now, regs := u.regs, release := some r } ∧
      u.on GSTARTSTAT.PEND = true ∧
      (∀ n, n < 1024 → r.mask.testBit n = (s.rd GSTARTMASK.SEL 0 (n / 32)).testBit (n % 32)) ∧
      r.restart = w.toNat.testBit 2 ∧ r.src = src ∧ r.cascade = false ∧
      (if w.toNat.testBit 1 = true ∧ u.fine 0 + ns 100 ≤ 64 * s.rd64 GSTARTAT_LO.VALUE GSTARTAT_HI.VALUE then
        r.at_ = s.rd64 GSTARTAT_LO.VALUE GSTARTAT_HI.VALUE ∧ u.rd GSTARTSTAT.LATE = s.rd GSTARTSTAT.LATE
      else u.fine 0 + ns 100 ≤ 64 * r.at_ ∧ 64 * r.at_ < u.fine 0 + ns 100 + 64 ∧
        u.rd GSTARTSTAT.LATE = if w.toNat.testBit 1 = true then 1 else s.rd GSTARTSTAT.LATE) := by
  obtain ⟨hgo, hrestart, htimed⟩ := gstartFields w
  have hex := does_of_applies (i := .gstartGo t src w) (t := t) happ rfl hsrc
  obtain ⟨r, hframe, hpendU, hmask, hrestartR, hsrcR, hcascade, hat⟩ :=
    State.gstartWrite_sets (s := s.advance t) (src := src) hgo hpend
  rw [does] at hex
  generalize (s.advance t).gstartWrite src (w ||| 1) = v at *
  have hfine : (v.withQueue s.pending).fine 0 = (s.advance t).fine 0 := by
    rw [hframe]
    rfl
  have hrd : (v.withQueue s.pending).rd GSTARTSTAT.LATE = v.rd GSTARTSTAT.LATE := State.withQueue_rd _ _ _ _ _
  refine ⟨_, r, hex, ?_, ?_, fun n hn => ?_, hrestartR.trans hrestart, hsrcR, hcascade, ?_⟩
  · rw [hframe]
    rfl
  · rw [State.on_withQueue, hpendU]
  · rw [hmask]
    exact State.gmask_testBit s hn
  · rw [hfine, hrd]
    obtain ⟨hlow, hhigh⟩ := ceilNs_bounds ((s.advance t).fine 0 + ns 100)
    by_cases h : w.toNat.testBit 1 = true ∧ (s.advance t).fine 0 + ns 100 ≤ 64 * s.rd64 GSTARTAT_LO.VALUE GSTARTAT_HI.VALUE
    · rw [if_pos ⟨htimed.mpr h.1, h.2⟩] at hat
      rw [if_pos h]
      exact hat
    · rw [if_neg fun k => h ⟨htimed.mp k.1, k.2⟩] at hat
      obtain ⟨hat, hlate⟩ := hat
      rw [if_neg h, hat]
      refine ⟨hlow, hhigh, hlate.trans ?_⟩
      simp only [htimed]
      rfl

theorem gstartGo_refused {s : State} {t : Nat} {src : Src} {w : Word} (hsrc : src.ok = true) (happ : s.applies src 0x280 = true)
    (hpend : s.on GSTARTSTAT.PEND = true) :
    ∃ u, exec (.gstartGo t src w) s = .next u ∧ onlyRegs s u ∧ u.on GSTARTSTAT.REFUSED = true ∧
      ∀ a, a ≠ GSTARTSTAT.WHOLE.adr 0 0 → u.reg a = s.reg a := by
  obtain ⟨hgo, -, -⟩ := gstartFields w
  have hex := does_of_applies (i := .gstartGo t src w) (t := t) happ rfl hsrc
  have hwrite : (s.advance t).gstartWrite src (w ||| 1) = (s.advance t).wr GSTARTSTAT.REFUSED 1 := by
    have hpend' : (s.advance t).on GSTARTSTAT.PEND = true := hpend
    rw [State.gstartWrite, if_neg (ne_of_eq_of_ne hgo (by decide)), if_pos hpend']
  rw [does, hwrite] at hex
  refine ⟨_, hex, rfl, ?_, fun a ha => ?_⟩
  · rw [State.on_withQueue, State.on, State.wr_rd _ _ _ _ _ (by decide)]
    rfl
  · rw [State.withQueue_reg]
    exact (s.advance t).wr_reg_ne GSTARTSTAT.REFUSED 1 0 0 a ha

/-! ### The release (R59, R60) -/

/-- What a release leaves once the channels `k` of which it skipped have started. -/
def State.releaseEnd (s : State) (at_ k : Nat) : State :=
  ((s.wr64 GSTARTTS_LO.VALUE GSTARTTS_HI.VALUE at_).wrs 0 [(GSTARTSTAT.PEND, 0), (GSTARTSTAT.EVER, 1), (GSTARTSTAT.SKIPPED, k)]).raiseAt
    7686 k (64 * at_)

theorem State.releaseEnd_shows (s : State) (at_ k : Nat) :
    (s.releaseEnd at_ k).rd GSTARTSTAT.PEND = 0 ∧ (s.releaseEnd at_ k).rd GSTARTSTAT.EVER = 1 ∧
      (s.releaseEnd at_ k).rd GSTARTSTAT.SKIPPED = k % 2 ^ 11 ∧
      (at_ < 2 ^ 64 → (s.releaseEnd at_ k).rd64 GSTARTTS_LO.VALUE GSTARTTS_HI.VALUE = at_) ∧ eventSide s (s.releaseEnd at_ k) := by
  have hraise (v : State) (F : RField) (hF : evReg (F.adr 0 0) = false) : (v.raiseAt 7686 k (64 * at_)).rd F = v.rd F :=
    State.raiseAt_rd _ _ _ _ _ _ _ hF
  have hwrs (v : State) : v.wrs 0 [(GSTARTSTAT.PEND, 0), (GSTARTSTAT.EVER, 1), (GSTARTSTAT.SKIPPED, k)] =
      ((v.wr GSTARTSTAT.PEND 0).wr GSTARTSTAT.EVER 1).wr GSTARTSTAT.SKIPPED k := rfl
  rw [State.releaseEnd, hwrs, State.wr64]
  refine ⟨?_, ?_, ?_, fun hat => ?_, ?_⟩
  · rw [hraise _ _ (by decide), State.wr_rd_other _ _ _ _ _ _ _ _ (by decide) (by decide),
      State.wr_rd_other _ _ _ _ _ _ _ _ (by decide) (by decide), State.wr_rd _ _ _ _ _ (by decide)]
    rfl
  · rw [hraise _ _ (by decide), State.wr_rd_other _ _ _ _ _ _ _ _ (by decide) (by decide), State.wr_rd _ _ _ _ _ (by decide)]
    rfl
  · rw [hraise _ _ (by decide), State.wr_rd _ _ _ _ _ (by decide)]
    rfl
  · have hkeep (v : State) (F : RField) (hF : F.adr 0 0 ≠ GSTARTSTAT.WHOLE.adr 0 0) :
        (((v.wr GSTARTSTAT.PEND 0).wr GSTARTSTAT.EVER 1).wr GSTARTSTAT.SKIPPED k).rd F = v.rd F :=
      ((State.wr_rd_ne (((v.wr GSTARTSTAT.PEND 0).wr GSTARTSTAT.EVER 1)) GSTARTSTAT.SKIPPED F k 0 0 0 0 hF).trans
        (State.wr_rd_ne (v.wr GSTARTSTAT.PEND 0) GSTARTSTAT.EVER F 1 0 0 0 0 hF)).trans
        (State.wr_rd_ne v GSTARTSTAT.PEND F 0 0 0 0 0 hF)
    rw [State.rd64, hraise _ _ (by decide), hraise _ _ (by decide), hkeep _ _ (by decide), hkeep _ _ (by decide),
      State.wr_rd_ne _ _ GSTARTTS_LO.VALUE _ _ _ _ _ (by decide), State.wr_rd _ _ _ _ _ (by decide), State.wr_rd _ _ _ _ _ (by decide)]
    change at_ % 2 ^ 32 + 2 ^ 32 * (at_ / 2 ^ 32 % 2 ^ 32) = at_
    omega
  · exact (((((eventSide.wr _ _ _ _ _).trans (.wr _ _ _ _ _)).trans (.wr _ _ _ _ _)).trans (.wr _ _ _ _ _)).trans (.wr _ _ _ _ _)).trans
      (.raiseAt _ _ _ _)

section
variable {s : State} {r : Release} (hrel : s.release = some r) (hdue : 64 * r.at_ ≤ s.fine 0)
include hrel hdue

theorem State.gstartRelease_ends : ∃ (v : State) (k : Nat), s.gstartRelease = v.releaseEnd r.at_ k := by
  generalize hu : s.gstartRelease = u
  rw [State.gstartRelease, hrel] at hu
  dsimp -zeta only at hu
  rw [if_neg (by omega)] at hu
  extract_lets sel own out a at hu
  exact ⟨_, _, hu.symm⟩

/-- A release that selects no channel of its own or of another's. -/
theorem State.gstartRelease_of_sel {l : List Nat}
    (hsel : (onesOf r.mask 1024).filter (fun n => !(s.paired n && n % 2 == 1)) = l) (hown : ∀ n ∈ l, s.bridlePass (n / 8) r.src = true)
    (hskip : ∀ n ∈ l, ({ s with release := none } : State).gstartCh r n = ({ s with release := none }, true)) :
    s.gstartRelease = ({ s with release := none } : State).releaseEnd r.at_ l.length := by
  generalize hu : s.gstartRelease = u
  rw [State.gstartRelease, hrel] at hu
  dsimp -zeta only at hu
  rw [if_neg (by omega)] at hu
  extract_lets sel own out a b c d at hu
  have hin : sel.filter own = l := by
    rw [show sel = l from hsel]
    exact List.filter_eq_self.mpr hown
  have hout : out = [] := by
    have hnone : l.filter (fun n => !own n) = [] := List.filter_eq_nil_iff.mpr fun n hn => by simpa using hown n hn
    exact (congrArg (List.filter _) hsel).trans hnone
  have hfold (m : List Nat) (hm : ∀ n ∈ m, n ∈ l) (k : Nat) :
      m.foldl (fun (x : State × Nat) n => ((x.1.gstartCh r n).1, x.2 + b2n (x.1.gstartCh r n).2)) (a, k) = (a, k + m.length) := by
    induction m generalizing k with
    | nil => rfl
    | cons n ns ih =>
      rw [List.foldl_cons, hskip n (hm n List.mem_cons_self), ih fun x hx => hm x (List.mem_cons_of_mem _ hx)]
      exact congrArg (Prod.mk a) (by simp only [b2n, List.length_cons, if_true]; omega)
  have hsum := hfold l (fun _ h => h) 0
  rw [Nat.zero_add] at hsum
  have hb : b = a := by
    simp only [b, hout, hin]
    exact congrArg Prod.fst hsum
  rw [← hu]
  simp only [d, c, hb, hin, hout, List.length_nil, hsum]
  rfl

end

theorem State.fine_due {s : State} {t : Nat} {r : Release} (hnow : s.now ≤ t) (hdue : 64 * r.at_ ≤ s.fineAt 0 t) :
    64 * r.at_ ≤ (s.advance t).fine 0 := by
  have hfine : (s.advance t).fine 0 = s.fineAt 0 t := by
    rw [State.fine, State.advance_now_of_le hnow]
    rfl
  rw [hfine]
  exact hdue

theorem State.withQueue_rd64 (s : State) (q : List Instr) (lo hi : RField) (n i : Nat) :
    (s.withQueue q).rd64 lo hi n i = s.rd64 lo hi n i := by
  rw [State.rd64, State.rd64, State.withQueue_rd, State.withQueue_rd]

theorem State.withRelease_mode (s : State) (r : Option Release) (n : Nat) : ({ s with release := r } : State).mode n = s.mode n := (rfl)

section
variable {s : State} {t : Nat} {r : Release} (hrel : s.release = some r) (hnow : s.now ≤ t) (hdue : 64 * r.at_ ≤ s.fineAt 0 t)
include hrel hnow hdue

theorem gstartRelease_ends (hat : r.at_ < 2 ^ 64) :
    ∃ u, exec (.gstartRelease t) s = .next u ∧ u.on GSTARTSTAT.PEND = false ∧ u.on GSTARTSTAT.EVER = true ∧
      u.rd64 GSTARTTS_LO.VALUE GSTARTTS_HI.VALUE = r.at_ := by
  obtain ⟨v, k, hv⟩ := State.gstartRelease_ends (s := s.advance t) hrel (State.fine_due hnow hdue)
  obtain ⟨hpend, hever, -, hts, -⟩ := v.releaseEnd_shows r.at_ k
  generalize v.releaseEnd r.at_ k = e at *
  refine ⟨_, s.ran_ok (s.advance t).gstartRelease _ rfl, ?_⟩
  rw [hv, State.on_withQueue, State.on_withQueue, State.on, State.on, hpend, hever, State.withQueue_rd64]
  exact ⟨rfl, rfl, hts hat⟩

/-- What shows of a release whose channels are all skipped. -/
theorem gstartRelease_skips {l : List Nat} (hsel : (onesOf r.mask 1024).filter (fun n => !(s.paired n && n % 2 == 1)) = l)
    (hown : ∀ n ∈ l, s.bridlePass (n / 8) r.src = true) (hmode : ∀ n ∈ l, s.mode n = 0) (hlen : l.length < 2 ^ 11) :
    ∃ u, exec (.gstartRelease t) s = .next u ∧ u.release = none ∧ u.rd GSTARTSTAT.SKIPPED = l.length ∧
      u.on GSTARTSTAT.PEND = false ∧ u.on GSTARTSTAT.EVER = true ∧
      (r.at_ < 2 ^ 64 → u.rd64 GSTARTTS_LO.VALUE GSTARTTS_HI.VALUE = r.at_) ∧ u.chan = s.chan ∧ u.mem = s.mem := by
  have hskip (n : Nat) (hn : n ∈ l) : ({ s.advance t with release := none } : State).gstartCh r n =
      ({ s.advance t with release := none }, true) := by
    have hm : ({ s.advance t with release := none } : State).mode n = 0 := ((s.advance t).withRelease_mode none n).trans (hmode n hn)
    rw [State.gstartCh]
    exact if_pos (.inl hm)
  have hv := State.gstartRelease_of_sel (s := s.advance t) hrel (State.fine_due hnow hdue) hsel hown hskip
  obtain ⟨hpend, hever, hskipped, hts, hside⟩ := ({ s.advance t with release := none } : State).releaseEnd_shows r.at_ l.length
  generalize ({ s.advance t with release := none } : State).releaseEnd r.at_ l.length = e at *
  refine ⟨_, s.ran_ok (s.advance t).gstartRelease _ rfl, ?_⟩
  rw [hv, State.on_withQueue, State.on_withQueue, State.on, State.on, hpend, hever, State.withQueue_rd, hskipped, Nat.mod_eq_of_lt hlen,
    State.withQueue_rd64]
  refine ⟨?_, rfl, rfl, rfl, hts, ?_, ?_⟩
  all_goals
    rw [hside]
    rfl

end

theorem bitAt_two_pow {n : Nat} (j : Nat) : bitAt (2 ^ n) j = decide (j = n) := by
  rw [bitAt_eq_testBit, Nat.testBit_two_pow]
  exact decide_eq_decide.mpr eq_comm

theorem onesOf_zero {k : Nat} : onesOf 0 k = [] := by
  rw [onesOf, List.filter_eq_nil_iff]
  intro j _
  simp [bitAt]

/-- The ones of a word with one bit. -/
theorem onesOf_two_pow {n k : Nat} (hn : n < k) : onesOf (2 ^ n) k = [n] := by
  have hrest (a m : Nat) (h : ¬ (a ≤ n ∧ n < a + m)) : (upFrom a m).filter (bitAt (2 ^ n)) = [] := by
    rw [List.filter_eq_nil_iff]
    intro j hj
    rw [upFrom_mem] at hj
    rw [bitAt_two_pow, decide_eq_true_iff]
    omega
  rw [onesOf, upFrom_split hn, List.filter_append, List.filter_cons_of_pos (by rw [bitAt_two_pow]; simp),
    hrest _ _ (by omega), hrest _ _ (by omega)]
  rfl

/-- Settles O11: the release that GO sets, and the release at T. -/
theorem globalStart : Obligations.GlobalStart := by
  refine ⟨fun t src w s hsrc happ => ⟨fun hpend => gstartGo_sets hsrc happ hpend, fun hpend => gstartGo_refused hsrc happ hpend⟩,
    fun t r s hrel hat hnow hdue => gstartRelease_ends hrel hnow hdue hat, fun t r s hrel hmask hat hnow hdue => ?none,
    fun t n r s hn hrel hmask hsrc howner hmode hpair hnow hdue => ?one⟩
  case none =>
    have hsel : (onesOf r.mask 1024).filter (fun n => !(s.paired n && n % 2 == 1)) = [] := by
      rw [hmask]
      exact congrArg (List.filter _) onesOf_zero
    obtain ⟨u, hex, hnone, hskipped, hpend, hever, hts, hchan, hmem⟩ :=
      gstartRelease_skips hrel hnow hdue hsel (by simp) (by simp) (by decide)
    exact ⟨u, hex, hnone, hpend, hever, hskipped, hts hat, hchan, hmem⟩
  case one =>
    have hsel : (onesOf r.mask 1024).filter (fun n => !(s.paired n && n % 2 == 1)) = [n] := by
      rw [hmask, onesOf_two_pow hn, List.filter_cons_of_pos (by simp [hpair])]
      rfl
    have hown : s.bridlePass (n / 8) r.src = true := by
      rw [hsrc, State.bridlePass, howner]
      rfl
    have hmodeN : s.mode n = 0 := hmode
    obtain ⟨u, hex, -, hskipped, -, -, -, hchan, hmem⟩ := gstartRelease_skips hrel hnow hdue hsel
      (by simpa using hown) (by simpa using hmodeN) (Nat.one_lt_two_pow (by decide))
    exact ⟨u, hex, hskipped, hchan, hmem⟩

end Sys2Proof.Machine
end

section
/-! PROOFS. Channels (chapters 2 and 6): the parts of a channel that an operation leaves alone, the edges and the delay lines. -/
namespace Sys2Proof.Machine
open Reg

/-! ### The parts of a channel -/

/-- `u` is `s` but for the channels. -/
def chanSide (s u : State) : Prop := u = { s with chan := u.chan }

theorem chanSide.refl (s : State) : chanSide s s := (rfl)

theorem chanSide.trans {s u v : State} (h : chanSide s u) (k : chanSide u v) : chanSide s v := by
  unfold chanSide at *
  rw [k, h]

theorem chanSide.modCh (s : State) (n : Nat) (f : Chan → Chan) : chanSide s (s.modCh n f) := (rfl)
theorem chanSide.modPin (s : State) (n : Nat) (f : ChPin → ChPin) : chanSide s (s.modPin n f) := (rfl)
theorem chanSide.modDl (s : State) (n : Nat) (f : DLine → DLine) : chanSide s (s.modDl n f) := (rfl)

theorem chanSide.regs {s u : State} (h : chanSide s u) : u.regs = s.regs := by rw [h]
theorem chanSide.rd {s u : State} (h : chanSide s u) (F : RField) (n i : Nat) : u.rd F n i = s.rd F n i := State.rd_of_regs _ _ _ _ _ h.regs
theorem chanSide.paired {s u : State} (h : chanSide s u) (n : Nat) : u.paired n = s.paired n := by
  rw [State.paired, State.paired, State.on, State.on, h.rd]

@[simp] theorem State.modPin_pin (s : State) (n : Nat) (f : ChPin → ChPin) : ((s.modPin n f).ch n).pin = f (s.ch n).pin := by
  rw [State.modPin, State.modCh_ch]

@[simp] theorem State.modPin_dl (s : State) (n m : Nat) (f : ChPin → ChPin) : ((s.modPin n f).ch m).dl = (s.ch m).dl := by
  by_cases h : m = n
  · rw [h, State.modPin, State.modCh_ch]
  · rw [State.modPin, State.modCh_ch_ne _ _ _ _ h]

theorem State.modPin_ch_ne (s : State) (n m : Nat) (f : ChPin → ChPin) (h : m ≠ n) : (s.modPin n f).ch m = s.ch m :=
  State.modCh_ch_ne _ _ _ _ h

@[simp] theorem State.modDl_ch (s : State) (n : Nat) (f : DLine → DLine) : (s.modDl n f).ch n = { s.ch n with dl := f (s.ch n).dl } :=
  State.modCh_ch _ _ _

theorem State.modDl_ch_ne (s : State) (n m : Nat) (f : DLine → DLine) (h : m ≠ n) : (s.modDl n f).ch m = s.ch m :=
  State.modCh_ch_ne _ _ _ _ h

@[simp] theorem State.ch_withQueue (s : State) (q : List Instr) (n : Nat) : (s.withQueue q).ch n = s.ch n := (rfl)
@[simp] theorem State.ch_advance (s : State) (t n : Nat) : (s.advance t).ch n = s.ch n := (rfl)
@[simp] theorem State.ch_wr (s : State) (F : RField) (v n i m : Nat) : (s.wr F v n i).ch m = s.ch m := (rfl)
@[simp] theorem State.ch_inc (s : State) (F : RField) (k n i m : Nat) : (s.inc F k n i).ch m = s.ch m := (rfl)

theorem eventSide.ch {s u : State} (h : eventSide s u) (n : Nat) : u.ch n = s.ch n := by rw [h]; rfl

theorem partner_ne (n : Nat) : partner n ≠ n := by
  rw [partner]
  split <;> omega

theorem partner_partner (n : Nat) : partner (partner n) = n := by
  rw [partner, partner]
  split
  · rw [if_neg (by omega)]
    omega
  · rw [if_pos (by omega)]
    omega

/-! ### The level of a pin (R190) -/

/-- The delay lines and the levels after them stay. -/
def levelsKept (s u : State) : Prop := ∀ m, (u.ch m).dl = (s.ch m).dl ∧ (u.ch m).pin.lvl = (s.ch m).pin.lvl

theorem levelsKept.trans {s u v : State} (h : levelsKept s u) (k : levelsKept u v) : levelsKept s v :=
  fun m => ⟨(k m).1.trans (h m).1, (k m).2.trans (h m).2⟩

theorem State.sync3_kept (s : State) (n : Nat) :
    levelsKept s (s.sync3 n) ∧ chanSide s (s.sync3 n) ∧ ∀ m, m ≠ n → (s.sync3 n).ch m = s.ch m := by
  rw [State.sync3]
  refine ⟨fun m => ⟨State.modPin_dl _ _ _ _, ?_⟩, chanSide.modPin s n _, fun m hm => State.modPin_ch_ne _ _ _ _ hm⟩
  by_cases h : m = n
  · rw [h, State.modPin_pin]
    split <;> rfl
  · rw [State.modPin_ch_ne _ _ _ _ h]

theorem State.syncPair_kept (s : State) (n : Nat) :
    levelsKept s (s.syncPair n) ∧ chanSide s (s.syncPair n) ∧
      (∀ m, m ≠ n → m ≠ partner n → (s.syncPair n).ch m = s.ch m) ∧ (s.paired n = false → ∀ m, m ≠ n → (s.syncPair n).ch m = s.ch m) := by
  obtain ⟨hlvl, hside, hother⟩ := s.sync3_kept n
  rw [State.syncPair]
  split
  case isTrue h =>
    obtain ⟨klvl, kside, kother⟩ := (s.sync3 n).sync3_kept (partner n)
    refine ⟨hlvl.trans klvl, hside.trans kside, fun m hm hp => (kother m hp).trans (hother m hm), fun hp => ?_⟩
    exact absurd (h.symm.trans hp) (by decide)
  case isFalse => exact ⟨hlvl, hside, fun m hm _ => hother m hm, fun _ m hm => hother m hm⟩

/-- What setting the level after the delay lines changes. -/
theorem State.setLvl_shows (s : State) (n : Nat) (v : Bool) :
    chanSide s (s.setLvl n v) ∧ ((s.setLvl n v).ch n).pin.lvl = v ∧
      (∀ m, ((s.setLvl n v).ch m).dl = (s.ch m).dl) ∧ (∀ m, m ≠ n → ((s.setLvl n v).ch m).pin.lvl = (s.ch m).pin.lvl) ∧
      (∀ m, m ≠ n → m ≠ partner n → (s.setLvl n v).ch m = s.ch m) ∧
      (s.paired n = false → ∀ m, m ≠ n → (s.setLvl n v).ch m = s.ch m) := by
  rw [State.setLvl]
  set a := s.modPin n (fun p =>
    { p with lvl := v, onAt := if v && !p.lvl then s.now else p.onAt, blanking := p.blanking || (v && !p.lvl) }) with ha
  have haside : chanSide s a := .modPin _ _ _
  have hother (m : Nat) (hm : m ≠ n) : a.ch m = s.ch m := State.modPin_ch_ne _ _ _ _ hm
  obtain ⟨hlvl, hside, hrest, hone⟩ := a.syncPair_kept n
  refine ⟨haside.trans hside, ?_, fun m => ?_, fun m hm => ?_, fun m hm hp => ?_, fun hp m hm => ?_⟩
  · rw [(hlvl n).2, ha, State.modPin_pin]
  · rw [(hlvl m).1, ha, State.modPin_dl]
  · rw [(hlvl m).2, hother m hm]
  · rw [hrest m hm hp, hother m hm]
  · rw [hone ((haside.paired n).trans hp) m hm, hother m hm]

/-! ### Edges (R53, R61) -/

/-- Two registers of channels at different offsets are different. -/
theorem chField_ne {F G : RField} {n m : Nat} (hF : F.blk = .ch) (hG : G.blk = .ch) (hsF : F.stride = 0) (hsG : G.stride = 0)
    (hoF : F.off < 0x1000) (hoG : G.off < 0x1000) (h : F.off ≠ G.off) : F.adr n 0 ≠ G.adr m 0 := by
  simp only [RField.adr, blkBase, hF, hG, hsF, hsG]
  omega

section
variable {s : State} {n : Nat} {e : PEdge} {r : List PEdge}

/-- The measurement that an edge of an adaptive dead time takes (R187). -/
def State.edgeMeas (s : State) (n : Nat) (e : PEdge) : State :=
  match e.meas with
  | some off => if n % 2 = 0 then s.wr DTMEAS.HON (satTo 0xFFFF (s.now - off)) n
      else s.wr DTMEAS.LON (satTo 0xFFFF (s.now - off)) (n - 1)
  | none => s

theorem State.edgeMeas_shows (s : State) (n : Nat) (e : PEdge) :
    regsOnly s (s.edgeMeas n e) ∧ (∀ m, (s.edgeMeas n e).ch m = s.ch m) ∧ (e.meas = none → s.edgeMeas n e = s) := by
  rw [State.edgeMeas.eq_def]
  split
  case h_1 off h =>
    split
    · exact ⟨.wr _ _ _ _ _, fun _ => State.ch_wr _ _ _ _ _ _, fun k => absurd (h.symm.trans k) (by simp)⟩
    · exact ⟨.wr _ _ _ _ _, fun _ => State.ch_wr _ _ _ _ _ _, fun k => absurd (h.symm.trans k) (by simp)⟩
  case h_2 => exact ⟨.refl _, fun _ => rfl, fun _ => rfl⟩

/-- The modes of a channel are apart from what an edge measures. -/
theorem State.edgeMeas_modes (s : State) (n : Nat) (e : PEdge) (m : Nat) :
    (s.edgeMeas n e).emuOk m = s.emuOk m ∧ (s.edgeMeas n e).paired m = s.paired m := by
  have key {F G : RField} {v k l : Nat} (hF : F.blk = .ch ∧ F.stride = 0 ∧ F.off = DTMEAS.WHOLE.off)
      (hG : G.blk = .ch ∧ G.stride = 0 ∧ G.off < 0x1000 ∧ G.off ≠ DTMEAS.WHOLE.off) : (s.wr F v k).rd G l = s.rd G l := by
    obtain ⟨hF, hsF, hoF⟩ := hF
    obtain ⟨hG, hsG, hlG, hoG⟩ := hG
    exact State.wr_rd_ne _ _ _ _ _ _ _ _ (chField_ne hG hF hsG hsF hlG (by rw [hoF]; decide) (by rw [hoF]; exact hoG))
  have keep {F : RField} {v k : Nat} (hF : F.blk = .ch ∧ F.stride = 0 ∧ F.off = DTMEAS.WHOLE.off) :
      (s.wr F v k).emuOk m = s.emuOk m ∧ (s.wr F v k).paired m = s.paired m := by
    have hpair (m : Nat) : (s.wr F v k).paired m = s.paired m := by
      rw [State.paired, State.paired, State.on, State.on, key hF (by decide)]
    refine ⟨?_, hpair m⟩
    rw [State.emuOk, State.emuOk, State.mode, State.mode, State.leader, State.leader, hpair, key hF (by decide), key hF (by decide)]
  rw [State.edgeMeas.eq_def]
  split
  · split
    · exact keep (by decide)
    · exact keep (by decide)
  · exact ⟨rfl, rfl⟩

theorem chanSide.emuOk {s u : State} (h : chanSide s u) (n : Nat) : u.emuOk n = s.emuOk n := by
  rw [State.emuOk, State.emuOk, State.mode, State.mode, State.leader, State.leader, h.paired, h.rd, h.rd]

/-- An edge that fires. -/
theorem State.fireEdge_eq (hpend : (s.ch n).dl.pend = e :: r) (hat : e.at_ ≤ s.etbNow n) (hrate : s.rateOf (s.etb n) ≠ 0)
    (hcal : s.on SPINESTAT.CALDONE = true) {a : State}
    (ha : a = (s.modDl n (fun l => { l with pend := r, lastAt := some (s.whenTb (s.etb n) e.at_) })).edgeMeas n e) :
    s.fireEdge n = if (a.ch n).pin.passTail ∧ a.emuOk n then a
      else if e.both then (a.setLvl n (actLvl e.act (s.ch n).pin.lvl)).setLvl (partner n) (!actLvl e.act (s.ch n).pin.lvl)
      else a.setLvl n (actLvl e.act (s.ch n).pin.lvl) := by
  have hlvl : ((s.modDl n (fun l => { l with pend := r, lastAt := some (s.whenTb (s.etb n) e.at_) })).ch n).pin.lvl = (s.ch n).pin.lvl := by
    rw [State.modDl_ch]
  rw [State.fireEdge, hpend]
  dsimp -zeta only
  rw [if_pos ⟨hat, hrate, hcal⟩]
  extract_lets b v c
  have hv : v = actLvl e.act (s.ch n).pin.lvl := congrArg (actLvl e.act) hlvl
  rw [← hv, ha]
  rfl

/-- What shows of an edge that fires. -/
theorem State.fireEdge_shows (hpend : (s.ch n).dl.pend = e :: r) (hat : e.at_ ≤ s.etbNow n) (hrate : s.rateOf (s.etb n) ≠ 0)
    (hcal : s.on SPINESTAT.CALDONE = true) {v : Bool} (hv : v = actLvl e.act (s.ch n).pin.lvl) :
    s.fireEdge n = { s with regs := (s.fireEdge n).regs, chan := (s.fireEdge n).chan } ∧
      ((s.fireEdge n).ch n).dl.pend = r ∧ ((s.fireEdge n).ch n).dl.lastAt = some (s.whenTb (s.etb n) e.at_) ∧
      ((s.ch n).pin.passTail = false → ((s.fireEdge n).ch n).pin.lvl = v ∧
        (e.both = true → ((s.fireEdge n).ch (partner n)).pin.lvl = !v)) ∧
      ((s.ch n).pin.passTail = true → s.emuOk n = true → ((s.fireEdge n).ch n).pin = (s.ch n).pin) ∧
      (e.meas = none → (s.fireEdge n).regs = s.regs) ∧ (∀ m, m ≠ n → m ≠ partner n → (s.fireEdge n).ch m = s.ch m) ∧
      (e.both = false → s.paired n = false → (s.fireEdge n).ch (partner n) = s.ch (partner n)) := by
  obtain ⟨hmside, hmch, hmnone⟩ := (s.modDl n (fun l => { l with pend := r, lastAt := some (s.whenTb (s.etb n) e.at_) })).edgeMeas_shows n e
  have heq := State.fireEdge_eq hpend hat hrate hcal rfl
  rw [← hv] at heq
  set b := s.modDl n (fun l => { l with pend := r, lastAt := some (s.whenTb (s.etb n) e.at_) }) with hb
  have hbn : b.ch n = { s.ch n with dl := { (s.ch n).dl with pend := r, lastAt := some (s.whenTb (s.etb n) e.at_) } } := by
    rw [hb, State.modDl_ch]
  have hbne (m : Nat) (hm : m ≠ n) : b.ch m = s.ch m := State.modDl_ch_ne _ _ _ _ hm
  have hbside : chanSide s b := .modDl _ _ _
  have hkept := (b.edgeMeas_modes n e n)
  rw [hbside.emuOk, hbside.paired] at hkept
  generalize hma : b.edgeMeas n e = a at *
  have hmode : a.emuOk n = s.emuOk n ∧ a.paired n = s.paired n := hkept
  have haframe : a = { s with regs := a.regs, chan := a.chan } := by
    rw [hmside, hbside]
  have hpart : partner n ≠ n := partner_ne n
  generalize s.fireEdge n = u at *
  have hpt : (a.ch n).pin.passTail = (s.ch n).pin.passTail := by rw [hmch, hbn]
  split at heq
  case isTrue h =>
    obtain ⟨hpass, hok⟩ := h
    have hch : u.ch n = b.ch n := by rw [heq, hmch]
    refine ⟨by rw [heq]; exact haframe, ?_, ?_, fun hno => ?_, fun _ _ => ?_, fun hm => ?_, fun m hm hp => ?_, fun _ _ => ?_⟩
    · rw [hch, hbn]
    · rw [hch, hbn]
    · exact absurd ((hpass.symm.trans hpt).trans hno) (by decide)
    · rw [hch, hbn]
    · rw [heq, hmnone hm, hbside]
    · rw [heq, hmch, hbne m hm]
    · rw [heq, hmch, hbne _ hpart]
  case isFalse h =>
    have hpassed : (s.ch n).pin.passTail = true → s.emuOk n = true → (u.ch n).pin = (s.ch n).pin :=
      fun hpass hok => absurd ⟨hpt.trans hpass, hmode.1.trans hok⟩ h
    obtain ⟨hside, hown, hdl, hlvl, hrest, hone⟩ := a.setLvl_shows n v
    split at heq
    case isTrue hboth =>
      obtain ⟨kside, kown, kdl, klvl, krest, -⟩ := (a.setLvl n v).setLvl_shows (partner n) (!v)
      rw [partner_partner] at krest
      have hdlu : (u.ch n).dl = (b.ch n).dl := by rw [heq, kdl, hdl, hmch]
      refine ⟨?_, ?_, ?_, fun _ => ⟨?_, fun _ => ?_⟩, hpassed, fun hm => ?_, fun m hm hp => ?_, fun hno => ?_⟩
      · rw [heq, hside.trans kside, haframe]
      · rw [hdlu, hbn]
      · rw [hdlu, hbn]
      · rw [heq, klvl n hpart.symm, hown]
      · rw [heq, kown]
      · rw [heq, kside.regs, hside.regs, hmnone hm, hbside]
      · rw [heq, krest m hp hm, hrest m hm hp, hmch, hbne m hm]
      · exact absurd (hboth.symm.trans hno) (by decide)
    case isFalse hboth =>
      have hdlu : (u.ch n).dl = (b.ch n).dl := by rw [heq, hdl, hmch]
      refine ⟨?_, ?_, ?_, fun _ => ⟨?_, fun hyes => absurd hyes hboth⟩, hpassed, fun hm => ?_, fun m hm hp => ?_, fun _ hpair => ?_⟩
      · rw [heq, hside, haframe]
      · rw [hdlu, hbn]
      · rw [hdlu, hbn]
      · rw [heq, hown]
      · rw [heq, hside.regs, hmnone hm, hbside]
      · rw [heq, hrest m hm hp, hmch, hbne m hm]
      · rw [heq, hone (hmode.2.trans hpair) _ hpart, hmch, hbne _ hpart]

end

theorem State.rateOf_advance_etb (s : State) (t n : Nat) : (s.advance t).etb n = s.etb n := (rfl)

theorem edgeFire_shows {s : State} {t n : Nat} {e : PEdge} {r : List PEdge} (hn : n < 1024) (hnow : s.now ≤ t)
    (hpend : (s.ch n).dl.pend = e :: r) (hcal : s.on SPINESTAT.CALDONE = true) (hat : e.at_ ≤ s.fineAt (s.etb n) t)
    (hrate : (s.advance t).rateOf (s.etb n) ≠ 0) {v : Bool} (hv : v = actLvl e.act (s.ch n).pin.lvl) :
    ∃ u, exec (.edgeFire t n) s = .next u ∧ u = { s with now := t, regs := u.regs, chan := u.chan } ∧
      (u.ch n).dl.pend = r ∧ (u.ch n).dl.lastAt = some ((s.advance t).whenTb (s.etb n) e.at_) ∧
      ((s.ch n).pin.passTail = false → (u.ch n).pin.lvl = v ∧ (e.both = true → (u.ch (partner n)).pin.lvl = !v)) ∧
      ((s.ch n).pin.passTail = true → (s.advance t).emuOk n = true → (u.ch n).pin = (s.ch n).pin) ∧
      (e.meas = none → u.regs = s.regs) ∧ (∀ m, m ≠ n → m ≠ partner n → u.ch m = s.ch m) ∧
      (e.both = false → s.paired n = false → u.ch (partner n) = s.ch (partner n)) := by
  have hat' : e.at_ ≤ (s.advance t).etbNow n := by
    rw [State.etbNow, State.fine, State.advance_now_of_le hnow]
    exact hat
  obtain ⟨hframe, hrest⟩ := State.fireEdge_shows (s := s.advance t) hpend hat' hrate hcal hv
  refine ⟨_, s.ran_ok ((s.advance t).fireEdge n) _ (decide_eq_true hn), ?_, hrest⟩
  generalize (s.advance t).fireEdge n = u at *
  rw [hframe]
  exact congrArg (fun x => ({ s with now := x, regs := u.regs, chan := u.chan } : State)) (State.advance_now_of_le hnow)

/-! ### The delay lines (R62 to R66) -/

/-- What an operation on the delay lines of channel `n` leaves alone. -/
def linesKept (s u : State) (n : Nat) : Prop :=
  (∀ m, m ≠ n → u.ch m = s.ch m) ∧ (u.ch n).pin = (s.ch n).pin ∧ (u.ch n).run = (s.ch n).run ∧ u.mem = s.mem ∧ u.eng = s.eng

theorem linesKept.trans {s u v : State} {n : Nat} (h : linesKept s u n) (k : linesKept u v n) : linesKept s v n := by
  obtain ⟨hother, hpin, hrun, hmem, heng⟩ := h
  obtain ⟨kother, kpin, krun, kmem, keng⟩ := k
  exact ⟨fun m hm => (kother m hm).trans (hother m hm), kpin.trans hpin, krun.trans hrun, kmem.trans hmem, keng.trans heng⟩

theorem linesKept.modDl (s : State) (n : Nat) (f : DLine → DLine) : linesKept s (s.modDl n f) n :=
  ⟨fun _ hm => State.modDl_ch_ne _ _ _ _ hm, by rw [State.modDl_ch], by rw [State.modDl_ch], rfl, rfl⟩

theorem linesKept.of_chan {s u : State} {n : Nat} (hch : ∀ m, u.ch m = s.ch m) (hmem : u.mem = s.mem) (heng : u.eng = s.eng) :
    linesKept s u n := ⟨fun m _ => hch m, by rw [hch], by rw [hch], hmem, heng⟩

theorem linesKept.wr (s : State) (n : Nat) (F : RField) (v m i : Nat) : linesKept s (s.wr F v m i) n := .of_chan (fun _ => rfl) rfl rfl
theorem linesKept.inc (s : State) (n : Nat) (F : RField) (k m i : Nat) : linesKept s (s.inc F k m i) n := .of_chan (fun _ => rfl) rfl rfl
theorem linesKept.advance (s : State) (n t : Nat) : linesKept s (s.advance t) n := .of_chan (fun _ => rfl) rfl rfl
theorem linesKept.withQueue (s : State) (n : Nat) (q : List Instr) : linesKept s (s.withQueue q) n := .of_chan (fun _ => rfl) rfl rfl

theorem linesKept.ran {s u : State} {n t : Nat} (h : linesKept (s.advance t) u n) : linesKept s (u.withQueue s.pending) n :=
  ((linesKept.advance s n t).trans h).trans (.withQueue _ _ _)

section
variable {s : State} {t n : Nat}

theorem calMax_of_le {a : Nat} (h : s.calT0 ≤ a) : s.calMax a = a := if_neg (by omega)

theorem State.calAge_congr {s u : State} {n : Nat} (hcal : u.on SPINESTAT.CALDONE = s.on SPINESTAT.CALDONE) (hnow : u.now = s.now)
    (h0 : u.calT0 = s.calT0) (hlive : (u.ch n).dl.liveCal = (s.ch n).dl.liveCal) : u.calAge n = s.calAge n := by
  rw [State.calAge, State.calAge, State.calMax, State.calMax, hcal, hnow, h0, hlive]

/-- DLSTAT.AGED of a calibration of 5,001 µs or more (R63). -/
theorem chView_aged (u : State) (w : Nat) (h : 5001 ≤ u.calAge n) : (u.chView n 0xF04 w).testBit 30 = true := by
  have hview : u.chView n 0xF04 w = putBits (putBits (putBits w 30 1 (b2n (decide (5001 ≤ u.calAge n)))) 29 1
      (b2n (u.ch n).dl.etbHeld.isSome)) 16 4 (u.ch n).dl.pend.length := if_neg (by simp)
  rw [hview, ← bitAt_eq_testBit]
  change (bitsAt _ 30 1 == 1) = true
  rw [bitsAt_putBits_above _ _ _ _ _ _ (by decide), bitsAt_putBits_above _ _ _ _ _ _ (by decide), bitsAt_putBits, decide_eq_true h]
  rfl

theorem calRunDone_books (hn : n < 1024) (hnow : s.now ≤ t) (hcal : s.on SPINESTAT.CALDONE = true)
    (hfrom : s.calT0 ≤ (s.ch n).dl.runFrom) (hdue : (s.ch n).dl.runFrom + us 40 ≤ t) :
    ∃ u, exec (.calRunDone t n) s = .next u ∧ linesKept s u n ∧ u.regs = s.regs ∧
      (u.ch n).dl.calAt = some ((s.ch n).dl.runFrom + us 40) ∧ (u.ch n).dl.runFrom = (s.ch n).dl.runFrom + us 40 ∧
      (u.ch n).dl.pend = (s.ch n).dl.pend := by
  have hmax : (s.advance t).calMax ((s.advance t).ch n).dl.runFrom = (s.ch n).dl.runFrom := calMax_of_le (s := s.advance t) hfrom
  have hdone : (s.advance t).calRunDone n = (s.advance t).modDl n (fun l => { l with
      calAt := some ((s.ch n).dl.runFrom + us 40), runFrom := (s.ch n).dl.runFrom + us 40 }) := by
    rw [State.calRunDone, hmax]
    exact if_pos ⟨hcal, by rw [State.advance_now_of_le hnow]; exact hdue⟩
  refine ⟨_, s.ran_ok ((s.advance t).calRunDone n) _ (decide_eq_true hn), ?_⟩
  rw [hdone]
  refine ⟨(linesKept.modDl _ _ _).ran, rfl, ?_⟩
  rw [State.ch_withQueue, State.modDl_ch]
  exact ⟨rfl, rfl, rfl⟩

theorem dlSwap_swaps {c d : Nat} (hn : n < 1024) (hnow : s.now ≤ t) (hcal : s.on SPINESTAT.CALDONE = true)
    (hdue : (s.ch n).dl.swapDue = some d) (hd : d ≤ t) (hpend : (s.ch n).dl.pend = [])
    (hlast : ∀ a, (s.ch n).dl.lastAt = some a → a + ns 4 ≤ t) (hat : (s.ch n).dl.calAt = some c) (hc : s.calT0 ≤ c) :
    ∃ u, exec (.dlSwap t n) s = .next u ∧ linesKept s u n ∧ u.rd DLSTAT.LIVE n = 1 - s.rd DLSTAT.LIVE n ∧
      u.rd DLSTAT.SWAPS n = (s.rd DLSTAT.SWAPS n + 1) % 2 ^ 16 ∧ (u.ch n).dl.liveCal = c ∧ (u.ch n).dl.calAt = none ∧
      (u.ch n).dl.runFrom = t ∧ (u.ch n).dl.swapDue = some (t + us 250) ∧ ∀ a, a ≠ DLSTAT.WHOLE.adr n 0 → u.reg a = s.reg a := by
  have hok : (s.advance t).swapOk n = true := by
    have hat0 : (s.advance t).swapAt n = d := by rw [State.swapAt, State.ch_advance, hdue]; rfl
    rw [State.swapOk, hat0, State.ch_advance, hpend, hat, State.advance_now_of_le hnow]
    have hall : (s.ch n).dl.lastAt.all (fun a => decide (a + ns 4 ≤ t)) = true := by
      cases h : (s.ch n).dl.lastAt with
      | none => rfl
      | some a => simpa using hlast a h
    have hcal' : (s.advance t).on SPINESTAT.CALDONE = true := hcal
    simp [hcal', hd, hall]
  have hmax : (s.advance t).calMax (((s.advance t).ch n).dl.calAt.getD 0) = c := by
    rw [State.ch_advance, hat]
    exact calMax_of_le (s := s.advance t) hc
  set a := (s.advance t).modDl n (fun l => { l with liveCal := c, calAt := none, runFrom := t, swapDue := some (t + us 250), aged := false })
    with ha
  have hswap : (s.advance t).dlSwap n = (a.wr DLSTAT.LIVE (1 - s.rd DLSTAT.LIVE n) n).inc DLSTAT.SWAPS 1 n := by
    rw [State.dlSwap, if_pos hok, hmax, State.advance_now_of_le hnow]
    rfl
  have hard (F : RField) : a.rd F n = s.rd F n := State.modDl_rd _ _ _ _ _ _
  have hareg (x : Nat) : a.reg x = s.reg x := State.modDl_reg _ _ _ _
  refine ⟨_, s.ran_ok ((s.advance t).dlSwap n) _ (decide_eq_true hn), ?_⟩
  rw [hswap]
  refine ⟨(((linesKept.modDl _ _ _).trans (.wr _ _ _ _ _ _)).trans (.inc _ _ _ _ _ _)).ran, ?_, ?_, ?_, ?_, ?_, ?_, fun x hx => ?_⟩
  · rw [State.withQueue_rd, State.inc, State.wr_rd_other _ _ _ _ _ _ _ _ (by decide) (by decide), State.wr_rd _ _ _ _ _ (by decide)]
    change (1 - s.rd DLSTAT.LIVE n) % 2 = _
    omega
  · rw [State.withQueue_rd, State.inc_rd _ _ _ _ _ (by decide), State.wr_rd_other _ _ _ _ _ _ _ _ (by decide) (by decide), hard]
    rfl
  iterate 4
    · rw [State.ch_withQueue, State.ch_inc, State.ch_wr, ha, State.modDl_ch]
  · rw [State.withQueue_reg, State.inc]
    exact ((State.wr_reg_ne _ DLSTAT.SWAPS _ _ _ _ hx).trans (State.wr_reg_ne _ DLSTAT.LIVE _ _ _ _ hx)).trans (hareg x)

theorem dlctlSwapnow_due {d : Nat} {src : Src} {w : Word} (hn : n < 1024) (hnow : s.now ≤ t) (hsrc : src.ok = true)
    (happ : s.applies src (DLCTL.WHOLE.adr n 0) = true) (hdue : (s.ch n).dl.swapDue = some d) (hd : t < d)
    (hetb : DLCTL.ETB.of w = s.etb n) (hheld : (s.ch n).dl.etbHeld = none) :
    ∃ u, exec (.dlctlSwapnow t src n w) s = .next u ∧ linesKept s u n ∧ (u.ch n).dl.swapDue = some t ∧ u.etb n = s.etb n ∧
      u.on DLCTL.LATEPOL n = w.toNat.testBit 8 ∧ ∀ a, a ≠ DLCTL.WHOLE.adr n 0 → u.reg a = s.reg a := by
  have hex := does_of_applies (i := .dlctlSwapnow t src n w) (t := t) happ rfl (by simp [hsrc, hn])
  have hgo : DLCTL.SWAPNOW.of (w ||| 1) = 1 := RField.of_bit_set rfl (by decide) w
  have hsame : DLCTL.ETB.of (w ||| 1) = DLCTL.ETB.of w := RField.of_or (by decide) w
  have hpol : DLCTL.LATEPOL.of (w ||| 1) = (w.toNat.testBit 8).toNat := by
    rw [RField.of_or (by decide) w]
    exact RField.of_bit rfl w
  set a := (s.advance t).wr DLCTL.LATEPOL (w.toNat.testBit 8).toNat n with ha
  have hetb' : a.etb n = s.etb n := State.wr_rd_other _ _ _ _ _ _ _ _ (by decide) (by decide)
  have hwrite : (s.advance t).dlctlWrite n (w ||| 1) = a.modDl n (fun l => { l with swapDue := some t }) := by
    have hswap : a.swapAt n = d := by
      rw [State.swapAt]
      exact congrArg (Option.getD · _) hdue
    have hnow' : a.now = t := (State.wr_now _ _ _ _ _).trans (State.advance_now_of_le hnow)
    rw [State.dlctlWrite, hpol, hsame, ← ha, hetb', hgo]
    rw [if_pos (⟨hetb, Option.isNone_iff_eq_none.mpr hheld⟩ : _ ∧ (a.ch n).dl.etbHeld.isNone = true), if_pos rfl, hswap, hnow', if_pos hd]
  rw [does, hwrite] at hex
  refine ⟨_, hex, ((linesKept.wr _ _ _ _ _ _).trans (.modDl _ _ _)).ran, ?_, ?_, ?_, fun x hx => ?_⟩
  · rw [State.ch_withQueue, State.modDl_ch]
  · rw [State.etb, State.withQueue_rd, State.modDl_rd]
    exact hetb'
  · rw [State.on_withQueue, State.on, State.modDl_rd, ha, State.wr_rd _ _ _ _ _ (by decide)]
    cases w.toNat.testBit 8 <;> rfl
  · rw [State.withQueue_reg, State.modDl_reg, ha]
    exact State.wr_reg_ne _ DLCTL.LATEPOL _ _ _ _ hx

theorem dlctlEtbApply_takes {v : Nat} (hn : n < 1024) (hpair : s.paired n = false) (hv : v ≤ 17)
    (hheld : (s.ch n).dl.etbHeld = some v) (hpend : (s.ch n).dl.pend = []) :
    ∃ u, exec (.dlctlEtbApply t n) s = .next u ∧ linesKept s u n ∧ u.etb n = v ∧ (u.ch n).dl.etbHeld = none ∧
      ∀ a, a ≠ DLCTL.WHOLE.adr n 0 → u.reg a = s.reg a := by
  have hwrite : (s.advance t).etbWrite n v = ((s.advance t).wr DLCTL.ETB v n).modDl n (fun l => { l with etbHeld := none }) := by
    have hpair' : (s.advance t).paired n = false := hpair
    rw [State.etbWrite, if_neg (by simp [hpair']; omega), hpair']
    exact if_pos (by simp [hpend])
  have hdone : (s.advance t).etbApply n = (s.advance t).etbWrite n v := by
    have hheld' : ((s.advance t).ch n).dl.etbHeld = some v := hheld
    have hpair' : (s.advance t).paired n = false := hpair
    rw [State.etbApply, hheld']
    exact if_neg (by simp [hpair'])
  refine ⟨_, s.ran_ok ((s.advance t).etbApply n) _ (decide_eq_true hn), ?_⟩
  rw [hdone, hwrite]
  refine ⟨((linesKept.wr _ _ _ _ _ _).trans (.modDl _ _ _)).ran, ?_, ?_, fun a ha => ?_⟩
  · rw [State.etb, State.withQueue_rd, State.modDl_rd, State.wr_rd _ _ _ _ _ (by decide)]
    exact Nat.mod_eq_of_lt (Nat.lt_of_le_of_lt hv (by decide))
  · rw [State.ch_withQueue, State.modDl_ch]
  · rw [State.withQueue_reg, State.modDl_reg]
    exact State.wr_reg_ne _ DLCTL.ETB _ _ _ _ ha

theorem calAged_reports (hn : n < 1024) (hnow : s.now ≤ t) (hcal : s.on SPINESTAT.CALDONE = true) (haged : (s.ch n).dl.aged = false)
    (hlive : s.calT0 ≤ (s.ch n).dl.liveCal) (hdue : (s.ch n).dl.liveCal + us 5001 ≤ t) :
    ∃ u, exec (.calAged t n) s = .next u ∧ linesKept s u n ∧ (u.ch n).dl.aged = true ∧
      (u.chView n 0xF04 (u.reg (DLSTAT.WHOLE.adr n 0)).toNat).testBit 30 = true ∧ ∀ a, evReg a = false → u.reg a = s.reg a := by
  have hage : 5001 ≤ (s.advance t).calAge n := by
    have hmax : (s.advance t).calMax ((s.advance t).ch n).dl.liveCal = (s.ch n).dl.liveCal := calMax_of_le (s := s.advance t) hlive
    have hcal' : (s.advance t).on SPINESTAT.CALDONE = true := hcal
    rw [State.calAge, if_pos hcal', hmax, State.advance_now_of_le hnow, satTo]
    have hlong : 5001 ≤ (t - (s.ch n).dl.liveCal) / us 1 := by
      rw [us] at hdue ⊢
      omega
    split
    · decide
    · exact hlong
  set a := (s.advance t).modDl n (fun l => { l with aged := true }) with ha
  have hdone : (s.advance t).calAged n = a.raise 7683 n := by
    rw [State.calAged]
    exact if_pos ⟨hage, by simp [haged]⟩
  have hside := eventSide.raise a 7683 n
  have hreg (x : Nat) (hx : evReg x = false) : (a.raise 7683 n).reg x = s.reg x := by
    rw [State.raise_reg _ _ _ _ hx, ha, State.modDl_reg, State.advance_reg]
  refine ⟨_, s.ran_ok ((s.advance t).calAged n) _ (decide_eq_true hn), ?_⟩
  rw [hdone]
  refine ⟨((linesKept.modDl _ _ _).trans (.of_chan hside.ch hside.mem hside.eng)).ran, ?_, ?_, hreg⟩
  · rw [State.ch_withQueue, hside.ch, ha, State.modDl_ch]
  · refine chView_aged _ _ ?_
    have hsame : ((a.raise 7683 n).withQueue s.pending).calAge n = (s.advance t).calAge n := by
      have hdone : (a.raise 7683 n).on SPINESTAT.CALDONE = (s.advance t).on SPINESTAT.CALDONE := by
        rw [State.on, State.on, State.raise_rd _ _ _ _ _ _ (by decide), ha, State.modDl_rd]
      refine State.calAge_congr ((State.on_withQueue _ _ _ _ _).trans hdone) ?_ ?_ ?_
      · rw [hside]
        rfl
      · rw [hside]
        rfl
      · rw [State.ch_withQueue, hside.ch, ha, State.modDl_ch]
    rw [hsame]
    exact hage

end

/-- Settles O12: the edge that fires, and the delay lines. -/
theorem edgePlacement : Obligations.EdgePlacement := by
  refine ⟨⟨fun t n e r s hn hnow hpend hcal hat hrate => edgeFire_shows hn hnow hpend hcal hat hrate rfl,
    fun t n s hn => s.ran_ok ((s.advance t).fireEdge n) _ (decide_eq_true hn)⟩, fun t n s hn hnow => ?_⟩
  refine ⟨fun hcal hfrom hdue => calRunDone_books hn hnow hcal hfrom hdue,
    fun c d hcal hdue hd hpend hlast hat hc => dlSwap_swaps hn hnow hcal hdue hd hpend hlast hat hc,
    fun d src w hsrc happ hdue hd hetb hheld => dlctlSwapnow_due hn hnow hsrc happ hdue hd hetb hheld,
    fun v hpair hv hheld hpend => dlctlEtbApply_takes hn hpair hv hheld hpend,
    fun hcal haged hlive hdue => calAged_reports hn hnow hcal haged hlive hdue,
    s.ran_ok ((s.advance t).calRunDone n) _ (decide_eq_true hn), s.ran_ok ((s.advance t).dlSwap n) _ (decide_eq_true hn),
    fun src w hsrc happ => does_of_applies (i := .dlctlSwapnow t src n w) happ rfl (by simp [hsrc, hn]),
    s.ran_ok ((s.advance t).etbApply n) _ (decide_eq_true hn), s.ran_ok ((s.advance t).calAged n) _ (decide_eq_true hn)⟩

end Sys2Proof.Machine
end

section
/-! PROOFS. Statements about channels that some state refutes. -/
namespace Sys2Proof.Machine
open Reg

/-- The field of a register after a step, where there is one. -/
def fieldAfter (F : RField) (n : Nat) : Out → Option Nat
  | .next u => some (u.rd F n)
  | _ => none

theorem fieldAfter_next {o : Out} {u : State} {F : RField} {n v : Nat} (hu : o = .next u) (hv : u.rd F n = v) :
    fieldAfter F n o = some v := by rw [hu, fieldAfter, hv]

/-! ### Arming a channel that is DONE (R156, R160)

A write of CHCTL takes CUNIT in every stopped state, DONE included, before it arms the channel. The statement asks that PRD be
long enough in the units of before. -/

/-- Channel 0 is DONE after a one-shot run, with a period of 256 units of two. -/
def State.doneChannel : State :=
  (((((State.reset.wr CHSTAT.STATE 3).wr CHCTL.MODE 2).wr CHCTL.CUNIT 1).wr TRIGCTL.SRC 1).wr PRD.VALUE 256)

/-- Refutes O29: the write of ARM sets CUNIT to 0 as well, the period is then too short, and the channel stays DONE. -/
theorem not_runsStart : ¬ Obligations.RunsStart := by
  rintro ⟨orders, -⟩
  obtain ⟨-, -, -, arm, -⟩ := orders 0 0 (.fn 0) 0 State.doneChannel (by decide) rfl (by decide) (by decide) (by decide) (by decide)
  obtain ⟨u, hu, -, -, hstate⟩ := arm (by decide) (by decide) (.inr (by decide))
  have hafter := fieldAfter_next hu hstate
  exact absurd hafter (by decide)

end Sys2Proof.Machine
end

section
/-! PROOFS. What raising an event reads. -/
namespace Sys2Proof.Machine
open Reg

/-! ### What raising an event reads

The registers of the engines, the channels and the other units of a gondola are apart from it, and so are the units themselves. -/

/-- The registers of the units, from the engines' to the sigma-delta inputs'. -/
def unitReg (a : Nat) : Prop := 0x1000000 ≤ a ∧ a < 0x2800000

/-- `s` and `u` are the same to an event that is raised. -/
structure evLike (s u : State) : Prop where
  now : u.now = s.now
  spine : u.spine = s.spine
  tb : u.tb = s.tb
  fab : u.fab = s.fab
  pw : u.pw = s.pw
  teth : u.teth = s.teth
  tp : u.tp = s.tp
  reg : ∀ a, ¬ unitReg a → u.reg a = s.reg a

namespace evLike
variable {s u v : State}

theorem refl (s : State) : evLike s s := ⟨rfl, rfl, rfl, rfl, rfl, rfl, rfl, fun _ _ => rfl⟩

theorem trans (h : evLike s u) (k : evLike u v) : evLike s v :=
  ⟨k.now.trans h.now, k.spine.trans h.spine, k.tb.trans h.tb, k.fab.trans h.fab, k.pw.trans h.pw, k.teth.trans h.teth,
    k.tp.trans h.tp, fun a ha => (k.reg a ha).trans (h.reg a ha)⟩

theorem symm (h : evLike s u) : evLike u s :=
  ⟨h.now.symm, h.spine.symm, h.tb.symm, h.fab.symm, h.pw.symm, h.teth.symm, h.tp.symm, fun a ha => (h.reg a ha).symm⟩

theorem rd (h : evLike s u) (F : RField) (n i : Nat) (ha : ¬ unitReg (F.adr n i)) : u.rd F n i = s.rd F n i := by
  rw [State.rd, State.rd, h.reg _ ha]

theorem on (h : evLike s u) (F : RField) (n i : Nat) (ha : ¬ unitReg (F.adr n i)) : u.on F n i = s.on F n i := by
  rw [State.on, State.on, h.rd F n i ha]

/-- A register of a unit is written. -/
theorem wr (s : State) (F : RField) (v n i : Nat) (ha : unitReg (F.adr n i)) : evLike s (s.wr F v n i) :=
  ⟨rfl, rfl, rfl, rfl, rfl, rfl, rfl, fun _ hna => State.wr_reg_ne _ _ _ _ _ _ (fun h => hna (h ▸ ha))⟩

theorem cnt (s : State) (F : RField) (k n i : Nat) (ha : unitReg (F.adr n i)) : evLike s (s.cnt F k n i) := .wr s F _ n i ha
theorem inc (s : State) (F : RField) (k n i : Nat) (ha : unitReg (F.adr n i)) : evLike s (s.inc F k n i) := .wr s F _ n i ha

theorem foldl {α : Type} {f : State → α → State} {l : List α} (h : ∀ s, ∀ x ∈ l, evLike s (f s x)) (s : State) : evLike s (l.foldl f s) := by
  induction l generalizing s with
  | nil => exact refl s
  | cons x xs ih =>
    exact (h s x (List.mem_cons_self ..)).trans (ih (fun s y hy => h s y (List.mem_cons_of_mem _ hy)) (f s x))

/-! Raising an event is the same step in both. -/

/-- Two steps in turn that are the same to events in states that are. -/
theorem foldl₂ {α : Type} {f : State → α → State} (hf : ∀ s u x, evLike s u → evLike (f s x) (f u x)) (l : List α) (h : evLike s u) :
    evLike (l.foldl f s) (l.foldl f u) := by
  induction l generalizing s u with
  | nil => exact h
  | cons x xs ih => exact ih (hf s u x h)

theorem wr₂ (h : evLike s u) (F : RField) (v n i : Nat) (ha : ¬ unitReg (F.adr n i)) : evLike (s.wr F v n i) (u.wr F v n i) := by
  refine ⟨h.now, h.spine, h.tb, h.fab, h.pw, h.teth, h.tp, fun a hna => ?_⟩
  by_cases hb : a = F.adr n i
  · rw [hb, State.wr, State.wr, State.setReg_reg, State.setReg_reg, h.reg _ ha]
  · rw [State.wr_reg_ne _ _ _ _ _ _ hb, State.wr_reg_ne _ _ _ _ _ _ hb, h.reg a hna]

theorem cnt₂ (h : evLike s u) (F : RField) (k n i : Nat) (ha : ¬ unitReg (F.adr n i)) : evLike (s.cnt F k n i) (u.cnt F k n i) := by
  rw [State.cnt, State.cnt, h.rd F n i ha]
  exact h.wr₂ F _ n i ha

theorem modRouter₂ (h : evLike s u) (r : Nat) (f : Router → Router) : evLike (s.modRouter r f) (u.modRouter r f) := by
  refine ⟨h.now, h.spine, h.tb, ?_, h.pw, h.teth, h.tp, h.reg⟩
  change ({ u.fab with routers := u.fab.routers.set _ r (f (u.fab.routers.get _ r)) } : Fabric) = _
  rw [h.fab]
  rfl

theorem modTp₂ (h : evLike s u) (p : Nat) (f : TpH → TpH) : evLike (s.modTp p f) (u.modTp p f) := by
  refine ⟨h.now, h.spine, h.tb, h.fab, h.pw, h.teth, ?_, h.reg⟩
  rw [State.modTp, State.modTp, State.tpU, State.tpU, h.tp]

theorem withTeth₂ (h : evLike s u) (x : TethD) : evLike { s with teth := x } { u with teth := x } :=
  ⟨h.now, h.spine, h.tb, h.fab, h.pw, rfl, h.tp, h.reg⟩

theorem withPw₂ (h : evLike s u) (x : PwrH) : evLike { s with pw := x } { u with pw := x } :=
  ⟨h.now, h.spine, h.tb, h.fab, rfl, h.teth, h.tp, h.reg⟩

theorem fineAt (h : evLike s u) (k a : Nat) : u.fineAt k a = s.fineAt k a := by
  rw [State.fineAt, State.fineAt, State.tbVal, State.tbVal, State.tbH, State.tbH, h.spine, h.tb]

theorem fine (h : evLike s u) (k : Nat) : u.fine k = s.fine k := by rw [State.fine, State.fine, h.now, h.fineAt]

theorem tsInt (h : evLike s u) : u.tsInt = s.tsInt := by rw [State.tsInt, State.tsInt, h.fine]
theorem tsPin (h : evLike s u) : u.tsPin = s.tsPin := by rw [State.tsPin, State.tsPin, h.fine]

theorem relReg (F : RField) (i : Nat) (hF : F.blk = .rel) : ¬ unitReg (F.adr 0 i) := by
  simp only [unitReg, RField.adr, hF, blkBase]
  omega

theorem tpReg (F : RField) (p : Nat) (hF : F.blk = .tp) (hp : p < 4) (hs : F.stride = 0) (ho : F.off < 0x100) : ¬ unitReg (F.adr p 0) := by
  simp only [unitReg, RField.adr, hF, blkBase, hs]
  omega

theorem isolated (h : evLike s u) (p : Nat) : u.isolated p = s.isolated p := by
  rw [State.isolated, State.isolated, h.rd _ _ _ (relReg _ _ rfl)]

theorem phys (h : evLike s u) (g : Nat) : u.phys g = s.phys g := by rw [State.phys, State.phys, h.rd _ _ _ (relReg _ _ rfl)]

theorem tpUp (h : evLike s u) {p : Nat} (hp : p < 4) : u.tpUp p = s.tpUp p := by
  rw [State.tpUp, State.tpUp, h.isolated, h.rd _ _ _ (tpReg _ _ rfl hp rfl (by decide))]

theorem tpU (h : evLike s u) (p : Nat) : u.tpU p = s.tpU p := by rw [State.tpU, State.tpU, h.tp]

theorem tRoute (h : evLike s u) (d : Nat) : u.tRoute d = s.tRoute d := by
  rw [State.tRoute, State.tRoute]
  congr 1
  refine List.foldl_ext _ _ _ fun b p hp => ?_
  have hp4 : p < 4 := by have := (upFrom_mem _ _ _).mp hp; omega
  simp only [h.tpUp hp4, h.tpU, h.on _ _ _ (tpReg TPSTAT.PVALID p rfl hp4 rfl (by decide)),
    h.rd _ _ _ (tpReg TPSTAT.PIDX p rfl hp4 rfl (by decide))]

theorem tPush₂ (h : evLike s u) {p : Nat} (hp : p < 4) (m : TMsg) : evLike (s.tPush p m) (u.tPush p m) := by
  rw [State.tPush, State.tPush, h.isolated, h.tpU, h.fine]
  split
  · exact h
  · split
    · exact h.modTp₂ _ _
    · exact (h.cnt₂ _ _ _ _ (tpReg _ _ rfl hp rfl (by decide))).modTp₂ _ _

theorem tRoute_lt {d p : Nat} (h : s.tRoute d = some p) : p < 4 := by
  rw [State.tRoute, Option.map_eq_some_iff] at h
  obtain ⟨⟨k, q⟩, hb, rfl⟩ := h
  have key (l : List Nat) (b : Option (Nat × Nat)) (hl : ∀ p ∈ l, p < 4) (hb0 : ∀ x ∈ b, x.2 < 4) :
      ∀ x ∈ l.foldl (fun b p => if s.tpUp p ∧ s.on Reg.TPSTAT.PVALID p then
        match (distances (s.tpU p).links (s.rd Reg.TPSTAT.PIDX p)).getD d none, b with
        | some (h, _), some (h', q) => if h < h' then some (h, p) else some (h', q)
        | some (h, _), none => some (h, p)
        | none, b => b
        else b) b, x.2 < 4 := by
    induction l generalizing b with
    | nil => exact hb0
    | cons p ps ih =>
      refine ih _ (fun q hq => hl q (List.mem_cons_of_mem _ hq)) ?_
      have hp := hl p (List.mem_cons_self ..)
      intro x hx
      dsimp only at hx
      split at hx
      · split at hx
        · split at hx
          · cases hx
            exact hp
          · cases hx
            exact hb0 _ rfl
        · cases hx
          exact hp
        · exact hb0 x hx
      · exact hb0 x hx
  exact key _ _ (fun p hp => by have := (upFrom_mem _ _ _).mp hp; omega) (fun x hx => by cases hx) _ hb

theorem tSend₂ (h : evLike s u) (d : Nat) (i : TItem) : evLike (s.tSend d i) (u.tSend d i) := by
  have hm : u.rd TSTAT.IDX = s.rd TSTAT.IDX := h.rd _ _ _ (by simp only [unitReg]; decide)
  rw [State.tSend, State.tSend, h.teth, hm]
  dsimp only
  set w : TethD := { s.teth with seq := s.teth.seq + 1 }
  have hw := h.withTeth₂ w
  split
  · have key (l : List Nat) (hl : ∀ p ∈ l, p < 4) (m : TMsg) {a b : State} (hab : evLike a b) :
        evLike (l.foldl (fun s p => if s.tpUp p then s.tPush p m else s) a) (l.foldl (fun s p => if s.tpUp p then s.tPush p m else s) b) := by
      induction l generalizing a b with
      | nil => exact hab
      | cons p ps ih =>
        have hp := hl p (List.mem_cons_self ..)
        refine ih (fun q hq => hl q (List.mem_cons_of_mem _ hq)) ?_
        dsimp only
        rw [hab.tpUp hp]
        split
        · exact hab.tPush₂ hp m
        · exact hab
    exact key _ (fun p hp => by have := (upFrom_mem _ _ _).mp hp; omega) _ hw
  · rw [hw.tRoute]
    split
    case h_1 p hp => exact hw.tPush₂ (tRoute_lt hp) _
    case h_2 => exact hw

theorem exportEv₂ (h : evLike s u) (ev : Ev) : evLike (s.exportEv ev) (u.exportEv ev) := by
  rw [State.exportEv, State.exportEv, h.isolated, h.phys, h.teth]
  split
  · exact h
  · refine foldl₂ (fun s u e h => ?_) _ h
    have hc : u.cascadeTime = s.cascadeTime := by
      rw [State.cascadeTime, State.cascadeTime, h.on _ _ _ (by simp only [unitReg]; decide), h.rd _ _ _ (by simp only [unitReg]; decide),
        h.rd DISCSTAT.STATE _ _ (by simp only [unitReg]; decide)]
    have ht := h.withTeth₂ { s.teth with txSeq := s.teth.txSeq.set (fun _ => 0) e.1 (s.teth.txSeq.get (fun _ => 0) e.1 + 1) }
    dsimp only
    rw [h.teth]
    have hc' : ({ u with teth := { s.teth with txSeq := s.teth.txSeq.set (fun _ => 0) e.1 (s.teth.txSeq.get (fun _ => 0) e.1 + 1) } } : State).cascadeTime =
      ({ s with teth := { s.teth with txSeq := s.teth.txSeq.set (fun _ => 0) e.1 (s.teth.txSeq.get (fun _ => 0) e.1 + 1) } } : State).cascadeTime := hc
    rw [hc']
    exact ht.tSend₂ _ _

theorem router (h : evLike s u) (r : Nat) : u.router r = s.router r := by rw [State.router, State.router, h.fab]

theorem dropEvent₂ (h : evLike s u) (r : Nat) : evLike (s.dropEvent r) (u.dropEvent r) := by
  have hd : ¬ unitReg (EVDROP.COUNT.adr 0 0) := by simp only [unitReg]; decide
  have h1 := (h.cnt₂ EVDROP.COUNT 1 0 0 hd).modRouter₂ r (fun x => { x with dropped := x.dropped + 1 })
  rw [State.dropEvent, State.dropEvent]
  dsimp only
  generalize (s.cnt EVDROP.COUNT 1 0 0).modRouter r _ = a at *
  generalize (u.cnt EVDROP.COUNT 1 0 0).modRouter r _ = b at *
  rw [h1.router, h1.now, h1.tsInt]
  split
  · have h2 := h1.modRouter₂ r (fun x => { x with dropped := 0, reported := some a.now })
    rw [h2.router]
    split
    · exact h2.modRouter₂ _ _
    · exact (h2.cnt₂ _ _ _ _ hd).modRouter₂ _ _
  · exact h1

theorem issue₂ (h : evLike s u) (ev : Ev) : evLike (s.issue ev) (u.issue ev) := by
  have hr (id : Nat) : u.routerOf id = s.routerOf id := by rw [State.routerOf, State.routerOf, h.phys]
  have hp : u.evPort ev = s.evPort ev := by rw [State.evPort, State.evPort, h.phys]
  have hiso : u.isolated = s.isolated := funext h.isolated
  have hl : u.leaves ev = s.leaves ev := by rw [State.leaves, State.leaves, hp, hiso]
  have hen : u.on EFCTL.EN = s.on EFCTL.EN := h.on _ _ _ (by simp only [unitReg]; decide)
  rw [State.issue, State.issue, hr, hl, hen, h.router]
  dsimp only
  generalize (if ev.id < 6144 then (s.router (s.routerOf ev.id)).gated ev.id else some false) = gate
  split
  · exact h
  · split
    · exact h.cnt₂ _ _ _ _ (by simp only [unitReg]; decide)
    · split
      · exact h.dropEvent₂ _
      · split
        · exact (h.modRouter₂ _ _).exportEv₂ _
        · exact h.modRouter₂ _ _

theorem raiseEv₂ (h : evLike s u) (ev : Ev) : evLike (s.raiseEv ev) (u.raiseEv ev) := by
  have hc : u.on SPINESTAT.CALDONE = s.on SPINESTAT.CALDONE := h.on _ _ _ (relReg _ _ rfl)
  rw [State.raiseEv, State.raiseEv, hc, h.pw, h.fab]
  split
  · exact ⟨h.now, h.spine, h.tb, rfl, rfl, h.teth, h.tp, h.reg⟩
  · split
    · rw [State.wakeLog, State.wakeLog, h.pw]
      split
      · exact h.withPw₂ _
      · exact (h.withPw₂ _).cnt₂ _ _ _ _ (by simp only [unitReg]; decide)
    · exact h.issue₂ _

/-- Events that are raised in turn. -/
theorem raised_append {l m : List Ev} (h : evLike (l.foldl (fun x e => x.raiseEv e) s) u) (k : evLike (m.foldl (fun x e => x.raiseEv e) u) v) :
    evLike ((l ++ m).foldl (fun x e => x.raiseEv e) s) v := by
  rw [List.foldl_append]
  exact (foldl₂ (f := fun x e => x.raiseEv e) (fun _ _ _ h => h.raiseEv₂ _) m h).trans k

/-- One more event is raised. -/
theorem raised_raise {l : List Ev} (h : evLike (l.foldl (fun x e => x.raiseEv e) s) u) (ev : Ev) :
    evLike ((l ++ [ev]).foldl (fun x e => x.raiseEv e) s) (u.raiseEv ev) := raised_append h (refl _)

end evLike

theorem raised_of_evLike {s u : State} {t : Nat} {l : List Ev} (h : evLike (l.foldl (fun x e => x.raiseEv e) (s.advance t)) u) :
    raised s u t l := h.fab

end Sys2Proof.Machine
end

section
/-! PROOFS. Pairs of channels (chapter 7): the adaptive dead time and the interlock. -/
namespace Sys2Proof.Machine
open Reg

/-! ### Frames of operations on channels -/

theorem onlyChan.refl (s : State) (n : Nat) : onlyChan s s n := ⟨rfl, fun _ _ => rfl⟩

theorem onlyChan.trans {s u v : State} {n : Nat} (h : onlyChan s u n) (k : onlyChan u v n) : onlyChan s v n := by
  obtain ⟨hframe, hch⟩ := h
  obtain ⟨kframe, kch⟩ := k
  exact ⟨by rw [kframe, hframe], fun m hm => (kch m hm).trans (hch m hm)⟩

theorem onlyChan.modCh (s : State) (n : Nat) (f : Chan → Chan) : onlyChan s (s.modCh n f) n :=
  ⟨rfl, fun m hm => State.modCh_ch_ne s n m f hm⟩
theorem onlyChan.modRun (s : State) (n : Nat) (f : ChRun → ChRun) : onlyChan s (s.modRun n f) n := .modCh _ _ _
theorem onlyChan.modPin (s : State) (n : Nat) (f : ChPin → ChPin) : onlyChan s (s.modPin n f) n := .modCh _ _ _
theorem onlyChan.wr (s : State) (n : Nat) (F : RField) (v m i : Nat) : onlyChan s (s.wr F v m i) n := ⟨rfl, fun _ _ => rfl⟩
theorem onlyChan.cnt (s : State) (n : Nat) (F : RField) (k m i : Nat) : onlyChan s (s.cnt F k m i) n := ⟨rfl, fun _ _ => rfl⟩
theorem onlyChan.inc (s : State) (n : Nat) (F : RField) (k m i : Nat) : onlyChan s (s.inc F k m i) n := ⟨rfl, fun _ _ => rfl⟩

/-- The frame of a command, from that of its operation at the command's instant. -/
theorem onlyChan.ran {s u : State} {n t : Nat} (h : onlyChan (s.advance t) u n) : onlyChan s (u.withQueue s.pending) n := by
  obtain ⟨hframe, hch⟩ := h
  exact ⟨by rw [hframe]; rfl, hch⟩

theorem chanEvents.of_onlyChan {s u : State} {n : Nat} (h : onlyChan s u n) : chanEvents s u n := by
  obtain ⟨hframe, hch⟩ := h
  exact ⟨by rw [hframe], hch⟩

theorem chanEvents.of_eventSide {s u : State} {n : Nat} (h : eventSide s u) : chanEvents s u n :=
  ⟨by rw [h], fun m _ => h.ch m⟩

theorem chanEvents.trans {s u v : State} {n : Nat} (h : chanEvents s u n) (k : chanEvents u v n) : chanEvents s v n := by
  obtain ⟨hframe, hch⟩ := h
  obtain ⟨kframe, kch⟩ := k
  exact ⟨by rw [kframe, hframe], fun m hm => (kch m hm).trans (hch m hm)⟩

theorem chanEvents.ran {s u : State} {n t : Nat} (h : chanEvents (s.advance t) u n) : chanEvents s (u.withQueue s.pending) n := by
  obtain ⟨hframe, hch⟩ := h
  exact ⟨by rw [hframe]; rfl, hch⟩

theorem regsKept.refl (s : State) (l : List Nat) : regsKept s s l := fun _ _ => rfl
theorem regsKept.trans {s u v : State} {l : List Nat} (h : regsKept s u l) (k : regsKept u v l) : regsKept s v l :=
  fun a ha => (k a ha).trans (h a ha)
theorem regsKept.of_regs {s u : State} {l : List Nat} (h : u.regs = s.regs) : regsKept s u l :=
  fun a _ => State.reg_of_regs _ _ a h
theorem regsKept.wr {l : List Nat} (s : State) (F : RField) (v n i : Nat) (h : F.adr n i ∈ l) : regsKept s (s.wr F v n i) l :=
  fun _ ha => State.wr_reg_ne _ _ _ _ _ _ (fun e => ha (e ▸ h))
theorem regsKept.cnt {l : List Nat} (s : State) (F : RField) (k n i : Nat) (h : F.adr n i ∈ l) : regsKept s (s.cnt F k n i) l := .wr _ _ _ _ _ h
theorem regsKept.inc {l : List Nat} (s : State) (F : RField) (k n i : Nat) (h : F.adr n i ∈ l) : regsKept s (s.inc F k n i) l := .wr _ _ _ _ _ h

theorem regsKept.ran {s u : State} {t : Nat} {l : List Nat} (h : regsKept (s.advance t) u l) : regsKept s (u.withQueue s.pending) l :=
  fun a ha => (State.withQueue_reg u s.pending a).trans (h a ha)

theorem regsKeptEv.refl (s : State) (l : List Nat) : regsKeptEv s s l := fun _ _ _ => rfl
theorem regsKeptEv.trans {s u v : State} {l : List Nat} (h : regsKeptEv s u l) (k : regsKeptEv u v l) : regsKeptEv s v l :=
  fun a ha he => (k a ha he).trans (h a ha he)
theorem regsKeptEv.of_kept {s u : State} {l : List Nat} (h : regsKept s u l) : regsKeptEv s u l := fun a ha _ => h a ha
theorem regsKeptEv.raiseEv (s : State) (ev : Ev) (l : List Nat) : regsKeptEv s (s.raiseEv ev) l := fun a _ he => s.raiseEv_reg ev a he
theorem regsKeptEv.raise (s : State) (id d : Nat) (l : List Nat) : regsKeptEv s (s.raise id d) l := .raiseEv _ _ _

theorem regsKeptEv.ran {s u : State} {t : Nat} {l : List Nat} (h : regsKeptEv (s.advance t) u l) : regsKeptEv s (u.withQueue s.pending) l :=
  fun a ha he => (State.withQueue_reg u s.pending a).trans (h a ha he)

theorem evLike.withQueue (s : State) (q : List Instr) : evLike s (s.withQueue q) := ⟨rfl, rfl, rfl, rfl, rfl, rfl, rfl, fun _ _ => rfl⟩
theorem evLike.modCh (s : State) (n : Nat) (f : Chan → Chan) : evLike s (s.modCh n f) := ⟨rfl, rfl, rfl, rfl, rfl, rfl, rfl, fun _ _ => rfl⟩
theorem evLike.modPin (s : State) (n : Nat) (f : ChPin → ChPin) : evLike s (s.modPin n f) := .modCh _ _ _

/-- A register of a channel is one of a unit. -/
theorem unitReg_ch {F : RField} {n : Nat} (hF : F.blk = .ch) (hs : F.stride = 0) (ho : F.off < 0x1000) (hn : n < 1024) : unitReg (F.adr n 0) := by
  simp only [unitReg, RField.adr, hF, hs, blkBase]
  omega

theorem evReg_ch {F : RField} {n : Nat} (hF : F.blk = .ch) : evReg (F.adr n 0) = false :=
  evReg_of_engine (by simp only [RField.adr, hF, blkBase]; omega)

theorem State.modRun_ch (s : State) (n : Nat) (f : ChRun → ChRun) : (s.modRun n f).ch n = { s.ch n with run := f (s.ch n).run } :=
  State.modCh_ch _ _ _
theorem State.modPin_ch (s : State) (n : Nat) (f : ChPin → ChPin) : (s.modPin n f).ch n = { s.ch n with pin := f (s.ch n).pin } :=
  State.modCh_ch _ _ _

@[simp] theorem State.fineAt_advance (s : State) (t k a : Nat) : (s.advance t).fineAt k a = s.fineAt k a := (rfl)
@[simp] theorem State.ilkHold_advance (s : State) (t n : Nat) : (s.advance t).ilkHold n = s.ilkHold n := (rfl)
@[simp] theorem State.stage5_withQueue (s : State) (q : List Instr) (n : Nat) : (s.withQueue q).stage5 n = s.stage5 n := (rfl)
@[simp] theorem State.lvl3_advance (s : State) (t n : Nat) : (s.advance t).lvl3 n = s.lvl3 n := (rfl)
@[simp] theorem State.ch_cnt (s : State) (F : RField) (k n i m : Nat) : (s.cnt F k n i).ch m = s.ch m := (rfl)

/-! ### The adaptive dead time (R186) -/

section
variable {s : State} {n : Nat} {w : DtWait}

/-- The turn-on that waits, with nothing planned that would stand against it. -/
theorem State.turnOn_plans (at_ : Nat) (hshape : (s.ch n).run.shape = []) (hnxt : (s.ch n).run.nxt = none) :
    onlyChan s (s.turnOn n w at_) n ∧ (s.turnOn n w at_).regs = s.regs ∧
      (s.turnOn n w at_).ch n = { s.ch n with run := { (s.ch n).run with
        wait := none, plan := (s.ch n).run.plan ++ [⟨s.runNow n, (at_ : Int) - s.now, 2, w.low, false, some w.off⟩] } } := by
  set a := s.modRun n (fun r => { r with wait := none }) with ha
  have hrun : a.ch n = { s.ch n with run := { (s.ch n).run with wait := none } } := State.modRun_ch _ _ _
  have heq : s.turnOn n w at_ = a.modRun n (fun r => { r with
      plan := r.plan ++ [⟨a.runNow n, (at_ : Int) - a.now, 2, w.low, false, some w.off⟩] }) := by
    rw [State.turnOn, ← ha, hrun]
    simp only [hshape, hnxt]
    rfl
  have hnow : a.runNow n = s.runNow n := by
    rw [State.runNow, State.runNow, hrun]
    rfl
  rw [heq, hnow]
  refine ⟨(onlyChan.modRun _ _ _).trans (.modRun _ _ _), rfl, ?_⟩
  rw [State.modRun_ch, hrun]
  rfl

theorem State.dtSet_adaptive (hpair : s.paired n = true) (hmode : s.rd PWMCTL.DTMODE n = 3) :
    s.dtSet n (s.rd ACTDTIME.DTR n + 65536 * s.rd ACTDTIME.DTF n) =
      (3, s.rd ACTDTIME.DTR n, if s.rd ACTDTIME.DTF n < s.rd ACTDTIME.DTR n then s.rd ACTDTIME.DTR n else s.rd ACTDTIME.DTF n,
        ns (s.rd PWMCTL.MINPW n)) := by
  have hdtr : (s.rd ACTDTIME.DTR n + 65536 * s.rd ACTDTIME.DTF n) % 65536 = s.rd ACTDTIME.DTR n := by
    have := s.rd_lt ACTDTIME.DTR n 0
    simp only [show ACTDTIME.DTR.len = 16 from rfl] at this
    omega
  have hdtf : (s.rd ACTDTIME.DTR n + 65536 * s.rd ACTDTIME.DTF n) / 65536 = s.rd ACTDTIME.DTF n := by
    have := s.rd_lt ACTDTIME.DTR n 0
    simp only [show ACTDTIME.DTR.len = 16 from rfl] at this
    omega
  rw [State.dtSet, hdtr, hdtf, hpair, hmode]
  simp

end

section
variable {s : State} {t n : Nat} {w : DtWait}

theorem switchNodeSense_plans {b : Nat} (hn : n < 1024) (hnow : s.now ≤ t) (hpair : s.paired n = true) (hmode : s.rd PWMCTL.DTMODE n = 3)
    (hwait : (s.ch n).run.wait = some w) (hshape : (s.ch n).run.shape = []) (hnxt : (s.ch n).run.nxt = none)
    (hrail : (s.advance t).atFarRail n w.low = true) (hnode : (s.advance t).nodeAt n = some b) {dtr dtf x on_ : Nat}
    (hdtr : dtr = s.rd ACTDTIME.DTR n) (hdtf : dtf = if s.rd ACTDTIME.DTF n < dtr then dtr else s.rd ACTDTIME.DTF n)
    (hx : x = (if b < w.off then w.off else b) + ns (s.rd ADTCTL.GUARD n)) (hon : on_ = if x < w.off + dtr then w.off + dtr else x)
    (hsoon : on_ < w.off + dtf) :
    ∃ u, exec (.switchNodeSense t n) s = .next u ∧ onlyChan s u n ∧ u.regs = s.regs ∧
      u.ch n = { s.ch n with run := { (s.ch n).run with
        wait := none, plan := (s.ch n).run.plan ++ [⟨(s.advance t).runNow n, (on_ : Int) - t, 2, w.low, false, some w.off⟩] } } := by
  have hset : (s.advance t).dtSet n ((s.advance t).rd ACTDTIME.DTR n + 65536 * (s.advance t).rd ACTDTIME.DTF n) =
      (3, dtr, dtf, ns (s.rd PWMCTL.MINPW n)) := by
    rw [hdtf, hdtr]
    exact State.dtSet_adaptive (s := s.advance t) hpair hmode
  have hplan : (s.advance t).nodeSense n = (s.advance t).turnOn n w on_ := by
    have hwait' : ((s.advance t).ch n).run.wait = some w := hwait
    have hx' : (if b < w.off then w.off else b) + ns ((s.advance t).rd ADTCTL.GUARD n) = x := hx.symm
    rw [State.nodeSense, hwait', hnode]
    dsimp only
    rw [if_pos hrail, State.senseOn, hset]
    dsimp only
    rw [hx', ← hon, if_neg (by omega)]
  obtain ⟨honly, hregs, hch⟩ := State.turnOn_plans (s := s.advance t) (w := w) on_ hshape hnxt
  refine ⟨_, s.ran_ok ((s.advance t).nodeSense n) _ (decide_eq_true hn), ?_⟩
  rw [hplan]
  refine ⟨honly.ran, hregs, ?_⟩
  rw [State.ch_withQueue, hch, State.advance_now_of_le hnow]
  rfl

theorem dtmaxExpiry_plans (hn : n < 1024) (hnow : s.now ≤ t) (hpair : s.paired n = true) (hmode : s.rd PWMCTL.DTMODE n = 3)
    (hwait : (s.ch n).run.wait = some w) (hshape : (s.ch n).run.shape = []) (hnxt : (s.ch n).run.nxt = none) {dtr dtf : Nat}
    (hdtr : dtr = s.rd ACTDTIME.DTR n) (hdtf : dtf = if s.rd ACTDTIME.DTF n < dtr then dtr else s.rd ACTDTIME.DTF n)
    (hdue : w.off + dtf ≤ t) :
    ∃ u, exec (.dtmaxExpiry t n) s = .next u ∧ onlyChan s u n ∧ regsKept s u [DTMAXCNT.WHOLE.adr n 0] ∧
      u.rd DTMAXCNT.COUNT n = satTo 0xFFFFFFFF (s.rd DTMAXCNT.COUNT n + 1) ∧
      u.ch n = { s.ch n with run := { (s.ch n).run with
        wait := none, plan := (s.ch n).run.plan ++ [⟨(s.advance t).runNow n, 0, 2, w.low, false, some w.off⟩] } } := by
  have hset : (s.advance t).dtSet n ((s.advance t).rd ACTDTIME.DTR n + 65536 * (s.advance t).rd ACTDTIME.DTF n) =
      (3, dtr, dtf, ns (s.rd PWMCTL.MINPW n)) := by
    rw [hdtf, hdtr]
    exact State.dtSet_adaptive (s := s.advance t) hpair hmode
  have hplan : (s.advance t).dtMax n = ((s.advance t).turnOn n w t).cnt DTMAXCNT.COUNT 1 n := by
    have hwait' : ((s.advance t).ch n).run.wait = some w := hwait
    rw [State.dtMax, hset, hwait']
    dsimp only
    rw [State.advance_now_of_le hnow, if_pos hdue]
  obtain ⟨honly, hregs, hch⟩ := State.turnOn_plans (s := s.advance t) (w := w) t hshape hnxt
  refine ⟨_, s.ran_ok ((s.advance t).dtMax n) _ (decide_eq_true hn), ?_⟩
  rw [hplan]
  refine ⟨(honly.trans (.cnt _ _ _ _ _ _)).ran, ?_, ?_, ?_⟩
  · exact ((regsKept.of_regs hregs).trans (.cnt _ DTMAXCNT.COUNT 1 n 0 (List.mem_singleton.mpr rfl))).ran
  · rw [State.withQueue_rd, State.cnt_rd _ _ _ _ _ (by decide), State.rd_of_regs _ _ _ _ _ hregs]
    rfl
  · rw [State.ch_withQueue, State.ch_cnt, hch, State.advance_now_of_le hnow, sub_self]
    rfl

end

/-! ### The interlock (R191, R192) -/

/-- The pair after two levels of 1, before the event is reported. -/
def State.interlocked (s : State) (n : Nat) : State :=
  (((s.modPin n (fun p => { p with
    hOff := true, lOff := true, ilkUntil := some (s.now + s.ilkHold n),
    ilkLast := if (s.ch n).pin.l3At = (s.ch (n + 1)).pin.l3At then none else some (decide ((s.ch n).pin.l3At < (s.ch (n + 1)).pin.l3At)),
    ilkAt := (s.now :: p.ilkAt).take 16 })).wr PWMSTAT.SHOOT 1 n).inc SHOOTCNT.TOTAL 1 n)

/-- The pair trips (R192). -/
def State.pairTripped (s : State) (n : Nat) : State := (s.wr TRIPSTAT.PAIRTRIP 1 n).wr TRIPSTAT.PAIRTRIP 1 (n + 1)

section
variable {s u : State} {n : Nat}

theorem State.shootWin_congr (hnow : u.now = s.now) (hat : (u.ch n).pin.ilkAt = (s.ch n).pin.ilkAt) : u.shootWin n = s.shootWin n := by
  rw [State.shootWin, State.shootWin, hnow, hat]

theorem eventSide.now (h : eventSide s u) : u.now = s.now := by rw [h]
theorem eventSide.spine (h : eventSide s u) : u.spine = s.spine := by rw [h]
theorem eventSide.tb (h : eventSide s u) : u.tb = s.tb := by rw [h]
theorem eventSide.fineAt (h : eventSide s u) (k a : Nat) : u.fineAt k a = s.fineAt k a := by
  rw [State.fineAt, State.fineAt, State.tbVal, State.tbVal, State.tbH, State.tbH, h.spine, h.tb]

theorem State.interlock_fires (heven : n % 2 = 0) (hpair : s.paired n = true) (hhigh : s.lvl3 n = true) (hlow : s.lvl3 (n + 1) = true)
    (hfree : ((s.ch n).pin.hOff && (s.ch n).pin.lOff) = false) {w v : State} (hw : w = s.interlocked n)
    (hv : v = w.chFault n 0x21 (w.shootWin n)) :
    s.interlock n = if w.shootWin n < 16 then v
      else ((v.pairTripped n).chFault n 0x22).raise 7777 (n / 8 * 2 ^ 16 + n % 8 / 2) := by
  have hsame : v.shootWin n = w.shootWin n := by
    have hside : eventSide w v := by
      rw [hv]
      exact .raiseAt _ _ _ _
    exact State.shootWin_congr hside.now (by rw [hside.ch])
  rw [← hsame, hv, hw, State.interlock]
  exact if_neg (by
    rintro (h | h | h | h | ⟨h, k⟩)
    · omega
    · exact h hpair
    · exact h hhigh
    · exact h hlow
    · simp [h, k] at hfree)

theorem State.interlocked_pin (s : State) (n : Nat) : ((s.interlocked n).ch n).pin = { (s.ch n).pin with
    hOff := true, lOff := true, ilkUntil := some (s.now + s.ilkHold n),
    ilkLast := if (s.ch n).pin.l3At = (s.ch (n + 1)).pin.l3At then none else some (decide ((s.ch n).pin.l3At < (s.ch (n + 1)).pin.l3At)),
    ilkAt := (s.now :: (s.ch n).pin.ilkAt).take 16 } := by
  rw [State.interlocked, State.ch_inc, State.ch_wr, State.modPin_pin]

theorem State.interlocked_shows (s : State) (hn : n < 1024) :
    onlyChan s (s.interlocked n) n ∧ evLike s (s.interlocked n) ∧
      regsKept s (s.interlocked n) [PWMSTAT.WHOLE.adr n 0, SHOOTCNT.WHOLE.adr n 0] ∧ (s.interlocked n).rd PWMSTAT.SHOOT n = 1 ∧
      (s.interlocked n).rd SHOOTCNT.TOTAL n = (s.rd SHOOTCNT.TOTAL n + 1) % 2 ^ 16 := by
  rw [State.interlocked]
  set a := s.modPin n _ with ha
  have hcnt : SHOOTCNT.TOTAL.adr n 0 ≠ PWMSTAT.SHOOT.adr n 0 := chField_ne rfl rfl rfl rfl (by decide) (by decide) (by decide)
  refine ⟨((onlyChan.modPin _ _ _).trans (.wr _ _ _ _ _ _)).trans (.inc _ _ _ _ _ _), ?_, ?_, ?_, ?_⟩
  · exact ((evLike.modPin _ _ _).trans (.wr _ _ _ _ _ (unitReg_ch rfl rfl (by decide) hn))).trans
      (.inc _ _ _ _ _ (unitReg_ch rfl rfl (by decide) hn))
  · exact ((regsKept.of_regs (s := s) (u := a) rfl).trans (.wr _ PWMSTAT.SHOOT 1 n 0 (List.mem_cons_self ..))).trans
      (.inc _ SHOOTCNT.TOTAL 1 n 0 (List.mem_cons_of_mem _ (List.mem_cons_self ..)))
  · rw [State.inc, State.wr_rd_ne _ _ _ _ _ _ _ _ hcnt.symm, State.wr_rd _ _ _ _ _ (by decide)]
    rfl
  · rw [State.inc_rd _ _ _ _ _ (by decide), State.wr_rd_ne _ _ _ _ _ _ _ _ hcnt]
    rfl

/-- How many events lie within the window of 1,000 µs, the present one among them. -/
theorem State.interlocked_shootWin (s : State) (n : Nat) : (s.interlocked n).shootWin n =
    satTo 16 ((((s.ch n).pin.ilkAt.take 15).filter (fun x => decide (s.now ≤ x + ms 1))).length + 1) := by
  have hnow : (s.interlocked n).now = s.now := by rw [State.interlocked, State.inc, State.wr_now, State.wr_now, State.modPin, State.modCh_now]
  rw [State.shootWin, State.interlocked_pin, hnow]
  generalize ms 1 = k
  rw [List.take_succ_cons, List.filter_cons_of_pos (by simp), List.length_cons]

/-- A switch of a pair that is held off is not driven high (R191). -/
theorem State.stage5_held (hpair : s.paired n = true)
    (hoff : (if n % 2 = 0 then (s.ch (n / 2 * 2)).pin.hOff else (s.ch (n / 2 * 2)).pin.lOff) = true) : s.stage5 n ≠ .high := by
  rw [State.stage5, hpair, hoff]
  split
  · simp
  · split
    · simp
    · simp

theorem State.stage5_pairTrip (h : s.rd TRIPSTAT.PAIRTRIP n = 1) : s.stage5 n = .z := by
  have hon : s.on TRIPSTAT.PAIRTRIP n = true := by
    rw [State.on, h]
    rfl
  rw [State.stage5, hon]
  exact if_pos (by simp)

/-- What a pair is shows alike in states with the same PWMCTL. -/
theorem regsKeptEv.paired {l : List Nat} (h : regsKeptEv s u l) (hl : PWMCTL.PAIR.adr (n / 2 * 2) 0 ∉ l) : u.paired n = s.paired n := by
  rw [State.paired, State.paired, State.on, State.on, State.rd, State.rd, h _ hl (evReg_ch rfl)]

end

section
variable {s : State} {t n : Nat}

theorem PWMCTL_apart {a k m : Nat} (h : a = PWMSTAT.WHOLE.adr k 0 ∨ a = SHOOTCNT.WHOLE.adr k 0 ∨ a = TRIPSTAT.WHOLE.adr k 0) :
    PWMCTL.PAIR.adr m 0 ≠ a := by
  rcases h with rfl | rfl | rfl <;> exact chField_ne rfl rfl rfl rfl (by decide) (by decide) (by decide)

/-- Both switches of a pair that the interlock holds are off. -/
theorem State.interlocked_off {u : State} (heven : n % 2 = 0) (hpair : u.paired n = true) (hh : (u.ch n).pin.hOff = true)
    (hl : (u.ch n).pin.lOff = true) : u.stage5 n ≠ .high ∧ u.stage5 (n + 1) ≠ .high := by
  have hself : n / 2 * 2 = n := by omega
  have hnext : (n + 1) / 2 * 2 = n := by omega
  refine ⟨State.stage5_held hpair ?_, State.stage5_held ?_ ?_⟩
  · rw [if_pos heven, hself, hh]
  · rw [State.paired, hnext, ← hself]
    exact hpair
  · rw [if_neg (by omega), hnext, hl]

/-- The pair with the interlock's hold on it, once the event is reported. -/
theorem interlocked_reported (hn : n < 1023) (heven : n % 2 = 0) (hnow : s.now ≤ t) (hpair : s.paired n = true) (hhigh : s.lvl3 n = true)
    (hlow : s.lvl3 (n + 1) = true) (hfree : ((s.ch n).pin.hOff && (s.ch n).pin.lOff) = false) {k : Nat}
    (hk : k = satTo 16 ((((s.ch n).pin.ilkAt.take 15).filter (fun x => decide (t ≤ x + ms 1))).length + 1)) :
    ∃ v, (s.advance t).interlock n = (if k < 16 then v
        else ((v.pairTripped n).chFault n 0x22).raise 7777 (n / 8 * 2 ^ 16 + n % 8 / 2)) ∧
      chanEvents (s.advance t) v n ∧ regsKeptEv (s.advance t) v [PWMSTAT.WHOLE.adr n 0, SHOOTCNT.WHOLE.adr n 0] ∧
      v.rd PWMSTAT.SHOOT n = 1 ∧ v.rd SHOOTCNT.TOTAL n = (s.rd SHOOTCNT.TOTAL n + 1) % 2 ^ 16 ∧ v.paired n = true ∧
      ((v.ch n).pin.hOff = true ∧ (v.ch n).pin.lOff = true ∧ (v.ch n).pin.ilkUntil = some (t + s.ilkHold n)) ∧ v.shootWin n = k ∧
      evLike ((s.advance t).raiseEv ⟨6 * n + 5, s.fineAt 0 t, 0x21 * 2 ^ 24 + k, false, false⟩) v ∧
      v.now = t ∧ ∀ a, v.fineAt 0 a = s.fineAt 0 a := by
  have hat : (s.advance t).now = t := State.advance_now_of_le hnow
  obtain ⟨honly, hlike, hkept, hshoot, htotal⟩ := (s.advance t).interlocked_shows (n := n) (by omega)
  have hpin := (s.advance t).interlocked_pin n
  have hwin := (s.advance t).interlocked_shootWin n
  have hfires := State.interlock_fires (s := s.advance t) heven hpair hhigh hlow hfree rfl rfl
  rw [hat, State.ch_advance, ← hk] at hwin
  rw [hat] at hpin
  rw [hwin] at hfires
  set w := (s.advance t).interlocked n with hw
  have hts : w.tsPin = s.fineAt 0 t := by
    rw [hlike.tsPin, State.tsPin, State.fine, hat, State.fineAt_advance]
  have hchf : w.chFault n 0x21 k = w.raiseEv ⟨6 * n + 5, s.fineAt 0 t, 0x21 * 2 ^ 24 + k, false, false⟩ := by
    rw [State.chFault, State.faultAt, hts, State.raiseAt]
  set v := w.raiseEv ⟨6 * n + 5, s.fineAt 0 t, 0x21 * 2 ^ 24 + k, false, false⟩ with hv
  have hside : eventSide w v := .raiseEv _ _
  have hreg {F : RField} (hF : F.blk = .ch) : v.rd F n = w.rd F n := State.raiseAt_rd _ _ _ _ _ _ _ (evReg_ch hF)
  have hkeptv : regsKeptEv (s.advance t) v [PWMSTAT.WHOLE.adr n 0, SHOOTCNT.WHOLE.adr n 0] := (regsKeptEv.of_kept hkept).trans (.raiseEv _ _ _)
  have hvlike : evLike ((s.advance t).raiseEv ⟨6 * n + 5, s.fineAt 0 t, 0x21 * 2 ^ 24 + k, false, false⟩) v := hlike.raiseEv₂ _
  rw [hchf] at hfires
  refine ⟨v, hfires, (chanEvents.of_onlyChan honly).trans (.of_eventSide hside), hkeptv, ?_, ?_, ?_, ?_, ?_, hvlike, ?_, fun a => ?_⟩
  · rw [hreg rfl, hshoot]
  · rw [hreg rfl, htotal, State.advance_rd]
  · rw [hkeptv.paired]
    · exact hpair
    · intro h
      rcases List.mem_cons.mp h with h | h
      · exact PWMCTL_apart (.inl rfl) h
      · exact PWMCTL_apart (.inr (.inl rfl)) (List.mem_singleton.mp h)
  · rw [hside.ch, hpin, State.ilkHold_advance]
    exact ⟨rfl, rfl, rfl⟩
  · rw [← hwin]
    exact State.shootWin_congr hside.now (by rw [hside.ch])
  · rw [hside.now, hlike.now, hat]
  · rw [hvlike.fineAt, eventSide.fineAt (.raiseEv _ _), State.fineAt_advance]

theorem interlockBothOn_holds (hn : n < 1023) (heven : n % 2 = 0) (hnow : s.now ≤ t) (hpair : s.paired n = true) (hhigh : s.lvl3 n = true)
    (hlow : s.lvl3 (n + 1) = true) (hfree : ((s.ch n).pin.hOff && (s.ch n).pin.lOff) = false)
    (hfew : (((s.ch n).pin.ilkAt.take 15).filter (fun x => decide (t ≤ x + ms 1))).length < 15) :
    ∃ u, exec (.interlockBothOn t n) s = .next u ∧ chanEvents s u n ∧
      regsKeptEv s u [PWMSTAT.WHOLE.adr n 0, SHOOTCNT.WHOLE.adr n 0] ∧ u.rd PWMSTAT.SHOOT n = 1 ∧
      u.rd SHOOTCNT.TOTAL n = (s.rd SHOOTCNT.TOTAL n + 1) % 2 ^ 16 ∧ (u.ch n).pin.hOff = true ∧ (u.ch n).pin.lOff = true ∧
      (u.ch n).pin.ilkUntil = some (t + s.ilkHold n) ∧ u.stage5 n ≠ .high ∧ u.stage5 (n + 1) ≠ .high ∧
      raised s u t [⟨6 * n + 5, s.fineAt 0 t, 0x21 * 2 ^ 24 + u.shootWin n, false, false⟩] := by
  obtain ⟨v, hfires, hevents, hkept, hshoot, htotal, hvpair, ⟨hh, hl, hu⟩, hwin, hlike, -, -⟩ :=
    interlocked_reported hn heven hnow hpair hhigh hlow hfree rfl
  generalize (((s.ch n).pin.ilkAt.take 15).filter (fun x => decide (t ≤ x + ms 1))).length = k at *
  rw [if_pos (by rw [satTo]; split <;> omega)] at hfires
  obtain ⟨hoff, hoff'⟩ := State.interlocked_off heven hvpair hh hl
  refine ⟨_, s.ran_ok ((s.advance t).interlock n) _ (decide_eq_true (by omega)), ?_⟩
  rw [hfires]
  refine ⟨hevents.ran, hkept.ran, ?_, ?_, ?_, ?_, ?_, ?_, ?_, ?_⟩
  iterate 2
    · rw [State.withQueue_rd]
      assumption
  iterate 3
    · rw [State.ch_withQueue]
      assumption
  iterate 2
    · rw [State.stage5_withQueue]
      assumption
  · rw [State.shootWin_congr (s := v) (State.withQueue_now _ _) (by rw [State.ch_withQueue]), hwin]
    exact raised_of_evLike (hlike.trans (.withQueue _ _))

/-- The 16th event within 1,000 µs. -/
theorem interlockBothOn_trips (hn : n < 1023) (heven : n % 2 = 0) (hnow : s.now ≤ t) (hpair : s.paired n = true) (hhigh : s.lvl3 n = true)
    (hlow : s.lvl3 (n + 1) = true) (hfree : ((s.ch n).pin.hOff && (s.ch n).pin.lOff) = false)
    (hmany : (((s.ch n).pin.ilkAt.take 15).filter (fun x => decide (t ≤ x + ms 1))).length = 15) :
    ∃ u, exec (.interlockBothOn t n) s = .next u ∧ chanEvents s u n ∧
      regsKeptEv s u [PWMSTAT.WHOLE.adr n 0, SHOOTCNT.WHOLE.adr n 0, TRIPSTAT.WHOLE.adr n 0, TRIPSTAT.WHOLE.adr (n + 1) 0] ∧
      u.rd TRIPSTAT.PAIRTRIP n = 1 ∧ u.rd TRIPSTAT.PAIRTRIP (n + 1) = 1 ∧ u.stage5 n = .z ∧ u.stage5 (n + 1) = .z ∧
      raised s u t [⟨6 * n + 5, s.fineAt 0 t, 0x21 * 2 ^ 24 + 16, false, false⟩, ⟨6 * n + 5, s.fineAt 0 t, 0x22 * 2 ^ 24, false, false⟩,
        ⟨7777, s.fineAt 0 t / 64 * 64, n / 8 * 2 ^ 16 + n % 8 / 2, false, false⟩] := by
  obtain ⟨v, hfires, hevents, hkept, -, -, -, -, -, hlike, hvnow, hfine⟩ := interlocked_reported hn heven hnow hpair hhigh hlow hfree rfl
  rw [hmany] at hfires hlike
  rw [if_neg (by decide)] at hfires
  have htrip : evLike v (v.pairTripped n) :=
    (evLike.wr v TRIPSTAT.PAIRTRIP 1 n 0 (unitReg_ch rfl rfl (by decide) (by omega))).trans
      (.wr _ TRIPSTAT.PAIRTRIP 1 (n + 1) 0 (unitReg_ch rfl rfl (by decide) (by omega)))
  have htkept : regsKept v (v.pairTripped n) [PWMSTAT.WHOLE.adr n 0, SHOOTCNT.WHOLE.adr n 0, TRIPSTAT.WHOLE.adr n 0, TRIPSTAT.WHOLE.adr (n + 1) 0] :=
    (regsKept.wr v TRIPSTAT.PAIRTRIP 1 n 0 (by simp [RField.adr, TRIPSTAT.PAIRTRIP, TRIPSTAT.WHOLE])).trans
      (.wr _ TRIPSTAT.PAIRTRIP 1 (n + 1) 0 (by simp [RField.adr, TRIPSTAT.PAIRTRIP, TRIPSTAT.WHOLE]))
  have hside : onlyChan v (v.pairTripped n) n := (onlyChan.wr v n TRIPSTAT.PAIRTRIP 1 n 0).trans (.wr _ n TRIPSTAT.PAIRTRIP 1 (n + 1) 0)
  have hown : (v.pairTripped n).rd TRIPSTAT.PAIRTRIP n = 1 ∧ (v.pairTripped n).rd TRIPSTAT.PAIRTRIP (n + 1) = 1 := by
    rw [State.pairTripped]
    refine ⟨?_, State.wr_rd _ _ _ _ _ (by decide)⟩
    rw [State.wr_rd_ne, State.wr_rd _ _ _ _ _ (by decide)]
    · rfl
    · simp only [RField.adr, TRIPSTAT.PAIRTRIP, blkBase]
      omega
  have hts : (v.pairTripped n).tsPin = s.fineAt 0 t := by rw [htrip.tsPin, State.tsPin, State.fine, hvnow, hfine]
  set w := v.pairTripped n with hw
  set e₂ : Ev := ⟨6 * n + 5, s.fineAt 0 t, 0x22 * 2 ^ 24, false, false⟩ with he₂
  have hsecond : w.chFault n 0x22 = w.raiseEv e₂ := by
    rw [State.chFault, State.faultAt, hts, State.raiseAt]
    rfl
  have hts₂ : (w.raiseEv e₂).tsInt = s.fineAt 0 t / 64 * 64 := by
    have hside : eventSide w (w.raiseEv e₂) := .raiseEv _ _
    rw [State.tsInt, State.fine, hside.now, hside.fineAt, ← hts, State.tsPin, State.fine]
  set e₃ : Ev := ⟨7777, s.fineAt 0 t / 64 * 64, n / 8 * 2 ^ 16 + n % 8 / 2, false, false⟩ with he₃
  have hthird : (w.raiseEv e₂).raise 7777 (n / 8 * 2 ^ 16 + n % 8 / 2) = (w.raiseEv e₂).raiseEv e₃ := by
    rw [State.raise, hts₂, State.raiseAt, he₃]
  rw [hsecond, hthird] at hfires
  have hevs : eventSide w ((w.raiseEv e₂).raiseEv e₃) := (eventSide.raiseEv _ _).trans (.raiseEv _ _)
  have hregs (m : Nat) : ((w.raiseEv e₂).raiseEv e₃).rd TRIPSTAT.PAIRTRIP m = w.rd TRIPSTAT.PAIRTRIP m := by
    rw [State.rd, State.rd, State.raiseEv_reg _ _ _ (evReg_ch rfl), State.raiseEv_reg _ _ _ (evReg_ch rfl)]
  refine ⟨_, s.ran_ok ((s.advance t).interlock n) _ (decide_eq_true (by omega)), ?_⟩
  rw [hfires]
  refine ⟨((hevents.trans (.of_onlyChan hside)).trans (.of_eventSide hevs)).ran, ?_, ?_, ?_, ?_, ?_, ?_⟩
  · refine regsKeptEv.ran (regsKeptEv.trans (regsKeptEv.trans (fun a ha he => hkept a (fun h => ha ?_) he) (.of_kept htkept))
      ((regsKeptEv.raiseEv _ _ _).trans (.raiseEv _ _ _)))
    rcases List.mem_cons.mp h with h | h
    · exact h ▸ List.mem_cons_self ..
    · exact List.mem_singleton.mp h ▸ List.mem_cons_of_mem _ (List.mem_cons_self ..)
  · rw [State.withQueue_rd, hregs, hown.1]
  · rw [State.withQueue_rd, hregs, hown.2]
  · rw [State.stage5_withQueue, State.stage5_pairTrip (by rw [hregs, hown.1])]
  · rw [State.stage5_withQueue, State.stage5_pairTrip (by rw [hregs, hown.2])]
  · exact raised_of_evLike ((((hlike.trans htrip).raiseEv₂ e₂).raiseEv₂ e₃).trans (.withQueue _ _))

/-- The end of the hold, after the turn-on of the second switch (R191). -/
theorem interlockHoldExpiry_releases {x : Nat} (hn : n < 1023) (hnow : s.now ≤ t) (huntil : (s.ch n).pin.ilkUntil = some x) (hx : x ≤ t)
    (hlast : (s.ch n).pin.ilkLast = some true) :
    ∃ u, exec (.interlockHoldExpiry t n) s = .next u ∧ onlyChan s u n ∧ u.regs = s.regs ∧
      u.ch n = (if s.lvl3 n then s.ch n
        else { s.ch n with pin := { (s.ch n).pin with hOff := false, lOff := false, ilkUntil := none, ilkLast := none } }) := by
  have hexp : (s.advance t).interlockExpiry n = if s.lvl3 n then s.advance t
      else (s.advance t).modPin n (fun p => { p with hOff := false, lOff := false, ilkUntil := none, ilkLast := none }) := by
    have huntil' : ((s.advance t).ch n).pin.ilkUntil = some x := huntil
    have hlast' : ((s.advance t).ch n).pin.ilkLast = some true := hlast
    rw [State.interlockExpiry, huntil']
    dsimp only
    rw [hlast', if_neg (by rw [State.advance_now_of_le hnow]; omega), State.lvl3_advance, State.lvl3_advance]
    cases s.lvl3 n <;> simp
  refine ⟨_, s.ran_ok ((s.advance t).interlockExpiry n) _ (decide_eq_true (by omega)), ?_⟩
  rw [hexp]
  split
  · exact ⟨onlyChan.ran (.refl _ _), rfl, rfl⟩
  · refine ⟨onlyChan.ran (.modPin _ _ _), rfl, ?_⟩
    rw [State.ch_withQueue, State.modPin_ch]
    rfl

end

/-- Settles O32: the dead time, the interlock and its release. -/
theorem pairSwitching : Obligations.PairSwitching := by
  intro t n s hn heven hnow hpair r a dtr dtf p
  refine ⟨fun w b hmode hwait hshape hnxt hrail hnode => switchNodeSense_plans (by omega) hnow hpair hmode hwait hshape hnxt hrail hnode rfl rfl rfl rfl,
    fun w hmode hwait hshape hnxt hdue => dtmaxExpiry_plans (by omega) hnow hpair hmode hwait hshape hnxt rfl rfl hdue,
    fun hhigh hlow hfree => ⟨interlockBothOn_holds hn heven hnow hpair hhigh hlow hfree, interlockBothOn_trips hn heven hnow hpair hhigh hlow hfree⟩,
    fun x huntil hx hlast => interlockHoldExpiry_releases hn hnow huntil hx hlast⟩

end Sys2Proof.Machine
end

section
/-! PROOFS. Protection (chapter 7): trip lines, force orders and safe states. -/
namespace Sys2Proof.Machine
open Reg

/-! ### Steps through the channels of a group -/

theorem upFrom_nodup (a n : Nat) : (upFrom a n).Nodup := by
  induction n generalizing a with
  | zero => exact List.nodup_nil
  | succ n ih => exact List.nodup_cons.mpr ⟨fun h => by have := (upFrom_mem _ _ _).mp h; omega, ih _⟩

/-- What each step keeps, all of them keep. -/
theorem foldl_keeps {α : Type} {K : State → State → Prop} (hrefl : ∀ s, K s s) (htrans : ∀ {s u v}, K s u → K u v → K s v)
    {f : State → α → State} {l : List α} (h : ∀ s, ∀ m ∈ l, K s (f s m)) (s : State) : K s (l.foldl f s) := by
  induction l generalizing s with
  | nil => exact hrefl s
  | cons x xs ih => exact htrans (h s x (List.mem_cons_self ..)) (ih (fun s m hm => h s m (List.mem_cons_of_mem _ hm)) (f s x))

/-- What each step but the one for `n` keeps shows of the whole but for that one step. -/
theorem foldl_once {K : State → State → Prop} (hrefl : ∀ s, K s s) (htrans : ∀ {s u v}, K s u → K u v → K s v)
    {f : State → Nat → State} {l : List Nat} {n : Nat} (hn : n ∈ l) (hd : l.Nodup) (h : ∀ s, ∀ m ∈ l, m ≠ n → K s (f s m)) (s : State) :
    ∃ a, (∃ p, p <+: l ∧ a = p.foldl f s) ∧ K s a ∧ K (f a n) (l.foldl f s) := by
  obtain ⟨p, q, rfl⟩ := List.append_of_mem hn
  have hp : n ∉ p := fun hm => (List.nodup_append.mp hd).2.2 n hm n (List.mem_cons_self ..) rfl
  have hq : n ∉ q := (List.nodup_cons.mp (List.nodup_append.mp hd).2.1).1
  refine ⟨p.foldl f s, ⟨p, ⟨_, rfl⟩, rfl⟩, foldl_keeps hrefl htrans (fun s m hm => h s m (List.mem_append_left _ hm) (fun e => hp (e ▸ hm))) s, ?_⟩
  rw [List.foldl_append, List.foldl_cons]
  exact foldl_keeps hrefl htrans
    (fun s m hm => h s m (List.mem_append_right _ (List.mem_cons_of_mem _ hm)) (fun e => hq (e ▸ hm))) _

/-- `u` is `s` but for the channels of group `j`, and the registers. -/
def inGroup (j : Nat) (s u : State) : Prop := u = { s with now := u.now, regs := u.regs, chan := u.chan } ∧ ∀ m, m / 8 ≠ j → u.ch m = s.ch m

/-- `u` is `s` but for the channels of group `j`, the registers and what raised events change. -/
def inGroupEv (j : Nat) (s u : State) : Prop :=
  u = { s with now := u.now, regs := u.regs, chan := u.chan, fab := u.fab, tp := u.tp, teth := u.teth, pw := u.pw } ∧ ∀ m, m / 8 ≠ j → u.ch m = s.ch m

section
variable {j n : Nat} {s u v : State}

theorem inGroup.refl (j : Nat) (s : State) : inGroup j s s := ⟨rfl, fun _ _ => rfl⟩
theorem inGroup.trans (h : inGroup j s u) (k : inGroup j u v) : inGroup j s v :=
  ⟨by rw [k.1, h.1], fun m hm => (k.2 m hm).trans (h.2 m hm)⟩
theorem inGroupEv.refl (j : Nat) (s : State) : inGroupEv j s s := ⟨rfl, fun _ _ => rfl⟩
theorem inGroupEv.trans (h : inGroupEv j s u) (k : inGroupEv j u v) : inGroupEv j s v :=
  ⟨by rw [k.1, h.1], fun m hm => (k.2 m hm).trans (h.2 m hm)⟩
theorem inGroup.ev (h : inGroup j s u) : inGroupEv j s u := ⟨by rw [h.1], h.2⟩
theorem inGroup.wr (j : Nat) (s : State) (F : RField) (v n i : Nat) : inGroup j s (s.wr F v n i) := ⟨rfl, fun _ _ => rfl⟩
theorem inGroup.cnt (j : Nat) (s : State) (F : RField) (k n i : Nat) : inGroup j s (s.cnt F k n i) := ⟨rfl, fun _ _ => rfl⟩
theorem inGroup.inc (j : Nat) (s : State) (F : RField) (k n i : Nat) : inGroup j s (s.inc F k n i) := ⟨rfl, fun _ _ => rfl⟩
theorem inGroup.of_onlyChan (h : onlyChan s u n) (hj : n / 8 = j) : inGroup j s u := ⟨h.1, fun m hm => h.2 m (fun e => hm (e ▸ hj))⟩
theorem inGroup.modPin (s : State) (f : ChPin → ChPin) (hj : n / 8 = j) : inGroup j s (s.modPin n f) := .of_onlyChan (.modPin s n f) hj
theorem inGroupEv.of_eventSide (h : eventSide s u) : inGroupEv j s u := ⟨by rw [h], fun m _ => h.ch m⟩

theorem onlyChan.of_sync3 (s : State) (n : Nat) : onlyChan s (s.sync3 n) n := by
  rw [State.sync3]
  exact .modPin _ _ _

theorem inGroup.sync3 (s : State) (hj : n / 8 = j) : inGroup j s (s.sync3 n) := .of_onlyChan (.of_sync3 s n) hj

/-- A channel, and one register, are kept. -/
def chanAlone (n a : Nat) (s u : State) : Prop := u.ch n = s.ch n ∧ u.reg a = s.reg a

theorem chanAlone.refl (n a : Nat) (s : State) : chanAlone n a s s := ⟨rfl, rfl⟩
theorem chanAlone.trans {n a : Nat} (h : chanAlone n a s u) (k : chanAlone n a u v) : chanAlone n a s v :=
  ⟨k.1.trans h.1, k.2.trans h.2⟩

theorem chanAlone.wr {n a : Nat} (s : State) (F : RField) (v m i : Nat) (h : a ≠ F.adr m i) : chanAlone n a s (s.wr F v m i) :=
  ⟨rfl, State.wr_reg_ne _ _ _ _ _ _ h⟩
theorem chanAlone.cnt {n a : Nat} (s : State) (F : RField) (k m i : Nat) (h : a ≠ F.adr m i) : chanAlone n a s (s.cnt F k m i) := .wr _ _ _ _ _ h
theorem chanAlone.modPin {n a m : Nat} (s : State) (f : ChPin → ChPin) (h : n ≠ m) : chanAlone n a s (s.modPin m f) :=
  ⟨State.modPin_ch_ne _ _ _ _ h, rfl⟩
theorem chanAlone.sync3 {n a m : Nat} (s : State) (h : n ≠ m) : chanAlone n a s (s.sync3 m) := by
  rw [State.sync3]
  exact .modPin _ _ h
theorem chanAlone.raiseEv {n a : Nat} (s : State) (ev : Ev) (h : evReg a = false) : chanAlone n a s (s.raiseEv ev) :=
  ⟨(eventSide.raiseEv s ev).ch n, s.raiseEv_reg ev a h⟩

theorem chanAlone.rd {n : Nat} {F : RField} (h : chanAlone n (F.adr n 0) s u) : u.rd F n = s.rd F n := by
  rw [State.rd, State.rd, h.2]

end

/-- Registers of different channels are different. -/
theorem chAdr_ne {F G : RField} {n m : Nat} (hF : F.blk = .ch) (hG : G.blk = .ch) (hsF : F.stride = 0) (hsG : G.stride = 0)
    (hoF : F.off < 0x1000) (hoG : G.off < 0x1000) (h : n ≠ m) : F.adr n 0 ≠ G.adr m 0 := by
  simp only [RField.adr, blkBase, hF, hG, hsF, hsG]
  omega

/-- Registers of groups and of channels at different offsets are different. -/
theorem grpAdr_ne {F G : RField} {n m i : Nat} (hF : F.blk = .grp) (hG : G.blk = .ch ∨ G.blk = .grp) (hsG : G.stride = 0)
    (hoF : F.off + F.stride * i < 0x1000) (hoG : G.off < 0x1000) (h : F.off + F.stride * i ≠ G.off) : F.adr n i ≠ G.adr m 0 := by
  rcases hG with hG | hG <;> simp only [RField.adr, blkBase, hF, hG, hsG] <;> omega

theorem grpAdr_unit {F : RField} {j i : Nat} (hF : F.blk = .grp) (ho : F.off + F.stride * i < 0x1000) (hj : j < 128) : unitReg (F.adr j i) := by
  simp only [unitReg, RField.adr, hF, blkBase]
  omega

theorem evReg_grp {F : RField} {j i : Nat} (hF : F.blk = .grp) : evReg (F.adr j i) = false :=
  evReg_of_engine (by simp only [RField.adr, hF, blkBase]; omega)


/-! ### Trip lines (R193 to R196) -/

/-- No channel of group `j` is paired or ends on a line. -/
def lineFree (j : Nat) (s : State) : Prop := ∀ m, m / 8 = j → s.paired m = false ∧ s.on TERMCTL.TEN m = false

/-- The TRIPSTAT registers of group `j`. -/
def tripRegs (j : Nat) : List Nat := (upFrom (8 * j) 8).map (fun m => TRIPSTAT.WHOLE.adr m 0)

section
variable {j n m i a : Nat} {s u : State}

theorem mem_group : m ∈ upFrom (8 * j) 8 ↔ m / 8 = j := by
  rw [upFrom_mem]
  omega

theorem mem_tripRegs (h : m / 8 = j) : TRIPSTAT.WHOLE.adr m 0 ∈ tripRegs j := List.mem_map.mpr ⟨m, mem_group.mpr h, rfl⟩

theorem not_mem_tripRegs {F : RField} (hF : F.blk = .ch) (hs : F.stride = 0) (ho : F.off < 0x1000) (h : F.off ≠ TRIPSTAT.WHOLE.off) :
    F.adr n 0 ∉ tripRegs j := by
  intro hm
  obtain ⟨m, -, hm⟩ := List.mem_map.mp hm
  exact chField_ne hF rfl hs rfl ho (by decide) h hm.symm

theorem lineFree.kept (h : lineFree j s) (k : regsKeptEv s u (tripRegs j)) : lineFree j u := by
  intro m hm
  obtain ⟨hpair, hten⟩ := h m hm
  refine ⟨(k.paired (not_mem_tripRegs rfl rfl (by decide) (by decide))).trans hpair, ?_⟩
  rw [State.on, State.rd, k _ (not_mem_tripRegs rfl rfl (by decide) (by decide)) (evReg_ch rfl)]
  exact hten

/-- The latched trip of a channel (R194). -/
theorem State.latchTrip_shows (s : State) (i a : Nat) (hm : m / 8 = j) (hj : j < 128) :
    inGroupEv j s (s.latchTrip m i a) ∧ regsKeptEv s (s.latchTrip m i a) (tripRegs j) ∧
      evLike (s.raiseEv ⟨6 * m + 5, s.fineAt 0 a, 0x20 * 2 ^ 24 + i, false, false⟩) (s.latchTrip m i a) ∧
      (∀ n, n ≠ m → chanAlone n (TRIPSTAT.WHOLE.adr n 0) s (s.latchTrip m i a)) ∧
      (s.latchTrip m i a).rd TRIPSTAT.TRIPPED m = 1 ∧ (i < 4 → ((s.latchTrip m i a).rd TRIPSTAT.LLINES m).testBit i = true) := by
  have heq : s.latchTrip m i a = ((s.wr TRIPSTAT.TRIPPED 1 m).wr TRIPSTAT.LLINES (putBit (s.rd TRIPSTAT.LLINES m) i true) m).raiseEv
      ⟨6 * m + 5, s.fineAt 0 a, 0x20 * 2 ^ 24 + i, false, false⟩ := rfl
  have hu (F : RField) (hF : F.blk = .ch) (hs : F.stride = 0) (ho : F.off < 0x1000) : unitReg (F.adr m 0) := unitReg_ch hF hs ho (by omega)
  set ev : Ev := ⟨6 * m + 5, s.fineAt 0 a, 0x20 * 2 ^ 24 + i, false, false⟩ with hev
  set w := (s.wr TRIPSTAT.TRIPPED 1 m).wr TRIPSTAT.LLINES (putBit (s.rd TRIPSTAT.LLINES m) i true) m with hw
  have hlike : evLike s w := (evLike.wr _ _ _ _ _ (hu _ rfl rfl (by decide))).trans (.wr _ _ _ _ _ (hu _ rfl rfl (by decide)))
  have hrd (F : RField) (hF : F.blk = .ch) : (w.raiseEv ev).rd F m = w.rd F m := by
    rw [State.rd, State.rd, State.raiseEv_reg _ _ _ (evReg_ch hF)]
  rw [heq]
  refine ⟨((inGroup.wr j s _ _ _ _).trans (.wr j _ _ _ _ _)).ev.trans (.of_eventSide (.raiseEv _ _)),
    (regsKeptEv.of_kept ((regsKept.wr s TRIPSTAT.TRIPPED _ _ _ (mem_tripRegs hm)).trans (.wr _ TRIPSTAT.LLINES _ _ _ (mem_tripRegs hm)))).trans (.raiseEv _ _ _),
    hlike.raiseEv₂ ev, fun n hn => ?_, ?_, fun hi => ?_⟩
  · exact ((chanAlone.wr _ TRIPSTAT.TRIPPED _ _ _ (chAdr_ne rfl rfl rfl rfl (by decide) (by decide) hn)).trans
      (.wr _ TRIPSTAT.LLINES _ _ _ (chAdr_ne rfl rfl rfl rfl (by decide) (by decide) hn))).trans (.raiseEv _ _ (evReg_ch rfl))
  · rw [hrd _ rfl, hw, State.wr_rd_other _ _ _ _ _ _ _ _ (by decide) (by decide), State.wr_rd _ _ _ _ _ (by decide)]
    rfl
  · rw [hrd _ rfl, hw, State.wr_rd _ _ _ _ _ (by decide), Nat.testBit_mod_two_pow, ← bitAt_eq_testBit, bitAt_putBit, if_pos rfl]
    exact (Bool.and_true _).trans (decide_eq_true hi)

/-- The order of a termination of the pulse (R195) on a channel that is no member of a pair. -/
theorem State.cbcTrip_shows (s : State) (a : Nat) (hpair : s.paired m = false) (hm : m / 8 = j) (hj : j < 128) :
    inGroup j s (s.cbcTrip m a) ∧ regsKept s (s.cbcTrip m a) [TRIPSTAT.WHOLE.adr m 0] ∧ evLike s (s.cbcTrip m a) ∧ onlyChan s (s.cbcTrip m a) m ∧
      (∀ n, n ≠ m → chanAlone n (TRIPSTAT.WHOLE.adr n 0) s (s.cbcTrip m a)) ∧
      (s.cbcTrip m a).rd TRIPSTAT.CBCACT m = 1 ∧ (s.cbcTrip m a).rd TRIPSTAT.CBCCNT m = satTo 0xFFFF (s.rd TRIPSTAT.CBCCNT m + 1) ∧
      levelsKept s (s.cbcTrip m a) ∧ ((s.cbcTrip m a).ch m).pin.blanking = (s.ch m).pin.blanking := by
  set w := (s.wr TRIPSTAT.CBCACT 1 m).cnt TRIPSTAT.CBCCNT 1 m with hw
  have hwpair : w.paired m = false := by
    have hkept : regsKeptEv s w [TRIPSTAT.WHOLE.adr m 0] := .of_kept ((regsKept.wr _ TRIPSTAT.CBCACT _ _ _ (List.mem_singleton.mpr rfl)).trans
      (.cnt _ TRIPSTAT.CBCCNT _ _ _ (List.mem_singleton.mpr rfl)))
    rw [hkept.paired (fun h => PWMCTL_apart (.inr (.inr rfl)) (List.mem_singleton.mp h)), hpair]
  have heq : s.cbcTrip m a = w.sync3 m := by
    rw [State.cbcTrip, ← hw, hwpair]
    simp only [Bool.false_eq_true, false_and, if_false]
    rw [State.syncPair, hwpair]
    exact if_neg (by decide)
  have hwch (k : Nat) : w.ch k = s.ch k := by rw [hw, State.ch_cnt, State.ch_wr]
  have hu (F : RField) (hF : F.blk = .ch) (hs : F.stride = 0) (ho : F.off < 0x1000) : unitReg (F.adr m 0) := unitReg_ch hF hs ho (by omega)
  obtain ⟨hlevels, hside, -⟩ := w.sync3_kept m
  have honly : onlyChan s (w.sync3 m) m := ((onlyChan.wr _ _ _ _ _ _).trans (.cnt _ _ _ _ _ _)).trans (.of_sync3 _ _)
  rw [heq]
  refine ⟨.of_onlyChan honly hm, ?_, ?_, honly, fun n hn => ?_, ?_, ?_, fun k => ?_, ?_⟩
  · exact ((regsKept.wr s TRIPSTAT.CBCACT _ _ _ (List.mem_singleton.mpr rfl)).trans (.cnt _ TRIPSTAT.CBCCNT _ _ _ (List.mem_singleton.mpr rfl))).trans
      (.of_regs hside.regs)
  · refine evLike.trans (u := w) ((evLike.wr s _ 1 m 0 (hu TRIPSTAT.CBCACT rfl rfl (by decide))).trans
      (.cnt _ _ 1 m 0 (hu TRIPSTAT.CBCCNT rfl rfl (by decide)))) ?_
    rw [State.sync3]
    exact .modPin _ _ _
  · exact ((chanAlone.wr _ TRIPSTAT.CBCACT _ _ _ (chAdr_ne rfl rfl rfl rfl (by decide) (by decide) hn)).trans
      (.cnt _ TRIPSTAT.CBCCNT _ _ _ (chAdr_ne rfl rfl rfl rfl (by decide) (by decide) hn))).trans (.sync3 _ hn)
  · rw [hside.rd, hw, State.cnt_rd_other _ _ _ _ _ _ _ _ (by decide) (by decide), State.wr_rd _ _ _ _ _ (by decide)]
    rfl
  · rw [hside.rd, hw, State.cnt_rd _ _ _ _ _ (by decide), State.wr_rd_other _ _ _ _ _ _ _ _ (by decide) (by decide)]
    rfl
  · rw [(hlevels k).1, (hlevels k).2, hwch]
    exact ⟨rfl, rfl⟩
  · rw [State.sync3, State.modPin_pin, hwch]
    split <;> rfl

/-- What a line that becomes active does to one channel, past the trips. -/
def State.lineStep (i a : Nat) (s : State) (m : Nat) : State :=
  let s := s.cbcLine m i a
  if s.rd TERMCTL.TLINE m = i then s.terminate m (s.fineAt (s.ch m).run.tb a) else s

theorem State.terminate_free (a : Nat) (h : s.on TERMCTL.TEN m = false) : s.terminate m a = s := by
  rw [State.terminate]
  exact if_pos (by simp [h])

theorem State.cbcLine_or (s : State) (m i a : Nat) : s.cbcLine m i a = s ∨ s.cbcLine m i a = s.cbcTrip m a := by
  rw [State.cbcLine]
  split
  · exact .inl rfl
  · dsimp only
    split
    · exact .inl rfl
    · exact .inr rfl

theorem State.lineStep_free (h : lineFree j s) (hm : m / 8 = j) (hj : j < 128) : s.lineStep i a m = s.cbcLine m i a := by
  have hten : (s.cbcLine m i a).on TERMCTL.TEN m = false := by
    rcases s.cbcLine_or m i a with he | he
    · rw [he]
      exact (h m hm).2
    · obtain ⟨-, hkept, -⟩ := s.cbcTrip_shows (m := m) a (h m hm).1 hm hj
      rw [he, State.on, State.rd, hkept _ (by
        rw [List.mem_singleton]
        exact chField_ne rfl rfl rfl rfl (by decide) (by decide) (by decide))]
      exact (h m hm).2
  rw [State.lineStep, State.terminate_free _ hten]
  exact ite_self _

end


section
variable {j n m i a t : Nat} {s u v : State}

/-- The trips of the channels of a list, in turn. -/
theorem State.latchTrips_shows {l : List Nat} (hl : ∀ m ∈ l, m / 8 = j) (hj : j < 128) (i a : Nat) (s : State) :
    inGroupEv j s (l.foldl (fun s n => s.latchTrip n i a) s) ∧ regsKeptEv s (l.foldl (fun s n => s.latchTrip n i a) s) (tripRegs j) ∧
      evLike ((l.map (fun m => (⟨6 * m + 5, s.fineAt 0 a, 0x20 * 2 ^ 24 + i, false, false⟩ : Ev))).foldl (fun x e => x.raiseEv e) s)
        (l.foldl (fun s n => s.latchTrip n i a) s) := by
  induction l generalizing s with
  | nil => exact ⟨.refl _ _, .refl _ _, .refl _⟩
  | cons m l ih =>
    obtain ⟨hgroup, hkept, hlike, -⟩ := s.latchTrip_shows i a (hl m (List.mem_cons_self ..)) hj
    obtain ⟨kgroup, kkept, klike⟩ := ih (fun m hm => hl m (List.mem_cons_of_mem _ hm)) (s.latchTrip m i a)
    refine ⟨hgroup.trans kgroup, hkept.trans kkept, ?_⟩
    have hfine : (s.latchTrip m i a).fineAt 0 a = s.fineAt 0 a := by rw [hlike.fineAt, eventSide.fineAt (.raiseEv _ _)]
    rw [hfine] at klike
    exact (evLike.foldl₂ (f := fun x e => x.raiseEv e) (fun _ _ _ h => h.raiseEv₂ _) _ hlike).trans klike

/-- The steps of the channels of the group. -/
theorem State.lineSteps_shows (hfree : lineFree j s) (hj : j < 128) (i a : Nat) :
    inGroup j s ((upFrom (8 * j) 8).foldl (State.lineStep i a) s) ∧
      regsKept s ((upFrom (8 * j) 8).foldl (State.lineStep i a) s) (tripRegs j) ∧
      evLike s ((upFrom (8 * j) 8).foldl (State.lineStep i a) s) := by
  have key := foldl_keeps (K := fun s u => lineFree j s → lineFree j u ∧ inGroup j s u ∧ regsKept s u (tripRegs j) ∧ evLike s u)
    (f := State.lineStep i a) (l := upFrom (8 * j) 8) (fun s h => ⟨h, .refl _ _, .refl _ _, .refl _⟩)
    (fun h k hs => by
      obtain ⟨hfree, hgroup, hkept, hlike⟩ := h hs
      obtain ⟨kfree, kgroup, kkept, klike⟩ := k hfree
      exact ⟨kfree, hgroup.trans kgroup, hkept.trans kkept, hlike.trans klike⟩)
    (fun s m hm hs => by
      have hm := mem_group.mp hm
      rw [State.lineStep_free hs hm hj]
      rcases s.cbcLine_or m i a with he | he
      · rw [he]
        exact ⟨hs, .refl _ _, .refl _ _, .refl _⟩
      · obtain ⟨hgroup, hkept, hlike, -⟩ := s.cbcTrip_shows (m := m) a (hs m hm).1 hm hj
        have hall : regsKept s (s.cbcTrip m a) (tripRegs j) := fun x hx => hkept x (fun h => hx (List.mem_singleton.mp h ▸ mem_tripRegs hm))
        rw [he]
        exact ⟨hs.kept (.of_kept hall), hgroup, hall, hlike⟩)
    s hfree
  exact key.2

/-- The step of channel `n` among those of its group. -/
theorem State.lineSteps_once (hfree : lineFree j s) (hj : j < 128) (hn : n / 8 = j) (i a : Nat) :
    ∃ b, lineFree j b ∧ regsKept s b (tripRegs j) ∧ chanAlone n (TRIPSTAT.WHOLE.adr n 0) s b ∧
      chanAlone n (TRIPSTAT.WHOLE.adr n 0) (b.cbcLine n i a) ((upFrom (8 * j) 8).foldl (State.lineStep i a) s) := by
  have hstep (s : State) (m : Nat) (hm : m ∈ upFrom (8 * j) 8) (hne : m ≠ n) (hs : lineFree j s) :
      lineFree j (s.lineStep i a m) ∧ regsKept s (s.lineStep i a m) (tripRegs j) ∧ chanAlone n (TRIPSTAT.WHOLE.adr n 0) s (s.lineStep i a m) := by
    have hm := mem_group.mp hm
    rw [State.lineStep_free hs hm hj]
    rcases s.cbcLine_or m i a with he | he
    · rw [he]
      exact ⟨hs, .refl _ _, .refl _ _ _⟩
    · obtain ⟨-, hkept, -, -, halone, -⟩ := s.cbcTrip_shows (m := m) a (hs m hm).1 hm hj
      have hall : regsKept s (s.cbcTrip m a) (tripRegs j) := fun x hx => hkept x (fun h => hx (List.mem_singleton.mp h ▸ mem_tripRegs hm))
      rw [he]
      exact ⟨hs.kept (.of_kept hall), hall, halone n hne.symm⟩
  obtain ⟨b, -, hb, hrest⟩ := foldl_once (K := fun s u => lineFree j s → lineFree j u ∧ regsKept s u (tripRegs j) ∧ chanAlone n (TRIPSTAT.WHOLE.adr n 0) s u)
    (f := State.lineStep i a) (l := upFrom (8 * j) 8) (n := n) (fun s h => ⟨h, .refl _ _, .refl _ _ _⟩)
    (fun h k hs => by
      obtain ⟨hfree, hkept, halone⟩ := h hs
      obtain ⟨kfree, kkept, kalone⟩ := k hfree
      exact ⟨kfree, hkept.trans kkept, halone.trans kalone⟩)
    (mem_group.mpr hn) (upFrom_nodup _ _) hstep s
  obtain ⟨hbfree, hbkept, hbalone⟩ := hb hfree
  rw [State.lineStep_free hbfree hn hj] at hrest
  have hafter : lineFree j (b.cbcLine n i a) := by
    rcases b.cbcLine_or n i a with he | he
    · rw [he]
      exact hbfree
    · obtain ⟨-, hkept, -⟩ := b.cbcTrip_shows (m := n) a (hbfree n hn).1 hn hj
      rw [he]
      exact hbfree.kept (.of_kept (fun x hx => hkept x (fun h => hx (List.mem_singleton.mp h ▸ mem_tripRegs hn))))
  exact ⟨b, hbfree, hbkept, hbalone, (hrest hafter).2.2⟩

/-- The line shows as active, since the instant `a`. -/
def State.lineShown (s : State) (j i a : Nat) : State :=
  (s.modGr j (fun g => { g with act := putBit g.act i true, actAt := g.actAt.set i a })).wr TLSTAT.SEEN (putBit (s.rd TLSTAT.SEEN j) i true) j

/-- The state when the trips are reported. -/
def State.lineReported (s : State) (j i a : Nat) (hit : List Nat) : State :=
  let u := hit.foldl (fun s n => s.latchTrip n i a) (s.lineShown j i a)
  if hit.isEmpty then u else u.raiseAt 7776 (j * 2 ^ 16 + i) (u.fineAt 0 a)

@[simp] theorem State.gr_wr (s : State) (F : RField) (v n i k : Nat) : (s.wr F v n i).gr k = s.gr k := (rfl)

theorem evLike.modGr (s : State) (j : Nat) (f : Grp → Grp) : evLike s (s.modGr j f) := ⟨rfl, rfl, rfl, rfl, rfl, rfl, rfl, fun _ _ => rfl⟩

theorem State.lineShown_shows (s : State) (hj : j < 128) (hi : i < 4) (a : Nat) :
    s.lineShown j i a = { s with regs := (s.lineShown j i a).regs, grp := (s.lineShown j i a).grp } ∧
      (∀ m, (s.lineShown j i a).ch m = s.ch m) ∧ (∀ k, k ≠ j → (s.lineShown j i a).gr k = s.gr k) ∧
      ((s.lineShown j i a).gr j).act.testBit i = true ∧ regsKept s (s.lineShown j i a) [TLSTAT.WHOLE.adr j 0] ∧
      ((s.lineShown j i a).rd TLSTAT.SEEN j).testBit i = true ∧ evLike s (s.lineShown j i a) := by
  rw [State.lineShown]
  generalize hb : s.modGr j (fun g => { g with act := putBit g.act i true, actAt := g.actAt.set i a }) = b
  have hside : b = { s with grp := b.grp } := by
    rw [← hb]
    rfl
  have hgr : (∀ k, k ≠ j → b.gr k = s.gr k) ∧ (b.gr j).act = putBit (s.gr j).act i true := by
    rw [← hb]
    exact ⟨fun k hk => State.modGr_gr_ne _ _ _ _ hk, by rw [State.modGr_gr]⟩
  have hlike : evLike s b := by
    rw [← hb]
    exact .modGr _ _ _
  obtain ⟨hother, hown⟩ := hgr
  refine ⟨?_, fun m => ?_, fun k hk => ?_, ?_, ?_, ?_, ?_⟩
  · rw [State.wr, State.setReg, hside]
  · rw [State.ch_wr, hside]
    rfl
  · rw [State.gr_wr, hother k hk]
  · rw [State.gr_wr, hown, ← bitAt_eq_testBit, bitAt_putBit, if_pos rfl]
  · exact (regsKept.of_regs (by rw [hside])).trans (.wr _ TLSTAT.SEEN _ _ _ (by simp [RField.adr, TLSTAT.SEEN, TLSTAT.WHOLE]))
  · rw [State.wr_rd _ _ _ _ _ (by decide), Nat.testBit_mod_two_pow, ← bitAt_eq_testBit, bitAt_putBit, if_pos rfl]
    exact (Bool.and_true _).trans (decide_eq_true hi)
  · exact hlike.trans (.wr _ TLSTAT.SEEN _ j 0 (grpAdr_unit rfl (by decide) hj))

theorem TLSTAT_notTrip (x j : Nat) {F : RField} (hF : F.blk = .ch ∧ F.stride = 0 ∧ F.off < 0x1000 ∧ F.off ≠ 0x220) :
    F.adr x 0 ∉ [TLSTAT.WHOLE.adr j 0] := by
  obtain ⟨hb, hs, ho, hne⟩ := hF
  rw [List.mem_singleton]
  exact (grpAdr_ne rfl (.inl hb) hs (by decide) ho (fun h => hne h.symm)).symm

theorem lineFree.shown (h : lineFree j s) (hj : j < 128) (hi : i < 4) (a : Nat) : lineFree j (s.lineShown j i a) := by
  obtain ⟨-, -, -, -, hkept, -⟩ := s.lineShown_shows hj hi a
  intro m hm
  obtain ⟨hpair, hten⟩ := h m hm
  refine ⟨((regsKeptEv.of_kept hkept).paired (TLSTAT_notTrip _ _ (by decide))).trans hpair, ?_⟩
  rw [State.on, State.rd, hkept _ (TLSTAT_notTrip _ _ (by decide))]
  exact hten

theorem State.lineActivate_eq (hsrc : s.lineSrc j i = true) (hact : (s.gr j).act.testBit i = false) (hfree : lineFree j s) (hj : j < 128)
    (hi : i < 4) {hit : List Nat} (hhit : hit = (upFrom (8 * j) 8).filter (fun m => (s.rd TRIPCTL.LEN m).testBit i)) :
    s.lineActivate j i = (upFrom (8 * j) 8).foldl (State.lineStep i (s.lineCross j i)) (s.lineReported j i (s.lineCross j i) hit) := by
  have hset : (s.lineShown j i (s.lineCross j i)).tripSet j i = hit := by
    obtain ⟨-, -, -, -, hkept, -⟩ := s.lineShown_shows hj hi (s.lineCross j i)
    rw [State.tripSet, hhit]
    refine List.filter_congr fun m hm => ?_
    dsimp only
    rw [(hfree.shown hj hi _ m (mem_group.mp hm)).1, Bool.false_and, Bool.or_false, bitAt_eq_testBit, State.rd, State.rd,
      hkept _ (TLSTAT_notTrip _ _ (by decide))]
  rw [State.lineActivate, if_neg (by simp [hsrc, bitAt_eq_testBit, hact])]
  dsimp only
  rw [State.modGr_rd, ← hset]
  rfl

end


section
variable {s : State} {j i n t : Nat}

/-- The events of a line that becomes active (R194). -/
def lineEvents (ts j i : Nat) (hit : List Nat) : List Ev :=
  hit.map (fun m => ⟨6 * m + 5, ts, 0x20 * 2 ^ 24 + i, false, false⟩) ++ (if hit = [] then [] else [⟨7776, ts, j * 2 ^ 16 + i, false, false⟩])

theorem State.lineReported_shows (hfree : lineFree j s) (hj : j < 128) (hi : i < 4) (a : Nat) {hit : List Nat}
    (hhit : hit = (upFrom (8 * j) 8).filter (fun m => (s.rd TRIPCTL.LEN m).testBit i)) :
    inGroupEv j (s.lineShown j i a) (s.lineReported j i a hit) ∧ lineFree j (s.lineReported j i a hit) ∧
      regsKeptEv (s.lineShown j i a) (s.lineReported j i a hit) (tripRegs j) ∧
      evLike ((lineEvents (s.fineAt 0 a) j i hit).foldl (fun x e => x.raiseEv e) s) (s.lineReported j i a hit) ∧
      (n / 8 = j → ((s.rd TRIPCTL.LEN n).testBit i = false →
          chanAlone n (TRIPSTAT.WHOLE.adr n 0) (s.lineShown j i a) (s.lineReported j i a hit)) ∧
        ((s.rd TRIPCTL.LEN n).testBit i = true → (s.lineReported j i a hit).rd TRIPSTAT.TRIPPED n = 1 ∧
          ((s.lineReported j i a hit).rd TRIPSTAT.LLINES n).testBit i = true)) := by
  obtain ⟨-, -, -, -, -, -, hlike⟩ := s.lineShown_shows hj hi a
  have hsfree := hfree.shown hj hi a
  have hfine : (s.lineShown j i a).fineAt 0 a = s.fineAt 0 a := hlike.fineAt _ _
  have hhl (m : Nat) (hm : m ∈ hit) : m / 8 = j := by
    rw [hhit] at hm
    exact mem_group.mp (List.mem_filter.mp hm).1
  have hnodup : hit.Nodup := by
    rw [hhit]
    exact (upFrom_nodup _ _).filter _
  rw [State.lineReported]
  generalize s.lineShown j i a = b at *
  obtain ⟨hgroup, hkept, htrips⟩ := State.latchTrips_shows hhl hj i a b
  rw [hfine] at htrips
  have hown : n / 8 = j → ((s.rd TRIPCTL.LEN n).testBit i = false →
        chanAlone n (TRIPSTAT.WHOLE.adr n 0) b (hit.foldl (fun s n => s.latchTrip n i a) b)) ∧
      ((s.rd TRIPCTL.LEN n).testBit i = true → (hit.foldl (fun s n => s.latchTrip n i a) b).rd TRIPSTAT.TRIPPED n = 1 ∧
        ((hit.foldl (fun s n => s.latchTrip n i a) b).rd TRIPSTAT.LLINES n).testBit i = true) := by
    intro hn
    have halone (x : State) (m : Nat) (hm : m ∈ hit) (hne : m ≠ n) : chanAlone n (TRIPSTAT.WHOLE.adr n 0) x (x.latchTrip m i a) := by
      obtain ⟨-, -, -, hrest, -⟩ := x.latchTrip_shows i a (hhl m hm) hj
      exact hrest n hne.symm
    refine ⟨fun hlen => ?_, fun hlen => ?_⟩
    · have hout (m : Nat) (hm : m ∈ hit) : m ≠ n := by
        rintro rfl
        rw [hhit] at hm
        exact absurd ((List.mem_filter.mp hm).2.symm.trans hlen) (by decide)
      exact foldl_keeps (K := chanAlone n (TRIPSTAT.WHOLE.adr n 0)) (.refl _ _) .trans (fun x m hm => halone x m hm (hout m hm)) b
    · have hin : n ∈ hit := by
        rw [hhit]
        exact List.mem_filter.mpr ⟨mem_group.mpr hn, hlen⟩
      obtain ⟨c, -, -, hc⟩ := foldl_once (K := chanAlone n (TRIPSTAT.WHOLE.adr n 0)) (.refl _ _) .trans hin hnodup halone b
      obtain ⟨-, -, -, -, htripped, hlines⟩ := c.latchTrip_shows i a hn hj
      have hcT : (hit.foldl (fun s n => s.latchTrip n i a) b).rd TRIPSTAT.TRIPPED n = (c.latchTrip n i a).rd TRIPSTAT.TRIPPED n :=
        chanAlone.rd (F := TRIPSTAT.TRIPPED) hc
      have hcL : (hit.foldl (fun s n => s.latchTrip n i a) b).rd TRIPSTAT.LLINES n = (c.latchTrip n i a).rd TRIPSTAT.LLINES n :=
        chanAlone.rd (F := TRIPSTAT.LLINES) hc
      rw [hcT, hcL]
      exact ⟨htripped, hlines hi⟩
  generalize hit.foldl (fun s n => s.latchTrip n i a) b = u at *
  have hevs : evLike ((hit.map (fun m => (⟨6 * m + 5, s.fineAt 0 a, 0x20 * 2 ^ 24 + i, false, false⟩ : Ev))).foldl (fun x e => x.raiseEv e) s) u :=
    (evLike.foldl₂ (f := fun x e => x.raiseEv e) (fun _ _ _ h => h.raiseEv₂ _) _ hlike).trans htrips
  have hufine : u.fineAt 0 a = s.fineAt 0 a := by
    rw [hevs.fineAt]
    exact (foldl_keeps (K := eventSide) .refl .trans (fun x e _ => .raiseEv x e) s).fineAt _ _
  rw [hufine, lineEvents]
  cases hit with
  | nil => exact ⟨hgroup, hsfree.kept hkept, hkept, hevs, hown⟩
  | cons x xs =>
    rw [if_neg (by simp), if_neg (by simp)]
    refine ⟨hgroup.trans (.of_eventSide (.raiseAt _ _ _ _)), hsfree.kept (hkept.trans (.raiseEv _ _ _)), hkept.trans (.raiseEv _ _ _),
      evLike.raised_raise hevs _, fun hn => ?_⟩
    obtain ⟨hout, hin⟩ := hown hn
    refine ⟨fun hlen => (hout hlen).trans (.raiseEv _ _ (evReg_ch rfl)), fun hlen => ?_⟩
    rw [State.raiseAt_rd _ _ _ _ _ _ _ (evReg_ch rfl), State.raiseAt_rd _ _ _ _ _ _ _ (evReg_ch rfl)]
    exact hin hlen

/-- The pin of a tripped channel is high-Z (R194). -/
theorem State.stage5_tripped (h : s.rd TRIPSTAT.TRIPPED n = 1) : s.stage5 n = .z := by
  have hon : s.on TRIPSTAT.TRIPPED n = true := by
    rw [State.on, h]
    rfl
  rw [State.stage5, hon]
  exact if_pos (by simp)

theorem State.lvl2_terminated (h : s.rd TRIPSTAT.CBCACT n = 1) : s.lvl2 n = false := by
  have hon : s.on TRIPSTAT.CBCACT n = true := by
    rw [State.on, h]
    rfl
  rw [State.lvl2, hon, Bool.not_true, Bool.and_false]

@[simp] theorem State.lvl2_withQueue (s : State) (q : List Instr) (n : Nat) : (s.withQueue q).lvl2 n = s.lvl2 n := (rfl)
@[simp] theorem State.gr_withQueue (s : State) (q : List Instr) (n : Nat) : (s.withQueue q).gr n = s.gr n := (rfl)

theorem lineFree_of {j n : Nat} (hj : j = n / 8) (h : ∀ m, m / 8 = n / 8 → s.paired m = false ∧ s.on TERMCTL.TEN m = false) : lineFree j (s.advance t) :=
  fun m hm => h m (hm.trans hj)

theorem inGroupEv.gr {u : State} (h : inGroupEv j s u) (k : Nat) : u.gr k = s.gr k := by rw [h.1]; rfl

/-- What shows of a line that becomes active. -/
theorem State.lineActivate_shows (hfree : lineFree j s) (hj : j < 128) (hi : i < 4) (hn : n / 8 = j) (hsrc : s.lineSrc j i = true)
    (hact : (s.gr j).act.testBit i = false) {hit : List Nat} (hhit : hit = (upFrom (8 * j) 8).filter (fun m => (s.rd TRIPCTL.LEN m).testBit i)) :
    s.lineActivate j i = { s with
        now := (s.lineActivate j i).now, regs := (s.lineActivate j i).regs, chan := (s.lineActivate j i).chan, grp := (s.lineActivate j i).grp,
        fab := (s.lineActivate j i).fab, pw := (s.lineActivate j i).pw, teth := (s.lineActivate j i).teth, tp := (s.lineActivate j i).tp } ∧
      (∀ m, m / 8 ≠ j → (s.lineActivate j i).ch m = s.ch m) ∧ (∀ k, k ≠ j → (s.lineActivate j i).gr k = s.gr k) ∧
      ((s.lineActivate j i).gr j).act.testBit i = true ∧ regsKeptEv s (s.lineActivate j i) (TLSTAT.WHOLE.adr j 0 :: tripRegs j) ∧
      ((s.lineActivate j i).rd TLSTAT.SEEN j).testBit i = true ∧
      ((s.rd TRIPCTL.LEN n).testBit i = true → (s.lineActivate j i).rd TRIPSTAT.TRIPPED n = 1 ∧
        ((s.lineActivate j i).rd TRIPSTAT.LLINES n).testBit i = true) ∧
      ((s.rd TRIPCTL.LEN n).testBit i = false → (s.rd TRIPCTL.CBCEN n).testBit i = true →
        ((s.ch n).pin.onAt = 0 ∨ (s.ch n).pin.onAt + ns (s.rd TRIPCTL.BLANK n) ≤ s.lineCross j i) →
        (s.lineActivate j i).rd TRIPSTAT.CBCACT n = 1 ∧
          (s.lineActivate j i).rd TRIPSTAT.CBCCNT n = satTo 0xFFFF (s.rd TRIPSTAT.CBCCNT n + 1)) ∧
      evLike ((lineEvents (s.fineAt 0 (s.lineCross j i)) j i hit).foldl (fun x e => x.raiseEv e) s) (s.lineActivate j i) := by
  rw [State.lineActivate_eq hsrc hact hfree hj hi hhit]
  generalize s.lineCross j i = a
  obtain ⟨hsframe, hsch, hsgr, hsact, hskept, hseen, -⟩ := s.lineShown_shows hj hi a
  obtain ⟨hrgroup, hrfree, hrkept, hrlike, hrown⟩ := State.lineReported_shows (n := n) hfree hj hi a hhit
  obtain ⟨hrout, hrin⟩ := hrown hn
  generalize s.lineReported j i a hit = r at *
  generalize s.lineShown j i a = b at *
  obtain ⟨hugroup, hukept, hulike⟩ := State.lineSteps_shows hrfree hj i a
  obtain ⟨c, hcfree, hckept, hcalone, halone⟩ := State.lineSteps_once hrfree hj hn i a
  generalize (upFrom (8 * j) 8).foldl (State.lineStep i a) r = u at *
  have hbu : regsKeptEv b u (tripRegs j) := hrkept.trans (.of_kept hukept)
  have hgr (k : Nat) : u.gr k = b.gr k := (hugroup.ev.gr k).trans (hrgroup.gr k)
  have hotherReg (F : RField) (hF : F.blk = .ch ∧ F.stride = 0 ∧ F.off < 0x1000 ∧ F.off ≠ TRIPSTAT.WHOLE.off ∧ F.off ≠ 0x220) :
      c.rd F n = s.rd F n := by
    obtain ⟨hb, hs, ho, hne, hnl⟩ := hF
    have hnot : F.adr n 0 ∉ tripRegs j := not_mem_tripRegs hb hs ho hne
    rw [State.rd, State.rd, hckept _ hnot, hrkept _ hnot (evReg_ch hb), hskept _ (TLSTAT_notTrip _ _ ⟨hb, hs, ho, hnl⟩)]
  have hstat (F : RField) (hF : F.blk = .ch ∧ F.stride = 0 ∧ F.off < 0x1000 ∧ F.off ≠ 0x220) : b.rd F n = s.rd F n := by
    rw [State.rd, State.rd, hskept _ (TLSTAT_notTrip _ _ hF)]
  have hustat (F : RField) (hF : F.adr n 0 = TRIPSTAT.WHOLE.adr n 0) : u.rd F n = (c.cbcLine n i a).rd F n :=
    chanAlone.rd (F := F) (hF.symm ▸ halone)
  refine ⟨?_, fun m hm => ?_, fun k hk => ?_, ?_, ?_, ?_, fun hlen => ?_, fun hlen hcbc hblank => ?_, hrlike.trans hulike⟩
  · rw [hugroup.1, hrgroup.1, hsframe]
  · rw [hugroup.2 m hm, hrgroup.2 m hm, hsch]
  · rw [hgr, hsgr k hk]
  · rw [hgr]
    exact hsact
  · intro x hx he
    rw [hbu x (fun h => hx (List.mem_cons_of_mem _ h)) he, hskept x (fun h => hx (List.mem_singleton.mp h ▸ List.mem_cons_self ..))]
  · have hnot : TLSTAT.SEEN.adr j 0 ∉ tripRegs j := by
      intro h
      obtain ⟨m, -, hm⟩ := List.mem_map.mp h
      exact grpAdr_ne (G := TRIPSTAT.WHOLE) rfl (.inl rfl) rfl (by decide) (by decide) (by decide) hm.symm
    rw [State.rd, hbu _ hnot (evReg_grp rfl)]
    exact hseen
  · have hskip : c.cbcLine n i a = c := by
      rw [State.cbcLine]
      refine if_pos (.inr ?_)
      rw [hotherReg _ (by decide), bitAt_eq_testBit]
      exact hlen
    have hcr (F : RField) (hF : F.adr n 0 = TRIPSTAT.WHOLE.adr n 0) : u.rd F n = r.rd F n := by
      rw [hustat F hF, hskip]
      exact chanAlone.rd (F := F) (hF.symm ▸ hcalone)
    rw [hcr TRIPSTAT.TRIPPED rfl, hcr TRIPSTAT.LLINES rfl]
    exact hrin hlen
  · have hcs : chanAlone n (TRIPSTAT.WHOLE.adr n 0) b c := (hrout hlen).trans hcalone
    have hacts : c.cbcLine n i a = c.cbcTrip n a := by
      rw [State.cbcLine, hotherReg _ (by decide), hotherReg _ (by decide), hotherReg _ (by decide), bitAt_eq_testBit, bitAt_eq_testBit, hlen, hcbc,
        hcs.1, hsch]
      simp only [not_true_eq_false, Bool.false_eq_true, or_self, if_false]
      exact if_neg (by omega)
    obtain ⟨-, -, -, -, -, hon, hcnt, -⟩ := c.cbcTrip_shows a (hcfree n hn).1 hn hj
    rw [hustat TRIPSTAT.CBCACT rfl, hustat TRIPSTAT.CBCCNT rfl, hacts, hon, hcnt, chanAlone.rd (F := TRIPSTAT.CBCCNT) hcs, hstat _ (by decide)]
    exact ⟨rfl, rfl⟩

/-- The instant at which an active line crossed is the same later. -/
theorem State.lineCross_advance (hsrc : (s.advance t).lineSrc j i = true) : (s.advance t).lineCross j i = s.lineCross j i := by
  have hcase : (s.advance t).rd TLCFG.TYPE j i = 1 ∨ (s.advance t).rd TLCFG.TYPE j i = 2 := by
    rw [State.lineSrc] at hsrc
    split at hsrc
    · exact .inl ‹_›
    · exact .inr ‹_›
    · exact absurd hsrc (by decide)
  rw [State.advance_rd] at hcase
  rw [State.lineCross, State.lineCross, State.advance_rd]
  rcases hcase with h | h
  · rw [h]
    rfl
  · rw [h]
    rfl

theorem tripLineActivation_shows (hn : n < 1024) (hi : i < 4)
    (hfree : ∀ m, m / 8 = n / 8 → s.paired m = false ∧ s.on TERMCTL.TEN m = false) (hsrc : (s.advance t).lineSrc (n / 8) i = true)
    (hact : (s.gr (n / 8)).act.testBit i = false) {hit : List Nat}
    (hhit : hit = (upFrom (8 * (n / 8)) 8).filter (fun m => (s.rd TRIPCTL.LEN m).testBit i)) :
    ∃ u, exec (.tripLineActivation t (n / 8) i) s = .next u ∧
      u = { s with now := u.now, regs := u.regs, chan := u.chan, grp := u.grp, fab := u.fab, pw := u.pw, teth := u.teth, tp := u.tp } ∧
      (∀ m, m / 8 ≠ n / 8 → u.ch m = s.ch m) ∧ (∀ k, k ≠ n / 8 → u.gr k = s.gr k) ∧ (u.gr (n / 8)).act.testBit i = true ∧
      regsKeptEv s u (TLSTAT.WHOLE.adr (n / 8) 0 :: tripRegs (n / 8)) ∧ (u.rd TLSTAT.SEEN (n / 8)).testBit i = true ∧
      ((s.rd TRIPCTL.LEN n).testBit i = true → u.rd TRIPSTAT.TRIPPED n = 1 ∧ (u.rd TRIPSTAT.LLINES n).testBit i = true ∧ u.stage5 n = .z) ∧
      ((s.rd TRIPCTL.LEN n).testBit i = false → (s.rd TRIPCTL.CBCEN n).testBit i = true →
        ((s.ch n).pin.onAt = 0 ∨ (s.ch n).pin.onAt + ns (s.rd TRIPCTL.BLANK n) ≤ s.lineCross (n / 8) i) →
        u.rd TRIPSTAT.CBCACT n = 1 ∧ u.rd TRIPSTAT.CBCCNT n = satTo 0xFFFF (s.rd TRIPSTAT.CBCCNT n + 1) ∧ u.lvl2 n = false) ∧
      raised s u t (lineEvents (s.fineAt 0 (s.lineCross (n / 8) i)) (n / 8) i hit) := by
  have hj : n / 8 < 128 := by omega
  have hcross := State.lineCross_advance hsrc
  obtain ⟨hframe, hch, hgr, hon, hkept, hseen, htrip, hcbc, hlike⟩ := State.lineActivate_shows (s := s.advance t) (lineFree_of rfl hfree) hj hi rfl hsrc hact hhit
  rw [hcross, State.fineAt_advance] at hlike
  rw [hcross] at hcbc
  refine ⟨_, s.ran_ok ((s.advance t).lineActivate (n / 8) i) _ (by simp [hj, hi]), ?_⟩
  generalize (s.advance t).lineActivate (n / 8) i = u at *
  refine ⟨?_, hch, hgr, hon, hkept.ran, hseen, fun hlen => ?_, fun hlen hen hblank => ?_, raised_of_evLike (hlike.trans (.withQueue _ _))⟩
  · rw [hframe]
    rfl
  · obtain ⟨htripped, hlines⟩ := htrip hlen
    exact ⟨htripped, hlines, (State.stage5_withQueue _ _ _).trans (State.stage5_tripped htripped)⟩
  · obtain ⟨hact, hcnt⟩ := hcbc hlen hen hblank
    exact ⟨hact, hcnt, (State.lvl2_withQueue _ _ _).trans (State.lvl2_terminated hact)⟩

/-! The end of the blanking window (R195). -/

@[simp] theorem State.modPin_cap (s : State) (n m : Nat) (f : ChPin → ChPin) : ((s.modPin n f).ch m).cap = (s.ch m).cap := by
  by_cases h : m = n
  · rw [h, State.modPin_ch]
  · rw [State.modPin_ch_ne _ _ _ _ h]


theorem State.modPin_lineSrc (s : State) (n : Nat) (f : ChPin → ChPin) : (s.modPin n f).lineSrc j i = s.lineSrc j i := by
  rw [State.lineSrc, State.lineSrc]
  simp only [State.on, State.modPin_rd, State.modPin_cap, State.modPin_now]

theorem State.modPin_lineCross (s : State) (n : Nat) (f : ChPin → ChPin) : (s.modPin n f).lineCross j i = s.lineCross j i := by
  rw [State.lineCross, State.lineCross]
  simp only [State.modPin_rd, State.modPin_cap, State.modPin_now]
  rfl

theorem bitAt_cbc (k : Nat) : bitAt (2 ^ i) k = decide (k = i) := bitAt_two_pow k

/-- The end of the blanking of a channel whose pulses one line alone ends. -/
theorem State.blankEnd_shows (hblank : (s.ch n).pin.blanking = true) (hcbc : s.rd TRIPCTL.CBCEN n = 2 ^ i) (hi : i < 4) (hn : n < 1024)
    (hlen : (s.rd TRIPCTL.LEN n).testBit i = false) {e : Nat} (he : e = (s.ch n).pin.onAt + ns (s.rd TRIPCTL.BLANK n)) (hdue : e ≤ s.now)
    (hpair : s.paired n = false) (hten : s.on TERMCTL.TEN n = false) :
    s.blankEnd n = if (s.lineSrc (n / 8) i && decide (s.lineCross (n / 8) i < e)) = true
      then (s.modPin n (fun p => { p with blanking := false })).cbcTrip n e else s.modPin n (fun p => { p with blanking := false }) := by
  rw [State.blankEnd]
  generalize hb : s.modPin n (fun p => { p with blanking := false }) = b
  have hbrd (F : RField) : b.rd F n = s.rd F n := by rw [← hb, State.modPin_rd]
  have hbpair : b.paired n = false := by
    rw [← hb]
    exact hpair
  obtain ⟨-, hkept, -⟩ := b.cbcTrip_shows e hbpair rfl (by omega)
  have htrd (F : RField) (hF : F.blk = .ch ∧ F.stride = 0 ∧ F.off < 0x1000 ∧ F.off ≠ TRIPSTAT.WHOLE.off) : (b.cbcTrip n e).rd F n = s.rd F n := by
    obtain ⟨hb, hs, ho, hne⟩ := hF
    rw [State.rd, hkept _ (by
      rw [List.mem_singleton]
      exact chField_ne hb rfl hs rfl ho (by decide) hne)]
    exact hbrd F
  set acts := fun (s : State) (k : Nat) => bitAt (s.rd TRIPCTL.CBCEN n) k && !bitAt (s.rd TRIPCTL.LEN n) k && s.lineAct (n / 8) k &&
    decide (s.lineCross (n / 8) k < e) with hacts
  have hone : acts b i = (s.lineSrc (n / 8) i && decide (s.lineCross (n / 8) i < e)) := by
    rw [hacts]
    dsimp only
    rw [hbrd, hbrd, hcbc, bitAt_cbc, bitAt_eq_testBit, hlen, State.lineAct, ← hb, State.modPin_lineSrc, State.modPin_lineCross]
    simp
  obtain ⟨c, -, hc, hlast⟩ := foldl_once (K := fun x y => x.rd TRIPCTL.CBCEN n = 2 ^ i → y = x) (f := fun s k => if acts s k then s.cbcTrip n e else s)
    (l := upFrom 0 4) (n := i) (fun _ _ => rfl) (fun h k hx => by
      have h := h hx
      rw [k (h ▸ hx), h]) ((upFrom_mem _ _ _).mpr ⟨Nat.zero_le _, by omega⟩) (upFrom_nodup _ _) (fun x k _ hk hx => by
      have hno : acts x k = false := by
        rw [hacts]
        dsimp only
        rw [hx, bitAt_cbc, decide_eq_false hk]
        simp
      rw [hno]
      rfl) b
  have hcb : c = b := hc (by rw [hbrd, hcbc])
  rw [hcb] at hlast
  have hfold : (upFrom 0 4).foldl (fun s k => if acts s k then s.cbcTrip n e else s) b = if acts b i then b.cbcTrip n e else b := by
    refine hlast ?_
    split
    · rw [htrd _ (by decide), hcbc]
    · rw [hbrd, hcbc]
  have hno : ¬ (s.now < e ∨ ¬ (s.ch n).pin.blanking = true) := by
    rw [hblank]
    simp [hdue]
  rw [← he]
  dsimp only
  rw [if_neg hno]
  change (if _ then State.terminate ((upFrom 0 4).foldl (fun s k => if acts s k then s.cbcTrip n e else s) b) n _
    else (upFrom 0 4).foldl (fun s k => if acts s k then s.cbcTrip n e else s) b) = _
  rw [hfold, hone]
  have hfree : ∀ o, (if (s.lineSrc (n / 8) i && decide (s.lineCross (n / 8) i < e)) = true then b.cbcTrip n e else b).terminate n o =
      if (s.lineSrc (n / 8) i && decide (s.lineCross (n / 8) i < e)) = true then b.cbcTrip n e else b := by
    intro o
    split
    · refine State.terminate_free _ ?_
      rw [State.on, htrd _ (by decide)]
      exact hten
    · refine State.terminate_free _ ?_
      rw [State.on, hbrd]
      exact hten
  rw [hfree, ite_self]

theorem blankWindowEnd_shows (hn : n < 1024) (hi : i < 4) (hnow : s.now ≤ t)
    (hpair : s.paired n = false) (hten : s.on TERMCTL.TEN n = false) {e : Nat} (he : e = (s.ch n).pin.onAt + ns (s.rd TRIPCTL.BLANK n)) {hits : Bool}
    (hhits : hits = ((s.advance t).lineSrc (n / 8) i && decide (s.lineCross (n / 8) i < e))) (hblank : (s.ch n).pin.blanking = true)
    (hcbc : s.rd TRIPCTL.CBCEN n = 2 ^ i) (hlen : (s.rd TRIPCTL.LEN n).testBit i = false) (hdue : e ≤ t) :
    ∃ u, exec (.blankWindowEnd t n) s = .next u ∧ onlyChan s u n ∧ regsKept s u [TRIPSTAT.WHOLE.adr n 0] ∧
      (u.ch n).pin.blanking = false ∧ (u.ch n).pin.lvl = (s.ch n).pin.lvl ∧
      u.rd TRIPSTAT.CBCACT n = (if hits then 1 else s.rd TRIPSTAT.CBCACT n) ∧
      u.rd TRIPSTAT.CBCCNT n = (if hits then satTo 0xFFFF (s.rd TRIPSTAT.CBCCNT n + 1) else s.rd TRIPSTAT.CBCCNT n) := by
  have hhits' : ((s.advance t).lineSrc (n / 8) i && decide ((s.advance t).lineCross (n / 8) i < e)) = hits := by
    rw [hhits]
    cases hsrc : (s.advance t).lineSrc (n / 8) i with
    | false => rfl
    | true => rw [State.lineCross_advance hsrc]
  have hend := State.blankEnd_shows (s := s.advance t) hblank hcbc hi hn hlen he (by rw [State.advance_now_of_le hnow]; exact hdue) hpair hten
  rw [hhits'] at hend
  refine ⟨_, s.ran_ok ((s.advance t).blankEnd n) _ (decide_eq_true hn), ?_⟩
  rw [hend]
  generalize hb : (s.advance t).modPin n (fun p => { p with blanking := false }) = b
  have hbonly : onlyChan (s.advance t) b n := hb ▸ .modPin _ _ _
  have hbregs : b.regs = s.regs := hb ▸ rfl
  have hbpin : (b.ch n).pin.blanking = false ∧ (b.ch n).pin.lvl = (s.ch n).pin.lvl := by
    rw [← hb, State.modPin_pin]
    exact ⟨rfl, rfl⟩
  have hbpair : b.paired n = false := hb ▸ hpair
  obtain ⟨-, hkept, -, honly, -, hon, hcnt, hlevels, hblk⟩ := b.cbcTrip_shows e hbpair rfl (by omega)
  cases hits with
  | false => exact ⟨hbonly.ran, .of_regs hbregs, hbpin.1, hbpin.2, State.rd_of_regs _ _ _ _ _ hbregs, State.rd_of_regs _ _ _ _ _ hbregs⟩
  | true =>
    rw [if_pos rfl, if_pos rfl, if_pos rfl]
    refine ⟨(hbonly.trans honly).ran, regsKept.ran (t := t) (.trans (.of_regs hbregs) hkept), ?_, ?_, ?_, ?_⟩
    · rw [State.ch_withQueue, hblk, hbpin.1]
    · rw [State.ch_withQueue, (hlevels n).2, hbpin.2]
    · rw [State.withQueue_rd, hon]
    · rw [State.withQueue_rd, hcnt, State.rd_of_regs _ _ _ _ _ hbregs]

end

end Sys2Proof.Machine
end

section
/-! PROOFS. Protection (chapter 7): clears, force orders and safe states. -/
namespace Sys2Proof.Machine
open Reg

section
variable {s u : State} {j i n t : Nat}

/-- Whether a channel is stopped shows alike where CHSTAT and PWMCTL do. -/
theorem State.stopped_congr (h : ∀ F : RField, ∀ m, F = CHSTAT.STATE ∨ F = PWMCTL.PAIR → u.rd F m = s.rd F m) (n : Nat) : u.stopped n = s.stopped n := by
  have hpair : u.paired n = s.paired n := by rw [State.paired, State.paired, State.on, State.on, h _ _ (.inr rfl)]
  have hst : u.chSt n = s.chSt n := by rw [State.chSt, State.chSt, State.leader, State.leader, hpair, h _ _ (.inl rfl)]
  rw [State.stopped, State.stopped, hst]

theorem State.stopped_wr (s : State) (F : RField) (v m n : Nat) (hF : F.blk = .ch ∧ F.stride = 0 ∧ F.off < 0x1000 ∧ F.off ≠ CHSTAT.STATE.off ∧
    F.off ≠ PWMCTL.PAIR.off) : (s.wr F v m).stopped n = s.stopped n := by
  obtain ⟨hb, hs, ho, hst, hp⟩ := hF
  refine State.stopped_congr (fun G k hG => ?_) n
  rcases hG with rfl | rfl
  · exact State.wr_rd_ne _ _ _ _ _ _ _ _ (chField_ne rfl hb rfl hs (by decide) ho hst.symm)
  · exact State.wr_rd_ne _ _ _ _ _ _ _ _ (chField_ne rfl hb rfl hs (by decide) ho hp.symm)

@[simp] theorem State.stopped_modPin (s : State) (m n : Nat) (f : ChPin → ChPin) : (s.modPin m f).stopped n = s.stopped n := (rfl)
@[simp] theorem State.stopped_advance (s : State) (t n : Nat) : (s.advance t).stopped n = s.stopped n := (rfl)

/-! ### Clearing a trip (R196) -/

theorem State.tripClear_busy (hpair : s.paired n = false) (hi : i < 4) (hlen : (s.rd TRIPCTL.LEN n).testBit i = true)
    (hact : s.lineSrc (n / 8) i = true) : s.tripClear n = s.wr TRIPSTAT.CLRREF 1 n := by
  rw [State.tripClear, hpair]
  refine if_pos ?_
  simp only [Bool.false_eq_true, if_false, List.any_cons, List.any_nil, Bool.or_false, List.any_eq_true]
  refine ⟨i, ?_, hact⟩
  rw [onesOf, List.mem_filter, upFrom_mem, bitAt_eq_testBit]
  exact ⟨⟨Nat.zero_le _, by omega⟩, hlen⟩

/-- A channel whose trip is cleared. -/
theorem State.tripClear_free (hpair : s.paired n = false) (hno : ∀ k, k < 4 → (s.rd TRIPCTL.LEN n).testBit k = true → s.lineSrc (n / 8) k = false)
    {w : State} (hw : w = ((s.wr TRIPSTAT.TRIPPED 0 n).wr TRIPSTAT.PAIRTRIP 0 n).wr TRIPSTAT.LLINES 0 n) :
    s.tripClear n = (w.modPin n (fun p => { p with
      clrWait := (s.on TRIPSTAT.TRIPPED n || s.on TRIPSTAT.PAIRTRIP n) && !w.stopped n })).modPin (n / 2 * 2) (fun p => p) := by
  have hwpair : w.paired n = false := by
    rw [hw, State.paired, State.on]
    iterate 3 rw [State.wr_rd_ne _ _ _ _ _ _ _ _ (chField_ne rfl rfl rfl rfl (by decide) (by decide) (by decide))]
    exact hpair
  have hfree : ((if false = true then [n, partner n] else [n]).any
      (fun c => (onesOf (s.rd TRIPCTL.LEN c) 4).any (fun i => s.lineAct (c / 8) i))) = false := by
    simp only [Bool.false_eq_true, if_false, List.any_cons, List.any_nil, Bool.or_false, List.any_eq_false]
    intro k hk
    rw [onesOf, List.mem_filter, upFrom_mem, bitAt_eq_testBit] at hk
    obtain ⟨⟨-, hk4⟩, hlen⟩ := hk
    rw [State.lineAct, hno k (by omega) hlen]
    decide
  rw [State.tripClear, hpair]
  dsimp only
  rw [hfree, if_neg (by decide), if_neg (by decide), List.foldl_cons, List.foldl_nil]
  have hwr : s.wrs n [(TRIPSTAT.TRIPPED, 0), (TRIPSTAT.PAIRTRIP, 0), (TRIPSTAT.LLINES, 0)] = w := hw.symm
  rw [hwr]
  generalize hv : w.modPin n _ = v
  have hvpair : v.paired n = false := by
    rw [← hv]
    exact hwpair
  rw [hvpair]
  rfl

theorem State.modPin_id_ch (s : State) (m k : Nat) : (s.modPin m (fun p => p)).ch k = s.ch k := by
  by_cases h : k = m
  · rw [h, State.modPin_ch]
  · rw [State.modPin_ch_ne _ _ _ _ h]

theorem State.modPin_frame (s : State) (m : Nat) (f : ChPin → ChPin) :
    s.modPin m f = { s with now := (s.modPin m f).now, regs := (s.modPin m f).regs, chan := (s.modPin m f).chan } := (rfl)

theorem tripclrClr_shows {src : Src} {w : Word} (hn : n < 1024) (hi : i < 4) (hpair : s.paired n = false) (hsrc : src.ok = true)
    (happ : s.applies src (TRIPCLR.WHOLE.adr n 0) = true) :
    ∃ u, exec (.tripclrClr t src n w) s = .next u ∧ onlyChan s u n ∧ regsKept s u [TRIPSTAT.WHOLE.adr n 0] ∧
      ((∀ k, k < 4 → (s.rd TRIPCTL.LEN n).testBit k = true → (s.advance t).lineSrc (n / 8) k = false) →
        u.rd TRIPSTAT.TRIPPED n = 0 ∧ u.rd TRIPSTAT.PAIRTRIP n = 0 ∧ u.rd TRIPSTAT.LLINES n = 0 ∧
        u.rd TRIPSTAT.CLRREF n = s.rd TRIPSTAT.CLRREF n ∧
        (u.ch n).pin.clrWait = ((s.on TRIPSTAT.TRIPPED n || s.on TRIPSTAT.PAIRTRIP n) && !s.stopped n)) ∧
      ((s.rd TRIPCTL.LEN n).testBit i = true → (s.advance t).lineSrc (n / 8) i = true →
        u.rd TRIPSTAT.CLRREF n = 1 ∧ u.rd TRIPSTAT.TRIPPED n = s.rd TRIPSTAT.TRIPPED n ∧ u.ch n = s.ch n) := by
  have hex := does_of_applies (i := .tripclrClr t src n w) (t := t) happ rfl (by simp [hsrc, hn])
  rw [does] at hex
  by_cases hno : ∀ k, k < 4 → (s.rd TRIPCTL.LEN n).testBit k = true → (s.advance t).lineSrc (n / 8) k = false
  · set v := (((s.advance t).wr TRIPSTAT.TRIPPED 0 n).wr TRIPSTAT.PAIRTRIP 0 n).wr TRIPSTAT.LLINES 0 n with hv
    have hst : v.stopped n = s.stopped n := by
      rw [hv, State.stopped_wr _ _ _ _ _ (by decide), State.stopped_wr _ _ _ _ _ (by decide), State.stopped_wr _ _ _ _ _ (by decide),
        State.stopped_advance]
    have heq := State.tripClear_free (s := s.advance t) hpair hno hv
    rw [hst] at heq
    rw [heq] at hex
    have hvonly : onlyChan (s.advance t) v n := ((onlyChan.wr _ _ _ _ _ _).trans (.wr _ _ _ _ _ _)).trans (.wr _ _ _ _ _ _)
    have hvkept : regsKept (s.advance t) v [TRIPSTAT.WHOLE.adr n 0] :=
      ((regsKept.wr _ TRIPSTAT.TRIPPED _ _ _ (List.mem_singleton.mpr rfl)).trans (.wr _ TRIPSTAT.PAIRTRIP _ _ _ (List.mem_singleton.mpr rfl))).trans
        (.wr _ TRIPSTAT.LLINES _ _ _ (List.mem_singleton.mpr rfl))
    have hvrd : v.rd TRIPSTAT.TRIPPED n = 0 ∧ v.rd TRIPSTAT.PAIRTRIP n = 0 ∧ v.rd TRIPSTAT.LLINES n = 0 ∧ v.rd TRIPSTAT.CLRREF n = s.rd TRIPSTAT.CLRREF n := by
      refine ⟨?_, ?_, State.wr_rd _ _ _ _ _ (by decide), ?_⟩
      · rw [hv, State.wr_rd_other _ _ _ _ _ _ _ _ (by decide) (by decide), State.wr_rd_other _ _ _ _ _ _ _ _ (by decide) (by decide),
          State.wr_rd _ _ _ _ _ (by decide)]
        rfl
      · rw [hv, State.wr_rd_other _ _ _ _ _ _ _ _ (by decide) (by decide), State.wr_rd _ _ _ _ _ (by decide)]
        rfl
      · rw [hv]
        iterate 3 rw [State.wr_rd_other _ _ _ _ _ _ _ _ (by decide) (by decide)]
        rw [State.advance_rd]
    clear_value v
    refine ⟨_, hex, ?_, ?_, fun _ => ?_, fun hlen hact => absurd (hact.symm.trans (hno i hi hlen)) (by decide)⟩
    · refine onlyChan.ran ((hvonly.trans (.modPin _ _ _)).trans ⟨State.modPin_frame _ _ _, fun m _ => State.modPin_id_ch _ _ _⟩)
    · exact regsKept.ran (t := t) (hvkept.trans (.of_regs ((State.modPin_regs _ _ _).trans (State.modPin_regs _ _ _))))
    · obtain ⟨h1, h2, h3, h4⟩ := hvrd
      simp only [State.withQueue_rd, State.modPin_rd]
      refine ⟨h1, h2, h3, h4, ?_⟩
      rw [State.ch_withQueue, State.modPin_id_ch, State.modPin_pin]
      simp only [State.on, State.advance_rd]
  · obtain ⟨k, hk, hlen, hact⟩ : ∃ k, k < 4 ∧ (s.rd TRIPCTL.LEN n).testBit k = true ∧ (s.advance t).lineSrc (n / 8) k = true := by
      push Not at hno
      obtain ⟨k, hk, hlen, hact⟩ := hno
      exact ⟨k, hk, hlen, by simpa using hact⟩
    have heq : (s.advance t).tripClear n = (s.advance t).wr TRIPSTAT.CLRREF 1 n := State.tripClear_busy (s := s.advance t) hpair hk hlen hact
    rw [heq] at hex
    refine ⟨_, hex, onlyChan.ran (.wr _ _ _ _ _ _), regsKept.ran (t := t) (.wr _ TRIPSTAT.CLRREF _ _ _ (List.mem_singleton.mpr rfl)),
      fun h => absurd h hno, fun _ _ => ⟨?_, ?_, ?_⟩⟩
    · rw [State.withQueue_rd, State.wr_rd _ _ _ _ _ (by decide)]
      rfl
    · rw [State.withQueue_rd, State.wr_rd_other _ _ _ _ _ _ _ _ (by decide) (by decide), State.advance_rd]
    · rw [State.ch_withQueue, State.ch_wr, State.ch_advance]

end


/-! ### Force orders (R198) -/

section
variable {s u : State} {i n t : Nat} {src : Src}

theorem forceWord_fields {ord sync mask : Nat} (ho : ord < 8) (hs : sync < 4) (hm : mask < 256) :
    FORCE.ORD.of (forceWord ord sync mask) = ord ∧ FORCE.FSYNC.of (forceWord ord sync mask) = sync ∧
      GFORCE.ORD.of (forceWord ord sync mask) = ord ∧ GFORCE.FSYNC.of (forceWord ord sync mask) = sync ∧
      GFORCE.MASK.of (forceWord ord sync mask) = mask := by
  have hw : (forceWord ord sync mask).toNat = ord * 2 ^ 29 + sync * 2 ^ 27 + mask := by
    rw [forceWord, BitVec.toNat_ofNat]
    omega
  simp only [RField.of, bitsAt, hw, FORCE.ORD, FORCE.FSYNC, GFORCE.ORD, GFORCE.FSYNC, GFORCE.MASK]
  omega

/-- The force commands, with the orders they place. -/
def forceCommand (t : Nat) (src : Src) (n : Nat) (c : (Nat → Instr) × Nat) : Prop :=
  c = (Instr.forceRelease t src n, 1) ∨ c = (Instr.forceHigh t src n, 2) ∨ c = (Instr.forceLow t src n, 3) ∨ c = (Instr.forceHiz t src n, 4)

theorem forceCommand.places {c : (Nat → Instr) × Nat} (hc : forceCommand t src n c) (hn : n < 1024) (hsrc : src.ok = true)
    (happ : s.applies src (FORCE.WHOLE.adr n 0) = true) {sync : Nat} (hsync : sync < 4) :
    does (c.1 sync) t s (fun x => x.forceOrder n c.2 sync) ∧ c.2 ≠ 0 ∧ c.2 ≤ 4 := by
  have hok : (src.ok && decide (n < 1024)) = true := by simp [hsrc, hn]
  have key (k : Nat) (hk : k < 8) (i : Instr) (hex : does i t s (fun x => x.forceWrite n (forceWord k sync 0))) : does i t s (fun x => x.forceOrder n k sync) := by
    obtain ⟨hord, hfs, -⟩ := forceWord_fields hk hsync (mask := 0) (by decide)
    rw [does] at hex ⊢
    rw [hex, State.forceWrite, hord, hfs]
  rcases hc with rfl | rfl | rfl | rfl
  · exact ⟨key 1 (by decide) _ (does_of_applies happ rfl hok), (by decide : (1 : ℕ) ≠ 0), (by decide : (1 : ℕ) ≤ 4)⟩
  · exact ⟨key 2 (by decide) _ (does_of_applies happ rfl hok), (by decide : (2 : ℕ) ≠ 0), (by decide : (2 : ℕ) ≤ 4)⟩
  · exact ⟨key 3 (by decide) _ (does_of_applies happ rfl hok), (by decide : (3 : ℕ) ≠ 0), (by decide : (3 : ℕ) ≤ 4)⟩
  · exact ⟨key 4 (by decide) _ (does_of_applies happ rfl hok), (by decide : (4 : ℕ) ≠ 0), (by decide : (4 : ℕ) ≤ 4)⟩

/-- An order waits at its channel. -/
def State.forceWaits (s : State) (n : Nat) (w : FWait) : State := s.modPin n (fun p => { p with fwait := some w })

/-- The channel with the order that waits. -/
def Chan.waiting (c : Chan) (w : FWait) : Chan := { c with pin := { c.pin with fwait := some w } }

theorem forceWaits_ran {i₀ : Instr} (w : FWait) (hi : exec i₀ s = .next (((s.advance t).forceWaits n w).withQueue s.pending)) :
    ∃ u, exec i₀ s = .next u ∧ onlyChan s u n ∧ u.regs = s.regs ∧ u.ch n = (s.ch n).waiting w := by
  refine ⟨_, hi, onlyChan.ran (.modPin _ _ _), rfl, ?_⟩
  rw [State.ch_withQueue, State.forceWaits, State.modPin_ch, State.ch_advance]
  rfl

theorem force_immediate {c : (Nat → Instr) × Nat} (hc : forceCommand t src n c) (hn : n < 1024) (hsrc : src.ok = true) (hnow : s.now ≤ t)
    (happ : s.applies src (FORCE.WHOLE.adr n 0) = true) :
    ∃ u, exec (c.1 0) s = .next u ∧ onlyChan s u n ∧ u.regs = s.regs ∧ u.ch n = (s.ch n).waiting ⟨c.2, t + ns 40, false, false⟩ := by
  obtain ⟨hex, hne, hle⟩ := hc.places hn hsrc happ (sync := 0) (by decide)
  rw [does] at hex
  refine forceWaits_ran (t := t) _ (hex.trans ?_)
  rw [State.forceOrder, if_neg (by omega), if_pos (.inl rfl), State.advance_now_of_le hnow]
  rfl

theorem force_atPeriod {c : (Nat → Instr) × Nat} (hc : forceCommand t src n c) (hn : n < 1024) (hsrc : src.ok = true) (hnow : s.now ≤ t)
    (happ : s.applies src (FORCE.WHOLE.adr n 0) = true) (hrun : s.stopped n = false) :
    ∃ u, exec (c.1 1) s = .next u ∧ onlyChan s u n ∧ u.regs = s.regs ∧ u.ch n = (s.ch n).waiting ⟨c.2, t + ns 40, false, true⟩ := by
  obtain ⟨hex, hne, hle⟩ := hc.places hn hsrc happ (sync := 1) (by decide)
  rw [does] at hex
  refine forceWaits_ran (t := t) _ (hex.trans ?_)
  rw [State.forceOrder, if_neg (by omega), if_neg (by simp [hrun]), if_pos rfl, State.advance_now_of_le hnow]
  rfl

theorem force_atInstant {c : (Nat → Instr) × Nat} (hc : forceCommand t src n c) (hn : n < 1024) (hsrc : src.ok = true) (hnow : s.now ≤ t)
    (happ : s.applies src (FORCE.WHOLE.adr n 0) = true) {x soon : Nat} (hx : x = ns (s.rd64 FORCEAT_LO.VALUE FORCEAT_HI.VALUE (n / 8)))
    (hsoon : soon = s.fineAt 0 t + (s.advance t).span 0 (ns 40)) :
    (soon ≤ x → ∃ u, exec (c.1 2) s = .next u ∧ onlyChan s u n ∧ u.regs = s.regs ∧ u.ch n = (s.ch n).waiting ⟨c.2, x, true, false⟩) ∧
      (x < soon → ∃ u, exec (c.1 2) s = .next u ∧ onlyChan s u n ∧ regsKept s u [FORCEST.WHOLE.adr n 0] ∧
        u.rd FORCEST.LATE n = 1 ∧ u.ch n = (s.ch n).waiting ⟨c.2, t + ns 40, false, false⟩) := by
  obtain ⟨hex, hne, hle⟩ := hc.places hn hsrc happ (sync := 2) (by decide)
  rw [does] at hex
  have hxs : ns ((s.advance t).rd64 FORCEAT_LO.VALUE FORCEAT_HI.VALUE (n / 8)) = x := hx.symm
  have hss : (s.advance t).fine 0 + (s.advance t).span 0 (ns 40) = soon := by
    rw [hsoon, State.fine, State.advance_now_of_le hnow, State.fineAt_advance]
  have heq : (s.advance t).forceOrder n c.2 2 = if x < soon then ((s.advance t).wr FORCEST.LATE 1 n).forceWaits n ⟨c.2, t + ns 40, false, false⟩
      else (s.advance t).forceWaits n ⟨c.2, x, true, false⟩ := by
    rw [State.forceOrder, if_neg (by omega), if_neg (by simp), if_neg (by decide), hxs, hss, State.advance_now_of_le hnow]
    rfl
  refine ⟨fun h => forceWaits_ran (t := t) _ (hex.trans ?_), fun h => ?_⟩
  · rw [heq, if_neg (by omega)]
  · rw [if_pos h] at heq
    rw [heq] at hex
    refine ⟨_, hex, onlyChan.ran ((onlyChan.wr _ _ FORCEST.LATE _ _ _).trans (.modPin _ _ _)), ?_, ?_, ?_⟩
    · exact regsKept.ran (t := t) ((regsKept.wr _ FORCEST.LATE _ _ _ (List.mem_singleton.mpr rfl)).trans (.of_regs (State.modPin_regs _ _ _)))
    · rw [State.withQueue_rd, State.forceWaits, State.modPin_rd, State.wr_rd _ _ _ _ _ (by decide)]
      rfl
    · rw [State.ch_withQueue, State.forceWaits, State.modPin_ch, State.ch_wr, State.ch_advance]
      rfl

/-- The group's force commands, with the orders they place. -/
def gforceCommand (t : Nat) (src : Src) (j mask : Nat) (c : Instr × Nat) : Prop :=
  c = (Instr.gforceRelease t src j 0 mask, 1) ∨ c = (Instr.gforceHigh t src j 0 mask, 2) ∨
    c = (Instr.gforceLow t src j 0 mask, 3) ∨ c = (Instr.gforceHiz t src j 0 mask, 4)

theorem gforceCommand.places {j mask : Nat} {c : Instr × Nat} (hc : gforceCommand t src j mask c) (hj : j < 128) (hsrc : src.ok = true)
    (happ : s.applies src (GFORCE.WHOLE.adr j 0) = true) (hmask : mask < 256) :
    does c.1 t s (fun x => (onesOf mask 8).foldl (fun s i => s.forceOrder (8 * j + i) c.2 0) x) ∧ c.2 ≠ 0 ∧ c.2 ≤ 4 := by
  have hok : (src.ok && decide (j < 128)) = true := by simp [hsrc, hj]
  have key (k : Nat) (hk : k < 8) (i : Instr) (hex : does i t s (fun x => x.gforceWrite j (forceWord k 0 mask))) :
      does i t s (fun x => (onesOf mask 8).foldl (fun s i => s.forceOrder (8 * j + i) k 0) x) := by
    obtain ⟨-, -, hord, hfs, hm⟩ := forceWord_fields hk (sync := 0) (by decide) hmask
    rw [does] at hex ⊢
    rw [hex, State.gforceWrite, hord, hfs, hm]
  rcases hc with rfl | rfl | rfl | rfl
  · exact ⟨key 1 (by decide) _ (does_of_applies happ rfl hok), (by decide : (1 : ℕ) ≠ 0), (by decide : (1 : ℕ) ≤ 4)⟩
  · exact ⟨key 2 (by decide) _ (does_of_applies happ rfl hok), (by decide : (2 : ℕ) ≠ 0), (by decide : (2 : ℕ) ≤ 4)⟩
  · exact ⟨key 3 (by decide) _ (does_of_applies happ rfl hok), (by decide : (3 : ℕ) ≠ 0), (by decide : (3 : ℕ) ≤ 4)⟩
  · exact ⟨key 4 (by decide) _ (does_of_applies happ rfl hok), (by decide : (4 : ℕ) ≠ 0), (by decide : (4 : ℕ) ≤ 4)⟩

theorem mem_onesOf {w k : Nat} : i ∈ onesOf w k ↔ i < k ∧ w.testBit i = true := by
  rw [onesOf, List.mem_filter, upFrom_mem, bitAt_eq_testBit]
  simp

theorem gforce_shows {mask : Nat} {c : Instr × Nat} (hc : gforceCommand t src (n / 8) mask c) (hn : n < 1024) (hsrc : src.ok = true)
    (hnow : s.now ≤ t) (happ : s.applies src (GFORCE.WHOLE.adr (n / 8) 0) = true) (hmask : mask < 256) :
    ∃ u, exec c.1 s = .next u ∧ u = { s with now := u.now, chan := u.chan } ∧ (∀ m, m / 8 ≠ n / 8 → u.ch m = s.ch m) ∧
      (if mask.testBit (n % 8) then u.ch n = (s.ch n).waiting ⟨c.2, t + ns 40, false, false⟩ else u.ch n = s.ch n) := by
  obtain ⟨hex, hne, hle⟩ := hc.places (by omega) hsrc happ hmask
  rw [does] at hex
  have hstep (x : State) (k : Nat) (hx : x.now = t) : x.forceOrder (8 * (n / 8) + k) c.2 0 = x.forceWaits (8 * (n / 8) + k) ⟨c.2, t + ns 40, false, false⟩ := by
    rw [State.forceOrder, if_neg (by omega), if_pos (.inl rfl), hx]
    rfl
  have hat : (s.advance t).now = t := State.advance_now_of_le hnow
  have hall := foldl_keeps (K := fun x y => x.now = t → y.now = t ∧ chanSide x y ∧ ∀ m, m / 8 ≠ n / 8 → y.ch m = x.ch m)
    (f := fun s i => s.forceOrder (8 * (n / 8) + i) c.2 0) (l := onesOf mask 8) (fun x hx => ⟨hx, .refl _, fun _ _ => rfl⟩)
    (fun h k hx => by
      obtain ⟨hy, hs, hc⟩ := h hx
      obtain ⟨hz, ks, kc⟩ := k hy
      exact ⟨hz, hs.trans ks, fun m hm => (kc m hm).trans (hc m hm)⟩)
    (fun x k hk hx => by
      have hk8 := (mem_onesOf.mp hk).1
      rw [hstep x k hx]
      exact ⟨hx, .modPin _ _ _, fun m hm => State.modPin_ch_ne _ _ _ _ (by omega)⟩) (s.advance t) hat
  obtain ⟨-, hside, hch⟩ := hall
  have hown : (if mask.testBit (n % 8) then ((onesOf mask 8).foldl (fun s i => s.forceOrder (8 * (n / 8) + i) c.2 0) (s.advance t)).ch n =
      (s.ch n).waiting ⟨c.2, t + ns 40, false, false⟩
      else ((onesOf mask 8).foldl (fun s i => s.forceOrder (8 * (n / 8) + i) c.2 0) (s.advance t)).ch n = s.ch n) := by
    have hothers (x : State) (k : Nat) (hne : k ≠ n % 8) (hx : x.now = t) : (x.forceOrder (8 * (n / 8) + k) c.2 0).now = t ∧
        (x.forceOrder (8 * (n / 8) + k) c.2 0).ch n = x.ch n := by
      rw [hstep x k hx]
      exact ⟨hx, State.modPin_ch_ne _ _ _ _ (by omega)⟩
    have htrans {x y z : State} (h : x.now = t → y.now = t ∧ y.ch n = x.ch n) (k : y.now = t → z.now = t ∧ z.ch n = y.ch n) (hx : x.now = t) :
        z.now = t ∧ z.ch n = x.ch n := by
      obtain ⟨hy, hc⟩ := h hx
      obtain ⟨hz, kc⟩ := k hy
      exact ⟨hz, kc.trans hc⟩
    split
    case isTrue hbit =>
      obtain ⟨b, -, hb, hrest⟩ := foldl_once (K := fun x y => x.now = t → y.now = t ∧ y.ch n = x.ch n)
        (f := fun s i => s.forceOrder (8 * (n / 8) + i) c.2 0) (fun x hx => ⟨hx, rfl⟩) htrans
        (mem_onesOf.mpr ⟨Nat.mod_lt _ (by decide), hbit⟩) ((upFrom_nodup 0 8).filter _) (fun x k _ hne => hothers x k hne) (s.advance t)
      obtain ⟨hbt, hbch⟩ := hb hat
      have hself : 8 * (n / 8) + n % 8 = n := by omega
      rw [hstep b _ hbt, hself] at hrest
      obtain ⟨-, hfin⟩ := hrest hbt
      rw [hfin, State.forceWaits, State.modPin_ch, hbch, State.ch_advance]
      rfl
    case isFalse hbit =>
      have hkeep := foldl_keeps (K := fun x y => x.now = t → y.now = t ∧ y.ch n = x.ch n) (f := fun s i => s.forceOrder (8 * (n / 8) + i) c.2 0)
        (l := onesOf mask 8) (fun x hx => ⟨hx, rfl⟩) htrans
        (fun x k hk => hothers x k (fun h => hbit (h ▸ (mem_onesOf.mp hk).2))) (s.advance t) hat
      exact hkeep.2
  refine ⟨_, hex, ?_, hch, hown⟩
  generalize (onesOf mask 8).foldl (fun s i => s.forceOrder (8 * (n / 8) + i) c.2 0) (s.advance t) = u at *
  rw [hside]
  rfl

end


section
variable {s u : State} {j n t : Nat} {src : Src}

theorem State.sync3_pin (s : State) (n : Nat) : ∃ v a, ((s.sync3 n).ch n).pin = { (s.ch n).pin with l3 := v, l3At := a } := by
  rw [State.sync3, State.modPin_pin]
  split
  · exact ⟨(s.ch n).pin.l3, (s.ch n).pin.l3At, rfl⟩
  · exact ⟨_, _, rfl⟩

/-- An order takes effect (R198). -/
theorem forceOrderEffect_takes {w : FWait} (hn : n < 1024) (hnow : s.now ≤ t) (hwait : (s.ch n).pin.fwait = some w) (hpair : s.paired n = false)
    (htb : w.onTb0 = false) (hdue : w.due ≤ t) (hle : w.ord ≤ 4) (hgo : w.period = false ∧ w.ord ≠ 1 ∨ s.stopped n = true) :
    ∃ u, exec (.forceOrderEffect t n) s = .next u ∧ onlyChan s u n ∧ regsKept s u [FORCEST.WHOLE.adr n 0] ∧
      u.rd FORCEST.CUR n = (if w.ord = 1 then 0 else w.ord) ∧ (u.ch n).pin.fwait = none ∧ (u.ch n).pin.lvl = (s.ch n).pin.lvl := by
  set v := ((s.advance t).modPin n (fun p => { p with fwait := none })).wr FORCEST.CUR (if w.ord = 1 then 0 else w.ord) n with hv
  have hvpair : v.paired n = false := by
    rw [hv, State.paired, State.on, State.wr_rd_ne _ _ _ _ _ _ _ _ (chField_ne rfl rfl rfl rfl (by decide) (by decide) (by decide)), State.modPin_rd]
    exact hpair
  have heq : (s.advance t).forceEffect n = v.sync3 n := by
    have hwait' : ((s.advance t).ch n).pin.fwait = some w := hwait
    have hfdue : (s.advance t).fDue w = true := by
      rw [State.fDue, htb, if_neg (by decide), State.advance_now_of_le hnow, decide_eq_true hdue]
    have hpass : ¬ (¬ (s.advance t).fDue w = true ∨ (w.period = true ∨ w.ord = 1) ∧ ¬ (s.advance t).stopped n = true) := by
      rw [hfdue, State.stopped_advance]
      rcases hgo with ⟨h1, h2⟩ | h
      · simp [h1, h2]
      · simp [h]
    rw [State.forceEffect, hwait']
    dsimp only
    rw [if_neg hpass, ← hv, State.syncPair, hvpair]
    exact if_neg (by decide)
  obtain ⟨hlevels, hside, -⟩ := v.sync3_kept n
  obtain ⟨l, a, hpin⟩ := v.sync3_pin n
  have hvpin : (v.ch n).pin = { (s.ch n).pin with fwait := none } := by
    rw [hv, State.ch_wr, State.modPin_pin, State.ch_advance]
  have hvonly : onlyChan (s.advance t) v n := (onlyChan.modPin _ _ _).trans (.wr _ _ FORCEST.CUR _ _ _)
  have hvkept : regsKept (s.advance t) v [FORCEST.WHOLE.adr n 0] :=
    (regsKept.of_regs (State.modPin_regs _ _ _)).trans (.wr _ FORCEST.CUR _ _ _ (List.mem_singleton.mpr rfl))
  have hcur : v.rd FORCEST.CUR n = if w.ord = 1 then 0 else w.ord := by
    rw [hv, State.wr_rd _ _ _ _ _ (by decide)]
    refine Nat.mod_eq_of_lt ?_
    change _ < 8
    split <;> omega
  refine ⟨_, s.ran_ok ((s.advance t).forceEffect n) _ (decide_eq_true hn), ?_⟩
  rw [heq]
  refine ⟨(hvonly.trans (.of_sync3 _ _)).ran, regsKept.ran (t := t) (hvkept.trans (.of_regs hside.regs)), ?_, ?_, ?_⟩
  · rw [State.withQueue_rd, hside.rd, hcur]
  · rw [State.ch_withQueue, hpin, hvpin]
  · rw [State.ch_withQueue, hpin, hvpin]

/-- A RELEASE of a running channel waits for its period start (R198). -/
theorem forceOrderEffect_waits {w : FWait} (hn : n < 1024) (hwait : (s.ch n).pin.fwait = some w) (hord : w.ord = 1) (hrun : s.stopped n = false) :
    exec (.forceOrderEffect t n) s = .next (s.advance t) := by
  have heq : (s.advance t).forceEffect n = s.advance t := by
    have hwait' : ((s.advance t).ch n).pin.fwait = some w := hwait
    rw [State.forceEffect, hwait']
    exact if_pos (.inr ⟨.inr hord, by rw [State.stopped_advance, hrun]; decide⟩)
  refine (s.ran_ok ((s.advance t).forceEffect n) _ (decide_eq_true hn)).trans ?_
  rw [heq]
  rfl

/-! ### Safe states (R199, R200) -/

/-- The levels of a group's channels follow. -/
def State.syncGroup (s : State) (j : Nat) : State := (upFrom (8 * j) 8).foldl (fun s n => s.sync3 n) s

theorem State.syncGroup_shows (s : State) (j : Nat) : chanSide s (s.syncGroup j) ∧ (∀ m, m / 8 ≠ j → (s.syncGroup j).ch m = s.ch m) ∧
    ∀ m, ((s.syncGroup j).ch m).pin.safeLeave = (s.ch m).pin.safeLeave := by
  rw [State.syncGroup]
  refine ⟨foldl_keeps (K := chanSide) .refl .trans (fun x n _ => (x.sync3_kept n).2.1) s,
    foldl_keeps (K := fun x y => ∀ m, m / 8 ≠ j → y.ch m = x.ch m) (fun _ _ _ => rfl) (fun h k m hm => (k m hm).trans (h m hm))
      (fun x n hn m hm => (x.sync3_kept n).2.2 m (fun e => hm (e ▸ mem_group.mp hn))) s,
    foldl_keeps (K := fun x y => ∀ m, (y.ch m).pin.safeLeave = (x.ch m).pin.safeLeave) (f := fun s n => s.sync3 n) (l := upFrom (8 * j) 8)
      (fun _ _ => rfl) (fun h k m => (k m).trans (h m)) (fun x n _ m => ?_) s⟩
  by_cases hm : m = n
  · rw [hm, State.sync3, State.modPin_pin]
    split <;> rfl
  · rw [(x.sync3_kept n).2.2 m hm]

theorem State.plainWrite_frame (s : State) (a : Nat) (w : Word) : (∀ n, (s.plainWrite a w).ch n = s.ch n) ∧ ∀ j, (s.plainWrite a w).gr j = s.gr j := by
  rw [State.plainWrite]
  split <;> exact ⟨fun _ => rfl, fun _ => rfl⟩

theorem blkOf_grp {o : Nat} (hj : j < 128) (ho : 0x200 ≤ o) (ho' : o < 0x300) :
    blkOf (0x1010000 + 0x40000 * (j / 2) + 0x8000 * (j % 2) + o) = some (.grp, j, o) := by
  have hmod : (0x1010000 + 0x40000 * (j / 2) + 0x8000 * (j % 2) + o) % 0x40000 = 0x10000 + 0x8000 * (j % 2) + o := by omega
  have hdiv : (0x1010000 + 0x40000 * (j / 2) + 0x8000 * (j % 2) + o - 0x1000000) / 0x40000 = j / 2 := by omega
  have hoff : (0x1010000 + 0x40000 * (j / 2) + 0x8000 * (j % 2) + o) % 0x1000 = o := by omega
  have hch : 16 * (j / 2) + (0x10000 + 0x8000 * (j % 2) + o - 0x10000) / 0x1000 = 8 * j := by omega
  rw [blkOf, if_neg (by omega), if_neg (by omega), if_neg (by omega), if_neg (by omega), if_neg (by omega), if_neg (by omega),
    if_neg (by omega), if_neg (by omega), if_neg (by omega), if_neg (by omega), if_neg (by omega), if_neg (by omega),
    if_neg (by omega), if_neg (by omega), if_pos (by omega)]
  dsimp only
  rw [hmod, hdiv, hoff, if_neg (by omega), if_neg (by omega), if_neg (by omega), if_pos (by omega), hch, if_pos (by omega)]
  exact congrArg (fun x => some (Blk.grp, x, o)) (by omega)

theorem regRow_safectl (hj : j < 128) : regRow (SAFECTL.WHOLE.adr j 0) = some ⟨0x230, 1, 0, 0x300ff, 0x0, 0x0, 0xc0000000, 0x300ff, 0x0⟩ := by
  have hadr : SAFECTL.WHOLE.adr j 0 = 0x1010000 + 0x40000 * (j / 2) + 0x8000 * (j % 2) + 0x230 := by
    simp only [RField.adr, blkBase, SAFECTL.WHOLE, Nat.mul_zero, Nat.add_zero]
  have hrow : (rowAt (blkRows .grp) 0x230).map (·.1) = some ⟨0x230, 1, 0, 0x300ff, 0x0, 0x0, 0xc0000000, 0x300ff, 0x0⟩ := by decide
  rw [hadr, regRow, blkOf_grp hj (by decide) (by decide)]
  exact hrow

/-- The registers SAFECTL shows after a write, before the orders in it. -/
theorem State.safectl_written (s : State) (hj : j < 128) (w : Word) {v : State} (hv : v = (s.plainWrite (SAFECTL.WHOLE.adr j 0) w).syncGroup j) :
    inGroup j s v ∧ regsKept s v [SAFECTL.WHOLE.adr j 0] ∧ v.rd SAFECTL.SAFEST j = SAFECTL.SAFEST.of w ∧
      v.rd SAFECTL.SAFELVL j = SAFECTL.SAFELVL.of w ∧ v.now = s.now := by
  obtain ⟨hside, hch, -⟩ := (s.plainWrite (SAFECTL.WHOLE.adr j 0) w).syncGroup_shows j
  obtain ⟨hpch, -⟩ := s.plainWrite_frame (SAFECTL.WHOLE.adr j 0) w
  have hponly := regsOnly.plainWrite s (SAFECTL.WHOLE.adr j 0) w
  have hst : (s.plainWrite (SAFECTL.WHOLE.adr j 0) w).rd SAFECTL.SAFEST j = SAFECTL.SAFEST.of w :=
    State.plainWrite_rd w (regRow_safectl hj) (by simp [RField.adr, SAFECTL.SAFEST, SAFECTL.WHOLE]) (by decide)
  have hlvl : (s.plainWrite (SAFECTL.WHOLE.adr j 0) w).rd SAFECTL.SAFELVL j = SAFECTL.SAFELVL.of w :=
    State.plainWrite_rd w (regRow_safectl hj) (by simp [RField.adr, SAFECTL.SAFELVL, SAFECTL.WHOLE]) (by decide)
  have hkept : regsKept s (s.plainWrite (SAFECTL.WHOLE.adr j 0) w) [SAFECTL.WHOLE.adr j 0] :=
    fun a ha => State.plainWrite_reg_ne w (fun h => ha (List.mem_singleton.mpr h))
  rw [← hv] at hside hch
  generalize s.plainWrite (SAFECTL.WHOLE.adr j 0) w = b at *
  refine ⟨⟨?_, fun m hm => (hch m hm).trans (hpch m)⟩, hkept.trans (.of_regs hside.regs), ?_, ?_, ?_⟩
  · rw [hside, hponly]
  · rw [hside.rd, hst]
  · rw [hside.rd, hlvl]
  · rw [hside, hponly]

@[simp] theorem State.modGr_ch (s : State) (j n : Nat) (f : Grp → Grp) : (s.modGr j f).ch n = s.ch n := (rfl)

theorem SAFESTAT_apart (k : Nat) {F : RField} (hF : F.blk = .grp ∧ F.stride = 0 ∧ F.off < 0x1000 ∧ F.off ≠ 0x234) : SAFESTAT.WHOLE.adr j 0 ≠ F.adr k 0 := by
  obtain ⟨hb, hs, ho, hne⟩ := hF
  exact grpAdr_ne rfl (.inr hb) hs (by decide) ho (fun h => hne h.symm)

theorem State.grp_on_kept {l : List Nat} {F : RField} (h : regsKept s u l) (hl : F.adr j 0 ∉ l) : u.on F j = s.on F j := by
  rw [State.on, State.on, State.rd, State.rd, h _ hl]

theorem State.safectlWrite_go {w : Word} (hgo : SAFECTL.SAFEGO.of w = 1) {v : State} (hv : v = (s.plainWrite (SAFECTL.WHOLE.adr j 0) w).syncGroup j) :
    s.safectlWrite j w = v.safeAsk j 1 (v.now + ns 40) := by
  rw [State.safectlWrite, hv]
  exact if_pos hgo

theorem State.safectlWrite_clear {w : Word} (hgo : SAFECTL.SAFEGO.of w = 0) (hclr : SAFECTL.SAFECLR.of w = 1) :
    s.safectlWrite j w = ((s.plainWrite (SAFECTL.WHOLE.adr j 0) w).syncGroup j).safeClear j := by
  rw [State.safectlWrite, if_neg (ne_of_eq_of_ne hgo (by decide)), if_pos hclr]
  rfl

/-- The order for a safe state (R199). -/
theorem safectlSafego_shows {w : Word} (hj : j < 128) (hnow : s.now ≤ t) (hsrc : src.ok = true) (happ : s.applies src (SAFECTL.WHOLE.adr j 0) = true) :
    ∃ u, exec (.safectlSafego t src j w) s = .next u ∧
      u = { s with now := u.now, regs := u.regs, chan := u.chan, grp := u.grp } ∧ (∀ m, m / 8 ≠ j → u.ch m = s.ch m) ∧
      (∀ k, k ≠ j → u.gr k = s.gr k) ∧ u.gr j = { s.gr j with safe := (s.gr j).safe ++ [(t + ns 40, 1)] } ∧
      regsKept s u [SAFECTL.WHOLE.adr j 0] ∧ u.rd SAFECTL.SAFEST j = SAFECTL.SAFEST.of w ∧ u.rd SAFECTL.SAFELVL j = SAFECTL.SAFELVL.of w := by
  have hex := does_of_applies (i := .safectlSafego t src j w) (t := t) happ rfl (by simp [hsrc, hj])
  have hgo : SAFECTL.SAFEGO.of (w ||| 0x80000000) = 1 := RField.of_bit_set rfl (by decide) w
  have hst : SAFECTL.SAFEST.of (w ||| 0x80000000) = SAFECTL.SAFEST.of w := RField.of_or (by decide) w
  have hlvl : SAFECTL.SAFELVL.of (w ||| 0x80000000) = SAFECTL.SAFELVL.of w := RField.of_or (by decide) w
  obtain ⟨⟨hframe, hch⟩, hkept, hvst, hvlvl, hvnow⟩ := (s.advance t).safectl_written hj (w ||| 0x80000000) rfl
  rw [hst] at hvst
  rw [hlvl] at hvlvl
  rw [State.advance_now_of_le hnow] at hvnow
  have hfull : (s.advance t).safectlFull j (w ||| 0x80000000) =
      (((s.advance t).plainWrite (SAFECTL.WHOLE.adr j 0) (w ||| 0x80000000)).syncGroup j).safeAsk j 1 (t + ns 40) := by
    have hwrite : (s.advance t).safectlWrite j (w ||| 0x80000000) =
        (((s.advance t).plainWrite (SAFECTL.WHOLE.adr j 0) (w ||| 0x80000000)).syncGroup j).safeAsk j 1 (t + ns 40) := by
      rw [State.safectlWrite_go hgo rfl, hvnow]
    rw [State.safectlFull, hwrite]
    refine if_neg fun ⟨hwas, hnot⟩ => hnot ?_
    rw [State.safeAsk, State.on, State.modGr_rd]
    exact (State.grp_on_kept (F := SAFESTAT.ACTIVE) hkept (fun h => SAFESTAT_apart j (by decide) (List.mem_singleton.mp h))).trans hwas
  rw [does, hfull] at hex
  generalize ((s.advance t).plainWrite (SAFECTL.WHOLE.adr j 0) (w ||| 0x80000000)).syncGroup j = v at *
  have hgr (k : Nat) : v.gr k = s.gr k := by
    rw [hframe]
    rfl
  refine ⟨_, hex, ?_, fun m hm => ?_, fun k hk => ?_, ?_, regsKept.ran (t := t) (hkept.trans (.of_regs (State.modGr_regs _ _ _))), ?_, ?_⟩
  · exact congrArg (fun x : State => ({ x with grp := (v.safeAsk j 1 (t + ns 40)).grp, pending := s.pending } : State)) hframe
  · rw [State.ch_withQueue, State.safeAsk, State.modGr_ch, hch m hm, State.ch_advance]
  · rw [State.gr_withQueue, State.safeAsk, State.modGr_gr_ne _ _ _ _ hk, hgr]
  · rw [State.gr_withQueue, State.safeAsk, State.modGr_gr, hgr]
  · rw [State.withQueue_rd, State.safeAsk, State.modGr_rd, hvst]
  · rw [State.withQueue_rd, State.safeAsk, State.modGr_rd, hvlvl]

/-- The PWMSTAT registers of group `j`. -/
def pwmRegs (j : Nat) : List Nat := (upFrom (8 * j) 8).map (fun m => PWMSTAT.WHOLE.adr m 0)

theorem mem_pwmRegs {m : Nat} (h : m / 8 = j) : PWMSTAT.WHOLE.adr m 0 ∈ pwmRegs j := List.mem_map.mpr ⟨m, mem_group.mpr h, rfl⟩

theorem not_mem_pwmRegs {F : RField} {m : Nat} (hF : F.blk = .grp) (hs : F.stride = 0) (ho : F.off < 0x1000) (h : F.off ≠ PWMSTAT.WHOLE.off) :
    F.adr m 0 ∉ pwmRegs j := by
  intro hm
  obtain ⟨k, -, hk⟩ := List.mem_map.mp hm
  exact grpAdr_ne (F := F) (G := PWMSTAT.WHOLE) (i := 0) hF (.inl rfl) rfl (by rw [hs]; omega) (by decide) (by rw [hs]; omega) hk.symm

/-- A channel leaves its safe state at once when it is stopped, else at its period start (R200). -/
def State.leaveStep (s : State) (n : Nat) : State :=
  if s.stopped n then s.wr PWMSTAT.SAFE 0 n else s.modPin n (fun p => { p with safeLeave := true })

theorem State.leaveStep_shows (s : State) {m : Nat} (hm : m / 8 = j) :
    inGroup j s (s.leaveStep m) ∧ regsKept s (s.leaveStep m) (pwmRegs j) ∧ (∀ k, (s.leaveStep m).stopped k = s.stopped k) ∧
      ∀ k, k ≠ m → chanAlone k (PWMSTAT.WHOLE.adr k 0) s (s.leaveStep m) := by
  rw [State.leaveStep]
  split
  · exact ⟨.wr _ _ _ _ _ _, .wr _ PWMSTAT.SAFE _ _ _ (mem_pwmRegs hm), fun k => State.stopped_wr _ _ _ _ _ (by decide),
      fun k hk => .wr _ PWMSTAT.SAFE _ _ _ (chAdr_ne rfl rfl rfl rfl (by decide) (by decide) hk)⟩
  · exact ⟨.modPin _ _ hm, .of_regs rfl, fun _ => rfl, fun k hk => .modPin _ _ hk⟩

/-- The channels of a group that leaves its safe state. -/
def State.leaveGroup (s : State) (j : Nat) : State := (upFrom (8 * j) 8).foldl State.leaveStep s

theorem State.leaveGroup_shows (s : State) (j : Nat) :
    inGroup j s (s.leaveGroup j) ∧ regsKept s (s.leaveGroup j) (pwmRegs j) ∧ ∀ n, n / 8 = j →
      ((s.stopped n = true → (s.leaveGroup j).rd PWMSTAT.SAFE n = 0) ∧
        (s.stopped n = false → (s.leaveGroup j).rd PWMSTAT.SAFE n = s.rd PWMSTAT.SAFE n ∧ ((s.leaveGroup j).ch n).pin.safeLeave = true)) := by
  refine ⟨foldl_keeps (K := inGroup j) (.refl _) .trans (fun x m hm => (x.leaveStep_shows (mem_group.mp hm)).1) s,
    foldl_keeps (K := fun x y => regsKept x y (pwmRegs j)) (fun x => .refl x _) .trans (fun x m hm => (x.leaveStep_shows (mem_group.mp hm)).2.1) s,
    fun n hn => ?_⟩
  obtain ⟨b, -, ⟨hbst, hb⟩, -, hlast⟩ := foldl_once (K := fun x y => y.stopped n = x.stopped n ∧ chanAlone n (PWMSTAT.WHOLE.adr n 0) x y)
    (f := State.leaveStep) (l := upFrom (8 * j) 8) (n := n) (fun x => ⟨rfl, .refl _ _ _⟩) (fun h k => ⟨k.1.trans h.1, h.2.trans k.2⟩)
    (mem_group.mpr hn) (upFrom_nodup _ _) (fun x m hm hne => by
      obtain ⟨-, -, hst, halone⟩ := x.leaveStep_shows (mem_group.mp hm)
      exact ⟨hst n, halone n hne.symm⟩) s
  have hsafe : (s.leaveGroup j).rd PWMSTAT.SAFE n = (b.leaveStep n).rd PWMSTAT.SAFE n := chanAlone.rd (F := PWMSTAT.SAFE) hlast
  have hpin : (s.leaveGroup j).ch n = (b.leaveStep n).ch n := hlast.1
  refine ⟨fun h => ?_, fun h => ⟨?_, ?_⟩⟩
  · rw [hsafe, State.leaveStep, hbst, if_pos h, State.wr_rd _ _ _ _ _ (by decide)]
    rfl
  · rw [hsafe, State.leaveStep, hbst, if_neg (by simp [h]), State.modPin_rd]
    exact chanAlone.rd (F := PWMSTAT.SAFE) hb
  · rw [hpin, State.leaveStep, hbst, if_neg (by simp [h]), State.modPin_pin]

theorem foldl_same {α : Type} {f : State → α → State} {l : List α} {s : State} (h : ∀ x ∈ l, f s x = s) : l.foldl f s = s := by
  induction l with
  | nil => rfl
  | cons x xs ih => rw [List.foldl_cons, h x (List.mem_cons_self ..), ih (fun y hy => h y (List.mem_cons_of_mem _ hy))]

theorem State.safeAgain_none (h : ∀ k, k < 128 → s.on LOSSSTAT.LOSS k = false) : s.safeAgain j = s := by
  rw [State.safeAgain]
  refine foldl_same fun k hk => if_neg fun hk' => ?_
  have := (upFrom_mem _ _ _).mp hk
  exact absurd (hk'.1.symm.trans (h k (by omega))) (by decide)

theorem inGroup.of_chanSide (h : chanSide s u) (hch : ∀ m, m / 8 ≠ j → u.ch m = s.ch m) : inGroup j s u := ⟨by rw [h], hch⟩

theorem inGroup.ran (h : inGroup j (s.advance t) u) : inGroup j s (u.withQueue s.pending) := by
  obtain ⟨hframe, hch⟩ := h
  exact ⟨by rw [hframe]; rfl, hch⟩

theorem State.safeClear_on (h : s.on SAFESTAT.ACTIVE j = true) : s.safeClear j = ((s.wr SAFESTAT.ACTIVE 0 j).leaveGroup j).syncGroup j := by
  rw [State.safeClear, if_neg (by simp [h])]
  rfl

/-- The end of a safe state (R200). -/
theorem safectlSafeclr_shows {w : Word} (hj : j < 128) (hsrc : src.ok = true) (happ : s.applies src (SAFECTL.WHOLE.adr j 0) = true)
    (hn : n / 8 = j) (hgo : SAFECTL.SAFEGO.of w = 0) (hon : s.on SAFESTAT.ACTIVE j = true) (hloss : ∀ k, k < 128 → s.on LOSSSTAT.LOSS k = false) :
    ∃ u, exec (.safectlSafeclr t src j w) s = .next u ∧ u = { s with now := u.now, regs := u.regs, chan := u.chan } ∧
      (∀ m, m / 8 ≠ j → u.ch m = s.ch m) ∧ u.rd SAFESTAT.ACTIVE j = 0 ∧
      regsKept s u (SAFECTL.WHOLE.adr j 0 :: SAFESTAT.WHOLE.adr j 0 :: pwmRegs j) ∧
      (s.stopped n = true → u.on PWMSTAT.SAFE n = false) ∧
      (s.stopped n = false → u.rd PWMSTAT.SAFE n = s.rd PWMSTAT.SAFE n ∧ (u.ch n).pin.safeLeave = true) := by
  have hex := does_of_applies (i := .safectlSafeclr t src j w) (t := t) happ rfl (by simp [hsrc, hj])
  have hgo' : SAFECTL.SAFEGO.of (w ||| 0x40000000) = 0 := (RField.of_or (by decide) w).trans hgo
  have hclr : SAFECTL.SAFECLR.of (w ||| 0x40000000) = 1 := RField.of_bit_set rfl (by decide) w
  obtain ⟨hgroup, hkept, -⟩ := (s.advance t).safectl_written hj (w ||| 0x40000000) rfl
  have hwrite := State.safectlWrite_clear (s := s.advance t) (j := j) hgo' hclr
  generalize ((s.advance t).plainWrite (SAFECTL.WHOLE.adr j 0) (w ||| 0x40000000)).syncGroup j = v at *
  have hvon : v.on SAFESTAT.ACTIVE j = true :=
    (State.grp_on_kept (F := SAFESTAT.ACTIVE) hkept (fun h => SAFESTAT_apart j (by decide) (List.mem_singleton.mp h))).trans hon
  have hclear := State.safeClear_on hvon
  obtain ⟨hlgroup, hlkept, hln⟩ := (v.wr SAFESTAT.ACTIVE 0 j).leaveGroup_shows j
  obtain ⟨hoff, hleave⟩ := hln n hn
  have hvst (x : Nat) : (v.wr SAFESTAT.ACTIVE 0 j).stopped x = s.stopped x := by
    refine State.stopped_congr (fun F m hF => ?_) x
    have hne : F.adr m 0 ≠ SAFESTAT.ACTIVE.adr j 0 ∧ F.adr m 0 ∉ [SAFECTL.WHOLE.adr j 0] := by
      rw [List.mem_singleton]
      rcases hF with rfl | rfl <;>
        exact ⟨(grpAdr_ne rfl (.inl rfl) rfl (by decide) (by decide) (by decide)).symm, (grpAdr_ne rfl (.inl rfl) rfl (by decide) (by decide) (by decide)).symm⟩
    rw [State.wr_rd_ne _ _ _ _ _ _ _ _ hne.1, State.rd, hkept _ hne.2, State.advance_reg, ← State.rd]
  have hvsafe : (v.wr SAFESTAT.ACTIVE 0 j).rd PWMSTAT.SAFE n = s.rd PWMSTAT.SAFE n := by
    rw [State.wr_rd_ne _ _ _ _ _ _ _ _ (grpAdr_ne rfl (.inl rfl) rfl (by decide) (by decide) (by decide)).symm, State.rd, hkept _ (by
      rw [List.mem_singleton]
      exact (grpAdr_ne rfl (.inl rfl) rfl (by decide) (by decide) (by decide)).symm), State.advance_reg, ← State.rd]
  rw [hvst] at hoff hleave
  rw [hvsafe] at hleave
  have hwgroup : inGroup j v (v.wr SAFESTAT.ACTIVE 0 j) := .wr _ _ _ _ _ _
  have hactive : (v.wr SAFESTAT.ACTIVE 0 j).rd SAFESTAT.ACTIVE j = 0 := State.wr_rd _ _ _ _ _ (by decide)
  have hwkept : regsKept v (v.wr SAFESTAT.ACTIVE 0 j) [SAFESTAT.WHOLE.adr j 0] := by
    refine .wr v SAFESTAT.ACTIVE 0 j 0 ?_
    simp [RField.adr, SAFESTAT.ACTIVE, SAFESTAT.WHOLE]
  generalize v.wr SAFESTAT.ACTIVE 0 j = b at *
  obtain ⟨hside, hch, hsl⟩ := (b.leaveGroup j).syncGroup_shows j
  have hall : regsKept (s.advance t) ((b.leaveGroup j).syncGroup j) (SAFECTL.WHOLE.adr j 0 :: SAFESTAT.WHOLE.adr j 0 :: pwmRegs j) := by
    intro x hx
    rw [List.mem_cons, List.mem_cons, not_or, not_or] at hx
    obtain ⟨h1, h2, h3⟩ := hx
    rw [State.reg_of_regs _ _ _ hside.regs, hlkept x h3, hwkept x (fun h => h2 (List.mem_singleton.mp h)),
      hkept x (fun h => h1 (List.mem_singleton.mp h))]
  have hulast : ((b.leaveGroup j).syncGroup j).rd SAFESTAT.ACTIVE j = 0 := by
    rw [hside.rd, State.rd, hlkept _ (not_mem_pwmRegs rfl rfl (by decide) (by decide))]
    exact hactive
  have hfull : (s.advance t).safectlFull j (w ||| 0x40000000) = (b.leaveGroup j).syncGroup j := by
    rw [State.safectlFull, hwrite, hclear, State.safeAgain_none]
    · exact ite_self _
    · intro k hk
      have hnot : LOSSSTAT.LOSS.adr k 0 ∉ SAFECTL.WHOLE.adr j 0 :: SAFESTAT.WHOLE.adr j 0 :: pwmRegs j := by
        simp only [List.mem_cons, pwmRegs, List.mem_map, mem_group, RField.adr, LOSSSTAT.LOSS, SAFECTL.WHOLE, SAFESTAT.WHOLE, PWMSTAT.WHOLE, blkBase]
        rintro (h | h | ⟨m, hm, h⟩) <;> omega
      rw [State.on, State.rd, hall _ hnot, State.advance_reg, ← State.rd, ← State.on]
      exact hloss k hk
  rw [does, hfull] at hex
  have hugroup : inGroup j (s.advance t) ((b.leaveGroup j).syncGroup j) :=
    ((hgroup.trans hwgroup).trans hlgroup).trans (.of_chanSide hside hch)
  have husafe : ((b.leaveGroup j).syncGroup j).rd PWMSTAT.SAFE n = (b.leaveGroup j).rd PWMSTAT.SAFE n := hside.rd _ _ _
  generalize (b.leaveGroup j).syncGroup j = u at *
  obtain ⟨huframe, huch⟩ := hugroup.ran
  refine ⟨_, hex, huframe, huch, ?_, hall.ran, fun h => ?_, fun h => ⟨?_, ?_⟩⟩
  · rw [State.withQueue_rd, hulast]
  · rw [State.on_withQueue, State.on, husafe, hoff h]
    rfl
  · rw [State.withQueue_rd, husafe, (hleave h).1]
  · exact (congrArg (fun c : Chan => c.pin.safeLeave) (State.ch_withQueue u s.pending n)).trans ((hsl n).trans (hleave h).2)

/-- A channel enters its safe state (R199). -/
def State.enterStep (s : State) (n : Nat) : State := (s.wr PWMSTAT.SAFE 1 n).modPin n (fun p => { p with safeLeave := false })

/-- The channels of a group that enters its safe state. -/
def State.enterGroup (s : State) (j : Nat) : State := ((upFrom (8 * j) 8).foldl State.enterStep s).syncGroup j

theorem State.enterGroup_shows (s : State) (hj : j < 128) :
    inGroup j s (s.enterGroup j) ∧ regsKept s (s.enterGroup j) (pwmRegs j) ∧ evLike s (s.enterGroup j) ∧
      ∀ n, n / 8 = j → (s.enterGroup j).rd PWMSTAT.SAFE n = 1 := by
  obtain ⟨hside, hch, -⟩ := ((upFrom (8 * j) 8).foldl State.enterStep s).syncGroup_shows j
  have hsync : evLike ((upFrom (8 * j) 8).foldl State.enterStep s) (s.enterGroup j) := by
    rw [State.enterGroup, State.syncGroup]
    refine foldl_keeps (K := evLike) .refl .trans (fun x n _ => ?_) _
    rw [State.sync3]
    exact .modPin _ _ _
  have hgroup : inGroup j s ((upFrom (8 * j) 8).foldl State.enterStep s) :=
    foldl_keeps (K := inGroup j) (.refl _) .trans (fun x m hm => (inGroup.wr _ _ _ _ _ _).trans (.modPin _ _ (mem_group.mp hm))) s
  have hkept : regsKept s ((upFrom (8 * j) 8).foldl State.enterStep s) (pwmRegs j) :=
    foldl_keeps (K := fun x y => regsKept x y (pwmRegs j)) (fun x => .refl x _) .trans
      (fun x m hm => (regsKept.wr x PWMSTAT.SAFE 1 m 0 (mem_pwmRegs (mem_group.mp hm))).trans (.of_regs (State.modPin_regs _ _ _))) s
  have hlike : evLike s ((upFrom (8 * j) 8).foldl State.enterStep s) :=
    foldl_keeps (K := evLike) .refl .trans (fun x m hm => (evLike.wr x PWMSTAT.SAFE 1 m 0 (unitReg_ch rfl rfl (by decide)
      (by have := mem_group.mp hm; omega))).trans (.modPin _ _ _)) s
  have hsafe (n : Nat) (hn : n / 8 = j) : ((upFrom (8 * j) 8).foldl State.enterStep s).rd PWMSTAT.SAFE n = 1 := by
    obtain ⟨b, -, -, hlast⟩ := foldl_once (K := chanAlone n (PWMSTAT.WHOLE.adr n 0)) (f := State.enterStep) (l := upFrom (8 * j) 8) (.refl _ _) .trans
      (mem_group.mpr hn) (upFrom_nodup _ _) (fun x m _ hne => (chanAlone.wr _ PWMSTAT.SAFE _ _ _
        (chAdr_ne rfl rfl rfl rfl (by decide) (by decide) hne.symm)).trans (.modPin _ _ hne.symm)) s
    have hlast' : ((upFrom (8 * j) 8).foldl State.enterStep s).rd PWMSTAT.SAFE n = (b.enterStep n).rd PWMSTAT.SAFE n := chanAlone.rd (F := PWMSTAT.SAFE) hlast
    rw [hlast', State.enterStep, State.modPin_rd, State.wr_rd _ _ _ _ _ (by decide)]
    rfl
  rw [← State.enterGroup] at hside hch
  refine ⟨hgroup.trans (.of_chanSide hside hch), hkept.trans (.of_regs hside.regs), hlike.trans hsync, fun n hn => ?_⟩
  rw [hside.rd, hsafe n hn]

/-- The events of an entry into a safe state (R199). -/
def safeEvents (ts j k : Nat) : List Ev :=
  ⟨7778, ts / 64 * 64, j * 2 ^ 16 + k, false, false⟩ :: (upFrom (8 * j) 8).map (fun m => ⟨6 * m + 5, ts, 0x24 * 2 ^ 24 + k, false, false⟩)

theorem State.chFaults_raise (l : List Nat) (k : Nat) (s : State) :
    l.foldl (fun s n => s.chFault n 0x24 k) s =
      (l.map (fun m => (⟨6 * m + 5, s.tsPin, 0x24 * 2 ^ 24 + k, false, false⟩ : Ev))).foldl (fun x e => x.raiseEv e) s := by
  induction l generalizing s with
  | nil => rfl
  | cons m l ih =>
    have hside : eventSide s (s.chFault m 0x24 k) := .raiseAt _ _ _ _
    have hts : (s.chFault m 0x24 k).tsPin = s.tsPin := by rw [State.tsPin, State.tsPin, State.fine, State.fine, hside.now, hside.fineAt]
    rw [List.foldl_cons, ih, hts, List.map_cons, List.foldl_cons]
    rfl

/-- The entry into a safe state (R199). -/
theorem State.safeEnter_shows (s : State) (hj : j < 128) (k : Nat) (hk : k < 8) :
    inGroupEv j s (s.safeEnter j k) ∧ regsKeptEv s (s.safeEnter j k) (SAFESTAT.WHOLE.adr j 0 :: pwmRegs j) ∧
      (s.safeEnter j k).rd SAFESTAT.ACTIVE j = 1 ∧ (s.safeEnter j k).rd SAFESTAT.SRC j = k ∧
      (s.safeEnter j k).rd SAFESTAT.COUNT j = (s.rd SAFESTAT.COUNT j + 1) % 2 ^ 16 ∧
      (∀ n, n / 8 = j → (s.safeEnter j k).rd PWMSTAT.SAFE n = 1) ∧
      evLike ((safeEvents (s.fineAt 0 s.now) j k).foldl (fun x e => x.raiseEv e) s) (s.safeEnter j k) := by
  have heq : s.safeEnter j k = (upFrom (8 * j) 8).foldl (fun s n => s.chFault n 0x24 k)
      ((((((s.wr SAFESTAT.ACTIVE 1 j).wr SAFESTAT.SRC k j).inc SAFESTAT.COUNT 1 j).enterGroup j)).raise 7778 (j * 2 ^ 16 + k)) := rfl
  rw [State.chFaults_raise] at heq
  have hu (F : RField) (hF : F.blk = .grp) (hs : F.stride = 0) (ho : F.off < 0x1000) : unitReg (F.adr j 0) := grpAdr_unit hF (by rw [hs]; omega) hj
  have hblike : evLike s (((s.wr SAFESTAT.ACTIVE 1 j).wr SAFESTAT.SRC k j).inc SAFESTAT.COUNT 1 j) :=
    ((evLike.wr s SAFESTAT.ACTIVE 1 j 0 (hu _ rfl rfl (by decide))).trans (.wr _ SAFESTAT.SRC k j 0 (hu _ rfl rfl (by decide)))).trans
      (.inc _ SAFESTAT.COUNT 1 j 0 (hu _ rfl rfl (by decide)))
  have hbgroup : inGroup j s (((s.wr SAFESTAT.ACTIVE 1 j).wr SAFESTAT.SRC k j).inc SAFESTAT.COUNT 1 j) :=
    ((inGroup.wr _ _ _ _ _ _).trans (.wr _ _ _ _ _ _)).trans (.inc _ _ _ _ _ _)
  have hmem (F : RField) (hF : F.blk = .grp ∧ F.stride = 0 ∧ F.off = 0x234) : F.adr j 0 ∈ [SAFESTAT.WHOLE.adr j 0] := by
    obtain ⟨hb, hs, ho⟩ := hF
    simp [RField.adr, hb, hs, ho, SAFESTAT.WHOLE]
  have hbkept : regsKept s (((s.wr SAFESTAT.ACTIVE 1 j).wr SAFESTAT.SRC k j).inc SAFESTAT.COUNT 1 j) [SAFESTAT.WHOLE.adr j 0] :=
    ((regsKept.wr s SAFESTAT.ACTIVE _ _ _ (hmem _ (by decide))).trans (.wr _ SAFESTAT.SRC _ _ _ (hmem _ (by decide)))).trans
      (.inc _ SAFESTAT.COUNT _ _ _ (hmem _ (by decide)))
  have hbrd : (((s.wr SAFESTAT.ACTIVE 1 j).wr SAFESTAT.SRC k j).inc SAFESTAT.COUNT 1 j).rd SAFESTAT.ACTIVE j = 1 ∧
      (((s.wr SAFESTAT.ACTIVE 1 j).wr SAFESTAT.SRC k j).inc SAFESTAT.COUNT 1 j).rd SAFESTAT.SRC j = k ∧
      (((s.wr SAFESTAT.ACTIVE 1 j).wr SAFESTAT.SRC k j).inc SAFESTAT.COUNT 1 j).rd SAFESTAT.COUNT j = (s.rd SAFESTAT.COUNT j + 1) % 2 ^ 16 := by
    refine ⟨?_, ?_, ?_⟩
    · rw [State.inc, State.wr_rd_other _ _ _ _ _ _ _ _ (by decide) (by decide), State.wr_rd_other _ _ _ _ _ _ _ _ (by decide) (by decide),
        State.wr_rd _ _ _ _ _ (by decide)]
      rfl
    · rw [State.inc, State.wr_rd_other _ _ _ _ _ _ _ _ (by decide) (by decide), State.wr_rd _ _ _ _ _ (by decide)]
      exact Nat.mod_eq_of_lt hk
    · rw [State.inc_rd _ _ _ _ _ (by decide), State.wr_rd_other _ _ _ _ _ _ _ _ (by decide) (by decide),
        State.wr_rd_other _ _ _ _ _ _ _ _ (by decide) (by decide)]
      rfl
  generalize ((s.wr SAFESTAT.ACTIVE 1 j).wr SAFESTAT.SRC k j).inc SAFESTAT.COUNT 1 j = b at *
  obtain ⟨hegroup, hekept, helike, hesafe⟩ := b.enterGroup_shows hj
  have hrdE (F : RField) (hF : F.blk = .grp ∧ F.stride = 0 ∧ F.off = 0x234) : (b.enterGroup j).rd F j = b.rd F j := by
    obtain ⟨hb, hs, ho⟩ := hF
    rw [State.rd, hekept _ (not_mem_pwmRegs hb hs (by omega) (by rw [ho]; decide)), ← State.rd]
  generalize b.enterGroup j = e at *
  have hlike := hblike.trans helike
  have hint : e.tsInt = s.fineAt 0 s.now / 64 * 64 := by rw [hlike.tsInt, State.tsInt, State.fine]
  have hpin : (e.raise 7778 (j * 2 ^ 16 + k)).tsPin = s.fineAt 0 s.now := by
    have hside := eventSide.raise e 7778 (j * 2 ^ 16 + k)
    rw [State.tsPin, State.fine, hside.now, hside.fineAt, hlike.fineAt, hlike.now]
  have hraise : e.raise 7778 (j * 2 ^ 16 + k) = e.raiseEv ⟨7778, s.fineAt 0 s.now / 64 * 64, j * 2 ^ 16 + k, false, false⟩ := by
    rw [State.raise, hint, State.raiseAt]
  have hevs : s.safeEnter j k = (safeEvents (s.fineAt 0 s.now) j k).foldl (fun x e => x.raiseEv e) e := by
    rw [heq, hpin, hraise, safeEvents, List.foldl_cons]
  have hside : eventSide e (s.safeEnter j k) := by
    rw [hevs]
    exact foldl_keeps (K := eventSide) .refl .trans (fun x ev _ => .raiseEv x ev) e
  have hreg (a : Nat) (ha : evReg a = false) : (s.safeEnter j k).reg a = e.reg a := by
    rw [hevs]
    exact foldl_keeps (K := fun x y => y.reg a = x.reg a) (fun _ => rfl) (fun h k => k.trans h) (fun x ev _ => State.raiseEv_reg x ev a ha) e
  have hlast : evLike ((safeEvents (s.fineAt 0 s.now) j k).foldl (fun x e => x.raiseEv e) s) (s.safeEnter j k) := by
    rw [hevs]
    exact evLike.foldl₂ (f := fun x e => x.raiseEv e) (fun _ _ _ h => h.raiseEv₂ _) _ hlike
  generalize s.safeEnter j k = u at *
  have hurd (F : RField) (hF : F.blk = .grp ∧ F.stride = 0 ∧ F.off = 0x234) : u.rd F j = b.rd F j := by
    rw [State.rd, hreg _ (evReg_grp hF.1), ← State.rd, hrdE F hF]
  refine ⟨(hbgroup.trans hegroup).ev.trans (.of_eventSide hside), fun a ha he => ?_, ?_, ?_, ?_, fun n hn => ?_, hlast⟩
  · rw [List.mem_cons, not_or] at ha
    rw [hreg a he, hekept a ha.2, hbkept a (fun h => ha.1 (List.mem_singleton.mp h))]
  · rw [hurd _ (by decide), hbrd.1]
  · rw [hurd _ (by decide), hbrd.2.1]
  · rw [hurd _ (by decide), hbrd.2.2]
  · rw [State.rd, hreg _ (evReg_ch rfl), ← State.rd, hesafe n hn]

/-- The frame of a step of the channels of a group after a change of the group itself. -/
theorem inGroupEv.ran_modGr {f : Grp → Grp} {v : State} (h : inGroupEv j ((s.advance t).modGr j f) u) (hv : v = u.withQueue s.pending) :
    v = { s with now := v.now, regs := v.regs, chan := v.chan, grp := v.grp, fab := v.fab, pw := v.pw, teth := v.teth, tp := v.tp } := by
  have hgrp : ((s.advance t).modGr j f).grp = u.grp := by rw [h.1]
  have hframe : u = { s with
      now := u.now, regs := u.regs, chan := u.chan, grp := ((s.advance t).modGr j f).grp, fab := u.fab, pw := u.pw, teth := u.teth, tp := u.tp } := h.1
  rw [hgrp] at hframe
  rw [hv]
  exact congrArg (fun x : State => ({ x with pending := s.pending } : State)) hframe

theorem safeStateEffect_enters {x k : Nat} {q : List (Nat × Nat)} (hj : j < 128) (hnow : s.now ≤ t) (hq : (s.gr j).safe = (x, k) :: q)
    (hx : x ≤ t) (hk : k < 8) (hn : n / 8 = j) :
    ∃ u, exec (.safeStateEffect t j) s = .next u ∧
      u = { s with now := u.now, regs := u.regs, chan := u.chan, grp := u.grp, fab := u.fab, pw := u.pw, teth := u.teth, tp := u.tp } ∧
      (∀ m, m / 8 ≠ j → u.ch m = s.ch m) ∧ u.gr j = { s.gr j with safe := q } ∧ u.rd SAFESTAT.ACTIVE j = 1 ∧
      u.rd SAFESTAT.SRC j = k ∧ u.rd SAFESTAT.COUNT j = (s.rd SAFESTAT.COUNT j + 1) % 2 ^ 16 ∧ u.on PWMSTAT.SAFE n = true ∧
      regsKeptEv s u (SAFESTAT.WHOLE.adr j 0 :: pwmRegs j) ∧ raised s u t (safeEvents (s.fineAt 0 t) j k) := by
  set b := (s.advance t).modGr j (fun g => { g with safe := q }) with hb
  have heff : (s.advance t).safeEffect j = b.safeEnter j k := by
    have hq' : ((s.advance t).gr j).safe = (x, k) :: q := hq
    rw [State.safeEffect, hq']
    exact if_pos (by rw [State.advance_now_of_le hnow]; exact hx)
  have hbgr : b.gr j = { s.gr j with safe := q } := by
    rw [hb, State.modGr_gr]
    rfl
  have hblike : evLike (s.advance t) b := .modGr _ _ _
  have hbch (m : Nat) : b.ch m = s.ch m := by rw [hb, State.modGr_ch, State.ch_advance]
  have hbreg (a : Nat) : b.reg a = s.reg a := by rw [hb, State.modGr_reg, State.advance_reg]
  have hbnow : b.now = t := by rw [hb, State.modGr_now, State.advance_now_of_le hnow]
  have hbfine : b.fineAt 0 t = s.fineAt 0 t := by rw [hblike.fineAt, State.fineAt_advance]
  obtain ⟨hgroup, hkept, hact, hsrc', hcnt, hsafe, hlike⟩ := b.safeEnter_shows hj k hk
  rw [hbnow, hbfine] at hlike
  have huframe := hgroup.ran_modGr rfl
  refine ⟨_, s.ran_ok ((s.advance t).safeEffect j) _ (decide_eq_true hj), ?_⟩
  rw [heff]
  clear_value b
  generalize b.safeEnter j k = u at *
  refine ⟨?_, fun m hm => ?_, ?_, (State.withQueue_rd _ _ _ _ _).trans hact, (State.withQueue_rd _ _ _ _ _).trans hsrc', ?_, ?_, ?_, ?_⟩
  · exact huframe
  · rw [State.ch_withQueue, hgroup.2 m hm, hbch]
  · rw [State.gr_withQueue, hgroup.gr, hbgr]
  · rw [State.withQueue_rd, hcnt, State.rd, hbreg, ← State.rd]
  · rw [State.on_withQueue, State.on, hsafe n hn]
    rfl
  · exact fun a ha he => (State.withQueue_reg u s.pending a).trans ((hkept a ha he).trans (hbreg a))
  · exact raised_of_evLike (((evLike.foldl₂ (f := fun x e => x.raiseEv e) (fun _ _ _ h => h.raiseEv₂ _) _ hblike).trans hlike).trans (.withQueue _ _))

end

/-- Settles O33: trip lines, force orders and safe states. -/
theorem protection : Obligations.Protection := by
  refine ⟨fun t n i s hn hi hnow hgroup => ?_, fun t n src s hn hsrc hnow => ?_⟩
  · refine ⟨fun hact hno _ => ?_, fun hblank hcbc hlen hdue _ => ?_, fun src w hsrc happ => ?_⟩
    · exact tripLineActivation_shows hn hi hgroup hact hno rfl
    · exact blankWindowEnd_shows hn hi hnow (hgroup n rfl).1 (hgroup n rfl).2 rfl rfl hblank hcbc hlen hdue
    · exact tripclrClr_shows hn hi (hgroup n rfl).1 hsrc happ
  · refine ⟨fun happ c hc => ⟨force_immediate hc hn hsrc hnow happ, fun hrun => force_atPeriod hc hn hsrc hnow happ hrun,
        force_atInstant hc hn hsrc hnow happ rfl rfl⟩, fun happ mask hmask c hc => gforce_shows hc hn hsrc hnow happ hmask,
      fun w hwait hpair htb hdue _ hle => ⟨fun hgo => forceOrderEffect_takes hn hnow hwait hpair htb hdue hle hgo,
        fun ⟨hord, hrun⟩ => forceOrderEffect_waits hn hwait hord hrun⟩,
      fun happ w => ⟨safectlSafego_shows (by omega) hnow hsrc happ,
        fun hgo hon hloss => safectlSafeclr_shows (by omega) hsrc happ rfl hgo hon hloss⟩,
      fun x k q hq hx hk => safeStateEffect_enters (by omega) hnow hq hx hk rfl⟩

end Sys2Proof.Machine
end

section
/-! PROOFS. Statements about tails (chapter 9) that some state refutes. -/
namespace Sys2Proof.Machine
open Reg

/-! ### An edge at the instant of the newest sample (R235, notes/assumptions/131.md)

The spec states no speed over no time, so the model takes a free value, and counts that it has. The statement says that an
accepted edge changes nothing of the machine but registers, tails, spools and what events change. -/

/-- The count of free values after a step, where there is one. -/
def freeAfter : Out → Option Nat
  | .next u => some u.freeCtr
  | _ => none

/-- What an edge on tail `k` writes keeps the count of free values, the conditions of a loss, the state of a flying start and the
path of an emulated encoder. -/
structure tailQuiet (k : Nat) (s u : State) : Prop where
  free : u.freeCtr = s.freeCtr
  cond : (u.tailU k).cond = (s.tailU k).cond
  fly : u.rd FSSTAT.STATE k = s.rd FSSTAT.STATE k
  path : u.rd EMUSTAT.PATH k = s.rd EMUSTAT.PATH k

theorem tailQuiet.refl (k : Nat) (s : State) : tailQuiet k s s := ⟨rfl, rfl, rfl, rfl⟩

theorem tailQuiet.trans {k : Nat} {s u v : State} (h : tailQuiet k s u) (h' : tailQuiet k u v) : tailQuiet k s v :=
  ⟨h'.free.trans h.free, h'.cond.trans h.cond, h'.fly.trans h.fly, h'.path.trans h.path⟩

theorem tailQuiet.wr {k : Nat} {s u : State} (h : tailQuiet k s u) (F : RField) (v : Nat)
    (hF : FSSTAT.STATE.adr k 0 ≠ F.adr k 0 ∧ EMUSTAT.PATH.adr k 0 ≠ F.adr k 0) : tailQuiet k s (u.wr F v k) :=
  h.trans ⟨rfl, by rw [State.tailU, State.wr_tail]; rfl, State.wr_rd_ne u F FSSTAT.STATE v k 0 k 0 hF.1,
    State.wr_rd_ne u F EMUSTAT.PATH v k 0 k 0 hF.2⟩

theorem tailQuiet.modTail {k : Nat} {s u : State} (h : tailQuiet k s u) (f : TailH → TailH)
    (hf : ∀ h, (f h).cond = h.cond) : tailQuiet k s (u.modTail k f) :=
  h.trans ⟨rfl, by rw [State.modTail_tailU, hf], rfl, rfl⟩

theorem tailQuiet.recAsk {k : Nat} {s u : State} (h : tailQuiet k s u) : tailQuiet k s (u.recAsk k) := by
  rw [State.recAsk]
  split
  · exact h.modTail _ (fun _ => rfl)
  · exact h

/-- A new position sample writes the position's registers alone. -/
theorem tailQuiet.posSample {k : Nat} {s u : State} (h : tailQuiet k s u) (at_ pos : Nat) : tailQuiet k s (u.posSample k at_ pos) := by
  have ne : ∀ F ∈ [POS_LO.VALUE, POS_HI.VALUE, POSTS_LO.VALUE, POSTS_HI.VALUE, POSSEQ.SEQ], FSSTAT.STATE.adr k 0 ≠ F.adr k 0 ∧ EMUSTAT.PATH.adr k 0 ≠ F.adr k 0 := by
    simp [RField.adr, FSSTAT.STATE, EMUSTAT.PATH, POS_LO.VALUE, POS_HI.VALUE, POSTS_LO.VALUE, POSTS_HI.VALUE, POSSEQ.SEQ]
  rw [State.posSample]
  refine tailQuiet.recAsk ?_
  rw [State.inc, State.wr64, State.wr64]
  exact ((((h.wr _ _ (ne _ (by simp))).wr _ _ (ne _ (by simp))).wr _ _ (ne _ (by simp))).wr _ _ (ne _ (by simp))).wr _ _ (ne _ (by simp))

/-- A new speed asks nothing of a brake while no flying start is under way. -/
theorem tailQuiet.speed {k : Nat} {s u : State} (h : tailQuiet k s u) (hfly : s.rd FSSTAT.STATE k = 0)
    (v : Int) (stale low rev dir : Bool) (m : Nat) : tailQuiet k s (u.speed k v stale low rev dir m) := by
  have ne : ∀ F ∈ [VEL_LO.VALUE, VEL_HI.VALUE, VELSTAT.STALE, VELSTAT.LOWCONF, VELSTAT.REV, VELSTAT.DIR, VELSTAT.M, VELSTAT.UPD],
      FSSTAT.STATE.adr k 0 ≠ F.adr k 0 ∧ EMUSTAT.PATH.adr k 0 ≠ F.adr k 0 := by
    simp [RField.adr, FSSTAT.STATE, EMUSTAT.PATH, VEL_LO.VALUE, VEL_HI.VALUE, VELSTAT.STALE, VELSTAT.LOWCONF, VELSTAT.REV, VELSTAT.DIR,
      VELSTAT.M, VELSTAT.UPD]
  have calm : ∀ x, tailQuiet k s x → tailQuiet k s (x.brakeSpeed k) := fun x hx => by
    have hno : x.flyBusy k = false := by rw [State.flyBusy, State.on, hx.fly, hfly]; rfl
    rw [State.brakeSpeed, if_neg (fun hc => by rw [hno] at hc; exact absurd hc.1 (by decide))]
    exact hx
  have written : tailQuiet k s (((u.wr64 VEL_LO.VALUE VEL_HI.VALUE (ofSigned 64 v) k).wrs k [(VELSTAT.STALE, b2n stale),
      (VELSTAT.LOWCONF, b2n low), (VELSTAT.REV, b2n rev), (VELSTAT.DIR, b2n dir), (VELSTAT.M, m)]).inc VELSTAT.UPD 1 k) := by
    rw [State.inc, State.wrs, State.wr64]
    refine tailQuiet.wr ?_ _ _ (ne _ (by simp))
    exact ((((((h.wr _ _ (ne _ (by simp))).wr _ _ (ne _ (by simp))).wr _ _ (ne _ (by simp))).wr _ _ (ne _ (by simp))).wr _ _
      (ne _ (by simp))).wr _ _ (ne _ (by simp))).wr _ _ (ne _ (by simp))
  have asked : ∀ x o, tailQuiet k s x → tailQuiet k s (if x.velFlags k = o then x else x.recAsk k) := fun x o hx => by
    split
    · exact hx
    · exact hx.recAsk
  rw [State.speed]
  exact calm _ ((asked _ _ written).modTail _ (fun _ => rfl))

theorem tailQuiet.emuSample {k : Nat} {s u : State} (h : tailQuiet k s u) (ts : Nat) (diff : Int) :
    tailQuiet k s (u.emuSample k ts diff) := by
  have look : ∀ x, tailQuiet k s x → tailQuiet k s (x.emuLook k) := fun x hx => by
    rw [State.emuLook]
    split
    · exact hx
    · exact hx.modTail _ (fun _ => rfl)
  rw [State.emuSample]
  exact look _ (h.modTail _ (fun _ => rfl))

theorem tailQuiet.spoolEdge {k : Nat} {s u : State} (h : tailQuiet k s u) (src n : Nat) (e : SpEdge) :
    tailQuiet k s (u.spoolEdge src n e) := by
  rw [State.spoolEdge]
  refine h.trans (foldl_keeps (tailQuiet.refl k) tailQuiet.trans (fun s i _ => ?_) u)
  repeat' split
  all_goals exact ⟨rfl, rfl, rfl, rfl⟩

/-- The rate of a counted edge, and the state after it: it is the part of `qualEdge` that may take a free value. -/
def State.edgeRate (s : State) (k at_ : Nat) (up : Bool) : Int × State :=
  let ts := s.fineAt 0 at_
  let pos := toSigned 64 (s.rd64 POS_LO.VALUE POS_HI.VALUE k) + (if up then 1 else -1)
  let l := if (s.tailU k).samp ≠ [] ∧ s.on VELSTAT.DIR k = up then [⟨ts, pos⟩] else (⟨ts, pos⟩ :: (s.tailU k).samp).take 17
  let m := s.velM k l
  if m = 0 then (0, s) else s.rate ((if up then 1 else -1) * (m : Int)) (ts - (l.getD m ⟨ts, 0⟩).ts)

/-- A rate writes no register and no tail, over whatever time. -/
theorem rateOr_quiet (s : State) (p : Prop) [Decidable p] (d : Int) (dt : Nat) :
    (if p then ((0 : Int), s) else s.rate d dt).2.tail = s.tail ∧ (if p then ((0 : Int), s) else s.rate d dt).2.regs = s.regs := by
  split
  · exact ⟨rfl, rfl⟩
  · unfold State.rate
    split
    · exact ⟨rfl, rfl⟩
    · exact ⟨rfl, rfl⟩

theorem edgeRate_quiet (s : State) (k at_ : Nat) (up : Bool) :
    (s.edgeRate k at_ up).2.tail = s.tail ∧ (s.edgeRate k at_ up).2.regs = s.regs := rateOr_quiet s _ _ _

/-- A counted edge takes free values for its rate alone. -/
theorem qualEdge_quiet (s : State) (k at_ : Nat) (up : Bool) (hfly : s.rd FSSTAT.STATE k = 0)
    (hcond : bitAt (s.tailU k).cond 1 = false) : tailQuiet k (s.edgeRate k at_ up).2 (s.qualEdge k at_ up) := by
  obtain ⟨htail, hregs⟩ := edgeRate_quiet s k at_ up
  generalize hu : s.qualEdge k at_ up = u
  delta State.qualEdge at hu
  extract_lets h z ts d pos rev l m at hu
  have hr : s.edgeRate k at_ up = if m = 0 then ((0 : Int), s) else s.rate (d * (m : Int)) (ts - (l.getD m ⟨ts, 0⟩).ts) := rfl
  rw [← hr] at hu
  generalize s.edgeRate k at_ up = r at *
  obtain ⟨v, s'⟩ := r
  dsimp only at hu
  have hrate : tailQuiet k s' (if z.isSome then s'.wr64 ZCAP_LO.VALUE ZCAP_HI.VALUE (ofSigned 64 (toSigned 64
      (s'.rd64 ZCAP_LO.VALUE ZCAP_HI.VALUE k) + d)) k else s') := by
    split
    · exact (tailQuiet.wr (tailQuiet.refl _ _) _ _ (by simp [RField.adr, FSSTAT.STATE, EMUSTAT.PATH, ZCAP_LO.VALUE])).wr _ _
        (by simp [RField.adr, FSSTAT.STATE, EMUSTAT.PATH, ZCAP_HI.VALUE])
    · exact tailQuiet.refl _ _
  have hall := (((hrate.posSample at_ (ofSigned 64 (if z.any (·.2) then pos - d else pos))).modTail
    (fun h => { h with samp := l, diff := d, edgeAt := some at_, moveAt := at_, decayAt := at_ }) (fun _ => rfl)).speed
      (by rw [State.rd_of_regs _ _ _ _ _ hregs, hfly]) v false (decide (l.length < 4)) rev (!up) m).emuSample ts d
  rw [← hu]
  refine tailQuiet.spoolEdge ?_ 2 k _
  rw [State.lossCond, if_pos]
  · exact hall
  rw [hall.cond, State.tailU, htail]
  exact hcond

/-- Tail 0 is armed in INC and counts each edge, before the spine runs; its newest sample is as old as the next. -/
def State.incTail : State :=
  ((((State.reset.wr TAILCTL.ARM 1).wr TAILCTL.MODE 1).wr TAILCTL.CNT 2).modTail 0 (fun h => { h with samp := [⟨0, 0⟩] }))

/-- Tail 0 of `State.incTail` after the filter time of its rise of A. -/
def State.incTailRisen : State := (State.incTail.advance (ns 8)).wr TAILSTAT.LEVEL 4

/-- The rise takes a free value. -/
theorem incTail_rate : (State.incTailRisen.edgeRate 0 (ns 4) true).2.freeCtr = 1 ∧
    (State.incTailRisen.edgeRate 0 (ns 4) true).2.rd EMUSTAT.PATH = 0 := by decide +kernel

theorem freeAfter_ran (s u : State) : freeAfter (s.ran true u) = some u.freeCtr := rfl

/-- In INC with the levels 0, an accepted rise of A that the decoding counts is a counted edge forwards. -/
theorem tailEdge_rise (s : State) (k at_ : Nat) (hlevel : s.rd TAILSTAT.LEVEL k = 0) (hmode : s.rd TAILCTL.MODE k = 1)
    (harm : s.rd TAILCTL.ARM k = 1) (hinv : s.rd TAILCTL.DIRINV k = 0) (hdir : incDir (s.rd TAILCTL.CNT k) 0 2 = some true)
    (hold : at_ + tailFilt (s.rd TFILT.FILTAB k) ≤ s.now) (hother : (s.tailU k).abz.getD 1 0 = 0) :
    ∃ f, s.tailEdge k at_ 4 = (((s.wr TAILSTAT.LEVEL 4 k).qualEdge k at_ true).modTail k f).emuPass k := by
  have kept : ∀ G ∈ [TAILCTL.ARM, TAILCTL.MODE, TAILCTL.CNT, TAILCTL.DIRINV],
      (s.wr TAILSTAT.LEVEL 4 k).rd G k = s.rd G k := fun G hG => State.wr_rd_ne _ _ _ _ _ _ _ _ (by
    revert G
    simp [RField.adr, TAILCTL.ARM, TAILCTL.MODE, TAILCTL.CNT, TAILCTL.DIRINV, TAILSTAT.LEVEL])
  have hinc : (s.wr TAILSTAT.LEVEL 4 k).incEdge k at_ 0 2 = (s.wr TAILSTAT.LEVEL 4 k).qualEdge k at_ true := by
    have htail : (s.wr TAILSTAT.LEVEL 4 k).tailU k = s.tailU k := by rw [State.tailU, State.wr_tail]; rfl
    have hother' : (if 0 / 2 ≠ 2 / 2 then (s.tailU k).abz.getD 1 0 else (s.tailU k).abz.getD 0 0) = 0 := by
      rw [if_pos (by decide), hother]
    rw [State.incEdge, htail, hother', if_neg (by simp), kept _ (by simp), hdir, State.on, kept _ (by simp), hinv]
    rfl
  generalize hu : s.tailEdge k at_ 4 = u
  delta State.tailEdge at hu
  extract_lets old new s₁ s₂ abz at hu
  have hold' : old = 0 := hlevel
  have hnew : new = 4 := by
    simp only [new, hmode, hold']
    rfl
  have hs₁ : s₁ = s.wr TAILSTAT.LEVEL 4 k := by rw [← hnew]
  have hs₂ : s₂ = (s.wr TAILSTAT.LEVEL 4 k).qualEdge k at_ true := by
    simp only [s₂]
    have hmode' : (s.wr TAILSTAT.LEVEL 4 k).rd TAILCTL.MODE k = 1 := (kept _ (by simp)).trans hmode
    rw [hs₁, if_neg (by rw [State.on, kept _ (by simp), harm]; decide), hold', hnew]
    split
    · rw [Nat.zero_div, show 4 / 2 = 2 from rfl, hinc]
    · exact absurd (hmode'.symm.trans (by assumption)) (by decide)
    · exact absurd hmode' (by assumption)
  rw [if_neg (by rw [hold', hnew]; omega), hs₂] at hu
  exact ⟨_, hu.symm⟩

theorem incTail_freeCtr : ((State.incTail.advance (ns 8)).tailEdge 0 (ns 4) 4).freeCtr = 1 := by
  obtain ⟨hfree, hpath⟩ := incTail_rate
  have hq := qualEdge_quiet State.incTailRisen 0 (ns 4) true (by decide) (by decide)
  obtain ⟨f, hf⟩ := tailEdge_rise (State.incTail.advance (ns 8)) 0 (ns 4) (by decide) (by decide) (by decide) (by decide)
    (by decide) (by decide) (by decide)
  have hrisen : (State.incTail.advance (ns 8)).wr TAILSTAT.LEVEL 4 = State.incTailRisen := rfl
  rw [hf, hrisen, State.emuPass, if_pos]
  · rw [State.modTail_freeCtr]
    exact hq.free.trans hfree
  · rw [State.modTail_rd, hq.path, hpath]; decide

/-- Refutes O35: a rise of A that lies at the instant of the sample before it takes a free value. -/
theorem not_tailDecoding : ¬ Obligations.TailDecoding := by
  intro h
  obtain ⟨-, edges, -⟩ := h (ns 8) 0 (ns 4) 4 State.incTail (by decide) (by decide) (by decide +kernel) (by decide) (by decide)
  obtain ⟨inc, -⟩ := edges (by decide) (by decide) (by decide) (fun z hz => nomatch hz)
  obtain ⟨counted, -⟩ := inc (by decide)
  obtain ⟨-, hcounts⟩ := counted (by decide) (by decide)
  obtain ⟨u, hu, ⟨hframe, -⟩, -⟩ := hcounts true (by decide)
  have hfree : freeAfter (exec (.tailEdgeAccept (ns 8) 0 (ns 4) 4) State.incTail) = some State.incTail.freeCtr := by
    rw [hu, freeAfter, hframe]
  have hone : freeAfter (exec (.tailEdgeAccept (ns 8) 0 (ns 4) 4) State.incTail) = some 1 :=
    (freeAfter_ran _ _).trans (congrArg some incTail_freeCtr)
  exact absurd (hfree.symm.trans hone) (by decide)

end Sys2Proof.Machine
end

section
/-! PROOFS. What a step does: the registers it may write, the events it raises and the part of the machine it keeps. -/
namespace Sys2Proof.Machine
open Reg

/-! ### A step, told by what it writes and raises -/

/-- A relation of states that writes of registers and raised events respect. -/
structure framing (K : State → State → Prop) : Prop where
  refl : ∀ s, K s s
  trans : ∀ {s u v}, K s u → K u v → K s v
  event : ∀ {s u}, eventSide s u → K s u

/-- One of the rows `L` is the row of field `F`. -/
def inRows (L : List RField) (F : RField) : Bool := L.any (fun W => W.blk == F.blk && W.off == F.off && W.stride == 0 && F.stride == 0)

theorem inRows_adr {L : List RField} {F : RField} (h : inRows L F = true) (k : Nat) : F.adr k 0 ∈ L.map (·.adr k 0) := by
  obtain ⟨W, hW, hWF⟩ := List.any_eq_true.mp h
  simp only [Bool.and_eq_true, beq_iff_eq] at hWF
  obtain ⟨⟨⟨hblk, hoff⟩, hs⟩, hs'⟩ := hWF
  refine List.mem_map.mpr ⟨W, hW, ?_⟩
  rw [RField.adr, RField.adr, hblk, hoff, hs, hs']

/-- Two rows of one block lie at two addresses. -/
theorem adr_ne_off {F G : RField} (hb : F.blk = G.blk ∧ F.stride = 0 ∧ G.stride = 0 ∧ F.off ≠ G.off) (k : Nat) :
    F.adr k 0 ≠ G.adr k 0 := by
  obtain ⟨hblk, hs, hs', ho⟩ := hb
  rw [RField.adr, RField.adr, hblk, hs, hs']
  omega

theorem wr_rd_off (s : State) (F G : RField) (v k : Nat) (hb : G.blk = F.blk ∧ G.stride = 0 ∧ F.stride = 0 ∧ G.off ≠ F.off) :
    (s.wr F v k).rd G k = s.rd G k := State.wr_rd_ne _ _ _ _ _ _ _ _ (adr_ne_off hb k)

theorem not_inRows_adr {L : List RField} {G : RField}
    (h : L.all (fun W => decide (G.blk = W.blk ∧ G.stride = 0 ∧ W.stride = 0 ∧ G.off ≠ W.off)) = true) (k : Nat) :
    G.adr k 0 ∉ L.map (·.adr k 0) := fun hm => by
  obtain ⟨W, hW, hadr⟩ := List.mem_map.mp hm
  exact adr_ne_off (of_decide_eq_true (List.all_eq_true.mp h W hW)) k hadr.symm

/-- From `s` to `u` a step wrote only the rows `L` of unit `k` and raised the events `E`, and it keeps what `K` keeps. -/
structure did (K : State → State → Prop) (k : Nat) (L : List RField) (E : List Ev) (s u : State) : Prop where
  kept : K s u
  regs : regsKeptEv s u (L.map (·.adr k 0))
  evs : evLike (E.foldl (fun x e => x.raiseEv e) s) u

namespace did
variable {K : State → State → Prop} {k : Nat} {L : List RField} {E E' : List Ev} {s u v : State}

theorem refl (hK : framing K) (k : Nat) (L : List RField) (s : State) : did K k L [] s s := ⟨hK.refl s, fun _ _ _ => rfl, .refl s⟩

theorem trans (hK : framing K) (h : did K k L E s u) (h' : did K k L E' u v) : did K k L (E ++ E') s v :=
  ⟨hK.trans h.kept h'.kept, fun a ha he => (h'.regs a ha he).trans (h.regs a ha he), evLike.raised_append h.evs h'.evs⟩

/-- A step that raises nothing comes after. -/
theorem next (hK : framing K) (h : did K k L E s u) (h' : did K k L [] u v) : did K k L E s v := by
  have := h.trans hK h'
  rwa [List.append_nil] at this

theorem mono {L' : List RField} (h : did K k L E s u) (hL : ∀ W ∈ L, W ∈ L') : did K k L' E s u :=
  ⟨h.kept, fun a ha he => h.regs a (fun hm => ha (by
    obtain ⟨W, hW, rfl⟩ := List.mem_map.mp hm
    exact List.mem_map.mpr ⟨W, hL W hW, rfl⟩)) he, h.evs⟩

theorem wr (hK : framing K) (h : did K k L E s u) (F : RField) (x : Nat) (hF : inRows L F = true) (hu : unitReg (F.adr k 0)) :
    did K k L E s (u.wr F x k) :=
  h.next hK ⟨hK.event (.wr u F x k 0), fun a ha _ => State.wr_reg_ne _ _ _ _ _ _ (fun e => ha (e ▸ inRows_adr hF k)), .wr u F x k 0 hu⟩

theorem raiseEv (hK : framing K) (h : did K k L E s u) (e : Ev) : did K k L (E ++ [e]) s (u.raiseEv e) :=
  h.trans hK ⟨hK.event (.raiseEv u e), fun a _ he => State.raiseEv_reg u e a he, .refl _⟩

/-- A step that writes no register and raises nothing. -/
theorem quiet (hK : framing K) (h : did K k L E s u) (hv : K u v) (hregs : v.regs = u.regs) (hev : evLike u v) : did K k L E s v :=
  h.next hK ⟨hv, fun a _ _ => State.reg_of_regs _ _ _ hregs, hev⟩

theorem rd (h : did K k L E s u) (G : RField)
    (hG : L.all (fun W => decide (G.blk = W.blk ∧ G.stride = 0 ∧ W.stride = 0 ∧ G.off ≠ W.off)) = true)
    (hu : 0x1000000 ≤ G.adr k 0) : u.rd G k = s.rd G k := by
  rw [State.rd, State.rd, h.regs _ (not_inRows_adr hG k) (evReg_of_engine hu)]

end did

/-! ### Tails -/

/-- What a tail's own steps may change: the tail, the spools that follow it, and what raised events reach. -/
theorem framing_tail (k : Nat) : framing (fun s u => tailEvents s u k) where
  refl _ := ⟨rfl, fun _ _ => rfl⟩
  trans h h' := by
    obtain ⟨hf, ho⟩ := h
    obtain ⟨hf', ho'⟩ := h'
    exact ⟨by rw [hf', hf], fun m hm => (ho' m hm).trans (ho m hm)⟩
  event h := by
    unfold eventSide at h
    exact ⟨by rw [h], fun m _ => by rw [h]; rfl⟩

/-- A step on tail `k`. -/
def tailDid (k : Nat) : List RField → List Ev → State → State → Prop := did (fun s u => tailEvents s u k) k

theorem tailReg {F : RField} {k : Nat} (hF : (F.blk == .tail && F.stride == 0 && decide (F.off < 0x1000)) = true) (hk : k < 128) :
    unitReg (F.adr k 0) := by
  simp only [Bool.and_eq_true, beq_iff_eq, decide_eq_true_eq] at hF
  obtain ⟨⟨hblk, hs⟩, ho⟩ := hF
  simp only [unitReg, RField.adr, hblk, blkBase, hs]
  omega

namespace tailDid
variable {k : Nat} {L : List RField} {E : List Ev} {s u : State}

theorem refl (k : Nat) (L : List RField) (s : State) : tailDid k L [] s s := did.refl (framing_tail k) k L s

/-- A field of one of the rows is written. -/
theorem wr (h : tailDid k L E s u) (F : RField) (x : Nat) (hk : k < 128)
    (hF : (inRows L F && (F.blk == .tail && F.stride == 0 && decide (F.off < 0x1000))) = true) : tailDid k L E s (u.wr F x k) :=
  did.wr (framing_tail k) h F x (Bool.and_eq_true_iff.mp hF).1 (tailReg (Bool.and_eq_true_iff.mp hF).2 hk)

theorem raiseAt (h : tailDid k L E s u) (id d ts : Nat) : tailDid k L (E ++ [⟨id, ts, d, false, false⟩]) s (u.raiseAt id d ts) :=
  did.raiseEv (framing_tail k) h _

theorem modTail (h : tailDid k L E s u) (f : TailH → TailH) : tailDid k L E s (u.modTail k f) :=
  did.quiet (framing_tail k) h ⟨rfl, fun m hm => State.modTail_tailU_ne u k m f hm⟩ rfl ⟨rfl, rfl, rfl, rfl, rfl, rfl, rfl, fun _ _ => rfl⟩

theorem rd (h : tailDid k L E s u) (G : RField)
    (hG : (L.all (fun W => decide (G.blk = W.blk ∧ G.stride = 0 ∧ W.stride = 0 ∧ G.off ≠ W.off)) &&
      (G.blk == .tail && G.stride == 0 && decide (G.off < 0x1000))) = true) (hk : k < 128) : u.rd G k = s.rd G k :=
  did.rd h G (Bool.and_eq_true_iff.mp hG).1 (tailReg (Bool.and_eq_true_iff.mp hG).2 hk).1

theorem fineAt (h : tailDid k L E s u) (j x : Nat) : u.fineAt j x = s.fineAt j x := by
  have hs := h.kept.1
  rw [State.fineAt, State.fineAt, State.tbVal, State.tbVal, State.tbH, State.tbH, hs]

theorem ch (h : tailDid k L E s u) (n : Nat) : u.ch n = s.ch n := by rw [h.kept.1]; rfl

/-- A flying start stands as it did. -/
theorem flyBusy (h : tailDid k L E s u) (hk : k < 128)
    (hG : (L.all (fun W => decide (FSSTAT.STATE.blk = W.blk ∧ FSSTAT.STATE.stride = 0 ∧ W.stride = 0 ∧ FSSTAT.STATE.off ≠ W.off)) &&
      (L.all (fun W => decide (FSCTL.GRP.blk = W.blk ∧ FSCTL.GRP.stride = 0 ∧ W.stride = 0 ∧ FSCTL.GRP.off ≠ W.off)))) = true) :
    u.flyBusy k = s.flyBusy k := by
  obtain ⟨hstate, hgrp⟩ := Bool.and_eq_true_iff.mp hG
  rw [State.flyBusy, State.flyBusy, State.on, State.on, h.rd FSSTAT.STATE (Bool.and_eq_true_iff.mpr ⟨hstate, rfl⟩) hk,
    h.rd FSCTL.GRP (Bool.and_eq_true_iff.mpr ⟨hgrp, rfl⟩) hk, State.flyHeld, State.flyHeld]
  simp only [h.ch]

/-- What a command's step shows of the machine: it is told of the state at the command's instant. -/
theorem ran {t : Nat} (h : tailDid k L E (s.advance t) u) :
    tailEvents s (u.withQueue s.pending) k ∧ regsKeptEv s (u.withQueue s.pending) (L.map (·.adr k 0)) ∧
      raised s (u.withQueue s.pending) t E := by
  obtain ⟨⟨hframe, hothers⟩, hregs, hevs⟩ := h
  refine ⟨⟨by rw [hframe]; rfl, hothers⟩, hregs, hevs.fab⟩

end tailDid

end Sys2Proof.Machine
end

section
/-! PROOFS. Serial encoders (chapter 9). -/
namespace Sys2Proof.Machine
open Reg

/-! ### Frames that fail -/

theorem cnt_rd_off (s : State) (F G : RField) (v k : Nat) (hb : G.blk = F.blk ∧ G.stride = 0 ∧ F.stride = 0 ∧ G.off ≠ F.off) :
    (s.cnt F v k).rd G k = s.rd G k := wr_rd_off s F G _ k hb

/-- The rows a failed frame writes. -/
def failRows : List RField := [TAILSTAT.WHOLE, POSSTAT.WHOLE]

section
variable {k cause at_ t T trt : Nat} {s u : State}

/-- A field of a tail is no register of the event fabric's. -/
theorem raiseAt_tailRd (s : State) (id d ts : Nat) (F : RField) (hF : F.blk = .tail) : (s.raiseAt id d ts).rd F k = s.rd F k :=
  State.raiseAt_rd _ _ _ _ _ _ _ (evReg_of_engine (by rw [RField.adr, hF, blkBase]; omega))

theorem raiseEv_tail (s : State) (e : Ev) : (s.raiseEv e).tail = s.tail := by rw [eventSide.raiseEv s e]

/-- An error that no other preceded is raised with its cause, and restarts the count (R233). -/
theorem tailErr_first {L : List RField} {E : List Ev} (h : tailDid k L E s u) (herr : (u.tailU k).errAt = none) (cause at_ : Nat) :
    tailDid k L (E ++ [⟨6144 + 4 * k, s.fineAt 0 at_, cause * 2 ^ 24 + satTo 0xFFFF ((u.tailU k).errs + 1), false, false⟩]) s (u.tailErr k cause at_) ∧
      (∀ F : RField, F.blk = .tail → (u.tailErr k cause at_).rd F k = u.rd F k) ∧
      (u.tailErr k cause at_).tail = (u.modTail k (fun h => { h with errs := 0, errAt := some u.now })).tail := by
  have htell := h.fineAt 0 at_
  have hraised := (h.modTail (fun h => { h with errs := 0, errAt := some u.now })).raiseAt (6144 + 4 * k)
    (cause * 2 ^ 24 + satTo 0xFFFF ((u.tailU k).errs + 1)) (s.fineAt 0 at_)
  rw [State.tailErr, if_pos (by rw [herr]; rfl)]
  rw [htell]
  refine ⟨hraised, fun F hF => ?_, ?_⟩
  · rw [raiseAt_tailRd _ _ _ _ _ hF, State.modTail_rd]
  · exact raiseEv_tail _ _

/-- What a failed frame leaves, with the event of its cause at the sample's instant. -/
structure frameFailed (k cause at_ : Nat) (s u : State) : Prop where
  did : tailDid k failRows [⟨6144 + 4 * k, s.fineAt 0 at_, cause * 2 ^ 24 + satTo 0xFFFF ((s.tailU k).errs + 1), false, false⟩] s u
  failcnt : u.rd TAILSTAT.FAILCNT k = satTo 0xFF (s.rd TAILSTAT.FAILCNT k + 1)
  failrun : u.rd POSSTAT.FAILRUN k = satTo 0xFF (s.rd POSSTAT.FAILRUN k + 1)
  busy : u.rd TAILSTAT.BUSY k = 0
  frame : (u.tailU k).frame = none
  crcerr : cause = 4 → u.rd POSSTAT.CRCERR k = 1

/-- What a failed frame writes before its event. -/
def State.failMarks (s : State) (k cause : Nat) : State :=
  let s := (s.cnt TAILSTAT.FAILCNT 1 k).cnt POSSTAT.FAILRUN 1 k
  let s := if cause = 6 then s else s.wrs k [(POSSTAT.CRCERR, b2n (cause == 4)), (POSSTAT.ENCERR, b2n (cause == 7))]
  s.wr TAILSTAT.BUSY 0 k

theorem failMarks_did (hk : k < 128) (s : State) (cause : Nat) : tailDid k failRows [] s (s.failMarks k cause) := by
  have counted : tailDid k failRows [] s ((s.cnt TAILSTAT.FAILCNT 1 k).cnt POSSTAT.FAILRUN 1 k) :=
    ((tailDid.refl k _ s).wr _ _ hk rfl).wr _ _ hk rfl
  rw [State.failMarks]
  refine tailDid.wr ?_ _ _ hk rfl
  split
  · exact counted
  · exact (counted.wr _ _ hk rfl).wr _ _ hk rfl

theorem failMarks_fields (s : State) (k cause : Nat) :
    (s.failMarks k cause).rd TAILSTAT.FAILCNT k = satTo 0xFF (s.rd TAILSTAT.FAILCNT k + 1) ∧
    (s.failMarks k cause).rd POSSTAT.FAILRUN k = satTo 0xFF (s.rd POSSTAT.FAILRUN k + 1) ∧
    (s.failMarks k cause).rd TAILSTAT.BUSY k = 0 ∧ (cause = 4 → (s.failMarks k cause).rd POSSTAT.CRCERR k = 1) ∧
    (s.failMarks k cause).tailU k = s.tailU k := by
  refine ⟨?_, ?_, ?_, ?_, ?_⟩
  · rw [State.failMarks]
    split
    all_goals
      simp (disch := decide) only [State.wrs, List.foldl_cons, List.foldl_nil, State.wr_rd_other, cnt_rd_off, State.cnt_rd]
      rfl
  · rw [State.failMarks]
    split
    all_goals
      simp (disch := decide) only [State.wrs, List.foldl_cons, List.foldl_nil, State.wr_rd_other, cnt_rd_off, State.cnt_rd]
      rfl
  · rw [State.failMarks, State.wr_rd _ _ _ _ _ (by decide), Nat.zero_mod]
  · intro h4
    rw [State.failMarks, if_neg (by omega), h4]
    simp (disch := decide) only [State.wrs, List.foldl_cons, List.foldl_nil, State.wr_rd_other, State.wr_rd]
    rfl
  · have ht : (s.failMarks k cause).tail = s.tail := by
      rw [State.failMarks, State.wr_tail]
      split
      · rw [State.cnt, State.wr_tail, State.cnt, State.wr_tail]
      · rw [State.wrs_tail, State.cnt, State.wr_tail, State.cnt, State.wr_tail]
    rw [State.tailU, State.tailU, ht]

/-- A frame that fails (R233), no other error reported within 1 µs and the run of failures short of CRCMAX. -/
theorem frameFail_shows (hk : k < 128) (herr : (s.tailU k).errAt = none) (hrun : s.rd POSSTAT.FAILRUN k + 1 < s.rd SERCHK.CRCMAX k) :
    frameFailed k cause at_ s (s.frameFail k cause at_) := by
  obtain ⟨hcnt, hfr, hbusy, hcrc, htail⟩ := failMarks_fields s k cause
  have hmarks := failMarks_did hk s cause
  have hdone : s.frameFail k cause at_ = (let m := ((s.failMarks k cause).modTail k (fun h => { h with frame := none })).tailErr k cause at_
      if m.rd SERCHK.CRCMAX k ≤ m.rd POSSTAT.FAILRUN k then m.lossCond k 3 true m.now else m) := rfl
  rw [hdone]
  generalize s.failMarks k cause = m at *
  have hm' := hmarks.modTail (fun h => { h with frame := none })
  have htail' : (m.modTail k (fun h => { h with frame := none })).tailU k = { s.tailU k with frame := none } := by
    rw [State.modTail_tailU, htail]
  have hrd' (F : RField) : (m.modTail k (fun h => { h with frame := none })).rd F k = m.rd F k := State.modTail_rd _ _ _ _ _ _
  generalize m.modTail k (fun h => { h with frame := none }) = m' at *
  obtain ⟨hdid, hrd, ht⟩ := tailErr_first hm' (by rw [htail']; exact herr) cause at_
  rw [htail'] at hdid
  generalize m'.tailErr k cause at_ = u at *
  have hrow (F : RField) (hF : F.blk = .tail) : u.rd F k = m.rd F k := (hrd F hF).trans (hrd' F)
  dsimp only
  rw [if_neg]
  · refine ⟨hdid, (hrow _ rfl).trans hcnt, (hrow _ rfl).trans hfr, (hrow _ rfl).trans hbusy, ?_, fun h4 => (hrow _ rfl).trans (hcrc h4)⟩
    rw [State.tailU, ht, ← State.tailU, State.modTail_tailU, htail']
  · rw [hdid.rd SERCHK.CRCMAX rfl hk, hrow POSSTAT.FAILRUN rfl, hfr, satTo]
    split <;> omega

theorem tailU_withQueue (s : State) (q : List Instr) (k : Nat) : (s.withQueue q).tailU k = s.tailU k := (rfl)
theorem tailU_advance (s : State) (t k : Nat) : (s.advance t).tailU k = s.tailU k := (rfl)
theorem tailU_wr (s : State) (F : RField) (x n i k : Nat) : (s.wr F x n i).tailU k = s.tailU k := (rfl)
theorem flyBusy_advance (s : State) (t k : Nat) : (s.advance t).flyBusy k = s.flyBusy k := (rfl)

/-! ### Triggers -/

theorem blkOf_tail {o : Nat} (hk : k < 128) (ho : o < 0x1000) : blkOf (0x2400000 + 0x1000 * k + o) = some (.tail, k, o) := by
  have hdiv : (0x2400000 + 0x1000 * k + o - 0x2400000) / 0x1000 = k := by omega
  have hmod : (0x2400000 + 0x1000 * k + o) % 0x1000 = o := by omega
  rw [blkOf, if_neg (by omega), if_neg (by omega), if_neg (by omega), if_neg (by omega), if_neg (by omega), if_neg (by omega),
    if_neg (by omega), if_neg (by omega), if_neg (by omega), if_neg (by omega), if_neg (by omega), if_neg (by omega),
    if_neg (by omega), if_neg (by omega), if_neg (by omega), if_neg (by omega), if_pos (by omega), hdiv, hmod]

theorem regRow_sertrig (hk : k < 128) : regRow (SERTRIG.WHOLE.adr k 0) = some ⟨24, 1, 0, 4294705152, 0, 0, 131072, 4294705152, 0⟩ := by
  have hadr : SERTRIG.WHOLE.adr k 0 = 0x2400000 + 0x1000 * k + 24 := by
    simp only [RField.adr, blkBase, SERTRIG.WHOLE, Nat.mul_zero, Nat.add_zero]
  have hrow : (rowAt (blkRows .tail) 24).map (·.1) = some ⟨24, 1, 0, 4294705152, 0, 0, 131072, 4294705152, 0⟩ := by decide
  rw [hadr, regRow, blkOf_tail hk (by decide)]
  exact hrow

/-- A GO written to SERTRIG of an armed tail waits 100 ns (R229). -/
theorem sertrigGo_shows {src : Src} {w : Word} (hk : k < 128) (hnow : s.now ≤ t) (harm : s.on TAILCTL.ARM k = true) (hsrc : src.ok = true)
    (happ : s.applies src (SERTRIG.WHOLE.adr k 0) = true) :
    ∃ u, exec (.sertrigGo t src k w) s = .next u ∧ u = { s with now := u.now, regs := u.regs, tail := u.tail } ∧
      (∀ m, m ≠ k → u.tailU m = s.tailU m) ∧ regsKept s u [SERTRIG.WHOLE.adr k 0] ∧
      (u.tailU k).goAt = (s.tailU k).goAt ++ [t + ns 100] ∧ (u.tailU k).trigs = [] ∧
      u.rd SERTRIG.TSRC k = SERTRIG.TSRC.of w ∧ (u.tailU k).frame = (s.tailU k).frame := by
  have hex := does_of_applies (i := .sertrigGo t src k w) (t := t) happ rfl (by simp [hsrc, hk])
  have hgo : SERTRIG.GO.of (w ||| 0x20000) = 1 := RField.of_bit_set rfl (by decide) w
  have hsrc' : SERTRIG.TSRC.of (w ||| 0x20000) = SERTRIG.TSRC.of w := RField.of_or (by decide) w
  have htsrc := State.plainWrite_rd (s := s.advance t) (w ||| 0x20000) (regRow_sertrig hk) (F := SERTRIG.TSRC) (n := k) (i := 0) rfl (by decide)
  have hkept : regsKept (s.advance t) ((s.advance t).plainWrite (SERTRIG.WHOLE.adr k 0) (w ||| 0x20000)) [SERTRIG.WHOLE.adr k 0] :=
    fun a ha => State.plainWrite_reg_ne _ (fun h => ha (List.mem_singleton.mpr h))
  have honly := regsOnly.plainWrite (s.advance t) (SERTRIG.WHOLE.adr k 0) (w ||| 0x20000)
  have hwrite : (s.advance t).sertrigWrite k (w ||| 0x20000) = (((s.advance t).plainWrite (SERTRIG.WHOLE.adr k 0) (w ||| 0x20000)).modTail k
      (fun h => { h with trigs := [], per := if SERTRIG.TSRC.of (w ||| 0x20000) = 1 then h.per else none })).modTail k
        (fun h => { h with goAt := h.goAt ++ [((s.advance t).plainWrite (SERTRIG.WHOLE.adr k 0) (w ||| 0x20000)).now + ns 100] }) := by
    rw [State.sertrigWrite, if_pos]
    · rfl
    · refine ⟨hgo, ?_⟩
      rw [State.on, State.modTail_rd, State.rd, hkept _ (by simp [RField.adr, TAILCTL.ARM, SERTRIG.WHOLE]), State.advance_reg, ← State.rd, ← State.on]
      exact harm
  rw [does, hwrite] at hex
  generalize (s.advance t).plainWrite (SERTRIG.WHOLE.adr k 0) (w ||| 0x20000) = b at *
  have hnowb : b.now = t := by rw [honly]; exact State.advance_now_of_le hnow
  have htb : b.tailU k = s.tailU k := by rw [honly]; rfl
  have hothers (m : Nat) (hm : m ≠ k) : b.tailU m = s.tailU m := by rw [honly]; rfl
  refine ⟨_, hex, ?_, fun m hm => ?_, ?_, ?_, ?_, ?_, ?_⟩
  · rw [honly]; rfl
  · rw [tailU_withQueue, State.modTail_tailU_ne _ _ _ _ hm, State.modTail_tailU_ne _ _ _ _ hm, hothers m hm]
  · exact regsKept.ran (hkept.trans (.of_regs rfl))
  · rw [tailU_withQueue, State.modTail_tailU, State.modTail_tailU, hnowb, htb]
  · rw [tailU_withQueue, State.modTail_tailU, State.modTail_tailU]
  · rw [State.withQueue_rd, State.modTail_rd, State.modTail_rd, htsrc, hsrc']
  · rw [tailU_withQueue, State.modTail_tailU, State.modTail_tailU, htb]

theorem serialTrigger_go {g : Nat} {r : List Nat} (harm : s.on TAILCTL.ARM k = true) (hmode : s.rd TAILCTL.MODE k = 4)
    (hg : (s.tailU k).goAt = g :: r) (hle : g ≤ s.now) (ready : Bool) :
    s.serialTrigger k ready = (s.modTail k (fun h => { h with goAt := r })).serTrigger k g ready := by
  rw [State.serialTrigger, if_neg (by rw [harm, State.serial, hmode]; decide), hg]
  dsimp only
  rw [if_pos hle]

theorem serTrigger_busy (h : s.on TAILSTAT.BUSY k = true) (g : Nat) (ready : Bool) : s.serTrigger k g ready = s.cnt TAILSTAT.MISSED 1 k := by
  rw [State.serTrigger, if_pos h]

theorem serTrigger_ready (h : s.on TAILSTAT.BUSY k = false) (g : Nat) :
    s.serTrigger k g true = (s.wr TAILSTAT.BUSY 1 k).modTail k (fun h => { h with frame := some g }) := by
  rw [State.serTrigger, if_neg (by rw [h]; decide), if_neg (by decide)]

theorem serTrigger_notReady (h : s.on TAILSTAT.BUSY k = false) (g : Nat) : s.serTrigger k g false = s.frameFail k 6 g := by
  rw [State.serTrigger, if_neg (by rw [h]; decide), if_pos (by decide)]

/-- A GO whose instant has come, at a tail that is busy, that the slave is ready for, and that it is not (R229, R233). -/
theorem serialTrigger_shows {g : Nat} {r : List Nat} (hk : k < 128) (hnow : s.now ≤ t) (harm : s.on TAILCTL.ARM k = true)
    (hmode : s.rd TAILCTL.MODE k = 4) (hg : (s.tailU k).goAt = g :: r) (hle : g ≤ t) :
    (s.on TAILSTAT.BUSY k = true → ∀ ready, ∃ u, exec (.serialTrigger t k ready) s = .next u ∧ tailEvents s u k ∧
      regsKept s u [TAILSTAT.WHOLE.adr k 0] ∧ u.rd TAILSTAT.MISSED k = satTo 0xFF (s.rd TAILSTAT.MISSED k + 1) ∧
      u.tailU k = { s.tailU k with goAt := r }) ∧
    (s.on TAILSTAT.BUSY k = false → ∃ u, exec (.serialTrigger t k true) s = .next u ∧ tailEvents s u k ∧
      regsKept s u [TAILSTAT.WHOLE.adr k 0] ∧ u.rd TAILSTAT.BUSY k = 1 ∧ u.tailU k = { s.tailU k with goAt := r, frame := some g }) := by
  have hgo := fun ready => serialTrigger_go (s := s.advance t) harm hmode hg (by rw [State.advance_now_of_le hnow]; exact hle) ready
  have h0 := (tailDid.refl k [TAILSTAT.WHOLE] (s.advance t)).modTail (fun h => { h with goAt := r })
  have hbusy0 : ((s.advance t).modTail k (fun h => { h with goAt := r })).on TAILSTAT.BUSY k = s.on TAILSTAT.BUSY k := rfl
  have htail0 : ((s.advance t).modTail k (fun h => { h with goAt := r })).tailU k = { s.tailU k with goAt := r } := State.modTail_tailU _ _ _
  have hregs0 : ((s.advance t).modTail k (fun h => { h with goAt := r })).regs = (s.advance t).regs := rfl
  have hmiss0 : ((s.advance t).modTail k (fun h => { h with goAt := r })).rd TAILSTAT.MISSED k = s.rd TAILSTAT.MISSED k := rfl
  generalize (s.advance t).modTail k (fun h => { h with goAt := r }) = a at *
  refine ⟨fun hbusy ready => ?_, fun hbusy => ?_⟩
  · have hex : exec (.serialTrigger t k ready) s = .next ((a.cnt TAILSTAT.MISSED 1 k).withQueue s.pending) := by
      rw [← serTrigger_busy (hbusy0.trans hbusy) g ready, ← hgo]
      exact State.ran_ok _ _ _ (decide_eq_true hk)
    have hdid : tailDid k [TAILSTAT.WHOLE] [] (s.advance t) (a.cnt TAILSTAT.MISSED 1 k) := h0.wr TAILSTAT.MISSED _ hk rfl
    refine ⟨_, hex, (tailDid.ran hdid).1, ?_, ?_, ?_⟩
    · exact regsKept.ran ((regsKept.of_regs hregs0).trans (.cnt a TAILSTAT.MISSED 1 k 0 (List.mem_singleton.mpr rfl)))
    · rw [State.withQueue_rd, State.cnt_rd _ _ _ _ _ (by decide), hmiss0]
      rfl
    · exact htail0
  · have hex : exec (.serialTrigger t k true) s = .next (((a.wr TAILSTAT.BUSY 1 k).modTail k (fun h => { h with frame := some g })).withQueue s.pending) := by
      rw [← serTrigger_ready (hbusy0.trans hbusy) g, ← hgo]
      exact State.ran_ok _ _ _ (decide_eq_true hk)
    have hdid := (h0.wr TAILSTAT.BUSY 1 hk rfl).modTail (fun h => { h with frame := some g })
    refine ⟨_, hex, hdid.ran.1, ?_, ?_, ?_⟩
    · exact regsKept.ran ((regsKept.of_regs hregs0).trans ((regsKept.wr a TAILSTAT.BUSY 1 k 0 (List.mem_singleton.mpr rfl)).trans (.of_regs rfl)))
    · rw [State.withQueue_rd, State.modTail_rd, State.wr_rd _ _ _ _ _ (by decide)]
      rfl
    · rw [tailU_withQueue, State.modTail_tailU, tailU_wr, htail0]

/-- What a failed frame shows after a command: the wording of the statement. -/
structure failShown (t k cause at_ : Nat) (s u : State) : Prop where
  events : tailEvents s u k
  failcnt : u.rd TAILSTAT.FAILCNT k = satTo 0xFF (s.rd TAILSTAT.FAILCNT k + 1)
  failrun : u.rd POSSTAT.FAILRUN k = satTo 0xFF (s.rd POSSTAT.FAILRUN k + 1)
  busy : u.rd TAILSTAT.BUSY k = 0
  frame : (u.tailU k).frame = none
  raised : raised s u t [⟨6144 + 4 * k, s.fineAt 0 at_, cause * 2 ^ 24 + satTo 0xFFFF ((s.tailU k).errs + 1), false, false⟩]

/-- A frame fails after a step that wrote rows `L` apart from the counts of failures. -/
theorem frameFail_ran {L : List RField} (hk : k < 128) {a : State} (h : tailDid k (L ++ failRows) [] (s.advance t) a)
    (hfc : a.rd TAILSTAT.FAILCNT k = s.rd TAILSTAT.FAILCNT k) (hfr : a.rd POSSTAT.FAILRUN k = s.rd POSSTAT.FAILRUN k)
    (hmax : a.rd SERCHK.CRCMAX k = s.rd SERCHK.CRCMAX k) (herrs : (a.tailU k).errs = (s.tailU k).errs) (herr : (a.tailU k).errAt = none)
    (hrun : s.rd POSSTAT.FAILRUN k + 1 < s.rd SERCHK.CRCMAX k) :
    failShown t k cause at_ s ((a.frameFail k cause at_).withQueue s.pending) ∧
      regsKeptEv s ((a.frameFail k cause at_).withQueue s.pending) ((L ++ failRows).map (·.adr k 0)) ∧
      (∀ F : RField, (failRows.all (fun W => decide (F.blk = W.blk ∧ F.stride = 0 ∧ W.stride = 0 ∧ F.off ≠ W.off)) &&
        (F.blk == .tail && F.stride == 0 && decide (F.off < 0x1000))) = true →
          ((a.frameFail k cause at_).withQueue s.pending).rd F k = a.rd F k) ∧
      (cause = 4 → ((a.frameFail k cause at_).withQueue s.pending).rd POSSTAT.CRCERR k = 1) := by
  obtain ⟨hdid, hcnt, hfrun, hbusy, hframe, hcrc⟩ := frameFail_shows (cause := cause) (at_ := at_) hk herr (by rw [hfr, hmax]; exact hrun)
  have hfine : a.fineAt 0 at_ = s.fineAt 0 at_ := (h.fineAt 0 at_).trans (State.fineAt_advance _ _ _ _)
  rw [hfine, herrs] at hdid
  rw [hfc] at hcnt
  rw [hfr] at hfrun
  generalize a.frameFail k cause at_ = u at *
  have hall : tailDid k (L ++ failRows) _ (s.advance t) u :=
    did.trans (framing_tail k) h (did.mono hdid (fun W hW => List.mem_append_right _ hW))
  obtain ⟨hev, hregs, hraised⟩ := hall.ran
  refine ⟨⟨hev, ?_, ?_, ?_, ?_, hraised⟩, hregs, fun F hF => ?_, fun h4 => ?_⟩
  · rw [State.withQueue_rd, hcnt]
  · rw [State.withQueue_rd, hfrun]
  · rw [State.withQueue_rd, hbusy]
  · rw [tailU_withQueue, hframe]
  · rw [State.withQueue_rd, hdid.rd F hF hk]
  · rw [State.withQueue_rd, hcrc h4]

theorem serialTrigger_fails {g : Nat} {r : List Nat} (hk : k < 128) (hnow : s.now ≤ t) (harm : s.on TAILCTL.ARM k = true)
    (hmode : s.rd TAILCTL.MODE k = 4) (hg : (s.tailU k).goAt = g :: r) (hle : g ≤ t) (hbusy : s.on TAILSTAT.BUSY k = false)
    (herr : (s.tailU k).errAt = none) (hrun : s.rd POSSTAT.FAILRUN k + 1 < s.rd SERCHK.CRCMAX k) :
    ∃ u, exec (.serialTrigger t k false) s = .next u ∧ failShown t k 6 g s u ∧ regsKeptEv s u (failRows.map (·.adr k 0)) := by
  have hgo := serialTrigger_go (s := s.advance t) harm hmode hg (by rw [State.advance_now_of_le hnow]; exact hle) false
  have h0 := (tailDid.refl k failRows (s.advance t)).modTail (fun h => { h with goAt := r })
  have htail0 : ((s.advance t).modTail k (fun h => { h with goAt := r })).tailU k = { s.tailU k with goAt := r } := State.modTail_tailU _ _ _
  have hrd0 (F : RField) : ((s.advance t).modTail k (fun h => { h with goAt := r })).rd F k = s.rd F k := rfl
  generalize (s.advance t).modTail k (fun h => { h with goAt := r }) = a at *
  rw [serTrigger_notReady (by rw [State.on, hrd0, ← State.on]; exact hbusy)] at hgo
  obtain ⟨hfail, hregs, -⟩ := frameFail_ran (L := []) (cause := 6) (at_ := g) hk h0 (hrd0 _) (hrd0 _) (hrd0 _) (by rw [htail0]) (by rw [htail0]; exact herr) hrun
  rw [← hgo] at hfail hregs
  exact ⟨_, State.ran_ok _ _ _ (decide_eq_true hk), hfail, hregs⟩

/-! ### Frames that end -/

theorem tailU_cnt (s : State) (F : RField) (x n i k : Nat) : (s.cnt F x n i).tailU k = s.tailU k := (rfl)
theorem tailU_wr64 (s : State) (F G : RField) (x n i k : Nat) : (s.wr64 F G x n i).tailU k = s.tailU k := (rfl)
theorem tailU_inc (s : State) (F : RField) (x n i k : Nat) : (s.inc F x n i).tailU k = s.tailU k := (rfl)
theorem tailU_wrs (s : State) (n : Nat) (l : List (RField × Nat)) (k : Nat) : (s.wrs n l).tailU k = s.tailU k := by
  rw [State.tailU, State.tailU, State.wrs_tail]

/-- The two halves of a wide value read back what was written into them. -/
theorem wr64_rd64 (s : State) (F G : RField) (v k : Nat)
    (h : (F.len = 32 ∧ F.lo = 0 ∧ G.len = 32 ∧ G.lo = 0) ∧ F.blk = G.blk ∧ F.stride = 0 ∧ G.stride = 0 ∧ F.off ≠ G.off) :
    (s.wr64 F G v k).rd64 F G k = v % 2 ^ 64 := by
  obtain ⟨⟨hF, hF0, hG, hG0⟩, hoff⟩ := h
  rw [State.wr64, State.rd64, wr_rd_off _ _ _ _ _ hoff, State.wr_rd _ _ _ _ _ (by omega), State.wr_rd _ _ _ _ _ (by omega), hF, hG]
  omega

theorem satTo_lt {hi n v : Nat} (h : hi < n) : satTo hi v < n := by
  unfold satTo
  split <;> omega

/-- The time of propagation that a round trip gives (R232). -/
theorem cableMeasure_shows (hk : k < 128) (s : State) (trt : Nat) :
    tailDid k [CABLE.WHOLE] [] s (s.cableMeasure k trt) ∧ (s.cableMeasure k trt).rd CABLE.VALID k = 1 ∧
      (∃ l, (s.cableMeasure k trt).tailU k = { s.tailU k with delays := l }) ∧
      ((s.tailU k).delays = [] → ns (s.rd CABLECFG.ENCDLY k) ≤ trt →
        (s.cableMeasure k trt).rd CABLE.DLY k = satTo 0xFFFF ((trt - ns (s.rd CABLECFG.ENCDLY k)) / 2) ∧
        (s.rd CABLECFG.VPROP k ≠ 0 → (s.cableMeasure k trt).rd CABLE.CM k =
          satTo 0x7FFF (satTo 0xFFFF ((trt - ns (s.rd CABLECFG.ENCDLY k)) / 2) * 1000 / (64 * s.rd CABLECFG.VPROP k)))) := by
  have hvalid := (tailDid.refl k [CABLE.WHOLE] s).wr CABLE.VALID 1 hk rfl
  have hread : (s.wr CABLE.VALID 1 k).rd CABLE.VALID k = 1 := State.wr_rd _ _ _ _ _ (by decide)
  have hcfg (F : RField) (hF : F.blk = CABLE.VALID.blk ∧ F.stride = 0 ∧ CABLE.VALID.stride = 0 ∧ F.off ≠ CABLE.VALID.off) :
      (s.wr CABLE.VALID 1 k).rd F k = s.rd F k := wr_rd_off _ _ _ _ _ hF
  have htail : (s.wr CABLE.VALID 1 k).tailU k = s.tailU k := tailU_wr _ _ _ _ _ _
  rw [State.cableMeasure]
  generalize s.wr CABLE.VALID 1 k = a at *
  dsimp only
  split
  · exact ⟨hvalid, hread, ⟨(s.tailU k).delays, by rw [htail]⟩, fun _ hle => by omega⟩
  · have hlist : (s.tailU k).delays = [] → (((trt - ns (s.rd CABLECFG.ENCDLY k)) / 2 :: (a.tailU k).delays).take 16).foldl (· + ·) 0 /
        (((trt - ns (s.rd CABLECFG.ENCDLY k)) / 2 :: (a.tailU k).delays).take 16).length = (trt - ns (s.rd CABLECFG.ENCDLY k)) / 2 := fun h => by
      rw [htail, h]
      exact (Nat.div_one _).trans (Nat.zero_add _)
    generalize (((trt - ns (s.rd CABLECFG.ENCDLY k)) / 2 :: (a.tailU k).delays).take 16) = l at *
    have hm := hvalid.modTail (fun h => { h with delays := l })
    have hmt : (a.modTail k (fun h => { h with delays := l })).tailU k = { s.tailU k with delays := l } := by rw [State.modTail_tailU, htail]
    have hmr (F : RField) : (a.modTail k (fun h => { h with delays := l })).rd F k = a.rd F k := State.modTail_rd _ _ _ _ _ _
    generalize a.modTail k (fun h => { h with delays := l }) = b at *
    rw [State.cableCm]
    refine ⟨(hm.wr CABLE.DLY _ hk rfl).wr CABLE.CM _ hk rfl, ?_, ⟨l, ?_⟩, fun hd _ => ⟨?_, fun hv => ?_⟩⟩
    · rw [State.wr_rd_other _ _ _ _ _ _ _ _ (by decide) (by decide), State.wr_rd_other _ _ _ _ _ _ _ _ (by decide) (by decide), hmr, hread]
    · rw [tailU_wr, tailU_wr, hmt]
    · rw [State.wr_rd_other _ _ _ _ _ _ _ _ (by decide) (by decide), State.wr_rd _ _ _ _ _ (by decide), hlist hd]
      exact Nat.mod_eq_of_lt (satTo_lt (by decide))
    · rw [State.wr_rd _ _ _ _ _ (by decide), wr_rd_off _ _ _ _ _ (by decide), hmr, hcfg _ (by decide), if_neg hv, State.wr_rd _ _ _ _ _ (by decide),
        hlist hd, Nat.mod_eq_of_lt (satTo_lt (by decide) : satTo 0xFFFF _ < 2 ^ CABLE.DLY.len)]
      exact Nat.mod_eq_of_lt (satTo_lt (by decide))

theorem recAsk_did {L : List RField} {E : List Ev} (h : tailDid k L E s u) : tailDid k L E s (u.recAsk k) := by
  rw [State.recAsk]
  split
  · exact h.modTail _
  · exact h

theorem recAsk_rd (s : State) (k : Nat) (F : RField) (n i : Nat) : (s.recAsk k).rd F n i = s.rd F n i := by
  rw [State.recAsk]
  split
  · rw [State.modTail_rd]
  · rfl

theorem recAsk_tailU (s : State) (k : Nat) : ∃ b, (s.recAsk k).tailU k = { s.tailU k with recDue := b } := by
  rw [State.recAsk]
  split
  · exact ⟨true, by rw [State.modTail_tailU]⟩
  · exact ⟨(s.tailU k).recDue, rfl⟩

/-- The rows of a position sample. -/
def posRows : List RField := [POS_LO.WHOLE, POS_HI.WHOLE, POSTS_LO.WHOLE, POSTS_HI.WHOLE, POSSEQ.WHOLE]

theorem posSample_shows (hk : k < 128) (s : State) (at_ pos : Nat) :
    tailDid k posRows [] s (s.posSample k at_ pos) ∧ (s.posSample k at_ pos).rd64 POS_LO.VALUE POS_HI.VALUE k = pos % 2 ^ 64 ∧
      (s.posSample k at_ pos).rd64 POSTS_LO.VALUE POSTS_HI.VALUE k = s.fineAt 0 at_ % 2 ^ 64 ∧
      (s.posSample k at_ pos).rd POSSEQ.SEQ k = (s.rd POSSEQ.SEQ k + 1) % 2 ^ 32 ∧
      ∃ b, (s.posSample k at_ pos).tailU k = { s.tailU k with recDue := b } := by
  have hpos := ((tailDid.refl k posRows s).wr POS_LO.VALUE pos hk rfl).wr POS_HI.VALUE (pos / 2 ^ 32) hk rfl
  have hread := wr64_rd64 s POS_LO.VALUE POS_HI.VALUE pos k (by decide)
  have hseq : (s.wr64 POS_LO.VALUE POS_HI.VALUE pos k).rd POSSEQ.SEQ k = s.rd POSSEQ.SEQ k := by
    rw [State.wr64, wr_rd_off _ _ _ _ _ (by decide), wr_rd_off _ _ _ _ _ (by decide)]
  have htail : (s.wr64 POS_LO.VALUE POS_HI.VALUE pos k).tailU k = s.tailU k := tailU_wr64 _ _ _ _ _ _ _
  have hfine := tailDid.fineAt hpos 0 at_
  change tailDid k posRows [] s (s.wr64 POS_LO.VALUE POS_HI.VALUE pos k) at hpos
  change (s.wr64 POS_LO.VALUE POS_HI.VALUE pos k).fineAt 0 at_ = _ at hfine
  rw [State.posSample]
  generalize s.wr64 POS_LO.VALUE POS_HI.VALUE pos k = a at *
  dsimp only
  rw [hfine]
  have hts := (hpos.wr POSTS_LO.VALUE (s.fineAt 0 at_) hk rfl).wr POSTS_HI.VALUE (s.fineAt 0 at_ / 2 ^ 32) hk rfl
  change tailDid k posRows [] s (a.wr64 POSTS_LO.VALUE POSTS_HI.VALUE (s.fineAt 0 at_) k) at hts
  have hstamp := wr64_rd64 a POSTS_LO.VALUE POSTS_HI.VALUE (s.fineAt 0 at_) k (by decide)
  have hkeep : ∀ F ∈ [POS_LO.VALUE, POS_HI.VALUE, POSSEQ.SEQ], (a.wr64 POSTS_LO.VALUE POSTS_HI.VALUE (s.fineAt 0 at_) k).rd F k = a.rd F k := by
    intro F hF
    rw [State.wr64]
    simp only [List.mem_cons, List.not_mem_nil, or_false] at hF
    rcases hF with rfl | rfl | rfl <;> rw [wr_rd_off _ _ _ _ _ (by decide), wr_rd_off _ _ _ _ _ (by decide)]
  have htail' : (a.wr64 POSTS_LO.VALUE POSTS_HI.VALUE (s.fineAt 0 at_) k).tailU k = a.tailU k := tailU_wr64 _ _ _ _ _ _ _
  generalize a.wr64 POSTS_LO.VALUE POSTS_HI.VALUE (s.fineAt 0 at_) k = b at *
  obtain ⟨d, hd⟩ := recAsk_tailU (b.inc POSSEQ.SEQ 1 k) k
  refine ⟨recAsk_did (hts.wr POSSEQ.SEQ _ hk rfl), ?_, ?_, ?_, d, ?_⟩
  · rw [State.rd64, recAsk_rd, recAsk_rd, State.inc, wr_rd_off _ _ _ _ _ (by decide), wr_rd_off _ _ _ _ _ (by decide), hkeep _ (by simp),
      hkeep _ (by simp), ← State.rd64, hread]
  · rw [State.rd64, recAsk_rd, recAsk_rd, State.inc, wr_rd_off _ _ _ _ _ (by decide), wr_rd_off _ _ _ _ _ (by decide), ← State.rd64, hstamp]
  · rw [recAsk_rd, State.inc, State.wr_rd _ _ _ _ _ (by decide), hkeep _ (by simp), hseq]
    rfl
  · rw [hd, tailU_inc, htail', htail]

/-- The rows of a speed. -/
def velRows : List RField := [VEL_LO.WHOLE, VEL_HI.WHOLE, VELSTAT.WHOLE]

theorem speed_shows (hk : k < 128) (hfly : s.flyBusy k = false) (v : Int) (stale low rev dir : Bool) (m : Nat) :
    tailDid k velRows [] s (s.speed k v stale low rev dir m) ∧
      (s.speed k v stale low rev dir m).rd64 VEL_LO.VALUE VEL_HI.VALUE k = ofSigned 64 v % 2 ^ 64 ∧
      (s.speed k v stale low rev dir m).rd VELSTAT.LOWCONF k = b2n low ∧
      ((s.speed k v stale low rev dir m).tailU k).cond = (s.tailU k).cond ∧
      ((s.speed k v stale low rev dir m).tailU k).frame = (s.tailU k).frame := by
  have h64 := ((tailDid.refl k velRows s).wr VEL_LO.VALUE (ofSigned 64 v) hk rfl).wr VEL_HI.VALUE (ofSigned 64 v / 2 ^ 32) hk rfl
  change tailDid k velRows [] s (s.wr64 VEL_LO.VALUE VEL_HI.VALUE (ofSigned 64 v) k) at h64
  have hread := wr64_rd64 s VEL_LO.VALUE VEL_HI.VALUE (ofSigned 64 v) k (by decide)
  have htail : (s.wr64 VEL_LO.VALUE VEL_HI.VALUE (ofSigned 64 v) k).tailU k = s.tailU k := tailU_wr64 _ _ _ _ _ _ _
  rw [State.speed]
  generalize s.wr64 VEL_LO.VALUE VEL_HI.VALUE (ofSigned 64 v) k = a at *
  have hst : tailDid k velRows [] s (a.wrs k [(VELSTAT.STALE, b2n stale), (VELSTAT.LOWCONF, b2n low), (VELSTAT.REV, b2n rev),
      (VELSTAT.DIR, b2n dir), (VELSTAT.M, m)]) := (((((h64.wr _ _ hk rfl).wr _ _ hk rfl).wr _ _ hk rfl).wr _ _ hk rfl).wr _ _ hk rfl)
  have hlow : (a.wrs k [(VELSTAT.STALE, b2n stale), (VELSTAT.LOWCONF, b2n low), (VELSTAT.REV, b2n rev), (VELSTAT.DIR, b2n dir),
      (VELSTAT.M, m)]).rd VELSTAT.LOWCONF k = b2n low := by
    simp (disch := decide) only [State.wrs, List.foldl_cons, List.foldl_nil, State.wr_rd_other, State.wr_rd]
    cases low <;> rfl
  have hvel : ∀ F ∈ [VEL_LO.VALUE, VEL_HI.VALUE], (a.wrs k [(VELSTAT.STALE, b2n stale), (VELSTAT.LOWCONF, b2n low), (VELSTAT.REV, b2n rev), (VELSTAT.DIR, b2n dir),
      (VELSTAT.M, m)]).rd F k = a.rd F k := by
    intro F hF
    simp only [List.mem_cons, List.not_mem_nil, or_false] at hF
    rcases hF with rfl | rfl <;> simp (disch := decide) only [State.wrs, List.foldl_cons, List.foldl_nil, wr_rd_off]
  have htail' := tailU_wrs a k [(VELSTAT.STALE, b2n stale), (VELSTAT.LOWCONF, b2n low), (VELSTAT.REV, b2n rev), (VELSTAT.DIR, b2n dir),
    (VELSTAT.M, m)] k
  generalize a.wrs k [(VELSTAT.STALE, b2n stale), (VELSTAT.LOWCONF, b2n low), (VELSTAT.REV, b2n rev), (VELSTAT.DIR, b2n dir), (VELSTAT.M, m)] = b at *
  have hinc : tailDid k velRows [] s (b.inc VELSTAT.UPD 1 k) := hst.wr VELSTAT.UPD _ hk rfl
  have hlow' : (b.inc VELSTAT.UPD 1 k).rd VELSTAT.LOWCONF k = b2n low := by
    rw [State.inc, State.wr_rd_other _ _ _ _ _ _ _ _ (by decide) (by decide), hlow]
  have hread' : (b.inc VELSTAT.UPD 1 k).rd64 VEL_LO.VALUE VEL_HI.VALUE k = ofSigned 64 v % 2 ^ 64 := by
    rw [State.rd64, State.inc, wr_rd_off _ _ _ _ _ (by decide), wr_rd_off _ _ _ _ _ (by decide), hvel _ (by simp), hvel _ (by simp), ← State.rd64, hread]
  have htail'' : (b.inc VELSTAT.UPD 1 k).tailU k = s.tailU k := (tailU_inc _ _ _ _ _ _).trans (htail'.trans htail)
  dsimp only
  generalize b.inc VELSTAT.UPD 1 k = c at *
  have hask : tailDid k velRows [] s (if c.velFlags k = s.velFlags k then c else c.recAsk k) ∧
      (∀ F, (if c.velFlags k = s.velFlags k then c else c.recAsk k).rd F k = c.rd F k) ∧
      ∃ d, (if c.velFlags k = s.velFlags k then c else c.recAsk k).tailU k = { s.tailU k with recDue := d } := by
    split
    · exact ⟨hinc, fun _ => rfl, _, htail''⟩
    · obtain ⟨d, hd⟩ := recAsk_tailU c k
      exact ⟨recAsk_did hinc, fun F => recAsk_rd c k F k 0, d, by rw [hd, htail'']⟩
  generalize (if c.velFlags k = s.velFlags k then c else c.recAsk k) = e at *
  obtain ⟨hdid, hrd, d, hd⟩ := hask
  have hend := hdid.modTail (fun h => { h with vels := ⟨e.now, v, stale⟩ ::
    (h.vels.filter (fun x => decide (e.now < x.at_ + ns 40)) ++
      (h.vels.drop (h.vels.filter (fun x => decide (e.now < x.at_ + ns 40))).length).take 1) })
  rw [State.brakeSpeed, if_neg]
  · refine ⟨hend, ?_, ?_, ?_, ?_⟩
    · rw [State.rd64, State.modTail_rd, State.modTail_rd, hrd, hrd, ← State.rd64, hread']
    · rw [State.modTail_rd, hrd, hlow']
    · rw [State.modTail_tailU, hd]
    · rw [State.modTail_tailU, hd]
  · rw [hend.flyBusy hk rfl, hfly]
    exact fun h => absurd h.1 (by decide)

theorem emuLook_did {L : List RField} {E : List Ev} (h : tailDid k L E s u) : tailDid k L E s (u.emuLook k) := by
  rw [State.emuLook]
  split
  · exact h
  · exact h.modTail _

theorem emuLook_rd (s : State) (k : Nat) (F : RField) (n i : Nat) : (s.emuLook k).rd F n i = s.rd F n i := by
  rw [State.emuLook]
  split
  · rfl
  · rw [State.modTail_rd]

theorem emuLook_tailU (s : State) (k : Nat) :
    ((s.emuLook k).tailU k).cond = (s.tailU k).cond ∧ ((s.emuLook k).tailU k).frame = (s.tailU k).frame := by
  rw [State.emuLook]
  split
  · exact ⟨rfl, rfl⟩
  · rw [State.modTail_tailU]
    exact ⟨rfl, rfl⟩

theorem emuSample_did {L : List RField} {E : List Ev} (h : tailDid k L E s u) (ts : Nat) (d : Int) : tailDid k L E s (u.emuSample k ts d) := by
  rw [State.emuSample]
  exact emuLook_did (h.modTail _)

theorem emuSample_rd (s : State) (k ts : Nat) (d : Int) (F : RField) (n i : Nat) : (s.emuSample k ts d).rd F n i = s.rd F n i := by
  rw [State.emuSample, emuLook_rd, State.modTail_rd]

theorem emuSample_tailU (s : State) (k ts : Nat) (d : Int) :
    ((s.emuSample k ts d).tailU k).cond = (s.tailU k).cond ∧ ((s.emuSample k ts d).tailU k).frame = (s.tailU k).frame := by
  rw [State.emuSample, (emuLook_tailU _ k).1, (emuLook_tailU _ k).2, State.modTail_tailU]
  exact ⟨rfl, rfl⟩

theorem velM_single (s : State) (k : Nat) (p : PosAt) : s.velM k [p] = 0 := rfl

/-- The first valid frame gives no speed (R237). -/
theorem frameSpeed_first (hk : k < 128) (hfly : s.flyBusy k = false) (hsamp : (s.tailU k).samp = []) (at_ data : Nat) (moved : Bool) :
    tailDid k velRows [] s (s.frameSpeed k at_ data moved) ∧ (s.frameSpeed k at_ data moved).vel k = 0 ∧
      (s.frameSpeed k at_ data moved).rd VELSTAT.LOWCONF k = 1 ∧
      ((s.frameSpeed k at_ data moved).tailU k).cond = (s.tailU k).cond ∧
      ((s.frameSpeed k at_ data moved).tailU k).frame = (s.tailU k).frame := by
  have hrow (b r : Bool) (p : PosAt) : (if b then [p] else if r then p :: ([] : List PosAt).take 1 else (p :: []).take 17) = [p] := by
    cases b <;> cases r <;> rfl
  generalize hu : s.frameSpeed k at_ data moved = u
  delta State.frameSpeed at hu
  extract_lets h n ts df p d back rev l m q at hu
  have hd : d = 0 := by simp only [d, h, hsamp]
  have hl : l = [p] := by simp only [l, h, hsamp]; exact hrow _ _ _
  have hm : m = 0 := by simp only [m, hl]; exact velM_single s k p
  rw [if_pos hm] at hu
  dsimp only at hu
  rw [if_neg (by rw [hd]; decide), hl] at hu
  have hf := (tailDid.refl k velRows s).modTail (fun h => { h with samp := [p], diff := d, moveAt := if moved then at_ else h.moveAt })
  have htf : ((s.modTail k (fun h => { h with samp := [p], diff := d, moveAt := if moved then at_ else h.moveAt })).tailU k).cond = (s.tailU k).cond ∧
      ((s.modTail k (fun h => { h with samp := [p], diff := d, moveAt := if moved then at_ else h.moveAt })).tailU k).frame = (s.tailU k).frame := by
    rw [State.modTail_tailU]
    exact ⟨rfl, rfl⟩
  generalize s.modTail k (fun h => { h with samp := [p], diff := d, moveAt := if moved then at_ else h.moveAt }) = a at *
  obtain ⟨hdid, hvel, hlow, hcond, hframe⟩ := speed_shows (s := a) hk (by rw [hf.flyBusy hk rfl, hfly]) 0 (a.on VELSTAT.STALE k && !moved)
    (decide ([p].length < 4)) rev (decide (d < 0)) m
  generalize a.speed k 0 (a.on VELSTAT.STALE k && !moved) (decide ([p].length < 4)) rev (decide (d < 0)) m = b at *
  obtain ⟨hc, hfr⟩ := emuSample_tailU b k ts d
  have hread (F : RField) := emuSample_rd b k ts d F k 0
  have hlast := emuSample_did (did.next (framing_tail k) hf hdid) ts d
  rw [← hu]
  refine ⟨hlast, ?_, ?_, ?_, ?_⟩
  · rw [State.vel, State.rd64, hread, hread, ← State.rd64, hvel]
    rfl
  · rw [hread, hlow]
    rfl
  · rw [hc, hcond, htf.1]
  · rw [hfr, hframe, htf.2]

/-- Without a life counter no frame is FROZEN (R238). -/
theorem frozenLook_none (hlife : s.rd SERCHK.LIFELEN k = 0) (hcond : (s.tailU k).cond = 0) (raw : Nat) :
    ∃ f : TailH → TailH, (∀ h, (f h).cond = h.cond ∧ (f h).frame = h.frame) ∧ s.frozenLook k raw = (s.modTail k f).wr POSSTAT.FROZEN 0 k := by
  refine ⟨fun h => { h with last := some raw, same := if (s.tailU k).last = some raw then (s.tailU k).same + 1 else 1 }, fun _ => ⟨rfl, rfl⟩, ?_⟩
  rw [State.frozenLook]
  generalize (if (s.tailU k).last = some raw then (s.tailU k).same + 1 else 1) = n
  have hz : decide ((s.modTail k (fun h => { h with last := some raw, same := n })).rd SERCHK.LIFELEN k ≠ 0 ∧
      (s.modTail k (fun h => { h with last := some raw, same := n })).rd SERCHK.FRZN k ≤ n) = false := by
    rw [State.modTail_rd, hlife]
    exact decide_eq_false (fun h => h.1 rfl)
  rw [hz, State.lossCond, if_pos]
  · rfl
  · rw [tailU_wr, State.modTail_tailU]
    dsimp only
    rw [hcond]
    decide

/-- The rows of a frame that ends well. -/
def goodRows : List RField := failRows ++ [CABLE.WHOLE] ++ posRows ++ velRows ++ [LOSSSTAT.WHOLE]

/-- What a valid frame shows (R232, R233): the first one since arming, without a life counter and without a condition of loss. -/
theorem frameGood_shows (hk : k < 128) (hfly : s.flyBusy k = false) (hsamp : (s.tailU k).samp = []) (hcond : (s.tailU k).cond = 0)
    (hlife : s.rd SERCHK.LIFELEN k = 0) {data : Nat} (hdata : data < 2 ^ 64) (raw : Nat) (warn cds : Bool) :
    tailDid k goodRows [⟨6144 + 4 * k + 2, s.fineAt 0 (s.sampleAt k T), s.rd POSSTAT.SECTOR k * 2 ^ 16 + (s.rd POSSEQ.SEQ k + 1) % 2 ^ 32 % 65536, false, false⟩]
      s (s.frameGood k T data raw warn cds) ∧
    (s.frameGood k T data raw warn cds).rd64 POS_LO.VALUE POS_HI.VALUE k = data ∧
    (s.frameGood k T data raw warn cds).rd64 POSTS_LO.VALUE POSTS_HI.VALUE k = s.fineAt 0 (s.sampleAt k T) % 2 ^ 64 ∧
    (s.frameGood k T data raw warn cds).rd POSSEQ.SEQ k = (s.rd POSSEQ.SEQ k + 1) % 2 ^ 32 ∧
    (s.frameGood k T data raw warn cds).vel k = 0 ∧ (s.frameGood k T data raw warn cds).rd VELSTAT.LOWCONF k = 1 ∧
    (s.frameGood k T data raw warn cds).rd POSSTAT.FAILRUN k = 0 ∧ (s.frameGood k T data raw warn cds).rd POSSTAT.CRCERR k = 0 ∧
    (s.frameGood k T data raw warn cds).rd TAILSTAT.BUSY k = 0 ∧ ((s.frameGood k T data raw warn cds).tailU k).frame = none ∧
    (∀ F ∈ [CABLE.DLY, CABLE.CM], (s.frameGood k T data raw warn cds).rd F k = s.rd F k) := by
  generalize hu : s.frameGood k T data raw warn cds = u
  delta State.frameGood at hu
  extract_lets at_ s₁ s₂ moved s₃ s₄ s₅ at hu
  have h1 : tailDid k goodRows [] s s₁ := ((((((tailDid.refl k goodRows s).wr _ _ hk rfl).wr _ _ hk rfl).wr _ _ hk rfl).wr _ _ hk rfl).wr _ _ hk rfl).wr _ _ hk rfl
  have h1f : s₁.rd TAILSTAT.BUSY k = 0 ∧ s₁.rd POSSTAT.CRCERR k = 0 ∧ s₁.rd POSSTAT.FAILRUN k = 0 ∧ s₁.rd POSSTAT.SECTOR k = s.rd POSSTAT.SECTOR k ∧
      s₁.rd POSSEQ.SEQ k = s.rd POSSEQ.SEQ k ∧ s₁.rd CABLE.DLY k = s.rd CABLE.DLY k ∧ s₁.rd CABLE.CM k = s.rd CABLE.CM k := by
    simp (disch := decide) only [s₁, State.wrs, List.foldl_cons, List.foldl_nil, State.wr_rd_other, wr_rd_off, State.wr_rd, Nat.zero_mod, and_self]
  have h1t : s₁.tailU k = s.tailU k := tailU_wrs _ _ _ _
  have h1m : ∀ x, x = s₂ → tailDid k goodRows [] s x := fun x hx => hx ▸ h1.modTail _
  have h2f : s₂.tailU k = { s.tailU k with frame := none } := by rw [← h1t]; exact State.modTail_tailU _ _ _
  have h2r (F : RField) : s₂.rd F k = s₁.rd F k := State.modTail_rd _ _ _ _ _ _
  have h2 := h1m _ rfl
  have hfine := h2.fineAt 0 at_
  have h3 : s₃ = s₂.posSample k at_ data := rfl
  have h4 : s₄ = s₃.frameSpeed k at_ data moved := rfl
  have h5 : s₅ = s₄.frameEvent k at_ false := rfl
  clear_value s₅ s₄ s₃ s₂ s₁ moved
  obtain ⟨hpos, hp64, hts, hseq, b, htp⟩ := posSample_shows hk s₂ at_ data
  rw [← h3] at hpos hp64 hts hseq htp
  have h3d : tailDid k goodRows [] s s₃ := did.next (framing_tail k) h2 (did.mono hpos (by decide))
  have h3t : (s₃.tailU k).samp = [] ∧ (s₃.tailU k).cond = 0 ∧ (s₃.tailU k).frame = none := by
    rw [htp, h2f]
    exact ⟨hsamp, hcond, rfl⟩
  obtain ⟨hspd, hv, hlow, hc, hfr⟩ := frameSpeed_first (s := s₃) hk (by rw [h3d.flyBusy hk rfl, hfly]) h3t.1 at_ data moved
  rw [← h4] at hspd hv hlow hc hfr
  have h4d : tailDid k goodRows [] s s₄ := did.next (framing_tail k) h3d (did.mono hspd (by decide))
  have hts4 : s₄.fineAt 0 at_ = s.fineAt 0 at_ := tailDid.fineAt h4d 0 at_
  have hseq' : s₂.rd POSSEQ.SEQ k = s.rd POSSEQ.SEQ k := (h2r _).trans h1f.2.2.2.2.1
  have vrd (F : RField) (hF : (velRows.all (fun W => decide (F.blk = W.blk ∧ F.stride = 0 ∧ W.stride = 0 ∧ F.off ≠ W.off)) &&
      (F.blk == .tail && F.stride == 0 && decide (F.off < 0x1000))) = true) : s₄.rd F k = s₃.rd F k := hspd.rd F hF hk
  have prd (F : RField) (hF : ((posRows ++ velRows).all (fun W => decide (F.blk = W.blk ∧ F.stride = 0 ∧ W.stride = 0 ∧ F.off ≠ W.off)) &&
      (F.blk == .tail && F.stride == 0 && decide (F.off < 0x1000))) = true) : s₄.rd F k = s₁.rd F k := by
    rw [Bool.and_eq_true_iff, List.all_append, Bool.and_eq_true_iff] at hF
    rw [vrd F (by rw [hF.1.2, hF.2]; rfl), hpos.rd F (by rw [hF.1.1, hF.2]; rfl) hk, h2r]
  obtain ⟨hbusy1, hcrc1, hrun1, hsec1, hseq1, hdly1, hcm1⟩ := h1f
  have h5eq : s₅ = s₄.raiseAt (6144 + 4 * k + 2) (s.rd POSSTAT.SECTOR k * 2 ^ 16 + (s.rd POSSEQ.SEQ k + 1) % 2 ^ 32 % 65536) (s.fineAt 0 at_) := by
    rw [h5, State.frameEvent, hts4, prd POSSTAT.SECTOR rfl, hsec1, vrd POSSEQ.SEQ rfl, hseq, hseq', b2n, if_neg (by decide), Nat.zero_mul, Nat.zero_add]
  have h5d := h4d.raiseAt (6144 + 4 * k + 2) (s.rd POSSTAT.SECTOR k * 2 ^ 16 + (s.rd POSSEQ.SEQ k + 1) % 2 ^ 32 % 65536) (s.fineAt 0 at_)
  rw [← h5eq] at h5d
  have h5r (F : RField) (hF : F.blk = .tail) : s₅.rd F k = s₄.rd F k := by rw [h5eq, raiseAt_tailRd _ _ _ _ _ hF]
  have h5t : s₅.tailU k = s₄.tailU k := by rw [State.tailU, State.tailU, h5eq, State.raiseAt, raiseEv_tail]
  obtain ⟨f, hf, hfz⟩ := frozenLook_none (s := s₅) (k := k) (by rw [h5r _ rfl, prd SERCHK.LIFELEN rfl, ← h2r]; exact (h2.rd SERCHK.LIFELEN rfl hk).trans hlife)
    (by rw [h5t, hc, h3t.2.1]) raw
  have hcond5 : (((s₅.modTail k f).wr POSSTAT.FROZEN 0 k).tailU k).cond = 0 := by
    rw [tailU_wr, State.modTail_tailU, (hf _).1, h5t, hc, h3t.2.1]
  have hframe5 : (((s₅.modTail k f).wr POSSTAT.FROZEN 0 k).tailU k).frame = none := by
    rw [tailU_wr, State.modTail_tailU, (hf _).2, h5t, hfr, h3t.2.2]
  rw [hfz, State.lossCond, if_pos (by rw [hcond5]; decide)] at hu
  have hall := (h5d.modTail f).wr POSSTAT.FROZEN 0 hk rfl
  have hlast (F : RField) (hF : F.blk = .tail ∧ (F.off ≠ POSSTAT.FROZEN.off ∧ F.stride = 0 ∨ F.lo + F.len ≤ 26 ∨ 27 ≤ F.lo)) :
      ((s₅.modTail k f).wr POSSTAT.FROZEN 0 k).rd F k = s₄.rd F k := by
    obtain ⟨hblk, ⟨hoff, hst⟩ | hlo | hlo⟩ := hF
    · rw [wr_rd_off _ _ _ _ _ ⟨hblk, hst, rfl, hoff⟩, State.modTail_rd, h5r F hblk]
    · rw [State.wr_rd_other (s₅.modTail k f) POSSTAT.FROZEN F 0 k 0 k 0 (by decide) (.inl hlo), State.modTail_rd, h5r F hblk]
    · rw [State.wr_rd_other (s₅.modTail k f) POSSTAT.FROZEN F 0 k 0 k 0 (by decide) (.inr hlo), State.modTail_rd, h5r F hblk]
  rw [hu] at hall hlast hframe5
  refine ⟨hall, ?_, ?_, ?_, ?_, ?_, ?_, ?_, ?_, hframe5, fun F hF => ?_⟩
  · rw [State.rd64, hlast _ (by decide), hlast _ (by decide), vrd POS_LO.VALUE rfl, vrd POS_HI.VALUE rfl, ← State.rd64, hp64]
    exact Nat.mod_eq_of_lt hdata
  · rw [State.rd64, hlast _ (by decide), hlast _ (by decide), vrd POSTS_LO.VALUE rfl, vrd POSTS_HI.VALUE rfl, ← State.rd64, hts, hfine]
  · rw [hlast _ (by decide), vrd POSSEQ.SEQ rfl, hseq, hseq']
  · rw [State.vel, State.rd64, hlast _ (by decide), hlast _ (by decide), ← State.rd64, ← State.vel, hv]
  · rw [hlast _ (by decide), hlow]
  · rw [hlast _ (by decide), prd POSSTAT.FAILRUN rfl, hrun1]
  · rw [hlast _ (by decide), prd POSSTAT.CRCERR rfl, hcrc1]
  · rw [hlast _ (by decide), prd TAILSTAT.BUSY rfl, hbusy1]
  · simp only [List.mem_cons, List.not_mem_nil, or_false] at hF
    rcases hF with rfl | rfl
    · rw [hlast _ (by decide), prd CABLE.DLY rfl, hdly1]
    · rw [hlast _ (by decide), prd CABLE.CM rfl, hcm1]

/-- No ACK of an encoder in time (R230). -/
theorem bissAckTimeout_shows (hk : k < 128) (hnow : s.now ≤ t) (hmode : s.rd TAILCTL.MODE k = 4) (hT : (s.tailU k).frame = some T)
    (herr : (s.tailU k).errAt = none) (hrun : s.rd POSSTAT.FAILRUN k + 1 < s.rd SERCHK.CRCMAX k)
    (hdue : T + ns (s.rd SERCFG.CLKP k) * 3 / 2 + us 2 ≤ t) :
    ∃ u, exec (.bissAckTimeout t k) s = .next u ∧ failShown t k 5 (T + s.rd CABLE.DLY k + ns (s.rd CABLECFG.LATDLY k)) s u ∧
      regsKeptEv s u (failRows.map (·.adr k 0)) := by
  have hfail : (s.advance t).ackTimeout k = (s.advance t).frameFail k 5 (T + s.rd CABLE.DLY k + ns (s.rd CABLECFG.LATDLY k)) := by
    rw [State.ackTimeout, tailU_advance, hT]
    dsimp only
    rw [if_pos]
    · rfl
    · rw [State.advance_now_of_le hnow]
      exact ⟨hmode, hdue⟩
  obtain ⟨hshown, hregs, -⟩ := frameFail_ran (L := []) (cause := 5) (at_ := T + s.rd CABLE.DLY k + ns (s.rd CABLECFG.LATDLY k)) hk
    (tailDid.refl k failRows (s.advance t)) rfl rfl rfl rfl herr hrun
  rw [← hfail] at hshown hregs
  exact ⟨_, State.ran_ok _ _ _ (decide_eq_true hk), hshown, hregs⟩

/-- A step that measures the cable, and then fails the frame of `T`. -/
theorem measured_fails (hk : k < 128) (herr : (s.tailU k).errAt = none) (hrun : s.rd POSSTAT.FAILRUN k + 1 < s.rd SERCHK.CRCMAX k)
    {f : State → State} (hf : f (s.advance t) = ((s.advance t).cableMeasure k trt).frameFail k cause (((s.advance t).cableMeasure k trt).sampleAt k T))
    {i : Instr} (hex : exec i s = s.ran (decide (k < 128)) (f (s.advance t))) :
    ∃ u, exec i s = .next u ∧ failShown t k cause (T + u.rd CABLE.DLY k + ns (s.rd CABLECFG.LATDLY k)) s u ∧ u.rd CABLE.VALID k = 1 ∧
      ((s.tailU k).delays = [] → ns (s.rd CABLECFG.ENCDLY k) ≤ trt →
        u.rd CABLE.DLY k = satTo 0xFFFF ((trt - ns (s.rd CABLECFG.ENCDLY k)) / 2)) ∧
      regsKeptEv s u (CABLE.WHOLE.adr k 0 :: failRows.map (·.adr k 0)) ∧ (cause = 4 → u.rd POSSTAT.CRCERR k = 1) := by
  obtain ⟨hdid, hvalid, ⟨l, htail⟩, hdly⟩ := cableMeasure_shows hk (s.advance t) trt
  generalize (s.advance t).cableMeasure k trt = a at *
  have hlat : a.sampleAt k T = T + a.rd CABLE.DLY k + ns (s.rd CABLECFG.LATDLY k) := by
    rw [State.sampleAt, tailDid.rd hdid CABLECFG.LATDLY rfl hk]
    rfl
  obtain ⟨hshown, hregs, hkept, hcrc⟩ := frameFail_ran (L := [CABLE.WHOLE]) (t := t) (s := s) (cause := cause) (at_ := a.sampleAt k T) hk
    (did.mono hdid (by decide)) (tailDid.rd hdid _ rfl hk) (tailDid.rd hdid _ rfl hk) (tailDid.rd hdid _ rfl hk) (by rw [htail]; rfl) (by rw [htail]; exact herr) hrun
  rw [← hf] at hshown hregs hkept hcrc
  rw [hlat, ← hkept CABLE.DLY rfl] at hshown
  refine ⟨_, hex.trans (State.ran_ok _ _ _ (decide_eq_true hk)), hshown, ?_, fun hd hle => ?_, hregs, hcrc⟩
  · rw [hkept _ rfl, hvalid]
  · rw [hkept _ rfl, (hdly hd hle).1]
    rfl

/-- No start bit of an encoder in time (R230, R232). -/
theorem bissStartTimeout_fails (hnow : s.now ≤ t) (hmode : s.rd TAILCTL.MODE k = 4) (hT : (s.tailU k).frame = some T)
    (hdue : T + ns (s.rd SERCFG.CLKP k) * 3 / 2 + trt + s.rd SERCFG.STMAX k * ns (s.rd SERCFG.CLKP k) ≤ t) :
    (s.advance t).startTimeout k trt =
      ((s.advance t).cableMeasure k trt).frameFail k 5 (((s.advance t).cableMeasure k trt).sampleAt k T) := by
  rw [State.startTimeout, tailU_advance, hT]
  dsimp only
  rw [if_pos]
  rw [State.advance_now_of_le hnow]
  exact ⟨hmode, hdue⟩

/-- The checks of a BISS frame without status bits (R230). -/
theorem serialDone_biss (s : State) (hmode : s.rd TAILCTL.MODE k = 4) (hT : (s.tailU k).frame = some T) (hstat : s.rd SERCHK.NSTAT k = 0)
    {data : Nat} (hdata : data < 2 ^ s.rd SERCFG.NBITS k) (crc cds : Nat) :
    s.serialDone k trt data 0 crc cds = if crc % 64 ≠ 63 - crc6 (msbBits (s.rd SERCFG.NBITS k) data) then
        (s.cableMeasure k trt).frameFail k 4 ((s.cableMeasure k trt).sampleAt k T)
      else (s.cableMeasure k trt).frameGood k T data (data + 2 ^ 48 * 0 + 2 ^ 52 * (cds % 2)) false (bitAt cds 0) := by
  have hbits : msbBits (s.rd SERCFG.NBITS k) data ++ msbBits 0 (0 % 2 ^ 0) = msbBits (s.rd SERCFG.NBITS k) data := List.append_nil _
  rw [State.serialDone, hT]
  dsimp only
  have hnw : (0 != 2 || bitAt (0 % 2 ^ 0) 0) = true := by decide
  have hne : (0 == 0 || bitAt (0 % 2 ^ 0) (0 - 1)) = true := by decide
  rw [if_pos hmode, hstat, Nat.mod_eq_of_lt hdata, hbits, hnw, hne, if_neg (by decide : ¬ ¬ (true = true)), Bool.not_true, Nat.pow_zero, Nat.mod_one]

/-! ### The feedback record -/

/-- A write of whole words meets no word's ECC and no poison: it stores its bytes (R38, R39). -/
theorem sramWriteBy_whole {a : Nat} {d : List Byte} (ha : a < 0x1800000) (hok : accessOk a d.length = true)
    (hi : s.isolated (68 + a / 0x40000) = false) (hwhole : ∀ w ∈ wordsOf a d.length, a ≤ 8 * w ∧ 8 * w + 8 ≤ a + d.length) (src : Src) (err : Ecc) :
    s.sramWriteBy src a d err = ({ s with mem := s.mem.sramWritten a d }, .ok) := by
  have hpart : (wordsOf a d.length).filter (fun w => !(fullWords a d.length).contains w) = [] := by
    refine List.filter_eq_nil_iff.mpr fun w hw => ?_
    have hin : w ∈ fullWords a d.length := List.mem_filter.mpr ⟨hw, decide_eq_true (hwhole w hw)⟩
    rw [List.contains_iff_mem.mpr hin]
    decide
  have hnone (l : List Nat) : l.filter ([] : List Nat).contains = [] := List.filter_eq_nil_iff.mpr fun _ _ => by simp
  rw [State.sramWriteBy, if_neg (by omega), if_neg (by rw [hok]; decide), if_neg (by rw [hi]; decide)]
  dsimp only
  rw [hpart, hnone, hnone, if_neg (show ¬ s.mem.poisoned [] = true from Bool.false_ne_true), if_neg (fun h => h rfl)]
  rfl

theorem tailU_withMem (s : State) (m : Mem) (k : Nat) : ({ s with mem := m } : State).tailU k = s.tailU k := (rfl)

theorem wordsOf_aligned (b : Nat) : ∀ w ∈ wordsOf (b * 32) 32, b * 32 ≤ 8 * w ∧ 8 * w + 8 ≤ b * 32 + 32 := by
  intro w hw
  have := (upFrom_mem _ _ _).mp hw
  omega

theorem accessOk_record (b : Nat) : accessOk (b * 32) 32 = true := by
  rw [accessOk, if_neg (by decide), if_neg (by decide), if_pos (by decide), Bool.and_eq_true_iff]
  exact ⟨beq_iff_eq.mpr (by omega), decide_eq_true (by omega)⟩

/-- The words of the feedback record of tail `k` (R234). -/
def State.recordWords (s : State) (k : Nat) : List Nat :=
  [POSSEQ.WHOLE, POSSTAT.WHOLE, POS_LO.WHOLE, POS_HI.WHOLE, POSTS_LO.WHOLE, POSTS_HI.WHOLE, VEL_LO.WHOLE, VEL_HI.WHOLE].map
    (fun f => (s.reg (f.adr k 0)).toNat)

theorem recordWords_length (s : State) (k : Nat) : (wordsBytes (s.recordWords k)).length = 32 := by
  simp [wordsBytes, State.recordWords, toBytes_length]

theorem tailRecordWrite_shows (hk : k < 128) (hnow : s.now ≤ t) (hen : s.on TAILREC.EN k = true) (hdue : (s.tailU k).recDue = true)
    (hrate : ∀ x, (s.tailU k).recAt = some x → x + ns (100 * s.rd TAILREC.RATE k) ≤ t) (hb : s.rd TAILREC.BASE k * 32 < 0x1800000)
    (hbank : s.isolated (68 + s.rd TAILREC.BASE k * 32 / 0x40000) = false) (hport : s.isolated (201 + k / 16) = false) (err : Ecc) :
    ∃ u, exec (.tailRecordWrite t k err) s = .next u ∧ u = { s with now := u.now, mem := u.mem, tail := u.tail } ∧
      (∀ m, m ≠ k → u.tailU m = s.tailU m) ∧ u.tailU k = { s.tailU k with recDue := false, recAt := some t } ∧
      u.mem = s.mem.sramWritten (s.rd TAILREC.BASE k * 32) (wordsBytes (s.recordWords k)) := by
  have hlen := recordWords_length s k
  have hrec : (s.advance t).tailRecord k err = { (s.advance t).modTail k (fun h => { h with recDue := false, recAt := some (s.advance t).now }) with
      mem := s.mem.sramWritten (s.rd TAILREC.BASE k * 32) (wordsBytes (s.recordWords k)) } := by
    have hall : ((s.advance t).tailU k).recAt.all (fun a => decide (a + ns (100 * (s.advance t).rd TAILREC.RATE k) ≤ (s.advance t).now)) = true := by
      rw [State.advance_now_of_le hnow, tailU_advance, State.advance_rd]
      cases hr : (s.tailU k).recAt with
      | none => rfl
      | some x => exact decide_eq_true (hrate x hr)
    have hwhole : ∀ w ∈ wordsOf (s.rd TAILREC.BASE k * 32) (wordsBytes (s.recordWords k)).length,
        s.rd TAILREC.BASE k * 32 ≤ 8 * w ∧ 8 * w + 8 ≤ s.rd TAILREC.BASE k * 32 + (wordsBytes (s.recordWords k)).length := by
      rw [hlen]
      exact wordsOf_aligned _
    rw [State.tailRecord, if_neg]
    · have hiso : ∀ f, ((s.advance t).modTail k f).isolated (201 + k / 16) = false := fun _ => hport
      rw [if_neg (by rw [hiso]; decide)]
      exact congrArg Prod.fst (sramWriteBy_whole (s := (s.advance t).modTail k (fun h => { h with recDue := false, recAt := some (s.advance t).now }))
        (d := wordsBytes (s.recordWords k)) hb (by rw [hlen]; exact accessOk_record _) hbank hwhole (.mover (201 + k / 16)) err)
    · rw [hall, show (s.advance t).on TAILREC.EN k = true from hen, tailU_advance, hdue]
      decide
  have hex : exec (.tailRecordWrite t k err) s = .next (((s.advance t).tailRecord k err).withQueue s.pending) := State.ran_ok _ _ _ (decide_eq_true hk)
  refine ⟨_, hex, ?_, fun m hm => ?_, ?_, ?_⟩
  · rw [hrec]
    rfl
  · rw [tailU_withQueue, hrec, tailU_withMem]
    exact State.modTail_tailU_ne (s.advance t) k m _ hm
  · rw [tailU_withQueue, hrec, tailU_withMem, State.modTail_tailU]
    rw [State.advance_now_of_le hnow, tailU_advance]
  · rw [hrec]
    rfl

/-- Settles O36: each command on a serial encoder through the frame it fails or ends. -/
theorem serialEncoders : Obligations.SerialEncoders := by
  intro t k s hk hnow harm hmode hfly h failRegs fails sample
  have hfails {cause at_ : Nat} {u : State} (hu : failShown t k cause at_ s u) : fails u cause at_ :=
    ⟨hu.events, hu.failcnt, hu.failrun, hu.busy, hu.frame, hu.raised⟩
  refine ⟨fun src w hsrc happ => sertrigGo_shows hk hnow harm hsrc happ, fun g r hg hle => ?_, fun T hT herr hrun => ⟨fun hdue => ?_, fun trt hdue => ?_,
    fun trt data crc cds hstat hdata => ?_⟩, fun T trt data crc cds hT hstat hdata hdel hle hcond hsamp hlife hvprop hcrc hbits => ?_, ?_⟩
  · obtain ⟨hbusy, hfree⟩ := serialTrigger_shows hk hnow harm hmode hg hle
    refine ⟨hbusy, hfree, fun hno herr hrun => ?_⟩
    obtain ⟨u, hex, hu, hregs⟩ := serialTrigger_fails hk hnow harm hmode hg hle hno herr hrun
    exact ⟨u, hex, hfails hu, hregs⟩
  · obtain ⟨u, hex, hu, hregs⟩ := bissAckTimeout_shows hk hnow hmode hT herr hrun hdue
    exact ⟨u, hex, hfails hu, hregs⟩
  · obtain ⟨u, hex, hu, hvalid, hdly, hregs, -⟩ := measured_fails (i := .bissStartTimeout t k trt) (f := fun x => x.startTimeout k trt) hk herr hrun
      (bissStartTimeout_fails hnow hmode hT hdue) rfl
    exact ⟨u, hex, hfails hu, hvalid, hdly, hregs⟩
  · intro good hcrc
    obtain ⟨u, hex, hu, -, -, hregs, h4⟩ := measured_fails (i := .serialFrameDone t k trt data 0 crc cds)
      (f := fun x => x.serialDone k trt data 0 crc cds) hk herr hrun
      ((serialDone_biss (s.advance t) hmode hT hstat hdata crc cds).trans (if_pos hcrc)) rfl
    exact ⟨u, hex, hfails hu, h4 rfl, hregs⟩
  · intro dly ts
    obtain ⟨hdid, -, ⟨l, htail⟩, hmeas⟩ := cableMeasure_shows hk (s.advance t) trt
    obtain ⟨hdly, hcm⟩ := hmeas hdel hle
    have hdone := (serialDone_biss (trt := trt) (s.advance t) hmode hT hstat hdata crc cds).trans (if_neg (not_not.mpr hcrc))
    generalize (s.advance t).cableMeasure k trt = a at *
    have hlat : a.sampleAt k T = T + dly + ns (s.rd CABLECFG.LATDLY k) := by
      rw [State.sampleAt, tailDid.rd hdid CABLECFG.LATDLY rfl hk, hdly]
      rfl
    obtain ⟨hgood, hpos, hts, hseq, hvel, hlow, hrun, hcrcerr, hbusy, hframe, hcable⟩ := frameGood_shows (s := a) (T := T) hk
      (by rw [tailDid.flyBusy hdid hk rfl]; exact hfly) (by rw [htail]; exact hsamp) (by rw [htail]; exact hcond)
      (by rw [tailDid.rd hdid SERCHK.LIFELEN rfl hk]; exact hlife) (lt_of_lt_of_le hdata (Nat.pow_le_pow_right (by decide) (by omega)))
      (data + 2 ^ 48 * 0 + 2 ^ 52 * (cds % 2)) false (bitAt cds 0)
    have hrow (F : RField) (hF : ([CABLE.WHOLE].all (fun W => decide (F.blk = W.blk ∧ F.stride = 0 ∧ W.stride = 0 ∧ F.off ≠ W.off)) &&
        (F.blk == .tail && F.stride == 0 && decide (F.off < 0x1000))) = true) : a.rd F k = s.rd F k := tailDid.rd hdid F hF hk
    have hat : a.fineAt 0 (a.sampleAt k T) = ts := by
      rw [tailDid.fineAt hdid, hlat]
      rfl
    rw [hat, hrow POSSTAT.SECTOR rfl, hrow POSSEQ.SEQ rfl] at hgood
    rw [hat] at hts
    rw [hrow POSSEQ.SEQ rfl] at hseq
    have hcd := (hcable CABLE.DLY (by simp)).trans hdly
    have hcc := (hcable CABLE.CM (by simp)).trans (hcm hvprop)
    have hex : exec (.serialFrameDone t k trt data 0 crc cds) s = .next (((s.advance t).serialDone k trt data 0 crc cds).withQueue s.pending) :=
      State.ran_ok _ _ _ (decide_eq_true hk)
    rw [hdone] at hex
    generalize a.frameGood k T data (data + 2 ^ 48 * 0 + 2 ^ 52 * (cds % 2)) false (bitAt cds 0) = u at *
    have hall : tailDid k goodRows _ (s.advance t) u := did.trans (framing_tail k) (did.mono hdid (by decide)) hgood
    obtain ⟨hev, hregs, hraised⟩ := hall.ran
    refine ⟨_, hex, hev, ?_, ?_, ?_, ?_, ?_, ?_, ?_, ?_, ?_, ?_, ?_, ?_, hraised⟩
    · rw [State.withQueue_rd64, hpos]
    · rw [State.withQueue_rd, hcd]
      rfl
    · rw [State.withQueue_rd, hcc]
      rfl
    · rw [State.withQueue_rd64, hts]
    · rw [State.withQueue_rd, hseq]
    · rw [State.vel, State.withQueue_rd64, ← State.vel, hvel]
    · rw [State.withQueue_rd, hlow]
    · rw [State.withQueue_rd, hrun]
    · rw [State.withQueue_rd, hcrcerr]
    · rw [State.withQueue_rd, hbusy]
    · rw [tailU_withQueue, hframe]
    · exact hregs
  · intro b hen hdue hrate hb hbank hport err w
    obtain ⟨u, hex, hframe, hothers, htail, hmem⟩ := tailRecordWrite_shows hk hnow hen hdue hrate hb hbank hport err
    have hlen := recordWords_length s k
    refine ⟨u, hex, hframe, hothers, htail, ?_, fun x hx => ?_⟩
    · have hbytes := Mem.sramWritten_bytes s.mem b (wordsBytes (s.recordWords k))
      rw [hlen] at hbytes
      rw [hmem, hbytes]
      simp only [wordsBytes, State.recordWords, List.map_cons, List.map_nil, List.flatMap_cons, List.flatMap_nil, List.append_nil, List.append_assoc, w]
    · rw [State.byteAt, hmem]
      exact Mem.sramWritten_byte_outside _ _ _ _ (by rw [hlen]; exact hx)

end

end Sys2Proof.Machine
end

section
/-! PROOFS. Held starts of a group (chapter 9) that some state refutes. -/
namespace Sys2Proof.Machine
open Reg

/-! ### A held start of the second channel of a pair (R242, R244)

The clause on a flying start that times out says nothing of pairs. Where the last channel of a group is the second one of a pair
and its start is held, giving the start up lets the pins of its pair go by the number of the channel after it, which is the
first one of the next group. -/

/-- Whether channel 8 still waits for the end of a cycle after a step. -/
def waitAfter : Out → Option Bool
  | .next u => some (u.ch 8).pin.clrWait
  | _ => none

/-- Tail 0 holds a start of channel 7, which is paired with channel 6; channel 8 waits for the end of a cycle. -/
def State.heldPair : State :=
  (((State.reset.wrs 0 [(TAILCTL.ARM, 1), (FSSTAT.STATE, 1), (FSCTL.FSTMO, 0), (FSTHR.THR, 0), (VELSTAT.STALE, 0), (VEL_LO.VALUE, 1)]).wr PWMCTL.PAIR 1 6).modRun 7
    (fun r => { r with start := some ⟨0, none, false, 0, true, false, none⟩ })).modPin 8 (fun p => { p with clrWait := true })

/-- Refutes O37: the end of the held start ends what channel 8, of another group, waits for. -/
theorem not_feedbackLoss : ¬ Obligations.FeedbackLoss := by
  intro h
  obtain ⟨loss, -⟩ := h
  obtain ⟨-, -, held⟩ := loss 0 0 State.heldPair (by decide) (by decide) (by decide) (by decide) (by decide) (by decide)
  obtain ⟨sync, -⟩ := held (by decide) (by decide) (by decide) (by decide +kernel)
  obtain ⟨u, hu, -, -, -, hch, -⟩ := sync (by decide) (by decide) (by decide)
  have hwait : waitAfter (exec (.flyingSyncTimeout 0 0) State.heldPair) = some true := by
    rw [hu, waitAfter, hch 8 (by decide)]
    decide
  exact absurd hwait (by decide +kernel)

end Sys2Proof.Machine
end

section
/-! PROOFS. Spools (chapter 10) that some state refutes. -/
namespace Sys2Proof.Machine
open Reg

/-! ### A late deadline while the schedule starts at the following tooth (R257, R258)

After a reversal the first forward tooth has no schedule of its own, and until the next one there is no deadline. The clause on
the late deadline does not except that tooth. -/

/-- The numerator of the interval that spool 0 predicts after a step. -/
def intervalAfter : Out → Option Nat
  | .next u => some (u.spU 0).num
  | _ => none

/-- Spool 0 is in SYNC at the first forward tooth after a reversal. -/
def State.bareSpool : State :=
  (State.reset.wr SPSTAT.STATE 3).modSp 0 (fun h => { h with bare := true, num := 1, den := 2 ^ 40 })

/-- Refutes O38: at the first forward tooth after a reversal the late deadline ends nothing. -/
theorem not_spools : ¬ Obligations.Spools := by
  intro h
  obtain ⟨teeth, -⟩ := h
  obtain ⟨-, -, -, late, -⟩ := teeth 0 0 State.bareSpool (by decide) (by decide) (by decide) (by decide)
  obtain ⟨u, hu, ⟨-, -, -, hnum, -⟩, -⟩ := late (by decide) (by decide) (by decide) (by decide)
  have hafter : intervalAfter (exec (.spoolLateDeadline 0 0) State.bareSpool) = some 0 := by rw [hu, intervalAfter, hnum]
  exact absurd hafter (by decide)

end Sys2Proof.Machine
end

section
/-! PROOFS. The host interface (chapter 11), where some state refutes the statement. -/
namespace Sys2Proof.Machine
open Reg

/-! ### A base address below its size (R270)

A write of a base address register keeps the bits below the size as they are. No step sets them, but the statement is about
every state, and in one that has them set the register does not read as the word written. -/

/-- What word 0 of BAR0 reads after a step. -/
def barAfter : Out → Option Nat
  | .next u => some ((u.cfg 0).bar 0)
  | _ => none

/-- The device has booted; bit 0 of BAR0's address is set. -/
def State.lowBar : State :=
  let s := (State.reset.wr BOOTSTAT.DONE 1).modCfg 0 (fun c => { c with bar0 := 1 })
  { s with host := { s.host with perst := false }, pw := { s.pw with gnd := false } }

/-- Refutes O40: a word of 0 written to BAR0 leaves the low bit of the address. -/
theorem not_hostInterface : ¬ Obligations.HostInterface := by
  intro h
  obtain ⟨-, -, -, -, -, -, config⟩ := h 0 0 State.lowBar (by decide) (by decide)
  obtain ⟨-, booted⟩ := config (by decide) (by decide) 0x10 (by decide)
  obtain ⟨-, -, write⟩ := booted (by decide)
  obtain ⟨u, hu, -, -, -, -, -, -, hbar⟩ := write 0 none
  have hafter : barAfter (exec (.configurationRequest 0 0 0x10 (some 0) none) State.lowBar) = some 4 := by
    rw [hu, barAfter, hbar rfl rfl rfl]
    rfl
  exact absurd hafter (by decide)

end Sys2Proof.Machine
end

section
/-! PROOFS. The queues (chapter 11), where some state refutes the statement. -/
namespace Sys2Proof.Machine
open Reg

/-! ### A write that fails with AUTH while the records buffer is full (R292, R288)

The result record of the failed write is lost where the buffer of 8,192 records is full, and the loss is counted in the
context of the result queue: a queue that the statement says keeps its context. -/

/-- What a step leaves in the count of lost records of queue 1. -/
def lostAfter : Out → Option Nat
  | .next u => some (u.qc 1).lost
  | _ => none

/-- Queue 0 is a command queue of function 1 with one command in it; its results go to queue 1, which is enabled too. -/
def State.cmdQueue : State :=
  ((((State.reset.wr FNQR.QCNT 0 0).wr FNQR.QCNT 1 1).modQc 0 (fun c =>
    { c with en := true, cached := true, kind := 2, cons := 1, resen := true, resq := 1 })).modQc 1 (fun c => { c with en := true }))

/-- A record of queue 1 that waits. -/
def waitingRec : QRec := ⟨1, .mark, [], 0, 0, none, false, false⟩

/-- The same device with as many waiting records as the buffer holds. -/
def State.cmdQueueFull : State :=
  { State.cmdQueue with qrec := List.replicate 8192 waitingRec, pw := { State.cmdQueue.pw with gnd := false } }

/-- Refutes O42: a write that fails with AUTH while the buffer of records is full costs queue 1 a record. -/
theorem not_queues : ¬ Obligations.Queues := by
  intro h
  obtain ⟨ready, -⟩ := h.2 0 0 1 0 0 1 State.cmdQueueFull (by decide) (by decide) (by decide) (by decide) (by decide)
    (by decide) (by decide) (by decide) (by decide)
  obtain ⟨-, auth, -⟩ := ready (by decide) (by decide)
  obtain ⟨u, hu, ⟨-, hothers⟩, -⟩ := auth (by decide)
  have hafter : lostAfter (exec (.cmdWrite 0 0 (GSTARTMASK.SEL.adr 0 0) 1 0) State.cmdQueueFull) = some 0 := by
    rw [hu, lostAfter, hothers 1 (by decide)]
    rfl
  exact absurd hafter (by decide +kernel)

end Sys2Proof.Machine
end
